-- ==== Sys2Proof/Word.lean ====
section
/-! DEFINITION. The word and byte types of the device (R8: every register is 32 bits wide). -/

namespace Sys2Proof

/-- A 32-bit register value (R8). -/
abbrev Word := BitVec 32

/-- One byte. -/
abbrev Byte := BitVec 8

end Sys2Proof
end

