-- ==== Sys2Proof/Syntax.lean ====
section
/-! DEFINITION. The commands the device takes: one constructor per row of spec/opcode_table.json, in its order. The
table gives no operands, so each row's operands are the model's (log entry 2): what the sender or the outside world
supplies with the event. -/

namespace Sys2Proof

/-- A Causeway master in the numbering of the violation counters (R46, R47). -/
abbrev Master := Fin 19

/-- SLAC and related management messages (R554, R557). -/
inductive SlacMsg | param | startAtten | sound | attenChar | match_ | setKey | validate
deriving DecidableEq, Repr

/-- How a transmission ends (R583, R596): sent, arbitration lost, or an error of code LEC that raises the transmit error counter
by what ISO 11898-1 gives. -/
inductive CanEnd | sent | lost | error (lec : Fin 8) (up : Fin 9)
deriving DecidableEq, Repr

/-- A received frame (R579): an 11-bit identifier stands in bits 28 to 18 of `id`. -/
structure CanFrame where
  esi : Bool
  xtd : Bool
  rtr : Bool
  id : BitVec 29
  fdf : Bool
  brs : Bool
  dlc : Fin 16
  data : List Byte
deriving DecidableEq, Repr

/-- What the wake logic of CB0 and CB1 has seen (R599, R600): the wake-up pattern, a wake-up frame (whether FD, at the chosen
rate), or its error counter above 31. -/
inductive CanWakeSign | pattern | frame (f : CanFrame) (rateOk : Bool) | errors
deriving DecidableEq, Repr

/-- What an engine's checks see: nothing, a residue mismatch (R249), an uncorrectable error in its coefficient or state RAM (R250). -/
inductive EngErr | none | residue | ram
deriving DecidableEq, Repr

/-- What a core writes of its interrupt controller (R51): priorities of sources, its enables, its threshold. -/
structure PlicSet where
  prio : List (Fin 256 × Fin 8) := []
  enable : Option (BitVec 256) := none
  threshold : Option (Fin 8) := none
deriving DecidableEq, Repr

/-- The 802.1AS event frames of a host link (R54), in ns after the start of the control period: when the received frame, being one,
arrived, and when the link has sent some since its last frame came. -/
structure EventTimes where
  rx : Option Nat := none
  tx : List Nat := []
deriving DecidableEq, Repr

/-- The outlets and piers that a fault names (R611). -/
structure FaultUnits where
  outlets : BitVec 8 := 0
  piers : BitVec 12 := 0
deriving DecidableEq, Repr

/-- What ECC has found since the last report (R25): errors corrected, and cells that it could not correct, with what they hold. -/
structure EccNote where
  fixed : Nat := 0
  bad : List Host.Cell := []
deriving DecidableEq, Repr

/-- What a wake finds (R716, R258): the content of the slot that Pylon streams, and the engines whose self-test fails. -/
structure Restream where
  slot : List Host.Cell
  selfTestFail : List (Fin 6) := []
deriving DecidableEq, Repr

/-- What may trigger an injected group (R312): an edge of pin GTRGk, the Span period event, an edge at its Truss port. -/
inductive GrdEvt | pin (k : Fin 4) (rising : Bool) | period | port
deriving DecidableEq, Repr

/-- A group of a unit, and the event. -/
structure GrdFire where
  g : Fin 4
  evt : GrdEvt
deriving DecidableEq, Repr

/-- The commands, one constructor per row. -/
inductive Instr
  /-- VIN_GOOD (R703): VIN stays above 8.5 V for 1 ms after OFF or a failure, and the device runs the power-up sequence with every domain except PD0 starting from reset. -/
  | vinGood (elapsed : Nat)
  /-- VIN_FAILURE (R702): VIN stays below 8.0 V for 2 µs; the Abutment stamps the loss instant and switches off every domain except PD0 and PD1 within 5 µs. -/
  | vinFailure
  /-- VIN_WARN (R698): VIN falls below 9.0 V without failing, and ABT_SUPPLY.VIN_WARN is set. -/
  | vinWarn
  /-- GND_LOSS (R703): Ground is lost, and the device acts as at a VIN failure, without an assured last gasp. -/
  | gndLoss
  /-- VBAT_LOSS (R701): VBAT falls below its minimum rating while PD0 runs from it, so PD0 loses its state and the next start is a cold start. -/
  | vbatLoss
  /-- DEVICE_RESET (R78): A device reset is asserted; everything except PD0 is reset and any load in progress restarts from slot choice. -/
  | deviceReset (cause : Fin 8)
  /-- PLL_LOCK (R36): The PLL reports lock; Pylon moves to 200 MHz and reads the headers of both image slots. -/
  | pllLock (slotA slotB : List Host.Cell) (mram : BitVec 16) (elapsed : Nat)
  /-- SECTION_STREAMED (R73): One section has been streamed, decompressed and hashed, and Pylon configures its block before the next section. -/
  | sectionStreamed
  /-- RAM_INIT_DONE (R801): SRAM and Keystone RAM have been written with zero and check bits, and the engines are released in order. -/
  | ramInitDone (selfTestFail : List (Fin 6)) (elapsed : Nat)
  /-- STARTUP_TESTS_DONE (R642): The Parapet start-up tests of the safe-state logic, outputs, inputs and insulation channels end, and START_OK is set or stays 0. -/
  | startupTestsDone (levels : BitVec 32) (fails : List (Fin 64 × Fin 256))
  /-- BOOT_ELEMENT_VERIFY (R753): The boot ROM on Deck core 0 copies and verifies the boot element, then jumps to ENTRY or halts with a reason. -/
  | bootElementVerify
  /-- IMAGE_COMMIT (R70): A keyed write of PYL_IMGCOMMIT.COMMIT advances the anti-rollback counters, on the first commit after reset only. -/
  | imageCommit (m : Master) (v : Word)
  /-- REGISTER_WRITE (R12): A write to a register without a row of its own acts on each field according to its access code. -/
  | registerWrite (m : Master) (addr : Word) (size : Nat) (v : BitVec 64)
  /-- RC_READ (R14): A permitted read of a register with RC fields returns them and then clears them. -/
  | rcRead (m : Master) (addr : Word)
  /-- LEGAL_REGISTER_LOW_READ (R381): A read of the low word of a legal energy register latches its high word. -/
  | legalRegisterLowRead (m : Master) (addr : Word)
  /-- SITE_TIME_READ (R39): A read of SPN_TIMELO latches the high word of site time into SPN_TIMEHI. -/
  | siteTimeRead (m : Master)
  /-- BILLING_TIME_READ (R395): A read of TOL_TIMELO latches the high word and the fraction of billing time. -/
  | billingTimeRead (m : Master)
  /-- CWY_TRANSACTION_GRANT (R42): A freed transaction slot goes to a waiting master below its quota, by rank and then round-robin. -/
  | cwyTransactionGrant (freed requests : List Master)
  /-- IRQ_CLAIM (R51): A Deck core claims an interrupt source from the platform-level interrupt controller. -/
  | irqClaim (core : Fin 4) (done : List (Fin 256)) (set : PlicSet) (other : BitVec 40)
  /-- CLOCK_MONITOR_WINDOW (R37): A 10 µs monitor window ends; two consecutive windows deviating by more than ±2 % raise a Class A fault. -/
  | clockMonitorWindow (count : Nat)
  /-- PERIOD_START (R28): A control period starts by site time, and the inputs written in the previous period are latched. -/
  | periodStart (mismatch : List (Fin 5 × Fin 1024)) (spareErr : EngErr) (mods : List (List Bool))
  /-- SAMPLE_CUTOFF (R29): The sample cut-off passes, and every up frame that is not complete is missing for the period. -/
  | sampleCutoff
  /-- UP_FRAME_RX (R134): An up frame completes at the device and is accepted as valid for the period, or is taken as missing. -/
  | upFrameRx (l : Fin 12) (bytes : List Byte) (interval : Nat)
  /-- SLOT_EVALUATION (R212): A Keystone slot starts once its predecessor has ended and its inputs are present, and evaluates its control law. -/
  | slotEvaluation (e : Fin 5) (p : Fin 1024) (err : EngErr)
  /-- DOWN_FRAME_SEND (R30): The link's down frame leaves 0.2 µs after the last slot feeding the link has ended. -/
  | downFrameSend (l : Fin 12)
  /-- SEND_LIMIT (R231): The send limit passes before the slots have ended; the frame is sent from previous outputs and OVERRUN is raised. -/
  | sendLimit (l : Fin 12)
  /-- PHASE_CONTROL_EVALUATION (R178): After all slots of a pier have ended, phase control evaluates removals, load step, admission, shed and rotation. -/
  | phaseControlEvaluation (n : Fin 12)
  /-- OPEN_PHASE_DETECT (R196): The open-phase test holds for OPEN_DWELL consecutive periods. -/
  | openPhaseDetect (n : Fin 12) (p : Fin 32)
  /-- STUCK_SENSE_DETECT (R196): A phase current code stays identical for STUCK_DWELL periods while the pier current changes. -/
  | stuckSenseDetect (n : Fin 12) (p : Fin 32)
  /-- HOLDOFF_END (R194): The hold-off counter reaches zero and shedding may resume. -/
  | holdoffEnd (n : Fin 12)
  /-- DWELL_END (R184): The post-shed dwell counter reaches zero. -/
  | dwellEnd (n : Fin 12)
  /-- ROTATION_INTERVAL_EXPIRY (R190): The rotation interval expires, and the rotation waits for any ramp or glide to end. -/
  | rotationIntervalExpiry (n : Fin 12)
  /-- TEMP_REPORT_TIMEOUT (R200): A phase has sent no temperature for 64 periods and is treated as at TEMP_MAX. -/
  | tempReportTimeout (n : Fin 12) (p : Fin 32)
  /-- TELEMETRY_WINDOW_END (R205): A telemetry window of 2^AVG_EXP periods ends; the averages update and TLMSEQ increments. -/
  | telemetryWindowEnd (n : Fin 12)
  /-- SHED_DISABLE (R187): Firmware writes SHED_EN 0, and phase control acts as on a load step without a hold-off. -/
  | shedDisable (m : Master) (n : Fin 12) (v : Word)
  /-- PHS_SHED_WRITE (R188): A write to PHS_PIERn_SHED is ignored as a whole if ADMIT_FRAC would not exceed SHED_FRAC or N_MIN would be 0. -/
  | phsShedWrite (m : Master) (n : Fin 12) (v : Word)
  /-- PHASE_FAULT_CLEAR (R198): Firmware clears a FAULT bit; the phase stays OFF for one more period and then enters OUT. -/
  | phaseFaultClear (m : Master) (n : Fin 12) (v : Word)
  /-- AVG_EXP_WRITE (R208): A write to AVG_EXP discards the windows in progress, and new windows start in the next period. -/
  | avgExpWrite (m : Master) (v : Word)
  /-- SPAN_RESUME_WRITE (R120): A write of RESUME sets RESUME in the next down frame, or is discarded while LOWER is sent. -/
  | spanResumeWrite (m : Master) (n : Fin 12) (v : Word)
  /-- SPAN_LOOP_PRBS_WRITE (R809): A write of LOOP or PRBS loops the link or sends PRBS-31 in place of frames. -/
  | spanLoopPrbsWrite (m : Master) (n : Fin 12) (v : Word)
  /-- MGMT_REQUEST_GO (R163): Firmware sets GO to send a management request in the next down frame, unless it is ignored. -/
  | mgmtRequestGo (m : Master) (n : Fin 12) (v : Word)
  /-- BRINGUP_RETRY (R159): Once a second while fault 0x26 is latched, the pier register writes and read-backs are repeated. -/
  | bringupRetry (n : Fin 12)
  /-- DUAL_LINK_LOSS (R155): One link of a dual-homed pier delivers no valid up frame for 16 periods, and a Class C fault is raised. -/
  | dualLinkLoss (l : Fin 12)
  /-- PIER_DOWN_FRAME_ACCEPT (R133): The pier node receives a down frame and accepts it as valid or discards it as bad. -/
  | pierDownFrameAccept (n : Fin 12) (standby : Bool) (bytes : List Byte) (clock : Nat)
  /-- PIER_MISSING_FRAME (R135): No valid down frame has arrived by the period end; the pier counts it and applies HOLD. -/
  | pierMissingFrame (n : Fin 12)
  /-- PIER_BROADCAST_RX (R145): Two error-free receipts of the lower ordered set make the pier node lower at once. -/
  | pierBroadcastRx (n : Fin 12)
  /-- PIER_LOWER_DONE (R143): Every phase current falls below LOWER_DONE, the gates turn off and LOWERED is set. -/
  | pierLowerDone (n : Fin 12)
  /-- PIER_LOCAL_TRIP (R148): A local desaturation or overcurrent trip turns the phase OFF at once and sets TRIP. -/
  | pierLocalTrip (n : Fin 12) (p : Fin 32)
  /-- TWIN_FRAME_RX (R160): A twin-link frame arrives, carrying delay information and the Arch payload. -/
  | twinFrameRx (t : Fin 2) (bytes : List Byte) (timer : Nat)
  /-- ARCH_PERIOD_START (R263): An Arch period starts; the Arch takes its inputs and computes the ledger, ceilings and shares. -/
  | archPeriodStart
  /-- CEILING_REFRESH_TIMEOUT (R33): The Arch or the Stay has not refreshed a ceiling for three periods, and a Class B fault is raised. -/
  | ceilingRefreshTimeout (m : Fin 8) (stay : Bool)
  /-- ARC_COMMIT_GO (R298): A write of ARC_COMMIT.GO requests a copy of the shadow at the next boundary. -/
  | arcCommitGo (m : Master) (v : Word)
  /-- ARC_MOVE_GO (R281): An expert ARC_MOVE request starts a hand-off or release, or is dropped with HO_FAIL. -/
  | arcMoveGo (m : Master) (v : Word)
  /-- CONTEST_BIT_WRITE (R290): A write of 1 to a contest bit returns a SAFE unit once its declared and measured states agree. -/
  | contestBitWrite (m : Master) (kind : Fin 4) (v : Word)
  /-- ZERO_CURRENT_OPEN (R276): The pier current stays below I_ZERO for 10 control periods, and the crosspoint is commanded open. -/
  | zeroCurrentOpen (c : Fin 24)
  /-- AUX_CONTACT_FILTERED (R275): An auxiliary contact changes and settles over AUX_FILT, and the hand-off step advances. -/
  | auxContactFiltered (k : Fin 64) (closed : Bool)
  /-- AUX_CONTACT_TIMEOUT (R275): The contact disagrees with the command past 2 × OPERATE_MS + AUX_FILT, and the crosspoint enters FAULT. -/
  | auxContactTimeout (k : Fin 64)
  /-- WELD_CHECK_END (R652): A crosspoint weld check ends as passed or welded. -/
  | weldCheckEnd (c : Fin 24) (rise : Int)
  /-- MATCHED (R284): Matching has held for 10 control periods, and the close command is given. -/
  | matched (c : Fin 24)
  /-- MATCH_TIMEOUT (R285): Matching does not end within MATCH_TIMEOUT; the pier enters FREE with a Class C fault. -/
  | matchTimeout (c : Fin 24)
  /-- CONTEST_DETECT (R287): A contest test holds for 10 control periods, and the unit becomes contested. -/
  | contestDetect (kind : Fin 3) (k : Fin 64)
  /-- CONTEST_RELEASE (R289): The contest test fails for 10 Arch periods, and the unit returns to its declared state. -/
  | contestRelease (kind : Fin 3) (k : Fin 64)
  /-- CONTEST_TIMEOUT (R290): A unit still contested after CONTEST_MS is forced to SAFE with a Class B fault. -/
  | contestTimeout (kind : Fin 3) (k : Fin 64)
  /-- GRD_CONTINUOUS_ROUND (R310): A continuous round of entries 0 to LEN−1 starts after PACE. -/
  | grdContinuousRound (u : Fin 2)
  /-- GRD_TRIGGER (R312): An injected group is triggered by a pin, the Span period event or a Truss port. -/
  | grdTrigger (u : Fin 2) (x : GrdFire)
  /-- GRD_GROUP_START (R316): A pending group starts in ascending order after the group ahead of it. -/
  | grdGroupStart (u : Fin 2)
  /-- GRD_CONVERSION_RESULT (R303): A corrected conversion result is written to its result register and Truss port. -/
  | grdConversionResult (u : Fin 2) (inj : Bool) (raw : List (BitVec 12))
  /-- CAPTURE_DONE (R325): The capture samples after the trigger are written; DONE is set and CAPPTR is loaded. -/
  | captureDone (u : Fin 2)
  /-- GRD_CAPTURE_ARM (R325): A write of ARM starts the ring capture of an entry. -/
  | grdCaptureArm (m : Master) (u : Fin 2) (v : Word)
  /-- GRD_CAL_GO (R327): A write of CAL.GO requests foreground calibration, or is refused. -/
  | grdCalGo (m : Master) (u : Fin 2) (v : Word)
  /-- GRD_CAL_START (R327): After pending conversions drain, the unit disconnects its inputs and calibrates while the other unit covers. -/
  | grdCalStart (u : Fin 2)
  /-- GRD_CAL_DONE (R331): Calibration ends after 40,960 cycles, with new or kept coefficients and DONE set. -/
  | grdCalDone (u : Fin 2) (cor : List (Int × Int))
  /-- GRD_PAIR_WRITE (R309): A write that sets PAIR enters paired mode, or is ignored under the stated conditions. -/
  | grdPairWrite (m : Master) (u : Fin 2) (v : Word)
  /-- GRD_BGC_UPDATE (R306): After 65,536 conversions, the background correction updates the slice coefficients. -/
  | grdBgcUpdate (u : Fin 2) (cor : List (Int × Int × Int))
  /-- MODULATOR_STREAM_STUCK (R346): A modulator stream shows no transition for 128 clocks, and FAULT is set. -/
  | modulatorStreamStuck (j : Fin 8)
  /-- CAISSON_RESULT (R337): A Caisson channel writes its result at its OSR instant, with flags. -/
  | caissonResult (c : Fin 40) (rise fall : List Bool) (mismatch again : Bool)
  /-- CAISSON_VALID_START (R340): A channel reports valid results once 13.5 × OSR cycles have passed since enabling. -/
  | caissonValidStart (c : Fin 40)
  /-- AC_WINDOW_END (R371): An AC window of N_W cycles ends; quantities are formed and energies added by quadrant. -/
  | acWindowEnd (g : Fin 4) (resid : Fin 3)
  /-- MEAS_INTERVAL_END (R362): A 100 ms interval ends, and the DC means are updated together. -/
  | measIntervalEnd
  /-- CROSS_CHECK_WINDOW (R377): Every 10 ms, the metered current is compared with the control feedback. -/
  | crossCheckWindow
  /-- TEMP_ESTIMATE_TIMEOUT (R364): A conductor estimate is not refreshed for 30 ms, and THETA_MAX is substituted. -/
  | tempEstimateTimeout (p : Fin 8)
  /-- METER_SNAPSHOT_GO (R383): A write of TOL_MSNAP.GO requests a snapshot, or joins a pending one. -/
  | meterSnapshotGo (m : Master) (v : Word)
  /-- SNAPSHOT_COPY (R383): Between two accumulation updates, every view and wrap counter is copied; SEQ increments and DONE is set. -/
  | snapshotCopy
  /-- MCAL_GO (R388): A write of TOL_MCAL.GO requests a calibration window. -/
  | mcalGo (m : Master) (v : Word)
  /-- MCAL_WINDOW_START (R388): The calibration window opens at the next multiple of 2,048 CLK_MOD cycles. -/
  | mcalWindowStart
  /-- MCAL_WINDOW_END (R388): After LEN seconds, the means or rms values are written to CSN_CHc_CAL and DONE is set. -/
  | mcalWindowEnd
  /-- TIME_CORRECTION_GO (R402): A write of TOL_TSETC.GO classifies the correction as an adjustment, a setting or a refusal. -/
  | timeCorrectionGo (m : Master) (v : Word)
  /-- SLEW_COMPLETE (R403): A slewed adjustment completes. -/
  | slewComplete
  /-- BILLING_STATE_CHANGE (R399): EB crosses a threshold, and the billing time state changes with immediate tariff effect. -/
  | billingStateChange
  /-- BOUNDARY (R426): Billing time reaches a boundary, and the demand close, tariff switch, activation and marker run in order. -/
  | boundary
  /-- HWM_PASSED (R432): Billing time passes HWM after a backward setting, and boundary processing resumes. -/
  | hwmPassed
  /-- CALENDAR_LOAD (R411): A keyed write of LOAD starts the check of the calendar in TOL_CALBUFw. -/
  | calendarLoad (m : Master) (v : Word)
  /-- CALENDAR_CHECK_DONE (R409): The calendar check ends; the calendar is stored as pending with DONE, or refused with a reason. -/
  | calendarCheckDone
  /-- CALENDAR_CANCEL (R412): A keyed write of CANCEL discards the pending calendar. -/
  | calendarCancel (m : Master) (v : Word)
  /-- SESSION_START (R423): A write of START opens a session on an enabled point, or sets REFUSED. -/
  | sessionStart (m : Master) (p : Fin 8) (v : Word)
  /-- SESSION_STOP (R423): A write of STOP requests the close of the open session. -/
  | sessionStop (m : Master) (p : Fin 8) (v : Word)
  /-- SESSION_CLOSE (R423): At the next result instant, the session closes and its end record is formed. -/
  | sessionClose (p : Fin 8)
  /-- SESSION_RECORD_REQUEST (R423): A write of RECORD requests an intermediate Toll record. -/
  | sessionRecordRequest (m : Master) (p : Fin 8) (v : Word)
  /-- INTERMEDIATE_RECORD_TIMER (R464): REC_S expires for an open session, and an intermediate record is due. -/
  | intermediateRecordTimer (p : Fin 8)
  /-- RECORD_SIGNED (R465): Pylon completes the signature of a Toll record. -/
  | recordSigned
  /-- RECORD_BUFFER_ENTRY (R466): A signed record enters the record buffer when a place is free, or an intermediate record is skipped. -/
  | recordBufferEntry
  /-- RECORD_ACK (R466): A write of TOL_RECCTL.ACK frees the oldest record and may set END_ACK. -/
  | recordAck (m : Master) (v : Word)
  /-- PERIODIC_SAVE (R447): A periodic save is due every SAVE_S seconds of billing time. -/
  | periodicSave
  /-- SAVE_REQUEST (R447): A write of TOL_SAVE.GO requests an extra save, unless a recent one exists. -/
  | saveRequest (m : Master) (v : Word)
  /-- SAVE_COMPLETE (R448): A save record is written with COMMIT and becomes the latest save. -/
  | saveComplete
  /-- LAST_GASP_END (R702): The last gasp ends, the Toll core halts and PD1 switches off, so the device is in OFF. -/
  | lastGaspEnd (energies marker : Bool)
  /-- ARCHIVE_GO (R461): A keyed write of TOL_ARCCTL.GO starts the check of an archive authorisation. -/
  | archiveGo (m : Master) (v : Word)
  /-- ARCHIVE_CHECK_DONE (R462): The authorisation is accepted, and the unerasable class is archived and emptied, or it is refused with a reason. -/
  | archiveCheckDone
  /-- DISPLAY_SHOW (R471): The Tollhouse sends SHOW to a head at an item change or every 1 s. -/
  | displayShow (n : Fin 8)
  /-- DISPLAY_POLL (R471): The Tollhouse sends POLL to a head every POLL_MS. -/
  | displayPoll (n : Fin 8)
  /-- HEAD_STATUS_RX (R470): A head's STATUS frame is received with its press count and status. -/
  | headStatusRx (bytes : List Byte)
  /-- HEAD_STATUS_TIMEOUT (R795): No STATUS arrives in time; after three misses the head is lost and logged. -/
  | headStatusTimeout (n : Fin 8)
  /-- DISPLAY_DWELL_EXPIRY (R474): An item's DWELL or the button TIMEOUT expires, and the sequence moves on. -/
  | displayDwellExpiry (n : Fin 8)
  /-- STAY_PERIOD (R478): A Stay period runs the inputs, model, limbs, ceiling, estimate and actuators of each block. -/
  | stayPeriod
  /-- STAY_BLOCK_EN_WRITE (R488): A write of STY_CBLm_CTRL.EN stops a block, or restarts it at the next Stay period. -/
  | stayBlockEnWrite (m : Master) (b : Fin 8) (v : Word)
  /-- STAY_FW_INPUT_WRITE (R482): A write of STY_CBLm_FWj sets a firmware input and restarts its freshness timer. -/
  | stayFwInputWrite (m : Master) (b : Fin 8) (j : Fin 8) (v : Word)
  /-- FW_INPUT_STALE (R496): A firmware input is not written within FRESH_MS and becomes invalid. -/
  | fwInputStale (b : Fin 8) (j : Fin 8)
  /-- STAY_LIM_WRITE (R494): A write to STY_CBLm_LIM sets the limits, clamped to the image values. -/
  | stayLimWrite (m : Master) (b : Fin 8) (v : Word)
  /-- PUMP_IMPLAUSIBLE (R500): The pump current stays outside its band for PLAUS_TIME, so the flow is taken as 0 with a Class C fault. -/
  | pumpImplausible (b : Fin 8)
  /-- FLOW_RESTORED (R500): The pump has been plausible for PLAUS_TIME, and the flow is taken as measured again. -/
  | flowRestored (b : Fin 8)
  /-- RUN_ON_EXPIRY (R499): RUN_ON ends, and the pump, fan and valve return to their idle commands. -/
  | runOnExpiry (b : Fin 8)
  /-- PILOT_STATE_CHANGE (R517): A new pilot state holds for 3 ms and STATE changes. -/
  | pilotStateChange (n : Fin 8)
  /-- CONNECTED_CHANGE (R519): The connection condition holds or fails for 20 ms, and CONNECTED changes. -/
  | connectedChange (n : Fin 8)
  /-- PREMOTE_WRITE (R542): Firmware writes the remote pilot state and restarts the 100 ms freshness. -/
  | premoteWrite (m : Master) (n : Fin 8) (v : Word)
  /-- PREMOTE_STALE (R542): No remote pilot write arrives within 100 ms, and the link is not CONNECTED. -/
  | premoteStale (n : Fin 8)
  /-- OUTLET_EN_WRITE (R520): A write of KST_OUTm_CTRL.EN enables the outlet, or is ignored when not CONNECTED, in safe state or latched. -/
  | outletEnWrite (m : Master) (o : Fin 8) (v : Word)
  /-- CHARGE_LOOP_KICK (R526): A write of VLK_Ln_WDOG.KICK starts or restarts the charge-loop watchdog. -/
  | chargeLoopKick (m : Master) (n : Fin 8) (v : Word)
  /-- CHARGE_LOOP_WATCHDOG_EXPIRY (R526): TIMEOUT passes without a kick; the outlet is lowered with a Class B fault. -/
  | chargeLoopWatchdogExpiry (n : Fin 8)
  /-- INLET_OVERCURRENT (R533): The inlet current exceeds EMAXI by 5 % for 1 s; a Class B fault is raised and OVERI is set. -/
  | inletOvercurrent (n : Fin 8)
  /-- V2GTP_RX (R509): A received V2GTP payload is written to a receive descriptor, or dropped with RX_OVF. -/
  | v2gtpRx (n : Fin 8) (ptype : BitVec 16) (payload : List Byte)
  /-- V2GTP_TX (R509): A transmit descriptor handed through VLK_Ln_DOOR is sent and returned. -/
  | v2gtpTx (n : Fin 8)
  /-- TLS_HANDSHAKE_DONE (R514): A TLS 1.3 handshake on a vehicle link completes or fails. -/
  | tlsHandshakeDone (n : Fin 8) (ok cert : Bool)
  /-- FMX_HELLO (R536): The SECC sends HELLO within 10 ms of the end of the TLS handshake. -/
  | fmxHello (n : Fin 8)
  /-- FMX_HELLO_ACK (R536): An FM9632 EVCC answers HELLO with HELLO_ACK, and PEER_FM is set. -/
  | fmxHelloAck (n : Fin 8) (body : List Byte)
  /-- FMX_HELLO_TIMEOUT (R536): No HELLO_ACK arrives within 500 ms, and the peer is taken as foreign. -/
  | fmxHelloTimeout (n : Fin 8)
  /-- COUNT_REQ (R537): The EVCC receives COUNT_REQ and answers with its point registers. -/
  | countReq (n : Fin 8) (body : List Byte)
  /-- COUNT_RES (R538): The SECC receives COUNT_RES, and the Tollhouse forms its record. -/
  | countRes (n : Fin 8) (body : List Byte)
  /-- COUNT_RES_TIMEOUT (R538): No COUNT_RES arrives within 500 ms, and the record is formed with NO_REPLY. -/
  | countResTimeout (n : Fin 8)
  /-- BEACON_PERIOD_START (R551): An SECC coordinator starts a beacon period, locked to mains crossings or free-running. -/
  | beaconPeriodStart (n : Fin 8) (us : Nat) (phase : Int)
  /-- BEACON_RX (R553): An EVCC station receives the far coordinator's beacon. -/
  | beaconRx (n : Fin 8) (us : Nat)
  /-- BEACONS_MISSED (R553): Ten consecutive beacons are missed; LINK falls and SLAC restarts. -/
  | beaconsMissed (n : Fin 8)
  /-- SLAC_START (R555): SLAC starts when the link becomes CONNECTED with the required conditions. -/
  | slacStart (n : Fin 8)
  /-- SLAC_MATCH (R558): CM_SET_KEY completes, the station joins the new network and LINK rises. -/
  | slacMatch (n : Fin 8) (attens : List (List Nat))
  /-- SLAC_RETRY (R556): After a failed run, the EVCC retries after 1 s, or every 10 s after three failures. -/
  | slacRetry (n : Fin 8)
  /-- HPGP_FRAME_ATTEMPT (R561): A unicast frame attempt is sent on a rung of the ladder, or the frame is dropped past RETRY_AGE. -/
  | hpgpFrameAttempt (n : Fin 8) (late : Bool)
  /-- HPGP_ACK (R563): A selective acknowledgement is received, and the start rung is updated. -/
  | hpgpAck (n : Fin 8)
  /-- HPGP_FRAME_RX (R560): An HPGP frame is received, with cutwater erasures applied before decoding. -/
  | hpgpFrameRx (n : Fin 8) (code : Fin 4) (symbols : List (List Nat)) (decoded : Bool) (msg : Option SlacMsg)
  /-- XROBO_REQ (R565): The SECC sends VS_XROBO.REQ 10 ms after the link rises. -/
  | xroboReq (n : Fin 8)
  /-- XROBO_CNF (R565): A CNF with the six-copy bit arrives, and XROBO joins both ladders. -/
  | xroboCnf (n : Fin 8) (six : Bool)
  /-- XROBO_TIMEOUT (R565): No CNF arrives within 100 ms, and XROBO stays out. -/
  | xroboTimeout (n : Fin 8)
  /-- PLCA_BEACON_TIMER (R569): The PLCA beacon timer reaches 4,000 bit times, and PLCA status falls to CSMA/CD. -/
  | plcaBeaconTimer (n : Fin 8)
  /-- T1S_FRAME_RX (R570): A 10BASE-T1S frame is received, or discarded for a bad FCS. -/
  | t1sFrameRx (n : Fin 8) (fcsOk beaconMissed : Bool)
  /-- CAN_ENABLE (R578): A write of CTRL.EN enables or disables the controller. -/
  | canEnable (m : Master) (n : Fin 4) (v : Word)
  /-- CAN_JOIN (R578): After 11 recessive bits, the controller joins the bus. -/
  | canJoin (n : Fin 4)
  /-- CAN_TX_REQUEST (R580): A write to TXREQ requests transmit buffers. -/
  | canTxRequest (m : Master) (n : Fin 4) (v : Word)
  /-- CAN_TX_CANCEL (R582): A write to TXCAN withdraws a buffer. -/
  | canTxCancel (m : Master) (n : Fin 4) (v : Word)
  /-- CAN_FRAME_TX_END (R583): A transmission succeeds, loses arbitration or meets an error. -/
  | canFrameTxEnd (n : Fin 4) (res : CanEnd) (sof : BitVec 64) (guard : Bool)
  /-- CAN_FRAME_RX (R585): A received frame passes the filters and enters the FIFO, or is rejected or lost. -/
  | canFrameRx (n : Fin 4) (frame : Option CanFrame) (sof : BitVec 64) (lec : Fin 8) (up : Fin 9)
  /-- CAN_RX_ACK (R586): A write of RXACK frees the oldest FIFO element. -/
  | canRxAck (m : Master) (n : Fin 4) (v : Word)
  /-- CAN_DMA_COPY (R587): The CAN DMA copies the oldest FIFO element to the DRAM ring when room exists. -/
  | canDmaCopy (n : Fin 4)
  /-- CAN_CYCLE_START (R588): A time-triggered basic cycle starts. -/
  | canCycleStart (n : Fin 4)
  /-- CAN_REFERENCE_RX (R592): A reference message is received and cycle timing is set. -/
  | canReferenceRx (n : Fin 4) (count : Fin 16)
  /-- CAN_REFERENCE_MISSED (R592): A slave misses four references, SYNCED falls and the cells stop. -/
  | canReferenceMissed (n : Fin 4)
  /-- CAN_RECOVER (R597): A write of RECOVER starts the bus-off recovery count. -/
  | canRecover (m : Master) (n : Fin 4) (v : Word)
  /-- CAN_BUS_OFF_RECOVERED (R597): After 128 occurrences of 11 recessive bits, the controller returns to error active. -/
  | canBusOffRecovered (n : Fin 4)
  /-- CAN_WAKE (R599): The wake logic detects a wake-up pattern, a matching frame or too many frame errors, and wakes the device. -/
  | canWake (n : Fin 2) (sign : CanWakeSign) (elapsed : Nat)
  /-- HOST_FRAME_RX (R54): A host-link frame is received, timestamped and queued, or dropped with RX_OVF. -/
  | hostFrameRx (n : Fin 2) (prio : Fin 8) (len : Nat) (room : Bool) (evt : EventTimes) (gm : Option Int)
  /-- HOST_SYNC_LOST (R57): A host link loses code-group sync and SYNC_LOST is set. -/
  | hostSyncLost (n : Fin 2)
  /-- SAFE_STATE_ASSERT (R606): The safe state is asserted; the lower broadcast is sent, LOWER is held and OUT_DELAY starts. -/
  | safeStateAssert
  /-- OUT_DELAY_EXPIRY (R606): OUT_DELAY ends; safety outputs turn off, piers are disarmed and outlets are disabled. -/
  | outDelayExpiry
  /-- LOCKSTEP_MISMATCH (R604): The two cores of a Parapet pair differ, and the safe state is asserted. -/
  | lockstepMismatch (pair : Fin 2)
  /-- HEARTBEAT_LOSS (R605): A pair fails to write its heartbeat for 2 ms, and the safe state is asserted. -/
  | heartbeatLoss (pair : Fin 2)
  /-- TRUSS_TRIP_PORT (R605): A Truss trip port goes to 1 and reports its fault class. -/
  | trussTripPort (k : Fin 16) (level : Bool)
  /-- FAULT_REPORT (R609): A fault with a class reaches the fault manager and is handled, queued or merged. -/
  | faultReport (code : Fin 64) (cls : Fin 4) (src : Fin 256) (units : FaultUnits) (ecc : EccNote)
  /-- FAULT_HANDLING_END (R614): The handling of a fault ends, and the next queued or suspended fault is handled. -/
  | faultHandlingEnd
  /-- DOUBLE_FAULT (R616): A double fault holds both pairs in reset and keeps the safe state without program. -/
  | doubleFault
  /-- DOUBLE_FAULT_RESET (R616): 10 ms after the outputs read off, a warm reset with CAUSE 4 is asserted. -/
  | doubleFaultReset
  /-- TEST_PULSE (R619): A test-pulse output goes low for TP_W once in TP_PER. -/
  | testPulse (k : Fin 8)
  /-- TEST_PULSE_END (R620): The low time ends, and a channel that did not read 0 fails its test pulse. -/
  | testPulseEnd (k : Fin 8) (failA failB : BitVec 16)
  /-- SAFETY_INPUT_CHANNEL (R622): A safety input channel opens or closes past its filter, and the input's demand state changes. -/
  | safetyInputChannel (n : Fin 16) (b : Bool) (level : Bool)
  /-- DISCREPANCY_TIMEOUT (R623): The other channel does not follow within DISC_MS, and the input has a discrepancy fault. -/
  | discrepancyTimeout (n : Fin 16)
  /-- SOFTWARE_STOP (R628): A keyed write of PRP_SWSTOP asserts the safe state as code 0x10. -/
  | softwareStop (m : Master) (v : Word)
  /-- SAFETY_OUTPUT_REQUEST (R629): A write of PRP_PSO requests outputs on, as their kinds permit. -/
  | safetyOutputRequest (m : Master) (v : Word)
  /-- OUTPUT_READBACK_FAULT (R630): Output readback disagrees or the current limit trips, giving code 0x05 or 0x06. -/
  | outputReadbackFault (k : Fin 12) (high : Bool)
  /-- OFF_PULSE (R631): Once a second, an output that is on is pulsed off for OP_W and checked. -/
  | offPulse (k : Fin 12) (fell : Bool)
  /-- PRST_PRESS (R636): An accepted reset-button release clears the Class A latch and the cleared Class B faults, or is rejected. -/
  | prstPress (ms : Nat)
  /-- PRST_STUCK (R635): The reset button is held for 5 s; code 0x30 is recorded and PRST_STUCK is set. -/
  | prstStuck
  /-- FAULT_CLEAR_KEY (R664): A write of PRP_FCLRK provides the low part of the fault-clear key. -/
  | faultClearKey (m : Master) (v : Word)
  /-- FAULT_CLEAR (R638): A keyed write of PRP_FCLR clears the named Class B faults whose causes have gone. -/
  | faultClear (m : Master) (v : Word)
  /-- ARM_PIERS (R639): A keyed ARMREQ with OP 1 arms each named pier that meets the conditions. -/
  | armPiers (m : Master) (v : Word)
  /-- DISARM_PIERS (R639): A keyed ARMREQ with OP 2 disarms the named piers after they report LOWERED. -/
  | disarmPiers (m : Master) (v : Word)
  /-- CLASS_B_LOWERING_DONE (R641): A Class B lowering completes, and the outlet is disabled and its outputs turn off. -/
  | classBLoweringDone (o : Fin 8)
  /-- B_OFF_EXPIRY (R609): B_OFF_MS passes, and the safety outputs of the affected unit turn off. -/
  | bOffExpiry (o : Fin 8)
  /-- IMC_HALF_END (R646): An insulation half ends, the sense voltage is taken and R_iso is computed. -/
  | imcHalfEnd (n : Fin 4) (sense : Int) (settled foreign : Bool)
  /-- CONTACTOR_CHECK_END (R653): WELD_MS passes, and the check is judged passed, inconclusive or welded. -/
  | contactorCheckEnd (k : Fin 16) (diff : Nat) (dead : Bool)
  /-- TRESTLE_COMMAND (R669): A write of TRS_CHn_CTRL sets the command of a firmware-owned channel. -/
  | trestleCommand (m : Master) (n : Fin 16) (v : Word)
  /-- PWM_PERIOD_START (R672): A PWM period starts and applies the duty in force. -/
  | pwmPeriodStart (n : Fin 16)
  /-- CURRENT_LIMIT_EXPIRY (R674): The current limit acts for ILIM_US, and the channel turns off as an overload. -/
  | currentLimitExpiry (n : Fin 16)
  /-- BURST_RESTART (R675): BURST_GAP_MS ends and the channel turns on again as one restart. -/
  | burstRestart (n : Fin 16)
  /-- BURST_END (R676): The channel is on for 100 ms without limit, and the burst count returns to 0. -/
  | burstEnd (n : Fin 16)
  /-- THERMAL_SHUTDOWN (R677): The channel junction reaches the shutdown temperature and the channel turns off. -/
  | thermalShutdown (n : Fin 16)
  /-- THERMAL_RESTART (R677): The junction falls below the restart temperature, and the channel turns on again. -/
  | thermalRestart (n : Fin 16)
  /-- TRESTLE_FAULT_CLEAR (R680): A write of 1 to a FAULT bit clears it and leaves LATCHED. -/
  | trestleFaultClear (m : Master) (n : Fin 16) (v : Word)
  /-- DIAGNOSIS_SAMPLE (R682): The diagnosis converter samples a channel's mirror, and ION and IMEAS update. -/
  | diagnosisSample (n : Fin 16) (ua : Nat) (limiting ms : Bool)
  /-- OPEN_LOAD (R684): ION stays below OL_THRESH for OL_MS, and FAULT.OPEN is set. -/
  | openLoad (n : Fin 16)
  /-- OFF_STATE_TEST (R685): The output stays above 4 V under the test current for 10 ms, and OFF_HIGH is set. -/
  | offStateTest (n : Fin 16)
  /-- KEEP_ALIVE_EXPIRY (R690): KA_HOLD_S passes during a hold, and the channel turns off with KA_EXP. -/
  | keepAliveExpiry (n : Fin 16)
  /-- SNS_SELECT (R686): The SEL pins change, and SNS sources the mirror of the selected channel. -/
  | snsSelect (sel : Fin 16)
  /-- LOAD_DUMP (R688): VIN rises between 60 V and 80 V, and state is held with DUMP set. -/
  | loadDump (above : Bool)
  /-- STATE_REQUEST (R711): A keyed ABT_PSREQ write requests STANDBY, PARK or RUN, and is accepted, pended or refused. -/
  | stateRequest (m : Master) (v : Word)
  /-- ENTRY_CHECKPOINT (R712): An entry step reaches its checkpoint, and the next step of the entry runs. -/
  | entryCheckpoint (pins : BitVec 8)
  /-- WAKE_EVENT (R716): An enabled wake source fires; the domains power up and Pylon starts re-streaming. -/
  | wakeEvent (src : BitVec 24) (elapsed : Nat)
  /-- WAKE_RESTREAM_DONE (R716): The re-streamed sections are sealed, the registers of R708 are restored and the engines are released. -/
  | wakeRestreamDone (got : Restream)
  /-- DOZE_ENTRY (R706): Every Deck core is in WFI with DOZE_EN 1, and CLK_CORE is gated. -/
  | dozeEntry
  /-- DOZE_EXIT (R706): An interrupt routed to a Deck core ends DOZE. -/
  | dozeExit
  /-- PAD_RELEASE (R714): A write of 1 to an ABT_PADHOLD bit releases the held pads of a domain. -/
  | padRelease (m : Master) (v : Word)
  /-- RTC_CRYSTAL_STOP (R719): The crystal shows no edge for 4 ms, and the RTC continues from the RC. -/
  | rtcCrystalStop (elapsed : Nat)
  /-- RTC_CRYSTAL_RETURN (R719): The crystal has run stably for 1 s, and the RTC returns to it. -/
  | rtcCrystalReturn (elapsed : Nat)
  /-- RC_CALIBRATION (R720): Every 10 s, the RC is calibrated against the crystal, and the crystal is checked against XIN. -/
  | rcCalibration (dev : Int)
  /-- RTC_ALARM (R716): Billing time reaches ABT_ALARM; ALARM is set and the device may wake. -/
  | rtcAlarm (elapsed : Nat)
  /-- TIME_RECORD_COPY (R722): Once a second, EB and DRIFT are copied to the time record. -/
  | timeRecordCopy
  /-- WATCHDOG_ENABLE (R724): A write of ABT_WDOG.EN starts the watchdog until the next reset. -/
  | watchdogEnable (m : Master) (v : Word)
  /-- WATCHDOG_KICK (R724): A keyed write of ABT_WDKICK restarts the watchdog count. -/
  | watchdogKick (m : Master) (v : Word)
  /-- WATCHDOG_HALF (R724): Half the watchdog timeout passes, and source 13 is raised. -/
  | watchdogHalf
  /-- WATCHDOG_EXPIRY (R724): TIMEOUT passes without a kick, and a warm reset follows. -/
  | watchdogExpiry
  /-- FIRMWARE_RESET (R723): A keyed write of ABT_RESET.GO asserts a warm reset with CAUSE 2. -/
  | firmwareReset (m : Master) (v : Word)
  /-- HOUSEKEEPING_ROUND (R728): Every 8 ms, the temperature sensors and rails are read and the levels evaluated. -/
  | housekeepingRound (counts : List (BitVec 16)) (temps : List Int) (rails : List (BitVec 16))
  /-- GRACE_EXPIRY (R732): The grace ends with the request still in force, and the throttle is enforced. -/
  | graceExpiry
  /-- THROTTLE_NOW (R733): A write of HKP_THRCTL.NOW enforces the throttle at the end of the round. -/
  | throttleNow (m : Master) (v : Word)
  /-- TRUSS_READBACK_CHECK (R658): Every 10 s, the Truss configuration is read back against the section hash. -/
  | trussReadbackCheck (equal : Bool)
  /-- RANDOM_BYTES (R758): Command 0x01 outputs random bytes from the DRBG. -/
  | randomBytes
  /-- HASH (R758): Command 0x02 hashes the input with the selected algorithm. -/
  | hash
  /-- AES_GCM (R758): Command 0x03 encrypts or decrypts with a slot key. -/
  | aesGcm
  /-- KEY_GENERATE (R760): Command 0x10 generates a key of the given usage and outputs the public key and a wrapped blob. -/
  | keyGenerate
  /-- BLOB_LOAD (R759): Command 0x11 loads a wrapped blob into a slot. -/
  | blobLoad
  /-- SLOT_CLEAR (R759): Command 0x12 clears a key slot. -/
  | slotClear
  /-- KEY_PRESENT (R746): Command 0x13 presents the public keys of a fused slot. -/
  | keyPresent
  /-- DEVID_KEYS (R757): Command 0x14 returns the DevID public keys. -/
  | devidKeys
  /-- SIGN (R758): Command 0x20 signs a digest with a slot key. -/
  | sign
  /-- VERIFY (R758): Command 0x21 verifies a signature with a given public key. -/
  | verify
  /-- KEY_AGREEMENT (R760): Command 0x30 performs key agreement with a slot and a peer key, or is refused on a usage-2 slot. -/
  | keyAgreement
  /-- KEM_DECAPSULATE (R760): Command 0x31 performs ML-KEM-768 decapsulation with a slot. -/
  | kemDecapsulate
  /-- KEM_ENCAPSULATE (R760): Command 0x32 performs ML-KEM-768 encapsulation to a peer key. -/
  | kemEncapsulate
  /-- ELEMENT_VERIFY (R751): Command 0x40 verifies a firmware element and enters it in an execute region. -/
  | elementVerify
  /-- REGION_WITHDRAW (R752): Command 0x41 withdraws an execute region. -/
  | regionWithdraw
  /-- ATTESTATION_REPORT (R757): Command 0x50 writes a signed attestation report. -/
  | attestationReport
  /-- KEY_AUTHORISATION (R767): Command 0x60 checks a key-management authorisation and fuses, revokes, moves to RETURN or unlocks debug. -/
  | keyAuthorisation
  /-- PYLON_COMMAND_DONE (R758): A Pylon command completes; OUT_LEN and STATUS are written and DONE is set. -/
  | pylonCommandDone
  /-- PYLON_SERVE_NEXT (R761): Pylon becomes free and serves the next waiting work in priority order. -/
  | pylonServeNext (tls : Bool)
  /-- LIFECYCLE_DEPLOY (R765): A keyed PYL_LCCTL write moves PROVISION to DEPLOYED, or is refused with LC_REF. -/
  | lifecycleDeploy (m : Master) (v : Word)
  /-- VIOLATION_POLL (R769): Every 10 ms, Pylon reads all violation counters into its totals. -/
  | violationPoll
  /-- FORBIDDEN_READ (R44): A read or instruction fetch that the access map forbids, that is misaligned or that hits an unimplemented address returns zero and increments CWY_VIOLn with its address in CWY_VADDRn. -/
  | forbiddenRead (m : Master) (addr : Word) (size : Nat) (fetch : Bool)
  /-- PLL_LOCK_LOST (R37): The PLL drops lock and the Parapet raises a Class A fault at once, without waiting for two monitor windows. -/
  | pllLockLost
  /-- CODE_GROUP_SYNC (R159): A Span or twin link's receiver gains or loses receive signal and code-group sync; on a gain after enabling, down frames start with ARM 0. -/
  | codeGroupSync (link : Fin 14) (signal sync : Bool)
  /-- HOST_LINK_UP (R53): A host link completes in-band auto-negotiation or link status, and AN_DONE and LINK rise. -/
  | hostLinkUp (n : Fin 2)
  /-- PLCA_STATUS_OK (R569): A valid PLCA beacon is received, or the PHY reports link with PLCA off; PLCA status becomes OK, the beacon timer restarts and VLK_Ln_SESS.LINK rises. -/
  | plcaStatusOk (n : Fin 8)
  /-- LAST_GASP_ARMED (R452): VHOLD rises to or falls below 30 V, and TOL_BOOK.LG_ARMED changes. -/
  | lastGaspArmed (armed : Bool)
  /-- PD0_SUPPLY_CHANGEOVER (R700): While VIN is failed, VHOLD falls below 12 V, so PD0 changes over to VBAT without losing state and ABT_SUPPLY.ON_VBAT is set. -/
  | pd0SupplyChangeover
  /-- VBAT_LOW (R701): VBAT falls below or returns above its minimum rating while PD0 runs from another supply, and ABT_SUPPLY.VBAT_LOW changes. -/
  | vbatLow (below : Bool)
  /-- PILOT_PWM_CYCLE (R515): A 1 kHz pilot cycle of 200,000 CLK_PER cycles starts on an SECC link, and a newly written DUTY takes effect. -/
  | pilotPwmCycle (n : Fin 8)
  /-- PILOT_MEASUREMENT (R516): The pilot front end measures a high or low plateau (or every 125 µs when constant), together with proximity and control contacts, and updates HI, LO, PP and CC readings. -/
  | pilotMeasurement (n : Fin 8) (hi lo : Option Int) (dutyIn : Fin 1024) (pp : BitVec 16) (cc1 cc2 : BitVec 16)
  /-- CAN_COLUMN_START (R590): A schedule column of a time-triggered basic cycle starts, and the cell's exclusive or arbitrating window opens, with TT_MISS when an exclusive attempt does not start. -/
  | canColumnStart (n : Fin 4) (c : Fin 64) (free : Bool)
  /-- SPAN_STAT_READ (R164): A read of SPN_LINKn_STAT ends the PFLAGS-changed condition that holds interrupt source 32 + 2n. -/
  | spanStatRead (m : Master) (n : Fin 12)
  /-- HWM_LOW_READ (R434): A read of TOL_HWMLO latches TOL_HWMHI. -/
  | hwmLowRead (m : Master)
deriving DecidableEq, Repr

end Sys2Proof
end

