-- ==== Sys2Proof/Config.lean ====
section
/-! DEFINITION. What the spec leaves open, as constants without a body: nothing can be proved of their values. -/

namespace Sys2Proof

/-- Fresh free values: applied to the counter `freeCtr` of the state (log entry 5). -/
opaque Config.freeNat : Nat → Nat

/-- Direction in which a value that is no whole number of codes is stored, where the spec gives no rounding rule
(log entry 6): true rounds up. -/
opaque Config.roundUp : Rat → Bool

/-- The Truss port on which sample `i` of pier `n` stands (0 to 31 IPH, 32 VDC, 33 VOUT, 34 to 39 GRID): the spec
gives the Span samples no port numbers (log entry 7). -/
opaque Config.spanPort : Nat → Nat → Nat

/-- Dead time of the pier's gates in fine steps: "configured at the pier" (R126), by no register that the spec names (log entry 77). -/
opaque Config.deadTime : Nat → Nat

/-- Whether the values at a Truss port are signed (R86: "same format as the source"), and what a loop of unregistered cells gives
at a tile's select (log entry 8). -/
opaque Config.portSigned : Nat → Bool
opaque Config.trussLoop : Nat → Nat → Nat

/-- The AC point whose power is the Arch's grid channel (R271): the spec does not name it (log entry 20). -/
opaque Config.gridPoint : Nat

/-- The low-pass filter of R271: last output, input, step and time constant in µs; the spec gives the time constant and no
discrete form (log entry 20). -/
opaque Config.lowPass : Rat → Rat → Nat → Nat → Rat

/-- Numbers that the device forms in a precision the spec does not give (log entry 21): square root, the ratio π, the
exponential, and the cosine and sine of 2π k / n. -/
opaque Config.sqrt : Rat → Rat
opaque Config.pi : Rat
opaque Config.exp : Rat → Rat
opaque Config.cosTurn : Nat → Nat → Rat
opaque Config.sinTurn : Nat → Nat → Rat

/-- The 16-tap fractional-delay filter of R356, whose taps the spec does not give: DELAY code, samples newest first (log
entry 21). -/
opaque Config.fdelay : Int → List Rat → Rat

/-- The resampling of R367 to `n` samples, whose interpolation the spec does not give (log entry 21). -/
opaque Config.resample : Nat → List Rat → List Rat

/-- Algorithms of the firmware commands (R758). -/
inductive Alg
  | sha256 | sha384 | sha512 | sha3x256 | sha3x512 | shake128 | shake256 | aes128 | aes256
  | ed25519 | ed448 | mldsa65 | ecdsa256 | ecdsa384 | ecdsa521 | x25519 | x448 | ecdh256 | ecdh384 | ecdh521
  | mlkem768 | x25519mlkem768
deriving DecidableEq, Repr

/-- The algorithm of an ALG code: the spec names the algorithms and gives no codes (log entry 32). -/
opaque Config.algOf : Nat → Option Alg

/-- The class of a CLASS code of R766, in the order of R743's table: 0 image, 1 legal, 2 verifier, 3 firmware; the spec gives
no codes (log entry 32). -/
opaque Config.keyClass : Nat → Nat

/-- What the operations of R758 on keys compute (log entry 30): the spec does not lay out their inputs, outputs and keys. Inputs as they
lie at IN_ADDR and IN2_ADDR, the slot's key, and a fresh number where the operation is randomised. An AES-GCM operation may fail. -/
opaque Config.gcmOp : Alg → List Byte → List Byte → List Byte → Option (List Byte)
opaque Config.keyGen : Alg → Nat → List Byte × List Byte
opaque Config.signOp : Alg → List Byte → List Byte → Nat → List Byte
opaque Config.verifyOp : Alg → List Byte → List Byte → Bool
opaque Config.agreeOp : Alg → List Byte → List Byte → List Byte
opaque Config.decap : Alg → List Byte → List Byte → List Byte
opaque Config.encap : Alg → List Byte → Nat → List Byte

/-- The boot ROM and the Pylon runtime, whose content the spec does not give (log entry 34). -/
opaque Config.bootRom : List Byte
opaque Config.runtime : List Byte

/-- Taps 0 to 10 of the FIR of a Caisson channel by its OSR: the spec gives what they do and not their values (R336; log entry 81). -/
opaque Config.droopTap : Nat → Nat → Rat

/-- The answer "not required" to CM_VALIDATE (R557) as the HomePlug Green PHY specification lays it out, which the spec does not
restate: its message type and body (log entry 33). -/
opaque Config.notRequired : Nat × List Byte

/-- Text of line 1 of a display item (QTY, SEL) and the texts for which the spec gives no wording (log entry 31). -/
opaque Config.caption : Nat → Nat → List Byte
opaque Config.text : Nat → Nat → List Byte
/-- METER_ID as a display line; the spec gives no spelling (log entry 31). -/
opaque Config.idText : List Byte → List Byte

end Sys2Proof
end

