-- ==== Sys2Proof/Machine/RegMap.lean ====
section
/-! DEFINITION. The register map of the device, row by row from the register tables of spec/01 to spec/19: the address
of every register (R8, R9), every field's place, access code (R12), reset value (R10) and level (R94).
A reserved field has no row: it reads 0 and ignores writes (R11). A field whose Reset entry names a section, the Toll
Book, fuses or PD0 has 0 here; the step that loads it writes it (log entry 3). -/

namespace Sys2Proof.Machine

/-- A field of a register: the register's address, the field's lowest bit and its width. -/
structure FieldRef where
  addr : Nat
  lo : Nat
  w : Nat
deriving DecidableEq, Repr

/-- Access codes of R12. -/
inductive Acc | rw | ro | w1c | w1s | wo | rwl | rc
deriving DecidableEq, Repr

/-- One field of a register table: lowest bit, width, access code, reset value, "expert level only". -/
structure FieldDesc where
  lo : Nat
  w : Nat
  acc : Acc
  reset : Nat
  expert : Bool
deriving DecidableEq, Repr

/-- One register header: address of instance 0, (count, stride) of each index, and its fields. -/
structure RegDesc where
  name : String
  addr : Nat
  dims : List (Nat × Nat)
  fields : List FieldDesc
deriving DecidableEq, Repr

/-- CWY_INFLIGHT (01_site_and_period.md). -/
def Reg.CWY_INFLIGHT : Nat := 0x40000004
def Fld.CWY_INFLIGHT_PEAK : FieldRef := ⟨Reg.CWY_INFLIGHT, 16, 7⟩
def Fld.CWY_INFLIGHT_COUNT : FieldRef := ⟨Reg.CWY_INFLIGHT, 0, 7⟩
/-- CWY_QUOTAn (01_site_and_period.md). -/
def Reg.CWY_QUOTA (n : Nat) : Nat := 0x40000100 + 0x4 * n
def Fld.CWY_QUOTA_QUOTA (n : Nat) : FieldRef := ⟨(Reg.CWY_QUOTA n), 0, 6⟩
/-- CWY_VIOLn (01_site_and_period.md). -/
def Reg.CWY_VIOL (n : Nat) : Nat := 0x40000200 + 0x4 * n
def Fld.CWY_VIOL_COUNT (n : Nat) : FieldRef := ⟨(Reg.CWY_VIOL n), 0, 16⟩
/-- CWY_VADDRn (01_site_and_period.md). -/
def Reg.CWY_VADDR (n : Nat) : Nat := 0x40000300 + 0x4 * n
def Fld.CWY_VADDR_ADDR (n : Nat) : FieldRef := ⟨(Reg.CWY_VADDR n), 0, 32⟩
/-- CWY_IRQRTEn (01_site_and_period.md). -/
def Reg.CWY_IRQRTE (n : Nat) : Nat := 0x40000400 + 0x4 * n
def Fld.CWY_IRQRTE_TARGET (n : Nat) : FieldRef := ⟨(Reg.CWY_IRQRTE n), 0, 4⟩
/-- HLK_CTRLn (01_site_and_period.md). -/
def Reg.HLK_CTRL (n : Nat) : Nat := 0x40100000 + 0x8000 * n
def Fld.HLK_CTRL_TS_EN (n : Nat) : FieldRef := ⟨(Reg.HLK_CTRL n), 4, 1⟩
def Fld.HLK_CTRL_LOOP (n : Nat) : FieldRef := ⟨(Reg.HLK_CTRL n), 3, 1⟩
def Fld.HLK_CTRL_AN_EN (n : Nat) : FieldRef := ⟨(Reg.HLK_CTRL n), 2, 1⟩
def Fld.HLK_CTRL_MODE (n : Nat) : FieldRef := ⟨(Reg.HLK_CTRL n), 1, 1⟩
def Fld.HLK_CTRL_EN (n : Nat) : FieldRef := ⟨(Reg.HLK_CTRL n), 0, 1⟩
/-- HLK_STATn (01_site_and_period.md). -/
def Reg.HLK_STAT (n : Nat) : Nat := 0x40100004 + 0x8000 * n
def Fld.HLK_STAT_RX_OVF (n : Nat) : FieldRef := ⟨(Reg.HLK_STAT n), 3, 1⟩
def Fld.HLK_STAT_SYNC_LOST (n : Nat) : FieldRef := ⟨(Reg.HLK_STAT n), 2, 1⟩
def Fld.HLK_STAT_AN_DONE (n : Nat) : FieldRef := ⟨(Reg.HLK_STAT n), 1, 1⟩
def Fld.HLK_STAT_LINK (n : Nat) : FieldRef := ⟨(Reg.HLK_STAT n), 0, 1⟩
/-- PYL_IMGSTAT (02_structure_image.md). -/
def Reg.PYL_IMGSTAT : Nat := 0x40030800
def Fld.PYL_IMGSTAT_ARB_VERSION : FieldRef := ⟨Reg.PYL_IMGSTAT, 24, 8⟩
def Fld.PYL_IMGSTAT_REASON_B : FieldRef := ⟨Reg.PYL_IMGSTAT, 16, 8⟩
def Fld.PYL_IMGSTAT_REASON_A : FieldRef := ⟨Reg.PYL_IMGSTAT, 8, 8⟩
def Fld.PYL_IMGSTAT_COMMITTED : FieldRef := ⟨Reg.PYL_IMGSTAT, 2, 1⟩
def Fld.PYL_IMGSTAT_LOADED : FieldRef := ⟨Reg.PYL_IMGSTAT, 1, 1⟩
def Fld.PYL_IMGSTAT_SLOT : FieldRef := ⟨Reg.PYL_IMGSTAT, 0, 1⟩
/-- PYL_IMGCOMMIT (02_structure_image.md). -/
def Reg.PYL_IMGCOMMIT : Nat := 0x40030804
def Fld.PYL_IMGCOMMIT_KEY : FieldRef := ⟨Reg.PYL_IMGCOMMIT, 16, 16⟩
def Fld.PYL_IMGCOMMIT_COMMIT : FieldRef := ⟨Reg.PYL_IMGCOMMIT, 0, 1⟩
/-- PYL_IMGDIGn (02_structure_image.md). -/
def Reg.PYL_IMGDIG (n : Nat) : Nat := 0x40030820 + 0x4 * n
def Fld.PYL_IMGDIG_DIG (n : Nat) : FieldRef := ⟨(Reg.PYL_IMGDIG n), 0, 32⟩
/-- PYL_SWIDn (02_structure_image.md). -/
def Reg.PYL_SWID (n : Nat) : Nat := 0x40030860 + 0x4 * n
def Fld.PYL_SWID_SWID (n : Nat) : FieldRef := ⟨(Reg.PYL_SWID n), 0, 32⟩
/-- SPN_LINKn_CTRL (03_span_links.md). -/
def Reg.SPN_LINK_CTRL (n : Nat) : Nat := 0x40040000 + 0x1000 * n
def Fld.SPN_LINK_CTRL_RESUME (n : Nat) : FieldRef := ⟨(Reg.SPN_LINK_CTRL n), 4, 1⟩
def Fld.SPN_LINK_CTRL_PRBS (n : Nat) : FieldRef := ⟨(Reg.SPN_LINK_CTRL n), 3, 1⟩
def Fld.SPN_LINK_CTRL_LOOP (n : Nat) : FieldRef := ⟨(Reg.SPN_LINK_CTRL n), 2, 1⟩
def Fld.SPN_LINK_CTRL_MEDIUM (n : Nat) : FieldRef := ⟨(Reg.SPN_LINK_CTRL n), 1, 1⟩
def Fld.SPN_LINK_CTRL_EN (n : Nat) : FieldRef := ⟨(Reg.SPN_LINK_CTRL n), 0, 1⟩
/-- SPN_LINKn_STAT (03_span_links.md). -/
def Reg.SPN_LINK_STAT (n : Nat) : Nat := 0x40040004 + 0x1000 * n
def Fld.SPN_LINK_STAT_PFLAGS (n : Nat) : FieldRef := ⟨(Reg.SPN_LINK_STAT n), 24, 8⟩
def Fld.SPN_LINK_STAT_MGMT_BUSY (n : Nat) : FieldRef := ⟨(Reg.SPN_LINK_STAT n), 7, 1⟩
def Fld.SPN_LINK_STAT_UP_BAD (n : Nat) : FieldRef := ⟨(Reg.SPN_LINK_STAT n), 6, 1⟩
def Fld.SPN_LINK_STAT_LOWER_TX (n : Nat) : FieldRef := ⟨(Reg.SPN_LINK_STAT n), 5, 1⟩
def Fld.SPN_LINK_STAT_STANDBY (n : Nat) : FieldRef := ⟨(Reg.SPN_LINK_STAT n), 4, 1⟩
def Fld.SPN_LINK_STAT_ACTIVE (n : Nat) : FieldRef := ⟨(Reg.SPN_LINK_STAT n), 3, 1⟩
def Fld.SPN_LINK_STAT_DLY_OK (n : Nat) : FieldRef := ⟨(Reg.SPN_LINK_STAT n), 2, 1⟩
def Fld.SPN_LINK_STAT_SYNC (n : Nat) : FieldRef := ⟨(Reg.SPN_LINK_STAT n), 1, 1⟩
def Fld.SPN_LINK_STAT_SIGNAL (n : Nat) : FieldRef := ⟨(Reg.SPN_LINK_STAT n), 0, 1⟩
/-- SPN_LINKn_ERR (03_span_links.md). -/
def Reg.SPN_LINK_ERR (n : Nat) : Nat := 0x40040008 + 0x1000 * n
def Fld.SPN_LINK_ERR_UP_CRC (n : Nat) : FieldRef := ⟨(Reg.SPN_LINK_ERR n), 16, 16⟩
def Fld.SPN_LINK_ERR_UP_MISS (n : Nat) : FieldRef := ⟨(Reg.SPN_LINK_ERR n), 0, 16⟩
/-- SPN_LINKn_DELAY (03_span_links.md). -/
def Reg.SPN_LINK_DELAY (n : Nat) : Nat := 0x4004000c + 0x1000 * n
def Fld.SPN_LINK_DELAY_DELAY (n : Nat) : FieldRef := ⟨(Reg.SPN_LINK_DELAY n), 0, 24⟩
/-- SPN_LINKn_PMASK (03_span_links.md). -/
def Reg.SPN_LINK_PMASK (n : Nat) : Nat := 0x40040010 + 0x1000 * n
def Fld.SPN_LINK_PMASK_TRIP (n : Nat) : FieldRef := ⟨(Reg.SPN_LINK_PMASK n), 0, 32⟩
/-- SPN_LINKn_SMASK (03_span_links.md). -/
def Reg.SPN_LINK_SMASK (n : Nat) : Nat := 0x40040014 + 0x1000 * n
def Fld.SPN_LINK_SMASK_SENSE_FAIL (n : Nat) : FieldRef := ⟨(Reg.SPN_LINK_SMASK n), 0, 32⟩
/-- SPN_LINKn_MGMTC (03_span_links.md). -/
def Reg.SPN_LINK_MGMTC (n : Nat) : Nat := 0x40040020 + 0x1000 * n
def Fld.SPN_LINK_MGMTC_GO (n : Nat) : FieldRef := ⟨(Reg.SPN_LINK_MGMTC n), 31, 1⟩
def Fld.SPN_LINK_MGMTC_OP (n : Nat) : FieldRef := ⟨(Reg.SPN_LINK_MGMTC n), 29, 2⟩
def Fld.SPN_LINK_MGMTC_ADDR (n : Nat) : FieldRef := ⟨(Reg.SPN_LINK_MGMTC n), 15, 14⟩
/-- SPN_LINKn_MGMTD (03_span_links.md). -/
def Reg.SPN_LINK_MGMTD (n : Nat) : Nat := 0x40040024 + 0x1000 * n
def Fld.SPN_LINK_MGMTD_DATA (n : Nat) : FieldRef := ⟨(Reg.SPN_LINK_MGMTD n), 0, 32⟩
/-- SPN_LINKn_MGMTR (03_span_links.md). -/
def Reg.SPN_LINK_MGMTR (n : Nat) : Nat := 0x40040028 + 0x1000 * n
def Fld.SPN_LINK_MGMTR_DONE (n : Nat) : FieldRef := ⟨(Reg.SPN_LINK_MGMTR n), 31, 1⟩
def Fld.SPN_LINK_MGMTR_REFUSED (n : Nat) : FieldRef := ⟨(Reg.SPN_LINK_MGMTR n), 30, 1⟩
/-- SPN_LINKn_MGMTQ (03_span_links.md). -/
def Reg.SPN_LINK_MGMTQ (n : Nat) : Nat := 0x4004002c + 0x1000 * n
def Fld.SPN_LINK_MGMTQ_RDATA (n : Nat) : FieldRef := ⟨(Reg.SPN_LINK_MGMTQ n), 0, 32⟩
/-- SPN_BCAST (03_span_links.md). -/
def Reg.SPN_BCAST : Nat := 0x4004c000
def Fld.SPN_BCAST_SENT : FieldRef := ⟨Reg.SPN_BCAST, 1, 1⟩
def Fld.SPN_BCAST_LOWER : FieldRef := ⟨Reg.SPN_BCAST, 0, 1⟩
/-- SPN_TIMELO (03_span_links.md). -/
def Reg.SPN_TIMELO : Nat := 0x4004c004
def Fld.SPN_TIMELO_NS_LO : FieldRef := ⟨Reg.SPN_TIMELO, 0, 32⟩
/-- SPN_TIMEHI (03_span_links.md). -/
def Reg.SPN_TIMEHI : Nat := 0x4004c008
def Fld.SPN_TIMEHI_NS_HI : FieldRef := ⟨Reg.SPN_TIMEHI, 0, 32⟩
/-- PHS_PIERn_CTRL (04_phase_control.md). -/
def Reg.PHS_PIER_CTRL (n : Nat) : Nat := 0x40050000 + 0x1000 * n
def Fld.PHS_PIER_CTRL_STEP_ALL (n : Nat) : FieldRef := ⟨(Reg.PHS_PIER_CTRL n), 4, 1⟩
def Fld.PHS_PIER_CTRL_ROT_EN (n : Nat) : FieldRef := ⟨(Reg.PHS_PIER_CTRL n), 3, 1⟩
def Fld.PHS_PIER_CTRL_DE_EN (n : Nat) : FieldRef := ⟨(Reg.PHS_PIER_CTRL n), 2, 1⟩
def Fld.PHS_PIER_CTRL_SHED_EN (n : Nat) : FieldRef := ⟨(Reg.PHS_PIER_CTRL n), 1, 1⟩
def Fld.PHS_PIER_CTRL_EN (n : Nat) : FieldRef := ⟨(Reg.PHS_PIER_CTRL n), 0, 1⟩
/-- PHS_PIERn_STAT (04_phase_control.md). -/
def Reg.PHS_PIER_STAT (n : Nat) : Nat := 0x40050004 + 0x1000 * n
def Fld.PHS_PIER_STAT_HOLDOFF (n : Nat) : FieldRef := ⟨(Reg.PHS_PIER_STAT n), 26, 1⟩
def Fld.PHS_PIER_STAT_GLIDE (n : Nat) : FieldRef := ⟨(Reg.PHS_PIER_STAT n), 25, 1⟩
def Fld.PHS_PIER_STAT_RAMP (n : Nat) : FieldRef := ⟨(Reg.PHS_PIER_STAT n), 24, 1⟩
def Fld.PHS_PIER_STAT_LEAD (n : Nat) : FieldRef := ⟨(Reg.PHS_PIER_STAT n), 16, 5⟩
def Fld.PHS_PIER_STAT_N_AVAIL (n : Nat) : FieldRef := ⟨(Reg.PHS_PIER_STAT n), 8, 6⟩
def Fld.PHS_PIER_STAT_N_SVC (n : Nat) : FieldRef := ⟨(Reg.PHS_PIER_STAT n), 0, 6⟩
/-- PHS_PIERn_SHED (04_phase_control.md). -/
def Reg.PHS_PIER_SHED (n : Nat) : Nat := 0x40050008 + 0x1000 * n
def Fld.PHS_PIER_SHED_SHED_FRAC (n : Nat) : FieldRef := ⟨(Reg.PHS_PIER_SHED n), 24, 8⟩
def Fld.PHS_PIER_SHED_ADMIT_FRAC (n : Nat) : FieldRef := ⟨(Reg.PHS_PIER_SHED n), 16, 8⟩
def Fld.PHS_PIER_SHED_SHED_RAMP (n : Nat) : FieldRef := ⟨(Reg.PHS_PIER_SHED n), 8, 8⟩
def Fld.PHS_PIER_SHED_N_MIN (n : Nat) : FieldRef := ⟨(Reg.PHS_PIER_SHED n), 0, 6⟩
/-- PHS_PIERn_DWELL (04_phase_control.md). -/
def Reg.PHS_PIER_DWELL (n : Nat) : Nat := 0x4005000c + 0x1000 * n
def Fld.PHS_PIER_DWELL_SHED_DWELL (n : Nat) : FieldRef := ⟨(Reg.PHS_PIER_DWELL n), 16, 16⟩
def Fld.PHS_PIER_DWELL_OPEN_DWELL (n : Nat) : FieldRef := ⟨(Reg.PHS_PIER_DWELL n), 8, 8⟩
def Fld.PHS_PIER_DWELL_STUCK_DWELL (n : Nat) : FieldRef := ⟨(Reg.PHS_PIER_DWELL n), 0, 8⟩
/-- PHS_PIERn_DE (04_phase_control.md). -/
def Reg.PHS_PIER_DE (n : Nat) : Nat := 0x40050010 + 0x1000 * n
def Fld.PHS_PIER_DE_DE_HYST (n : Nat) : FieldRef := ⟨(Reg.PHS_PIER_DE n), 16, 16⟩
def Fld.PHS_PIER_DE_DE_THRESH (n : Nat) : FieldRef := ⟨(Reg.PHS_PIER_DE n), 0, 16⟩
/-- PHS_PIERn_STEP (04_phase_control.md). -/
def Reg.PHS_PIER_STEP (n : Nat) : Nat := 0x40050014 + 0x1000 * n
def Fld.PHS_PIER_STEP_DE_AVG (n : Nat) : FieldRef := ⟨(Reg.PHS_PIER_STEP n), 28, 4⟩
def Fld.PHS_PIER_STEP_STEP_THRESH (n : Nat) : FieldRef := ⟨(Reg.PHS_PIER_STEP n), 0, 16⟩
/-- PHS_PIERn_TIMING (04_phase_control.md). -/
def Reg.PHS_PIER_TIMING (n : Nat) : Nat := 0x40050018 + 0x1000 * n
def Fld.PHS_PIER_TIMING_ROT_STEPS (n : Nat) : FieldRef := ⟨(Reg.PHS_PIER_TIMING n), 24, 8⟩
def Fld.PHS_PIER_TIMING_ADMIT_RAMP (n : Nat) : FieldRef := ⟨(Reg.PHS_PIER_TIMING n), 16, 8⟩
def Fld.PHS_PIER_TIMING_HOLDOFF (n : Nat) : FieldRef := ⟨(Reg.PHS_PIER_TIMING n), 0, 16⟩
/-- PHS_PIERn_SVC (04_phase_control.md). -/
def Reg.PHS_PIER_SVC (n : Nat) : Nat := 0x40050020 + 0x1000 * n
def Fld.PHS_PIER_SVC_SVC (n : Nat) : FieldRef := ⟨(Reg.PHS_PIER_SVC n), 0, 32⟩
/-- PHS_PIERn_DEM (04_phase_control.md). -/
def Reg.PHS_PIER_DEM (n : Nat) : Nat := 0x40050024 + 0x1000 * n
def Fld.PHS_PIER_DEM_DEM (n : Nat) : FieldRef := ⟨(Reg.PHS_PIER_DEM n), 0, 32⟩
/-- PHS_PIERn_RAMP (04_phase_control.md). -/
def Reg.PHS_PIER_RAMP (n : Nat) : Nat := 0x40050028 + 0x1000 * n
def Fld.PHS_PIER_RAMP_RAMP (n : Nat) : FieldRef := ⟨(Reg.PHS_PIER_RAMP n), 0, 32⟩
/-- PHS_PIERn_FAULT (04_phase_control.md). -/
def Reg.PHS_PIER_FAULT (n : Nat) : Nat := 0x4005002c + 0x1000 * n
def Fld.PHS_PIER_FAULT_FAULT (n : Nat) : FieldRef := ⟨(Reg.PHS_PIER_FAULT n), 0, 32⟩
/-- PHS_PIERn_THERM (04_phase_control.md). -/
def Reg.PHS_PIER_THERM (n : Nat) : Nat := 0x40050030 + 0x1000 * n
def Fld.PHS_PIER_THERM_HOT (n : Nat) : FieldRef := ⟨(Reg.PHS_PIER_THERM n), 0, 32⟩
/-- PHS_PIERn_FLAST (04_phase_control.md). -/
def Reg.PHS_PIER_FLAST (n : Nat) : Nat := 0x40050034 + 0x1000 * n
def Fld.PHS_PIER_FLAST_PHASE (n : Nat) : FieldRef := ⟨(Reg.PHS_PIER_FLAST n), 8, 5⟩
def Fld.PHS_PIER_FLAST_CAUSE (n : Nat) : FieldRef := ⟨(Reg.PHS_PIER_FLAST n), 0, 3⟩
/-- PHS_PIERn_CAP (04_phase_control.md). -/
def Reg.PHS_PIER_CAP (n : Nat) : Nat := 0x40050038 + 0x1000 * n
def Fld.PHS_PIER_CAP_CAP (n : Nat) : FieldRef := ⟨(Reg.PHS_PIER_CAP n), 0, 32⟩
/-- PHS_PIERn_EVT (04_phase_control.md). -/
def Reg.PHS_PIER_EVT (n : Nat) : Nat := 0x4005003c + 0x1000 * n
def Fld.PHS_PIER_EVT_GLIDE_DONE (n : Nat) : FieldRef := ⟨(Reg.PHS_PIER_EVT n), 6, 1⟩
def Fld.PHS_PIER_EVT_CAP_CHG (n : Nat) : FieldRef := ⟨(Reg.PHS_PIER_EVT n), 5, 1⟩
def Fld.PHS_PIER_EVT_FAULT (n : Nat) : FieldRef := ⟨(Reg.PHS_PIER_EVT n), 4, 1⟩
def Fld.PHS_PIER_EVT_ROTATE (n : Nat) : FieldRef := ⟨(Reg.PHS_PIER_EVT n), 3, 1⟩
def Fld.PHS_PIER_EVT_ABORT (n : Nat) : FieldRef := ⟨(Reg.PHS_PIER_EVT n), 2, 1⟩
def Fld.PHS_PIER_EVT_ADMIT (n : Nat) : FieldRef := ⟨(Reg.PHS_PIER_EVT n), 1, 1⟩
def Fld.PHS_PIER_EVT_SHED_ANN (n : Nat) : FieldRef := ⟨(Reg.PHS_PIER_EVT n), 0, 1⟩
/-- PHS_PIERn_TLMSEQ (04_phase_control.md). -/
def Reg.PHS_PIER_TLMSEQ (n : Nat) : Nat := 0x40050040 + 0x1000 * n
def Fld.PHS_PIER_TLMSEQ_SEQ (n : Nat) : FieldRef := ⟨(Reg.PHS_PIER_TLMSEQ n), 0, 32⟩
/-- PHS_PIERn_TMARGIN (04_phase_control.md). -/
def Reg.PHS_PIER_TMARGIN (n : Nat) : Nat := 0x40050044 + 0x1000 * n
def Fld.PHS_PIER_TMARGIN_MARGIN (n : Nat) : FieldRef := ⟨(Reg.PHS_PIER_TMARGIN n), 0, 32⟩
/-- PHS_PIERn_PHp_VAVG (04_phase_control.md). -/
def Reg.PHS_PIER_PH_VAVG (n p : Nat) : Nat := 0x40050400 + 0x1000 * n + 0x20 * p
def Fld.PHS_PIER_PH_VAVG_V (n p : Nat) : FieldRef := ⟨(Reg.PHS_PIER_PH_VAVG n p), 0, 32⟩
/-- PHS_PIERn_PHp_IAVG (04_phase_control.md). -/
def Reg.PHS_PIER_PH_IAVG (n p : Nat) : Nat := 0x40050404 + 0x1000 * n + 0x20 * p
def Fld.PHS_PIER_PH_IAVG_I (n p : Nat) : FieldRef := ⟨(Reg.PHS_PIER_PH_IAVG n p), 0, 32⟩
/-- PHS_PIERn_PHp_PAVG (04_phase_control.md). -/
def Reg.PHS_PIER_PH_PAVG (n p : Nat) : Nat := 0x40050408 + 0x1000 * n + 0x20 * p
def Fld.PHS_PIER_PH_PAVG_P (n p : Nat) : FieldRef := ⟨(Reg.PHS_PIER_PH_PAVG n p), 0, 32⟩
/-- PHS_PIERn_PHp_TAVG (04_phase_control.md). -/
def Reg.PHS_PIER_PH_TAVG (n p : Nat) : Nat := 0x4005040c + 0x1000 * n + 0x20 * p
def Fld.PHS_PIER_PH_TAVG_T (n p : Nat) : FieldRef := ⟨(Reg.PHS_PIER_PH_TAVG n p), 0, 32⟩
/-- PHS_PIERn_PHp_VPK (04_phase_control.md). -/
def Reg.PHS_PIER_PH_VPK (n p : Nat) : Nat := 0x40050410 + 0x1000 * n + 0x20 * p
def Fld.PHS_PIER_PH_VPK_V (n p : Nat) : FieldRef := ⟨(Reg.PHS_PIER_PH_VPK n p), 0, 32⟩
/-- PHS_PIERn_PHp_IPK (04_phase_control.md). -/
def Reg.PHS_PIER_PH_IPK (n p : Nat) : Nat := 0x40050414 + 0x1000 * n + 0x20 * p
def Fld.PHS_PIER_PH_IPK_I (n p : Nat) : FieldRef := ⟨(Reg.PHS_PIER_PH_IPK n p), 0, 32⟩
/-- PHS_PIERn_PHp_PPK (04_phase_control.md). -/
def Reg.PHS_PIER_PH_PPK (n p : Nat) : Nat := 0x40050418 + 0x1000 * n + 0x20 * p
def Fld.PHS_PIER_PH_PPK_P (n p : Nat) : FieldRef := ⟨(Reg.PHS_PIER_PH_PPK n p), 0, 32⟩
/-- PHS_PIERn_PHp_TPK (04_phase_control.md). -/
def Reg.PHS_PIER_PH_TPK (n p : Nat) : Nat := 0x4005041c + 0x1000 * n + 0x20 * p
def Fld.PHS_PIER_PH_TPK_T (n p : Nat) : FieldRef := ⟨(Reg.PHS_PIER_PH_TPK n p), 0, 32⟩
/-- PHS_ROT (04_phase_control.md). -/
def Reg.PHS_ROT : Nat := 0x4005c000
def Fld.PHS_ROT_INTERVAL : FieldRef := ⟨Reg.PHS_ROT, 0, 20⟩
/-- PHS_TLM (04_phase_control.md). -/
def Reg.PHS_TLM : Nat := 0x4005c004
def Fld.PHS_TLM_AVG_EXP : FieldRef := ⟨Reg.PHS_TLM, 0, 4⟩
/-- KST_En_STAT (05_keystone_engines.md). -/
def Reg.KST_E_STAT (n : Nat) : Nat := 0x40060000 + 0x2000 * n
def Fld.KST_E_STAT_STATE (n : Nat) : FieldRef := ⟨(Reg.KST_E_STAT n), 30, 2⟩
def Fld.KST_E_STAT_FOR (n : Nat) : FieldRef := ⟨(Reg.KST_E_STAT n), 24, 3⟩
def Fld.KST_E_STAT_SLOTS (n : Nat) : FieldRef := ⟨(Reg.KST_E_STAT n), 0, 10⟩
/-- KST_En_ERR (05_keystone_engines.md). -/
def Reg.KST_E_ERR (n : Nat) : Nat := 0x40060004 + 0x2000 * n
def Fld.KST_E_ERR_RES (n : Nat) : FieldRef := ⟨(Reg.KST_E_ERR n), 16, 16⟩
def Fld.KST_E_ERR_MISM (n : Nat) : FieldRef := ⟨(Reg.KST_E_ERR n), 0, 16⟩
/-- KST_En_BUSY (05_keystone_engines.md). -/
def Reg.KST_E_BUSY (n : Nat) : Nat := 0x40060008 + 0x2000 * n
def Fld.KST_E_BUSY_PEAK (n : Nat) : FieldRef := ⟨(Reg.KST_E_BUSY n), 16, 16⟩
def Fld.KST_E_BUSY_LAST (n : Nat) : FieldRef := ⟨(Reg.KST_E_BUSY n), 0, 16⟩
/-- KST_En_SEL (05_keystone_engines.md). -/
def Reg.KST_E_SEL (n : Nat) : Nat := 0x40060010 + 0x2000 * n
def Fld.KST_E_SEL_POS (n : Nat) : FieldRef := ⟨(Reg.KST_E_SEL n), 0, 10⟩
/-- KST_En_BANKd (05_keystone_engines.md). -/
def Reg.KST_E_BANK (n d : Nat) : Nat := 0x40060040 + 0x2000 * n + 0x4 * d
def Fld.KST_E_BANK_WORD (n d : Nat) : FieldRef := ⟨(Reg.KST_E_BANK n d), 0, 32⟩
/-- KST_En_STw (05_keystone_engines.md). -/
def Reg.KST_E_ST (n w : Nat) : Nat := 0x40060080 + 0x2000 * n + 0x4 * w
def Fld.KST_E_ST_VALUE (n w : Nat) : FieldRef := ⟨(Reg.KST_E_ST n w), 0, 32⟩
/-- KST_SWAP (05_keystone_engines.md). -/
def Reg.KST_SWAP : Nat := 0x4006c000
def Fld.KST_SWAP_REQ : FieldRef := ⟨Reg.KST_SWAP, 0, 32⟩
/-- KST_ACTIVE (05_keystone_engines.md). -/
def Reg.KST_ACTIVE : Nat := 0x4006c004
def Fld.KST_ACTIVE_BANK : FieldRef := ⟨Reg.KST_ACTIVE, 0, 32⟩
/-- KST_TIMING (05_keystone_engines.md). -/
def Reg.KST_TIMING : Nat := 0x4006c008
def Fld.KST_TIMING_SEND_LIM : FieldRef := ⟨Reg.KST_TIMING, 16, 16⟩
def Fld.KST_TIMING_CUTOFF : FieldRef := ⟨Reg.KST_TIMING, 0, 16⟩
/-- KST_SPARE (05_keystone_engines.md). -/
def Reg.KST_SPARE : Nat := 0x4006c00c
def Fld.KST_SPARE_FAILED : FieldRef := ⟨Reg.KST_SPARE, 8, 6⟩
def Fld.KST_SPARE_REPLACES : FieldRef := ⟨Reg.KST_SPARE, 0, 4⟩
/-- KST_EVT (05_keystone_engines.md). -/
def Reg.KST_EVT : Nat := 0x4006c010
def Fld.KST_EVT_WBLOCK : FieldRef := ⟨Reg.KST_EVT, 9, 1⟩
def Fld.KST_EVT_SWAP_DONE : FieldRef := ⟨Reg.KST_EVT, 8, 1⟩
def Fld.KST_EVT_SPARE_LOST : FieldRef := ⟨Reg.KST_EVT, 7, 1⟩
def Fld.KST_EVT_OVERRUN : FieldRef := ⟨Reg.KST_EVT, 6, 1⟩
def Fld.KST_EVT_MISMATCH : FieldRef := ⟨Reg.KST_EVT, 5, 1⟩
def Fld.KST_EVT_RES_FAIL : FieldRef := ⟨Reg.KST_EVT, 4, 1⟩
def Fld.KST_EVT_MP_TRIP : FieldRef := ⟨Reg.KST_EVT, 3, 1⟩
def Fld.KST_EVT_FE_TRIP : FieldRef := ⟨Reg.KST_EVT, 2, 1⟩
def Fld.KST_EVT_FB_RESUME : FieldRef := ⟨Reg.KST_EVT, 1, 1⟩
def Fld.KST_EVT_FB_LOSS : FieldRef := ⟨Reg.KST_EVT, 0, 1⟩
/-- KST_LAST (05_keystone_engines.md). -/
def Reg.KST_LAST : Nat := 0x4006c014
def Fld.KST_LAST_CAUSE : FieldRef := ⟨Reg.KST_LAST, 28, 4⟩
def Fld.KST_LAST_ENGINE : FieldRef := ⟨Reg.KST_LAST, 24, 3⟩
def Fld.KST_LAST_POS : FieldRef := ⟨Reg.KST_LAST, 0, 10⟩
/-- KST_OUTm_CTRL (05_keystone_engines.md). -/
def Reg.KST_OUT_CTRL (m : Nat) : Nat := 0x4006d000 + 0x40 * m
def Fld.KST_OUT_CTRL_LOWERING (m : Nat) : FieldRef := ⟨(Reg.KST_OUT_CTRL m), 2, 1⟩
def Fld.KST_OUT_CTRL_MODE (m : Nat) : FieldRef := ⟨(Reg.KST_OUT_CTRL m), 1, 1⟩
def Fld.KST_OUT_CTRL_EN (m : Nat) : FieldRef := ⟨(Reg.KST_OUT_CTRL m), 0, 1⟩
/-- KST_OUTm_SET (05_keystone_engines.md). -/
def Reg.KST_OUT_SET (m : Nat) : Nat := 0x4006d004 + 0x40 * m
def Fld.KST_OUT_SET_AMPS (m : Nat) : FieldRef := ⟨(Reg.KST_OUT_SET m), 0, 32⟩
/-- KST_OUTm_VSET (05_keystone_engines.md). -/
def Reg.KST_OUT_VSET (m : Nat) : Nat := 0x4006d008 + 0x40 * m
def Fld.KST_OUT_VSET_VOLTS (m : Nat) : FieldRef := ⟨(Reg.KST_OUT_VSET m), 0, 32⟩
/-- KST_OUTm_VLIM (05_keystone_engines.md). -/
def Reg.KST_OUT_VLIM (m : Nat) : Nat := 0x4006d00c + 0x40 * m
def Fld.KST_OUT_VLIM_DIS (m : Nat) : FieldRef := ⟨(Reg.KST_OUT_VLIM m), 16, 16⟩
def Fld.KST_OUT_VLIM_CHG (m : Nat) : FieldRef := ⟨(Reg.KST_OUT_VLIM m), 0, 16⟩
/-- KST_OUTm_ARCHI (05_keystone_engines.md). -/
def Reg.KST_OUT_ARCHI (m : Nat) : Nat := 0x4006d010 + 0x40 * m
def Fld.KST_OUT_ARCHI_DIS (m : Nat) : FieldRef := ⟨(Reg.KST_OUT_ARCHI m), 16, 16⟩
def Fld.KST_OUT_ARCHI_CHG (m : Nat) : FieldRef := ⟨(Reg.KST_OUT_ARCHI m), 0, 16⟩
/-- KST_OUTm_ARCHP (05_keystone_engines.md). -/
def Reg.KST_OUT_ARCHP (m : Nat) : Nat := 0x4006d014 + 0x40 * m
def Fld.KST_OUT_ARCHP_DIS (m : Nat) : FieldRef := ⟨(Reg.KST_OUT_ARCHP m), 16, 16⟩
def Fld.KST_OUT_ARCHP_CHG (m : Nat) : FieldRef := ⟨(Reg.KST_OUT_ARCHP m), 0, 16⟩
/-- KST_OUTm_STYI (05_keystone_engines.md). -/
def Reg.KST_OUT_STYI (m : Nat) : Nat := 0x4006d018 + 0x40 * m
def Fld.KST_OUT_STYI_AMPS (m : Nat) : FieldRef := ⟨(Reg.KST_OUT_STYI m), 0, 16⟩
/-- KST_OUTm_CAPI (05_keystone_engines.md). -/
def Reg.KST_OUT_CAPI (m : Nat) : Nat := 0x4006d01c + 0x40 * m
def Fld.KST_OUT_CAPI_AMPS (m : Nat) : FieldRef := ⟨(Reg.KST_OUT_CAPI m), 0, 16⟩
/-- KST_OUTm_CEIL (05_keystone_engines.md). -/
def Reg.KST_OUT_CEIL (m : Nat) : Nat := 0x4006d020 + 0x40 * m
def Fld.KST_OUT_CEIL_BIND (m : Nat) : FieldRef := ⟨(Reg.KST_OUT_CEIL m), 16, 3⟩
def Fld.KST_OUT_CEIL_CEIL (m : Nat) : FieldRef := ⟨(Reg.KST_OUT_CEIL m), 0, 16⟩
/-- KST_OUTm_REF (05_keystone_engines.md). -/
def Reg.KST_OUT_REF (m : Nat) : Nat := 0x4006d024 + 0x40 * m
def Fld.KST_OUT_REF_AMPS (m : Nat) : FieldRef := ⟨(Reg.KST_OUT_REF m), 0, 32⟩
/-- KST_PIERn_SHARE (05_keystone_engines.md). -/
def Reg.KST_PIER_SHARE (n : Nat) : Nat := 0x4006d400 + 0x4 * n
def Fld.KST_PIER_SHARE_SHARE (n : Nat) : FieldRef := ⟨(Reg.KST_PIER_SHARE n), 0, 16⟩
/-- KST_CAMBj (05_keystone_engines.md). -/
def Reg.KST_CAMB (j : Nat) : Nat := 0x4006d800 + 0x4 * j
def Fld.KST_CAMB_VALUE (j : Nat) : FieldRef := ⟨(Reg.KST_CAMB j), 0, 32⟩
/-- ARC_CTRL (06_arch_power_sharing.md). -/
def Reg.ARC_CTRL : Nat := 0x40070000
def Fld.ARC_CTRL_FREEZE : FieldRef := ⟨Reg.ARC_CTRL, 2, 1⟩
def Fld.ARC_CTRL_TRIM_HOLD : FieldRef := ⟨Reg.ARC_CTRL, 1, 1⟩
def Fld.ARC_CTRL_EN : FieldRef := ⟨Reg.ARC_CTRL, 0, 1⟩
/-- ARC_STAT (06_arch_power_sharing.md). -/
def Reg.ARC_STAT : Nat := 0x40070004
def Fld.ARC_STAT_ASEQ : FieldRef := ⟨Reg.ARC_STAT, 16, 16⟩
def Fld.ARC_STAT_CASCADE : FieldRef := ⟨Reg.ARC_STAT, 4, 2⟩
def Fld.ARC_STAT_FALLBACK : FieldRef := ⟨Reg.ARC_STAT, 3, 1⟩
def Fld.ARC_STAT_SHORT : FieldRef := ⟨Reg.ARC_STAT, 2, 1⟩
/-- ARC_GRID (06_arch_power_sharing.md). -/
def Reg.ARC_GRID : Nat := 0x40070010
def Fld.ARC_GRID_IMPORT : FieldRef := ⟨Reg.ARC_GRID, 0, 32⟩
/-- ARC_GRIDX (06_arch_power_sharing.md). -/
def Reg.ARC_GRIDX : Nat := 0x40070014
def Fld.ARC_GRIDX_EXPORT : FieldRef := ⟨Reg.ARC_GRIDX, 0, 32⟩
/-- ARC_BUF (06_arch_power_sharing.md). -/
def Reg.ARC_BUF : Nat := 0x40070018
def Fld.ARC_BUF_PREF : FieldRef := ⟨Reg.ARC_BUF, 0, 32⟩
/-- ARC_BUFLIM (06_arch_power_sharing.md). -/
def Reg.ARC_BUFLIM : Nat := 0x4007001c
def Fld.ARC_BUFLIM_DIS : FieldRef := ⟨Reg.ARC_BUFLIM, 16, 16⟩
def Fld.ARC_BUFLIM_CHG : FieldRef := ⟨Reg.ARC_BUFLIM, 0, 16⟩
/-- ARC_COMMIT (06_arch_power_sharing.md). -/
def Reg.ARC_COMMIT : Nat := 0x40070020
def Fld.ARC_COMMIT_GO : FieldRef := ⟨Reg.ARC_COMMIT, 0, 1⟩
/-- ARC_LEDGw (06_arch_power_sharing.md). -/
def Reg.ARC_LEDG (w : Nat) : Nat := 0x40070030 + 0x4 * w
def Fld.ARC_LEDG_KW (w : Nat) : FieldRef := ⟨(Reg.ARC_LEDG w), 0, 32⟩
/-- ARC_EVT (06_arch_power_sharing.md). -/
def Reg.ARC_EVT : Nat := 0x40070050
def Fld.ARC_EVT_FALLBACK : FieldRef := ⟨Reg.ARC_EVT, 6, 1⟩
def Fld.ARC_EVT_CONTEST_SAFE : FieldRef := ⟨Reg.ARC_EVT, 5, 1⟩
def Fld.ARC_EVT_CONTEST : FieldRef := ⟨Reg.ARC_EVT, 4, 1⟩
def Fld.ARC_EVT_XP_FAULT : FieldRef := ⟨Reg.ARC_EVT, 3, 1⟩
def Fld.ARC_EVT_HO_FAIL : FieldRef := ⟨Reg.ARC_EVT, 2, 1⟩
def Fld.ARC_EVT_HO_DONE : FieldRef := ⟨Reg.ARC_EVT, 1, 1⟩
def Fld.ARC_EVT_HO_START : FieldRef := ⟨Reg.ARC_EVT, 0, 1⟩
/-- ARC_CONTP (06_arch_power_sharing.md). -/
def Reg.ARC_CONTP : Nat := 0x40070054
def Fld.ARC_CONTP_PIER : FieldRef := ⟨Reg.ARC_CONTP, 0, 24⟩
/-- ARC_CONTO (06_arch_power_sharing.md). -/
def Reg.ARC_CONTO : Nat := 0x40070058
def Fld.ARC_CONTO_OUTLET : FieldRef := ⟨Reg.ARC_CONTO, 0, 16⟩
/-- ARC_CONTXk (06_arch_power_sharing.md). -/
def Reg.ARC_CONTX (k : Nat) : Nat := 0x4007005c + 0x4 * k
def Fld.ARC_CONTX_XP (k : Nat) : FieldRef := ⟨(Reg.ARC_CONTX k), 0, 32⟩
/-- ARC_MOVE (06_arch_power_sharing.md). -/
def Reg.ARC_MOVE : Nat := 0x40070064
def Fld.ARC_MOVE_GO : FieldRef := ⟨Reg.ARC_MOVE, 31, 1⟩
def Fld.ARC_MOVE_PIER : FieldRef := ⟨Reg.ARC_MOVE, 8, 5⟩
def Fld.ARC_MOVE_OUTLET : FieldRef := ⟨Reg.ARC_MOVE, 0, 5⟩
/-- ARC_OUTm_POL (06_arch_power_sharing.md). -/
def Reg.ARC_OUT_POL (m : Nat) : Nat := 0x40070100 + 0x20 * m
def Fld.ARC_OUT_POL_CLASS (m : Nat) : FieldRef := ⟨(Reg.ARC_OUT_POL m), 30, 2⟩
def Fld.ARC_OUT_POL_GUARANTEE (m : Nat) : FieldRef := ⟨(Reg.ARC_OUT_POL m), 0, 24⟩
/-- ARC_OUTm_PMAX (06_arch_power_sharing.md). -/
def Reg.ARC_OUT_PMAX (m : Nat) : Nat := 0x40070104 + 0x20 * m
def Fld.ARC_OUT_PMAX_DIS (m : Nat) : FieldRef := ⟨(Reg.ARC_OUT_PMAX m), 16, 16⟩
def Fld.ARC_OUT_PMAX_CHG (m : Nat) : FieldRef := ⟨(Reg.ARC_OUT_PMAX m), 0, 16⟩
/-- ARC_OUTm_DEM (06_arch_power_sharing.md). -/
def Reg.ARC_OUT_DEM (m : Nat) : Nat := 0x40070108 + 0x20 * m
def Fld.ARC_OUT_DEM_KW (m : Nat) : FieldRef := ⟨(Reg.ARC_OUT_DEM m), 0, 32⟩
/-- ARC_OUTm_ALLOC (06_arch_power_sharing.md). -/
def Reg.ARC_OUT_ALLOC (m : Nat) : Nat := 0x4007010c + 0x20 * m
def Fld.ARC_OUT_ALLOC_KW (m : Nat) : FieldRef := ⟨(Reg.ARC_OUT_ALLOC m), 0, 32⟩
/-- ARC_OUTm_STATE (06_arch_power_sharing.md). -/
def Reg.ARC_OUT_STATE (m : Nat) : Nat := 0x40070110 + 0x20 * m
def Fld.ARC_OUT_STATE_STATE (m : Nat) : FieldRef := ⟨(Reg.ARC_OUT_STATE m), 30, 2⟩
def Fld.ARC_OUT_STATE_PIERS (m : Nat) : FieldRef := ⟨(Reg.ARC_OUT_STATE m), 0, 24⟩
/-- ARC_PIERn_STATE (06_arch_power_sharing.md). -/
def Reg.ARC_PIER_STATE (n : Nat) : Nat := 0x40070400 + 0x4 * n
def Fld.ARC_PIER_STATE_STATE (n : Nat) : FieldRef := ⟨(Reg.ARC_PIER_STATE n), 28, 4⟩
def Fld.ARC_PIER_STATE_OUTLET (n : Nat) : FieldRef := ⟨(Reg.ARC_PIER_STATE n), 20, 5⟩
def Fld.ARC_PIER_STATE_TARGET (n : Nat) : FieldRef := ⟨(Reg.ARC_PIER_STATE n), 12, 5⟩
/-- ARC_XPk_STAT (06_arch_power_sharing.md). -/
def Reg.ARC_XP_STAT (k : Nat) : Nat := 0x40070800 + 0x4 * k
def Fld.ARC_XP_STAT_AUX (k : Nat) : FieldRef := ⟨(Reg.ARC_XP_STAT k), 7, 1⟩
def Fld.ARC_XP_STAT_DRIVE (k : Nat) : FieldRef := ⟨(Reg.ARC_XP_STAT k), 6, 1⟩
def Fld.ARC_XP_STAT_STATE (k : Nat) : FieldRef := ⟨(Reg.ARC_XP_STAT k), 0, 3⟩
/-- ARC_SHADOWw (06_arch_power_sharing.md). -/
def Reg.ARC_SHADOW (w : Nat) : Nat := 0x40071000 + 0x4 * w
def Fld.ARC_SHADOW_WORD (w : Nat) : FieldRef := ⟨(Reg.ARC_SHADOW w), 0, 32⟩
/-- GRD_Uu_CTRL (07_girder_and_caisson_converters.md). -/
def Reg.GRD_U_CTRL (u : Nat) : Nat := 0x40080000 + 0x2000 * u
def Fld.GRD_U_CTRL_PACE (u : Nat) : FieldRef := ⟨(Reg.GRD_U_CTRL u), 16, 16⟩
def Fld.GRD_U_CTRL_PAIR_IN (u : Nat) : FieldRef := ⟨(Reg.GRD_U_CTRL u), 14, 2⟩
def Fld.GRD_U_CTRL_PAIR (u : Nat) : FieldRef := ⟨(Reg.GRD_U_CTRL u), 4, 1⟩
def Fld.GRD_U_CTRL_BGC_FREEZE (u : Nat) : FieldRef := ⟨(Reg.GRD_U_CTRL u), 3, 1⟩
def Fld.GRD_U_CTRL_BGC_EN (u : Nat) : FieldRef := ⟨(Reg.GRD_U_CTRL u), 2, 1⟩
def Fld.GRD_U_CTRL_CONT_EN (u : Nat) : FieldRef := ⟨(Reg.GRD_U_CTRL u), 1, 1⟩
def Fld.GRD_U_CTRL_EN (u : Nat) : FieldRef := ⟨(Reg.GRD_U_CTRL u), 0, 1⟩
/-- GRD_Uu_STAT (07_girder_and_caisson_converters.md). -/
def Reg.GRD_U_STAT (u : Nat) : Nat := 0x40080004 + 0x2000 * u
def Fld.GRD_U_STAT_PAIRED (u : Nat) : FieldRef := ⟨(Reg.GRD_U_STAT u), 5, 1⟩
def Fld.GRD_U_STAT_COVERING (u : Nat) : FieldRef := ⟨(Reg.GRD_U_STAT u), 4, 1⟩
def Fld.GRD_U_STAT_BGC_LOCK (u : Nat) : FieldRef := ⟨(Reg.GRD_U_STAT u), 3, 1⟩
def Fld.GRD_U_STAT_CAL_BUSY (u : Nat) : FieldRef := ⟨(Reg.GRD_U_STAT u), 2, 1⟩
def Fld.GRD_U_STAT_INJ_BUSY (u : Nat) : FieldRef := ⟨(Reg.GRD_U_STAT u), 1, 1⟩
def Fld.GRD_U_STAT_CONT_BUSY (u : Nat) : FieldRef := ⟨(Reg.GRD_U_STAT u), 0, 1⟩
/-- GRD_Uu_CAL (07_girder_and_caisson_converters.md). -/
def Reg.GRD_U_CAL (u : Nat) : Nat := 0x40080008 + 0x2000 * u
def Fld.GRD_U_CAL_FAIL (u : Nat) : FieldRef := ⟨(Reg.GRD_U_CAL u), 3, 1⟩
def Fld.GRD_U_CAL_REFUSED (u : Nat) : FieldRef := ⟨(Reg.GRD_U_CAL u), 2, 1⟩
def Fld.GRD_U_CAL_DONE (u : Nat) : FieldRef := ⟨(Reg.GRD_U_CAL u), 1, 1⟩
def Fld.GRD_U_CAL_GO (u : Nat) : FieldRef := ⟨(Reg.GRD_U_CAL u), 0, 1⟩
/-- GRD_Uu_SEQ (07_girder_and_caisson_converters.md). -/
def Reg.GRD_U_SEQ (u : Nat) : Nat := 0x4008000c + 0x2000 * u
def Fld.GRD_U_SEQ_LEN (u : Nat) : FieldRef := ⟨(Reg.GRD_U_SEQ u), 0, 5⟩
/-- GRD_Uu_TRGg (07_girder_and_caisson_converters.md). -/
def Reg.GRD_U_TRG (u g : Nat) : Nat := 0x40080010 + 0x2000 * u + 0x4 * g
def Fld.GRD_U_TRG_EN (u g : Nat) : FieldRef := ⟨(Reg.GRD_U_TRG u g), 31, 1⟩
def Fld.GRD_U_TRG_SRC (u g : Nat) : FieldRef := ⟨(Reg.GRD_U_TRG u g), 28, 3⟩
def Fld.GRD_U_TRG_EDGE (u g : Nat) : FieldRef := ⟨(Reg.GRD_U_TRG u g), 26, 2⟩
def Fld.GRD_U_TRG_GSEL (u g : Nat) : FieldRef := ⟨(Reg.GRD_U_TRG u g), 24, 2⟩
def Fld.GRD_U_TRG_FIRST (u g : Nat) : FieldRef := ⟨(Reg.GRD_U_TRG u g), 20, 4⟩
def Fld.GRD_U_TRG_COUNT (u g : Nat) : FieldRef := ⟨(Reg.GRD_U_TRG u g), 16, 3⟩
def Fld.GRD_U_TRG_OFFSET (u g : Nat) : FieldRef := ⟨(Reg.GRD_U_TRG u g), 0, 16⟩
/-- GRD_Uu_TOVR (07_girder_and_caisson_converters.md). -/
def Reg.GRD_U_TOVR (u : Nat) : Nat := 0x40080020 + 0x2000 * u
def Fld.GRD_U_TOVR_COUNT (u : Nat) : FieldRef := ⟨(Reg.GRD_U_TOVR u), 0, 32⟩
/-- GRD_Uu_ENTe (07_girder_and_caisson_converters.md). -/
def Reg.GRD_U_ENT (u e : Nat) : Nat := 0x40080040 + 0x2000 * u + 0x4 * e
def Fld.GRD_U_ENT_SHIFT (u e : Nat) : FieldRef := ⟨(Reg.GRD_U_ENT u e), 12, 4⟩
def Fld.GRD_U_ENT_AVG (u e : Nat) : FieldRef := ⟨(Reg.GRD_U_ENT u e), 8, 4⟩
def Fld.GRD_U_ENT_SIGNED (u e : Nat) : FieldRef := ⟨(Reg.GRD_U_ENT u e), 7, 1⟩
def Fld.GRD_U_ENT_INPUT (u e : Nat) : FieldRef := ⟨(Reg.GRD_U_ENT u e), 0, 6⟩
/-- GRD_Uu_RESe (07_girder_and_caisson_converters.md). -/
def Reg.GRD_U_RES (u e : Nat) : Nat := 0x40080100 + 0x2000 * u + 0x4 * e
def Fld.GRD_U_RES_NEW (u e : Nat) : FieldRef := ⟨(Reg.GRD_U_RES u e), 31, 1⟩
def Fld.GRD_U_RES_COVER (u e : Nat) : FieldRef := ⟨(Reg.GRD_U_RES u e), 30, 1⟩
def Fld.GRD_U_RES_SAT (u e : Nat) : FieldRef := ⟨(Reg.GRD_U_RES u e), 29, 1⟩
def Fld.GRD_U_RES_LOST (u e : Nat) : FieldRef := ⟨(Reg.GRD_U_RES u e), 28, 1⟩
def Fld.GRD_U_RES_VALUE (u e : Nat) : FieldRef := ⟨(Reg.GRD_U_RES u e), 0, 16⟩
/-- GRD_Uu_CORs (07_girder_and_caisson_converters.md). -/
def Reg.GRD_U_COR (u s : Nat) : Nat := 0x40080200 + 0x2000 * u + 0x4 * s
def Fld.GRD_U_COR_GAIN (u s : Nat) : FieldRef := ⟨(Reg.GRD_U_COR u s), 16, 16⟩
def Fld.GRD_U_COR_SKEW (u s : Nat) : FieldRef := ⟨(Reg.GRD_U_COR u s), 8, 8⟩
def Fld.GRD_U_COR_OFF (u s : Nat) : FieldRef := ⟨(Reg.GRD_U_COR u s), 0, 8⟩
/-- GRD_Uu_CAPCTL (07_girder_and_caisson_converters.md). -/
def Reg.GRD_U_CAPCTL (u : Nat) : Nat := 0x40080300 + 0x2000 * u
def Fld.GRD_U_CAPCTL_ARM (u : Nat) : FieldRef := ⟨(Reg.GRD_U_CAPCTL u), 31, 1⟩
def Fld.GRD_U_CAPCTL_DONE (u : Nat) : FieldRef := ⟨(Reg.GRD_U_CAPCTL u), 30, 1⟩
def Fld.GRD_U_CAPCTL_ENTRY (u : Nat) : FieldRef := ⟨(Reg.GRD_U_CAPCTL u), 24, 5⟩
def Fld.GRD_U_CAPCTL_TRIG (u : Nat) : FieldRef := ⟨(Reg.GRD_U_CAPCTL u), 16, 5⟩
def Fld.GRD_U_CAPCTL_PRE (u : Nat) : FieldRef := ⟨(Reg.GRD_U_CAPCTL u), 0, 13⟩
/-- GRD_Uu_CAPPTR (07_girder_and_caisson_converters.md). -/
def Reg.GRD_U_CAPPTR (u : Nat) : Nat := 0x40080304 + 0x2000 * u
def Fld.GRD_U_CAPPTR_TRIGIDX (u : Nat) : FieldRef := ⟨(Reg.GRD_U_CAPPTR u), 0, 13⟩
/-- GRD_WINw_CFG (07_girder_and_caisson_converters.md). -/
def Reg.GRD_WIN_CFG (w : Nat) : Nat := 0x40088000 + 0x8 * w
def Fld.GRD_WIN_CFG_EN (w : Nat) : FieldRef := ⟨(Reg.GRD_WIN_CFG w), 31, 1⟩
def Fld.GRD_WIN_CFG_UNIT (w : Nat) : FieldRef := ⟨(Reg.GRD_WIN_CFG w), 30, 1⟩
def Fld.GRD_WIN_CFG_ENTRY (w : Nat) : FieldRef := ⟨(Reg.GRD_WIN_CFG w), 25, 5⟩
def Fld.GRD_WIN_CFG_HYST (w : Nat) : FieldRef := ⟨(Reg.GRD_WIN_CFG w), 0, 16⟩
/-- GRD_WINw_LIM (07_girder_and_caisson_converters.md). -/
def Reg.GRD_WIN_LIM (w : Nat) : Nat := 0x40088004 + 0x8 * w
def Fld.GRD_WIN_LIM_HI (w : Nat) : FieldRef := ⟨(Reg.GRD_WIN_LIM w), 16, 16⟩
def Fld.GRD_WIN_LIM_LO (w : Nat) : FieldRef := ⟨(Reg.GRD_WIN_LIM w), 0, 16⟩
/-- GRD_WIN_EVT (07_girder_and_caisson_converters.md). -/
def Reg.GRD_WIN_EVT : Nat := 0x40088100
def Fld.GRD_WIN_EVT_LEFT : FieldRef := ⟨Reg.GRD_WIN_EVT, 0, 32⟩
/-- GRD_WIN_OUT (07_girder_and_caisson_converters.md). -/
def Reg.GRD_WIN_OUT : Nat := 0x40088104
def Fld.GRD_WIN_OUT_OUT : FieldRef := ⟨Reg.GRD_WIN_OUT, 0, 32⟩
/-- GRD_MODj_CFG (07_girder_and_caisson_converters.md). -/
def Reg.GRD_MOD_CFG (j : Nat) : Nat := 0x40088200 + 0x4 * j
def Fld.GRD_MOD_CFG_EN (j : Nat) : FieldRef := ⟨(Reg.GRD_MOD_CFG j), 31, 1⟩
def Fld.GRD_MOD_CFG_OSR (j : Nat) : FieldRef := ⟨(Reg.GRD_MOD_CFG j), 0, 2⟩
/-- GRD_MODj_RES (07_girder_and_caisson_converters.md). -/
def Reg.GRD_MOD_RES (j : Nat) : Nat := 0x40088240 + 0x4 * j
def Fld.GRD_MOD_RES_FAULT (j : Nat) : FieldRef := ⟨(Reg.GRD_MOD_RES j), 31, 1⟩
def Fld.GRD_MOD_RES_VALUE (j : Nat) : FieldRef := ⟨(Reg.GRD_MOD_RES j), 0, 16⟩
/-- CSN_CHc_RES (07_girder_and_caisson_converters.md). -/
def Reg.CSN_CH_RES (c : Nat) : Nat := 0x40090000 + 0x4 * c
def Fld.CSN_CH_RES_VALUE (c : Nat) : FieldRef := ⟨(Reg.CSN_CH_RES c), 0, 32⟩
/-- CSN_CHc_STAT (07_girder_and_caisson_converters.md). -/
def Reg.CSN_CH_STAT (c : Nat) : Nat := 0x40090100 + 0x4 * c
def Fld.CSN_CH_STAT_COUNT (c : Nat) : FieldRef := ⟨(Reg.CSN_CH_STAT c), 8, 24⟩
def Fld.CSN_CH_STAT_DISC (c : Nat) : FieldRef := ⟨(Reg.CSN_CH_STAT c), 3, 1⟩
def Fld.CSN_CH_STAT_OVR (c : Nat) : FieldRef := ⟨(Reg.CSN_CH_STAT c), 2, 1⟩
def Fld.CSN_CH_STAT_STUCK (c : Nat) : FieldRef := ⟨(Reg.CSN_CH_STAT c), 1, 1⟩
def Fld.CSN_CH_STAT_VALID (c : Nat) : FieldRef := ⟨(Reg.CSN_CH_STAT c), 0, 1⟩
/-- CSN_CHc_CFG (07_girder_and_caisson_converters.md). -/
def Reg.CSN_CH_CFG (c : Nat) : Nat := 0x40090200 + 0x4 * c
def Fld.CSN_CH_CFG_INVERT (c : Nat) : FieldRef := ⟨(Reg.CSN_CH_CFG c), 18, 1⟩
def Fld.CSN_CH_CFG_TRUSS_OUT (c : Nat) : FieldRef := ⟨(Reg.CSN_CH_CFG c), 17, 1⟩
def Fld.CSN_CH_CFG_LEGAL (c : Nat) : FieldRef := ⟨(Reg.CSN_CH_CFG c), 16, 1⟩
def Fld.CSN_CH_CFG_EDGE (c : Nat) : FieldRef := ⟨(Reg.CSN_CH_CFG c), 12, 1⟩
def Fld.CSN_CH_CFG_MCLK (c : Nat) : FieldRef := ⟨(Reg.CSN_CH_CFG c), 10, 2⟩
def Fld.CSN_CH_CFG_OSR (c : Nat) : FieldRef := ⟨(Reg.CSN_CH_CFG c), 8, 2⟩
def Fld.CSN_CH_CFG_SRC (c : Nat) : FieldRef := ⟨(Reg.CSN_CH_CFG c), 0, 8⟩
/-- CSN_MCLK (07_girder_and_caisson_converters.md). -/
def Reg.CSN_MCLK : Nat := 0x40090300
def Fld.CSN_MCLK_DRIVEN : FieldRef := ⟨Reg.CSN_MCLK, 0, 4⟩
/-- CSN_DCp_CFG (08_metrology.md). -/
def Reg.CSN_DC_CFG (p : Nat) : Nat := 0x40090400 + 0x80 * p
def Fld.CSN_DC_CFG_EN (p : Nat) : FieldRef := ⟨(Reg.CSN_DC_CFG p), 31, 1⟩
def Fld.CSN_DC_CFG_COMP (p : Nat) : FieldRef := ⟨(Reg.CSN_DC_CFG p), 30, 1⟩
def Fld.CSN_DC_CFG_ICH (p : Nat) : FieldRef := ⟨(Reg.CSN_DC_CFG p), 8, 6⟩
def Fld.CSN_DC_CFG_VCH (p : Nat) : FieldRef := ⟨(Reg.CSN_DC_CFG p), 0, 6⟩
/-- CSN_DCp_CABLE (08_metrology.md). -/
def Reg.CSN_DC_CABLE (p : Nat) : Nat := 0x40090404 + 0x80 * p
def Fld.CSN_DC_CABLE_R_REF (p : Nat) : FieldRef := ⟨(Reg.CSN_DC_CABLE p), 16, 16⟩
def Fld.CSN_DC_CABLE_ALPHA (p : Nat) : FieldRef := ⟨(Reg.CSN_DC_CABLE p), 0, 16⟩
/-- CSN_DCp_THETA (08_metrology.md). -/
def Reg.CSN_DC_THETA (p : Nat) : Nat := 0x40090408 + 0x80 * p
def Fld.CSN_DC_THETA_THETA_REF (p : Nat) : FieldRef := ⟨(Reg.CSN_DC_THETA p), 16, 16⟩
def Fld.CSN_DC_THETA_THETA_MAX (p : Nat) : FieldRef := ⟨(Reg.CSN_DC_THETA p), 0, 16⟩
/-- CSN_DCp_QCOR (08_metrology.md). -/
def Reg.CSN_DC_QCOR (p : Nat) : Nat := 0x4009040c + 0x80 * p
def Fld.CSN_DC_QCOR_PGAIN (p : Nat) : FieldRef := ⟨(Reg.CSN_DC_QCOR p), 16, 16⟩
def Fld.CSN_DC_QCOR_POFF (p : Nat) : FieldRef := ⟨(Reg.CSN_DC_QCOR p), 0, 16⟩
/-- CSN_DCp_START (08_metrology.md). -/
def Reg.CSN_DC_START (p : Nat) : Nat := 0x40090410 + 0x80 * p
def Fld.CSN_DC_START_ISTART (p : Nat) : FieldRef := ⟨(Reg.CSN_DC_START p), 0, 16⟩
/-- CSN_DCp_MEASw (08_metrology.md). -/
def Reg.CSN_DC_MEAS (p w : Nat) : Nat := 0x40090420 + 0x80 * p + 0x4 * w
def Fld.CSN_DC_MEAS_VALUE (p w : Nat) : FieldRef := ⟨(Reg.CSN_DC_MEAS p w), 0, 32⟩
/-- CSN_DCp_STAT (08_metrology.md). -/
def Reg.CSN_DC_STAT (p : Nat) : Nat := 0x40090434 + 0x80 * p
def Fld.CSN_DC_STAT_RESID (p : Nat) : FieldRef := ⟨(Reg.CSN_DC_STAT p), 6, 1⟩
def Fld.CSN_DC_STAT_XSUSP (p : Nat) : FieldRef := ⟨(Reg.CSN_DC_STAT p), 5, 1⟩
def Fld.CSN_DC_STAT_DISCREP (p : Nat) : FieldRef := ⟨(Reg.CSN_DC_STAT p), 4, 1⟩
def Fld.CSN_DC_STAT_TSUB (p : Nat) : FieldRef := ⟨(Reg.CSN_DC_STAT p), 3, 1⟩
def Fld.CSN_DC_STAT_OVR (p : Nat) : FieldRef := ⟨(Reg.CSN_DC_STAT p), 2, 1⟩
def Fld.CSN_DC_STAT_CREEP (p : Nat) : FieldRef := ⟨(Reg.CSN_DC_STAT p), 1, 1⟩
def Fld.CSN_DC_STAT_MEAS (p : Nat) : FieldRef := ⟨(Reg.CSN_DC_STAT p), 0, 1⟩
/-- CSN_DCp_XCHK (08_metrology.md). -/
def Reg.CSN_DC_XCHK (p : Nat) : Nat := 0x40090438 + 0x80 * p
def Fld.CSN_DC_XCHK_DIFF (p : Nat) : FieldRef := ⟨(Reg.CSN_DC_XCHK p), 16, 16⟩
def Fld.CSN_DC_XCHK_COUNT (p : Nat) : FieldRef := ⟨(Reg.CSN_DC_XCHK p), 0, 7⟩
/-- CSN_DCp_Ew (08_metrology.md). -/
def Reg.CSN_DC_E (p w : Nat) : Nat := 0x40090440 + 0x80 * p + 0x4 * w
def Fld.CSN_DC_E_WORD (p w : Nat) : FieldRef := ⟨(Reg.CSN_DC_E p w), 0, 32⟩
/-- CSN_DCp_VIEWw (08_metrology.md). -/
def Reg.CSN_DC_VIEW (p w : Nat) : Nat := 0x40090460 + 0x80 * p + 0x4 * w
def Fld.CSN_DC_VIEW_WH (p w : Nat) : FieldRef := ⟨(Reg.CSN_DC_VIEW p w), 0, 32⟩
/-- CSN_DCp_WRAP (08_metrology.md). -/
def Reg.CSN_DC_WRAP (p : Nat) : Nat := 0x40090468 + 0x80 * p
def Fld.CSN_DC_WRAP_EXP (p : Nat) : FieldRef := ⟨(Reg.CSN_DC_WRAP p), 16, 16⟩
def Fld.CSN_DC_WRAP_IMP (p : Nat) : FieldRef := ⟨(Reg.CSN_DC_WRAP p), 0, 16⟩
/-- CSN_ACg_CFG (08_metrology.md). -/
def Reg.CSN_AC_CFG (g : Nat) : Nat := 0x40090800 + 0x200 * g
def Fld.CSN_AC_CFG_EN (g : Nat) : FieldRef := ⟨(Reg.CSN_AC_CFG g), 31, 1⟩
def Fld.CSN_AC_CFG_NOMF (g : Nat) : FieldRef := ⟨(Reg.CSN_AC_CFG g), 30, 1⟩
def Fld.CSN_AC_CFG_ISTART (g : Nat) : FieldRef := ⟨(Reg.CSN_AC_CFG g), 0, 16⟩
/-- CSN_ACg_VCH (08_metrology.md). -/
def Reg.CSN_AC_VCH (g : Nat) : Nat := 0x40090804 + 0x200 * g
def Fld.CSN_AC_VCH_C (g : Nat) : FieldRef := ⟨(Reg.CSN_AC_VCH g), 16, 6⟩
def Fld.CSN_AC_VCH_B (g : Nat) : FieldRef := ⟨(Reg.CSN_AC_VCH g), 8, 6⟩
def Fld.CSN_AC_VCH_A (g : Nat) : FieldRef := ⟨(Reg.CSN_AC_VCH g), 0, 6⟩
/-- CSN_ACg_ICH (08_metrology.md). -/
def Reg.CSN_AC_ICH (g : Nat) : Nat := 0x40090808 + 0x200 * g
def Fld.CSN_AC_ICH_C (g : Nat) : FieldRef := ⟨(Reg.CSN_AC_ICH g), 16, 6⟩
def Fld.CSN_AC_ICH_B (g : Nat) : FieldRef := ⟨(Reg.CSN_AC_ICH g), 8, 6⟩
def Fld.CSN_AC_ICH_A (g : Nat) : FieldRef := ⟨(Reg.CSN_AC_ICH g), 0, 6⟩
/-- CSN_ACg_QCORx (08_metrology.md). -/
def Reg.CSN_AC_QCOR (g x : Nat) : Nat := 0x40090810 + 0x200 * g + 0x4 * x
def Fld.CSN_AC_QCOR_G (g x : Nat) : FieldRef := ⟨(Reg.CSN_AC_QCOR g x), 16, 16⟩
def Fld.CSN_AC_QCOR_OFF (g x : Nat) : FieldRef := ⟨(Reg.CSN_AC_QCOR g x), 0, 16⟩
/-- CSN_ACg_PHh_Qq (08_metrology.md). -/
def Reg.CSN_AC_PH_Q (g h q : Nat) : Nat := 0x40090840 + 0x200 * g + 0x40 * h + 0x4 * q
def Fld.CSN_AC_PH_Q_VALUE (g h q : Nat) : FieldRef := ⟨(Reg.CSN_AC_PH_Q g h q), 0, 32⟩
/-- CSN_ACg_ELOx (08_metrology.md). -/
def Reg.CSN_AC_ELO (g x : Nat) : Nat := 0x40090900 + 0x200 * g + 0x8 * x
def Fld.CSN_AC_ELO_WORD (g x : Nat) : FieldRef := ⟨(Reg.CSN_AC_ELO g x), 0, 32⟩
/-- CSN_ACg_EHIx (08_metrology.md). -/
def Reg.CSN_AC_EHI (g x : Nat) : Nat := 0x40090904 + 0x200 * g + 0x8 * x
def Fld.CSN_AC_EHI_WORD (g x : Nat) : FieldRef := ⟨(Reg.CSN_AC_EHI g x), 0, 32⟩
/-- CSN_ACg_VIEWx (08_metrology.md). -/
def Reg.CSN_AC_VIEW (g x : Nat) : Nat := 0x40090980 + 0x200 * g + 0x4 * x
def Fld.CSN_AC_VIEW_WH (g x : Nat) : FieldRef := ⟨(Reg.CSN_AC_VIEW g x), 0, 32⟩
/-- CSN_ACg_WRAPy (08_metrology.md). -/
def Reg.CSN_AC_WRAP (g y : Nat) : Nat := 0x400909c0 + 0x200 * g + 0x4 * y
def Fld.CSN_AC_WRAP_ODD (g y : Nat) : FieldRef := ⟨(Reg.CSN_AC_WRAP g y), 16, 16⟩
def Fld.CSN_AC_WRAP_EVEN (g y : Nat) : FieldRef := ⟨(Reg.CSN_AC_WRAP g y), 0, 16⟩
/-- CSN_ACg_FREQ (08_metrology.md). -/
def Reg.CSN_AC_FREQ (g : Nat) : Nat := 0x400909e0 + 0x200 * g
def Fld.CSN_AC_FREQ_HZ (g : Nat) : FieldRef := ⟨(Reg.CSN_AC_FREQ g), 0, 32⟩
/-- CSN_ACg_STAT (08_metrology.md). -/
def Reg.CSN_AC_STAT (g : Nat) : Nat := 0x400909e4 + 0x200 * g
def Fld.CSN_AC_STAT_RESID (g : Nat) : FieldRef := ⟨(Reg.CSN_AC_STAT g), 4, 1⟩
def Fld.CSN_AC_STAT_FLOCK (g : Nat) : FieldRef := ⟨(Reg.CSN_AC_STAT g), 3, 1⟩
def Fld.CSN_AC_STAT_OVR (g : Nat) : FieldRef := ⟨(Reg.CSN_AC_STAT g), 2, 1⟩
def Fld.CSN_AC_STAT_CREEP (g : Nat) : FieldRef := ⟨(Reg.CSN_AC_STAT g), 1, 1⟩
def Fld.CSN_AC_STAT_MEAS (g : Nat) : FieldRef := ⟨(Reg.CSN_AC_STAT g), 0, 1⟩
/-- CSN_CHc_SCALE (08_metrology.md). -/
def Reg.CSN_CH_SCALE (c : Nat) : Nat := 0x40091000 + 0x10 * c
def Fld.CSN_CH_SCALE_SCALE (c : Nat) : FieldRef := ⟨(Reg.CSN_CH_SCALE c), 0, 32⟩
/-- CSN_CHc_GOFF (08_metrology.md). -/
def Reg.CSN_CH_GOFF (c : Nat) : Nat := 0x40091004 + 0x10 * c
def Fld.CSN_CH_GOFF_GAIN (c : Nat) : FieldRef := ⟨(Reg.CSN_CH_GOFF c), 16, 16⟩
def Fld.CSN_CH_GOFF_OFFSET (c : Nat) : FieldRef := ⟨(Reg.CSN_CH_GOFF c), 0, 16⟩
/-- CSN_CHc_DYN (08_metrology.md). -/
def Reg.CSN_CH_DYN (c : Nat) : Nat := 0x40091008 + 0x10 * c
def Fld.CSN_CH_DYN_RG_EN (c : Nat) : FieldRef := ⟨(Reg.CSN_CH_DYN c), 31, 1⟩
def Fld.CSN_CH_DYN_CORNER (c : Nat) : FieldRef := ⟨(Reg.CSN_CH_DYN c), 16, 8⟩
def Fld.CSN_CH_DYN_DELAY (c : Nat) : FieldRef := ⟨(Reg.CSN_CH_DYN c), 0, 16⟩
/-- CSN_CHc_CAL (08_metrology.md). -/
def Reg.CSN_CH_CAL (c : Nat) : Nat := 0x4009100c + 0x10 * c
def Fld.CSN_CH_CAL_VALUE (c : Nat) : FieldRef := ⟨(Reg.CSN_CH_CAL c), 0, 32⟩
/-- TOL_MSNAP (08_metrology.md). -/
def Reg.TOL_MSNAP : Nat := 0x400a0800
def Fld.TOL_MSNAP_SEQ : FieldRef := ⟨Reg.TOL_MSNAP, 16, 16⟩
def Fld.TOL_MSNAP_DONE : FieldRef := ⟨Reg.TOL_MSNAP, 1, 1⟩
def Fld.TOL_MSNAP_GO : FieldRef := ⟨Reg.TOL_MSNAP, 0, 1⟩
/-- TOL_MCAL (08_metrology.md). -/
def Reg.TOL_MCAL : Nat := 0x400a0804
def Fld.TOL_MCAL_GO : FieldRef := ⟨Reg.TOL_MCAL, 31, 1⟩
def Fld.TOL_MCAL_BUSY : FieldRef := ⟨Reg.TOL_MCAL, 30, 1⟩
def Fld.TOL_MCAL_DONE : FieldRef := ⟨Reg.TOL_MCAL, 29, 1⟩
def Fld.TOL_MCAL_MODE : FieldRef := ⟨Reg.TOL_MCAL, 28, 1⟩
def Fld.TOL_MCAL_LEN : FieldRef := ⟨Reg.TOL_MCAL, 0, 16⟩
/-- TOL_MEVT (08_metrology.md). -/
def Reg.TOL_MEVT : Nat := 0x400a0808
def Fld.TOL_MEVT_RESIDUE : FieldRef := ⟨Reg.TOL_MEVT, 5, 1⟩
def Fld.TOL_MEVT_FLOCK : FieldRef := ⟨Reg.TOL_MEVT, 4, 1⟩
def Fld.TOL_MEVT_TSUB : FieldRef := ⟨Reg.TOL_MEVT, 3, 1⟩
def Fld.TOL_MEVT_DISCREP : FieldRef := ⟨Reg.TOL_MEVT, 2, 1⟩
def Fld.TOL_MEVT_OVR : FieldRef := ⟨Reg.TOL_MEVT, 1, 1⟩
def Fld.TOL_MEVT_GAP : FieldRef := ⟨Reg.TOL_MEVT, 0, 1⟩
/-- TOL_TIMELO (09_tariffs_and_time.md). -/
def Reg.TOL_TIMELO : Nat := 0x400a0000
def Fld.TOL_TIMELO_SEC_LO : FieldRef := ⟨Reg.TOL_TIMELO, 0, 32⟩
/-- TOL_TIMEHI (09_tariffs_and_time.md). -/
def Reg.TOL_TIMEHI : Nat := 0x400a0004
def Fld.TOL_TIMEHI_SEC_HI : FieldRef := ⟨Reg.TOL_TIMEHI, 0, 32⟩
/-- TOL_TIMESUB (09_tariffs_and_time.md). -/
def Reg.TOL_TIMESUB : Nat := 0x400a0008
def Fld.TOL_TIMESUB_SUB : FieldRef := ⟨Reg.TOL_TIMESUB, 0, 16⟩
/-- TOL_TSTAT (09_tariffs_and_time.md). -/
def Reg.TOL_TSTAT : Nat := 0x400a000c
def Fld.TOL_TSTAT_DEFAULT : FieldRef := ⟨Reg.TOL_TSTAT, 17, 1⟩
def Fld.TOL_TSTAT_TARIFF : FieldRef := ⟨Reg.TOL_TSTAT, 14, 3⟩
def Fld.TOL_TSTAT_PROFILE : FieldRef := ⟨Reg.TOL_TSTAT, 10, 4⟩
def Fld.TOL_TSTAT_SEASON : FieldRef := ⟨Reg.TOL_TSTAT, 8, 2⟩
def Fld.TOL_TSTAT_WEEKDAY : FieldRef := ⟨Reg.TOL_TSTAT, 5, 3⟩
def Fld.TOL_TSTAT_DST : FieldRef := ⟨Reg.TOL_TSTAT, 4, 1⟩
def Fld.TOL_TSTAT_BELOW_HWM : FieldRef := ⟨Reg.TOL_TSTAT, 3, 1⟩
def Fld.TOL_TSTAT_SLEW : FieldRef := ⟨Reg.TOL_TSTAT, 2, 1⟩
def Fld.TOL_TSTAT_STATE : FieldRef := ⟨Reg.TOL_TSTAT, 0, 2⟩
/-- TOL_EB (09_tariffs_and_time.md). -/
def Reg.TOL_EB : Nat := 0x400a0010
def Fld.TOL_EB_MS : FieldRef := ⟨Reg.TOL_EB, 0, 32⟩
/-- TOL_TSETLO (09_tariffs_and_time.md). -/
def Reg.TOL_TSETLO : Nat := 0x400a0014
def Fld.TOL_TSETLO_SEC : FieldRef := ⟨Reg.TOL_TSETLO, 0, 32⟩
/-- TOL_TSETHI (09_tariffs_and_time.md). -/
def Reg.TOL_TSETHI : Nat := 0x400a0018
def Fld.TOL_TSETHI_SEC : FieldRef := ⟨Reg.TOL_TSETHI, 0, 32⟩
/-- TOL_TSETC (09_tariffs_and_time.md). -/
def Reg.TOL_TSETC : Nat := 0x400a001c
def Fld.TOL_TSETC_GO : FieldRef := ⟨Reg.TOL_TSETC, 31, 1⟩
def Fld.TOL_TSETC_BUSY : FieldRef := ⟨Reg.TOL_TSETC, 30, 1⟩
def Fld.TOL_TSETC_RESULT : FieldRef := ⟨Reg.TOL_TSETC, 28, 2⟩
def Fld.TOL_TSETC_MODE : FieldRef := ⟨Reg.TOL_TSETC, 27, 1⟩
def Fld.TOL_TSETC_ACC : FieldRef := ⟨Reg.TOL_TSETC, 0, 24⟩
/-- TOL_TADJ (09_tariffs_and_time.md). -/
def Reg.TOL_TADJ : Nat := 0x400a0020
def Fld.TOL_TADJ_SETS : FieldRef := ⟨Reg.TOL_TADJ, 16, 16⟩
def Fld.TOL_TADJ_SUM24 : FieldRef := ⟨Reg.TOL_TADJ, 0, 16⟩
/-- TOL_HWMLO (09_tariffs_and_time.md). -/
def Reg.TOL_HWMLO : Nat := 0x400a0024
def Fld.TOL_HWMLO_SEC : FieldRef := ⟨Reg.TOL_HWMLO, 0, 32⟩
/-- TOL_HWMHI (09_tariffs_and_time.md). -/
def Reg.TOL_HWMHI : Nat := 0x400a0028
def Fld.TOL_HWMHI_SEC : FieldRef := ⟨Reg.TOL_HWMHI, 0, 32⟩
/-- TOL_TLIM (09_tariffs_and_time.md). -/
def Reg.TOL_TLIM : Nat := 0x400a002c
def Fld.TOL_TLIM_DRIFT : FieldRef := ⟨Reg.TOL_TLIM, 24, 8⟩
def Fld.TOL_TLIM_INV_S : FieldRef := ⟨Reg.TOL_TLIM, 12, 12⟩
def Fld.TOL_TLIM_UNC_S : FieldRef := ⟨Reg.TOL_TLIM, 0, 12⟩
/-- TOL_CALCTL (09_tariffs_and_time.md). -/
def Reg.TOL_CALCTL : Nat := 0x400a0040
def Fld.TOL_CALCTL_KEY : FieldRef := ⟨Reg.TOL_CALCTL, 16, 16⟩
def Fld.TOL_CALCTL_REASON : FieldRef := ⟨Reg.TOL_CALCTL, 8, 4⟩
def Fld.TOL_CALCTL_BUSY : FieldRef := ⟨Reg.TOL_CALCTL, 4, 1⟩
def Fld.TOL_CALCTL_REFUSED : FieldRef := ⟨Reg.TOL_CALCTL, 3, 1⟩
def Fld.TOL_CALCTL_DONE : FieldRef := ⟨Reg.TOL_CALCTL, 2, 1⟩
def Fld.TOL_CALCTL_CANCEL : FieldRef := ⟨Reg.TOL_CALCTL, 1, 1⟩
def Fld.TOL_CALCTL_LOAD : FieldRef := ⟨Reg.TOL_CALCTL, 0, 1⟩
/-- TOL_CALINFOw (09_tariffs_and_time.md). -/
def Reg.TOL_CALINFO (w : Nat) : Nat := 0x400a0044 + 0x4 * w
def Fld.TOL_CALINFO_VALUE (w : Nat) : FieldRef := ⟨(Reg.TOL_CALINFO w), 0, 32⟩
/-- TOL_DEMCFG (09_tariffs_and_time.md). -/
def Reg.TOL_DEMCFG : Nat := 0x400a0060
def Fld.TOL_DEMCFG_LEN : FieldRef := ⟨Reg.TOL_DEMCFG, 0, 16⟩
/-- TOL_TEVT (09_tariffs_and_time.md). -/
def Reg.TOL_TEVT : Nat := 0x400a0064
def Fld.TOL_TEVT_SESSION : FieldRef := ⟨Reg.TOL_TEVT, 10, 1⟩
def Fld.TOL_TEVT_UNRESOLVED : FieldRef := ⟨Reg.TOL_TEVT, 9, 1⟩
def Fld.TOL_TEVT_BELOW_HWM : FieldRef := ⟨Reg.TOL_TEVT, 8, 1⟩
def Fld.TOL_TEVT_BILLCLOSE : FieldRef := ⟨Reg.TOL_TEVT, 7, 1⟩
def Fld.TOL_TEVT_DEMAND : FieldRef := ⟨Reg.TOL_TEVT, 6, 1⟩
def Fld.TOL_TEVT_CAL_BAD : FieldRef := ⟨Reg.TOL_TEVT, 5, 1⟩
def Fld.TOL_TEVT_CAL_ACT : FieldRef := ⟨Reg.TOL_TEVT, 4, 1⟩
def Fld.TOL_TEVT_CAL_LOAD : FieldRef := ⟨Reg.TOL_TEVT, 3, 1⟩
def Fld.TOL_TEVT_STATE : FieldRef := ⟨Reg.TOL_TEVT, 2, 1⟩
def Fld.TOL_TEVT_SET : FieldRef := ⟨Reg.TOL_TEVT, 1, 1⟩
def Fld.TOL_TEVT_ADJUST : FieldRef := ⟨Reg.TOL_TEVT, 0, 1⟩
/-- TOL_SESSp_CTRL (09_tariffs_and_time.md). -/
def Reg.TOL_SESS_CTRL (p : Nat) : Nat := 0x400a0100 + 0x20 * p
def Fld.TOL_SESS_CTRL_STATE (p : Nat) : FieldRef := ⟨(Reg.TOL_SESS_CTRL p), 4, 2⟩
def Fld.TOL_SESS_CTRL_REFUSED (p : Nat) : FieldRef := ⟨(Reg.TOL_SESS_CTRL p), 3, 1⟩
def Fld.TOL_SESS_CTRL_RECORD (p : Nat) : FieldRef := ⟨(Reg.TOL_SESS_CTRL p), 2, 1⟩
def Fld.TOL_SESS_CTRL_STOP (p : Nat) : FieldRef := ⟨(Reg.TOL_SESS_CTRL p), 1, 1⟩
def Fld.TOL_SESS_CTRL_START (p : Nat) : FieldRef := ⟨(Reg.TOL_SESS_CTRL p), 0, 1⟩
/-- TOL_SESSp_EXTw (09_tariffs_and_time.md). -/
def Reg.TOL_SESS_EXT (p w : Nat) : Nat := 0x400a0104 + 0x20 * p + 0x4 * w
def Fld.TOL_SESS_EXT_ID (p w : Nat) : FieldRef := ⟨(Reg.TOL_SESS_EXT p w), 0, 32⟩
/-- TOL_DCp_Tt_Ew (09_tariffs_and_time.md). -/
def Reg.TOL_DC_T_E (p t w : Nat) : Nat := 0x400a1000 + 0x100 * p + 0x10 * t + 0x4 * w
def Fld.TOL_DC_T_E_WORD (p t w : Nat) : FieldRef := ⟨(Reg.TOL_DC_T_E p t w), 0, 32⟩
/-- TOL_ACg_Tt_Ew (09_tariffs_and_time.md). -/
def Reg.TOL_AC_T_E (g t w : Nat) : Nat := 0x400a1800 + 0x100 * g + 0x10 * t + 0x4 * w
def Fld.TOL_AC_T_E_WORD (g t w : Nat) : FieldRef := ⟨(Reg.TOL_AC_T_E g t w), 0, 32⟩
/-- TOL_ACg_DEMw (09_tariffs_and_time.md). -/
def Reg.TOL_AC_DEM (g w : Nat) : Nat := 0x400a1c00 + 0x100 * g + 0x4 * w
def Fld.TOL_AC_DEM_VALUE (g w : Nat) : FieldRef := ⟨(Reg.TOL_AC_DEM g w), 0, 32⟩
/-- TOL_ACg_MDv (09_tariffs_and_time.md). -/
def Reg.TOL_AC_MD (g v : Nat) : Nat := 0x400a1c10 + 0x100 * g + 0x8 * v
def Fld.TOL_AC_MD_KW (g v : Nat) : FieldRef := ⟨(Reg.TOL_AC_MD g v), 0, 32⟩
/-- TOL_ACg_PMDv (09_tariffs_and_time.md). -/
def Reg.TOL_AC_PMD (g v : Nat) : Nat := 0x400a1c70 + 0x100 * g + 0x8 * v
def Fld.TOL_AC_PMD_KW (g v : Nat) : FieldRef := ⟨(Reg.TOL_AC_PMD g v), 0, 32⟩
/-- TOL_ACg_MDTv (09_tariffs_and_time.md). -/
def Reg.TOL_AC_MDT (g v : Nat) : Nat := 0x400a1c14 + 0x100 * g + 0x8 * v
def Fld.TOL_AC_MDT_SEC (g v : Nat) : FieldRef := ⟨(Reg.TOL_AC_MDT g v), 0, 32⟩
/-- TOL_ACg_PMDTv (09_tariffs_and_time.md). -/
def Reg.TOL_AC_PMDT (g v : Nat) : Nat := 0x400a1c74 + 0x100 * g + 0x8 * v
def Fld.TOL_AC_PMDT_SEC (g v : Nat) : FieldRef := ⟨(Reg.TOL_AC_PMDT g v), 0, 32⟩
/-- TOL_SESSp_Ww (09_tariffs_and_time.md). -/
def Reg.TOL_SESS_W (p w : Nat) : Nat := 0x400a2000 + 0x100 * p + 0x4 * w
def Fld.TOL_SESS_W_WORD (p w : Nat) : FieldRef := ⟨(Reg.TOL_SESS_W p w), 0, 32⟩
/-- TOL_CALBUFw (09_tariffs_and_time.md). -/
def Reg.TOL_CALBUF (w : Nat) : Nat := 0x400a3000 + 0x4 * w
def Fld.TOL_CALBUF_WORD (w : Nat) : FieldRef := ⟨(Reg.TOL_CALBUF w), 0, 32⟩
/-- TOL_CALAw (09_tariffs_and_time.md). -/
def Reg.TOL_CALA (w : Nat) : Nat := 0x400a3800 + 0x4 * w
def Fld.TOL_CALA_WORD (w : Nat) : FieldRef := ⟨(Reg.TOL_CALA w), 0, 32⟩
/-- TOL_CALPw (09_tariffs_and_time.md). -/
def Reg.TOL_CALP (w : Nat) : Nat := 0x400a4000 + 0x4 * w
def Fld.TOL_CALP_WORD (w : Nat) : FieldRef := ⟨(Reg.TOL_CALP w), 0, 32⟩
/-- TOL_BOOK (10_toll_book_and_records.md). -/
def Reg.TOL_BOOK : Nat := 0x400a0a00
def Fld.TOL_BOOK_SLOTS : FieldRef := ⟨Reg.TOL_BOOK, 24, 8⟩
def Fld.TOL_BOOK_SAVE_S : FieldRef := ⟨Reg.TOL_BOOK, 6, 10⟩
def Fld.TOL_BOOK_FOREIGN : FieldRef := ⟨Reg.TOL_BOOK, 5, 1⟩
def Fld.TOL_BOOK_DAMAGED : FieldRef := ⟨Reg.TOL_BOOK, 4, 1⟩
def Fld.TOL_BOOK_LG_FAIL : FieldRef := ⟨Reg.TOL_BOOK, 3, 1⟩
def Fld.TOL_BOOK_LG_USED : FieldRef := ⟨Reg.TOL_BOOK, 2, 1⟩
def Fld.TOL_BOOK_LG_ARMED : FieldRef := ⟨Reg.TOL_BOOK, 1, 1⟩
def Fld.TOL_BOOK_INIT : FieldRef := ⟨Reg.TOL_BOOK, 0, 1⟩
/-- TOL_SAVE (10_toll_book_and_records.md). -/
def Reg.TOL_SAVE : Nat := 0x400a0a04
def Fld.TOL_SAVE_GO : FieldRef := ⟨Reg.TOL_SAVE, 31, 1⟩
def Fld.TOL_SAVE_BUSY : FieldRef := ⟨Reg.TOL_SAVE, 30, 1⟩
/-- TOL_SAVESEQ (10_toll_book_and_records.md). -/
def Reg.TOL_SAVESEQ : Nat := 0x400a0a08
def Fld.TOL_SAVESEQ_SEQ : FieldRef := ⟨Reg.TOL_SAVESEQ, 0, 32⟩
/-- TOL_LOGSTAT (10_toll_book_and_records.md). -/
def Reg.TOL_LOGSTAT : Nat := 0x400a0a10
def Fld.TOL_LOGSTAT_ROLL : FieldRef := ⟨Reg.TOL_LOGSTAT, 23, 9⟩
def Fld.TOL_LOGSTAT_UNER : FieldRef := ⟨Reg.TOL_LOGSTAT, 8, 8⟩
def Fld.TOL_LOGSTAT_ARCH : FieldRef := ⟨Reg.TOL_LOGSTAT, 0, 8⟩
/-- TOL_LOGSEL (10_toll_book_and_records.md). -/
def Reg.TOL_LOGSEL : Nat := 0x400a0a14
def Fld.TOL_LOGSEL_CLASS : FieldRef := ⟨Reg.TOL_LOGSEL, 31, 1⟩
def Fld.TOL_LOGSEL_IDX : FieldRef := ⟨Reg.TOL_LOGSEL, 0, 9⟩
/-- TOL_LOGw (10_toll_book_and_records.md). -/
def Reg.TOL_LOG (w : Nat) : Nat := 0x400a0a20 + 0x4 * w
def Fld.TOL_LOG_WORD (w : Nat) : FieldRef := ⟨(Reg.TOL_LOG w), 0, 32⟩
/-- TOL_ARCCTL (10_toll_book_and_records.md). -/
def Reg.TOL_ARCCTL : Nat := 0x400a0a40
def Fld.TOL_ARCCTL_KEY : FieldRef := ⟨Reg.TOL_ARCCTL, 16, 16⟩
def Fld.TOL_ARCCTL_REASON : FieldRef := ⟨Reg.TOL_ARCCTL, 8, 4⟩
def Fld.TOL_ARCCTL_FAIL : FieldRef := ⟨Reg.TOL_ARCCTL, 3, 1⟩
def Fld.TOL_ARCCTL_DONE : FieldRef := ⟨Reg.TOL_ARCCTL, 2, 1⟩
def Fld.TOL_ARCCTL_BUSY : FieldRef := ⟨Reg.TOL_ARCCTL, 1, 1⟩
def Fld.TOL_ARCCTL_GO : FieldRef := ⟨Reg.TOL_ARCCTL, 0, 1⟩
/-- TOL_RECSTAT (10_toll_book_and_records.md). -/
def Reg.TOL_RECSTAT : Nat := 0x400a0a50
def Fld.TOL_RECSTAT_SKIPPED : FieldRef := ⟨Reg.TOL_RECSTAT, 24, 8⟩
def Fld.TOL_RECSTAT_FILL : FieldRef := ⟨Reg.TOL_RECSTAT, 0, 3⟩
/-- TOL_RECCTL (10_toll_book_and_records.md). -/
def Reg.TOL_RECCTL : Nat := 0x400a0a54
def Fld.TOL_RECCTL_ACK : FieldRef := ⟨Reg.TOL_RECCTL, 0, 1⟩
/-- TOL_RECSEQ (10_toll_book_and_records.md). -/
def Reg.TOL_RECSEQ : Nat := 0x400a0a58
def Fld.TOL_RECSEQ_SEQ : FieldRef := ⟨Reg.TOL_RECSEQ, 0, 32⟩
/-- TOL_DPSTAT (10_toll_book_and_records.md). -/
def Reg.TOL_DPSTAT : Nat := 0x400a0a60
def Fld.TOL_DPSTAT_PRESENT : FieldRef := ⟨Reg.TOL_DPSTAT, 24, 8⟩
def Fld.TOL_DPSTAT_CONFIG : FieldRef := ⟨Reg.TOL_DPSTAT, 16, 8⟩
/-- TOL_DPHEADn (10_toll_book_and_records.md). -/
def Reg.TOL_DPHEAD (n : Nat) : Nat := 0x400a0a70 + 0x4 * n
def Fld.TOL_DPHEAD_PRESSES (n : Nat) : FieldRef := ⟨(Reg.TOL_DPHEAD n), 24, 8⟩
def Fld.TOL_DPHEAD_ITEM (n : Nat) : FieldRef := ⟨(Reg.TOL_DPHEAD n), 16, 5⟩
def Fld.TOL_DPHEAD_STATUS (n : Nat) : FieldRef := ⟨(Reg.TOL_DPHEAD n), 0, 8⟩
/-- TOL_BEVT (10_toll_book_and_records.md). -/
def Reg.TOL_BEVT : Nat := 0x400a0a90
def Fld.TOL_BEVT_BUDGET : FieldRef := ⟨Reg.TOL_BEVT, 9, 1⟩
def Fld.TOL_BEVT_DAMAGED : FieldRef := ⟨Reg.TOL_BEVT, 8, 1⟩
def Fld.TOL_BEVT_HEAD_BACK : FieldRef := ⟨Reg.TOL_BEVT, 7, 1⟩
def Fld.TOL_BEVT_HEAD_LOST : FieldRef := ⟨Reg.TOL_BEVT, 6, 1⟩
def Fld.TOL_BEVT_ARCHIVE : FieldRef := ⟨Reg.TOL_BEVT, 5, 1⟩
def Fld.TOL_BEVT_ROLL_WRAP : FieldRef := ⟨Reg.TOL_BEVT, 4, 1⟩
def Fld.TOL_BEVT_UNER_FULL : FieldRef := ⟨Reg.TOL_BEVT, 3, 1⟩
def Fld.TOL_BEVT_SAVE_LOST : FieldRef := ⟨Reg.TOL_BEVT, 2, 1⟩
def Fld.TOL_BEVT_LG_USED : FieldRef := ⟨Reg.TOL_BEVT, 1, 1⟩
def Fld.TOL_BEVT_LG_FAIL : FieldRef := ⟨Reg.TOL_BEVT, 0, 1⟩
/-- TOL_RECBUFw (10_toll_book_and_records.md). -/
def Reg.TOL_RECBUF (w : Nat) : Nat := 0x400a5000 + 0x4 * w
def Fld.TOL_RECBUF_WORD (w : Nat) : FieldRef := ⟨(Reg.TOL_RECBUF w), 0, 32⟩
/-- TOL_AUTHw (10_toll_book_and_records.md). -/
def Reg.TOL_AUTH (w : Nat) : Nat := 0x400a6000 + 0x4 * w
def Fld.TOL_AUTH_WORD (w : Nat) : FieldRef := ⟨(Reg.TOL_AUTH w), 0, 32⟩
/-- STY_CBLm_CTRL (11_cable_cooling.md). -/
def Reg.STY_CBL_CTRL (m : Nat) : Nat := 0x400b0000 + 0x100 * m
def Fld.STY_CBL_CTRL_PUMP_ALWAYS (m : Nat) : FieldRef := ⟨(Reg.STY_CBL_CTRL m), 2, 1⟩
def Fld.STY_CBL_CTRL_HOLD_ACT (m : Nat) : FieldRef := ⟨(Reg.STY_CBL_CTRL m), 1, 1⟩
def Fld.STY_CBL_CTRL_EN (m : Nat) : FieldRef := ⟨(Reg.STY_CBL_CTRL m), 0, 1⟩
/-- STY_CBLm_STAT (11_cable_cooling.md). -/
def Reg.STY_CBL_STAT (m : Nat) : Nat := 0x400b0004 + 0x100 * m
def Fld.STY_CBL_STAT_INVALID (m : Nat) : FieldRef := ⟨(Reg.STY_CBL_STAT m), 24, 8⟩
def Fld.STY_CBL_STAT_BIND (m : Nat) : FieldRef := ⟨(Reg.STY_CBL_STAT m), 9, 3⟩
def Fld.STY_CBL_STAT_RUN_ON (m : Nat) : FieldRef := ⟨(Reg.STY_CBL_STAT m), 7, 1⟩
def Fld.STY_CBL_STAT_ACT_HELD (m : Nat) : FieldRef := ⟨(Reg.STY_CBL_STAT m), 6, 1⟩
def Fld.STY_CBL_STAT_FLOW_IMPL (m : Nat) : FieldRef := ⟨(Reg.STY_CBL_STAT m), 5, 1⟩
def Fld.STY_CBL_STAT_FLOW_SUB (m : Nat) : FieldRef := ⟨(Reg.STY_CBL_STAT m), 4, 1⟩
def Fld.STY_CBL_STAT_IN_SUB (m : Nat) : FieldRef := ⟨(Reg.STY_CBL_STAT m), 3, 1⟩
def Fld.STY_CBL_STAT_OVER (m : Nat) : FieldRef := ⟨(Reg.STY_CBL_STAT m), 2, 1⟩
def Fld.STY_CBL_STAT_EST_OK (m : Nat) : FieldRef := ⟨(Reg.STY_CBL_STAT m), 1, 1⟩
def Fld.STY_CBL_STAT_RUNNING (m : Nat) : FieldRef := ⟨(Reg.STY_CBL_STAT m), 0, 1⟩
/-- STY_CBLm_CEIL (11_cable_cooling.md). -/
def Reg.STY_CBL_CEIL (m : Nat) : Nat := 0x400b0008 + 0x100 * m
def Fld.STY_CBL_CEIL_LIMB (m : Nat) : FieldRef := ⟨(Reg.STY_CBL_CEIL m), 16, 16⟩
def Fld.STY_CBL_CEIL_AMPS (m : Nat) : FieldRef := ⟨(Reg.STY_CBL_CEIL m), 0, 16⟩
/-- STY_CBLm_LIM (11_cable_cooling.md). -/
def Reg.STY_CBL_LIM (m : Nat) : Nat := 0x400b000c + 0x100 * m
def Fld.STY_CBL_LIM_CONT (m : Nat) : FieldRef := ⟨(Reg.STY_CBL_LIM m), 16, 16⟩
def Fld.STY_CBL_LIM_COND (m : Nat) : FieldRef := ⟨(Reg.STY_CBL_LIM m), 0, 16⟩
/-- STY_CBLm_TCOND (11_cable_cooling.md). -/
def Reg.STY_CBL_TCOND (m : Nat) : Nat := 0x400b0010 + 0x100 * m
def Fld.STY_CBL_TCOND_DEG (m : Nat) : FieldRef := ⟨(Reg.STY_CBL_TCOND m), 0, 32⟩
/-- STY_CBLm_TCOOL (11_cable_cooling.md). -/
def Reg.STY_CBL_TCOOL (m : Nat) : Nat := 0x400b0014 + 0x100 * m
def Fld.STY_CBL_TCOOL_DEG (m : Nat) : FieldRef := ⟨(Reg.STY_CBL_TCOOL m), 0, 32⟩
/-- STY_CBLm_TCONTx (11_cable_cooling.md). -/
def Reg.STY_CBL_TCONT (m x : Nat) : Nat := 0x400b0018 + 0x100 * m + 0x4 * x
def Fld.STY_CBL_TCONT_DEG (m x : Nat) : FieldRef := ⟨(Reg.STY_CBL_TCONT m x), 0, 32⟩
/-- STY_CBLm_FWj (11_cable_cooling.md). -/
def Reg.STY_CBL_FW (m j : Nat) : Nat := 0x400b0020 + 0x100 * m + 0x4 * j
def Fld.STY_CBL_FW_VALUE (m j : Nat) : FieldRef := ⟨(Reg.STY_CBL_FW m j), 0, 32⟩
/-- STY_CBLm_VALj (11_cable_cooling.md). -/
def Reg.STY_CBL_VAL (m j : Nat) : Nat := 0x400b0040 + 0x100 * m + 0x4 * j
def Fld.STY_CBL_VAL_VALUE (m j : Nat) : FieldRef := ⟨(Reg.STY_CBL_VAL m j), 0, 32⟩
/-- STY_CBLm_ACT (11_cable_cooling.md). -/
def Reg.STY_CBL_ACT (m : Nat) : Nat := 0x400b0060 + 0x100 * m
def Fld.STY_CBL_ACT_PUMP (m : Nat) : FieldRef := ⟨(Reg.STY_CBL_ACT m), 24, 8⟩
def Fld.STY_CBL_ACT_FAN (m : Nat) : FieldRef := ⟨(Reg.STY_CBL_ACT m), 16, 8⟩
def Fld.STY_CBL_ACT_VALVE (m : Nat) : FieldRef := ⟨(Reg.STY_CBL_ACT m), 0, 1⟩
/-- STY_CBLm_DUTY (11_cable_cooling.md). -/
def Reg.STY_CBL_DUTY (m : Nat) : Nat := 0x400b0064 + 0x100 * m
def Fld.STY_CBL_DUTY_PUMP (m : Nat) : FieldRef := ⟨(Reg.STY_CBL_DUTY m), 24, 8⟩
def Fld.STY_CBL_DUTY_FAN (m : Nat) : FieldRef := ⟨(Reg.STY_CBL_DUTY m), 16, 8⟩
def Fld.STY_CBL_DUTY_VALVE (m : Nat) : FieldRef := ⟨(Reg.STY_CBL_DUTY m), 0, 1⟩
/-- STY_CBLm_EVT (11_cable_cooling.md). -/
def Reg.STY_CBL_EVT (m : Nat) : Nat := 0x400b0068 + 0x100 * m
def Fld.STY_CBL_EVT_ZERO (m : Nat) : FieldRef := ⟨(Reg.STY_CBL_EVT m), 3, 1⟩
def Fld.STY_CBL_EVT_FLOW (m : Nat) : FieldRef := ⟨(Reg.STY_CBL_EVT m), 2, 1⟩
def Fld.STY_CBL_EVT_SENSOR (m : Nat) : FieldRef := ⟨(Reg.STY_CBL_EVT m), 1, 1⟩
def Fld.STY_CBL_EVT_LIMIT (m : Nat) : FieldRef := ⟨(Reg.STY_CBL_EVT m), 0, 1⟩
/-- STY_PERIOD (11_cable_cooling.md). -/
def Reg.STY_PERIOD : Nat := 0x400b0800
def Fld.STY_PERIOD_SSEQ : FieldRef := ⟨Reg.STY_PERIOD, 16, 16⟩
def Fld.STY_PERIOD_N_STAY : FieldRef := ⟨Reg.STY_PERIOD, 0, 16⟩
/-- VLK_Ln_CTRL (12_vehicle_sessions.md). -/
def Reg.VLK_L_CTRL (n : Nat) : Nat := 0x400c0000 + 0x2000 * n
def Fld.VLK_L_CTRL_RECON (n : Nat) : FieldRef := ⟨(Reg.VLK_L_CTRL n), 4, 1⟩
def Fld.VLK_L_CTRL_CP_SW (n : Nat) : FieldRef := ⟨(Reg.VLK_L_CTRL n), 3, 1⟩
def Fld.VLK_L_CTRL_PWM (n : Nat) : FieldRef := ⟨(Reg.VLK_L_CTRL n), 2, 1⟩
def Fld.VLK_L_CTRL_EN (n : Nat) : FieldRef := ⟨(Reg.VLK_L_CTRL n), 0, 1⟩
/-- VLK_Ln_CFG (12_vehicle_sessions.md). -/
def Reg.VLK_L_CFG (n : Nat) : Nat := 0x400c0004 + 0x2000 * n
def Fld.VLK_L_CFG_DIGIF (n : Nat) : FieldRef := ⟨(Reg.VLK_L_CFG n), 16, 2⟩
def Fld.VLK_L_CFG_BIDIR (n : Nat) : FieldRef := ⟨(Reg.VLK_L_CFG n), 15, 1⟩
def Fld.VLK_L_CFG_PROTO (n : Nat) : FieldRef := ⟨(Reg.VLK_L_CFG n), 12, 3⟩
def Fld.VLK_L_CFG_OUTLET (n : Nat) : FieldRef := ⟨(Reg.VLK_L_CFG n), 8, 3⟩
def Fld.VLK_L_CFG_KIND (n : Nat) : FieldRef := ⟨(Reg.VLK_L_CFG n), 4, 2⟩
def Fld.VLK_L_CFG_USE (n : Nat) : FieldRef := ⟨(Reg.VLK_L_CFG n), 0, 2⟩
/-- VLK_Ln_PILOT (12_vehicle_sessions.md). -/
def Reg.VLK_L_PILOT (n : Nat) : Nat := 0x400c0008 + 0x2000 * n
def Fld.VLK_L_PILOT_STATE (n : Nat) : FieldRef := ⟨(Reg.VLK_L_PILOT n), 29, 3⟩
def Fld.VLK_L_PILOT_DUTY_IN (n : Nat) : FieldRef := ⟨(Reg.VLK_L_PILOT n), 16, 10⟩
def Fld.VLK_L_PILOT_DUTY (n : Nat) : FieldRef := ⟨(Reg.VLK_L_PILOT n), 0, 10⟩
/-- VLK_Ln_PMEAS (12_vehicle_sessions.md). -/
def Reg.VLK_L_PMEAS (n : Nat) : Nat := 0x400c000c + 0x2000 * n
def Fld.VLK_L_PMEAS_HI (n : Nat) : FieldRef := ⟨(Reg.VLK_L_PMEAS n), 16, 16⟩
def Fld.VLK_L_PMEAS_LO (n : Nat) : FieldRef := ⟨(Reg.VLK_L_PMEAS n), 0, 16⟩
/-- VLK_Ln_CONT (12_vehicle_sessions.md). -/
def Reg.VLK_L_CONT (n : Nat) : Nat := 0x400c0010 + 0x2000 * n
def Fld.VLK_L_CONT_CONNECTED (n : Nat) : FieldRef := ⟨(Reg.VLK_L_CONT n), 31, 1⟩
def Fld.VLK_L_CONT_CC2 (n : Nat) : FieldRef := ⟨(Reg.VLK_L_CONT n), 18, 2⟩
def Fld.VLK_L_CONT_CC1 (n : Nat) : FieldRef := ⟨(Reg.VLK_L_CONT n), 16, 2⟩
def Fld.VLK_L_CONT_PP (n : Nat) : FieldRef := ⟨(Reg.VLK_L_CONT n), 0, 16⟩
/-- VLK_Ln_CCV (12_vehicle_sessions.md). -/
def Reg.VLK_L_CCV (n : Nat) : Nat := 0x400c0014 + 0x2000 * n
def Fld.VLK_L_CCV_CC2 (n : Nat) : FieldRef := ⟨(Reg.VLK_L_CCV n), 16, 16⟩
def Fld.VLK_L_CCV_CC1 (n : Nat) : FieldRef := ⟨(Reg.VLK_L_CCV n), 0, 16⟩
/-- VLK_Ln_SESS (12_vehicle_sessions.md). -/
def Reg.VLK_L_SESS (n : Nat) : Nat := 0x400c0018 + 0x2000 * n
def Fld.VLK_L_SESS_PEER_FM (n : Nat) : FieldRef := ⟨(Reg.VLK_L_SESS n), 11, 1⟩
def Fld.VLK_L_SESS_MUTUAL (n : Nat) : FieldRef := ⟨(Reg.VLK_L_SESS n), 10, 1⟩
def Fld.VLK_L_SESS_TLS (n : Nat) : FieldRef := ⟨(Reg.VLK_L_SESS n), 9, 1⟩
def Fld.VLK_L_SESS_LINK (n : Nat) : FieldRef := ⟨(Reg.VLK_L_SESS n), 8, 1⟩
def Fld.VLK_L_SESS_BPT (n : Nat) : FieldRef := ⟨(Reg.VLK_L_SESS n), 6, 1⟩
def Fld.VLK_L_SESS_PROTO (n : Nat) : FieldRef := ⟨(Reg.VLK_L_SESS n), 4, 2⟩
def Fld.VLK_L_SESS_PHASE (n : Nat) : FieldRef := ⟨(Reg.VLK_L_SESS n), 0, 3⟩
/-- VLK_Ln_WDOG (12_vehicle_sessions.md). -/
def Reg.VLK_L_WDOG (n : Nat) : Nat := 0x400c001c + 0x2000 * n
def Fld.VLK_L_WDOG_KICK (n : Nat) : FieldRef := ⟨(Reg.VLK_L_WDOG n), 31, 1⟩
def Fld.VLK_L_WDOG_RUN (n : Nat) : FieldRef := ⟨(Reg.VLK_L_WDOG n), 30, 1⟩
def Fld.VLK_L_WDOG_TIMEOUT (n : Nat) : FieldRef := ⟨(Reg.VLK_L_WDOG n), 0, 16⟩
/-- VLK_Ln_EMAXI (12_vehicle_sessions.md). -/
def Reg.VLK_L_EMAXI (n : Nat) : Nat := 0x400c0020 + 0x2000 * n
def Fld.VLK_L_EMAXI_DIS (n : Nat) : FieldRef := ⟨(Reg.VLK_L_EMAXI n), 16, 16⟩
def Fld.VLK_L_EMAXI_CHG (n : Nat) : FieldRef := ⟨(Reg.VLK_L_EMAXI n), 0, 16⟩
/-- VLK_Ln_EMAXP (12_vehicle_sessions.md). -/
def Reg.VLK_L_EMAXP (n : Nat) : Nat := 0x400c0024 + 0x2000 * n
def Fld.VLK_L_EMAXP_DIS (n : Nat) : FieldRef := ⟨(Reg.VLK_L_EMAXP n), 16, 16⟩
def Fld.VLK_L_EMAXP_CHG (n : Nat) : FieldRef := ⟨(Reg.VLK_L_EMAXP n), 0, 16⟩
/-- VLK_Ln_BMSI (12_vehicle_sessions.md). -/
def Reg.VLK_L_BMSI (n : Nat) : Nat := 0x400c0028 + 0x2000 * n
def Fld.VLK_L_BMSI_DIS (n : Nat) : FieldRef := ⟨(Reg.VLK_L_BMSI n), 16, 16⟩
def Fld.VLK_L_BMSI_CHG (n : Nat) : FieldRef := ⟨(Reg.VLK_L_BMSI n), 0, 16⟩
/-- VLK_Ln_PREMOTE (12_vehicle_sessions.md). -/
def Reg.VLK_L_PREMOTE (n : Nat) : Nat := 0x400c002c + 0x2000 * n
def Fld.VLK_L_PREMOTE_CONN (n : Nat) : FieldRef := ⟨(Reg.VLK_L_PREMOTE n), 3, 1⟩
def Fld.VLK_L_PREMOTE_STATE (n : Nat) : FieldRef := ⟨(Reg.VLK_L_PREMOTE n), 0, 3⟩
/-- VLK_Ln_EVT (12_vehicle_sessions.md). -/
def Reg.VLK_L_EVT (n : Nat) : Nat := 0x400c0030 + 0x2000 * n
def Fld.VLK_L_EVT_TLS_TIME (n : Nat) : FieldRef := ⟨(Reg.VLK_L_EVT n), 9, 1⟩
def Fld.VLK_L_EVT_FMX_DROP (n : Nat) : FieldRef := ⟨(Reg.VLK_L_EVT n), 8, 1⟩
def Fld.VLK_L_EVT_RX_OVF (n : Nat) : FieldRef := ⟨(Reg.VLK_L_EVT n), 7, 1⟩
def Fld.VLK_L_EVT_RECON (n : Nat) : FieldRef := ⟨(Reg.VLK_L_EVT n), 6, 1⟩
def Fld.VLK_L_EVT_PEER (n : Nat) : FieldRef := ⟨(Reg.VLK_L_EVT n), 5, 1⟩
def Fld.VLK_L_EVT_TLS_FAIL (n : Nat) : FieldRef := ⟨(Reg.VLK_L_EVT n), 4, 1⟩
def Fld.VLK_L_EVT_OVERI (n : Nat) : FieldRef := ⟨(Reg.VLK_L_EVT n), 3, 1⟩
def Fld.VLK_L_EVT_WDOG (n : Nat) : FieldRef := ⟨(Reg.VLK_L_EVT n), 2, 1⟩
def Fld.VLK_L_EVT_DISC (n : Nat) : FieldRef := ⟨(Reg.VLK_L_EVT n), 1, 1⟩
def Fld.VLK_L_EVT_CONNECT (n : Nat) : FieldRef := ⟨(Reg.VLK_L_EVT n), 0, 1⟩
/-- VLK_Ln_TXRING (12_vehicle_sessions.md). -/
def Reg.VLK_L_TXRING (n : Nat) : Nat := 0x400c0040 + 0x2000 * n
def Fld.VLK_L_TXRING_BASE (n : Nat) : FieldRef := ⟨(Reg.VLK_L_TXRING n), 6, 26⟩
def Fld.VLK_L_TXRING_SIZE (n : Nat) : FieldRef := ⟨(Reg.VLK_L_TXRING n), 0, 4⟩
/-- VLK_Ln_RXRING (12_vehicle_sessions.md). -/
def Reg.VLK_L_RXRING (n : Nat) : Nat := 0x400c0044 + 0x2000 * n
def Fld.VLK_L_RXRING_BASE (n : Nat) : FieldRef := ⟨(Reg.VLK_L_RXRING n), 6, 26⟩
def Fld.VLK_L_RXRING_SIZE (n : Nat) : FieldRef := ⟨(Reg.VLK_L_RXRING n), 0, 4⟩
/-- VLK_Ln_DOOR (12_vehicle_sessions.md). -/
def Reg.VLK_L_DOOR (n : Nat) : Nat := 0x400c0048 + 0x2000 * n
def Fld.VLK_L_DOOR_RXHEAD (n : Nat) : FieldRef := ⟨(Reg.VLK_L_DOOR n), 16, 8⟩
def Fld.VLK_L_DOOR_TXTAIL (n : Nat) : FieldRef := ⟨(Reg.VLK_L_DOOR n), 0, 8⟩
/-- VLK_Ln_VCNTw (12_vehicle_sessions.md). -/
def Reg.VLK_L_VCNT (n w : Nat) : Nat := 0x400c0060 + 0x2000 * n + 0x4 * w
def Fld.VLK_L_VCNT_WORD (n w : Nat) : FieldRef := ⟨(Reg.VLK_L_VCNT n w), 0, 32⟩
/-- VLK_Ln_HPSTAT (13_power_line_and_t1s.md). -/
def Reg.VLK_L_HPSTAT (n : Nat) : Nat := 0x400c0100 + 0x2000 * n
def Fld.VLK_L_HPSTAT_SLAC (n : Nat) : FieldRef := ⟨(Reg.VLK_L_HPSTAT n), 8, 4⟩
def Fld.VLK_L_HPSTAT_MAINS (n : Nat) : FieldRef := ⟨(Reg.VLK_L_HPSTAT n), 7, 1⟩
def Fld.VLK_L_HPSTAT_XROBO (n : Nat) : FieldRef := ⟨(Reg.VLK_L_HPSTAT n), 6, 1⟩
def Fld.VLK_L_HPSTAT_RUNG (n : Nat) : FieldRef := ⟨(Reg.VLK_L_HPSTAT n), 2, 2⟩
def Fld.VLK_L_HPSTAT_CCO (n : Nat) : FieldRef := ⟨(Reg.VLK_L_HPSTAT n), 1, 1⟩
def Fld.VLK_L_HPSTAT_ACTIVE (n : Nat) : FieldRef := ⟨(Reg.VLK_L_HPSTAT n), 0, 1⟩
/-- VLK_Ln_HPCNT (13_power_line_and_t1s.md). -/
def Reg.VLK_L_HPCNT (n : Nat) : Nat := 0x400c0104 + 0x2000 * n
def Fld.VLK_L_HPCNT_ERASED (n : Nat) : FieldRef := ⟨(Reg.VLK_L_HPCNT n), 16, 16⟩
def Fld.VLK_L_HPCNT_RETRIES (n : Nat) : FieldRef := ⟨(Reg.VLK_L_HPCNT n), 8, 8⟩
def Fld.VLK_L_HPCNT_DROPPED (n : Nat) : FieldRef := ⟨(Reg.VLK_L_HPCNT n), 0, 8⟩
/-- VLK_Ln_SLACATT (13_power_line_and_t1s.md). -/
def Reg.VLK_L_SLACATT (n : Nat) : Nat := 0x400c0108 + 0x2000 * n
def Fld.VLK_L_SLACATT_DB (n : Nat) : FieldRef := ⟨(Reg.VLK_L_SLACATT n), 0, 8⟩
/-- VLK_Ln_T1SSTAT (13_power_line_and_t1s.md). -/
def Reg.VLK_L_T1SSTAT (n : Nat) : Nat := 0x400c0110 + 0x2000 * n
def Fld.VLK_L_T1SSTAT_PLCA_OK (n : Nat) : FieldRef := ⟨(Reg.VLK_L_T1SSTAT n), 2, 1⟩
def Fld.VLK_L_T1SSTAT_LINK (n : Nat) : FieldRef := ⟨(Reg.VLK_L_T1SSTAT n), 1, 1⟩
def Fld.VLK_L_T1SSTAT_ACTIVE (n : Nat) : FieldRef := ⟨(Reg.VLK_L_T1SSTAT n), 0, 1⟩
/-- VLK_Ln_T1SCNT (13_power_line_and_t1s.md). -/
def Reg.VLK_L_T1SCNT (n : Nat) : Nat := 0x400c0114 + 0x2000 * n
def Fld.VLK_L_T1SCNT_FCS (n : Nat) : FieldRef := ⟨(Reg.VLK_L_T1SCNT n), 16, 16⟩
def Fld.VLK_L_T1SCNT_BEACON (n : Nat) : FieldRef := ⟨(Reg.VLK_L_T1SCNT n), 0, 16⟩
/-- VLK_Ln_LEVT (13_power_line_and_t1s.md). -/
def Reg.VLK_L_LEVT (n : Nat) : Nat := 0x400c0118 + 0x2000 * n
def Fld.VLK_L_LEVT_PLCA_DOWN (n : Nat) : FieldRef := ⟨(Reg.VLK_L_LEVT n), 3, 1⟩
def Fld.VLK_L_LEVT_BEACON_LOST (n : Nat) : FieldRef := ⟨(Reg.VLK_L_LEVT n), 2, 1⟩
def Fld.VLK_L_LEVT_ZC_LOST (n : Nat) : FieldRef := ⟨(Reg.VLK_L_LEVT n), 1, 1⟩
def Fld.VLK_L_LEVT_SLAC_FAIL (n : Nat) : FieldRef := ⟨(Reg.VLK_L_LEVT n), 0, 1⟩
/-- CBU_Bn_CTRL (14_can_buses.md). -/
def Reg.CBU_B_CTRL (n : Nat) : Nat := 0x400d0000 + 0x4000 * n
def Fld.CBU_B_CTRL_RECOVER (n : Nat) : FieldRef := ⟨(Reg.CBU_B_CTRL n), 8, 1⟩
def Fld.CBU_B_CTRL_LOOP (n : Nat) : FieldRef := ⟨(Reg.CBU_B_CTRL n), 7, 1⟩
def Fld.CBU_B_CTRL_BOFF_MAN (n : Nat) : FieldRef := ⟨(Reg.CBU_B_CTRL n), 6, 1⟩
def Fld.CBU_B_CTRL_NOMATCH_REJ (n : Nat) : FieldRef := ⟨(Reg.CBU_B_CTRL n), 5, 1⟩
def Fld.CBU_B_CTRL_DAR (n : Nat) : FieldRef := ⟨(Reg.CBU_B_CTRL n), 4, 1⟩
def Fld.CBU_B_CTRL_BRS_EN (n : Nat) : FieldRef := ⟨(Reg.CBU_B_CTRL n), 3, 1⟩
def Fld.CBU_B_CTRL_FD_EN (n : Nat) : FieldRef := ⟨(Reg.CBU_B_CTRL n), 2, 1⟩
def Fld.CBU_B_CTRL_LOM (n : Nat) : FieldRef := ⟨(Reg.CBU_B_CTRL n), 1, 1⟩
def Fld.CBU_B_CTRL_EN (n : Nat) : FieldRef := ⟨(Reg.CBU_B_CTRL n), 0, 1⟩
/-- CBU_Bn_NBT (14_can_buses.md). -/
def Reg.CBU_B_NBT (n : Nat) : Nat := 0x400d0004 + 0x4000 * n
def Fld.CBU_B_NBT_BRP (n : Nat) : FieldRef := ⟨(Reg.CBU_B_NBT n), 23, 9⟩
def Fld.CBU_B_NBT_SEG1 (n : Nat) : FieldRef := ⟨(Reg.CBU_B_NBT n), 15, 8⟩
def Fld.CBU_B_NBT_SEG2 (n : Nat) : FieldRef := ⟨(Reg.CBU_B_NBT n), 8, 7⟩
def Fld.CBU_B_NBT_SJW (n : Nat) : FieldRef := ⟨(Reg.CBU_B_NBT n), 0, 7⟩
/-- CBU_Bn_DBT (14_can_buses.md). -/
def Reg.CBU_B_DBT (n : Nat) : Nat := 0x400d0008 + 0x4000 * n
def Fld.CBU_B_DBT_TDC_EN (n : Nat) : FieldRef := ⟨(Reg.CBU_B_DBT n), 31, 1⟩
def Fld.CBU_B_DBT_TDCO (n : Nat) : FieldRef := ⟨(Reg.CBU_B_DBT n), 24, 7⟩
def Fld.CBU_B_DBT_BRP (n : Nat) : FieldRef := ⟨(Reg.CBU_B_DBT n), 16, 5⟩
def Fld.CBU_B_DBT_SEG1 (n : Nat) : FieldRef := ⟨(Reg.CBU_B_DBT n), 11, 5⟩
def Fld.CBU_B_DBT_SEG2 (n : Nat) : FieldRef := ⟨(Reg.CBU_B_DBT n), 7, 4⟩
def Fld.CBU_B_DBT_SJW (n : Nat) : FieldRef := ⟨(Reg.CBU_B_DBT n), 3, 4⟩
/-- CBU_Bn_STAT (14_can_buses.md). -/
def Reg.CBU_B_STAT (n : Nat) : Nat := 0x400d000c + 0x4000 * n
def Fld.CBU_B_STAT_TEC (n : Nat) : FieldRef := ⟨(Reg.CBU_B_STAT n), 24, 8⟩
def Fld.CBU_B_STAT_RP (n : Nat) : FieldRef := ⟨(Reg.CBU_B_STAT n), 23, 1⟩
def Fld.CBU_B_STAT_REC (n : Nat) : FieldRef := ⟨(Reg.CBU_B_STAT n), 16, 7⟩
def Fld.CBU_B_STAT_LEC (n : Nat) : FieldRef := ⟨(Reg.CBU_B_STAT n), 4, 3⟩
def Fld.CBU_B_STAT_BUS_OFF (n : Nat) : FieldRef := ⟨(Reg.CBU_B_STAT n), 3, 1⟩
def Fld.CBU_B_STAT_PASSIVE (n : Nat) : FieldRef := ⟨(Reg.CBU_B_STAT n), 2, 1⟩
def Fld.CBU_B_STAT_WARN (n : Nat) : FieldRef := ⟨(Reg.CBU_B_STAT n), 1, 1⟩
def Fld.CBU_B_STAT_JOINED (n : Nat) : FieldRef := ⟨(Reg.CBU_B_STAT n), 0, 1⟩
/-- CBU_Bn_EVT (14_can_buses.md). -/
def Reg.CBU_B_EVT (n : Nat) : Nat := 0x400d0010 + 0x4000 * n
def Fld.CBU_B_EVT_TT_MISS (n : Nat) : FieldRef := ⟨(Reg.CBU_B_EVT n), 9, 1⟩
def Fld.CBU_B_EVT_SYNC_LOST (n : Nat) : FieldRef := ⟨(Reg.CBU_B_EVT n), 8, 1⟩
def Fld.CBU_B_EVT_MASTER_CONF (n : Nat) : FieldRef := ⟨(Reg.CBU_B_EVT n), 7, 1⟩
def Fld.CBU_B_EVT_TXLOCK (n : Nat) : FieldRef := ⟨(Reg.CBU_B_EVT n), 6, 1⟩
def Fld.CBU_B_EVT_RX_LOST (n : Nat) : FieldRef := ⟨(Reg.CBU_B_EVT n), 5, 1⟩
def Fld.CBU_B_EVT_BOFF_END (n : Nat) : FieldRef := ⟨(Reg.CBU_B_EVT n), 4, 1⟩
def Fld.CBU_B_EVT_BOFF (n : Nat) : FieldRef := ⟨(Reg.CBU_B_EVT n), 3, 1⟩
def Fld.CBU_B_EVT_PASSIVE (n : Nat) : FieldRef := ⟨(Reg.CBU_B_EVT n), 2, 1⟩
def Fld.CBU_B_EVT_WARN (n : Nat) : FieldRef := ⟨(Reg.CBU_B_EVT n), 1, 1⟩
def Fld.CBU_B_EVT_WAKE (n : Nat) : FieldRef := ⟨(Reg.CBU_B_EVT n), 0, 1⟩
/-- CBU_Bn_TXREQ (14_can_buses.md). -/
def Reg.CBU_B_TXREQ (n : Nat) : Nat := 0x400d0020 + 0x4000 * n
def Fld.CBU_B_TXREQ_BUF (n : Nat) : FieldRef := ⟨(Reg.CBU_B_TXREQ n), 0, 32⟩
/-- CBU_Bn_TXCAN (14_can_buses.md). -/
def Reg.CBU_B_TXCAN (n : Nat) : Nat := 0x400d0024 + 0x4000 * n
def Fld.CBU_B_TXCAN_BUF (n : Nat) : FieldRef := ⟨(Reg.CBU_B_TXCAN n), 0, 32⟩
/-- CBU_Bn_TXDONE (14_can_buses.md). -/
def Reg.CBU_B_TXDONE (n : Nat) : Nat := 0x400d0028 + 0x4000 * n
def Fld.CBU_B_TXDONE_BUF (n : Nat) : FieldRef := ⟨(Reg.CBU_B_TXDONE n), 0, 32⟩
/-- CBU_Bn_TXFAIL (14_can_buses.md). -/
def Reg.CBU_B_TXFAIL (n : Nat) : Nat := 0x400d002c + 0x4000 * n
def Fld.CBU_B_TXFAIL_BUF (n : Nat) : FieldRef := ⟨(Reg.CBU_B_TXFAIL n), 0, 32⟩
/-- CBU_Bn_RXSTAT (14_can_buses.md). -/
def Reg.CBU_B_RXSTAT (n : Nat) : Nat := 0x400d0030 + 0x4000 * n
def Fld.CBU_B_RXSTAT_FILL (n : Nat) : FieldRef := ⟨(Reg.CBU_B_RXSTAT n), 16, 7⟩
def Fld.CBU_B_RXSTAT_GET (n : Nat) : FieldRef := ⟨(Reg.CBU_B_RXSTAT n), 0, 6⟩
/-- CBU_Bn_RXACK (14_can_buses.md). -/
def Reg.CBU_B_RXACK (n : Nat) : Nat := 0x400d0034 + 0x4000 * n
def Fld.CBU_B_RXACK_ACK (n : Nat) : FieldRef := ⟨(Reg.CBU_B_RXACK n), 0, 1⟩
/-- CBU_Bn_RXRING (14_can_buses.md). -/
def Reg.CBU_B_RXRING (n : Nat) : Nat := 0x400d0038 + 0x4000 * n
def Fld.CBU_B_RXRING_BASE (n : Nat) : FieldRef := ⟨(Reg.CBU_B_RXRING n), 6, 26⟩
def Fld.CBU_B_RXRING_SIZE (n : Nat) : FieldRef := ⟨(Reg.CBU_B_RXRING n), 0, 4⟩
/-- CBU_Bn_RXPTR (14_can_buses.md). -/
def Reg.CBU_B_RXPTR (n : Nat) : Nat := 0x400d003c + 0x4000 * n
def Fld.CBU_B_RXPTR_RXHEAD (n : Nat) : FieldRef := ⟨(Reg.CBU_B_RXPTR n), 16, 10⟩
def Fld.CBU_B_RXPTR_RXTAIL (n : Nat) : FieldRef := ⟨(Reg.CBU_B_RXPTR n), 0, 10⟩
/-- CBU_Bn_TTCFG (14_can_buses.md). -/
def Reg.CBU_B_TTCFG (n : Nat) : Nat := 0x400d0040 + 0x4000 * n
def Fld.CBU_B_TTCFG_SRC (n : Nat) : FieldRef := ⟨(Reg.CBU_B_TTCFG n), 30, 2⟩
def Fld.CBU_B_TTCFG_CEXP (n : Nat) : FieldRef := ⟨(Reg.CBU_B_TTCFG n), 24, 3⟩
def Fld.CBU_B_TTCFG_TXWIN (n : Nat) : FieldRef := ⟨(Reg.CBU_B_TTCFG n), 16, 8⟩
def Fld.CBU_B_TTCFG_REF_ID (n : Nat) : FieldRef := ⟨(Reg.CBU_B_TTCFG n), 0, 11⟩
/-- CBU_Bn_TTCYC (14_can_buses.md). -/
def Reg.CBU_B_TTCYC (n : Nat) : Nat := 0x400d0044 + 0x4000 * n
def Fld.CBU_B_TTCYC_GUARD (n : Nat) : FieldRef := ⟨(Reg.CBU_B_TTCYC n), 24, 8⟩
def Fld.CBU_B_TTCYC_CYCLE_LEN (n : Nat) : FieldRef := ⟨(Reg.CBU_B_TTCYC n), 0, 24⟩
/-- CBU_Bn_TTSTAT (14_can_buses.md). -/
def Reg.CBU_B_TTSTAT (n : Nat) : Nat := 0x400d0048 + 0x4000 * n
def Fld.CBU_B_TTSTAT_MASTER (n : Nat) : FieldRef := ⟨(Reg.CBU_B_TTSTAT n), 13, 1⟩
def Fld.CBU_B_TTSTAT_SYNCED (n : Nat) : FieldRef := ⟨(Reg.CBU_B_TTSTAT n), 12, 1⟩
def Fld.CBU_B_TTSTAT_CYCLE (n : Nat) : FieldRef := ⟨(Reg.CBU_B_TTSTAT n), 8, 4⟩
def Fld.CBU_B_TTSTAT_COLUMN (n : Nat) : FieldRef := ⟨(Reg.CBU_B_TTSTAT n), 0, 6⟩
/-- CBU_Bn_WAKE (14_can_buses.md). -/
def Reg.CBU_B_WAKE (n : Nat) : Nat := 0x400d0050 + 0x4000 * n
def Fld.CBU_B_WAKE_EN (n : Nat) : FieldRef := ⟨(Reg.CBU_B_WAKE n), 31, 1⟩
def Fld.CBU_B_WAKE_FRAME (n : Nat) : FieldRef := ⟨(Reg.CBU_B_WAKE n), 30, 1⟩
def Fld.CBU_B_WAKE_XTD (n : Nat) : FieldRef := ⟨(Reg.CBU_B_WAKE n), 29, 1⟩
def Fld.CBU_B_WAKE_ID (n : Nat) : FieldRef := ⟨(Reg.CBU_B_WAKE n), 0, 29⟩
/-- CBU_Bn_WMASK (14_can_buses.md). -/
def Reg.CBU_B_WMASK (n : Nat) : Nat := 0x400d0054 + 0x4000 * n
def Fld.CBU_B_WMASK_EN (n : Nat) : FieldRef := ⟨(Reg.CBU_B_WMASK n), 31, 1⟩
def Fld.CBU_B_WMASK_FRAME (n : Nat) : FieldRef := ⟨(Reg.CBU_B_WMASK n), 30, 1⟩
def Fld.CBU_B_WMASK_XTD (n : Nat) : FieldRef := ⟨(Reg.CBU_B_WMASK n), 29, 1⟩
def Fld.CBU_B_WMASK_ID (n : Nat) : FieldRef := ⟨(Reg.CBU_B_WMASK n), 0, 29⟩
/-- CBU_Bn_WDATA0 (14_can_buses.md). -/
def Reg.CBU_B_WDATA0 (n : Nat) : Nat := 0x400d0058 + 0x4000 * n
def Fld.CBU_B_WDATA0_MASK (n : Nat) : FieldRef := ⟨(Reg.CBU_B_WDATA0 n), 0, 32⟩
/-- CBU_Bn_WDATA1 (14_can_buses.md). -/
def Reg.CBU_B_WDATA1 (n : Nat) : Nat := 0x400d005c + 0x4000 * n
def Fld.CBU_B_WDATA1_MASK (n : Nat) : FieldRef := ⟨(Reg.CBU_B_WDATA1 n), 0, 32⟩
/-- CBU_Bn_WCTL (14_can_buses.md). -/
def Reg.CBU_B_WCTL (n : Nat) : Nat := 0x400d0060 + 0x4000 * n
def Fld.CBU_B_WCTL_FDTOL (n : Nat) : FieldRef := ⟨(Reg.CBU_B_WCTL n), 6, 1⟩
def Fld.CBU_B_WCTL_RATE (n : Nat) : FieldRef := ⟨(Reg.CBU_B_WCTL n), 4, 2⟩
def Fld.CBU_B_WCTL_DLC (n : Nat) : FieldRef := ⟨(Reg.CBU_B_WCTL n), 0, 4⟩
/-- CBU_Bn_WAKEID (14_can_buses.md). -/
def Reg.CBU_B_WAKEID (n : Nat) : Nat := 0x400d0064 + 0x4000 * n
def Fld.CBU_B_WAKEID_XTD (n : Nat) : FieldRef := ⟨(Reg.CBU_B_WAKEID n), 29, 1⟩
def Fld.CBU_B_WAKEID_ID (n : Nat) : FieldRef := ⟨(Reg.CBU_B_WAKEID n), 0, 29⟩
/-- CBU_Bn_FLTi_ID (14_can_buses.md). -/
def Reg.CBU_B_FLT_ID (n i : Nat) : Nat := 0x400d0100 + 0x4000 * n + 0x8 * i
def Fld.CBU_B_FLT_ID_EN (n i : Nat) : FieldRef := ⟨(Reg.CBU_B_FLT_ID n i), 31, 1⟩
def Fld.CBU_B_FLT_ID_XTD (n i : Nat) : FieldRef := ⟨(Reg.CBU_B_FLT_ID n i), 30, 1⟩
def Fld.CBU_B_FLT_ID_ACTION (n i : Nat) : FieldRef := ⟨(Reg.CBU_B_FLT_ID n i), 29, 1⟩
def Fld.CBU_B_FLT_ID_FID (n i : Nat) : FieldRef := ⟨(Reg.CBU_B_FLT_ID n i), 0, 29⟩
/-- CBU_Bn_FLTi_MASK (14_can_buses.md). -/
def Reg.CBU_B_FLT_MASK (n i : Nat) : Nat := 0x400d0104 + 0x4000 * n + 0x8 * i
def Fld.CBU_B_FLT_MASK_MASK (n i : Nat) : FieldRef := ⟨(Reg.CBU_B_FLT_MASK n i), 0, 29⟩
/-- CBU_Bn_COLc (14_can_buses.md). -/
def Reg.CBU_B_COL (n c : Nat) : Nat := 0x400d0300 + 0x4000 * n + 0x4 * c
def Fld.CBU_B_COL_EN (n c : Nat) : FieldRef := ⟨(Reg.CBU_B_COL n c), 31, 1⟩
def Fld.CBU_B_COL_START (n c : Nat) : FieldRef := ⟨(Reg.CBU_B_COL n c), 0, 24⟩
/-- CBU_Bn_CELLk_w (14_can_buses.md). -/
def Reg.CBU_B_CELL (n k w : Nat) : Nat := 0x400d0400 + 0x4000 * n + 0x40 * k + 0x4 * w
def Fld.CBU_B_CELL_CELL (n k w : Nat) : FieldRef := ⟨(Reg.CBU_B_CELL n k w), 0, 32⟩
/-- PRP_STAT (15_parapet_safety.md). -/
def Reg.PRP_STAT : Nat := 0x400e0000
def Fld.PRP_STAT_APEND : FieldRef := ⟨Reg.PRP_STAT, 7, 1⟩
def Fld.PRP_STAT_PRST_STUCK : FieldRef := ⟨Reg.PRP_STAT, 6, 1⟩
def Fld.PRP_STAT_MANUAL : FieldRef := ⟨Reg.PRP_STAT, 5, 1⟩
def Fld.PRP_STAT_START_OK : FieldRef := ⟨Reg.PRP_STAT, 4, 1⟩
def Fld.PRP_STAT_DOUBLE : FieldRef := ⟨Reg.PRP_STAT, 3, 1⟩
def Fld.PRP_STAT_LATCH_B : FieldRef := ⟨Reg.PRP_STAT, 2, 1⟩
def Fld.PRP_STAT_LATCH_A : FieldRef := ⟨Reg.PRP_STAT, 1, 1⟩
def Fld.PRP_STAT_SAFE : FieldRef := ⟨Reg.PRP_STAT, 0, 1⟩
/-- PRP_EVT (15_parapet_safety.md). -/
def Reg.PRP_EVT : Nat := 0x400e0004
def Fld.PRP_EVT_ARM_CHG : FieldRef := ⟨Reg.PRP_EVT, 8, 1⟩
def Fld.PRP_EVT_WELD : FieldRef := ⟨Reg.PRP_EVT, 7, 1⟩
def Fld.PRP_EVT_IMC : FieldRef := ⟨Reg.PRP_EVT, 6, 1⟩
def Fld.PRP_EVT_OUT_FAULT : FieldRef := ⟨Reg.PRP_EVT, 5, 1⟩
def Fld.PRP_EVT_INPUT : FieldRef := ⟨Reg.PRP_EVT, 4, 1⟩
def Fld.PRP_EVT_PRST_REJ : FieldRef := ⟨Reg.PRP_EVT, 3, 1⟩
def Fld.PRP_EVT_PRST_OK : FieldRef := ⟨Reg.PRP_EVT, 2, 1⟩
def Fld.PRP_EVT_FAULT_B : FieldRef := ⟨Reg.PRP_EVT, 1, 1⟩
def Fld.PRP_EVT_FAULT_A : FieldRef := ⟨Reg.PRP_EVT, 0, 1⟩
/-- PRP_ARMREQ (15_parapet_safety.md). -/
def Reg.PRP_ARMREQ : Nat := 0x400e0008
def Fld.PRP_ARMREQ_KEY : FieldRef := ⟨Reg.PRP_ARMREQ, 16, 16⟩
def Fld.PRP_ARMREQ_OP : FieldRef := ⟨Reg.PRP_ARMREQ, 14, 2⟩
def Fld.PRP_ARMREQ_PIERS : FieldRef := ⟨Reg.PRP_ARMREQ, 0, 12⟩
/-- PRP_ARMED (15_parapet_safety.md). -/
def Reg.PRP_ARMED : Nat := 0x400e000c
def Fld.PRP_ARMED_PIERS : FieldRef := ⟨Reg.PRP_ARMED, 0, 12⟩
/-- PRP_FCLR (15_parapet_safety.md). -/
def Reg.PRP_FCLR : Nat := 0x400e0010
def Fld.PRP_FCLR_KEY : FieldRef := ⟨Reg.PRP_FCLR, 24, 8⟩
def Fld.PRP_FCLR_OUTLETS : FieldRef := ⟨Reg.PRP_FCLR, 16, 8⟩
def Fld.PRP_FCLR_PIERS : FieldRef := ⟨Reg.PRP_FCLR, 0, 12⟩
/-- PRP_FCLRK (15_parapet_safety.md). -/
def Reg.PRP_FCLRK : Nat := 0x400e0014
def Fld.PRP_FCLRK_KEYLO : FieldRef := ⟨Reg.PRP_FCLRK, 0, 8⟩
/-- PRP_SWSTOP (15_parapet_safety.md). -/
def Reg.PRP_SWSTOP : Nat := 0x400e0018
def Fld.PRP_SWSTOP_KEY : FieldRef := ⟨Reg.PRP_SWSTOP, 16, 16⟩
def Fld.PRP_SWSTOP_STOP : FieldRef := ⟨Reg.PRP_SWSTOP, 0, 1⟩
/-- PRP_LATCH (15_parapet_safety.md). -/
def Reg.PRP_LATCH : Nat := 0x400e001c
def Fld.PRP_LATCH_OUTLETS : FieldRef := ⟨Reg.PRP_LATCH, 16, 8⟩
def Fld.PRP_LATCH_PIERS : FieldRef := ⟨Reg.PRP_LATCH, 0, 12⟩
/-- PRP_PSI (15_parapet_safety.md). -/
def Reg.PRP_PSI : Nat := 0x400e0020
def Fld.PRP_PSI_STATE : FieldRef := ⟨Reg.PRP_PSI, 0, 32⟩
/-- PRP_PSIF (15_parapet_safety.md). -/
def Reg.PRP_PSIF : Nat := 0x400e0024
def Fld.PRP_PSIF_PULSE : FieldRef := ⟨Reg.PRP_PSIF, 16, 16⟩
def Fld.PRP_PSIF_DISC : FieldRef := ⟨Reg.PRP_PSIF, 0, 16⟩
/-- PRP_PSO (15_parapet_safety.md). -/
def Reg.PRP_PSO : Nat := 0x400e0028
def Fld.PRP_PSO_REQ : FieldRef := ⟨Reg.PRP_PSO, 0, 12⟩
/-- PRP_PSOSTAT (15_parapet_safety.md). -/
def Reg.PRP_PSOSTAT : Nat := 0x400e002c
def Fld.PRP_PSOSTAT_FAULT : FieldRef := ⟨Reg.PRP_PSOSTAT, 16, 12⟩
def Fld.PRP_PSOSTAT_ON : FieldRef := ⟨Reg.PRP_PSOSTAT, 0, 12⟩
/-- PRP_PRST (15_parapet_safety.md). -/
def Reg.PRP_PRST : Nat := 0x400e0030
def Fld.PRP_PRST_ACCEPTED : FieldRef := ⟨Reg.PRP_PRST, 24, 8⟩
def Fld.PRP_PRST_REJECTED : FieldRef := ⟨Reg.PRP_PRST, 16, 8⟩
def Fld.PRP_PRST_LAST_MS : FieldRef := ⟨Reg.PRP_PRST, 0, 13⟩
/-- PRP_IMCn (15_parapet_safety.md). -/
def Reg.PRP_IMC (n : Nat) : Nat := 0x400e0040 + 0x8 * n
def Fld.PRP_IMC_KOHM (n : Nat) : FieldRef := ⟨(Reg.PRP_IMC n), 0, 32⟩
/-- PRP_IMCn_STAT (15_parapet_safety.md). -/
def Reg.PRP_IMC_STAT (n : Nat) : Nat := 0x400e0044 + 0x8 * n
def Fld.PRP_IMC_STAT_FRESH (n : Nat) : FieldRef := ⟨(Reg.PRP_IMC_STAT n), 5, 1⟩
def Fld.PRP_IMC_STAT_SUSP (n : Nat) : FieldRef := ⟨(Reg.PRP_IMC_STAT n), 4, 1⟩
def Fld.PRP_IMC_STAT_MFAULT (n : Nat) : FieldRef := ⟨(Reg.PRP_IMC_STAT n), 3, 1⟩
def Fld.PRP_IMC_STAT_RANGE (n : Nat) : FieldRef := ⟨(Reg.PRP_IMC_STAT n), 2, 1⟩
def Fld.PRP_IMC_STAT_ALARM (n : Nat) : FieldRef := ⟨(Reg.PRP_IMC_STAT n), 1, 1⟩
def Fld.PRP_IMC_STAT_WARN (n : Nat) : FieldRef := ⟨(Reg.PRP_IMC_STAT n), 0, 1⟩
/-- PRP_WELDk (15_parapet_safety.md). -/
def Reg.PRP_WELD (k : Nat) : Nat := 0x400e0080 + 0x4 * k
def Fld.PRP_WELD_DIFF (k : Nat) : FieldRef := ⟨(Reg.PRP_WELD k), 16, 16⟩
def Fld.PRP_WELD_RESULT (k : Nat) : FieldRef := ⟨(Reg.PRP_WELD k), 0, 3⟩
/-- PRP_FSEL (15_parapet_safety.md). -/
def Reg.PRP_FSEL : Nat := 0x400e0100
def Fld.PRP_FSEL_PRE : FieldRef := ⟨Reg.PRP_FSEL, 6, 1⟩
def Fld.PRP_FSEL_IDX : FieldRef := ⟨Reg.PRP_FSEL, 0, 6⟩
/-- PRP_FRECw (15_parapet_safety.md). -/
def Reg.PRP_FREC (w : Nat) : Nat := 0x400e0104 + 0x4 * w
def Fld.PRP_FREC_WORD (w : Nat) : FieldRef := ⟨(Reg.PRP_FREC w), 0, 32⟩
/-- PRP_QUEUE (15_parapet_safety.md). -/
def Reg.PRP_QUEUE : Nat := 0x400e0120
def Fld.PRP_QUEUE_DROPPED : FieldRef := ⟨Reg.PRP_QUEUE, 16, 16⟩
def Fld.PRP_QUEUE_HANDLING : FieldRef := ⟨Reg.PRP_QUEUE, 4, 3⟩
def Fld.PRP_QUEUE_FILL : FieldRef := ⟨Reg.PRP_QUEUE, 0, 4⟩
/-- PRP_RTIME (15_parapet_safety.md). -/
def Reg.PRP_RTIME : Nat := 0x400e0130
def Fld.PRP_RTIME_OUTS : FieldRef := ⟨Reg.PRP_RTIME, 16, 16⟩
def Fld.PRP_RTIME_BCAST : FieldRef := ⟨Reg.PRP_RTIME, 0, 16⟩
/-- TRS_CHn_CTRL (16_trestle_switches.md). -/
def Reg.TRS_CH_CTRL (n : Nat) : Nat := 0x400f0000 + 0x40 * n
def Fld.TRS_CH_CTRL_DUTY (n : Nat) : FieldRef := ⟨(Reg.TRS_CH_CTRL n), 24, 8⟩
def Fld.TRS_CH_CTRL_ON (n : Nat) : FieldRef := ⟨(Reg.TRS_CH_CTRL n), 0, 1⟩
/-- TRS_CHn_CFG (16_trestle_switches.md). -/
def Reg.TRS_CH_CFG (n : Nat) : Nat := 0x400f0004 + 0x40 * n
def Fld.TRS_CH_CFG_GROUP (n : Nat) : FieldRef := ⟨(Reg.TRS_CH_CFG n), 24, 8⟩
def Fld.TRS_CH_CFG_BURST_N (n : Nat) : FieldRef := ⟨(Reg.TRS_CH_CFG n), 20, 4⟩
def Fld.TRS_CH_CFG_PWM_F (n : Nat) : FieldRef := ⟨(Reg.TRS_CH_CFG n), 16, 3⟩
def Fld.TRS_CH_CFG_OFFDIAG (n : Nat) : FieldRef := ⟨(Reg.TRS_CH_CFG n), 4, 1⟩
def Fld.TRS_CH_CFG_THERM_LATCH (n : Nat) : FieldRef := ⟨(Reg.TRS_CH_CFG n), 3, 1⟩
def Fld.TRS_CH_CFG_LOWRANGE (n : Nat) : FieldRef := ⟨(Reg.TRS_CH_CFG n), 2, 1⟩
def Fld.TRS_CH_CFG_KEEP_ALIVE (n : Nat) : FieldRef := ⟨(Reg.TRS_CH_CFG n), 1, 1⟩
def Fld.TRS_CH_CFG_IN_USE (n : Nat) : FieldRef := ⟨(Reg.TRS_CH_CFG n), 0, 1⟩
/-- TRS_CHn_PROT (16_trestle_switches.md). -/
def Reg.TRS_CH_PROT (n : Nat) : Nat := 0x400f0008 + 0x40 * n
def Fld.TRS_CH_PROT_ILIM_US (n : Nat) : FieldRef := ⟨(Reg.TRS_CH_PROT n), 16, 16⟩
def Fld.TRS_CH_PROT_BURST_GAP_MS (n : Nat) : FieldRef := ⟨(Reg.TRS_CH_PROT n), 8, 8⟩
def Fld.TRS_CH_PROT_THERM_N (n : Nat) : FieldRef := ⟨(Reg.TRS_CH_PROT n), 4, 4⟩
/-- TRS_CHn_OL (16_trestle_switches.md). -/
def Reg.TRS_CH_OL (n : Nat) : Nat := 0x400f000c + 0x40 * n
def Fld.TRS_CH_OL_OL_MS (n : Nat) : FieldRef := ⟨(Reg.TRS_CH_OL n), 16, 16⟩
def Fld.TRS_CH_OL_OL_THRESH (n : Nat) : FieldRef := ⟨(Reg.TRS_CH_OL n), 0, 16⟩
/-- TRS_CHn_KA (16_trestle_switches.md). -/
def Reg.TRS_CH_KA (n : Nat) : Nat := 0x400f0010 + 0x40 * n
def Fld.TRS_CH_KA_KA_HOLD_S (n : Nat) : FieldRef := ⟨(Reg.TRS_CH_KA n), 0, 12⟩
/-- TRS_CHn_STAT (16_trestle_switches.md). -/
def Reg.TRS_CH_STAT (n : Nat) : Nat := 0x400f0014 + 0x40 * n
def Fld.TRS_CH_STAT_BURST_CNT (n : Nat) : FieldRef := ⟨(Reg.TRS_CH_STAT n), 8, 4⟩
def Fld.TRS_CH_STAT_DUMP (n : Nat) : FieldRef := ⟨(Reg.TRS_CH_STAT n), 7, 1⟩
def Fld.TRS_CH_STAT_HELD (n : Nat) : FieldRef := ⟨(Reg.TRS_CH_STAT n), 6, 1⟩
def Fld.TRS_CH_STAT_RANGE (n : Nat) : FieldRef := ⟨(Reg.TRS_CH_STAT n), 5, 1⟩
def Fld.TRS_CH_STAT_LIMIT (n : Nat) : FieldRef := ⟨(Reg.TRS_CH_STAT n), 4, 1⟩
def Fld.TRS_CH_STAT_STATE (n : Nat) : FieldRef := ⟨(Reg.TRS_CH_STAT n), 0, 3⟩
/-- TRS_CHn_FAULT (16_trestle_switches.md). -/
def Reg.TRS_CH_FAULT (n : Nat) : Nat := 0x400f0018 + 0x40 * n
def Fld.TRS_CH_FAULT_KA_EXP (n : Nat) : FieldRef := ⟨(Reg.TRS_CH_FAULT n), 5, 1⟩
def Fld.TRS_CH_FAULT_OFF_HIGH (n : Nat) : FieldRef := ⟨(Reg.TRS_CH_FAULT n), 4, 1⟩
def Fld.TRS_CH_FAULT_OPEN (n : Nat) : FieldRef := ⟨(Reg.TRS_CH_FAULT n), 3, 1⟩
def Fld.TRS_CH_FAULT_THERM (n : Nat) : FieldRef := ⟨(Reg.TRS_CH_FAULT n), 2, 1⟩
def Fld.TRS_CH_FAULT_BURST (n : Nat) : FieldRef := ⟨(Reg.TRS_CH_FAULT n), 1, 1⟩
def Fld.TRS_CH_FAULT_OVERLOAD (n : Nat) : FieldRef := ⟨(Reg.TRS_CH_FAULT n), 0, 1⟩
/-- TRS_CHn_CUR (16_trestle_switches.md). -/
def Reg.TRS_CH_CUR (n : Nat) : Nat := 0x400f001c + 0x40 * n
def Fld.TRS_CH_CUR_IMEAS (n : Nat) : FieldRef := ⟨(Reg.TRS_CH_CUR n), 16, 16⟩
def Fld.TRS_CH_CUR_ION (n : Nat) : FieldRef := ⟨(Reg.TRS_CH_CUR n), 0, 16⟩
/-- TRS_CHn_CNT (16_trestle_switches.md). -/
def Reg.TRS_CH_CNT (n : Nat) : Nat := 0x400f0020 + 0x40 * n
def Fld.TRS_CH_CNT_RESTARTS (n : Nat) : FieldRef := ⟨(Reg.TRS_CH_CNT n), 16, 16⟩
def Fld.TRS_CH_CNT_THERMAL (n : Nat) : FieldRef := ⟨(Reg.TRS_CH_CNT n), 0, 16⟩
/-- TRS_SUPPLY (16_trestle_switches.md). -/
def Reg.TRS_SUPPLY : Nat := 0x400f0800
def Fld.TRS_SUPPLY_LOSS : FieldRef := ⟨Reg.TRS_SUPPLY, 16, 16⟩
def Fld.TRS_SUPPLY_DUMP_SEEN : FieldRef := ⟨Reg.TRS_SUPPLY, 1, 1⟩
def Fld.TRS_SUPPLY_DUMP : FieldRef := ⟨Reg.TRS_SUPPLY, 0, 1⟩
/-- ABT_ID (17_power_states_and_supply.md). -/
def Reg.ABT_ID : Nat := 0x40010000
def Fld.ABT_ID_PART : FieldRef := ⟨Reg.ABT_ID, 16, 16⟩
def Fld.ABT_ID_STEP : FieldRef := ⟨Reg.ABT_ID, 0, 4⟩
/-- ABT_ROLE (17_power_states_and_supply.md). -/
def Reg.ABT_ROLE : Nat := 0x40010004
def Fld.ABT_ROLE_ROLE : FieldRef := ⟨Reg.ABT_ROLE, 0, 2⟩
/-- ABT_RSTCAUSE (17_power_states_and_supply.md). -/
def Reg.ABT_RSTCAUSE : Nat := 0x40010008
def Fld.ABT_RSTCAUSE_CAUSE : FieldRef := ⟨Reg.ABT_RSTCAUSE, 0, 4⟩
/-- ABT_PSREQ (17_power_states_and_supply.md). -/
def Reg.ABT_PSREQ : Nat := 0x40010010
def Fld.ABT_PSREQ_KEY : FieldRef := ⟨Reg.ABT_PSREQ, 16, 16⟩
def Fld.ABT_PSREQ_STATE : FieldRef := ⟨Reg.ABT_PSREQ, 0, 2⟩
/-- ABT_PSSTAT (17_power_states_and_supply.md). -/
def Reg.ABT_PSSTAT : Nat := 0x40010014
def Fld.ABT_PSSTAT_RESULT : FieldRef := ⟨Reg.ABT_PSSTAT, 24, 3⟩
def Fld.ABT_PSSTAT_PENDING : FieldRef := ⟨Reg.ABT_PSSTAT, 18, 2⟩
def Fld.ABT_PSSTAT_PEND : FieldRef := ⟨Reg.ABT_PSSTAT, 17, 1⟩
def Fld.ABT_PSSTAT_BUSY : FieldRef := ⟨Reg.ABT_PSSTAT, 16, 1⟩
def Fld.ABT_PSSTAT_STEP : FieldRef := ⟨Reg.ABT_PSSTAT, 4, 3⟩
def Fld.ABT_PSSTAT_LAST : FieldRef := ⟨Reg.ABT_PSSTAT, 0, 2⟩
/-- ABT_PSCTL (17_power_states_and_supply.md). -/
def Reg.ABT_PSCTL : Nat := 0x40010018
def Fld.ABT_PSCTL_ETYPE : FieldRef := ⟨Reg.ABT_PSCTL, 16, 16⟩
def Fld.ABT_PSCTL_DOZE_EN : FieldRef := ⟨Reg.ABT_PSCTL, 0, 1⟩
/-- ABT_WAKECFG (17_power_states_and_supply.md). -/
def Reg.ABT_WAKECFG : Nat := 0x40010020
def Fld.ABT_WAKECFG_POL : FieldRef := ⟨Reg.ABT_WAKECFG, 24, 8⟩
def Fld.ABT_WAKECFG_PIN_EN : FieldRef := ⟨Reg.ABT_WAKECFG, 16, 8⟩
def Fld.ABT_WAKECFG_PILOT : FieldRef := ⟨Reg.ABT_WAKECFG, 8, 8⟩
def Fld.ABT_WAKECFG_PRP : FieldRef := ⟨Reg.ABT_WAKECFG, 3, 1⟩
def Fld.ABT_WAKECFG_RTC : FieldRef := ⟨Reg.ABT_WAKECFG, 2, 1⟩
def Fld.ABT_WAKECFG_HL1 : FieldRef := ⟨Reg.ABT_WAKECFG, 1, 1⟩
def Fld.ABT_WAKECFG_HL0 : FieldRef := ⟨Reg.ABT_WAKECFG, 0, 1⟩
/-- ABT_WAKEEVT (17_power_states_and_supply.md). -/
def Reg.ABT_WAKEEVT : Nat := 0x40010024
def Fld.ABT_WAKEEVT_PIN : FieldRef := ⟨Reg.ABT_WAKEEVT, 16, 8⟩
def Fld.ABT_WAKEEVT_PILOT : FieldRef := ⟨Reg.ABT_WAKEEVT, 8, 8⟩
def Fld.ABT_WAKEEVT_CB1 : FieldRef := ⟨Reg.ABT_WAKEEVT, 6, 1⟩
def Fld.ABT_WAKEEVT_CB0 : FieldRef := ⟨Reg.ABT_WAKEEVT, 5, 1⟩
def Fld.ABT_WAKEEVT_PRP : FieldRef := ⟨Reg.ABT_WAKEEVT, 4, 1⟩
def Fld.ABT_WAKEEVT_RTC : FieldRef := ⟨Reg.ABT_WAKEEVT, 3, 1⟩
def Fld.ABT_WAKEEVT_HL1 : FieldRef := ⟨Reg.ABT_WAKEEVT, 2, 1⟩
def Fld.ABT_WAKEEVT_HL0 : FieldRef := ⟨Reg.ABT_WAKEEVT, 1, 1⟩
def Fld.ABT_WAKEEVT_REQUEST : FieldRef := ⟨Reg.ABT_WAKEEVT, 0, 1⟩
/-- ABT_PADHOLD (17_power_states_and_supply.md). -/
def Reg.ABT_PADHOLD : Nat := 0x40010028
def Fld.ABT_PADHOLD_HOLD : FieldRef := ⟨Reg.ABT_PADHOLD, 3, 7⟩
/-- ABT_SUPPLY (17_power_states_and_supply.md). -/
def Reg.ABT_SUPPLY : Nat := 0x4001002c
def Fld.ABT_SUPPLY_VBAT_LOW : FieldRef := ⟨Reg.ABT_SUPPLY, 4, 1⟩
def Fld.ABT_SUPPLY_VIN_WARN : FieldRef := ⟨Reg.ABT_SUPPLY, 3, 1⟩
def Fld.ABT_SUPPLY_ON_VBAT : FieldRef := ⟨Reg.ABT_SUPPLY, 2, 1⟩
def Fld.ABT_SUPPLY_VHOLD_CHG : FieldRef := ⟨Reg.ABT_SUPPLY, 1, 1⟩
def Fld.ABT_SUPPLY_VIN_OK : FieldRef := ⟨Reg.ABT_SUPPLY, 0, 1⟩
/-- ABT_ALARMLO (17_power_states_and_supply.md). -/
def Reg.ABT_ALARMLO : Nat := 0x40010040
def Fld.ABT_ALARMLO_SEC : FieldRef := ⟨Reg.ABT_ALARMLO, 0, 32⟩
/-- ABT_ALARMHI (17_power_states_and_supply.md). -/
def Reg.ABT_ALARMHI : Nat := 0x40010044
def Fld.ABT_ALARMHI_SEC : FieldRef := ⟨Reg.ABT_ALARMHI, 0, 32⟩
/-- ABT_RTCSTAT (17_power_states_and_supply.md). -/
def Reg.ABT_RTCSTAT : Nat := 0x40010048
def Fld.ABT_RTCSTAT_ALARM : FieldRef := ⟨Reg.ABT_RTCSTAT, 4, 1⟩
def Fld.ABT_RTCSTAT_LOST : FieldRef := ⟨Reg.ABT_RTCSTAT, 3, 1⟩
def Fld.ABT_RTCSTAT_DEV : FieldRef := ⟨Reg.ABT_RTCSTAT, 2, 1⟩
def Fld.ABT_RTCSTAT_GAP : FieldRef := ⟨Reg.ABT_RTCSTAT, 1, 1⟩
def Fld.ABT_RTCSTAT_ON_RC : FieldRef := ⟨Reg.ABT_RTCSTAT, 0, 1⟩
/-- ABT_RTCDEV (17_power_states_and_supply.md). -/
def Reg.ABT_RTCDEV : Nat := 0x4001004c
def Fld.ABT_RTCDEV_PPM : FieldRef := ⟨Reg.ABT_RTCDEV, 0, 32⟩
/-- ABT_GAP (17_power_states_and_supply.md). -/
def Reg.ABT_GAP : Nat := 0x40010050
def Fld.ABT_GAP_VALUE : FieldRef := ⟨Reg.ABT_GAP, 0, 32⟩
/-- ABT_GAPEB (17_power_states_and_supply.md). -/
def Reg.ABT_GAPEB : Nat := 0x40010054
def Fld.ABT_GAPEB_VALUE : FieldRef := ⟨Reg.ABT_GAPEB, 0, 32⟩
/-- ABT_SLEEP (17_power_states_and_supply.md). -/
def Reg.ABT_SLEEP : Nat := 0x40010058
def Fld.ABT_SLEEP_VALUE : FieldRef := ⟨Reg.ABT_SLEEP, 0, 32⟩
/-- ABT_WDOG (17_power_states_and_supply.md). -/
def Reg.ABT_WDOG : Nat := 0x40010060
def Fld.ABT_WDOG_EN : FieldRef := ⟨Reg.ABT_WDOG, 31, 1⟩
def Fld.ABT_WDOG_TIMEOUT : FieldRef := ⟨Reg.ABT_WDOG, 0, 24⟩
/-- ABT_WDKICK (17_power_states_and_supply.md). -/
def Reg.ABT_WDKICK : Nat := 0x40010064
def Fld.ABT_WDKICK_KEY : FieldRef := ⟨Reg.ABT_WDKICK, 16, 16⟩
def Fld.ABT_WDKICK_KICK : FieldRef := ⟨Reg.ABT_WDKICK, 0, 1⟩
/-- ABT_RESET (17_power_states_and_supply.md). -/
def Reg.ABT_RESET : Nat := 0x40010068
def Fld.ABT_RESET_KEY : FieldRef := ⟨Reg.ABT_RESET, 16, 16⟩
def Fld.ABT_RESET_GO : FieldRef := ⟨Reg.ABT_RESET, 0, 1⟩
/-- HKP_TMAX (18_thermal.md). -/
def Reg.HKP_TMAX : Nat := 0x40020000
def Fld.HKP_TMAX_PEAK : FieldRef := ⟨Reg.HKP_TMAX, 16, 16⟩
def Fld.HKP_TMAX_TJ : FieldRef := ⟨Reg.HKP_TMAX, 0, 16⟩
/-- HKP_TSTAT (18_thermal.md). -/
def Reg.HKP_TSTAT : Nat := 0x40020004
def Fld.HKP_TSTAT_SHUT_PREV : FieldRef := ⟨Reg.HKP_TSTAT, 6, 1⟩
def Fld.HKP_TSTAT_CRIT : FieldRef := ⟨Reg.HKP_TSTAT, 5, 1⟩
def Fld.HKP_TSTAT_ENFORCED : FieldRef := ⟨Reg.HKP_TSTAT, 4, 1⟩
def Fld.HKP_TSTAT_GRACE : FieldRef := ⟨Reg.HKP_TSTAT, 3, 1⟩
def Fld.HKP_TSTAT_REQ : FieldRef := ⟨Reg.HKP_TSTAT, 2, 1⟩
def Fld.HKP_TSTAT_WARN : FieldRef := ⟨Reg.HKP_TSTAT, 1, 1⟩
/-- HKP_BROKEN (18_thermal.md). -/
def Reg.HKP_BROKEN : Nat := 0x40020008
def Fld.HKP_BROKEN_SNS : FieldRef := ⟨Reg.HKP_BROKEN, 0, 12⟩
/-- HKP_THRCTL (18_thermal.md). -/
def Reg.HKP_THRCTL : Nat := 0x4002000c
def Fld.HKP_THRCTL_NOW : FieldRef := ⟨Reg.HKP_THRCTL, 8, 1⟩
def Fld.HKP_THRCTL_GRACE : FieldRef := ⟨Reg.HKP_THRCTL, 0, 8⟩
/-- HKP_EVT (18_thermal.md). -/
def Reg.HKP_EVT : Nat := 0x40020010
def Fld.HKP_EVT_RAIL : FieldRef := ⟨Reg.HKP_EVT, 6, 1⟩
def Fld.HKP_EVT_CLEAR : FieldRef := ⟨Reg.HKP_EVT, 5, 1⟩
def Fld.HKP_EVT_BROKEN : FieldRef := ⟨Reg.HKP_EVT, 4, 1⟩
def Fld.HKP_EVT_CRIT : FieldRef := ⟨Reg.HKP_EVT, 3, 1⟩
def Fld.HKP_EVT_ENFORCE : FieldRef := ⟨Reg.HKP_EVT, 2, 1⟩
def Fld.HKP_EVT_REQ : FieldRef := ⟨Reg.HKP_EVT, 1, 1⟩
def Fld.HKP_EVT_WARN : FieldRef := ⟨Reg.HKP_EVT, 0, 1⟩
/-- HKP_TSn (18_thermal.md). -/
def Reg.HKP_TS (n : Nat) : Nat := 0x40020100 + 0x4 * n
def Fld.HKP_TS_COUNT (n : Nat) : FieldRef := ⟨(Reg.HKP_TS n), 16, 16⟩
def Fld.HKP_TS_TEMP (n : Nat) : FieldRef := ⟨(Reg.HKP_TS n), 0, 16⟩
/-- HKP_RAILk (18_thermal.md). -/
def Reg.HKP_RAIL (k : Nat) : Nat := 0x40020200 + 0x4 * k
def Fld.HKP_RAIL_MV (k : Nat) : FieldRef := ⟨(Reg.HKP_RAIL k), 0, 16⟩
/-- PYL_STAT (19_pylon_security.md). -/
def Reg.PYL_STAT : Nat := 0x40030000
def Fld.PYL_STAT_DEBUG : FieldRef := ⟨Reg.PYL_STAT, 5, 1⟩
def Fld.PYL_STAT_TOLL_WAIT : FieldRef := ⟨Reg.PYL_STAT, 4, 1⟩
def Fld.PYL_STAT_BUSY : FieldRef := ⟨Reg.PYL_STAT, 3, 1⟩
def Fld.PYL_STAT_LIFECYCLE : FieldRef := ⟨Reg.PYL_STAT, 0, 2⟩
/-- PYL_CMDADDR (19_pylon_security.md). -/
def Reg.PYL_CMDADDR : Nat := 0x40030010
def Fld.PYL_CMDADDR_ADDR : FieldRef := ⟨Reg.PYL_CMDADDR, 0, 32⟩
/-- PYL_CMDCTL (19_pylon_security.md). -/
def Reg.PYL_CMDCTL : Nat := 0x40030014
def Fld.PYL_CMDCTL_STATUS : FieldRef := ⟨Reg.PYL_CMDCTL, 16, 16⟩
def Fld.PYL_CMDCTL_BUSY : FieldRef := ⟨Reg.PYL_CMDCTL, 2, 1⟩
def Fld.PYL_CMDCTL_DONE : FieldRef := ⟨Reg.PYL_CMDCTL, 1, 1⟩
def Fld.PYL_CMDCTL_GO : FieldRef := ⟨Reg.PYL_CMDCTL, 0, 1⟩
/-- PYL_LCCTL (19_pylon_security.md). -/
def Reg.PYL_LCCTL : Nat := 0x40030020
def Fld.PYL_LCCTL_KEY : FieldRef := ⟨Reg.PYL_LCCTL, 16, 16⟩
def Fld.PYL_LCCTL_TARGET : FieldRef := ⟨Reg.PYL_LCCTL, 0, 2⟩
/-- PYL_KFUSE (19_pylon_security.md). -/
def Reg.PYL_KFUSE : Nat := 0x40030030
def Fld.PYL_KFUSE_REVOKED : FieldRef := ⟨Reg.PYL_KFUSE, 16, 12⟩
def Fld.PYL_KFUSE_FUSED : FieldRef := ⟨Reg.PYL_KFUSE, 0, 12⟩
/-- PYL_KPRES (19_pylon_security.md). -/
def Reg.PYL_KPRES : Nat := 0x40030034
def Fld.PYL_KPRES_PRESENTED : FieldRef := ⟨Reg.PYL_KPRES, 0, 12⟩
/-- PYL_EVT (19_pylon_security.md). -/
def Reg.PYL_EVT : Nat := 0x40030040
def Fld.PYL_EVT_BOOT_FAIL : FieldRef := ⟨Reg.PYL_EVT, 3, 1⟩
def Fld.PYL_EVT_LC_REF : FieldRef := ⟨Reg.PYL_EVT, 2, 1⟩
def Fld.PYL_EVT_AUTH_OK : FieldRef := ⟨Reg.PYL_EVT, 1, 1⟩
def Fld.PYL_EVT_AUTH_REF : FieldRef := ⟨Reg.PYL_EVT, 0, 1⟩
/-- PYL_NONCEw (19_pylon_security.md). -/
def Reg.PYL_NONCE (w : Nat) : Nat := 0x40030050 + 0x4 * w
def Fld.PYL_NONCE_WORD (w : Nat) : FieldRef := ⟨(Reg.PYL_NONCE w), 0, 32⟩
/-- PYL_IDw (19_pylon_security.md). -/
def Reg.PYL_ID (w : Nat) : Nat := 0x40030070 + 0x4 * w
def Fld.PYL_ID_WORD (w : Nat) : FieldRef := ⟨(Reg.PYL_ID w), 0, 32⟩
/-- PYL_FWSTAT (19_pylon_security.md). -/
def Reg.PYL_FWSTAT : Nat := 0x40030880
def Fld.PYL_FWSTAT_REASON : FieldRef := ⟨Reg.PYL_FWSTAT, 0, 8⟩
/-- PYL_MEASm_w (19_pylon_security.md). -/
def Reg.PYL_MEAS (m w : Nat) : Nat := 0x40030900 + 0x40 * m + 0x4 * w
def Fld.PYL_MEAS_WORD (m w : Nat) : FieldRef := ⟨(Reg.PYL_MEAS m w), 0, 32⟩
/-- PYL_CTRk (19_pylon_security.md). -/
def Reg.PYL_CTR (k : Nat) : Nat := 0x40030a00 + 0x4 * k
def Fld.PYL_CTR_VALUE (k : Nat) : FieldRef := ⟨(Reg.PYL_CTR k), 0, 32⟩
/-- PYL_XRGNk (19_pylon_security.md). -/
def Reg.PYL_XRGN (k : Nat) : Nat := 0x40030b00 + 0x4 * k
def Fld.PYL_XRGN_BASE (k : Nat) : FieldRef := ⟨(Reg.PYL_XRGN k), 12, 20⟩
def Fld.PYL_XRGN_PAGES (k : Nat) : FieldRef := ⟨(Reg.PYL_XRGN k), 1, 11⟩
def Fld.PYL_XRGN_VALID (k : Nat) : FieldRef := ⟨(Reg.PYL_XRGN k), 0, 1⟩
/-- PYL_VIOLn (19_pylon_security.md). -/
def Reg.PYL_VIOL (n : Nat) : Nat := 0x40030c00 + 0x8 * n
def Fld.PYL_VIOL_VALUE (n : Nat) : FieldRef := ⟨(Reg.PYL_VIOL n), 0, 32⟩
/-- PYL_VADDRn (19_pylon_security.md). -/
def Reg.PYL_VADDR (n : Nat) : Nat := 0x40030c04 + 0x8 * n
def Fld.PYL_VADDR_VALUE (n : Nat) : FieldRef := ⟨(Reg.PYL_VADDR n), 0, 32⟩
/-- PYL_VIOLSUM (19_pylon_security.md). -/
def Reg.PYL_VIOLSUM : Nat := 0x40030ca0
def Fld.PYL_VIOLSUM_NEW : FieldRef := ⟨Reg.PYL_VIOLSUM, 0, 19⟩
/-- PYL_VIOLSAT (19_pylon_security.md). -/
def Reg.PYL_VIOLSAT : Nat := 0x40030ca4
def Fld.PYL_VIOLSAT_SAT : FieldRef := ⟨Reg.PYL_VIOLSAT, 0, 19⟩
/-- TWL_LINKn_CTRL (03_span_links.md). -/
def Reg.TWL_LINK_CTRL (n : Nat) : Nat := 0x40110000 + 0x1000 * n
def Fld.TWL_LINK_CTRL_RESUME (n : Nat) : FieldRef := ⟨(Reg.TWL_LINK_CTRL n), 4, 1⟩
def Fld.TWL_LINK_CTRL_PRBS (n : Nat) : FieldRef := ⟨(Reg.TWL_LINK_CTRL n), 3, 1⟩
def Fld.TWL_LINK_CTRL_LOOP (n : Nat) : FieldRef := ⟨(Reg.TWL_LINK_CTRL n), 2, 1⟩
def Fld.TWL_LINK_CTRL_MEDIUM (n : Nat) : FieldRef := ⟨(Reg.TWL_LINK_CTRL n), 1, 1⟩
def Fld.TWL_LINK_CTRL_EN (n : Nat) : FieldRef := ⟨(Reg.TWL_LINK_CTRL n), 0, 1⟩
/-- TWL_LINKn_STAT (03_span_links.md). -/
def Reg.TWL_LINK_STAT (n : Nat) : Nat := 0x40110004 + 0x1000 * n
def Fld.TWL_LINK_STAT_PFLAGS (n : Nat) : FieldRef := ⟨(Reg.TWL_LINK_STAT n), 24, 8⟩
def Fld.TWL_LINK_STAT_MGMT_BUSY (n : Nat) : FieldRef := ⟨(Reg.TWL_LINK_STAT n), 7, 1⟩
def Fld.TWL_LINK_STAT_UP_BAD (n : Nat) : FieldRef := ⟨(Reg.TWL_LINK_STAT n), 6, 1⟩
def Fld.TWL_LINK_STAT_LOWER_TX (n : Nat) : FieldRef := ⟨(Reg.TWL_LINK_STAT n), 5, 1⟩
def Fld.TWL_LINK_STAT_STANDBY (n : Nat) : FieldRef := ⟨(Reg.TWL_LINK_STAT n), 4, 1⟩
def Fld.TWL_LINK_STAT_ACTIVE (n : Nat) : FieldRef := ⟨(Reg.TWL_LINK_STAT n), 3, 1⟩
def Fld.TWL_LINK_STAT_DLY_OK (n : Nat) : FieldRef := ⟨(Reg.TWL_LINK_STAT n), 2, 1⟩
def Fld.TWL_LINK_STAT_SYNC (n : Nat) : FieldRef := ⟨(Reg.TWL_LINK_STAT n), 1, 1⟩
def Fld.TWL_LINK_STAT_SIGNAL (n : Nat) : FieldRef := ⟨(Reg.TWL_LINK_STAT n), 0, 1⟩
/-- TWL_LINKn_ERR (03_span_links.md). -/
def Reg.TWL_LINK_ERR (n : Nat) : Nat := 0x40110008 + 0x1000 * n
def Fld.TWL_LINK_ERR_UP_CRC (n : Nat) : FieldRef := ⟨(Reg.TWL_LINK_ERR n), 16, 16⟩
def Fld.TWL_LINK_ERR_UP_MISS (n : Nat) : FieldRef := ⟨(Reg.TWL_LINK_ERR n), 0, 16⟩
/-- TWL_LINKn_DELAY (03_span_links.md). -/
def Reg.TWL_LINK_DELAY (n : Nat) : Nat := 0x4011000c + 0x1000 * n
def Fld.TWL_LINK_DELAY_DELAY (n : Nat) : FieldRef := ⟨(Reg.TWL_LINK_DELAY n), 0, 24⟩
/-- CSN_DCp_SVIEWw (08_metrology.md). -/
def Reg.CSN_DC_SVIEW (p w : Nat) : Nat := 0x40094460 + 0x80 * p + 0x4 * w
def Fld.CSN_DC_SVIEW_WH (p w : Nat) : FieldRef := ⟨(Reg.CSN_DC_SVIEW p w), 0, 32⟩
/-- CSN_DCp_SWRAP (08_metrology.md). -/
def Reg.CSN_DC_SWRAP (p : Nat) : Nat := 0x40094468 + 0x80 * p
def Fld.CSN_DC_SWRAP_EXP (p : Nat) : FieldRef := ⟨(Reg.CSN_DC_SWRAP p), 16, 16⟩
def Fld.CSN_DC_SWRAP_IMP (p : Nat) : FieldRef := ⟨(Reg.CSN_DC_SWRAP p), 0, 16⟩
/-- CSN_ACg_SVIEWx (08_metrology.md). -/
def Reg.CSN_AC_SVIEW (g x : Nat) : Nat := 0x40094980 + 0x200 * g + 0x4 * x
def Fld.CSN_AC_SVIEW_WH (g x : Nat) : FieldRef := ⟨(Reg.CSN_AC_SVIEW g x), 0, 32⟩
/-- CSN_ACg_SWRAPy (08_metrology.md). -/
def Reg.CSN_AC_SWRAP (g y : Nat) : Nat := 0x400949c0 + 0x200 * g + 0x4 * y
def Fld.CSN_AC_SWRAP_ODD (g y : Nat) : FieldRef := ⟨(Reg.CSN_AC_SWRAP g y), 16, 16⟩
def Fld.CSN_AC_SWRAP_EVEN (g y : Nat) : FieldRef := ⟨(Reg.CSN_AC_SWRAP g y), 0, 16⟩

def regBlock4000_0 : List RegDesc := [
  ⟨"CWY_INFLIGHT", 0x40000004, [], [⟨16, 7, .rc, 0, false⟩, ⟨0, 7, .ro, 0, false⟩]⟩,
  ⟨"CWY_QUOTAn", 0x40000100, [(15, 0x4)], [⟨0, 6, .rwl, 0, false⟩]⟩,
  ⟨"CWY_VIOLn", 0x40000200, [(19, 0x4)], [⟨0, 16, .rc, 0, false⟩]⟩,
  ⟨"CWY_VADDRn", 0x40000300, [(19, 0x4)], [⟨0, 32, .ro, 0, false⟩]⟩,
  ⟨"CWY_IRQRTEn", 0x40000400, [(256, 0x4)], [⟨0, 4, .rwl, 0, false⟩]⟩]

def regBlock4001_0 : List RegDesc := [
  ⟨"ABT_ID", 0x40010000, [], [⟨16, 16, .ro, 0x9632, false⟩, ⟨0, 4, .ro, 2, false⟩]⟩,
  ⟨"ABT_ROLE", 0x40010004, [], [⟨0, 2, .ro, 0, false⟩]⟩,
  ⟨"ABT_RSTCAUSE", 0x40010008, [], [⟨0, 4, .ro, 0, false⟩]⟩,
  ⟨"ABT_PSREQ", 0x40010010, [], [⟨16, 16, .wo, 0, false⟩, ⟨0, 2, .wo, 0, false⟩]⟩,
  ⟨"ABT_PSSTAT", 0x40010014, [], [⟨24, 3, .ro, 0, false⟩, ⟨18, 2, .ro, 0, false⟩, ⟨17, 1, .ro, 0, false⟩, ⟨16, 1, .ro, 0, false⟩, ⟨4, 3, .ro, 0, false⟩, ⟨0, 2, .ro, 0, false⟩]⟩,
  ⟨"ABT_PSCTL", 0x40010018, [], [⟨16, 16, .rw, 0x88b5, false⟩, ⟨0, 1, .rw, 1, false⟩]⟩,
  ⟨"ABT_WAKECFG", 0x40010020, [], [⟨24, 8, .rw, 0, false⟩, ⟨16, 8, .rw, 0, false⟩, ⟨8, 8, .rw, 0, false⟩, ⟨3, 1, .rw, 0, false⟩, ⟨2, 1, .rw, 0, false⟩, ⟨1, 1, .rw, 0, false⟩, ⟨0, 1, .rw, 0, false⟩]⟩,
  ⟨"ABT_WAKEEVT", 0x40010024, [], [⟨16, 8, .w1c, 0, false⟩, ⟨8, 8, .w1c, 0, false⟩, ⟨6, 1, .w1c, 0, false⟩, ⟨5, 1, .w1c, 0, false⟩, ⟨4, 1, .w1c, 0, false⟩, ⟨3, 1, .w1c, 0, false⟩, ⟨2, 1, .w1c, 0, false⟩, ⟨1, 1, .w1c, 0, false⟩, ⟨0, 1, .w1c, 0, false⟩]⟩,
  ⟨"ABT_PADHOLD", 0x40010028, [], [⟨3, 7, .w1c, 0, false⟩]⟩,
  ⟨"ABT_SUPPLY", 0x4001002c, [], [⟨4, 1, .ro, 0, false⟩, ⟨3, 1, .w1c, 0, false⟩, ⟨2, 1, .ro, 0, false⟩, ⟨1, 1, .ro, 0, false⟩, ⟨0, 1, .ro, 0, false⟩]⟩,
  ⟨"ABT_ALARMLO", 0x40010040, [], [⟨0, 32, .rw, 0, false⟩]⟩,
  ⟨"ABT_ALARMHI", 0x40010044, [], [⟨0, 32, .rw, 0, false⟩]⟩,
  ⟨"ABT_RTCSTAT", 0x40010048, [], [⟨4, 1, .w1c, 0, false⟩, ⟨3, 1, .ro, 0, false⟩, ⟨2, 1, .w1c, 0, false⟩, ⟨1, 1, .w1c, 0, false⟩, ⟨0, 1, .ro, 0, false⟩]⟩,
  ⟨"ABT_RTCDEV", 0x4001004c, [], [⟨0, 32, .ro, 0, false⟩]⟩,
  ⟨"ABT_GAP", 0x40010050, [], [⟨0, 32, .ro, 0, false⟩]⟩,
  ⟨"ABT_GAPEB", 0x40010054, [], [⟨0, 32, .ro, 0, false⟩]⟩,
  ⟨"ABT_SLEEP", 0x40010058, [], [⟨0, 32, .ro, 0, false⟩]⟩,
  ⟨"ABT_WDOG", 0x40010060, [], [⟨31, 1, .rw, 0, false⟩, ⟨0, 24, .rw, 0x3e8, false⟩]⟩,
  ⟨"ABT_WDKICK", 0x40010064, [], [⟨16, 16, .wo, 0, false⟩, ⟨0, 1, .wo, 0, false⟩]⟩,
  ⟨"ABT_RESET", 0x40010068, [], [⟨16, 16, .wo, 0, false⟩, ⟨0, 1, .wo, 0, false⟩]⟩]

def regBlock4002_0 : List RegDesc := [
  ⟨"HKP_TMAX", 0x40020000, [], [⟨16, 16, .rc, 0x8000, false⟩, ⟨0, 16, .ro, 0x8000, false⟩]⟩,
  ⟨"HKP_TSTAT", 0x40020004, [], [⟨6, 1, .w1c, 0, false⟩, ⟨5, 1, .ro, 0, false⟩, ⟨4, 1, .ro, 0, false⟩, ⟨3, 1, .ro, 0, false⟩, ⟨2, 1, .ro, 0, false⟩, ⟨1, 1, .ro, 0, false⟩]⟩,
  ⟨"HKP_BROKEN", 0x40020008, [], [⟨0, 12, .ro, 0, false⟩]⟩,
  ⟨"HKP_THRCTL", 0x4002000c, [], [⟨8, 1, .wo, 0, false⟩, ⟨0, 8, .rw, 0x32, false⟩]⟩,
  ⟨"HKP_EVT", 0x40020010, [], [⟨6, 1, .w1c, 0, false⟩, ⟨5, 1, .w1c, 0, false⟩, ⟨4, 1, .w1c, 0, false⟩, ⟨3, 1, .w1c, 0, false⟩, ⟨2, 1, .w1c, 0, false⟩, ⟨1, 1, .w1c, 0, false⟩, ⟨0, 1, .w1c, 0, false⟩]⟩,
  ⟨"HKP_TSn", 0x40020100, [(12, 0x4)], [⟨16, 16, .ro, 0, false⟩, ⟨0, 16, .ro, 0x8000, false⟩]⟩,
  ⟨"HKP_RAILk", 0x40020200, [(8, 0x4)], [⟨0, 16, .ro, 0, false⟩]⟩]

def regBlock4003_0 : List RegDesc := [
  ⟨"PYL_IMGSTAT", 0x40030800, [], [⟨24, 8, .ro, 0, false⟩, ⟨16, 8, .ro, 0, false⟩, ⟨8, 8, .ro, 0, false⟩, ⟨2, 1, .ro, 0, false⟩, ⟨1, 1, .ro, 0, false⟩, ⟨0, 1, .ro, 0, false⟩]⟩,
  ⟨"PYL_IMGCOMMIT", 0x40030804, [], [⟨16, 16, .wo, 0, false⟩, ⟨0, 1, .wo, 0, false⟩]⟩,
  ⟨"PYL_IMGDIGn", 0x40030820, [(16, 0x4)], [⟨0, 32, .ro, 0, false⟩]⟩,
  ⟨"PYL_SWIDn", 0x40030860, [(8, 0x4)], [⟨0, 32, .ro, 0, false⟩]⟩,
  ⟨"PYL_STAT", 0x40030000, [], [⟨5, 1, .ro, 0, false⟩, ⟨4, 1, .ro, 0, false⟩, ⟨3, 1, .ro, 0, false⟩, ⟨0, 2, .ro, 0, false⟩]⟩,
  ⟨"PYL_CMDADDR", 0x40030010, [], [⟨0, 32, .rw, 0, false⟩]⟩,
  ⟨"PYL_CMDCTL", 0x40030014, [], [⟨16, 16, .ro, 0, false⟩, ⟨2, 1, .ro, 0, false⟩, ⟨1, 1, .w1c, 0, false⟩, ⟨0, 1, .w1s, 0, false⟩]⟩,
  ⟨"PYL_LCCTL", 0x40030020, [], [⟨16, 16, .wo, 0, false⟩, ⟨0, 2, .wo, 0, false⟩]⟩,
  ⟨"PYL_KFUSE", 0x40030030, [], [⟨16, 12, .ro, 0, false⟩, ⟨0, 12, .ro, 0, false⟩]⟩,
  ⟨"PYL_KPRES", 0x40030034, [], [⟨0, 12, .ro, 0, false⟩]⟩,
  ⟨"PYL_EVT", 0x40030040, [], [⟨3, 1, .w1c, 0, false⟩, ⟨2, 1, .w1c, 0, false⟩, ⟨1, 1, .w1c, 0, false⟩, ⟨0, 1, .w1c, 0, false⟩]⟩,
  ⟨"PYL_NONCEw", 0x40030050, [(8, 0x4)], [⟨0, 32, .ro, 0, false⟩]⟩,
  ⟨"PYL_IDw", 0x40030070, [(4, 0x4)], [⟨0, 32, .ro, 0, false⟩]⟩,
  ⟨"PYL_FWSTAT", 0x40030880, [], [⟨0, 8, .ro, 0, false⟩]⟩,
  ⟨"PYL_MEASm_w", 0x40030900, [(4, 0x40), (16, 0x4)], [⟨0, 32, .ro, 0, false⟩]⟩,
  ⟨"PYL_CTRk", 0x40030a00, [(16, 0x4)], [⟨0, 32, .ro, 0, false⟩]⟩,
  ⟨"PYL_XRGNk", 0x40030b00, [(16, 0x4)], [⟨12, 20, .ro, 0, false⟩, ⟨1, 11, .ro, 0, false⟩, ⟨0, 1, .ro, 0, false⟩]⟩,
  ⟨"PYL_VIOLn", 0x40030c00, [(19, 0x8)], [⟨0, 32, .ro, 0, false⟩]⟩,
  ⟨"PYL_VADDRn", 0x40030c04, [(19, 0x8)], [⟨0, 32, .ro, 0, false⟩]⟩,
  ⟨"PYL_VIOLSUM", 0x40030ca0, [], [⟨0, 19, .rc, 0, false⟩]⟩,
  ⟨"PYL_VIOLSAT", 0x40030ca4, [], [⟨0, 19, .ro, 0, false⟩]⟩]

def regBlock4004_0 : List RegDesc := [
  ⟨"SPN_LINKn_CTRL", 0x40040000, [(12, 0x1000)], [⟨4, 1, .wo, 0, false⟩, ⟨3, 1, .rw, 0, true⟩, ⟨2, 1, .rw, 0, true⟩, ⟨1, 1, .rwl, 0, false⟩, ⟨0, 1, .rwl, 0, false⟩]⟩,
  ⟨"SPN_LINKn_STAT", 0x40040004, [(12, 0x1000)], [⟨24, 8, .ro, 0, false⟩, ⟨7, 1, .ro, 0, false⟩, ⟨6, 1, .w1c, 0, false⟩, ⟨5, 1, .ro, 0, false⟩, ⟨4, 1, .ro, 0, false⟩, ⟨3, 1, .ro, 0, false⟩, ⟨2, 1, .ro, 0, false⟩, ⟨1, 1, .ro, 0, false⟩, ⟨0, 1, .ro, 0, false⟩]⟩,
  ⟨"SPN_LINKn_ERR", 0x40040008, [(12, 0x1000)], [⟨16, 16, .rc, 0, false⟩, ⟨0, 16, .rc, 0, false⟩]⟩,
  ⟨"SPN_LINKn_DELAY", 0x4004000c, [(12, 0x1000)], [⟨0, 24, .ro, 0, false⟩]⟩,
  ⟨"SPN_LINKn_PMASK", 0x40040010, [(12, 0x1000)], [⟨0, 32, .ro, 0, false⟩]⟩,
  ⟨"SPN_LINKn_SMASK", 0x40040014, [(12, 0x1000)], [⟨0, 32, .ro, 0, false⟩]⟩,
  ⟨"SPN_LINKn_MGMTC", 0x40040020, [(12, 0x1000)], [⟨31, 1, .w1s, 0, true⟩, ⟨29, 2, .rw, 0, true⟩, ⟨15, 14, .rw, 0, true⟩]⟩,
  ⟨"SPN_LINKn_MGMTD", 0x40040024, [(12, 0x1000)], [⟨0, 32, .rw, 0, true⟩]⟩,
  ⟨"SPN_LINKn_MGMTR", 0x40040028, [(12, 0x1000)], [⟨31, 1, .w1c, 0, false⟩, ⟨30, 1, .ro, 0, false⟩]⟩,
  ⟨"SPN_LINKn_MGMTQ", 0x4004002c, [(12, 0x1000)], [⟨0, 32, .ro, 0, false⟩]⟩,
  ⟨"SPN_BCAST", 0x4004c000, [], [⟨1, 1, .w1c, 0, false⟩, ⟨0, 1, .ro, 0, false⟩]⟩,
  ⟨"SPN_TIMELO", 0x4004c004, [], [⟨0, 32, .ro, 0, false⟩]⟩,
  ⟨"SPN_TIMEHI", 0x4004c008, [], [⟨0, 32, .ro, 0, false⟩]⟩]

def regBlock4005_0 : List RegDesc := [
  ⟨"PHS_PIERn_CTRL", 0x40050000, [(12, 0x1000)], [⟨4, 1, .rw, 0, true⟩, ⟨3, 1, .rw, 0, true⟩, ⟨2, 1, .rw, 0, true⟩, ⟨1, 1, .rw, 0, false⟩, ⟨0, 1, .rw, 0, false⟩]⟩,
  ⟨"PHS_PIERn_STAT", 0x40050004, [(12, 0x1000)], [⟨26, 1, .ro, 0, false⟩, ⟨25, 1, .ro, 0, false⟩, ⟨24, 1, .ro, 0, false⟩, ⟨16, 5, .ro, 0, false⟩, ⟨8, 6, .ro, 0, false⟩, ⟨0, 6, .ro, 0, false⟩]⟩,
  ⟨"PHS_PIERn_SHED", 0x40050008, [(12, 0x1000)], [⟨24, 8, .rw, 0, true⟩, ⟨16, 8, .rw, 0, true⟩, ⟨8, 8, .rw, 0, true⟩, ⟨0, 6, .rw, 0, true⟩]⟩,
  ⟨"PHS_PIERn_DWELL", 0x4005000c, [(12, 0x1000)], [⟨16, 16, .rw, 0, true⟩, ⟨8, 8, .rw, 0, true⟩, ⟨0, 8, .rw, 0, true⟩]⟩,
  ⟨"PHS_PIERn_DE", 0x40050010, [(12, 0x1000)], [⟨16, 16, .rw, 0, true⟩, ⟨0, 16, .rw, 0, true⟩]⟩,
  ⟨"PHS_PIERn_STEP", 0x40050014, [(12, 0x1000)], [⟨28, 4, .rw, 0, true⟩, ⟨0, 16, .rw, 0, true⟩]⟩,
  ⟨"PHS_PIERn_TIMING", 0x40050018, [(12, 0x1000)], [⟨24, 8, .rw, 0, true⟩, ⟨16, 8, .rw, 0, true⟩, ⟨0, 16, .rw, 0, true⟩]⟩,
  ⟨"PHS_PIERn_SVC", 0x40050020, [(12, 0x1000)], [⟨0, 32, .ro, 0, false⟩]⟩,
  ⟨"PHS_PIERn_DEM", 0x40050024, [(12, 0x1000)], [⟨0, 32, .ro, 0, false⟩]⟩,
  ⟨"PHS_PIERn_RAMP", 0x40050028, [(12, 0x1000)], [⟨0, 32, .ro, 0, false⟩]⟩,
  ⟨"PHS_PIERn_FAULT", 0x4005002c, [(12, 0x1000)], [⟨0, 32, .w1c, 0, false⟩]⟩,
  ⟨"PHS_PIERn_THERM", 0x40050030, [(12, 0x1000)], [⟨0, 32, .ro, 0, false⟩]⟩,
  ⟨"PHS_PIERn_FLAST", 0x40050034, [(12, 0x1000)], [⟨8, 5, .ro, 0, false⟩, ⟨0, 3, .ro, 0, false⟩]⟩,
  ⟨"PHS_PIERn_CAP", 0x40050038, [(12, 0x1000)], [⟨0, 32, .ro, 0, false⟩]⟩,
  ⟨"PHS_PIERn_EVT", 0x4005003c, [(12, 0x1000)], [⟨6, 1, .w1c, 0, false⟩, ⟨5, 1, .w1c, 0, false⟩, ⟨4, 1, .w1c, 0, false⟩, ⟨3, 1, .w1c, 0, false⟩, ⟨2, 1, .w1c, 0, false⟩, ⟨1, 1, .w1c, 0, false⟩, ⟨0, 1, .w1c, 0, false⟩]⟩,
  ⟨"PHS_PIERn_TLMSEQ", 0x40050040, [(12, 0x1000)], [⟨0, 32, .ro, 0, false⟩]⟩,
  ⟨"PHS_PIERn_TMARGIN", 0x40050044, [(12, 0x1000)], [⟨0, 32, .ro, 0, false⟩]⟩,
  ⟨"PHS_PIERn_PHp_VAVG", 0x40050400, [(12, 0x1000), (32, 0x20)], [⟨0, 32, .ro, 0x80000000, false⟩]⟩,
  ⟨"PHS_PIERn_PHp_IAVG", 0x40050404, [(12, 0x1000), (32, 0x20)], [⟨0, 32, .ro, 0x80000000, false⟩]⟩,
  ⟨"PHS_PIERn_PHp_PAVG", 0x40050408, [(12, 0x1000), (32, 0x20)], [⟨0, 32, .ro, 0x80000000, false⟩]⟩,
  ⟨"PHS_PIERn_PHp_TAVG", 0x4005040c, [(12, 0x1000), (32, 0x20)], [⟨0, 32, .ro, 0x80000000, false⟩]⟩,
  ⟨"PHS_PIERn_PHp_VPK", 0x40050410, [(12, 0x1000), (32, 0x20)], [⟨0, 32, .rc, 0x80000000, false⟩]⟩,
  ⟨"PHS_PIERn_PHp_IPK", 0x40050414, [(12, 0x1000), (32, 0x20)], [⟨0, 32, .rc, 0x80000000, false⟩]⟩,
  ⟨"PHS_PIERn_PHp_PPK", 0x40050418, [(12, 0x1000), (32, 0x20)], [⟨0, 32, .rc, 0x80000000, false⟩]⟩]

def regBlock4005_1 : List RegDesc := [
  ⟨"PHS_PIERn_PHp_TPK", 0x4005041c, [(12, 0x1000), (32, 0x20)], [⟨0, 32, .rc, 0x80000000, false⟩]⟩,
  ⟨"PHS_ROT", 0x4005c000, [], [⟨0, 20, .rw, 0, true⟩]⟩,
  ⟨"PHS_TLM", 0x4005c004, [], [⟨0, 4, .rw, 0, false⟩]⟩]

def regBlock4006_0 : List RegDesc := [
  ⟨"KST_En_STAT", 0x40060000, [(6, 0x2000)], [⟨30, 2, .ro, 0, false⟩, ⟨24, 3, .ro, 0, false⟩, ⟨0, 10, .ro, 0, false⟩]⟩,
  ⟨"KST_En_ERR", 0x40060004, [(6, 0x2000)], [⟨16, 16, .rc, 0, false⟩, ⟨0, 16, .rc, 0, false⟩]⟩,
  ⟨"KST_En_BUSY", 0x40060008, [(6, 0x2000)], [⟨16, 16, .rc, 0, false⟩, ⟨0, 16, .ro, 0, false⟩]⟩,
  ⟨"KST_En_SEL", 0x40060010, [(6, 0x2000)], [⟨0, 10, .rw, 0, false⟩]⟩,
  ⟨"KST_En_BANKd", 0x40060040, [(6, 0x2000), (16, 0x4)], [⟨0, 32, .rw, 0, true⟩]⟩,
  ⟨"KST_En_STw", 0x40060080, [(6, 0x2000), (8, 0x4)], [⟨0, 32, .ro, 0, false⟩]⟩,
  ⟨"KST_SWAP", 0x4006c000, [], [⟨0, 32, .w1s, 0, true⟩]⟩,
  ⟨"KST_ACTIVE", 0x4006c004, [], [⟨0, 32, .ro, 0, false⟩]⟩,
  ⟨"KST_TIMING", 0x4006c008, [], [⟨16, 16, .rwl, 0, false⟩, ⟨0, 16, .ro, 0, false⟩]⟩,
  ⟨"KST_SPARE", 0x4006c00c, [], [⟨8, 6, .ro, 0, false⟩, ⟨0, 4, .ro, 0xf, false⟩]⟩,
  ⟨"KST_EVT", 0x4006c010, [], [⟨9, 1, .w1c, 0, false⟩, ⟨8, 1, .w1c, 0, false⟩, ⟨7, 1, .w1c, 0, false⟩, ⟨6, 1, .w1c, 0, false⟩, ⟨5, 1, .w1c, 0, false⟩, ⟨4, 1, .w1c, 0, false⟩, ⟨3, 1, .w1c, 0, false⟩, ⟨2, 1, .w1c, 0, false⟩, ⟨1, 1, .w1c, 0, false⟩, ⟨0, 1, .w1c, 0, false⟩]⟩,
  ⟨"KST_LAST", 0x4006c014, [], [⟨28, 4, .ro, 0, false⟩, ⟨24, 3, .ro, 0, false⟩, ⟨0, 10, .ro, 0, false⟩]⟩,
  ⟨"KST_OUTm_CTRL", 0x4006d000, [(8, 0x40)], [⟨2, 1, .ro, 0, false⟩, ⟨1, 1, .rw, 0, false⟩, ⟨0, 1, .rw, 0, false⟩]⟩,
  ⟨"KST_OUTm_SET", 0x4006d004, [(8, 0x40)], [⟨0, 32, .rw, 0, false⟩]⟩,
  ⟨"KST_OUTm_VSET", 0x4006d008, [(8, 0x40)], [⟨0, 32, .rw, 0, false⟩]⟩,
  ⟨"KST_OUTm_VLIM", 0x4006d00c, [(8, 0x40)], [⟨16, 16, .rw, 0, false⟩, ⟨0, 16, .rw, 0, false⟩]⟩,
  ⟨"KST_OUTm_ARCHI", 0x4006d010, [(8, 0x40)], [⟨16, 16, .ro, 0, false⟩, ⟨0, 16, .ro, 0, false⟩]⟩,
  ⟨"KST_OUTm_ARCHP", 0x4006d014, [(8, 0x40)], [⟨16, 16, .ro, 0, false⟩, ⟨0, 16, .ro, 0, false⟩]⟩,
  ⟨"KST_OUTm_STYI", 0x4006d018, [(8, 0x40)], [⟨0, 16, .ro, 0, false⟩]⟩,
  ⟨"KST_OUTm_CAPI", 0x4006d01c, [(8, 0x40)], [⟨0, 16, .ro, 0, false⟩]⟩,
  ⟨"KST_OUTm_CEIL", 0x4006d020, [(8, 0x40)], [⟨16, 3, .ro, 0, false⟩, ⟨0, 16, .ro, 0, false⟩]⟩,
  ⟨"KST_OUTm_REF", 0x4006d024, [(8, 0x40)], [⟨0, 32, .ro, 0, false⟩]⟩,
  ⟨"KST_PIERn_SHARE", 0x4006d400, [(12, 0x4)], [⟨0, 16, .ro, 0, false⟩]⟩,
  ⟨"KST_CAMBj", 0x4006d800, [(64, 0x4)], [⟨0, 32, .rw, 0, true⟩]⟩]

def regBlock4007_0 : List RegDesc := [
  ⟨"ARC_CTRL", 0x40070000, [], [⟨2, 1, .rw, 0, false⟩, ⟨1, 1, .rw, 0, true⟩, ⟨0, 1, .rwl, 0, false⟩]⟩,
  ⟨"ARC_STAT", 0x40070004, [], [⟨16, 16, .ro, 0, false⟩, ⟨4, 2, .ro, 0, false⟩, ⟨3, 1, .ro, 0, false⟩, ⟨2, 1, .ro, 0, false⟩]⟩,
  ⟨"ARC_GRID", 0x40070010, [], [⟨0, 32, .rw, 0, false⟩]⟩,
  ⟨"ARC_GRIDX", 0x40070014, [], [⟨0, 32, .rw, 0, false⟩]⟩,
  ⟨"ARC_BUF", 0x40070018, [], [⟨0, 32, .rw, 0, false⟩]⟩,
  ⟨"ARC_BUFLIM", 0x4007001c, [], [⟨16, 16, .rw, 0xffff, false⟩, ⟨0, 16, .rw, 0xffff, false⟩]⟩,
  ⟨"ARC_COMMIT", 0x40070020, [], [⟨0, 1, .w1s, 0, false⟩]⟩,
  ⟨"ARC_LEDGw", 0x40070030, [(8, 0x4)], [⟨0, 32, .ro, 0, false⟩]⟩,
  ⟨"ARC_EVT", 0x40070050, [], [⟨6, 1, .w1c, 0, false⟩, ⟨5, 1, .w1c, 0, false⟩, ⟨4, 1, .w1c, 0, false⟩, ⟨3, 1, .w1c, 0, false⟩, ⟨2, 1, .w1c, 0, false⟩, ⟨1, 1, .w1c, 0, false⟩, ⟨0, 1, .w1c, 0, false⟩]⟩,
  ⟨"ARC_CONTP", 0x40070054, [], [⟨0, 24, .w1c, 0, false⟩]⟩,
  ⟨"ARC_CONTO", 0x40070058, [], [⟨0, 16, .w1c, 0, false⟩]⟩,
  ⟨"ARC_CONTXk", 0x4007005c, [(2, 0x4)], [⟨0, 32, .w1c, 0, false⟩]⟩,
  ⟨"ARC_MOVE", 0x40070064, [], [⟨31, 1, .w1s, 0, true⟩, ⟨8, 5, .rw, 0, true⟩, ⟨0, 5, .rw, 0, true⟩]⟩,
  ⟨"ARC_OUTm_POL", 0x40070100, [(16, 0x20)], [⟨30, 2, .rw, 0, false⟩, ⟨0, 24, .rw, 0, false⟩]⟩,
  ⟨"ARC_OUTm_PMAX", 0x40070104, [(16, 0x20)], [⟨16, 16, .rw, 0xffff, false⟩, ⟨0, 16, .rw, 0xffff, false⟩]⟩,
  ⟨"ARC_OUTm_DEM", 0x40070108, [(16, 0x20)], [⟨0, 32, .ro, 0, false⟩]⟩,
  ⟨"ARC_OUTm_ALLOC", 0x4007010c, [(16, 0x20)], [⟨0, 32, .ro, 0, false⟩]⟩,
  ⟨"ARC_OUTm_STATE", 0x40070110, [(16, 0x20)], [⟨30, 2, .ro, 0, false⟩, ⟨0, 24, .ro, 0, false⟩]⟩,
  ⟨"ARC_PIERn_STATE", 0x40070400, [(24, 0x4)], [⟨28, 4, .ro, 0, false⟩, ⟨20, 5, .ro, 0x1f, false⟩, ⟨12, 5, .ro, 0x1f, false⟩]⟩,
  ⟨"ARC_XPk_STAT", 0x40070800, [(64, 0x4)], [⟨7, 1, .ro, 0, false⟩, ⟨6, 1, .ro, 0, false⟩, ⟨0, 3, .ro, 0, false⟩]⟩,
  ⟨"ARC_SHADOWw", 0x40071000, [(256, 0x4)], [⟨0, 32, .rw, 0, true⟩]⟩]

def regBlock4008_0 : List RegDesc := [
  ⟨"GRD_Uu_CTRL", 0x40080000, [(2, 0x2000)], [⟨16, 16, .rw, 0, true⟩, ⟨14, 2, .rw, 0, true⟩, ⟨4, 1, .rw, 0, true⟩, ⟨3, 1, .rw, 0, true⟩, ⟨2, 1, .rw, 1, true⟩, ⟨1, 1, .rw, 0, true⟩, ⟨0, 1, .rw, 0, true⟩]⟩,
  ⟨"GRD_Uu_STAT", 0x40080004, [(2, 0x2000)], [⟨5, 1, .ro, 0, false⟩, ⟨4, 1, .ro, 0, false⟩, ⟨3, 1, .ro, 0, false⟩, ⟨2, 1, .ro, 0, false⟩, ⟨1, 1, .ro, 0, false⟩, ⟨0, 1, .ro, 0, false⟩]⟩,
  ⟨"GRD_Uu_CAL", 0x40080008, [(2, 0x2000)], [⟨3, 1, .w1c, 0, true⟩, ⟨2, 1, .w1c, 0, true⟩, ⟨1, 1, .w1c, 0, true⟩, ⟨0, 1, .w1s, 0, true⟩]⟩,
  ⟨"GRD_Uu_SEQ", 0x4008000c, [(2, 0x2000)], [⟨0, 5, .rw, 0, true⟩]⟩,
  ⟨"GRD_Uu_TRGg", 0x40080010, [(2, 0x2000), (4, 0x4)], [⟨31, 1, .rw, 0, false⟩, ⟨28, 3, .rw, 0, true⟩, ⟨26, 2, .rw, 0, true⟩, ⟨24, 2, .rw, 0, true⟩, ⟨20, 4, .rw, 0, true⟩, ⟨16, 3, .rw, 0, true⟩, ⟨0, 16, .rw, 0, true⟩]⟩,
  ⟨"GRD_Uu_TOVR", 0x40080020, [(2, 0x2000)], [⟨0, 32, .rc, 0, false⟩]⟩,
  ⟨"GRD_Uu_ENTe", 0x40080040, [(2, 0x2000), (32, 0x4)], [⟨12, 4, .rw, 0, true⟩, ⟨8, 4, .rw, 0, true⟩, ⟨7, 1, .rw, 0, true⟩, ⟨0, 6, .rw, 0, true⟩]⟩,
  ⟨"GRD_Uu_RESe", 0x40080100, [(2, 0x2000), (32, 0x4)], [⟨31, 1, .rc, 0, false⟩, ⟨30, 1, .ro, 0, false⟩, ⟨29, 1, .ro, 0, false⟩, ⟨28, 1, .rc, 0, false⟩, ⟨0, 16, .ro, 0x8000, false⟩]⟩,
  ⟨"GRD_Uu_CORs", 0x40080200, [(2, 0x2000), (4, 0x4)], [⟨16, 16, .ro, 0, false⟩, ⟨8, 8, .ro, 0, false⟩, ⟨0, 8, .ro, 0, false⟩]⟩,
  ⟨"GRD_Uu_CAPCTL", 0x40080300, [(2, 0x2000)], [⟨31, 1, .w1s, 0, true⟩, ⟨30, 1, .w1c, 0, true⟩, ⟨24, 5, .rw, 0, true⟩, ⟨16, 5, .rw, 0x1f, true⟩, ⟨0, 13, .rw, 0, true⟩]⟩,
  ⟨"GRD_Uu_CAPPTR", 0x40080304, [(2, 0x2000)], [⟨0, 13, .ro, 0, false⟩]⟩,
  ⟨"GRD_WINw_CFG", 0x40088000, [(32, 0x8)], [⟨31, 1, .rw, 0, true⟩, ⟨30, 1, .rw, 0, true⟩, ⟨25, 5, .rw, 0, true⟩, ⟨0, 16, .rw, 0, true⟩]⟩,
  ⟨"GRD_WINw_LIM", 0x40088004, [(32, 0x8)], [⟨16, 16, .rw, 0, true⟩, ⟨0, 16, .rw, 0, true⟩]⟩,
  ⟨"GRD_WIN_EVT", 0x40088100, [], [⟨0, 32, .w1c, 0, false⟩]⟩,
  ⟨"GRD_WIN_OUT", 0x40088104, [], [⟨0, 32, .ro, 0, false⟩]⟩,
  ⟨"GRD_MODj_CFG", 0x40088200, [(8, 0x4)], [⟨31, 1, .rwl, 0, true⟩, ⟨0, 2, .rwl, 0, true⟩]⟩,
  ⟨"GRD_MODj_RES", 0x40088240, [(8, 0x4)], [⟨31, 1, .ro, 0, false⟩, ⟨0, 16, .ro, 0x8000, false⟩]⟩]

def regBlock4009_0 : List RegDesc := [
  ⟨"CSN_CHc_RES", 0x40090000, [(40, 0x4)], [⟨0, 32, .ro, 0x80000000, false⟩]⟩,
  ⟨"CSN_CHc_STAT", 0x40090100, [(40, 0x4)], [⟨8, 24, .ro, 0, false⟩, ⟨3, 1, .ro, 0, false⟩, ⟨2, 1, .ro, 0, false⟩, ⟨1, 1, .ro, 0, false⟩, ⟨0, 1, .ro, 0, false⟩]⟩,
  ⟨"CSN_CHc_CFG", 0x40090200, [(40, 0x4)], [⟨18, 1, .rwl, 0, false⟩, ⟨17, 1, .rwl, 0, false⟩, ⟨16, 1, .rwl, 0, false⟩, ⟨12, 1, .rwl, 0, false⟩, ⟨10, 2, .rwl, 0, false⟩, ⟨8, 2, .rwl, 0, false⟩, ⟨0, 8, .rwl, 0xff, false⟩]⟩,
  ⟨"CSN_MCLK", 0x40090300, [], [⟨0, 4, .ro, 0, false⟩]⟩,
  ⟨"CSN_DCp_CFG", 0x40090400, [(8, 0x80)], [⟨31, 1, .rwl, 0, false⟩, ⟨30, 1, .rwl, 0, false⟩, ⟨8, 6, .rwl, 0, false⟩, ⟨0, 6, .rwl, 0, false⟩]⟩,
  ⟨"CSN_DCp_CABLE", 0x40090404, [(8, 0x80)], [⟨16, 16, .rwl, 0, false⟩, ⟨0, 16, .rwl, 0, false⟩]⟩,
  ⟨"CSN_DCp_THETA", 0x40090408, [(8, 0x80)], [⟨16, 16, .rwl, 0, false⟩, ⟨0, 16, .rwl, 0, false⟩]⟩,
  ⟨"CSN_DCp_QCOR", 0x4009040c, [(8, 0x80)], [⟨16, 16, .rwl, 0, false⟩, ⟨0, 16, .rwl, 0, false⟩]⟩,
  ⟨"CSN_DCp_START", 0x40090410, [(8, 0x80)], [⟨0, 16, .rwl, 0, false⟩]⟩,
  ⟨"CSN_DCp_MEASw", 0x40090420, [(8, 0x80), (5, 0x4)], [⟨0, 32, .ro, 0x80000000, false⟩]⟩,
  ⟨"CSN_DCp_STAT", 0x40090434, [(8, 0x80)], [⟨6, 1, .ro, 0, false⟩, ⟨5, 1, .ro, 0, false⟩, ⟨4, 1, .ro, 0, false⟩, ⟨3, 1, .ro, 0, false⟩, ⟨2, 1, .ro, 0, false⟩, ⟨1, 1, .ro, 0, false⟩, ⟨0, 1, .ro, 0, false⟩]⟩,
  ⟨"CSN_DCp_XCHK", 0x40090438, [(8, 0x80)], [⟨16, 16, .ro, 0, false⟩, ⟨0, 7, .ro, 0, false⟩]⟩,
  ⟨"CSN_DCp_Ew", 0x40090440, [(8, 0x80), (6, 0x4)], [⟨0, 32, .ro, 0, false⟩]⟩,
  ⟨"CSN_DCp_VIEWw", 0x40090460, [(8, 0x80), (2, 0x4)], [⟨0, 32, .ro, 0, false⟩]⟩,
  ⟨"CSN_DCp_WRAP", 0x40090468, [(8, 0x80)], [⟨16, 16, .ro, 0, false⟩, ⟨0, 16, .ro, 0, false⟩]⟩,
  ⟨"CSN_ACg_CFG", 0x40090800, [(4, 0x200)], [⟨31, 1, .rwl, 0, false⟩, ⟨30, 1, .rwl, 0, false⟩, ⟨0, 16, .rwl, 0, false⟩]⟩,
  ⟨"CSN_ACg_VCH", 0x40090804, [(4, 0x200)], [⟨16, 6, .rwl, 0, false⟩, ⟨8, 6, .rwl, 0, false⟩, ⟨0, 6, .rwl, 0, false⟩]⟩,
  ⟨"CSN_ACg_ICH", 0x40090808, [(4, 0x200)], [⟨16, 6, .rwl, 0, false⟩, ⟨8, 6, .rwl, 0, false⟩, ⟨0, 6, .rwl, 0, false⟩]⟩,
  ⟨"CSN_ACg_QCORx", 0x40090810, [(4, 0x200), (4, 0x4)], [⟨16, 16, .rwl, 0, false⟩, ⟨0, 16, .rwl, 0, false⟩]⟩,
  ⟨"CSN_ACg_PHh_Qq", 0x40090840, [(4, 0x200), (3, 0x40), (12, 0x4)], [⟨0, 32, .ro, 0x80000000, false⟩]⟩,
  ⟨"CSN_ACg_ELOx", 0x40090900, [(4, 0x200), (16, 0x8)], [⟨0, 32, .ro, 0, false⟩]⟩,
  ⟨"CSN_ACg_EHIx", 0x40090904, [(4, 0x200), (16, 0x8)], [⟨0, 32, .ro, 0, false⟩]⟩,
  ⟨"CSN_ACg_VIEWx", 0x40090980, [(4, 0x200), (16, 0x4)], [⟨0, 32, .ro, 0, false⟩]⟩,
  ⟨"CSN_ACg_WRAPy", 0x400909c0, [(4, 0x200), (8, 0x4)], [⟨16, 16, .ro, 0, false⟩, ⟨0, 16, .ro, 0, false⟩]⟩]

def regBlock4009_1 : List RegDesc := [
  ⟨"CSN_ACg_FREQ", 0x400909e0, [(4, 0x200)], [⟨0, 32, .ro, 0, false⟩]⟩,
  ⟨"CSN_ACg_STAT", 0x400909e4, [(4, 0x200)], [⟨4, 1, .ro, 0, false⟩, ⟨3, 1, .ro, 0, false⟩, ⟨2, 1, .ro, 0, false⟩, ⟨1, 1, .ro, 0, false⟩, ⟨0, 1, .ro, 0, false⟩]⟩,
  ⟨"CSN_CHc_SCALE", 0x40091000, [(40, 0x10)], [⟨0, 32, .rwl, 0, false⟩]⟩,
  ⟨"CSN_CHc_GOFF", 0x40091004, [(40, 0x10)], [⟨16, 16, .rwl, 0, false⟩, ⟨0, 16, .rwl, 0, false⟩]⟩,
  ⟨"CSN_CHc_DYN", 0x40091008, [(40, 0x10)], [⟨31, 1, .rwl, 0, false⟩, ⟨16, 8, .rwl, 0, false⟩, ⟨0, 16, .rwl, 0, false⟩]⟩,
  ⟨"CSN_CHc_CAL", 0x4009100c, [(40, 0x10)], [⟨0, 32, .ro, 0, false⟩]⟩,
  ⟨"CSN_DCp_SVIEWw", 0x40094460, [(8, 0x80), (2, 0x4)], [⟨0, 32, .ro, 0, false⟩]⟩,
  ⟨"CSN_DCp_SWRAP", 0x40094468, [(8, 0x80)], [⟨16, 16, .ro, 0, false⟩, ⟨0, 16, .ro, 0, false⟩]⟩,
  ⟨"CSN_ACg_SVIEWx", 0x40094980, [(4, 0x200), (16, 0x4)], [⟨0, 32, .ro, 0, false⟩]⟩,
  ⟨"CSN_ACg_SWRAPy", 0x400949c0, [(4, 0x200), (8, 0x4)], [⟨16, 16, .ro, 0, false⟩, ⟨0, 16, .ro, 0, false⟩]⟩]

def regBlock400A_0 : List RegDesc := [
  ⟨"TOL_MSNAP", 0x400a0800, [], [⟨16, 16, .ro, 0, false⟩, ⟨1, 1, .w1c, 0, false⟩, ⟨0, 1, .w1s, 0, false⟩]⟩,
  ⟨"TOL_MCAL", 0x400a0804, [], [⟨31, 1, .w1s, 0, false⟩, ⟨30, 1, .ro, 0, false⟩, ⟨29, 1, .w1c, 0, false⟩, ⟨28, 1, .rw, 0, false⟩, ⟨0, 16, .rw, 0xa, false⟩]⟩,
  ⟨"TOL_MEVT", 0x400a0808, [], [⟨5, 1, .w1c, 0, false⟩, ⟨4, 1, .w1c, 0, false⟩, ⟨3, 1, .w1c, 0, false⟩, ⟨2, 1, .w1c, 0, false⟩, ⟨1, 1, .w1c, 0, false⟩, ⟨0, 1, .w1c, 0, false⟩]⟩,
  ⟨"TOL_TIMELO", 0x400a0000, [], [⟨0, 32, .ro, 0, false⟩]⟩,
  ⟨"TOL_TIMEHI", 0x400a0004, [], [⟨0, 32, .ro, 0, false⟩]⟩,
  ⟨"TOL_TIMESUB", 0x400a0008, [], [⟨0, 16, .ro, 0, false⟩]⟩,
  ⟨"TOL_TSTAT", 0x400a000c, [], [⟨17, 1, .ro, 0, false⟩, ⟨14, 3, .ro, 0, false⟩, ⟨10, 4, .ro, 0, false⟩, ⟨8, 2, .ro, 0, false⟩, ⟨5, 3, .ro, 0, false⟩, ⟨4, 1, .ro, 0, false⟩, ⟨3, 1, .ro, 0, false⟩, ⟨2, 1, .ro, 0, false⟩, ⟨0, 2, .ro, 0, false⟩]⟩,
  ⟨"TOL_EB", 0x400a0010, [], [⟨0, 32, .ro, 0xffffffff, false⟩]⟩,
  ⟨"TOL_TSETLO", 0x400a0014, [], [⟨0, 32, .rw, 0, false⟩]⟩,
  ⟨"TOL_TSETHI", 0x400a0018, [], [⟨0, 32, .rw, 0, false⟩]⟩,
  ⟨"TOL_TSETC", 0x400a001c, [], [⟨31, 1, .w1s, 0, false⟩, ⟨30, 1, .ro, 0, false⟩, ⟨28, 2, .ro, 0, false⟩, ⟨27, 1, .rw, 0, false⟩, ⟨0, 24, .rw, 0, false⟩]⟩,
  ⟨"TOL_TADJ", 0x400a0020, [], [⟨16, 16, .rc, 0, false⟩, ⟨0, 16, .ro, 0, false⟩]⟩,
  ⟨"TOL_HWMLO", 0x400a0024, [], [⟨0, 32, .ro, 0, false⟩]⟩,
  ⟨"TOL_HWMHI", 0x400a0028, [], [⟨0, 32, .ro, 0, false⟩]⟩,
  ⟨"TOL_TLIM", 0x400a002c, [], [⟨24, 8, .rwl, 0x14, false⟩, ⟨12, 12, .rwl, 0x12c, false⟩, ⟨0, 12, .rwl, 0xa, false⟩]⟩,
  ⟨"TOL_CALCTL", 0x400a0040, [], [⟨16, 16, .wo, 0, false⟩, ⟨8, 4, .ro, 0, false⟩, ⟨4, 1, .ro, 0, false⟩, ⟨3, 1, .w1c, 0, false⟩, ⟨2, 1, .w1c, 0, false⟩, ⟨1, 1, .wo, 0, false⟩, ⟨0, 1, .wo, 0, false⟩]⟩,
  ⟨"TOL_CALINFOw", 0x400a0044, [(6, 0x4)], [⟨0, 32, .ro, 0, false⟩]⟩,
  ⟨"TOL_DEMCFG", 0x400a0060, [], [⟨0, 16, .rwl, 0, false⟩]⟩,
  ⟨"TOL_TEVT", 0x400a0064, [], [⟨10, 1, .w1c, 0, false⟩, ⟨9, 1, .w1c, 0, false⟩, ⟨8, 1, .w1c, 0, false⟩, ⟨7, 1, .w1c, 0, false⟩, ⟨6, 1, .w1c, 0, false⟩, ⟨5, 1, .w1c, 0, false⟩, ⟨4, 1, .w1c, 0, false⟩, ⟨3, 1, .w1c, 0, false⟩, ⟨2, 1, .w1c, 0, false⟩, ⟨1, 1, .w1c, 0, false⟩, ⟨0, 1, .w1c, 0, false⟩]⟩,
  ⟨"TOL_SESSp_CTRL", 0x400a0100, [(8, 0x20)], [⟨4, 2, .ro, 0, false⟩, ⟨3, 1, .w1c, 0, false⟩, ⟨2, 1, .w1s, 0, false⟩, ⟨1, 1, .w1s, 0, false⟩, ⟨0, 1, .w1s, 0, false⟩]⟩,
  ⟨"TOL_SESSp_EXTw", 0x400a0104, [(8, 0x20), (4, 0x4)], [⟨0, 32, .rw, 0, false⟩]⟩,
  ⟨"TOL_DCp_Tt_Ew", 0x400a1000, [(8, 0x100), (8, 0x10), (4, 0x4)], [⟨0, 32, .ro, 0, false⟩]⟩,
  ⟨"TOL_ACg_Tt_Ew", 0x400a1800, [(4, 0x100), (8, 0x10), (4, 0x4)], [⟨0, 32, .ro, 0, false⟩]⟩,
  ⟨"TOL_ACg_DEMw", 0x400a1c00, [(4, 0x100), (3, 0x4)], [⟨0, 32, .ro, 0, false⟩]⟩]

def regBlock400A_1 : List RegDesc := [
  ⟨"TOL_ACg_MDv", 0x400a1c10, [(4, 0x100), (10, 0x8)], [⟨0, 32, .ro, 0, false⟩]⟩,
  ⟨"TOL_ACg_PMDv", 0x400a1c70, [(4, 0x100), (10, 0x8)], [⟨0, 32, .ro, 0, false⟩]⟩,
  ⟨"TOL_ACg_MDTv", 0x400a1c14, [(4, 0x100), (10, 0x8)], [⟨0, 32, .ro, 0, false⟩]⟩,
  ⟨"TOL_ACg_PMDTv", 0x400a1c74, [(4, 0x100), (10, 0x8)], [⟨0, 32, .ro, 0, false⟩]⟩,
  ⟨"TOL_SESSp_Ww", 0x400a2000, [(8, 0x100), (64, 0x4)], [⟨0, 32, .ro, 0, false⟩]⟩,
  ⟨"TOL_CALBUFw", 0x400a3000, [(512, 0x4)], [⟨0, 32, .rw, 0, false⟩]⟩,
  ⟨"TOL_CALAw", 0x400a3800, [(512, 0x4)], [⟨0, 32, .ro, 0, false⟩]⟩,
  ⟨"TOL_CALPw", 0x400a4000, [(512, 0x4)], [⟨0, 32, .ro, 0, false⟩]⟩,
  ⟨"TOL_BOOK", 0x400a0a00, [], [⟨24, 8, .ro, 0, false⟩, ⟨6, 10, .ro, 0, false⟩, ⟨5, 1, .ro, 0, false⟩, ⟨4, 1, .ro, 0, false⟩, ⟨3, 1, .ro, 0, false⟩, ⟨2, 1, .ro, 0, false⟩, ⟨1, 1, .ro, 0, false⟩, ⟨0, 1, .ro, 0, false⟩]⟩,
  ⟨"TOL_SAVE", 0x400a0a04, [], [⟨31, 1, .w1s, 0, false⟩, ⟨30, 1, .ro, 0, false⟩]⟩,
  ⟨"TOL_SAVESEQ", 0x400a0a08, [], [⟨0, 32, .ro, 0, false⟩]⟩,
  ⟨"TOL_LOGSTAT", 0x400a0a10, [], [⟨23, 9, .ro, 0, false⟩, ⟨8, 8, .ro, 0, false⟩, ⟨0, 8, .ro, 0, false⟩]⟩,
  ⟨"TOL_LOGSEL", 0x400a0a14, [], [⟨31, 1, .rw, 0, false⟩, ⟨0, 9, .rw, 0, false⟩]⟩,
  ⟨"TOL_LOGw", 0x400a0a20, [(8, 0x4)], [⟨0, 32, .ro, 0, false⟩]⟩,
  ⟨"TOL_ARCCTL", 0x400a0a40, [], [⟨16, 16, .wo, 0, false⟩, ⟨8, 4, .ro, 0, false⟩, ⟨3, 1, .w1c, 0, false⟩, ⟨2, 1, .w1c, 0, false⟩, ⟨1, 1, .ro, 0, false⟩, ⟨0, 1, .wo, 0, false⟩]⟩,
  ⟨"TOL_RECSTAT", 0x400a0a50, [], [⟨24, 8, .rc, 0, false⟩, ⟨0, 3, .ro, 0, false⟩]⟩,
  ⟨"TOL_RECCTL", 0x400a0a54, [], [⟨0, 1, .wo, 0, false⟩]⟩,
  ⟨"TOL_RECSEQ", 0x400a0a58, [], [⟨0, 32, .ro, 0, false⟩]⟩,
  ⟨"TOL_DPSTAT", 0x400a0a60, [], [⟨24, 8, .ro, 0, false⟩, ⟨16, 8, .ro, 0, false⟩]⟩,
  ⟨"TOL_DPHEADn", 0x400a0a70, [(8, 0x4)], [⟨24, 8, .ro, 0, false⟩, ⟨16, 5, .ro, 0, false⟩, ⟨0, 8, .ro, 0, false⟩]⟩,
  ⟨"TOL_BEVT", 0x400a0a90, [], [⟨9, 1, .w1c, 0, false⟩, ⟨8, 1, .w1c, 0, false⟩, ⟨7, 1, .w1c, 0, false⟩, ⟨6, 1, .w1c, 0, false⟩, ⟨5, 1, .w1c, 0, false⟩, ⟨4, 1, .w1c, 0, false⟩, ⟨3, 1, .w1c, 0, false⟩, ⟨2, 1, .w1c, 0, false⟩, ⟨1, 1, .w1c, 0, false⟩, ⟨0, 1, .w1c, 0, false⟩]⟩,
  ⟨"TOL_RECBUFw", 0x400a5000, [(1024, 0x4)], [⟨0, 32, .ro, 0, false⟩]⟩,
  ⟨"TOL_AUTHw", 0x400a6000, [(1024, 0x4)], [⟨0, 32, .rw, 0, false⟩]⟩]

def regBlock400B_0 : List RegDesc := [
  ⟨"STY_CBLm_CTRL", 0x400b0000, [(8, 0x100)], [⟨2, 1, .rw, 0, false⟩, ⟨1, 1, .rw, 0, true⟩, ⟨0, 1, .rw, 0, false⟩]⟩,
  ⟨"STY_CBLm_STAT", 0x400b0004, [(8, 0x100)], [⟨24, 8, .ro, 0, false⟩, ⟨9, 3, .ro, 0, false⟩, ⟨7, 1, .ro, 0, false⟩, ⟨6, 1, .ro, 0, false⟩, ⟨5, 1, .ro, 0, false⟩, ⟨4, 1, .ro, 0, false⟩, ⟨3, 1, .ro, 0, false⟩, ⟨2, 1, .ro, 0, false⟩, ⟨1, 1, .ro, 0, false⟩, ⟨0, 1, .ro, 0, false⟩]⟩,
  ⟨"STY_CBLm_CEIL", 0x400b0008, [(8, 0x100)], [⟨16, 16, .ro, 0, false⟩, ⟨0, 16, .ro, 0, false⟩]⟩,
  ⟨"STY_CBLm_LIM", 0x400b000c, [(8, 0x100)], [⟨16, 16, .rw, 0, false⟩, ⟨0, 16, .rw, 0, false⟩]⟩,
  ⟨"STY_CBLm_TCOND", 0x400b0010, [(8, 0x100)], [⟨0, 32, .ro, 0x80000000, false⟩]⟩,
  ⟨"STY_CBLm_TCOOL", 0x400b0014, [(8, 0x100)], [⟨0, 32, .ro, 0x80000000, false⟩]⟩,
  ⟨"STY_CBLm_TCONTx", 0x400b0018, [(8, 0x100), (2, 0x4)], [⟨0, 32, .ro, 0x80000000, false⟩]⟩,
  ⟨"STY_CBLm_FWj", 0x400b0020, [(8, 0x100), (8, 0x4)], [⟨0, 32, .rw, 0, false⟩]⟩,
  ⟨"STY_CBLm_VALj", 0x400b0040, [(8, 0x100), (8, 0x4)], [⟨0, 32, .ro, 0x80000000, false⟩]⟩,
  ⟨"STY_CBLm_ACT", 0x400b0060, [(8, 0x100)], [⟨24, 8, .rw, 0, true⟩, ⟨16, 8, .rw, 0, true⟩, ⟨0, 1, .rw, 0, true⟩]⟩,
  ⟨"STY_CBLm_DUTY", 0x400b0064, [(8, 0x100)], [⟨24, 8, .ro, 0, false⟩, ⟨16, 8, .ro, 0, false⟩, ⟨0, 1, .ro, 0, false⟩]⟩,
  ⟨"STY_CBLm_EVT", 0x400b0068, [(8, 0x100)], [⟨3, 1, .w1c, 0, false⟩, ⟨2, 1, .w1c, 0, false⟩, ⟨1, 1, .w1c, 0, false⟩, ⟨0, 1, .w1c, 0, false⟩]⟩,
  ⟨"STY_PERIOD", 0x400b0800, [], [⟨16, 16, .ro, 0, false⟩, ⟨0, 16, .ro, 0, false⟩]⟩]

def regBlock400C_0 : List RegDesc := [
  ⟨"VLK_Ln_CTRL", 0x400c0000, [(8, 0x2000)], [⟨4, 1, .rw, 0, true⟩, ⟨3, 1, .rw, 0, false⟩, ⟨2, 1, .rw, 0, false⟩, ⟨0, 1, .rw, 0, false⟩]⟩,
  ⟨"VLK_Ln_CFG", 0x400c0004, [(8, 0x2000)], [⟨16, 2, .ro, 0, false⟩, ⟨15, 1, .ro, 0, false⟩, ⟨12, 3, .ro, 0, false⟩, ⟨8, 3, .ro, 0, false⟩, ⟨4, 2, .ro, 0, false⟩, ⟨0, 2, .ro, 0, false⟩]⟩,
  ⟨"VLK_Ln_PILOT", 0x400c0008, [(8, 0x2000)], [⟨29, 3, .ro, 6, false⟩, ⟨16, 10, .ro, 0, false⟩, ⟨0, 10, .rw, 0x3e8, false⟩]⟩,
  ⟨"VLK_Ln_PMEAS", 0x400c000c, [(8, 0x2000)], [⟨16, 16, .ro, 0, false⟩, ⟨0, 16, .ro, 0, false⟩]⟩,
  ⟨"VLK_Ln_CONT", 0x400c0010, [(8, 0x2000)], [⟨31, 1, .ro, 0, false⟩, ⟨18, 2, .ro, 0, false⟩, ⟨16, 2, .ro, 0, false⟩, ⟨0, 16, .ro, 0xffff, false⟩]⟩,
  ⟨"VLK_Ln_CCV", 0x400c0014, [(8, 0x2000)], [⟨16, 16, .ro, 0, false⟩, ⟨0, 16, .ro, 0, false⟩]⟩,
  ⟨"VLK_Ln_SESS", 0x400c0018, [(8, 0x2000)], [⟨11, 1, .ro, 0, false⟩, ⟨10, 1, .ro, 0, false⟩, ⟨9, 1, .ro, 0, false⟩, ⟨8, 1, .ro, 0, false⟩, ⟨6, 1, .rw, 0, false⟩, ⟨4, 2, .rw, 0, false⟩, ⟨0, 3, .rw, 0, false⟩]⟩,
  ⟨"VLK_Ln_WDOG", 0x400c001c, [(8, 0x2000)], [⟨31, 1, .wo, 0, false⟩, ⟨30, 1, .ro, 0, false⟩, ⟨0, 16, .rw, 0, true⟩]⟩,
  ⟨"VLK_Ln_EMAXI", 0x400c0020, [(8, 0x2000)], [⟨16, 16, .ro, 0, false⟩, ⟨0, 16, .ro, 0, false⟩]⟩,
  ⟨"VLK_Ln_EMAXP", 0x400c0024, [(8, 0x2000)], [⟨16, 16, .ro, 0, false⟩, ⟨0, 16, .ro, 0, false⟩]⟩,
  ⟨"VLK_Ln_BMSI", 0x400c0028, [(8, 0x2000)], [⟨16, 16, .rw, 0, false⟩, ⟨0, 16, .rw, 0, false⟩]⟩,
  ⟨"VLK_Ln_PREMOTE", 0x400c002c, [(8, 0x2000)], [⟨3, 1, .rw, 0, false⟩, ⟨0, 3, .rw, 6, false⟩]⟩,
  ⟨"VLK_Ln_EVT", 0x400c0030, [(8, 0x2000)], [⟨9, 1, .w1c, 0, false⟩, ⟨8, 1, .w1c, 0, false⟩, ⟨7, 1, .w1c, 0, false⟩, ⟨6, 1, .w1c, 0, false⟩, ⟨5, 1, .w1c, 0, false⟩, ⟨4, 1, .w1c, 0, false⟩, ⟨3, 1, .w1c, 0, false⟩, ⟨2, 1, .w1c, 0, false⟩, ⟨1, 1, .w1c, 0, false⟩, ⟨0, 1, .w1c, 0, false⟩]⟩,
  ⟨"VLK_Ln_TXRING", 0x400c0040, [(8, 0x2000)], [⟨6, 26, .rw, 0, false⟩, ⟨0, 4, .rw, 0, false⟩]⟩,
  ⟨"VLK_Ln_RXRING", 0x400c0044, [(8, 0x2000)], [⟨6, 26, .rw, 0, false⟩, ⟨0, 4, .rw, 0, false⟩]⟩,
  ⟨"VLK_Ln_DOOR", 0x400c0048, [(8, 0x2000)], [⟨16, 8, .ro, 0, false⟩, ⟨0, 8, .rw, 0, false⟩]⟩,
  ⟨"VLK_Ln_VCNTw", 0x400c0060, [(8, 0x2000), (8, 0x4)], [⟨0, 32, .ro, 0, false⟩]⟩,
  ⟨"VLK_Ln_HPSTAT", 0x400c0100, [(8, 0x2000)], [⟨8, 4, .ro, 0, false⟩, ⟨7, 1, .ro, 0, false⟩, ⟨6, 1, .ro, 0, false⟩, ⟨2, 2, .ro, 0, false⟩, ⟨1, 1, .ro, 0, false⟩, ⟨0, 1, .ro, 0, false⟩]⟩,
  ⟨"VLK_Ln_HPCNT", 0x400c0104, [(8, 0x2000)], [⟨16, 16, .rc, 0, false⟩, ⟨8, 8, .rc, 0, false⟩, ⟨0, 8, .rc, 0, false⟩]⟩,
  ⟨"VLK_Ln_SLACATT", 0x400c0108, [(8, 0x2000)], [⟨0, 8, .ro, 0, false⟩]⟩,
  ⟨"VLK_Ln_T1SSTAT", 0x400c0110, [(8, 0x2000)], [⟨2, 1, .ro, 0, false⟩, ⟨1, 1, .ro, 0, false⟩, ⟨0, 1, .ro, 0, false⟩]⟩,
  ⟨"VLK_Ln_T1SCNT", 0x400c0114, [(8, 0x2000)], [⟨16, 16, .rc, 0, false⟩, ⟨0, 16, .rc, 0, false⟩]⟩,
  ⟨"VLK_Ln_LEVT", 0x400c0118, [(8, 0x2000)], [⟨3, 1, .w1c, 0, false⟩, ⟨2, 1, .w1c, 0, false⟩, ⟨1, 1, .w1c, 0, false⟩, ⟨0, 1, .w1c, 0, false⟩]⟩]

def regBlock400D_0 : List RegDesc := [
  ⟨"CBU_Bn_CTRL", 0x400d0000, [(4, 0x4000)], [⟨8, 1, .wo, 0, true⟩, ⟨7, 1, .rw, 0, true⟩, ⟨6, 1, .rw, 0, true⟩, ⟨5, 1, .rw, 0, true⟩, ⟨4, 1, .rw, 0, false⟩, ⟨3, 1, .rw, 0, true⟩, ⟨2, 1, .rw, 0, true⟩, ⟨1, 1, .rw, 0, true⟩, ⟨0, 1, .rw, 0, false⟩]⟩,
  ⟨"CBU_Bn_NBT", 0x400d0004, [(4, 0x4000)], [⟨23, 9, .rw, 0, true⟩, ⟨15, 8, .rw, 0, true⟩, ⟨8, 7, .rw, 0, true⟩, ⟨0, 7, .rw, 0, true⟩]⟩,
  ⟨"CBU_Bn_DBT", 0x400d0008, [(4, 0x4000)], [⟨31, 1, .rw, 0, true⟩, ⟨24, 7, .rw, 0, true⟩, ⟨16, 5, .rw, 0, true⟩, ⟨11, 5, .rw, 0, true⟩, ⟨7, 4, .rw, 0, true⟩, ⟨3, 4, .rw, 0, true⟩]⟩,
  ⟨"CBU_Bn_STAT", 0x400d000c, [(4, 0x4000)], [⟨24, 8, .ro, 0, false⟩, ⟨23, 1, .ro, 0, false⟩, ⟨16, 7, .ro, 0, false⟩, ⟨4, 3, .ro, 0, false⟩, ⟨3, 1, .ro, 0, false⟩, ⟨2, 1, .ro, 0, false⟩, ⟨1, 1, .ro, 0, false⟩, ⟨0, 1, .ro, 0, false⟩]⟩,
  ⟨"CBU_Bn_EVT", 0x400d0010, [(4, 0x4000)], [⟨9, 1, .w1c, 0, false⟩, ⟨8, 1, .w1c, 0, false⟩, ⟨7, 1, .w1c, 0, false⟩, ⟨6, 1, .w1c, 0, false⟩, ⟨5, 1, .w1c, 0, false⟩, ⟨4, 1, .w1c, 0, false⟩, ⟨3, 1, .w1c, 0, false⟩, ⟨2, 1, .w1c, 0, false⟩, ⟨1, 1, .w1c, 0, false⟩, ⟨0, 1, .w1c, 0, false⟩]⟩,
  ⟨"CBU_Bn_TXREQ", 0x400d0020, [(4, 0x4000)], [⟨0, 32, .w1s, 0, false⟩]⟩,
  ⟨"CBU_Bn_TXCAN", 0x400d0024, [(4, 0x4000)], [⟨0, 32, .w1s, 0, false⟩]⟩,
  ⟨"CBU_Bn_TXDONE", 0x400d0028, [(4, 0x4000)], [⟨0, 32, .w1c, 0, false⟩]⟩,
  ⟨"CBU_Bn_TXFAIL", 0x400d002c, [(4, 0x4000)], [⟨0, 32, .w1c, 0, false⟩]⟩,
  ⟨"CBU_Bn_RXSTAT", 0x400d0030, [(4, 0x4000)], [⟨16, 7, .ro, 0, false⟩, ⟨0, 6, .ro, 0, false⟩]⟩,
  ⟨"CBU_Bn_RXACK", 0x400d0034, [(4, 0x4000)], [⟨0, 1, .wo, 0, false⟩]⟩,
  ⟨"CBU_Bn_RXRING", 0x400d0038, [(4, 0x4000)], [⟨6, 26, .rw, 0, false⟩, ⟨0, 4, .rw, 0, false⟩]⟩,
  ⟨"CBU_Bn_RXPTR", 0x400d003c, [(4, 0x4000)], [⟨16, 10, .ro, 0, false⟩, ⟨0, 10, .rw, 0, false⟩]⟩,
  ⟨"CBU_Bn_TTCFG", 0x400d0040, [(4, 0x4000)], [⟨30, 2, .rw, 0, true⟩, ⟨24, 3, .rw, 0, true⟩, ⟨16, 8, .rw, 0, true⟩, ⟨0, 11, .rw, 0, true⟩]⟩,
  ⟨"CBU_Bn_TTCYC", 0x400d0044, [(4, 0x4000)], [⟨24, 8, .rw, 0, true⟩, ⟨0, 24, .rw, 0, true⟩]⟩,
  ⟨"CBU_Bn_TTSTAT", 0x400d0048, [(4, 0x4000)], [⟨13, 1, .ro, 0, false⟩, ⟨12, 1, .ro, 0, false⟩, ⟨8, 4, .ro, 0, false⟩, ⟨0, 6, .ro, 0, false⟩]⟩,
  ⟨"CBU_Bn_WAKE", 0x400d0050, [(4, 0x4000)], [⟨31, 1, .rw, 0, true⟩, ⟨30, 1, .rw, 0, true⟩, ⟨29, 1, .rw, 0, true⟩, ⟨0, 29, .rw, 0, true⟩]⟩,
  ⟨"CBU_Bn_WMASK", 0x400d0054, [(4, 0x4000)], [⟨31, 1, .rw, 0, true⟩, ⟨30, 1, .rw, 0, true⟩, ⟨29, 1, .rw, 0, true⟩, ⟨0, 29, .rw, 0, true⟩]⟩,
  ⟨"CBU_Bn_WDATA0", 0x400d0058, [(4, 0x4000)], [⟨0, 32, .rw, 0, true⟩]⟩,
  ⟨"CBU_Bn_WDATA1", 0x400d005c, [(4, 0x4000)], [⟨0, 32, .rw, 0, true⟩]⟩,
  ⟨"CBU_Bn_WCTL", 0x400d0060, [(4, 0x4000)], [⟨6, 1, .rw, 0, true⟩, ⟨4, 2, .rw, 0, true⟩, ⟨0, 4, .rw, 0, true⟩]⟩,
  ⟨"CBU_Bn_WAKEID", 0x400d0064, [(4, 0x4000)], [⟨29, 1, .ro, 0, false⟩, ⟨0, 29, .ro, 0, false⟩]⟩,
  ⟨"CBU_Bn_FLTi_ID", 0x400d0100, [(4, 0x4000), (64, 0x8)], [⟨31, 1, .rw, 0, true⟩, ⟨30, 1, .rw, 0, true⟩, ⟨29, 1, .rw, 0, true⟩, ⟨0, 29, .rw, 0, true⟩]⟩,
  ⟨"CBU_Bn_FLTi_MASK", 0x400d0104, [(4, 0x4000), (64, 0x8)], [⟨0, 29, .rw, 0, true⟩]⟩]

def regBlock400D_1 : List RegDesc := [
  ⟨"CBU_Bn_COLc", 0x400d0300, [(4, 0x4000), (64, 0x4)], [⟨31, 1, .rw, 0, true⟩, ⟨0, 24, .rw, 0, true⟩]⟩,
  ⟨"CBU_Bn_CELLk_w", 0x400d0400, [(4, 0x4000), (16, 0x40), (16, 0x4)], [⟨0, 32, .rw, 0, true⟩]⟩]

def regBlock400E_0 : List RegDesc := [
  ⟨"PRP_STAT", 0x400e0000, [], [⟨7, 1, .ro, 0, false⟩, ⟨6, 1, .ro, 0, false⟩, ⟨5, 1, .ro, 0, false⟩, ⟨4, 1, .ro, 0, false⟩, ⟨3, 1, .ro, 0, false⟩, ⟨2, 1, .ro, 0, false⟩, ⟨1, 1, .ro, 0, false⟩, ⟨0, 1, .ro, 0, false⟩]⟩,
  ⟨"PRP_EVT", 0x400e0004, [], [⟨8, 1, .w1c, 0, false⟩, ⟨7, 1, .w1c, 0, false⟩, ⟨6, 1, .w1c, 0, false⟩, ⟨5, 1, .w1c, 0, false⟩, ⟨4, 1, .w1c, 0, false⟩, ⟨3, 1, .w1c, 0, false⟩, ⟨2, 1, .w1c, 0, false⟩, ⟨1, 1, .w1c, 0, false⟩, ⟨0, 1, .w1c, 0, false⟩]⟩,
  ⟨"PRP_ARMREQ", 0x400e0008, [], [⟨16, 16, .wo, 0, false⟩, ⟨14, 2, .wo, 0, false⟩, ⟨0, 12, .wo, 0, false⟩]⟩,
  ⟨"PRP_ARMED", 0x400e000c, [], [⟨0, 12, .ro, 0, false⟩]⟩,
  ⟨"PRP_FCLR", 0x400e0010, [], [⟨24, 8, .wo, 0, false⟩, ⟨16, 8, .wo, 0, false⟩, ⟨0, 12, .wo, 0, false⟩]⟩,
  ⟨"PRP_FCLRK", 0x400e0014, [], [⟨0, 8, .wo, 0, false⟩]⟩,
  ⟨"PRP_SWSTOP", 0x400e0018, [], [⟨16, 16, .wo, 0, false⟩, ⟨0, 1, .wo, 0, false⟩]⟩,
  ⟨"PRP_LATCH", 0x400e001c, [], [⟨16, 8, .ro, 0, false⟩, ⟨0, 12, .ro, 0, false⟩]⟩,
  ⟨"PRP_PSI", 0x400e0020, [], [⟨0, 32, .ro, 0, false⟩]⟩,
  ⟨"PRP_PSIF", 0x400e0024, [], [⟨16, 16, .ro, 0, false⟩, ⟨0, 16, .ro, 0, false⟩]⟩,
  ⟨"PRP_PSO", 0x400e0028, [], [⟨0, 12, .rw, 0, false⟩]⟩,
  ⟨"PRP_PSOSTAT", 0x400e002c, [], [⟨16, 12, .ro, 0, false⟩, ⟨0, 12, .ro, 0, false⟩]⟩,
  ⟨"PRP_PRST", 0x400e0030, [], [⟨24, 8, .ro, 0, false⟩, ⟨16, 8, .ro, 0, false⟩, ⟨0, 13, .ro, 0, false⟩]⟩,
  ⟨"PRP_IMCn", 0x400e0040, [(4, 0x8)], [⟨0, 32, .ro, 0, false⟩]⟩,
  ⟨"PRP_IMCn_STAT", 0x400e0044, [(4, 0x8)], [⟨5, 1, .rc, 0, false⟩, ⟨4, 1, .ro, 0, false⟩, ⟨3, 1, .ro, 0, false⟩, ⟨2, 1, .ro, 0, false⟩, ⟨1, 1, .ro, 0, false⟩, ⟨0, 1, .ro, 0, false⟩]⟩,
  ⟨"PRP_WELDk", 0x400e0080, [(16, 0x4)], [⟨16, 16, .ro, 0, false⟩, ⟨0, 3, .ro, 0, false⟩]⟩,
  ⟨"PRP_FSEL", 0x400e0100, [], [⟨6, 1, .rw, 0, false⟩, ⟨0, 6, .rw, 0, false⟩]⟩,
  ⟨"PRP_FRECw", 0x400e0104, [(4, 0x4)], [⟨0, 32, .ro, 0, false⟩]⟩,
  ⟨"PRP_QUEUE", 0x400e0120, [], [⟨16, 16, .rc, 0, false⟩, ⟨4, 3, .ro, 0, false⟩, ⟨0, 4, .ro, 0, false⟩]⟩,
  ⟨"PRP_RTIME", 0x400e0130, [], [⟨16, 16, .ro, 0, false⟩, ⟨0, 16, .ro, 0, false⟩]⟩]

def regBlock400F_0 : List RegDesc := [
  ⟨"TRS_CHn_CTRL", 0x400f0000, [(16, 0x40)], [⟨24, 8, .rw, 0, true⟩, ⟨0, 1, .rw, 0, false⟩]⟩,
  ⟨"TRS_CHn_CFG", 0x400f0004, [(16, 0x40)], [⟨24, 8, .rwl, 0, false⟩, ⟨20, 4, .rwl, 0, false⟩, ⟨16, 3, .rwl, 0, false⟩, ⟨4, 1, .rwl, 0, false⟩, ⟨3, 1, .rwl, 0, false⟩, ⟨2, 1, .rwl, 0, false⟩, ⟨1, 1, .rwl, 0, false⟩, ⟨0, 1, .rwl, 0, false⟩]⟩,
  ⟨"TRS_CHn_PROT", 0x400f0008, [(16, 0x40)], [⟨16, 16, .rwl, 0, false⟩, ⟨8, 8, .rwl, 0, false⟩, ⟨4, 4, .rwl, 0, false⟩]⟩,
  ⟨"TRS_CHn_OL", 0x400f000c, [(16, 0x40)], [⟨16, 16, .rw, 0, true⟩, ⟨0, 16, .rw, 0, true⟩]⟩,
  ⟨"TRS_CHn_KA", 0x400f0010, [(16, 0x40)], [⟨0, 12, .rwl, 0, false⟩]⟩,
  ⟨"TRS_CHn_STAT", 0x400f0014, [(16, 0x40)], [⟨8, 4, .ro, 0, false⟩, ⟨7, 1, .ro, 0, false⟩, ⟨6, 1, .ro, 0, false⟩, ⟨5, 1, .ro, 0, false⟩, ⟨4, 1, .ro, 0, false⟩, ⟨0, 3, .ro, 0, false⟩]⟩,
  ⟨"TRS_CHn_FAULT", 0x400f0018, [(16, 0x40)], [⟨5, 1, .w1c, 0, false⟩, ⟨4, 1, .w1c, 0, false⟩, ⟨3, 1, .w1c, 0, false⟩, ⟨2, 1, .w1c, 0, false⟩, ⟨1, 1, .w1c, 0, false⟩, ⟨0, 1, .w1c, 0, false⟩]⟩,
  ⟨"TRS_CHn_CUR", 0x400f001c, [(16, 0x40)], [⟨16, 16, .ro, 0, false⟩, ⟨0, 16, .ro, 0, false⟩]⟩,
  ⟨"TRS_CHn_CNT", 0x400f0020, [(16, 0x40)], [⟨16, 16, .rc, 0, false⟩, ⟨0, 16, .rc, 0, false⟩]⟩,
  ⟨"TRS_SUPPLY", 0x400f0800, [], [⟨16, 16, .ro, 0, false⟩, ⟨1, 1, .w1c, 0, false⟩, ⟨0, 1, .ro, 0, false⟩]⟩]

def regBlock4010_0 : List RegDesc := [
  ⟨"HLK_CTRLn", 0x40100000, [(2, 0x8000)], [⟨4, 1, .rw, 0, false⟩, ⟨3, 1, .rw, 0, false⟩, ⟨2, 1, .rw, 1, false⟩, ⟨1, 1, .rw, 0, false⟩, ⟨0, 1, .rw, 0, false⟩]⟩,
  ⟨"HLK_STATn", 0x40100004, [(2, 0x8000)], [⟨3, 1, .w1c, 0, false⟩, ⟨2, 1, .w1c, 0, false⟩, ⟨1, 1, .ro, 0, false⟩, ⟨0, 1, .ro, 0, false⟩]⟩]

def regBlock4011_0 : List RegDesc := [
  ⟨"TWL_LINKn_CTRL", 0x40110000, [(2, 0x1000)], [⟨4, 1, .wo, 0, false⟩, ⟨3, 1, .rw, 0, true⟩, ⟨2, 1, .rw, 0, true⟩, ⟨1, 1, .rwl, 0, false⟩, ⟨0, 1, .rwl, 0, false⟩]⟩,
  ⟨"TWL_LINKn_STAT", 0x40110004, [(2, 0x1000)], [⟨24, 8, .ro, 0, false⟩, ⟨7, 1, .ro, 0, false⟩, ⟨6, 1, .w1c, 0, false⟩, ⟨5, 1, .ro, 0, false⟩, ⟨4, 1, .ro, 0, false⟩, ⟨3, 1, .ro, 0, false⟩, ⟨2, 1, .ro, 0, false⟩, ⟨1, 1, .ro, 0, false⟩, ⟨0, 1, .ro, 0, false⟩]⟩,
  ⟨"TWL_LINKn_ERR", 0x40110008, [(2, 0x1000)], [⟨16, 16, .rc, 0, false⟩, ⟨0, 16, .rc, 0, false⟩]⟩,
  ⟨"TWL_LINKn_DELAY", 0x4011000c, [(2, 0x1000)], [⟨0, 24, .ro, 0, false⟩]⟩]

/-- The registers of the 64 KiB block number b of R48. -/
def regBlock (b : Nat) : List RegDesc :=
  if b == 0x4000 then regBlock4000_0
  else if b == 0x4001 then regBlock4001_0
  else if b == 0x4002 then regBlock4002_0
  else if b == 0x4003 then regBlock4003_0
  else if b == 0x4004 then regBlock4004_0
  else if b == 0x4005 then regBlock4005_0 ++ regBlock4005_1
  else if b == 0x4006 then regBlock4006_0
  else if b == 0x4007 then regBlock4007_0
  else if b == 0x4008 then regBlock4008_0
  else if b == 0x4009 then regBlock4009_0 ++ regBlock4009_1
  else if b == 0x400a then regBlock400A_0 ++ regBlock400A_1
  else if b == 0x400b then regBlock400B_0
  else if b == 0x400c then regBlock400C_0
  else if b == 0x400d then regBlock400D_0 ++ regBlock400D_1
  else if b == 0x400e then regBlock400E_0
  else if b == 0x400f then regBlock400F_0
  else if b == 0x4010 then regBlock4010_0
  else if b == 0x4011 then regBlock4011_0
  else []

end Sys2Proof.Machine
end

