-- ==== Sys2Proof/Machine/State.lean ====
section
/-! DEFINITION. The state of the device as plain data: what spec/00 to spec/20 give the machine, the free-value
counter and the queue of waiting commands. Registers of the register tables live in the sparse field `regs`
(address, word), in canonical form against their reset values; everything the tables do not show lives in the
records below. Numbers that the spec writes as masks are Nat with bit n for unit n. -/

namespace Sys2Proof.Machine

/-- Why a step stops: no command does (R12, R44: no access raises an error; every event has its effect). -/
inductive Fault
deriving DecidableEq, Repr

/-- Why a step answers nothing. -/
inductive Refusal
  /-- Raised by an arm of exec that has no meaning yet. Safe. -/
  | notModelled (mnemonic : String)
  /-- Raised by REGISTER_WRITE and RC_READ inside the QSP block 0x4012_0000, whose registers the spec does not describe
  (R48 names the block only). Safe. -/
  | qspRegister
deriving DecidableEq, Repr

/-! ## Causeway, interrupts, host links (spec/01) -/

structure HostLink where
  /-- The four receive queues: length and site-time stamp of each frame, oldest first; no stamp on a frame that takes none
  (R54). -/
  queues : List (List (Nat × Option Nat)) := List.replicate 4 []
  /-- Site-time stamps of the IEEE 802.1AS event frames that the link has sent, newest first (R54). -/
  txStamps : List Nat := []
deriving DecidableEq, Repr

structure Causeway where
  /-- Transactions in flight by quota index 0 to 14, and masters that wait, oldest first (R41, R46). -/
  inFlight : List Nat := List.replicate 15 0
  waiting : List Nat := []
  /-- Per rank, the master of R46 and R47 that was served last (R42). -/
  turn : List Nat := List.replicate 6 18
  /-- Sources claimed and not completed (R51): (core, source), newest first. -/
  claimed : List (Nat × Nat) := []
  /-- The interrupt controller's priorities by source (R51), none listed at 0; its enables, one mask of 256 sources to a core; its
  priority thresholds by core. -/
  prio : List (Nat × Nat) := []
  enable : List Nat := List.replicate 4 0
  threshold : List Nat := List.replicate 4 0
  /-- ECC errors corrected (R25). -/
  eccCount : Nat := 0
  /-- The two host links (R53, R54). -/
  hosts : List HostLink := List.replicate 2 {}
  /-- Offset of the grandmaster from site time still to steer, in 1/65,536 ns (R40). -/
  steer : Int := 0
  /-- Duration in µs of the clock's stay out of tolerance (R38). -/
  badUs : Nat := 0
deriving DecidableEq, Repr

/-! ## Image load (spec/02) -/

/-- The stages of a load (R36, R72 to R77): before the PLL locks, streaming a slot, sealed, running, no slot accepted. -/
inductive LoadStage | boot | stream | seal | run | refused
deriving DecidableEq, Repr

structure Load where
  stage : LoadStage := .boot
  /-- Content of the two slots, offsets from the slot's start (R59), from the flash at PLL lock. -/
  slots : List (List Host.Cell) := [[], []]
  /-- The slot being loaded or loaded, and the index of the next section. -/
  cur : Nat := 0
  next : Nat := 0
  /-- Slots that qualify under R72, and those tried. -/
  good : Nat := 0
  tried : Nat := 0
  /-- Header and directory of the slot being loaded. -/
  hdr : List Byte := []
  /-- Software identification, image digest, legal digest (R64, R101, R102). -/
  swid : List Byte := []
  digest : List Byte := []
  legalDig : List Byte := []
  /-- The loaded slot is not the one with the higher SEQ (R108). -/
  fallback : Bool := false
  /-- The load is a wake's re-stream (R716). -/
  wake : Bool := false
  /-- Uncorrectable MRAM structures found at this start (R437): bit 0 header, 1 active and 2 pending calendar, 3 last-gasp
  energies, 4 marker, 8 + k save record k, newest first. -/
  mram : Nat := 0
  /-- ENTRY to which Deck core 0 has jumped from the boot ROM (R753); it is halted there after a refusal. -/
  bootEntry : Option Nat := none
  deckHalted : Bool := false
deriving DecidableEq, Repr

/-! ## Truss (spec/02) -/

structure Truss where
  /-- Registered cells, 8 t + j for cell j of tile t, whose register differs from its initial value, rising (R83). -/
  flips : List Nat := []
  /-- Comparators (R86): (tile, output and samples in a row that asked for the other output), (false, 0) not listed. -/
  cmps : List (Nat × (Bool × Nat)) := []
deriving DecidableEq, Repr

/-! ## Span links, twin links and pier nodes (spec/03) -/

/-- The fields of an up frame that R128 gives, as the device keeps them after R134. -/
structure UpFrame where
  pflags : Nat := 0
  seq : Nat := 0
  turn : Nat := 0
  trip : Nat := 0
  senseFail : Nat := 0
  de : Nat := 0
  badDn : Nat := 0
  missed : Nat := 0
  sflags : Nat := 0
  /-- Phase currents 0 to 31, 16-bit codes. -/
  iph : List Nat := []
  vdc : Nat := 0
  vout : Nat := 0
  grid : List Nat := []
  mgmt : Nat := 0
  tlm : List (Nat × Nat) := []
deriving DecidableEq, Repr

/-- One management request waiting or outstanding (R156). -/
structure Mgmt where
  op : Nat := 0
  addr : Nat := 0
  data : Nat := 0
  tag : Nat := 0
  /-- The down frame that carries it has left. -/
  sent : Bool := false
deriving DecidableEq, Repr

/-- A code group on a line (R109, R112): a control group, a data group, or the PRBS-31 stream that stands in place of all (R809). -/
inductive CodeGroup | ctl (b : Byte) | data (b : Byte) | prbs
deriving DecidableEq, Repr

/-- Device side of one Span or twin link. -/
structure Link where
  /-- What the transmit pins carry since the last change: code groups in the order sent, the last ordered set repeating (R112); none:
  electrical idle (R113, R150, R809). -/
  stream : List CodeGroup := []
  /-- A RESUME write waits for the next down frame (R120). -/
  resumeReq : Bool := false
  /-- The last link-delay measurements, newest first, at most 64 (R138), in half fine steps before rounding. -/
  delays : List Nat := []
  /-- PFLAGS changed since SPN_LINKn_STAT was read (R164). -/
  pflagsChanged : Bool := false
  /-- Consecutive periods with no valid up frame (R155). -/
  missRun : Nat := 0
  /-- A valid up frame has completed in this period (R134). -/
  gotUp : Bool := false
  /-- An up frame of this period was taken as missing. -/
  upBad : Bool := false
  /-- The last valid up frame. -/
  up : UpFrame := {}
  /-- Firmware's management request in progress (R156, R163). -/
  mgmt : Option Mgmt := none
  /-- The device's own bring-up request that has been sent and not answered (R159). -/
  own : Option Mgmt := none
  /-- Bring-up requests still to send, in order (R159). -/
  bring : List Mgmt := []
  /-- Bring-up has run once. -/
  bringDone : Bool := false
  /-- A read-back differed and no complete repetition has matched since: the cause of code 0x26 (R159). -/
  bringBad : Bool := false
  /-- A read-back of the repetition in progress differed. -/
  bringRun : Bool := false
  /-- TAG of the next management request. -/
  nextTag : Nat := 0
  /-- The bytes of the last frame sent (R117, R160). -/
  lastSent : List Byte := []
  /-- A frame has left in this period. -/
  sentDown : Bool := false
  /-- Consecutive send overruns (R231). -/
  overruns : Nat := 0
  /-- Lower ordered sets sent since the last broadcast command (R144). -/
  lowerSets : Nat := 0
deriving DecidableEq, Repr

/-- One pier node, the partner chip of R133 to R148 and R156 to R158. -/
structure Node where
  /-- Pier registers that have been written: (address, value), addresses rising (R158). -/
  regs : List (Nat × Nat) := []
  /-- SEQ of the last valid down frame of the primary and of the standby link (R133). -/
  seqP : Option Nat := none
  seqS : Option Nat := none
  /-- A valid copy has come on the primary or standby link in this period (R152). -/
  gotP : Bool := false
  gotS : Bool := false
  /-- The primary link gave a valid frame in the last period (R154). -/
  primLive : Bool := false
  /-- A valid copy with the SEQ of this period has come (R135). -/
  gotK : Bool := false
  /-- PIER_MISSING_FRAME has ended the node's period ahead of PERIOD_START (R137; log entry 74). -/
  ended : Bool := false
  /-- T in µs as the last valid frame gave it (R117); 0 before the first. -/
  tUs : Nat := 0
  /-- SEQ and local arrival instant, in 1/65,536 ns, of the last valid frame of the primary and of the standby link (R128 TURN). -/
  rxP : Option (Nat × Nat) := none
  rxS : Option (Nat × Nat) := none
  /-- Consecutive missing frames, 0 to 3 (R135, R136). -/
  missed : Nat := 0
  /-- Bad or missing frames since bring-up, saturating at 255. -/
  badDn : Nat := 0
  lowering : Bool := false
  lowered : Bool := true
  silence : Bool := false
  armed : Bool := false
  timeLock : Bool := false
  /-- Consecutive valid frames with a correction below 2 ns, at most 16 (R140). -/
  lockRun : Nat := 0
  /-- Local site time in 1/65,536 ns (R139). -/
  site : Nat := 0
  /-- Bit p: phase p tripped locally (R148). -/
  trip : Nat := 0
  /-- Bit p: a valid OFF command has come since the trip of phase p (R148). -/
  tripOff : Nat := 0
  /-- The 32 command words accepted for the next period, of a valid frame; empty: HOLD. -/
  nextCmd : List Nat := []
  /-- The 32 commands in force: mode, RISE and FALL of each phase as HOLD resolves them (R126). -/
  inForce : List Nat := []
  /-- The 32 commands that the running switching cycles use: those in force at their start (R124). -/
  cycle : List Nat := []
  /-- The last samples of the 32 phase currents as sent, and the phases whose sample failed (R129, R130). -/
  samples : List Nat := []
  senseFail : Nat := 0
  /-- While lowering, what the ramp of R143 has left of each phase current, in A. -/
  ramp : List Rat := []
  /-- The management reply for the next up frame (R157). -/
  reply : Option Mgmt := none
  /-- The up frame of this period on the primary and on the standby link (R115, R128, R153). -/
  upP : List Byte := []
  upS : List Byte := []
deriving DecidableEq, Repr

/-- A twin link beyond its Link record: the last twin frame received, with its local arrival instant in 1/65,536 ns (R160); whether one
has come in this period, and in this or the last one (R161). -/
structure Twin where
  payload : List Byte := []
  seq : Nat := 0
  atT : Nat := 0
  got : Bool := false
  valid : Bool := false
deriving DecidableEq, Repr

structure Span where
  links : List Link := List.replicate 12 {}
  twins : List Link := List.replicate 2 {}
  twinRx : List Twin := List.replicate 2 {}
  /-- The follower's time lock: consecutive frames with a correction below 2 ns, at most 16, and the lock (R140, R161). -/
  twinRun : Nat := 0
  twinLock : Bool := false
  nodes : List Node := List.replicate 12 {}
  /-- TIME_STEP goes into the next down frame of every link (R118). -/
  timeStep : List Nat := []
deriving DecidableEq, Repr

/-! ## Phase control (spec/04) -/

/-- The states of R172. -/
inductive PhState | out | inn | ramp | admitted | hot | faulted
deriving DecidableEq, Repr

/-- One phase of a pier. -/
structure Phase where
  st : PhState := .out
  /-- Share weight of R172. -/
  w : Rat := 0
  /-- A RAMP phase whose shed was aborted, rising again (R193). -/
  rising : Bool := false
  /-- Present offset, and the offset and signed distance of the glide in progress, in fine steps (R191). -/
  off : Nat := 0
  glideFrom : Nat := 0
  glideDist : Int := 0
  /-- Commanded DIODE_EMULATION. -/
  de : Bool := false
  /-- Value of the pier's out counter when the phase became OUT: the smallest has been out longest (R185). -/
  outStamp : Nat := 0
  /-- Consecutive periods of the open-phase and stuck-sense tests (R196). -/
  openCnt : Nat := 0
  stuckCnt : Nat := 0
  lastCode : Nat := 0
  /-- In force: a detection of this period that the evaluation acts on; decided: the cause found (R197, R812). 0 none. -/
  pend : Nat := 0
  /-- FAULT was cleared: OFF for one more period, then OUT (R198). -/
  clearing : Nat := 0
  /-- Last reported heatsink temperature, sQ15.16 code, and periods since the report (R200). -/
  theta : Option Int := none
  age : Nat := 0
  /-- Currents of the diode-emulation window, newest first; none: no current in that period (R179, R811). -/
  iWin : List (Option Rat) := []
  /-- Remainders of the rising and falling edge (R127). -/
  riseRem : Nat := 0
  fallRem : Nat := 0
  /-- Conduction time of the last command formed from one, in fine steps; a HOLD repeats it (R126, R169, R204). -/
  cond : Nat := 0
  /-- Telemetry sums and counts of the window in progress: V, I, P, T (R204, R205). -/
  tlm : List (Rat × Nat) := []
  /-- The last command word of the phase carried HOLD (R246). -/
  hold : Bool := false
deriving DecidableEq, Repr

/-- What the down frames of one pier carry in this period, the same on both links of a dual-homed pier (R151): FLAGS
without STANDBY, the 32 command words and the management word. -/
structure FrameCore where
  flags : Nat := 0
  words : List Nat := []
  mgmt : Nat := 0
deriving DecidableEq, Repr

/-- Phase control of one pier. -/
structure Pier where
  phases : List Phase := List.replicate 32 {}
  lead : Nat := 0
  /-- Glide steps still to make (R191). -/
  glideLeft : Nat := 0
  glideLen : Nat := 0
  /-- The glide in progress follows a completed shed or an admission event (R184). -/
  glideLoads : Bool := false
  dwell : Nat := 0
  holdoff : Nat := 0
  /-- Periods since the last event of R189. -/
  rotCnt : Nat := 0
  rotDue : Bool := false
  outCtr : Nat := 0
  /-- Magnitudes of the summed in-service current, newest first, over the last SHED_DWELL periods. -/
  iWin : List (Option Rat) := []
  /-- Signed sums, for the diode-emulation window. -/
  sWin : List (Option Rat) := []
  /-- Mean phase currents in service over the last periods that had an up frame, newest first, at most 255 (R196). -/
  mWin : List Rat := []
  /-- The sequence of one admission a period of R193 runs. -/
  stepSeq : Bool := false
  /-- The conditions of R171 hold. -/
  held : Bool := true
  /-- A load step of the Arch-ceiling kind waits for the next evaluation (R193). -/
  ceilStep : Bool := false
  /-- Bits of PHS_PIERn_EVT that the evaluation of this period has newly set. -/
  evtSet : Nat := 0
  /-- AVG_EXP was written before the evaluation of this period, whose values join no window (R208). -/
  tlmSkip : Bool := false
  /-- SHED_EN was written 0: act as on a load step without hold-off (R187). -/
  shedOff : Bool := false
  /-- Periods of the telemetry window in progress; 0 starts a new one. -/
  tlmCnt : Nat := 0
  /-- The pier has been evaluated in this period. -/
  done : Bool := false
  /-- Formed when the first down frame of the period leaves. -/
  core : Option FrameCore := none
  /-- The fault of R202 has been raised and its condition still holds. -/
  short : Bool := false
deriving DecidableEq, Repr

/-- Phase control: the decisions in force in this period, and those taken for the next one (R177). -/
structure Phs where
  cur : List Pier := List.replicate 12 {}
  nxt : List Pier := List.replicate 12 {}
deriving DecidableEq, Repr

/-! ## Keystone (spec/05) -/

/-- The state of one slot. Values are sQ3.28 codes unless said otherwise. The record stands for the engine's banks and state and for
the spare's copy of them, which equals them whenever it is read: from the end of a period to the next write (R251, R814). -/
structure Slot where
  engine : Nat := 0
  pos : Nat := 0
  /-- Swap group. -/
  group : Nat := 0
  /-- Index of the slot's record in KST_PROG. -/
  rcd : Nat := 0
  r : Int := 0
  y : Int := 0
  e : Int := 0
  i : Int := 0
  o : Int := 0
  d1 : Int := 0
  u1 : Int := 0
  u2 : Int := 0
  n1 : Int := 0
  n2 : Int := 0
  sat : Int := 0
  cam1 : Int := 0
  aux1 : Int := 0
  /-- o of the last period, the o1 of this one. -/
  o1 : Int := 0
  /-- Last delivered values of SRC_REF, SRC_CAM and SRC_AUX since the slot became active (R224). -/
  lastRef : Int := 0
  lastCam : Int := 0
  lastAux : Int := 0
  /-- The slot was not idle in its last evaluated period. -/
  active : Bool := false
  idle : Bool := true
  holding : Bool := false
  ovf : Bool := false
  /-- Consecutive periods with lost feedback, at most 3 (R246 to R248). -/
  lost : Nat := 0
  lossRaised : Bool := false
  feCnt : Nat := 0
  mpCnt : Nat := 0
  tripped : Bool := false
  /-- Plausibility model (R240); it has started since the slot became active (R241). -/
  modelOn : Bool := false
  ic : Int := 0
  vf : Int := 0
  vb : Int := 0
  ri : Int := 0
  rv : Int := 0
  /-- Frozen test: the last feedback value, how many consecutive periods it was identical, and the |o - o1| of those
  periods, newest first (R244). -/
  frzVal : Int := 0
  frzRun : Nat := 0
  frzDo : List Int := []
  /-- The rescale of R236 opens the next evaluation; the stored output it uses. -/
  rescale : Option Int := none
  /-- Coefficient banks A and B: 16 words each (R226). -/
  bankA : List Nat := []
  bankB : List Nat := []
  /-- Bank B was active in the slot's last evaluation (R813). -/
  usedB : Bool := false
  /-- The slot has ended in this period. -/
  ended : Bool := false
  /-- The slot's results of this period come from no engine: a one-period hold (R253, R257). -/
  stopped : Bool := false
deriving DecidableEq, Repr

/-- One outlet of the Keystone. -/
structure Outlet where
  /-- Controlled lowering is ordered (R222). -/
  lowering : Bool := false
  /-- The lowering's reference has reached zero: LOWER goes to the outlet's piers (R222). -/
  lowerPiers : Bool := false
  /-- Reference of the last period and of this one, sQ3.28 per-unit of the slot in force. -/
  ref1 : Int := 0
  ref : Int := 0
  /-- The reference has been written in this period. -/
  refDone : Bool := false
  /-- Values latched at the period start (R28): SET, VSET, MODE, EN, VLIM, ARCHI, ARCHP, STYI, CAPI. -/
  set : Int := 0
  vset : Nat := 0
  mode : Bool := false
  en : Bool := false
  vlimChg : Nat := 0
  vlimDis : Nat := 0
  archiChg : Nat := 0
  archiDis : Nat := 0
  archpChg : Nat := 0
  archpDis : Nat := 0
  styi : Nat := 0
  capi : Nat := 0
deriving DecidableEq, Repr

structure Kst where
  slots : List Slot := []
  outs : List Outlet := List.replicate 8 {}
  /-- Swap groups latched for the boundary (R233). -/
  swapLatched : Nat := 0
  /-- Camber inputs as latched at the period start (R28), 64 words. -/
  camb : List Nat := List.replicate 64 0
  /-- Where the spare's rotation stands: index into the slots in (engine, position) order (R252). -/
  rot : Nat := 0
  /-- Blamed mismatches of the last 1,024 periods: (period, engine) (R255). -/
  blames : List (Nat × Nat) := []
  /-- Engines that failed in this period and are replaced from the next one on (R254). -/
  replaceNext : Option Nat := none
  /-- Busy CLK_TRUSS cycles of each engine in this period (KST_En_BUSY). -/
  busy : List Nat := List.replicate 6 0
  /-- A control period has begun since the seal. -/
  started : Bool := false
  /-- Number of the control period (R114). -/
  period : Nat := 0
  /-- The sample cut-off of the period has passed (R29). -/
  cutoff : Bool := false
deriving DecidableEq, Repr
/-! ## Arch and Viaduct matrix (spec/06) -/

/-- One outlet in the ledger, cascade indices 0 to 15. -/
structure ArcOut where
  /-- Sum and count of SRC_VOUT, and of the ROLE 1 feedback current, over the running Arch period (R266, R271). -/
  vSum : Rat := 0
  vN : Nat := 0
  iSum : Rat := 0
  iN : Nat := 0
  /-- V_m of the last Arch period, V, and the mean feedback current, A. -/
  vm : Rat := 0
  im : Rat := 0
  /-- Arch periods since the outlet's pier set changed (MIN_DWELL, R278). -/
  since : Nat := 1000000
  /-- Current ceilings of the last Arch period, charge and discharge, uQ13.3, for the rise test of R193. -/
  lastChg : Nat := 0
  lastDis : Nat := 0
deriving DecidableEq, Repr

structure ArcPier where
  /-- Capacity as the Arch took it, uQ16.16 A (R201). -/
  cap : Nat := 0
  /-- TMARGIN as taken, sQ15.16. -/
  margin : Int := 0
  /-- Microseconds since the crosspoint check on this pier started (R652). -/
  weld : Option Nat := none
  /-- Replaced pier reference during matching or a weld check, A (R284, R652). -/
  ovr : Option Rat := none
  /-- In FAULT, and disarmed since (R275). -/
  faultDown : Bool := false
deriving DecidableEq, Repr

structure ArcXp where
  /-- The Arch commands the crosspoint closed (R274). -/
  cmd : Bool := false
  /-- Its last weld check was abandoned (R655). -/
  unchecked : Bool := false
  /-- Found welded: treated as closed under R274 (R654). -/
  welded : Bool := false
  /-- Forced to its safe state and not yet returned (R290). -/
  safe : Bool := false
deriving DecidableEq, Repr

/-- A hand-off or a release in progress (R280, R282). -/
structure HandOff where
  /-- Cascade index of the pier. -/
  pier : Nat := 0
  /-- Outlet left and outlet joined; 0x1F none (a FREE pier joins, a release goes nowhere). -/
  donor : Nat := 0x1F
  recv : Nat := 0x1F
  /-- Step 1 to 6 of R282. -/
  step : Nat := 1
  /-- Crosspoint in motion or under check. -/
  xp : Nat := 64
  /-- Arch periods of the share ramp done (steps 1 and 6). -/
  ramp : Nat := 0
  /-- Step 1 was abandoned and the share returns (R286). -/
  back : Bool := false
  /-- The receiver stopped being ACTIVE, or the Parapet lowers a unit, past step 1: the pier ends FREE (R286). -/
  stop : Bool := false
deriving DecidableEq, Repr

/-- What one Arch period has computed and the next one applies (R263). -/
structure ArcRes where
  /-- For each local outlet ARCHI.CHG, ARCHI.DIS, ARCHP.CHG, ARCHP.DIS. -/
  ceil : List (List Nat) := []
  /-- Local buffer outlet and its setpoint, sQ15.16 A (R270). -/
  buf : Option (Nat × Int) := none
  /-- SHARE of each local pier. -/
  share : List Nat := []
deriving DecidableEq, Repr

structure Arch where
  /-- The tables in use: IMPORT, EXPORT, BUF_PREF and the words of the outlet records (R298). -/
  useImp : Nat := 0
  useExp : Nat := 0
  usePref : Int := 0
  useRec : List (Nat × Nat) := []
  /-- Trim, kW (R271). -/
  trim : Rat := 0
  outs : List ArcOut := List.replicate 16 {}
  piers : List ArcPier := List.replicate 24 {}
  xps : List ArcXp := List.replicate 64 {}
  hand : List HandOff := []
  /-- At the master, the follower's hand-offs and releases that it ordered: step 0 not yet seen, 1 seen in a request record; `ramp`
  counts records since the order (R292, R293). -/
  far : List HandOff := []
  /-- Index of the running Arch period, none before the first control period, and the number of the control period in it
  (R262). -/
  index : Option Nat := none
  tick : Nat := 0
  /-- At the master: the request record of the running Arch period has come before its start was worked, or its ledger waits for that
  record (R293). -/
  newRec : Bool := false
  planDue : Bool := false
  /-- At the follower: the commands of an allocation record are still to be taken. -/
  ordersDue : Bool := false
  /-- Results that the next Arch period applies. -/
  due : Option ArcRes := none
  /-- The master's commands to the follower for the next allocation record: (pier, outlet), 0x1F release (R293). -/
  orders : List (Nat × Nat) := []
  /-- Ceilings and shares of the follower's units for that record: per outlet 8 to 15, and piers 12 to 23. -/
  farCeil : List (List Nat) := []
  farBuf : Option (Nat × Int) := none
  farShare : List Nat := []
  /-- Cascade: a valid record has come in this Arch period, one has gone out; missing and good records in a row (R294, R295). -/
  gotRec : Bool := false
  sentRec : Bool := false
  /-- An Arch period has started since the seal. -/
  begun : Bool := false
  missRec : Nat := 0
  goodRec : Nat := 0
  /-- The last valid record received and the last sent (R293). -/
  rxRec : List Byte := []
  txRec : List Byte := []
  /-- A commit was refused and none has succeeded since (R299, R300). -/
  refused : Bool := false
deriving DecidableEq, Repr

/-! ## Girder (spec/07) -/

/-- One entry still to convert: entry number and the ENT word in force at the start (R318). -/
structure GEnt where
  e : Nat := 0
  w : Nat := 0
deriving DecidableEq, Repr

/-- A group that converts: the unit whose group it is, its number, entries left. -/
structure GGrp where
  owner : Nat := 0
  g : Nat := 0
  left : List GEnt := []
deriving DecidableEq, Repr

structure GUnit where
  /-- Own groups pending and groups redirected from the calibrating unit, bit g (R316, R330). -/
  pend : Nat := 0
  far : Nat := 0
  grp : Option GGrp := none
  /-- Entries of the continuous round in progress (R310). -/
  cont : List GEnt := []
  /-- A calibration waits for the conversions ahead of it (R327), or for unit 0 after the seal (R332). -/
  calWait : Bool := false
  calQueue : Bool := false
  /-- Slice whose turn is next (R303); conversions since the last background update, at most 65,536 (R306). -/
  slice : Nat := 0
  convs : Nat := 0
  /-- Groups whose period event has fired in this period (R313); bit 0 of the trigger ports at the last look (R312). -/
  fired : Nat := 0
  seen : Nat := 0
  /-- In unit 0: the unit that samples next in paired mode (R308). -/
  pairNext : Nat := 0
  /-- Updates in a row that moved every coefficient by less than 4 codes, at most 8 (R307). -/
  lockRun : Nat := 0
  /-- Capture memory: (index, sample), 0 not listed; next position; position of the trigger sample; samples left after
  the trigger, none before it (R325). -/
  ring : List (Nat × Nat) := []
  pos : Nat := 0
  trigAt : Nat := 0
  left : Option Nat := none
deriving DecidableEq, Repr


/-! ## Caisson channels (spec/07) -/

/-- The sinc stage of a channel or of a Girder modulator filter as three integrators and three comb delays, its last 24 outputs, newest
first, of full scale ±1, the clocks since the last of them, and the last bit with the clocks since it changed, at most 128 (R336, R341,
R346). -/
structure Caisson where
  i1 : BitVec 32 := 0
  i2 : BitVec 32 := 0
  i3 : BitVec 32 := 0
  d1 : BitVec 32 := 0
  d2 : BitVec 32 := 0
  d3 : BitVec 32 := 0
  outs : List Rat := []
  ph : Nat := 0
  last : Bool := false
  same : Nat := 128
deriving DecidableEq, Repr
/-! ## Tollhouse: metrology, billing, Toll Book, display (spec/08 to spec/10). Energies are whole numbers of 2⁻³² mWh (R361)
unless said otherwise. -/

structure DcPt where
  imp : Nat := 0
  exp : Nat := 0
  loss : Nat := 0
  /-- Import and export per tariff (R420). -/
  tImp : List Nat := List.replicate 8 0
  tExp : List Nat := List.replicate 8 0
  /-- Magnitudes of the current over the last 10 ms, newest first (R360). -/
  iWin : List Rat := []
  /-- Latest conductor estimate, °C, and whether it is valid and fresh (R363, R364). -/
  theta : Rat := 0
  thetaOk : Bool := false
  /-- Sums of V, A, p, pl over the 100 ms interval and their count (R362). -/
  mSum : List Rat := [0, 0, 0, 0]
  mN : Nat := 0
  ovrIv : Bool := false
  /-- Result intervals of the gap in progress (R374). -/
  gap : Option Nat := none
  /-- Gaps begun since the reset (R535). -/
  gaps : Nat := 0
  /-- Currents of the last results, newest first, none in a gap, and feedback of the ROLE 1 slot of the last periods, none while it does not
  count (R377, R380). -/
  iHist : List (Option Rat) := []
  fb : List (Option Rat) := []
  xHi : Nat := 0
  xLo : Nat := 0
deriving DecidableEq, Repr

structure AcPt where
  /-- The 16 energies of CSN_ACg_ELOx order. -/
  e : List Nat := List.replicate 16 0
  tImp : List Nat := List.replicate 8 0
  tExp : List Nat := List.replicate 8 0
  /-- Corrected values of the window in progress: phases a, b, c of voltage, then of current, oldest first. -/
  buf : List (List Rat) := List.replicate 6 []
  /-- Last phase-a voltage, CLK_MOD cycles since the last crossing, last period in cycles (R366). -/
  va : Rat := 0
  since : Rat := 0
  period : Rat := 0
  perSum : Rat := 0
  perN : Nat := 0
  ovrIv : Bool := false
  gap : Option Nat := none
  /-- Result intervals of the window in progress in which the point is not measuring (R374). -/
  gapN : Nat := 0
  /-- Harmonics of the last window, six channels of 51 values, V or A (R369). -/
  harm : List (List Rat) := []
  /-- Demand interval: end boundary, start, AIMP and AEXP at its start (mWh), tariff at its start, elapsed s, flags (R417). -/
  dEnd : Nat := 0
  dStart : Nat := 0
  dImp : Nat := 0
  dExp : Nat := 0
  dTariff : Nat := 0
  dElapsed : Rat := 0
  dFlags : Nat := 0
  /-- Maximum demand registers and times, present and previous period (R418, R419). -/
  md : List Nat := List.replicate 10 0
  mdt : List Nat := List.replicate 10 0
  pmd : List Nat := List.replicate 10 0
  pmdt : List Nat := List.replicate 10 0
deriving DecidableEq, Repr

/-- A session register (R422); energies in mWh but the per-tariff ones. -/
structure Sess where
  id : Nat := 0
  ext : List Nat := [0, 0, 0, 0]
  flags : Nat := 0
  startT : Nat := 0
  endT : Nat := 0
  startImp : Nat := 0
  startExp : Nat := 0
  startLoss : Nat := 0
  imp : Nat := 0
  exp : Nat := 0
  loss : Nat := 0
  tImp : List Nat := List.replicate 8 0
  tExp : List Nat := List.replicate 8 0
  calId : Nat := 0
  emitted : Nat := 0
  lastRec : Nat := 0
  /-- EXP_CREDIT (R456), RECORD_SEQ of the end record, and its head and items (R467). -/
  credit : Nat := 0
  endSeq : Nat := 0
  endRec : List Byte := []
deriving DecidableEq, Repr

structure DcSave where
  imp : Nat := 0
  exp : Nat := 0
  loss : Nat := 0
  tImp : List Nat := []
  tExp : List Nat := []
  pLast : Int := 0
deriving DecidableEq, Repr

structure AcSave where
  e : List Nat := []
  tImp : List Nat := []
  tExp : List Nat := []
  md : List Nat := []
  mdt : List Nat := []
  pmd : List Nat := []
  pmdt : List Nat := []
  dImp : Nat := 0
  dExp : Nat := 0
  dStart : Nat := 0
deriving DecidableEq, Repr

/-- A save record (R444). -/
structure SaveRec where
  /-- An uncorrectable word has been found in it (R437, R445). -/
  bad : Bool := false
  seq : Nat := 0
  kind : Nat := 1
  time : Rat := 0
  eb : Rat := 0
  hwm : Rat := 0
  tariff : Nat := 0
  state : Nat := 0
  btime : Nat := 0
  dc : List DcSave := []
  ac : List AcSave := []
deriving DecidableEq, Repr

/-- The last-gasp area (R453): increments in mWh since the save, up to the boundary and after it. -/
structure LastGasp where
  saveSeq : Nat := 0
  loss : Rat := 0
  boundary : Bool := false
  tariffA : Nat := 0
  tariffB : Nat := 0
  btime : Nat := 0
  /-- DC points: import, export before, import, export after, loss. -/
  dc : List (List Nat) := []
  /-- AC points: AIMP, AEXP before and after, the other 14. -/
  ac : List (List Nat) := []
  marker : Bool := true
deriving DecidableEq, Repr

/-- The Toll Book header (R439). -/
structure BookHdr where
  meterId : List Byte := []
  keyHash : List Byte := []
  swid : List Byte := []
  changes : Nat := 0
  archives : Nat := 0
  sessSeq : Nat := 0
  recSeq : Nat := 0
  /-- 1 site, 2 vehicle. -/
  roleClass : Nat := 1
deriving DecidableEq, Repr

/-- A Toll record: TYPE, RECORD_SEQ, point, head with items, signatures (R463). -/
structure TollRec where
  typ : Nat := 1
  seq : Nat := 0
  point : Nat := 0
  body : List Byte := []
  sig : List Byte := []
deriving DecidableEq, Repr

/-- The Toll Book: content of the MRAM (R436). -/
structure Book where
  hdr : Option BookHdr := none
  params : List Byte := []
  calA : List Byte := []
  calP : List Byte := []
  /-- The session registers as the Toll core follows them, and as the session area holds them (R436). -/
  sess : List Sess := List.replicate 8 {}
  sessNv : List Sess := List.replicate 8 {}
  lg : Option LastGasp := none
  /-- Valid save records, newest first. -/
  ring : List SaveRec := []
  uner : List (List Byte) := []
  unerSeq : Nat := 0
  roll : List (List Byte) := []
  rollSeq : Nat := 0
deriving DecidableEq, Repr

/-- A display head (R470 to R475): position in its sequence, press mode, answers missed. -/
structure DpHead where
  pos : Nat := 0
  pressed : Bool := false
  known : Bool := false
  miss : Nat := 0
  lost : Bool := false
deriving DecidableEq, Repr

/-- A calibration window (R388): whether of rms values; sums and squares of every channel, and counts. -/
structure CalWin where
  rms : Bool := false
  sum : List Rat := List.replicate 40 0
  sq : List Rat := List.replicate 40 0
  n : List Nat := List.replicate 40 0
deriving DecidableEq, Repr

structure Toll where
  /-- The decimation filters of the Caisson channels (R336). -/
  csn : List Caisson := List.replicate 40 {}
  /-- Channels past R340; fractional-delay samples and Rogowski output of each channel; its latest corrected value. -/
  ready : Nat := 0
  hist : List (List Rat) := List.replicate 40 []
  rog : List Rat := List.replicate 40 0
  val : List Rat := List.replicate 40 0
  dc : List DcPt := List.replicate 8 {}
  ac : List AcPt := List.replicate 4 {}
  /-- All accumulation has stopped (R376). -/
  stopped : Bool := false
  /-- Positive-going crossings of AC point 0 passed on (R372). -/
  crossings : Nat := 0
  cal : Option CalWin := none
  /-- Low words read: (address of the low word, latched high word) (R381). -/
  latch : List (Nat × Nat) := []
  latchTime : Nat × Nat := (0, 0)
  latchHwm : Nat := 0
  /-- Billing time in s, error bound in ms (none: no setting since the initialisation), high-water mark (R395 to R400). -/
  bill : Rat := 0
  eb : Option Rat := none
  hwm : Rat := 0
  belowHwm : Bool := false
  /-- Correction still to slew, s (R403), and the adjustments of the last day (R402). -/
  slew : Rat := 0
  adjust : List (Rat × Rat) := []
  /-- The last boundary processed, s, and the active calendar's failure (R414). -/
  lastBoundary : Nat := 0
  calBad : Bool := false
  /-- Registers at a boundary after the latest save (R453). -/
  bSnap : Option SaveRec := none
  /-- The save being written, and those waiting for it: KIND and BTIME. -/
  saving : Option SaveRec := none
  saveDue : List (Nat × Nat) := []
  /-- The last gasp in progress. -/
  lgRun : Option LastGasp := none
  lastSave : Rat := 0
  book : Book := {}
  /-- Records to be signed, signed ones without a place, and the buffer, oldest first (R465, R466). -/
  toSign : List TollRec := []
  signed : List TollRec := []
  buf : List TollRec := []
  heads : List DpHead := List.replicate 8 {}
  /-- Last frame sent on the DP line, last identification of each head. -/
  dpTx : List Byte := []
  /-- The Toll core runs. -/
  run : Bool := false
deriving DecidableEq, Repr

/-! ## Stay (spec/11) -/

/-- One cable block. Temperatures in °C. -/
structure Cable where
  started : Bool := false
  /-- The first ceiling after a start is still to come (R487). -/
  first : Bool := true
  tc : Rat := 0
  tw : Rat := 0
  /-- Contact nodes A and B; none without sensor and substitute. -/
  tk : List (Option Rat) := [none, none]
  /-- Sum of squared currents over the Stay period and their number; the last valid feedback, A (R485). -/
  qSum : Rat := 0
  qN : Nat := 0
  lastFb : Rat := 0
  /-- Model time since the start, µs (R495). -/
  age : Nat := 0
  /-- Firmware inputs that are fresh, bit j (R496). -/
  fresh : Nat := 0
  /-- No contact sensor is valid (R498). -/
  dead : Bool := false
  /-- The conditions of R499 held in the last period. -/
  active : Bool := false
deriving DecidableEq, Repr

/-! ## Vehicle links (spec/12, spec/13) -/

/-- A frame that the HPGP front end puts on the line: channel-access priority, robust mode (0 HS-ROBO, 1 STD-ROBO, 2 MINI-ROBO,
3 XROBO), power spectral density in half dB of 1 dBm/Hz (R549, R550, R561). -/
structure HpSent where
  cap : Nat := 0
  mode : Nat := 0
  psd : Int := 0
deriving DecidableEq, Repr

structure VLink where
  /-- Pilot duty in force (R515). -/
  duty : Nat := 1000
  /-- The last 8 measurements of the high and the low plateau, mV, newest first (R516). -/
  his : List Int := []
  los : List Int := []
  /-- PREMOTE has been written within the last 100 ms (R519). -/
  fresh : Bool := false
  /-- Next transmit descriptor the device sends; receive descriptors filled and not seen back with OWN 1; a transmit
  descriptor was returned (R509, R544). -/
  txHead : Nat := 0
  rxDone : List Nat := []
  txDone : Bool := false
  /-- The last payload sent: type and bytes. -/
  sent : Nat × List Byte := (0, [])
  /-- A HELLO waits for its answer; CAPS and COUNT_ID of the peer (R536). -/
  hello : Bool := false
  peerCaps : Nat := 0
  peerId : List Byte := []
  /-- PHASE of each COUNT_REQ without an answer, oldest first (R537). -/
  asks : List Nat := []
  startOk : Bool := false
  nowOk : Bool := false
  vGap : Bool := false
  /-- Gaps of the point at the answer to PHASE 0 (R535 FLAGS bit 0). -/
  gapBase : Nat := 0
  /-- Failed SLAC runs in a row (R556). -/
  fails : Nat := 0
  /-- Frames acknowledged at their first attempt in a row (R563). -/
  okRun : Nat := 0
  /-- The frame in progress: rung and attempts made (R561, R562). -/
  frame : Option (Nat × Nat) := none
  /-- The last frame that left on the power line (R549). -/
  air : Option HpSent := none
  /-- A VS_XROBO.REQ waits for its CNF (R565). -/
  xreq : Bool := false
  /-- Last measured beacon period, µs; distance of the beacon instants from the locked ones, µs (R551, R552). -/
  period : Option Nat := none
  ofs : Int := 0
  /-- Network membership key of the last match (R554). -/
  nmk : List Byte := []
  /-- Magnitudes of the last 256 sample blocks, newest first (R559). -/
  blocks : List Nat := []
deriving DecidableEq, Repr

/-! ## CAN buses (spec/14) -/

structure Can where
  /-- Message RAM: (word index from offset 0x2000, word), indices rising, zero words not listed (R579, R602). -/
  ram : List (Nat × Nat) := []
  /-- The buffer whose frame is in transmission. -/
  cur : Option Nat := none
  /-- Error counters of ISO 11898-1 (R596). -/
  txErr : Nat := 0
  rxErr : Nat := 0
  /-- The recovery count of R597 runs. -/
  recovering : Bool := false
  /-- A time master that met a foreign reference acts as a slave (R593). -/
  conf : Bool := false
  /-- References received in a row (R592). -/
  refs : Nat := 0
  /-- The next basic cycle has count 0 (R594). -/
  restart : Bool := true
  /-- The cell in force: 0 none, 1 exclusive, 2 arbitrating; the buffer of an exclusive one (R590). -/
  window : Nat := 0
  cellBuf : Nat := 0
  /-- The schedule waits for the next basic cycle after a recovery (R595). -/
  resume : Bool := false
  /-- EN was cleared while a frame was in progress (R578). -/
  closing : Bool := false
  /-- A reference message of the time master waits for the frame in transmission (R589). -/
  refDue : Bool := false
  /-- The bus woke the device: EVT.WAKE follows once PD7 is up, with format and ID of the frame (R601). -/
  woke : Option (Bool × Nat) := none
deriving DecidableEq, Repr


/-! ## Parapet (spec/15) -/

/-- A fault record (R618). Class 1 A, 2 B, 3 C, 4 D. -/
structure FaultRec where
  time : Nat := 0
  code : Nat := 0
  cls : Nat := 4
  latched : Bool := false
  escalated : Bool := false
  cleared : Bool := false
  preReset : Bool := false
  /-- Index of the input, output, channel, contactor or trip, 0xFF none. -/
  src : Nat := 0xFF
  outlets : Nat := 0
  piers : Nat := 0
  count : Nat := 0
deriving DecidableEq, Repr

/-- One safety input (R619 to R625). -/
structure SafeIn where
  openA : Bool := false
  openB : Bool := false
  demanded : Bool := false
  disc : Bool := false
  pulse : Bool := false
deriving DecidableEq, Repr

/-- One insulation channel (R646 to R649). -/
structure Imc where
  /-- Sense voltages of the last two halves in mV, newest first; none: no valid half. -/
  halves : List Int := []
  /-- The half in progress is the +20 V one. -/
  plus : Bool := true
  /-- Consecutive results below the alarm and the warning threshold, and at or above 1.1 times the warning one. -/
  lowAlarm : Nat := 0
  lowWarn : Nat := 0
  highWarn : Nat := 0
  highAlarm : Nat := 0
deriving DecidableEq, Repr

structure Parapet where
  /-- OUT_DELAY is running (R606). -/
  outDelay : Bool := false
  /-- The lower broadcast's LOWER is held (R146). -/
  lowerHeld : Bool := false
  /-- Class A flag of PD0 (R644). -/
  pd0A : Bool := false
  /-- Double-fault event kept in PD0 (R616). -/
  pd0Double : Bool := false
  /-- Piers armed when the last reset was asserted, kept in PD0 (R644). -/
  pd0Armed : Nat := 0
  /-- Fault records, newest first, at most 64, and the last 8 kept in PD0 (R618). -/
  ring : List FaultRec := []
  pd0Ring : List FaultRec := []
  /-- The fault being handled, then those suspended, newest first (R613). -/
  handling : List FaultRec := []
  /-- Queued faults, oldest first (R614). -/
  queue : List FaultRec := []
  /-- Latched Class A and Class B faults (R609). -/
  latched : List FaultRec := []
  /-- A Class C, and a Class D, record since PRP_QUEUE was read (R665). -/
  irqC : Bool := false
  irqD : Bool := false
  ins : List SafeIn := List.replicate 16 {}
  /-- The test-pulse output that is low (R619). -/
  ptpLow : Option Nat := none
  /-- PRST has been held for 5 s and not yet seen released (R635). -/
  stuckHeld : Bool := false
  /-- A release waits for the end of fault handling (R637). -/
  prstWait : Bool := false
  /-- A press has been accepted since the last device reset (R639). -/
  pressed : Bool := false
  /-- A fresh KEYLO has been written to PRP_FCLRK (R664). -/
  keyLo : Bool := false
  /-- Outlets whose Class B lowering runs, so that their outputs stay on until it ends (R609). -/
  bOutlets : Nat := 0
  /-- Piers to disarm when they report LOWERED, by a Class B fault or an OP 2 request (R609, R639). -/
  disarm : Nat := 0
  /-- Both pairs are held in reset by a double fault (R616). -/
  doubleHeld : Bool := false
  /-- The pairs run (released after the seal); R77, R642. -/
  running : Bool := false
  /-- The Parapet has armed some pier since the last device reset (R645). -/
  armedOnce : Bool := false
  /-- Levels of the 16 Truss trip ports, bit k entry k (R661). -/
  trips : Nat := 0
  /-- The root clock is out of tolerance (R37), and the last window deviated. -/
  clkBad : Bool := false
  clkLast : Bool := false
  pllLocked : Bool := false
  /-- The Truss read-back differs (code 0x0E). -/
  trussBad : Bool := false
  imc : List Imc := List.replicate 4 {}
  /-- Contactor records whose check runs, and those abandoned (R653, R655). -/
  weldRun : Nat := 0
  weldAgain : Nat := 0
deriving DecidableEq, Repr
/-! ## Trestle (spec/16) -/

structure Channel where
  /-- Duty in force, and the duty commanded, in codes of 1/255 (R672). -/
  duty : Nat := 0
  want : Nat := 0
  /-- The states of R678: LATCHED, THERM_WAIT, BURST_WAIT, each in force or not. -/
  latched : Bool := false
  therm : Bool := false
  burst : Bool := false
  /-- The junction lies above the restart temperature. -/
  hot : Bool := false
  /-- Site times of the thermal shutdowns of the last 10 s (R677), ns. -/
  therms : List Nat := []
  /-- The last 8 samples, mA or 0.1 mA, newest first (R682). -/
  samples : List Nat := []
  /-- Load current at the last sample, µA (R686). -/
  ua : Nat := 0
  /-- Held through a warm reset (R690): some true on, some false off; THERM_LATCH as it was. -/
  hold : Option Bool := none
  holdLatch : Bool := false
deriving DecidableEq, Repr

structure Trestle where
  chans : List Channel := List.replicate 16 {}
  /-- SEL3 to SEL0 (R686). -/
  sel : Nat := 0
deriving DecidableEq, Repr

/-! ## Supply and power states (spec/17) -/

/-- The states of R705. -/
inductive PowerState | run | doze | standby | park | off
deriving DecidableEq, Repr

structure Power where
  st : PowerState := .off
  /-- Bit d: domain PDd is on. -/
  domains : Nat := 1
  /-- PD0 has lost its state since the last start: the next start is a cold one (R701, R723). -/
  cold : Bool := true
  /-- PD0 runs from VBAT (R700). -/
  onVbat : Bool := false
  /-- VHOLD is at or above 30 V (R452). -/
  vhold30 : Bool := false
  /-- The hardware save area (R708, R710): (address, word). -/
  saved : List (Nat × Word) := []
  /-- The resume record: slot, image digest, COMMITTED. -/
  resume : Option (Nat × List Byte × Bool) := none
  /-- State the running entry leads to: 1 STANDBY, 2 PARK. -/
  target : Nat := 0
  /-- A wake source became active during the entry. -/
  wakeSeen : Bool := false
  /-- Transactions held since checkpoint 1: master, address, bytes, value of a write (R712). -/
  heldTx : List (Master × Nat × Nat × Option Nat) := []
  /-- The loss instant stamped at the last VIN failure or shutdown, until the restart uses it (R702, R738). -/
  lossAt : Option Rat := none
  /-- The last gasp was assured by its charge (R451, R452). -/
  assured : Bool := false
  /-- The time record: EB in ms, DRIFT in ppm, billing time of the copy (R722). -/
  recEb : Option Rat := none
  recDrift : Nat := 0
  recAt : Rat := 0
  /-- Billing time when the sleep or OFF began, and s on the RC since then. -/
  sleepAt : Rat := 0
  rcTime : Rat := 0
  /-- Half the watchdog timeout has passed since the last kick (R724). -/
  wdHalf : Bool := false
  /-- The crystal is stopped (R719). -/
  xtalOff : Bool := false
  /-- Truss port values at the pads held since the entry (R714). -/
  held : List (Nat × Nat) := []
  /-- The shutdown latch of R739. -/
  shutLatch : Bool := false
deriving DecidableEq, Repr

/-! ## Housekeeping (spec/18) -/

structure Hkp where
  /-- The critical level is in force (code 0x2E), and the shutdown vote holds (code 0x2F). -/
  critical : Bool := false
  shutdown : Bool := false
  /-- Rounds in a row that a sensor's count was the same, the first included (R729); the counts stand in HKP_TSn. -/
  same : List Nat := List.replicate 12 0
  /-- Rounds in a row with the request clear and no sensor broken (R735). -/
  clear : Nat := 0
  /-- Some vote was at or above 150 °C in the last round (R737). -/
  vote : Bool := false
  /-- HKP_THRCTL.NOW was written in this round (R733). -/
  now : Bool := false
deriving DecidableEq, Repr

/-! ## Pylon (spec/19) -/

/-- A slot of the key store (R759): ALG code of its key, none in an empty slot. -/
structure KeySlot where
  alg : Option Nat := none
  usage : Nat := 0
  key : List Byte := []
deriving DecidableEq, Repr

/-- A firmware command in progress: block address, and the 16-byte-word fields of the block (R758). -/
structure PylCmd where
  addr : Nat := 0
  op : Nat := 0
  alg : Nat := 0
  slot : Nat := 0
  inA : Nat := 0
  inL : Nat := 0
  in2A : Nat := 0
  in2L : Nat := 0
  outA : Nat := 0
  cap : Nat := 0
  usage : Nat := 0
  /-- Result: number of bytes written at OUT_ADDR, STATUS. -/
  outLen : Nat := 0
  status : Nat := 0
  /-- The operation has been carried out and its completion waits. -/
  served : Bool := false
deriving DecidableEq, Repr

structure Pylon where
  /-- Identities fused or derived (R755, R756): METER_ID, COUNT_ID, KEYHASH. -/
  meterId : List Byte := []
  countId : List Byte := []
  keyHash : List Byte := []
  /-- Device serial and hardware unique secret, from fuses (R754, R755). -/
  serial : List Byte := List.replicate 8 0
  secret : List Byte := List.replicate 32 0
  /-- Hash fuses of the 12 slots (R743, R744); FUSED and REVOKED stand in PYL_KFUSE. -/
  hashes : List (List Byte) := List.replicate 12 []
  /-- Lifecycle in the fuses, in force from the next reset (R765). -/
  lcNext : Nat := 0
  /-- Presented public keys of each slot (R746); the mask stands in PYL_KPRES. -/
  keys : List (List Byte) := List.replicate 12 []
  /-- Elements verified since reset: ARB_INDEX, ARB_VERSION, ADVANCE (R754). -/
  elems : List (Nat × Nat × Bool) := []
  store : List KeySlot := List.replicate 16 {}
  cmd : Option PylCmd := none
  /-- What Pylon serves: 0 load, 1 Toll record, 2 vehicle-link TLS, 3 firmware command (R761). -/
  serving : Option Nat := none
  /-- The alias endorsement of this reset, once formed (R757). -/
  endorse : List Byte := []
  /-- A forbidden access was counted since the seal (R757). -/
  viol : Bool := false
deriving DecidableEq, Repr


/-! ## The whole device -/

/-- The state of the device. -/
structure State where
  /-- Register file: (address, word), addresses rising, no entry equal to the register's reset value (R8, R10). -/
  regs : List (Nat × Word) := []
  /-- The loaded image's sections after decompression: byte `off` of the section of type `t` at t * 0x1000000 + off,
  bytes of 0 not listed (R62, R806). -/
  img : List Host.Cell := []
  /-- Length of each section type present: (type, bytes). -/
  secLen : List (Nat × Nat) := []
  /-- Control period T in µs, from the loaded image's header (R26); 0 before a load. -/
  periodUs : Nat := 0
  /-- Site time: ns, and the 16-bit fraction, at the start of the running control period (R39). -/
  siteNs : Nat := 0
  siteFrac : Nat := 0
  /-- Values at the Truss ports that blocks drive: (port, 16-bit value), ports rising, 0 not listed (R85). -/
  ports : List (Nat × Nat) := []
  cwy : Causeway := {}
  load : Load := {}
  /-- SRAM, DRAM and the firmware area of the Abutment store: (address, byte), addresses rising, bytes of 0 not listed
  (R48, R801; log entry 40). -/
  mem : List Host.Cell := []
  truss : Truss := {}
  spn : Span := {}
  phs : Phs := {}
  kst : Kst := {}
  arc : Arch := {}
  prp : Parapet := {}
  tol : Toll := {}
  pyl : Pylon := {}
  grd : List GUnit := List.replicate 2 {}
  /-- The Girder modulator filters (R346). -/
  mods : List Caisson := List.replicate 8 {}
  hkp : Hkp := {}
  sty : List Cable := List.replicate 8 {}
  vlk : List VLink := List.replicate 8 {}
  can : List Can := List.replicate 4 {}
  trs : Trestle := {}
  pwr : Power := {}
  /-- The free-value counter (the model's own field): Config.freeNat is applied to it. -/
  freeCtr : Nat := 0
  /-- The value that the last read returned to its master (the model's own field). -/
  rdata : Nat := 0
  /-- Commands that wait, first in, first out. -/
  pending : List Instr := []
deriving DecidableEq, Repr

/-- The device right after power-on reset. -/
def State.reset : State := {}

end Sys2Proof.Machine
end

