-- ==== Sys2Proof/Machine/Ops.lean ====
section
/-! DEFINITION. Named operations over the register file, sparse stores, masks, byte strings and free values. -/

namespace Sys2Proof.Machine

/-! ### Sparse stores: (key, value) pairs in rising key order, nothing listed at its default -/

/-- The value at key `a`, `d` when unlisted. -/
def sget {α : Type} (d : α) : List (Nat × α) → Nat → α
  | [], _ => d
  | (k, v) :: t, a => if a = k then v else sget d t a

/-- The store with `v` at key `a`, whose default is `d`. -/
def sset {α : Type} [DecidableEq α] (d : α) : List (Nat × α) → Nat → α → List (Nat × α)
  | [], a, v => if v = d then [] else [(a, v)]
  | (k, w) :: t, a, v =>
    if a < k then
      if v = d then ((k, w) :: t).filter (fun c => c.1 != a) else (a, v) :: (k, w) :: t
    else if a = k then
      if v = d then t.filter (fun c => c.1 != a) else (a, v) :: t.filter (fun c => c.1 != a)
    else (k, w) :: sset d t a v

/-- Keys rise strictly and no entry equals its default. -/
def swf {α : Type} [DecidableEq α] (d : Nat → α) : List (Nat × α) → Bool
  | [] => true
  | [(k, v)] => decide (v ≠ d k)
  | (k, v) :: (k', v') :: t => decide (v ≠ d k) && decide (k < k') && swf d ((k', v') :: t)

/-! ### Numbers -/

/-- Two's complement reading of the low `w` bits (R16). -/
def toS (w n : Nat) : Int :=
  let m := n % 2 ^ w
  if m < 2 ^ (w - 1) then (m : Int) else (m : Int) - 2 ^ w

/-- Two's complement code in `w` bits. -/
def ofS (w : Nat) (i : Int) : Nat := (i % (2 ^ w : Int)).toNat

/-- The whole number nearest to n / d, ties away from zero (R211). -/
def roundAway (n : Int) (d : Nat) : Int :=
  if n < 0 then -(((2 * n.natAbs + d) / (2 * d) : Nat) : Int) else (((2 * n.natAbs + d) / (2 * d) : Nat) : Int)

/-- `i` held within lo and hi, lo first. -/
def clampI (i lo hi : Int) : Int := min (max i lo) hi

/-- `n` raised by one, stopping at `m`. -/
def satInc (m n : Nat) : Nat := if n < m then n + 1 else m

/-- A rational stored as a whole number of codes where the spec gives no rounding: the exact number if it is whole, else
one of its two neighbours, which one being free (log entry 6). -/
def roundFree (x : Rat) : Int := if x.den = 1 then x.num else if Config.roundUp x then x.floor + 1 else x.floor

/-- Code of a rational in a format with `f` fraction bits and the bounds lo, hi of the code. -/
def codeFree (x : Rat) (f : Nat) (lo hi : Int) : Int := clampI (roundFree (x * (2 ^ f : Nat))) lo hi

/-! ### Masks -/

/-- Mask `m` with bit `i` set to `b`. -/
def mset (m i : Nat) (b : Bool) : Nat :=
  if m.testBit i then (if b then m else m - 2 ^ i) else (if b then m + 2 ^ i else m)

/-- The bits of `m` that are not in `c`. -/
def mclr (m c : Nat) : Nat := m - (m &&& c)

/-- The numbers below `n` whose bit is set in `m`. -/
def mbits (m n : Nat) : List Nat := (List.range n).filter m.testBit

/-! ### Lists with a default -/

/-- Element `i`, `d` beyond the end. -/
def nth {α : Type} (d : α) (l : List α) (i : Nat) : α := l.getD i d

/-- The list with element `i` replaced by its image under `f`. -/
def updAt {α : Type} : List α → Nat → (α → α) → List α
  | [], _, _ => []
  | x :: t, 0, f => f x :: t
  | x :: t, i + 1, f => x :: updAt t i f

/-! ### Byte strings (little-endian, R8, R58) -/

/-- The number of a little-endian byte string. -/
def ofLE : List Byte → Nat
  | [] => 0
  | b :: t => b.toNat + 256 * ofLE t

/-- `n` bytes of `v`, least significant first. -/
def toLE : Nat → Nat → List Byte
  | 0, _ => []
  | n + 1, v => BitVec.ofNat 8 v :: toLE n (v / 256)

/-- The number in `n` bytes from offset `o`. -/
def leAt (l : List Byte) (o n : Nat) : Nat := ofLE ((l.drop o).take n)

/-- One step of the reflected IEEE 802.3 CRC-32. -/
def crcBit (c : Nat) : Nat := if c % 2 = 1 then (c / 2) ^^^ 0xEDB88320 else c / 2

/-- CRC register after one byte. -/
def crcByte (c : Nat) (b : Byte) : Nat :=
  crcBit (crcBit (crcBit (crcBit (crcBit (crcBit (crcBit (crcBit (c ^^^ b.toNat))))))))

/-- IEEE 802.3 CRC-32 of a byte string (R132). -/
def crc32 (l : List Byte) : Nat := (l.foldl crcByte 0xFFFFFFFF) ^^^ 0xFFFFFFFF

/-! ### Registers -/

/-- Indices of the register at distance `d` from the instance-0 address, if there is one (R9). -/
def dimsAt : List (Nat × Nat) → Nat → Option (List Nat)
  | [], d => if d = 0 then some [] else none
  | (c, st) :: t, d => if d / st < c then (dimsAt t (d % st)).map (d / st :: ·) else none

/-- The indices with which the row covers address `a`. -/
def RegDesc.indices (r : RegDesc) (a : Nat) : Option (List Nat) :=
  if a < r.addr then none else dimsAt r.dims (a - r.addr)

/-- The row of the register at address `a`. -/
def findReg (a : Nat) : Option RegDesc := (regBlock (a / 0x10000)).find? (fun r => (r.indices a).isSome)

/-- Default quotas of R46. -/
def quotaDefault (n : Nat) : Nat := if n < 4 then 12 else if n < 6 then 8 else if n < 12 then 4 else 8

/-- Value of the register at address `a` after reset (R10). -/
def regReset (a : Nat) : Word :=
  if 0x40000100 ≤ a ∧ a < 0x4000013C ∧ a % 4 = 0 then BitVec.ofNat 32 (quotaDefault ((a - 0x40000100) / 4))
  else match findReg a with
    | some r => BitVec.ofNat 32 (r.fields.foldl (fun x f => x + f.reset * 2 ^ f.lo) 0)
    | none => 0

/-- The word held at register address `a`. -/
def State.reg (s : State) (a : Nat) : Nat := (sget (regReset a) s.regs a).toNat

/-- The state with word `v` at register address `a`. -/
def State.setReg (s : State) (a v : Nat) : State :=
  { s with regs := sset (regReset a) s.regs a (BitVec.ofNat 32 v) }

/-- Field bits of a word. -/
def fieldOf (v lo w : Nat) : Nat := v / 2 ^ lo % 2 ^ w

/-- A word with its field replaced. -/
def fieldSet (v lo w x : Nat) : Nat := v / 2 ^ (lo + w) * 2 ^ (lo + w) + (x % 2 ^ w) * 2 ^ lo + v % 2 ^ lo

/-- Value of a field. -/
def State.get (s : State) (f : FieldRef) : Nat := fieldOf (s.reg f.addr) f.lo f.w

/-- The state with a field set to `v`, cut to its width. -/
def State.put (s : State) (f : FieldRef) (v : Nat) : State :=
  s.setReg f.addr (fieldSet (s.reg f.addr) f.lo f.w v)

/-- Field read as a flag. -/
def State.bit (s : State) (f : FieldRef) : Bool := s.get f != 0

/-- Field set to 1, or 0. -/
def State.putB (s : State) (f : FieldRef) (b : Bool) : State := s.put f (if b then 1 else 0)

/-- Signed field. -/
def State.getS (s : State) (f : FieldRef) : Int := toS f.w (s.get f)

/-- Signed value stored in a field, saturated to its range. -/
def State.putS (s : State) (f : FieldRef) (i : Int) : State :=
  s.put f (ofS f.w (clampI i (-(2 ^ (f.w - 1) : Int)) (2 ^ (f.w - 1) - 1)))

/-- Unsigned value stored in a field, saturated to its range. -/
def State.putU (s : State) (f : FieldRef) (i : Int) : State :=
  s.put f (clampI i 0 (2 ^ f.w - 1)).toNat

/-- A counter field raised by one, stopping at its largest value. -/
def State.inc (s : State) (f : FieldRef) : State := s.put f (satInc (2 ^ f.w - 1) (s.get f))

/-- Bit `i` of a field set to `b`. -/
def State.putBit (s : State) (f : FieldRef) (i : Nat) (b : Bool) : State := s.put f (mset (s.get f) i b)

/-- The configuration is sealed (R76). -/
def State.isSealed (s : State) : Bool := s.bit Fld.PYL_IMGSTAT_LOADED

/-- A write acts on one field by its access code (R12, R15). -/
def State.writeField (s : State) (a v : Nat) (f : FieldDesc) : State :=
  let x := fieldOf v f.lo f.w
  let old := fieldOf (s.reg a) f.lo f.w
  match f.acc with
  | .rw => s.put ⟨a, f.lo, f.w⟩ x
  | .rwl => if s.isSealed then s else s.put ⟨a, f.lo, f.w⟩ x
  | .w1c => s.put ⟨a, f.lo, f.w⟩ (mclr old x)
  | .w1s => s.put ⟨a, f.lo, f.w⟩ (old ||| x)
  | _ => s

/-- A write of `v` acts on each field of the register at `a` by that field's code (R12). -/
def State.writeByCode (s : State) (a v : Nat) : State :=
  match findReg a with
  | some r => r.fields.foldl (fun s f => s.writeField a v f) s
  | none => s

/-- The fields of the register at `a` take those of a word. -/
def State.loadReg (s : State) (a v : Nat) : State :=
  match findReg a with
  | some r => r.fields.foldl (fun s f => s.put ⟨a, f.lo, f.w⟩ (fieldOf v f.lo f.w)) s
  | none => s

/-- A forbidden access by master m: its counter rises and its address is kept (R44); Pylon notes it (R757). -/
def State.violate (s : State) (m : Master) (addr : Nat) : State :=
  let s := (s.inc (Fld.CWY_VIOL_COUNT m.val)).put (Fld.CWY_VADDR_ADDR m.val) addr
  { s with pyl := { s.pyl with viol := true } }

/-! ### The image's sections -/

/-- Key of a section byte in `img`. -/
def imgKey (ty off : Nat) : Nat := ty * 0x1000000 + off

/-- Byte of a section of the loaded image; 0 where none is. -/
def State.cfgB (s : State) (ty off : Nat) : Nat := (sget (0 : Byte) s.img (imgKey ty off)).toNat

/-- Little-endian number of `n` bytes at offset `off` of a section. -/
def State.cfg (s : State) (ty off : Nat) : Nat → Nat
  | 0 => 0
  | n + 1 => s.cfgB ty off + 256 * State.cfg s ty (off + 1) n

/-- Signed number of `n` bytes. -/
def State.cfgS (s : State) (ty off n : Nat) : Int := toS (8 * n) (s.cfg ty off n)

/-- Length of the loaded section, 0 where absent. -/
def State.lenOf (s : State) (ty : Nat) : Nat := sget 0 s.secLen ty

/-! ### Free values, time, Truss ports -/

/-- A fresh free value below 2^w, and the state after taking it (log entry 5). -/
def State.fresh (s : State) (w : Nat) : Nat × State :=
  (Config.freeNat s.freeCtr % 2 ^ w, { s with freeCtr := s.freeCtr + 1 })

/-- A fresh free value below `n` (below 1 where n is 0). -/
def State.freshBelow (s : State) (n : Nat) : Nat × State :=
  (Config.freeNat s.freeCtr % (if n = 0 then 1 else n), { s with freeCtr := s.freeCtr + 1 })

/-- Value at a Truss port. -/
def State.port (s : State) (q : Nat) : Nat := sget 0 s.ports q

/-- A block drives a Truss port. -/
def State.setPort (s : State) (q v : Nat) : State := { s with ports := sset 0 s.ports q (v % 65536) }

/-- Role that ABT_ROLE reports (R3): 0 none, 1 SITE, 2 VEHICLE, 3 DUAL. -/
def State.role (s : State) : Nat := s.get Fld.ABT_ROLE_ROLE

end Sys2Proof.Machine
end

