-- ==== Sys2Proof/Machine/Image.lean ====
section
/-! DEFINITION. Named readings of the image's sections (spec/02, spec/04 to spec/06, spec/15) that several blocks use. -/

namespace Sys2Proof.Machine

/-! ### Directory (R61) -/

/-- Entry k of the directory, 64 B. -/
def dirEntry (h : List Byte) (k : Nat) : List Byte := (h.drop (256 + 64 * k)).take 64
def sectCount (h : List Byte) : Nat := leAt h 0x0C 2
def entries (h : List Byte) : List (List Byte) := (List.range (sectCount h)).map (dirEntry h)
def eType (e : List Byte) : Nat := leAt e 0 1
def eInst (e : List Byte) : Nat := leAt e 2 2
def eOff (e : List Byte) : Nat := leAt e 4 4
def eStored (e : List Byte) : Nat := leAt e 8 4
def eLen (e : List Byte) : Nat := leAt e 0xC 4

/-- The image being loaded has a section of type ty, of whatever length (R62). -/
def State.hasSec (s : State) (ty : Nat) : Bool := (entries s.load.hdr).any (fun e => eType e == ty)

/-! ### LINKMAP, section type 0x04 (R88) -/

/-- USE of Span link l: 0 unused, 1 primary, 2 standby. -/
def State.spanUse (s : State) (l : Nat) : Nat := s.cfgB 4 (16 * l)
/-- Pier of Span link l. -/
def State.spanPier (s : State) (l : Nat) : Nat := s.cfgB 4 (16 * l + 1)
/-- PARTNER of Span link l, 0xFF none. -/
def State.spanPartner (s : State) (l : Nat) : Nat := s.cfgB 4 (16 * l + 4)
/-- USE of twin link t: 0 unused, 1 master, 2 follower. -/
def State.twinUse (s : State) (t : Nat) : Nat := s.cfgB 4 (0xC0 + 16 * t)
/-- USE of vehicle link n: 0 unused, 1 SECC, 2 EVCC. -/
def State.vlUse (s : State) (n : Nat) : Nat := s.cfgB 4 (0x100 + 16 * n)
/-- KIND of vehicle link n. -/
def State.vlKind (s : State) (n : Nat) : Nat := s.cfgB 4 (0x100 + 16 * n + 1)
/-- Outlet of vehicle link n. -/
def State.vlOutlet (s : State) (n : Nat) : Nat := s.cfgB 4 (0x100 + 16 * n + 2)
/-- PROTO of vehicle link n. -/
def State.vlProto (s : State) (n : Nat) : Nat := s.cfgB 4 (0x100 + 16 * n + 3)
/-- BIDIR of vehicle link n. -/
def State.vlBidir (s : State) (n : Nat) : Bool := s.cfgB 4 (0x100 + 16 * n + 4) == 1

/-- The link of pier n with the given USE. -/
def State.pierLink (s : State) (n use : Nat) : Option Nat :=
  (List.range 12).find? (fun l => s.spanUse l == use && s.spanPier l == n)

/-- LINKMAP marks pier n in use (R165). -/
def State.pierInUse (s : State) (n : Nat) : Bool := (s.pierLink n 1).isSome

/-- Phases of pier n. -/
def State.pierPhases (s : State) (n : Nat) : Nat :=
  match s.pierLink n 1 with | some l => s.cfgB 4 (16 * l + 2) | none => 0

/-- The piers that LINKMAP marks in use. -/
def State.piersInUse (s : State) : List Nat := (List.range 12).filter s.pierInUse

/-- The vehicle link whose OUTLET is m. -/
def State.outletLink (s : State) (m : Nat) : Option Nat :=
  (List.range 8).find? (fun n => s.vlUse n != 0 && s.vlOutlet n == m)

/-! ### PHASE, section type 0x0B (R175) -/

/-- Value of pier register 0x0010 + k for pier n as the PHASE section has it (R158, R175). -/
def State.pierReg (s : State) (n k : Nat) : Nat := s.cfg 0x0B (1024 * n + 4 * k) 4
/-- N_SW of pier n, fine steps. -/
def State.nSw (s : State) (n : Nat) : Nat := s.pierReg n 1
/-- ESCALE of pier n. -/
def State.eScale (s : State) (n : Nat) : Nat := s.pierReg n 2
/-- Byte offset of the entry of phase p of pier n. -/
def phaseOff (n p : Nat) : Nat := 1024 * n + 256 + 24 * p
/-- Phase p of pier n is FITTED. -/
def State.fitted (s : State) (n p : Nat) : Bool := s.cfgB 0x0B (phaseOff n p) % 2 == 1
/-- NO_SHED of phase p. -/
def State.noShed (s : State) (n p : Nat) : Bool := s.cfgB 0x0B (phaseOff n p) / 2 % 2 == 1
/-- ORDER of phase p. -/
def State.order (s : State) (n p : Nat) : Nat := s.cfgB 0x0B (phaseOff n p + 1)
/-- I_MAX of phase p, uQ16.16 A. -/
def State.iMax (s : State) (n p : Nat) : Nat := s.cfg 0x0B (phaseOff n p + 4) 4
/-- TEMP_WARN of phase p, sQ15.16. -/
def State.tWarn (s : State) (n p : Nat) : Int := s.cfgS 0x0B (phaseOff n p + 8) 4
/-- TEMP_MAX of phase p, sQ15.16. -/
def State.tMax (s : State) (n p : Nat) : Int := s.cfgS 0x0B (phaseOff n p + 12) 4

/-! ### PARAPET, section type 0x06 (R661) -/

/-- A number of the PARAPET section. -/
def State.par (s : State) (off n : Nat) : Nat := s.cfg 6 off n
/-- KIND of safety input n. -/
def State.psiKind (s : State) (n : Nat) : Nat := s.cfgB 6 (0x40 + 16 * n)
/-- KIND of safety output k. -/
def State.psoKind (s : State) (k : Nat) : Nat := s.cfgB 6 (0x180 + 16 * k)
/-- UNIT of safety output k. -/
def State.psoUnit (s : State) (k : Nat) : Nat := s.cfgB 6 (0x180 + 16 * k + 1)

/-! ### Reports of the piers -/

/-- The link whose up frame the device uses for pier n: the primary while it delivered the last used frame, else the
standby (R153). -/
def State.useLink (s : State) (n : Nat) : Option Nat :=
  match s.pierLink n 1, s.pierLink n 2 with
  | some p, some b =>
    if (nth {} s.spn.links p).gotUp then some p else if (nth {} s.spn.links b).gotUp then some b
    else if s.bit (Fld.SPN_LINK_STAT_ACTIVE p) then some p
    else if s.bit (Fld.SPN_LINK_STAT_ACTIVE b) then some b else some p
  | some p, none => some p
  | none, o => o

/-- Bit b of the PFLAGS that pier n last reported (R128). -/
def State.pflag (s : State) (n b : Nat) : Bool :=
  match s.useLink n with | some l => (s.get (Fld.SPN_LINK_STAT_PFLAGS l)).testBit b | none => false

/-- Pier n reports READY. -/
def State.pierReady (s : State) (n : Nat) : Bool := s.pflag n 0
/-- Pier n reports LOWERED. -/
def State.pierLowered (s : State) (n : Nat) : Bool := s.pflag n 2
/-- Pier n reports ARMED. -/
def State.pierArmed (s : State) (n : Nat) : Bool := s.pflag n 6

/-- This module is the follower of a cascade (R291). -/
def State.follower (s : State) : Bool := s.twinUse 0 == 2 || s.twinUse 1 == 2
/-- This module is the master of a cascade (R291). -/
def State.cascMaster (s : State) : Bool := s.twinUse 0 == 1 || s.twinUse 1 == 1
/-- Cascade index of this module's pier n (R291). -/
def State.cPier (s : State) (n : Nat) : Nat := if s.follower then n + 12 else n
/-- Cascade index of this module's outlet m. -/
def State.cOut (s : State) (m : Nat) : Nat := if s.follower then m + 8 else m

/-- Outlet that pier n serves by ARC_PIERn_STATE, or the EVCC outlet of R265 in the VEHICLE role; none where it serves
none. -/
def State.pierOutlet (s : State) (n : Nat) : Option Nat :=
  if s.role = 2 then
    if s.pierInUse n then ((List.range 8).find? (fun v => s.vlUse v == 2)).map s.vlOutlet else none
  else
    let st := s.get (Fld.ARC_PIER_STATE_STATE (s.cPier n))
    let o := s.get (Fld.ARC_PIER_STATE_OUTLET (s.cPier n))
    if (st == 2 || st == 3 || st == 7 || st == 8) && s.cOut 0 ≤ o && o < s.cOut 8 then some (o - s.cOut 0) else none

/-- Pier n counts in its outlet's capacity: not once its share has left for OPENING, and only from JOINING (R283, R288). -/
def State.countsIn (s : State) (n : Nat) : Bool :=
  if s.role = 2 then true
  else
    let st := s.get (Fld.ARC_PIER_STATE_STATE (s.cPier n))
    st == 2 || st == 3 || st == 7

/-- Vehicle link n permits discharge (R528): BIDIR in LINKMAP and in the outlet record of ARCH_POLICY, PROTO names ISO
15118-20, BPT set. -/
def State.mayDischarge (s : State) (n : Nat) : Bool :=
  s.vlBidir n && (s.cfgB 9 (0x100 + 64 * s.vlOutlet n) / 2 % 2 == 1) &&
  s.get (Fld.VLK_L_SESS_PROTO n) == 1 && s.bit (Fld.VLK_L_SESS_BPT n)

end Sys2Proof.Machine
end

