-- ==== Sys2Proof/Machine/FaultOps.lean ====
section
/-! DEFINITION. The shared operations of the Parapet: the safe state, the fault manager, the responses of the classes, the
latches, the outputs and arming (spec/15, R604 to R645). -/

namespace Sys2Proof.Machine

/-- Outlets of a mask, and piers of a mask. -/
def outletBits (m : Nat) : List Nat := mbits m 8
def pierBits (m : Nat) : List Nat := mbits m 12

/-- Fold an update over a list of numbers. -/
def forEach (l : List Nat) (s : State) (f : State → Nat → State) : State := l.foldl f s

def State.modLink (s : State) (l : Nat) (f : Link → Link) : State :=
  { s with spn := { s.spn with links := updAt s.spn.links l f } }
def State.modNode (s : State) (n : Nat) (f : Node → Node) : State :=
  { s with spn := { s.spn with nodes := updAt s.spn.nodes n f } }
def State.modOut (s : State) (m : Nat) (f : Outlet → Outlet) : State :=
  { s with kst := { s.kst with outs := updAt s.kst.outs m f } }
def State.modIn (s : State) (n : Nat) (f : SafeIn → SafeIn) : State :=
  { s with prp := { s.prp with ins := updAt s.prp.ins n f } }
def State.link (s : State) (l : Nat) : Link := nth {} s.spn.links l
def State.node (s : State) (n : Nat) : Node := nth {} s.spn.nodes n
def State.out (s : State) (m : Nat) : Outlet := nth {} s.kst.outs m
def State.safeIn (s : State) (n : Nat) : SafeIn := nth {} s.prp.ins n

/-! ### LOWER on the links -/

/-- The Arch holds LOWER for pier n: the pier is SAFE or in FAULT (R275, R287). -/
def State.arcLower (s : State) (n : Nat) : Bool :=
  let st := s.get (Fld.ARC_PIER_STATE_STATE (s.cPier n))
  s.role != 2 && (st == 9 || st == 10)

/-- The device sets LOWER in the down frames of pier n: the broadcast is held (R146), a latched fault names the pier
(R609), or the lowering of its outlet has ended at zero (R222). -/
def State.pierLower (s : State) (n : Nat) : Bool :=
  s.prp.lowerHeld || s.arcLower n || (s.get Fld.PRP_LATCH_PIERS).testBit n ||
  (match s.pierOutlet n with | some m => (s.out m).lowerPiers | none => false)

/-- SPN_LINKn_STAT.LOWER_TX of every link in use (R120). -/
def State.syncLower (s : State) : State :=
  forEach (List.range 12) s (fun s l =>
    if s.spanUse l = 0 then s else s.putB (Fld.SPN_LINK_STAT_LOWER_TX l) (s.pierLower (s.spanPier l)))

/-! ### Ordered sets (R112, R144) -/

/-- /K28.5/D16.2/, which repeats between frames. -/
def idleSet : List CodeGroup := [.ctl 0xBC, .data 0x50]
/-- /K28.5/K27.7/ and /K29.7/. -/
def startSet : List CodeGroup := [.ctl 0xBC, .ctl 0xFB]
def endSet : List CodeGroup := [.ctl 0xFD]
/-- /K28.5/K23.7/, eight times. -/
def lowerStream : List CodeGroup := (List.replicate 8 [.ctl 0xBC, .ctl 0xF7]).flatten

/-- The code groups of a frame, idle after it. -/
def frameStream (b : List Byte) : List CodeGroup := startSet ++ b.map .data ++ endSet ++ idleSet

/-- The transmit pins of link l carry code groups: enabled, and not looped (R113, R809). -/
def State.linkDrives (s : State) (l : Nat) : Bool :=
  s.bit (Fld.SPN_LINK_CTRL_EN l) && !s.bit (Fld.SPN_LINK_CTRL_LOOP l) && s.spanUse l != 0

/-- The Span lower broadcast: eight lower ordered sets on every Span link in use that is enabled, breaking off a frame (R113, R144),
and LOWER held (R146). -/
def State.lowerBroadcast (s : State) : State :=
  let s := forEach (List.range 12) s (fun s l =>
    if s.linkDrives l then s.modLink l (fun k => { k with lowerSets := 8, stream := lowerStream ++ idleSet }) else s)
  let s := (s.putB Fld.SPN_BCAST_SENT true).putB Fld.SPN_BCAST_LOWER true
  { s with prp := { s.prp with lowerHeld := true } }.syncLower

/-! ### Safe state -/

/-- Running checks of contactor records are abandoned: those whose output is in the mask (R655). -/
def State.abandonChecks (s : State) (outsMask : Nat) : State :=
  forEach (List.range 16) s (fun s k =>
    if s.prp.weldRun.testBit k && outsMask.testBit (s.cfgB 6 (0x2C0 + 16 * k)) then
      { s.put (Fld.PRP_WELD_RESULT k) 4 with
        prp := { s.prp with weldRun := mset s.prp.weldRun k false, weldAgain := mset s.prp.weldAgain k true } }
    else s)

/-- Crosspoint checks that run on the piers of the mask are abandoned: the crosspoint is unchecked (R655). -/
def State.abandonXps (s : State) (piers : Nat) : State :=
  forEach (List.range 64) s (fun s k =>
    if s.get (Fld.ARC_XP_STAT_STATE k) = 4 && piers.testBit (s.cfgB 9 (0x800 + 16 * k + 1)) then
      { s.put (Fld.ARC_XP_STAT_STATE k) 0 with
        arc := { s.arc with
          xps := updAt s.arc.xps k (fun x => { x with unchecked := true })
          piers := updAt s.arc.piers (s.cPier (s.cfgB 9 (0x800 + 16 * k + 1))) (fun p =>
            { p with weld := none, ovr := none }) } }
    else s)

/-- The safe state is asserted (R606): broadcast, LOWER held, OUT_DELAY started; a check that runs is abandoned (R655). -/
def State.assertSafe (s : State) : State :=
  let first := !s.bit Fld.PRP_STAT_SAFE
  let (b, s) := s.fresh 16
  let s := (s.lowerBroadcast.putB Fld.PRP_STAT_SAFE true).put Fld.PRP_RTIME_BCAST b
  let s := (s.abandonChecks 0xFFF).abandonXps 0xFFFFFF
  if first then { s with prp := { s.prp with outDelay := true } } else s

/-- The safety outputs of the mask turn off; the check of every contactor record whose output was on starts (R653). -/
def State.outputsOff (s : State) (m : Nat) : State :=
  let on := s.get Fld.PRP_PSOSTAT_ON
  let s := s.put Fld.PRP_PSOSTAT_ON (mclr on m)
  forEach (List.range 16) s (fun s k =>
    let o := s.cfgB 6 (0x2C0 + 16 * k)
    if s.cfg 6 (0x2C4 + 16 * k) 2 != 0 && (on &&& m).testBit o then
      { s.put (Fld.PRP_WELD_RESULT k) 5 with prp := { s.prp with weldRun := mset s.prp.weldRun k true } }
    else s)

/-- PRP_ARMED takes a new value (R639); EVT.ARM_CHG when it changes. -/
def State.setArmed (s : State) (m : Nat) : State :=
  if s.get Fld.PRP_ARMED_PIERS = m then s else (s.put Fld.PRP_ARMED_PIERS m).putB Fld.PRP_EVT_ARM_CHG true

/-- A latched fault names outlet m. -/
def State.latchedOutlet (s : State) (m : Nat) : Bool := (s.get Fld.PRP_LATCH_OUTLETS).testBit m
/-- A latched fault names pier n. -/
def State.latchedPier (s : State) (n : Nat) : Bool := (s.get Fld.PRP_LATCH_PIERS).testBit n

/-- The outlet that safety output k serves: UNIT of kind 1, the link's outlet of kinds 2 and 3 (R629). -/
def State.psoOutlet (s : State) (k : Nat) : Option Nat :=
  match s.psoKind k with
  | 1 => some (s.psoUnit k)
  | 2 => some (s.vlOutlet (s.psoUnit k))
  | 3 => some (s.vlOutlet (s.psoUnit k))
  | _ => none

/-- The condition of R629 on output k, apart from latched faults. -/
def State.psoUnitOk (s : State) (k : Nat) : Bool :=
  match s.psoKind k with
  | 1 => s.get Fld.PRP_ARMED_PIERS != 0
  | 2 => true
  | 3 => s.role == 2 && s.bit (Fld.VLK_L_CONT_CONNECTED (s.psoUnit k))
  | 4 => !s.bit Fld.PRP_STAT_LATCH_A
  | _ => false

/-- R629, R645: the kind permits output k on, the start-up tests have passed and the Parapet has armed since the reset. -/
def State.psoPermits (s : State) (k : Nat) : Bool :=
  s.bit Fld.PRP_STAT_START_OK && s.prp.armedOnce && s.psoUnitOk k &&
  (match s.psoOutlet k with | some m => !s.latchedOutlet m | none => true)

/-- Output k may stay on: its kind permits it, or only a latched fault forbids it whose lowering still runs (R609). -/
def State.psoStays (s : State) (k : Nat) : Bool :=
  s.psoUnitOk k && (match s.psoOutlet k with | some m => !s.latchedOutlet m || s.prp.bOutlets.testBit m | none => true)

/-- Every output that may no longer be on turns off (R629); during OUT_DELAY the safe state's own timing rules (R606). -/
def State.settleOutputs (s : State) : State :=
  if s.prp.outDelay then s
  else s.outputsOff (((mbits (s.get Fld.PRP_PSOSTAT_ON) 12).filter (fun k => !s.psoStays k)).foldl (fun m k => m + 2 ^ k) 0)

/-- Piers due for disarming are disarmed once they report LOWERED (R609, R639). -/
def State.settleDisarm (s : State) : State :=
  let due := (pierBits s.prp.disarm).filter s.pierLowered
  let m := due.foldl (fun m n => m + 2 ^ n) 0
  if m = 0 then s
  else ({ s with prp := { s.prp with disarm := mclr s.prp.disarm m } }.setArmed
    (mclr (s.get Fld.PRP_ARMED_PIERS) m)).settleOutputs

/-! ### Records, latches, handling -/

/-- PRP_QUEUE.HANDLING and FILL. -/
def State.syncQueue (s : State) : State :=
  (s.put Fld.PRP_QUEUE_HANDLING ((s.prp.handling.head?.map FaultRec.cls).getD 0)).put Fld.PRP_QUEUE_FILL
    s.prp.queue.length

/-- PRP_STAT.LATCH_A, LATCH_B and PRP_LATCH from the latched faults (R609). -/
def State.syncLatch (s : State) : State :=
  let l := s.prp.latched
  let s := s.putB Fld.PRP_STAT_LATCH_A (l.any (fun r => r.cls == 1))
  let s := s.putB Fld.PRP_STAT_LATCH_B (l.any (fun r => r.cls == 2))
  let s := s.put Fld.PRP_LATCH_OUTLETS (l.foldl (fun m r => m ||| r.outlets) 0)
  let s := s.put Fld.PRP_LATCH_PIERS (l.foldl (fun m r => m ||| r.piers) 0)
  let s := forEach (List.range 8) s (fun s m =>
    if s.latchedOutlet m then s else s.modOut m (fun o => { o with lowerPiers := false }))
  s.syncLower

/-- The record goes to the ring of 64 and to the 8 of PD0 (R618). -/
def State.writeRec (s : State) (r : FaultRec) : State :=
  { s with prp := { s.prp with ring := (r :: s.prp.ring).take 64, pd0Ring := (r :: s.prp.pd0Ring).take 8 } }

/-- Same code and units (R617). -/
def sameFault (a b : FaultRec) : Bool := a.code == b.code && a.outlets == b.outlets && a.piers == b.piers

/-- A change to the newest record of the same fault in a ring. -/
def onNewest (f : FaultRec → FaultRec) (r : FaultRec) : List FaultRec → List FaultRec
  | [] => []
  | x :: t => if sameFault x r then f x :: t else x :: onNewest f r t

/-- COUNT raised by one, stopping at 255 (R617). -/
def bumpCount (r : FaultRec) : FaultRec := { r with count := satInc 255 r.count }

/-- Response of Class B (R609): each outlet is lowered under R222, each pier receives LOWER and is disarmed once it reports
LOWERED, and checks of the units are abandoned (R655). -/
def State.classB (s : State) (r : FaultRec) : State :=
  let s := forEach (outletBits r.outlets) s (fun s m =>
    (s.modOut m (fun o => { o with lowering := true })).putB (Fld.KST_OUT_CTRL_LOWERING m) true)
  let outs := ((List.range 12).filter (fun k => match s.psoOutlet k with
    | some m => r.outlets.testBit m | none => false)).foldl (fun m k => m + 2 ^ k) 0
  let s := (s.abandonChecks outs).abandonXps r.piers
  { s with prp := { s.prp with bOutlets := s.prp.bOutlets ||| r.outlets,
                               disarm := s.prp.disarm ||| (r.piers &&& 0xFFF) } }.settleDisarm

/-- The fault manager starts to handle a fault: record, event bits, latch and response (R609, R618, R665). -/
def State.startHandling (s : State) (r : FaultRec) : State :=
  let r := { r with latched := r.cls ≤ 2 }
  let s := { s with prp := { s.prp with handling := r :: s.prp.handling } }.writeRec r
  match r.cls with
  | 1 => ({ s with prp := { s.prp with latched := r :: s.prp.latched } }.syncLatch.putB
      Fld.PRP_EVT_FAULT_A true).syncQueue
  | 2 => (({ s with prp := { s.prp with latched := r :: s.prp.latched } }.syncLatch.putB
      Fld.PRP_EVT_FAULT_B true).classB r).syncQueue
  | 3 => { s with prp := { s.prp with irqC := true } }.syncQueue
  | _ => { s with prp := { s.prp with irqD := true } }.syncQueue

/-- Floor of the class table for a code, 4 where the table keeps the default (R611). -/
def State.classFloor (s : State) (code : Nat) : Nat :=
  let c := if code < 64 then s.cfgB 6 (0x4A0 + code) else 0
  if c = 0 then 4 else c

/-- Largest class number in the queue, the least severe. -/
def worstOf (q : List FaultRec) : Nat := q.foldl (fun m r => max m r.cls) 0

/-- The queue without its newest fault of class c. -/
def dropNewest (c : Nat) (q : List FaultRec) : List FaultRec := ((q.reverse).eraseP (fun r => r.cls == c)).reverse

/-- A fault with its record meets the fault manager (R613 to R615, R617). -/
def State.meetManager (s : State) (r : FaultRec) : State :=
  if s.prp.latched.any (sameFault r) || s.prp.queue.any (sameFault r) then
    { s with prp := { s.prp with
      latched := onNewest bumpCount r s.prp.latched
      queue := onNewest bumpCount r s.prp.queue
      ring := if s.prp.latched.any (sameFault r) then onNewest bumpCount r s.prp.ring else s.prp.ring
      pd0Ring := if s.prp.latched.any (sameFault r) then onNewest bumpCount r s.prp.pd0Ring else s.prp.pd0Ring } }
  else match s.prp.handling with
  | [] => s.startHandling r
  | h :: _ =>
    if r.cls < h.cls then s.startHandling r
    else if s.prp.queue.length < 8 then
      { s with prp := { s.prp with queue := s.prp.queue ++ [r] } }.syncQueue
    else if r.cls = 4 then s.inc Fld.PRP_QUEUE_DROPPED
    else if r.cls < worstOf s.prp.queue then
      ({ s with prp := { s.prp with queue := dropNewest (worstOf s.prp.queue) s.prp.queue ++ [r] } }.inc
        Fld.PRP_QUEUE_DROPPED).syncQueue
    else s.assertSafe.startHandling { r with cls := 1, escalated := true }

/-- A fault reaches the Parapet with its default class (R609 to R612): the hardware response of Class A is at once, the fault
manager follows when its pair runs. -/
def State.report (s : State) (code cls src outlets piers : Nat) : State :=
  let c := min cls (s.classFloor code)
  let s := if c = 1 then s.assertSafe else s
  if s.prp.running && !s.prp.doubleHeld then
    let (dt, s) := s.freshBelow (s.periodUs * 1000)
    s.meetManager { time := (s.siteNs + dt) % 2 ^ 64, code := code, cls := c, src := src,
                    outlets := if c = 1 then 0xFF else outlets, piers := if c = 1 then 0xFFF else piers }
  else s

/-- Class numbers of R609. -/
def clsA : Nat := 1
def clsB : Nat := 2
def clsC : Nat := 3
def clsD : Nat := 4

/-- A fault of an outlet, of a pier, and of no unit. -/
def State.reportOutlet (s : State) (code cls src m : Nat) : State := s.report code cls src (2 ^ m) 0
def State.reportPier (s : State) (code cls src n : Nat) : State := s.report code cls src 0 (2 ^ n)
def State.reportNone (s : State) (code cls src : Nat) : State := s.report code cls src 0 0

/-- The queued fault of the highest class, the oldest of it (R614). -/
def nextQueued (q : List FaultRec) : Option FaultRec :=
  let best := q.foldl (fun m r => min m r.cls) 5
  q.find? (fun r => r.cls == best)

/-! ### Causes and clearing -/

/-- Safety input n is still open, or still shows a discrepancy between its channels (R624). -/
def State.inputOpen (s : State) (n : Nat) : Bool := (s.safeIn n).openA || (s.safeIn n).openB

/-- The cause of a latched fault is still present, by what the state holds of it. An event without a state of its own
(a stop by firmware, a trip of a slot) is over at once (log entry 12). -/
def State.causePresent (s : State) (r : FaultRec) : Bool :=
  match r.code with
  | 0x01 => s.inputOpen r.src
  | 0x02 => s.inputOpen r.src
  | 0x03 => s.inputOpen r.src
  | 0x04 => s.inputOpen r.src
  | 0x07 => s.bit (Fld.PRP_IMC_STAT_ALARM r.src)
  | 0x08 => s.bit (Fld.PRP_IMC_STAT_WARN r.src)
  | 0x09 => s.bit (Fld.PRP_IMC_STAT_MFAULT r.src)
  | 0x0B => (List.range 64).any (fun k => s.get (Fld.ARC_XP_STAT_STATE k) = 5 &&
      r.piers.testBit (s.cfgB 9 (0x800 + 16 * k + 1)) &&
      s.bit (Fld.ARC_XP_STAT_AUX k) != (nth {} s.arc.xps k).cmd)
  | 0x0C => s.prp.clkBad || !s.prp.pllLocked
  | 0x0E => s.prp.trussBad
  | 0x11 => s.prp.trips.testBit r.src
  | 0x25 => (pierBits r.piers).any (fun n => (nth {} s.phs.nxt n).short)
  | 0x26 => (List.range 12).any (fun l => s.spanUse l != 0 && r.piers.testBit (s.spanPier l) && (s.link l).bringBad)
  | 0x2A => (outletBits r.outlets).any (fun m => s.bit (Fld.STY_CBL_STAT_OVER m) || (nth {} s.sty m).dead)
  | 0x2E => s.hkp.critical
  | 0x2F => s.hkp.shutdown
  | _ => false

/-- Some cause of a Class A fault is present: of a latched one, or an ESTOP input still open (R636). -/
def State.classACause (s : State) : Bool :=
  s.prp.latched.any (fun r => r.cls == 1 && s.causePresent r) ||
  (List.range 16).any (fun n => s.psiKind n == 1 && (s.safeIn n).demanded && s.inputOpen n)

/-- PRP_PSI.STATE and PRP_PSIF of input n from its record (R622, R623). -/
def State.syncInput (s : State) (n : Nat) : State :=
  let i := s.safeIn n
  let v := if s.psiKind n = 0 then 0 else if i.demanded then (if i.disc || i.pulse then 3 else 2) else 1
  let w := s.get Fld.PRP_PSI_STATE
  let s := s.put Fld.PRP_PSI_STATE (fieldSet w (2 * n) 2 v)
  (s.putBit Fld.PRP_PSIF_DISC n i.disc).putBit Fld.PRP_PSIF_PULSE n i.pulse

/-- What clearing a latched fault releases in its block: an input's demand (R624). -/
def State.releaseCause (s : State) (r : FaultRec) : State :=
  if 1 ≤ r.code && r.code ≤ 4 && r.src < 16 then
    (s.modIn r.src (fun i => { i with demanded := false, disc := false, pulse := false })).syncInput r.src
  else if r.code = 5 || r.code = 6 then s.putBit Fld.PRP_PSOSTAT_FAULT r.src false
  else s

/-- The latched faults that meet `p` and whose cause has gone are cleared (R609, R638): unlatched, their records marked
CLEARED, what they held released. -/
def State.clearFaults (s : State) (p : FaultRec → Bool) : State :=
  let go := s.prp.latched.filter (fun r => p r && !s.causePresent r)
  let keep := s.prp.latched.filter (fun r => !(p r && !s.causePresent r))
  let mark (l : List FaultRec) := go.foldl (fun l r => onNewest (fun x => { x with cleared := true, latched := false }) r l) l
  let s := { s with prp := { s.prp with latched := keep, ring := mark s.prp.ring, pd0Ring := mark s.prp.pd0Ring } }
  (go.foldl State.releaseCause s).syncLatch

/-- An accepted release of the reset button (R636), or its rejection. -/
def State.pressAct (s : State) : State :=
  if s.classACause then
    (s.put Fld.PRP_PRST_REJECTED (s.get Fld.PRP_PRST_REJECTED + 1)).putB Fld.PRP_EVT_PRST_REJ true
  else
    let s := s.clearFaults (fun r => r.cls == 1)
    let s := s.clearFaults (fun r => r.cls == 2)
    let s := { s with prp := { s.prp with pd0A := false, lowerHeld := false, pressed := true } }
    let s := (s.putB Fld.PRP_STAT_APEND false).putB Fld.PRP_STAT_SAFE false
    let s := (s.putB Fld.SPN_BCAST_LOWER false).syncLower
    (s.put Fld.PRP_PRST_ACCEPTED (s.get Fld.PRP_PRST_ACCEPTED + 1)).putB Fld.PRP_EVT_PRST_OK true

/-- The handling in progress ends; a suspended one resumes, else the next queued fault is handled, else a waiting release of
the reset button acts (R613, R614, R637). -/
def State.endHandling (s : State) : State :=
  match s.prp.handling with
  | [] => s
  | _ :: rest =>
    let s := { s with prp := { s.prp with handling := rest } }.syncQueue
    if rest ≠ [] then s
    else match nextQueued s.prp.queue with
    | some r => { s with prp := { s.prp with queue := s.prp.queue.erase r } }.startHandling r
    | none => if s.prp.prstWait then { s with prp := { s.prp with prstWait := false } }.pressAct else s

/-- The lowering of outlet m has completed, or B_OFF_MS has passed: its outputs turn off (R609), and after a completed
lowering EN is cleared (R641). -/
def State.bOff (s : State) (m : Nat) : State :=
  let outs := ((List.range 12).filter (fun k => s.psoOutlet k == some m)).foldl (fun a k => a + 2 ^ k) 0
  { s.outputsOff outs with prp := { (s.outputsOff outs).prp with bOutlets := mset s.prp.bOutlets m false } }

/-- A link of pier n is looped or sends PRBS-31 (R809). -/
def State.testing (s : State) (n : Nat) : Bool :=
  (List.range 12).any (fun l => s.spanUse l != 0 && s.spanPier l == n &&
    (s.bit (Fld.SPN_LINK_CTRL_LOOP l) || s.bit (Fld.SPN_LINK_CTRL_PRBS l)))

/-- R608, R640, R639, R809: pier n meets the conditions of arming. -/
def State.mayArm (s : State) (n : Nat) : Bool :=
  !s.testing n &&
  s.bit Fld.PRP_STAT_START_OK && !s.bit Fld.PRP_STAT_SAFE && !s.bit Fld.PRP_STAT_LATCH_A && !s.prp.pd0A &&
  !s.latchedPier n && s.pierInUse n && s.pierReady n && (!s.bit Fld.PRP_STAT_MANUAL || s.prp.pressed)

end Sys2Proof.Machine
end

