-- ==== Sys2Proof/Machine/Access.lean ====
section
/-! DEFINITION. Access to memory by the masters: the address map, the image's access map, and the bytes of SRAM, DRAM and the
Abutment store (spec/01 R44 to R49, R802; spec/02 R89, R90; spec/17 R710; spec/19 R752). -/

namespace Sys2Proof.Machine

/-- Master numbers of R46 and R47. -/
def masterPylon : Nat := 12
def masterVlk : Nat := 15
def masterCan : Nat := 16

/-- The blocks of R48. -/
inductive Block | rom | abut | sram | truss | reg | dram
deriving DecidableEq, Repr

/-- The block that decodes an address, none where it is unimplemented. -/
def blockOf (a : Nat) : Option Block :=
  if a < 0x20000 then some .rom
  else if 0x08000000 ≤ a ∧ a < 0x08004000 then some .abut
  else if 0x10000000 ≤ a ∧ a < 0x10800000 then some .sram
  else if 0x20000000 ≤ a ∧ a < 0x24000000 then some .truss
  else if 0x40000000 ≤ a ∧ a < 0x40130000 then some .reg
  else if 0x80000000 ≤ a ∧ a < 0x100000000 then some .dram
  else none

/-- Some region of master m covers the n bytes at a with the right needed (R89, R90). -/
def State.mapOk (s : State) (m a n : Nat) (write : Bool) : Bool :=
  (List.range 32).any (fun r =>
    let o := 64 + 512 * m + 16 * r
    let base := s.cfg 5 o 4
    let size := s.cfg 5 (o + 4) 4
    size != 0 && decide (base ≤ a) && decide (a + n ≤ base + size) && (s.cfgB 5 (o + 8)).testBit (if write then 1 else 0))

/-- Some execute region in force overlaps the n bytes at a (R752). -/
def State.inExec (s : State) (a n : Nat) : Bool :=
  (List.range 16).any (fun k =>
    let b := s.get (Fld.PYL_XRGN_BASE k) * 4096
    s.bit (Fld.PYL_XRGN_VALID k) && decide (b < a + n) && decide (a < b + 4096 * s.get (Fld.PYL_XRGN_PAGES k)))

/-- Width and alignment that the block takes (R802). -/
def widthOk (b : Block) (a n : Nat) : Bool :=
  match b with
  | .reg => n == 4 && a % 4 == 0
  | _ => (n == 1 || n == 2 || n == 4 || n == 8) && a % n == 0

/-- Master m may access the hardware areas of the Abutment store: Pylon its resume record, the Parapet pairs the records of
faults, for reading (R710). -/
def abutOk (m a n : Nat) (write : Bool) : Bool :=
  decide (0x08001000 ≤ a) || (!write &&
    ((m == 12 && decide (0x08000800 ≤ a ∧ a + n ≤ 0x08000900)) ||
     ((m == 4 || m == 5) && decide (0x08000900 ≤ a ∧ a + n ≤ 0x08000A00))))

/-- An access of n bytes at a by master m is allowed (R44, R45, R49, R90, R710, R752, R802). Two points are the model's choice (DESIGN
CHOICE, log entry 83): a write to the boot ROM that the access map allows is a forbidden access, as R49 has it for the Truss window; and
the addresses 0x4000024C to 0x400002FC between CWY_VIOLn and CWY_VADDRn, where no register is, are kept from the other masters with
them. -/
def State.accessOk (s : State) (m a n : Nat) (write : Bool) : Bool :=
  match blockOf a with
  | none => false
  | some b =>
    widthOk b a n && s.mapOk m a n write && !(write && s.inExec a n) &&
    (match b with
     | .abut => abutOk m a n write
     | .truss => !write
     | .rom => !write
     | .reg => write || !(decide (0x40000200 ≤ a ∧ a < 0x4000034C)) || m == 4 || m == 5 || m == 12
     | _ => true)

/-- Canonical form of a memory: addresses rise strictly and no entry is a byte of 0, which is what an unlisted address reads as. -/
def Memory.wf (l : List Host.Cell) : Bool := swf (fun _ => 0) l

/-- Byte of memory at an address of SRAM, DRAM or the firmware area. -/
def State.memB (s : State) (a : Nat) : Byte := sget (0 : Byte) s.mem a
def State.setMemB (s : State) (a : Nat) (b : Byte) : State := { s with mem := sset (0 : Byte) s.mem a b }

/-- The n bytes from address a. -/
def State.memBytes (s : State) (a n : Nat) : List Byte := (List.range n).map (fun i => s.memB (a + i))
/-- A byte string written from address a. -/
def State.setMem (s : State) (a : Nat) : List Byte → State
  | [] => s
  | b :: t => State.setMem (s.setMemB a b) (a + 1) t

/-- Little-endian number of n bytes at a. -/
def State.memLE (s : State) (a n : Nat) : Nat := ofLE (s.memBytes a n)

/-- The bytes lie whole in SRAM, in DRAM or in the Abutment's firmware area. -/
def ramRange (a n : Nat) : Bool :=
  decide (0x10000000 ≤ a ∧ a + n ≤ 0x10800000) || decide (0x80000000 ≤ a ∧ a + n ≤ 0x100000000) ||
  decide (0x08001000 ≤ a ∧ a + n ≤ 0x08004000)

/-- A byte of memory as it is read: boot ROM, Truss read-back window (R81), SRAM, DRAM and firmware area. -/
def State.readB (s : State) (a : Nat) : Nat :=
  match blockOf a with
  | some .rom => (nth 0 Config.bootRom a).toNat
  | some .truss => if s.isSealed ∧ a < 0x20000000 + 3932160 then s.cfgB 1 (a - 0x20000000) else 0
  | _ => (s.memB a).toNat

/-- The n bytes that a read from address a gives. -/
def State.readBytes (s : State) (a n : Nat) : List Byte :=
  if ramRange a n then s.memBytes a n else (List.range n).map (fun i => BitVec.ofNat 8 (s.readB (a + i)))

/-- The bytes lie whole in the boot ROM or in the Truss read-back window, which only a read reaches (R49). -/
def readRange (a n : Nat) : Bool := decide (a + n ≤ 0x20000) || decide (0x20000000 ≤ a ∧ a + n ≤ 0x24000000)

/-- A DMA of n bytes at a by master m is allowed (R44, R90, R752). -/
def State.dmaOk (s : State) (m a n : Nat) (write : Bool) : Bool :=
  (ramRange a n || (!write && readRange a n)) && s.mapOk m a n write && !(write && s.inExec a n)

/-- A DMA master reads n bytes: zeros, and one forbidden access, where the access map forbids it (R44). -/
def State.dmaRead (s : State) (m : Master) (a n : Nat) : List Byte × State :=
  if s.dmaOk m a n false then (s.readBytes a n, s) else (List.replicate n 0, s.violate m a)

/-- A DMA master writes a byte string. -/
def State.dmaWrite (s : State) (m : Master) (a : Nat) (l : List Byte) : State :=
  if s.dmaOk m a l.length true then s.setMem a l else s.violate m a

end Sys2Proof.Machine
end

