-- ==== Sys2Proof/Machine/Trestle.lean ====
section
/-! DEFINITION. The sixteen protected switches (spec/16, R666 to R696). -/

namespace Sys2Proof.Machine

def State.chan (s : State) (n : Nat) : Channel := nth {} s.trs.chans n
def State.modChan (s : State) (n : Nat) (f : Channel → Channel) : State :=
  { s with trs := { s.trs with chans := updAt s.trs.chans n f } }

def State.setChans (s : State) (l : List Channel) : State := { s with trs := { s.trs with chans := l } }

/-- The Stay block and actuator (0 pump, 1 fan, 2 valve) that name channel n (R484, R669). -/
def State.trsOwner (s : State) (n : Nat) : Option (Nat × Nat) :=
  (List.range 24).findSome? (fun i =>
    if s.cfgB 0x0A (512 * (i / 3)) % 2 = 1 ∧ s.cfgB 0x0A (512 * (i / 3) + 1 + i % 3) = n then some (i / 3, i % 3) else none)

/-- Leader of channel n, itself outside a group (R673). -/
def State.trsLeader (s : State) (n : Nat) : Nat :=
  if s.bit (Fld.TRS_CH_CFG_IN_USE n) && s.get (Fld.TRS_CH_CFG_GROUP n) < 16 then s.get (Fld.TRS_CH_CFG_GROUP n) else n

/-- Channels that take the commands of leader l. -/
def State.trsMembers (s : State) (l : Nat) : List Nat :=
  (List.range 16).filter (fun n => s.bit (Fld.TRS_CH_CFG_IN_USE n) && s.trsLeader n == l)

/-- The duty commanded to leader l (R669, R670). -/
def State.trsWant (s : State) (l : Nat) : Nat :=
  match s.trsOwner l with
  | some (b, 0) => s.get (Fld.STY_CBL_DUTY_PUMP b)
  | some (b, 1) => s.get (Fld.STY_CBL_DUTY_FAN b)
  | some (b, _) => if s.bit (Fld.STY_CBL_DUTY_VALVE b) then 255 else 0
  | none => if s.bit (Fld.TRS_CH_CTRL_ON l) then s.get (Fld.TRS_CH_CTRL_DUTY l) else 0

/-- Channel n is held off by its own protection (R679). -/
def State.trsHeldOff (s : State) (n : Nat) : Bool :=
  (s.chan n).latched || (s.chan n).therm || (s.chan n).burst

/-- STATE of channel n (R678), members of a group turning off together (R673). -/
def State.trsState (s : State) (n : Nat) : Nat :=
  let c := s.chan n
  if c.latched then 4 else if c.therm then 3 else if c.burst then 2
  else match c.hold with
    | some b => if b then 1 else 0
    | none =>
      if s.bit (Fld.TRS_CH_CFG_IN_USE n) && c.duty != 0 && !(s.trsMembers (s.trsLeader n)).any s.trsHeldOff then 1 else 0

/-- Duty that channel n delivers, /255 (R669, R671, R690). -/
def State.trsDelivered (s : State) (n : Nat) : Nat :=
  if s.get (Fld.TRS_CH_STAT_STATE n) = 1 then
    if (s.chan n).hold = some true || s.get (Fld.TRS_CH_CFG_PWM_F n) = 0 then 255 else (s.chan n).duty
  else 0

/-- STATE of channel n takes its new value; an off channel reads no current and limits none (R682). -/
def State.trsSettle1 (s : State) (n : Nat) : State :=
  let st := s.trsState n
  let s := s.put (Fld.TRS_CH_STAT_STATE n) st
  if st = 1 then s
  else ((((s.putB (Fld.TRS_CH_STAT_LIMIT n) false).put (Fld.TRS_CH_CUR_ION n) 0).put (Fld.TRS_CH_CUR_IMEAS n) 0).putB
    (Fld.TRS_CH_STAT_RANGE n) false).modChan n (fun c => { c with samples := [], ua := 0 })

/-- Channel n and the rest of its group settle. -/
def State.trsSettle (s : State) (n : Nat) : State :=
  forEach (s.trsMembers (s.trsLeader n)) (s.trsSettle1 n) State.trsSettle1

/-- The command of leader l reaches its members (R669, R672, R673, R676). -/
def State.trsCommand (s : State) (l : Nat) : State :=
  let w := s.trsWant l
  let s := forEach (s.trsMembers l) s (fun s n =>
    let fixed := s.get (Fld.TRS_CH_CFG_PWM_F n) == 0
    let s := s.modChan n (fun c => { c with want := w, duty := if w = 0 || fixed then w else c.duty,
                                            burst := c.burst && w != 0 })
    if w = 0 then s.put (Fld.TRS_CH_STAT_BURST_CNT n) 0 else s)
  s.trsSettle l

/-- A write of TRS_CHn_CTRL: a Stay-owned channel and a group member ignore it (R669, R673). -/
def State.wrTrsCtrl (s : State) (n v : Nat) : State :=
  if (s.trsOwner n).isSome || s.trsLeader n != n then s
  else ((s.writeByCode (Reg.TRS_CH_CTRL n) v).putB (Fld.TRS_CH_STAT_HELD n) false).trsCommand n

/-- The protection of channel n turns it off into LATCHED, with a FAULT bit. -/
def State.trsLatch (s : State) (n : Nat) (f : FieldRef) : State :=
  ((s.putB f true).modChan n (fun c => { c with latched := true })).trsSettle n

/-- R672: a PWM period of channel n starts, and the commanded duty comes into force. -/
def execPwmPeriodStart (n : Fin 16) (s : State) : Host.Outcome State Fault Refusal :=
  .next (if s.get (Fld.TRS_CH_CFG_PWM_F n) = 0 then s
    else (s.modChan n (fun c => { c with duty := c.want })).trsSettle n)

/-- R674, R675: the limit has acted for ILIM_US without a break. During a hold no ILIM_US runs (R691). -/
def execCurrentLimitExpiry (n : Fin 16) (s : State) : Host.Outcome State Fault Refusal :=
  .next (if s.get (Fld.TRS_CH_STAT_STATE n) ≠ 1 || (s.chan n).hold.isSome then s
    else
      let k := s.get (Fld.TRS_CH_CFG_BURST_N n)
      if k = 0 then s.trsLatch n (Fld.TRS_CH_FAULT_OVERLOAD n)
      else if k ≤ s.get (Fld.TRS_CH_STAT_BURST_CNT n) then
        (s.trsLatch n (Fld.TRS_CH_FAULT_BURST n)).modChan n (fun c => { c with burst := false })
      else (s.modChan n (fun c => { c with burst := true })).trsSettle n)

/-- R675, R678: BURST_GAP_MS has ended; it runs in BURST_WAIT alone. -/
def execBurstRestart (n : Fin 16) (s : State) : Host.Outcome State Fault Refusal :=
  .next (if s.get (Fld.TRS_CH_STAT_STATE n) ≠ 2 then s
    else (((s.inc (Fld.TRS_CH_STAT_BURST_CNT n)).inc (Fld.TRS_CH_CNT_RESTARTS n)).modChan n (fun c =>
      { c with burst := false })).trsSettle n)

/-- R676: on for 100 ms with no current limit. -/
def execBurstEnd (n : Fin 16) (s : State) : Host.Outcome State Fault Refusal :=
  .next (if s.get (Fld.TRS_CH_STAT_STATE n) = 1 then s.put (Fld.TRS_CH_STAT_BURST_CNT n) 0 else s)

/-- R677, R678, R691: the junction reaches the shutdown temperature. -/
def execThermalShutdown (n : Fin 16) (s : State) : Host.Outcome State Fault Refusal :=
  .next (if (s.chan n).hot then s
    else
      let c := s.chan n
      let ts := if c.hold.isSome then c.therms
        else s.siteNs :: c.therms.filter (fun t => decide (s.siteNs - t ≤ 10000000000))
      let latch := if c.hold.isSome then c.holdLatch
        else s.bit (Fld.TRS_CH_CFG_THERM_LATCH n) || decide (s.get (Fld.TRS_CH_PROT_THERM_N n) < ts.length)
      let s := (s.inc (Fld.TRS_CH_CNT_THERMAL n)).modChan n (fun c => { c with hot := true, therms := ts })
      if latch then
        ((s.put (Fld.TRS_CH_STAT_BURST_CNT n) 0).modChan n (fun c => { c with burst := false })).trsLatch n
          (Fld.TRS_CH_FAULT_THERM n)
      else ((s.putB (Fld.TRS_CH_FAULT_THERM n) true).modChan n (fun c => { c with therm := true })).trsSettle n)

/-- R677, R678: the junction falls below the restart temperature; a burst's gap starts again in full. -/
def execThermalRestart (n : Fin 16) (s : State) : Host.Outcome State Fault Refusal :=
  .next ((s.modChan n (fun c => { c with hot := false, therm := false })).trsSettle n)

/-- A write of TRS_CHn_FAULT (R680): what is cleared leaves LATCHED, but for THERM on a hot junction. -/
def State.wrTrsFault (s : State) (n v : Nat) : State :=
  let old := s.reg (Reg.TRS_CH_FAULT n)
  let hot := (s.chan n).hot && old.testBit 2
  let v := if hot then mset v 2 false else v
  let s := s.writeByCode (Reg.TRS_CH_FAULT n) v
  if old &&& v = 0 || hot then s
  else if (s.chan n).latched then
    ((s.put (Fld.TRS_CH_STAT_BURST_CNT n) 0).modChan n (fun c => { c with latched := false, burst := false })).trsSettle n
  else s

/-- Length of a PWM period in µs by PWM_F (R671); 0 static. -/
def pwmUs (f : Nat) : Nat := nth 0 [0, 5000, 1000, 200, 50, 40] f

/-- The on-time of channel n gives samples (R682). -/
def State.trsSampled (s : State) (n : Nat) : Bool :=
  let d := s.trsDelivered n
  d == 255 || decide (10 * 255 ≤ d * pwmUs (s.get (Fld.TRS_CH_CFG_PWM_F n)))

/-- ION of channel n in mA. -/
def State.trsIon (s : State) (n : Nat) : Rat :=
  (s.get (Fld.TRS_CH_CUR_ION n) : Rat) / (if s.bit (Fld.TRS_CH_CFG_LOWRANGE n) then 10 else 1)

/-- Its mean load current in mA (R682). -/
def State.trsMean (s : State) (n : Nat) : Rat := s.trsIon n * s.trsDelivered n / 255

/-- The update of every 1 ms: IMEAS, a leader's being the group's sum, and the conduction loss (R682). -/
def State.trsMeasure (s : State) (n : Nat) : State :=
  let one (s : State) (n : Nat) : State :=
    let l := if s.trsLeader n = n then s.trsMembers n else [n]
    s.putU (Fld.TRS_CH_CUR_IMEAS n) (roundFree ((l.map s.trsMean).foldl (· + ·) 0))
  let s := one (one s n) (s.trsLeader n)
  s.putU Fld.TRS_SUPPLY_LOSS (roundFree (((List.range 16).map (fun n =>
    s.trsIon n * s.trsIon n / 1000000 * s.trsDelivered n / 255 * 12)).foldl (· + ·) 0))

/-- R674, R682, R683: the converter samples channel n at `ua` µA; `limiting`: the current limit acts; `ms`: the 1 ms update
falls on this sample. -/
def execDiagnosisSample (n : Fin 16) (ua : Nat) (limiting ms : Bool) (s : State) : Host.Outcome State Fault Refusal :=
  .next (if s.get (Fld.TRS_CH_STAT_STATE n) ≠ 1 then s
    else
      let s := (s.putB (Fld.TRS_CH_STAT_LIMIT n) limiting).modChan n (fun c => { c with ua := ua })
      if s.bit Fld.TRS_SUPPLY_DUMP || !s.trsSampled n then s
      else
        let low := s.bit (Fld.TRS_CH_CFG_LOWRANGE n)
        let code := if low then (if 200000 < ua then 2000 else (roundFree ((ua : Rat) / 100)).toNat)
          else min 12000 (10 * (roundFree ((ua : Rat) / 10000)).toNat)
        let s := s.putB (Fld.TRS_CH_STAT_RANGE n) (low && decide (200000 < ua))
        let l := (code :: (s.chan n).samples).take 8
        let s := s.modChan n (fun c => { c with samples := l })
        let ion := if low && decide (200000 < ua) then 2000 else (roundFree ((l.sum : Rat) / l.length)).toNat
        let s := s.put (Fld.TRS_CH_CUR_ION n) ion
        if ms then s.trsMeasure n else s)

/-- R684: ION has lain below OL_THRESH for OL_MS. -/
def execOpenLoad (n : Fin 16) (s : State) : Host.Outcome State Fault Refusal :=
  .next (if s.get (Fld.TRS_CH_STAT_STATE n) = 1 && s.trsSampled n && decide (s.trsIon n < s.get (Fld.TRS_CH_OL_OL_THRESH n))
    then s.putB (Fld.TRS_CH_FAULT_OPEN n) true else s)

/-- R685: the output has stayed above 4 V for 10 ms under the test current. -/
def execOffStateTest (n : Fin 16) (s : State) : Host.Outcome State Fault Refusal :=
  .next (if s.bit (Fld.TRS_CH_CFG_OFFDIAG n) && s.get (Fld.TRS_CH_STAT_STATE n) != 1
    then s.putB (Fld.TRS_CH_FAULT_OFF_HIGH n) true else s)

/-- R690: KA_HOLD_S has passed during the hold of channel n. -/
def execKeepAliveExpiry (n : Fin 16) (s : State) : Host.Outcome State Fault Refusal :=
  .next (if (s.chan n).hold.isNone then s
    else ((s.putB (Fld.TRS_CH_FAULT_KA_EXP n) true).modChan n (fun c => { c with hold := none, want := 0, duty := 0 })).trsSettle n)

/-- R686: the SEL pins take a new value. -/
def execSnsSelect (sel : Fin 16) (s : State) : Host.Outcome State Fault Refusal :=
  .next { s with trs := { s.trs with sel := sel } }

/-- Current that SNS sources, in nA (R686). -/
def State.snsNanoAmps (s : State) : Nat :=
  match s.get (Fld.TRS_CH_STAT_STATE s.trs.sel) with
  | 1 => (s.chan s.trs.sel).ua * 1000 / 2000
  | 4 => 6000000
  | _ => 0

/-- R688: VIN rises above 60 V, or falls back below it. -/
def execLoadDump (above : Bool) (s : State) : Host.Outcome State Fault Refusal :=
  .next (
    let s := s.putB Fld.TRS_SUPPLY_DUMP above
    let s := if above then s.putB Fld.TRS_SUPPLY_DUMP_SEEN true else s
    forEach (List.range 16) s (fun s n => s.putB (Fld.TRS_CH_STAT_DUMP n) above))

/-! ### Resets and the seal -/

/-- A channel that turns off; the Trestle control lies in PD0 and keeps what its protection has latched (R704, R709; log entry 82). -/
def Channel.off (c : Channel) : Channel := { c with hold := none, want := 0, duty := 0, burst := false, samples := [], ua := 0 }

/-- A warm reset is asserted (R690): what each channel holds from here on. -/
def State.trsWarm (s : State) : List Channel :=
  (List.range 16).map (fun n =>
    let c := s.chan n
    if s.bit (Fld.TRS_CH_CFG_KEEP_ALIVE n) then
      { c with hold := some (s.get (Fld.TRS_CH_STAT_STATE n) == 1), holdLatch := s.bit (Fld.TRS_CH_CFG_THERM_LATCH n),
               therms := [], samples := [], burst := false }
    else if c.hold.isSome then c else c.off)

/-- Every channel is off: VIN has failed (R688). -/
def State.trsOff (s : State) : List Channel := s.trs.chans.map Channel.off

/-- The channels of a reset show their state: a held one STATE ON, the others off with no restarts counted (R690). -/
def State.trsShow (s : State) : State :=
  forEach (List.range 16) s (fun s n =>
    let s := (s.putB (Fld.TRS_CH_STAT_HELD n) false).trsSettle1 n
    if (s.chan n).hold.isSome then s else s.put (Fld.TRS_CH_STAT_BURST_CNT n) 0)

/-- Every slot was refused: held channels turn off (R75, R690). -/
def State.trsRefuse (s : State) : State :=
  forEach (List.range 16) s (fun s n =>
    (s.modChan n (fun c => { c with hold := none, want := 0, duty := 0 })).trsSettle1 n)

/-- The TRESTLE section configures the channels (R693, R695). -/
def State.trsConfig (s : State) : State :=
  forEach (List.range 16) s (fun s n =>
    let b (o : Nat) := s.cfgB 7 (64 * n + o)
    let fl := b 0
    let s := ((s.put (Fld.TRS_CH_CFG_GROUP n) (b 1)).put (Fld.TRS_CH_CFG_BURST_N n) (b 2)).put (Fld.TRS_CH_CFG_PWM_F n) (b 3)
    let s := (((s.putB (Fld.TRS_CH_CFG_OFFDIAG n) (fl.testBit 4)).putB (Fld.TRS_CH_CFG_THERM_LATCH n) (fl.testBit 3)).putB
      (Fld.TRS_CH_CFG_LOWRANGE n) (fl.testBit 2)).putB (Fld.TRS_CH_CFG_KEEP_ALIVE n) (fl.testBit 1)
    let s := (s.putB (Fld.TRS_CH_CFG_IN_USE n) (fl.testBit 0)).put (Fld.TRS_CH_PROT_ILIM_US n) (s.cfg 7 (64 * n + 4) 2)
    let s := (s.put (Fld.TRS_CH_PROT_BURST_GAP_MS n) (b 6)).put (Fld.TRS_CH_PROT_THERM_N n) (b 7)
    let s := (s.put (Fld.TRS_CH_OL_OL_MS n) (s.cfg 7 (64 * n + 0xA) 2)).put (Fld.TRS_CH_OL_OL_THRESH n) (s.cfg 7 (64 * n + 8) 2)
    (s.put (Fld.TRS_CH_KA_KA_HOLD_S n) (s.cfg 7 (64 * n + 0xC) 2)).put (Reg.TRS_CH_CTRL n |> fun a => ⟨a, 0, 32⟩)
      (b 0xF * 2 ^ 24 + b 0xE % 2))

/-- The seal (R690, R692). -/
def State.trsSeal (s : State) : State :=
  let s := forEach (List.range 16) s (fun s n =>
    let on := (s.chan n).hold == some true && s.bit (Fld.TRS_CH_CFG_KEEP_ALIVE n)
    let s := s.modChan n (fun c => { c with hold := none, want := if on then 255 else 0, duty := if on then 255 else 0 })
    if on then ((s.putB (Fld.TRS_CH_STAT_HELD n) true).put (Fld.TRS_CH_CTRL_DUTY n) 255).putB (Fld.TRS_CH_CTRL_ON n) true
    else s)
  forEach (List.range 16) s (fun s n =>
    if s.bit (Fld.TRS_CH_STAT_HELD n) then s.trsSettle1 n
    else if s.trsLeader n = n && !(s.trsMembers n).any (fun k => s.bit (Fld.TRS_CH_STAT_HELD k)) then s.trsCommand n else s)

end Sys2Proof.Machine
end

