-- ==== Sys2Proof/Machine/Reset.lean ====
section
/-! DEFINITION. What a reset and a domain that turns off leave (spec/17; spec/00 R10; spec/02 R78). -/

namespace Sys2Proof.Machine

/-- Registers whose content lies in fuses (R743, R763, R764). -/
def isFuse (a : Nat) : Bool := a == Reg.PYL_KFUSE || (Reg.PYL_CTR 0 ≤ a && a < Reg.PYL_CTR 16) || a == Reg.PYL_STAT

/-- The register file with the registers of `p`; the others take their reset values. -/
def State.keepRegs (s : State) (p : Nat → Bool) : State := { s with regs := s.regs.filter (fun x => p x.1) }

/-- PD3, PD6, PD7 and PD9 lose their state (R704). -/
def State.clearEngines (s : State) : State :=
  { s with ports := [], truss := {}, spn := { nodes := s.spn.nodes }, phs := {}, kst := {}, arc := {}, grd := List.replicate 2 {}, mods := List.replicate 8 {}
           sty := List.replicate 8 {}, vlk := List.replicate 8 {}, can := List.replicate 4 {} }

/-- What the sections of an image have loaded is gone. -/
def State.unload (s : State) : State := { s.clearEngines with img := [], secLen := [], periodUs := 0 }

/-- Fuses of Pylon; everything else of it is volatile. -/
def Pylon.fuses (p : Pylon) : Pylon := { serial := p.serial, secret := p.secret, hashes := p.hashes, lcNext := p.lcNext }

/-- A fresh authorisation nonce (R767). -/
def State.newNonce (s : State) : State :=
  forEach (List.range 8) s (fun s w => (s.fresh 32).2.put (Fld.PYL_NONCE_WORD w) (s.fresh 32).1)

/-- Units and memory outside PD0 at a reset: Parapet and the channels as given, the fuses of Pylon, the store and the billing time. -/
def State.restartUnits (s : State) (prp : Parapet) (chans : List Channel) : State :=
  { s with
    siteNs := 0, siteFrac := 0, load := {}, cwy := {}, hkp := {}, prp := prp, pyl := s.pyl.fuses
    mem := s.mem.filter (fun c => c.1 < 0x08004000)
    tol := { book := s.tol.book, bill := s.tol.bill, eb := s.tol.eb }
    trs := { s.trs with chans := chans } }

/-- Registers that a reset sets: the lifecycle, ROLE, the power request and the watchdog. -/
def State.restartRegs (s : State) (shut : Bool) : State :=
  let s := (s.setReg Reg.PYL_STAT 0).put Fld.PYL_STAT_LIFECYCLE s.pyl.lcNext
  let s := (s.putB Fld.HKP_TSTAT_SHUT_PREV shut).put Fld.ABT_ROLE_ROLE 0
  let s := ((s.putB Fld.ABT_PSSTAT_BUSY false).putB Fld.ABT_PSSTAT_PEND false).put Fld.ABT_PSSTAT_PENDING 0
  (s.put Fld.ABT_PSSTAT_STEP 0).putB Fld.ABT_WDOG_EN false

/-- No power request is in progress, and the watchdog's window starts. -/
def State.dropRequest (s : State) : State := { s with pwr := { s.pwr with wakeSeen := false, target := 0, wdHalf := false, heldTx := [] } }

/-- Registers of PD0: the Abutment's and the Trestle control's (R704). -/
def isPd0 (a : Nat) : Bool := a / 0x10000 == 0x4001 || a / 0x10000 == 0x400F

/-- Every domain except PD0 is reset (R10, R78, R643, R644, R690, R703, R765); `warm` while VIN and ground are good. -/
def State.restart (s : State) (warm : Bool) : State :=
  let p := s.prp
  let prp : Parapet := {
    pd0A := p.pd0A || s.bit Fld.PRP_STAT_SAFE || s.bit Fld.PRP_STAT_LATCH_A, pd0Double := p.pd0Double
    pd0Armed := if p.running then s.get Fld.PRP_ARMED_PIERS else p.pd0Armed, pd0Ring := p.pd0Ring }
  let u := (s.keepRegs (fun a => isPd0 a || isFuse a)).unload
  let u := u.restartUnits prp (if warm then s.trsWarm else s.trsOff)
  (u.restartRegs (s.bit Fld.HKP_TSTAT_SHUT_PREV)).trsShow.newNonce.dropRequest

/-- Domains off but PD0: the device is in OFF (R702, R738). -/
def State.allOff (s : State) : State := { s with pwr := { s.pwr with st := .off, domains := 1 } }

/-- R738: after a junction shutdown the domains turn off once OUT_DELAY has run and the last gasp has ended. -/
def State.shutOff (s : State) : State :=
  if s.pwr.shutLatch && s.pwr.st != .off && !s.prp.outDelay && s.tol.lgRun.isNone then (s.restart false).allOff else s

end Sys2Proof.Machine
end

