-- ==== Sys2Proof/Machine/Parapet.lean ====
section
/-! DEFINITION. Parapet commands: safety inputs and outputs, the reset button, arming, insulation, contactor checks
(spec/15). -/

namespace Sys2Proof.Machine

/-- An outcome that goes on. -/
abbrev Out := Host.Outcome State Fault Refusal

/-! ### Safety inputs -/

/-- CLASS, OUTLETS and PIERS of input n (R661). -/
def State.psiCls (s : State) (n : Nat) : Nat := s.cfgB 6 (0x41 + 16 * n)
def State.psiOutlets (s : State) (n : Nat) : Nat := s.par (0x48 + 16 * n) 2
def State.psiPiers (s : State) (n : Nat) : Nat := s.par (0x4A + 16 * n) 2

/-- An event of input n goes to the fault manager: code 0x01 and Class A for an ESTOP input, else the code with the input's
class and units (R610, R625). -/
def State.reportInput (s : State) (n code : Nat) : State :=
  if s.psiKind n = 1 then s.report 0x01 clsA n 0xFF 0xFFF
  else s.report code (s.psiCls n) n (s.psiOutlets n) (s.psiPiers n)

/-- Input n shows a change, and what it means for the demand state (R622 to R626). -/
def State.setInput (s : State) (n : Nat) (i : SafeIn) : State :=
  let old := s.safeIn n
  let s := (s.modIn n (fun _ => i)).syncInput n
  let s := if old = i then s else s.putB Fld.PRP_EVT_INPUT true
  if i.demanded && !old.demanded then s.reportInput n 0x02 else s

/-- An input fault: a discrepancy or a test-pulse failure makes the input demanded (R623). -/
def State.inputFault (s : State) (n code : Nat) (f : SafeIn → SafeIn) : State :=
  let i := { f (s.safeIn n) with demanded := true }
  ((s.modIn n (fun _ => i)).syncInput n |>.putB Fld.PRP_EVT_INPUT true).reportInput n code

/-- A channel's level is accepted as open or closed past its filter (R621, R622); blanked while its test-pulse output is
low (R620). -/
def State.inputChannel (s : State) (n : Nat) (b level : Bool) : State :=
  let ptp := s.cfgB 6 (0x43 + 16 * n + (if b then 1 else 0))
  if s.psiKind n = 0 ∨ s.prp.ptpLow = some ptp then s
  else
    let equiv := s.cfgB 6 (0x42 + 16 * n) == 1
    let opened := if b && equiv then level else !level
    let i := s.safeIn n
    let i := if b then { i with openB := opened } else { i with openA := opened }
    s.setInput n { i with demanded := i.demanded || opened }

def execSafetyInputChannel (n : Fin 16) (b level : Bool) (s : State) : Out := .next (s.inputChannel n b level)

/-- R623: the channels still differ when DISC_MS has passed. -/
def execDiscrepancyTimeout (n : Fin 16) (s : State) : Out :=
  let i := s.safeIn n
  .next (if s.psiKind n ≠ 0 ∧ i.openA ≠ i.openB then s.inputFault n 0x03 (fun i => { i with disc := true }) else s)

/-- R619: at most one test-pulse output is low. -/
def execTestPulse (k : Fin 8) (s : State) : Out :=
  .next (if s.cfgB 6 (0x140 + 8 * k) = 1 ∧ s.prp.ptpLow = none then { s with prp := { s.prp with ptpLow := some k.val } }
    else s)

/-- R620: the low time of output k ends; `failA`, `failB` name the channels that did not read 0 (R782: all of them
while the high level is below 12 V). -/
def execTestPulseEnd (k : Fin 8) (failA failB : BitVec 16) (s : State) : Out :=
  .next (if s.prp.ptpLow = some k.val then
    let s := { s with prp := { s.prp with ptpLow := none } }
    forEach (List.range 16) s (fun s n =>
      if s.psiKind n ≠ 0 ∧ ((s.cfgB 6 (0x43 + 16 * n) = k.val ∧ failA.toNat.testBit n) ∨
          (s.cfgB 6 (0x44 + 16 * n) = k.val ∧ failB.toNat.testBit n)) then
        s.inputFault n 0x04 (fun i => { i with pulse := true })
      else s)
  else s)

/-! ### Safe state and fault manager -/

/-- R606, R144, R146. -/
def execSafeStateAssert (s : State) : Out := .next s.assertSafe

/-- R606: outputs off, piers disarmed, outlets disabled. -/
def State.outDelayEnd (s : State) : State :=
  let (t, s) := s.fresh 16
  let s := { s with prp := { s.prp with outDelay := false, bOutlets := 0, disarm := 0 } }
  let s := (s.outputsOff 0xFFF).put Fld.PRP_PSO_REQ 0
  let s := (s.setArmed 0).put Fld.PRP_RTIME_OUTS t
  forEach (List.range 8) s (fun s m => s.putB (Fld.KST_OUT_CTRL_EN m) false)

def execOutDelayExpiry (s : State) : Out := .next (if s.prp.outDelay then s.outDelayEnd.shutOff else s)

/-- Pair 0 runs the handler of a Class A fault. -/
def State.handlesA (s : State) : Bool := (s.prp.handling.head?.map FaultRec.cls) == some 1

/-- A double fault: the pairs are held in reset, the event and the Class A flag go to PD0 (R616). -/
def State.doubleFault (s : State) : State :=
  { s.assertSafe with prp := { s.assertSafe.prp with doubleHeld := true, pd0Double := true, pd0A := true } }

/-- R604, R605: code 0x0D; a double fault while pair 0 handles a Class A fault (R616). -/
def execLockstepMismatch (pair : Fin 2) (s : State) : Out :=
  .next (if s.handlesA then s.doubleFault else s.report 0x0D clsA pair 0xFF 0xFFF)
/-- R605: code 0x0D. -/
def execHeartbeatLoss (pair : Fin 2) (s : State) : Out := .next (s.report 0x0D clsA pair 0xFF 0xFFF)

/-- R605, R661: a trip port rises, and its entry's class, outlets and piers apply; or it falls. -/
def execTrussTripPort (k : Fin 16) (level : Bool) (s : State) : Out :=
  let o := 0x420 + 8 * k.val
  let rise := level && !s.prp.trips.testBit k
  let s := { s with prp := { s.prp with trips := mset s.prp.trips k level } }
  .next (if rise ∧ s.cfgB 6 (o + 6) = 1 then
    s.report 0x11 (s.cfgB 6 (o + 2)) k (s.cfgB 6 (o + 3)) (s.par (o + 4) 2) else s)

/-- R25: ECC has corrected `fixed` errors since the last report, which are counted; the cells `bad` of SRAM, DRAM and the Abutment store
hold data that it could not correct, which is what a read of them returns. -/
def State.eccFound (s : State) (fixed : Nat) (bad : List Host.Cell) : State :=
  let s := { s with cwy := { s.cwy with eccCount := s.cwy.eccCount + fixed } }
  bad.foldl (fun s c => if ramRange c.1 1 then s.setMemB c.1 c.2 else s) s

/-- R609 to R617; R25: the errors of memory corrected, and with code 0x0F the cells that it concerns. -/
def execFaultReport (code : Fin 64) (cls : Fin 4) (src : Fin 256) (units : FaultUnits) (ecc : EccNote) (s : State) : Out :=
  .next ((s.eccFound ecc.fixed (if code = 0x0F then ecc.bad else [])).report code (cls.val + 1) src units.outlets.toNat units.piers.toNat)

/-- R613, R614, R637. -/
def execFaultHandlingEnd (s : State) : Out := .next s.endHandling

/-- R616: only while pair 0 runs the handler of a Class A fault; the event and the Class A flag go to PD0. -/
def execDoubleFault (s : State) : Out :=
  .next (if s.handlesA then s.doubleFault else s)

/-- R609, R641: EN of the outlet is cleared, its outputs turn off, and its piers receive LOWER (R222). -/
def execClassBLoweringDone (o : Fin 8) (s : State) : Out :=
  .next (if (s.out o).lowering then
    let s := (s.putB (Fld.KST_OUT_CTRL_EN o) false).putB (Fld.KST_OUT_CTRL_LOWERING o) false
    let s := s.modOut o (fun x => { x with lowering := false, lowerPiers := true, ref := 0, ref1 := 0 })
    (s.bOff o).syncLower.settleDisarm
  else s)

/-- R609: B_OFF_MS passes before the lowering has completed. -/
def execBOffExpiry (o : Fin 8) (s : State) : Out := .next (if s.prp.bOutlets.testBit o then s.bOff o else s)

/-! ### Reset button -/

/-- R634 to R637: the debounced opening of PRST after `ms` ms. -/
def execPrstPress (ms : Nat) (s : State) : Out :=
  let s := s.put Fld.PRP_PRST_LAST_MS (min ms 8191)
  .next (if s.prp.stuckHeld then
      ({ s with prp := { s.prp with stuckHeld := false } }).putB Fld.PRP_STAT_PRST_STUCK false
    else if ms < 50 ∨ 5000 < ms ∨ s.prp.doubleHeld ∨ !s.prp.running then s
    else if s.prp.handling ≠ [] then { s with prp := { s.prp with prstWait := true } }
    else s.pressAct)

/-- R635: code 0x30. -/
def execPrstStuck (s : State) : Out :=
  .next (if s.prp.stuckHeld then s else
    (({ s with prp := { s.prp with stuckHeld := true } }).putB Fld.PRP_STAT_PRST_STUCK true).reportNone 0x30 clsC 0xFF)

/-! ### Writes of PRP registers; each by a master that R663 admits -/

/-- PRP_FCLRK: a fresh KEYLO, or a wrong key (R664). -/
def State.wrFclrk (s : State) (m : Master) (v : Nat) : State :=
  if v % 256 = 0x0B then { s with prp := { s.prp with keyLo := true } }
  else { s.violate m Reg.PRP_FCLRK with prp := { s.prp with keyLo := false } }

/-- PRP_FCLR: Class B faults of the named outlets and piers are cleared (R638, R664). -/
def State.wrFclr (s : State) (m : Master) (v : Nat) : State :=
  let ok := s.prp.keyLo && v / 2 ^ 24 == 0x6C
  let s := { s with prp := { s.prp with keyLo := false } }
  if ok then
    let os := v / 2 ^ 16 % 256
    let ps := v % 4096
    s.clearFaults (fun r => r.cls == 2 && ((r.outlets &&& os) != 0 || (r.piers &&& ps) != 0))
  else s.violate m Reg.PRP_FCLR

/-- PRP_ARMREQ, OP 1 (R639): each named pier that meets the conditions is armed. -/
def State.armPiers (s : State) (mask : Nat) : State :=
  let go := (pierBits mask).filter s.mayArm
  let a := go.foldl (fun m n => mset m n true) (s.get Fld.PRP_ARMED_PIERS)
  let s := s.setArmed a
  if go = [] then s else { s with prp := { s.prp with armedOnce := true } }

/-- PRP_ARMREQ, OP 2 (R639): the named piers are disarmed after they report LOWERED. -/
def State.disarmPiers (s : State) (mask : Nat) : State :=
  { s with prp := { s.prp with disarm := s.prp.disarm ||| (mask &&& s.get Fld.PRP_ARMED_PIERS) } }.settleDisarm

/-- PRP_ARMREQ: key, then OP (R608, R639, R664). -/
def State.wrArmreq (s : State) (m : Master) (v : Nat) : State :=
  if v / 2 ^ 16 ≠ 0x3A71 then s.violate m Reg.PRP_ARMREQ
  else if v / 2 ^ 14 % 4 = 1 then (if s.bit Fld.PRP_STAT_SAFE then s else s.armPiers (v % 4096))
  else if v / 2 ^ 14 % 4 = 2 then s.disarmPiers (v % 4096)
  else s

/-- PRP_SWSTOP (R628, R664). -/
def State.wrSwstop (s : State) (m : Master) (v : Nat) : State :=
  if v / 2 ^ 16 ≠ 0xD15A then s.violate m Reg.PRP_SWSTOP
  else if v % 2 = 1 then s.report 0x10 clsA 0xFF 0xFF 0xFFF else s

/-- Outputs of a request that turn on: permitted, and no abandoned check to repeat first (R629, R655). -/
def State.psoTurnOn (s : State) (k : Nat) : State :=
  let w := s.cfgB 6 (0x184 + 16 * k)
  if w < 16 ∧ s.prp.weldAgain.testBit w then
    { s.put (Fld.PRP_WELD_RESULT w) 5 with prp := { s.prp with weldRun := mset s.prp.weldRun w true } }
  else if s.psoPermits k then (s.putBit Fld.PRP_PSOSTAT_ON k true).putBit Fld.PRP_PSOSTAT_FAULT k false else s

/-- PRP_PSO: requests; while the safe state is asserted a request of 1 is ignored (R608, R629). -/
def State.wrPso (s : State) (v : Nat) : State :=
  let old := s.get Fld.PRP_PSO_REQ
  let req := if s.bit Fld.PRP_STAT_SAFE then old &&& v % 4096 else v % 4096
  let s := s.put Fld.PRP_PSO_REQ req
  let s := s.outputsOff (mclr 0xFFF req)
  forEach ((mbits req 12).filter (fun k => !(s.get Fld.PRP_PSOSTAT_ON).testBit k)) s State.psoTurnOn

/-! ### Outputs -/

/-- R630: an output reads high while off (code 0x05), or reads low or overloads while on (code 0x06). -/
def execOutputReadbackFault (k : Fin 12) (high : Bool) (s : State) : Out :=
  let on := (s.get Fld.PRP_PSOSTAT_ON).testBit k
  .next (if high then
      if on then s else
        ((s.putBit Fld.PRP_PSOSTAT_FAULT k true).putB Fld.PRP_EVT_OUT_FAULT true).report 0x05 clsA k 0xFF 0xFFF
    else if on then
      let s := (s.putBit Fld.PRP_PSOSTAT_FAULT k true).putB Fld.PRP_EVT_OUT_FAULT true
      let s := s.outputsOff (2 ^ k.val)
      s.report 0x06 clsB k (match s.psoOutlet k with | some m => 2 ^ m | none => 0) 0
    else s)

/-- R631, R632: the off-pulse of output k; an output that does not fall cannot switch off. -/
def execOffPulse (k : Fin 12) (fell : Bool) (s : State) : Out :=
  .next (if s.par (0x182 + 16 * k) 2 = 0 ∨ fell then s
    else ((s.putBit Fld.PRP_PSOSTAT_FAULT k true).putB Fld.PRP_EVT_OUT_FAULT true).report 0x05 clsA k 0xFF 0xFFF)

/-! ### Start-up tests -/

/-- Default class of a code at a failed test, as R610 lists it; codes of inputs take the input's class. -/
def State.testClass (s : State) (code src : Nat) : Nat :=
  if code = 0x01 ∨ code = 0x05 ∨ code = 0x0D then clsA
  else if 2 ≤ code ∧ code ≤ 4 then s.psiCls src else clsB

/-- Units of a failed test (R610). -/
def State.testOutlets (s : State) (code src : Nat) : Nat :=
  if 2 ≤ code ∧ code ≤ 4 then s.psiOutlets src
  else if code = 6 then (match s.psoOutlet src with | some m => 2 ^ m | none => 0)
  else if 7 ≤ code ∧ code ≤ 9 then 2 ^ s.cfgB 6 (0x240 + 32 * src) else 0

/-- R642: the tests end; `levels` bit 2n is channel A and bit 2n + 1 channel B of input n as read, `fails` the codes and
indices of failed tests. START_OK only when none failed. -/
def execStartupTestsDone (levels : BitVec 32) (fails : List (Fin 64 × Fin 256)) (s : State) : Out :=
  .next (if s.prp.running then
    let s := forEach (List.range 16) s (fun s n => s.inputChannel n false (levels.toNat.testBit (2 * n)))
    let s := forEach (List.range 16) s (fun s n => s.inputChannel n true (levels.toNat.testBit (2 * n + 1)))
    let s := forEach (List.range 16) s State.syncInput
    let s := fails.foldl (fun s f =>
      let s := if f.1.val = 9 ∧ f.2.val < 4 then s.putB (Fld.PRP_IMC_STAT_MFAULT f.2.val) true else s
      s.report f.1 (s.testClass f.1 f.2) f.2 (s.testOutlets f.1 f.2)
        (if 2 ≤ f.1.val ∧ f.1.val ≤ 4 then s.psiPiers f.2 else 0)) s
    s.putB Fld.PRP_STAT_START_OK (fails = [])
  else s)

/-- The fault manager starts after the seal (R77): it records what PD0 kept: code 0x32 after a double fault (R616), code
0x31 when piers were armed at the reset (R644). -/
def State.parapetRelease (s : State) : State :=
  let p := s.prp
  let s := { s with prp := { p with running := true, pd0Double := false, pd0Armed := 0 } }
  let s := (s.putB Fld.PRP_STAT_MANUAL (s.cfgB 6 6 % 2 = 1)).putB Fld.PRP_STAT_APEND p.pd0A
  let s := if p.pd0Double then (s.report 0x32 clsA 0xFF 0xFF 0xFFF).putB Fld.PRP_STAT_DOUBLE true else s
  if p.pd0Armed = 0 then s else s.report 0x31 clsC 0xFF 0 p.pd0Armed

/-! ### Insulation -/

def State.modImc (s : State) (n : Nat) (f : Imc → Imc) : State :=
  { s with prp := { s.prp with imc := updAt s.prp.imc n f } }

/-- R649: in the VEHICLE role the channel stops while the inlet contactor output of its bus is on and the link CONNECTED. -/
def State.imcSuspended (s : State) (n : Nat) : Bool :=
  let bus := s.cfgB 6 (0x240 + 32 * n)
  s.role == 2 && (List.range 12).any (fun k => s.psoKind k == 3 && s.psoOutlet k == some bus &&
    (s.get Fld.PRP_PSOSTAT_ON).testBit k && s.bit (Fld.VLK_L_CONT_CONNECTED (s.psoUnit k)))

/-- Bus voltage of channel n from VSRC, V (R647); none where the port carries no sample. -/
def State.imcBus (s : State) (n : Nat) : Option Rat :=
  let q := s.port (s.par (0x24C + 32 * n) 4 % 2 ^ 14)
  if q = 0x8000 then none else some ((toS 16 q : Rat) / 32768 * (s.par (0x250 + 32 * n) 4 : Rat) / 65536)

/-- Thresholds in Ω: alarm and warning (R647). -/
def State.imcAlarmAt (s : State) (n : Nat) (v : Rat) : Rat :=
  max ((s.par (0x246 + 32 * n) 2 : Rat) * v) (s.par (0x248 + 32 * n) 4 : Rat)
def State.imcWarnAt (s : State) (n : Nat) (v : Rat) : Rat := (s.par (0x244 + 32 * n) 2 : Rat) * v

/-- A result of `r` kΩ meets the thresholds (R647). -/
def State.imcResult (s : State) (n : Nat) (r : Rat) : State :=
  match s.imcBus n with
  | none => s
  | some v0 =>
    let v := if v0 < 0 then -v0 else v0
    let ohm := r * 1000
    let nn := s.cfgB 6 (0x254 + 32 * n)
    let c := nth {} s.prp.imc n
    let la := if ohm < s.imcAlarmAt n v then satInc 255 c.lowAlarm else 0
    let ha := if ohm < s.imcAlarmAt n v then 0 else satInc 255 c.highAlarm
    let lw := if ohm < s.imcWarnAt n v then satInc 255 c.lowWarn else 0
    let hw := if 11 * s.imcWarnAt n v / 10 ≤ ohm then satInc 255 c.highWarn else 0
    let s := s.modImc n (fun c => { c with lowAlarm := la, highAlarm := ha, lowWarn := lw, highWarn := hw })
    let bus := s.cfgB 6 (0x240 + 32 * n)
    let s := if nn ≤ la ∧ !s.bit (Fld.PRP_IMC_STAT_ALARM n) then
        ((s.putB (Fld.PRP_IMC_STAT_ALARM n) true).putB Fld.PRP_EVT_IMC true).report 0x07 clsB n (2 ^ bus) 0
      else if nn ≤ ha ∧ s.bit (Fld.PRP_IMC_STAT_ALARM n) then
        (s.putB (Fld.PRP_IMC_STAT_ALARM n) false).putB Fld.PRP_EVT_IMC true
      else s
    if nn ≤ lw ∧ !s.bit (Fld.PRP_IMC_STAT_WARN n) then
      ((s.putB (Fld.PRP_IMC_STAT_WARN n) true).putB Fld.PRP_EVT_IMC true).report 0x08 clsC n (2 ^ bus) 0
    else if nn ≤ hw ∧ s.bit (Fld.PRP_IMC_STAT_WARN n) then
      (s.putB (Fld.PRP_IMC_STAT_WARN n) false).putB Fld.PRP_EVT_IMC true
    else s

/-- R_iso in kΩ from the difference of two halves in mV: R_I × ΔV / (40 V − ΔV) with R_I = 100 kΩ (R646); 10 MΩ and more
where the difference reaches 40 V. -/
def rIso (dv : Nat) : Rat := if 40000 ≤ dv then 1000000 else 100 * (dv : Rat) / ((40000 - dv : Nat) : Rat)

/-- A half ends with sense voltage `sense` mV (R646 to R649). -/
def execImcHalfEnd (n : Fin 4) (sense : Int) (settled foreign : Bool) (s : State) : Out :=
  .next (if s.par (0x242 + 32 * n) 2 = 0 then s
    else if s.imcSuspended n then
      (s.modImc n (fun c => { c with halves := [] })).putB (Fld.PRP_IMC_STAT_SUSP n) true
    else
      let s := s.putB (Fld.PRP_IMC_STAT_SUSP n) false
      if !settled || foreign then
        let s := (s.modImc n (fun c => { c with halves := [], plus := !c.plus })).putB (Fld.PRP_IMC_STAT_MFAULT n) true
        s.report 0x09 clsB n (2 ^ s.cfgB 6 (0x240 + 32 * n)) 0
      else
        let s := s.modImc n (fun c => { c with halves := (sense :: c.halves).take 2, plus := !c.plus })
        match (nth {} s.prp.imc n).halves with
        | [a, b] =>
          let r := rIso (a - b).natAbs
          let q := max 1 (min r 10000)
          let s := (s.putU (Fld.PRP_IMC_KOHM n) (roundFree (q * 65536))).putB (Fld.PRP_IMC_STAT_RANGE n) (q ≠ r)
          let s := (s.putB (Fld.PRP_IMC_STAT_FRESH n) true).putB (Fld.PRP_IMC_STAT_MFAULT n) false
          s.imcResult n q
        | _ => s)

/-! ### Contactor records -/

/-- Piers that serve outlet m. -/
def State.outletPiers (s : State) (m : Nat) : Nat :=
  ((List.range 12).filter (fun n => s.pierOutlet n == some m)).foldl (fun a n => a + 2 ^ n) 0

/-- WELD_MS passes: `diff` V is the greatest difference between the two ports, `dead` that both stayed below V_DEAD
(R653, R654). -/
def execContactorCheckEnd (k : Fin 16) (diff : Nat) (dead : Bool) (s : State) : Out :=
  .next (if s.prp.weldRun.testBit k then
    let s := { s with prp := { s.prp with weldRun := mset s.prp.weldRun k false, weldAgain := mset s.prp.weldAgain k false } }
    let s := (s.put (Fld.PRP_WELD_DIFF k) (min diff 0xFFFF)).putB Fld.PRP_EVT_WELD true
    let u := s.psoOutlet (s.cfgB 6 (0x2C0 + 16 * k))
    let os := match u with | some m => 2 ^ m | none => 0
    let ps := match u with | some m => s.outletPiers m | none => 0
    if s.par (0x2C2 + 16 * k) 2 ≤ diff then s.put (Fld.PRP_WELD_RESULT k) 1
    else if dead then (s.put (Fld.PRP_WELD_RESULT k) 3).report 0x12 clsD k os ps
    else (s.put (Fld.PRP_WELD_RESULT k) 2).report 0x0A clsB k os ps
  else s)

end Sys2Proof.Machine
end

