-- ==== Sys2Proof/Machine/Span.lean ====
section
/-! DEFINITION. Span links, pier nodes and twin links (spec/03): frames as bytes, delay, management, bring-up, and what a
pier node does. The command words of a down frame are formed here from phase control's present state (R121, R169). -/

namespace Sys2Proof.Machine

def State.modPier (s : State) (n : Nat) (f : Pier → Pier) : State :=
  { s with phs := { cur := updAt s.phs.cur n f, nxt := updAt s.phs.nxt n f } }
def State.modPhase (s : State) (n p : Nat) (f : Phase → Phase) : State :=
  s.modPier n (fun q => { q with phases := updAt q.phases p f })
def State.pier (s : State) (n : Nat) : Pier := nth {} s.phs.cur n
def State.phase (s : State) (n p : Nat) : Phase := nth {} (s.pier n).phases p

/-- IN, RAMP or ADMIT: in service (R172). -/
def PhState.svc : PhState → Bool
  | .inn => true | .ramp => true | .admitted => true | .out => false | .hot => false | .faulted => false
/-- OUT, IN, RAMP or ADMIT: available (R172). -/
def PhState.avail : PhState → Bool
  | .inn => true | .ramp => true | .admitted => true | .out => true | .hot => false | .faulted => false

/-! ### Slot programs that other blocks look up (R223) -/

/-- A number of the KST_PROG record of a slot. -/
def State.prog (s : State) (k : Slot) (off n : Nat) : Nat := s.cfg 2 (256 * k.rcd + off) n
def State.progS (s : State) (k : Slot) (off n : Nat) : Int := toS (8 * n) (s.prog k off n)
/-- ROLE of a slot. -/
def State.slotRole (s : State) (k : Slot) : Nat := s.prog k 8 1 / 16 % 4
def State.slotOutlet (s : State) (k : Slot) : Nat := s.prog k 9 1
def State.slotPier (s : State) (k : Slot) : Nat := s.prog k 10 1
def State.slotPhase (s : State) (k : Slot) : Nat := s.prog k 11 1

/-- The ROLE 3 slot of phase p of pier n. -/
def State.phaseSlot (s : State) (n p : Nat) : Option Slot :=
  s.kst.slots.find? (fun k => s.slotRole k == 3 && s.slotPier k == n && s.slotPhase k == p)

/-! ### Command words (R121, R127, R169, R170, R231, R810) -/

/-- The command word with MODE, RISE and FALL. -/
def cmdWord (mode rise fall : Nat) : Nat := mode * 2 ^ 30 + rise % 2 ^ 15 * 2 ^ 15 + fall % 2 ^ 15

/-- Code and remainder of an edge at `pos` fine steps with remainder `rem` held (R127). -/
def edgeCode (nsw esc pos rem : Nat) : Nat × Nat :=
  let x := if nsw = 0 then pos + rem else (pos + rem) % nsw
  (x / 2 ^ esc, x % 2 ^ esc)

/-- Conduction time of a slot output `o` (sQ3.28): o × N_SW to the nearest fine step, held within 0 to N_SW (R169, R213). -/
def condTime (nsw : Nat) (o : Int) : Nat := (clampI (roundAway (o * nsw) (2 ^ 28)) 0 nsw).toNat

/-- Word of a phase in service and its two remainders (R169). -/
def phaseWord (nsw esc : Nat) (ph : Phase) (cond : Nat) : Nat × Nat × Nat :=
  let mode := if ph.de then 1 else 0
  let c := min cond nsw
  if c = 0 then (cmdWord mode (ph.off / 2 ^ esc) (ph.off / 2 ^ esc), 0, 0)
  else if c = nsw then (cmdWord mode 0 0x7FFF, 0, 0)
  else
    let r := edgeCode nsw esc ph.off ph.riseRem
    let f := edgeCode nsw esc ((ph.off + c) % nsw) ph.fallRem
    (cmdWord mode r.1 f.1, r.2, f.2)

/-- The conditions of R171 hold for pier n now: not ARMED, LOWERING or LOWERED reported, or EN 0. -/
def State.heldNow (s : State) (n : Nat) : Bool :=
  !s.pierArmed n || s.pflag n 1 || s.pierLowered n || !s.bit (Fld.PHS_PIER_CTRL_EN n)

/-- The slot output that a frame formed now takes for phase p: this period's, or the former one at the send limit (R231). -/
def State.frameCond (s : State) (n p : Nat) : Nat :=
  match s.phaseSlot n p with
  | some k => if k.ended && k.holding then (s.phase n p).cond else condTime (s.nSw n) (if k.ended then k.o else k.o1)
  | none => 0

/-- The word of phase p of pier n in this period, with its remainders. -/
def State.formWord (s : State) (n p : Nat) : Nat × Nat × Nat :=
  let ph := s.phase n p
  if !s.fitted n p then (0, 0, 0)
  else match s.phaseSlot n p with
  | none => (cmdWord 2 0 0, 0, 0)
  | some k =>
    if (s.pier n).held || s.heldNow n || !ph.st.svc then (cmdWord 2 0 0, 0, 0)
    else if k.ended && k.holding then (cmdWord 3 0 0, 0, 0)
    else
      phaseWord (s.nSw n) (s.eScale n) ph (s.frameCond n p)

/-! ### Down frames -/

/-- The 64-bit management word (R156). -/
def mgmtWord (m : Mgmt) : Nat :=
  m.op % 4 * 2 ^ 62 + m.addr % 2 ^ 14 * 2 ^ 48 + m.tag % 2 ^ 16 * 2 ^ 32 + m.data % 2 ^ 32

/-- The links of pier n, primary first. -/
def State.pierLinks (s : State) (n : Nat) : List Nat := (s.pierLink n 1).toList ++ (s.pierLink n 2).toList

/-- TAG of pier n's next request, one count for both its links. -/
def State.pierTag (s : State) (n : Nat) : Nat := ((s.pierLinks n).head?.map (fun l => (s.link l).nextTag)).getD 0

/-- The management request that the next frame of pier n carries: link, request, and whether it is the device's own. Firmware's
waiting request goes first; an own request whose reply has not come in the up frame due goes again (R157, R159; log entry 75). -/
def State.nextMgmt (s : State) (n : Nat) : Option (Nat × Mgmt × Bool) :=
  let tag := s.pierTag n
  let fw := (s.pierLinks n).findSome? (fun l => match (s.link l).mgmt with
    | some m => if m.sent then none else some (l, { m with tag := tag }, false)
    | none => none)
  match fw with
  | some x => some x
  | none => (s.pierLinks n).findSome? (fun l =>
      ((s.link l).own <|> (s.link l).bring.head?).map (fun m => (l, { m with tag := tag }, true)))

/-- The content of pier n's down frame of this period is formed: command words with their remainders (R127), FLAGS (R118 to
R120, R146) and one management word (R156). -/
def State.formCore (s : State) (n : Nat) : State :=
  if (s.pier n).core.isSome then s
  else
    let ws := (List.range 32).map (s.formWord n)
    let cs := (List.range 32).map (s.frameCond n)
    let lower := s.pierLower n
    let resume := !lower && (s.pierLinks n).any (fun l => (s.link l).resumeReq)
    let arm := (s.get Fld.PRP_ARMED_PIERS).testBit n
    let step := s.spn.timeStep.contains n
    let mg := s.nextMgmt n
    let core : FrameCore :=
      { flags := (if lower then 1 else 0) + (if arm then 2 else 0) + (if resume then 4 else 0) + (if step then 16 else 0)
        words := ws.map (·.1), mgmt := match mg with | some (_, m, _) => mgmtWord m | none => 0 }
    let s := forEach (s.pierLinks n) s (fun s l => s.modLink l (fun k => { k with resumeReq := false }))
    let s := match mg with
      | some (l, m, own) =>
        let s := s.modLink l (fun k => if own then
            { k with own := some { m with sent := true }, bring := if k.own.isSome then k.bring else k.bring.drop 1 }
          else { k with mgmt := some { m with sent := true } })
        let s := forEach (s.pierLinks n) s (fun s l => s.modLink l (fun k => { k with nextTag := (m.tag + 1) % 65536 }))
        s.putB (Fld.SPN_LINK_STAT_MGMT_BUSY l) true
      | none => s
    let s := { s with spn := { s.spn with timeStep := s.spn.timeStep.erase n } }
    s.modPier n (fun q =>
      { q with core := some core, phases := (List.range 32).map (fun p =>
        let w := nth (0, 0, 0) ws p
        { (nth ({} : Phase) q.phases p) with riseRem := w.2.1, fallRem := w.2.2, cond := nth 0 cs p, hold := w.1 / 2 ^ 30 == 3 && s.fitted n p }) })

/-- The bytes of the down frame on link l, CRC included (R117). -/
def State.downBytes (s : State) (l tNs frac : Nat) : List Byte :=
  let n := s.spanPier l
  let c := ((s.pier n).core).getD {}
  let body := toLE 1 1 ++ toLE 1 l ++ toLE 1 n ++ toLE 1 (c.flags + (if s.spanUse l = 2 then 8 else 0)) ++
    toLE 4 s.kst.period ++ toLE 8 tNs ++ toLE 2 frac ++ toLE 4 (s.get (Fld.SPN_LINK_DELAY_DELAY l)) ++
    toLE 2 s.periodUs ++ toLE 8 0 ++ (c.words.flatMap (toLE 4)) ++ toLE 8 c.mgmt
  body ++ toLE 4 (crc32 body)

/-- The down frame of link l leaves (R115); LOOP or PRBS keep it from the pier (R809). -/
def State.sendDown (s : State) (l : Nat) : State :=
  let s := s.formCore (s.spanPier l)
  let (dt, s) := s.freshBelow (s.periodUs * 1000)
  let (fr, s) := s.fresh 16
  let bytes := if s.bit (Fld.SPN_LINK_CTRL_LOOP l) || s.bit (Fld.SPN_LINK_CTRL_PRBS l) then []
    else s.downBytes l (s.siteNs + dt) fr
  s.modLink l (fun k => { k with
    lastSent := bytes, sentDown := true, stream := if bytes = [] then k.stream else frameStream bytes })

/-- Frames leave on link l: enabled, in use, synchronised (R113, R159). -/
def State.linkRuns (s : State) (l : Nat) : Bool :=
  s.bit (Fld.SPN_LINK_CTRL_EN l) && s.spanUse l != 0 && s.bit (Fld.SPN_LINK_STAT_SYNC l)

/-- The slots that feed link l: the ROLE 3 slots of its pier (R30). -/
def State.feeds (s : State) (l : Nat) : List Slot :=
  s.kst.slots.filter (fun k => s.slotRole k == 3 && s.slotPier k == s.spanPier l)

/-- R30, R115: the last slot feeding the link has ended. -/
def execDownFrameSend (l : Fin 12) (s : State) : Out :=
  .next (if s.linkRuns l && !(s.link l).sentDown && (s.feeds l).all Slot.ended then
    (s.sendDown l).modLink l (fun k => { k with overruns := 0 }) else s)

/-- R229, R231: the frame leaves at the send limit; an overrun when a slot feeding the link has not ended. -/
def execSendLimit (l : Fin 12) (s : State) : Out :=
  .next (if s.linkRuns l && !(s.link l).sentDown then
    if (s.feeds l).all Slot.ended then (s.sendDown l).modLink l (fun k => { k with overruns := 0 })
    else
      let s := (s.sendDown l).modLink l (fun k => { k with overruns := satInc 3 k.overruns })
      let s := s.putB Fld.KST_EVT_OVERRUN true
      let n := s.spanPier l
      if 3 ≤ (s.link l).overruns then
        (s.modLink l (fun k => { k with overruns := 0 })).reportPier 0x23 clsB l n
      else s.reportNone 0x23 clsC l
  else s)

/-! ### Up frames -/

/-- The fields of an up frame (R128). -/
def parseUp (b : List Byte) : UpFrame :=
  { pflags := leAt b 3 1, seq := leAt b 4 4, turn := leAt b 8 4, trip := leAt b 0x0C 4, senseFail := leAt b 0x10 4
    de := leAt b 0x14 4, badDn := leAt b 0x18 1, missed := leAt b 0x19 1, sflags := leAt b 0x1A 1
    iph := (List.range 32).map (fun p => leAt b (0x20 + 2 * p) 2), vdc := leAt b 0x60 2, vout := leAt b 0x62 2
    grid := (List.range 6).map (fun g => leAt b (0x64 + 2 * g) 2), mgmt := leAt b 0x70 8
    tlm := (List.range 4).map (fun t => (leAt b (0x78 + 8 * t) 2, leAt b (0x7A + 8 * t) 4)) }

/-- R132: the frame is whole and its CRC matches. -/
def upCrcOk (b : List Byte) : Bool := b.length == 0x9C && leAt b 0x98 4 == crc32 (b.take 0x98)

/-- R134: valid for the running period. -/
def State.upValid (s : State) (b : List Byte) : Bool :=
  upCrcOk b && leAt b 0 1 == 2 && leAt b 4 4 == s.kst.period % 2 ^ 32 && !s.kst.cutoff

/-- The samples of a used up frame go to their Truss ports, 0x8000 where there is no sample (R129). -/
def State.routeSamples (s : State) (n : Nat) (u : UpFrame) : State :=
  let s := (List.range 32).foldl (fun s p => s.setPort (Config.spanPort n p) (nth 0 u.iph p)) s
  let s := s.setPort (Config.spanPort n 32) (if u.sflags % 2 = 1 then 0x8000 else u.vdc / 2)
  let s := s.setPort (Config.spanPort n 33) u.vout
  (List.range 6).foldl (fun s g => s.setPort (Config.spanPort n (34 + g)) (nth 0 u.grid g)) s

/-- Heatsink temperatures of a used up frame (R131, R200). -/
def State.takeTemps (s : State) (n : Nat) (u : UpFrame) : State :=
  u.tlm.foldl (fun s t =>
    if t.1 < 32 then s.modPhase n t.1 (fun ph => { ph with theta := some (toS 32 t.2), age := 0 }) else s) s

/-- One measurement of the link delay: the interval less TURN, halved; the mean of the last 64 (R138). -/
def State.measureDelay (s : State) (l interval turn : Nat) : State :=
  if turn = 0xFFFFFFFF ∨ interval < turn then s
  else
    let ds := ((interval - turn) :: (s.link l).delays).take 64
    let s := s.modLink l (fun k => { k with delays := ds })
    let mean : Rat := ((ds.foldl (· + ·) 0 : Nat) : Rat) / ((2 * ds.length : Nat) : Rat)
    (s.putU (Fld.SPN_LINK_DELAY_DELAY l) (roundFree mean)).putB (Fld.SPN_LINK_STAT_DLY_OK l) (ds.length = 64)

/-- Requests of one bring-up of pier n: writes of 0x0010 to 0x001B and their read-backs (R159). -/
def State.bringList (s : State) (n : Nat) : List Mgmt :=
  (List.range 12).map (fun k => { op := 1, addr := 0x10 + k, data := s.pierReg n k }) ++
  (List.range 12).map (fun k => { op := 2, addr := 0x10 + k })

/-- The identity reads that end the first bring-up. -/
def idReads : List Mgmt := [{ op := 2, addr := 0 }, { op := 2, addr := 1 }]

/-- A reply to a bring-up request: a read-back that differs raises code 0x26; a complete repetition that matched removes its
cause (R159). -/
def State.bringReply (s : State) (l : Nat) (m : Mgmt) (data : Nat) : State :=
  let n := s.spanPier l
  let differs := m.op == 2 && 0x10 ≤ m.addr && m.addr ≤ 0x1B && data != s.pierReg n (m.addr - 0x10)
  let s := if differs then
      (s.modLink l (fun k => { k with bringBad := true, bringRun := true })).reportPier 0x26 clsB 0xFF n
    else s
  if (s.link l).bring = [] then
    s.modLink l (fun k => { k with bringDone := true, bringBad := k.bringRun }) else s

/-- The reply `w` answers the request m, which has been sent (R156). -/
def answers (m : Mgmt) (w : Nat) : Bool :=
  m.sent && w / 2 ^ 62 != 0 && w / 2 ^ 32 % 2 ^ 16 == m.tag % 2 ^ 16 && w / 2 ^ 48 % 2 ^ 14 == m.addr % 2 ^ 14

/-- A reply to firmware's request; `busy`: an own request is still outstanding. -/
def State.fwReply (s : State) (l w : Nat) (busy : Bool) : State :=
  let s := (s.modLink l (fun k => { k with mgmt := none })).putB (Fld.SPN_LINK_STAT_MGMT_BUSY l) busy
  let s := (s.putB (Fld.SPN_LINK_MGMTC_GO l) false).putB (Fld.SPN_LINK_MGMTR_DONE l) true
  (s.putB (Fld.SPN_LINK_MGMTR_REFUSED l) (w / 2 ^ 62 = 3)).put (Fld.SPN_LINK_MGMTQ_RDATA l) (w % 2 ^ 32)

/-- A management reply of an up frame, to a request that stands on link l (R156). -/
def State.mgmtReply (s : State) (l w : Nat) : State :=
  match (s.link l).own, (s.link l).mgmt with
  | some m, fw =>
    if answers m w then
      ((s.modLink l (fun k => { k with own := none })).putB (Fld.SPN_LINK_STAT_MGMT_BUSY l) fw.isSome).bringReply l m (w % 2 ^ 32)
    else match fw with
      | some m => if answers m w then s.fwReply l w true else s
      | none => s
  | none, some m => if answers m w then s.fwReply l w false else s
  | none, none => s

/-- The frame of link l is the one the device uses for its pier: the primary's, or the standby's when the primary's is not
valid (R153). -/
def State.usesLink (s : State) (l : Nat) : Bool :=
  s.spanUse l == 1 || (match s.pierLink (s.spanPier l) 1 with | some p => !(s.link p).gotUp | none => true)

/-- A valid up frame. -/
def State.takeUp (s : State) (l : Nat) (u : UpFrame) (interval : Nat) : State :=
  let n := s.spanPier l
  let chg := s.get (Fld.SPN_LINK_STAT_PFLAGS l) != u.pflags
  let s := s.modLink l (fun k => { k with gotUp := true, missRun := 0, up := u, pflagsChanged := k.pflagsChanged || chg })
  let s := ((s.put (Fld.SPN_LINK_STAT_PFLAGS l) u.pflags).put (Fld.SPN_LINK_PMASK_TRIP l) u.trip).put
    (Fld.SPN_LINK_SMASK_SENSE_FAIL l) u.senseFail
  let s := s.measureDelay l interval u.turn
  let s := if s.usesLink l then
      let s := forEach (s.pierLinks n) s (fun s k => s.mgmtReply k u.mgmt)
      let s := forEach (s.pierLinks n) s (fun s k => s.putB (Fld.SPN_LINK_STAT_ACTIVE k) (k = l))
      (s.routeSamples n u).takeTemps n u
    else s
  s.settleDisarm

/-- R134, R153: an up frame completes. -/
def execUpFrameRx (l : Fin 12) (bytes : List Byte) (interval : Nat) (s : State) : Out :=
  .next (if !s.linkRuns l || s.bit (Fld.SPN_LINK_CTRL_LOOP l) || (s.link l).gotUp then s
    else if s.upValid bytes then s.takeUp l (parseUp bytes) interval
    else
      let s := if upCrcOk bytes then s else s.inc (Fld.SPN_LINK_ERR_UP_CRC l)
      s.putB (Fld.SPN_LINK_STAT_UP_BAD l) true)

/-- The cut-off on link l: no valid up frame has completed (R29, R134, R155). -/
def State.cutLink (s : State) (l : Nat) : State :=
  if !(s.bit (Fld.SPN_LINK_CTRL_EN l)) || s.spanUse l == 0 || (s.link l).gotUp then s
  else
    let s := (s.inc (Fld.SPN_LINK_ERR_UP_MISS l)).putB (Fld.SPN_LINK_STAT_UP_BAD l) true
    (s.putB (Fld.SPN_LINK_STAT_ACTIVE l) false).modLink l (fun k => { k with missRun := satInc 0xFFFF k.missRun })

/-- Both links of the pier of link l are in use (R151). -/
def State.dualHomed (s : State) (l : Nat) : Bool := (s.pierLinks (s.spanPier l)).length == 2 && s.spanUse l != 0

/-- R155: code 0x27 for a link of a dual-homed pier that has delivered no valid up frame for 16 periods. -/
def execDualLinkLoss (l : Fin 12) (s : State) : Out :=
  .next (if s.dualHomed l && decide (16 ≤ (s.link l).missRun) then s.reportNone 0x27 clsC l else s)

/-! ### Bring-up, sync -/

/-- The link starts its bring-up requests (R159); the standby of a dual-homed pier leaves them to the primary. -/
def State.startBring (s : State) (l : Nat) : State :=
  if s.spanUse l = 1 then
    s.modLink l (fun k => { k with bring := s.bringList (s.spanPier l) ++ idReads, bringRun := false })
  else s

/-- R159: repeated once a second while code 0x26 is latched for the pier; an own request that waits for a reply is dropped. -/
def execBringupRetry (n : Fin 12) (s : State) : Out :=
  .next (match s.pierLink n 1 with
    | some l =>
      if s.bit (Fld.SPN_LINK_STAT_SYNC l) && s.prp.latched.any (fun r => r.code == 0x26 && r.piers.testBit n) then
        s.modLink l (fun k => { k with own := none, bring := s.bringList n, bringRun := false })
      else s
    | none => s)

/-- A receiver gains or loses signal and code-group sync; links 12 and 13 are TW0 and TW1. On the first gain after enabling
the bring-up starts, with ARM 0 (R159). -/
def execCodeGroupSync (link : Fin 14) (signal sync : Bool) (s : State) : Out :=
  .next (if link.val < 12 then
      let l := link.val
      let gain := sync && !s.bit (Fld.SPN_LINK_STAT_SYNC l) && s.bit (Fld.SPN_LINK_CTRL_EN l)
      let s := (s.putB (Fld.SPN_LINK_STAT_SIGNAL l) signal).putB (Fld.SPN_LINK_STAT_SYNC l) sync
      if gain && !(s.link l).bringDone && (s.link l).bring == [] then s.startBring l else s
    else
      let t := link.val - 12
      (s.putB (Fld.TWL_LINK_STAT_SIGNAL t) signal).putB (Fld.TWL_LINK_STAT_SYNC t) sync)

/-! ### Writes of SPN registers (the level of R94 has been applied to `v`) -/

/-- What driven pins carry after a change of PRBS: PRBS-31, or the stream as it was with idle in place of silence (R112, R809). -/
def onPins (prbs : Bool) (l : List CodeGroup) : List CodeGroup :=
  if prbs then [.prbs] else if l = [] ∨ l = [.prbs] then idleSet else l

/-- SPN_LINKn_CTRL: RESUME is kept for the next frame, or discarded while LOWER is sent (R120); LOOP and PRBS are ignored
while the pier reports ARMED (R809). -/
def State.wrSpanCtrl (s : State) (l v : Nat) : State :=
  let s := if v / 16 % 2 = 1 ∧ !s.bit (Fld.SPN_LINK_STAT_LOWER_TX l) then
      s.modLink l (fun k => { k with resumeReq := true }) else s
  let s := if s.pierArmed (s.spanPier l) then s
    else (s.put (Fld.SPN_LINK_CTRL_PRBS l) (v / 8 % 2)).put (Fld.SPN_LINK_CTRL_LOOP l) (v / 4 % 2)
  let s := if s.isSealed then s
    else (s.put (Fld.SPN_LINK_CTRL_MEDIUM l) (v / 2 % 2)).put (Fld.SPN_LINK_CTRL_EN l) (v % 2)
  let drives := s.linkDrives l
  let prbs := s.bit (Fld.SPN_LINK_CTRL_PRBS l)
  let s := s.modLink l (fun k => { k with stream := if drives then onPins prbs k.stream else [] })
  if s.bit (Fld.SPN_LINK_CTRL_LOOP l) || s.bit (Fld.SPN_LINK_CTRL_PRBS l) then
    s.setArmed (mset (s.get Fld.PRP_ARMED_PIERS) (s.spanPier l) false) else s

/-- Own bring-up requests of pier n are outstanding, on whichever of its links they stand (R163). -/
def State.bringing (s : State) (n : Nat) : Bool :=
  (s.pierLinks n).any (fun l => (s.link l).own.isSome || (s.link l).bring != [])

/-- SPN_LINKn_MGMTC: a request for the next down frame (R156), or GO ignored (R163). -/
def State.wrMgmtc (s : State) (l v : Nat) : State :=
  let s := (s.put (Fld.SPN_LINK_MGMTC_OP l) (v / 2 ^ 29 % 4)).put (Fld.SPN_LINK_MGMTC_ADDR l) (v / 2 ^ 15 % 2 ^ 14)
  let op := v / 2 ^ 29 % 4
  if v / 2 ^ 31 % 2 = 1 ∧ (op = 1 ∨ op = 2) ∧ (s.link l).mgmt = none ∧ s.bringing (s.spanPier l) = false then
    let m : Mgmt := { op := op, addr := v / 2 ^ 15 % 2 ^ 14, data := s.get (Fld.SPN_LINK_MGMTD_DATA l)
                      tag := (s.link l).nextTag }
    ((s.modLink l (fun k => { k with mgmt := some m })).putB (Fld.SPN_LINK_MGMTC_GO l) true).putB
      (Fld.SPN_LINK_STAT_MGMT_BUSY l) true
  else s

/-! ### Pier nodes -/

/-- Every phase OFF. -/
def allOffWords : List Nat := List.replicate 32 (cmdWord 2 0 0)

/-- A pier register, 0 until written (R158). -/
def Node.reg (k : Node) (a : Nat) : Nat := sget 0 k.regs a

/-- The current of phase p at the last sample, in A (R128, R129). -/
def Node.current (k : Node) (p : Nat) : Rat := ((toS 16 (nth 0 k.samples p)).natAbs * k.reg 0x17 : Nat) / (2 ^ 31 : Nat)

/-- The node lowers (R143): each phase current ramps to zero from where it is. -/
def Node.lower (k : Node) : Node :=
  if k.lowered || k.lowering then k else { k with lowering := true, ramp := (List.range 32).map k.current }

/-- SEQ a is greater than b modulo 2^32 (R133). -/
def seqAfter (a b : Nat) : Bool := 0 < (a + 2 ^ 32 - b % 2 ^ 32) % 2 ^ 32 && (a + 2 ^ 32 - b % 2 ^ 32) % 2 ^ 32 < 2 ^ 31

/-- R133: the down frame is valid for pier n on its link l. -/
def downValid (k : Node) (standby : Bool) (l n : Nat) (b : List Byte) : Bool :=
  b.length == 0xAC && leAt b 0xA8 4 == crc32 (b.take 0xA8) && leAt b 0 1 == 1 && leAt b 1 1 == l && leAt b 2 1 == n &&
  (match (if standby then k.seqS else k.seqP) with | some q => seqAfter (leAt b 4 4) q | none => true)

/-- R157, R158: the node executes a request and keeps its reply. -/
def Node.execMgmt (k : Node) (w : Nat) : Node :=
  let op := w / 2 ^ 62
  let a := w / 2 ^ 48 % 2 ^ 14
  let d := w % 2 ^ 32
  let m : Mgmt := { op := op, addr := a, tag := w / 2 ^ 32 % 2 ^ 16, data := d }
  if op = 1 then
    if (0x10 ≤ a ∧ a ≤ 0x1B ∧ (k.lowered ∨ !k.armed)) ∨ 0x1000 ≤ a then
      { k with regs := sset 0 k.regs a d, reply := some m }
    else { k with reply := some { m with op := 3 } }
  else if op = 2 then
    if a ≤ 1 ∨ (0x10 ≤ a ∧ a ≤ 0x1B) ∨ 0x1000 ≤ a then { k with reply := some { m with data := k.reg a } }
    else { k with reply := some { m with op := 3 } }
  else { k with reply := none }

/-- R148: an OFF command after the trip, followed by a non-OFF one, ends the trip of a phase. -/
def tripStep (trip off p word : Nat) : Nat × Nat :=
  if trip.testBit p then
    if word / 2 ^ 30 = 2 then (trip, mset off p true)
    else if off.testBit p then (mset trip p false, mset off p false) else (trip, off)
  else (trip, off)

/-- FLAGS of a valid, used frame (R118, R147). -/
def Node.takeFlags (k : Node) (flags : Nat) : Node :=
  let k := { k with armed := flags.testBit 1 }
  let k := if flags.testBit 0 then k.lower else k
  if flags.testBit 1 ∧ flags.testBit 2 ∧ k.lowered ∧ !flags.testBit 0 then
    { k with lowered := false, silence := false, inForce := allOffWords, cycle := allOffWords } else k

/-- The commands of a valid, used frame with the SEQ of the period (R114, R148). -/
def Node.takeWords (k : Node) (words : List Nat) : Node :=
  let t := (List.range 32).foldl (fun t p => tripStep t.1 t.2 p (nth 0 words p)) (k.trip, k.tripOff)
  { k with nextCmd := words, trip := t.1, tripOff := t.2, gotK := true }

/-- R139, R140: time of a valid frame in 1/65,536 ns against the local clock at its arrival; `free` is how far the node corrects. -/
def Node.correct (k : Node) (target clock free : Nat) (timeStep : Bool) : Node :=
  let d := if clock ≤ target then target - clock else clock - target
  let moved := free % (d + 1)
  let site := if clock ≤ target then k.site + moved else k.site - moved
  let run := if timeStep then 0 else if d < 2 * 65536 then satInc 16 k.lockRun else 0
  { k with site := site, lockRun := run
           timeLock := if timeStep ∨ 4 * 65536 < d then false else if run = 16 then true else k.timeLock }

/-- Site time that a down frame gives: TIME plus LINK_DELAY fine steps of 1/38.4 ns, in 1/65,536 ns (R139). -/
def frameTime (b : List Byte) : Nat :=
  leAt b 8 8 * 65536 + leAt b 0x10 2 + (leAt b 0x12 4 * 655360 + 192) / 384

/-- T of the node in 1/65,536 ns. -/
def Node.t (k : Node) : Nat := k.tUs * 1000 * 65536

/-- The index of the period that runs at the node: its start is the multiple of T nearest to `site`, the local time kept for it
(R114). -/
def Node.index (k : Node) : Nat := if k.t = 0 then 0 else (k.site + k.t / 2) / k.t

/-- R133, R135, R139, R147, R151 to R154, R157: the node accepts or discards a copy; `elapsed` is the local time since the period
start at its first start code group, in 1/65,536 ns. Site time comes from the standby link only where the primary gave no valid
frame in the last period nor so far in this one. -/
def execPierDownFrameAccept (n : Fin 12) (standby : Bool) (bytes : List Byte) (elapsed : Nat) (s : State) : Out :=
  .next (match s.pierLink n (if standby then 2 else 1) with
    | none => s
    | some l =>
      let k := s.node n
      if !downValid k standby l n bytes then s.modNode n (fun k => { k with badDn := satInc 255 k.badDn })
      else
        let (free, s) := s.fresh 64
        let seq := leAt bytes 4 4
        let flags := leAt bytes 3 1
        let timed := !standby || !(k.gotP || k.primLive)
        let used := !standby || !k.gotP
        let k := { k with missed := 0, tUs := leAt bytes 0x16 2 }
        let clock := k.site + elapsed
        let k := if timed then k.correct (frameTime bytes) clock free (flags.testBit 4) else k
        let k := if standby then { k with seqS := some seq, gotS := true, rxS := some (seq, k.site + elapsed) }
          else { k with seqP := some seq, gotP := true, rxP := some (seq, k.site + elapsed) }
        let k := if used then (k.takeFlags flags).execMgmt (leAt bytes 0xA0 8) else k
        let k := if used && seq == k.index % 2 ^ 32 then
            k.takeWords ((List.range 32).map (fun p => leAt bytes (0x20 + 4 * p) 4)) else k
        s.modNode n (fun _ => k))

/-- What HOLD leaves of the last command in force (R126). -/
def holdOf (w : Nat) : Nat := if w / 2 ^ 30 ≤ 1 then w else cmdWord 2 0 0

/-- The command in force for phase p from the period start: none while lowered, tripped, with its current sense failed or without
ARM; the ramp while lowering, until the current is below LOWER_DONE; else the accepted command, or HOLD (R114, R118, R126, R130, R135,
R143, R148). -/
def Node.nextWord (k : Node) (p : Nat) : Nat :=
  let old := nth (cmdWord 2 0 0) k.inForce p
  if k.lowered || !k.armed || k.trip.testBit p || k.senseFail.testBit p then cmdWord 2 0 0
  else if k.lowering then (if nth 0 k.ramp p < (k.reg 0x14 : Rat) / 65536 then cmdWord 2 0 0 else old)
  else match k.nextCmd with
    | [] => holdOf old
    | ws => if nth 0 ws p / 2 ^ 30 = 3 then holdOf old else nth 0 ws p

/-- Fine steps from site-time zero to the start of period i. -/
def Node.fineAt (k : Node) (i : Nat) : Nat := i * k.tUs * 38400

/-- The commands that the switching cycles running at the start of period i + 1 use: starts lie at the multiples of N_SW, and a cycle
keeps the command in force at its start (R122, R124). While lowering or lowered a phase's gates are off at once (R143). -/
def Node.nextCycle (k : Node) (new : List Nat) : List Nat :=
  let n := k.reg 0x11
  let t0 := k.fineAt k.index
  let t1 := k.fineAt (k.index + 1)
  let start := if n = 0 then t1 else t1 / n * n
  (List.range 32).map (fun p =>
    let w := nth (cmdWord 2 0 0) new p
    if start = t1 then w
    else if (k.lowered || k.lowering) && w / 2 ^ 30 == 2 then w
    else if t0 < start then nth (cmdWord 2 0 0) k.inForce p else nth (cmdWord 2 0 0) k.cycle p)

/-- Conduction of a command word in a cycle of `nsw` fine steps, as intervals of offsets from its start (R125, R126). -/
def conduction (nsw esc word : Nat) : List (Nat × Nat) :=
  let r := word / 2 ^ 15 % 2 ^ 15 * 2 ^ esc
  let f := word % 2 ^ 15 * 2 ^ esc
  let spans := if 2 ≤ word / 2 ^ 30 then [] else if r < f then [(r, f)] else if f < r then [(0, f), (r, nsw)] else []
  (spans.map (fun x => (min x.1 nsw, min x.2 nsw))).filter (fun x => x.1 < x.2)

/-- Where the main switch of phase p conducts in the cycle that runs (R124, R125). -/
def Node.conducts (k : Node) (p : Nat) : List (Nat × Nat) :=
  conduction (k.reg 0x11) (k.reg 0x12) (nth (cmdWord 2 0 0) k.cycle p)

/-- The synchronous rectifier of phase p is on at offset x of its cycle: in complement to the main switch, clear of each of its edges by
the dead time of the pier, and in DIODE_EMULATION up to the zero crossing at `zcd` (R126). -/
def Node.rectifies (k : Node) (n p x : Nat) (zcd : Option Nat) : Bool :=
  let w := nth (cmdWord 2 0 0) k.cycle p
  decide (w / 2 ^ 30 < 2) &&
  (k.conducts p).all (fun c => decide (x + Config.deadTime n < c.1) || decide (c.2 + Config.deadTime n ≤ x)) &&
  (w / 2 ^ 30 != 1 || (match zcd with | some z => decide (x < z) | none => true))

/-- No valid copy with the period's SEQ has come by the period's end (R135, R136). -/
def Node.miss (k : Node) : Node :=
  let k := { k with missed := min 3 (k.missed + 1), badDn := satInc 255 k.badDn, nextCmd := [] }
  if k.missed = 3 then { k.lower with silence := true } else k

/-- The node's period ends and the next starts: commands come into force, the ramp of a lowering goes on, site time moves by T
(R114, R124, R137, R143). -/
def Node.apply (k : Node) : Node :=
  let k := if k.gotK then k else k.miss
  let k := { k with ramp := k.ramp.map (fun i => max 0 (i - (k.reg 0x13 * k.tUs : Nat) / (65536 : Rat))) }
  let new := (List.range 32).map k.nextWord
  { k with cycle := k.nextCycle new, inForce := new, nextCmd := [], site := (k.index + 1) * k.t
           gotP := false, gotS := false, gotK := false, primLive := k.gotP }

/-! ### The up frame of a pier node (R115, R128 to R131, R142, R148, R157) -/

/-- A signed sample: the code `x` of the sensor, 0x8000 where it has none or its full scale is not written (R129). -/
def Node.sample (k : Node) (fs x : Nat) : Nat := if k.reg fs = 0 then 0x8000 else x % 65536

/-- Samples of the 32 phase currents, and with them the failures of their sense (R130). -/
def Node.takeSamples (k : Node) (xs : List Nat) : Node :=
  let ws := (List.range 32).map (fun p => k.sample 0x17 (nth 0 xs p))
  { k with samples := ws, senseFail := (List.range 32).foldl (fun m p => mset m p (nth 0 ws p == 0x8000)) 0 }

/-- PFLAGS; the node is READY only with TIME_LOCK, and then as it decides (R128, R142, R148). -/
def Node.pflags (k : Node) (ready : Bool) : Nat :=
  (if ready && k.timeLock then 1 else 0) + (if k.lowering then 2 else 0) + (if k.lowered then 4 else 0) + (if k.silence then 8 else 0) +
  (if k.trip ≠ 0 then 16 else 0) + (if k.timeLock then 32 else 0) + (if k.armed then 64 else 0)

/-- Phases in DIODE_EMULATION, of which any may have been turned off in the last cycle. -/
def Node.deMask (k : Node) (free : Nat) : Nat :=
  (List.range 32).foldl (fun m p => mset m p (free.testBit p && nth 0 k.cycle p / 2 ^ 30 == 1)) 0

/-- TURN: from the arrival of frame SEQ−1 to the sending of this one, `tx` after the period start, in fine steps (R128). -/
def Node.turn (k : Node) (rx : Option (Nat × Nat)) (tx : Nat) : Nat :=
  match rx with
  | some (seq, atT) => if (seq + 1) % 2 ^ 32 = k.index % 2 ^ 32 then (k.site + tx % (k.t + 1) - atT) * 384 / 655360 else 0xFFFFFFFF
  | none => 0xFFFFFFFF

/-- What the sensors of a pier node give in one period, and when its up frame leaves: free values. -/
structure NodeSenses where
  iph : List Nat
  vdc : Option Nat
  vout : Nat
  grid : List Nat
  tlm : List Nat
  ready : Bool
  de : Nat
  tx : Nat

/-- The telemetry entries of period i: indices 0 to 33 in turn, four a period (R131; log entry 76). -/
def tlmIndex (i t : Nat) : Nat := (4 * i + t) % 34

/-- The bytes of the up frame on link l, to which `rx` was the last down frame (R128). -/
def Node.upBytes (k : Node) (l n : Nat) (rx : Option (Nat × Nat)) (x : NodeSenses) : List Byte :=
  let vdc := if k.reg 0x18 = 0 then none else x.vdc
  let body := toLE 1 2 ++ toLE 1 l ++ toLE 1 n ++ toLE 1 (k.pflags x.ready) ++ toLE 4 k.index ++ toLE 4 (k.turn rx x.tx) ++
    toLE 4 k.trip ++ toLE 4 k.senseFail ++ toLE 4 (k.deMask x.de) ++ toLE 1 k.badDn ++ toLE 1 k.missed ++
    toLE 1 (if vdc.isNone then 1 else 0) ++ toLE 5 0 ++ k.samples.flatMap (toLE 2) ++ toLE 2 (vdc.getD 0) ++
    toLE 2 (k.sample 0x19 x.vout) ++ (List.range 6).flatMap (fun g => toLE 2 (k.sample (if g < 3 then 0x1A else 0x1B) (nth 0 x.grid g))) ++
    toLE 8 (match k.reply with | some m => mgmtWord m | none => 0) ++
    (List.range 4).flatMap (fun t => toLE 2 (tlmIndex k.index t) ++ toLE 4 (nth 0 x.tlm t) ++ toLE 2 0)
  body ++ toLE 4 (crc32 body)

/-- `n` fresh free values of `w` bits. -/
def State.freshList (s : State) (n w : Nat) : List Nat × State :=
  ((List.range n).map (fun i => Config.freeNat (s.freeCtr + i) % 2 ^ w), { s with freeCtr := s.freeCtr + n })

/-- What the sensors of a node give. -/
def State.senses (s : State) : NodeSenses × State :=
  let (x, s) := s.freshList 48 32
  ({ iph := (x.take 32).map (· % 65536), vdc := if nth 0 x 32 < 2 ^ 31 then some (nth 0 x 33 % 65536) else none
     vout := nth 0 x 34, grid := (x.drop 35).take 6, tlm := (x.drop 41).take 4, ready := nth 0 x 45 % 2 == 1, de := nth 0 x 46
     tx := nth 0 x 47 }, s)

/-- The period of node n ends; it samples at the start of the next and forms its up frame on each link of pier n. A node that has
never had a valid frame keeps no period of its own, and forms none. -/
def State.nodePeriod (s : State) (n : Nat) : State :=
  let (x, s) := s.senses
  s.modNode n (fun k =>
    let k := (k.apply).takeSamples x.iph
    let up (use : Nat) (rx : Option (Nat × Nat)) : List Byte :=
      match s.pierLink n use with
      | some l => if k.tUs = 0 then [] else k.upBytes l n rx x
      | none => []
    { k with upP := up 1 k.rxP, upS := up 2 k.rxS, reply := none })

/-- The periods of all nodes end, those of the nodes that PIER_MISSING_FRAME has ended already excepted (R137, R149). -/
def State.nodePeriods (s : State) : State :=
  forEach (List.range 12) s (fun s n =>
    if (s.node n).ended then s.modNode n (fun k => { k with ended := false }) else s.nodePeriod n)

/-- R135 to R137: no copy of the period's frame was valid by the period's end at the node. -/
def execPierMissingFrame (n : Fin 12) (s : State) : Out :=
  .next (if (s.node n).gotK then s else (s.nodePeriod n).modNode n (fun k => { k with ended := true }))

/-- R145. -/
def execPierBroadcastRx (n : Fin 12) (s : State) : Out := .next (s.modNode n Node.lower)

/-- R143: the gates are off and LOWERED is set. -/
def execPierLowerDone (n : Fin 12) (s : State) : Out :=
  .next (if (s.node n).lowering then
    s.modNode n (fun k => { k with lowering := false, lowered := true, ramp := [], inForce := allOffWords, cycle := allOffWords })
  else s)

/-- R148: the phase is off at once. -/
def execPierLocalTrip (n : Fin 12) (p : Fin 32) (s : State) : Out :=
  .next (s.modNode n (fun k => { k with trip := mset k.trip p true, tripOff := mset k.tripOff p false
                                        inForce := updAt k.inForce p (fun _ => cmdWord 2 0 0)
                                        cycle := updAt k.cycle p (fun _ => cmdWord 2 0 0) }))

/-! ### Twin links -/

def State.modTwin (s : State) (t : Nat) (f : Link → Link) : State :=
  { s with spn := { s.spn with twins := updAt s.spn.twins t f } }

/-- A twin frame is whole: TYPE 0x03, a payload of at most 1,024 B, CRC right (R132, R160). -/
def twinValid (b : List Byte) : Bool :=
  24 + 12 ≤ b.length && b.length ≤ 1024 + 24 + 12 && leAt b 0 1 == 3 && leAt b (b.length - 4) 4 == crc32 (b.take (b.length - 4))

/-- Mean delay of a twin link (R161). -/
def State.measureTwin (s : State) (t interval turn : Nat) : State :=
  if turn = 0xFFFFFFFF ∨ interval < turn then s
  else
    let ds := ((interval - turn) :: (nth {} s.spn.twins t).delays).take 64
    let s := s.modTwin t (fun k => { k with delays := ds })
    let mean : Rat := ((ds.foldl (· + ·) 0 : Nat) : Rat) / ((2 * ds.length : Nat) : Rat)
    (s.putU (Fld.TWL_LINK_DELAY_DELAY t) (roundFree mean)).putB (Fld.TWL_LINK_STAT_DLY_OK t) (ds.length = 64)

/-- The follower's site time moves towards the master's frame time; `clock` is its own at the frame's start (R139, R161). -/
def State.followTime (s : State) (target clock : Nat) : State :=
  let (free, s) := s.fresh 64
  let d := if clock ≤ target then target - clock else clock - target
  let now := s.siteNs * 65536 + s.siteFrac
  let moved := free % (d + 1)
  let t := if clock ≤ target then now + moved else now - moved
  let run := if d < 2 * 65536 then satInc 16 s.spn.twinRun else 0
  { s with siteNs := t / 65536, siteFrac := t % 65536
           spn := { s.spn with twinRun := run, twinLock := if 4 * 65536 < d then false else if run = 16 then true else s.spn.twinLock } }

/-- A twin frame of TYPE 3 with `field` at offset 0x12: LINK_DELAY of the master, TURN of the follower (R117, R160). -/
def State.twinBytes (s : State) (t tNs frac field : Nat) (payload : List Byte) : List Byte :=
  let body := toLE 1 3 ++ toLE 1 t ++ toLE 2 0 ++ toLE 4 s.kst.period ++ toLE 8 tNs ++ toLE 2 frac ++ toLE 4 field ++
    toLE 2 s.periodUs ++ toLE 8 0 ++ payload.take 1024
  body ++ toLE 4 (crc32 body)

/-- TURN of the follower: from the arrival of the master's frame SEQ−1 to `now`, in fine steps (R160). -/
def State.twinTurn (s : State) (t now : Nat) : Nat :=
  let r := nth {} s.spn.twinRx t
  if r.valid && (r.seq + 1) % 2 ^ 32 == s.kst.period % 2 ^ 32 then (now - r.atT) * 384 / 655360 else 0xFFFFFFFF

/-- The frame of the period leaves on twin link t, `dt` ns after the period start, a free number (R115, R160). -/
def State.sendTwin (s : State) (t : Nat) : State :=
  if s.twinUse t = 0 ∨ !s.bit (Fld.TWL_LINK_CTRL_EN t) ∨ !s.bit (Fld.TWL_LINK_STAT_SYNC t) ∨ s.bit (Fld.TWL_LINK_CTRL_LOOP t) ∨
      s.bit (Fld.TWL_LINK_CTRL_PRBS t) then s
  else
    let (dt, s) := s.freshBelow (s.periodUs * 1000)
    let (fr, s) := s.fresh 16
    let now := (s.siteNs + dt) * 65536 + fr
    let field := if s.twinUse t = 1 then s.get (Fld.TWL_LINK_DELAY_DELAY t) else s.twinTurn t now
    let b := s.twinBytes t (s.siteNs + dt) fr field s.arc.txRec
    let s := s.modTwin t (fun k => { k with lastSent := b, sentDown := true, stream := frameStream b })
    if s.arc.txRec = [] then s else { s with arc := { s.arc with sentRec := true } }

/-- The payload of a twin frame. -/
def twinPayload (b : List Byte) : List Byte := (b.drop 0x20).take (b.length - 0x24)

/-- What a whole twin frame gives apart from its Arch record: the link's measurement at the master, site time at the follower, which takes
TW1 only where TW0 gives nothing (R160, R161). -/
def State.takeTwin (s : State) (t : Nat) (bytes : List Byte) (timer : Nat) : State :=
  let s := { s with spn := { s.spn with twinRx := updAt s.spn.twinRx t (fun _ =>
    { payload := twinPayload bytes, seq := leAt bytes 4 4, atT := timer, got := true, valid := true }) } }
  let s := s.putB (Fld.TWL_LINK_STAT_ACTIVE t) true
  if s.twinUse t = 1 then s.measureTwin t timer (leAt bytes 0x12 4)
  else if t = 0 ∨ !(nth ({} : Twin) s.spn.twinRx 0).valid then s.followTime (frameTime bytes) timer
  else s

/-- R29: every up frame that is not complete is missing; the frames of the period leave on the twin links. -/
def execSampleCutoff (s : State) : Out :=
  .next (if s.kst.cutoff then s
    else
      let s := forEach (List.range 12) s State.cutLink
      forEach (List.range 2) { s with kst := { s.kst with cutoff := true } } State.sendTwin)

end Sys2Proof.Machine
end

