-- ==== Sys2Proof/Machine/Phase.lean ====
section
/-! DEFINITION. Interleaved phase control (spec/04). One evaluation takes the pier's decisions in force and gives those of
the next period (R177); they come into force at the period start. -/

namespace Sys2Proof.Machine

/-! ### Quantities of one pier in a period -/

/-- uQ16.16 and sQ15.16 codes as rationals. -/
def q16 (n : Nat) : Rat := (n : Rat) / 65536
def q16i (i : Int) : Rat := (i : Rat) / 65536

/-- The up frame of pier n that this period uses, none where it is missing (R134, R153, R811). -/
def State.pierUp (s : State) (n : Nat) : Option UpFrame :=
  match s.useLink n with
  | some l => if (s.link l).gotUp then some (s.link l).up else none
  | none => none

/-- A phase current in A from its code; none for 0x8000 (R129). -/
def State.amps (s : State) (n code : Nat) : Option Rat :=
  if code = 0x8000 then none else some ((toS 16 code : Rat) / 32768 * q16 (s.pierReg n 7))

/-- Current of phase p in this period. -/
def State.phaseI (s : State) (n p : Nat) : Option Rat := (s.pierUp n).bind (fun u => s.amps n (nth 0x8000 u.iph p))

/-- Fitted phases of pier n in ascending ORDER: the firing list (R167). -/
def State.firing (s : State) (n : Nat) : List Nat :=
  (List.range 32).filterMap (fun o => (List.range 32).find? (fun p => s.fitted n p && s.order n p == o))

/-- The firing list started at the lead (R167). -/
def fromLead (l : List Nat) (lead : Nat) : List Nat :=
  l.dropWhile (· != lead) ++ l.takeWhile (· != lead)

def Pier.ph (q : Pier) (p : Nat) : Phase := nth {} q.phases p
def Pier.mod (q : Pier) (p : Nat) (f : Phase → Phase) : Pier := { q with phases := updAt q.phases p f }

/-- Phases in service in slot order. -/
def State.slotsOf (s : State) (n : Nat) (q : Pier) : List Nat :=
  (fromLead (s.firing n) q.lead).filter (fun p => (q.ph p).st.svc)

/-- Phases that phase control may use: fitted and named by a ROLE 3 slot (R810). -/
def State.usable (s : State) (n p : Nat) : Bool := s.fitted n p && (s.phaseSlot n p).isSome

/-- Available phases (R172, R810). -/
def State.availOf (s : State) (n : Nat) (q : Pier) : List Nat :=
  (List.range 32).filter (fun p => s.usable n p && (q.ph p).st.avail)

/-- The temperature that counts: TEMP_MAX when none was reported or the last is 64 periods old (R200). -/
def State.thetaOf (s : State) (n p : Nat) (ph : Phase) : Int :=
  match ph.theta with
  | some t => if ph.age < 64 then t else s.tMax n p
  | none => s.tMax n p

/-- Usable I_MAX in A (R200). -/
def State.usableI (s : State) (n p : Nat) (ph : Phase) : Rat :=
  let t := s.thetaOf n p ph
  let i := q16 (s.iMax n p)
  if t ≤ s.tWarn n p then i
  else if t < s.tMax n p then i * ((s.tMax n p - t : Int) : Rat) / ((s.tMax n p - s.tWarn n p : Int) : Rat)
  else 0

/-- Sum of the currents of the listed phases. -/
def State.sumI (s : State) (n : Nat) (l : List Nat) : Rat := (l.filterMap (s.phaseI n)).foldl (· + ·) 0

def absR (x : Rat) : Rat := if x < 0 then -x else x

/-- Mean of the values present in the first k entries of a window (R811). -/
def meanOf (w : List (Option Rat)) (k : Nat) : Option Rat :=
  let v := (w.take k).filterMap id
  if v = [] then none else some (v.foldl (· + ·) 0 / ((v.length : Nat) : Rat))

/-- Mean I_MAX of the listed phases, A. -/
def State.meanIMax (s : State) (n : Nat) (l : List Nat) : Rat :=
  if l = [] then 0 else (l.foldl (fun a p => a + q16 (s.iMax n p)) 0) / ((l.length : Nat) : Rat)

/-! ### Slots of the outlet, and the pier reference (R173, R214) -/

/-- The slot in force for outlet m under the latched MODE (R213). -/
def State.slotInForce (s : State) (m : Nat) : Option Slot :=
  s.kst.slots.find? (fun k => s.slotOutlet k == m && s.slotRole k == (if (s.out m).mode then 2 else 1))

/-- Converter current reference of outlet m in A. -/
def State.outRefA (s : State) (m : Nat) : Rat :=
  match s.slotInForce m with
  | some k => ((s.out m).ref : Rat) / 2 ^ 28 * q16 (s.prog k 0x20 4)
  | none => 0

/-- Pier reference in A: the outlet's reference times the share, or the value that replaces it (R214, R284, R652). -/
def State.pierRef (s : State) (n : Nat) : Rat :=
  match (nth ({} : ArcPier) s.arc.piers (s.cPier n)).ovr with
  | some x => x
  | none => match s.pierOutlet n with
    | some m => s.outRefA m * (s.get (Fld.KST_PIER_SHARE_SHARE n) : Rat) / 32768
    | none => 0

/-- Reference of phase p: the pier reference × w_p / Σw, within the usable I_MAX (R173). -/
def State.phaseRef (s : State) (n p : Nat) : Rat :=
  let q := s.pier n
  let sw := ((List.range 32).filter (fun p => (q.ph p).st.svc)).foldl (fun a p => a + (q.ph p).w) 0
  if sw = 0 then 0
  else
    let r := s.pierRef n * (q.ph p).w / sw
    let m := s.usableI n p (q.ph p)
    max (-m) (min r m)

/-! ### Offsets, glide, rotation -/

/-- Target offset of slot i of k (R168): halves rounded up. -/
def targetOff (nsw i k : Nat) : Nat := if k = 0 then 0 else (2 * i * nsw + k) / (2 * k)

/-- Shorter signed distance modulo N_SW; half a cycle counts as positive (R191). -/
def glideDistOf (nsw frm tgt : Nat) : Int :=
  let d := if nsw = 0 then 0 else (tgt + nsw - frm % nsw) % nsw
  if 2 * d ≤ nsw then (d : Int) else (d : Int) - nsw

/-- A glide starts towards the present targets; phases in `fresh` stand at theirs at once (R185, R191, R192). -/
def State.startGlide (s : State) (n : Nat) (q : Pier) (fresh : List Nat) : Pier :=
  let sl := s.slotsOf n q
  let nsw := s.nSw n
  let steps := max 1 (s.get (Fld.PHS_PIER_TIMING_ROT_STEPS n))
  let q := { q with glideLeft := steps, glideLen := steps }
  sl.zipIdx.foldl (fun q x =>
    let t := targetOff nsw x.2 sl.length
    q.mod x.1 (fun ph =>
      if fresh.contains x.1 then { ph with off := t, glideFrom := t, glideDist := 0 }
      else { ph with glideFrom := ph.off, glideDist := glideDistOf nsw ph.off t })) q

/-- The lead moves to the next phase in service along the firing list (R189); the rotation interval restarts (R190). -/
def State.moveLead (s : State) (n : Nat) (q : Pier) : Pier :=
  let rest := (fromLead (s.firing n) q.lead).drop 1
  { q with lead := ((rest.find? (fun p => (q.ph p).st.svc)).getD q.lead), rotCnt := 0, rotDue := false }

/-- One glide step (R191); at the last one the dwell is loaded when the glide followed a shed or an admission (R184). -/
def State.stepGlide (s : State) (n : Nat) (q : Pier) : Pier × Bool :=
  if q.glideLeft = 0 then (q, false)
  else
    let left := q.glideLeft - 1
    let done := q.glideLen - left
    let nsw : Int := s.nSw n
    let q := { q with glideLeft := left, phases := q.phases.map (fun ph =>
      if ph.st.svc then
        let x := (ph.glideFrom : Int) + (2 * ph.glideDist * done + q.glideLen) / (2 * (q.glideLen : Int))
        { ph with off := (if nsw = 0 then x else x % nsw).toNat }
      else ph) }
    if left = 0 then
      ({ q with dwell := if q.glideLoads then s.get (Fld.PHS_PIER_DWELL_SHED_DWELL n) else q.dwell
                glideLoads := false }, true)
    else (q, false)

/-! ### Detection and removal (R196 to R200) -/

/-- The phase's open-phase test holds in this period. -/
def State.openTest (s : State) (n : Nat) (q : Pier) (p : Nat) : Bool :=
  let ph := q.ph p
  let others := ((List.range 32).filter (fun x => x != p && (q.ph x).st.svc)).filterMap (s.phaseI n)
  match s.phaseI n p with
  | none => false
  | some i =>
    if others = [] || !ph.st.svc || ph.de then false
    else
      let m := absR (others.foldl (· + ·) 0 / ((others.length : Nat) : Rat))
      decide (absR i < m / 10) && decide (q16 (s.iMax n p) / 5 < m)

/-- Mean phase current of the pier over its phases in service. -/
def State.meanI (s : State) (n : Nat) (q : Pier) : Rat :=
  let l := ((List.range 32).filter (fun p => (q.ph p).st.svc)).filterMap (s.phaseI n)
  if l = [] then 0 else l.foldl (· + ·) 0 / ((l.length : Nat) : Rat)

/-- The running counts of the open-phase and stuck-sense tests of a phase after this period (R196). -/
def State.countTests (s : State) (n : Nat) (q : Pier) (u : UpFrame) (p : Nat) (ph : Phase) : Phase :=
  let code := nth 0 u.iph p
  let ph := { ph with openCnt := if s.openTest n q p then satInc 255 ph.openCnt else 0 }
  if ph.st.svc ∧ code = ph.lastCode ∧ 0 < ph.stuckCnt then { ph with stuckCnt := satInc 255 ph.stuckCnt }
  else { ph with stuckCnt := 1, lastCode := code }

/-- The pier's mean phase current has changed by more than 2 % of I_FS over the last k periods (R196): its largest and smallest value
there differ by more (log entry 46). -/
def State.meanMoved (s : State) (n : Nat) (q : Pier) (k : Nat) : Bool :=
  match q.mWin.take k with
  | [] => false
  | x :: l => decide (q16 (s.pierReg n 7) / 50 < l.foldl max x - l.foldl min x)

/-- Cause of a removal found in this period, in the order of R812; 0 none. A detection already given counts with the tests. -/
def State.causeOf (s : State) (n : Nat) (q : Pier) (u : UpFrame) (p : Nat) (ph : Phase) : Nat :=
  let stuck := s.get (Fld.PHS_PIER_DWELL_STUCK_DWELL n)
  if u.trip.testBit p then 4
  else if u.senseFail.testBit p || nth 0 u.iph p == 0x8000 then 2
  else if ph.st.svc && (ph.pend == 3 || (decide (stuck ≤ ph.stuckCnt) && s.meanMoved n q stuck)) then 3
  else if ph.st.svc && (ph.pend == 1 || decide (s.get (Fld.PHS_PIER_DWELL_OPEN_DWELL n) ≤ ph.openCnt)) then 1
  else 0

/-- A phase leaves service as OUT, HOT or FAULTED. -/
def Phase.leave (ph : Phase) (st : PhState) (stamp : Nat) : Phase :=
  { ph with st := st, w := 0, rising := false, de := false, outStamp := stamp, openCnt := 0, stuckCnt := 0 }

/-- Detections of this period remove phases (R196, R197); a FAULTED phase whose FAULT bit firmware has cleared sets it again while a
reported cause is present (R198). Phases that no slot names stay OUT (R810). -/
def State.removeFaulted (s : State) (n : Nat) (q : Pier) (u : UpFrame) : Pier :=
  let base := q
  (List.range 32).foldl (fun q p =>
    if !s.usable n p then q
    else
      let ph := s.countTests n base u p (q.ph p)
      let c := s.causeOf n base u p ph
      let cleared := !(s.get (Fld.PHS_PIER_FAULT_FAULT n)).testBit p
      if ph.st = .faulted then
        q.mod p (fun _ => { ph with pend := if cleared then c else 0, clearing := if cleared ∧ c ≠ 0 then 0 else ph.clearing })
      else if c = 0 then q.mod p (fun _ => { ph with pend := 0 })
      else q.mod p (fun _ => { ph.leave .faulted q.outCtr with pend := c })) q

/-- A FAULTED phase whose bit was cleared is OFF for one more period and then OUT (R198). -/
def State.endClearing (s : State) (n : Nat) (q : Pier) : Pier :=
  (List.range 32).foldl (fun q p =>
    let ph := q.ph p
    if ph.st = .faulted ∧ ph.pend = 0 ∧ 0 < ph.clearing ∧ !(s.get (Fld.PHS_PIER_FAULT_FAULT n)).testBit p then
      if ph.clearing = 1 then
        { (q.mod p (fun ph => { ph.leave .out q.outCtr with clearing := 0 })) with outCtr := q.outCtr + 1 }
      else q.mod p (fun ph => { ph with clearing := ph.clearing - 1 })
    else q) q

/-- Phases at or above TEMP_MAX enter HOT; HOT ones below TEMP_WARN return to OUT (R200). Phases that no slot names stay OUT
(R810). -/
def State.thermal (s : State) (n : Nat) (q : Pier) : Pier :=
  (List.range 32).foldl (fun q p =>
    if !s.usable n p then q
    else
      let ph := q.ph p
      let t := s.thetaOf n p ph
      match ph.st with
      | .faulted => q
      | .hot =>
        if t < s.tWarn n p then { (q.mod p (fun ph => ph.leave .out q.outCtr)) with outCtr := q.outCtr + 1 } else q
      | _ => if s.tMax n p ≤ t then q.mod p (fun ph => ph.leave .hot q.outCtr) else q) q

/-! ### Admission and shed -/

/-- The OUT phase that has been out longest (R185). -/
def State.longestOut (s : State) (n : Nat) (q : Pier) : Option Nat :=
  let l := (s.availOf n q).filter (fun p => (q.ph p).st == .out)
  let best := l.foldl (fun m p => min m (q.ph p).outStamp) (l.foldl (fun m p => max m (q.ph p).outStamp) 0)
  l.find? (fun p => (q.ph p).outStamp == best)

/-- The listed OUT phases enter ADMIT as one event, and the lead moves (R185, R189); `stepWeights` gives them their first weight. -/
def State.admitted (s : State) (n : Nat) (q : Pier) (l : List Nat) : Pier :=
  if l = [] then q
  else
    s.moveLead n (l.foldl (fun q p => q.mod p (fun ph => { ph with st := .admitted, w := 0, rising := false, de := false })) q)

/-- The weights of ramping and admitted phases move by one step (R183, R185, R193); true when a shed completes. -/
def State.stepWeights (s : State) (n : Nat) (q : Pier) : Pier × Bool :=
  let up : Rat := 1 / ((max 1 (s.get (Fld.PHS_PIER_TIMING_ADMIT_RAMP n)) : Nat) : Rat)
  let dn : Rat := 1 / ((max 1 (s.get (Fld.PHS_PIER_SHED_SHED_RAMP n)) : Nat) : Rat)
  (List.range 32).foldl (fun (x : Pier × Bool) p =>
    let ph := x.1.ph p
    let rise := if 1 ≤ ph.w + up then (x.1.mod p (fun ph => { ph with st := .inn, w := 1, rising := false }), x.2)
      else (x.1.mod p (fun ph => { ph with w := ph.w + up }), x.2)
    match ph.st with
    | .ramp =>
      if ph.rising then rise
      else if ph.w - dn ≤ 0 then
        ({ (x.1.mod p (fun ph => ph.leave .out x.1.outCtr)) with outCtr := x.1.outCtr + 1 }, true)
      else (x.1.mod p (fun ph => { ph with w := ph.w - dn }), x.2)
    | .admitted => rise
    | _ => x) (q, false)

/-- A shed is announced for the phase in service with the highest slot and NO_SHED 0 (R182, R183): from the next period on it is in
RAMP, and `stepWeights` lowers its weight from where it stands. -/
def State.announceShed (s : State) (n : Nat) (q : Pier) : Option Pier :=
  match ((s.slotsOf n q).reverse).find? (fun p => !s.noShed n p) with
  | none => none
  | some p => some (q.mod p (fun ph => { ph with st := .ramp, rising := false }))

/-! ### Diode emulation (R179, R180) -/

/-- R179, R180; with the up frame missing the tests of means are skipped (R811). -/
def State.updateDe (s : State) (n : Nat) (q : Pier) (step : Bool) : Pier :=
  let k := 2 ^ min 8 (s.get (Fld.PHS_PIER_STEP_DE_AVG n))
  let en := s.bit (Fld.PHS_PIER_CTRL_DE_EN n)
  let th : Rat := (s.get (Fld.PHS_PIER_DE_DE_THRESH n) : Rat) / 256
  let hy : Rat := (s.get (Fld.PHS_PIER_DE_DE_HYST n) : Rat) / 256
  let pm := meanOf q.sWin k
  { q with phases := q.phases.map (fun ph =>
    if !ph.st.svc || ph.st == .admitted || step || !en then { ph with de := false }
    else match (if (s.pierUp n).isSome then pm else none), meanOf ph.iWin k with
      | some a, some i => if ph.de then { ph with de := !(decide (th + hy < i) || decide (a < 0)) }
          else { ph with de := decide (0 ≤ a) && decide (i < th) }
      | _, _ => ph) }

/-! ### One evaluation (R178) -/

/-- Event bits of PHS_PIERn_EVT gathered by an evaluation. -/
structure PhsEvt where
  shedAnn : Bool := false
  admitted : Bool := false
  abort : Bool := false
  rotate : Bool := false
  glideDone : Bool := false
deriving DecidableEq, Repr

/-- What the choice of R178 does: the pier, its events, and the phases admitted. -/
structure PhsChoice where
  q : Pier
  e : PhsEvt := {}
  fresh : List Nat := []

/-- The listed phases are admitted. -/
def State.admitPhases (s : State) (n : Nat) (q : Pier) (l : List Nat) : PhsChoice :=
  { q := s.admitted n q l, e := { admitted := decide (l ≠ []), rotate := decide (l ≠ []) }, fresh := l }

/-- A load step of R193, or the act of R187: a shed is aborted, diode emulation ends, OUT phases are admitted. -/
def State.loadStep (s : State) (n : Nat) (q : Pier) : PhsChoice :=
  let ramping := q.phases.any (fun ph => ph.st == .ramp && !ph.rising)
  let q := { q with phases := q.phases.map (fun (ph : Phase) => { ph with de := false, rising := ph.rising || ph.st == .ramp }) }
  let outs := (s.availOf n q).filter (fun p => (q.ph p).st == .out)
  let all := s.bit (Fld.PHS_PIER_CTRL_STEP_ALL n)
  let c := s.admitPhases n q (if all then outs else (s.longestOut n q).toList)
  { c with q := { c.q with stepSeq := c.q.stepSeq || (!all && decide (1 < outs.length)) }, e := { c.e with abort := ramping } }

/-- Record of this period's currents in the windows (R178, R179, R811). -/
def State.recordI (s : State) (n : Nat) (q : Pier) : Pier :=
  let svc := (List.range 32).filter (fun p => (q.ph p).st.svc)
  let some? := (s.pierUp n).isSome
  let sum := s.sumI n svc
  { q with
    iWin := ((if some? then some (absR sum) else none) :: q.iWin).take (max 1 (s.get (Fld.PHS_PIER_DWELL_SHED_DWELL n)))
    sWin := ((if some? then some sum else none) :: q.sWin).take 256
    mWin := if some? then (s.meanI n q :: q.mWin).take 255 else q.mWin
    phases := (List.range 32).map (fun p =>
      { (q.ph p) with iWin := ((if some? then s.phaseI n p else none) :: (q.ph p).iWin).take 256 }) }

/-- The pier's current-error test of R193, A against STEP_THRESH (uQ12.4). -/
def State.errStep (s : State) (n : Nat) (q : Pier) : Bool :=
  (s.pierUp n).isSome &&
  decide ((s.get (Fld.PHS_PIER_STEP_STEP_THRESH n) : Rat) / 16 <
    absR (s.pierRef n - s.sumI n ((List.range 32).filter (fun p => (q.ph p).st.svc))))

/-- The shed test: i_dwell / (n_svc − 1) < SHED_FRAC × imax (R178). -/
def State.shedTest (s : State) (n : Nat) (q : Pier) (nSvc : Nat) (imax : Rat) : Bool :=
  match meanOf q.iWin (s.get (Fld.PHS_PIER_DWELL_SHED_DWELL n)) with
  | some d => decide (d / ((nSvc - 1 : Nat) : Rat) < (s.get (Fld.PHS_PIER_SHED_SHED_FRAC n) : Rat) / 256 * imax)
  | none => false

/-- The choice of R178 after removals: load step, minimum count, admission, shed. `gliding`: a glide runs or has been started. -/
def State.choose (s : State) (n : Nat) (q : Pier) (step gliding : Bool) : PhsChoice :=
  let svc := s.slotsOf n q
  let nSvc := svc.length
  let nAvail := (s.availOf n q).length
  let nMin := s.get (Fld.PHS_PIER_SHED_N_MIN n)
  let imax := s.meanIMax n svc
  let i := absR (s.sumI n svc)
  let have? := (s.pierUp n).isSome
  let one := (s.longestOut n q).toList
  if step then
    let c := s.loadStep n q
    { c with q := { c.q with holdoff := s.get (Fld.PHS_PIER_TIMING_HOLDOFF n) } }
  else if q.shedOff then s.loadStep n q
  else if q.stepSeq ∧ one ≠ [] then s.admitPhases n q one
  else if nSvc < min nMin nAvail ∧ one ≠ [] then s.admitPhases n q one
  else if have? ∧ nSvc < nAvail ∧ one ≠ [] ∧ 0 < nSvc ∧
      ((s.get (Fld.PHS_PIER_SHED_ADMIT_FRAC n) : Rat) / 256 * imax < i / (nSvc : Rat)) then s.admitPhases n q one
  else if s.bit (Fld.PHS_PIER_CTRL_SHED_EN n) ∧ have? ∧ q.holdoff = 0 ∧ q.dwell = 0 ∧
      !q.phases.any (fun ph => ph.st == .ramp) ∧ !gliding ∧ nMin < nSvc ∧ 1 < nSvc ∧
      s.shedTest n q nSvc imax then
    match s.announceShed n q with
    | some q => { q := q, e := { shedAnn := true } }
    | none => { q := q }
  else { q := q }

/-- The pier is held under R171: phases in service go OUT, shed, glide and hold-off are dropped. -/
def State.holdPier (s : State) (n : Nat) (q : Pier) : Pier :=
  let q := { q with held := true, glideLeft := 0, glideLoads := false, holdoff := 0, stepSeq := false, ceilStep := false
                    shedOff := false, rotDue := false }
  let q := (List.range 32).foldl (fun q p =>
    if (q.ph p).st.svc then { (q.mod p (fun ph => ph.leave .out q.outCtr)) with outCtr := q.outCtr + 1 } else q) q
  s.thermal n (s.endClearing n q)

/-- Removals of this period: detections, the end of clearings, and HOT phases (R178, R196, R198, R200). -/
def State.removals (s : State) (n : Nat) (q : Pier) : Pier :=
  s.thermal n (s.endClearing n (match s.pierUp n with | some u => s.removeFaulted n q u | none => q))

/-- The pier starts afresh (R174): every available phase in IN at its target offset, lead of lowest ORDER, dwell loaded, all windows
empty. A phase that its up frame reports as tripped or failed, or that is hot, does not start. -/
def State.restartPier (s : State) (n : Nat) (q : Pier) : Pier :=
  let q := s.removals n q
  let q := (s.availOf n q).foldl (fun q p => q.mod p (fun ph => { ph with st := .inn, w := 1, rising := false, de := false })) q
  let q := { q with held := false, dwell := s.get (Fld.PHS_PIER_DWELL_SHED_DWELL n), glideLeft := 0, rotCnt := 0
                    iWin := [], sWin := [], mWin := [], phases := q.phases.map (fun (ph : Phase) => { ph with iWin := [] }) }
  let q := { q with lead := ((s.firing n).find? (fun p => (q.ph p).st.svc)).getD 0 }
  let sl := s.slotsOf n q
  sl.zipIdx.foldl (fun q x => q.mod x.1 (fun ph => { ph with off := targetOff (s.nSw n) x.2 sl.length })) q

/-- The rotation interval counts this period; rotation is due once it has run, while ROT_EN is 1 (R190). -/
def State.countRot (s : State) (n : Nat) (q : Pier) : Pier :=
  let iv := s.get Fld.PHS_ROT_INTERVAL
  let cnt := satInc (2 ^ 20) q.rotCnt
  { q with rotCnt := cnt, rotDue := s.bit (Fld.PHS_PIER_CTRL_ROT_EN n) && (q.rotDue || (iv != 0 && decide (iv ≤ cnt))) }

/-- The decisions for the next period of a pier that runs, in the order of R178. The lead moves at each removal (R189). -/
def State.runPier (s : State) (n : Nat) (q0 : Pier) : Pier × PhsEvt :=
  let q := s.countRot n (s.recordI n q0)
  let before := (List.range 32).filter (fun p => (q.ph p).st.svc)
  let ramped := before.filter (fun p => (q.ph p).st == .ramp && !(q.ph p).rising)
  let step := s.errStep n q || q.ceilStep
  let ends := step || q.shedOff
  let q := s.removals n q
  let gone := before.filter (fun p => !(q.ph p).st.svc)
  let q := gone.foldl (fun q _ => s.moveLead n q) q
  let c := s.choose n q step (decide (q.glideLeft ≠ 0) || gone != [])
  let q := { c.q with ceilStep := false, shedOff := false }
  let q := { q with stepSeq := q.stepSeq && (s.longestOut n q).isSome }
  let rot := q.rotDue && q.glideLeft == 0 && gone == [] && c.fresh == [] && !(q.phases.any (fun ph => ph.st == .ramp))
  let q := if rot then s.moveLead n q else q
  let w := s.stepWeights n q
  let q := if w.2 then s.moveLead n w.1 else w.1
  let loads := w.2 || c.fresh != [] || ramped.any (fun p => gone.contains p)
  let q := if rot || w.2 || gone != [] || c.fresh != [] then
      { (s.startGlide n q c.fresh) with glideLoads := q.glideLoads || loads } else q
  let q := s.updateDe n q ends
  let g := s.stepGlide n q
  ({ g.1 with holdoff := g.1.holdoff - 1, dwell := g.1.dwell - 1 },
   { c.e with rotate := c.e.rotate || rot || w.2 || gone != [], glideDone := g.2 })

/-- Capacity of a pier in A (R201). -/
def State.capOf (s : State) (n : Nat) (q : Pier) : Rat :=
  if q.held then 0 else (s.availOf n q).foldl (fun a p => a + s.usableI n p (q.ph p)) 0

/-- Least TEMP_MAX − θ over the available phases, 0 when none is (PHS_PIERn_TMARGIN). -/
def State.marginOf (s : State) (n : Nat) (q : Pier) : Int :=
  match s.availOf n q with
  | [] => 0
  | p :: t => t.foldl (fun m p => min m (s.tMax n p - s.thetaOf n p (q.ph p))) (s.tMax n p - s.thetaOf n p (q.ph p))

def maskOf (l : List Nat) : Nat := l.foldl (fun m p => m + 2 ^ p) 0

/-- PHS registers of a pier after an evaluation. -/
def State.showPier (s : State) (n : Nat) (q : Pier) (e : PhsEvt) : State :=
  let svc := (List.range 32).filter (fun p => (q.ph p).st.svc)
  let cap := codeFree (s.capOf n q) 16 0 (2 ^ 32 - 1)
  let s := if (s.get (Fld.PHS_PIER_CAP_CAP n) : Int) = cap then s
    else (s.put (Fld.PHS_PIER_CAP_CAP n) cap.toNat).putB (Fld.PHS_PIER_EVT_CAP_CHG n) true
  let s := s.putS (Fld.PHS_PIER_TMARGIN_MARGIN n) (s.marginOf n q)
  let s := (s.put (Fld.PHS_PIER_STAT_N_SVC n) svc.length).put (Fld.PHS_PIER_STAT_N_AVAIL n) (s.availOf n q).length
  let s := (s.put (Fld.PHS_PIER_STAT_LEAD n) q.lead).putB (Fld.PHS_PIER_STAT_GLIDE n) (q.glideLeft ≠ 0)
  let s := (s.putB (Fld.PHS_PIER_STAT_RAMP n) (q.phases.any (fun ph => ph.st == .ramp && !ph.rising))).putB
    (Fld.PHS_PIER_STAT_HOLDOFF n) (q.holdoff ≠ 0)
  let s := (s.put (Fld.PHS_PIER_SVC_SVC n) (maskOf svc)).put (Fld.PHS_PIER_DEM_DEM n)
    (maskOf ((List.range 32).filter (fun p => (q.ph p).de)))
  let s := (s.put (Fld.PHS_PIER_RAMP_RAMP n) (maskOf ((List.range 32).filter (fun p => (q.ph p).st == .ramp)))).put
    (Fld.PHS_PIER_THERM_HOT n) (maskOf ((List.range 32).filter (fun p => (q.ph p).st == .hot)))
  let setE (s : State) (f : FieldRef) (b : Bool) : State := if b then s.putB f true else s
  let s := setE s (Fld.PHS_PIER_EVT_SHED_ANN n) e.shedAnn
  let s := setE s (Fld.PHS_PIER_EVT_ADMIT n) e.admitted
  let s := setE s (Fld.PHS_PIER_EVT_ABORT n) e.abort
  let s := setE s (Fld.PHS_PIER_EVT_ROTATE n) e.rotate
  setE s (Fld.PHS_PIER_EVT_GLIDE_DONE n) e.glideDone

/-! ### Telemetry (R204 to R206) -/

/-- A peak register after one more value: the largest, or the one of largest magnitude; 0x8000_0000 holds none. -/
def State.peak (s : State) (f : FieldRef) (x : Int) (mag : Bool) : State :=
  let old := s.getS f
  if s.get f = 0x80000000 ∨ (if mag then old.natAbs < x.natAbs else old < x) then s.putS f x else s

/-- One value joins the window sum of quantity k of a phase. -/
def tlmAdd (l : List (Rat × Nat)) (k : Nat) (x : Option Rat) : List (Rat × Nat) :=
  let l := if l.length = 4 then l else List.replicate 4 (0, 0)
  match x with
  | some v => updAt l k (fun a => (a.1 + v, a.2 + 1))
  | none => l

/-- The four values of phase p in this period: V, I, P, T (R204). -/
def State.tlmOf (s : State) (n p : Nat) : List (Option Rat) :=
  let i := s.phaseI n p
  let cond := if ((s.pier n).core).isSome then (s.phase n p).cond else s.frameCond n p
  let frac : Option Rat := if s.nSw n = 0 then none else some ((cond : Rat) / (s.nSw n : Rat))
  let vdc : Option Rat := (s.pierUp n).bind (fun u =>
    if u.sflags % 2 = 1 then none else some ((u.vdc : Rat) / 65536 * q16 (s.pierReg n 8)))
  let v := if i.isSome then (frac.bind (fun f => vdc.map (fun d => f * d))) else none
  [v, i, v.bind (fun v => i.map (fun i => v * i)), ((s.phase n p).theta).map q16i]

/-- Telemetry of every phase in service in this period. -/
def State.telemetry (s : State) (n : Nat) : State :=
  ((List.range 32).filter (fun p => ((s.pier n).ph p).st.svc)).foldl (fun s p =>
    let t := s.tlmOf n p
    let g (k : Nat) : Option Rat := nth none t k
    let s := if (s.pier n).tlmSkip then s else s.modPhase n p (fun ph =>
      { ph with tlm := tlmAdd (tlmAdd (tlmAdd (tlmAdd ph.tlm 0 (g 0)) 1 (g 1)) 2 (g 2)) 3 (g 3) })
    let s := match g 0 with | some v => s.peak (Fld.PHS_PIER_PH_VPK_V n p) (roundFree (v * 65536)) false | none => s
    let s := match g 1 with | some v => s.peak (Fld.PHS_PIER_PH_IPK_I n p) (roundFree (v * 65536)) true | none => s
    let s := match g 2 with | some v => s.peak (Fld.PHS_PIER_PH_PPK_P n p) (roundFree v) true | none => s
    match g 3 with | some v => s.peak (Fld.PHS_PIER_PH_TPK_T n p) (roundFree (v * 65536)) false | none => s) s

/-- Average of a window as a code; 0x8000_0000 where it holds no value (R205). -/
def tlmAvg (x : Rat × Nat) (f : Nat) : Int :=
  if x.2 = 0 then -(2 ^ 31 : Int) else codeFree (x.1 / (x.2 : Rat)) f (-(2 ^ 31 : Int) + 1) (2 ^ 31 - 1)

/-- Periods of a telemetry window (R205). -/
def State.tlmLen (s : State) : Nat := 2 ^ s.get Fld.PHS_TLM_AVG_EXP

/-- A window of pier n ends: its averages update together, and TLMSEQ increments (R205). -/
def State.closeWindow (s : State) (n : Nat) : State :=
  let s := (List.range 32).foldl (fun s p =>
    let t := (s.phase n p).tlm
    let s := s.putS (Fld.PHS_PIER_PH_VAVG_V n p) (tlmAvg (nth (0, 0) t 0) 16)
    let s := s.putS (Fld.PHS_PIER_PH_IAVG_I n p) (tlmAvg (nth (0, 0) t 1) 16)
    let s := s.putS (Fld.PHS_PIER_PH_PAVG_P n p) (tlmAvg (nth (0, 0) t 2) 0)
    let s := s.putS (Fld.PHS_PIER_PH_TAVG_T n p) (tlmAvg (nth (0, 0) t 3) 16)
    s.modPhase n p (fun ph => { ph with tlm := [] })) s
  let s := s.modPier n (fun q => { q with tlmCnt := 0 })
  s.put (Fld.PHS_PIER_TLMSEQ_SEQ n) (s.get (Fld.PHS_PIER_TLMSEQ_SEQ n) + 1)

/-- R205: the window of pier n has held its 2^AVG_EXP periods. -/
def execTelemetryWindowEnd (n : Fin 12) (s : State) : Out :=
  .next (if s.tlmLen ≤ (s.pier n).tlmCnt then s.closeWindow n else s)

/-- The period joins the window of pier n, a full window having ended before it (R204, R205); under R171 no phase is in service, and
the window runs on. -/
def State.telemeter (s : State) (n : Nat) : State :=
  let s := if s.tlmLen ≤ (s.pier n).tlmCnt then s.closeWindow n else s
  let s := if (s.pier n).held || s.heldNow n then s else s.telemetry n
  if (s.pier n).tlmSkip then s else s.modPier n (fun q => { q with tlmCnt := q.tlmCnt + 1 })

/-! ### The commands -/

/-- Slots of pier n that must end before the evaluation (R177). -/
def State.pierSlots (s : State) (n : Nat) : List Slot := s.kst.slots.filter (fun k => s.slotPier k == n)

/-- R202: code 0x25, once while the condition lasts. -/
def State.shortTest (s : State) (n : Nat) (q : Pier) : State :=
  let bad := !q.held && s.pierArmed n &&
    (decide ((s.availOf n q).length < s.get (Fld.PHS_PIER_SHED_N_MIN n)) ||
     (decide (s.capOf n q = 0) && (s.pierOutlet n).isSome))
  let s := s.modPier n (fun x => { x with short := bad })
  if bad && !q.short then s.reportPier 0x25 clsB 0xFF n else s

/-- The evaluation of pier n: from the decisions in force, those of the next period. Made again, it takes back the event bits that
the first one of the period set. -/
def State.evaluate (s : State) (n : Nat) : State :=
  let q := s.pier n
  let was := nth ({} : Pier) s.phs.nxt n
  let ev := Reg.PHS_PIER_EVT n
  let s := if q.done then s.setReg ev (mclr (s.reg ev) (mset was.evtSet 5 false)) else s
  let old := s.reg ev
  let r : Pier × PhsEvt :=
    if s.heldNow n then (s.holdPier n q, {})
    else if q.held then (s.restartPier n q, {})
    else s.runPier n q
  let s := { s with phs := { s.phs with nxt := updAt s.phs.nxt n (fun _ => r.1) } }
  let s := (s.showPier n r.1 r.2).modPier n (fun q => { q with done := true })
  let set := mclr (s.reg ev) old
  ({ s with phs := { s.phs with nxt := updAt s.phs.nxt n (fun q => { q with evtSet := set }) } }).shortTest n r.1

/-- R165 to R203, R810, R811: the evaluation of pier n, after all its slots have ended. -/
def execPhaseControlEvaluation (n : Fin 12) (s : State) : Out :=
  .next (if !s.pierInUse n || (s.pier n).done || !(s.pierSlots n).all Slot.ended then s
    else (s.telemeter n).evaluate n)

/-- At the period start the decisions come into force, and reports age; removals show in FAULT, FLAST and EVT, and each is reported as
Class C (R197, R200, R812). -/
def State.applyPier (s : State) (n : Nat) : State :=
  let q := nth ({} : Pier) s.phs.nxt n
  let gone := (List.range 32).filter (fun p => (q.ph p).pend != 0)
  let q' := { q with core := none, done := false, evtSet := 0, tlmSkip := false
                     phases := q.phases.map (fun ph => { ph with pend := 0, hold := false, age := satInc 64 ph.age }) }
  let s := { s with phs := { cur := updAt s.phs.cur n (fun _ => q'), nxt := updAt s.phs.nxt n (fun _ => q') } }
  match gone with
  | [] => s
  | p :: _ =>
    let s := (s.put (Fld.PHS_PIER_FLAST_PHASE n) p).put (Fld.PHS_PIER_FLAST_CAUSE n) (q.ph p).pend
    let s := (s.put (Fld.PHS_PIER_FAULT_FAULT n) (s.get (Fld.PHS_PIER_FAULT_FAULT n) ||| maskOf gone)).putB
      (Fld.PHS_PIER_EVT_FAULT n) true
    forEach gone s (fun s p => s.reportNone 0x24 clsC p)

/-- The pier is evaluated again where this period's evaluation has been made. -/
def State.reevaluate (s : State) (n : Nat) : State := if (s.pier n).done then s.evaluate n else s

/-- A phase's test has held for its whole dwell in this period: the evaluation of the period, made again if it has been made, removes
the phase with the given cause (R196, R197, R812). None is made under R171 and in a period without an up frame (R171, R811), nor the
open-phase test in DIODE_EMULATION. -/
def State.detect (s : State) (n p cause : Nat) : State :=
  let q := s.pier n
  if !s.usable n p || q.held || s.heldNow n || (s.pierUp n).isNone || !(q.ph p).st.svc || (q.ph p).de && cause == 1 then s
  else ({ s with phs := { s.phs with cur := updAt s.phs.cur n (fun c => c.mod p (fun ph =>
    { ph with pend := if ph.pend = 3 then 3 else cause })) } }).reevaluate n

/-- R196, cause 1. -/
def execOpenPhaseDetect (n : Fin 12) (p : Fin 32) (s : State) : Out := .next (s.detect n p 1)
/-- R196, cause 3. -/
def execStuckSenseDetect (n : Fin 12) (p : Fin 32) (s : State) : Out := .next (s.detect n p 3)

/-- R194: the hold-off counter reaches zero. -/
def execHoldoffEnd (n : Fin 12) (s : State) : Out :=
  .next ((s.modPier n (fun q => { q with holdoff := 0 })).putB (Fld.PHS_PIER_STAT_HOLDOFF n) false)

/-- R184: the post-shed dwell reaches zero. -/
def execDwellEnd (n : Fin 12) (s : State) : Out := .next (s.modPier n (fun q => { q with dwell := 0 }))

/-- R190: rotation is due, unless ROT_EN or INTERVAL is 0; the next evaluation rotates once no ramp or glide runs. -/
def execRotationIntervalExpiry (n : Fin 12) (s : State) : Out :=
  .next (if s.bit (Fld.PHS_PIER_CTRL_ROT_EN n) && s.get Fld.PHS_ROT_INTERVAL != 0 then
    s.modPier n (fun q => { q with rotDue := true }) else s)

/-- R200: no temperature for 64 periods: treated as at TEMP_MAX. -/
def execTempReportTimeout (n : Fin 12) (p : Fin 32) (s : State) : Out :=
  .next (s.modPhase n p (fun ph => { ph with age := 64 }))

/-! ### Writes of PHS registers (the level of R94 has been applied to `v`) -/

/-- PHS_PIERn_CTRL: SHED_EN written 0 acts as a load step without hold-off (R187). -/
def State.wrPhsCtrl (s : State) (n v : Nat) : State :=
  let s := s.writeByCode (Reg.PHS_PIER_CTRL n) v
  if v / 2 % 2 = 0 then s.modPier n (fun q => { q with shedOff := true }) else s

/-- PHS_PIERn_SHED: ignored as a whole when ADMIT_FRAC would not exceed SHED_FRAC or N_MIN would be 0 (R188). -/
def State.wrPhsShed (s : State) (n v : Nat) : State :=
  if v / 2 ^ 16 % 256 ≤ v / 2 ^ 24 % 256 ∨ v % 64 = 0 then s else s.writeByCode (Reg.PHS_PIER_SHED n) v

/-- PHS_PIERn_FAULT: a cleared phase stays OFF for one more period and then enters OUT (R198). -/
def State.wrPhsFault (s : State) (n v : Nat) : State :=
  let clr := s.get (Fld.PHS_PIER_FAULT_FAULT n) &&& v
  let s := s.writeByCode (Reg.PHS_PIER_FAULT n) v
  (s.modPier n (fun q => { q with phases := (List.range 32).map (fun p =>
    if clr.testBit p then { (q.ph p) with clearing := 2 } else q.ph p) })).reevaluate n

/-- PHS_TLM: the windows in progress are discarded, and new ones start in the next period (R208). -/
def State.wrPhsTlm (s : State) (v : Nat) : State :=
  let s := s.writeByCode Reg.PHS_TLM v
  forEach (List.range 12) s (fun s n => s.modPier n (fun q =>
    { q with tlmCnt := 0, tlmSkip := !q.done, phases := q.phases.map (fun ph => { ph with tlm := [] }) }))

end Sys2Proof.Machine
end

