-- ==== Sys2Proof/Machine/Keystone.lean ====
section
/-! DEFINITION. Keystone engines (spec/05): the control law, references and the outlet ceiling, lost feedback, supervision,
engines and spare, banks and swaps. Codes are sQ3.28 unless said otherwise. -/

namespace Sys2Proof.Machine

def State.modSlot (s : State) (e p : Nat) (f : Slot → Slot) : State :=
  { s with kst := { s.kst with slots := s.kst.slots.map (fun k => if k.engine == e && k.pos == p then f k else k) } }
def State.slotAt (s : State) (e p : Nat) : Option Slot := s.kst.slots.find? (fun k => k.engine == e && k.pos == p)

/-! ### Stored results (R210, R211) -/

/-- The whole number nearest to a rational, ties away from zero. -/
def roundR (x : Rat) : Int := roundAway x.num x.den

/-- sQ3.28 code of a value, rounded once and saturated, and whether it saturated (R211). -/
def store (x : Rat) : Int × Bool :=
  let r := roundR (x * 2 ^ 28)
  let c := clampI r (-(2 ^ 31 : Int)) (2 ^ 31 - 1)
  (c, decide (c ≠ r))

/-- Value of an sQ3.28 code. -/
def val (c : Int) : Rat := (c : Rat) / 2 ^ 28

/-! ### Coefficients (R226) -/

/-- Bank B is active in the slot's group (KST_ACTIVE). -/
def State.bankB (s : State) (k : Slot) : Bool := (s.get Fld.KST_ACTIVE_BANK).testBit k.group
/-- The active and the inactive bank. -/
def State.actBank (s : State) (k : Slot) : List Nat := if s.bankB k then k.bankB else k.bankA
def State.inactBank (s : State) (k : Slot) : List Nat := if s.bankB k then k.bankA else k.bankB

/-- A coefficient of a bank with `f` fraction bits. -/
def coef (b : List Nat) (i f : Nat) : Rat := (toS 32 (nth 0 b i) : Rat) / (2 ^ f : Nat)

/-! ### Sources (R224) -/

/-- The pier whose up frame carries Truss port q, if a Span sample stands there. -/
def State.portPier (s : State) (q : Nat) : Option Nat :=
  s.piersInUse.find? (fun n => (List.range 40).any (fun i => Config.spanPort n i == q))

/-- A source: its value; `gap` when the up frame carrying it is missing, `bad` for 0x8000 (R224, R244). -/
structure Src where
  v : Int := 0
  gap : Bool := false
  bad : Bool := false
deriving DecidableEq, Repr

def Src.none? (x : Src) : Bool := x.gap || x.bad

/-- A or V (rational) per-unit of the slot's BASE, exact (R217). -/
def State.toUnit (s : State) (k : Slot) (x : Rat) : Rat :=
  let b := q16 (s.prog k 0x20 4)
  if b = 0 then 0 else x / b

/-- The stored code of A or V per-unit of BASE. -/
def State.perUnit (s : State) (k : Slot) (x : Rat) : Int := (store (s.toUnit k x)).1

/-- The value a source descriptor gives in this period (R224). -/
def State.source (s : State) (k : Slot) (d : Nat) : Src :=
  match d / 2 ^ 28 with
  | 1 =>
    let q := d % 2 ^ 14
    let gap := match s.portPier q with | some n => (s.pierUp n).isNone | none => false
    { v := toS 16 (s.port q) * 2 ^ 13, gap := gap, bad := s.port q == 0x8000 }
  | 2 => { v := match s.slotAt (d / 2 ^ 12 % 8) (d % 2 ^ 10) with | some x => x.o | none => 0 }
  | 3 =>
    let o := s.out (d % 8)
    { v := if d / 8 % 2 = 1 then s.perUnit k (q16 o.vset) else s.perUnit k (q16i o.set) }
  | 4 => { v := s.perUnit k (s.phaseRef (d / 2 ^ 8 % 16) (d % 32)) }
  | 5 => { v := toS 32 (nth 0 s.kst.camb (d % 64)) }
  | _ => {}

/-- An input is present (R225, R30). -/
def State.present (s : State) (d : Nat) : Bool :=
  match d / 2 ^ 28 with
  | 1 => match s.portPier (d % 2 ^ 14) with | some n => s.kst.cutoff || (s.pierUp n).isSome | none => true
  | 2 => match s.slotAt (d / 2 ^ 12 % 8) (d % 2 ^ 10) with | some x => x.ended | none => true
  | 4 =>
    let n := d / 2 ^ 8 % 16
    if (nth ({} : ArcPier) s.arc.piers (s.cPier n)).ovr.isSome then s.kst.cutoff || (s.pierUp n).isSome
    else match s.pierOutlet n with | some m => (s.out m).refDone | none => true
  | _ => true

def srcOffs : List Nat := [0x0C, 0x10, 0x14, 0x18, 0x1C]

/-- All inputs of the slot are present. -/
def State.inputsPresent (s : State) (k : Slot) : Bool := srcOffs.all (fun o => s.present (s.prog k o 4))

/-! ### Idle slots (R215) -/

def State.isIdle (s : State) (k : Slot) : Bool :=
  let n := s.slotPier k
  let m := s.slotOutlet k
  (n != 0xFF && !s.pierArmed n) || (m != 0xFF && !(s.out m).en) ||
  (s.slotRole k == 3 && (!(s.phase n (s.slotPhase k)).st.svc || s.heldNow n || (s.pier n).held)) ||
  (s.slotRole k == 1 && (s.out m).mode) || (s.slotRole k == 2 && !(s.out m).mode)

/-- An idle slot: all state 0, output clamp(0, OUT_MIN, OUT_MAX); OVF stays (R211, R215). -/
def State.idleSlot (s : State) (k : Slot) : Slot :=
  { engine := k.engine, pos := k.pos, group := k.group, rcd := k.rcd, bankA := k.bankA, bankB := k.bankB, ovf := k.ovf
    o := clampI 0 (s.progS k 0x28 4) (s.progS k 0x2C 4), o1 := k.o1, idle := true, ended := true, usedB := s.bankB k }

/-! ### The outlet ceiling (R218 to R221) -/

/-- Outlet voltage in V: SRC_VOUT × VOUT_SCALE × VBASE, V_FLOOR where it is missing or below (R218). -/
def State.outletV (s : State) (k : Slot) : Rat :=
  let x := s.source k (s.prog k 0x1C 4)
  let fl := q16 (s.prog k 0x3C 4)
  let v := val x.v * ((s.progS k 0x7C 4 : Int) : Rat) / 2 ^ 24 * q16 (s.prog k 0x78 4)
  if x.none? ∨ v < fl then fl else v

/-- The five limbs in A, in the order of their BIND codes (R31, R221). -/
def State.limbs (s : State) (k : Slot) (charge : Bool) : List Rat :=
  let o := s.out (s.slotOutlet k)
  let v := s.outletV k
  [ ((if charge then o.archiChg else o.archiDis : Nat) : Rat) / 8,
    (if v = 0 then 0 else ((if charge then o.archpChg else o.archpDis : Nat) : Rat) / 8 * 1000 / v),
    (o.styi : Rat) / 8,
    ((if charge then o.vlimChg else o.vlimDis : Nat) : Rat) / 8,
    (o.capi : Rat) / 8 ]

def minR (l : List Rat) : Rat := match l with | [] => 0 | x :: t => t.foldl min x

/-- Ceiling C in A and the binding code (R218, R221): 0 while |s| is below C. -/
def State.ceiling (s : State) (k : Slot) : Rat × Nat :=
  let o := s.out (s.slotOutlet k)
  let l := s.limbs k (s.slotRole k == 2 || 0 ≤ o.set)
  let c := minR l
  (c, if absR (q16i o.set) < c then 0 else l.findIdx (· == c) + 1)

/-- One period of the ROLE 1 reference (R219): towards t, growing by at most `rise`, shrinking by at most `ceil`, a change of
sign through zero. -/
def slewRef (r t rise ceil : Int) : Int :=
  if 0 ≤ r ∧ 0 ≤ t then (if r ≤ t then min t (r + rise) else max t (r - ceil))
  else if r ≤ 0 ∧ t ≤ 0 then (if t ≤ r then max t (r - rise) else min t (r + ceil))
  else if 0 < r then max 0 (r - ceil) else min 0 (r + ceil)

/-- A source value, or the last one delivered where it gives none (R224). -/
def Src.orLast (x : Src) (last : Int) : Int := if x.none? then last else x.v

/-- SRC_REF, SRC_CAM and SRC_AUX of the slot are taken as delivered in this period (R224). -/
def State.takeSources (s : State) (k : Slot) : Slot :=
  { k with lastRef := (s.source k (s.prog k 0x0C 4)).orLast k.lastRef, lastCam := (s.source k (s.prog k 0x14 4)).orLast k.lastCam
           lastAux := (s.source k (s.prog k 0x18 4)).orLast k.lastAux }

/-- Reference of the slot, whose sources have been taken, and whether its store saturated (R211, R217, R219). -/
def State.reference (s : State) (k : Slot) : Int × Bool :=
  match s.slotRole k with
  | 1 =>
    let o := s.out (s.slotOutlet k)
    let c := (s.ceiling k).1
    let a := min (absR (q16i o.set)) c
    let t := store (s.toUnit k (if o.set < 0 then -a else a))
    let r := slewRef k.r t.1 (s.progS k 0x30 4) (s.progS k 0x34 4)
    (r, t.2 && decide (r = t.1))
  | 2 => store (s.toUnit k (q16 (s.out (s.slotOutlet k)).vset))
  | _ => (k.lastRef, false)

/-! ### The law (R212) -/

/-- KC × cam, or KC × cam / max(aux, 1/64) under DIVCAM. -/
def camber (kc : Rat) (divcam : Bool) (cam aux : Int) : Int × Bool :=
  store (if divcam then kc * val cam / max (val aux) (1 / 64) else kc * val cam)

/-- Limits in force: OUT_MIN and OUT_MAX, the latter narrowed to C / BASE for ROLE 2 (R220). -/
def State.limits (s : State) (k : Slot) : Int × Int :=
  let lo := s.progS k 0x28 4
  let hi := s.progS k 0x2C 4
  (lo, if s.slotRole k = 2 then min hi (s.perUnit k (s.ceiling k).1) else hi)

/-- The rescale of R236 from the stored values of the last period, and whether a store saturated; `o1` is the stored output it keeps
(R216, R237). -/
def State.rescaled (s : State) (k : Slot) (o1 : Int) : Slot × Bool :=
  let b := s.actBank k
  let form := s.prog k 8 1
  let q := camber (coef b 4 24) (form.testBit 3) k.cam1 k.aux1
  let lim := s.limits k
  let i0 := store (val o1 - val q.1 - coef b 0 24 * val k.e)
  let u := store (val o1 - val q.1)
  let i := store (min (max (val i0.1) (val lim.1 - val q.1)) (val lim.2 - val q.1))
  ({ k with i := i.1, d1 := 0, u1 := u.1, u2 := u.1, n1 := u.1, n2 := u.1, rescale := none }, q.2 || i0.2 || u.2 || i.2)

/-- One evaluation of R212 on a slot whose feedback `y` is stored; returns the slot with its new values. -/
def State.law (s : State) (k : Slot) (y : Int × Bool) : Slot :=
  let b := s.actBank k
  let form := s.prog k 8 1
  let rs := match k.rescale with | some o1 => s.rescaled k o1 | none => (k, false)
  let k := s.takeSources rs.1
  let ref := s.reference k
  let cam := k.lastCam
  let aux := k.lastAux
  let e := store (val ref.1 - val y.1)
  let q := camber (coef b 4 24) (form.testBit 3) cam aux
  let d := if form % 4 = 1 then store (coef b 3 31 * val k.d1 + coef b 2 24 * (val e.1 - val k.e)) else (0, false)
  let lim := s.limits k
  let ki := coef b 1 24
  let step := ki * val e.1
  let i0 := if (0 < k.sat ∧ 0 < step) ∨ (k.sat < 0 ∧ step < 0) then (k.i, false) else store (val k.i + step)
  let i := store (min (max (val i0.1) (val lim.1 - val q.1)) (val lim.2 - val q.1))
  let u := store (coef b 0 24 * val e.1 + val i.1 + val d.1)
  let n := if form.testBit 2 then
      store (coef b 5 30 * val u.1 + coef b 6 30 * val k.u1 + coef b 7 30 * val k.u2 - coef b 8 30 * val k.n1 -
        coef b 9 30 * val k.n2)
    else (u.1, false)
  let v := store (val n.1 + val q.1)
  let o := clampI v.1 lim.1 lim.2
  { k with r := ref.1, y := y.1, e := e.1, i := i.1, o := o
           d1 := d.1, u2 := k.u1, u1 := u.1, n2 := k.n1, n1 := n.1, cam1 := cam, aux1 := aux
           sat := if o < v.1 then 1 else if v.1 < o then -1 else 0
           ovf := rs.2 || y.2 || ref.2 || e.2 || q.2 || d.2 || i0.2 || i.2 || u.2 || n.2 || v.2
           active := true, idle := false, holding := false, ended := true, usedB := s.bankB k }

/-! ### Lost feedback (R244 to R248) -/

def State.sup (s : State) (k : Slot) : Nat := s.prog k 8 1 / 64

/-- Cause of lost feedback in this period, 0 none; `y` is the scaled feedback. The frozen test sums |o − o1| over those of the STUCK_N
identical periods whose o has been formed, all but this one (log entry 47). -/
def State.lossCause (s : State) (k : Slot) (fb : Src) (y : Int) : Nat :=
  let vo := s.source k (s.prog k 0x1C 4)
  let model := s.sup k == 2
  let free := s.slotRole k == 3
  let n := s.prog k 0x48 2
  if fb.gap || (model && vo.gap) then 1
  else if (!free && (fb.bad || decide (y < s.progS k 0x40 4) || decide (s.progS k 0x44 4 < y))) || (model && vo.bad) then 2
  else if !free && n != 0 && decide (n ≤ (if fb.v = k.frzVal then k.frzRun + 1 else 1)) &&
      decide (s.progS k 0x4C 4 < (k.frzDo.take (n - 1)).foldl (· + ·) 0) then 3
  else 0

/-- KST_LAST takes an event of a slot. -/
def State.kstLast (s : State) (cause e p : Nat) : State :=
  ((s.put Fld.KST_LAST_CAUSE cause).put Fld.KST_LAST_ENGINE e).put Fld.KST_LAST_POS p

/-- A fault of a slot's outlet, or of its pier where it has no outlet (R243, R248). -/
def State.slotFault (s : State) (k : Slot) (code cls : Nat) : State :=
  if s.slotOutlet k ≠ 0xFF then s.reportOutlet code cls 0xFF (s.slotOutlet k)
  else if s.slotPier k ≠ 0xFF then s.reportPier code cls 0xFF (s.slotPier k)
  else s.reportNone code cls 0xFF

/-! ### Supervision (R239 to R243) -/

/-- The outlet reference of the last period, per-unit of the slot's own BASE (R240). -/
def State.sentRef (s : State) (k : Slot) : Rat :=
  let m := s.slotOutlet k
  match s.slotInForce m with
  | some f => if m = 0xFF then 0 else s.toUnit k (val (s.out m).ref1 * q16 (s.prog f 0x20 4))
  | none => 0

/-- The plausibility model after the law (R240); at its first evaluation it starts from the measured values (R241). -/
def State.model (s : State) (k : Slot) : Slot :=
  if s.sup k ≠ 2 then k
  else
    let c (o : Nat) : Rat := val (s.progS k o 4)
    let vout := (store (val (s.source k (s.prog k 0x1C 4)).v * ((s.progS k 0x7C 4 : Int) : Rat) / 2 ^ 24)).1
    let k := if k.modelOn then k else { k with vf := vout, vb := vout, ic := k.y, modelOn := true }
    let ic := store (val k.ic + c 0x64 * (val k.vf - c 0x68 * val k.ic - val k.vb))
    let vf := store (val k.vf + c 0x60 * (s.sentRef k - val ic.1))
    let vb := store (val k.vb + c 0x6C * val ic.1)
    let ri := store (val k.y - val ic.1)
    let rv := store (val vout - val vf.1)
    let ic2 := store (val ic.1 + c 0x70 * val ri.1)
    let vf2 := store (val vf.1 + c 0x74 * val rv.1)
    let vb2 := store (val vb.1 + c 0x80 * val rv.1)
    { k with ic := ic2.1, vf := vf2.1, vb := vb2.1, ri := ri.1, rv := rv.1
             ovf := k.ovf || ic.2 || vf.2 || vb.2 || ri.2 || rv.2 || ic2.2 || vf2.2 || vb2.2 }

/-- Counters of the supervision in force, and whether it trips now; after a trip they stop (R239, R241, R243). -/
def State.supervise (s : State) (k : Slot) : Slot × Bool :=
  if k.tripped then (k, false)
  else match s.sup k with
  | 1 =>
    let n := if s.progS k 0x50 4 < |k.e| then k.feCnt + 1 else 0
    let t := decide (s.prog k 0x4A 2 ≤ n) && n != 0
    ({ k with feCnt := n, tripped := t }, t)
  | 2 =>
    let n := if s.progS k 0x58 4 < |k.ri| ∨ s.progS k 0x5C 4 < |k.rv| then k.mpCnt + 1 else 0
    let t := decide (s.prog k 0x54 2 ≤ n) && n != 0
    ({ k with mpCnt := n, tripped := t }, t)
  | _ => (k, false)

/-! ### Engines and spare (R249 to R258) -/

/-- Capacity of an engine at period T (R228). -/
def capacityAt (t : Nat) : Nat := (t * 400 - 800) / 48

/-- Engine e has failed and the spare does not run it. -/
def State.engineDead (s : State) (e : Nat) : Bool :=
  s.get (Fld.KST_E_STAT_STATE e) == 2 && s.get Fld.KST_SPARE_REPLACES != e && s.kst.replaceNext != some e

/-- The spare re-executes this slot in this period (R252). -/
def State.spareCovers (s : State) (k : Slot) : Bool :=
  let ks := s.kst.slots
  let c := min (capacityAt s.periodUs) ks.length
  s.get (Fld.KST_E_STAT_STATE 5) == 1 &&
  (List.range c).any (fun j => match ks[(s.kst.rot + j) % ks.length]? with
    | some x => x.engine == k.engine && x.pos == k.pos | none => false)

/-- Outlets and piers with a slot on engine e. -/
def State.engineOutlets (s : State) (e : Nat) : Nat :=
  maskOf ((List.range 8).filter (fun m => s.kst.slots.any (fun k => k.engine == e && s.slotOutlet k == m)))
def State.enginePiers (s : State) (e : Nat) : Nat :=
  maskOf ((List.range 12).filter (fun n => s.kst.slots.any (fun k => k.engine == e && s.slotPier k == n)))

/-- Engine e is marked failed. -/
def State.markFailed (s : State) (e : Nat) : State :=
  (s.put (Fld.KST_E_STAT_STATE e) 2).putBit Fld.KST_SPARE_FAILED e true

/-- An active engine fails (R253, R254, R257): the spare replaces it from the next period, or its slots hold and lower. -/
def State.engineFails (s : State) (e : Nat) : State :=
  if s.get (Fld.KST_E_STAT_STATE e) = 2 then s
  else
    let free := s.get (Fld.KST_E_STAT_STATE 5) == 1 && s.kst.replaceNext == none
    let s := s.markFailed e
    if free then { s with kst := { s.kst with replaceNext := some e } }
    else s.report 0x22 clsB e (s.engineOutlets e) (s.enginePiers e)

/-- The spare fails (R256); the engine that it replaces, or was to replace from the next period on, is left without one: its slots hold
and lower (R257). -/
def State.spareFails (s : State) : State :=
  let st := s.get (Fld.KST_E_STAT_STATE 5)
  let left : Option Nat := if st = 3 then some (s.get Fld.KST_SPARE_REPLACES) else s.kst.replaceNext
  if st = 2 then s
  else
    let s := ((s.markFailed 5).putB Fld.KST_EVT_SPARE_LOST true).put Fld.KST_SPARE_REPLACES 0xF
    let s := { s with kst := { s.kst with replaceNext := none } }
    match left with
    | some r => s.report 0x22 clsB 5 (s.engineOutlets r) (s.enginePiers r)
    | none => s.reportNone 0x22 clsC 5

/-- The checks of an engine see an error in slot (e, p): a residue failure counts and is the last event, an error in RAM is no residue
(R249, R250; log entry 79). -/
def State.noteErr (s : State) (err : EngErr) (eng e p : Nat) : State :=
  match err with
  | .none => s
  | .residue => ((s.putB Fld.KST_EVT_RES_FAIL true).kstLast 6 e p).inc (Fld.KST_E_ERR_RES eng)
  | .ram => s.putB Fld.KST_EVT_RES_FAIL true

/-- An error of the spare outside the slots that it runs for another engine (R249, R250, R256). -/
def State.spareErr (s : State) (err : EngErr) : State :=
  match err with
  | .none => s
  | .residue => ((s.putB Fld.KST_EVT_RES_FAIL true).inc (Fld.KST_E_ERR_RES 5)).spareFails
  | .ram => (s.putB Fld.KST_EVT_RES_FAIL true).spareFails

/-- An error in slot (e, p): of engine e where it runs its slots, of the spare where that replaces it (R249, R250, R253, R257). -/
def State.slotErr (s : State) (err : EngErr) (e p : Nat) : State :=
  if err = .none then s
  else if s.get (Fld.KST_E_STAT_STATE e) = 0 then (s.noteErr err e e p).engineFails e
  else if s.get (Fld.KST_E_STAT_STATE 5) = 3 ∧ s.get Fld.KST_SPARE_REPLACES = e then (s.noteErr err 5 e p).spareFails
  else s

/-- A comparison of a slot that the spare has re-executed differs, its engine having shown no failure: it is judged against the blames
of the last 1,024 periods (R252, R255). -/
def State.mismatch (s : State) (e p : Nat) : State :=
  let covered := match s.slotAt e p with | some k => s.kst.started && s.spareCovers k | none => false
  if !covered ∨ s.get (Fld.KST_E_STAT_STATE e) ≠ 0 then s
  else
    let s := (s.putB Fld.KST_EVT_MISMATCH true).kstLast 7 e p
    let win := s.kst.blames.filter (fun b => s.kst.period ≤ b.1 + 1024)
    let s := (s.inc (Fld.KST_E_ERR_MISM e)).reportNone 0x22 clsC e
    let s := { s with kst := { s.kst with blames := (s.kst.period, e) :: win } }
    if win.any (fun b => b.2 != e) then s.spareFails
    else if win.any (fun b => b.2 == e) then s.engineFails e
    else s

/-! ### One slot in a period -/

/-- The outlet's reference moves once its slot in force has ended (R213, R222, R813). -/
def State.outletRef (s : State) (k : Slot) : State :=
  let m := s.slotOutlet k
  if m = 0xFF ∨ !((s.slotRole k = 1 ∧ !(s.out m).mode) ∨ (s.slotRole k = 2 ∧ (s.out m).mode)) then s
  else
    let o := s.out m
    let fs := s.progS k 0x38 4
    let ref := if o.lowering then (if 0 ≤ o.ref1 then max 0 (o.ref1 - fs) else min 0 (o.ref1 + fs)) else k.o
    let c := s.ceiling k
    let s := s.modOut m (fun o => { o with ref := ref, refDone := true })
    let s := s.putS (Fld.KST_OUT_REF_AMPS m) (roundR (val ref * q16 (s.prog k 0x20 4) * 65536))
    (s.putU (Fld.KST_OUT_CEIL_CEIL m) (roundFree (c.1 * 8))).put (Fld.KST_OUT_CEIL_BIND m) c.2

/-- A slot that holds its output (R246); `stop` marks a hold without an engine's result (R253, R257). -/
def Slot.hold (k : Slot) (stop : Bool) : Slot := { k with o := k.o1, holding := true, idle := false, ended := true, stopped := stop }

/-- The feedback code and its frozen-test record after this period. -/
def Slot.seeFb (k : Slot) (v : Int) : Slot :=
  if v = k.frzVal then { k with frzRun := satInc 65535 k.frzRun, frzDo := (|k.o - k.o1| :: k.frzDo).take 65535 }
  else { k with frzVal := v, frzRun := 1, frzDo := [|k.o - k.o1|] }

/-- A slot that is neither idle nor without an engine (R212, R239 to R248). -/
def State.runSlot (s : State) (k : Slot) : State :=
  let put (s : State) (k : Slot) : State := s.modSlot k.engine k.pos (fun _ => k)
  let fb := s.source k (s.prog k 0x10 4)
  let fbv := if fb.bad then k.y else 0
  let y : Int × Bool := if fb.bad && s.slotRole k == 3 then (fbv, false)
    else store (val fb.v * ((s.progS k 0x24 4 : Int) : Rat) / 2 ^ 24)
  let c := s.lossCause k fb y.1
  if c ≠ 0 then
    let n := satInc 3 k.lost
    let k' := ({ (s.takeSources k).hold false with lost := n, active := true, usedB := s.bankB k }).seeFb fb.v
    if n = 3 ∧ !k.lossRaised then
      let s := put s { k' with lossRaised := true }
      (((s.putB Fld.KST_EVT_FB_LOSS true).kstLast c k.engine k.pos).slotFault k 0x21 clsB).outletRef k'
    else (put s k').outletRef k'
  else
    let resumed := decide (k.lost = 1 ∨ k.lost = 2)
    let k1 := s.model (s.law { k with lost := 0, lossRaised := false, stopped := false } y)
    let r := s.supervise k1
    let k2 := r.1.seeFb fb.v
    let s := put s k2
    let s := if resumed then (s.putB Fld.KST_EVT_FB_RESUME true).reportNone 0x21 clsD 0xFF else s
    let s := if r.2 then
        let mp := s.sup k2 == 2
        ((s.putB (if mp then Fld.KST_EVT_MP_TRIP else Fld.KST_EVT_FE_TRIP) true).kstLast (if mp then 5 else 4)
          k.engine k.pos).slotFault k2 0x20 clsB
      else s
    s.outletRef k2

/-- Positions of the engine before p have ended (R225). -/
def State.inTurn (s : State) (e p : Nat) : Bool :=
  s.kst.slots.all (fun k => k.engine != e || decide (p ≤ k.pos) || k.ended)

/-- The engine that runs the positions of engine e: itself, the spare that replaces it, or none (R254). -/
def State.runner (s : State) (e : Nat) : Option Nat :=
  if s.get (Fld.KST_E_STAT_STATE e) = 0 then some e
  else if s.get (Fld.KST_E_STAT_STATE 5) = 3 ∧ s.get Fld.KST_SPARE_REPLACES = e then some 5 else none

/-- A position takes its 48 cycles on the engine that runs it (R228). -/
def State.takeCycles (s : State) (e : Nat) : State :=
  match s.runner e with
  | some r => { s with kst := { s.kst with busy := updAt s.kst.busy r (· + 48) } }
  | none => s

/-- A slot whose turn has come (R212, R215, R246, R253, R257). -/
def State.evalSlot (s : State) (k : Slot) (idle : Bool) : State :=
  if s.engineDead k.engine then
    let k' := { k.hold true with usedB := s.bankB k }
    (s.modSlot k.engine k.pos (fun _ => k')).outletRef k'
  else if s.kst.replaceNext = some k.engine && !s.spareCovers k then
    let k' := { k with o := k.o1, ended := true, stopped := true, usedB := s.bankB k }
    (s.modSlot k.engine k.pos (fun _ => k')).outletRef k'
  else if idle then
    let k' := s.idleSlot k
    (s.modSlot k.engine k.pos (fun _ => k')).outletRef k'
  else s.runSlot k

/-- Slot p of engine e evaluates, where its turn has come and its inputs are present (R212, R215, R225, R249, R250). -/
def State.slotEvaluation (s : State) (e p : Nat) (err : EngErr) : State :=
  match s.slotAt e p with
  | none => s
  | some k =>
    if k.ended || !s.inTurn e p then s
    else
      let idle := s.isIdle k
      if !idle && !s.inputsPresent k then s
      else ((s.takeCycles e).slotErr err e p).evalSlot k idle

/-! ### The period boundary -/

/-- The vehicle's present limits as the device reads them: 0 for the buffer link outside PHASE 4 (R531), discharge 0 unless
the link permits it (R528). -/
def State.vlimRead (s : State) (m : Nat) : Nat × Nat :=
  let chg := s.get (Fld.KST_OUT_VLIM_CHG m)
  let dis := s.get (Fld.KST_OUT_VLIM_DIS m)
  match s.outletLink m with
  | none => (chg, dis)
  | some n =>
    if s.role = 3 ∧ s.vlUse n = 2 ∧ s.get (Fld.VLK_L_SESS_PHASE n) ≠ 4 then (0, 0)
    else (chg, if s.mayDischarge n then dis else 0)

/-- Values latched at the period start for outlet m (R28), and the reference of the last period (R222). -/
def State.latchOutlet (s : State) (m : Nat) : State :=
  let v := s.vlimRead m
  s.modOut m (fun o =>
    { o with ref1 := o.ref, refDone := false, lowerPiers := o.lowerPiers || (o.lowering && o.ref == 0)
             set := s.getS (Fld.KST_OUT_SET_AMPS m), vset := s.get (Fld.KST_OUT_VSET_VOLTS m)
             mode := s.bit (Fld.KST_OUT_CTRL_MODE m), en := s.bit (Fld.KST_OUT_CTRL_EN m)
             vlimChg := v.1, vlimDis := v.2
             archiChg := s.get (Fld.KST_OUT_ARCHI_CHG m), archiDis := s.get (Fld.KST_OUT_ARCHI_DIS m)
             archpChg := s.get (Fld.KST_OUT_ARCHP_CHG m), archpDis := s.get (Fld.KST_OUT_ARCHP_DIS m)
             styi := s.get (Fld.KST_OUT_STYI_AMPS m), capi := s.get (Fld.KST_OUT_CAPI_AMPS m) })

/-- A change of MODE: the slot that takes over has its state set as at a swap, from the outlet's last reference, which from now on is
per-unit of that slot's BASE (R216, R222). -/
def State.modeChange (s : State) (m : Nat) (was : Bool) (ref : Rat) : State :=
  if (s.out m).mode = was then s
  else
    let role := if (s.out m).mode then 2 else 1
    let s := match s.slotInForce m with
      | some k => s.modOut m (fun o => { o with ref := s.perUnit k ref, ref1 := s.perUnit k ref })
      | none => s
    { s with kst := { s.kst with slots := s.kst.slots.map (fun k =>
      if s.slotOutlet k = m ∧ s.slotRole k = role then { k with rescale := some (s.perUnit k ref) } else k) } }

/-- The swaps latched in the last period take effect (R233, R236). -/
def State.takeSwaps (s : State) : State :=
  let g := s.get Fld.KST_SWAP_REQ
  if g = 0 then s
  else
    let s := (s.put Fld.KST_SWAP_REQ 0).putB Fld.KST_EVT_SWAP_DONE true
    let s := s.put Fld.KST_ACTIVE_BANK (s.get Fld.KST_ACTIVE_BANK ^^^ g)
    { s with kst := { s.kst with swapLatched := g, slots := s.kst.slots.map (fun k =>
      if g.testBit k.group && !k.idle then { k with rescale := some k.o } else k) } }

/-- The spare takes over the engine that failed in the last period (R254). -/
def State.takeOver (s : State) : State :=
  match s.kst.replaceNext with
  | none => s
  | some e =>
    let s := { s with kst := { s.kst with replaceNext := none } }
    let s := ((s.put (Fld.KST_E_STAT_STATE 5) 3).put (Fld.KST_E_STAT_FOR 5) e).put Fld.KST_SPARE_REPLACES e
    (s.put (Fld.KST_E_STAT_SLOTS 5) (s.get (Fld.KST_E_STAT_SLOTS e))).reportNone 0x22 clsC e

/-- Busy cycles of the period that ended (R228, R813). -/
def State.showBusy (s : State) : State :=
  if !s.kst.started then s
  else forEach (List.range 6) s (fun s e =>
    let c := nth 0 s.kst.busy e
    (s.put (Fld.KST_E_BUSY_LAST e) c).put (Fld.KST_E_BUSY_PEAK e) (max c (s.get (Fld.KST_E_BUSY_PEAK e))))

/-- Cycles that an engine takes in a period whatever its positions: the overhead, and what the spare re-executes; none of a failed one
(R228, R252; log entry 48). -/
def State.busyBase (s : State) (e : Nat) : Nat :=
  let st := s.get (Fld.KST_E_STAT_STATE e)
  if st = 2 then 0 else if st = 1 then 800 + 48 * min (capacityAt s.periodUs) s.kst.slots.length else 800

/-- Capacity sum of the assigned piers in uQ13.3 A (KST_OUTm_CAPI, R201, R283). -/
def State.writeCapi (s : State) (m : Nat) : State :=
  let l := (List.range 12).filter (fun n => s.pierOutlet n == some m && s.countsIn n)
  s.put (Fld.KST_OUT_CAPI_AMPS m) (min 0xFFFF ((l.foldl (fun a n => a + s.get (Fld.PHS_PIER_CAP_CAP n)) 0) / 8192))

/-- The Keystone's part of a period start (R28, R233 to R236, R251, R252, R254). -/
def State.kstPeriod (s : State) : State :=
  let s := s.showBusy
  let old := s.kst.outs
  let refs := (List.range 8).map s.outRefA
  let s := forEach (List.range 8) s State.writeCapi
  let s := forEach (List.range 8) s State.latchOutlet
  let ks := s.kst.slots
  let s := { s with kst := { s.kst with
    period := if s.periodUs = 0 then 0 else s.siteNs / (s.periodUs * 1000), cutoff := false
    camb := (List.range 64).map (fun j => s.get (Fld.KST_CAMB_VALUE j))
    rot := if ks.length = 0 ∨ !s.kst.started then 0 else (s.kst.rot + min (capacityAt s.periodUs) ks.length) % ks.length
    started := true
    slots := ks.map (fun k => { k with o1 := k.o, ended := false, stopped := false }) } }
  let s := forEach (List.range 8) s (fun s m => s.modeChange m (nth ({} : Outlet) old m).mode (nth 0 refs m))
  let s := s.takeSwaps.takeOver
  { s with kst := { s.kst with busy := (List.range 6).map s.busyBase } }.syncLower

/-! ### Windows and writes -/

/-- The engine whose slots a window of engine e reaches: its own, for the spare the one it replaces; none where the window
reads 0 (R814). -/
def State.windowEngine (s : State) (e : Nat) : Option Nat :=
  if e = 5 then
    (if s.get (Fld.KST_E_STAT_STATE 5) = 3 then some (s.get Fld.KST_SPARE_REPLACES) else none)
  else if s.get (Fld.KST_E_STAT_STATE e) = 2 then none else some e

/-- The slot that KST_En_SEL.POS selects. -/
def State.windowSlot (s : State) (e : Nat) : Option Slot :=
  (s.windowEngine e).bind (fun g => s.slotAt g (s.get (Fld.KST_E_SEL_POS e)))

/-- Word d of the bank window (R232, R814). -/
def State.readBank (s : State) (e d : Nat) : Nat :=
  match s.windowSlot e with | some k => nth 0 (s.inactBank k) d | none => 0

/-- Word w of the state window. -/
def State.readSt (s : State) (e w : Nat) : Nat :=
  match s.windowSlot e with
  | none => 0
  | some k => match w with
    | 0 => ofS 32 k.r | 1 => ofS 32 k.y | 2 => ofS 32 k.e | 3 => ofS 32 k.i | 4 => ofS 32 k.o | 6 => ofS 32 k.ri
    | 7 => ofS 32 k.rv
    | _ => (if k.idle then 1 else 0) + (if k.holding then 2 else 0) + (if k.ovf then 4 else 0) +
        (if 0 < k.sat then 8 else if k.sat < 0 then 24 else 0) + (if k.usedB then 32 else 0)

/-- A bank write reaches the inactive bank; blocked while a swap of the group is pending (R232, R234). -/
def State.wrBank (s : State) (e d v : Nat) : State :=
  match s.windowSlot e with
  | none => s
  | some k =>
    if (s.get Fld.KST_SWAP_REQ).testBit k.group then s.putB Fld.KST_EVT_WBLOCK true
    else s.modSlot k.engine k.pos (fun x =>
      if s.bankB k then { x with bankA := updAt x.bankA d (fun _ => v % 2 ^ 32) }
      else { x with bankB := updAt x.bankB d (fun _ => v % 2 ^ 32) })

/-- KST_OUTm_CTRL: a write of 1 to EN is ignored while the safe state is asserted (R608), a latched fault names the outlet
(R641) or its SECC link is not CONNECTED (R520). -/
def State.wrOutCtrl (s : State) (m v : Nat) : State :=
  let s := s.putB (Fld.KST_OUT_CTRL_MODE m) (v.testBit 1)
  let secc := (List.range 8).find? (fun n => s.vlUse n == 1 && s.vlOutlet n == m)
  let ok := !s.bit Fld.PRP_STAT_SAFE && !s.latchedOutlet m &&
    (match secc with | some n => s.bit (Fld.VLK_L_CONT_CONNECTED n) | none => true)
  if v % 2 = 0 then s.putB (Fld.KST_OUT_CTRL_EN m) false
  else if ok then s.putB (Fld.KST_OUT_CTRL_EN m) true else s

/-- KST_OUTm_SET: firmware writes to the buffer outlet are ignored (R270). -/
def State.wrOutSet (s : State) (m v : Nat) : State :=
  if s.lenOf 9 ≠ 0 ∧ s.cfgB 9 0x13 = m then s else s.put (Fld.KST_OUT_SET_AMPS m) v

end Sys2Proof.Machine
end

