-- ==== Sys2Proof/Machine/Truss.lean ====
section
/-! DEFINITION. The Truss: tiles, routing, cells and comparators (spec/02, R81 to R86, R803). A signal carries a 16-bit value; a cell
reads bit 0 of its inputs and drives 0 or 1 (log entry 8). -/

namespace Sys2Proof.Machine

/-- The neighbour of tile t in direction d: 0 north, 1 east, 2 south, 3 west (R803). -/
def neighbour (t d : Nat) : Option Nat :=
  match d with
  | 0 => if t < 96 then none else some (t - 96)
  | 1 => if t % 96 = 95 then none else some (t + 1)
  | 2 => if 7584 ≤ t then none else some (t + 96)
  | _ => if t % 96 = 0 then none else some (t - 1)

/-- Number of an edge tile, clockwise from tile 0 (R803). -/
def edgeNo (t : Nat) : Option Nat :=
  let r := t / 96
  let c := t % 96
  if r = 0 then some c else if c = 95 then some (95 + r) else if r = 79 then some (175 + (94 - c))
  else if c = 0 then some (270 + (78 - r)) else none

/-- Tile of an edge number. -/
def edgeTile (e : Nat) : Nat :=
  if e < 96 then e else if e < 175 then 96 * (e - 95) + 95 else if e < 270 then 96 * 79 + (94 - (e - 175)) else 96 * (78 - (e - 270))

/-- Select byte of multiplexer i of tile t (R82). -/
def State.muxSel (s : State) (t i : Nat) : Nat := s.cfgB 1 (512 * t + 128 + i)
/-- LUT and MODE of cell j of tile t. -/
def State.lut (s : State) (t j : Nat) : Nat := s.cfg 1 (512 * t + 16 * j) 2
def State.cellMode (s : State) (t j : Nat) : Nat := s.cfgB 1 (512 * t + 16 * j + 2)
/-- CMODE of the comparator of tile t; tiles from 1,024 on have none. -/
def State.cmode (s : State) (t : Nat) : Nat := if t < 1024 then s.cfgB 1 (512 * t + 504) else 0

/-- A select is allowed: not reserved, and naming no missing neighbour or track (R84). -/
def selOk (t k : Nat) : Bool :=
  decide (k < 233) &&
  (if 9 ≤ k ∧ k ≤ 40 then (neighbour t ((k - 9) / 8)).isSome else if 41 ≤ k ∧ k ≤ 200 then (neighbour t ((k - 41) / 40)).isSome else true)

/-- R84: every select of the section is allowed. -/
def State.trussOk (s : State) : Bool := (List.range 7680).all (fun t => (List.range 224).all (fun i => selOk t (s.muxSel t i)))

/-- The register of a cell (R83). -/
def State.cellReg (s : State) (t j : Nat) : Bool := (s.cellMode t j).testBit 1 != s.truss.flips.contains (8 * t + j)

/-- LUT output of cell j of tile t over the values that `f` gives its inputs a to d. -/
def State.lutOut (s : State) (f : Nat → Nat) (t j : Nat) : Bool :=
  let b (i : Nat) : Nat := f (s.muxSel t (4 * j + i)) % 2
  (s.lut t j).testBit (b 0 + 2 * b 1 + 4 * b 2 + 8 * b 3)

/-- Output of a cell, or of the comparator that stands in its place (R82, R86), over the selects of its tile. -/
def State.cellOut (s : State) (f : Nat → Nat) (t j : Nat) : Nat :=
  if j = 7 ∧ s.cmode t ≠ 0 then (if (sget (false, 0) s.truss.cmps t).1 then 1 else 0)
  else if (s.cellMode t j).testBit 0 then (if s.cellReg t j then 1 else 0)
  else if s.lutOut f t j then 1 else 0

/-- The value that select k names in tile t. The first argument bounds the path; a longer one is a loop. A select 201 to 232 on a tile that is
no edge tile names no port (R85): the image is accepted and the select reads 0, a DESIGN CHOICE (log entry 85). -/
def State.sig (s : State) : Nat → Nat → Nat → Nat
  | 0, t, k => Config.trussLoop t k
  | n + 1, t, k =>
    if k = 0 then 0
    else if k ≤ 8 then s.cellOut (State.sig s n t) t (k - 1)
    else if k ≤ 40 then
      match neighbour t ((k - 9) / 8) with
      | some u => s.cellOut (State.sig s n u) u ((k - 9) % 8)
      | none => 0
    else if k ≤ 200 then
      let d := (k - 41) / 40
      match neighbour t d with
      | some u => State.sig s n u (s.muxSel u (32 + 40 * ((d + 2) % 4) + (k - 41) % 40))
      | none => 0
    else match edgeNo t with | some e => s.port (32 * e + (k - 201)) | none => 0

/-- More than the cells and track ends of the array: a path this long meets itself. -/
def trussPath : Nat := 7680 * 168

/-- Value at Truss output port q (R82, R85). -/
def State.trussOut (s : State) (q : Nat) : Nat :=
  let t := edgeTile (q / 32)
  s.sig trussPath t (s.muxSel t (192 + q % 32))

/-- One sample of comparator t (R86): its output changes after FILT samples in a row on the other side. -/
def State.cmpStep (s : State) (t : Nat) : Bool × Nat :=
  let o := 512 * t + 496
  let src := s.cfg 1 o 2
  let sg := Config.portSigned src
  let v : Int := if sg then toS 16 (s.port src) else (s.port src : Int)
  let th : Int := if sg then s.cfgS 1 (o + 2) 4 else (s.cfg 1 (o + 2) 4 : Int)
  let h : Int := (s.cfg 1 (o + 6) 2 : Int)
  let x := sget (false, 0) s.truss.cmps t
  let want := match s.cmode t with
    | 1 => if x.1 then decide (th - h ≤ v) else decide (th < v)
    | 2 => if x.1 then decide (v ≤ th + h) else decide (v < th)
    | 3 => decide (v < th - h ∨ th + h < v)
    | _ => false
  if want = x.1 then (x.1, 0) else if x.2 + 1 < s.cfgB 1 (o + 9) then (x.1, x.2 + 1) else (want, 0)

/-- One CLK_TRUSS edge: registered cells whose clock is enabled take their LUT output (R82, R83), comparators take a sample. -/
def State.trussTick (s : State) : State :=
  let next (c : Nat) : Bool :=
    let t := c / 8
    let j := c % 8
    let m := s.cellMode t j
    let f := s.sig trussPath t
    if m.testBit 2 && f (s.muxSel t (4 * j + 3)) % 2 == 0 then s.cellReg t j else s.lutOut f t j
  let flips := (List.range 61440).filter (fun c =>
    let m := s.cellMode (c / 8) (c % 8)
    m.testBit 0 && (next c != m.testBit 1))
  let cmps := ((List.range 1024).map (fun t => (t, s.cmpStep t))).filter (fun x => x.2 != (false, 0))
  { s with truss := { flips := flips, cmps := cmps } }

end Sys2Proof.Machine
end

