-- ==== Sys2Proof/Machine/Arch.lean ====
section
/-! DEFINITION. Arch power sharing and the Viaduct matrix (spec/06): the ledger, ceilings and shares, hand-offs, contests, the
cascade, and the start of a control period. Powers are whole numbers of 1/256 kW unless said otherwise. -/

namespace Sys2Proof.Machine

/-! ### Units and their indices: `c` is a cascade index, `n`, `m` are local ones (R291) -/

/-- Cascade index of the first local pier and outlet. -/
def State.pBase (s : State) : Nat := s.cPier 0
def State.oBase (s : State) : Nat := s.cOut 0
def State.localPier (s : State) (c : Nat) : Bool := s.pBase ≤ c && c < s.pBase + 12
def State.localOut (s : State) (c : Nat) : Bool := s.oBase ≤ c && c < s.oBase + 8

def State.modArc (s : State) (f : Arch → Arch) : State := { s with arc := f s.arc }
def State.arcPier (s : State) (c : Nat) : ArcPier := nth {} s.arc.piers c
def State.arcOut (s : State) (c : Nat) : ArcOut := nth {} s.arc.outs c
def State.arcXp (s : State) (k : Nat) : ArcXp := nth {} s.arc.xps k
def State.modArcPier (s : State) (c : Nat) (f : ArcPier → ArcPier) : State :=
  s.modArc (fun a => { a with piers := updAt a.piers c f })
def State.modArcOut (s : State) (c : Nat) (f : ArcOut → ArcOut) : State :=
  s.modArc (fun a => { a with outs := updAt a.outs c f })
def State.modXp (s : State) (k : Nat) (f : ArcXp → ArcXp) : State :=
  s.modArc (fun a => { a with xps := updAt a.xps k f })

/-- Crosspoint records (R296): in use, pier and outlet as cascade indices, drive port. A record's own indices are those of the
image that holds it. -/
def State.xpUsed (s : State) (k : Nat) : Bool := s.cfgB 9 (0x800 + 16 * k) % 2 == 1
def State.xpPier (s : State) (k : Nat) : Nat := s.cfgB 9 (0x801 + 16 * k) + s.pBase
def State.xpOut (s : State) (k : Nat) : Nat := s.cfgB 9 (0x802 + 16 * k) + s.oBase
/-- Drive port and auxiliary port of a crosspoint (R274, R296). -/
def State.xpDrivePort (s : State) (k : Nat) : Nat := s.cfg 9 (0x804 + 16 * k) 2
def State.xpAuxPort (s : State) (k : Nat) : Nat := s.cfg 9 (0x806 + 16 * k) 2
def State.pierXps (s : State) (c : Nat) : List Nat := (List.range 64).filter (fun k => s.xpUsed k && s.xpPier k == c)
def State.xpOf (s : State) (c o : Nat) : Option Nat := (List.range 64).find? (fun k => s.xpUsed k && s.xpPier k == c && s.xpOut k == o)

def State.pierSt (s : State) (c : Nat) : Nat := s.get (Fld.ARC_PIER_STATE_STATE c)
def State.pierOutC (s : State) (c : Nat) : Nat := s.get (Fld.ARC_PIER_STATE_OUTLET c)
def State.outSt (s : State) (c : Nat) : Nat := s.get (Fld.ARC_OUT_STATE_STATE c)
def State.xpSt (s : State) (k : Nat) : Nat := s.get (Fld.ARC_XP_STAT_STATE k)
def State.setPier (s : State) (c st o : Nat) : State :=
  (s.put (Fld.ARC_PIER_STATE_STATE c) st).put (Fld.ARC_PIER_STATE_OUTLET c) o
def State.setTarget (s : State) (c t : Nat) : State := s.put (Fld.ARC_PIER_STATE_TARGET c) t
def State.setXp (s : State) (k st : Nat) : State := s.put (Fld.ARC_XP_STAT_STATE k) st
def State.arcEvt (s : State) (f : FieldRef) : State := s.putB f true

/-- A field of the site record, and the flags of pier records. -/
def State.site (s : State) (off n : Nat) : Nat := s.cfg 9 off n
def State.pierBidir (s : State) (c : Nat) : Bool := s.cfgB 9 (0x500 + 32 * (c - s.pBase)) / 2 % 2 == 1

/-- A word of an outlet record in use (R298). -/
def State.useWord (s : State) (c w : Nat) : Nat := sget 0 s.arc.useRec (16 * (c - (if s.localOut c then s.oBase else 0)) + w)
def State.outFlags (s : State) (c : Nat) : Nat := s.useWord c 0 % 256
def State.outClass (s : State) (c : Nat) : Nat := s.useWord c 0 / 256 % 256
def State.guarantee (s : State) (c : Nat) : Int := s.useWord c 1
def State.iRated (s : State) (c : Nat) (chg : Bool) : Nat := if chg then s.useWord c 3 % 65536 else s.useWord c 3 / 65536 % 65536

/-- Buffer outlet, cascade index (R270); which of its outlets a follower takes a buffer setpoint for is its own image's (log entry 80). -/
def State.bufOut (s : State) : Option Nat :=
  if s.lenOf 9 = 0 ∨ s.site 0x13 1 = 0xFF then none else some (s.site 0x13 1 + s.oBase)

/-- N_ARCH (R262). -/
def State.nArch (s : State) : Nat :=
  if s.periodUs = 0 then 1 else (s.site 0x12 1 * 1000 + s.periodUs - 1) / s.periodUs

/-- The Arch runs: an ARCH_POLICY and EN (R265, R298). -/
def State.archOn (s : State) : Bool := s.role != 2 && s.lenOf 9 != 0 && s.bit Fld.ARC_CTRL_EN

def State.fallback (s : State) : Bool := s.bit Fld.ARC_STAT_FALLBACK
/-- The ledger runs here: not at a follower outside fallback (R291, R294). -/
def State.ownLedger (s : State) : Bool := !s.follower || s.fallback
/-- Master of a common ledger that also holds the follower's units. -/
def State.common (s : State) : Bool := s.cascMaster && !s.fallback

/-! ### Measured values -/

/-- Current of local pier n in A: the sum of its phase samples (R276). -/
def State.pierI (s : State) (n : Nat) : Rat := s.sumI n (List.range 32)

/-- ROLE 1 slot of local outlet m. -/
def State.role1 (s : State) (m : Nat) : Option Slot := s.kst.slots.find? (fun k => s.slotOutlet k == m && s.slotRole k == 1)

/-- VOUT sample of local pier n in V. -/
def State.pierV (s : State) (n : Nat) : Option Rat :=
  (s.pierUp n).bind (fun u => if u.vout = 0x8000 then none else some ((toS 16 u.vout : Rat) / 32768 * q16 (s.pierReg n 9)))

/-- Outlet voltage of local outlet m in this period, V; none where it is missing. -/
def State.outV (s : State) (m : Nat) : Option Rat :=
  (s.role1 m).bind (fun k =>
    let x := s.source k (s.prog k 0x1C 4)
    if x.none? then none else some (val x.v * ((s.progS k 0x7C 4 : Int) : Rat) / 2 ^ 24 * q16 (s.prog k 0x78 4)))

/-- Feedback current of the ROLE 1 slot, A. -/
def State.outI (s : State) (m : Nat) : Rat :=
  match s.role1 m with | some k => val k.y * q16 (s.prog k 0x20 4) | none => 0

/-- The sums of a control period that ends, over the Arch period (R266, R271). -/
def State.accumulate (s : State) : State :=
  forEach (List.range 8) s (fun s m =>
    let v := s.outV m
    let i := s.outI m
    s.modArcOut (s.cOut m) (fun o => { o with
      vSum := o.vSum + v.getD 0, vN := if v.isSome then o.vN + 1 else o.vN, iSum := o.iSum + i, iN := o.iN + 1 }))

/-- V_m and the mean feedback current of each outlet; V_FLOOR where the mean is below it or no sample came (R266). -/
def State.takeMeans (s : State) : State :=
  let s := if s.common then forEach (List.range 8) s (fun s j => s.modArcOut (8 + j) (fun o => { o with since := satInc 1000000 o.since }))
    else s
  forEach (List.range 8) s (fun s m =>
    let fl := match s.role1 m with | some k => q16 (s.prog k 0x3C 4) | none => 0
    s.modArcOut (s.cOut m) (fun o =>
      let v := if o.vN = 0 then fl else o.vSum / ((o.vN : Nat) : Rat)
      { o with vm := max v fl, im := if o.iN = 0 then 0 else o.iSum / ((o.iN : Nat) : Rat)
               vSum := 0, vN := 0, iSum := 0, iN := 0, since := satInc 1000000 o.since }))

/-- The buffer outlet takes part in the ledger of this module: it is its own, or the ledger is common (R294). -/
def State.bufHere (s : State) : Option Nat := s.bufOut.filter (fun c => s.localOut c || s.common)

/-- Measured grid active power in W: the sum of the phases' P of the grid channel, none while it is missing (R271; the spec
does not say which AC point it is, log entry 20). -/
def State.gridW (s : State) : Option Int :=
  let g := Config.gridPoint % 4
  let p := (List.range 3).map (fun h => s.get (Fld.CSN_AC_PH_Q_VALUE g h 4))
  if s.bit (Fld.CSN_AC_CFG_EN g) && s.bit (Fld.CSN_AC_STAT_MEAS g) && p.all (· != 0x80000000) then
    some (p.foldl (fun a x => a + toS 32 x) 0) else none

/-! ### Demand, cap and water-filling (R267 to R270) -/

/-- kW of an exact power, in 1/256 kW. -/
def kwOf (x : Rat) : Int := roundFree (x * 256)

/-- One outlet in the ledger. -/
structure LOut where
  c : Nat := 0
  cls : Nat := 0
  active : Bool := false
  d : Int := 0
  /-- V_m × CAPI, 1/256 kW. -/
  vcap : Int := 0
  v : Rat := 0
  a : Int := 0
deriving DecidableEq, Repr

def LOut.cap (o : LOut) : Int := min o.d.natAbs o.vcap

/-- Demand of local outlet m (R267). -/
def State.demand (s : State) (m : Nat) : Int :=
  let c := s.cOut m
  let o := s.out m
  let v := (s.arcOut c).vm
  let lim (x : Nat) : Rat := (x : Rat) / 8
  let sp := q16i o.set
  if s.outSt c ≠ 1 then 0
  else if 0 ≤ sp then
    min (min ((s.get (Fld.ARC_OUT_PMAX_CHG c) : Int) * 256) (s.useWord c 2))
      (kwOf (v * min (min sp (lim o.vlimChg)) (min (lim o.styi) (lim (s.iRated c true))) / 1000))
  else if s.outFlags c / 2 % 2 = 1 then
    -(min (min ((s.get (Fld.ARC_OUT_PMAX_DIS c) : Int) * 256) (s.useWord c 2))
      (kwOf (v * min (min (-sp) (lim o.vlimDis)) (min (lim o.styi) (lim (s.iRated c false))) / 1000)))
  else 0

/-- Ledger entry of local outlet m. -/
def State.localEntry (s : State) (m : Nat) : LOut :=
  let c := s.cOut m
  let v := (s.arcOut c).vm
  { c := c, cls := s.outClass c, active := s.outSt c == 1, d := s.demand m, v := v
    vcap := kwOf (v * (((s.out m).capi : Nat) : Rat) / 8 / 1000) }

/-- Ledger entry of the follower's outlet 8 + j from its request record (R293). -/
def State.farEntry (s : State) (j : Nat) : LOut :=
  let r := s.arc.rxRec
  let o := 0x10 + 16 * j
  { c := 8 + j, cls := s.outClass (8 + j), active := leAt r (o + 12) 1 == 1, d := toS 32 (leAt r o 4)
    vcap := leAt r (o + 4) 4, v := q16 (leAt r (o + 8) 4) }

/-- All ledger entries, in ascending index order. -/
def State.entries (s : State) : List LOut :=
  (List.range 8).map s.localEntry ++ (if s.common then (List.range 8).map s.farEntry else [])

/-- Guarantees of one class in order (R269). -/
def guaranteeClass (g : LOut → Int) (c : Nat) : List LOut → Int → List LOut × Int
  | [], sup => ([], sup)
  | o :: t, sup =>
    if o.cls = c then
      let a := min (g o) sup
      let r := guaranteeClass g c t (sup - a)
      ({ o with a := a } :: r.1, r.2)
    else
      let r := guaranteeClass g c t sup
      (o :: r.1, r.2)

/-- What the level l adds to the outlets of a class. -/
def levelNeed (s : List LOut) (l : Int) : Int := s.foldl (fun x o => x + (max o.a (min o.cap l) - o.a)) 0

/-- The water level of a class: the largest whole number whose need is within `sup`, searched upwards from `lo`. -/
def waterLevel (s : List LOut) (sup lo : Int) : Int :=
  ((List.range 42).reverse).foldl (fun l k => if levelNeed s (l + 2 ^ k) ≤ sup then l + 2 ^ k else l) lo

/-- Level filling of one class (R269). -/
def fillClass (c : Nat) (l : List LOut) (sup : Int) : List LOut × Int :=
  let s := l.filter (fun o => o.cls == c)
  let need := s.foldl (fun x o => x + (o.cap - o.a)) 0
  if need ≤ sup then (l.map (fun o => if o.cls = c then { o with a := o.cap } else o), sup - need)
  else
    let lo := s.foldl (fun x o => min x o.a) 0
    let lv := waterLevel s sup lo
    (l.map (fun o => if o.cls = c then { o with a := max o.a (min o.cap lv) } else o), 0)

/-- Level filling of the four classes. -/
def fillAll (l : List LOut) (sup : Int) : List LOut :=
  ([0, 1, 2, 3].foldl (fun x c => fillClass c x.1 x.2) (l, sup)).1

/-- What R269 settles. -/
structure Ledger where
  outs : List LOut := []
  sup : Int := 0
  achg : Int := 0
  adis : Int := 0
  net : Int := 0
  b : Int := 0
deriving DecidableEq, Repr

/-- The procedure of R269; `g` gives the effective guarantees, `imp` is IMPORT − RESERVE − trim. -/
def waterFill (outs : List LOut) (g : LOut → Int) (imp exp trim bufChg bufDis pref : Int) (hasBuf : Bool) : Ledger :=
  let ch := outs.filter (fun o => o.active && decide (0 ≤ o.d))
  let dis := outs.filter (fun o => o.active && decide (o.d < 0))
  let sup := imp + bufDis + dis.foldl (fun x o => x + o.cap) 0
  let gs := [0, 1, 2, 3].foldl (fun x c => guaranteeClass g c x.1 x.2) (ch, sup)
  let ch := ([0, 1, 2, 3].foldl (fun x c => fillClass c x.1 x.2) gs).1
  let achg := ch.foldl (fun x o => x + o.a) 0
  let dis := fillAll dis (exp + trim + bufChg + achg)
  let adis := dis.foldl (fun x o => x + o.a) 0
  let dis := dis.map (fun o => { o with a := -o.a })
  let net := achg - adis + trim
  let lo := max (-bufDis) (-exp - net)
  let hi := min bufChg (imp + trim - net)
  { outs := ch ++ dis, sup := sup, achg := achg, adis := adis, net := net
    b := if hasBuf then min (max pref lo) hi else 0 }

/-- Limits of the buffer: the lesser of its vehicle limit times its voltage and ARC_BUFLIM (input table, R270). -/
def State.bufLimit (s : State) (chg : Bool) : Int :=
  match s.bufHere with
  | none => 0
  | some c =>
    let fw : Int := (if chg then s.get Fld.ARC_BUFLIM_CHG else s.get Fld.ARC_BUFLIM_DIS) * 256
    if s.localOut c then
      let o := s.out (c - s.oBase)
      min fw (kwOf ((s.arcOut c).vm * ((if chg then o.vlimChg else o.vlimDis : Nat) : Rat) / 8 / 1000))
    else min fw (s.farEntry (c - 8)).vcap

/-- IMPORT and EXPORT of the ledger: the committed ones, FALLBACK_IMP and FALLBACK_EXP in fallback (R294). -/
def State.impNow (s : State) : Int := if s.fallback then s.site 0x34 4 else s.arc.useImp
def State.expNow (s : State) : Int := if s.fallback then s.site 0x38 4 else s.arc.useExp

/-- The whole ledger of this Arch period. -/
def State.ledger (s : State) : Ledger :=
  let es := s.entries.filter (fun o => some o.c != s.bufHere)
  let trim := kwOf s.arc.trim
  let g (o : LOut) : Int := min (s.guarantee o.c) o.cap
  waterFill es g (s.impNow - s.site 0x08 4 - trim) s.expNow trim (s.bufLimit true) (s.bufLimit false) s.arc.usePref s.bufHere.isSome

/-- Every outlet with its allocation, the buffer outlet and the ones that are not ACTIVE too: what the planner goes by (R278). -/
def State.planEntries (s : State) (l : Ledger) : List LOut :=
  s.entries.map (fun e =>
    if s.bufHere = some e.c then { e with a := l.b }
    else match l.outs.find? (fun o => o.c == e.c) with | some o => { e with a := o.a } | none => e)

/-! ### Trim, ceilings, shares (R271 to R273) -/

/-- The trim of this Arch period, kW (R271). -/
def State.newTrim (s : State) : Rat :=
  let top := (s.site 0x0C 4 : Rat) / 256
  if s.bit Fld.ARC_CTRL_TRIM_HOLD then s.arc.trim
  else match s.gridW with
  | none => top
  | some w =>
    let sum := (List.range 8).foldl (fun a m => a + (s.arcOut (s.cOut m)).im * (s.arcOut (s.cOut m)).vm / 1000) 0
    let x := (w : Rat) / 1000 - sum
    max 0 (min top (Config.lowPass s.arc.trim x (s.nArch * s.periodUs) (s.site 0x10 2 * 1000)))

/-- Round down to a 16-bit code of 1/8 (R272). -/
def down8 (x : Rat) : Nat := (clampI (x * 8).floor 0 0xFFFF).toNat

/-- ARCHI.CHG, ARCHI.DIS, ARCHP.CHG, ARCHP.DIS of an outlet from its allocation (R272); 0 where it is not ACTIVE or the critical
temperature level holds (R736). -/
def State.ceilings (s : State) (o : LOut) : List Nat :=
  if !o.active || s.hkp.critical then [0, 0, 0, 0]
  else
    let kw : Rat := ((o.a.natAbs : Nat) : Rat) / 256
    let chg := decide (0 ≤ o.a)
    let p := down8 kw
    let ir : Rat := (s.iRated o.c chg : Rat) / 8
    let i := if o.v = 0 then down8 ir else down8 (min ir ((s.site 0x32 1 : Rat) / 100 * kw * 1000 / o.v))
    if chg then [i, 0, p, 0] else [0, i, 0, p]

/-- Local piers of outlet c that carry a share, in ascending order: ASSIGNED, LEAVING, JOINING. -/
def State.sharers (s : State) (c : Nat) : List Nat :=
  (List.range 12).filter (fun n =>
    (s.pierSt (s.cPier n) == 2 || s.pierSt (s.cPier n) == 3 || s.pierSt (s.cPier n) == 7) && s.pierOutC (s.cPier n) == c)

/-- Shares in proportion to capacity, nearest codes, the last one taking what is left of `total`; equal where all
capacities are 0 (R273). -/
def proportion (total : Int) (caps : List Nat) : List Int :=
  let sum := caps.foldl (· + ·) 0
  let k := caps.length
  let base := caps.map (fun c => if sum = 0 then roundAway total k else roundAway (total * c) sum)
  let rest := (base.dropLast).foldl (· + ·) 0
  base.dropLast ++ (if base = [] then [] else [total - rest])

/-- Shares of the piers of outlet c: those in a ramp take their part of the R273 share, the others share the rest (R282). -/
def State.outShares (s : State) (c : Nat) : List (Nat × Int) :=
  let l := s.sharers c
  let cap (n : Nat) := (s.arcPier (s.cPier n)).cap
  let full := (l.zip (proportion 32768 (l.map cap)))
  let r : Int := max 1 (s.site 0x18 1)
  let ramp (n : Nat) : Option Int := (s.arc.hand.find? (fun h => h.pier == s.cPier n && (h.step == 1 || h.step == 6))).map
    (fun h => if h.step = 1 then r - h.ramp else (h.ramp : Int))
  let ramped := full.filterMap (fun x => (ramp x.1).map (fun k => (x.1, roundAway (x.2 * k) r.toNat)))
  let others := l.filter (fun n => (ramp n).isNone)
  ramped ++ others.zip (proportion (32768 - ramped.foldl (fun a x => a + x.2) 0) (others.map cap))

/-- SHARE of every local pier; 0 where it is not assigned (R273). -/
def State.allShares (s : State) : List Nat :=
  let l := (List.range 8).flatMap (fun m => s.outShares (s.cOut m))
  (List.range 12).map (fun n => match l.find? (fun x => x.1 == n) with | some x => (clampI x.2 0 32768).toNat | none => 0)

/-- The shares of the follower's piers from its record (R273, R293). -/
def State.farShares (s : State) : List Nat :=
  let r := s.arc.rxRec
  let st (j : Nat) := leAt r (0x90 + 8 * j + 6) 1
  let ou (j : Nat) := leAt r (0x90 + 8 * j + 7) 1
  let l := (List.range 16).flatMap (fun o =>
    let ps := (List.range 12).filter (fun j => (st j == 2 || st j == 3 || st j == 7) && ou j == o)
    ps.zip (proportion 32768 (ps.map (fun j => leAt r (0x90 + 8 * j) 4))))
  (List.range 12).map (fun j => match l.find? (fun x => x.1 == j) with | some x => (clampI x.2 0 32768).toNat | none => 0)

/-! ### Ends and starts of hand-offs -/

def State.lowered? (s : State) (c : Nat) : Bool := s.localPier c && s.pierLower (c - s.pBase)
def State.outLowered? (s : State) (o : Nat) : Bool := s.localOut o && (s.out (o - s.oBase)).lowering

def State.handOf (s : State) (c : Nat) : Option HandOff := s.arc.hand.find? (fun h => h.pier == c)
def State.dropHand (s : State) (c : Nat) : State := s.modArc (fun a => { a with hand := a.hand.filter (fun h => h.pier != c) })
def State.modHand (s : State) (c : Nat) (f : HandOff → HandOff) : State :=
  s.modArc (fun a => { a with hand := a.hand.map (fun h => if h.pier = c then f h else h) })

/-- ARC_OUTm_STATE.PIERS: piers assigned, leaving or joining. -/
def State.syncPiers (s : State) : State :=
  forEach (List.range 16) s (fun s o => if !s.localOut o then s else
    s.put (Fld.ARC_OUT_STATE_PIERS o) (maskOf ((s.sharers o).map (· + s.pBase))))

/-- A hand-off or a release of pier c ends; `ok` when it reached ASSIGNED to the receiver. A release sets no event. -/
def State.endHand (s : State) (c : Nat) (ok : Bool) : State :=
  match s.handOf c with
  | none => s
  | some h =>
    let s := ((s.dropHand c).setTarget c 0x1F).modArcPier c (fun p => { p with ovr := none, weld := none })
    if h.recv = 0x1F then s else s.arcEvt (if ok then Fld.ARC_EVT_HO_DONE else Fld.ARC_EVT_HO_FAIL)

/-- The outlet's pier set changes (MIN_DWELL). -/
def State.touchOut (s : State) (o : Nat) : State := s.modArcOut o (fun x => { x with since := 0 })

/-- Pier c opens its crosspoint: step 2 (R282). -/
def State.beginOpen (s : State) (c : Nat) : State :=
  let o := s.pierOutC c
  ((s.setPier c 4 0x1F).touchOut o).modHand c (fun h => { h with step := 2, xp := (s.xpOf c o).getD 64 })

/-- Pier c starts MATCHING, or the repeated check of an unchecked crosspoint before it (R655). -/
def State.beginMatch (s : State) (c : Nat) : State :=
  match (s.pierXps c).find? (fun k => (s.arcXp k).unchecked && s.xpSt k != 5) with
  | some k => ((s.setPier c 4 0x1F).modHand c (fun h => { h with step := 3, xp := k })).setXp k 4 |>.modArcPier c
      (fun p => { p with weld := some 0, ovr := some 0 })
  | none => (s.setPier c 5 0x1F).modHand c (fun h => { h with step := 4 }) |>.modArcPier c
      (fun p => { p with ovr := some 0, weld := none })

/-- A hand-off of pier c to outlet o, or a release (o = 0x1F), starts (R280 to R282). -/
def State.startHand (s : State) (c o : Nat) : State :=
  let free := s.pierSt c = 1
  let h : HandOff := { pier := c, donor := if free then 0x1F else s.pierOutC c, recv := o, step := if free then 4 else 1, ramp := if free then 0 else 1 }
  let s := s.modArc (fun a => { a with hand := a.hand ++ [h] })
  let s := if o = 0x1F then s else (s.setTarget c o).arcEvt Fld.ARC_EVT_HO_START
  if free then s.beginMatch c
  else if o = 0x1F then s.beginOpen c
  else s.put (Fld.ARC_PIER_STATE_STATE c) 3

/-- All crosspoints of pier c are open: contact, command and weld (R277, R654). -/
def State.xpsOpen (s : State) (c : Nat) : Bool :=
  (s.pierXps c).all (fun k => !s.bit (Fld.ARC_XP_STAT_AUX k) && !(s.arcXp k).cmd && !(s.arcXp k).welded)

/-- Local pier n is in use, READY and armed (R277). -/
def State.pierUpArmed (s : State) (n : Nat) : Bool := s.pierInUse n && s.pierReady n && (s.get Fld.PRP_ARMED_PIERS).testBit n

/-- Pier c goes to FREE, or to OFF where it is not READY and armed or a crosspoint of it is not open (R277). -/
def State.toFree (s : State) (c : Nat) : State :=
  s.setPier c (if s.pierUpArmed (c - s.pBase) && s.xpsOpen c then 1 else 0) 0x1F

/-- OFF, FAULT and the rest against READY and ARMED (R275, R277): a pier that becomes READY and armed enters FREE once its
crosspoints are open; one that is no longer goes OFF and its hand-off ends, its crosspoints staying as they are until its current is zero
(R276). A pier in FAULT has to be disarmed and armed again. -/
def State.syncPier (s : State) (n : Nat) : State :=
  let c := s.cPier n
  let st := s.pierSt c
  let up := s.pierUpArmed n
  if st = 8 ∨ st = 9 then s
  else if st = 10 then
    if !up then s.modArcPier c (fun p => { p with faultDown := true })
    else if !(s.arcPier c).faultDown then s
    else
      let s := (s.modArcPier c (fun p => { p with faultDown := false })).toFree c
      forEach (s.pierXps c) s (fun s k =>
        if s.xpSt k = 5 ∧ !(s.arcXp k).welded ∧ !s.bit (Fld.ARC_XP_STAT_AUX k) then s.setXp k 0 else s)
  else if up then (if st = 0 then s.toFree c else s)
  else if st = 0 then s
  else (s.endHand c false).setPier c 0 0x1F

/-- All local piers against READY and ARMED. -/
def State.syncArcPiers (s : State) : State :=
  if s.archOn then (forEach (List.range 12) s State.syncPier).syncPiers else s

/-! ### Hand-offs in an Arch period (R282, R286) -/

/-- The donor's condition of R278 for pier c. -/
def State.donorCan (s : State) (es : List LOut) (o : Nat) (capKw : Int) : Bool :=
  match es.find? (fun e => e.c == o) with
  | none => false
  | some e => decide ((e.a.natAbs : Int) * 100 ≤ (100 - (s.site 0x1A 1 : Int)) * (e.vcap - capKw))

/-- V_o × CAP of pier c, 1/256 kW. -/
def State.capKw (_s : State) (v : Rat) (cap : Nat) : Int := kwOf (v * q16 cap / 1000)

/-- One hand-off at an Arch period boundary. In step 1 the donor needs the pier again where it is ACTIVE and its condition of R278 no
longer holds. -/
def State.advance (s : State) (es : List LOut) (h : HandOff) : State :=
  let c := h.pier
  let r : Nat := max 1 (s.site 0x18 1)
  let lower := s.lowered? c || s.outLowered? h.donor || s.outLowered? h.recv
  let gone := h.recv ≠ 0x1F ∧ s.outSt h.recv ≠ 1
  match h.step with
  | 1 =>
    let needs := s.outSt h.donor == 1 && !(s.donorCan es h.donor (s.capKw (s.arcOut h.donor).vm (s.arcPier c).cap))
    if h.back ∨ gone ∨ lower ∨ needs then
      if h.ramp ≤ 1 then (s.endHand c false).put (Fld.ARC_PIER_STATE_STATE c) 2
      else s.modHand c (fun h => { h with back := true, ramp := h.ramp - 1 })
    else if h.ramp < r then s.modHand c (fun h => { h with ramp := h.ramp + 1 })
    else s.beginOpen c
  | 4 => if gone ∨ lower then (s.endHand c false).toFree c else s
  | 6 =>
    if s.pierSt c = 6 then
      if lower then
        ((s.setPier c 2 h.recv).endHand c false).startHand c 0x1F
      else (s.setPier c 7 h.recv).modHand c (fun h => { h with ramp := 1 })
    else if lower then (s.endHand c false).startHand c 0x1F
    else if h.ramp < r then s.modHand c (fun h => { h with ramp := h.ramp + 1 })
    else ((s.put (Fld.ARC_PIER_STATE_STATE c) 2).touchOut h.recv).endHand c true
  | _ => if gone ∨ lower then s.modHand c (fun h => { h with stop := true }) else s

/-- Piers of outlets that are not ACTIVE and whose reference is zero are released (R280). -/
def State.releaseIdle (s : State) : State :=
  forEach (List.range 12) s (fun s n =>
    let c := s.cPier n
    let o := s.pierOutC c
    if s.pierSt c = 2 ∧ s.localOut o ∧ s.outSt o ≠ 1 ∧ (s.out (o - s.oBase)).ref = 0 ∧ (s.handOf c).isNone then
      s.startHand c 0x1F else s)

/-! ### Planner (R278, R279) -/

/-- What the planner knows of a pier: cascade index, state, outlet, capacity, margin in sQ15.16. -/
structure PInfo where
  c : Nat := 0
  st : Nat := 0
  o : Nat := 0x1F
  cap : Nat := 0
  margin : Int := 0
deriving DecidableEq, Repr

def State.pInfos (s : State) : List PInfo :=
  (List.range 12).map (fun n => let c := s.cPier n
    { c := c, st := s.pierSt c, o := s.pierOutC c, cap := (s.arcPier c).cap, margin := (s.arcPier c).margin }) ++
  (if s.common then (List.range 12).map (fun j =>
    let a := 0x90 + 8 * j
    let o := leAt s.arc.rxRec (a + 7) 1
    { c := 12 + j, st := leAt s.arc.rxRec (a + 6) 1, o := if o = 0xFF then 0x1F else o
      cap := leAt s.arc.rxRec a 4, margin := toS 16 (leAt s.arc.rxRec (a + 4) 2) * 256 }) else [])

/-- Piers of the follower in a hand-off that the master has not ordered: by their states in the request record. -/
def State.farOwn (s : State) : List Nat :=
  if !s.common then []
  else (List.range 12).filter (fun j =>
    let st := leAt s.arc.rxRec (0x96 + 8 * j) 1
    (st == 3 || st == 5 || st == 6 || st == 7) && !s.arc.far.any (fun h => h.pier == 12 + j))

/-- Hand-offs in progress, on both modules, releases apart. -/
def State.handCount (s : State) : Nat :=
  ((s.arc.hand ++ s.arc.far).filter (fun h => h.recv != 0x1F)).length + s.farOwn.length

/-- No hand-off of pier c is in progress or ordered. -/
def State.noHand (s : State) (c : Nat) : Bool := !(s.arc.hand ++ s.arc.far).any (fun h => h.pier == c)

/-- Arch periods of MIN_DWELL. -/
def State.minDwell (s : State) : Nat :=
  if s.nArch * s.periodUs = 0 then 0 else (s.site 0x16 2 * 1000 + s.nArch * s.periodUs - 1) / (s.nArch * s.periodUs)

/-- Outlet o has rested since its last change and takes part in no hand-off. -/
def State.restedOut (s : State) (o : Nat) : Bool :=
  decide (s.minDwell ≤ (s.arcOut o).since) && !(s.arc.hand ++ s.arc.far).any (fun h => h.donor == o || h.recv == o) &&
  !s.farOwn.any (fun j => leAt s.arc.rxRec (0x97 + 8 * j) 1 == o)

/-- Conditions on crosspoint, states, FREEZE and MAX_HANDOFF that R281 keeps. -/
def State.pairOk (s : State) (p : PInfo) (r : Nat) : Bool :=
  (match s.xpOf p.c r with | some k => s.xpSt k != 5 || !s.localPier p.c | none => false) &&
  (p.st == 1 || (p.st == 2 && p.o != r)) && !s.bit Fld.ARC_CTRL_FREEZE &&
  decide (s.handCount < s.site 0x19 1) && s.noHand p.c

/-- R278 for pier p and receiver r. -/
def State.qualifies (s : State) (es : List LOut) (ps : List PInfo) (r : LOut) (p : PInfo) : Bool :=
  let unmet : Int := (r.d.natAbs : Int) - r.vcap
  r.active && decide ((s.site 0x1A 1 : Int) * s.capKw r.v p.cap ≤ 100 * unmet) &&
  decide ((ps.filter (fun x => x.o == r.c && (x.st == 2 || x.st == 3 || x.st == 7))).length < s.site 0x33 1) &&
  s.pairOk p r.c && decide (s.cfgS 9 0x44 4 ≤ p.margin) && s.restedOut r.c &&
  (p.st == 1 || (match es.find? (fun e => e.c == p.o) with
    | some o => decide (r.cls ≤ o.cls) && s.donorCan es o.c (s.capKw o.v p.cap) && s.restedOut o.c
    | none => false))

/-- Best of the piers of one kind: largest margin, then lowest index (R279). -/
def bestPier : List PInfo → Option PInfo
  | [] => none
  | p :: t => match bestPier t with
    | none => some p
    | some q => if p.margin < q.margin then some q else some p

/-- Receivers in rank order: class, then largest unmet, then lowest index. -/
def rankOuts (es : List LOut) : List LOut :=
  es.mergeSort (fun a b => decide (a.cls < b.cls) ||
    (a.cls == b.cls && decide ((b.d.natAbs : Int) - b.vcap ≤ (a.d.natAbs : Int) - a.vcap)))

/-- The hand-off that the planner starts: a receiver, then a pier for it (R278, R279). -/
def State.plan (s : State) (es : List LOut) : Option (Nat × Nat) :=
  let ps := s.pInfos
  (rankOuts es).findSome? (fun r =>
    let q := ps.filter (s.qualifies es ps r)
    match bestPier (q.filter (fun p => p.st == 1)) with
    | some p => some (p.c, r.c)
    | none => (bestPier q).map (fun p => (p.c, r.c)))

/-- A hand-off starts on this module, or goes to the follower as an order (R292). -/
def State.order1 (s : State) (c o : Nat) : State :=
  if s.localPier c then s.startHand c o
  else
    let s := s.modArc (fun a => { a with
      orders := a.orders ++ [(c, o)]
      far := a.far ++ [{ pier := c, donor := leAt a.rxRec (0x97 + 8 * (c - 12)) 1, recv := o, step := 0 }] })
    if o = 0x1F then s else s.arcEvt Fld.ARC_EVT_HO_START

/-- A pending ARC_MOVE is taken (R281). A follower takes it for its own piers. -/
def State.takeMove (s : State) : State :=
  if !s.bit Fld.ARC_MOVE_GO then s
  else
    let s := s.putB Fld.ARC_MOVE_GO false
    let o := s.get Fld.ARC_MOVE_OUTLET
    match s.pInfos.find? (fun p => p.c == s.get Fld.ARC_MOVE_PIER) with
    | none => s.arcEvt Fld.ARC_EVT_HO_FAIL
    | some p =>
      if o = 0x1F then
        if p.st = 2 ∧ s.noHand p.c ∧ !s.bit Fld.ARC_CTRL_FREEZE ∧ s.handCount < s.site 0x19 1 then s.order1 p.c 0x1F
        else s.arcEvt Fld.ARC_EVT_HO_FAIL
      else if s.pairOk p o && s.outSt o == 1 then s.order1 p.c o
      else s.arcEvt Fld.ARC_EVT_HO_FAIL

/-! ### Records of a cascade (R293) -/

/-- Index a of the Arch period that runs (R262, R293). -/
def State.archIndex (s : State) : Nat := s.arc.index.getD 0

/-- Request record of the follower. -/
def State.requestRec (s : State) : List Byte :=
  toLE 1 1 ++ toLE 3 0 ++ toLE 4 s.archIndex ++ toLE 8 0 ++
  (List.range 8).flatMap (fun m => let e := s.localEntry m
    toLE 4 (ofS 32 e.d) ++ toLE 4 e.vcap.toNat ++ toLE 4 (roundFree (e.v * 65536)).toNat ++ toLE 1 (s.outSt e.c) ++ toLE 3 0) ++
  (List.range 12).flatMap (fun n => let c := s.cPier n
    toLE 4 (s.get (Fld.PHS_PIER_CAP_CAP n)) ++ toLE 2 (ofS 16 (s.getS (Fld.PHS_PIER_TMARGIN_MARGIN n) / 256)) ++
    toLE 1 (s.pierSt c) ++ toLE 1 (if s.pierOutC c = 0x1F then 0xFF else s.pierOutC c))

/-- Allocation record of the master. -/
def State.allocRec (s : State) : List Byte :=
  toLE 1 2 ++ toLE 3 0 ++ toLE 4 s.archIndex ++ toLE 8 0 ++
  (List.range 8).flatMap (fun j =>
    ((List.range 4).flatMap (fun i => toLE 2 (nth 0 (nth [] s.arc.farCeil j) i))) ++
    toLE 4 (match s.arc.farBuf with | some (m, x) => if m = j then ofS 32 x else 0 | none => 0) ++ toLE 4 0) ++
  (List.range 12).flatMap (fun j =>
    let o := leAt s.arc.rxRec (0x90 + 8 * j + 7) 1
    let cmd := s.arc.orders.find? (fun x => x.1 == 12 + j)
    toLE 2 (nth 0 s.arc.farShare j) ++
    (match cmd with
      | some (_, t) => if t = 0x1F then toLE 1 0xFF ++ toLE 1 2 else toLE 1 (t - 8) ++ toLE 1 1
      | none => toLE 1 (if o < 8 ∨ 16 ≤ o then 0xFF else o - 8) ++ toLE 1 0))

/-- The follower's results from the allocation record it received (R293). -/
def State.resOfRec (s : State) : ArcRes :=
  let r := s.arc.rxRec
  { ceil := (List.range 8).map (fun j => (List.range 4).map (fun i => leAt r (0x10 + 16 * j + 2 * i) 2))
    buf := match s.bufOut with
      | some c => some (c - s.oBase, toS 32 (leAt r (0x10 + 16 * (c - s.oBase) + 8) 4))
      | none => none
    share := let own := s.allShares
      (List.range 12).map (fun n =>
        if s.arc.hand.any (fun h => h.donor == s.pierOutC (s.cPier n) || h.recv == s.pierOutC (s.cPier n)) then nth 0 own n
        else leAt r (0x90 + 4 * n) 2) }

/-- The allocation that came in the Arch period that ends is applied from this boundary (R293). -/
def State.takeAlloc (s : State) : State :=
  if s.follower && !s.fallback && s.arc.gotRec then
    let r := s.resOfRec
    s.modArc (fun a => { a with due := some r, ordersDue := true })
  else s

/-- Commands of the allocation record start or release, once (R293). -/
def State.takeOrders (s : State) : State :=
  if !s.arc.ordersDue then s
  else forEach (List.range 12) (s.modArc (fun a => { a with ordersDue := false })) (fun s n =>
    let c := s.cPier n
    let a := 0x90 + 4 * n
    let cmd := leAt s.arc.rxRec (a + 3) 1
    if (s.handOf c).isSome then s
    else if cmd = 1 ∧ (s.pierSt c = 1 ∨ s.pierSt c = 2) ∧ leAt s.arc.rxRec (a + 2) 1 < 8 then
      s.startHand c (s.cOut (leAt s.arc.rxRec (a + 2) 1))
    else if cmd = 2 ∧ s.pierSt c = 2 then s.startHand c 0x1F else s)

/-- R294, R295: missing and good records of the Arch period that ends; a period is good where a record went out and one came in. -/
def State.countRecords (s : State) : State :=
  if !s.cascMaster && !s.follower then s
  else if !s.arc.begun then s.modArc (fun a => { a with begun := true })
  else
    let got := s.arc.gotRec
    let miss := if got then 0 else satInc 255 s.arc.missRec
    let good := if got && s.arc.sentRec then satInc 255 s.arc.goodRec else 0
    let s := s.modArc (fun a => { a with missRec := miss, goodRec := good, gotRec := false, sentRec := false })
    if 2 ≤ miss ∧ !s.fallback then
      ((s.putB Fld.ARC_STAT_FALLBACK true).arcEvt Fld.ARC_EVT_FALLBACK).reportNone 0x29 clsC 0xFF
    else if 10 ≤ good ∧ s.fallback then s.putB Fld.ARC_STAT_FALLBACK false
    else s

/-! ### The Arch period -/

/-- The shadow comes into use, or is refused (R298, R299). -/
def State.commitShadow (s : State) : State :=
  if !s.bit Fld.ARC_COMMIT_GO then s
  else
    let s := s.putB Fld.ARC_COMMIT_GO false
    let words := (List.range 256).map (fun w => (w, s.get (Fld.ARC_SHADOW_WORD w)))
    let sum : Int := (List.range 16).foldl (fun a m => a + (s.get (Fld.ARC_SHADOW_WORD (16 * m + 1)) : Int)) 0
    if (s.get Fld.ARC_GRID_IMPORT : Int) - s.site 0x08 4 < sum then s.modArc (fun a => { a with refused := true })
    else s.modArc (fun a => { a with refused := false, useImp := s.get Fld.ARC_GRID_IMPORT
                                     useExp := s.get Fld.ARC_GRIDX_EXPORT, usePref := s.getS Fld.ARC_BUF_PREF
                                     useRec := words.filter (fun x => x.2 != 0) })

/-- A load step of R193 where a ceiling of outlet m rises by more than STEP_THRESH. -/
def State.ceilRise (s : State) (m chg dis : Nat) : State :=
  let o := s.arcOut (s.cOut m)
  let s := forEach (List.range 12) s (fun s n =>
    let th : Rat := (s.get (Fld.PHS_PIER_STEP_STEP_THRESH n) : Rat) / 16
    if s.pierOutlet n == some m && (decide (th < ((chg : Rat) - (o.lastChg : Rat)) / 8) ||
        decide (th < ((dis : Rat) - (o.lastDis : Rat)) / 8)) then
      s.modPier n (fun q => { q with ceilStep := true }) else s)
  s.modArcOut (s.cOut m) (fun o => { o with lastChg := chg, lastDis := dis })

/-- The results of the Arch period that ends take effect (R263). -/
def State.applyArch (s : State) : State :=
  match s.arc.due with
  | none => s
  | some r =>
    let s := s.modArc (fun a => { a with due := none })
    let s := forEach (List.range 8) s (fun s m =>
      match r.ceil[m]? with
      | some [ic, id, pc, pd] =>
        let s := s.ceilRise m ic id
        (((s.put (Fld.KST_OUT_ARCHI_CHG m) ic).put (Fld.KST_OUT_ARCHI_DIS m) id).put (Fld.KST_OUT_ARCHP_CHG m) pc).put
          (Fld.KST_OUT_ARCHP_DIS m) pd
      | _ => s)
    let s := match r.buf with | some (m, x) => s.putS (Fld.KST_OUT_SET_AMPS m) x | none => s
    forEach (List.range 12) s (fun s n => s.put (Fld.KST_PIER_SHARE_SHARE n) (nth 0 r.share n))

/-- Outlet states from EN, unless contested or SAFE (R267). -/
def State.syncOutStates (s : State) : State :=
  forEach (List.range 8) s (fun s m =>
    let c := s.cOut m
    if s.outSt c = 2 ∨ s.outSt c = 3 then s else s.put (Fld.ARC_OUT_STATE_STATE c) (if (s.out m).en then 1 else 0))

/-- R522: the charger's present maxima of every SECC link. -/
def State.writeEmax (s : State) : State :=
  forEach (List.range 8) s (fun s n =>
    if s.vlUse n ≠ 1 then s
    else
      let m := s.vlOutlet n
      let o := s.out m
      let v := (s.arcOut (s.cOut m)).vm
      let i (a p : Nat) : Nat :=
        let pw : Rat := if v = 0 then 0 else (p : Rat) / 8 * 1000 / v
        down8 (min (min ((a : Rat) / 8) pw) (min ((o.styi : Rat) / 8) ((o.capi : Rat) / 8)))
      let dis := s.mayDischarge n
      let s := (s.put (Fld.VLK_L_EMAXI_CHG n) (i o.archiChg o.archpChg)).put (Fld.VLK_L_EMAXP_CHG n) o.archpChg
      (s.put (Fld.VLK_L_EMAXI_DIS n) (if dis then i o.archiDis o.archpDis else 0)).put (Fld.VLK_L_EMAXP_DIS n)
        (if dis then o.archpDis else 0))

/-- The registers that show the ledger (ARC_LEDGw, DEM, ALLOC, SHORT). -/
def State.showLedger (s : State) (l : Ledger) : State :=
  let k (w : Nat) (s : State) (x : Int) : State := s.putS (Fld.ARC_LEDG_KW w) x
  let s := k 5 (k 4 (k 3 (k 2 (k 1 (k 0 s (s.impNow - s.site 0x08 4 - kwOf s.arc.trim)) l.sup) l.achg) l.adis) l.b)
    (kwOf s.arc.trim)
  let s := match s.gridW with
    | some w => k 6 s (kwOf ((w : Rat) / 1000))
    | none => let r := s.fresh 32; r.2.put (Fld.ARC_LEDG_KW 6) r.1
  let s := k 7 s (l.net + l.b)
  let es := s.planEntries l
  let s := forEach (List.range 16) s (fun s c =>
    let e := (es.find? (fun o => o.c == c)).getD {}
    (s.putS (Fld.ARC_OUT_DEM_KW c) e.d).putS (Fld.ARC_OUT_ALLOC_KW c) e.a)
  s.putB Fld.ARC_STAT_SHORT (l.outs.any (fun o => o.active && decide (o.a.natAbs < o.d.natAbs)))

/-- What a follower under the master's ledger shows of its own outlets: their demand, and the power ceilings of the allocation record as
the allocation, in 1/8 kW (R293, R298; log entry 80). -/
def State.showAlloc (s : State) : State :=
  let es := s.entries
  let got (e : LOut) : Int :=
    let o := 0x14 + 16 * (e.c - s.oBase)
    32 * ((leAt s.arc.rxRec o 2 : Int) - (leAt s.arc.rxRec (o + 2) 2 : Int))
  let s := es.foldl (fun s e => (s.putS (Fld.ARC_OUT_DEM_KW e.c) e.d).putS (Fld.ARC_OUT_ALLOC_KW e.c) (got e)) s
  s.putB Fld.ARC_STAT_SHORT (es.any (fun e => e.active && decide ((got e).natAbs / 32 < e.d.natAbs / 32)))

/-- The results of a ledger for the next Arch period; the follower's part goes to the allocation record. -/
def State.takeLedger (s : State) (l : Ledger) : State :=
  let ceil (c : Nat) : List Nat :=
    if s.bufHere = some c then
      let e := (s.entries.find? (fun o => o.c == c)).getD {}
      s.ceilings { e with a := l.b }
    else match l.outs.find? (fun o => o.c == c) with | some o => s.ceilings o | none => [0, 0, 0, 0]
  let buf := s.bufHere.map (fun c =>
    let v := ((s.entries.find? (fun o => o.c == c)).getD {}).v
    (c, if v = 0 then (0 : Int) else roundFree (((l.b : Int) : Rat) / 256 * 1000 / v * 65536)))
  let mine := match buf with | some (c, x) => if s.localOut c then some (c - s.oBase, x) else none | none => none
  let far := match buf with | some (c, x) => if s.localOut c then none else some (c - 8, x) | none => none
  s.modArc (fun a => { a with
    due := some { ceil := (List.range 8).map (fun m => ceil (s.cOut m)), buf := mine, share := s.allShares }
    farCeil := (List.range 8).map (fun j => ceil (8 + j)), farBuf := far, farShare := s.farShares })

/-- What happens at the start of an Arch period before the ledger: results in force, means, commit, records counted, units' states, trim. The
follower forms its request record. -/
def State.archBegin (s : State) : State :=
  let s := s.applyArch.takeMeans.commitShadow.countRecords
  let s := s.put Fld.ARC_STAT_ASEQ (s.get Fld.ARC_STAT_ASEQ + 1)
  let s := s.put Fld.ARC_STAT_CASCADE (if s.cascMaster then 1 else if s.follower then 2 else 0)
  let s := forEach (List.range 12) s (fun s n => s.modArcPier (s.cPier n) (fun p =>
    { p with cap := s.get (Fld.PHS_PIER_CAP_CAP n), margin := s.getS (Fld.PHS_PIER_TMARGIN_MARGIN n) }))
  let s := s.syncOutStates.syncArcPiers
  let trim := s.newTrim
  let s := s.modArc (fun a => { a with trim := trim, orders := [] })
  if s.follower then let r := s.requestRec; s.modArc (fun a => { a with txRec := r }) else s

/-- The ledger, hand-offs, plan, ceilings and shares of an Arch period; with `hold` the results of the last one stay (R294). -/
def State.archPlan (s : State) (hold : Bool) : State :=
  let s := s.modArc (fun a => { a with planDue := false })
  if s.ownLedger then
    let l := s.ledger
    let es := s.planEntries l
    let s := s.arc.hand.foldl (fun s h => s.advance es h) s
    let s := s.releaseIdle.takeMove
    let s := match if hold then none else s.plan es with | some (c, o) => s.order1 c o | none => s
    let s := s.syncPiers.showLedger l
    (if hold then s else s.takeLedger l).writeEmax
  else
    let s := s.arc.hand.foldl (fun s h => s.advance s.entries h) s
    s.releaseIdle.takeMove.takeOrders.syncPiers.showAlloc.writeEmax

/-- R262 to R273, R278 to R286, R293 to R295, R298, R299, R522: an Arch period starts. It takes the values in force in its
first control period. The master of a common ledger waits for the follower's request record of this period. -/
def execArchPeriodStart (s : State) : Out :=
  .next (if !s.archOn then s
    else
      let s := s.archBegin
      if s.common && !s.arc.newRec then s.modArc (fun a => { a with planDue := true })
      else (s.modArc (fun a => { a with newRec := false })).archPlan false)

/-- The follower's request record at the master: its units' states, the rest of its outlets' pier sets, and the end of the hand-offs
that the master ordered (R291 to R293; log entry 80). -/
def State.takeFar (s : State) (p : List Byte) : State :=
  let st (r : List Byte) (j : Nat) := leAt r (0x96 + 8 * j) 1
  let ou (r : List Byte) (j : Nat) := leAt r (0x97 + 8 * j) 1
  let set (r : List Byte) (o : Nat) := (List.range 12).filter (fun j => (st r j == 2 || st r j == 3) && ou r j == o)
  let old := s.arc.rxRec
  let s := s.modArc (fun a => { a with rxRec := p })
  let s := forEach (List.range 8) s (fun s j =>
    let o := 8 + j
    let mask := maskOf (((List.range 12).filter (fun i => (st p i == 2 || st p i == 3 || st p i == 7) && ou p i == o)).map (· + 12))
    let s := (s.put (Fld.ARC_OUT_STATE_STATE o) (leAt p (0x1C + 16 * j) 1)).put (Fld.ARC_OUT_STATE_PIERS o) mask
    if set old o = set p o then s else s.touchOut o)
  let s := s.arc.far.foldl (fun s h =>
    let x := st p (h.pier - 12)
    let keep (f : HandOff → HandOff) : State := s.modArc (fun a => { a with far := a.far.map (fun g => if g.pier = h.pier then f g else g) })
    if 3 ≤ x ∧ x ≤ 7 then keep (fun g => { g with step := 1 })
    else if h.step = 0 ∧ h.ramp < 3 then keep (fun g => { g with ramp := g.ramp + 1 })
    else
      let s := s.modArc (fun a => { a with far := a.far.filter (fun g => g.pier != h.pier) })
      if h.recv = 0x1F then s
      else s.arcEvt (if x = 2 ∧ ou p (h.pier - 12) = h.recv then Fld.ARC_EVT_HO_DONE else Fld.ARC_EVT_HO_FAIL)) s
  forEach (List.range 12) s (fun s j =>
    let c := 12 + j
    let s := s.setPier c (st p j) (if ou p j < 16 then ou p j else 0x1F)
    s.setTarget c (match s.arc.far.find? (fun h => h.pier == c) with | some h => h.recv | none => 0x1F))

/-- The Arch record in a twin payload: a request record for the master, an allocation record for the follower. It is good where its index
is that of the running Arch period (R293). -/
def State.takeRecord (s : State) (p : List Byte) : State :=
  let kind := leAt p 0 1
  if leAt p 4 4 ≠ s.archIndex % 2 ^ 32 then s
  else if s.follower && kind == 2 && decide (0xC0 ≤ p.length) then s.modArc (fun a => { a with gotRec := true, rxRec := p })
  else if s.cascMaster && kind == 1 && decide (0xF0 ≤ p.length) then
    let s := (s.takeFar p).modArc (fun a => { a with gotRec := true })
    if s.arc.planDue && s.common then s.archPlan false else s.modArc (fun a => { a with newRec := true })
  else s

/-- R160, R161, R293: `timer` is the interval since frame SEQ−1 left, in fine steps, at the master, and the local site time
in 1/65,536 ns at the follower. -/
def execTwinFrameRx (t : Fin 2) (bytes : List Byte) (timer : Nat) (s : State) : Out :=
  .next (if s.twinUse t = 0 ∨ !s.bit (Fld.TWL_LINK_CTRL_EN t) ∨ s.bit (Fld.TWL_LINK_CTRL_LOOP t) then s
    else if !twinValid bytes then
      (s.inc (Fld.TWL_LINK_ERR_UP_CRC t)).putB (Fld.TWL_LINK_STAT_UP_BAD t) true
    else (s.takeTwin t bytes timer).takeRecord (twinPayload bytes))

/-- R33: code 0x28. `stay` names the Stay's refresh; the Arch's is not counted in the VEHICLE role. -/
def execCeilingRefreshTimeout (m : Fin 8) (stay : Bool) (s : State) : Out :=
  .next (if s.role = 2 ∧ !stay then s else s.reportOutlet 0x28 clsB 0xFF m)

/-! ### Steps 2 to 5 of a hand-off -/

/-- The crosspoint is commanded open. -/
def State.openXp (s : State) (k : Nat) : State :=
  let s := s.modXp k (fun x => { x with cmd := false })
  if s.xpSt k = 1 ∨ s.xpSt k = 2 then s.setXp k (if s.bit (Fld.ARC_XP_STAT_AUX k) then 3 else 0) else s

/-- Crosspoints of pier c that open once its current is below I_ZERO: that of a hand-off or release in step 2, those of a pier that is OFF,
SAFE or in FAULT, those of a SAFE outlet, and one that is itself SAFE (R276, R277, R282, R287). -/
def State.zeroXps (s : State) (c : Nat) : List Nat :=
  let st := s.pierSt c
  (s.pierXps c).filter (fun k => st == 0 || st == 9 || st == 10 || s.outSt (s.xpOut k) == 3 || (s.arcXp k).safe ||
    (match s.handOf c with | some h => h.step == 2 && h.xp == k | none => false))

/-- R276: the pier's current has stayed below I_ZERO for 10 control periods. -/
def execZeroCurrentOpen (c : Fin 24) (s : State) : Out :=
  .next (if !s.localPier c || decide (q16 (s.site 0x20 4) ≤ absR (s.pierI (c - s.pBase))) then s
    else forEach (s.zeroXps c) s State.openXp)

/-- The declared state of pier c after a contest: the outlet of a closed crosspoint, else FREE or OFF (R289). -/
def State.declared (s : State) (c : Nat) : State :=
  match (s.pierXps c).find? (fun k => s.bit (Fld.ARC_XP_STAT_AUX k) && (s.arcXp k).cmd) with
  | some k => s.setPier c 2 (s.xpOut k)
  | none => s.toFree c

/-- Pier c, whose hand-off an outlet contest has ended, takes its declared state once no contact of it is in motion; a check that ran
leaves its crosspoint unchecked (R286, R655; log entry 80). -/
def State.settle (s : State) (c : Nat) : State :=
  if (s.handOf c).isSome ∨ s.pierSt c < 3 ∨ 7 < s.pierSt c then s
  else
    let s := forEach (s.pierXps c) s (fun s k => if s.xpSt k = 4 then (s.setXp k 0).modXp k (fun x => { x with unchecked := true }) else s)
    if (s.pierXps c).any (fun k => s.xpSt k == 1 || s.xpSt k == 3) then s else (s.declared c).syncPiers

/-- A contact has moved: the hand-off of the pier advances (steps 2 and 5 of R282). -/
def State.contactMoved (s : State) (k : Nat) (closed : Bool) : State :=
  let c := s.xpPier k
  let plain : State := if s.xpSt k = 3 ∧ !closed then s.setXp k 0 else if s.xpSt k = 1 ∧ closed then s.setXp k 2 else s
  match s.handOf c with
  | none => plain.settle c
  | some h =>
    if s.xpSt k = 3 ∧ !closed ∧ h.step = 2 then
      ((s.setXp k 4).modHand c (fun h => { h with step := 3, xp := k })).modArcPier c (fun p =>
        { p with weld := some 0, ovr := some 0 })
    else if s.xpSt k = 1 ∧ closed ∧ h.step = 5 then
      (s.setXp k 2).modHand c (fun h => { h with step := 6, ramp := 0 })
    else plain

/-- R274, R275: the auxiliary contact of crosspoint k has settled over AUX_FILT; its Truss input port carries it. -/
def execAuxContactFiltered (k : Fin 64) (closed : Bool) (s : State) : Out :=
  .next (if !s.xpUsed k || !s.localPier (s.xpPier k) then s
    else ((s.setPort (s.xpAuxPort k) (if closed then 1 else 0)).putB (Fld.ARC_XP_STAT_AUX k) closed).contactMoved k closed)

/-- R275: code 0x0B; the crosspoint and its pier enter FAULT. -/
def execAuxContactTimeout (k : Fin 64) (s : State) : Out :=
  let c := s.xpPier k
  .next (if !s.xpUsed k || !s.localPier c || s.bit (Fld.ARC_XP_STAT_AUX k) == (s.arcXp k).cmd then s
    else
      let s := ((s.setXp k 5).arcEvt Fld.ARC_EVT_XP_FAULT).endHand c false
      ((s.setPier c 10 0x1F).reportPier 0x0B clsB 0xFF (c - s.pBase)).syncPiers.syncLower)

/-- R652, R654, R286: the crosspoint check of pier c ends; `rise` is the measured rise of VOUT in 1/65,536 V. -/
def execWeldCheckEnd (c : Fin 24) (rise : Int) (s : State) : Out :=
  .next (match s.handOf c with
    | some h =>
      if h.step ≠ 3 ∨ s.xpSt h.xp ≠ 4 then s
      else
        let n := c.val - s.pBase
        let cp : Rat := (s.par (0x3C0 + 8 * n) 4 : Rat) / 1000000
        let want : Rat := if cp = 0 then 0 else q16 (s.par 0x10 4) * (s.par 0x0C 1 : Rat) / 1000 / cp
        let s := s.modArcPier c (fun p => { p with weld := none, ovr := none })
        let s := s.modXp h.xp (fun x => { x with unchecked := false })
        if want / 2 ≤ q16i rise then
          let s := s.setXp h.xp 0
          if h.recv = 0x1F ∨ h.stop then (s.endHand c false).toFree c
          else s.beginMatch c
        else
          let s := ((s.setXp h.xp 5).modXp h.xp (fun x => { x with welded := true })).arcEvt Fld.ARC_EVT_XP_FAULT
          let m := s.xpOut h.xp - s.oBase
          ((((s.endHand c false).setPier c 10 0x1F).report 0x0A clsB 0xFF (2 ^ m) (2 ^ n)).syncPiers).syncLower
    | none => s)

/-- Receiver voltage, pier voltage and the target of matching (R284). -/
def State.matchV (s : State) (h : HandOff) : Option (Rat × Rat) :=
  match s.outV (h.recv - s.oBase), s.pierV (h.pier - s.pBase) with
  | some vr, some v => some (if vr < q16 (s.site 0x40 4) then 0 else vr, v)
  | _, _ => none

/-- The matching condition of R284 holds in this period. -/
def State.matched (s : State) (h : HandOff) : Bool :=
  match s.matchV h with
  | some (vt, v) => if vt = 0 then decide (v < q16 (s.site 0x40 4)) else decide (absR (vt - v) < q16 (s.site 0x2C 4))
  | none => false

/-- R284, R282: matched for 10 control periods; the close command is given, unless a unit is being lowered (R286). -/
def execMatched (c : Fin 24) (s : State) : Out :=
  .next (match s.handOf c with
    | some h =>
      if h.step ≠ 4 ∨ !s.matched h ∨ h.stop ∨ s.lowered? c ∨ s.outLowered? h.recv then s
      else match s.xpOf c h.recv with
      | some k => (((s.modXp k (fun x => { x with cmd := true })).setXp k 1).setPier c 6 0x1F).modHand c
          (fun h => { h with step := 5, xp := k }) |>.modArcPier c (fun p => { p with ovr := none })
      | none => s
    | none => s)

/-- R285: code 0x29, Class C. -/
def execMatchTimeout (c : Fin 24) (s : State) : Out :=
  .next (match s.handOf c with
    | some h => if h.step ≠ 4 then s else ((s.endHand c false).toFree c).reportPier 0x29 clsC 0xFF (c - s.pBase)
    | none => s)

/-! ### Contests (R287 to R290) -/

/-- Some other crosspoint of the pier shows closed. -/
def State.otherClosed (s : State) (k : Nat) : Bool :=
  (s.pierXps (s.xpPier k)).any (fun j => j != k && s.bit (Fld.ARC_XP_STAT_AUX j))

/-- The test of R287 for a unit: kind 0 pier, 1 outlet, 2 crosspoint; cascade indices. -/
def State.contestTest (s : State) (kind i : Nat) : Bool :=
  let th := q16 (s.site 0x1C 4)
  match kind with
  | 0 =>
    let n := i - s.pBase
    let st := s.pierSt i
    let o := s.pierOutC i
    let rest := (s.pierXps i).filter (fun k => s.bit (Fld.ARC_XP_STAT_AUX k))
    let served := if st = 2 then some o else if st = 8 ∨ st = 9 then (rest.head?).map s.xpOut else none
    decide (th < absR (s.pierI n)) &&
      (match served with
       | some o => s.pierLowered n || decide (absR (s.outI (o - s.oBase)) < th)
       | none => st ≤ 1 || st == 8 || st == 9 || s.pierLowered n)
  | 1 => !(s.out (i - s.oBase)).en && decide (th < absR (s.outI (i - s.oBase)))
  | _ => s.xpUsed i && !s.bit (Fld.ARC_XP_STAT_AUX i) && decide (th < absR (s.pierI (s.xpPier i - s.pBase))) && !s.otherClosed i

/-- The unit is one of this module. -/
def State.ownUnit (s : State) (kind i : Nat) : Bool :=
  match kind with | 0 => s.localPier i | 1 => s.localOut i | _ => s.xpUsed i && s.localPier (s.xpPier i)

/-- Its contest bit. -/
def State.contestBit (s : State) (kind i : Nat) : Bool :=
  match kind with
  | 0 => (s.get Fld.ARC_CONTP_PIER).testBit i
  | 1 => (s.get Fld.ARC_CONTO_OUTLET).testBit i
  | _ => (s.get (Fld.ARC_CONTX_XP (i / 32))).testBit (i % 32)
def State.putContest (s : State) (kind i : Nat) (b : Bool) : State :=
  match kind with
  | 0 => s.putBit Fld.ARC_CONTP_PIER i b
  | 1 => s.putBit Fld.ARC_CONTO_OUTLET i b
  | _ => s.putBit (Fld.ARC_CONTX_XP (i / 32)) (i % 32) b

/-- The unit has been forced to its safe state. -/
def State.unitSafe (s : State) (kind i : Nat) : Bool :=
  match kind with | 0 => s.pierSt i == 9 | 1 => s.outSt i == 3 | _ => (s.arcXp i).safe

/-- A report about the unit with code 0x29. -/
def State.reportUnit (s : State) (kind i cls : Nat) : State :=
  match kind with
  | 0 => s.reportPier 0x29 cls 0xFF (i - s.pBase)
  | 1 => s.reportOutlet 0x29 cls 0xFF (i - s.oBase)
  | _ => s.reportPier 0x29 cls 0xFF (s.xpPier i - s.pBase)

/-- Hand-offs that touch the unit end at once (R286). -/
def State.endHandsOf (s : State) (kind i : Nat) : State :=
  s.arc.hand.foldl (fun s h =>
    if kind = 0 ∧ h.pier = i then s.endHand i false
    else if kind = 1 ∧ (h.donor = i ∨ h.recv = i) then (s.endHand h.pier false).settle h.pier else s) s

/-- R287, R288: the unit becomes contested. -/
def execContestDetect (kind : Fin 3) (i : Fin 64) (s : State) : Out :=
  .next (if !s.archOn || !s.ownUnit kind i || s.contestBit kind i || !s.contestTest kind i then s
    else
      let s := ((s.putContest kind i true).arcEvt Fld.ARC_EVT_CONTEST).endHandsOf kind i
      let s := match kind.val with
        | 0 => s.put (Fld.ARC_PIER_STATE_STATE i) 8
        | 1 => s.put (Fld.ARC_OUT_STATE_STATE i) 2
        | _ => s
      (s.reportUnit kind i clsC).syncPiers)

/-- R289: the test has failed for 10 Arch periods. -/
def execContestRelease (kind : Fin 3) (i : Fin 64) (s : State) : Out :=
  .next (if !s.ownUnit kind i || !s.contestBit kind i || s.unitSafe kind i || s.contestTest kind i then s
    else
      let s := s.putContest kind i false
      let s := match kind.val with
        | 0 => s.declared i
        | 1 => s.put (Fld.ARC_OUT_STATE_STATE i) 0
        | _ => s
      ((s.reportUnit kind i clsD).syncOutStates).syncPiers)

/-- R290: CONTEST_MS has passed; the unit is forced to the safe state of R287. Its crosspoints open once the current is below I_ZERO
(R276). -/
def execContestTimeout (kind : Fin 3) (i : Fin 64) (s : State) : Out :=
  .next (if !s.ownUnit kind i || !s.contestBit kind i || s.unitSafe kind i then s
    else
      let s := s.arcEvt Fld.ARC_EVT_CONTEST_SAFE
      match kind.val with
      | 0 => ((s.setPier i 9 (s.pierOutC i)).reportUnit kind i clsB).syncLower
      | 1 =>
        let ps := (List.range 64).filter (fun k => s.xpUsed k && s.xpOut k == i && s.bit (Fld.ARC_XP_STAT_AUX k))
        let m := i.val - s.oBase
        let s := s.put (Fld.ARC_OUT_STATE_STATE i) 3
        (s.report 0x29 clsB 0xFF (2 ^ m) (maskOf ((ps.map (fun k => s.xpPier k - s.pBase)).dedup))).syncLower
      | _ => ((s.modXp i (fun x => { x with safe := true })).reportUnit kind i clsB).syncLower)

/-- R290: firmware writes 1 to a contest bit; a SAFE unit whose states agree returns as OFF, FREE or IDLE. -/
def State.contestWrite (s : State) (kind i : Nat) : State :=
  if !s.ownUnit kind i || !s.unitSafe kind i || s.contestTest kind i then s
  else
    let s := s.putContest kind i false
    (match kind with
      | 0 => s.toFree i
      | 1 => s.put (Fld.ARC_OUT_STATE_STATE i) 0
      | _ => s.modXp i (fun x => { x with safe := false })).syncLower

/-- ARC_CONTP, ARC_CONTO, ARC_CONTXk. -/
def State.wrContP (s : State) (v : Nat) : State := forEach (mbits v 24) s (fun s i => s.contestWrite 0 i)
def State.wrContO (s : State) (v : Nat) : State := forEach (mbits v 16) s (fun s i => s.contestWrite 1 i)
def State.wrContX (s : State) (k v : Nat) : State := forEach (mbits v 32) s (fun s j => s.contestWrite 2 (32 * k + j))

/-! ### Registers (R298) -/

/-- R274: the drive of crosspoint k is asserted. A contested or welded crosspoint counts as closed (R288, R654). -/
def State.xpDrive (s : State) (k : Nat) : Bool :=
  let c := s.xpPier k
  (s.arcXp k).cmd && s.localPier c && (s.get Fld.PRP_ARMED_PIERS).testBit (c - s.pBase) &&
  (s.pierXps c).all (fun j => j == k || !((s.arcXp j).cmd || s.bit (Fld.ARC_XP_STAT_AUX j) || (s.arcXp j).welded ||
    s.contestBit 2 j))

/-- Value at Truss output port q: the drive of the crosspoint whose drive port it is (R274), else what the fabric routes there (R82). -/
def State.outPort (s : State) (q : Nat) : Nat :=
  match (List.range 64).find? (fun k => s.xpUsed k && s.xpDrivePort k == q) with
  | some k => if s.xpDrive k then 1 else 0
  | none => s.trussOut q

/-- ARC_XPk_STAT as read. -/
def State.readXp (s : State) (k : Nat) : Nat :=
  fieldSet (s.reg (Reg.ARC_XP_STAT k)) 6 1 (if s.xpDrive k then 1 else 0)

/-- ARC_OUTm_POL as read: a view of the shadow. -/
def State.readPol (s : State) (m : Nat) : Nat :=
  s.get (Fld.ARC_SHADOW_WORD (16 * m)) / 256 % 4 * 2 ^ 30 + s.get (Fld.ARC_SHADOW_WORD (16 * m + 1)) % 2 ^ 24

/-- Writes of the shadow, ignored while GO reads 1. -/
def State.wrShadow (s : State) (a v : Nat) : State := if s.bit Fld.ARC_COMMIT_GO then s else s.setReg a v
def State.wrPol (s : State) (m v : Nat) : State :=
  if s.bit Fld.ARC_COMMIT_GO then s
  else (s.setReg (Reg.ARC_SHADOW (16 * m)) (fieldSet (s.reg (Reg.ARC_SHADOW (16 * m))) 8 8 (v / 2 ^ 30))).setReg
    (Reg.ARC_SHADOW (16 * m + 1)) (v % 2 ^ 24)

/-! ### The control period (R28, R265, R284, R652) -/

/-- Reference that replaces the pier's in this period: matching (R284) or a crosspoint check (R652). -/
def State.override (s : State) (c : Nat) : Option Rat :=
  let bidir := s.pierBidir c
  match (s.arcPier c).weld with
  | some t =>
    let st := s.par 0x0D 1 * 1000
    let pu := s.par 0x0C 1 * 1000
    let i := q16 (s.par 0x10 4)
    some (if t < st then 0 else if t < st + pu then i else if bidir && decide (t < st + 2 * pu) then -i else 0)
  | none => match s.handOf c with
    | some h =>
      if h.step ≠ 4 then (s.arcPier c).ovr
      else match s.matchV h with
      | some (vt, v) =>
        let m := q16 (s.site 0x24 4)
        some (max (if bidir then -m else 0) (min m (q16 (s.site 0x28 4) * (vt - v))))
      | none => some 0
    | none => none

/-- References that matching replaces, from the samples of this period's up frames (R284). -/
def State.refreshOvr (s : State) : State :=
  forEach (List.range 12) s (fun s n =>
    match s.handOf (s.cPier n) with
    | some h => if h.step = 4 ∧ (s.pierUp n).isSome then
        let x := s.override (s.cPier n)
        s.modArcPier (s.cPier n) (fun p => { p with ovr := x }) else s
    | none => s)

/-- R212, R215, R225, R249, R250, R284: slot p of engine e evaluates; `err` is what the checks of the engine that runs it see in it. -/
def execSlotEvaluation (e : Fin 5) (p : Fin 1024) (err : EngErr) (s : State) : Out := .next ((s.refreshOvr).slotEvaluation e p err)

/-- The Arch's part of a period start. Arch period a starts with control period a × N_ARCH of site time (R262); a record goes into the twin
frame of control period 0 or N_ARCH − 2 (R293). -/
def State.arcPeriod (s : State) : State :=
  if !s.archOn then s
  else
    let s := s.accumulate
    let p := if s.periodUs = 0 then 0 else s.siteNs / (s.periodUs * 1000)
    let a := p / s.nArch
    let s := if s.arc.index = some a then s
      else s.takeAlloc.applyArch.modArc (fun x => { x with index := some a, newRec := false })
    let s := s.modArc (fun x => { x with tick := p % s.nArch, txRec := [] })
    let s := forEach (List.range 12) s (fun s n =>
      let x := s.override (s.cPier n)
      s.modArcPier (s.cPier n) (fun p => { p with ovr := x, weld := p.weld.map (· + s.periodUs) }))
    if s.arc.tick + 2 = s.nArch then
      let s := if s.arc.planDue then s.archPlan true else s
      if s.cascMaster then let r := s.allocRec; s.modArc (fun x => { x with txRec := r }) else s
    else s

/-- R265: what stands in for the Arch in the VEHICLE role. -/
def State.vehicleArch (s : State) : State :=
  if s.role ≠ 2 then s
  else
    let s := forEach (List.range 8) s (fun s m =>
      (((s.put (Fld.KST_OUT_ARCHI_CHG m) 0xFFFF).put (Fld.KST_OUT_ARCHI_DIS m) 0xFFFF).put
        (Fld.KST_OUT_ARCHP_CHG m) 0xFFFF).put (Fld.KST_OUT_ARCHP_DIS m) 0xFFFF)
    let ps := (List.range 12).filter (fun n => (s.pierOutlet n).isSome)
    let sh := ps.zip (proportion 32768 (ps.map (fun n => s.get (Fld.PHS_PIER_CAP_CAP n))))
    forEach (List.range 12) s (fun s n => s.put (Fld.KST_PIER_SHARE_SHARE n)
      (match sh.find? (fun x => x.1 == n) with | some x => (clampI x.2 0 32768).toNat | none => 0))

end Sys2Proof.Machine
end

