-- ==== Sys2Proof/Machine/Hash.lean ====
section
/-! DEFINITION. Hash functions that the spec names by their standards: SHA-3, SHAKE and KMAC256 (FIPS 202, SP 800-185), SHA-2 (FIPS 180-4);
and LZ4 block decompression (spec/02 R61, R64, R67, R73; spec/19 R747, R755, R758). -/

namespace Sys2Proof.Machine

/-! ### Keccak (FIPS 202) -/

/-- A 64-bit lane turned left by n. -/
def rotL64 (n x : Nat) : Nat := (x <<< (n % 64) ||| x >>> (64 - n % 64)) % 2 ^ 64

/-- Rotation of lane x + 5 y. -/
def keccakRho : List Nat :=
  [0, 1, 62, 28, 27, 36, 44, 6, 55, 20, 3, 10, 43, 25, 39, 41, 45, 15, 21, 8, 18, 2, 61, 56, 14]

/-- Constants of the 24 rounds. -/
def keccakRc : List Nat := [
  0x0000000000000001, 0x0000000000008082, 0x800000000000808A, 0x8000000080008000, 0x000000000000808B, 0x0000000080000001,
  0x8000000080008081, 0x8000000000008009, 0x000000000000008A, 0x0000000000000088, 0x0000000080008009, 0x000000008000000A,
  0x000000008000808B, 0x800000000000008B, 0x8000000000008089, 0x8000000000008003, 0x8000000000008002, 0x8000000000000080,
  0x000000000000800A, 0x800000008000000A, 0x8000000080008081, 0x8000000000008080, 0x0000000080000001, 0x8000000080008008]

/-- One round on the 25 lanes. -/
def keccakRound (a : List Nat) (rc : Nat) : List Nat :=
  let c := (List.range 5).map (fun x => (List.range 5).foldl (fun v y => v ^^^ nth 0 a (x + 5 * y)) 0)
  let d := (List.range 5).map (fun x => nth 0 c ((x + 4) % 5) ^^^ rotL64 1 (nth 0 c ((x + 1) % 5)))
  let t := (List.range 25).map (fun i => rotL64 (nth 0 keccakRho i) (nth 0 a i ^^^ nth 0 d (i % 5)))
  let b := (List.range 25).map (fun i => let x := i % 5; let y := i / 5; nth 0 t ((x + 3 * y) % 5 + 5 * x))
  let e := (List.range 25).map (fun i => let x := i % 5; let y := i / 5
    nth 0 b i ^^^ ((2 ^ 64 - 1 - nth 0 b ((x + 1) % 5 + 5 * y)) &&& nth 0 b ((x + 2) % 5 + 5 * y)))
  updAt e 0 (· ^^^ rc)

def keccakF (a : List Nat) : List Nat := keccakRc.foldl keccakRound a

/-- The blocks of `rate` bytes of a padded message are absorbed, k of them. -/
def absorb (rate : Nat) : Nat → List Nat → List Byte → List Nat
  | 0, a, _ => a
  | k + 1, a, l =>
    let a := (List.range 25).map (fun i => if 8 * i < rate then nth 0 a i ^^^ leAt l (8 * i) 8 else nth 0 a i)
    absorb rate k (keccakF a) (l.drop rate)

/-- k blocks are squeezed. -/
def squeeze (rate : Nat) : Nat → List Nat → List Byte
  | 0, _ => []
  | k + 1, a => (a.flatMap (toLE 8)).take rate ++ squeeze rate k (keccakF a)

/-- The sponge: capacity in bytes, suffix byte, message, bytes of output. -/
def sponge (cap suffix : Nat) (l : List Byte) (n : Nat) : List Byte :=
  let rate := 200 - cap
  let k := l.length / rate + 1
  let pad : List Byte := BitVec.ofNat 8 suffix :: List.replicate (k * rate - l.length - 1) 0
  let m := updAt (l ++ pad) (k * rate - 1) (· ^^^ 0x80)
  (squeeze rate (n / rate + 1) (absorb rate k (List.replicate 25 0) m)).take n

/-- SHA3-256 and SHA3-512 by their output bits. -/
def sha3 (bits : Nat) (l : List Byte) : List Byte := sponge (bits / 4) 0x06 l (bits / 8)
def shake128 (l : List Byte) (n : Nat) : List Byte := sponge 32 0x1F l n
def shake256 (l : List Byte) (n : Nat) : List Byte := sponge 64 0x1F l n

/-! ### KMAC256 (SP 800-185) -/

/-- The fewest bytes that hold v, most significant first, at least one. -/
def beBytes (v : Nat) : List Byte := (toLE ((List.range 8).filter (fun k => decide (256 ^ (k + 1) ≤ v)) |>.length.succ) v).reverse
def leftEncode (v : Nat) : List Byte := BitVec.ofNat 8 (beBytes v).length :: beBytes v
def rightEncode (v : Nat) : List Byte := beBytes v ++ [BitVec.ofNat 8 (beBytes v).length]
def encodeString (l : List Byte) : List Byte := leftEncode (8 * l.length) ++ l
/-- Zeros up to a multiple of w bytes, behind the encoded w. -/
def bytepad (l : List Byte) (w : Nat) : List Byte :=
  let x := leftEncode w ++ l
  x ++ List.replicate ((w - x.length % w) % w) 0

/-- KMAC256 of key, message, bytes of output and customisation. -/
def kmac256 (key m : List Byte) (n : Nat) (custom : List Byte) : List Byte :=
  sponge 64 0x04 (bytepad (encodeString [0x4B, 0x4D, 0x41, 0x43] ++ encodeString custom) 136 ++ bytepad (encodeString key) 136 ++ m ++
    rightEncode (8 * n)) n

/-! ### SHA-2 (FIPS 180-4) -/

/-- The greatest number whose power `e` is at most n, bit by bit from bit k - 1. -/
def rootOf (e n : Nat) : Nat → Nat → Nat
  | 0, x => x
  | k + 1, x => rootOf e n k (if (x + 2 ^ k) ^ e ≤ n then x + 2 ^ k else x)

/-- The first 80 primes. -/
def primes80 : List Nat := (List.range 410).filter (fun n => decide (2 ≤ n) && (List.range 21).all (fun d => d < 2 || n ≤ d || n % d != 0))

/-- First 64 bits of the fractional part of the square or cube root of p. -/
def rootBits (e p : Nat) : Nat := rootOf e (p * 2 ^ (64 * e)) 70 0 % 2 ^ 64

/-- The round constants of SHA-512; those of SHA-256 are the upper halves of the first 64. -/
def shaK : List Nat := primes80.map (rootBits 3)

/-- What differs between the two word sizes: bits of a word, rounds, and the amounts of the six functions (Σ0, Σ1: three turns;
σ0, σ1: two turns and a shift). -/
structure ShaParams where
  w : Nat
  rounds : Nat
  k : List Nat
  s0 : Nat × Nat × Nat
  s1 : Nat × Nat × Nat
  g0 : Nat × Nat × Nat
  g1 : Nat × Nat × Nat

def sha32 : ShaParams := ⟨32, 64, (shaK.take 64).map (· / 2 ^ 32), (2, 13, 22), (6, 11, 25), (7, 18, 3), (17, 19, 10)⟩
def sha64 : ShaParams := ⟨64, 80, shaK, (28, 34, 39), (14, 18, 41), (1, 8, 7), (19, 61, 6)⟩

/-- A w-bit word turned right by n. -/
def rotR (w n x : Nat) : Nat := (x >>> n ||| x <<< (w - n)) % 2 ^ w

def bigSigma (w : Nat) (t : Nat × Nat × Nat) (x : Nat) : Nat := rotR w t.1 x ^^^ rotR w t.2.1 x ^^^ rotR w t.2.2 x
def smallSigma (w : Nat) (t : Nat × Nat × Nat) (x : Nat) : Nat := rotR w t.1 x ^^^ rotR w t.2.1 x ^^^ (x >>> t.2.2)

/-- The message schedule, newest word first, k words longer. -/
def shaSchedule (p : ShaParams) : Nat → List Nat → List Nat
  | 0, l => l
  | k + 1, l => shaSchedule p k (((smallSigma p.w p.g1 (nth 0 l 1) + nth 0 l 6 + smallSigma p.w p.g0 (nth 0 l 14) + nth 0 l 15) % 2 ^ p.w) :: l)

/-- One round on the eight working variables. -/
def shaRound (p : ShaParams) (h : List Nat) (x : Nat × Nat) : List Nat :=
  match h with
  | [a, b, c, d, e, f, g, i] =>
    let t1 := i + bigSigma p.w p.s1 e + ((e &&& f) ^^^ ((2 ^ p.w - 1 - e) &&& g)) + x.1 + x.2
    let t2 := bigSigma p.w p.s0 a + ((a &&& b) ^^^ (a &&& c) ^^^ (b &&& c))
    [(t1 + t2) % 2 ^ p.w, a, b, c, (d + t1) % 2 ^ p.w, e, f, g]
  | _ => h

/-- Number of a big-endian byte string. -/
def beNat (l : List Byte) : Nat := l.foldl (fun v b => 256 * v + b.toNat) 0

/-- k blocks of 16 words are taken in. -/
def shaBlocks (p : ShaParams) : Nat → List Nat → List Byte → List Nat
  | 0, h, _ => h
  | k + 1, h, l =>
    let n := p.w / 8
    let m := (List.range 16).map (fun i => beNat ((l.drop (n * i)).take n))
    let ws := (shaSchedule p (p.rounds - 16) m.reverse).reverse
    let h' := (p.k.zip ws).foldl (shaRound p) h
    shaBlocks p k ((h.zip h').map (fun x => (x.1 + x.2) % 2 ^ p.w)) (l.drop (16 * n))

/-- SHA-2 from start values, n bytes of output. -/
def sha2 (p : ShaParams) (h0 : List Nat) (l : List Byte) (n : Nat) : List Byte :=
  let blk := 2 * p.w
  let z := (blk - (l.length + 1 + p.w / 4) % blk) % blk
  let m := l ++ [0x80] ++ List.replicate z 0 ++ (toLE (p.w / 4) (8 * l.length)).reverse
  ((shaBlocks p (m.length / blk) h0 m).flatMap (fun x => (toLE (p.w / 8) x).reverse)).take n

def sha256 (l : List Byte) : List Byte := sha2 sha32 ((primes80.take 8).map (fun p => rootBits 2 p / 2 ^ 32)) l 32
def sha384 (l : List Byte) : List Byte := sha2 sha64 (((primes80.drop 8).take 8).map (rootBits 2)) l 48
def sha512 (l : List Byte) : List Byte := sha2 sha64 ((primes80.take 8).map (rootBits 2)) l 64

/-! ### LZ4 block format (R61) -/

/-- A length that its nibble begins: 15 goes on in further bytes, each adding itself, the last being below 255. -/
def lz4Len : Nat → List Byte → Option (Nat × List Byte)
  | n, l => if n < 15 then some (n, l) else
    let full := (l.takeWhile (· == 255)).length
    match l.drop full with
    | b :: t => some (n + 255 * full + b.toNat, t)
    | [] => none

/-- n bytes are copied from `off` bytes back; the output is held newest first. -/
def lz4Copy (off : Nat) : Nat → List Byte → List Byte
  | 0, out => out
  | n + 1, out => lz4Copy off n (nth 0 out (off - 1) :: out)

/-- The sequences of a block; the first argument bounds their number. -/
def lz4Go : Nat → List Byte → List Byte → Option (List Byte)
  | 0, _, _ => none
  | _ + 1, [], _ => none
  | k + 1, tok :: l, out =>
    match lz4Len (tok.toNat / 16) l with
    | none => none
    | some (n, l) =>
      if l.length < n then none
      else
        let out := (l.take n).reverse ++ out
        match l.drop n with
        | [] => some out.reverse
        | [_] => none
        | a :: b :: l =>
          let off := a.toNat + 256 * b.toNat
          if off = 0 ∨ out.length < off then none
          else match lz4Len (tok.toNat % 16) l with
            | none => none
            | some (m, l) => lz4Go k l (lz4Copy off (m + 4) out)

/-- Decompressed content, none where the block is malformed. -/
def lz4 (l : List Byte) : Option (List Byte) := lz4Go l.length l []

end Sys2Proof.Machine
end

