-- ==== Sys2Proof/Machine/Sign.lean ====
section
/-! DEFINITION. The two signature schemes that the spec names by their standards: Ed25519 (RFC 8032) and ML-DSA-65 (FIPS 204), pure, with
an empty context (spec/02 R65, R66; spec/10 R461, R465; spec/19 R750, R755, R757, R766). -/

namespace Sys2Proof.Machine

/-- b ^ e modulo m, over the k lowest bits of e. -/
def powMod (m : Nat) : Nat → Nat → Nat → Nat
  | 0, _, _ => 1 % m
  | k + 1, b, e => (if e % 2 = 1 then b else 1) * powMod m k (b * b % m) (e / 2) % m

/-! ### Ed25519 (RFC 8032, 5.1) -/

def edP : Nat := 2 ^ 255 - 19
/-- Order of the base point. -/
def edL : Nat := 2 ^ 252 + 27742317777372353535851937790883648493
def edInv (x : Nat) : Nat := powMod edP 255 x (edP - 2)
/-- The curve's constant d = -121665 / 121666. -/
def edD : Nat := (edP - 121665) * edInv 121666 % edP

/-- A point in extended coordinates. -/
structure EdPoint where
  x : Nat
  y : Nat
  z : Nat
  t : Nat
deriving DecidableEq, Repr

def edZero : EdPoint := ⟨0, 1, 1, 0⟩
def edSub (a b : Nat) : Nat := (a + edP - b % edP) % edP

def edAdd (p q : EdPoint) : EdPoint :=
  let a := edSub p.y p.x * edSub q.y q.x % edP
  let b := (p.y + p.x) * (q.y + q.x) % edP
  let c := 2 * p.t * q.t % edP * edD % edP
  let d := 2 * p.z * q.z % edP
  let e := edSub b a
  let f := edSub d c
  let g := (d + c) % edP
  let h := (b + a) % edP
  ⟨e * f % edP, g * h % edP, f * g % edP, e * h % edP⟩

/-- n times p, over the k lowest bits of n. -/
def edMul : Nat → Nat → EdPoint → EdPoint
  | 0, _, _ => edZero
  | k + 1, n, p => let r := edMul k (n / 2) (edAdd p p); if n % 2 = 1 then edAdd p r else r

def edEq (p q : EdPoint) : Bool := p.x * q.z % edP == q.x * p.z % edP && p.y * q.z % edP == q.y * p.z % edP

/-- The point of a y coordinate and the low bit of x, where there is one (5.1.3). -/
def edPoint (y sign : Nat) : Option EdPoint :=
  let u := edSub (y * y) 1
  let v := (edD * (y * y % edP) + 1) % edP
  let x2 := u * edInv v % edP
  let r := powMod edP 255 x2 ((edP + 3) / 8)
  let x := if r * r % edP = x2 then r else r * powMod edP 255 2 ((edP - 1) / 4) % edP
  if edP ≤ y ∨ x * x % edP ≠ x2 ∨ (x = 0 ∧ sign = 1) then none
  else
    let x := if x % 2 = sign then x else edP - x
    some ⟨x, y, 1, x * y % edP⟩

def edDecode (l : List Byte) : Option EdPoint := let n := ofLE (l.take 32); edPoint (n % 2 ^ 255) (n / 2 ^ 255 % 2)

def edEncode (p : EdPoint) : List Byte :=
  let i := edInv p.z
  toLE 32 (p.y * i % edP + 2 ^ 255 * (p.x * i % edP % 2))

/-- The base point: y = 4 / 5, x even. -/
def edBase : EdPoint := (edPoint (4 * edInv 5 % edP) 0).getD edZero

/-- The secret scalar of a seed. -/
def edScalar (seed : List Byte) : Nat := ofLE ((sha512 seed).take 32) / 8 % 2 ^ 251 * 8 + 2 ^ 254

def edPublic (seed : List Byte) : List Byte := edEncode (edMul 256 (edScalar seed) edBase)

/-- The challenge of encoded point, public key and message. -/
def edHash (r a m : List Byte) : Nat := ofLE (sha512 (r ++ a ++ m)) % edL

def edSign (seed m : List Byte) : List Byte :=
  let r := ofLE (sha512 ((sha512 seed).drop 32 ++ m)) % edL
  let rb := edEncode (edMul 256 r edBase)
  rb ++ toLE 32 ((r + edHash rb (edPublic seed) m * edScalar seed) % edL)

/-- Public key, message, signature. The group equation is the one with the cofactor, which RFC 8032 gives as the check. -/
def edVerify (a m sig : List Byte) : Bool :=
  let s := ofLE ((sig.drop 32).take 32)
  match edDecode a, edDecode sig with
  | some pa, some pr =>
    a.length == 32 && sig.length == 64 && decide (s < edL) &&
      edEq (edMul 256 (8 * s) edBase) (edMul 4 8 (edAdd pr (edMul 253 (edHash (sig.take 32) a m) pa)))
  | _, _ => false

/-! ### ML-DSA-65 (FIPS 204) -/

def mlQ : Nat := 8380417
/-- A polynomial: 256 coefficients below q. -/
abbrev Poly := List Nat

def mlSub (a b : Nat) : Nat := (a + mlQ - b) % mlQ
def pAdd (a b : Poly) : Poly := List.zipWith (fun x y => (x + y) % mlQ) a b
def pSub (a b : Poly) : Poly := List.zipWith mlSub a b
def pMul (a b : Poly) : Poly := List.zipWith (fun x y => x * y % mlQ) a b
def pZero : Poly := List.replicate 256 0

/-- The eight bits of k in reverse. -/
def brv8 (k : Nat) : Nat := (List.range 8).foldl (fun r i => 2 * r + k / 2 ^ i % 2) 0

/-- The transform of a polynomial of 2 ^ n coefficients at node k, and its inverse without the division by 256. -/
def ntt : Nat → Nat → Poly → Poly
  | 0, _, a => a
  | n + 1, k, a =>
    let z := powMod mlQ 9 1753 (brv8 k)
    let hi := (a.drop (2 ^ n)).map (fun x => z * x % mlQ)
    let lo := a.take (2 ^ n)
    ntt n (2 * k) (pAdd lo hi) ++ ntt n (2 * k + 1) (pSub lo hi)
def nttBack : Nat → Nat → Poly → Poly
  | 0, _, a => a
  | n + 1, k, a =>
    let z := powMod mlQ 10 1753 (512 - brv8 k)
    let lo := nttBack n (2 * k) (a.take (2 ^ n))
    let hi := nttBack n (2 * k + 1) (a.drop (2 ^ n))
    pAdd lo hi ++ (pSub lo hi).map (fun x => z * x % mlQ)
def toNtt (a : Poly) : Poly := ntt 8 1 a
def fromNtt (a : Poly) : Poly := (nttBack 8 1 a).map (fun x => x * 8347681 % mlQ)

/-- Inner product in the transformed domain. -/
def pDot (r s : List Poly) : Poly := (List.zipWith pMul r s).foldl pAdd pZero

/-- Little-endian bit fields of w bits, n of them. -/
def unpack (w n : Nat) (l : List Byte) : List Nat := let v := ofLE l; (List.range n).map (fun i => v / 2 ^ (w * i) % 2 ^ w)
def pack (w : Nat) (a : List Nat) : List Byte := toLE (w * a.length / 8) (a.foldr (fun x v => x + 2 ^ w * v) 0)

/-- Groups of three bytes as numbers. -/
def triples : List Byte → List Nat
  | a :: b :: c :: t => (a.toNat + 256 * b.toNat + 65536 * (c.toNat % 128)) :: triples t
  | _ => []

/-- A polynomial of the matrix A, in the transformed domain: rejection sampling from SHAKE128. Of the stream, 1,680 bytes are looked at. -/
def rejNtt (seed : List Byte) : Poly := ((triples (shake128 seed 1680)).filter (fun x => decide (x < mlQ))).take 256

/-- The 6 × 5 matrix A of a seed rho. -/
def mlA (rho : List Byte) : List (List Poly) :=
  (List.range 6).map (fun r => (List.range 5).map (fun c => rejNtt (rho ++ [BitVec.ofNat 8 c, BitVec.ofNat 8 r])))

/-- A polynomial with coefficients -4 to 4: rejection sampling from SHAKE256. Of the stream, 544 bytes are looked at. -/
def rejBounded (seed : List Byte) : Poly :=
  (((shake256 seed 544).flatMap (fun b => [b.toNat % 16, b.toNat / 16])).filter (fun x => decide (x < 9))).take 256 |>.map (mlSub 4)

/-- The places of a SampleInBall stream: for each i the first byte that is at most i. -/
def ballStep (st : List Byte × Poly) (x : Nat × Bool) : List Byte × Poly :=
  let l := st.1.dropWhile (fun b => decide (x.1 < b.toNat))
  let j := (nth 0 l 0).toNat
  (l.drop 1, updAt (updAt st.2 x.1 (fun _ => nth 0 st.2 j)) j (fun _ => if x.2 then mlQ - 1 else 1))

/-- The challenge polynomial: 49 coefficients are 1 or -1. -/
def sampleInBall (c : List Byte) : Poly :=
  let s := shake256 c 1088
  ((List.range 49).foldl (fun st i => ballStep st (207 + i, (leAt s 0 8).testBit i)) (s.drop 8, pZero)).2

/-- Residue of r about 0 with modulus m. -/
def modPm (r m : Nat) : Int := let x := r % m; if 2 * x ≤ m then (x : Int) else (x : Int) - m
def mlG2 : Nat := 261888
/-- Greatest absolute residue. -/
def pNorm (a : Poly) : Nat := (a.map (fun x => (modPm x mlQ).natAbs)).foldl max 0
def ofInt (i : Int) : Nat := (i % (mlQ : Int)).toNat

/-- High and low part of a coefficient. -/
def decompose (r : Nat) : Nat × Int :=
  let r0 := modPm r (2 * mlG2)
  if (r : Int) - r0 = mlQ - 1 then (0, r0 - 1) else ((((r : Int) - r0) / (2 * mlG2)).toNat, r0)

def useHint (h r : Nat) : Nat :=
  let (r1, r0) := decompose r
  if h = 0 then r1 else if 0 < r0 then (r1 + 1) % 16 else (r1 + 15) % 16

/-- The hint of a signature's last 61 bytes: the places of six polynomials, none where it is malformed. -/
def hintUnpack (l : List Byte) : Option (List Poly) :=
  let ends := 0 :: (List.range 6).map (fun i => (nth 0 l (55 + i)).toNat)
  let part (i : Nat) : List Nat := ((l.drop (nth 0 ends i)).take (nth 0 ends (i + 1) - nth 0 ends i)).map BitVec.toNat
  let ok := (List.range 6).all (fun i => decide (nth 0 ends i ≤ nth 0 ends (i + 1) ∧ nth 0 ends (i + 1) ≤ 55) &&
    ((part i).zip ((part i).drop 1)).all (fun x => decide (x.1 < x.2)))
  if ok && ((l.take 55).drop (nth 0 ends 6)).all (· == 0) then
    some ((List.range 6).map (fun i => (List.range 256).map (fun j => if (part i).contains j then 1 else 0)))
  else none

def hintPack (h : List Poly) : List Byte :=
  let places := h.map (fun p => (List.range 256).filter (fun j => nth 0 p j == 1))
  let flat := places.flatten
  let ends := (List.range 6).map (fun i => (places.take (i + 1)).flatten.length)
  (flat ++ List.replicate (55 - flat.length) 0 ++ ends).map (BitVec.ofNat 8)

/-- The pair (rho, t1) of a public key, and the keys of a seed: s1, s2, t, and the seed K. -/
def mlPkParts (pk : List Byte) : List Byte × List Poly :=
  (pk.take 32, (List.range 6).map (fun i => unpack 10 256 ((pk.drop (32 + 320 * i)).take 320)))

structure MlKeys where
  rho : List Byte
  k : List Byte
  s1 : List Poly
  s2 : List Poly
  t : List Poly
deriving DecidableEq, Repr

/-- Key generation from a seed of 32 bytes. -/
def mlKeys (seed : List Byte) : MlKeys :=
  let h := shake256 (seed ++ [6, 5]) 128
  let rho := h.take 32
  let rp := (h.drop 32).take 64
  let s (n : Nat) : Poly := rejBounded (rp ++ toLE 2 n)
  let s1 := (List.range 5).map s
  let s2 := (List.range 6).map (fun i => s (5 + i))
  let s1h := s1.map toNtt
  ⟨rho, h.drop 96, s1, s2, List.zipWith (fun row e => pAdd (fromNtt (pDot row s1h)) e) (mlA rho) s2⟩

/-- t split at 13 bits: high part, and low part as a residue. -/
def power2Round (r : Nat) : Nat × Nat := let r0 := modPm r 8192; ((((r : Int) - r0) / 8192).toNat, ofInt r0)

def mlPk (k : MlKeys) : List Byte := k.rho ++ k.t.flatMap (fun p => pack 10 (p.map (fun x => (power2Round x).1)))
def mlPublic (seed : List Byte) : List Byte := mlPk (mlKeys seed)

/-- The representative of a message under an empty context. -/
def mlMu (pk m : List Byte) : List Byte := shake256 (shake256 pk 64 ++ [0, 0] ++ m) 64

/-- The commitment hash. -/
def mlCommit (mu : List Byte) (w1 : List Poly) : List Byte := shake256 (mu ++ w1.flatMap (pack 4)) 48

/-- Attempts at a signature from counter `kappa` on; FIPS 204 lets an implementation end after 814. -/
def mlTry (key : MlKeys) (a : List (List Poly)) (mu rpp : List Byte) : Nat → Nat → Option (List Byte)
  | 0, _ => none
  | n + 1, kappa =>
    let y := (List.range 5).map (fun r => (unpack 20 256 (shake256 (rpp ++ toLE 2 (kappa + r)) 640)).map (fun v => mlSub (2 ^ 19) v))
    let yh := y.map toNtt
    let w := a.map (fun row => fromNtt (pDot row yh))
    let ct := mlCommit mu (w.map (fun p => p.map (fun x => (decompose x).1)))
    let c := toNtt (sampleInBall ct)
    let cMul (l : List Poly) : List Poly := l.map (fun p => fromNtt (pMul c (toNtt p)))
    let z := List.zipWith pAdd y (cMul key.s1)
    let r := List.zipWith pSub w (cMul key.s2)
    let ct0 := cMul (key.t.map (fun p => p.map (fun x => (power2Round x).2)))
    let h := List.zipWith (fun p q => List.zipWith (fun x e => if (decompose x).1 ≠ (decompose ((x + e) % mlQ)).1 then 1 else 0) p q) r ct0
    if 2 ^ 19 - 196 ≤ (z.map pNorm).foldl max 0 ∨ r.any (fun p => p.any (fun x => decide (mlG2 - 196 ≤ (decompose x).2.natAbs))) ∨
        mlG2 ≤ (ct0.map pNorm).foldl max 0 ∨ 55 < (h.map List.sum).sum then
      mlTry key a mu rpp n (kappa + 5)
    else some (ct ++ z.flatMap (fun p => pack 20 (p.map (fun x => ((2 ^ 19 : Int) - modPm x mlQ).toNat))) ++ hintPack h)

/-- A signature by a seed over a message with 32 random bytes. -/
def mlSign (seed m rnd : List Byte) : Option (List Byte) :=
  let key := mlKeys seed
  let mu := mlMu (mlPk key) m
  mlTry key (mlA key.rho) mu (shake256 (key.k ++ rnd ++ mu) 64) 814 0

/-- Public key, message, signature. -/
def mlVerify (pk m sig : List Byte) : Bool :=
  let ct := sig.take 48
  let z := (List.range 5).map (fun i => (unpack 20 256 ((sig.drop (48 + 640 * i)).take 640)).map (mlSub (2 ^ 19)))
  match hintUnpack (sig.drop 3248) with
  | none => false
  | some h =>
    let (rho, t1) := mlPkParts pk
    let c := toNtt (sampleInBall ct)
    let zh := z.map toNtt
    let w := List.zipWith (fun row t => fromNtt (pSub (pDot row zh) (pMul c (toNtt (t.map (fun x => x * 8192 % mlQ)))))) (mlA rho) t1
    let w1 := List.zipWith (fun hp wp => List.zipWith useHint hp wp) h w
    pk.length == 1952 && sig.length == 3309 && decide ((z.map pNorm).foldl max 0 < 2 ^ 19 - 196) && mlCommit (mlMu pk m) w1 == ct

end Sys2Proof.Machine
end

