-- ==== Sys2Proof/Machine/Girder.lean ====
section
/-! DEFINITION. Girder converters (spec/07): sequences and triggers, correction, window comparators, capture, calibration. -/

namespace Sys2Proof.Machine

def State.gu (s : State) (u : Nat) : GUnit := nth {} s.grd u
def State.modGu (s : State) (u : Nat) (f : GUnit → GUnit) : State := { s with grd := updAt s.grd u f }

/-- Unit u calibrates. -/
def State.calBusy (s : State) (u : Nat) : Bool := s.bit (Fld.GRD_U_STAT_CAL_BUSY u)
/-- Paired mode (R308). -/
def State.paired (s : State) : Bool := s.bit (Fld.GRD_U_CTRL_PAIR 0)

/-- GRD_Uu_STAT from the unit's state: CONT_BUSY, INJ_BUSY, COVERING, PAIRED. -/
def State.syncGu (s : State) (u : Nat) : State :=
  let k := s.gu u
  let s := (s.putB (Fld.GRD_U_STAT_CONT_BUSY u) (k.cont != [])).putB (Fld.GRD_U_STAT_INJ_BUSY u)
    (k.pend != 0 || k.far != 0 || k.grp.isSome)
  (s.putB (Fld.GRD_U_STAT_COVERING u) (k.far != 0 || (match k.grp with | some g => g.owner != u | none => false))).putB
    (Fld.GRD_U_STAT_PAIRED u) s.paired

/-- Truss port of entry e of unit u. -/
def grdPort (u e : Nat) : Nat := 2048 + 32 * u + e

/-- Entries of group g of unit u as they stand (R311); none where the group passes entry 31. -/
def State.groupEntries (s : State) (u g : Nat) : Option (List GEnt) :=
  let f := s.get (Fld.GRD_U_TRG_FIRST u g)
  let c := s.get (Fld.GRD_U_TRG_COUNT u g)
  if 15 < f + c then none
  else some ((List.range (c + 1)).map (fun i => { e := 16 + f + i, w := s.reg (Reg.GRD_U_ENT u (16 + f + i)) }))

/-- GRD_Uu_TOVR, byte g. -/
def State.tovr (s : State) (u g : Nat) : State := s.inc ⟨Reg.GRD_U_TOVR u, 8 * g, 8⟩

/-- R310: a continuous round of entries 0 to LEN − 1 starts. -/
def execGrdContinuousRound (u : Fin 2) (s : State) : Out :=
  .next (if !s.bit (Fld.GRD_U_CTRL_EN u) || !s.bit (Fld.GRD_U_CTRL_CONT_EN u) || s.calBusy u || s.paired ||
      (s.gu u).cont != [] then s
    else (s.modGu u (fun k => { k with cont := (List.range (min 16 (s.get (Fld.GRD_U_SEQ_LEN u)))).map (fun e =>
      { e := e, w := s.reg (Reg.GRD_U_ENT u e) }) })).syncGu u)

/-- Group g of unit u is triggered (R311, R317, R329). -/
def State.trigger (s : State) (u g : Nat) : State :=
  if (s.groupEntries u g).isNone then s.tovr u g
  else
    let v := if s.calBusy u then 1 - u else u
    let k := s.gu v
    let mine := decide (v = u)
    let busy := (if mine then k.pend else k.far).testBit g ||
      (match k.grp with | some x => x.owner == u && x.g == g | none => false)
    if busy then s.tovr u g
    else if !s.bit (Fld.GRD_U_CTRL_EN v) then s
    else (s.modGu v (fun k => if mine then { k with pend := mset k.pend g true } else { k with far := mset k.far g true })).syncGu v

/-- Group g of unit u listens to source `src` (R312, R320). -/
def State.listens (s : State) (u g src : Nat) : Bool :=
  s.bit (Fld.GRD_U_CTRL_EN u) && s.bit (Fld.GRD_U_TRG_EN u g) && s.get (Fld.GRD_U_TRG_SRC u g) == src

/-- Truss output port of the trigger of group g (R312). -/
def trgPort (u g : Nat) : Nat := 2176 + 4 * u + g

/-- Bit 0 of the trigger port of group g, as it was at the last look and as it is; a rising edge triggers (R312). -/
def State.portEdge (s : State) (u g : Nat) : State :=
  let was := (s.gu u).seen.testBit g
  let x := (s.outPort (trgPort u g)).testBit 0
  let s := s.modGu u (fun k => { k with seen := mset k.seen g x })
  if x && !was then s.trigger u g else s

/-- Every group that listens to its Truss port looks at it, after a CLK_TRUSS edge. -/
def State.portEdges (s : State) : State :=
  forEach (List.range 2) s (fun s u => forEach (List.range 4) s (fun s g => if s.listens u g 3 then s.portEdge u g else s))

/-- A CLK_TRUSS edge (R83, R312). -/
def State.clockEdge (s : State) : State := s.trussTick.portEdges

/-- The Span period event of group g, once in a period (R313). -/
def State.periodEvent (s : State) (u g : Nat) : State :=
  if (s.gu u).fired.testBit g then s else (s.modGu u (fun k => { k with fired := mset k.fired g true })).trigger u g

/-- At a period start: the events of the period are to come, those of offset 0 are due at once (R313). -/
def State.grdPeriod (s : State) : State :=
  let s := { s with grd := s.grd.map (fun k => { k with fired := 0 }) }
  forEach (List.range 2) s (fun s u => forEach (List.range 4) s (fun s g =>
    if s.listens u g 2 && s.get (Fld.GRD_U_TRG_OFFSET u g) == 0 then s.periodEvent u g else s))

/-- R311, R312, R313, R317, R320, R329: an event that may trigger group g of unit u: an edge of a GTRG pin, the period event at OFFSET, or
an edge at the group's Truss port. -/
def execGrdTrigger (u : Fin 2) (x : GrdFire) (s : State) : Out :=
  let g := x.g
  .next (match x.evt with
    | .pin k rising =>
      if s.listens u g 1 && s.get (Fld.GRD_U_TRG_GSEL u g) == k.val &&
          (s.get (Fld.GRD_U_TRG_EDGE u g)).testBit (if rising then 0 else 1) then s.trigger u g else s
    | .period => if s.listens u g 2 then s.periodEvent u g else s
    | .port => if s.listens u g 3 then s.portEdge u g else s)

/-- R315, R316, R318, R330: the next pending group of unit u starts, its own first, each in ascending g. -/
def execGrdGroupStart (u : Fin 2) (s : State) : Out :=
  let k := s.gu u
  .next (if k.grp.isSome || s.calBusy u || !s.bit (Fld.GRD_U_CTRL_EN u) then s
    else match (mbits k.pend 4).head?, (mbits k.far 4).head? with
    | some g, _ =>
      let x : GGrp := ⟨u, g, (s.groupEntries u g).getD []⟩
      (s.modGu u (fun k => { k with pend := mset k.pend g false, grp := some x })).syncGu u
    | none, some g =>
      let x : GGrp := ⟨1 - u.val, g, (s.groupEntries (1 - u.val) g).getD []⟩
      (s.modGu u (fun k => { k with far := mset k.far g false, grp := some x })).syncGu u
    | none, none => s)

/-! ### Correction (R304, R305, R321) -/

/-- One code held to the result's range; whether it was clamped. -/
def grdSat (signed : Bool) (x : Int) : Int × Bool :=
  let c := if signed then clampI x (-32767) 32767 else clampI x 0 65535
  (c, c != x)

/-- R304: a raw 12-bit code of slice sl corrected. -/
def State.correct (s : State) (u sl c : Nat) (signed : Bool) : Int × Bool :=
  let off := s.getS (Fld.GRD_U_COR_OFF u sl)
  let gain := s.getS (Fld.GRD_U_COR_GAIN u sl)
  let x := roundAway (((c : Int) * 16 - off) * (262144 + gain)) 262144
  grdSat signed (if signed then x - 32768 else x)

/-- Conversions of an entry (R321). -/
def convCount (w : Nat) : Nat := 2 ^ min 8 (w / 256 % 16)

/-- R321: 2^AVG corrected values summed, shifted and saturated. Raw code i of the entry is `raw[i]`; the slices take the conversions in
turn (R303). -/
def State.convert (s : State) (u w : Nat) (raw : List (BitVec 12)) : Int × Bool :=
  let signed := w.testBit 7
  let xs := (List.range (convCount w)).map (fun i => s.correct u (((s.gu u).slice + i) % 4) (nth 0 raw i).toNat signed)
  let sat := xs.any (·.2)
  if convCount w = 1 then ((nth (0, false) xs 0).1, sat)
  else
    let r := grdSat signed ((xs.foldl (fun a x => a + x.1) 0) / (2 ^ min 8 (w / 4096 % 16) : Nat))
    (r.1, sat || r.2)

/-- Unit u has made n conversions: the slice whose turn is next, and the conversions since the last background update (R303, R306). -/
def State.converted (s : State) (u n : Nat) : State :=
  s.modGu u (fun k => { k with slice := (k.slice + n) % 4, convs := satInc 65536 (k.convs + n - 1) })

/-! ### Windows and capture -/

/-- A result code in its entry's format. -/
def codeIn (signed : Bool) (n : Nat) : Int := if signed then toS 16 n else (n % 65536 : Nat)

/-- Ports 2,122 and 2,123 (R324). -/
def State.winPorts (s : State) : State :=
  let o := s.get Fld.GRD_WIN_OUT_OUT
  (s.setPort 2122 (o % 65536)).setPort 2123 (o / 65536)

/-- Window w sees a result (R322, R323); whether it has just gone outside. -/
def State.window (s : State) (w : Nat) (signed : Bool) (v : Int) : State × Bool :=
  let lo := codeIn signed (s.get (Fld.GRD_WIN_LIM_LO w))
  let hi := codeIn signed (s.get (Fld.GRD_WIN_LIM_HI w))
  let h : Int := s.get (Fld.GRD_WIN_CFG_HYST w)
  let out := (s.get Fld.GRD_WIN_OUT_OUT).testBit w
  if !out && (decide (v < lo) || decide (hi < v)) then
    (((s.putBit Fld.GRD_WIN_EVT_LEFT w true).putBit Fld.GRD_WIN_OUT_OUT w true).winPorts, true)
  else if out && decide (lo + h ≤ v) && decide (v ≤ hi - h) then ((s.putBit Fld.GRD_WIN_OUT_OUT w false).winPorts, false)
  else (s, false)

/-- Ring length: 8,192 in paired mode (R326). -/
def State.ringLen (s : State) : Nat := if s.paired then 8192 else 4096

/-- Samples after the trigger. -/
def State.afterTrig (s : State) (u : Nat) : Nat := s.ringLen - 1 - s.get (Fld.GRD_U_CAPCTL_PRE u)

/-- A sample of the captured entry goes into the ring of unit u, whose second half in paired mode is unit 1's memory (R308, R326); `trig`:
it is the trigger sample (R325). -/
def State.capture (s : State) (u v : Nat) (trig : Bool) : State :=
  let k := s.gu u
  if !s.bit (Fld.GRD_U_CAPCTL_ARM u) || k.left == some 0 then s
  else
    let i := k.pos % s.ringLen
    let s := s.modGu (if i < 4096 then u else 1) (fun k => { k with ring := sset 0 k.ring (i % 4096) v })
    s.modGu u (fun k =>
      let k' := { k with pos := (i + 1) % s.ringLen }
      match k.left with
      | some n => { k' with left := some (n - 1) }
      | none => if trig then { k' with trigAt := i, left := some (s.afterTrig u) } else k')

/-- Windows and capture on a new result of entry e of unit u. -/
def State.watch (s : State) (u e : Nat) (signed : Bool) (v : Nat) : State :=
  let ws := (List.range 32).filter (fun w => s.bit (Fld.GRD_WIN_CFG_EN w) && s.get (Fld.GRD_WIN_CFG_UNIT w) == u &&
    s.get (Fld.GRD_WIN_CFG_ENTRY w) == e)
  let r := ws.foldl (fun (x : State × List Nat) w =>
    let y := x.1.window w signed (codeIn signed v)
    (y.1, if y.2 then w :: x.2 else x.2)) (s, [])
  if s.get (Fld.GRD_U_CAPCTL_ENTRY u) = e then r.1.capture u v (r.2.contains (s.get (Fld.GRD_U_CAPCTL_TRIG u))) else r.1

/-- The port of entry e of unit u is fed by a group with SRC 2, and its result has not come before the sample cut-off: the port reads 0x8000
for the rest of the period (R319). -/
def State.tooLate (s : State) (u e : Nat) : Bool :=
  s.kst.cutoff && s.port (grdPort u e) == 0x8000 && (List.range 4).any (fun g => s.listens u g 2 &&
    ((s.groupEntries u g).getD []).any (fun x => x.e == e))

/-- A result of entry e of unit u is written to its register and port (R303, R319). -/
def State.writeRes (s : State) (u e : Nat) (signed : Bool) (v : Nat) (sat cover : Bool) : State :=
  let s := if s.bit (Fld.GRD_U_RES_NEW u e) then s.putB (Fld.GRD_U_RES_LOST u e) true else s
  let s := ((s.put (Fld.GRD_U_RES_VALUE u e) v).putB (Fld.GRD_U_RES_SAT u e) sat).putB (Fld.GRD_U_RES_COVER u e) cover
  let s := s.putB (Fld.GRD_U_RES_NEW u e) true
  (if s.tooLate u e then s else s.setPort (grdPort u e) v).watch u e signed v

/-- Entry x of unit `owner` converted by unit u: its result, 0x8000 for a reserved input and for a sense mirror through the
cover path (R301, R302, R329). -/
def State.entryResult (s : State) (u owner : Nat) (x : GEnt) (raw : List (BitVec 12)) : State :=
  let input := x.w % 64
  let far := decide (owner ≠ u)
  let cover := far || (32 ≤ input && input < 56)
  let signed := x.w.testBit 7
  if 56 ≤ input || (far && 24 ≤ input && input < 32) then s.writeRes owner x.e signed 0x8000 false cover
  else
    let r := s.convert u x.w raw
    (s.converted u (convCount x.w)).writeRes owner x.e signed (ofS 16 r.1) r.2 cover

/-- The input of paired mode, as a GIN pin (R308). -/
def State.pairPin (s : State) : Nat := nth 0 [0, 1, 24, 25] (s.get (Fld.GRD_U_CTRL_PAIR_IN 0))

/-- In paired mode the units convert the pin of PAIR_IN in turn, and the samples go into the common ring in the format of the captured entry
(R308, R326; log entry 81). -/
def State.pairedSample (s : State) (u : Nat) (raw : List (BitVec 12)) : State :=
  if (s.gu 0).pairNext ≠ u then s
  else
    let w := s.reg (Reg.GRD_U_ENT 0 (s.get (Fld.GRD_U_CAPCTL_ENTRY 0)))
    let r := s.correct u (s.gu u).slice (nth 0 raw 0).toNat (w.testBit 7)
    ((s.converted u 1).modGu 0 (fun k => { k with pairNext := 1 - u })).capture 0 (ofS 16 r.1) false

/-- R303: a result of unit u: of the group in progress (`inj`), or of the continuous round; in paired mode a sample of the
common input (R308). -/
def execGrdConversionResult (u : Fin 2) (inj : Bool) (raw : List (BitVec 12)) (s : State) : Out :=
  .next (if s.paired then s.pairedSample u raw
    else if !s.bit (Fld.GRD_U_CTRL_EN u) then s
    else if inj then
      match (s.gu u).grp with
      | some g => match g.left with
        | x :: t => ((s.modGu u (fun k => { k with grp := if t = [] then none else some { g with left := t } })).entryResult u
            g.owner x raw).syncGu u
        | [] => s
      | none => s
    else match (s.gu u).cont with
      | x :: t => ((s.modGu u (fun k => { k with cont := t })).entryResult u u x raw).syncGu u
      | [] => s)

/-- R325: the samples after the trigger are written. -/
def execCaptureDone (u : Fin 2) (s : State) : Out :=
  .next (if (s.gu u).left = some 0 ∧ s.bit (Fld.GRD_U_CAPCTL_ARM u) then
      ((s.putB (Fld.GRD_U_CAPCTL_ARM u) false).putB (Fld.GRD_U_CAPCTL_DONE u) true).put (Fld.GRD_U_CAPPTR_TRIGIDX u)
        (s.gu u).trigAt
    else s)

/-- ARM written with 1 (R325, R326): with TRIG 0x1F the write itself is the trigger. -/
def State.armCapture (s : State) (u : Nat) : State :=
  let now := s.get (Fld.GRD_U_CAPCTL_TRIG u) == 0x1F
  (s.putB (Fld.GRD_U_CAPCTL_ARM u) true).modGu u (fun k =>
    { k with left := if now then some (s.afterTrig u) else none, trigAt := k.pos })

/-- GRD_Uu_CAPCTL. -/
def State.wrCapctl (s : State) (u v : Nat) : State :=
  let s := ((s.put (Fld.GRD_U_CAPCTL_ENTRY u) (v / 2 ^ 24)).put (Fld.GRD_U_CAPCTL_TRIG u) (v / 2 ^ 16)).put
    (Fld.GRD_U_CAPCTL_PRE u) v
  let s := if v.testBit 30 then s.putB (Fld.GRD_U_CAPCTL_DONE u) false else s
  if v.testBit 31 then s.armCapture u else s

/-! ### Calibration (R327 to R332) -/

/-- GRD_Uu_CAL (R327, R328). -/
def State.wrCal (s : State) (u v : Nat) : State :=
  let s := s.setReg (Reg.GRD_U_CAL u) (mclr (s.reg (Reg.GRD_U_CAL u)) (v % 16 / 2 * 2))
  if v % 2 = 0 || s.bit (Fld.GRD_U_CAL_GO u) then s
  else if s.calBusy (1 - u) || (s.gu (1 - u)).calWait || s.paired then s.putB (Fld.GRD_U_CAL_REFUSED u) true
  else (s.putB (Fld.GRD_U_CAL_GO u) true).modGu u (fun k => { k with calWait := true })

/-- R327: the conversions and groups ahead are done; the unit calibrates, its continuous sequence stops. -/
def execGrdCalStart (u : Fin 2) (s : State) : Out :=
  let k := s.gu u
  .next (if k.calWait && k.pend == 0 && k.grp.isNone then
      ((s.modGu u (fun k => { k with calWait := false, cont := [] })).putB (Fld.GRD_U_STAT_CAL_BUSY u) true).syncGu u
    else s)

/-- The coefficients fit GRD_Uu_CORs. -/
def corFits (x : Int × Int) : Bool := -128 ≤ x.1 && x.1 ≤ 127 && -32768 ≤ x.2 && x.2 ≤ 32767

/-- R327, R331, R307: calibration of unit u ends with OFF and GAIN of the slices as measured. -/
def execGrdCalDone (u : Fin 2) (cor : List (Int × Int)) (s : State) : Out :=
  .next (if !s.calBusy u then s
    else
      let ok := (cor.take 4).all corFits
      let s := if ok then (cor.take 4).zipIdx.foldl (fun s x =>
          (s.put (Fld.GRD_U_COR_OFF u x.2) (ofS 8 x.1.1)).put (Fld.GRD_U_COR_GAIN u x.2) (ofS 16 x.1.2)) s
        else (s.putB (Fld.GRD_U_CAL_FAIL u) true).reportNone 0x2C clsC u
      let s := ((s.putB (Fld.GRD_U_CAL_DONE u) true).putB (Fld.GRD_U_CAL_GO u) false).putB (Fld.GRD_U_STAT_CAL_BUSY u) false
      let s := (s.putB (Fld.GRD_U_STAT_BGC_LOCK u) false).modGu u (fun k => { k with lockRun := 0 })
      let v := 1 - u.val
      let s := if (s.gu v).calQueue then
          (s.putB (Fld.GRD_U_CAL_GO v) true).modGu v (fun k => { k with calQueue := false, calWait := true })
        else s
      (s.syncGu u).syncGu v)

/-- What the ports of the converters show before any result (R319, R320, R344, R346). -/
def State.startPorts (s : State) : State :=
  let s := forEach (List.range 2) s (fun s u => forEach (List.range 32) s (fun s e => s.setPort (grdPort u e) 0x8000))
  let s := forEach (List.range 8) s (fun s j => s.setPort (2112 + j) 0x8000)
  forEach (List.range 40) s (fun s c => if s.bit (Fld.CSN_CH_CFG_TRUSS_OUT c) then s.setPort (2128 + c) 0x8000 else s)

/-- R332: at the seal unit 0 and then unit 1 calibrate, each if its EN is 1. -/
def State.sealCal (s : State) : State :=
  let s := s.startPorts
  let e0 := s.bit (Fld.GRD_U_CTRL_EN 0)
  let e1 := s.bit (Fld.GRD_U_CTRL_EN 1)
  let go (s : State) (u : Nat) : State := (s.putB (Fld.GRD_U_CAL_GO u) true).modGu u (fun k => { k with calWait := true })
  if e0 then
    let s := go s 0
    if e1 then s.modGu 1 (fun k => { k with calQueue := true }) else s
  else if e1 then go s 1 else s

/-- The last of four coefficients, so that the sum over the slices stays. -/
def keepSum (old new : List Int) : List Int :=
  let t := new.take 3
  t ++ [old.foldl (· + ·) 0 - t.foldl (· + ·) 0]

/-- Unit u converts inputs: its sequence runs, a group converts or is pending, or the units are paired (R307). -/
def State.converts (s : State) (u : Nat) : Bool :=
  s.bit (Fld.GRD_U_CTRL_EN u) && (s.paired || (s.bit (Fld.GRD_U_CTRL_CONT_EN u) && s.get (Fld.GRD_U_SEQ_LEN u) != 0) ||
    (s.gu u).pend != 0 || (s.gu u).far != 0 || (s.gu u).grp.isSome)

/-- Coefficients of the four slices: OFF, GAIN or SKEW. -/
def State.slices (s : State) (f : Nat → FieldRef) : List Int := (List.range 4).map (fun i => s.getS (f i))

/-- The background correction of unit u may update its coefficients: enabled, not frozen, no calibration, inputs converted, and 65,536
conversions since the last update (R306, R307). -/
def State.mayUpdate (s : State) (u : Nat) : Bool :=
  s.bit (Fld.GRD_U_CTRL_BGC_EN u) && !s.bit (Fld.GRD_U_CTRL_BGC_FREEZE u) && !s.calBusy u && s.converts u && decide (65536 ≤ (s.gu u).convs)

/-- R306, R307: the background correction updates the mismatch between the slices; `cor` is its estimate of OFF, GAIN and SKEW
of slices 0 to 2, slice 3 taking what keeps the means. An estimate that the fields do not hold is no update (log entry 81). -/
def execGrdBgcUpdate (u : Fin 2) (cor : List (Int × Int × Int)) (s : State) : Out :=
  let offs := keepSum (s.slices (Fld.GRD_U_COR_OFF u)) (cor.map (·.1))
  let gains := keepSum (s.slices (Fld.GRD_U_COR_GAIN u)) (cor.map (·.2.1))
  let skews := keepSum (s.slices (Fld.GRD_U_COR_SKEW u)) (cor.map (·.2.2))
  let fits := (offs ++ skews).all (fun x => decide (-128 ≤ x ∧ x ≤ 127)) && gains.all (fun x => decide (-32768 ≤ x ∧ x ≤ 32767))
  .next (if !s.mayUpdate u || cor.length < 3 || !fits then s
    else
      let moved (f : Nat → FieldRef) (l : List Int) : Bool := (l.zip (s.slices f)).any (fun x => decide (4 ≤ (x.1 - x.2).natAbs))
      let big := moved (Fld.GRD_U_COR_OFF u) offs || moved (Fld.GRD_U_COR_GAIN u) gains || moved (Fld.GRD_U_COR_SKEW u) skews
      let wr (f : Nat → FieldRef) (l : List Int) (s : State) : State := l.zipIdx.foldl (fun s x => s.putS (f x.2) x.1) s
      let s := wr (Fld.GRD_U_COR_SKEW u) skews (wr (Fld.GRD_U_COR_GAIN u) gains (wr (Fld.GRD_U_COR_OFF u) offs s))
      let s := s.modGu u (fun k => { k with convs := 0, lockRun := if big then 0 else satInc 8 k.lockRun })
      s.putB (Fld.GRD_U_STAT_BGC_LOCK u) ((s.gu u).lockRun == 8))

/-! ### Writes (the level of R94 has been applied to `v`) -/

/-- R309: PAIR may be set. -/
def State.mayPair (s : State) : Bool :=
  (List.range 2).all (fun u => s.bit (Fld.GRD_U_CTRL_EN u) && !s.calBusy u && !(s.gu u).calWait &&
    (List.range 4).all (fun g => !s.bit (Fld.GRD_U_TRG_EN u g)))

/-- PAIR in both units' registers. -/
def State.setPair (s : State) (b : Bool) : State :=
  let s := (s.putB (Fld.GRD_U_CTRL_PAIR 0) b).putB (Fld.GRD_U_CTRL_PAIR 1) b
  let s := if b then (s.modGu 0 (fun k => { k with cont := [], pairNext := 0 })).modGu 1 (fun k => { k with cont := [] }) else s
  (s.syncGu 0).syncGu 1

/-- A unit with EN at 0 converts nothing, and its ports read 0x8000 (R320). -/
def State.grdOff (s : State) (u : Nat) : State :=
  let s := s.modGu u (fun k => { k with pend := 0, far := 0, grp := none, cont := [] })
  (forEach (List.range 32) s (fun s e => s.setPort (grdPort u e) 0x8000)).syncGu u

/-- GRD_Uu_CTRL: PAIR_IN exists in unit 0 only (R308, R309, R320). -/
def State.wrGrdCtrl (s : State) (u v : Nat) : State :=
  let s := if v.testBit 4 then (if s.paired || s.mayPair then s.setPair true else s) else s.setPair false
  let s := if u = 0 then s.put (Fld.GRD_U_CTRL_PAIR_IN 0) (v / 2 ^ 14) else s
  let s := s.put (Fld.GRD_U_CTRL_PACE u) (v / 2 ^ 16)
  let s := ((s.putB (Fld.GRD_U_CTRL_BGC_FREEZE u) (v.testBit 3)).putB (Fld.GRD_U_CTRL_BGC_EN u) (v.testBit 2)).putB
    (Fld.GRD_U_CTRL_CONT_EN u) (v.testBit 1)
  let was := s.bit (Fld.GRD_U_CTRL_EN u)
  let s := s.putB (Fld.GRD_U_CTRL_EN u) (v.testBit 0)
  if v.testBit 0 then
    (if was then s else forEach (List.range 32) s (fun s e => s.setPort (grdPort u e) (s.get (Fld.GRD_U_RES_VALUE u e))))
  else s.grdOff u

/-- GRD_Uu_TRGg: an OFFSET at or above T leaves OFFSET (R313); enabling is ignored in paired mode (R309). -/
def State.wrTrg (s : State) (u g v : Nat) : State :=
  let off := if v % 65536 * 5 < s.periodUs * 1000 ∨ s.periodUs = 0 then v % 65536 else s.get (Fld.GRD_U_TRG_OFFSET u g)
  let en := v.testBit 31 && (!s.paired || s.bit (Fld.GRD_U_TRG_EN u g))
  s.setReg (Reg.GRD_U_TRG u g) (fieldSet (fieldSet (fieldSet v 0 16 off) 31 1 (if en then 1 else 0)) 19 1 0)

/-- GRD_WINw_CFG: enabling with LO above HI is ignored (R324); a comparator starts inside. -/
def State.wrWin (s : State) (w v : Nat) : State :=
  let u := v / 2 ^ 30 % 2
  let e := v / 2 ^ 25 % 32
  let signed := (s.reg (Reg.GRD_U_ENT u e)).testBit 7
  let bad := decide (codeIn signed (s.get (Fld.GRD_WIN_LIM_HI w)) < codeIn signed (s.get (Fld.GRD_WIN_LIM_LO w)))
  if v.testBit 31 && bad then s
  else
    let s := (((s.put (Fld.GRD_WIN_CFG_HYST w) v).put (Fld.GRD_WIN_CFG_ENTRY w) e).put (Fld.GRD_WIN_CFG_UNIT w) u).putB
      (Fld.GRD_WIN_CFG_EN w) (v.testBit 31)
    if v.testBit 31 then s else (s.putBit Fld.GRD_WIN_OUT_OUT w false).winPorts

/-- A halfword of the capture memory of unit u (R347). -/
def State.capWord (s : State) (u i : Nat) : Nat := sget 0 (s.gu u).ring i

/-! ### Sinc filters (R335, R336, R346) -/

/-- One bit enters the integrators: +1 or −1, inverted when INVERT is 1 (R335). -/
def Caisson.bit (k : Caisson) (inv b : Bool) : Caisson :=
  let i1 := k.i1 + (if b != inv then 1 else -1)
  let i2 := k.i2 + i1
  { k with i1 := i1, i2 := i2, i3 := k.i3 + i2, ph := k.ph + 1, last := b, same := if b = k.last then satInc 128 k.same else 0 }

/-- The sinc stage decimates by `r`: one output of full scale ±1 (R336). -/
def Caisson.comb (k : Caisson) (r : Nat) : Caisson :=
  let c1 := k.i3 - k.d1
  let c2 := c1 - k.d2
  let c3 := c2 - k.d3
  { k with d1 := k.i3, d2 := c1, d3 := c2, ph := 0, outs := (((c3.toInt : Int) : Rat) / ((r ^ 3 : Nat) : Rat) :: k.outs).take 24 }

/-- One modulator clock: its bit, and at every r-th an output of the sinc stage. -/
def Caisson.clock (k : Caisson) (r : Nat) (inv b : Bool) : Caisson :=
  let k := k.bit inv b
  if r ≤ k.ph then k.comb r else k

/-- The stream of modulator j has shown no transition for 128 clocks. -/
def execModulatorStreamStuck (j : Fin 8) (s : State) : Out :=
  .next (if s.bit (Fld.GRD_MOD_CFG_EN j) then (s.putB (Fld.GRD_MOD_RES_FAULT j) true).setPort (2112 + j) 0x8000 else s)

/-- Modulator filter j takes the bits of its stream since the last period event, oldest first, and latches its latest result; none while
the stream is stuck (R346). A result is held within ±32,767 codes, as R305 has it of conversions (log entry 81). -/
def State.latchMod (s : State) (j : Nat) (bits : List Bool) : State :=
  if !s.bit (Fld.GRD_MOD_CFG_EN j) then s
  else
    let k := bits.foldl (fun k b => k.clock (32 * 2 ^ s.get (Fld.GRD_MOD_CFG_OSR j)) false b) (nth {} s.mods j)
    let s := { s with mods := updAt s.mods j (fun _ => k) }
    if 128 ≤ k.same then (s.putB (Fld.GRD_MOD_RES_FAULT j) true).setPort (2112 + j) 0x8000
    else
      let v := match k.outs.head? with | some x => ofS 16 (codeFree x 15 (-32767) 32767) | none => s.get (Fld.GRD_MOD_RES_VALUE j)
      ((s.put (Fld.GRD_MOD_RES_VALUE j) v).putB (Fld.GRD_MOD_RES_FAULT j) false).setPort (2112 + j) v

/-- R319: ports of SRC 2 groups read no sample until their result of this period. -/
def State.clearSrc2 (s : State) : State :=
  forEach (List.range 2) s (fun s u => forEach (List.range 4) s (fun s g =>
    if s.bit (Fld.GRD_U_CTRL_EN u) && s.bit (Fld.GRD_U_TRG_EN u g) && s.get (Fld.GRD_U_TRG_SRC u g) == 2 then
      ((s.groupEntries u g).getD []).foldl (fun s x => s.setPort (grdPort u x.e) 0x8000) s
    else s))

end Sys2Proof.Machine
end

