-- ==== Sys2Proof/Machine/TollOps.lean ====
section
/-! DEFINITION. Shared operations of the Tollhouse: event log, billing time, calendars, tariffs (spec/09, spec/10). -/

namespace Sys2Proof.Machine

def State.modTol (s : State) (f : Toll → Toll) : State := { s with tol := f s.tol }
def State.modBook (s : State) (f : Book → Book) : State := s.modTol (fun t => { t with book := f t.book })
def State.dcPt (s : State) (p : Nat) : DcPt := nth {} s.tol.dc p
def State.acPt (s : State) (g : Nat) : AcPt := nth {} s.tol.ac g
def State.modDc (s : State) (p : Nat) (f : DcPt → DcPt) : State := s.modTol (fun t => { t with dc := updAt t.dc p f })
def State.modAc (s : State) (g : Nat) (f : AcPt → AcPt) : State := s.modTol (fun t => { t with ac := updAt t.ac g f })
def State.sess (s : State) (p : Nat) : Sess := nth {} s.tol.book.sess p
def State.modSess (s : State) (p : Nat) (f : Sess → Sess) : State := s.modBook (fun b => { b with sess := updAt b.sess p f })

/-- The VEHICLE role: no tariffs, calendars, demand, sessions or log (R394, R438). -/
def State.vehicle (s : State) : Bool := s.role == 2

/-- A point is enabled. -/
def State.dcOn (s : State) (p : Nat) : Bool := s.bit (Fld.CSN_DC_CFG_EN p)
def State.acOn (s : State) (g : Nat) : Bool := s.bit (Fld.CSN_AC_CFG_EN g)

/-- Whole mWh of an energy. -/
def mwh (e : Nat) : Nat := e / 2 ^ 32

/-- Bytes of the legal body from offset o (R100, R442): LEGAL is section type 0x08. -/
def State.body (s : State) (o n : Nat) : Nat := s.cfg 8 (64 + o) n
def State.bodyBytes (s : State) (o n : Nat) : List Byte := (List.range n).map (fun i => BitVec.ofNat 8 (s.cfgB 8 (64 + o + i)))

/-- Billing time in whole seconds. -/
def State.billSec (s : State) : Nat := s.tol.bill.floor.toNat
/-- The state of billing time in force (R398). -/
def State.tState (s : State) : Nat := s.get Fld.TOL_TSTAT_STATE

/-! ### Event log (R458 to R460) -/

/-- An entry of 32 bytes. -/
def State.logEntry (s : State) (seq code point time : Nat) (data : List Byte) : List Byte :=
  let fl := (if s.tState = 2 then 0 else 1) + (if s.tol.belowHwm then 2 else 0)
  let b := toLE 4 seq ++ toLE 2 code ++ toLE 1 point ++ toLE 1 fl ++ toLE 8 time ++ (data ++ toLE 12 0).take 12
  b ++ toLE 4 (crc32 b)

/-- TOL_LOGSTAT and the header's counters that registers show. -/
def State.syncBook (s : State) : State :=
  let b := s.tol.book
  let s := ((s.put Fld.TOL_LOGSTAT_ROLL b.roll.length).put Fld.TOL_LOGSTAT_UNER b.uner.length).put Fld.TOL_LOGSTAT_ARCH
    (min 255 ((b.hdr.map BookHdr.archives).getD 0))
  s.put Fld.TOL_SAVESEQ_SEQ ((b.ring.head?.map SaveRec.seq).getD 0)

/-- A rolling entry stamped with time t; none is written in the VEHICLE role (R438, R459). -/
def State.logAt (s : State) (t code point : Nat) (data : List Byte) : State :=
  if s.vehicle then s
  else
    let b := s.tol.book
    let full := decide (400 ≤ b.roll.length)
    let s := if full then s.putB Fld.TOL_BEVT_ROLL_WRAP true else s
    (s.modBook (fun b => { b with
      rollSeq := b.rollSeq + 1
      roll := (if full then b.roll.drop 1 else b.roll) ++ [s.logEntry b.rollSeq code point t data] })).syncBook

def State.log (s : State) (code point : Nat) (data : List Byte) : State := s.logAt s.billSec code point data

/-- An unerasable entry (R460); TOL_BEVT.UNER_FULL when the class is full. -/
def State.logUner (s : State) (code : Nat) (data : List Byte) : State :=
  let s := if 128 ≤ s.tol.book.uner.length then s
    else (s.modBook (fun b => { b with
      unerSeq := b.unerSeq + 1, uner := b.uner ++ [s.logEntry b.unerSeq code 0xFF s.billSec data] })).syncBook
  if 128 ≤ s.tol.book.uner.length then s.putB Fld.TOL_BEVT_UNER_FULL true else s

/-- A flag of every open session. -/
def State.flagOpen (s : State) (bit : Nat) : State :=
  if s.vehicle then s
  else s.modBook (fun b => { b with sess := b.sess.map (fun x => if x.flags.testBit 0 then { x with flags := mset x.flags bit true } else x) })
/-- A flag of the open session of point p. -/
def State.flagSess (s : State) (p bit : Nat) : State :=
  if s.vehicle || !(s.sess p).flags.testBit 0 then s else s.modSess p (fun x => { x with flags := mset x.flags bit true })

/-! ### Civil dates -/

/-- Year, month and day of a day number since 1970-01-01. -/
def civil (d : Nat) : Nat × Nat × Nat :=
  let z := d + 719468
  let era := z / 146097
  let doe := z % 146097
  let yoe := (doe - doe / 1460 + doe / 36524 - doe / 146096) / 365
  let doy := doe - (365 * yoe + yoe / 4 - yoe / 100)
  let mp := (5 * doy + 2) / 153
  let m := if mp < 10 then mp + 3 else mp - 9
  (yoe + era * 400 + (if m ≤ 2 then 1 else 0), m, doy - (153 * mp + 2) / 5 + 1)

/-- Day number of a date. -/
def dayOf (y m d : Nat) : Nat :=
  let y := if m ≤ 2 then y - 1 else y
  let era := y / 400
  let yoe := y % 400
  let doy := (153 * (if 2 < m then m - 3 else m + 9) + 2) / 5 + d - 1
  era * 146097 + (yoe * 365 + yoe / 4 - yoe / 100 + doy) - 719468

/-- Weekday of a day number, 0 Monday. -/
def weekday (d : Nat) : Nat := (d + 3) % 7

/-- The last, and the n-th, Sunday of a month of up to 31 days. -/
def lastSunday (y m : Nat) : Nat := let d := dayOf y m 31; d - (weekday d + 1) % 7
def nthSunday (y m n : Nat) : Nat := let d := dayOf y m 1; d + (6 - weekday d) + 7 * (n - 1)

def leap (y : Nat) : Bool := (y % 4 == 0 && y % 100 != 0) || y % 400 == 0
def monthDays (y m : Nat) : Nat :=
  if m = 2 then (if leap y then 29 else 28) else if m = 4 ∨ m = 6 ∨ m = 9 ∨ m = 11 then 30 else 31

/-! ### Calendars (R406 to R409) -/

def calSigned (b : Nat) : Int := toS 8 b
/-- UTC_OFFSET in s. -/
def calOff (c : List Byte) : Int := calSigned (leAt c 0x1A 1) * 900

/-- Start and end of daylight time in the UTC year of t, UTC s (R396). -/
def dstSpan (c : List Byte) (t : Nat) : Option (Int × Int) :=
  let y := (civil (t / 86400)).1
  match leAt c 0x1B 1 with
  | 1 => some ((lastSunday y 3 * 86400 + 3600 : Nat), (lastSunday y 10 * 86400 + 3600 : Nat))
  | 2 => some (((nthSunday y 3 2 * 86400 + 7200 : Nat) : Int) - calOff c, ((nthSunday y 11 1 * 86400 + 3600 : Nat) : Int) - calOff c)
  | _ => none

def dstOn (c : List Byte) (t : Nat) : Bool :=
  match dstSpan c t with | some (a, b) => decide (a ≤ (t : Int)) && decide ((t : Int) < b) | none => false

/-- Local time of UTC second t. -/
def localOf (c : List Byte) (t : Nat) : Nat := ((t : Int) + calOff c + (if dstOn c t then 3600 else 0)).toNat

/-- Local time at which switch points are looked up: through a repeated hour it stays at that hour's end, so that a switch
takes effect at its first occurrence only (R408). -/
def switchTime (c : List Byte) (t : Nat) : Nat :=
  match dstSpan c t with
  | some (_, b) => if b ≤ (t : Int) ∧ (t : Int) < b + 3600 then localOf c (b.toNat + 3599) else localOf c t
  | none => localOf c t

/-- Season of a date: the latest START on or before it, cyclically. -/
def seasonOf (c : List Byte) (m d : Nat) : Nat :=
  let n := leAt c 7 1
  let l := (List.range n).filter (fun i => leAt c (0x80 + 16 * i) 1 * 32 + leAt c (0x81 + 16 * i) 1 ≤ m * 32 + d)
  (l.getLast?).getD (n - 1)

/-- Day profile of a local day number (R407). -/
def profileOf (c : List Byte) (day : Nat) : Nat :=
  let (y, m, d) := civil day
  let sp (i k : Nat) := leAt c (0x2C0 + 8 * i + k) 1
  let hit (kind : Nat) := (List.range (leAt c 0x19 1)).find? (fun i =>
    sp i 0 == kind && sp i 4 == m && sp i 5 == d && (kind != 2 || leAt c (0x2C0 + 8 * i + 2) 2 == y))
  match hit 2, hit 1 with
  | some i, _ => sp i 6
  | none, some i => sp i 6
  | none, none => leAt c (0x82 + 16 * seasonOf c m d + weekday day) 1

/-- Tariff of a profile at a local minute. -/
def switchTariff (c : List Byte) (prof mn : Nat) : Nat :=
  let w (i : Nat) := leAt c (0xC2 + 32 * prof + 2 * i) 2
  let l := (List.range (leAt c (0xC0 + 32 * prof) 1)).filter (fun i => w i % 2048 ≤ mn)
  match l.getLast? with | some i => w i / 2048 % 8 | none => 0

/-- Tariff by the calendar at UTC second t. -/
def calTariff (c : List Byte) (t : Nat) : Nat :=
  let l := switchTime c t
  switchTariff c (profileOf c (l / 86400)) (l % 86400 / 60)

/-- All bytes from o to o + n are zero. -/
def zeroIn (c : List Byte) (o n : Nat) : Bool := ((c.drop o).take n).all (· == 0)

/-- Header fields within their ranges (check 3). -/
def calHeader (c : List Byte) : Bool :=
  let f (o : Nat) := leAt c o 1
  f 6 ≤ 7 && 1 ≤ f 7 && f 7 ≤ 4 && 1 ≤ f 0x18 && f 0x18 ≤ 16 && f 0x19 ≤ 32 && f 0x1B ≤ 2 && f 0x1C ≤ 28 &&
  decide (-48 ≤ calSigned (f 0x1A)) && decide (calSigned (f 0x1A) ≤ 56)

/-- Season starts exist in a non-leap year and rise (check 4). -/
def calSeasons (c : List Byte) : Bool :=
  let l := (List.range (leAt c 7 1)).map (fun i => (leAt c (0x80 + 16 * i) 1, leAt c (0x81 + 16 * i) 1))
  l.all (fun x => 1 ≤ x.1 && x.1 ≤ 12 && 1 ≤ x.2 && x.2 ≤ monthDays 2001 x.1) &&
  (l.zip (l.drop 1)).all (fun x => x.1.1 * 32 + x.1.2 < x.2.1 * 32 + x.2.2)

/-- Profiles and indices (check 5). -/
def calProfiles (c : List Byte) : Bool :=
  let n := leAt c 0x18 1
  (List.range n).all (fun p =>
    let k := leAt c (0xC0 + 32 * p) 1
    let w := (List.range k).map (fun i => leAt c (0xC2 + 32 * p + 2 * i) 2 % 2048)
    1 ≤ k && k ≤ 12 && w.head? == some 0 && (w.zip (w.drop 1)).all (fun x => x.1 < x.2) && w.all (· ≤ 1439)) &&
  (List.range (leAt c 7 1)).all (fun s => (List.range 7).all (fun d => leAt c (0x82 + 16 * s + d) 1 < n)) &&
  (List.range (leAt c 0x19 1)).all (fun i => leAt c (0x2C6 + 8 * i) 1 < n)

/-- Special days (check 6). -/
def calSpecials (c : List Byte) : Bool :=
  (List.range (leAt c 0x19 1)).all (fun i =>
    let o := 0x2C0 + 8 * i
    let k := leAt c o 1
    let y := leAt c (o + 2) 2
    let m := leAt c (o + 4) 1
    let d := leAt c (o + 5) 1
    1 ≤ m && m ≤ 12 && 1 ≤ d &&
    (if k = 2 then 2000 ≤ y && y ≤ 2199 && d ≤ monthDays y m else k == 1 && d ≤ monthDays 2001 m))

/-- Bytes stated zero (check 8). -/
def calZeros (c : List Byte) : Bool :=
  zeroIn c 0x1D 0x23 && zeroIn c 0x3C0 1084 &&
  (List.range 4).all (fun s => if s < leAt c 7 1 then zeroIn c (0x89 + 16 * s) 7 else zeroIn c (0x80 + 16 * s) 16) &&
  (List.range 16).all (fun p =>
    if p < leAt c 0x18 1 then
      let k := leAt c (0xC0 + 32 * p) 1
      zeroIn c (0xC1 + 32 * p) 1 && zeroIn c (0xC2 + 32 * p + 2 * k) (30 - 2 * k) &&
      (List.range k).all (fun i => leAt c (0xC2 + 32 * p + 2 * i) 2 / 16384 == 0)
    else zeroIn c (0xC0 + 32 * p) 32) &&
  (List.range 32).all (fun i =>
    if i < leAt c 0x19 1 then zeroIn c (0x2C1 + 8 * i) 1 && zeroIn c (0x2C7 + 8 * i) 1 &&
      (leAt c (0x2C0 + 8 * i) 1 == 2 || zeroIn c (0x2C2 + 8 * i) 2)
    else zeroIn c (0x2C0 + 8 * i) 8)

/-- R409: the first check that a calendar breaks, 0 none; `t` and `hwm` for check 7, which `act` leaves in. -/
def calReason (c : List Byte) (act : Bool) (floor : Nat) : Nat :=
  let at_ := leAt c 0x10 8
  if c.take 4 ≠ [0x54, 0x43, 0x41, 0x4C] ∨ leAt c 4 2 ≠ 1 then 1
  else if crc32 (c.take 0x7FC) ≠ leAt c 0x7FC 4 then 2
  else if !calHeader c then 3
  else if !calSeasons c then 4
  else if !calProfiles c then 5
  else if !calSpecials c then 6
  else if act && !(at_ % 60 == 0 && floor + 60 ≤ at_) then 7
  else if !calZeros c then 8
  else 0

/-! ### Tariff in force and the state of billing time -/

/-- Tariff that applies at second t: the calendar's while VALID, else its default; 0 after a failed active calendar or with no
calendar (R398, R407, R414). -/
def State.tariffAt (s : State) (t : Nat) : Nat :=
  let c := s.tol.book.calA
  if s.tol.calBad || c == [] then 0
  else if s.tState = 2 then calTariff c t else leAt c 6 1

/-- TOL_TSTAT.TARIFF and DEFAULT at second t; sessions under a forced tariff carry TIME (R414). -/
def State.setTariff (s : State) (t : Nat) : State :=
  if s.vehicle then s
  else
    let s := (s.put Fld.TOL_TSTAT_TARIFF (s.tariffAt t)).putB Fld.TOL_TSTAT_DEFAULT (s.tState != 2 || s.tol.calBad)
    if s.tState ≠ 2 ∨ s.tol.calBad then s.flagOpen 1 else s

/-- The state that R398 gives. -/
def State.trueState (s : State) : Nat :=
  match s.tol.eb with
  | none => 0
  | some e =>
    if ((s.get Fld.TOL_TLIM_INV_S * 1000 : Nat) : Rat) < e then 0
    else if ((s.get Fld.TOL_TLIM_UNC_S * 1000 : Nat) : Rat) < e then 1 else 2

/-- EB in whole ms, saturating. -/
def State.ebMs (s : State) : Nat :=
  match s.tol.eb with | none => 0xFFFFFFFF | some e => (clampI (-((-e).floor)) 0 0xFFFFFFFF).toNat

/-- R399: the state changes where EB asks for it. -/
def State.updateState (s : State) : State :=
  let old := s.tState
  let new := s.trueState
  if old = new then s
  else
    let s := ((s.put Fld.TOL_TSTAT_STATE new).putB Fld.TOL_TEVT_STATE true).log 0x0108 0xFF
      (toLE 1 old ++ toLE 1 new ++ toLE 4 s.ebMs)
    let s := if new = 2 then s else s.flagOpen 1
    if new = 2 ∧ s.tol.belowHwm then s else s.setTariff s.billSec

/-- HWM follows billing time while VALID or UNCERTAIN (R400), once processing has resumed above it (R432). -/
def State.raiseHwm (s : State) : State :=
  if s.tState ≠ 0 ∧ !s.tol.belowHwm ∧ s.tol.hwm < s.tol.bill then s.modTol (fun t => { t with hwm := t.bill }) else s

/-- Time passes: `us` µs of the RTC (R395, R397, R403). -/
def State.passTime (s : State) (us : Nat) : State :=
  let d : Rat := (us : Rat) / 1000000
  let t := s.tol
  let want := if 0 < t.slew then d / 8 else if t.slew < 0 then -d / 8 else 0
  let step := if 0 < t.slew then min want t.slew else max want t.slew
  let drift : Rat := (s.get Fld.TOL_TLIM_DRIFT : Rat) / 1000000
  let s := s.modTol (fun t => { t with
    bill := t.bill + d + step, slew := t.slew - step
    eb := t.eb.map (fun e => e + drift * d * 1000)
    ac := t.ac.map (fun a => { a with dElapsed := a.dElapsed + d }) })
  s.raiseHwm

end Sys2Proof.Machine
end

