-- ==== Sys2Proof/Machine/Metrology.lean ====
section
/-! DEFINITION. Caisson channels and energy computation (spec/07 from R333, spec/08). -/

namespace Sys2Proof.Machine

/-! ### Channels -/

/-- OSR of channel c. -/
def State.osr (s : State) (c : Nat) : Nat := 256 * 2 ^ s.get (Fld.CSN_CH_CFG_OSR c)
/-- Interval of two results in s. -/
def State.resDt (s : State) (c : Nat) : Rat := (s.osr c : Rat) / 10000000
def State.chUsed (s : State) (c : Nat) : Bool := s.get (Fld.CSN_CH_CFG_SRC c) != 0xFF
def State.chValid (s : State) (c : Nat) : Bool := s.bit (Fld.CSN_CH_STAT_VALID c)

/-- Channels of DC point p and of AC point g: voltage first, phases a to c. -/
def State.dcV (s : State) (p : Nat) : Nat := s.get (Fld.CSN_DC_CFG_VCH p)
def State.dcI (s : State) (p : Nat) : Nat := s.get (Fld.CSN_DC_CFG_ICH p)
def State.acCh (s : State) (g : Nat) : List Nat :=
  [s.get (Fld.CSN_AC_VCH_A g), s.get (Fld.CSN_AC_VCH_B g), s.get (Fld.CSN_AC_VCH_C g),
   s.get (Fld.CSN_AC_ICH_A g), s.get (Fld.CSN_AC_ICH_B g), s.get (Fld.CSN_AC_ICH_C g)]
def State.dcOf (s : State) (c : Nat) : List Nat := (List.range 8).filter (fun p => s.dcOn p && (s.dcV p == c || s.dcI p == c))
def State.acOf (s : State) (c : Nat) : List Nat := (List.range 4).filter (fun g => s.acOn g && (s.acCh g).contains c)

/-- Nominal frequency of an AC point. -/
def State.nomF (s : State) (g : Nat) : Rat := if s.bit (Fld.CSN_AC_CFG_NOMF g) then 60 else 50

/-- Offset and gain of R355. -/
def State.rawValue (s : State) (c : Nat) (code : Int) : Rat :=
  ((code - s.getS (Fld.CSN_CH_GOFF_OFFSET c) : Int) : Rat) / 8388608 * (1 + (s.getS (Fld.CSN_CH_GOFF_GAIN c) : Rat) / 1048576)

/-- The correction chain of R355 to R357. -/
def State.correctCh (s : State) (c : Nat) (code : Int) : State :=
  let x := s.rawValue c code
  let fs := 1 / s.resDt c
  let fn := match (s.acOf c).head? with | some g => s.nomF g | none => 50
  let y := if s.bit (Fld.CSN_CH_DYN_RG_EN c) then
      let fc := (s.get (Fld.CSN_CH_DYN_CORNER c) : Rat) / 100
      (1 - 2 * Config.pi * fc / fs) * nth 0 s.tol.rog c + 2 * Config.pi * fn / fs * x
    else x
  let h := (y :: nth [] s.tol.hist c).take 32
  let v := Config.fdelay (s.getS (Fld.CSN_CH_DYN_DELAY c)) h * q16 (s.get (Fld.CSN_CH_SCALE_SCALE c))
  s.modTol (fun t => { t with rog := updAt t.rog c (fun _ => y), hist := updAt t.hist c (fun _ => h)
                              val := updAt t.val c (fun _ => v) })

def State.chVal (s : State) (c : Nat) : Rat := nth 0 s.tol.val c

/-- R388: a result enters an open calibration window; rms after OFFSET, and after the integrator of a Rogowski channel. -/
def State.calTake (s : State) (c : Nat) (code : Int) : State :=
  match s.tol.cal with
  | none => s
  | some w =>
    let r : Rat := if s.bit (Fld.CSN_CH_DYN_RG_EN c) then nth 0 s.tol.rog c
      else ((code - s.getS (Fld.CSN_CH_GOFF_OFFSET c) : Int) : Rat) / 8388608
    s.modTol (fun t => { t with cal := some { w with
      sum := updAt w.sum c (· + (code : Rat) / 8388608), sq := updAt w.sq c (· + r * r), n := updAt w.n c (· + 1) } })

/-- Registers of a channel's result (R341, R344, R349). -/
def State.showResult (s : State) (c : Nat) (code : Int) (stuck ovr : Bool) : State :=
  let disc := s.prp.clkBad
  let ok := !stuck && !disc && s.tol.ready.testBit c
  let s := s.put (Fld.CSN_CH_STAT_COUNT c) (s.get (Fld.CSN_CH_STAT_COUNT c) + 1)
  let s := ((s.putB (Fld.CSN_CH_STAT_STUCK c) stuck).putB (Fld.CSN_CH_STAT_OVR c) ovr).putB (Fld.CSN_CH_STAT_DISC c) disc
  let s := (s.putB (Fld.CSN_CH_STAT_VALID c) (ok && !ovr)).put (Fld.CSN_CH_RES_VALUE c) (if ok && !ovr then ofS 32 code else 0x80000000)
  if s.bit (Fld.CSN_CH_CFG_TRUSS_OUT c) then s.setPort (2128 + c) (if ok && !ovr then ofS 24 code / 256 else 0x8000) else s

/-! ### The decimation filter (R334 to R336) -/

/-- MCLKk is driven: an enabled channel names it (R334). -/
def State.mclkDriven (s : State) (k : Nat) : Bool :=
  (List.range 40).any (fun c => s.chUsed c && s.get (Fld.CSN_CH_CFG_MCLK c) == k)

/-- CSN_MCLK as read. -/
def State.readMclk (s : State) : Nat := maskOf ((List.range 4).filter s.mclkDriven)

/-- The bit that channel c takes of one modulator clock from the levels at the rising and at the falling edge of its MCLK: EDGE selects
among them for an external modulator (R334). -/
def State.sampleBit (s : State) (c : Nat) (x : Bool × Bool) : Bool :=
  if s.bit (Fld.CSN_CH_CFG_EDGE c) && decide (8 ≤ s.get (Fld.CSN_CH_CFG_SRC c)) then x.2 else x.1

/-- Tap j of the 24 of the second stage: symmetric, and of sum exactly 1 (R336). Which taps compensate the droop the spec leaves open
(log entry 81). -/
def firTap (osr j : Nat) : Rat :=
  let i := min j (23 - j)
  if i < 11 then Config.droopTap osr i else 1 / 2 - (List.range 11).foldl (fun a i => a + Config.droopTap osr i) 0

/-- The result: the compensated mean as a 24-bit code (R335, R336). -/
def Caisson.code (k : Caisson) (osr : Nat) : Int :=
  clampI (roundFree (((List.range 24).foldl (fun a j => a + firTap osr j * nth 0 k.outs j) 0) * 8388608)) (-8388608) 8388607

/-- A sinc output of the result's window exceeds 0.95 of full scale (R341). -/
def Caisson.over (k : Caisson) : Bool := (k.outs.take 2).any (fun x => decide (95 / 100 < absR x))

/-- Channel c after the bits of one result. -/
def State.filtered (s : State) (c : Nat) (bits : List (Bool × Bool)) : Caisson :=
  let inv := s.bit (Fld.CSN_CH_CFG_INVERT c)
  let r := s.osr c / 2
  (bits.map (s.sampleBit c)).foldl (fun k b => k.clock r inv b) (nth {} s.tol.csn c)

/-! ### DC points (R358 to R365) -/

/-- Energy of a power over one result interval, 2⁻³² mWh. -/
def energyOf (p dt : Rat) : Nat := (roundFree (p * dt / (36 / 10) * 2 ^ 32)).toNat

/-- The temperature used: the estimate, or THETA_MAX (R363, R364). -/
def State.thetaUsed (s : State) (p : Nat) : Rat :=
  let d := s.dcPt p
  if d.thetaOk then d.theta else (s.getS (Fld.CSN_DC_THETA_THETA_MAX p) : Rat) / 256

/-- Cable resistance in Ω (R363). -/
def State.rCab (s : State) (p : Nat) : Rat :=
  (s.get (Fld.CSN_DC_CABLE_R_REF p) : Rat) / 1000000 * (1 + (s.get (Fld.CSN_DC_CABLE_ALPHA p) : Rat) / 1000000 *
    (s.thetaUsed p - (s.getS (Fld.CSN_DC_THETA_THETA_REF p) : Rat) / 256))

/-- Nothing is registered: a damaged Toll Book, or stopped accumulation (R376, R457). -/
def State.noCount (s : State) : Bool := s.tol.stopped || s.bit Fld.TOL_BOOK_DAMAGED

/-- Session figures follow the point registers (R424). -/
def State.followSess (s : State) (p eI eE : Nat) : State :=
  if s.vehicle || !(s.sess p).flags.testBit 0 then s
  else
    let d := s.dcPt p
    let t := s.get Fld.TOL_TSTAT_TARIFF
    s.modSess p (fun x => { x with
      imp := mwh d.imp - x.startImp, exp := mwh d.exp - x.startExp, loss := mwh d.loss - x.startLoss
      tImp := updAt x.tImp t (· + eI), tExp := updAt x.tExp t (· + eE) })

/-- One result instant of DC point p (R358). -/
def State.dcInstant (s : State) (p : Nat) : State :=
  let v := s.chVal (s.dcV p)
  let i := s.chVal (s.dcI p)
  let dt := s.resDt (s.dcV p)
  let n10 := (10000 * 1000 + s.osr (s.dcV p) * 100 - 1) / (s.osr (s.dcV p) * 100)
  let win := (absR i :: (s.dcPt p).iWin).take n10
  let mean := win.foldl (· + ·) 0 / (((win.length : Nat) : Rat))
  let creep := decide (mean < (s.get (Fld.CSN_DC_START_ISTART p) : Rat) / 16)
  let pd := v * i * (1 + (s.getS (Fld.CSN_DC_QCOR_PGAIN p) : Rat) / 1048576) + (s.getS (Fld.CSN_DC_QCOR_POFF p) : Rat)
  let pl := if creep || !s.bit (Fld.CSN_DC_CFG_COMP p) then 0 else i * i * s.rCab p
  let pw := if creep then 0 else pd - pl
  let eI := if 0 ≤ pw then energyOf pw dt else 0
  let eE := if pw < 0 then energyOf (-pw) dt else 0
  let t := s.get Fld.TOL_TSTAT_TARIFF
  let on := !s.noCount
  let s := s.putB (Fld.CSN_DC_STAT_CREEP p) creep
  let s := s.modDc p (fun d => { d with
    iWin := win, iHist := (some i :: d.iHist).take 1024
    mSum := [nth 0 d.mSum 0 + v, nth 0 d.mSum 1 + i, nth 0 d.mSum 2 + pw, nth 0 d.mSum 3 + pl], mN := d.mN + 1 })
  if !on then s
  else
    let s := s.modDc p (fun d => { d with
      imp := d.imp + eI, exp := d.exp + eE, loss := d.loss + energyOf pl dt
      tImp := if s.vehicle then d.tImp else updAt d.tImp t (· + eI)
      tExp := if s.vehicle then d.tExp else updAt d.tExp t (· + eE) })
    s.followSess p eI eE

/-! ### Gaps, overload, residues (R373 to R376) -/

/-- Report of a metering event. -/
def State.meterFault (s : State) (src : Nat) : State := s.reportNone 0x2D clsC src

/-- A gap starts, or ends after `n` result intervals of `dt` s. Point numbers 8 to 11 are AC points. -/
def State.gapEvent (s : State) (pt : Nat) (ends : Bool) (ms : Nat) : State :=
  let s := (s.putB Fld.TOL_MEVT_GAP true).log 0x0103 pt (toLE 1 (if ends then 1 else 0) ++ toLE 4 ms)
  let s := if pt < 8 then s.flagSess pt 3 else s
  s.meterFault pt

def gapMs (n : Nat) (dt : Rat) : Nat := (((n : Nat) : Rat) * dt * 1000).floor.toNat

/-- DC point p at a result instant: measuring or in a gap. -/
def State.dcStep (s : State) (p : Nat) : State :=
  let meas := s.chValid (s.dcV p) && s.chValid (s.dcI p)
  let ok := meas || ((s.bit (Fld.CSN_CH_STAT_OVR (s.dcV p)) || s.bit (Fld.CSN_CH_STAT_OVR (s.dcI p))) &&
    [s.dcV p, s.dcI p].all (fun c => !s.bit (Fld.CSN_CH_STAT_STUCK c) && !s.bit (Fld.CSN_CH_STAT_DISC c) && s.tol.ready.testBit c))
  let s := s.putB (Fld.CSN_DC_STAT_MEAS p) ok
  match (s.dcPt p).gap, ok with
  | none, true => s.dcInstant p
  | none, false => (s.modDc p (fun d => { d with gap := some 1, gaps := d.gaps + 1, iHist := (none :: d.iHist).take 1024 })).gapEvent p false 0
  | some n, false => s.modDc p (fun d => { d with gap := some (n + 1), iHist := (none :: d.iHist).take 1024 })
  | some n, true => ((s.modDc p (fun d => { d with gap := none })).gapEvent p true (gapMs n (s.resDt (s.dcV p)))).dcInstant p

/-- A result flagged OVR of a point's channel (R375). -/
def State.ovrEvent (s : State) (c : Nat) : State :=
  let s := s.putB Fld.TOL_MEVT_OVR true
  let s := forEach (s.acOf c) s (fun s g => s.modAc g (fun a => { a with ovrIv := true }))
  forEach (s.dcOf c) s (fun s p =>
    let first := (s.sess p).flags.testBit 0 && !(s.sess p).flags.testBit 6 && !s.vehicle
    let s := s.modDc p (fun d => { d with ovrIv := true })
    if first then (s.log 0x0104 p (toLE 4 (s.sess p).id)).flagSess p 6 else s)

/-- A residue mismatch of channel c: 1 recovered by recomputation, 2 not (R376). -/
def State.residEvent (s : State) (c k : Nat) : State :=
  if k = 0 then s
  else if k = 1 then s.log 0x0105 0xFF (toLE 1 0)
  else
    let s := (s.log 0x0105 0xFF (toLE 1 1)).modTol (fun t => { t with stopped := true })
    let s := forEach (s.dcOf c) s (fun s p => s.putB (Fld.CSN_DC_STAT_RESID p) true)
    let s := forEach (s.acOf c) s (fun s g => s.putB (Fld.CSN_AC_STAT_RESID g) true)
    (s.putB Fld.TOL_MEVT_RESIDUE true).meterFault c

/-! ### AC points (R366 to R371) -/

/-- Lock of AC point g (R366). -/
def State.setLock (s : State) (g : Nat) : State :=
  let a := s.acPt g
  let f : Rat := if a.period = 0 then 0 else 10000000 / a.period
  let ok := decide (85 / 2 ≤ f) && decide (f ≤ 69) && decide (a.since ≤ 1000000)
  let was := s.bit (Fld.CSN_AC_STAT_FLOCK g)
  let s := s.putB (Fld.CSN_AC_STAT_FLOCK g) ok
  if was && !ok then s.putB Fld.TOL_MEVT_FLOCK true else s

/-- A new phase-a voltage: a positive-going crossing, interpolated between results (R366, R372). -/
def State.crossing (s : State) (g : Nat) : State :=
  let c := s.get (Fld.CSN_AC_VCH_A g)
  let v := s.chVal c
  let o : Rat := s.osr c
  let a := s.acPt g
  let s :=
    if a.va < 0 ∧ 0 ≤ v then
      let f := -a.va / (v - a.va)
      let per := a.since + f * o
      let s := s.modAc g (fun a => { a with va := v, since := (1 - f) * o, period := per, perSum := a.perSum + per, perN := a.perN + 1 })
      if g = 0 then s.modTol (fun t => { t with crossings := t.crossings + 1 }) else s
    else s.modAc g (fun a => { a with va := v, since := a.since + o })
  s.setLock g

/-- AC point g at a result instant. -/
def State.acStep (s : State) (g : Nat) : State :=
  let chs := s.acCh g
  let ok := chs.all (fun c => s.tol.ready.testBit c && !s.bit (Fld.CSN_CH_STAT_STUCK c) && !s.bit (Fld.CSN_CH_STAT_DISC c))
  let s := s.putB (Fld.CSN_AC_STAT_MEAS g) ok
  let take (s : State) : State := (s.modAc g (fun a => { a with
    buf := (a.buf.zip chs).map (fun x => x.1 ++ [s.chVal x.2]) })).crossing g
  let lose (s : State) (n : Nat) : State := (s.modAc g (fun a => { a with
    gap := some n, gapN := a.gapN + 1, va := 0, since := a.since + (s.osr (s.get (Fld.CSN_AC_VCH_A g)) : Rat) })).setLock g
  match (s.acPt g).gap, ok with
  | none, true => take s
  | none, false => (lose s 1).gapEvent (8 + g) false 0
  | some n, false => lose s (n + 1)
  | some n, true => take ((s.modAc g (fun a => { a with gap := none })).gapEvent (8 + g) true (gapMs n (s.resDt (nth 0 chs 0))))

/-- Channel c has a result: its registers, its value, and the points it belongs to (R341, R355 to R376). -/
def State.takeResult (s : State) (c : Nat) (x : Int) (stuck ovr : Bool) (resid : Nat) : State :=
  let s := s.showResult c x stuck ovr
  let pts := s.dcOf c != [] || s.acOf c != []
  let s := if s.prp.clkBad then s else (s.correctCh c x).calTake c x
  let s := if pts && ovr && !s.prp.clkBad then s.ovrEvent c else s
  let s := s.residEvent c resid
  let n := s.get (Fld.CSN_CH_STAT_COUNT c)
  let s := forEach (s.dcOf c) s (fun s p =>
    if [s.dcV p, s.dcI p].all (fun k => s.get (Fld.CSN_CH_STAT_COUNT k) == n) then s.dcStep p else s)
  forEach (s.acOf c) s (fun s g =>
    if (s.acCh g).all (fun k => s.get (Fld.CSN_CH_STAT_COUNT k) == n) then s.acStep g else s)

/-- R334 to R337, R341, R355 to R376: channel c writes its result. `rise` and `fall` are the levels of its bitstream at the rising and at
the falling edge of its MCLK, for each modulator clock since the last result. `mismatch`: of the residues, which recomputing
removes unless `again`. A point acts at the instant at which its last channel has its result. -/
def execCaissonResult (c : Fin 40) (rise fall : List Bool) (mismatch again : Bool) (s : State) : Out :=
  .next (if !s.chUsed c || !s.tol.run then s
    else
      let k := s.filtered c (rise.zip fall)
      (s.modTol (fun t => { t with csn := updAt t.csn c (fun _ => k) })).takeResult c (k.code (s.osr c)) (k.same == 128) k.over
        (if mismatch then if again then 2 else 1 else 0))

/-- R340: 13.5 × OSR cycles have passed since enabling. -/
def execCaissonValidStart (c : Fin 40) (s : State) : Out :=
  .next (if s.chUsed c then s.modTol (fun t => { t with ready := mset t.ready c true }) else s)

/-! ### Windows of an AC point (R367 to R371) -/

def sumR (l : List Rat) : Rat := l.foldl (· + ·) 0
def meanR (l : List Rat) : Rat := if l = [] then 0 else sumR l / ((l.length : Nat) : Rat)
def rmsR (l : List Rat) : Rat := Config.sqrt (meanR (l.map (fun x => x * x)))

/-- DFT bin k of the samples, as an rms complex value. -/
def dftBin (l : List Rat) (k : Nat) : Rat × Rat :=
  let n := l.length
  let sc : Rat := if n = 0 then 0 else Config.sqrt 2 / ((n : Nat) : Rat)
  let z := l.zipIdx
  (sc * sumR (z.map (fun x => x.1 * Config.cosTurn (k * x.2 % n) n)),
   -(sc * sumR (z.map (fun x => x.1 * Config.sinTurn (k * x.2 % n) n))))

def cMag (z : Rat × Rat) : Rat := Config.sqrt (z.1 * z.1 + z.2 * z.2)

/-- Real and imaginary part of z times the conjugate of w. -/
def cMulConj (z w : Rat × Rat) : Rat × Rat := (z.1 * w.1 + z.2 * w.2, z.2 * w.1 - z.1 * w.2)

/-- G_h of R368. -/
def groupH (l : List Rat) (nw h : Nat) : Rat :=
  let sq (k : Nat) : Rat := let z := dftBin l k; z.1 * z.1 + z.2 * z.2
  Config.sqrt (sq (h * nw - nw / 2) / 2 + sumR ((List.range (nw - 1)).map (fun j => sq (h * nw + 1 + j - nw / 2))) +
    sq (h * nw + nw / 2) / 2)

/-- DC component, fundamental and G_2 to G_50 (R369). -/
def harmonics (l : List Rat) (nw : Nat) : List Rat :=
  meanR l :: cMag (dftBin l nw) :: (List.range 49).map (fun j => groupH l nw (j + 2))

def thdOf (h : List Rat) : Rat :=
  let f := nth 0 h 1
  if f = 0 then 0 else 100 * Config.sqrt (sumR ((h.drop 2).map (fun x => x * x))) / f

/-- The twelve quantities of one phase (R368, R370): `cor` corrects P, P₁, Q, Q₁. -/
def phaseQ (v i : List Rat) (nw : Nat) (cor : Nat → Rat → Rat) : List Rat :=
  let v1 := dftBin v nw
  let i1 := dftBin i nw
  let s1 := cMulConj v1 i1
  let q := sumR ((List.range 50).map (fun h => (cMulConj (dftBin v ((h + 1) * nw)) (dftBin i ((h + 1) * nw))).2))
  [rmsR v, rmsR i, cMag v1, cMag i1, cor 0 (meanR ((v.zip i).map (fun x => x.1 * x.2))), cor 1 s1.1, cor 2 q, cor 3 s1.2,
   rmsR v * rmsR i, cMag v1 * cMag i1, thdOf (harmonics v nw), thdOf (harmonics i nw)]

/-- Row of R371 from the signs of P and Q: energies of active, reactive and apparent. -/
def acRow (p q : Rat) : Nat × Nat × Nat :=
  if 0 ≤ p then (if 0 ≤ q then (0, 2, 6) else (0, 5, 6)) else (if 0 ≤ q then (1, 3, 7) else (1, 4, 7))

/-- Energies of a window added by row; `base` is 0 for total and 8 for fundamental quantities. -/
def addRow (e : List Nat) (base : Nat) (p q sv dur : Rat) : List Nat :=
  let r := acRow p q
  updAt (updAt (updAt e (base + r.1) (· + energyOf (absR p) dur)) (base + r.2.1) (· + energyOf (absR q) dur))
    (base + r.2.2) (· + energyOf sv dur)

/-- Code of quantity q (CSN_ACg_PHh_Qq). -/
def qCode (q : Nat) (x : Rat) : Nat :=
  if q < 4 then ofS 32 (codeFree x 16 (-(2 ^ 31 : Int)) (2 ^ 31 - 1))
  else if q < 10 then ofS 32 (codeFree x 0 (-(2 ^ 31 : Int)) (2 ^ 31 - 1))
  else (codeFree x 16 0 (2 ^ 32 - 1)).toNat

/-- R367 to R371: a window of N_W cycles of AC point g ends. The result intervals of a gap register nothing (R374). -/
def execAcWindowEnd (g : Fin 4) (resid : Fin 3) (s : State) : Out :=
  .next (if !s.acOn g || !s.tol.run then s
    else
      let s := s.residEvent (s.get (Fld.CSN_AC_VCH_A g)) resid
      let a := s.acPt g
      let nw := if s.bit (Fld.CSN_AC_CFG_NOMF g) then 12 else 10
      let smp (k : Nat) : List Rat := Config.resample (256 * nw) (nth [] a.buf k)
      let cor (x : Nat) (y : Rat) : Rat := y * (1 + (s.getS (Fld.CSN_AC_QCOR_G g x) : Rat) / 1048576) +
        (s.getS (Fld.CSN_AC_QCOR_OFF g x) : Rat)
      let qs := (List.range 3).map (fun h => phaseQ (smp h) (smp (h + 3)) nw cor)
      let f : Rat := if s.bit (Fld.CSN_AC_STAT_FLOCK g) && a.perN != 0 then 10000000 * (a.perN : Rat) / a.perSum else s.nomF g
      let dur : Rat := max 0 ((nw : Rat) / f - (a.gapN : Rat) * s.resDt (s.get (Fld.CSN_AC_VCH_A g)))
      let tot (q : Nat) : Rat := sumR (qs.map (fun l => nth 0 l q))
      let creep := qs.all (fun l => decide (nth 0 l 1 < (s.get (Fld.CSN_AC_CFG_ISTART g) : Rat) / 16))
      let s := forEach (List.range 3) s (fun s h => forEach (List.range 12) s (fun s q =>
        s.put (Fld.CSN_AC_PH_Q_VALUE g h q) (qCode q (nth 0 (nth [] qs h) q))))
      let s := (s.putU (Fld.CSN_AC_FREQ_HZ g) (codeFree f 16 0 (2 ^ 32 - 1))).putB (Fld.CSN_AC_STAT_CREEP g) creep
      let s := s.putB (Fld.CSN_AC_STAT_OVR g) a.ovrIv
      let e := if creep || s.noCount then a.e
        else addRow (addRow a.e 0 (tot 4) (tot 6) (tot 8) dur) 8 (tot 5) (tot 7) (tot 9) dur
      let t := s.get Fld.TOL_TSTAT_TARIFF
      s.modAc g (fun a => { a with
        tImp := updAt a.tImp t (· + (nth 0 e 0 - nth 0 a.e 0)), tExp := updAt a.tExp t (· + (nth 0 e 1 - nth 0 a.e 1)), e := e
        buf := List.replicate 6 [], perSum := 0, perN := 0, ovrIv := false, gapN := 0
        harm := (List.range 6).map (fun k => harmonics (smp k) nw) }))

/-! ### Means, cross-check, estimates -/

/-- R362: a 100 ms interval ends. -/
def execMeasIntervalEnd (s : State) : Out :=
  .next (if !s.tol.run then s else forEach (List.range 8) s (fun s p =>
    if !s.dcOn p then s
    else
      let d := s.dcPt p
      let m (k f : Nat) : Nat :=
        if d.mN = 0 then 0x80000000 else ofS 32 (codeFree (nth 0 d.mSum k / ((d.mN : Nat) : Rat)) f (-(2 ^ 31 : Int)) (2 ^ 31 - 1))
      let s := ((s.put (Fld.CSN_DC_MEAS_VALUE p 0) (m 0 16)).put (Fld.CSN_DC_MEAS_VALUE p 1) (m 1 16)).put
        (Fld.CSN_DC_MEAS_VALUE p 2) (m 2 0)
      let s := (s.put (Fld.CSN_DC_MEAS_VALUE p 3) (m 3 0)).put (Fld.CSN_DC_MEAS_VALUE p 4)
        (ofS 32 (codeFree (s.thetaUsed p) 16 (-(2 ^ 31 : Int)) (2 ^ 31 - 1)))
      (s.putB (Fld.CSN_DC_STAT_OVR p) d.ovrIv).modDc p (fun d => { d with mSum := [0, 0, 0, 0], mN := 0, ovrIv := false })))

/-- Group delay and fractional delay of channel c in µs, rounded down (R338, R377). -/
def State.delayUs (s : State) (c : Nat) : Nat :=
  let o : Rat := s.osr c
  (((3 / 2 * (o / 2 - 1) + 23 / 2 * (o / 2)) + (8 + (s.getS (Fld.CSN_CH_DYN_DELAY c) : Rat) / 4096) * o) / 10).floor.toNat

/-- A discrepancy is raised or cleared (R378, R379). -/
def State.discrep (s : State) (p : Nat) (up : Bool) (d : Rat) : State :=
  let s := (s.putB (Fld.CSN_DC_STAT_DISCREP p) up).putB Fld.TOL_MEVT_DISCREP true
  let s := s.log 0x0106 p (toLE 1 (if up then 0 else 1) ++ toLE 2 (ofS 16 (codeFree d 8 (-32768) 32767)))
  let s := s.modDc p (fun x => { x with xHi := 0, xLo := 0 })
  if up then (s.flagSess p 4).meterFault p else s

/-- One point's window of R377. -/
def State.crossCheck (s : State) (p : Nat) : State :=
  if !s.dcOn p || (s.role1 p).isNone || s.periodUs == 0 then s
  else
    let c := s.dcI p
    let d := s.dcPt p
    let k := max 1 (10000 / s.periodUs)
    let fb := (d.fb.drop (s.delayUs c / s.periodUs)).take k
    let n := max 1 (100000 / s.osr c)
    let is := d.iHist.take n
    let counted := fb.all Option.isSome && fb.length == k && s.bit (Fld.CSN_DC_STAT_MEAS p) && is.all Option.isSome && is.length == n
    let s := s.putB (Fld.CSN_DC_STAT_XSUSP p) (!counted)
    if !counted then s
    else
      let sc := q16 (s.get (Fld.CSN_CH_SCALE_SCALE c))
      let x := if sc = 0 then 0 else 100 * absR (meanR (is.filterMap id) - meanR (fb.filterMap id)) / sc
      let hi := if 2 < x then satInc 100 d.xHi else 0
      let lo := if x < 3 / 2 then satInc 100 d.xLo else 0
      let up := s.bit (Fld.CSN_DC_STAT_DISCREP p)
      let s := (s.putS (Fld.CSN_DC_XCHK_DIFF p) (roundFree (x * 256))).put (Fld.CSN_DC_XCHK_COUNT p) (if up then lo else hi)
      let s := s.modDc p (fun d => { d with xHi := hi, xLo := lo })
      if !up && hi == 100 then s.discrep p true x
      else if up && lo == 100 then s.discrep p false x else s

/-- R377 to R380: a cross-check window of 10 ms ends. -/
def execCrossCheckWindow (s : State) : Out := .next (if s.tol.run then forEach (List.range 8) s State.crossCheck else s)

/-- Feedback of the ROLE 1 slots over the one-way path, once a period (R24, R377). -/
def State.passFeedback (s : State) : State :=
  forEach (List.range 8) s (fun s p =>
    match s.role1 p with
    | none => s
    | some k => s.modDc p (fun d => { d with fb := ((if k.idle || k.holding then none else some (s.outI p)) :: d.fb).take 2048 }))

/-- TSUB: the substitution starts or ends (R364). -/
def State.setTheta (s : State) (p : Nat) (t : Rat) (ok : Bool) : State :=
  let sub := !ok && s.bit (Fld.CSN_DC_CFG_COMP p)
  let was := s.bit (Fld.CSN_DC_STAT_TSUB p)
  let s := s.modDc p (fun d => { d with theta := if ok then t else d.theta, thetaOk := ok })
  if sub = was then s
  else
    let s := (s.putB (Fld.CSN_DC_STAT_TSUB p) sub).log 0x0107 p (toLE 1 (if sub then 0 else 1))
    if sub then (s.putB Fld.TOL_MEVT_TSUB true).flagSess p 5 else s

/-- R364: the estimate of outlet p has not been refreshed for 30 ms. -/
def execTempEstimateTimeout (p : Fin 8) (s : State) : Out := .next (if s.dcOn p then s.setTheta p 0 false else s)

/-! ### Views, snapshots, calibration windows -/

/-- View and wrap counter of an energy (R382). -/
def viewOf (e : Nat) : Nat := mwh e / 1000 % 2 ^ 32
def wrapOf (e : Nat) : Nat := mwh e / (1000 * 2 ^ 32) % 65536

/-- R383: between two accumulation updates every view and wrap counter is copied. -/
def execSnapshotCopy (s : State) : Out :=
  .next (if !s.bit Fld.TOL_MSNAP_GO then s
    else
      let s := forEach (List.range 8) s (fun s p =>
        let d := s.dcPt p
        (((s.put (Fld.CSN_DC_SVIEW_WH p 0) (viewOf d.imp)).put (Fld.CSN_DC_SVIEW_WH p 1) (viewOf d.exp)).put
          (Fld.CSN_DC_SWRAP_IMP p) (wrapOf d.imp)).put (Fld.CSN_DC_SWRAP_EXP p) (wrapOf d.exp))
      let s := forEach (List.range 4) s (fun s g =>
        let a := s.acPt g
        let s := forEach (List.range 16) s (fun s x => s.put (Fld.CSN_AC_SVIEW_WH g x) (viewOf (nth 0 a.e x)))
        forEach (List.range 8) s (fun s y => (s.put (Fld.CSN_AC_SWRAP_EVEN g y) (wrapOf (nth 0 a.e (2 * y)))).put
          (Fld.CSN_AC_SWRAP_ODD g y) (wrapOf (nth 0 a.e (2 * y + 1)))))
      ((s.put Fld.TOL_MSNAP_SEQ (s.get Fld.TOL_MSNAP_SEQ + 1)).putB Fld.TOL_MSNAP_DONE true).putB Fld.TOL_MSNAP_GO false)

/-- TOL_MSNAP (R383). -/
def State.wrMsnap (s : State) (v : Nat) : State :=
  let s := if v.testBit 1 then s.putB Fld.TOL_MSNAP_DONE false else s
  if v.testBit 0 then s.putB Fld.TOL_MSNAP_GO true else s

/-- TOL_MCAL (R388, R389). -/
def State.wrMcal (s : State) (v : Nat) : State :=
  let busy := s.bit Fld.TOL_MCAL_BUSY
  let s := (s.putB Fld.TOL_MCAL_MODE (v.testBit 28)).put Fld.TOL_MCAL_LEN v
  let s := if v.testBit 29 then s.putB Fld.TOL_MCAL_DONE false else s
  if v.testBit 31 && !busy then (s.putB Fld.TOL_MCAL_GO true).putB Fld.TOL_MCAL_BUSY true else s

/-- R388: the window opens. -/
def execMcalWindowStart (s : State) : Out :=
  .next (if s.bit Fld.TOL_MCAL_GO then (s.putB Fld.TOL_MCAL_GO false).modTol (fun t => { t with cal := some { rms := s.bit Fld.TOL_MCAL_MODE } }) else s)

/-- R388: the window ends: mean of the raw results, or their rms after OFFSET. -/
def execMcalWindowEnd (s : State) : Out :=
  .next (match s.tol.cal with
    | none => s
    | some w =>
      let s := forEach (List.range 40) s (fun s c =>
        let n : Rat := (nth 0 w.n c : Nat)
        if !s.bit (Fld.CSN_CH_CFG_LEGAL c) || n == 0 then s
        else
          let x := if w.rms then Config.sqrt (nth 0 w.sq c / n) else nth 0 w.sum c / n
          s.put (Fld.CSN_CH_CAL_VALUE c) (ofS 32 (codeFree x 31 (-(2 ^ 31 : Int)) (2 ^ 31 - 1))))
      ((s.putB Fld.TOL_MCAL_BUSY false).putB Fld.TOL_MCAL_DONE true).modTol (fun t => { t with cal := none }))

/-! ### Legal registers as read (R381) -/

/-- The 64-bit energy whose words stand at address a: its whole mWh, and the address of its low word. -/
def State.legalAt (s : State) (a : Nat) : Option (Nat × Nat) :=
  let dc (b : Nat) : Option (Nat × Nat) := -- CSN_DCp_Ew
    let p := b / 0x80
    let w := b % 0x80 / 4
    if p < 8 ∧ w < 6 then
      let d := s.dcPt p
      some (mwh (if w / 2 = 0 then d.imp else if w / 2 = 1 then d.exp else d.loss), a - a % 8)
    else none
  if 0x40090440 ≤ a ∧ a < 0x40090840 ∧ (a - 0x40090440) % 0x80 < 24 then dc (a - 0x40090440)
  else if 0x40090900 ≤ a ∧ a < 0x40091100 ∧ (a - 0x40090900) % 0x200 < 0x80 then
    some (mwh (nth 0 (s.acPt ((a - 0x40090900) / 0x200)).e ((a - 0x40090900) % 0x200 / 8)), a - a % 8)
  else if 0x400A1000 ≤ a ∧ a < 0x400A1C00 ∧ (a - 0x400A1000) % 0x100 < 0x80 then
    let i := (a - 0x400A1000) / 0x100
    let t := (a - 0x400A1000) % 0x100 / 16
    let exp := decide (8 ≤ a % 16)
    let e := if i < 8 then (if exp then nth 0 (s.dcPt i).tExp t else nth 0 (s.dcPt i).tImp t)
      else (if exp then nth 0 (s.acPt (i - 8)).tExp t else nth 0 (s.acPt (i - 8)).tImp t)
    some (mwh e, a - a % 8)
  else none

/-- A read of a legal register word: the low word latches the high one (R381). -/
def State.readLegal (s : State) (a : Nat) : Nat × State :=
  match s.legalAt a with
  | none => (0, s)
  | some (e, lo) =>
    if s.vehicle ∧ 0x400A0000 ≤ a then (0, s)
    else if a = lo then (e % 2 ^ 32, s.modTol (fun t => { t with latch := sset 0 t.latch lo (e / 2 ^ 32) }))
    else (sget 0 s.tol.latch lo, s)

/-- Views and wrap counters as read (R382). -/
def State.readView (s : State) (a : Nat) : Option Nat :=
  let b := a - 0x40090460
  if 0x40090460 ≤ a ∧ a < 0x40090860 ∧ b % 0x80 < 12 then
    let d := s.dcPt (b / 0x80)
    some (match b % 0x80 / 4 with | 0 => viewOf d.imp | 1 => viewOf d.exp | _ => wrapOf d.exp * 65536 + wrapOf d.imp)
  else
    let b := a - 0x40090980
    if 0x40090980 ≤ a ∧ a < 0x40091180 ∧ b % 0x200 < 0x60 then
      let c := s.acPt (b / 0x200)
      let x := b % 0x200 / 4
      some (if x < 16 then viewOf (nth 0 c.e x) else wrapOf (nth 0 c.e (2 * (x - 16) + 1)) * 65536 + wrapOf (nth 0 c.e (2 * (x - 16))))
    else none

end Sys2Proof.Machine
end

