-- ==== Sys2Proof/Machine/Tariff.lean ====
section
/-! DEFINITION. Billing time, boundaries, calendars in force and demand (spec/09). -/

namespace Sys2Proof.Machine

/-! ### Demand intervals (R415 to R419) -/

/-- Interval length of AC point g in s, 0 none. -/
def State.demLen (s : State) (g : Nat) : Nat :=
  match s.get Fld.TOL_DEMCFG_LEN / 16 ^ g % 16 with
  | 1 => 300 | 2 => 600 | 3 => 900 | 4 => 1800 | 5 => 3600 | _ => 0

/-- AC point g has demand intervals. -/
def State.demOn (s : State) (g : Nat) : Bool := s.acOn g && s.demLen g != 0

/-- A new interval of point g begins at t, in the tariff in force. -/
def State.openDemand (s : State) (g t : Nat) : State :=
  let l := s.demLen g
  s.modAc g (fun a => { a with
    dStart := t, dEnd := if l = 0 then 0 else (t / l + 1) * l, dImp := mwh (nth 0 a.e 0), dExp := mwh (nth 0 a.e 1)
    dTariff := s.get Fld.TOL_TSTAT_TARIFF, dElapsed := 0, dFlags := if s.tState = 2 then 0 else 4 })

/-- kW of an energy over a duration, uQ24.8. -/
def demandCode (mw : Nat) (sec : Rat) : Nat := if sec = 0 then 0 else (codeFree ((mw : Rat) * 3600 / 1000000 / sec) 8 0 (2 ^ 32 - 1)).toNat

/-- The greater of a maximum-demand register and a new demand, with its time. -/
def mdTake (md mdt : List Nat) (v kw t : Nat) : List Nat × List Nat :=
  if nth 0 md v < kw then (updAt md v (fun _ => kw), updAt mdt v (fun _ => t)) else (md, mdt)

/-- The interval of point g closes at t with further flags: 1 SHORT, 8 OUTAGE, 16 UNRESOLVED (R417, R418). -/
def State.closeDemand (s : State) (g t flags : Nat) : State :=
  let a := s.acPt g
  let sec : Rat := max (s.demLen g : Rat) a.dElapsed
  let kI := demandCode (mwh (nth 0 a.e 0) - a.dImp) sec
  let kE := demandCode (mwh (nth 0 a.e 1) - a.dExp) sec
  let fl := a.dFlags ||| flags
  let s := ((s.put (Fld.TOL_AC_DEM_VALUE g 0) kI).put (Fld.TOL_AC_DEM_VALUE g 1) kE).put (Fld.TOL_AC_DEM_VALUE g 2)
    (a.dTariff * 256 + fl)
  let s := s.putB Fld.TOL_TEVT_DEMAND true
  if fl.testBit 4 then s
  else
    let (m, d) := mdTake a.md a.mdt a.dTariff kI t
    let (m, d) := mdTake m d 8 kI t
    let (m, d) := mdTake m d 9 kE t
    s.modAc g (fun a => { a with md := m, mdt := d })

/-- Demand closes due at t, each reopened at t; the tariff of the new interval is set after the switch (R426 order 1). -/
def State.demandAt (s : State) (t flags : Nat) : State :=
  forEach (List.range 4) s (fun s g =>
    if s.demOn g && decide ((s.acPt g).dEnd ≤ t) then (s.closeDemand g t flags).openDemand g t else s)

/-- R419: the billing close at t. -/
def State.billClose (s : State) (t : Nat) : State :=
  let on := (List.range 4).filter s.acOn
  let s := forEach on s (fun s g => s.modAc g (fun a => { a with
    pmd := a.md, pmdt := a.mdt, md := List.replicate 10 0, mdt := List.replicate 10 0 }))
  (s.logAt t 0x010E 0xFF (toLE 1 (on.foldl (fun m g => m + 2 ^ g) 0))).putB Fld.TOL_TEVT_BILLCLOSE true

/-! ### Saves as snapshots (R444, R447) -/

/-- A save record of the present registers. -/
def State.snapSave (s : State) (kind btime : Nat) : SaveRec :=
  { bad := false, seq := 0, kind := kind, time := s.tol.bill, eb := s.ebMs, hwm := s.tol.hwm
    tariff := s.get Fld.TOL_TSTAT_TARIFF, state := s.tState, btime := btime
    dc := (List.range 8).map (fun p =>
      let d := s.dcPt p
      { imp := mwh d.imp, exp := mwh d.exp, loss := mwh d.loss, tImp := d.tImp.map mwh, tExp := d.tExp.map mwh
        pLast := toS 32 (s.get (Fld.CSN_DC_MEAS_VALUE p 2)) })
    ac := (List.range 4).map (fun g =>
      let a := s.acPt g
      { e := a.e.map mwh, tImp := a.tImp.map mwh, tExp := a.tExp.map mwh, md := a.md, mdt := a.mdt, pmd := a.pmd, pmdt := a.pmdt
        dImp := a.dImp, dExp := a.dExp, dStart := a.dStart }) }

/-- A foreign or damaged Toll Book takes no save (R441, R457). -/
def State.noSave (s : State) : Bool := s.bit Fld.TOL_BOOK_FOREIGN || s.bit Fld.TOL_BOOK_DAMAGED

/-- A save is begun, or waits for the one being written. -/
def State.beginSave (s : State) (kind btime : Nat) : State :=
  if s.noSave then s
  else match s.tol.saving with
  | none => (s.putB Fld.TOL_SAVE_BUSY true).modTol (fun t => { t with saving := some (s.snapSave kind btime) })
  | some _ => s.modTol (fun t => { t with saveDue := t.saveDue ++ [(kind, btime)] })

/-! ### Activation (R413) -/

/-- ACT_TIME of a calendar, and CAL_ID with CRC as a log entry's data. -/
def calAct (c : List Byte) : Nat := leAt c 0x10 8
def calMark (c : List Byte) : List Byte := toLE 4 (leAt c 8 4) ++ toLE 4 (leAt c 0x7FC 4)

/-- R413: the pending calendar becomes active at t when the state is VALID and billing time is not below HWM. -/
def State.activate (s : State) (t : Nat) : State :=
  let c := s.tol.book.calP
  if c == [] || s.vehicle || s.tState != 2 || s.tol.belowHwm || decide (t < calAct c) then s
  else
    let s := (s.modBook (fun b => { b with calA := c, calP := [] })).modTol (fun t => { t with calBad := false })
    (((s.logAt t 0x010C 0xFF (calMark c)).flagOpen 10).putB Fld.TOL_TEVT_CAL_ACT true).setTariff t

/-! ### Boundaries (R426, R430) -/

/-- The actions of a boundary at t in order; `flags` for its demand closes. -/
def State.boundaryAt (s : State) (t flags : Nat) (bill : Bool) : State :=
  let s := s.demandAt t flags
  let s := if bill then s.billClose t else s
  let s := (s.setTariff t).activate t
  let s := forEach (List.range 4) s (fun s g => s.modAc g (fun a =>
    if a.dStart = t then { a with dTariff := s.get Fld.TOL_TSTAT_TARIFF } else a))
  let s := match s.tol.bSnap with
    | none => s.modTol (fun x => { x with bSnap := some (s.snapSave 2 t) })
    | some _ => s
  (s.beginSave 2 t).modTol (fun x => { x with lastBoundary := max x.lastBoundary t })

/-- UTC second of local midnight of local day d. -/
def utcOf (c : List Byte) (d : Nat) : Nat :=
  let t := ((d : Int) * 86400 - calOff c).toNat
  if dstOn c (t - 3600) then t - 3600 else t

/-- Billing closes after a and not after b (R419). -/
def billCloses (c : List Byte) (a b : Nat) : List Nat :=
  let bd := leAt c 0x1C 1
  if c == [] || bd == 0 then []
  else
    let d0 := localOf c a / 86400
    ((List.range (localOf c b / 86400 + 2 - d0)).map (fun i => d0 + i)).filterMap (fun d =>
      let t := utcOf c d
      if (civil d).2.2 = bd ∧ a < t ∧ t ≤ b then some t else none)

/-- A number put into a rising list. -/
def insUp (t : Nat) : List Nat → List Nat
  | [] => [t]
  | x :: r => if t < x then t :: x :: r else if t = x then x :: r else x :: insUp t r

/-- Tariff switches of a calendar after a and not after b, at whole minutes (R407, R408). -/
def switches (c : List Byte) (a b : Nat) : List Nat :=
  let m := a / 60 + 1
  ((List.range (b / 60 + 1 - m)).map (fun i => 60 * (m + i))).filter (fun t => calTariff c t != calTariff c (t - 60))

/-- Boundaries after `a` and not after `b`: demand ends, billing closes, activation, tariff switches; b where the tariff in force is another
one for it. -/
def State.boundaries (s : State) (a b : Nat) : List Nat :=
  let c := s.tol.book.calA
  let dem := ((List.range 4).filter s.demOn).map (fun g => (s.acPt g).dEnd)
  let act := if s.tol.book.calP != [] && s.tState == 2 then [calAct s.tol.book.calP] else []
  let sw := (if s.tState = 2 ∧ !s.tol.calBad ∧ c ≠ [] then switches c a b else []) ++
    (if s.tariffAt b ≠ s.get Fld.TOL_TSTAT_TARIFF then [b] else [])
  (dem ++ billCloses c a b ++ act ++ sw).foldl (fun l t => if a < t ∧ t ≤ b then insUp t l else l) []

/-- Every boundary after the last processed one and not after t, in time order (R426, R430). -/
def State.catchUp (s : State) (t flags : Nat) : State :=
  let a := s.tol.lastBoundary
  let c := s.tol.book.calA
  let bills := billCloses c a t
  forEach (s.boundaries a t) s (fun s x => s.boundaryAt x flags (bills.contains x))

/-- R413: a pending calendar whose time had come while the state was not VALID or billing time not above HWM activates now, which is a
boundary of its own. -/
def State.activateLate (s : State) : State :=
  let c := s.tol.book.calP
  if c == [] || s.vehicle || s.tState != 2 || s.tol.belowHwm || decide (s.billSec < calAct c) then s else s.boundaryAt s.billSec 0 false

/-- R426: billing time has reached a boundary. While it lies below HWM none is processed (R432). -/
def execBoundary (s : State) : Out :=
  .next (if s.vehicle || !s.tol.run || s.tol.belowHwm then s else s.catchUp (s.billSec / 60 * 60) 0)

/-! ### Below HWM (R432, R433) -/

/-- The relation of billing time to HWM is brought up to date. -/
def State.checkHwm (s : State) : State :=
  let below := decide (s.tol.bill < s.tol.hwm)
  if below = s.tol.belowHwm then s
  else
    let s := (s.modTol (fun t => { t with belowHwm := below })).putB Fld.TOL_TSTAT_BELOW_HWM below
    let s := s.log 0x010A 0xFF (toLE 1 (if below then 0 else 1))
    if below then
      forEach (List.range 4) ((s.putB Fld.TOL_TEVT_BELOW_HWM true).flagOpen 11) (fun s g =>
        s.modAc g (fun a => { a with dFlags := a.dFlags ||| 2 }))
    else s

/-- R432: billing time passes HWM, and processing resumes with the boundaries above it. -/
def execHwmPassed (s : State) : Out :=
  .next (if s.tol.belowHwm && decide (s.tol.hwm < s.tol.bill) then
      let s := s.checkHwm
      if s.vehicle then s
      else ((s.modTol (fun t => { t with lastBoundary := max t.lastBoundary t.hwm.floor.toNat })).setTariff s.billSec).activateLate
    else s)

/-! ### Corrections (R401 to R405) -/

/-- Sum of |Δ| of the adjustments of the preceding 86,400 s. -/
def State.adjSum (s : State) : Rat :=
  s.tol.adjust.foldl (fun x a => if s.tol.bill - 86400 ≤ a.1 then x + a.2 else x) 0

/-- R404, R431: billing time steps to `t`. -/
def State.setTime (s : State) (t : Nat) (acc : Nat) : State :=
  let old := s.tol.bill
  let hwm := s.tol.hwm
  let s := s.modTol (fun x => { x with bill := (t : Rat), eb := some (acc : Rat) })
  let s := (s.log 0x0109 0xFF (toLE 6 old.floor.toNat ++ toLE 6 hwm.floor.toNat)).flagOpen 2
  let s := (s.putB Fld.TOL_TEVT_SET true).inc Fld.TOL_TADJ_SETS
  let s := s.checkHwm.updateState
  if s.vehicle || s.tol.belowHwm || decide ((t : Rat) ≤ old) then s
  else
    let s := forEach (List.range 4) s (fun s g => if s.demOn g then s.closeDemand g old.floor.toNat 1 else s)
    let s := (s.activate t).setTariff t
    let s := forEach (List.range 4) s (fun s g => if s.demOn g then s.openDemand g t else s)
    (s.beginSave 2 t).modTol (fun x => { x with
      lastBoundary := max x.lastBoundary (t / 60 * 60), bSnap := match x.bSnap with | none => some (s.snapSave 2 t) | b => b })

/-- TOL_TSETC (R401 to R405). -/
def State.wrTsetc (s : State) (v : Nat) : State :=
  let s := (s.putB Fld.TOL_TSETC_MODE (v.testBit 27)).put Fld.TOL_TSETC_ACC v
  if !v.testBit 31 then s
  else if s.bit Fld.TOL_TSTAT_SLEW || s.bit Fld.TOL_TSETC_BUSY then s.put Fld.TOL_TSETC_RESULT 3
  else
    let t : Nat := s.get Fld.TOL_TSETLO_SEC + 2 ^ 32 * s.get Fld.TOL_TSETHI_SEC
    let d := (t : Rat) - s.tol.bill
    let acc := s.get Fld.TOL_TSETC_ACC
    if s.tState ≠ 0 ∧ absR d + s.adjSum ≤ 90 then
      ((s.put Fld.TOL_TSETC_RESULT 1).putB Fld.TOL_TSTAT_SLEW true).modTol (fun x => { x with
        slew := d, eb := some (acc : Rat)
        adjust := (x.bill, absR d) :: x.adjust.filter (fun a => decide (x.bill - 86400 ≤ a.1)) })
        |>.updateState.activateLate
    else if s.bit Fld.TOL_TSETC_MODE then s.put Fld.TOL_TSETC_RESULT 3
    else (s.put Fld.TOL_TSETC_RESULT 2).setTime t acc

/-- R403: the slew of an adjustment is complete. -/
def execSlewComplete (s : State) : Out :=
  .next (if s.bit Fld.TOL_TSTAT_SLEW && s.tol.slew == 0 then
      (s.putB Fld.TOL_TSTAT_SLEW false).putB Fld.TOL_TEVT_ADJUST true
    else s)

/-- R398, R399: EB has crossed a threshold. -/
def execBillingStateChange (s : State) : Out := .next (if s.tol.run then s.updateState.activateLate else s)

/-! ### Calendars (R410 to R412) -/

/-- The bytes of the calendar buffer. -/
def State.calBuf (s : State) : List Byte := (List.range 512).flatMap (fun w => toLE 4 (s.get (Fld.TOL_CALBUF_WORD w)))

/-- TOL_CALCTL written by m (R411, R412). -/
def State.wrCalctl (s : State) (m : Master) (v : Nat) : State :=
  let s := if v.testBit 2 then s.putB Fld.TOL_CALCTL_DONE false else s
  let s := if v.testBit 3 then s.putB Fld.TOL_CALCTL_REFUSED false else s
  if !v.testBit 0 && !v.testBit 1 then s
  else if v / 65536 % 65536 ≠ 0x7A2C then s.violate m Reg.TOL_CALCTL
  else
    let s := if v.testBit 1 && s.tol.book.calP != [] then
        (s.log 0x010B 0xFF (calMark s.tol.book.calP ++ toLE 1 2)).modBook (fun b => { b with calP := [] })
      else s
    if v.testBit 0 then s.putB Fld.TOL_CALCTL_BUSY true else s

/-- Least whole number not below a rational. -/
def ceilNat (x : Rat) : Nat := (-((-x).floor)).toNat

/-- R409, R411, R412: the check of the buffer ends. -/
def execCalendarCheckDone (s : State) : Out :=
  .next (if !s.bit Fld.TOL_CALCTL_BUSY then s
    else
      let c := s.calBuf
      let floor := if s.tState = 0 then ceilNat s.tol.hwm else ceilNat (max s.tol.bill s.tol.hwm)
      let r := calReason c true floor
      let s := ((s.putB Fld.TOL_CALCTL_BUSY false).put Fld.TOL_CALCTL_REASON r).putB Fld.TOL_TEVT_CAL_LOAD true
      if r ≠ 0 then s.putB Fld.TOL_CALCTL_REFUSED true
      else
        let again := s.tol.book.calP != []
        let s := (s.putB Fld.TOL_CALCTL_DONE true).modBook (fun b => { b with calP := c })
        s.log 0x010B 0xFF (calMark c ++ toLE 1 (if again then 1 else 0)))

/-- Registers of this chapter that are views of the state. -/
def State.viewTime (s : State) (a : Nat) : Option Nat :=
  let c := s.tol.book.calA
  if a = Reg.TOL_TSTAT then
    let l := localOf c s.billSec
    let (_, m, d) := civil (l / 86400)
    some (fieldSet (fieldSet (fieldSet (fieldSet (s.reg a) 10 4 (if c == [] then 0 else profileOf c (l / 86400))) 8 2
      (if c == [] then 0 else seasonOf c m d)) 5 3 (weekday (l / 86400))) 4 1 (if c != [] && dstOn c s.billSec then 1 else 0))
  else if a = Reg.TOL_EB then some s.ebMs
  else if a = Reg.TOL_TADJ then some (fieldSet (s.reg a) 0 16 (clampI (roundFree (s.adjSum * 100)) 0 65535).toNat)
  else if 0x400A0044 ≤ a ∧ a < 0x400A005C then
    let p := s.tol.book.calP
    some (match (a - 0x400A0044) / 4 with
      | 0 => leAt c 8 4 | 1 => leAt c 0x7FC 4 | 2 => leAt p 8 4 | 3 => leAt p 0x7FC 4
      | 4 => leAt p 0x10 4 | _ => leAt p 0x14 4)
  else if 0x400A3800 ≤ a ∧ a < 0x400A4000 then some (leAt c (a - 0x400A3800) 4)
  else if 0x400A4000 ≤ a ∧ a < 0x400A4800 then some (leAt s.tol.book.calP (a - 0x400A4000) 4)
  else if 0x400A1C10 ≤ a ∧ a < 0x400A2000 ∧ 0x10 ≤ (a - 0x400A1C00) % 0x100 ∧ (a - 0x400A1C00) % 0x100 < 0xC0 then
    let x := s.acPt ((a - 0x400A1C00) / 0x100)
    let o := (a - 0x400A1C10) % 0x100
    let i := o % 0x60 / 8
    if 10 ≤ i then none
    else some (match o / 0x60, a % 8 with
      | 0, 0 => nth 0 x.md i | 0, _ => nth 0 x.mdt i % 2 ^ 32 | _, 0 => nth 0 x.pmd i | _, _ => nth 0 x.pmdt i % 2 ^ 32)
  else none

/-- A read of TOL_TIMELO latches the rest of billing time; TOL_TIMEHI and TOL_TIMESUB read as latched (R434). -/
def State.readTimeLo (s : State) : Nat × State :=
  let f := s.tol.bill.floor
  (s.billSec % 2 ^ 32, s.modTol (fun t => { t with
    latchTime := (s.billSec / 2 ^ 32, ((t.bill - f) * 65536).floor.toNat) }))

/-- A read of TOL_HWMLO latches TOL_HWMHI. -/
def State.readHwmLo (s : State) : Nat × State :=
  let h := s.tol.hwm.floor.toNat
  (h % 2 ^ 32, s.modTol (fun t => { t with latchHwm := h / 2 ^ 32 }))

end Sys2Proof.Machine
end

