-- ==== Sys2Proof/Machine/Book.lean ====
section
/-! DEFINITION. The Toll Book: sessions, records, saves, archives (spec/09 from R422, spec/10). -/

namespace Sys2Proof.Machine

/-! ### Links of the sessions (R535 to R540) -/

def State.vl (s : State) (n : Nat) : VLink := nth {} s.vlk n
def State.modVl (s : State) (n : Nat) (f : VLink → VLink) : State := { s with vlk := updAt s.vlk n f }

/-- Bytes of `n` bytes, most significant first. -/
def toBE (n v : Nat) : List Byte := (toLE n v).reverse

/-- A V2GTP message of a payload type (R535). -/
def v2gtp (ty : Nat) (p : List Byte) : List Byte := [0x01, 0xFE] ++ toBE 2 ty ++ toBE 4 p.length ++ p

/-- Link n sends an FMX message of KIND k. -/
def State.sendFmx (s : State) (n k : Nat) (body : List Byte) : State :=
  s.modVl n (fun l => { l with sent := (0xA6F1, v2gtp 0xA6F1 ([BitVec.ofNat 8 k, 1, 0, 0] ++ body)) })

/-- Reconciliation runs on the link of DC point p (R537). -/
def State.reconLink (s : State) (p : Nat) : Option Nat :=
  match s.outletLink p with
  | some n => if s.vlUse n = 1 ∧ s.bit (Fld.VLK_L_SESS_PEER_FM n) ∧ s.bit (Fld.VLK_L_CTRL_RECON n) ∧
      (s.vl n).peerCaps.testBit 0 then some n else none
  | none => none

/-- The SECC sends COUNT_REQ with a PHASE. -/
def State.countReq (s : State) (n p ph : Nat) : State :=
  (s.sendFmx n 3 (toLE 4 (s.sess p).id ++ toLE 1 ph ++ [0, 0, 0])).modVl n (fun l => { l with asks := l.asks ++ [ph] })

/-- Vehicle count w of link n, 64 bits in VCNT words 2w and 2w + 1. -/
def State.vcnt (s : State) (n w : Nat) : Nat :=
  s.get (Fld.VLK_L_VCNT_WORD n (2 * w)) + 2 ^ 32 * s.get (Fld.VLK_L_VCNT_WORD n (2 * w + 1))
def State.putVcnt (s : State) (n w v : Nat) : State :=
  (s.put (Fld.VLK_L_VCNT_WORD n (2 * w)) (v % 2 ^ 32)).put (Fld.VLK_L_VCNT_WORD n (2 * w + 1)) (v / 2 ^ 32)

/-! ### Session registers (R422) -/

/-- The 256 bytes of a session register. -/
def sessBytes (x : Sess) : List Byte :=
  let b := toLE 4 x.id ++ x.ext.flatMap (toLE 4) ++ toLE 4 x.flags ++ toLE 8 x.startT ++ toLE 8 x.endT ++
    toLE 8 x.startImp ++ toLE 8 x.startExp ++ toLE 8 x.imp ++ toLE 8 x.exp ++ toLE 8 x.loss ++
    x.tImp.flatMap (fun e => toLE 8 (mwh e)) ++ x.tExp.flatMap (fun e => toLE 8 (mwh e)) ++
    toLE 4 x.calId ++ toLE 4 x.emitted ++ toLE 8 x.lastRec ++ List.replicate 28 0
  b ++ toLE 4 (crc32 b)

/-- The session area takes the register of point p (R436). -/
def State.storeSess (s : State) (p : Nat) : State :=
  let x := s.sess p
  if s.noSave then s else s.modBook (fun b => { b with sessNv := updAt b.sessNv p (fun _ => x) })

def sessOpen (x : Sess) : Bool := x.flags.testBit 0
/-- Closed, and its end record not acknowledged. -/
def sessClosing (x : Sess) : Bool := !x.flags.testBit 0 && x.id != 0 && !x.flags.testBit 12

/-- A header field changes. -/
def State.modHdr (s : State) (f : BookHdr → BookHdr) : State := (s.modBook (fun b => { b with hdr := b.hdr.map f })).syncBook
def State.bookHdr (s : State) : BookHdr := s.tol.book.hdr.getD {}

/-! ### Records (R463 to R465, R539, R540) -/

def tlv (t : Nat) (v : List Byte) : List Byte := toLE 2 t ++ toLE 2 v.length ++ v

/-- Bytes whose value the spec does not give. -/
def State.freeBytes (s : State) (n : Nat) : List Byte × State :=
  let (x, s) := s.fresh (8 * n)
  (toLE n x, s)

/-- Item of a signed 64-bit number. -/
def s64 (i : Int) : List Byte := toLE 8 (ofS 64 i)

/-- Head items 0x0001 to 0x0005. -/
def State.recHead (s : State) : List Byte :=
  let h := s.bookHdr
  let f := s.tol.bill.floor
  tlv 1 h.meterId ++ tlv 2 s.load.swid ++ tlv 3 (toLE 1 s.role) ++
  tlv 4 (toLE 8 s.billSec ++ toLE 2 ((s.tol.bill - f) * 65536).floor.toNat) ++ tlv 5 (toLE 1 s.tState ++ toLE 4 s.ebMs)

/-- Link items of a record of point p; `reply` says that the vehicle's counts for it came (R539, R540). The state after it has the
mismatch event. -/
def State.linkItems (s : State) (p : Nat) (reply : Bool) : List Byte × State :=
  match s.outletLink p with
  | none => ([], s)
  | some n =>
    let proto := s.get (Fld.VLK_L_SESS_PROTO n)
    if proto = 0 then ([], s)
    else
      let x := s.sess p
      let l := s.vl n
      let rec_ := (s.reconLink p).isSome
      let dI := (x.imp : Int) - ((s.vcnt n 2 : Int) - s.vcnt n 0)
      let dE := (x.exp : Int) - ((s.vcnt n 3 : Int) - s.vcnt n 1)
      let off := 0x400 * n
      let tol (e : Nat) : Rat := max ((s.cfg 0x0C (off + 0x10) 2 : Rat) * e / 10000) ((s.cfg 0x0C (off + 0x12) 2 : Rat) * 1000)
      let known := rec_ && reply && l.startOk
      let mis := known && (decide (tol x.imp < (dI.natAbs : Rat)) || decide (tol x.exp < (dE.natAbs : Rat)))
      let b (c : Bool) (v : Nat) : Nat := if c then v else 0
      let rstat := b (rec_ && l.startOk) 1 + b (rec_ && reply) 2 + b mis 4 + b (!s.bit (Fld.CSN_DC_CFG_COMP p)) 8 +
        b (rec_ && !reply) 16 + b (rec_ && reply && l.vGap) 32 + b (s.bit (Fld.VLK_L_SESS_BPT n)) 64
      let s := if mis then (s.putB (Fld.VLK_L_EVT_RECON n) true).report 0x2B clsD n (2 ^ p) 0 else s
      let (f3, s) := if known then (s64 dI, s) else s.freeBytes 8
      let (f4, s) := if known then (s64 dE, s) else s.freeBytes 8
      let (f5, s) := if rec_ && l.startOk then (toLE 8 (s.vcnt n 0) ++ toLE 8 (s.vcnt n 1), s) else s.freeBytes 16
      let (f6, s) := if rec_ && reply then (toLE 8 (s.vcnt n 2) ++ toLE 8 (s.vcnt n 3), s) else s.freeBytes 16
      (tlv 0x40 (toLE 1 proto) ++ (if rec_ then tlv 0x41 l.peerId else []) ++ tlv 0x42 (toLE 4 rstat) ++ tlv 0x43 f3 ++
        tlv 0x44 f4 ++ tlv 0x45 f5 ++ tlv 0x46 f6, s)

/-- Head of 16 bytes and items. -/
def recBody (typ seq : Nat) (items : List Byte) : List Byte :=
  [0x54, 0x52, 0x45, 0x43] ++ toLE 2 1 ++ toLE 1 typ ++ [0] ++ toLE 4 (16 + items.length) ++ toLE 4 seq ++ items

/-- A record goes to Pylon over the one-way path (R465). -/
def State.toPylon (s : State) (r : TollRec) : State := s.modTol (fun t => { t with toSign := t.toSign ++ [r] })

/-- Session items 0x0010 to 0x001D. -/
def State.sessItems (s : State) (p typ : Nat) : List Byte :=
  let x := s.sess p
  let d := s.dcPt p
  tlv 0x10 (toLE 4 x.id) ++ tlv 0x11 (x.ext.flatMap (toLE 4)) ++ tlv 0x12 (toLE 1 p) ++ tlv 0x13 (toLE 8 x.startT) ++
  tlv 0x14 (toLE 8 (if typ = 2 then 0 else x.endT)) ++ tlv 0x15 (toLE 8 x.startImp ++ toLE 8 x.startExp) ++
  tlv 0x16 (toLE 8 (mwh d.imp) ++ toLE 8 (mwh d.exp)) ++ tlv 0x17 (toLE 8 x.imp ++ toLE 8 x.exp ++ toLE 8 x.loss) ++
  tlv 0x18 (x.tImp.flatMap (fun e => toLE 8 (mwh e))) ++ tlv 0x19 (x.tExp.flatMap (fun e => toLE 8 (mwh e))) ++
  tlv 0x1A (toLE 4 x.flags) ++ tlv 0x1B (toLE 4 x.calId) ++ tlv 0x1C (toLE 1 (if s.bit (Fld.CSN_DC_CFG_COMP p) then 1 else 0)) ++
  (if x.credit = 0 then [] else tlv 0x1D (toLE 8 x.credit))

/-- The record of TYPE typ of point p is formed (R464). -/
def State.formRecord (s : State) (p typ : Nat) (reply : Bool) : State :=
  let seq := (s.bookHdr.recSeq + 1) % 2 ^ 32
  let s := s.modHdr (fun h => { h with recSeq := seq })
  let (links, s) := s.linkItems p reply
  let body := recBody typ seq (s.recHead ++ s.sessItems p typ ++ links)
  let s := s.modSess p (fun x => { x with emitted := x.emitted + 1, lastRec := s.billSec
                                          endSeq := if typ = 1 then seq else x.endSeq, endRec := if typ = 1 then body else x.endRec })
  let s := if typ = 1 then s.storeSess p else s.putB (Fld.TOL_SESS_CTRL_RECORD p) false
  s.toPylon { typ := typ, seq := seq, point := p, body := body }

/-- A record is due: the vehicle is asked first where reconciliation runs (R537, R538). -/
def State.dueRecord (s : State) (p typ : Nat) : State :=
  match s.reconLink p with
  | some n => s.countReq n p (if typ = 1 then 2 else 1)
  | none => s.formRecord p typ false

/-! ### Sessions (R423, R425) -/

/-- R423: START. -/
def State.startSess (s : State) (p : Nat) : State :=
  let s := s.putB Fld.TOL_TEVT_SESSION true
  if !s.dcOn p || s.get (Fld.TOL_SESS_CTRL_STATE p) != 0 || s.tol.book.hdr.isNone then s.putB (Fld.TOL_SESS_CTRL_REFUSED p) true
  else
    let id := (s.bookHdr.sessSeq + 1) % 2 ^ 32
    let s := s.modHdr (fun h => { h with sessSeq := id })
    let d := s.dcPt p
    let c := s.tol.book.calA
    let fl := 1 + (if s.tState ≠ 2 ∨ s.tol.calBad then 2 else 0) + (if s.bit (Fld.CSN_DC_STAT_TSUB p) then 32 else 0) +
      (if s.tol.belowHwm then 2048 else 0)
    let s := s.modSess p (fun _ => {
      id := id, ext := (List.range 4).map (fun w => s.get (Fld.TOL_SESS_EXT_ID p w)), flags := fl, startT := s.billSec
      startImp := mwh d.imp, startExp := mwh d.exp, startLoss := mwh d.loss, calId := leAt c 8 4 })
    let s := (s.put (Fld.TOL_SESS_CTRL_STATE p) 1).storeSess p
    match s.reconLink p with
    | some n => (s.modVl n (fun l => { l with startOk := false, nowOk := false, vGap := false })).countReq n p 0
    | none => s

/-- TOL_SESSp_CTRL (R423). -/
def State.wrSess (s : State) (p v : Nat) : State :=
  if s.vehicle then s
  else
    let s := if v.testBit 3 then s.putB (Fld.TOL_SESS_CTRL_REFUSED p) false else s
    let s := if v.testBit 0 then s.startSess p else s
    let open_ := sessOpen (s.sess p)
    let s := if v.testBit 2 && open_ then (s.putB (Fld.TOL_SESS_CTRL_RECORD p) true).dueRecord p 2 else s
    if v.testBit 1 && open_ then ((s.putB (Fld.TOL_SESS_CTRL_STOP p) true).put (Fld.TOL_SESS_CTRL_STATE p) 2).storeSess p else s

/-- The session of point p closes at a time, with further flags. -/
def State.endSess (s : State) (p t flags : Nat) : State :=
  let s := s.modSess p (fun x => { x with flags := mset x.flags 0 false ||| flags, endT := t })
  let s := ((s.put (Fld.TOL_SESS_CTRL_STATE p) 2).putB (Fld.TOL_SESS_CTRL_STOP p) false).putB Fld.TOL_TEVT_SESSION true
  s.storeSess p

/-- R423: at the next result instant the session closes and its end record is formed. -/
def execSessionClose (p : Fin 8) (s : State) : Out :=
  .next (if s.bit (Fld.TOL_SESS_CTRL_STOP p) && sessOpen (s.sess p) then (s.endSess p s.billSec 0).dueRecord p 1 else s)

/-- REC_S of the parameter block (R442). -/
def State.recS (s : State) : Nat := s.body 8 2

/-- R464: REC_S has passed for an open session. -/
def execIntermediateRecordTimer (p : Fin 8) (s : State) : Out :=
  .next (if s.tol.run && !s.vehicle && s.recS != 0 && sessOpen (s.sess p) then s.dueRecord p 2 else s)

/-! ### The record buffer (R465 to R467) -/

/-- TOL_RECSTAT.FILL and TOL_RECSEQ. -/
def State.syncBuf (s : State) : State :=
  (s.put Fld.TOL_RECSTAT_FILL s.tol.buf.length).put Fld.TOL_RECSEQ_SEQ ((s.tol.buf.head?.map TollRec.seq).getD 0)

/-- R466: the oldest signed record enters the buffer, waits, or is skipped. -/
def execRecordBufferEntry (s : State) : Out :=
  .next (match s.tol.signed with
    | [] => s
    | r :: rest =>
      if s.tol.buf.length < 4 then (s.modTol (fun t => { t with signed := rest, buf := t.buf ++ [r] })).syncBuf
      else if r.typ = 2 then (s.modTol (fun t => { t with signed := rest })).inc Fld.TOL_RECSTAT_SKIPPED
      else s)

/-- TOL_RECCTL (R466, R467). -/
def State.wrRecctl (s : State) (v : Nat) : State :=
  match v.testBit 0, s.tol.buf with
  | true, r :: rest =>
    let s := (s.modTol (fun t => { t with buf := rest })).syncBuf
    let x := s.sess r.point
    if r.typ = 1 ∧ x.endSeq = r.seq ∧ sessClosing x then
      ((s.modSess r.point (fun x => { x with flags := mset x.flags 12 true })).put (Fld.TOL_SESS_CTRL_STATE r.point) 0).storeSess
        r.point
    else s
  | _, _ => s

/-! ### Saves (R444 to R450) -/

/-- Points enabled now. -/
def State.nDc (s : State) : Nat := ((List.range 8).filter s.dcOn).length
def State.nAc (s : State) : Nat := ((List.range 4).filter s.acOn).length
/-- R446: slots of a ring for so many points. -/
def ringSlots (dc ac : Nat) : Nat := 6144 / ((64 + 160 * dc + 448 * ac + 16 + 63) / 64 * 64)

/-- R447: a periodic save is due. -/
def execPeriodicSave (s : State) : Out :=
  .next (if s.tol.run && decide ((s.get Fld.TOL_BOOK_SAVE_S : Rat) ≤ s.tol.bill - s.tol.lastSave) then
      match s.tol.saving with | none => s.beginSave 1 0 | some _ => s
    else s)

/-- TOL_SAVE (R447). -/
def State.wrSave (s : State) (v : Nat) : State :=
  if !v.testBit 31 then s
  else if s.noSave || decide (s.tol.bill - s.tol.lastSave ≤ (s.get Fld.TOL_BOOK_SAVE_S : Rat) / 4) && s.tol.book.ring != [] then s
  else (s.putB Fld.TOL_SAVE_GO true).beginSave 3 0

/-- R421, R444 to R448: the record being written is complete with COMMIT. -/
def execSaveComplete (s : State) : Out :=
  .next (match s.tol.saving with
    | none => s
    | some r =>
      let seq := (s.tol.book.ring.head?.map SaveRec.seq).getD 0 + 1
      let s := s.modBook (fun b => { b with ring := ({ r with seq := seq } :: b.ring).take (s.get Fld.TOL_BOOK_SLOTS) })
      let s := forEach (List.range 8) s (fun s p =>
        if s.get (Fld.TOL_SESS_CTRL_STATE p) != 0 then s.storeSess p else s)
      let past := match s.tol.bSnap with
        | some b => (r.kind == 2 && decide (b.btime ≤ r.btime)) || decide (b.time < r.time) | none => false
      let s := (s.putB Fld.TOL_SAVE_BUSY false).modTol (fun t => { t with
        saving := none, lastSave := t.bill, bSnap := if past then none else t.bSnap })
      let s := (if r.kind = 3 then s.putB Fld.TOL_SAVE_GO false else s).syncBook
      match s.tol.saveDue with
      | [] => s
      | (k, t) :: rest => (s.modTol (fun x => { x with saveDue := rest })).beginSave k t)

/-! ### Archives (R461, R462) -/

def State.authBytes (s : State) (o n : Nat) : List Byte :=
  ((List.range 1024).flatMap (fun w => toLE 4 (s.get (Fld.TOL_AUTH_WORD w))) |>.drop o).take n

/-- TOL_ARCCTL written by m (R461). -/
def State.wrArcctl (s : State) (m : Master) (v : Nat) : State :=
  let s := if v.testBit 2 then s.putB Fld.TOL_ARCCTL_DONE false else s
  let s := if v.testBit 3 then s.putB Fld.TOL_ARCCTL_FAIL false else s
  if !v.testBit 0 then s
  else if v / 65536 % 65536 ≠ 0x5E1D then s.violate m Reg.TOL_ARCCTL
  else s.putB Fld.TOL_ARCCTL_BUSY true

/-- Both signatures verify under a presented verifier key slot that is not revoked (R461, R746). -/
def State.verifierOk (s : State) (msg ed ml : List Byte) : Bool :=
  [6, 7].any (fun g => (s.get Fld.PYL_KPRES_PRESENTED).testBit g && !(s.get Fld.PYL_KFUSE_REVOKED).testBit g &&
    edVerify ((nth [] s.pyl.keys g).take 32) msg ed && mlVerify ((nth [] s.pyl.keys g).drop 32) msg ml)

/-- UNER_HASH: over the 128 places as stored. -/
def State.unerHash (s : State) : List Byte :=
  let b := s.tol.book.uner.flatten
  sha3 256 (b ++ List.replicate (4096 - b.length) 0)

/-- R462: the check of the authorisation ends. -/
def execArchiveCheckDone (s : State) : Out :=
  .next (if !s.bit Fld.TOL_ARCCTL_BUSY then s
    else
      let s := s.putB Fld.TOL_ARCCTL_BUSY false
      let a := s.authBytes 0 0x40
      let no := leAt a 0x34 4
      let hash := (a.drop 0x14).take 32
      let ok := a.take 4 == [0x54, 0x41, 0x52, 0x43] &&
        s.verifierOk (sha3 512 a) (s.authBytes 0x40 64) (s.authBytes 0x80 3309)
      let r := if !ok then 1 else if (a.drop 4).take 16 ≠ s.bookHdr.meterId then 2 else if hash ≠ s.unerHash then 3
        else if no ≠ s.bookHdr.archives + 1 then 4 else if s.tol.book.uner == [] then 5 else 0
      let s := s.put Fld.TOL_ARCCTL_REASON r
      if r ≠ 0 then s.putB Fld.TOL_ARCCTL_FAIL true
      else
        let seq := (s.bookHdr.recSeq + 1) % 2 ^ 32
        let s := s.modHdr (fun h => { h with recSeq := seq })
        let items := s.recHead ++ tlv 0x20 hash ++ tlv 0x21 (toLE 4 no) ++ tlv 0x22 ((a.drop 0x38).take 8)
        let s := s.toPylon { typ := 3, seq := seq, point := 0xFF, body := recBody 3 seq items }
        let s := (s.modBook (fun b => { b with uner := [] })).logUner 0x0003 (toLE 4 no ++ hash.take 8)
        let s := s.modHdr (fun h => { h with archives := no })
        (s.putB Fld.TOL_ARCCTL_DONE true).putB Fld.TOL_BEVT_ARCHIVE true)

/-! ### The last gasp (R451 to R454) -/

/-- What the last gasp writes: increments since the latest save, up to the boundary after it and from there on. -/
def State.lastGasp (s : State) (loss : Rat) : LastGasp :=
  let base : SaveRec := (s.tol.book.ring.find? (fun r => !r.bad)).getD {}
  let now := s.snapSave 1 0
  let mid := s.tol.bSnap.getD now
  let sub (a b : Nat) : Nat := (a - b) % 2 ^ 32
  { saveSeq := base.seq, loss := loss, boundary := s.tol.bSnap.isSome
    tariffA := if s.tol.book.ring == [] then s.get Fld.TOL_TSTAT_TARIFF else base.tariff
    tariffB := s.get Fld.TOL_TSTAT_TARIFF, btime := (s.tol.bSnap.map SaveRec.btime).getD 0
    dc := (List.range 8).map (fun p =>
      let b := nth {} base.dc p
      let m := nth {} mid.dc p
      let n := nth {} now.dc p
      [sub m.imp b.imp, sub m.exp b.exp, sub n.imp m.imp, sub n.exp m.exp, sub n.loss b.loss])
    ac := (List.range 4).map (fun g =>
      let b := (nth {} base.ac g).e
      let m := (nth {} mid.ac g).e
      let n := (nth {} now.ac g).e
      [sub (nth 0 m 0) (nth 0 b 0), sub (nth 0 m 1) (nth 0 b 1), sub (nth 0 n 0) (nth 0 m 0), sub (nth 0 n 1) (nth 0 m 1)] ++
        (List.range 14).map (fun i => sub (nth 0 n (i + 2)) (nth 0 b (i + 2))))
    marker := false }

/-- The last gasp begins: a save in progress is abandoned (R453), and nothing is registered any more (R452). -/
def State.beginGasp (s : State) (loss : Rat) : State :=
  if !(s.tol.run || s.pwr.st == .park) || s.noSave then s.modTol (fun t => { t with run := false })
  else
    let g := s.lastGasp loss
    (s.putB Fld.TOL_SAVE_BUSY false).modTol (fun t => { t with saving := none, saveDue := [], lgRun := some g, run := false })

/-- The area is written: energies, and the marker of a boundary. -/
def State.endGasp (s : State) (energies marker : Bool) : State :=
  match s.tol.lgRun with
  | none => s
  | some g => s.modTol (fun t => { t with
      lgRun := none, book := { t.book with lg := if energies then some { g with marker := g.boundary && marker } else none } })

/-! ### Registers that are views (R381, R422, R458, R466) -/

/-- An entry as read: one whose CRC fails reads as CODE 0xFFFF (R458). -/
def entryRead (e : List Byte) : List Byte :=
  if crc32 (e.take 28) = leAt e 28 4 then e else e.take 4 ++ [0xFF, 0xFF] ++ e.drop 6

def State.viewBook (s : State) (a : Nat) : Option Nat :=
  if 0x400A2000 ≤ a ∧ a < 0x400A2800 then
    let x := s.sess ((a - 0x400A2000) / 0x100)
    some (if x.id = 0 then 0 else leAt (sessBytes x) ((a - 0x400A2000) % 0x100) 4)
  else if 0x400A0A20 ≤ a ∧ a < 0x400A0A40 then
    let l := if s.bit Fld.TOL_LOGSEL_CLASS then s.tol.book.roll else s.tol.book.uner
    match l[s.get Fld.TOL_LOGSEL_IDX]? with
    | some e => some (leAt (entryRead e) (a - 0x400A0A20) 4)
    | none => some 0
  else if 0x400A5000 ≤ a ∧ a < 0x400A6000 then
    match s.tol.buf with
    | r :: _ => some (leAt (r.body ++ r.sig) (a - 0x400A5000) 4)
    | [] => some 0
  else none

end Sys2Proof.Machine
end

