-- ==== Sys2Proof/Machine/Can.lean ====
section
/-! DEFINITION. The four CAN FD controllers (spec/14, R573 to R603). -/

namespace Sys2Proof.Machine

def State.bus (s : State) (n : Nat) : Can := nth {} s.can n
def State.modCan (s : State) (n : Nat) (f : Can → Can) : State := { s with can := updAt s.can n f }
def State.canEn (s : State) (n : Nat) : Bool := s.bit (Fld.CBU_B_CTRL_EN n)

/-! ### Message RAM (R579, R602) -/

/-- Word index of word w of transmit buffer b, and of FIFO element e. -/
def bufWord (b w : Nat) : Nat := 20 * b + w
def fifoWord (e w : Nat) : Nat := 640 + 20 * e + w

def State.canW (s : State) (n i : Nat) : Nat := sget 0 (s.bus n).ram i
def State.setCanW (s : State) (n i v : Nat) : State := s.modCan n (fun c => { c with ram := sset 0 c.ram i (v % 2 ^ 32) })

/-- Words from index i. -/
def State.setCanWs (s : State) (n i : Nat) : List Nat → State
  | [] => s
  | v :: t => State.setCanWs (s.setCanW n i v) n (i + 1) t

/-- Identifier of buffer b as it competes; an 11-bit one stands in bits 28 to 18 (R579). -/
def State.bufId (s : State) (n b : Nat) : Nat :=
  let w := s.canW n (bufWord b 0)
  if w.testBit 30 then w % 2 ^ 29 else w % 2 ^ 29 / 2 ^ 18 * 2 ^ 18

/-! ### What is offered (R580, R590, R591) -/

/-- How the controller is timed: a master that met a foreign reference acts as a slave (R593). -/
def State.ttSrc (s : State) (n : Nat) : Nat :=
  let x := s.get (Fld.CBU_B_TTCFG_SRC n)
  if x = 1 ∧ (s.bus n).conf then 3 else x

/-- Cell byte of basic cycle k and column c. -/
def State.canCell (s : State) (n k c : Nat) : Nat := s.get (Fld.CBU_B_CELL_CELL n k (c / 4)) / 2 ^ (8 * (c % 4)) % 256

/-- Some exclusive cell names buffer b. -/
def State.exclusive (s : State) (n b : Nat) : Bool :=
  (List.range 16).any (fun k => (List.range 64).any (fun c =>
    let x := s.canCell n k c
    x / 64 == 1 && x % 32 == b))

/-- The controller may drive frames (R578, R584, R595). -/
def State.canSends (s : State) (n : Nat) : Bool :=
  s.canEn n && s.bit (Fld.CBU_B_STAT_JOINED n) && !s.bit (Fld.CBU_B_CTRL_LOM n) && !s.bit (Fld.CBU_B_STAT_BUS_OFF n)

/-- Buffer b may be sent now. -/
def State.canEligible (s : State) (n b : Nat) : Bool :=
  (s.get (Fld.CBU_B_TXREQ_BUF n)).testBit b &&
  (s.ttSrc n == 0 || ((s.bus n).window == 1 && (s.bus n).cellBuf == b) || ((s.bus n).window == 2 && !s.exclusive n b))

/-- The lowest identifier, the lowest index among equals. -/
def State.lowestId (s : State) (n : Nat) : List Nat → Option Nat
  | [] => none
  | b :: t => match State.lowestId s n t with
    | some x => if s.bufId n x < s.bufId n b then some x else some b
    | none => some b

/-- The buffer that the controller offers (R580). -/
def State.canOffer (s : State) (n : Nat) : Option Nat :=
  if s.canSends n then s.lowestId n ((List.range 32).filter (s.canEligible n)) else none

/-- With no frame in transmission, a reference message that is due starts, else the offered frame (R580, R589). -/
def State.canSelect (s : State) (n : Nat) : State :=
  if (s.bus n).cur.isSome then s
  else if (s.bus n).refDue && s.canSends n then s.modCan n (fun c => { c with cur := some 31, refDue := false })
  else s.modCan n (fun c => { c with cur := s.canOffer n })

/-! ### Error confinement (R596 to R598) -/

/-- Error counters take new values: STAT, and the events of levels reached. -/
def State.setErr (s : State) (n tx rx : Nat) : State :=
  let old := s.bus n
  let warn (a b : Nat) : Bool := decide (96 ≤ a) || decide (96 ≤ b)
  let pas (a b : Nat) : Bool := decide (128 ≤ a) || decide (128 ≤ b)
  let s := s.modCan n (fun c => { c with txErr := tx, rxErr := rx })
  let s := ((s.put (Fld.CBU_B_STAT_TEC n) (min 255 tx)).put (Fld.CBU_B_STAT_REC n) (min 127 rx)).putB (Fld.CBU_B_STAT_RP n) (decide (128 ≤ rx))
  let s := (s.putB (Fld.CBU_B_STAT_WARN n) (warn tx rx)).putB (Fld.CBU_B_STAT_PASSIVE n) (pas tx rx)
  let s := if warn tx rx && !warn old.txErr old.rxErr then s.putB (Fld.CBU_B_EVT_WARN n) true else s
  let s := if pas tx rx && !pas old.txErr old.rxErr then s.putB (Fld.CBU_B_EVT_PASSIVE n) true else s
  if 255 < tx ∧ !s.bit (Fld.CBU_B_STAT_BUS_OFF n) then
    ((s.putB (Fld.CBU_B_STAT_BUS_OFF n) true).putB (Fld.CBU_B_EVT_BOFF n) true).modCan n (fun c =>
      { c with cur := none, window := 0, refDue := false, recovering := !s.bit (Fld.CBU_B_CTRL_BOFF_MAN n) })
  else s

/-- R597, R598: the recovery count has ended. -/
def execCanBusOffRecovered (n : Fin 4) (s : State) : Host.Outcome State Fault Refusal :=
  .next (if s.bit (Fld.CBU_B_STAT_BUS_OFF n) && (s.bus n).recovering then
      let s := (s.putB (Fld.CBU_B_STAT_BUS_OFF n) false).putB (Fld.CBU_B_EVT_BOFF_END n) true
      ((s.modCan n (fun c => { c with recovering := false, resume := true })).setErr n 0 0).canSelect n
    else s)

/-! ### Transmission -/

/-- R578: 11 consecutive recessive bits. -/
def execCanJoin (n : Fin 4) (s : State) : Host.Outcome State Fault Refusal :=
  .next (if s.canEn n then (s.putB (Fld.CBU_B_STAT_JOINED n) true).canSelect n else s)

/-- A write of TXREQ (R580, R589). -/
def State.wrTxreq (s : State) (n v : Nat) : State :=
  let v := if s.get (Fld.CBU_B_TTCFG_SRC n) = 1 then mset v 31 false else v
  (s.writeByCode (Reg.CBU_B_TXREQ n) v).canSelect n

/-- A write of TXCAN (R582): a frame in transmission completes first. -/
def State.wrTxcan (s : State) (n v : Nat) : State :=
  let req := s.get (Fld.CBU_B_TXREQ_BUF n) &&& v
  forEach (mbits req 32) s (fun s b =>
    if (s.bus n).cur = some b then s.putBit (Fld.CBU_B_TXCAN_BUF n) b true
    else s.putBit (Fld.CBU_B_TXREQ_BUF n) b false)

/-- The request of buffer b ends, with its result bit. -/
def State.endTx (s : State) (n b : Nat) (ok : Bool) : State :=
  let s := (s.putBit (Fld.CBU_B_TXREQ_BUF n) b false).putBit (Fld.CBU_B_TXCAN_BUF n) b false
  if ok then s.putBit (Fld.CBU_B_TXDONE_BUF n) b true else s.putBit (Fld.CBU_B_TXFAIL_BUF n) b true

/-- The current frame is the time master's reference message (R589). -/
def State.isRef (s : State) (n b : Nat) : Bool := s.ttSrc n == 1 && b == 31

/-- R582, R583, R591, R596: the frame in transmission ends; `guard`: less than GUARD remains to the next column start. -/
def execCanFrameTxEnd (n : Fin 4) (res : CanEnd) (sof : BitVec 64) (guard : Bool) (s : State) : Host.Outcome State Fault Refusal :=
  .next (match (s.bus n).cur with
    | none => s
    | some b =>
      let rf := s.isRef n b
      let excl := (s.bus n).window = 1
      let s := s.modCan n (fun c => { c with cur := none, window := if excl || guard then 0 else c.window })
      let failed (s : State) : State :=
        if rf then (if s.bit (Fld.CBU_B_CTRL_DAR n) || !s.canSends n then s else s.modCan n (fun c => { c with cur := some b }))
        else if (s.get (Fld.CBU_B_TXCAN_BUF n)).testBit b then s.endTx n b false
        else if excl then s.putB (Fld.CBU_B_EVT_TT_MISS n) true
        else if s.bit (Fld.CBU_B_CTRL_DAR n) then s.endTx n b false
        else s
      let s := match res with
        | .sent =>
          let s := if rf then s else
            ((s.setCanW n (bufWord b 2) sof.toNat).setCanW n (bufWord b 3) (sof.toNat / 2 ^ 32)).endTx n b true
          s.setErr n ((s.bus n).txErr - 1) (s.bus n).rxErr
        | .lost => failed s
        | .error lec up => failed ((s.put (Fld.CBU_B_STAT_LEC n) lec).setErr n ((s.bus n).txErr + up) (s.bus n).rxErr)
      if (s.bus n).closing then
        (s.modCan n (fun c => { c with closing := false, cur := none })).putB (Fld.CBU_B_STAT_JOINED n) false
      else s.canSelect n)

/-! ### Reception (R585 to R587) -/

/-- The first matching filter (R585). -/
def State.canFilter (s : State) (n : Nat) (f : CanFrame) : Option Nat :=
  (List.range 64).find? (fun i =>
    let m := s.get (Fld.CBU_B_FLT_MASK_MASK n i)
    s.bit (Fld.CBU_B_FLT_ID_EN n i) && s.bit (Fld.CBU_B_FLT_ID_XTD n i) == f.xtd &&
    (f.id.toNat &&& m) == (s.get (Fld.CBU_B_FLT_ID_FID n i) &&& m))

/-- Words of an element (R579). -/
def frameWords (f : CanFrame) (filter sof : Nat) : List Nat :=
  let b (c : Bool) (k : Nat) : Nat := if c then 2 ^ k else 0
  let d := (f.data ++ List.replicate 64 0).take 64
  [b f.esi 31 + b f.xtd 30 + b f.rtr 29 + f.id.toNat, filter * 2 ^ 24 + b f.fdf 21 + b f.brs 20 + f.dlc.val * 2 ^ 16,
   sof % 2 ^ 32, sof / 2 ^ 32] ++ (List.range 16).map (fun w => leAt d (4 * w) 4)

/-- R585, R586, R596: a frame arrives with its start of frame, or (none) an error is met in reception. -/
def execCanFrameRx (n : Fin 4) (frame : Option CanFrame) (sof : BitVec 64) (lec : Fin 8) (up : Fin 9) (s : State) :
    Host.Outcome State Fault Refusal :=
  .next (if !s.canEn n || !s.bit (Fld.CBU_B_STAT_JOINED n) || s.bit (Fld.CBU_B_STAT_BUS_OFF n) then s
    else
      let lom := s.bit (Fld.CBU_B_CTRL_LOM n)
      match frame with
      | none =>
        let s := s.put (Fld.CBU_B_STAT_LEC n) lec
        if lom then s else s.setErr n (s.bus n).txErr ((s.bus n).rxErr + up)
      | some f =>
        let s := if lom then s else s.setErr n (s.bus n).txErr (min 127 (s.bus n).rxErr - 1)
        let i := s.canFilter n f
        let reject := match i with
          | some k => s.bit (Fld.CBU_B_FLT_ID_ACTION n k)
          | none => s.bit (Fld.CBU_B_CTRL_NOMATCH_REJ n)
        let fill := s.get (Fld.CBU_B_RXSTAT_FILL n)
        if reject then s
        else if 64 ≤ fill then s.putB (Fld.CBU_B_EVT_RX_LOST n) true
        else
          let e := (s.get (Fld.CBU_B_RXSTAT_GET n) + fill) % 64
          (s.setCanWs n (fifoWord e 0) (frameWords f (i.getD 0x7F) sof.toNat)).put (Fld.CBU_B_RXSTAT_FILL n) (fill + 1))

/-- The oldest element is freed. -/
def State.freeRx (s : State) (n : Nat) : State :=
  (s.put (Fld.CBU_B_RXSTAT_FILL n) (s.get (Fld.CBU_B_RXSTAT_FILL n) - 1)).put (Fld.CBU_B_RXSTAT_GET n)
    (s.get (Fld.CBU_B_RXSTAT_GET n) + 1)

/-- A write of RXACK. -/
def State.wrRxack (s : State) (n v : Nat) : State :=
  if v.testBit 0 && s.get (Fld.CBU_B_RXSTAT_FILL n) != 0 && s.get (Fld.CBU_B_RXRING_SIZE n) == 0 then s.freeRx n else s

/-- R587: the DMA copies the oldest element to the ring. -/
def execCanDmaCopy (n : Fin 4) (s : State) : Host.Outcome State Fault Refusal :=
  .next (
    let k := 2 ^ s.get (Fld.CBU_B_RXRING_SIZE n)
    let h := s.get (Fld.CBU_B_RXPTR_RXHEAD n)
    if k = 1 || 1024 < k || s.get (Fld.CBU_B_RXSTAT_FILL n) = 0 || (h + 1) % k = s.get (Fld.CBU_B_RXPTR_RXTAIL n) % k then s
    else
      let e := s.get (Fld.CBU_B_RXSTAT_GET n)
      let l := (List.range 20).flatMap (fun w => toLE 4 (s.canW n (fifoWord e w)))
      ((s.dmaWrite 16 (s.get (Fld.CBU_B_RXRING_BASE n) * 64 + 80 * h) l).put (Fld.CBU_B_RXPTR_RXHEAD n) ((h + 1) % k)).freeRx n)

/-! ### Time-triggered transmission (R588 to R595) -/

/-- A basic cycle with count k starts. An arbitrating window runs on to the next enabled column (R590), unless site time was stepped. -/
def State.canCycle (s : State) (n k : Nat) : State :=
  let s := (s.put (Fld.CBU_B_TTSTAT_CYCLE n) k).put (Fld.CBU_B_TTSTAT_COLUMN n) 0
  s.modCan n (fun c => { c with restart := false, resume := false, window := if c.restart || c.window = 1 then 0 else c.window })

/-- Count of the next basic cycle. -/
def State.nextCycle (s : State) (n : Nat) : Nat :=
  if (s.bus n).restart then 0 else (s.get (Fld.CBU_B_TTSTAT_CYCLE n) + 1) % 2 ^ s.get (Fld.CBU_B_TTCFG_CEXP n)

/-- R588, R589: a basic cycle starts by site time, or by the slave's own timing between references; the time master sends the
reference message from buffer 31. -/
def execCanCycleStart (n : Fin 4) (s : State) : Host.Outcome State Fault Refusal :=
  .next (if !s.canEn n || s.ttSrc n = 0 then s
    else
      let s := s.canCycle n (s.nextCycle n)
      if s.ttSrc n = 1 then
        let s := s.putB (Fld.CBU_B_TTSTAT_MASTER n) true
        let s := s.setCanWs n (bufWord 31 0) ([s.get (Fld.CBU_B_TTCFG_REF_ID n) * 2 ^ 18, 2 ^ 16, 0, 0,
          s.get (Fld.CBU_B_TTSTAT_CYCLE n)] ++ List.replicate 15 0)
        if s.canSends n then (s.modCan n (fun c => { c with refDue := true })).canSelect n else s
      else s)

/-- R590, R591: column c starts; `free`: the bus lets an exclusive attempt start within TXWIN. -/
def execCanColumnStart (n : Fin 4) (c : Fin 64) (free : Bool) (s : State) : Host.Outcome State Fault Refusal :=
  .next (if !s.canEn n || s.ttSrc n = 0 || !s.bit (Fld.CBU_B_COL_EN n c) then s
    else
      let s := s.put (Fld.CBU_B_TTSTAT_COLUMN n) c
      let x := s.canCell n (s.get (Fld.CBU_B_TTSTAT_CYCLE n)) c
      let served := !s.bit (Fld.CBU_B_STAT_BUS_OFF n) && !(s.bus n).resume &&
        (s.ttSrc n != 3 || s.bit (Fld.CBU_B_TTSTAT_SYNCED n))
      let md := if served then x / 64 else 0
      let s := s.modCan n (fun k => { k with window := if md = 1 || md = 2 then md else 0, cellBuf := x % 32 })
      if md = 1 then
        if !(s.get (Fld.CBU_B_TXREQ_BUF n)).testBit (x % 32) then s.modCan n (fun k => { k with window := 0 })
        else if free && s.canSends n && (s.bus n).cur.isNone then s.modCan n (fun k => { k with cur := some (x % 32) })
        else (s.putB (Fld.CBU_B_EVT_TT_MISS n) true).modCan n (fun k => { k with window := 0 })
      else s.canSelect n)

/-- R589, R592, R593: a reference message arrives. -/
def execCanReferenceRx (n : Fin 4) (count : Fin 16) (s : State) : Host.Outcome State Fault Refusal :=
  .next (if !s.canEn n then s
    else
      let s := if s.ttSrc n = 1 then
          ((s.modCan n (fun c => { c with conf := true, refs := 0 })).putB (Fld.CBU_B_EVT_MASTER_CONF n) true).putB
            (Fld.CBU_B_TTSTAT_MASTER n) false
        else s
      if s.ttSrc n ≠ 3 then s
      else
        let s := s.modCan n (fun c => { c with refs := c.refs + 1 })
        let s := if 2 ≤ (s.bus n).refs then s.putB (Fld.CBU_B_TTSTAT_SYNCED n) true else s
        s.canCycle n count)

/-- R592: four expected references in a row were missed. -/
def execCanReferenceMissed (n : Fin 4) (s : State) : Host.Outcome State Fault Refusal :=
  .next (if s.canEn n && s.ttSrc n = 3 then
      ((s.putB (Fld.CBU_B_EVT_SYNC_LOST n) true).putB (Fld.CBU_B_TTSTAT_SYNCED n) false).modCan n (fun c =>
        { c with refs := 0, window := 0 })
    else s)

/-- R594: site time is stepped. -/
def State.canTimeStep (s : State) : State :=
  forEach (List.range 4) s (fun s n =>
    let x := s.ttSrc n
    if x = 1 || x = 2 then s.modCan n (fun c => { c with restart := true, window := 0 }) else s)

/-! ### Registers -/

/-- A write of CTRL (R577, R578, R597). -/
def State.wrCanCtrl (s : State) (n v : Nat) : State :=
  let was := s.canEn n
  let old := s.reg (Reg.CBU_B_CTRL n)
  let keep (x lo w : Nat) : Nat := fieldSet x lo w (fieldOf old lo w)
  let s := s.writeByCode (Reg.CBU_B_CTRL n) (if was then keep (keep v 1 3) 7 1 else v)
  let s := if v.testBit 8 && s.bit (Fld.CBU_B_STAT_BUS_OFF n) then s.modCan n (fun c => { c with recovering := true }) else s
  let quiet (s : State) : State := (s.putB (Fld.CBU_B_TTSTAT_SYNCED n) false).putB (Fld.CBU_B_TTSTAT_MASTER n) false
  if s.canEn n && !was then
    (quiet s).modCan n (fun c => { c with conf := false, refs := 0, restart := true, window := 0, resume := false, closing := false, refDue := false })
  else if was && !s.canEn n then
    if (s.bus n).cur.isSome then (quiet s).modCan n (fun c => { c with closing := true, window := 0 })
    else ((quiet s).modCan n (fun c => { c with window := 0 })).putB (Fld.CBU_B_STAT_JOINED n) false
  else s

/-- A write of a register that is ignored while EN is 1 (R577). -/
def State.wrCanCfg (s : State) (n a v : Nat) : State := if s.canEn n then s else s.writeByCode a v

/-- A write of RXRING: SIZE is kept while EN is 1. -/
def State.wrRxring (s : State) (n v : Nat) : State :=
  s.writeByCode (Reg.CBU_B_RXRING n) (if s.canEn n then fieldSet v 0 4 (s.get (Fld.CBU_B_RXRING_SIZE n)) else v)

/-- A write of a message-RAM word (R581). -/
def State.wrCanRam (s : State) (n i v : Nat) : State :=
  if i < 640 && (s.get (Fld.CBU_B_TXREQ_BUF n)).testBit (i / 20) then s.putB (Fld.CBU_B_EVT_TXLOCK n) true
  else s.setCanW n i v

/-- The CAN section gives the reset values (R576). -/
def State.canConfig (s : State) : State :=
  forEach (List.range 4) s (fun s n =>
    let o := 0x400 * n
    let base := 0x400D0000 + 0x4000 * n
    let cp (s : State) (a off : Nat) : State :=
      match findReg a with
      | some r => r.fields.foldl (fun s f => s.put ⟨a, f.lo, f.w⟩ (fieldOf (s.cfg 0x0D (o + off) 4) f.lo f.w)) s
      | none => s
    let s := ([0, 4, 8, 0x40, 0x44, 0x50, 0x54, 0x58, 0x5C, 0x60].zipIdx).foldl (fun s x => cp s (base + x.1) (4 * x.2)) s
    let s := forEach (List.range 128) s (fun s i => cp s (base + 0x100 + 4 * i) (0x40 + 4 * i))
    forEach (List.range 64) s (fun s c => cp s (base + 0x300 + 4 * c) (0x240 + 4 * c)))

end Sys2Proof.Machine
end

