-- ==== Sys2Proof/Machine/Flags.lean ====
section
/-! DEFINITION. The 256 interrupt sources (R50) as levels computed from the state: R57, R108, R164, R209, R261, R299, R300, R348,
R350, R393, R435, R476, R504, R544, R603, R665, R696, R724, R726, R742, R771. -/

namespace Sys2Proof.Machine

/-- Some field of the register is not 0. -/
def State.any (s : State) (a : Nat) : Bool := s.reg a != 0

/-- Sources 8 to 31: ABT, HKP, PYL. -/
def State.irqBase (s : State) (n : Nat) : Bool :=
  match n with
  | 8 => s.any Reg.ABT_WAKEEVT
  | 9 => decide (2 ≤ s.get Fld.ABT_PSSTAT_RESULT ∧ s.get Fld.ABT_PSSTAT_RESULT ≤ 5)
  | 10 => s.bit Fld.ABT_SUPPLY_VIN_WARN
  | 11 => s.bit Fld.ABT_RTCSTAT_ALARM
  | 12 => s.bit Fld.ABT_RTCSTAT_DEV || s.bit Fld.ABT_RTCSTAT_GAP || s.bit Fld.ABT_RTCSTAT_LOST
  | 13 => s.pwr.wdHalf
  | 16 => s.any Reg.HKP_EVT
  | 17 => s.bit Fld.HKP_TSTAT_ENFORCED
  | 24 => s.load.fallback && !s.bit Fld.PYL_IMGSTAT_COMMITTED
  | 25 => s.bit Fld.PYL_CMDCTL_DONE
  | 26 => s.any Reg.PYL_EVT
  | 27 => s.any Reg.PYL_VIOLSUM
  | _ => false

/-- R348: the line of Girder unit u. -/
def State.grdLine (s : State) (u : Nat) : Bool :=
  s.bit (Fld.GRD_U_CAL_DONE u) || s.bit (Fld.GRD_U_CAL_REFUSED u) || s.bit (Fld.GRD_U_CAL_FAIL u) || s.bit (Fld.GRD_U_CAPCTL_DONE u)

/-- Sources 32 to 123: SPN, PHS, KST, ARC, GRD, CSN, TOL. -/
def State.irqMid (s : State) (n : Nat) : Bool :=
  if n < 56 then
    let l := (n - 32) / 2
    if n % 2 = 0 then s.bit (Fld.SPN_LINK_MGMTR_DONE l) || (nth {} s.spn.links l).pflagsChanged else s.bit (Fld.SPN_LINK_STAT_UP_BAD l)
  else if n < 64 then false
  else if n < 76 then s.any (Reg.PHS_PIER_EVT (n - 64))
  else if n < 80 then false
  else if n < 86 then decide (2 ≤ s.get (Fld.KST_E_STAT_STATE (n - 80)))
  else match n with
    | 86 => s.any Reg.KST_EVT
    | 96 => s.any Reg.ARC_EVT
    | 97 => s.any Reg.ARC_CONTP || s.any Reg.ARC_CONTO || s.any (Reg.ARC_CONTX 0) || s.any (Reg.ARC_CONTX 1)
    | 98 => s.arc.refused
    | 104 => s.grdLine 0
    | 105 => s.grdLine 1
    | 106 => s.any Reg.GRD_WIN_EVT
    | 107 => (List.range 8).any (fun j => s.bit (Fld.GRD_MOD_RES_FAULT j))
    | 112 => (List.range 40).any (fun c => s.get (Fld.CSN_CH_CFG_SRC c) != 0xFF &&
        (s.bit (Fld.CSN_CH_STAT_STUCK c) || s.bit (Fld.CSN_CH_STAT_OVR c)))
    | 113 => (List.range 40).any (fun c => s.bit (Fld.CSN_CH_STAT_DISC c))
    | 116 => s.any Reg.TOL_MEVT || s.bit Fld.TOL_MSNAP_DONE || s.bit Fld.TOL_MCAL_DONE
    | 117 => s.any Reg.TOL_TEVT
    | 118 => s.bit Fld.TOL_CALCTL_REFUSED || (List.range 8).any (fun p => s.bit (Fld.TOL_SESS_CTRL_REFUSED p))
    | 119 => s.any Reg.TOL_BEVT || s.bit Fld.TOL_ARCCTL_DONE || s.bit Fld.TOL_ARCCTL_FAIL
    | 120 => s.get Fld.TOL_RECSTAT_FILL != 0
    | _ => false

/-- Sources 124 to 215: STY, VLK, CBU, PRP, TRS, HLK. -/
def State.irqHigh (s : State) (n : Nat) : Bool :=
  if n < 132 then s.any (Reg.STY_CBL_EVT (n - 124))
  else if n < 164 then
    let l := nth {} s.vlk ((n - 132) / 4)
    match n % 4 with
    | 0 => s.any (Reg.VLK_L_EVT ((n - 132) / 4))
    | 1 => l.rxDone != []
    | 2 => l.txDone
    | _ => false
  else if n < 180 then
    let b := (n - 164) / 4
    match n % 4 with
    | 0 => s.any (Reg.CBU_B_EVT b)
    | 1 => s.get (Fld.CBU_B_RXSTAT_FILL b) != 0 || s.get (Fld.CBU_B_RXPTR_RXHEAD b) != s.get (Fld.CBU_B_RXPTR_RXTAIL b)
    | 2 => s.any (Reg.CBU_B_TXDONE b) || s.any (Reg.CBU_B_TXFAIL b)
    | _ => false
  else if n < 196 then
    match n with
    | 180 => s.bit Fld.PRP_EVT_FAULT_A
    | 181 => s.bit Fld.PRP_EVT_FAULT_B
    | 182 => s.prp.irqC
    | 183 => s.prp.irqD
    | 184 => s.bit Fld.PRP_EVT_PRST_OK || s.bit Fld.PRP_EVT_PRST_REJ || s.bit Fld.PRP_STAT_PRST_STUCK
    | 185 => s.bit Fld.PRP_EVT_INPUT
    | 186 => s.bit Fld.PRP_EVT_OUT_FAULT
    | 187 => s.bit Fld.PRP_EVT_IMC
    | 188 => s.bit Fld.PRP_EVT_WELD
    | 189 => s.bit Fld.PRP_EVT_ARM_CHG
    | _ => false
  else if n < 212 then s.any (Reg.TRS_CH_FAULT (n - 196))
  else
    let h := (n - 212) / 2
    if n % 2 = 0 then (nth {} s.cwy.hosts h).queues.any (fun q => q != [])
    else s.bit (Fld.HLK_STAT_RX_OVF h) || s.bit (Fld.HLK_STAT_SYNC_LOST h)

/-- Level of source n; `other` gives sources 216 to 255 (bit n - 216), whose lines the spec does not tie to any state. -/
def State.irq (s : State) (other n : Nat) : Bool :=
  if n < 32 then s.irqBase n else if n < 124 then s.irqMid n else if n < 216 then s.irqHigh n else other.testBit (n - 216)

end Sys2Proof.Machine
end

