-- ==== Sys2Proof/Machine/Restart.lean ====
section
/-! DEFINITION. The Tollhouse at the seal: legal body, initialisation, recovery, catch-up (spec/09, spec/10). -/

namespace Sys2Proof.Machine

/-- R442, R11: the registers of the parameter block, body offset 0, by field. -/
def State.loadLegal (s : State) : State :=
  let w (o : Nat) : Nat := s.body o 4
  let s1 := forEach (List.range 40) s (fun t c => (((t.loadReg (Reg.CSN_CH_CFG c) (w (0x10 + 4 * c))).loadReg
    (Reg.CSN_CH_SCALE c) (w (0xB0 + 12 * c))).loadReg (Reg.CSN_CH_GOFF c) (w (0xB4 + 12 * c))).loadReg
    (Reg.CSN_CH_DYN c) (w (0xB8 + 12 * c)))
  let s2 := forEach (List.range 8) s1 (fun t p => ((((t.loadReg (Reg.CSN_DC_CFG p) (w (0x290 + 20 * p))).loadReg
    (Reg.CSN_DC_CABLE p) (w (0x294 + 20 * p))).loadReg (Reg.CSN_DC_THETA p) (w (0x298 + 20 * p))).loadReg
    (Reg.CSN_DC_QCOR p) (w (0x29C + 20 * p))).loadReg (Reg.CSN_DC_START p) (w (0x2A0 + 20 * p)))
  let s3 := forEach (List.range 4) s2 (fun t g =>
    let t := ((t.loadReg (Reg.CSN_AC_CFG g) (w (0x330 + 28 * g))).loadReg (Reg.CSN_AC_VCH g) (w (0x334 + 28 * g))).loadReg
      (Reg.CSN_AC_ICH g) (w (0x338 + 28 * g))
    forEach (List.range 4) t (fun t x => t.loadReg (Reg.CSN_AC_QCOR g x) (w (0x33C + 28 * g + 4 * x))))
  (s3.loadReg Reg.TOL_TLIM (w 0x3A0)).loadReg Reg.TOL_DEMCFG (w 0x3A4)

/-- R440, R441: an empty Toll Book with a new header. -/
def State.initBook (s : State) : State :=
  let h : BookHdr := if s.vehicle then { meterId := s.pyl.countId, keyHash := List.replicate 32 0, roleClass := 2 }
    else { meterId := s.pyl.meterId, keyHash := s.pyl.keyHash, roleClass := 1 }
  let s := s.modTol (fun t => { t with
    book := { hdr := some h }, dc := t.dc.map (fun d => { d with imp := 0, exp := 0, loss := 0, tImp := List.replicate 8 0, tExp := List.replicate 8 0 })
    ac := t.ac.map (fun _ => {}), hwm := 0, eb := none, lastBoundary := 0 })
  let s := s.putB Fld.TOL_BOOK_INIT true
  if s.vehicle then s.syncBook else (s.put Fld.TOL_TSTAT_STATE 0).logUner 0x0001 (s.pyl.meterId.take 12)

/-- R443: a legal change. -/
def State.legalChange (s : State) : State :=
  let h := s.bookHdr
  if s.vehicle || h.swid == s.load.swid then s
  else
    let named := match s.tol.book.uner.getLast? with
      | some e => leAt e 4 2 == 2 && (e.drop 16).take 12 == s.load.swid.take 12 | none => false
    let s := if named then s else s.logUner 0x0002 (s.load.swid.take 12)
    (s.modBook (fun b => { b with params := s.bodyBytes 0 2048 })).modHdr (fun h => { h with
      swid := s.load.swid, changes := h.changes + 1 })

/-- R410, R414: the calendars of the Toll Book; the image's where it has none. -/
def State.sealCalendars (s : State) : State :=
  if s.vehicle then s
  else
    let b := s.tol.book
    let none_ := b.calA == [] && b.calP == []
    let s := if none_ then s.modBook (fun b => { b with calA := s.bodyBytes 0x800 2048 }) else s
    let b := s.tol.book
    let rA := if b.calA == [] then 0 else calReason b.calA false 0
    let rP := if b.calP == [] then 0 else calReason b.calP false 0
    let s := if rP = 0 then s else (((s.modBook (fun b => { b with calP := [] })).log 0x010D 0xFF (toLE 1 1 ++ toLE 1 rP)).putB
      Fld.TOL_TEVT_CAL_BAD true)
    if rA = 0 then s
    else ((s.modTol (fun t => { t with calBad := true })).log 0x010D 0xFF (toLE 1 0 ++ toLE 1 rA)).putB Fld.TOL_TEVT_CAL_BAD true

/-! ### Registers from a save record (R455 to R457) -/

def whole (n : Nat) : Nat := n * 2 ^ 32

/-- Every register at its value of a save record. -/
def State.fromSave (s : State) (r : SaveRec) : State :=
  s.modTol (fun t => { t with
    hwm := r.hwm, lastSave := r.time
    dc := (t.dc.zip (r.dc ++ List.replicate 8 {})).map (fun x => { x.1 with
      imp := whole x.2.imp, exp := whole x.2.exp, loss := whole x.2.loss
      tImp := (x.2.tImp ++ List.replicate 8 0).take 8 |>.map whole, tExp := (x.2.tExp ++ List.replicate 8 0).take 8 |>.map whole })
    ac := (t.ac.zip (r.ac ++ List.replicate 4 {})).map (fun x => { x.1 with
      e := (x.2.e ++ List.replicate 16 0).take 16 |>.map whole
      tImp := (x.2.tImp ++ List.replicate 8 0).take 8 |>.map whole, tExp := (x.2.tExp ++ List.replicate 8 0).take 8 |>.map whole
      md := (x.2.md ++ List.replicate 10 0).take 10, mdt := (x.2.mdt ++ List.replicate 10 0).take 10
      pmd := (x.2.pmd ++ List.replicate 10 0).take 10, pmdt := (x.2.pmdt ++ List.replicate 10 0).take 10
      dImp := x.2.dImp, dExp := x.2.dExp, dStart := x.2.dStart }) })

/-- The demand intervals that were open at a time, in a tariff. -/
def State.resumeDemand (s : State) (at_ : Rat) (tariff flags : Nat) : State :=
  forEach (List.range 4) s (fun s g =>
    let l := s.demLen g
    s.modAc g (fun a => { a with
      dEnd := if l = 0 then 0 else (a.dStart / l + 1) * l, dTariff := tariff, dFlags := flags
      dElapsed := max 0 (at_ - (a.dStart : Rat)) }))

/-- Increments of DC point p into a tariff, and into its open session. -/
def State.addDc (s : State) (p tariff i e l : Nat) : State :=
  let s := s.modDc p (fun d => { d with
    imp := d.imp + whole i, exp := d.exp + whole e, loss := d.loss + whole l
    tImp := updAt d.tImp tariff (· + whole i), tExp := updAt d.tExp tariff (· + whole e) })
  if sessOpen (s.sess p) then s.modSess p (fun x => { x with
    tImp := updAt x.tImp tariff (· + whole i), tExp := updAt x.tExp tariff (· + whole e) }) else s

/-- AIMP and AEXP of AC point g. -/
def State.addAc (s : State) (g tariff i e : Nat) : State :=
  s.modAc g (fun a => { a with
    e := updAt (updAt a.e 0 (· + whole i)) 1 (· + whole e)
    tImp := updAt a.tImp tariff (· + whole i), tExp := updAt a.tExp tariff (· + whole e) })

/-- Part of the increments: those up to the boundary (0) or after it (2). -/
def State.addPart (s : State) (g : LastGasp) (k tariff : Nat) : State :=
  let s := forEach (List.range 8) s (fun s p =>
    let l := nth [] g.dc p
    s.addDc p tariff (nth 0 l k) (nth 0 l (k + 1)) (if k = 0 then nth 0 l 4 else 0))
  forEach (List.range 4) s (fun s q =>
    let l := nth [] g.ac q
    let s := s.addAc q tariff (nth 0 l k) (nth 0 l (k + 1))
    if k = 0 then s.modAc q (fun a => { a with e := (a.e.zipIdx).map (fun x =>
      if x.2 < 2 then x.1 else x.1 + whole (nth 0 l (x.2 + 2))) }) else s)

/-- R455, R429: a valid last-gasp area is applied. -/
def State.applyGasp (s : State) (g : LastGasp) (base : SaveRec) : State :=
  let unres := g.boundary && !g.marker
  let s := s.resumeDemand g.loss base.tariff (if unres then 16 else 0)
  let s :=
    if unres then
      let s := (s.addPart g 0 g.tariffA).addPart g 2 g.tariffA
      let s := (s.flagOpen 7).log 0x010F 0xFF (toLE 6 base.time.floor.toNat ++ toLE 6 g.loss.floor.toNat)
      (s.putB Fld.TOL_TEVT_UNRESOLVED true).modTol (fun t => { t with lastBoundary := base.time.floor.toNat })
    else if g.boundary then
      let s := (s.addPart g 0 g.tariffA).demandAt g.btime 0
      let s := forEach (List.range 4) s (fun s q => s.modAc q (fun a =>
        if a.dStart = g.btime then { a with dTariff := g.tariffB, dElapsed := max 0 (g.loss - (g.btime : Rat)) } else a))
      (s.addPart g 2 g.tariffB).modTol (fun t => { t with lastBoundary := g.btime })
    else
      ((s.addPart g 0 g.tariffA).addPart g 2 g.tariffB).modTol (fun t => { t with lastBoundary := base.time.floor.toNat })
  (s.putB Fld.TOL_BOOK_LG_USED true).putB Fld.TOL_BEVT_LG_USED true

/-- Session figures after the point registers are known (R424). -/
def State.refollow (s : State) : State :=
  forEach (List.range 8) s (fun s p =>
    let d := s.dcPt p
    if sessOpen (s.sess p) then s.modSess p (fun x => { x with
      imp := mwh d.imp - x.startImp, exp := mwh d.exp - x.startExp, loss := mwh d.loss - x.startLoss })
    else s)

/-- The sessions open at the loss are closed (R425, R456). -/
def State.closeAtLoss (s : State) (loss : Rat) (failed : Bool) (base : SaveRec) : State :=
  forEach (List.range 8) s (fun s p =>
    if !sessOpen (s.sess p) then s
    else
      let pl := (nth {} base.dc p).pLast
      let cr : Nat := if failed && decide (pl < 0) then (roundFree ((pl.natAbs : Rat) * (loss - base.time) / (36 / 10))).toNat else 0
      let s := s.modSess p (fun x => { x with exp := x.exp + cr, credit := cr })
      (s.endSess p loss.floor.toNat (512 + (if failed then 256 else 0))).formRecord p 1 false)

/-- A Toll Book of which no save record is left (R457). -/
def State.damageBook (s : State) : State :=
  ((s.putB Fld.TOL_BOOK_DAMAGED true).putB Fld.TOL_BEVT_DAMAGED true).reportNone 0x2D clsC 0xFF

/-- R455 to R457: recovery from the ring and the last-gasp area; `loss` is the stamped VIN loss since the last start, if any. -/
def State.recover (s : State) (loss : Option Rat) (assured : Bool) : State :=
  let b := s.tol.book
  let newest := b.ring.head?
  let lost := match newest with | some r => r.bad | none => false
  match b.ring.find? (fun r => !r.bad), newest with
  | none, some _ => s.damageBook
  | found, _ =>
    let base : SaveRec := found.getD {}
    let s := s.fromSave base
    let s := s.modBook (fun b => { b with sess := b.sessNv, lg := none })
    let s := if lost then (s.log 0x0110 0xFF (toLE 4 ((newest.map SaveRec.seq).getD 0))).putB Fld.TOL_BEVT_SAVE_LOST true else s
    let ok := match b.lg with | some g => !lost && g.saveSeq == base.seq | none => false
    let at_ : Rat := loss.getD ((b.lg.map LastGasp.loss).getD s.tol.bill)
    let s := if s.vehicle then
        if ok then (match b.lg with | some g => (((s.addPart g 0 0).addPart g 2 0).putB Fld.TOL_BOOK_LG_USED true).putB Fld.TOL_BEVT_LG_USED true | none => s)
        else (s.putB Fld.TOL_BOOK_LG_FAIL true).putB Fld.TOL_BEVT_LG_FAIL true
      else if ok then (match b.lg with | some g => (s.applyGasp g base).refollow | none => s)
      else
        let s := (s.resumeDemand at_ base.tariff 0).modTol (fun t => { t with lastBoundary := base.time.floor.toNat })
        (s.putB Fld.TOL_BOOK_LG_FAIL true).putB Fld.TOL_BEVT_LG_FAIL true
    let s := match loss, ok with
      | some l, true => s.logAt l.floor.toNat 0x0101 0xFF (toLE 6 s.billSec ++ toLE 1 0)
      | some l, false => s.logAt l.floor.toNat 0x0101 0xFF (toLE 6 s.billSec ++ toLE 1 (if assured then 1 else 2))
      | none, true => s
      | none, false => s.logAt at_.floor.toNat 0x0101 0xFF (toLE 6 s.billSec ++ toLE 1 1)
    if s.vehicle || (loss.isNone && ok) then s else s.closeAtLoss at_ (!ok) base

/-! ### Ring and budget (R446, R449, R450) -/

/-- Demand boundaries of a day, and the most boundaries of any day. -/
def State.bMax (s : State) : Nat :=
  let lens := ((List.range 4).filter s.demOn).map s.demLen
  let dem := ((List.range 1440).filter (fun m => lens.any (fun l => (m * 60) % l == 0))).length
  let c := s.tol.book.calA
  let sw := ((List.range (leAt c 0x18 1)).map (fun p => leAt c (0xC0 + 32 * p) 1)).foldl max 0
  dem + sw + (if leAt c 0x1C 1 = 0 then 0 else 1) + 1

/-- R446 and R449 hold of N, SAVE_S and B_MAX. -/
def budgetOk (n sv b : Nat) : Bool := sv != 0 && 2 ≤ n && decide (86400 + b * sv ≤ 12445 * n * sv)

/-- R450: AC points are disabled from the highest index until N is 2; the interval rises as far as R449 asks. -/
def State.budget (s : State) : State :=
  let off := (List.range 4).reverse.foldl (fun (x : State × Nat) g =>
    if ringSlots x.1.nDc x.1.nAc < 2 && x.1.acOn g then (x.1.putB (Fld.CSN_AC_CFG_EN g) false, x.2 + 2 ^ g) else x) (s, 0)
  let s := off.1
  let n := ringSlots s.nDc s.nAc
  let want := if s.body 6 2 = 0 then 10 else s.body 6 2
  let eff := if budgetOk n want s.bMax then want
    else (((List.range 1024).map (· + want)).find? (fun v => budgetOk n v s.bMax)).getD want
  let s := (s.put Fld.TOL_BOOK_SLOTS n).put Fld.TOL_BOOK_SAVE_S eff
  if off.2 = 0 ∧ eff = want then s
  else (s.log 0x0112 0xFF (toLE 1 off.2 ++ toLE 2 eff)).putB Fld.TOL_BEVT_BUDGET true

/-! ### The seal -/

/-- Uncorrectable words found (R437): the structures that hold them fail their CRC. -/
def State.spoil (s : State) : State :=
  let m := s.load.mram
  let bad (c : List Byte) : List Byte := updAt c 0x7FC (fun b => b ^^^ 1)
  s.modBook (fun b => { b with
    hdr := if m.testBit 0 then none else b.hdr
    calA := if m.testBit 1 then bad b.calA else b.calA, calP := if m.testBit 2 then bad b.calP else b.calP
    lg := if m.testBit 3 then none else b.lg.map (fun g => if m.testBit 4 then { g with marker := false } else g)
    ring := (b.ring.zipIdx).map (fun x => if m.testBit (8 + x.2) then { x.1 with bad := true } else x.1) })

/-- The VIN loss since the last start, whether its last gasp was assured, and whether the Toll Book is a site's in the VEHICLE
role. -/
def State.tollSeal (s : State) : State :=
  let s := s.spoil
  let loss := s.pwr.lossAt
  let fresh := match s.tol.book.hdr with
    | none => true
    | some h => !s.vehicle && h.roleClass != 1
  let foreign := match s.tol.book.hdr with | some h => s.vehicle && h.roleClass == 1 | none => false
  if foreign then
    ((s.putB Fld.TOL_BOOK_FOREIGN true).reportNone 0x2D clsC 0xFF).modTol (fun t => { t with run := true })
  else
    let s := if fresh then s.initBook else s
    let s := s.legalChange
    let s := s.updateState
    let s := s.sealCalendars
    let s := s.budget
    let s := if fresh then s.modTol (fun t => { t with lastBoundary := s.billSec / 60 * 60 })
      else s.recover loss s.pwr.assured
    let s := { s with pwr := { s.pwr with lossAt := none } }
    let s := s.modTol (fun t => { t with belowHwm := false })
    let s := s.checkHwm.setTariff s.billSec
    let s := if s.vehicle || s.tol.belowHwm then s else s.catchUp (s.billSec / 60 * 60) (if loss.isSome then 8 else 0)
    let s := forEach (List.range 4) s (fun s g =>
      if s.demOn g && decide ((s.acPt g).dEnd ≤ s.billSec) && !s.tol.belowHwm then s.openDemand g (s.billSec / (s.demLen g) * (s.demLen g)) else s)
    let s := forEach (List.range 8) s (fun s p =>
      let x := s.sess p
      if s.vehicle then s
      else if sessOpen x then s.put (Fld.TOL_SESS_CTRL_STATE p) 1
      else if sessClosing x then
        let s := s.put (Fld.TOL_SESS_CTRL_STATE p) 2
        if s.tol.toSign.any (fun r => r.typ == 1 && r.seq == x.endSeq) then s
        else s.toPylon { typ := 1, seq := x.endSeq, point := p, body := x.endRec }
      else s)
    let s := s.syncBook.modTol (fun t => { t with run := true })
    if fresh then s else s.beginSave 3 0

end Sys2Proof.Machine
end

