-- ==== Sys2Proof/Machine/Causeway.lean ====
section
/-! DEFINITION. Causeway grants, interrupt claims, the clock monitor, site time and the host links (spec/01, R35 to R57). -/

namespace Sys2Proof.Machine

def State.modCwy (s : State) (f : Causeway → Causeway) : State := { s with cwy := f s.cwy }

/-! ### Transactions (R41, R42) -/

/-- Quota index of a master (R46, R47). -/
def quotaOf (m : Nat) : Nat := min m 14
/-- Rank of a quota index: Parapet pairs, Keystone engines, Pylon, Span link DMA, Deck cores, pool (R42). -/
def rankOf (q : Nat) : Nat := if q < 4 then 4 else if q < 6 then 0 else if q < 12 then 1 else if q = 12 then 2 else if q = 13 then 3 else 5

def State.inFlight (s : State) : Nat := s.cwy.inFlight.sum

/-- CWY_INFLIGHT. -/
def State.showFlight (s : State) : State :=
  let n := s.inFlight
  (s.put Fld.CWY_INFLIGHT_COUNT n).put Fld.CWY_INFLIGHT_PEAK (max n (s.get Fld.CWY_INFLIGHT_PEAK))

/-- Distance of master m behind the one served last in its rank: the smallest is next (R42). -/
def State.turnOf (s : State) (m : Nat) : Nat := (m + 18 - nth 18 s.cwy.turn (rankOf (quotaOf m))) % 19

/-- The waiting master that gets a free slot, if one is below its quota. -/
def State.nextGrant (s : State) : Option Nat :=
  let can := s.cwy.waiting.filter (fun m => nth 0 s.cwy.inFlight (quotaOf m) < s.get (Fld.CWY_QUOTA_QUOTA (quotaOf m)))
  let key (m : Nat) : Nat := 19 * rankOf (quotaOf m) + s.turnOf m
  match can with
  | [] => none
  | x :: t => some (t.foldl (fun b m => if key m < key b then m else b) x)

/-- Slots are granted while any is free, at most k times. -/
def State.grants : Nat → State → State
  | 0, s => s
  | k + 1, s =>
    if 96 ≤ s.inFlight then s
    else match s.nextGrant with
      | none => s
      | some m =>
        let q := quotaOf m
        State.grants k ((s.modCwy (fun c => { c with
          waiting := c.waiting.erase m, inFlight := updAt c.inFlight q (· + 1), turn := updAt c.turn (rankOf q) (fun _ => m) })).showFlight)

/-- R41, R42: transactions of the masters `freed` end, those of `requests` are asked for. -/
def execCwyTransactionGrant (freed requests : List Master) (s : State) : Out :=
  .next (let s := freed.foldl (fun s m => s.modCwy (fun c => { c with inFlight := updAt c.inFlight (quotaOf m.val) (· - 1) })) s
    let s := s.modCwy (fun c => { c with waiting := c.waiting ++ requests.map (·.val) })
    (State.grants s.cwy.waiting.length s).showFlight)

/-! ### Interrupts (R50 to R52) -/

/-- Source n may be taken by the core. -/
def State.routed (s : State) (core n : Nat) : Bool :=
  let t := s.get (Fld.CWY_IRQRTE_TARGET n)
  t == core + 1 || t == 5

/-- Priority of source n. -/
def State.prioOf (s : State) (n : Nat) : Nat := sget 0 s.cwy.prio n

/-- Sources that the core can claim: routed to it, enabled, pending, of a priority above 0, not claimed already. -/
def State.claimable (s : State) (core other : Nat) : List Nat :=
  (List.range 256).filter (fun n => s.routed core n && (nth 0 s.cwy.enable core).testBit n && s.irq other n && s.prioOf n != 0 &&
    !s.cwy.claimed.any (fun x => x.2 == n))

/-- The controller's notification to a core: some source of a priority above its threshold can be claimed. -/
def State.plicLine (s : State) (core other : Nat) : Bool :=
  (s.claimable core other).any (fun n => decide (nth 0 s.cwy.threshold core < s.prioOf n))

/-- The source of the highest priority, the lowest number among equals, 0 where there is none. -/
def State.bestOf (s : State) : List Nat → Nat
  | [] => 0
  | x :: t => t.foldl (fun b n => if s.prioOf b < s.prioOf n then n else b) x

/-- The core writes priorities, its enables and its threshold. -/
def State.setPlic (s : State) (core : Nat) (x : PlicSet) : State :=
  s.modCwy (fun c => { c with
    prio := x.prio.foldl (fun l y => sset 0 l y.1.val y.2.val) c.prio
    enable := match x.enable with | some e => updAt c.enable core (fun _ => e.toNat) | none => c.enable
    threshold := match x.threshold with | some t => updAt c.threshold core (fun _ => t.val) | none => c.threshold })

/-- R51: core sets up the controller (`set`), completes the sources `done`, each where it is enabled
for the core, and claims the pending one of the highest priority; `rdata` is its number, 0 where none is pending. The claim looks at no
threshold. -/
def execIrqClaim (core : Fin 4) (done : List (Fin 256)) (set : PlicSet) (other : BitVec 40) (s : State) : Out :=
  .next (let s := s.setPlic core set
    let on := nth 0 s.cwy.enable core
    let s := s.modCwy (fun c => { c with claimed := c.claimed.filter (fun x => !(on.testBit x.2 && done.any (fun d => d.val == x.2))) })
    let n := s.bestOf (s.claimable core other.toNat)
    { s.modCwy (fun c => { c with claimed := if (s.claimable core other.toNat) = [] then c.claimed else (core.val, n) :: c.claimed }) with
      rdata := n })

/-! ### Clock monitor (R37, R38) -/

/-- R38: the clock is back; the gap goes to the rolling log. -/
def State.clockBack (s : State) : State :=
  let ms := s.cwy.badUs / 1000
  let s := (s.modCwy (fun c => { c with badUs := 0 }))
  if s.tol.run && !s.vehicle then s.log 0x0102 0xFF (toLE 4 ms) else s

/-- R37: a monitor window of 10 µs ends with `count` periods of the 2.4 GHz output divided by 240; 100 are expected. -/
def execClockMonitorWindow (count : Nat) (s : State) : Out :=
  .next (if !s.prp.running then s
    else
      let bad := decide (count < 98 ∨ 102 < count)
      let two := bad && s.prp.clkLast
      let was := s.prp.clkBad
      let s := { s with prp := { s.prp with clkLast := bad, clkBad := two || (was && bad) } }
      let s := if s.prp.clkBad then s.modCwy (fun c => { c with badUs := c.badUs + (if was then 10 else 20) }) else s
      let s := if was && !s.prp.clkBad then s.clockBack else s
      if two && !was then s.report 0x0C clsA 0xFF 0xFF 0xFFF else s)

/-- R37: the PLL drops lock. -/
def execPllLockLost (s : State) : Out :=
  .next ({ s with prp := { s.prp with pllLocked := false } }.report 0x0C clsA 0xFF 0xFF 0xFFF)

/-! ### Site time (R39, R40) -/

/-- Site time moves by x, in 1/65,536 ns. -/
def State.moveSite (s : State) (x : Int) : State :=
  let t := ((s.siteNs * 65536 + s.siteFrac : Nat) : Int) + x
  let n := (t % (2 ^ 80 : Int)).toNat
  { s with siteNs := n / 65536, siteFrac := n % 65536 }

/-- Some pier has a phase in service: IN, in its ramp or under admission. That this is what R40 calls a pier in service is DEDUCED from
R167 (log entry 84). -/
def State.inService (s : State) : Bool := s.piersInUse.any (fun n => (s.pier n).phases.any (fun p => p.st.svc))

/-- R40: the grandmaster's offset is known. -/
def State.discipline (s : State) (off : Int) : State :=
  if s.inService then s.modCwy (fun c => { c with steer := off })
  else
    let s := (s.moveSite off).modCwy (fun c => { c with steer := 0 })
    { s with spn := { s.spn with timeStep := s.piersInUse } }.canTimeStep

/-- The rate of site time over one control period is off by at most 100 ppm towards the grandmaster. -/
def State.steer (s : State) : State :=
  let most : Int := s.periodUs * 1000 * 65536 / 10000
  let x := clampI s.cwy.steer (-most) most
  (s.moveSite x).modCwy (fun c => { c with steer := c.steer - x })

/-! ### Host links (R53 to R57) -/

def State.hostUp (s : State) (n : Nat) : Bool := s.bit (Fld.HLK_CTRL_EN n) && s.pwr.domains.testBit 7

/-- R53: in-band auto-negotiation or link status is complete. -/
def execHostLinkUp (n : Fin 2) (s : State) : Out :=
  .next (if !s.hostUp n then s
    else (if s.bit (Fld.HLK_CTRL_AN_EN n) then s.putB (Fld.HLK_STAT_AN_DONE n) true else s).putB (Fld.HLK_STAT_LINK n) true)

/-- R57: code-group sync is lost. -/
def execHostSyncLost (n : Fin 2) (s : State) : Out :=
  .next (if !s.hostUp n then s
    else ((s.putB (Fld.HLK_STAT_SYNC_LOST n) true).putB (Fld.HLK_STAT_LINK n) false).putB (Fld.HLK_STAT_AN_DONE n) false)

/-- Site time `dt` ns after the start of the running control period, or after the last step of the model's site time. -/
def State.siteAt (s : State) (dt : Nat) : Nat := (s.siteNs + dt) % 2 ^ 64

/-- R54: a frame of `len` bytes with VLAN priority `prio` arrives; `room`: a buffer is free; `evt`: the times of 802.1AS event
frames; `gm`: with it the offset of a grandmaster from site time, in 1/65,536 ns, becomes known. Priority p goes to queue p / 2: a
DESIGN CHOICE, since the spec names four queues chosen by priority and no map (log entry 83). -/
def execHostFrameRx (n : Fin 2) (prio : Fin 8) (len : Nat) (room : Bool) (evt : EventTimes) (gm : Option Int) (s : State) : Out :=
  .next (
    let out := if s.hostUp n && s.bit (Fld.HLK_CTRL_TS_EN n) then evt.tx.map s.siteAt else []
    let s := s.modCwy (fun c => { c with hosts := updAt c.hosts n (fun h => { h with txStamps := out.reverse ++ h.txStamps }) })
    if !s.hostUp n || decide (2048 < len) then s
    else if !room then s.putB (Fld.HLK_STAT_RX_OVF n) true
    else
      let ts := if s.bit (Fld.HLK_CTRL_TS_EN n) then evt.rx.map s.siteAt else none
      let s := s.modCwy (fun c => { c with hosts := updAt c.hosts n (fun h => { h with
        queues := updAt h.queues (prio.val / 2) (fun q => q ++ [(len, ts)]) }) })
      let fl := leAt s.load.hdr 0x4C 1
      match gm with
      | some off => if fl.testBit 0 && fl.testBit 1 == (n.val == 1) then s.discipline off else s
      | none => s)

/-- HLK_CTRLn: MODE keeps its value while EN is 1 (R56). -/
def State.wrHlkCtrl (s : State) (n v : Nat) : State :=
  let was := s.bit (Fld.HLK_CTRL_EN n)
  let s := s.writeByCode (Reg.HLK_CTRL n) (if was then fieldSet v 1 1 (s.get (Fld.HLK_CTRL_MODE n)) else v)
  if s.bit (Fld.HLK_CTRL_EN n) then s
  else (s.putB (Fld.HLK_STAT_LINK n) false).putB (Fld.HLK_STAT_AN_DONE n) false

end Sys2Proof.Machine
end

