-- ==== Sys2Proof/Machine/Operands.lean ====
section
/-! DEFINITION. The operand of a register write as it reaches a register: the function level that governs each field, and the
value that is left of a write at the basic level (spec/02, R92 to R94, R804; R207, R232, R260, R298, R347, R503, R543, R602,
R695, R808). -/

namespace Sys2Proof.Machine

/-- Instance i of function f is at the expert level (R92, R93, R804). -/
def State.expertAt (s : State) (f i : Nat) : Bool :=
  let named (x : Nat) := (List.range 16).find? (fun k => s.cfgB 0xF (16 * k) == f && s.cfgB 0xF (16 * k + 1) == x)
  match named i with
  | some k => s.cfgB 0xF (16 * k + 2) == 1
  | none => match named 0xFF with | some k => s.cfgB 0xF (16 * k + 2) == 1 | none => false

/-- Every pier is at the expert level. -/
def State.allPiersExpert (s : State) : Bool := (List.range 12).all (s.expertAt 2)

/-- The owner of a slot is at the expert level (R232). -/
def State.ownerExpert (s : State) (k : Slot) : Bool :=
  if s.slotOutlet k ≠ 0xFF then s.expertAt 1 (s.slotOutlet k)
  else if s.slotPier k ≠ 0xFF then s.expertAt 2 (s.slotPier k) else s.allPiersExpert

/-- The owners of the slots of `l`, or every pier where there is none, are at the expert level (R260). -/
def State.ownersExpert (s : State) (l : List Slot) : Bool := if l = [] then s.allPiersExpert else l.all s.ownerExpert

/-- A source of slot k is camber register j. -/
def State.namesCamber (s : State) (k : Slot) (j : Nat) : Bool :=
  [0x0C, 0x10, 0x14, 0x18, 0x1C].any (fun o => s.prog k o 4 / 2 ^ 28 == 5 && s.prog k o 4 % 64 == j)

/-- The instances that the register at `a` serves are at the expert level; `lo`: the field's lowest bit. -/
def State.expertReg (s : State) (a lo : Nat) : Bool :=
  let o := a % 0x10000
  let b := a / 0x10000
  if b = 0x4004 then (if s.spanUse (o / 0x1000) = 0 then s.allPiersExpert else s.expertAt 2 (s.spanPier (o / 0x1000)))
  else if b = 0x4005 then (if o < 0xC000 then s.expertAt 2 (o / 0x1000) else s.piersInUse.all (s.expertAt 2))
  else if b = 0x4006 then
    (if o < 0xC000 then (match s.windowSlot (o / 0x2000) with | some k => s.ownerExpert k | none => true)
     else s.ownersExpert (s.kst.slots.filter (fun k => s.namesCamber k ((o - 0xD800) / 4))))
  else if b = 0x4007 ∨ b = 0x4011 then s.expertAt 3 0
  else if b = 0x4008 then
    (if 0x8000 ≤ o ∨ (o % 0x2000 = 0 ∧ (lo = 4 ∨ lo = 14)) then s.expertAt 4 0 && s.expertAt 4 1 else s.expertAt 4 (o / 0x2000))
  else if b = 0x400B then s.expertAt 5 (o / 0x100)
  else if b = 0x400C then s.expertAt 6 (o / 0x2000)
  else if b = 0x400D then s.expertAt 7 (o / 0x4000)
  else if b = 0x400F then s.expertAt 8 (o / 0x40)
  else true

/-- A field of a GRD or CBU register belongs to the basic set of R347 or R602. -/
def basicSet (a lo : Nat) : Bool :=
  let o := a % 0x10000
  if a / 0x10000 = 0x4008 then (o < 0x4000 && 0x10 ≤ o % 0x2000 && o % 0x2000 < 0x20 && lo == 31) || o == 0x8100
  else [0x10, 0x20, 0x24, 0x28, 0x2C, 0x34, 0x38, 0x3C].contains (o % 0x4000) || (o % 0x4000 == 0 && (lo == 0 || lo == 4))

/-- Writes can act on a field of this code. -/
def Acc.writable : Acc → Bool
  | .ro => false
  | .rc => false
  | _ => true

/-- The field is "expert level only" (R94; R347 and R602 mark all fields but the basic set). -/
def expertOnly (a : Nat) (f : FieldDesc) : Bool :=
  f.acc.writable && (f.expert || ((a / 0x10000 == 0x4008 || a / 0x10000 == 0x400D) && !basicSet a f.lo))

/-- Bits of the field that the level keeps from a write (R94). Each bit of KST_SWAP has the owners of its own group (R260). -/
def State.fieldGate (s : State) (a : Nat) (f : FieldDesc) : Nat :=
  if !expertOnly a f then 0
  else if a = Reg.KST_SWAP then
    ((List.range 32).filter (fun g => !s.ownersExpert (s.kst.slots.filter (fun k => k.group == g)))).foldl (fun m g => m + 2 ^ g) 0
  else if s.expertReg a f.lo then 0 else (2 ^ f.w - 1) * 2 ^ f.lo

/-- Bits of the register that the level keeps from a write. -/
def State.gateMask (s : State) (a : Nat) : Nat :=
  match findReg a with | some r => r.fields.foldl (fun m f => m ||| s.fieldGate a f) 0 | none => 0

/-- A write of v over the present value `cur` would act on a field that the level keeps from it (R94). For an RWL field that is expert level
only (GRD_MODj_CFG after the seal) R94 counts a value that differs and R15 counts no write to a locked field: the model counts it, a
DESIGN CHOICE (log entry 83). -/
def State.gateHit (s : State) (a cur v : Nat) : Bool :=
  match findReg a with
  | some r => r.fields.any (fun f =>
      let x := if f.acc == .rw || f.acc == .rwl then v ^^^ cur else v
      (x &&& s.fieldGate a f) != 0)
  | none => false

/-- What is left of the written value: a kept RW field writes its present value, any other kept field 0. -/
def State.gated (s : State) (a cur v : Nat) : Nat :=
  match findReg a with
  | some r => r.fields.foldl (fun v f =>
      let g := s.fieldGate a f
      mclr v g + (if f.acc == .rw || f.acc == .rwl then cur &&& g else 0)) v
  | none => v

/-- Every bit that a write could act on is kept from it. -/
def State.shut (s : State) (a : Nat) : Bool :=
  match findReg a with
  | some r => r.fields.any (fun f => f.acc.writable) &&
      r.fields.all (fun f => !f.acc.writable || s.fieldGate a f == (2 ^ f.w - 1) * 2 ^ f.lo)
  | none => false

end Sys2Proof.Machine
end

