-- ==== Sys2Proof/Machine/Aes.lean ====
section
/-! DEFINITION. AES (FIPS 197) and its Galois/Counter Mode (SP 800-38D), with which Pylon seals key blobs (spec/19 R755, R759). -/

namespace Sys2Proof.Machine

/-- Product in GF(2^8) over the k lowest bits of b. -/
def gmul8 : Nat → Nat → Nat → Nat
  | 0, _, _ => 0
  | k + 1, a, b => (if b % 2 = 1 then a else 0) ^^^ gmul8 k (if 128 ≤ a then (2 * a) ^^^ 0x11B else 2 * a) (b / 2)

/-- x ^ 254, the inverse in GF(2^8), 0 for 0. -/
def ginv8 (x : Nat) : Nat :=
  let sq (a : Nat) := gmul8 8 a a
  ((List.range 6).foldl (fun (st : Nat × Nat) _ => let p := sq st.1; (p, gmul8 8 st.2 p)) (sq x, sq x)).2

/-- The S-box. -/
def sbox (x : Nat) : Nat :=
  let i := ginv8 x
  let r (k : Nat) : Nat := (i <<< k ||| i >>> (8 - k)) % 256
  i ^^^ r 1 ^^^ r 2 ^^^ r 3 ^^^ r 4 ^^^ 0x63

def sboxTable : List Nat := (List.range 256).map sbox

def xorBytes (a b : List Nat) : List Nat := List.zipWith (· ^^^ ·) a b

/-- The key schedule: words newest first, to a length of n words; nk words of key. -/
def aesExpand (tab : List Nat) (nk : Nat) : Nat → List (List Nat) → List (List Nat)
  | 0, l => l
  | k + 1, l =>
    let i := l.length
    let t := nth [] l 0
    let sub (w : List Nat) : List Nat := w.map (nth 0 tab)
    let t := if i % nk = 0 then
        let w := sub (t.drop 1 ++ t.take 1)
        let rc := (List.range (i / nk - 1)).foldl (fun r _ => gmul8 8 2 r) 1
        updAt w 0 (· ^^^ rc)
      else if 6 < nk ∧ i % nk = 4 then sub t else t
    aesExpand tab nk k (xorBytes t (nth [] l (nk - 1)) :: l)

/-- Round keys of 16 bytes. -/
def aesKeys (tab : List Nat) (key : List Byte) : List (List Nat) :=
  let nk := key.length / 4
  let w := ((List.range nk).map (fun i => ((key.drop (4 * i)).take 4).map BitVec.toNat)).reverse
  let ws := (aesExpand tab nk (4 * (nk + 7) - nk) w).reverse
  (List.range (nk + 7)).map (fun r => ((ws.drop (4 * r)).take 4).flatten)

def mixColumn (c : List Nat) : List Nat :=
  (List.range 4).map (fun i => gmul8 8 2 (nth 0 c i) ^^^ gmul8 8 3 (nth 0 c ((i + 1) % 4)) ^^^ nth 0 c ((i + 2) % 4) ^^^ nth 0 c ((i + 3) % 4))

/-- SubBytes, ShiftRows, and MixColumns where `mix`, then the round key. -/
def aesRound (tab : List Nat) (mix : Bool) (s k : List Nat) : List Nat :=
  let s := (List.range 16).map (fun i => nth 0 tab (nth 0 s ((i + 4 * (i % 4)) % 16)))
  let s := if mix then (List.range 4).flatMap (fun c => mixColumn ((s.drop (4 * c)).take 4)) else s
  xorBytes s k

/-- One block of 16 bytes is encrypted. -/
def aesBlock (tab : List Nat) (keys : List (List Nat)) (b : List Nat) : List Nat :=
  let n := keys.length - 1
  let s := xorBytes b (nth [] keys 0)
  let s := ((keys.drop 1).take (n - 1)).foldl (fun s k => aesRound tab true s k) s
  aesRound tab false s (nth [] keys n)

/-- Product in GF(2^128) of GCM, over the k bits of x from the most significant on. -/
def gmul128 : Nat → Nat → Nat → Nat
  | 0, _, _ => 0
  | k + 1, x, v => (if x.testBit k then v else 0) ^^^ gmul128 k x (if v % 2 = 1 then v / 2 ^^^ (0xE1 <<< 120) else v / 2)

/-- Zeros up to a multiple of 16. -/
def pad16 (l : List Byte) : List Byte := l ++ List.replicate ((16 - l.length % 16) % 16) 0

/-- GHASH over k blocks. -/
def ghash (h : Nat) : Nat → Nat → List Byte → Nat
  | 0, y, _ => y
  | k + 1, y, l => ghash h k (gmul128 128 (y ^^^ beNat (l.take 16)) h) (l.drop 16)

/-- The cipher's key stream from the 96-bit nonce, block counter c on, n blocks. -/
def gcmStream (enc : List Nat → List Nat) (nonce : List Byte) (c n : Nat) : List Nat :=
  (List.range n).flatMap (fun i => enc (nonce.map BitVec.toNat ++ ((toLE 4 (c + i)).reverse).map BitVec.toNat))

/-- AES-GCM with a 12-byte nonce: the text under the key stream, and the tag over the additional data and `cipher`. -/
def gcmCrypt (enc : List Nat → List Nat) (nonce text : List Byte) : List Byte :=
  (xorBytes (text.map BitVec.toNat) (gcmStream enc nonce 2 (text.length / 16 + 1))).map (BitVec.ofNat 8)
def gcmTag (enc : List Nat → List Nat) (nonce aad cipher : List Byte) : List Byte :=
  let h := (enc (List.replicate 16 0)).foldl (fun v b => 256 * v + b) 0
  let l := pad16 aad ++ pad16 cipher ++ (toLE 8 (8 * aad.length)).reverse ++ (toLE 8 (8 * cipher.length)).reverse
  let y := ghash h (l.length / 16) 0 l
  (xorBytes ((toLE 16 y).reverse.map BitVec.toNat) (gcmStream enc nonce 1 1)).map (BitVec.ofNat 8)

/-- Key, nonce, additional data, plaintext: ciphertext and tag. -/
def gcmSeal (key nonce aad text : List Byte) : List Byte :=
  let keys := aesKeys sboxTable key
  let enc := aesBlock sboxTable keys
  let c := gcmCrypt enc nonce text
  c ++ gcmTag enc nonce aad c

/-- The plaintext of ciphertext and tag, none where the tag fails. -/
def gcmOpen (key nonce aad sealed : List Byte) : Option (List Byte) :=
  let keys := aesKeys sboxTable key
  let enc := aesBlock sboxTable keys
  let c := sealed.take (sealed.length - 16)
  if 16 ≤ sealed.length ∧ gcmTag enc nonce aad c = sealed.drop (sealed.length - 16) then some (gcmCrypt enc nonce c) else none

end Sys2Proof.Machine
end

