-- ==== Sys2Proof/Machine/Power.lean ====
section
/-! DEFINITION. Supply, power states, the RTC and the watchdog (spec/17, R697 to R726). -/

namespace Sys2Proof.Machine

def State.modPwr (s : State) (f : Power → Power) : State := { s with pwr := f s.pwr }
def State.vinOk (s : State) : Bool := s.bit Fld.ABT_SUPPLY_VIN_OK
/-- The device sleeps: STANDBY or PARK. -/
def State.asleep (s : State) : Bool := s.pwr.st == .standby || s.pwr.st == .park

/-! ### Time outside the control periods (R719 to R722) -/

/-- The RTC counts `e` / 65,536 s while no control period runs; EB grows as the Tollhouse lets it while it runs. -/
def State.rtcPass (s : State) (e : Nat) : State :=
  let d : Rat := (e : Rat) / 65536
  let s := s.modPwr (fun p => { p with rcTime := if p.xtalOff then p.rcTime + d else p.rcTime })
  s.modTol (fun t => { t with
    bill := t.bill + d, eb := if s.pwr.st = .run then t.eb.map (fun b => b + (s.pwr.recDrift : Rat) * d / 1000) else t.eb })

/-- As rtcPass, in PARK and OFF only: elsewhere the control periods count the time. -/
def State.rtcOff (s : State) (e : Nat) : State := if s.pwr.st = .park ∨ s.pwr.st = .off then s.rtcPass e else s

/-- EB and DRIFT go into the time record (R722). -/
def State.copyTime (s : State) : State :=
  let d := s.get Fld.TOL_TLIM_DRIFT
  s.modPwr (fun p => { p with recEb := s.tol.eb, recDrift := d, recAt := s.tol.bill })

/-- The sleep begins: what the gap is counted from. -/
def State.startGap (s : State) : State := s.modPwr (fun p => { p with sleepAt := s.tol.bill, rcTime := 0 })

/-- The bound of R722 in ms: EB at the last copy, DRIFT since it, and 1 % of the time on the RC. -/
def State.gapBound (s : State) : Nat :=
  if s.bit Fld.ABT_RTCSTAT_LOST then 0xFFFFFFFF
  else match s.pwr.recEb with
    | none => 0xFFFFFFFF
    | some e => (clampI (roundFree (e + (s.pwr.recDrift : Rat) * (s.tol.bill - s.pwr.recAt) / 1000 + 10 * s.pwr.rcTime)) 0
        0xFFFFFFFF).toNat

/-- ABT_SLEEP, ABT_GAP and ABT_GAPEB at the end of a sleep or OFF; EB takes the bound (R397, R722). -/
def State.endGap (s : State) : State :=
  let b := s.gapBound
  let s := (s.putU Fld.ABT_SLEEP_VALUE (s.tol.bill - s.pwr.sleepAt).floor).putU Fld.ABT_GAP_VALUE s.pwr.rcTime.floor
  let s := (s.put Fld.ABT_GAPEB_VALUE b).modTol (fun t => { t with eb := if b = 0xFFFFFFFF then none else some (b : Rat) })
  if 0 < s.pwr.rcTime then s.putB Fld.ABT_RTCSTAT_GAP true else s

/-! ### Supply -/

/-- R737 to R739, R702: the Tollhouse stamps the loss instant and runs its last gasp. -/
def State.loseSupply (s : State) (assured : Bool) : State :=
  let ran := s.tol.run || s.pwr.st == .park
  let s := if ran then s.copyTime else s
  let s := s.modPwr (fun p => { p with
    lossAt := match p.lossAt with | some t => some t | none => some s.tol.bill
    assured := if ran then assured else p.assured })
  s.startGap.beginGasp s.tol.bill

/-- R702: VIN fails, or ground is lost (R703). -/
def State.failVin (s : State) (assured : Bool) : State :=
  if !s.vinOk then s
  else
    let s := if s.pwr.st = .off then s else s.loseSupply assured
    let lg := s.tol.lgRun
    let on := !(s.pwr.st == .off) && lg.isSome
    let s := ((s.putB Fld.ABT_SUPPLY_VIN_OK false).putB Fld.ABT_SUPPLY_VHOLD_CHG false).putB Fld.ABT_SUPPLY_ON_VBAT false
    let s := s.restart false
    if on then (s.modTol (fun t => { t with lgRun := lg })).modPwr (fun p => { p with domains := 3 }) else s.allOff

def execVinFailure (s : State) : Out := .next (s.failVin s.pwr.vhold30)
def execGndLoss (s : State) : Out := .next (s.failVin false)

/-- R698. -/
def execVinWarn (s : State) : Out := .next (if s.vinOk then s.putB Fld.ABT_SUPPLY_VIN_WARN true else s)

/-- R452: VHOLD crosses 30 V. -/
def execLastGaspArmed (armed : Bool) (s : State) : Out :=
  .next (let s := s.modPwr (fun p => { p with vhold30 := armed })
    if s.pwr.domains.testBit 1 then s.putB Fld.TOL_BOOK_LG_ARMED armed else s)

/-- R702, R738: the last gasp ends; an assured one has written both parts (R451). -/
def execLastGaspEnd (energies marker : Bool) (s : State) : Out :=
  .next (if s.tol.lgRun.isNone then s
    else
      let s := s.endGasp (energies || s.pwr.assured) (marker || s.pwr.assured)
      if s.vinOk then s.shutOff else s.allOff)

/-- R700. -/
def execPd0SupplyChangeover (s : State) : Out :=
  .next (if s.vinOk then s else (s.putB Fld.ABT_SUPPLY_ON_VBAT true).modPwr (fun p => { p with onVbat := true }))

/-- R701: PD0 runs from VBAT and loses its state. The loss instant that the Toll Book holds is what is left of it; without one it
is unknown. -/
def execVbatLoss (s : State) : Out :=
  .next (if s.vinOk || !s.pwr.onVbat then s
    else
      let (t, s) := s.fresh 64
      let loss : Option Rat := s.pwr.lossAt.map (fun _ => match s.tol.book.lg with | some g => g.loss | none => (t : Rat))
      let s := s.keepRegs isFuse
      let s := { s with
        pwr := { domains := 1, lossAt := loss, onVbat := true }, prp := {}, mem := []
        tol := { book := s.tol.book }, trs := { s.trs with chans := List.replicate 16 {} } }
      (s.putB Fld.ABT_RTCSTAT_LOST true).putB Fld.ABT_SUPPLY_VBAT_LOW true)

/-- R701: VBAT falls below, or returns above, its minimum rating. -/
def execVbatLow (below : Bool) (s : State) : Out :=
  .next (if s.pwr.onVbat then s else s.putB Fld.ABT_SUPPLY_VBAT_LOW below)

/-- R703, R739: VIN is good after OFF; `elapsed` / 65,536 s have passed since the last event of the RTC. A last gasp that still
runs ends first, with both parts written. -/
def execVinGood (elapsed : Nat) (s : State) : Out :=
  .next (if s.vinOk then s
    else
      let s := (s.endGasp true true).rtcPass elapsed
      let cold := s.pwr.cold
      let s := s.putB Fld.ABT_RTCSTAT_LOST cold
      let s := s.endGap
      let s := ((s.putB Fld.ABT_SUPPLY_VIN_OK true).putB Fld.ABT_SUPPLY_VHOLD_CHG true).put Fld.ABT_RSTCAUSE_CAUSE (if cold then 0 else 1)
      let s := s.put Fld.ABT_PSSTAT_LAST (if cold then 0 else 3)
      let s := if s.pwr.shutLatch then s.putB Fld.HKP_TSTAT_SHUT_PREV true else s
      { s with load := {}, pwr := { s.pwr with st := .run, domains := 0x3FF, cold := false, onVbat := false, shutLatch := false } })

/-! ### Device resets (R78, R723) -/

/-- A warm reset with a cause (R454, R690, R723); while the shutdown latch holds it releases nothing (R739). -/
def State.warmReset (s : State) (cause : Nat) : State :=
  if !s.vinOk || s.pwr.st == .off then s
  else
    let s := (s.beginGasp s.tol.bill).endGasp true true
    if s.pwr.shutLatch then (s.restart false).allOff
    else
      let s := (s.restart true).put Fld.ABT_RSTCAUSE_CAUSE cause
      (s.putB Fld.ABT_SUPPLY_ON_VBAT false).modPwr (fun p => { p with st := .run, domains := 0x3FF })

/-- R78, R723: causes 2 to 6 are device resets. -/
def execDeviceReset (cause : Fin 8) (s : State) : Out :=
  .next (if 2 ≤ cause.val ∧ cause.val ≤ 6 then s.warmReset cause else s)

/-- R616. -/
def execDoubleFaultReset (s : State) : Out :=
  .next (if s.prp.doubleHeld && !s.prp.outDelay && s.get Fld.PRP_PSOSTAT_ON == 0 then s.warmReset 4 else s)

/-- ABT_RESET (R723, R725). -/
def State.wrReset (s : State) (m : Master) (v : Nat) : State :=
  if v / 65536 % 65536 ≠ 0x9E27 then s.violate m Reg.ABT_RESET else if v.testBit 0 then s.warmReset 2 else s

/-! ### Watchdog (R724) -/

/-- ABT_WDOG. -/
def State.wrWatchdog (s : State) (v : Nat) : State :=
  if s.bit Fld.ABT_WDOG_EN then s
  else ((s.put Fld.ABT_WDOG_TIMEOUT v).putB Fld.ABT_WDOG_EN (v.testBit 31)).modPwr (fun p => { p with wdHalf := false })

/-- ABT_WDKICK (R725). -/
def State.wrKick (s : State) (m : Master) (v : Nat) : State :=
  if v / 65536 % 65536 ≠ 0xA5C3 then s.violate m Reg.ABT_WDKICK
  else if v.testBit 0 && s.bit Fld.ABT_WDOG_EN then s.modPwr (fun p => { p with wdHalf := false }) else s

/-- The watchdog runs. -/
def State.wdRuns (s : State) : Bool := s.bit Fld.ABT_WDOG_EN && !s.asleep && s.pwr.st != .off

def execWatchdogHalf (s : State) : Out := .next (if s.wdRuns then s.modPwr (fun p => { p with wdHalf := true }) else s)
def execWatchdogExpiry (s : State) : Out := .next (if s.wdRuns then s.warmReset 3 else s)

/-! ### What a sleep keeps (R707 to R709) -/

/-- The registers of R708. -/
def savedRegs : List Nat :=
  [Reg.ARC_CTRL, Reg.ARC_GRID, Reg.ARC_GRIDX, Reg.ARC_BUF, Reg.ARC_BUFLIM] ++
  (List.range 16).flatMap (fun m => [Reg.ARC_OUT_POL m, Reg.ARC_OUT_PMAX m]) ++
  (List.range 12).map Reg.PHS_PIER_CTRL ++
  (List.range 8).flatMap (fun m => [Reg.STY_CBL_CTRL m, Reg.STY_CBL_LIM m]) ++
  (List.range 8).flatMap (fun n => [Reg.VLK_L_CTRL n, Reg.VLK_L_TXRING n, Reg.VLK_L_RXRING n, Reg.VLK_L_DOOR n]) ++
  (List.range 2).map Reg.HLK_CTRL ++
  (List.range 4).flatMap (fun n => [Reg.CBU_B_CTRL n, Reg.CBU_B_RXRING n, Reg.CBU_B_RXPTR n]) ++
  (List.range 2).flatMap (fun u => (List.range 4).map (Reg.GRD_U_TRG u)) ++
  (List.range 32).flatMap (fun w => [Reg.GRD_WIN_CFG w, Reg.GRD_WIN_LIM w])

/-- Address of an ARC_OUTm_POL, a view of the shadow. -/
def isPol (a : Nat) : Option Nat := (List.range 16).find? (fun m => Reg.ARC_OUT_POL m == a)

/-- The hardware save area of R708. -/
def State.saveArea (s : State) : List (Nat × Word) :=
  savedRegs.map (fun a => (a, BitVec.ofNat 32 (match isPol a with | some m => s.readPol m | none => s.reg a)))

/-- Registers that a sleep keeps: PD0, PD1, PD2, the wake registers of CB0 and CB1, and of Pylon the fuses and what the resume
record restores. -/
def sleepKeeps (a : Nat) : Bool :=
  let b := a / 0x10000
  b == 0x4000 || b == 0x4001 || b == 0x4002 || b == 0x4009 || b == 0x400A || b == 0x400E || b == 0x400F || isFuse a ||
  a == Reg.PYL_IMGSTAT || (Reg.PYL_IMGDIG 0 ≤ a && a < Reg.PYL_SWID 8) || (Reg.PYL_ID 0 ≤ a && a < Reg.PYL_ID 4) ||
  (List.range 2).any (fun n => Reg.CBU_B_WAKE n ≤ a && a ≤ Reg.CBU_B_WAKEID n)

/-- Units and memory that lose power in a sleep: the keys of Pylon, what the clock is steered by, SRAM and in PARK the DRAM. -/
def State.dropUnits (s : State) (park : Bool) : State :=
  { s with
    pyl := { s.pyl.fuses with meterId := s.pyl.meterId, countId := s.pyl.countId, keyHash := s.pyl.keyHash }
    cwy := { steer := s.cwy.steer, badUs := s.cwy.badUs }
    mem := s.mem.filter (fun c => c.1 < 0x08004000 || (!park && 0x80000000 ≤ c.1))
    tol := { s.tol with run := s.tol.run && !park }, prp := { s.prp with running := s.prp.running && !park } }

/-- The domains go off (R705, R713, R714). -/
def State.fallAsleep (s : State) (park : Bool) : State :=
  let ka (n : Nat) : Bool := !park && s.bit (Fld.TRS_CH_CFG_KEEP_ALIVE n)
  let chans := (s.trsWarm.zipIdx).map (fun x => if ka x.2 then x.1 else {})
  let held := s.ports
  let s := s.setChans chans
  let s := forEach (List.range 16) s (fun s n => if ka n then s else (s.putB (Fld.TRS_CH_CTRL_ON n) false).putB (Fld.TRS_CH_STAT_HELD n) false)
  let s := forEach (List.range 16) s State.trsSettle1
  let s := (((s.keepRegs sleepKeeps).clearEngines).put Fld.ABT_PADHOLD_HOLD 0x7F).dropUnits park
  s.startGap.modPwr (fun p => { p with
    st := if park then .park else .standby, domains := if park then 1 else 7, wdHalf := false, held := held, heldTx := [] })

/-! ### Wake (R715, R716, R718) -/

/-- Held channels at a wake (R692, R713). -/
def State.trsWake (s : State) : State :=
  forEach (List.range 16) s (fun s n =>
    let on := (s.chan n).hold == some true
    let s := s.modChan n (fun c => { c with hold := none, want := if on then 255 else 0, duty := if on then 255 else 0 })
    let s := if on then ((s.putB (Fld.TRS_CH_STAT_HELD n) true).put (Fld.TRS_CH_CTRL_DUTY n) 255).putB (Fld.TRS_CH_CTRL_ON n) true
      else s
    s.trsSettle1 n)

/-- The domains power up and Pylon starts to re-stream; the sources stand in ABT_WAKEEVT already. -/
def State.wake (s : State) : State :=
  if !s.asleep || s.load.wake then s
  else
    let park := s.pwr.st == .park
    let s := (s.put Fld.ABT_PSSTAT_LAST (if park then 2 else 1)).endGap
    let s := if park then
        { s with siteNs := (s.siteNs + ((s.tol.bill - s.pwr.sleepAt) * 1000000000).floor.toNat) % 2 ^ 64, tol := { s.tol with run := true } }
      else s
    let s := s.trsWake.newNonce.updateState
    { s with load := { s.load with wake := true }, pyl := { s.pyl with serving := some 0 }, pwr := { s.pwr with domains := 0x3FF } }

/-- A wake source is active: it aborts a running entry, or wakes the device (R715). -/
def State.wakeSource (s : State) (f : State → State) : State :=
  let s1 := if s.asleep then f s else s
  if s.bit Fld.ABT_PSSTAT_BUSY then s1.modPwr (fun p => { p with wakeSeen := true }) else s1.wake

/-- Enabled sources among those of ABT_WAKEEVT: pins, pilots, host links, Parapet (the table under "Waking"). -/
def State.wakeMask (s : State) (park : Bool) : Nat :=
  s.get Fld.ABT_WAKECFG_PIN_EN * 2 ^ 16 + s.get Fld.ABT_WAKECFG_PILOT * 2 ^ 8 +
  (if park then 0 else s.get Fld.ABT_WAKECFG_PRP * 2 ^ 4 + s.get Fld.ABT_WAKECFG_HL1 * 4 + s.get Fld.ABT_WAKECFG_HL0 * 2)

/-- R716, R718: the sources `src` become active, placed as in ABT_WAKEEVT. -/
def execWakeEvent (src : BitVec 24) (elapsed : Nat) (s : State) : Out :=
  .next (let park := s.pwr.st == .park || (s.pwr.st != .standby && s.pwr.target == 2)
    let m := src.toNat &&& s.wakeMask park
    let s := s.rtcOff elapsed
    if m = 0 then s else s.wakeSource (fun s => s.setReg Reg.ABT_WAKEEVT (s.reg Reg.ABT_WAKEEVT ||| m)))

/-- R716: billing time reaches ABT_ALARM. -/
def execRtcAlarm (elapsed : Nat) (s : State) : Out :=
  .next (let s := s.rtcOff elapsed
    let at_ := s.get Fld.ABT_ALARMLO_SEC + 2 ^ 32 * s.get Fld.ABT_ALARMHI_SEC
    if at_ = 0 ∨ s.billSec < at_ then s
    else
      let s := s.putB Fld.ABT_RTCSTAT_ALARM true
      if s.bit Fld.ABT_WAKECFG_RTC then s.wakeSource (fun s => s.putB Fld.ABT_WAKEEVT_RTC true) else s)

/-- The low 18 bits of an 11-bit identifier hold nothing (R579). -/
def wakeIdOf (f : CanFrame) : Nat := f.id.toNat

/-- R599, R600: what the wake logic has seen wakes the device. -/
def State.canWakes (s : State) (n : Nat) : CanWakeSign → Bool
  | .pattern => !s.bit (Fld.CBU_B_WAKE_FRAME n)
  | .errors => s.bit (Fld.CBU_B_WAKE_FRAME n)
  | .frame f rateOk =>
    let m := s.get (Fld.CBU_B_WMASK_ID n)
    let mask := s.get (Fld.CBU_B_WDATA0_MASK n) + 2 ^ 32 * s.get (Fld.CBU_B_WDATA1_MASK n)
    s.bit (Fld.CBU_B_WAKE_FRAME n) && rateOk && !f.fdf && f.xtd == s.bit (Fld.CBU_B_WAKE_XTD n) &&
    (f.id.toNat &&& m) == (s.get (Fld.CBU_B_WAKE_ID n) &&& m) && f.dlc.val == s.get (Fld.CBU_B_WCTL_DLC n) &&
    (ofLE f.data &&& mask) != 0

/-- R599 to R601: CBn wakes the device. -/
def execCanWake (n : Fin 2) (sign : CanWakeSign) (elapsed : Nat) (s : State) : Out :=
  .next (let s := s.rtcOff elapsed
    if !s.bit (Fld.CBU_B_WAKE_EN n) || !s.canWakes n sign then s
    else s.wakeSource (fun s =>
      let s := if n.val = 0 then s.putB Fld.ABT_WAKEEVT_CB0 true else s.putB Fld.ABT_WAKEEVT_CB1 true
      { s with can := updAt s.can n (fun c => { c with
          woke := match sign with | .frame f _ => some (f.xtd, wakeIdOf f) | _ => some (false, 0) }) }))

/-! ### State requests (R711 to R715) -/

/-- R711: RESULT of a refusal, 0 none. -/
def State.refusal (s : State) (st : Nat) : Nat :=
  if st = 2 ∧ s.role ≠ 2 then 3
  else if s.get Fld.PRP_ARMED_PIERS != 0 || (List.range 8).any (fun m => s.bit (Fld.KST_OUT_CTRL_EN m)) ||
      (List.range 8).any (fun p => s.get (Fld.TOL_SESS_CTRL_STATE p) != 0) ||
      (mbits (s.get Fld.PRP_PSOSTAT_ON) 12).any (fun k => st == 2 || s.psoKind k != 4) then 2
  else 0

/-- The entry starts (R712). -/
def State.startEntry (s : State) (st : Nat) : State :=
  (((s.putB Fld.ABT_PSSTAT_BUSY true).put Fld.ABT_PSSTAT_STEP 0).put Fld.ABT_PSSTAT_RESULT 0).modPwr (fun p => { p with
    target := st, wakeSeen := false })

/-- ABT_PSREQ (R711, R715). -/
def State.wrPsreq (s : State) (m : Master) (v : Nat) : State :=
  let st := v % 4
  if v / 65536 % 65536 ≠ 0x5B3E then s.violate m Reg.ABT_PSREQ
  else if st = 3 then s
  else if st ≠ 0 ∧ s.refusal st ≠ 0 then s.put Fld.ABT_PSSTAT_RESULT (s.refusal st)
  else if s.bit Fld.ABT_PSSTAT_BUSY then
    let s := if s.bit Fld.ABT_PSSTAT_PEND then s.put Fld.ABT_PSSTAT_RESULT 5 else s.put Fld.ABT_PSSTAT_RESULT 0
    (s.putB Fld.ABT_PSSTAT_PEND true).put Fld.ABT_PSSTAT_PENDING st
  else if st = 0 then s.put Fld.ABT_PSSTAT_RESULT 1
  else s.startEntry st

/-- R715: an entry that is complete meets the pending request. -/
def State.takePending (s : State) : State :=
  if !s.bit Fld.ABT_PSSTAT_PEND then s
  else
    let st := s.get Fld.ABT_PSSTAT_PENDING
    let s := (s.putB Fld.ABT_PSSTAT_PEND false).put Fld.ABT_PSSTAT_PENDING 0
    if st = 0 then (s.putB Fld.ABT_WAKEEVT_REQUEST true).wake
    else if st = 2 ∧ s.pwr.st = .standby then
      if s.refusal 2 ≠ 0 then s.put Fld.ABT_PSSTAT_RESULT (s.refusal 2) else s.startEntry 2
    else s.put Fld.ABT_PSSTAT_RESULT 1

/-! ### DOZE, pads, RTC -/

/-- R706: every Deck core has executed WFI. -/
def execDozeEntry (s : State) : Out :=
  .next (if s.pwr.st = .run ∧ s.load.stage = .run ∧ s.bit Fld.ABT_PSCTL_DOZE_EN then s.modPwr (fun p => { p with st := .doze }) else s)
/-- R706: an interrupt routed to a Deck core. -/
def execDozeExit (s : State) : Out := .next (if s.pwr.st = .doze then s.modPwr (fun p => { p with st := .run }) else s)

/-- ABT_PADHOLD (R714): the pads of the named domains are released; a Span link with EN at 1 starts its bring-up. -/
def State.wrPadhold (s : State) (v : Nat) : State :=
  let was := (s.get Fld.ABT_PADHOLD_HOLD).testBit 0
  let s := s.writeByCode Reg.ABT_PADHOLD v
  if was && v.testBit 3 then
    let s := s.modPwr (fun p => { p with held := [] })
    forEach (List.range 12) s (fun s l => if s.bit (Fld.SPN_LINK_CTRL_EN l) then s.startBring l else s)
  else s

/-- R719: no edge for 4 ms. -/
def execRtcCrystalStop (elapsed : Nat) (s : State) : Out :=
  .next (if s.pwr.xtalOff then s
    else
      let s := s.rtcOff elapsed
      ((s.putB Fld.ABT_RTCSTAT_ON_RC true).putB Fld.ABT_RTCSTAT_GAP true).modPwr (fun p => { p with xtalOff := true }))
/-- R719: the crystal has run stably for 1 s. -/
def execRtcCrystalReturn (elapsed : Nat) (s : State) : Out :=
  .next (if !s.pwr.xtalOff then s
    else
      let s := s.rtcOff elapsed
      (s.putB Fld.ABT_RTCSTAT_ON_RC false).modPwr (fun p => { p with xtalOff := false }))

/-- R720: the crystal against XIN over the window that ends, code of sQ15.16 ppm. -/
def execRcCalibration (dev : Int) (s : State) : Out :=
  .next (if s.pwr.xtalOff || s.pwr.st == .off || s.pwr.st == .park then s
    else
      let s := s.putS Fld.ABT_RTCDEV_PPM dev
      if 200 * 65536 < dev.natAbs then s.putB Fld.ABT_RTCSTAT_DEV true else s)

/-- R722. -/
def execTimeRecordCopy (s : State) : Out := .next (if s.tol.run then s.copyTime else s)

end Sys2Proof.Machine
end

