-- ==== Sys2Proof/Machine/Pylon.lean ====
section
/-! DEFINITION. Pylon: key slots, measurements, firmware elements, identities, commands, authorisations, lifecycle and
violation totals (spec/19, R743 to R771; spec/10 R465). -/

namespace Sys2Proof.Machine

def State.modPyl (s : State) (f : Pylon → Pylon) : State := { s with pyl := f s.pyl }

/-- `n` registers from address `a` hold a byte string. -/
def State.putWords (s : State) (a n : Nat) (l : List Byte) : State :=
  forEach (List.range n) s (fun s w => s.setReg (a + 4 * w) (leAt l (4 * w) 4))
/-- The bytes of `n` registers. -/
def State.wordsOf (s : State) (a n : Nat) : List Byte := (List.range n).flatMap (fun w => toLE 4 (s.reg (a + 4 * w)))

/-- A string of ASCII as bytes. -/
def ascii (t : String) : List Byte := t.toList.map (fun c => BitVec.ofNat 8 c.toNat)

/-! ### Slots, counters, measurements -/

/-- Slot g is fused and not revoked (R744). -/
def State.slotLive (s : State) (g : Nat) : Bool := (s.get Fld.PYL_KFUSE_FUSED).testBit g && !(s.get Fld.PYL_KFUSE_REVOKED).testBit g
/-- Keys presented for slot g verify (R744, R746). -/
def State.presented (s : State) (g : Nat) : Bool := s.slotLive g && (s.get Fld.PYL_KPRES_PRESENTED).testBit g
/-- Ed25519 and ML-DSA-65 keys of R65's order over a digest: reason 0x03 or 0x04, 0 when both verify (R66, R68). -/
def pairReason (keys dig ed ml : List Byte) : Nat :=
  if !edVerify (keys.take 32) dig ed then 3 else if !mlVerify (keys.drop 32) dig ml then 4 else 0
/-- Counter i (R763). -/
def State.ctr (s : State) (i : Nat) : Nat := s.get ⟨Reg.PYL_CTR (i / 4), 8 * (i % 4), 8⟩
def State.setCtr (s : State) (i v : Nat) : State := s.put ⟨Reg.PYL_CTR (i / 4), 8 * (i % 4), 8⟩ v
/-- A counter is raised to a version above it (R70, R763). -/
def State.advanceCtr (s : State) (i v : Nat) (adv : Bool) : State := if adv && decide (s.ctr i < v) then s.setCtr i v else s

/-- R747: measurement register m. -/
def State.meas (s : State) (m : Nat) : List Byte := s.wordsOf (Reg.PYL_MEAS m 0) 16
def State.extend (s : State) (m : Nat) (v : List Byte) : State := s.putWords (Reg.PYL_MEAS m 0) 16 (sha3 512 (s.meas m ++ v))
/-- M0 after a reset or a wake. -/
def State.measure0 (s : State) : State :=
  let z := List.replicate 64 (0 : Byte)
  let s := forEach (List.range 4) s (fun s m => s.putWords (Reg.PYL_MEAS m 0) 16 z)
  (s.extend 0 (sha3 512 Config.bootRom)).extend 0 (sha3 512 Config.runtime)

/-! ### Identities (R755, R756) -/

def State.lifecycle (s : State) : Nat := s.get Fld.PYL_STAT_LIFECYCLE
/-- Identities are derived in PROVISION and DEPLOYED only (R764). -/
def State.hasIds (s : State) : Bool := s.lifecycle == 1 || s.lifecycle == 2
/-- A derivation (R755): the context string is KMAC256's customisation string and what stands with it the message, a DESIGN CHOICE
(log entry 86). -/
def State.seedOf (s : State) (context : String) (l : List Byte) : List Byte := kmac256 s.pyl.secret l 32 (ascii context)
/-- Public keys of a seed in R743's order. -/
def pairOf (seed : List Byte) : List Byte := edPublic seed ++ mlPublic seed
def State.devSeed (s : State) : List Byte := s.seedOf "FM DEVID" []
def State.aliasSeed (s : State) : List Byte := s.seedOf "FM ALIAS" (s.meas 0 ++ s.meas 1)
def State.meterSeed (s : State) : List Byte := s.seedOf "FM METER" s.pyl.serial
def State.wrapKey (s : State) : List Byte := s.seedOf "FM WRAP" (toLE 1 s.lifecycle)

/-- Both signatures over a digest, the second hedged (R467). Should none of the attempts that FIPS 204 asks for give an ML-DSA-65 signature,
its bytes are free. -/
def State.signPair (s : State) (seed dig : List Byte) : List Byte × State :=
  let (x, s) := s.fresh 26472
  (edSign seed dig ++ (mlSign seed dig (toLE 32 x)).getD (toLE 3309 x), s)

/-- METER_ID, KEYHASH and COUNT_ID, and PYL_IDw (R756). -/
def State.formIds (s : State) : State :=
  if !s.hasIds then s
  else
    let hash := sha3 256 (pairOf s.meterSeed)
    let meter := s.pyl.serial ++ hash.take 8
    let count := s.pyl.serial ++ (s.seedOf "FM COUNT" []).take 8
    let s := s.modPyl (fun p => { p with meterId := meter, keyHash := hash, countId := count })
    s.putWords (Reg.PYL_ID 0) 4 (if s.vehicle then count else meter)

/-! ### Work in order (R761) -/

/-- The device may form meter signatures (R762). -/
def State.maySign (s : State) : Bool := !s.vehicle && s.hasIds

/-- R761: Pylon becomes free and takes the next waiting work; `tls`: a TLS operation waits. -/
def execPylonServeNext (tls : Bool) (s : State) : Out :=
  .next (if s.pyl.serving == some 0 || s.pyl.serving == some 1 || s.pyl.serving == some 3 then s
    else s.modPyl (fun p => { p with serving :=
      if s.tol.toSign != [] && s.maySign then some 1 else if tls then some 2 else if p.cmd.isSome then some 3 else none }))

/-- R465: Pylon has signed the oldest record. -/
def execRecordSigned (s : State) : Out :=
  .next (if s.pyl.serving != some 1 then s
    else match s.tol.toSign with
      | [] => s
      | r :: rest =>
        let (sig, s) := s.signPair s.meterSeed (sha3 512 r.body)
        (s.modTol (fun t => { t with toSign := rest, signed := t.signed ++ [{ r with sig := sig }] })).modPyl (fun p => { p with
          serving := none }))

/-! ### Command blocks (R758) -/

/-- PYL_CMDCTL: GO takes the block; a write while BUSY is ignored but for DONE. -/
def State.wrCmdctl (s : State) (v : Nat) : State :=
  let s := if v.testBit 1 then s.putB Fld.PYL_CMDCTL_DONE false else s
  if !v.testBit 0 || s.bit Fld.PYL_CMDCTL_BUSY then s
  else
    let a := s.get Fld.PYL_CMDADDR_ADDR
    let (b, s) := s.dmaRead 12 a 64
    let f (o n : Nat) : Nat := leAt b o n
    (s.putB Fld.PYL_CMDCTL_BUSY true).modPyl (fun p => { p with cmd := some {
      addr := a, op := f 0 2, alg := f 2 1, slot := f 3 1, inA := f 4 4, inL := f 8 4, in2A := f 0xC 4, in2L := f 0x10 4
      outA := f 0x14 4, cap := f 0x18 4, usage := f 0x2C 1 } })

/-- PYL_CMDADDR: 64-byte aligned. -/
def State.wrCmdaddr (s : State) (v : Nat) : State := s.setReg Reg.PYL_CMDADDR (v / 64 * 64)

/-- The operation of the command in service has ended with STATUS and an output of n bytes. -/
def State.pylEnd (s : State) (status n : Nat) : State :=
  s.modPyl (fun p => { p with cmd := p.cmd.map (fun c => { c with status := status, outLen := n, served := true }) })

/-- A range without bytes, or one that the access map allows to Pylon. -/
def State.pylMay (s : State) (a n : Nat) (write : Bool) : Bool := n == 0 || s.dmaOk 12 a n write

/-- The operation succeeds: output, and the effect `f` (R758). -/
def State.pylOk (s : State) (c : PylCmd) (out : List Byte) (f : State → State) : State :=
  if c.cap < out.length then s.pylEnd 0x22 0
  else if !s.pylMay c.outA out.length true then s.pylEnd 0x10 0
  else ((f s).setMem c.outA out).pylEnd 0 out.length

/-- A failure for which the spec gives no code: STATUS is free but not 0. -/
def State.pylFail (s : State) : State := let (x, s) := s.freshBelow 65535; s.pylEnd (x + 1) 0

/-- The command in service with operation `op` runs `f` on its inputs. -/
def State.pylRun (s : State) (op : Nat) (f : State → PylCmd → List Byte → List Byte → State) : Out :=
  .next (match s.pyl.cmd with
    | none => s
    | some c =>
      if s.pyl.serving != some 3 || c.op != op || c.served then s
      else if !s.pylMay c.inA c.inL false || !s.pylMay c.in2A c.in2L false then s.pylEnd 0x10 0
      else f s c (s.readBytes c.inA c.inL) (s.readBytes c.in2A c.in2L))

/-- Algorithms by the operations that take them. -/
def hashAlg (a : Alg) : Bool := a ∈ [.sha256, .sha384, .sha512, .sha3x256, .sha3x512, .shake128, .shake256]
def aesAlg (a : Alg) : Bool := a == .aes128 || a == .aes256
def sigAlg (a : Alg) : Bool := a ∈ [.ed25519, .ed448, .mldsa65, .ecdsa256, .ecdsa384, .ecdsa521]
def agreeAlg (a : Alg) : Bool := a ∈ [.x25519, .x448, .ecdh256, .ecdh384, .ecdh521]
def kemAlg (a : Alg) : Bool := a == .mlkem768 || a == .x25519mlkem768

/-- The command's algorithm, if it is one that `p` takes; otherwise STATUS 0x20. -/
def State.withAlg (s : State) (c : PylCmd) (p : Alg → Bool) (f : Alg → State) : State :=
  match Config.algOf c.alg with | some a => if p a then f a else s.pylEnd 0x20 0 | none => s.pylEnd 0x20 0

/-- The key of slot SLOT, which must hold a key of the command's ALG (0x21) and a usage that `use` takes (0x23, R760). -/
def State.withKey (s : State) (c : PylCmd) (use : Nat → Bool) (f : List Byte → State) : State :=
  let k := nth {} s.pyl.store c.slot
  if k.alg != some c.alg then s.pylEnd 0x21 0 else if !use k.usage then s.pylEnd 0x23 0 else f k.key

def State.putKey (s : State) (n : Nat) (k : KeySlot) : State := s.modPyl (fun p => { p with store := updAt p.store n (fun _ => k) })

/-- 0x01. -/
def execRandomBytes (s : State) : Out := s.pylRun 0x01 (fun s c _ _ => let (b, s) := s.freeBytes c.cap; s.pylOk c b id)
/-- A hash algorithm; the output of SHAKE is as long as OUT_CAP, a DESIGN CHOICE (log entry 32). -/
def hashOf (a : Alg) (cap : Nat) (l : List Byte) : List Byte :=
  match a with
  | .sha256 => sha256 l
  | .sha384 => sha384 l
  | .sha512 => sha512 l
  | .sha3x256 => sha3 256 l
  | .sha3x512 => sha3 512 l
  | .shake128 => shake128 l cap
  | .shake256 => shake256 l cap
  | _ => []

/-- 0x02. -/
def execHash (s : State) : Out :=
  s.pylRun 0x02 (fun s c i _ => s.withAlg c hashAlg (fun a => s.pylOk c (hashOf a c.cap i) id))
/-- 0x03. -/
def execAesGcm (s : State) : Out :=
  s.pylRun 0x03 (fun s c i j => s.withAlg c aesAlg (fun a => s.withKey c (· == 0) (fun k =>
    match Config.gcmOp a k i j with | some o => s.pylOk c o id | none => s.pylFail)))

/-- Head of a wrapped blob (R759), the additional data of its AES-256-GCM (DESIGN CHOICE, log entry 86). -/
def blobHead (alg usage lc : Nat) : List Byte :=
  [0x50, 0x4B, 0x57, 0x42] ++ toLE 1 alg ++ toLE 1 usage ++ toLE 1 lc ++ List.replicate 9 0

/-- 0x10 (R759, R760). -/
def execKeyGenerate (s : State) : Out :=
  s.pylRun 0x10 (fun s c _ _ => s.withAlg c (fun a => !hashAlg a) (fun a =>
    if 2 < c.usage then s.pylEnd 0x20 0
    else if !s.hasIds then s.pylEnd 0x23 0
    else if 16 ≤ c.slot then s.pylEnd 0x21 0
    else
      let (x, s) := s.fresh 512
      let (nonce, s) := s.freeBytes 12
      let k := Config.keyGen a x
      let head := blobHead c.alg c.usage s.lifecycle
      s.pylOk c (k.2 ++ head ++ nonce ++ gcmSeal s.wrapKey nonce head k.1) (fun s => s.putKey c.slot {
        alg := some c.alg, usage := c.usage, key := k.1 })))

/-- 0x11 (R759, R764). -/
def execBlobLoad (s : State) : Out :=
  s.pylRun 0x11 (fun s c i _ =>
    if !s.hasIds then s.pylEnd 0x23 0
    else
      let alg := leAt i 4 1
      let usage := leAt i 5 1
      match gcmOpen s.wrapKey ((i.drop 16).take 12) (i.take 16) (i.drop 28) with
      | some k =>
        if i.take 16 == blobHead alg usage s.lifecycle && decide (c.slot < 16) then
          s.pylOk c [] (fun s => s.putKey c.slot { alg := some alg, usage := usage, key := k })
        else s.pylEnd 0x21 0
      | none => s.pylEnd 0x21 0)

/-- 0x12. -/
def execSlotClear (s : State) : Out :=
  s.pylRun 0x12 (fun s c _ _ => if 16 ≤ c.slot then s.pylEnd 0x21 0 else s.pylOk c [] (fun s => s.putKey c.slot {}))

/-- 0x13 (R746). -/
def execKeyPresent (s : State) : Out :=
  s.pylRun 0x13 (fun s c i _ =>
    if decide (c.slot < 12) && s.slotLive c.slot && i.length == 1984 && sha3 256 i == nth [] s.pyl.hashes c.slot then
      s.pylOk c [] (fun s => (s.putBit Fld.PYL_KPRES_PRESENTED c.slot true).modPyl (fun p => { p with
        keys := updAt p.keys c.slot (fun _ => i) }))
    else s.pylEnd 0x02 0)

/-- 0x14 (R757, R764, R768). -/
def execDevidKeys (s : State) : Out :=
  s.pylRun 0x14 (fun s c _ _ =>
    if !s.hasIds || s.bit Fld.PYL_STAT_DEBUG then s.pylEnd 0x23 0 else s.pylOk c (pairOf s.devSeed) id)

/-- 0x20 (R760). -/
def execSign (s : State) : Out :=
  s.pylRun 0x20 (fun s c i _ => s.withAlg c sigAlg (fun a => s.withKey c (· < 2) (fun k =>
    let (x, s) := s.fresh 256
    s.pylOk c (Config.signOp a k i x) id)))
/-- 0x21. -/
def execVerify (s : State) : Out :=
  s.pylRun 0x21 (fun s c i j => s.withAlg c sigAlg (fun a => if Config.verifyOp a i j then s.pylOk c [] id else s.pylFail))
/-- 0x30 (R760). -/
def execKeyAgreement (s : State) : Out :=
  s.pylRun 0x30 (fun s c i _ => s.withAlg c agreeAlg (fun a => s.withKey c (· == 0) (fun k =>
    s.pylOk c (Config.agreeOp a k i) id)))
/-- 0x31 (R760). -/
def execKemDecapsulate (s : State) : Out :=
  s.pylRun 0x31 (fun s c i _ => s.withAlg c kemAlg (fun a => s.withKey c (· != 1) (fun k =>
    s.pylOk c (Config.decap a k i) id)))
/-- 0x32 (R760). -/
def execKemEncapsulate (s : State) : Out :=
  s.pylRun 0x32 (fun s c i _ => s.withAlg c kemAlg (fun a =>
    let (x, s) := s.fresh 256
    s.pylOk c (Config.encap a i x) id))

/-! ### Firmware elements (R749 to R754) -/

/-- First multiple of m at or after n. -/
def alignUp (n m : Nat) : Nat := (n + m - 1) / m * m

/-- The header is well formed (R749): `h` 256 bytes. -/
def elemHeaderOk (h : List Byte) : Bool :=
  let len := leAt h 0x0C 4
  let load := leAt h 0x10 4
  let entry := leAt h 0x14 4
  h.length == 256 && h.take 4 == [0x46, 0x4D, 0x46, 0x57] && leAt h 4 2 == 1 && decide (leAt h 6 1 ≤ 3) && decide (leAt h 7 1 ≤ 63) &&
  decide (leAt h 9 1 < 4) && zeroIn h 0x0A 2 && zeroIn h 0x58 168 && load % 4096 == 0 && decide (len ≤ 2047 * 4096) &&
  ((decide (0x10000000 ≤ load ∧ load + len ≤ 0x10800000)) || decide (0x80000000 ≤ load ∧ load + len ≤ 0x100000000)) &&
  decide (load ≤ entry ∧ entry < load + len)

/-- Length of header, body and signature block. -/
def elemLen (h : List Byte) : Nat := alignUp (256 + leAt h 0x0C 4) 64 + 5376

/-- The first execute region that is free. -/
def State.freeRegion (s : State) : Option Nat := (List.range 16).find? (fun k => !s.bit (Fld.PYL_XRGN_VALID k))

/-- Counter indices of the loaded image and of its legal section. -/
def State.imageArb (s : State) : Nat := leAt s.load.hdr 0x10 1
def State.legalArb (s : State) : Option Nat := if s.lenOf 8 = 0 then none else some (s.cfgB 8 0)

/-- R751: reason for which the element with its header at `a` is refused, 0 none. -/
def State.elemReason (s : State) (a : Nat) : Nat :=
  let h := s.readBytes a 256
  let len := leAt h 0x0C 4
  let g := 8 + leAt h 6 1
  let arb := leAt h 7 1
  let sig := s.readBytes (a + alignUp (256 + len) 64) 5376
  let dig := sha3 512 h
  let keys := nth [] s.pyl.keys g
  let pr := pairReason keys dig ((sig.drop 1984).take 64) ((sig.drop 2048).take 3309)
  if !s.dmaOk 12 a 256 false then 0x10
  else if !elemHeaderOk h || leAt h 0x10 4 != a + 256 then 0x01
  else if !s.dmaOk 12 a (elemLen h) false then 0x10
  else if !s.presented g then 0x02
  else if pr ≠ 0 then pr
  else if sha3 256 (s.readBytes (a + 256) len) ≠ (h.drop 0x18).take 32 then 0x06
  else if leAt h 8 1 < s.ctr arb then 0x05
  else if arb = s.imageArb ∨ s.legalArb = some arb then 0x11
  else if s.freeRegion = none then 0x12
  else 0

/-- The element with its header at `a` is accepted: M3, region, counters to advance (R747, R751, R754). -/
def State.acceptElem (s : State) (a : Nat) : State :=
  let h := s.readBytes a 256
  let s := s.extend 3 (sha3 512 h)
  let s := s.modPyl (fun p => { p with elems := p.elems ++ [(leAt h 7 1, leAt h 8 1, (leAt h 9 1).testBit 0)] })
  match s.freeRegion with
  | none => s
  | some k =>
    ((s.put (Fld.PYL_XRGN_BASE k) (leAt h 0x10 4 / 4096)).put (Fld.PYL_XRGN_PAGES k) (alignUp (leAt h 0x0C 4) 4096 / 4096)).putB
      (Fld.PYL_XRGN_VALID k) true

/-- 0x40 (R751): the header lies at IN_ADDR. -/
def execElementVerify (s : State) : Out :=
  s.pylRun 0x40 (fun s c _ _ =>
    let r := s.elemReason c.inA
    if r = 0 then (s.acceptElem c.inA).pylEnd 0 0 else s.pylEnd r 0)

/-- 0x41 (R752): region SLOT. -/
def execRegionWithdraw (s : State) : Out :=
  s.pylRun 0x41 (fun s c _ _ => if 16 ≤ c.slot then s.pylFail else (s.setReg (Reg.PYL_XRGN c.slot) 0).pylEnd 0 0)

/-- Bytes of a flash slot. -/
def State.flash (s : State) (k o n : Nat) : List Byte := (List.range n).map (fun i => sget (0 : Byte) (nth [] s.load.slots k) (o + i))

/-- R753: the boot ROM reads, copies and verifies the boot element. -/
def execBootElementVerify (s : State) : Out :=
  .next (if s.load.stage ≠ .run ∨ s.asleep then s
    else
      let o := alignUp (leAt s.load.hdr 8 4) 4096
      let h := s.flash s.load.cur o 256
      let a := leAt h 0x10 4 - 256
      let ok := elemHeaderOk h
      let s := if ok then s.dmaWrite 0 a (s.flash s.load.cur o (elemLen h)) else s
      let r := if !ok || !(leAt h 9 1).testBit 1 then 1 else s.elemReason a
      if r = 0 then
        let s := s.acceptElem a
        { s with load := { s.load with bootEntry := some (leAt h 0x14 4) } }
      else
        let s := (s.put Fld.PYL_FWSTAT_REASON r).putB Fld.PYL_EVT_BOOT_FAIL true
        { s with load := { s.load with deckHalted := true } })

/-- PYL_IMGCOMMIT written by m (R70, R71, R107, R754). -/
def State.wrImgcommit (s : State) (m : Master) (v : Nat) : State :=
  if !v.testBit 0 then s
  else if v / 65536 % 65536 ≠ 0xC0A7 then s.violate m Reg.PYL_IMGCOMMIT
  else if s.bit Fld.PYL_IMGSTAT_COMMITTED then s
  else
    let h := s.load.hdr
    let s := s.advanceCtr (leAt h 0x10 1) (leAt h 0x11 1) ((leAt h 0x13 1).testBit 0)
    let s := if s.lenOf 8 = 0 then s else s.advanceCtr (s.cfgB 8 0) (s.cfgB 8 1) ((s.cfgB 8 3).testBit 0)
    let s := s.pyl.elems.foldl (fun s e => s.advanceCtr e.1 e.2.1 e.2.2) s
    s.putB Fld.PYL_IMGSTAT_COMMITTED true

/-! ### Attestation (R757) -/

/-- Bytes 0x0000 to 0x16FF of the report. -/
def State.reportHead (s : State) (nonce : List Byte) : List Byte :=
  let flags := s.get Fld.PYL_STAT_DEBUG + 2 * s.get Fld.PYL_IMGSTAT_COMMITTED + (if s.load.fallback then 4 else 0) +
    (if s.pyl.viol then 8 else 0)
  let fit (n : Nat) (l : List Byte) : List Byte := (l ++ List.replicate n 0).take n
  [0x50, 0x41, 0x54, 0x54] ++ toLE 2 1 ++ toLE 1 s.lifecycle ++ toLE 1 s.role ++ toLE 4 flags ++ toLE 4 (s.reg Reg.ABT_ID) ++
  fit 8 s.pyl.serial ++ toLE 8 s.siteNs ++ fit 32 nonce ++ (List.range 4).flatMap s.meas ++
  fit 32 (if s.vehicle then [] else s.load.swid) ++ (List.range 64).flatMap (fun i => toLE 1 (s.ctr i)) ++
  (List.range 19).flatMap (fun n => toLE 4 (s.get (Fld.PYL_VIOL_VALUE n))) ++ List.replicate 20 0 ++
  fit 1984 (pairOf s.aliasSeed) ++ fit 3373 s.pyl.endorse ++ List.replicate 19 0

/-- The alias endorsement, formed once per reset. -/
def State.formEndorse (s : State) : State :=
  if s.pyl.endorse != [] then s
  else
    let (e, s) := s.signPair s.devSeed (sha3 512 (pairOf s.aliasSeed))
    s.modPyl (fun p => { p with endorse := e })

/-- 0x50. -/
def execAttestationReport (s : State) : Out :=
  s.pylRun 0x50 (fun s c i _ =>
    if !s.hasIds || s.bit Fld.PYL_STAT_DEBUG then s.pylEnd 0x23 0
    else
      let s := s.formEndorse
      let h := s.reportHead i
      let (sig, s) := s.signPair s.aliasSeed (sha3 512 h)
      s.pylOk c (h ++ sig) id)

/-! ### Authorisations and lifecycle (R765 to R768) -/

/-- Slots of a class: the first and how many (R743). -/
def classSlots (c : Nat) : Nat × Nat := nth (0, 0) [(0, 4), (4, 2), (6, 2), (8, 4)] c
def inClass (c g : Nat) : Bool := decide ((classSlots c).1 ≤ g ∧ g < (classSlots c).1 + (classSlots c).2)

/-- Target slot of an authorisation. -/
def authSlot (a : List Byte) : Nat := (classSlots (Config.keyClass (leAt a 5 1))).1 + leAt a 6 1

/-- R766, R767: the authorisation is refused with STATUS 0x24. -/
def State.authBad (s : State) (a : List Byte) : Bool :=
  let kind := leAt a 4 1
  let cls := Config.keyClass (leAt a 5 1)
  let signer := leAt a 7 1
  let g := authSlot a
  let dig := sha3 512 (a.take 128)
  let live := mclr (s.get Fld.PYL_KFUSE_FUSED) (s.get Fld.PYL_KFUSE_REVOKED)
  a.length != 3501 || a.take 4 != [0x50, 0x4B, 0x4D, 0x41] || kind == 0 || decide (4 < kind) ||
  !zeroIn a 0x50 48 || (kind != 1 && !zeroIn a 0x30 32) ||
  !s.presented signer || pairReason (nth [] s.pyl.keys signer) dig ((a.drop 0x80).take 64) (a.drop 0xC0) != 0 ||
  (a.drop 8).take 8 != s.pyl.serial || (a.drop 0x10).take 32 != s.wordsOf (Reg.PYL_NONCE 0) 8 ||
  (if kind ≤ 2 then !inClass cls signer || !inClass cls g else !inClass 0 signer) ||
  (kind == 1 && (s.get Fld.PYL_KFUSE_FUSED).testBit g) || (kind == 2 && mclr live (2 ^ g) % 16 == 0)

/-- 0x60 (R764, R766 to R768). -/
def execKeyAuthorisation (s : State) : Out :=
  s.pylRun 0x60 (fun s _ a _ =>
    let kind := leAt a 4 1
    let g := authSlot a
    if (kind = 1 ∧ s.lifecycle = 3) ∨ (kind = 3 ∧ s.lifecycle ≠ 2) then s.pylEnd 0x23 0
    else if s.authBad a then (s.putB Fld.PYL_EVT_AUTH_REF true).pylEnd 0x24 0
    else
      let s := if kind = 1 then (s.modPyl (fun p => { p with hashes := updAt p.hashes g (fun _ => (a.drop 0x30).take 32) })).putBit
          Fld.PYL_KFUSE_FUSED g true
        else if kind = 2 then s.putBit Fld.PYL_KFUSE_REVOKED g true
        else if kind = 3 then s.modPyl (fun p => { p with lcNext := 3 })
        else s.putB Fld.PYL_STAT_DEBUG true
      (s.newNonce.putB Fld.PYL_EVT_AUTH_OK true).pylEnd 0 0)

/-- PYL_LCCTL (R765). -/
def State.wrLcctl (s : State) (v : Nat) : State :=
  if v / 65536 % 65536 ≠ 0x1D7E ∨ v % 4 ≠ 2 then s
  else
    let f := s.get Fld.PYL_KFUSE_FUSED
    if s.lifecycle = 1 ∧ f.testBit 0 ∧ (f.testBit 6 ∨ f.testBit 7) then s.modPyl (fun p => { p with lcNext := 2 })
    else s.putB Fld.PYL_EVT_LC_REF true

/-! ### Completion, violation totals -/

def knownOps : List Nat := [0x01, 0x02, 0x03, 0x10, 0x11, 0x12, 0x13, 0x14, 0x20, 0x21, 0x30, 0x31, 0x32, 0x40, 0x41, 0x50, 0x60]

/-- R758: the command in service completes; an unknown OP has STATUS 0x20. -/
def execPylonCommandDone (s : State) : Out :=
  .next (match s.pyl.cmd with
    | none => s
    | some c =>
      if s.pyl.serving != some 3 || (!c.served && c.op ∈ knownOps) then s
      else
        let st := if c.served then c.status else 0x20
        let s := s.dmaWrite 12 (c.addr + 0x1C) (toLE 4 c.outLen ++ toLE 4 st)
        let s := ((s.put Fld.PYL_CMDCTL_STATUS st).putB Fld.PYL_CMDCTL_DONE true).putB Fld.PYL_CMDCTL_BUSY false
        s.modPyl (fun p => { p with cmd := none, serving := none }))

/-- R769: Pylon reads every violation counter into its totals. -/
def execViolationPoll (s : State) : Out :=
  .next (if s.asleep || s.load.stage != .run then s
    else forEach (List.range 19) s (fun s n =>
      let k := s.get (Fld.CWY_VIOL_COUNT n)
      if k = 0 then s
      else
        let s := (s.put (Fld.CWY_VIOL_COUNT n) 0).put (Fld.PYL_VIOL_VALUE n) (min (2 ^ 32 - 1) (s.get (Fld.PYL_VIOL_VALUE n) + k))
        let s := (s.put (Fld.PYL_VADDR_VALUE n) (s.get (Fld.CWY_VADDR_ADDR n))).putBit Fld.PYL_VIOLSUM_NEW n true
        if k = 0xFFFF then s.putBit Fld.PYL_VIOLSAT_SAT n true else s))

end Sys2Proof.Machine
end

