-- ==== Sys2Proof/Machine/Stay.lean ====
section
/-! DEFINITION. The Stay: the thermal model of each outlet cable, its ceiling and its actuators (spec/11, R477 to R504). -/

namespace Sys2Proof.Machine

def State.cbl (s : State) (m : Nat) : Cable := nth {} s.sty m
def State.modCbl (s : State) (m : Nat) (f : Cable → Cable) : State := { s with sty := updAt s.sty m f }

/-! ### The section (R480 to R482) -/

/-- Unsigned and signed 16.16 numbers of block m. -/
def State.styU (s : State) (m o : Nat) : Rat := q16 (s.cfg 0x0A (512 * m + o) 4)
def State.styS (s : State) (m o : Nat) : Rat := q16i (s.cfgS 0x0A (512 * m + o) 4)
def State.styUse (s : State) (m : Nat) : Bool := s.cfgB 0x0A (512 * m) % 2 == 1
def State.styInlet (s : State) (m : Nat) : Bool := s.cfgB 0x0A (512 * m) / 2 % 2 == 1

/-- Limits in use, °C (R494). -/
def State.limCond (s : State) (m : Nat) : Rat := ((s.getS (Fld.STY_CBL_LIM_COND m) : Int) : Rat) / 256
def State.limCont (s : State) (m : Nat) : Rat := ((s.getS (Fld.STY_CBL_LIM_CONT m) : Int) : Rat) / 256

/-- Input j of block m (R481, R482, R496): absent, invalid, or its value. -/
def State.styIn (s : State) (m j : Nat) : Option (Option Rat) :=
  let o := 512 * m + 0x80 + 16 * j
  let src := s.cfg 0x0A o 4
  let v : Option Rat := match src / 2 ^ 28 with
    | 1 =>
      let c := s.port (src % 16384)
      if c = 0x8000 then none else some ((toS 16 c : Rat) / 32768 * q16i (s.cfgS 0x0A (o + 4) 4) + q16i (s.cfgS 0x0A (o + 8) 4))
    | 2 => if (s.cbl m).fresh.testBit j then some (q16i (s.getS (Fld.STY_CBL_FW_VALUE m j))) else none
    | _ => some ((s.get (Fld.TRS_CH_CUR_IMEAS (src % 16)) : Rat) / 1000)
  if src / 2 ^ 28 = 0 then none
  else some (v.bind (fun x =>
    if ((s.cfgS 0x0A (o + 12) 2 : Int) : Rat) ≤ x ∧ x ≤ ((s.cfgS 0x0A (o + 14) 2 : Int) : Rat) then some x else none))

/-- Trestle channel named by PUMP_CH, FAN_CH, VALVE_CH (k = 0, 1, 2). -/
def State.styCh (s : State) (m k : Nat) : Option Nat :=
  let c := s.cfgB 0x0A (512 * m + 1 + k)
  if c < 16 then some c else none

/-- Duration of a Stay period in µs (R477). -/
def State.stayUs (s : State) : Nat := s.get Fld.STY_PERIOD_N_STAY * s.periodUs

/-! ### q, gathered each control period (R485) -/

/-- What a control period contributes, A. -/
def State.styCurrent (s : State) (m : Nat) : Rat × Rat :=
  if s.styInlet m then
    match s.styIn m 7 with | some (some i) => (i, 0) | _ => (s.styU m 0x3C, 0)
  else
    match s.role1 m with
    | some k =>
      if k.idle || k.holding then (max (absR (s.outRefA m)) (absR (s.cbl m).lastFb), (s.cbl m).lastFb)
      else (s.outI m, s.outI m)
    | none => (max (absR (s.outRefA m)) (absR (s.cbl m).lastFb), (s.cbl m).lastFb)

/-- The contributions of the control period that has ended. -/
def State.styGather (s : State) : State :=
  forEach ((List.range 8).filter s.styUse) s (fun s m =>
    let (i, l) := s.styCurrent m
    s.modCbl m (fun c => { c with qSum := c.qSum + i * i, qN := c.qN + 1, lastFb := l }))

/-! ### The model and the limbs -/

/-- Loop resistance at temperature t, Ω (R486). -/
def State.styR (s : State) (m : Nat) (t : Rat) : Rat :=
  (s.cfg 0x0A (512 * m + 4) 4 : Rat) / 1000000 * (1 + (s.cfg 0x0A (512 * m + 8) 4 : Rat) / 1000000 * (t - s.styS m 0xC))

/-- Conductor-to-coolant resistance, K/W. -/
def State.styRcw (s : State) (m : Nat) : Rat := s.styU m 0x18 / 1000

/-- g = f × RHO_CP / 60, W/K. -/
def State.styG (s : State) (m : Nat) (f : Rat) : Rat := f * s.styU m 0x1C / 60

/-- Inputs as the model uses them (R497): tin, tout, flow, contact sensors with substitutes, which of them are valid. -/
structure StyUse where
  tin : Rat := 0
  tout : Option Rat := none
  flow : Rat := 0
  ts : List (Option Rat) := [none, none]
  ok : List Bool := [false, false]

/-- One step of the contact node (R486, R497, R498). -/
def stepContact (dtTau : Option Rat) (kct q : Rat) (ok : Bool) (ts tk : Option Rat) : Option Rat :=
  match ok, ts, tk with
  | true, some t, some k =>
    let goal := t + kct * q / 1000000
    match dtTau with | some x => some (k + x * (goal - k)) | none => some goal
  | _, t, _ => t

/-- R486: the model moves by one Stay period. -/
def State.styModel (s : State) (m : Nat) (u : StyUse) (q : Rat) (c : Cable) : Cable :=
  let dt : Rat := (s.stayUs : Rat) / 1000000
  let g := s.styG m u.flow
  let hcw := (c.tc - c.tw) / s.styRcw m
  let tc := c.tc + dt / s.styU m 0x10 * (q * s.styR m c.tc - hcw)
  let tw := c.tw + dt / s.styU m 0x14 * (hcw - 2 * g * (c.tw - u.tin))
  let tw := match u.tout with | some o => tw + s.styU m 0x20 * ((u.tin + o) / 2 - tw) | none => tw
  let tau := s.styU m 0x28
  let x : Option Rat := if tau = 0 then none else some (dt / tau)
  { c with tc := tc, tw := tw, age := c.age + s.stayUs,
           tk := [0, 1].map (fun i => stepContact x (s.styU m 0x24) q (nth false u.ok i) (nth none u.ts i) (nth none c.tk i)) }

/-- R487: the block starts from its inputs. -/
def styStart (u : StyUse) (c : Cable) : Cable :=
  let tw := match u.tout with | some o => (u.tin + o) / 2 | none => u.tin
  let sens := ([0, 1].filterMap (fun i => if nth false u.ok i then nth none u.ts i else none))
  { c with started := true, first := true, age := 0, tw := tw, tc := sens.foldl max tw, tk := u.ts }

/-- A square of a current; none is no limit. -/
abbrev Sq := Option Rat

/-- Conductor limb, A² (R489). -/
def State.limbCond (s : State) (m : Nat) (u : StyUse) (c : Cable) : Sq :=
  let tl := s.limCond m - s.styU m 0x34
  let r := s.styR m tl
  let g := s.styG m u.flow
  let l := s.styU m 0x38
  if tl ≤ c.tc then some 0
  else if r ≤ 0 then none
  else if g ≤ 0 then some (max 0 (s.styU m 0x10 * (tl - c.tc) / (l * r)))
  else
    let gt := 1 / (s.styRcw m + 1 / (2 * g))
    let a := Config.exp (-(l * gt / s.styU m 0x10))
    some (max 0 (gt * ((tl - a * c.tc) / (1 - a) - u.tin) / r))

/-- Limb of contact i, A² (R490, R498). -/
def State.limbCont (s : State) (m : Nat) (u : StyUse) (c : Cable) (i : Nat) : Sq :=
  if !u.ok.any id then some 0
  else match nth false u.ok i, nth none u.ts i, nth none c.tk i with
  | true, some t, some k =>
    let tl := s.limCont m - s.styU m 0x34
    let kct := s.styU m 0x24
    if tl ≤ k then some 0
    else if kct = 0 then none
    else
      let a := if s.styU m 0x28 = 0 then 0 else Config.exp (-(s.styU m 0x38 / s.styU m 0x28))
      some (max 0 (((tl - a * k) / (1 - a) - t) / kct * 1000000))
  | _, _, _ => none

/-- The lesser of two squares, the earlier where equal, with its BIND code. -/
def sqMin (a b : Sq × Nat) : Sq × Nat :=
  match a.1, b.1 with
  | some x, some y => if y < x then b else a
  | none, some _ => b
  | _, none => a

/-- uQ13.3 code of the root of a square, rounded down (R491). -/
def rootCode (x : Sq) : Nat :=
  match x with | some q => min 0xFFFF (Nat.sqrt (q * 64).floor.toNat) | none => 0xFFFF

/-! ### Actuators (R499 to R501) -/

/-- Linear from y0 at lo to y1 at hi. -/
def ramp (x lo hi y0 y1 : Rat) : Rat := if x ≤ lo then y0 else if hi ≤ x then y1 else y0 + (y1 - y0) * (x - lo) / (hi - lo)

/-- Code of a duty, /255. -/
def dutyCode (d : Rat) : Nat := (clampI (roundFree (d * 255)) 0 255).toNat

/-- The duties become commands of the named channels (R484, R670, R692). -/
def State.styDrive (s : State) (m pump fan : Nat) (valve : Bool) : State :=
  let s := ((s.put (Fld.STY_CBL_DUTY_PUMP m) pump).put (Fld.STY_CBL_DUTY_FAN m) fan).putB (Fld.STY_CBL_DUTY_VALVE m) valve
  forEach ((List.range 3).filterMap (s.styCh m)) s (fun s n => (s.putB (Fld.TRS_CH_STAT_HELD n) false).trsCommand n)

/-- The commands outside an enabled outlet, or STY_CBLm_ACT while HOLD_ACT is 1 (R499, R501). -/
def State.styIdle (s : State) (m : Nat) : State :=
  if s.bit (Fld.STY_CBL_CTRL_HOLD_ACT m) then
    s.styDrive m (s.get (Fld.STY_CBL_ACT_PUMP m)) (s.get (Fld.STY_CBL_ACT_FAN m)) (s.bit (Fld.STY_CBL_ACT_VALVE m))
  else
    let d := if s.bit (Fld.STY_CBL_CTRL_PUMP_ALWAYS m) then dutyCode (s.styU m 0x64) else 0
    s.styDrive m d 0 (d != 0)

/-- The commands while the outlet is enabled and during the run-on (R499). With no valid outlet temperature the spec states no
fan duty: a free value. -/
def State.styRun (s : State) (m : Nat) (u : StyUse) : State :=
  if s.bit (Fld.STY_CBL_CTRL_HOLD_ACT m) then s.styIdle m
  else
    let full := (s.get (Fld.STY_CBL_CEIL_AMPS m) : Rat) / 8 < s.styU m 0x3C
    let p := dutyCode (if full then 1 else ramp (s.cbl m).tc (s.styS m 0x54) (s.styS m 0x58) (s.styU m 0x64) 1)
    let (f, s) := match u.tout with
      | some t => (dutyCode (ramp t (s.styS m 0x5C) (s.styS m 0x60) 0 1), s)
      | none => s.fresh 8
    s.styDrive m p f (p != 0)

/-! ### A Stay period -/

/-- The ceiling goes to its registers (R478, R491, R502). -/
def State.styCeil (s : State) (m code bind : Nat) : State :=
  let s := if code = 0 && s.get (Fld.STY_CBL_CEIL_AMPS m) != 0 then s.putB (Fld.STY_CBL_EVT_ZERO m) true else s
  let s := (s.put (Fld.STY_CBL_CEIL_AMPS m) code).put (Fld.STY_CBL_STAT_BIND m) bind
  if s.role = 2 && (s.role1 m).isNone then s else s.put (Fld.KST_OUT_STYI_AMPS m) code

/-- VLK_Ln_EMAXI in the VEHICLE role: the lesser of BMSI and the ceiling of the inlet block (R532). -/
def State.writeEmaxI (s : State) (n : Nat) : State :=
  if s.role = 2 && s.vlUse n == 2 then
    let c := s.get (Fld.STY_CBL_CEIL_AMPS (s.vlOutlet n))
    (s.put (Fld.VLK_L_EMAXI_CHG n) (min c (s.get (Fld.VLK_L_BMSI_CHG n)))).put (Fld.VLK_L_EMAXI_DIS n)
      (min c (s.get (Fld.VLK_L_BMSI_DIS n)))
  else s

/-- The flow is taken as 0, or as measured again (R500). -/
def State.styFlow (s : State) (m : Nat) (zero : Bool) : State :=
  if s.bit (Fld.STY_CBL_STAT_FLOW_IMPL m) = zero then s
  else
    let s := (s.putB (Fld.STY_CBL_STAT_FLOW_IMPL m) zero).putB (Fld.STY_CBL_EVT_FLOW m) true
    if zero then s.reportOutlet 0x2A clsC 5 m else s

/-- read_inputs() (R496, R497): validity, substitutes, faults. -/
def State.styRead (s : State) (m : Nat) : StyUse × State :=
  let ins := (List.range 8).map (s.styIn m)
  let v (j : Nat) : Option Rat := (nth none ins j).join
  let bad (j : Nat) : Bool := nth none ins j == some none
  let inv := ((List.range 8).filter bad).foldl (fun a j => a + 2 ^ j) 0
  let old := s.get (Fld.STY_CBL_STAT_INVALID m)
  let s := if inv = old then s else (s.put (Fld.STY_CBL_STAT_INVALID m) inv).putB (Fld.STY_CBL_EVT_SENSOR m) true
  let dead := (v 3).isNone && (v 4).isNone
  let s := forEach (mbits (mclr inv old) 8) s (fun s j =>
    if (j = 3 || j = 4) && dead then s else s.reportOutlet 0x2A clsC j m)
  let was := (s.cbl m).dead
  let s := s.modCbl m (fun c => { c with dead := dead })
  let s := if dead && !was then s.reportOutlet 0x2A clsB 3 m else s
  let add := s.styU m 0x48
  let ts (j k : Nat) : Option Rat := match v j with
    | some x => some x
    | none => if bad j then (v k).map (· + add) else none
  let held := match s.styCh m 0 with | some n => s.trsHeldOff n | none => false
  let s := s.putB (Fld.STY_CBL_STAT_ACT_HELD m) held
  let s := if held then s.styFlow m true else if bad 5 then s.styFlow m false else s
  let sub := bad 2 && !s.bit (Fld.STY_CBL_STAT_FLOW_IMPL m)
  let flow := if s.bit (Fld.STY_CBL_STAT_FLOW_IMPL m) then 0
    else match v 2 with
      | some f => f
      | none => s.styU m 0x4C * s.get (Fld.STY_CBL_DUTY_PUMP m) / 255
  let s := (s.putB (Fld.STY_CBL_STAT_IN_SUB m) (bad 0)).putB (Fld.STY_CBL_STAT_FLOW_SUB m) sub
  let u : StyUse := { tin := (v 0).getD (s.styS m 0x44), tout := v 1, flow := flow, ts := [ts 3 4, ts 4 3],
                      ok := [(v 3).isSome, (v 4).isSome] }
  let shown : List (Option Rat) := [some u.tin, u.tout, some flow, ts 3 4, ts 4 3, v 5, v 6, v 7]
  let s := (shown.zipIdx).foldl (fun s x => match x.1 with
    | some r => s.putS (Fld.STY_CBL_VAL_VALUE m x.2) (roundFree (r * 65536))
    | none => s.put (Fld.STY_CBL_VAL_VALUE m x.2) 0x80000000) s
  (u, s)

/-- A temperature register. -/
def State.putTemp (s : State) (f : FieldRef) (t : Option Rat) : State :=
  match t with | some x => s.putS f (roundFree (x * 65536)) | none => s.put f 0x80000000

/-- R493: a node at its limit, and the return. -/
def State.styLimit (s : State) (m : Nat) (u : StyUse) : State :=
  let c := s.cbl m
  let lc := s.limCond m
  let lk := s.limCont m
  let mg := s.styU m 0x34
  let hot := c.tk.filterMap id ++ [0, 1].filterMap (fun i => if nth false u.ok i then nth none u.ts i else none)
  if lc ≤ c.tc || hot.any (fun t => decide (lk ≤ t)) then
    if s.bit (Fld.STY_CBL_STAT_OVER m) then s
    else ((s.putB (Fld.STY_CBL_STAT_OVER m) true).putB (Fld.STY_CBL_EVT_LIMIT m) true).reportOutlet 0x2A clsB 0xFF m
  else if c.tc < lc - mg && hot.all (fun t => decide (t < lk - mg)) then s.putB (Fld.STY_CBL_STAT_OVER m) false
  else s

/-- A block whose EN is 1 (R478). -/
def State.styBlock (s : State) (m : Nat) : State :=
  let c0 := s.cbl m
  let q : Rat := if s.styInlet m && (s.styIn m 7).join.isNone then s.styU m 0x3C * s.styU m 0x3C
    else if c0.qN = 0 then 0 else c0.qSum / c0.qN
  let (u, s) := s.styRead m
  let s := s.modCbl m (fun c => { (if c.started then s.styModel m u q c else styStart u c) with qSum := 0, qN := 0 })
  let s := s.putB (Fld.STY_CBL_STAT_RUNNING m) true
  let c := s.cbl m
  let cond := s.limbCond m u c
  let max0 : Sq := some (s.styU m 0x3C * s.styU m 0x3C)
  let b := sqMin (sqMin (sqMin (max0, 0) (cond, 1)) (s.limbCont m u c 0, 2)) (s.limbCont m u c 1, 3)
  let up := (s.get (Fld.STY_CBL_CEIL_AMPS m) : Rat) / 8 + s.styU m 0x40
  let b := if c.first then b else sqMin b (some (up * up), 4)
  let s := (s.styCeil m (rootCode b.1) b.2).put (Fld.STY_CBL_CEIL_LIMB m) (rootCode cond)
  let s := (s.modCbl m (fun c => { c with first := false })).styLimit m u
  let s := (s.putTemp (Fld.STY_CBL_TCOND_DEG m) (some c.tc)).putTemp (Fld.STY_CBL_TCOOL_DEG m) (some c.tw)
  let s := (s.putTemp (Fld.STY_CBL_TCONT_DEG m 0) (nth none c.tk 0)).putTemp (Fld.STY_CBL_TCONT_DEG m 1) (nth none c.tk 1)
  let ok := !(s.bit (Fld.STY_CBL_STAT_IN_SUB m)) && !(s.bit (Fld.STY_CBL_STAT_FLOW_SUB m)) &&
    !(s.bit (Fld.STY_CBL_STAT_FLOW_IMPL m)) && decide (10000000 ≤ c.age)
  let s := s.putB (Fld.STY_CBL_STAT_EST_OK m) ok
  let s := if s.styInlet m then s else s.setTheta m c.tc ok
  let on := s.bit (Fld.KST_OUT_CTRL_EN m) && s.get (Fld.STY_CBL_CEIL_AMPS m) != 0
  let s := if on then s.putB (Fld.STY_CBL_STAT_RUN_ON m) false
    else if (s.cbl m).active then s.putB (Fld.STY_CBL_STAT_RUN_ON m) (s.styU m 0x68 != 0) else s
  let s := s.modCbl m (fun c => { c with active := on })
  if on || s.bit (Fld.STY_CBL_STAT_RUN_ON m) then s.styRun m u else s.styIdle m

/-- A block whose EN is 0 (R488). -/
def State.styStopped (s : State) (m : Nat) : State :=
  let s := s.modCbl m (fun c => { c with started := false, active := false, qSum := 0, qN := 0 })
  let s := (((s.putB (Fld.STY_CBL_STAT_RUNNING m) false).putB (Fld.STY_CBL_STAT_EST_OK m) false).putB
    (Fld.STY_CBL_STAT_RUN_ON m) false).styCeil m 0 0
  let s := if s.styInlet m then s else s.setTheta m (s.cbl m).tc false
  s.styIdle m

/-- The Stay runs: from the seal on, while PD3 is on (R502, R704, R705). -/
def State.stayOn (s : State) : Bool := s.prp.running && s.pwr.domains.testBit 3

/-- The current of the pump lies outside its band at a duty of at least 0.25 (R500). Not tested without a valid pump current. -/
def State.pumpOff (s : State) (m : Nat) : Bool :=
  match (s.styIn m 5).join with
  | some i =>
    let d := s.get (Fld.STY_CBL_DUTY_PUMP m)
    64 ≤ d && (decide (i < (d : Rat) / 255 * s.styU m 0x6C) || decide ((d : Rat) / 255 * s.styU m 0x70 < i))
  | none => false

/-- R478: a Stay period. -/
def execStayPeriod (s : State) : Out :=
  .next (if !s.stayOn then s
    else
      let s := s.put Fld.STY_PERIOD_SSEQ (s.get Fld.STY_PERIOD_SSEQ + 1)
      let s := forEach ((List.range 8).filter s.styUse) s (fun s m =>
        if s.bit (Fld.STY_CBL_CTRL_EN m) then s.styBlock m else s.styStopped m)
      forEach (List.range 8) s State.writeEmaxI)

/-- R496: FRESH_MS has passed since firmware wrote input j. -/
def execFwInputStale (b : Fin 8) (j : Fin 8) (s : State) : Out :=
  .next (s.modCbl b (fun c => { c with fresh := mset c.fresh j false }))

/-- R500: the pump has been implausible for PLAUS_TIME. -/
def execPumpImplausible (b : Fin 8) (s : State) : Out :=
  .next (if s.stayOn && s.bit (Fld.STY_CBL_STAT_RUNNING b) && s.pumpOff b then s.styFlow b true else s)

/-- R500: the pump has been plausible for PLAUS_TIME. -/
def execFlowRestored (b : Fin 8) (s : State) : Out :=
  .next (if !s.stayOn || s.bit (Fld.STY_CBL_STAT_ACT_HELD b) || s.pumpOff b then s else s.styFlow b false)

/-- R499: RUN_ON has passed. -/
def execRunOnExpiry (b : Fin 8) (s : State) : Out :=
  .next (if s.stayOn && s.bit (Fld.STY_CBL_STAT_RUN_ON b) then (s.putB (Fld.STY_CBL_STAT_RUN_ON b) false).styIdle b else s)

/-! ### Registers -/

/-- A write of STY_CBLm_CTRL (R488). -/
def State.wrStyCtrl (s : State) (m v : Nat) : State :=
  let was := s.bit (Fld.STY_CBL_CTRL_EN m)
  let s := s.writeByCode (Reg.STY_CBL_CTRL m) (if s.styUse m then v else mset v 0 false)
  if s.bit (Fld.STY_CBL_CTRL_EN m) && !was then s.modCbl m (fun c => { c with started := false }) else s

/-- A limit of the image in sQ7.8. -/
def State.limImage (s : State) (m o : Nat) : Int := codeFree (s.styS m o) 8 (-32768) 32767

/-- A write of STY_CBLm_LIM (R494). -/
def State.wrStyLim (s : State) (m v : Nat) : State :=
  (s.putS (Fld.STY_CBL_LIM_COND m) (min (toS 16 v) (s.limImage m 0x2C))).putS (Fld.STY_CBL_LIM_CONT m)
    (min (toS 16 (v / 65536)) (s.limImage m 0x30))

/-- A write of STY_CBLm_FWj restarts its timer (R496). -/
def State.wrStyFw (s : State) (m j v : Nat) : State :=
  (s.put (Fld.STY_CBL_FW_VALUE m j) v).modCbl m (fun c => { c with fresh := mset c.fresh j true })

/-- The STAY section configures the blocks (R477, R488, R503). -/
def State.styConfig (s : State) : State :=
  let n := if s.periodUs = 0 then 0 else (10000 + s.periodUs - 1) / s.periodUs
  let s := s.put Fld.STY_PERIOD_N_STAY n
  forEach (List.range 8) s (fun s m =>
    let s := ((s.putB (Fld.STY_CBL_CTRL_EN m) (s.styUse m)).putB (Fld.STY_CBL_CTRL_PUMP_ALWAYS m)
      ((s.cfgB 0x0A (512 * m)).testBit 2)).modCbl m (fun _ => {})
    (s.putS (Fld.STY_CBL_LIM_COND m) (s.limImage m 0x2C)).putS (Fld.STY_CBL_LIM_CONT m) (s.limImage m 0x30))

end Sys2Proof.Machine
end

