-- ==== Sys2Proof/Machine/Thermal.lean ====
section
/-! DEFINITION. Housekeeping and throttling (spec/18, R727 to R742; spec/15 R658). Temperatures are codes of sQ8.7 °C. -/

namespace Sys2Proof.Machine

def State.modHkp (s : State) (f : Hkp → Hkp) : State := { s with hkp := f s.hkp }

/-- A level in °C. -/
def degC (t : Int) : Int := 128 * t

/-- The sensors of each die (R727). -/
def dieSensors : List (List Nat) := [[0, 1, 2, 3], [4, 5], [6, 7], [8, 9], [10, 11]]
/-- Nominal rails, mV (R796). -/
def railMv : List Nat := [750, 800, 1800, 3300, 1800, 600, 1100, 1200]

def State.broken (s : State) (n : Nat) : Bool := (s.get Fld.HKP_BROKEN_SNS).testBit n

/-- Sensor n in one round (R728, R729). -/
def State.sense (s : State) (n count : Nat) (temp : Int) : State :=
  let run := if count = s.get (Fld.HKP_TS_COUNT n) then satInc 255 (nth 0 s.hkp.same n) else 1
  let s := s.modHkp (fun h => { h with same := updAt h.same n (fun _ => run) })
  let bad := s.broken n || count == 0 || decide (16 ≤ run) || decide (temp < degC (-55)) || decide (degC 175 < temp)
  let s := if bad && !s.broken n then (s.putBit Fld.HKP_BROKEN_SNS n true).putB Fld.HKP_EVT_BROKEN true else s
  (s.put (Fld.HKP_TS_COUNT n) count).put (Fld.HKP_TS_TEMP n) (if bad then 0x8000 else ofS 16 temp)

/-- Values of the sensors that are not broken, among `l`. -/
def State.liveTemps (s : State) (l : List Nat) : List Int :=
  (l.filter (fun n => !s.broken n)).map (fun n => s.getS (Fld.HKP_TS_TEMP n))

/-- R730: Tj, none when every sensor is broken. -/
def State.tj (s : State) : Option Int :=
  match s.liveTemps (List.range 12) with | [] => none | x :: t => some (t.foldl max x)

/-- One level of R731: its flag, whether it has just been entered, whether it has just cleared. -/
def level (was : Bool) (tj enter : Int) : Bool × Bool × Bool :=
  if was then (decide (degC (enter - 5) ≤ tj), false, decide (tj < degC (enter - 5)))
  else (decide (degC enter ≤ tj), decide (degC enter ≤ tj), false)

/-- R734: the throttle is enforced; the grace is over. -/
def State.enforce (s : State) : State :=
  let s := s.putB Fld.HKP_TSTAT_GRACE false
  if s.bit Fld.HKP_TSTAT_ENFORCED then s
  else ((s.putB Fld.HKP_TSTAT_ENFORCED true).putB Fld.HKP_EVT_ENFORCE true).modHkp (fun h => { h with clear := 0 })

/-- R731: warning, throttle request and critical. -/
def State.levels (s : State) (tj : Int) : State :=
  let w := level (s.bit Fld.HKP_TSTAT_WARN) tj 115
  let r := level (s.bit Fld.HKP_TSTAT_REQ) tj 125
  let c := level s.hkp.critical tj 140
  let s := s.putB Fld.HKP_TSTAT_WARN w.1
  let s := if w.2.1 then s.putB Fld.HKP_EVT_WARN true else s
  let s := s.putB Fld.HKP_TSTAT_REQ r.1
  let s := if r.2.1 then (s.putB Fld.HKP_EVT_REQ true).putB Fld.HKP_TSTAT_GRACE true
    else if r.2.2 then s.putB Fld.HKP_TSTAT_GRACE false else s
  let s := (s.putB Fld.HKP_TSTAT_CRIT c.1).modHkp (fun h => { h with critical := c.1 })
  let s := if w.2.2 || r.2.2 || c.2.2 then s.putB Fld.HKP_EVT_CLEAR true else s
  if c.2.1 then (s.putB Fld.HKP_EVT_CRIT true).report 0x2E clsB 0xFF 0xFF 0 else s

/-- R735: a round in which nothing enforces the throttle: the enforcement ends with the eighth calm one in a row. -/
def State.calmRound (s : State) : State :=
  let calm := !s.bit Fld.HKP_TSTAT_REQ && s.get Fld.HKP_BROKEN_SNS == 0
  let s := s.modHkp (fun h => { h with clear := if calm then satInc 8 h.clear else 0 })
  if s.bit Fld.HKP_TSTAT_ENFORCED && s.hkp.clear == 8 then (s.putB Fld.HKP_TSTAT_ENFORCED false).putB Fld.HKP_EVT_CLEAR true else s

/-- R737: some vote is at or above 150 °C; a die without a sound sensor votes as at 175 °C. -/
def State.hotVote (s : State) : Bool :=
  dieSensors.any (fun d => match s.liveTemps d with | [] => true | l => l.any (fun t => decide (degC 150 ≤ t)))

/-- R738: the junction shutdown. -/
def State.shutdown (s : State) : State :=
  let s := (s.modHkp (fun h => { h with shutdown := true })).report 0x2F clsA 0xFF 0xFF 0xFFF
  ((s.loseSupply s.pwr.vhold30).modPwr (fun p => { p with shutLatch := true })).shutOff

/-- R728 to R738, R741: a round ends with the count of each sensor, its converted value and the rails in mV. -/
def execHousekeepingRound (counts : List (BitVec 16)) (temps : List Int) (rails : List (BitVec 16)) (s : State) : Out :=
  .next (if s.pwr.st = .park ∨ s.pwr.st = .off ∨ s.pwr.shutLatch then s
    else
      let was := s.get Fld.HKP_BROKEN_SNS
      let s := forEach (List.range 12) s (fun s n => s.sense n (nth 0 counts n).toNat (nth 0 temps n))
      let s := forEach (List.range 8) s (fun s k =>
        let mv := (nth 0 rails k).toNat
        let s := s.put (Fld.HKP_RAIL_MV k) mv
        let nom := nth 0 railMv k
        if mv * 100 < nom * 95 ∨ nom * 105 < mv * 100 then s.putB Fld.HKP_EVT_RAIL true else s)
      let s := match s.tj with
        | none => s.put Fld.HKP_TMAX_TJ 0x8000
        | some t =>
          let s := (s.put Fld.HKP_TMAX_TJ (ofS 16 t)).put Fld.HKP_TMAX_PEAK (ofS 16 (max t (s.getS Fld.HKP_TMAX_PEAK)))
          s.levels t
      let s := if s.hkp.now || s.get Fld.HKP_BROKEN_SNS != was then s.enforce.modHkp (fun h => { h with now := false, clear := 0 })
        else s.calmRound
      let hot := s.hotVote
      let again := s.hkp.vote
      let s := s.modHkp (fun h => { h with vote := hot })
      if hot && again then s.shutdown else s)

/-- R732: the round that ends the grace has ended. -/
def execGraceExpiry (s : State) : Out :=
  .next (if s.bit Fld.HKP_TSTAT_GRACE then
      (if s.bit Fld.HKP_TSTAT_REQ then s.enforce else s.putB Fld.HKP_TSTAT_GRACE false) else s)

/-- HKP_THRCTL (R732, R733). -/
def State.wrThrctl (s : State) (v : Nat) : State :=
  let g := v % 256
  let s := if 5 ≤ g ∧ g ≤ 200 then s.put Fld.HKP_THRCTL_GRACE g else s
  if v.testBit 8 then s.modHkp (fun h => { h with now := true }) else s

/-- R658: the Truss configuration is read back against the hash of its section. -/
def execTrussReadbackCheck (equal : Bool) (s : State) : Out :=
  .next (if !s.prp.running || !s.pwr.domains.testBit 3 then s
    else
      let s := { s with prp := { s.prp with trussBad := !equal } }
      if equal then s else s.report 0x0E clsA 0xFF 0xFF 0xFFF)

end Sys2Proof.Machine
end

