-- ==== Sys2Proof/Machine/Vlink.lean ====
section
/-! DEFINITION. The vehicle links: pilot, connection, charge loop, V2GTP, the messages between two devices, HomePlug Green PHY
and 10BASE-T1S (spec/12, spec/13). -/

namespace Sys2Proof.Machine

/-- A parameter of the VLINK block of link n (R506, R546). -/
def State.vcfg (s : State) (n o k : Nat) : Nat := s.cfg 0x0C (0x400 * n + o) k
def State.vlUsed (s : State) (n : Nat) : Bool := s.vlUse n != 0
def State.secc (s : State) (n : Nat) : Bool := s.vlUse n == 1
def State.evcc (s : State) (n : Nat) : Bool := s.vlUse n == 2
def State.pilotRemote (s : State) (n : Nat) : Bool := (s.vcfg n 1 1).testBit 0
def State.vlEn (s : State) (n : Nat) : Bool := s.bit (Fld.VLK_L_CTRL_EN n)
/-- HPGP over the integrated front end, and over a modem on the SPI host (R545, R571). -/
def State.hpgp (s : State) (n : Nat) : Bool := s.vlUsed n && s.vlKind n == 1
def State.modem (s : State) (n : Nat) : Bool := s.vlUsed n && s.vlKind n == 2 && s.vcfg n 0 1 == 2
def State.lflag (s : State) (n b : Nat) : Bool := (s.vcfg n 0x100 1).testBit b
/-- The state of the connected flag, and of the link. -/
def State.connected (s : State) (n : Nat) : Bool := s.bit (Fld.VLK_L_CONT_CONNECTED n)
def State.linkUp (s : State) (n : Nat) : Bool := s.bit (Fld.VLK_L_SESS_LINK n)

/-- Transmit power spectral density of link n in half dB of 1 dBm/Hz: −75 dBm/Hz less TX_ATTEN × 0.5 dB (R550). -/
def State.txPsd (s : State) (n : Nat) : Int := -150 - s.vcfg n 0x102 1

/-- A frame leaves link n on the power line at a channel-access priority in a robust mode (R549). -/
def State.onAir (s : State) (n cap mode : Nat) : State :=
  s.modVl n (fun l => { l with air := some ⟨cap, mode, s.txPsd n⟩ })

/-- A management, SLAC or broadcast frame leaves: CAP3 in MINI-ROBO (R549). -/
def State.mgmtAir (s : State) (n : Nat) : State := s.onAir n 3 2

/-! ### Pilot and contacts (R515 to R519) -/

def meanMv (l : List Int) : Rat := if l = [] then 0 else ((l.foldl (· + ·) 0 : Int) : Rat) / ((l.length : Nat) : Rat)

/-- R515: a pilot cycle starts, and DUTY takes effect. -/
def execPilotPwmCycle (n : Fin 8) (s : State) : Out :=
  .next (if s.secc n && s.bit (Fld.VLK_L_CTRL_PWM n) then s.modVl n (fun l => { l with duty := s.get (Fld.VLK_L_PILOT_DUTY n) })
    else s)

/-- Level of a control contact in its band (R518). -/
def ccLevel (v lo hi : Nat) : Nat := if v < lo then 0 else if hi < v then 2 else 1

/-- R516, R518, R542: plateau measurements in mV at VLn_CP_IN, the measured duty, the proximity resistance and the contact
voltages in mV. -/
def execPilotMeasurement (n : Fin 8) (hi lo : Option Int) (dutyIn : Fin 1024) (pp cc1 cc2 : BitVec 16) (s : State) : Out :=
  .next (if !s.vlUsed n then s
    else
      let scale (x : Int) : Int := roundFree ((x : Rat) * q16 (s.vcfg n 4 4))
      let s := if s.pilotRemote n then s
        else
          let s := s.modVl n (fun l => { l with
            his := (match hi with | some x => (scale x :: l.his).take 8 | none => l.his)
            los := (match lo with | some x => (scale x :: l.los).take 8 | none => l.los) })
          let s := (s.putS (Fld.VLK_L_PMEAS_HI n) (roundFree (meanMv (s.vl n).his))).putS (Fld.VLK_L_PMEAS_LO n)
            (roundFree (meanMv (s.vl n).los))
          if s.evcc n then s.put (Fld.VLK_L_PILOT_DUTY_IN n) dutyIn else s
      let s := (s.put (Fld.VLK_L_CONT_PP n) pp.toNat).put (Fld.VLK_L_CCV_CC1 n) cc1.toNat
      let s := (s.put (Fld.VLK_L_CCV_CC2 n) cc2.toNat).put (Fld.VLK_L_CONT_CC1 n) (ccLevel cc1.toNat (s.vcfg n 8 2) (s.vcfg n 0xA 2))
      s.put (Fld.VLK_L_CONT_CC2 n) (ccLevel cc2.toNat (s.vcfg n 0xC 2) (s.vcfg n 0xE 2)))

/-- STATE that follows from HI in mV (R516), before the diode test. -/
def pilotOf (hi : Rat) : Nat :=
  if 10500 ≤ hi then 0 else if 7500 ≤ hi then 1 else if 4500 ≤ hi then 2 else if 1500 ≤ hi then 3
  else if -1500 ≤ hi then 4 else if hi ≤ -10500 then 5 else 6

/-- The state of link n by its measurements (R516). -/
def State.pilotState (s : State) (n : Nat) : Nat :=
  let l := s.vl n
  if l.his = [] then s.get (Fld.VLK_L_PILOT_STATE n)
  else
    let st := pilotOf (meanMv l.his)
    let pulsed := s.bit (Fld.VLK_L_CTRL_PWM n) && decide (1 ≤ l.duty) && decide (l.duty ≤ 999)
    if 1 ≤ st && st ≤ 3 && pulsed && decide (-10500 < meanMv l.los) then 7 else st

/-- SLAC is abandoned; the link goes down (R556). -/
def State.slacStop (s : State) (n : Nat) : State :=
  if s.hpgp n || s.modem n then
    let s := (s.put (Fld.VLK_L_HPSTAT_SLAC n) 0).putB (Fld.VLK_L_HPSTAT_XROBO n) false
    (s.putB (Fld.VLK_L_SESS_LINK n) false).modVl n (fun l => { l with fails := 0, frame := none, xreq := false, okRun := 0 })
  else s

/-- R521: the outlet is lowered with a Class B fault, if it is enabled and carries current. -/
def State.vlDisc (s : State) (n : Nat) : State :=
  let m := s.vlOutlet n
  if s.bit (Fld.KST_OUT_CTRL_EN m) && decide (q16 (s.site 0x20 4) < absR (s.outI m)) then
    let s := s.putB (Fld.VLK_L_EVT_DISC n) true
    let s := if s.secc n then (s.modOut m (fun o => { o with lowering := true })).putB (Fld.KST_OUT_CTRL_LOWERING m) true else s
    s.reportOutlet 0x2B clsB n m
  else s

/-- What a pilot in state E, F or 7 does (R521, R556). -/
def State.pilotBad (s : State) (n st : Nat) : State :=
  if st = 4 || st = 5 || st = 7 then (s.vlDisc n).slacStop n else s

/-- R516, R517: the new state has held for 3 ms. -/
def execPilotStateChange (n : Fin 8) (s : State) : Out :=
  .next (if !s.vlUsed n || s.pilotRemote n then s
    else
      let st := s.pilotState n
      if st = s.get (Fld.VLK_L_PILOT_STATE n) then s else (s.put (Fld.VLK_L_PILOT_STATE n) st).pilotBad n st)

/-- The condition of R519. -/
def State.connCond (s : State) (n : Nat) : Bool :=
  if s.pilotRemote n then s.bit (Fld.VLK_L_PREMOTE_CONN n) && (s.vl n).fresh
  else if s.vlKind n = 1 then
    let st := s.get (Fld.VLK_L_PILOT_STATE n)
    st == 1 || st == 2 || st == 3
  else s.vlKind n == 0 && s.get (Fld.VLK_L_CONT_CC1 n) == 1 && s.get (Fld.VLK_L_CONT_CC2 n) == 1

/-- The layers above the data link end with it: no TLS, no peer. -/
def State.dropTls (s : State) (n : Nat) : State :=
  (((s.putB (Fld.VLK_L_SESS_TLS n) false).putB (Fld.VLK_L_SESS_MUTUAL n) false).putB (Fld.VLK_L_SESS_PEER_FM n) false).modVl n
    (fun l => { l with hello := false })

/-- CONNECTED takes a new value (R519, R521, R556). -/
def State.setConnected (s : State) (n : Nat) (c : Bool) : State :=
  if s.connected n = c then s
  else
    let s := (s.putB (Fld.VLK_L_CONT_CONNECTED n) c).putB (Fld.VLK_L_EVT_CONNECT n) true
    (if c then s else ((s.vlDisc n).slacStop n).dropTls n).settleOutputs

/-- R519: the condition has held, or failed, for 20 ms. -/
def execConnectedChange (n : Fin 8) (s : State) : Out :=
  .next (if s.vlUsed n then s.setConnected n (s.connCond n) else s)

/-- R519, R542: 100 ms have passed since the last remote pilot write. -/
def execPremoteStale (n : Fin 8) (s : State) : Out :=
  .next (
    let s := s.modVl n (fun l => { l with fresh := false })
    if s.vlUsed n && s.pilotRemote n then s.setConnected n false else s)

/-- A write of VLK_Ln_PREMOTE (R519, R542). -/
def State.wrPremote (s : State) (n v : Nat) : State :=
  let was := s.get (Fld.VLK_L_PREMOTE_STATE n)
  let s := (s.writeByCode (Reg.VLK_L_PREMOTE n) v).modVl n (fun l => { l with fresh := true })
  let st := s.get (Fld.VLK_L_PREMOTE_STATE n)
  if s.vlUsed n && s.pilotRemote n && st != was then s.pilotBad n st else s

/-! ### The charge loop (R525, R526, R533) -/

/-- The watchdog runs only in PHASE 4 with the outlet enabled (R526). -/
def State.wdogOn (s : State) (n : Nat) : Bool :=
  s.get (Fld.VLK_L_SESS_PHASE n) == 4 && s.bit (Fld.KST_OUT_CTRL_EN (s.vlOutlet n))

def State.syncWdog (s : State) (n : Nat) : State :=
  if s.bit (Fld.VLK_L_WDOG_RUN n) && !s.wdogOn n then s.putB (Fld.VLK_L_WDOG_RUN n) false else s

/-- A write of VLK_Ln_WDOG (R526): the level of TIMEOUT is the bus's concern. -/
def State.wrWdog (s : State) (n v : Nat) : State :=
  let s := s.writeByCode (Reg.VLK_L_WDOG n) v
  if v.testBit 31 && s.vlUsed n && s.wdogOn n then s.putB (Fld.VLK_L_WDOG_RUN n) true else s

/-- R526: TIMEOUT has passed without a kick. -/
def execChargeLoopWatchdogExpiry (n : Fin 8) (s : State) : Out :=
  .next (if s.bit (Fld.VLK_L_WDOG_RUN n) && s.wdogOn n then
      let m := s.vlOutlet n
      let s := (s.putB (Fld.VLK_L_WDOG_RUN n) false).putB (Fld.VLK_L_EVT_WDOG n) true
      ((s.modOut m (fun o => { o with lowering := true })).putB (Fld.KST_OUT_CTRL_LOWERING m) true).reportOutlet 0x2B clsB n m
    else s.syncWdog n)

/-- R533: the inlet current has exceeded EMAXI.CHG by more than 5 % for 1 s. -/
def execInletOvercurrent (n : Fin 8) (s : State) : Out :=
  .next (if s.role = 2 && s.evcc n then (s.putB (Fld.VLK_L_EVT_OVERI n) true).reportOutlet 0x2B clsB n (s.vlOutlet n) else s)

/-! ### V2GTP (R508, R509) -/

/-- Descriptors of a ring, its base. -/
def State.ringSize (s : State) (size : FieldRef) : Nat := if s.get size = 0 ∨ 8 < s.get size then 0 else 2 ^ s.get size

/-- A payload reaches the receive ring, or is dropped (R509). -/
def State.rxPayload (s : State) (n ty : Nat) (p : List Byte) : State :=
  let k := s.ringSize (Fld.VLK_L_RXRING_SIZE n)
  let i := s.get (Fld.VLK_L_DOOR_RXHEAD n)
  let d := s.get (Fld.VLK_L_RXRING_BASE n) * 64 + 16 * i
  if k = 0 then s.putB (Fld.VLK_L_EVT_RX_OVF n) true
  else
    let (b, s) := s.dmaRead 15 d 16
    let fl := leAt b 8 2
    if fl % 2 = 0 || 16384 < p.length then s.putB (Fld.VLK_L_EVT_RX_OVF n) true
    else
      let s := s.dmaWrite 15 (leAt b 0 4) p
      let s := s.dmaWrite 15 (d + 4) (toLE 2 p.length ++ toLE 2 ty ++ toLE 2 (fieldSet fl 0 2 0))
      (s.put (Fld.VLK_L_DOOR_RXHEAD n) ((i + 1) % k)).modVl n (fun l => { l with rxDone := i :: l.rxDone.filter (· != i) })

/-- R509, R535: the transmit descriptor at the head is sent, or dropped, and returned. -/
def execV2gtpTx (n : Fin 8) (s : State) : Out :=
  .next (
    let k := s.ringSize (Fld.VLK_L_TXRING_SIZE n)
    let h := (s.vl n).txHead
    if !s.vlEn n || k = 0 || h = s.get (Fld.VLK_L_DOOR_TXTAIL n) % k then s
    else
      let d := s.get (Fld.VLK_L_TXRING_BASE n) * 64 + 16 * h
      let (b, s) := s.dmaRead 15 d 16
      let fl := leAt b 8 2
      let len := leAt b 4 2
      let ty := leAt b 6 2
      if fl % 2 = 0 then s
      else
        let bad := decide (16384 < len)
        let s := if bad then s
          else if ty = 0xA6F1 then s.putB (Fld.VLK_L_EVT_FMX_DROP n) true
          else
            let (p, s) := s.dmaRead 15 (leAt b 0 4) len
            s.modVl n (fun l => { l with sent := (ty, v2gtp ty p) })
        let s := s.dmaWrite 15 (d + 8) (toLE 2 (fieldSet fl 0 2 (if bad then 2 else 0)))
        s.modVl n (fun l => { l with txHead := (h + 1) % k, txDone := true }))

/-- Whether the SDP server of link n answers a request with TLS (true), and one that asks for it or not so: TLS only with
TLS_REQUIRED, none with PROTO bit 0 clear, else what the request asks for (R511). -/
def State.sdpTls (s : State) (n : Nat) (asked : Bool) : Bool :=
  (s.vcfg n 1 1).testBit 2 || ((s.vlProto n).testBit 0 && asked)

/-! ### TLS and the messages between two devices (R513, R514, R535 to R538) -/

/-- ABT_ID, 4 bytes. -/
def State.abtId (s : State) : List Byte := toLE 4 (s.reg Reg.ABT_ID)

/-- CAPS of this device on link n. -/
def State.caps (s : State) (n : Nat) : Nat :=
  (if s.bit (Fld.VLK_L_CTRL_RECON n) then 1 else 0) + (if s.lflag n 1 then 2 else 0)

/-- R513, R514: a handshake completes or fails; `cert`: the far end has sent a certificate. -/
def execTlsHandshakeDone (n : Fin 8) (ok cert : Bool) (s : State) : Out :=
  .next (if !s.vlEn n || !s.vlUsed n || !(s.vlProto n).testBit 0 then s
    else
      let s := s.dropTls n
      if !ok then s.putB (Fld.VLK_L_EVT_TLS_FAIL n) true
      else
        let s := (s.putB (Fld.VLK_L_SESS_TLS n) true).putB (Fld.VLK_L_SESS_MUTUAL n) cert
        if (cert || s.evcc n) && s.tState != 2 then s.putB (Fld.VLK_L_EVT_TLS_TIME n) true else s)

/-- R536: the SECC sends HELLO. -/
def execFmxHello (n : Fin 8) (s : State) : Out :=
  .next (if s.secc n && s.bit (Fld.VLK_L_SESS_TLS n) then
      (s.sendFmx n 1 (s.abtId ++ toLE 4 (s.caps n) ++ s.pyl.meterId)).modVl n (fun l => { l with hello := true })
    else s)

/-- The body of HELLO reaches an EVCC, or of HELLO_ACK an SECC that waits for it (R536). -/
def State.helloRx (s : State) (n : Nat) (b : List Byte) : State :=
  let peer (s : State) : State :=
    ((s.putB (Fld.VLK_L_SESS_PEER_FM n) true).putB (Fld.VLK_L_EVT_PEER n) true).modVl n (fun l =>
      { l with hello := false, peerCaps := leAt b 4 4, peerId := (b.drop 8).take 16 })
  if s.evcc n then (peer s).sendFmx n 2 (s.abtId ++ toLE 4 (s.caps n) ++ s.pyl.countId)
  else if s.secc n && (s.vl n).hello then peer s else s

def execFmxHelloAck (n : Fin 8) (body : List Byte) (s : State) : Out :=
  .next (if s.bit (Fld.VLK_L_SESS_TLS n) then s.helloRx n body else s)

/-- R536: no HELLO_ACK within 500 ms. -/
def execFmxHelloTimeout (n : Fin 8) (s : State) : Out :=
  .next (if (s.vl n).hello then
      ((s.putB (Fld.VLK_L_SESS_PEER_FM n) false).putB (Fld.VLK_L_EVT_PEER n) true).modVl n (fun l => { l with hello := false })
    else s)

/-- R537: the EVCC answers with its point registers; FLAGS bit 0 says that no gap has come since PHASE 0. -/
def State.countReqRx (s : State) (n : Nat) (b : List Byte) : State :=
  if s.evcc n && s.bit (Fld.VLK_L_SESS_PEER_FM n) && s.bit (Fld.VLK_L_CTRL_RECON n) && (s.vl n).peerCaps.testBit 0 then
    let d := s.dcPt (s.vlOutlet n)
    let s := if leAt b 4 1 = 0 then s.modVl n (fun l => { l with gapBase := d.gaps }) else s
    let whole := d.gap.isNone && d.gaps == (s.vl n).gapBase && s.dcOn (s.vlOutlet n)
    let fl := (if whole then 1 else 0) + (if s.tState = 2 then 0 else 2)
    s.sendFmx n 4 (b.take 4 ++ toLE 8 (mwh d.imp) ++ toLE 8 (mwh d.exp) ++ toLE 8 s.billSec ++ toLE 4 fl)
  else s

def execCountReq (n : Fin 8) (body : List Byte) (s : State) : Out := .next (s.countReqRx n body)

/-- The PHASE of the oldest open request is answered, or given up. -/
def State.endAsk (s : State) (n : Nat) (reply : Bool) : State :=
  match (s.vl n).asks with
  | [] => s
  | ph :: rest =>
    let s := s.modVl n (fun l => { l with asks := rest })
    if ph = 1 then s.formRecord (s.vlOutlet n) 2 reply
    else if ph = 2 then s.formRecord (s.vlOutlet n) 1 reply
    else s

/-- R537, R538, R540: the SECC receives COUNT_RES. -/
def State.countResRx (s : State) (n : Nat) (b : List Byte) : State :=
  match (s.vl n).asks with
  | [] => s
  | ph :: _ =>
    if !s.secc n || leAt b 0 4 ≠ (s.sess (s.vlOutlet n)).id then s
    else
      let i := leAt b 4 8
      let e := leAt b 12 8
      let s := if ph = 0 then ((s.putVcnt n 0 i).putVcnt n 1 e).modVl n (fun l => { l with startOk := true }) else s
      let s := ((s.putVcnt n 2 i).putVcnt n 3 e).modVl n (fun l => { l with vGap := l.vGap || (leAt b 28 4) % 2 == 0, nowOk := true })
      s.endAsk n true

def execCountRes (n : Fin 8) (body : List Byte) (s : State) : Out := .next (s.countResRx n body)

/-- R538: no COUNT_RES within 500 ms. -/
def execCountResTimeout (n : Fin 8) (s : State) : Out := .next (s.endAsk n false)

/-- A received FMX message (R535). -/
def State.fmxRx (s : State) (n : Nat) (p : List Byte) : State :=
  let b := p.drop 4
  match leAt p 0 1 with
  | 1 => if s.evcc n then s.helloRx n b else s
  | 2 => if s.secc n then s.helloRx n b else s
  | 3 => s.countReqRx n b
  | 4 => s.countResRx n b
  | _ => s

/-- R508, R509, R535: a V2GTP payload arrives. -/
def execV2gtpRx (n : Fin 8) (ptype : BitVec 16) (payload : List Byte) (s : State) : Out :=
  .next (if !s.vlEn n || !s.vlUsed n then s
    else if ptype.toNat = 0xA6F1 then (if s.bit (Fld.VLK_L_SESS_TLS n) then s.fmxRx n payload else s)
    else s.rxPayload n ptype.toNat payload)

/-! ### Beacons (R551 to R553) -/

/-- Free-running beacon period in µs (R552). -/
def State.beaconUs (s : State) (n : Nat) : Nat :=
  let f60 := if s.acOn 0 then s.bit (Fld.CSN_AC_CFG_NOMF 0) else s.vcfg n 0x10C 1 == 1
  (s.vl n).period.getD (if f60 then 33333 else 40000)

/-- This link coordinates its network (R548, the beacons' opening words). -/
def State.coordinator (s : State) (n : Nat) : Bool := s.secc n && s.vlKind n == 1 && s.role != 2

/-- `x` moved towards 0 by at most `k`. -/
def towards0 (x : Int) (k : Nat) : Int := if x < 0 then min 0 (x + k) else max 0 (x - k)

/-- R551, R552: a beacon period starts; `us` is the period of the last two mains cycles, `phase` the distance in µs of this
beacon instant from the one that the crossings give. -/
def execBeaconPeriodStart (n : Fin 8) (us : Nat) (phase : Int) (s : State) : Out :=
  .next (if !s.coordinator n || !s.vlEn n then s
    else
      let lock := s.lflag n 2 && s.acOn 0 && s.bit (Fld.CSN_AC_STAT_FLOCK 0)
      let was := s.bit (Fld.VLK_L_HPSTAT_MAINS n)
      if lock then
        let o := if was then 0 else towards0 phase (s.vcfg n 0x10B 1)
        (s.modVl n (fun l => { l with period := some us, ofs := o })).putB (Fld.VLK_L_HPSTAT_MAINS n) (o == 0)
      else
        let s := s.putB (Fld.VLK_L_HPSTAT_MAINS n) false
        if was then s.putB (Fld.VLK_L_LEVT_ZC_LOST n) true else s)

/-- R553: the far coordinator's beacon arrives, `us` after the last. -/
def execBeaconRx (n : Fin 8) (us : Nat) (s : State) : Out :=
  .next (if s.evcc n && s.hpgp n && s.vlEn n then s.modVl n (fun l => { l with period := some us }) else s)

/-- R553: ten beacons in a row were missed. -/
def execBeaconsMissed (n : Fin 8) (s : State) : Out :=
  .next (if s.evcc n && s.hpgp n && s.linkUp n then
      let s := (s.slacStop n).putB (Fld.VLK_L_LEVT_BEACON_LOST n) true
      if s.connected n then s.put (Fld.VLK_L_HPSTAT_SLAC n) 1 else s
    else s)

/-! ### SLAC (R554 to R558) -/

/-- The conditions of R555. -/
def State.slacMay (s : State) (n : Nat) : Bool :=
  (s.hpgp n || s.modem n) && s.connected n && s.vlEn n &&
  (s.secc n || (decide (1 ≤ s.get (Fld.VLK_L_PILOT_DUTY_IN n)) && decide (s.get (Fld.VLK_L_PILOT_DUTY_IN n) ≤ 999)))

/-- A SLAC run starts; an EVCC sends its parameter request (R554, R555). -/
def State.slacBegin (s : State) (n : Nat) : State :=
  let s := s.put (Fld.VLK_L_HPSTAT_SLAC n) 1
  if s.evcc n then s.mgmtAir n else s

/-- R555: SLAC starts. -/
def execSlacStart (n : Fin 8) (s : State) : Out := .next (if s.slacMay n then s.slacBegin n else s)

/-- Mean attenuation of a responder over its groups. -/
def attenMean (l : List Nat) : Rat := if l = [] then 0 else ((l.sum : Nat) : Rat) / ((l.length : Nat) : Rat)

/-- The least mean. -/
def leastMean : List (List Nat) → Option Rat
  | [] => none
  | x :: t => some (t.foldl (fun m y => min m (attenMean y)) (attenMean x))

/-- The station has joined the new network (R558): LINK rises, XROBO waits for a new agreement (R565). -/
def State.slacUp (s : State) (n : Nat) (db : Option Rat) : State :=
  let (key, s) := if s.secc n then s.freeBytes 16 else ((s.vl n).nmk, s)
  let s := (s.put (Fld.VLK_L_HPSTAT_SLAC n) 5).putB (Fld.VLK_L_SESS_LINK n) true
  let s := (s.putB (Fld.VLK_L_HPSTAT_XROBO n) false).put (Fld.VLK_L_HPSTAT_RUNG n) 0
  let s := match db with | some d => s.putU (Fld.VLK_L_SLACATT_DB n) (roundFree d) | none => s
  s.modVl n (fun l => { l with nmk := key, fails := 0, okRun := 0, frame := none, xreq := false })

/-- R555, R556, R558: a SLAC run ends; `attens` holds for each responder its attenuation in the 58 groups. -/
def execSlacMatch (n : Fin 8) (attens : List (List Nat)) (s : State) : Out :=
  .next (if !s.slacMay n || s.get (Fld.VLK_L_HPSTAT_SLAC n) = 0 || 5 ≤ s.get (Fld.VLK_L_HPSTAT_SLAC n) then s
    else if s.secc n then s.slacUp n (leastMean attens)
    else match leastMean attens with
    | some d =>
      if d ≤ s.vcfg n 0x103 1 then s.slacUp n (some d)
      else
        let s := (s.modVl n (fun l => { l with fails := l.fails + 1 })).put (Fld.VLK_L_HPSTAT_SLAC n) 6
        if (s.vl n).fails = 3 then s.putB (Fld.VLK_L_LEVT_SLAC_FAIL n) true else s
    | none =>
      let s := (s.modVl n (fun l => { l with fails := l.fails + 1 })).put (Fld.VLK_L_HPSTAT_SLAC n) 6
      if (s.vl n).fails = 3 then s.putB (Fld.VLK_L_LEVT_SLAC_FAIL n) true else s)

/-- R556: the EVCC tries again. -/
def execSlacRetry (n : Fin 8) (s : State) : Out :=
  .next (if s.evcc n && s.slacMay n && s.get (Fld.VLK_L_HPSTAT_SLAC n) = 6 then s.slacBegin n else s)

/-- A SLAC message moves the run on and is answered (R554, R555), CM_VALIDATE by "not required" (R557); a sound takes no answer. -/
def State.slacMsg (s : State) (n : Nat) (m : SlacMsg) : State :=
  let st := s.get (Fld.VLK_L_HPSTAT_SLAC n)
  let go (a b : Nat) : State := if st = a then (s.put (Fld.VLK_L_HPSTAT_SLAC n) b).mgmtAir n else s
  match m with
  | .param => go 1 2
  | .attenChar => go 2 3
  | .match_ => go 3 4
  | .validate => if s.secc n then (s.modVl n (fun l => { l with sent := Config.notRequired })).mgmtAir n else s
  | _ => s

/-! ### The cutwater and the retry ladder (R559 to R563) -/

def insertNat (x : Nat) : List Nat → List Nat
  | [] => [x]
  | y :: t => if x ≤ y then x :: y :: t else y :: insertNat x t

/-- Twice the median of a list; the mean of the two middle values of an even one. -/
def median2 (l : List Nat) : Nat :=
  let o := l.foldl (fun a x => insertNat x a) []
  nth 0 o ((o.length - 1) / 2) + nth 0 o (o.length / 2)

/-- One symbol: whether a block exceeds CUT_K/16 times the running median, and the window after it. -/
def cutSymbol (k : Nat) : List Nat → List Nat → Bool × List Nat
  | win, [] => (false, win)
  | win, b :: t =>
    let hit := decide (k * median2 win < 32 * b) && win != []
    let r := cutSymbol k ((b :: win).take 256) t
    (hit || r.1, r.2)

/-- Symbols erased of a frame (R559): `hold` symbols after a hit are erased with it; `left` of them are still due. -/
def cutFrame (k hold : Nat) : Nat → List Nat → List (List Nat) → Nat × List Nat
  | _, win, [] => (0, win)
  | left, win, sy :: t =>
    let r := cutSymbol k win sy
    let q := cutFrame k hold (if r.1 then hold else left - 1) r.2 t
    ((if r.1 || left != 0 then 1 else 0) + q.1, q.2)

/-- A counter field raised by k, stopping at its largest value. -/
def State.incBy (s : State) (f : FieldRef) (k : Nat) : State := s.put f (min (2 ^ f.w - 1) (s.get f + k))

/-- R548, R554, R559, R560, R566: a frame arrives: robust-mode code, blocks of each symbol after the frame control, whether the
decoder succeeds, the management message it holds. -/
def execHpgpFrameRx (n : Fin 8) (code : Fin 4) (symbols : List (List Nat)) (decoded : Bool) (msg : Option SlacMsg) (s : State) : Out :=
  .next (if !s.hpgp n || !s.vlEn n || (code.val == 3 && !s.bit (Fld.VLK_L_HPSTAT_XROBO n)) then s
    else
      let r := if s.lflag n 0 then cutFrame (s.vcfg n 0x104 1) (s.vcfg n 0x105 1) 0 (s.vl n).blocks symbols
        else (0, (s.vl n).blocks)
      let s := (s.modVl n (fun l => { l with blocks := r.2 })).incBy (Fld.VLK_L_HPCNT_ERASED n) r.1
      if symbols.length < 2 * r.1 || !decoded then s
      else match msg with | some m => s.slacMsg n m | none => s)

/-- The lowest rung of the ladder (R561, R566, R571). -/
def State.lowRung (s : State) (n : Nat) : Nat := if s.bit (Fld.VLK_L_HPSTAT_XROBO n) && s.hpgp n then 3 else 2

/-- A unicast data frame leaves on a rung at CAP_DATA (R549, R561). -/
def State.dataAir (s : State) (n r : Nat) : State := s.onAir n (s.vcfg n 0x101 1) r

/-- R549, R561, R562: an attempt starts; `late`: it would begin more than RETRY_AGE after the first. -/
def execHpgpFrameAttempt (n : Fin 8) (late : Bool) (s : State) : Out :=
  .next (if !(s.hpgp n || s.modem n) || !s.linkUp n then s
    else match (s.vl n).frame with
    | none => (s.modVl n (fun l => { l with frame := some (s.get (Fld.VLK_L_HPSTAT_RUNG n), 1) })).dataAir n (s.get (Fld.VLK_L_HPSTAT_RUNG n))
    | some (r, k) =>
      if late || 4 ≤ k then (s.inc (Fld.VLK_L_HPCNT_DROPPED n)).modVl n (fun l => { l with frame := none, okRun := 0 })
      else ((s.inc (Fld.VLK_L_HPCNT_RETRIES n)).modVl n (fun l =>
        { l with frame := some (min (r + 1) (s.lowRung n), k + 1), okRun := 0 })).dataAir n (min (r + 1) (s.lowRung n)))

/-- R563: the frame in progress is acknowledged. -/
def execHpgpAck (n : Fin 8) (s : State) : Out :=
  .next (match (s.vl n).frame with
    | none => s
    | some (r, k) =>
      let run := if k = 1 then (s.vl n).okRun + 1 else 0
      let up := run != 0 && decide (s.vcfg n 0x10A 1 ≤ run)
      (s.put (Fld.VLK_L_HPSTAT_RUNG n) (if up then r - 1 else r)).modVl n (fun l =>
        { l with frame := none, okRun := if up then 0 else run }))

/-! ### Six-copy mode (R564 to R566) -/

/-- Body of the two messages (R564). -/
def State.xroboBody (s : State) : List Byte := [0x4A, 0x2E, 0x90, 0x01, 0x01] ++ s.abtId

/-- R565: the SECC sends REQ; an EVCC that receives it answers and adds XROBO. -/
def execXroboReq (n : Fin 8) (s : State) : Out :=
  .next (if !(s.hpgp n || s.modem n) || !s.linkUp n || !s.lflag n 1 then s
    else if s.secc n then (s.modVl n (fun l => { l with sent := (0xA0C0, s.xroboBody), xreq := true })).mgmtAir n
    else ((s.modVl n (fun l => { l with sent := (0xA0C1, s.xroboBody) })).putB (Fld.VLK_L_HPSTAT_XROBO n) true).mgmtAir n)

/-- R565: CNF arrives, with or without CAPS bit 0. -/
def execXroboCnf (n : Fin 8) (six : Bool) (s : State) : Out :=
  .next (if (s.vl n).xreq then (s.modVl n (fun l => { l with xreq := false })).putB (Fld.VLK_L_HPSTAT_XROBO n) six else s)

/-- R565: no CNF within 100 ms. -/
def execXroboTimeout (n : Fin 8) (s : State) : Out := .next (s.modVl n (fun l => { l with xreq := false }))

/-! ### 10BASE-T1S (R567 to R570) -/

def State.t1s (s : State) (n : Nat) : Bool := s.vlUsed n && s.vlKind n == 0 && s.vlEn n

/-- R569: the beacon timer reaches 4,000 bit times. -/
def execPlcaBeaconTimer (n : Fin 8) (s : State) : Out :=
  .next (if s.bit (Fld.VLK_L_T1SSTAT_PLCA_OK n) then
      (s.putB (Fld.VLK_L_T1SSTAT_PLCA_OK n) false).putB (Fld.VLK_L_LEVT_PLCA_DOWN n) true
    else s)

/-- R569: a valid beacon, or the PHY's link with PLCA off. -/
def execPlcaStatusOk (n : Fin 8) (s : State) : Out :=
  .next (if s.t1s n then
      ((s.putB (Fld.VLK_L_T1SSTAT_PLCA_OK n) (s.lflag n 3)).putB (Fld.VLK_L_T1SSTAT_LINK n) true).putB (Fld.VLK_L_SESS_LINK n) true
    else s)

/-- R570: a frame arrives; a follower may have missed the beacon before it. -/
def execT1sFrameRx (n : Fin 8) (fcsOk beaconMissed : Bool) (s : State) : Out :=
  .next (if !s.t1s n then s
    else
      let s := if beaconMissed then s.inc (Fld.VLK_L_T1SCNT_BEACON n) else s
      if fcsOk then s else s.inc (Fld.VLK_L_T1SCNT_FCS n))

/-! ### Pads (R515, R774, R777, R778) -/

/-- What a pad of the device does. -/
inductive Pad
  /-- Driven to a level. -/
  | drive (high : Bool)
  /-- High impedance, with or without its weak pull-down. -/
  | z (down : Bool)
deriving DecidableEq, Repr

/-- VLn_CP_OUT at CLK_PER cycle `x` of its 200,000-cycle period: low at USE 0, high impedance with the pull-down until the seal; a SECC with
PWM at 1 gives the duty in force, else it stays high (R515, R777, R778). -/
def State.cpOut (s : State) (n x : Nat) : Pad :=
  if !s.isSealed then .z true
  else if !s.vlUsed n then .drive false
  else if s.secc n && s.bit (Fld.VLK_L_CTRL_PWM n) then .drive (decide (x < (s.vl n).duty * 200))
  else .drive true

/-- Any other pad of link n that the device would drive to `level`: high impedance with its pull-down while USE is 0 or before the
seal (R777, R778). -/
def State.vlPad (s : State) (n : Nat) (level : Bool) : Pad := if !s.isSealed || !s.vlUsed n then .z true else .drive level

/-- VLn_CP_SW (R517). -/
def State.cpSw (s : State) (n : Nat) : Pad := s.vlPad n (s.evcc n && s.bit (Fld.VLK_L_CTRL_CP_SW n))

/-- TIOk: driven from Truss output port 1,152 + k while port 1,280 + k is 1, high impedance otherwise and until the seal (R776, R778). -/
def State.tioPad (s : State) (k : Nat) : Pad :=
  if s.isSealed && (s.outPort (1280 + k)).testBit 0 then .drive ((s.outPort (1152 + k)).testBit 0) else .z (!s.isSealed)

/-- MCLKk toggles, seen at `level`; it is low until the seal and idle while no enabled channel names it (R334, R778). -/
def State.mclkPad (s : State) (k : Nat) (level : Bool) : Pad := .drive (s.isSealed && s.mclkDriven k && level)

/-! ### Registers -/

/-- A write of VLK_Ln_CTRL: EN is ignored while USE is 0; with EN 0 the link layers stop. -/
def State.wrVlkCtrl (s : State) (n v : Nat) : State :=
  let s := s.writeByCode (Reg.VLK_L_CTRL n) (if s.vlUsed n then v else mset v 0 false)
  if s.vlEn n then s
  else ((s.slacStop n).dropTls n).putB (Fld.VLK_L_SESS_LINK n) false

/-- A write of a ring register: SIZE is kept while EN is 1. -/
def State.wrVlkRing (s : State) (n a v : Nat) : State :=
  s.writeByCode a (if s.vlEn n then fieldSet v 0 4 (fieldOf (s.reg a) 0 4) else v)

def State.wrVlkDoor (s : State) (n v : Nat) : State :=
  (s.writeByCode (Reg.VLK_L_DOOR n) v).modVl n (fun l => { l with txDone := false })

def State.wrVlkSess (s : State) (n v : Nat) : State := (s.writeByCode (Reg.VLK_L_SESS n) v).syncWdog n
def State.wrVlkBmsi (s : State) (n v : Nat) : State := (s.writeByCode (Reg.VLK_L_BMSI n) v).writeEmaxI n

/-- The LINKMAP and VLINK sections configure the links (R505, R506, R545). -/
def State.vlkConfig (s : State) : State :=
  forEach (List.range 8) s (fun s n =>
    let s := ((s.put (Fld.VLK_L_CFG_USE n) (s.vlUse n)).put (Fld.VLK_L_CFG_KIND n) (s.vlKind n)).put (Fld.VLK_L_CFG_OUTLET n) (s.vlOutlet n)
    let s := ((s.put (Fld.VLK_L_CFG_PROTO n) (s.vlProto n)).putB (Fld.VLK_L_CFG_BIDIR n) (s.vlBidir n)).put (Fld.VLK_L_CFG_DIGIF n) (s.vcfg n 0 1)
    let s := (s.putB (Fld.VLK_L_CTRL_RECON n) ((s.vcfg n 1 1).testBit 1)).put (Fld.VLK_L_WDOG_TIMEOUT n) (s.vcfg n 2 2)
    let s := ((s.putB (Fld.VLK_L_HPSTAT_ACTIVE n) (s.hpgp n)).putB (Fld.VLK_L_HPSTAT_CCO n) (s.coordinator n)).putB
      (Fld.VLK_L_T1SSTAT_ACTIVE n) (s.vlUsed n && s.vlKind n == 0)
    s.modVl n (fun _ => {}))

end Sys2Proof.Machine
end

