-- ==== Sys2Proof/Machine/Bus.lean ====
section
/-! DEFINITION. Accesses by the masters: which master can act, what a register read gives and what a register write does
(spec/01, R44 to R49, R802; spec/02, R91, R94; and the register sections of every chapter). -/

namespace Sys2Proof.Machine

/-! ### Who can access what -/

/-- The debug port is open: the device is not DEPLOYED, or an authorisation has opened it (R764, R768). -/
def State.debugOpen (s : State) : Bool := s.lifecycle != 2 || s.bit Fld.PYL_STAT_DEBUG

/-- Master m runs: it has been released after the seal, its domain is on and it is not halted (R75, R77, R616, R704, R706, R753). -/
def State.masterLive (s : State) (m : Nat) : Bool :=
  let p := s.pwr
  p.st != .off &&
  (if m = 4 ∨ m = 5 then s.prp.running && !s.prp.doubleHeld
   else if m = 12 then p.domains.testBit 8
   else if m = 13 then s.tol.run
   else s.load.stage == .run && !s.load.wake && p.domains.testBit 4 && !(m == 0 && s.load.deckHalted) &&
     !(decide (m < 4) && p.st == .doze) && (m != 18 || s.debugOpen))

/-- Domain of a register block (R704). -/
def domainOf (a : Nat) : Nat :=
  match a / 0x10000 - 0x4000 with
  | 0 => 2 | 1 => 0 | 2 => 2 | 3 => 8 | 4 => 3 | 5 => 3 | 6 => 3 | 7 => 3 | 8 => 9 | 9 => 1 | 10 => 1 | 11 => 3 | 12 => 6 | 13 => 7
  | 14 => 2 | 15 => 0 | 16 => 7 | 17 => 3 | _ => 4

/-- Domains that serve transactions: those on, less those going off once an entry has passed checkpoint 1 (R705, R712). -/
def State.servedDomains (s : State) : Nat :=
  if s.bit Fld.ABT_PSSTAT_BUSY && s.get Fld.ABT_PSSTAT_STEP != 0 then s.pwr.domains &&& (if s.pwr.target = 2 then 1 else 7)
  else s.pwr.domains

/-- The block at an address is powered, and its transactions are not held. -/
def State.blockOn (s : State) (a : Nat) : Bool :=
  let d := s.servedDomains
  match blockOf a with
  | some .reg => d.testBit (domainOf a)
  | some .abut => d.testBit 0
  | some .truss => d.testBit 3
  | some .dram => d.testBit 5
  | some _ => d.testBit 4
  | none => true

/-! ### Register reads -/

/-- The 16 bytes of a fault record (R618). -/
def recordBytes (r : FaultRec) : List Byte :=
  toLE 8 r.time ++ toLE 1 r.code ++ toLE 1 r.cls ++
  toLE 1 ((if r.latched then 1 else 0) + (if r.escalated then 2 else 0) + (if r.cleared then 4 else 0) + (if r.preReset then 8 else 0)) ++
  toLE 1 r.src ++ toLE 1 r.outlets ++ toLE 2 r.piers ++ toLE 1 r.count

/-- PRP_FRECw: the record that PRP_FSEL selects, zero beyond the ring. -/
def State.viewFault (s : State) (w : Nat) : Nat :=
  let l := if s.bit Fld.PRP_FSEL_PRE then s.prp.pd0Ring else s.prp.ring
  match l[s.get Fld.PRP_FSEL_IDX]? with | some r => leAt (recordBytes r) (4 * w) 4 | none => 0

/-- PYL_STAT: BUSY while Pylon serves something, TOLL_WAIT while a record waits. -/
def State.viewPylStat (s : State) : Nat :=
  let s := s.putB Fld.PYL_STAT_BUSY s.pyl.serving.isSome
  (s.putB Fld.PYL_STAT_TOLL_WAIT (s.tol.toSign != [])).reg Reg.PYL_STAT

/-- A KST register: the windows are views. -/
def State.viewKst (s : State) (a : Nat) : Nat :=
  let o := a % 0x2000
  let e := a % 0x10000 / 0x2000
  if a % 0x10000 < 0xC000 ∧ 0x40 ≤ o ∧ o < 0x80 then s.readBank e ((o - 0x40) / 4)
  else if a % 0x10000 < 0xC000 ∧ 0x80 ≤ o ∧ o < 0xA0 then s.readSt e ((o - 0x80) / 4)
  else s.reg a

/-- An ARC register (R265, R298). -/
def State.viewArc (s : State) (a : Nat) : Nat :=
  if s.role = 2 then 0
  else match isPol a with
    | some m => s.readPol m
    | none => if 0x40070800 ≤ a ∧ a < 0x40070900 then s.readXp ((a - 0x40070800) / 4) else s.reg a

/-- A GRD register: two halfwords of capture memory to the word (R347). -/
def State.viewGrd (s : State) (a : Nat) : Nat :=
  if 0x4008C000 ≤ a then
    let u := (a - 0x4008C000) / 0x2000
    let i := (a - 0x4008C000) % 0x2000 / 2
    s.capWord u i + 65536 * s.capWord u (i + 1)
  else s.reg a

/-- Registers of spec/09 that do not exist in the VEHICLE role (R394): all of TOL but billing time and its setting, spec/08's and
spec/10's. -/
def tariffReg (a : Nat) : Bool :=
  let o := a % 0x10000
  a / 0x10000 == 0x400A && ((decide (0x40 ≤ o ∧ o < 0x64)) || decide (0x100 ≤ o ∧ o < 0x200) || decide (0x1000 ≤ o ∧ o < 0x5000))

/-- A TOL register. -/
def State.viewTol (s : State) (a : Nat) : Nat :=
  if s.vehicle && tariffReg a then 0
  else if a = Reg.TOL_TIMEHI then s.tol.latchTime.1
  else if a = Reg.TOL_TIMESUB then s.tol.latchTime.2
  else if a = Reg.TOL_HWMHI then s.tol.latchHwm
  else match s.viewTime a with | some v => v | none => (match s.viewBook a with | some v => v | none => s.reg a)

/-- A CBU register or word of message RAM (R602). -/
def State.viewCbu (s : State) (a : Nat) : Nat :=
  let n := a % 0x10000 / 0x4000
  let o := a % 0x4000
  if 0x2000 ≤ o then s.canW n ((o - 0x2000) / 4)
  else if 2 ≤ n ∧ 0x50 ≤ o ∧ o < 0x68 then 0 else s.reg a

/-- What a register shows, without the effect of a read. -/
def State.viewReg (s : State) (a : Nat) : Nat :=
  match a / 0x10000 - 0x4000 with
  | 3 => if a = Reg.PYL_STAT then s.viewPylStat else s.reg a
  | 6 => s.viewKst a
  | 7 => s.viewArc a
  | 8 => s.viewGrd a
  | 9 => if a = Reg.CSN_MCLK then s.readMclk else (s.readView a).getD (s.reg a)
  | 10 => s.viewTol a
  | 13 => s.viewCbu a
  | 14 => if 0x400E0104 ≤ a ∧ a < 0x400E0114 then s.viewFault ((a - 0x400E0104) / 4) else s.reg a
  | _ => s.reg a

/-- RC fields return to their reset value (R12, R14). -/
def State.clearRc (s : State) (a : Nat) : State :=
  match findReg a with
  | some r => r.fields.foldl (fun s f => if f.acc = .rc then s.put ⟨a, f.lo, f.w⟩ f.reset else s) s
  | none => s

/-- A permitted read of the register at `a`: its value, and the state after it (R14, R39, R164, R381, R434, R665). -/
def State.readReg (s : State) (a : Nat) : Nat × State :=
  if (s.legalAt a).isSome then s.readLegal a
  else if a = Reg.SPN_TIMELO then
    let (dt, s) := s.freshBelow (s.periodUs * 1000)
    let t := s.siteNs + dt
    (t % 2 ^ 32, s.setReg Reg.SPN_TIMEHI (t / 2 ^ 32 % 2 ^ 32))
  else if a = Reg.TOL_TIMELO then s.readTimeLo
  else if a = Reg.TOL_HWMLO then s.readHwmLo
  else
    let v := s.viewReg a
    let s := if s.role = 2 ∧ a / 0x10000 = 0x4007 then s else s.clearRc a
    let s := if a / 0x10000 = 0x4004 ∧ a % 0x10000 < 0xC000 ∧ a % 0x1000 = 4 then
        s.modLink (a % 0x10000 / 0x1000) (fun k => { k with pflagsChanged := false }) else s
    if a = Reg.PRP_QUEUE then (v, { s with prp := { s.prp with irqC := false, irqD := false } }) else (v, s)

/-! ### Register writes, block by block: the level has been applied to `v` -/

def State.writeAbt (s : State) (m : Master) (a v : Nat) : State :=
  if a = Reg.ABT_PSREQ then s.wrPsreq m v
  else if a = Reg.ABT_PADHOLD then s.wrPadhold v
  else if a = Reg.ABT_WDOG then s.wrWatchdog v
  else if a = Reg.ABT_WDKICK then s.wrKick m v
  else if a = Reg.ABT_RESET then s.wrReset m v
  else s.writeByCode a v

def State.writePyl (s : State) (m : Master) (a v : Nat) : State :=
  if a = Reg.PYL_IMGCOMMIT then s.wrImgcommit m v
  else if a = Reg.PYL_CMDADDR then s.wrCmdaddr v
  else if a = Reg.PYL_CMDCTL then s.wrCmdctl v
  else if a = Reg.PYL_LCCTL then s.wrLcctl v
  else s.writeByCode a v

def State.writeSpn (s : State) (a v : Nat) : State :=
  let l := a % 0x10000 / 0x1000
  if l < 12 ∧ a % 0x1000 = 0 then s.wrSpanCtrl l v
  else if l < 12 ∧ a % 0x1000 = 0x20 then s.wrMgmtc l v
  else s.writeByCode a v

def State.writePhs (s : State) (a v : Nat) : State :=
  let n := a % 0x10000 / 0x1000
  let o := a % 0x1000
  if a = Reg.PHS_TLM then s.wrPhsTlm v
  else if 12 ≤ n then s.writeByCode a v
  else if o = 0 then s.wrPhsCtrl n v
  else if o = 8 then s.wrPhsShed n v
  else if o = 0x2C then s.wrPhsFault n v
  else s.writeByCode a v

def State.writeKst (s : State) (a v : Nat) : State :=
  let o := a % 0x10000
  if o < 0xC000 ∧ 0x40 ≤ o % 0x2000 ∧ o % 0x2000 < 0x80 then s.wrBank (o / 0x2000) ((o % 0x2000 - 0x40) / 4) v
  else if 0xD000 ≤ o ∧ o < 0xD200 ∧ o % 0x40 = 0 then s.wrOutCtrl ((o - 0xD000) / 0x40) v
  else if 0xD000 ≤ o ∧ o < 0xD200 ∧ o % 0x40 = 4 then s.wrOutSet ((o - 0xD000) / 0x40) v
  else s.writeByCode a v

def State.writeArc (s : State) (a v : Nat) : State :=
  if s.role = 2 then s
  else if a = Reg.ARC_CONTP then s.wrContP v
  else if a = Reg.ARC_CONTO then s.wrContO v
  else if a = Reg.ARC_CONTX 0 then s.wrContX 0 v
  else if a = Reg.ARC_CONTX 1 then s.wrContX 1 v
  else if a = Reg.ARC_GRID ∨ a = Reg.ARC_GRIDX ∨ a = Reg.ARC_BUF ∨ (0x40071000 ≤ a ∧ a < 0x40071400) then s.wrShadow a v
  else match isPol a with | some m => s.wrPol m v | none => s.writeByCode a v

def State.writeGrd (s : State) (a v : Nat) : State :=
  let o := a % 0x10000
  let u := o / 0x2000
  let x := o % 0x2000
  if o < 0x4000 then
    if x = 0 then s.wrGrdCtrl u v
    else if x = 8 then s.wrCal u v
    else if 0x10 ≤ x ∧ x < 0x20 then s.wrTrg u ((x - 0x10) / 4) v
    else if x = 0x300 then s.wrCapctl u v
    else s.writeByCode a v
  else if 0x8000 ≤ o ∧ o < 0x8100 ∧ o % 8 = 0 then s.wrWin ((o - 0x8000) / 8) v
  else s.writeByCode a v

def State.writeTol (s : State) (m : Master) (a v : Nat) : State :=
  let o := a % 0x10000
  if s.vehicle && tariffReg a then s
  else if a = Reg.TOL_MSNAP then s.wrMsnap v
  else if a = Reg.TOL_MCAL then s.wrMcal v
  else if a = Reg.TOL_TSETC then s.wrTsetc v
  else if a = Reg.TOL_CALCTL then s.wrCalctl m v
  else if 0x100 ≤ o ∧ o < 0x200 ∧ o % 0x20 = 0 then s.wrSess ((o - 0x100) / 0x20) v
  else if a = Reg.TOL_SAVE then s.wrSave v
  else if a = Reg.TOL_ARCCTL then s.wrArcctl m v
  else if a = Reg.TOL_RECCTL then s.wrRecctl v
  else if 0x6000 ≤ o ∧ o < 0x7000 then (if s.bit Fld.TOL_ARCCTL_BUSY then s else s.writeByCode a v)
  else s.writeByCode a v

def State.writeSty (s : State) (a v : Nat) : State :=
  let m := a % 0x10000 / 0x100
  let o := a % 0x100
  if 8 ≤ m then s.writeByCode a v
  else if o = 0 then s.wrStyCtrl m v
  else if o = 0xC then s.wrStyLim m v
  else if 0x20 ≤ o ∧ o < 0x40 then s.wrStyFw m ((o - 0x20) / 4) v
  else s.writeByCode a v

def State.writeVlk (s : State) (a v : Nat) : State :=
  let n := a % 0x10000 / 0x2000
  match a % 0x2000 with
  | 0 => s.wrVlkCtrl n v
  | 0x18 => s.wrVlkSess n v
  | 0x1C => s.wrWdog n v
  | 0x28 => s.wrVlkBmsi n v
  | 0x2C => s.wrPremote n v
  | 0x40 => s.wrVlkRing n a v
  | 0x44 => s.wrVlkRing n a v
  | 0x48 => s.wrVlkDoor n v
  | _ => s.writeByCode a v

def State.writeCbu (s : State) (a v : Nat) : State :=
  let n := a % 0x10000 / 0x4000
  let o := a % 0x4000
  if 0x2000 ≤ o then s.wrCanRam n ((o - 0x2000) / 4) v
  else if o = 0 then s.wrCanCtrl n v
  else if o = 0x20 then s.wrTxreq n v
  else if o = 0x24 then s.wrTxcan n v
  else if o = 0x34 then s.wrRxack n v
  else if o = 0x38 then s.wrRxring n v
  else if 0x50 ≤ o ∧ o < 0x68 then (if 2 ≤ n then s else s.writeByCode a v)
  else if o = 4 ∨ o = 8 ∨ o = 0x40 ∨ o = 0x44 ∨ 0x300 ≤ o then s.wrCanCfg n a v
  else s.writeByCode a v

/-- R663: only writes of Deck cores and Parapet pairs take effect. -/
def State.writePrp (s : State) (m : Master) (a v : Nat) : State :=
  if 6 ≤ m.val then s
  else if a = Reg.PRP_ARMREQ then s.wrArmreq m v
  else if a = Reg.PRP_FCLR then s.wrFclr m v
  else if a = Reg.PRP_FCLRK then s.wrFclrk m v
  else if a = Reg.PRP_SWSTOP then s.wrSwstop m v
  else if a = Reg.PRP_PSO then s.wrPso v
  else s.writeByCode a v

def State.writeTrs (s : State) (a v : Nat) : State :=
  let n := a % 0x10000 / 0x40
  if 16 ≤ n then s.writeByCode a v
  else if a % 0x40 = 0 then s.wrTrsCtrl n v
  else if a % 0x40 = 0x18 then s.wrTrsFault n v
  else s.writeByCode a v

/-- A 32-bit write of v by master m acts on the register at `a` (R12), whatever the level. -/
def State.writeReg (s : State) (m : Master) (a v : Nat) : State :=
  match a / 0x10000 - 0x4000 with
  | 1 => s.writeAbt m a v
  | 2 => if a = Reg.HKP_THRCTL then s.wrThrctl v else s.writeByCode a v
  | 3 => s.writePyl m a v
  | 4 => s.writeSpn a v
  | 5 => s.writePhs a v
  | 6 => s.writeKst a v
  | 7 => s.writeArc a v
  | 8 => s.writeGrd a v
  | 10 => s.writeTol m a v
  | 11 => s.writeSty a v
  | 12 => s.writeVlk a v
  | 13 => s.writeCbu a v
  | 14 => s.writePrp m a v
  | 15 => s.writeTrs a v
  | 16 => if a % 0x8000 = 0 then s.wrHlkCtrl (a % 0x10000 / 0x8000) v else s.writeByCode a v
  | _ => s.writeByCode a v

/-- A permitted write to a register after the seal: fields that their level keeps from it stay, and a write that would have acted on
one is counted once (R94). -/
def State.leveledWrite (s : State) (m : Master) (a v : Nat) : State :=
  let cur := s.viewReg a
  let x := s.gated a cur v
  let hit := s.gateHit a cur v
  let s1 := if s.shut a then s else s.writeReg m a x
  if hit then s1.violate m a else s1

/-! ### Transactions -/

/-- The QSP block, whose registers the spec does not describe (R48). -/
def isQsp (a : Nat) : Bool := a / 0x10000 == 0x4012

/-- A memory read of n bytes. The layout of the hardware areas of the Abutment store is not given: what their readers see is free. -/
def State.readMem (s : State) (a n : Nat) : Nat × State :=
  if 0x08000000 ≤ a ∧ a < 0x08001000 then s.fresh (8 * n)
  else ((List.range n).foldl (fun v i => v + s.readB (a + i) * 256 ^ i) 0, s)

/-- A transaction to a domain that is going off is held (R712); one to a domain that is off has no effect. -/
def State.holdTx (s : State) (m : Master) (a n : Nat) (v : Option Nat) : State :=
  if s.servedDomains = s.pwr.domains then s else s.modPwr (fun p => { p with heldTx := p.heldTx ++ [(m, a, n, v)] })

/-- A read of n bytes at `a` by master m; its value goes to `rdata`. `fetch`: an instruction fetch (R752). -/
def State.busRead (s : State) (m : Master) (a n : Nat) (fetch : Bool) : State :=
  if !s.masterLive m then s
  else if !s.accessOk m a n false || (fetch && !(blockOf a == some .rom || (List.range n).all (fun i => s.inExec (a + i) 1))) then
    { s.violate m a with rdata := 0 }
  else if !s.blockOn a then s.holdTx m a n none
  else
    let r := if blockOf a = some .reg then s.readReg a else s.readMem a n
    { r.2 with rdata := r.1 }

/-- A write of n bytes at `a` by master m. -/
def State.busWrite (s : State) (m : Master) (a n v : Nat) : State :=
  if !s.masterLive m then s
  else if !s.accessOk m a n true || (a / 0x10000 == 0x4009 && blockOf a == some .reg) then s.violate m a
  else if !s.blockOn a then s.holdTx m a n (some v)
  else if blockOf a = some .reg then s.leveledWrite m a v
  else s.setMem a (toLE n v)

/-- A 32-bit register write by a master, as the command of a row. -/
def State.wr (s : State) (m : Master) (a : Nat) (v : Word) : State := s.busWrite m a 4 v.toNat

/-- REGISTER_WRITE (R12, R44, R94, R802): any write by a master. -/
def execRegisterWrite (m : Master) (addr : Word) (size : Nat) (v : BitVec 64) (s : State) : Out :=
  if isQsp addr.toNat && s.masterLive m && s.accessOk m addr.toNat size true then .refused .qspRegister
  else .next (s.busWrite m addr.toNat size (v.toNat % 2 ^ (8 * size)))

/-- RC_READ (R14): any 32-bit read of a register by a master. -/
def execRcRead (m : Master) (addr : Word) (s : State) : Out :=
  if isQsp addr.toNat && s.masterLive m && s.accessOk m addr.toNat 4 false then .refused .qspRegister
  else .next (s.busRead m addr.toNat 4 false)

/-- FORBIDDEN_READ (R44, R752): a read, or an instruction fetch, which the access map may forbid. -/
def execForbiddenRead (m : Master) (addr : Word) (size : Nat) (fetch : Bool) (s : State) : Out :=
  if isQsp addr.toNat && s.masterLive m && s.accessOk m addr.toNat size false && !fetch then .refused .qspRegister
  else .next (s.busRead m addr.toNat size fetch)

def execSiteTimeRead (m : Master) (s : State) : Out := .next (s.busRead m Reg.SPN_TIMELO 4 false)
def execBillingTimeRead (m : Master) (s : State) : Out := .next (s.busRead m Reg.TOL_TIMELO 4 false)
def execHwmLowRead (m : Master) (s : State) : Out := .next (s.busRead m Reg.TOL_HWMLO 4 false)
def execSpanStatRead (m : Master) (n : Fin 12) (s : State) : Out := .next (s.busRead m (Reg.SPN_LINK_STAT n) 4 false)
/-- R381: the low word of a legal register; another address is no such command. -/
def execLegalRegisterLowRead (m : Master) (addr : Word) (s : State) : Out :=
  .next (if (s.legalAt addr.toNat).isSome then s.busRead m addr.toNat 4 false else s)

/-! ### Entry to STANDBY and PARK (R712) -/

/-- The transactions held by an entry that is aborted proceed in order. -/
def State.releaseTx (s : State) : State :=
  s.pwr.heldTx.foldl (fun s x => match x.2.2.2 with
    | some v => s.busWrite x.1 x.2.1 x.2.2.1 v
    | none => s.busRead x.1 x.2.1 x.2.2.1 false) (s.modPwr (fun p => { p with heldTx := [] }))

/-- A wake pin that is enabled stands at its active level: `pins` are the levels of WAKE0 to WAKE7. -/
def State.pinActive (s : State) (pins : Nat) : Bool :=
  (List.range 8).any (fun k => (s.get Fld.ABT_WAKECFG_PIN_EN).testBit k && pins.testBit k == (s.get Fld.ABT_WAKECFG_POL).testBit k)

/-- R712: the next checkpoint of the entry is reached. -/
def execEntryCheckpoint (pins : BitVec 8) (s : State) : Out :=
  .next (if !s.bit Fld.ABT_PSSTAT_BUSY then s
    else
      let k := s.get Fld.ABT_PSSTAT_STEP
      let park := s.pwr.target == 2
      if s.pwr.wakeSeen then
        let s := ((s.putB Fld.ABT_PSSTAT_BUSY false).putB Fld.ABT_PSSTAT_PEND false).put Fld.ABT_PSSTAT_PENDING 0
        let s := (s.put Fld.ABT_PSSTAT_RESULT 4).modPwr (fun p => { p with wakeSeen := false, target := 0 })
        if s.asleep then s.wake else s.releaseTx
      else if k = 0 then
        let s := (s.put Fld.ABT_PSSTAT_STEP 1).modPwr (fun p => { p with wakeSeen := s.pinActive pins.toNat })
        if park then s.beginSave 3 0 else s
      else if k = 1 then
        if park && s.tol.saving.isSome then s
        else
          let committed := s.bit Fld.PYL_IMGSTAT_COMMITTED
          let area := if s.asleep then s.pwr.saved else s.saveArea
          (s.put Fld.ABT_PSSTAT_STEP 2).modPwr (fun p => { p with
            saved := area, resume := if s.asleep then p.resume else some (s.load.cur, s.load.digest, committed) })
      else if k = 2 then s.put Fld.ABT_PSSTAT_STEP 3
      else
        let s := ((s.put Fld.ABT_PSSTAT_STEP 4).putB Fld.ABT_PSSTAT_BUSY false).put Fld.ABT_PSSTAT_RESULT 1
        (s.fallAsleep park).takePending)

/-! ### Commands that are one write -/

def execImageCommit (m : Master) (v : Word) (s : State) : Out := .next (s.wr m Reg.PYL_IMGCOMMIT v)
def execLifecycleDeploy (m : Master) (v : Word) (s : State) : Out := .next (s.wr m Reg.PYL_LCCTL v)
def execShedDisable (m : Master) (n : Fin 12) (v : Word) (s : State) : Out := .next (s.wr m (Reg.PHS_PIER_CTRL n) v)
def execPhsShedWrite (m : Master) (n : Fin 12) (v : Word) (s : State) : Out := .next (s.wr m (Reg.PHS_PIER_SHED n) v)
def execPhaseFaultClear (m : Master) (n : Fin 12) (v : Word) (s : State) : Out := .next (s.wr m (Reg.PHS_PIER_FAULT n) v)
def execAvgExpWrite (m : Master) (v : Word) (s : State) : Out := .next (s.wr m Reg.PHS_TLM v)
def execSpanResumeWrite (m : Master) (n : Fin 12) (v : Word) (s : State) : Out := .next (s.wr m (Reg.SPN_LINK_CTRL n) v)
def execSpanLoopPrbsWrite (m : Master) (n : Fin 12) (v : Word) (s : State) : Out := .next (s.wr m (Reg.SPN_LINK_CTRL n) v)
def execMgmtRequestGo (m : Master) (n : Fin 12) (v : Word) (s : State) : Out := .next (s.wr m (Reg.SPN_LINK_MGMTC n) v)
def execArcCommitGo (m : Master) (v : Word) (s : State) : Out := .next (s.wr m Reg.ARC_COMMIT v)
def execArcMoveGo (m : Master) (v : Word) (s : State) : Out := .next (s.wr m Reg.ARC_MOVE v)
/-- Kind 0 piers, 1 outlets, 2 and 3 crosspoints 0 to 31 and 32 to 63. -/
def execContestBitWrite (m : Master) (kind : Fin 4) (v : Word) (s : State) : Out :=
  .next (s.wr m (if kind.val = 0 then Reg.ARC_CONTP else if kind.val = 1 then Reg.ARC_CONTO else Reg.ARC_CONTX (kind.val - 2)) v)
def execGrdCaptureArm (m : Master) (u : Fin 2) (v : Word) (s : State) : Out := .next (s.wr m (Reg.GRD_U_CAPCTL u) v)
def execGrdCalGo (m : Master) (u : Fin 2) (v : Word) (s : State) : Out := .next (s.wr m (Reg.GRD_U_CAL u) v)
def execGrdPairWrite (m : Master) (u : Fin 2) (v : Word) (s : State) : Out := .next (s.wr m (Reg.GRD_U_CTRL u) v)
def execMeterSnapshotGo (m : Master) (v : Word) (s : State) : Out := .next (s.wr m Reg.TOL_MSNAP v)
def execMcalGo (m : Master) (v : Word) (s : State) : Out := .next (s.wr m Reg.TOL_MCAL v)
def execTimeCorrectionGo (m : Master) (v : Word) (s : State) : Out := .next (s.wr m Reg.TOL_TSETC v)
def execCalendarLoad (m : Master) (v : Word) (s : State) : Out := .next (s.wr m Reg.TOL_CALCTL v)
def execCalendarCancel (m : Master) (v : Word) (s : State) : Out := .next (s.wr m Reg.TOL_CALCTL v)
def execSessionStart (m : Master) (p : Fin 8) (v : Word) (s : State) : Out := .next (s.wr m (Reg.TOL_SESS_CTRL p) v)
def execSessionStop (m : Master) (p : Fin 8) (v : Word) (s : State) : Out := .next (s.wr m (Reg.TOL_SESS_CTRL p) v)
def execSessionRecordRequest (m : Master) (p : Fin 8) (v : Word) (s : State) : Out := .next (s.wr m (Reg.TOL_SESS_CTRL p) v)
def execRecordAck (m : Master) (v : Word) (s : State) : Out := .next (s.wr m Reg.TOL_RECCTL v)
def execSaveRequest (m : Master) (v : Word) (s : State) : Out := .next (s.wr m Reg.TOL_SAVE v)
def execArchiveGo (m : Master) (v : Word) (s : State) : Out := .next (s.wr m Reg.TOL_ARCCTL v)
def execStayBlockEnWrite (m : Master) (b : Fin 8) (v : Word) (s : State) : Out := .next (s.wr m (Reg.STY_CBL_CTRL b) v)
def execStayFwInputWrite (m : Master) (b : Fin 8) (j : Fin 8) (v : Word) (s : State) : Out := .next (s.wr m (Reg.STY_CBL_FW b j) v)
def execStayLimWrite (m : Master) (b : Fin 8) (v : Word) (s : State) : Out := .next (s.wr m (Reg.STY_CBL_LIM b) v)
def execPremoteWrite (m : Master) (n : Fin 8) (v : Word) (s : State) : Out := .next (s.wr m (Reg.VLK_L_PREMOTE n) v)
def execOutletEnWrite (m : Master) (o : Fin 8) (v : Word) (s : State) : Out := .next (s.wr m (Reg.KST_OUT_CTRL o) v)
def execChargeLoopKick (m : Master) (n : Fin 8) (v : Word) (s : State) : Out := .next (s.wr m (Reg.VLK_L_WDOG n) v)
def execCanEnable (m : Master) (n : Fin 4) (v : Word) (s : State) : Out := .next (s.wr m (Reg.CBU_B_CTRL n) v)
def execCanTxRequest (m : Master) (n : Fin 4) (v : Word) (s : State) : Out := .next (s.wr m (Reg.CBU_B_TXREQ n) v)
def execCanTxCancel (m : Master) (n : Fin 4) (v : Word) (s : State) : Out := .next (s.wr m (Reg.CBU_B_TXCAN n) v)
def execCanRxAck (m : Master) (n : Fin 4) (v : Word) (s : State) : Out := .next (s.wr m (Reg.CBU_B_RXACK n) v)
def execCanRecover (m : Master) (n : Fin 4) (v : Word) (s : State) : Out := .next (s.wr m (Reg.CBU_B_CTRL n) v)
def execSoftwareStop (m : Master) (v : Word) (s : State) : Out := .next (s.wr m Reg.PRP_SWSTOP v)
def execSafetyOutputRequest (m : Master) (v : Word) (s : State) : Out := .next (s.wr m Reg.PRP_PSO v)
def execFaultClearKey (m : Master) (v : Word) (s : State) : Out := .next (s.wr m Reg.PRP_FCLRK v)
def execFaultClear (m : Master) (v : Word) (s : State) : Out := .next (s.wr m Reg.PRP_FCLR v)
def execArmPiers (m : Master) (v : Word) (s : State) : Out := .next (s.wr m Reg.PRP_ARMREQ v)
def execDisarmPiers (m : Master) (v : Word) (s : State) : Out := .next (s.wr m Reg.PRP_ARMREQ v)
def execTrestleCommand (m : Master) (n : Fin 16) (v : Word) (s : State) : Out := .next (s.wr m (Reg.TRS_CH_CTRL n) v)
def execTrestleFaultClear (m : Master) (n : Fin 16) (v : Word) (s : State) : Out := .next (s.wr m (Reg.TRS_CH_FAULT n) v)
def execStateRequest (m : Master) (v : Word) (s : State) : Out := .next (s.wr m Reg.ABT_PSREQ v)
def execPadRelease (m : Master) (v : Word) (s : State) : Out := .next (s.wr m Reg.ABT_PADHOLD v)
def execWatchdogEnable (m : Master) (v : Word) (s : State) : Out := .next (s.wr m Reg.ABT_WDOG v)
def execWatchdogKick (m : Master) (v : Word) (s : State) : Out := .next (s.wr m Reg.ABT_WDKICK v)
def execFirmwareReset (m : Master) (v : Word) (s : State) : Out := .next (s.wr m Reg.ABT_RESET v)
def execThrottleNow (m : Master) (v : Word) (s : State) : Out := .next (s.wr m Reg.HKP_THRCTL v)

end Sys2Proof.Machine
end

