-- ==== Sys2Proof/Machine/Display.lean ====
section
/-! DEFINITION. The legal display (spec/10 from R468, spec/20 R795). -/

namespace Sys2Proof.Machine

/-! ### Frames (R469) -/

/-- One bit, and one byte, of the CRC-16 with polynomial 0x1021, unreflected. -/
def crc16Bit (c : Nat) : Nat := if c.testBit 15 then (c * 2 % 65536) ^^^ 0x1021 else c * 2 % 65536
def crc16Byte (c : Nat) (b : Byte) : Nat :=
  crc16Bit (crc16Bit (crc16Bit (crc16Bit (crc16Bit (crc16Bit (crc16Bit (crc16Bit (c ^^^ (b.toNat * 256)))))))))
def crc16 (l : List Byte) : Nat := l.foldl crc16Byte 0xFFFF

/-- A frame with address, command and payload. -/
def dpFrame (addr cmd : Nat) (p : List Byte) : List Byte :=
  let b := toLE 1 addr ++ toLE 1 cmd ++ toLE 1 p.length ++ p
  [0xA5] ++ b ++ toLE 2 (crc16 b)

/-! ### The display block (R472, R474) -/

/-- A number of the display block. -/
def State.disp (s : State) (o n : Nat) : Nat := s.body (0x1000 + o) n
def State.headOn (s : State) (n : Nat) : Bool := s.tol.run && !s.vehicle && (s.disp 1 1).testBit n
def State.headB (s : State) (n o k : Nat) : Nat := s.disp (64 + 120 * n + o) k
/-- Items of head n: QTY, SEL, DWELL, FMT. -/
def State.headItem (s : State) (n i : Nat) : List Nat := (List.range 4).map (fun k => s.headB n (4 + 4 * i + k) 1)
def State.headItems (s : State) (n : Nat) : List (List Nat) := (List.range (s.headB n 0 1)).map (s.headItem n)

/-- A pass of head n: 29 to 31 name the identification items 0x01 to 0x03 that the head entry does not list. -/
def State.passOf (s : State) (n : Nat) : List Nat :=
  let listed := (s.headItems n).map (fun i => nth 0 i 0)
  ([29, 30, 31].filter (fun k => !listed.contains (k - 28))) ++ List.range (s.headB n 0 1)

def State.head (s : State) (n : Nat) : DpHead := nth {} s.tol.heads n
def State.modHead (s : State) (n : Nat) (f : DpHead → DpHead) : State := s.modTol (fun t => { t with heads := updAt t.heads n f })

/-- The item that head n shows. -/
def State.itemOf (s : State) (n : Nat) : Nat := nth 29 (s.passOf n) (s.head n).pos

/-- The sequence of head n advances by k items. -/
def State.advanceHead (s : State) (n k : Nat) : State :=
  s.modHead n (fun h => { h with pos := (h.pos + k) % max 1 (s.passOf n).length })

/-! ### What is shown (R472, R473) -/

/-- Decimal digits of a number. -/
def decDigits : Nat → Nat → List Byte
  | 0, _ => []
  | f + 1, n => (if n < 10 then [] else decDigits f (n / 10)) ++ [BitVec.ofNat 8 (48 + n % 10)]

/-- `n` units of 10^-k, with its decimal point. -/
def decPoint (n k : Nat) : List Byte :=
  if k = 0 then decDigits 40 n
  else
    let d := decDigits 40 n
    let d := List.replicate (k + 1 - d.length) (48 : Byte) ++ d
    d.take (d.length - k) ++ [46] ++ d.drop (d.length - k)

/-- "OVERFLOW", and a text right-aligned on a line of 20. -/
def overflowText : List Byte := [79, 86, 69, 82, 70, 76, 79, 87]
def rightLine (t : List Byte) : List Byte :=
  let t := if 20 < t.length then overflowText else t
  List.replicate (20 - t.length) 32 ++ t
def padTo (n : Nat) (t : List Byte) : List Byte := (t ++ List.replicate n 32).take n

/-- Hexadecimal digits of bytes. -/
def hexText (l : List Byte) : List Byte :=
  l.flatMap (fun b => [b.toNat / 16, b.toNat % 16].map (fun d => BitVec.ofNat 8 (if d < 10 then 48 + d else 55 + d)))

/-- Energy in mWh by FMT: line and unit. -/
def energyText (e fmt : Nat) : List Byte × List Byte :=
  let k := fmt % 8
  let (den, u) : Nat × List Byte := match fmt / 8 % 4 with
    | 0 => (1000, [87, 104]) | 1 => (1000000, [107, 87, 104]) | _ => (1000000000, [77, 87, 104])
  (decPoint (e * 10 ^ k / den) k, u)

/-- The energy of a point, whole mWh: 0 to 7 DC, 8 to 11 AC (AIMP, AEXP). -/
def State.ptEnergy (s : State) (p : Nat) (exp : Bool) : Nat :=
  mwh (if p < 8 then (if exp then (s.dcPt p).exp else (s.dcPt p).imp) else nth 0 (s.acPt (p - 8)).e (if exp then 1 else 0))
def State.ptTariff (s : State) (p t : Nat) (exp : Bool) : Nat :=
  mwh (if p < 8 then (if exp then nth 0 (s.dcPt p).tExp t else nth 0 (s.dcPt p).tImp t)
    else (if exp then nth 0 (s.acPt (p - 8)).tExp t else nth 0 (s.acPt (p - 8)).tImp t))

/-- Line 2 and unit of an item. -/
def State.itemText (s : State) (q sel fmt : Nat) : List Byte × List Byte :=
  let x := s.sess sel
  match q with
  | 0x01 => (Config.idText s.bookHdr.meterId, [])
  | 0x02 => (hexText (s.load.swid.take 8), [])
  | 0x03 => (Config.text 3 s.role, [])
  | 0x04 => (Config.text 4 (localOf s.tol.book.calA s.billSec), [])
  | 0x05 => (Config.text 5 s.tState, [])
  | 0x06 => ((s.tol.book.calA.drop (0x40 + 8 * s.get Fld.TOL_TSTAT_TARIFF)).take 8, [])
  | 0x10 => energyText (s.ptEnergy sel false) fmt
  | 0x11 => energyText (s.ptEnergy sel true) fmt
  | 0x12 => energyText (s.ptTariff (sel % 16) (sel / 16) false) fmt
  | 0x13 => energyText (s.ptTariff (sel % 16) (sel / 16) true) fmt
  | 0x14 => energyText x.imp fmt
  | 0x15 => energyText x.exp fmt
  | 0x16 => energyText x.loss fmt
  | 0x17 => (decDigits 40 x.id, [])
  | 0x18 => (decPoint (nth 0 (s.acPt sel).md 8 * 10 ^ (fmt % 8) / 256) (fmt % 8), [107, 87])
  | 0x19 =>
    let w := s.getS (Fld.CSN_DC_MEAS_VALUE sel 2)
    ((if w < 0 then [45] else []) ++ decDigits 40 w.natAbs, [87])
  | 0x1A => (decDigits 40 (leAt s.tol.book.calA 8 4), [])
  | 0x1B => (decDigits 40 s.tol.book.uner.length, [])
  | _ => (Config.text q sel, [])

/-- "TOLL BOOK FAULT" (R457). -/
def faultText : List Byte := [84, 79, 76, 76, 32, 66, 79, 79, 75, 32, 70, 65, 85, 76, 84]

/-- Payload of SHOW for item i of head n. -/
def State.showPayload (s : State) (n i : Nat) : List Byte :=
  let it := if 29 ≤ i then [i - 28, 0, 40, 0] else s.headItem n i
  let (l2, u) := s.itemText (nth 0 it 0) (nth 0 it 1) (nth 0 it 3)
  let bad := s.bit Fld.TOL_BOOK_DAMAGED
  let fl := (if bad then 1 else 0) + (if s.tState = 2 then 0 else 2)
  if bad then padTo 20 faultText ++ padTo 20 [] ++ padTo 6 [] ++ toLE 1 i ++ toLE 1 fl
  else padTo 20 (Config.caption (nth 0 it 0) (nth 0 it 1)) ++ rightLine l2 ++ padTo 6 u ++ toLE 1 i ++ toLE 1 fl

/-- R471: SHOW to head n. -/
def execDisplayShow (n : Fin 8) (s : State) : Out :=
  .next (if !s.headOn n then s
    else
      let i := s.itemOf n
      (s.put (Fld.TOL_DPHEAD_ITEM n) i).modTol (fun t => { t with dpTx := dpFrame n 1 (s.showPayload n i) }))

/-- R471: POLL to head n. -/
def execDisplayPoll (n : Fin 8) (s : State) : Out :=
  .next (if s.headOn n then s.modTol (fun t => { t with dpTx := dpFrame n 2 [] }) else s)

/-- R469 to R471, R475: a STATUS frame has been received. -/
def execHeadStatusRx (bytes : List Byte) (s : State) : Out :=
  .next (
    let ok := bytes.length == 16 && leAt bytes 0 1 == 0xA5 && 0x80 ≤ leAt bytes 1 1 && leAt bytes 1 1 < 0x88 &&
      leAt bytes 2 1 == 0x80 && leAt bytes 3 1 == 10 && leAt bytes 14 2 == crc16 ((bytes.drop 1).take 13)
    let n := leAt bytes 1 1 % 8
    if !ok || !s.headOn n then s
    else
      let p := leAt bytes 4 1
      let st := leAt bytes 5 1
      let h := s.head n
      let k := (p + 256 - s.get (Fld.TOL_DPHEAD_PRESSES n)) % 256
      let s := ((s.put (Fld.TOL_DPHEAD_PRESSES n) p).put (Fld.TOL_DPHEAD_STATUS n) st).putBit Fld.TOL_DPSTAT_PRESENT n true
      let s := if h.lost then (s.log 0x0111 0xFF (toLE 1 n ++ toLE 1 1)).putB Fld.TOL_BEVT_HEAD_BACK true else s
      let s := s.modHead n (fun h => { h with miss := 0, lost := false, known := true })
      if h.known && k != 0 && s.headB n 1 1 % 2 == 1 && !st.testBit 1 then
        (s.advanceHead n k).modHead n (fun h => { h with pressed := s.headB n 2 2 != 0 })
      else s)

/-- R471, R795: a STATUS frame is missing. -/
def execHeadStatusTimeout (n : Fin 8) (s : State) : Out :=
  .next (if !s.headOn n then s
    else
      let h := s.head n
      let s := s.modHead n (fun h => { h with miss := satInc 3 h.miss })
      if h.lost || h.miss < 2 then s
      else ((s.putBit Fld.TOL_DPSTAT_PRESENT n false).modHead n (fun h => { h with lost := true })).log 0x0111 0xFF
        (toLE 1 n ++ toLE 1 0) |>.putB Fld.TOL_BEVT_HEAD_LOST true)

/-- R474, R475: DWELL, or after a press TIMEOUT, has passed; the sequence moves to the next item. -/
def execDisplayDwellExpiry (n : Fin 8) (s : State) : Out :=
  .next (if s.headOn n then (s.advanceHead n 1).modHead n (fun h => { h with pressed := false }) else s)

end Sys2Proof.Machine
end

