-- ==== Sys2Proof/Machine/Checks.lean ====
section
/-! DEFINITION. The capacity and consistency checks that the loader makes before the seal (R105, reason 0x0A), the role agreement of
R79 and the required sections of R62, all read from the loaded sections and the registers they set. -/

namespace Sys2Proof.Machine

/-- lo ≤ x ≤ hi. -/
def within (x lo hi : Nat) : Bool := decide (lo ≤ x ∧ x ≤ hi)

/-- No two elements are equal. -/
def distinct : List Nat → Bool
  | [] => true
  | x :: t => !t.contains x && distinct t

/-- Bytes `n` from offset `o` of a section are zero. -/
def State.zeroAt (s : State) (ty o n : Nat) : Bool := (List.range n).all (fun i => s.cfgB ty (o + i) == 0)

/-! ### Timing (R29, R60, R229) -/

/-- CUTOFF and SEND_LIM in force, 0.1 µs. -/
def cutoffOf (h : List Byte) : Nat := if leAt h 0x48 2 = 0 then leAt h 0x0E 2 * 10 / 4 else leAt h 0x48 2
def sendLimOf (h : List Byte) : Nat := if leAt h 0x4A 2 = 0 then leAt h 0x0E 2 * 10 - 10 else leAt h 0x4A 2

def timingOk (h : List Byte) : Bool :=
  let t := leAt h 0x0E 2
  (leAt h 0x48 2 == 0 || within (leAt h 0x48 2) 10 (5 * t)) && (leAt h 0x4A 2 == 0 || within (leAt h 0x4A 2) (5 * t) (10 * t - 5)) &&
  decide (cutoffOf h < sendLimOf h) && decide (leAt h 0x4C 1 < 4)

/-! ### LINKMAP (R88, R105) -/

/-- The Span entries: one primary for a pier, with at most one standby, each the other's PARTNER. -/
def State.spanOk (s : State) : Bool :=
  (List.range 12).all (fun l =>
    let u := s.spanUse l
    u == 0 || (u ≤ 2 && s.spanPier l < 12 && within (s.cfgB 4 (16 * l + 2)) 1 32 && s.cfgB 4 (16 * l + 3) ≤ 1 &&
      ((List.range 12).filter (fun k => s.spanUse k == u && s.spanPier k == s.spanPier l)).length == 1 &&
      (match s.pierLink (s.spanPier l) (3 - u) with
       | some k => s.spanPartner l == k && s.spanPartner k == l
       | none => u == 1 && s.spanPartner l == 0xFF))) &&
  decide ((s.piersInUse.map s.pierPhases).sum ≤ 384) && (List.range 2).all (fun t => s.twinUse t ≤ 2)

/-- Vehicle entries: the ranges of R88, and R507. -/
def State.vehicleOk (s : State) : Bool :=
  (List.range 8).all (fun n =>
    let u := s.vlUse n
    u == 0 || (u ≤ 2 && s.vlKind n ≤ 2 && s.vlOutlet n < 8 && within (s.vlProto n) 1 7 && s.cfgB 4 (0x100 + 16 * n + 4) ≤ 1 &&
      (if s.vlKind n = 2 then within (s.vcfg n 0 1) 1 2 else s.vcfg n 0 1 == 0) && (!s.vlBidir n || (s.vlProto n).testBit 0) &&
      ((List.range 8).filter (fun k => s.vlUse k != 0 && s.vlOutlet k == s.vlOutlet n)).length == 1 &&
      s.vcfg n 8 2 ≤ s.vcfg n 0xA 2 && s.vcfg n 0xC 2 ≤ s.vcfg n 0xE 2))

/-- R547: the layer parameters of a link in use. -/
def State.layersOk (s : State) : Bool :=
  (List.range 8).all (fun n =>
    let b (o : Nat) := s.vcfg n o 1
    !s.vlUsed n || (b 0x100 < 16 && b 0x101 ≤ 3 && b 0x102 ≤ 60 && within (b 0x103) 10 90 && within (b 0x104) 0x20 0xF0 && b 0x105 ≤ 3 &&
      within (s.vcfg n 0x106 2) 10 200 && s.vcfg n 0x108 2 ≤ 10000 && within (b 0x10A) 1 64 && within (b 0x10B) 1 50 && b 0x10C ≤ 1 &&
      b 0x110 ≤ 7 && within (b 0x111) 2 8 && within (b 0x112) 20 255 && b 0x113 ≤ 8 && within (b 0x114) 32 255 &&
      (s.vlKind n != 0 || !s.lflag n 3 || decide (b 0x110 < b 0x111))))

/-- R62, R79: the header's ROLE agrees with the sections. -/
def State.roleOk (s : State) (role : Nat) : Bool :=
  let uses := ((List.range 8).map s.vlUse).filter (· != 0)
  let site := s.hasSec 8 && s.hasSec 9
  match role with
  | 1 => site && uses.all (· == 1)
  | 2 => !s.hasSec 8 && !s.hasSec 9 && within uses.length 1 2 && uses.all (· == 2)
  | 3 => site && (uses.filter (· == 2)).length == 1 && uses.all (fun u => u == 1 || u == 2)
  | _ => false

/-- R62: the sections that every image, a SITE or DUAL image, and an image with a Span link in use must have. A SITE or DUAL image without
LEGAL or ARCH_POLICY lacks a section that R62 asks of it and also disagrees with its ROLE by R79: that the reason is 0x07 and not 0x09 is
a DESIGN CHOICE (log entry 85). -/
def State.required (s : State) (role : Nat) : Bool :=
  [1, 2, 4, 5, 6, 0xF].all s.hasSec && (role == 2 || (s.hasSec 8 && s.hasSec 9)) &&
  ((List.range 12).all (fun l => s.spanUse l == 0) || s.hasSec 0xB)

/-! ### Causeway (R43, R52, R105) -/

/-- The quotas, as the section has them and as they stand in the registers after the pairs of PRESET, lie within their range. -/
def State.causewayOk (s : State) : Bool :=
  (List.range 15).all (fun n => let lo := if n == 4 || n == 5 then 4 else 1
    within (s.cfgB 5 n) lo 32 && within (s.get (Fld.CWY_QUOTA_QUOTA n)) lo 32) &&
  (List.range 256).all (fun n =>
    let t := s.get (Fld.CWY_IRQRTE_TARGET n)
    within n 24 31 || within n 180 195 || !within t 6 8)

/-! ### PHASE (R166, R176) -/

def State.phaseOk (s : State) : Bool :=
  s.piersInUse.all (fun n =>
    let k := s.pierPhases n
    s.pierReg n 0 == k && within (s.nSw n) 192000 1920000 &&
    (List.range 32).all (fun p => s.fitted n p == decide (p < k)) &&
    (List.range k).all (fun p => s.order n p < k && decide (s.tWarn n p < s.tMax n p)) && distinct ((List.range k).map (s.order n)))

/-! ### Keystone (R87, R105, R224, R227, R228) -/

/-- A field of slot record i. -/
def State.rec2 (s : State) (i o n : Nat) : Nat := s.cfg 2 (256 * i + o) n
def State.recS2 (s : State) (i o n : Nat) : Int := s.cfgS 2 (256 * i + o) n
def State.slotCount (s : State) : Nat := s.lenOf 2 / 256
/-- Engine and position as one number. -/
def State.recAt (s : State) (i : Nat) : Nat := s.rec2 i 0 1 * 65536 + s.rec2 i 1 2
def State.recRole (s : State) (i : Nat) : Nat := s.rec2 i 8 1 / 16 % 4
/-- The five source descriptors. -/
def State.recSrc (s : State) (i : Nat) : List Nat := [0x0C, 0x10, 0x14, 0x18, 0x1C].map (fun o => s.rec2 i o 4)
def srcKind (d : Nat) : Nat := d / 2 ^ 28 % 16
/-- Engine and position that a KIND 0x2 source names. -/
def srcSlot (d : Nat) : Nat := d / 4096 % 8 * 65536 + d % 1024

/-- Records that record i depends on. -/
def State.recDeps (s : State) (i : Nat) : List Nat :=
  (s.recSrc i).flatMap (fun d =>
    if srcKind d = 2 then (List.range s.slotCount).filter (fun j => s.recAt j == srcSlot d)
    else if srcKind d = 4 then (List.range s.slotCount).filter (fun j => s.recRole j == 1 || s.recRole j == 2)
    else [])

/-- The records that remain when those without a remaining dependency are taken away, `k` times over. -/
def State.cyclic (s : State) : Nat → List Nat → List Nat
  | 0, l => l
  | k + 1, l => State.cyclic s k (l.filter (fun i => (s.recDeps i).any l.contains))

def State.recordOk (s : State) (i : Nat) : Bool :=
  let role := s.recRole i
  let f := s.rec2 i 8 1
  let out := s.rec2 i 9 1
  let pier := s.rec2 i 0xA 1
  let ph := s.rec2 i 0xB 1
  s.rec2 i 0 1 ≤ 4 && decide (s.rec2 i 1 2 < capacityAt s.periodUs) && s.rec2 i 3 1 ≤ 31 && s.zeroAt 2 (256 * i + 4) 4 &&
  decide (f % 4 < 2) && decide (f / 64 < 3) && decide (s.recS2 i 0x28 4 ≤ s.recS2 i 0x2C 4) && (out < 8 || out == 0xFF) &&
  (pier < 12 || pier == 0xFF) && (role != 3 || (pier < 12 && decide (ph < s.pierPhases pier))) &&
  s.zeroAt 2 (256 * i + 0x56) 2 && s.zeroAt 2 (256 * i + 0x84) 124 &&
  (s.recSrc i).all (fun d => decide (srcKind d ≤ 5) && (srcKind d != 2 || (decide (d / 4096 % 8 ≤ 4) &&
    (List.range s.slotCount).any (fun j => s.recAt j == srcSlot d))))

/-- R227: an outlet in use has one ROLE 1 slot and at most one ROLE 2 slot. -/
def State.outletSlots (s : State) (role m : Nat) : Bool :=
  let l := (List.range s.slotCount).filter (fun i => s.rec2 i 9 1 == m)
  let used := s.cfgB 9 (0x100 + 64 * m) % 2 == 1 && s.lenOf 9 != 0 ||
    (List.range 8).any (fun n => s.vlUse n == 1 && s.vlOutlet n == m && role != 2) || l != []
  !used || ((l.filter (fun i => s.recRole i == 1)).length == 1 && decide ((l.filter (fun i => s.recRole i == 2)).length ≤ 1))

def State.kstOk (s : State) (role : Nat) : Bool :=
  let n := s.slotCount
  let r3 := ((List.range n).filter (fun i => s.recRole i == 3)).map (fun i => 256 * s.rec2 i 0xA 1 + s.rec2 i 0xB 1)
  (List.range n).all s.recordOk && distinct ((List.range n).map s.recAt) && distinct r3 && (List.range 8).all (s.outletSlots role) &&
  s.cyclic n (List.range n) == [] && (!s.hasSec 3 || (s.lenOf 3 == 128 * n &&
    (List.range (2 * n)).all (fun b => s.zeroAt 3 (64 * b + 40) 24)))

/-! ### ARCH_POLICY (R296, R297) -/

def State.archOk (s : State) : Bool :=
  let b (o n : Nat) := s.site o n
  let used (o : Nat) : Bool := s.cfgB 9 o % 2 == 1
  let bufs := (List.range 16).filter (fun m => (s.cfgB 9 (0x100 + 64 * m)).testBit 2)
  let xps := (List.range 64).filter (fun k => used (0x800 + 16 * k))
  let gs := (List.range 16).map (fun m => s.site (0x104 + 64 * m) 4)
  s.lenOf 9 == 0 || (
    within (b 0x10 2) 100 60000 && within (b 0x12 1) 1 10 && (b 0x13 1 ≤ 15 || b 0x13 1 == 0xFF) && within (b 0x14 2) 10 10000 &&
    within (b 0x16 2) 1000 60000 && within (b 0x18 1) 1 255 && within (b 0x19 1) 1 4 && b 0x1A 1 ≤ 50 && within (b 0x1B 1) 1 50 &&
    within (b 0x32 1) 100 200 && within (b 0x33 1) 1 12 && (if b 0x13 1 = 0xFF then bufs == [] else bufs == [b 0x13 1]) &&
    (List.range 16).all (fun m => s.cfgB 9 (0x100 + 64 * m) < 8 && s.cfgB 9 (0x101 + 64 * m) ≤ 3) &&
    (List.range 24).all (fun p => s.cfgB 9 (0x500 + 32 * p) < 4) &&
    xps.all (fun k => let x := 0x800 + 16 * k
      used (0x500 + 32 * s.cfgB 9 (x + 1)) && s.cfgB 9 (x + 1) < 24 && used (0x100 + 64 * s.cfgB 9 (x + 2)) && s.cfgB 9 (x + 2) < 16 &&
      within (s.cfgB 9 (x + 3)) 1 200) &&
    distinct (xps.map (fun k => 256 * s.cfgB 9 (0x801 + 16 * k) + s.cfgB 9 (0x802 + 16 * k))) &&
    gs.all (fun g => decide (g < 2 ^ 24)) && decide (gs.sum + b 8 4 ≤ b 0 4))

/-! ### Converters and metrology (R343, R345, R353, R354) -/

def State.channelsOk (s : State) : Bool :=
  let src (c : Nat) := s.get (Fld.CSN_CH_CFG_SRC c)
  let en (j : Nat) : Bool := s.bit (Fld.GRD_MOD_CFG_EN j)
  (List.range 40).all (fun c =>
    (src c < 40 || src c == 0xFF) && !(s.bit (Fld.CSN_CH_CFG_LEGAL c) && s.bit (Fld.CSN_CH_CFG_TRUSS_OUT c)) &&
    !(decide (src c < 8) && en (src c))) &&
  (List.range 8).all (fun j => s.get (Fld.GRD_MOD_CFG_OSR j) != 3)

def State.pointsOk (s : State) (role : Nat) : Bool :=
  let dcs := (List.range 8).filter s.dcOn
  let acs := (List.range 4).filter s.acOn
  let chs (p : Nat) := [s.dcV p, s.dcI p]
  let all := dcs.flatMap chs ++ acs.flatMap s.acCh
  let osr (c : Nat) := s.get (Fld.CSN_CH_CFG_OSR c)
  (List.range 4).all (fun g => s.get Fld.TOL_DEMCFG_LEN / 16 ^ g % 16 ≤ 5) &&
  distinct all && (role == 2 || all.all (fun c => s.bit (Fld.CSN_CH_CFG_LEGAL c))) && (role != 2 || acs == []) &&
  dcs.all (fun p => osr (s.dcV p) == osr (s.dcI p) && (chs p).all (fun c => !s.bit (Fld.CSN_CH_DYN_RG_EN c)) &&
    (!s.bit (Fld.CSN_DC_CFG_COMP p) || s.cfgB 0xA (512 * p) % 2 == 1)) &&
  acs.all (fun g => (s.acCh g).all (fun c => osr c != 3 && osr c == osr ((s.acCh g).headD 0)))

/-! ### STAY and TRESTLE (R483, R694) -/

def State.cableOk (s : State) (m : Nat) : Bool :=
  let o := 512 * m
  let b (k n : Nat) := s.cfg 0xA (o + k) n
  let i (k : Nat) : Int := s.cfgS 0xA (o + k) 4
  let src (j : Nat) := b (0x80 + 16 * j) 4 / 2 ^ 28
  let use : Bool := b 0 1 % 2 == 1
  let q (k : Nat) : Rat := (b k 4 : Rat) / 65536
  let dt : Rat := (((10000 + s.periodUs - 1) / s.periodUs * s.periodUs : Nat) : Rat) / 1000000
  let rcw : Rat := q 0x18 / 1000
  let g : Rat := q 0x50 * q 0x1C / 60
  let names := (List.range 8).flatMap (fun k => if s.cfgB 0xA (512 * k) % 2 = 1 then (List.range 3).map (fun x => s.cfgB 0xA (512 * k + 1 + x)) else [])
  let acts := ((List.range 3).map (fun x => b (1 + x) 1)).filter (· != 0xFF)
  !use || (
    (List.range 8).all (fun j => decide (src j ≤ 3)) && src 0 != 0 && src 2 != 0 && (src 3 != 0 || src 4 != 0) &&
    (src 7 != 0) == (b 0 1).testBit 1 && (b 1 1 == 0xFF || src 5 != 0) &&
    acts.all (fun c => (names.filter (· == c)).length == 1 && decide (c < 16) && s.cfgB 7 (64 * c) % 2 == 1 &&
      (s.cfgB 7 (64 * c + 1) == 0xFF || s.cfgB 7 (64 * c + 1) == c)) &&
    decide (0 < b 0x10 4) && decide (0 < b 0x14 4) && decide (0 < b 0x18 4) && decide (0 < b 0x1C 4) && decide (0 < b 0x38 4) &&
    decide ((b 0x34 4 : Int) < i 0x2C - i 0xC) && decide (dt ≤ rcw * q 0x10 / 2) && decide (dt * (1 / rcw + 2 * g) ≤ q 0x14 / 2) &&
    decide (i 0x54 < i 0x58) && decide (i 0x5C < i 0x60))

def State.switchOk (s : State) (n : Nat) : Bool :=
  let o := 64 * n
  let b (k m : Nat) := s.cfg 7 (o + k) m
  let fl := b 0 1
  let members := (List.range 16).filter (fun k => s.cfgB 7 (64 * k) % 2 == 1 && s.cfgB 7 (64 * k + 1) == b 1 1)
  fl % 2 == 0 || (
    decide (fl < 32) && b 2 1 ≤ 15 && b 3 1 ≤ 5 && within (b 4 2) 10 10000 && within (b 6 1) 1 50 && within (b 7 1) 1 15 &&
    (if fl.testBit 2 then within (b 8 2) 1 200 else within (b 8 2) 50 2000) && within (b 0xA 2) 10 10000 &&
    (if fl.testBit 1 then within (b 0xC 2) 1 3600 else b 0xC 2 == 0) && b 0xE 1 ≤ 1 &&
    (b 1 1 == 0xFF || (members.head? == some (b 1 1) && decide (members.length ≤ 4) &&
      members.all (fun k => (List.range 14).all (fun x => s.cfgB 7 (64 * k + x) == s.cfgB 7 (o + x))))))

/-! ### PARAPET (R611, R619, R627, R661, R662) -/

/-- Default class of a code that has one, and the least severe one of a code whose class depends on the event (R610, R611). -/
def State.defaultClass (s : State) (c : Nat) : Option Nat :=
  let units := ((List.range 16).filter (fun n => s.psiKind n == 2)).map (fun n => s.cfgB 6 (0x41 + 16 * n)) ++
    ((List.range 16).filter (fun k => s.cfgB 6 (0x420 + 8 * k + 6) == 1)).map (fun k => s.cfgB 6 (0x420 + 8 * k + 2))
  if [0x01, 0x05, 0x0C, 0x0D, 0x0E, 0x10, 0x2F, 0x32].contains c then some 1
  else if [0x02, 0x03, 0x04, 0x11].contains c then (if units == [] then none else some (units.foldl max 1))
  else if [0x06, 0x07, 0x09, 0x0A, 0x0B, 0x20, 0x21, 0x25, 0x26, 0x28, 0x2B, 0x2E].contains c then some 2
  else if [0x08, 0x0F, 0x22, 0x23, 0x24, 0x27, 0x29, 0x2A, 0x2C, 0x2D, 0x30, 0x31].contains c then some 3
  else if c = 0x12 then some 4 else none

def State.inputOk (s : State) (n : Nat) : Bool :=
  let b (k m : Nat) := s.par (0x40 + 16 * n + k) m
  let estop (t : Nat) : Bool := b 0 1 != 1 || s.par (0x140 + 8 * t + 2) 2 == 10
  b 0 1 == 0 || (b 0 1 ≤ 2 && within (b 1 1) 1 2 && b 2 1 ≤ 1 && b 3 1 ≤ 7 && b 4 1 ≤ 7 && b 3 1 != b 4 1 && within (b 6 2) 5 1000 &&
    b 8 2 < 256 && b 0xA 2 < 4096 && estop (b 3 1) && estop (b 4 1))

def State.parapetOk (s : State) : Bool :=
  let b (o n : Nat) := s.par o n
  b 0 4 == 0x50524150 && b 4 2 == 1 && b 6 1 < 2 && b 8 2 ≤ 450 && within (b 0xA 2) 10 1000 && within (b 0xC 1) 1 100 && within (b 0xD 1) 1 50 &&
  (List.range 16).all s.inputOk &&
  (List.range 8).all (fun t => let o := 0x140 + 8 * t
    b o 1 ≤ 1 && (b o 1 == 0 || (within (b (o + 2) 2) 10 1000 && within (b (o + 4) 2) 10 1000))) &&
  (List.range 12).all (fun k => let o := 0x180 + 16 * k
    b o 1 ≤ 4 && (b (o + 2) 2 == 0 || within (b (o + 2) 2) 100 500) && (b o 1 == 0 || b (o + 4) 1 == 0xFF ||
      (b (o + 4) 1 ≤ 15 && b (0x2C0 + 16 * b (o + 4) 1) 1 == k))) &&
  (List.range 4).all (fun n => let o := 0x240 + 32 * n
    s.zeroAt 6 o 32 || (b o 1 ≤ 7 && within (b (o + 2) 2) 100 10000 && b (o + 0xC) 4 / 2 ^ 28 == 1 && within (b (o + 0x14) 1) 1 10)) &&
  (List.range 16).all (fun k => let o := 0x420 + 8 * k
    b (o + 6) 1 ≤ 1 && (b (o + 6) 1 == 0 || (within (b o 2) 2200 2215 && within (b (o + 2) 1) 1 4))) &&
  (List.range 64).all (fun c => let f := b (0x4A0 + c) 1
    f ≤ 4 && (f == 0 || (match s.defaultClass c with | some d => decide (f ≤ d) | none => true))) &&
  sha3 256 ((List.range 14336).map (fun i => BitVec.ofNat 8 (s.cfgB 6 (0x800 + i)))) ==
    (List.range 32).map (fun i => BitVec.ofNat 8 (s.cfgB 6 (0x20 + i)))

/-- R804: no two PROFILE entries name the same function and instance. -/
def State.profileOk (s : State) : Bool :=
  distinct (((List.range 16).filter (fun k => s.cfgB 0xF (16 * k) != 0)).map (fun k => s.cfg 0xF (16 * k) 2))

/-- Every check of reason 0x0A. -/
def State.consistent (s : State) (role : Nat) : Bool :=
  timingOk s.load.hdr && s.spanOk && s.vehicleOk && s.layersOk && s.causewayOk && s.phaseOk && s.kstOk role && s.archOk && s.channelsOk &&
  s.pointsOk role && (List.range 8).all s.cableOk && (List.range 16).all s.switchOk && s.parapetOk && s.profileOk

end Sys2Proof.Machine
end

