-- ==== Sys2Proof/Machine/Loader.lean ====
section
/-! DEFINITION. Loading an image: slot choice, streaming, configuration, the seal and the release of the engines (spec/02, R58 to R108;
spec/17, R716, R717, R801), and the re-stream at a wake. -/

namespace Sys2Proof.Machine

def State.modLoad (s : State) (f : Load → Load) : State := { s with load := f s.load }

/-! ### Header and directory (R59, R61, R805 to R807) -/

/-- Types that may carry an instance: number of instances and bytes of a block (R806). -/
def blockOfType (ty : Nat) : Option (Nat × Nat) :=
  if ty = 7 then some (16, 64) else if ty = 0xA then some (8, 512) else if ty = 0xB then some (12, 1024)
  else if ty = 0xC then some (8, 1024) else if ty = 0xD then some (4, 1024) else none

/-- Length that the spec fixes for a whole section (R807). -/
def fixedLen (ty : Nat) : Option Nat :=
  if ty = 1 then some 3932160 else if ty = 4 then some 2048 else if ty = 5 then some 9792 else if ty = 6 then some 16384
  else if ty = 9 then some 8192 else if ty = 0xF then some 256 else (blockOfType ty).map (fun b => b.1 * b.2)

/-- The length of a directory entry is one that R807 takes. -/
def lenOk (e : List Byte) : Bool :=
  let ty := eType e
  if ty = 2 then eLen e % 256 == 0 else if ty = 0xE then eLen e % 8 == 0
  else match blockOfType ty, fixedLen ty with
    | some b, _ => if eInst e = 0xFFFF then eLen e == b.1 * b.2 else eLen e == b.2
    | none, some n => eLen e == n
    | none, none => true

/-- Header and directory pass reason 0x01. The model's choices (DESIGN CHOICE, log entry 85): IMAGE_LEN may exceed the end of the signature
block; PERIOD_US outside 10 to 100 gives 0x01, as R805 has it of any header field, though R105 names it among the checks of 0x0A; the
bytes that the tables give as zero, 0x4D to 0xFF here and 56 in the legal header, are no field with a range and are not looked at. -/
def headerOk (h : List Byte) : Bool :=
  let n := sectCount h
  let sig := leAt h 0x40 4
  let es := entries h
  h.take 4 == [0x46, 0x4D, 0x53, 0x49] && leAt h 4 2 == 2 && within (leAt h 6 1) 1 3 && within n 1 32 && within (leAt h 0xE 2) 10 100 &&
  leAt h 0x10 1 ≤ 63 && leAt h 0x12 1 ≤ 3 && decide (leAt h 0x13 1 < 2) && decide (leAt h 8 4 ≤ 16777216) && leAt h 0x44 4 == 5376 &&
  sig % 64 == 0 && decide (sig + 5376 ≤ leAt h 8 4) &&
  es.all (fun e => decide (leAt e 1 1 < 2) && eOff e % 64 == 0 && (leAt e 1 1 == 1 || eStored e == eLen e) && lenOk e &&
    decide (256 + 64 * n ≤ eOff e ∧ eOff e + eStored e ≤ sig)) &&
  (es.zip (es.drop 1)).all (fun x => decide (eOff x.1 < eOff x.2 ∧ eOff x.1 + eStored x.1 ≤ eOff x.2))

/-- R62, R63, R806: types known, no duplicates, instances allowed. -/
def typesOk (h : List Byte) : Bool :=
  let es := entries h
  es.all (fun e => within (eType e) 1 15 && (eInst e == 0xFFFF || (match blockOfType (eType e) with | some b => decide (eInst e < b.1) | none => false)) &&
    (eInst e != 0xFFFF || (es.filter (fun x => eType x == eType e)).length == 1)) &&
  distinct (es.map (fun e => 65536 * eType e + eInst e))

/-- Header and directory of slot k. -/
def State.slotHdr (s : State) (k : Nat) : List Byte := s.flash k 0 (256 + 64 * min 32 (leAt (s.flash k 0 256) 0x0C 2))

/-- Key bytes of a signature block hash to the fuse of live slot g (R67, R744). -/
def State.keysOk (s : State) (g : Nat) (keys : List Byte) : Bool :=
  s.slotLive g && sha3 256 keys == nth [] s.pyl.hashes g

/-- Reason for which slot k does not qualify, 0 where it does (R72). Where several tests fail, the first in the order header, keys,
signatures, anti-rollback, types gives it: a DESIGN CHOICE (log entry 85), in the order of R72's words. -/
def State.slotReason (s : State) (k : Nat) : Nat :=
  let h := s.slotHdr k
  let b := s.flash k (leAt h 0x40 4) 5376
  let pr := pairReason (b.take 1984) (sha3 512 h) ((b.drop 1984).take 64) ((b.drop 2048).take 3309)
  if !headerOk h then 1
  else if !s.keysOk (leAt h 0x12 1) (b.take 1984) then 2
  else if pr ≠ 0 then pr
  else if leAt h 0x11 1 < s.ctr (leAt h 0x10 1) then 5
  else if !typesOk h then 7 else 0

/-- SEQ of slot k. -/
def State.seqOf (s : State) (k : Nat) : Nat := leAt (s.slotHdr k) 0x14 4

def State.setReason (s : State) (k r : Nat) : State :=
  if k = 0 then s.put Fld.PYL_IMGSTAT_REASON_A r else s.put Fld.PYL_IMGSTAT_REASON_B r

/-! ### Streaming -/

/-- Pylon starts to stream slot k. -/
def State.startSlot (s : State) (k : Nat) : State :=
  let h := s.slotHdr k
  { (s.setReason k 0).modLoad (fun l => { l with
      stage := .stream, cur := k, next := 0, tried := l.tried ||| 2 ^ k, hdr := h, digest := sha3 512 h, swid := [], legalDig := [] }) with
    periodUs := leAt h 0xE 2, pyl := { s.pyl with serving := some 0 } }

/-- R75: no slot is accepted. -/
def State.refuseAll (s : State) : State :=
  (s.trsRefuse.modLoad (fun l => { l with stage := .refused })).modPyl (fun p => { p with serving := none })

/-- R72: the slot with the higher SEQ of those that qualify, A where SEQ is equal; the other is not tried. -/
def State.chooseSlot (s : State) : State :=
  let a := s.slotReason 0
  let b := s.slotReason 1
  let s := ((s.setReason 0 a).setReason 1 b).modLoad (fun l => { l with good := (if a = 0 then 1 else 0) + (if b = 0 then 2 else 0) })
  if a = 0 ∧ b = 0 then
    (if s.seqOf 0 < s.seqOf 1 then (s.setReason 0 0xE).startSlot 1 else (s.setReason 1 0xE).startSlot 0)
  else if a = 0 then s.startSlot 0 else if b = 0 then s.startSlot 1 else s.refuseAll

/-- Registers that the blocks configured from an image do not hold (R74). -/
def notImage (a : Nat) : Bool :=
  let b := a / 0x10000
  b == 0x4001 || b == 0x4002 || b == 0x4003 || b == 0x400E || decide (0x40000200 ≤ a ∧ a < 0x40000400) ||
  (b == 0x400F && (decide (0x400 ≤ a % 0x10000) || decide (0x14 ≤ a % 0x40)))

/-- R74: a check has failed; what the image has configured is as the reset left it, and the other slot is tried, if it qualifies and has not been. -/
def State.failSlot (s : State) (r : Nat) : State :=
  let k := s.load.cur
  let s := (s.unload.keepRegs notImage).setReason k r
  let o := 1 - k
  if s.load.good.testBit o && !s.load.tried.testBit o then s.startSlot o else s.refuseAll

/-- A byte string at key lo of `img`. -/
def placeImg (img : List Host.Cell) (lo : Nat) (c : List Byte) : List Host.Cell :=
  img.filter (fun x => decide (x.1 < lo)) ++ ((c.zipIdx).map (fun x => (lo + x.2, x.1))).filter (fun x => x.2 != 0) ++
  img.filter (fun x => decide (lo + c.length ≤ x.1))

/-- The content of an entry goes to its block (R806). -/
def State.place (s : State) (e : List Byte) (c : List Byte) : State :=
  let ty := eType e
  match blockOfType ty with
  | some b =>
    let lo := if eInst e = 0xFFFF then 0 else eInst e * b.2
    { s with img := placeImg s.img (imgKey ty lo) c, secLen := sset 0 s.secLen ty (b.1 * b.2) }
  | none => { s with img := placeImg s.img (imgKey ty 0) c, secLen := sset 0 s.secLen ty c.length }

/-- Decompressed content of an entry, none where decompression, length or hash fails (reason 0x06). -/
def State.content (s : State) (k : Nat) (e : List Byte) : Option (List Byte) :=
  let raw := s.flash k (eOff e) (eStored e)
  match (if (leAt e 1 1).testBit 0 then lz4 raw else some raw) with
  | some c => if c.length = eLen e ∧ sha3 256 c = (e.drop 0x10).take 32 then some c else none
  | none => none

/-- R100, R101, R104, R805: reason for which a LEGAL section is refused. -/
def State.legalReason (s : State) (c : List Byte) : Nat :=
  let n := leAt c 4 4
  let b := c.drop (64 + n)
  let g := 4 + leAt c 2 1
  let body := c.take (64 + n)
  if 63 < leAt c 0 1 ∨ 1 < leAt c 2 1 ∨ 2 ≤ leAt c 3 1 ∨ c.length ≠ 64 + n + 5376 then 0xB
  else if !s.keysOk g (b.take 1984) ||
      pairReason (b.take 1984) (sha3 512 body) ((b.drop 1984).take 64) ((b.drop 2048).take 3309) != 0 then 0xB
  else if leAt c 1 1 < s.ctr (leAt c 0 1) then 5
  else match s.tol.book.hdr with
    | some h => if h.swid ≠ sha3 256 body ∧ 128 ≤ s.tol.book.uner.length then 0xC else 0
    | none => 0

/-- Address of PRESET pair i, and its value. -/
def State.preset (s : State) (i : Nat) : Nat × Nat := (s.cfg 0xE (8 * i) 4, s.cfg 0xE (8 * i + 4) 4)
def State.presetCount (s : State) : Nat := s.lenOf 0xE / 8

/-- R91, R342: every PRESET address is allowed. -/
def State.presetOk (s : State) (role : Nat) : Bool :=
  (List.range s.presetCount).all (fun i =>
    let a := (s.preset i).1
    decide (0x40000000 ≤ a ∧ a < 0x40130000) && a % 4 == 0 && a / 0x10000 != 0x4003 && a / 0x10000 != 0x400A &&
    (role == 2 || a / 0x10000 != 0x4009))

/-- Reason for which the content of an entry is refused (R84, R91, R101). -/
def State.sectionReason (s : State) (e c : List Byte) : Nat :=
  let ty := eType e
  if ty = 8 then s.legalReason c
  else if ty = 1 then (if s.trussOk then 0 else 0xD)
  else if ty = 0xE then (if s.presetOk (leAt s.load.hdr 6 1) then 0 else 0xD) else 0

/-! ### Configuration -/

/-- LINKMAP: the link registers (R88, R162). -/
def State.cfgLinks (s : State) : State :=
  let s := forEach (List.range 12) s (fun s l =>
    let u := s.spanUse l != 0
    ((s.putB (Fld.SPN_LINK_CTRL_EN l) u).putB (Fld.SPN_LINK_CTRL_MEDIUM l) (u && s.cfgB 4 (16 * l + 3) == 1)).putB
      (Fld.SPN_LINK_STAT_STANDBY l) (s.spanUse l == 2))
  forEach (List.range 2) s (fun s t => s.putB (Fld.TWL_LINK_CTRL_EN t) (s.twinUse t != 0))

/-- CAUSEWAY: the quotas (R89). -/
def State.cfgQuotas (s : State) : State := forEach (List.range 15) s (fun s n => s.put (Fld.CWY_QUOTA_QUOTA n) (s.cfgB 5 n))

/-- PHASE: reset values of the PHS registers (R175). -/
def State.cfgPhs (s : State) : State :=
  let s := forEach (List.range 12) s (fun s n =>
    let w (o : Nat) : Nat := s.cfg 0xB (1024 * n + o) 4
    ((((((s.loadReg (Reg.PHS_PIER_CTRL n) (w 0x30)).loadReg (Reg.PHS_PIER_SHED n) (w 0x34)).loadReg (Reg.PHS_PIER_DWELL n) (w 0x38)).loadReg
      (Reg.PHS_PIER_DE n) (w 0x3C)).loadReg (Reg.PHS_PIER_STEP n) (w 0x40)).loadReg (Reg.PHS_PIER_TIMING n) (w 0x44)))
  (s.loadReg Reg.PHS_ROT (s.cfg 0xB 0x48 4)).loadReg Reg.PHS_TLM (s.cfg 0xB 0x4C 4)

/-- A slot as its KST_PROG record and its banks give it (R87, R226). -/
def State.newSlot (s : State) (i : Nat) : Slot :=
  let bank (b : Nat) : List Nat := (List.range 16).map (fun w => s.cfg 3 (128 * i + 64 * b + 4 * w) 4)
  { engine := s.cfgB 2 (256 * i), pos := s.cfg 2 (256 * i + 1) 2, group := s.cfgB 2 (256 * i + 3), rcd := i, bankA := bank 0, bankB := bank 1 }

/-- A slot takes its place in (engine, position) order. -/
def insertSlot (x : Slot) : List Slot → List Slot
  | [] => [x]
  | k :: t => if x.engine * 65536 + x.pos < k.engine * 65536 + k.pos then x :: k :: t else k :: insertSlot x t

/-- KST_PROG, KST_COEF and the header: the Keystone (R60, R226, R251). -/
def State.cfgKst (s : State) : State :=
  let slots := ((List.range (s.lenOf 2 / 256)).map s.newSlot).foldl (fun l k => insertSlot k l) []
  let s := { s with kst := { slots := slots } }
  let s := forEach (List.range 5) s (fun s e => s.put (Fld.KST_E_STAT_SLOTS e) (slots.filter (fun k => k.engine == e)).length)
  ((s.put (Fld.KST_E_STAT_STATE 5) 1).put Fld.KST_TIMING_CUTOFF (cutoffOf s.load.hdr)).put Fld.KST_TIMING_SEND_LIM (sendLimOf s.load.hdr)

/-- ARCH_POLICY: the shadow (R298); IMPORT, EXPORT and BUF_PREF of the site record. -/
def State.cfgArc (s : State) : State :=
  if s.lenOf 9 = 0 then s
  else
    let s := forEach (List.range 256) s (fun s w => s.loadReg (Reg.ARC_SHADOW w) (s.cfg 9 (0x100 + 4 * w) 4))
    (((s.loadReg Reg.ARC_GRID (s.cfg 9 0 4)).loadReg Reg.ARC_GRIDX (s.cfg 9 4 4)).loadReg Reg.ARC_BUF (s.cfg 9 0x3C 4)).putB Fld.ARC_CTRL_EN true

/-- The sections whose blocks a wake re-streams. -/
def State.cfgEngines (s : State) : State := s.cfgLinks.cfgPhs.cfgKst.cfgArc.styConfig.vlkConfig.canConfig

/-- The PRESET pairs that `p` takes act in order (R91). -/
def State.applyPresets (s : State) (p : Nat → Bool) : State :=
  forEach (List.range s.presetCount) s (fun s i => let x := s.preset i
    if p x.1 then s.writeReg 12 x.1 x.2 else s)

/-! ### The seal (R76, R77) -/

/-- The Arch takes the shadow into use (R298). -/
def State.sealArc (s : State) : State :=
  let words := (List.range 256).map (fun w => (w, s.get (Fld.ARC_SHADOW_WORD w)))
  { s with arc := { s.arc with
      useImp := s.get Fld.ARC_GRID_IMPORT, useExp := s.get Fld.ARC_GRIDX_EXPORT, usePref := s.getS Fld.ARC_BUF_PREF
      useRec := words.filter (fun x => x.2 != 0) } }

/-- Pylon's registers of the loaded image: keys (R746), measurements (R747), identities (R755). -/
def State.sealPylon (s : State) : State :=
  let h := s.load.hdr
  let g := leAt h 0x12 1
  let s := (s.putBit Fld.PYL_KPRES_PRESENTED g true).modPyl (fun p => { p with
    keys := updAt p.keys g (fun _ => s.flash s.load.cur (leAt h 0x40 4) 1984), viol := false })
  let s := s.extend 1 s.load.digest
  if s.lenOf 8 = 0 then s
  else
    let l := 4 + s.cfgB 8 2
    let keys := (List.range 1984).map (fun i => BitVec.ofNat 8 (s.cfgB 8 (64 + s.cfg 8 4 4 + i)))
    ((s.putBit Fld.PYL_KPRES_PRESENTED l true).modPyl (fun p => { p with keys := updAt p.keys l (fun _ => keys) })).extend 2 s.load.legalDig

/-- R112, R113, R159: the links enabled send idle and start their bring-up. -/
def State.startLinks (s : State) : State :=
  let s := forEach (List.range 12) s (fun s l => if s.bit (Fld.SPN_LINK_CTRL_EN l) then
    (s.startBring l).modLink l (fun k => { k with stream := idleSet }) else s)
  forEach (List.range 2) s (fun s t => if s.bit (Fld.TWL_LINK_CTRL_EN t) then s.modTwin t (fun k => { k with stream := idleSet }) else s)

/-- The other slot's header stands and names a higher SEQ (R108). -/
def State.isFallback (s : State) : Bool :=
  let o := 1 - s.load.cur
  headerOk (s.slotHdr o) && decide (s.seqOf s.load.cur < s.seqOf o)

/-- The seal: registers lock, ROLE is written, every block starts from its configuration. -/
def State.seal (s : State) : State :=
  let h := s.load.hdr
  let s := ((s.putB Fld.PYL_IMGSTAT_LOADED true).put Fld.PYL_IMGSTAT_SLOT s.load.cur).put Fld.PYL_IMGSTAT_ARB_VERSION (leAt h 0x11 1)
  let s := (s.put Fld.ABT_ROLE_ROLE (leAt h 6 1)).putWords (Reg.PYL_IMGDIG 0) 16 s.load.digest
  let s := if s.vehicle then s else s.putWords (Reg.PYL_SWID 0) 8 s.load.swid
  let s := s.sealPylon.formIds.sealArc
  let s := (s.putB Fld.TOL_BOOK_LG_ARMED s.pwr.vhold30).tollSeal
  let s := s.modTol (fun t => { t with run := false })
  let s := s.sealCal.trsSeal.startLinks
  let fb := s.isFallback
  (s.modLoad (fun l => { l with stage := .seal, fallback := fb })).modPyl (fun p => { p with serving := none })

/-- Every section stands in its block: the checks of sections, STEP and ROLE, configuration, presets, the checks of reason 0x0A, then the
seal (R79, R80, R91, R105). That STEP is looked at here and not before the first section is streamed is a DESIGN CHOICE (log entry 85).
A failure undoes the configuration with the writes of PRESET (R74). -/
def State.finishLoad (s0 : State) : State :=
  let s := s0
  let role := leAt s.load.hdr 6 1
  if !s.required role then s.failSlot 7
  else if leAt s.load.hdr 7 1 ≠ s.get Fld.ABT_ID_STEP then s.failSlot 8
  else if !s.roleOk role then s.failSlot 9
  else
    let s := if s.lenOf 8 = 0 then s else s.loadLegal
    let s := s.cfgQuotas.cfgEngines.trsConfig
    let s := s.applyPresets (fun _ => true)
    if !s.consistent role then s0.failSlot 0xA else s.seal

/-- SECTION_STREAMED (R73, R74): Pylon has streamed the next section of the slot. -/
def execSectionStreamed (s : State) : Out :=
  .next (if s.load.stage ≠ .stream then s
    else
      let e := dirEntry s.load.hdr s.load.next
      match s.content s.load.cur e with
      | none => s.failSlot 6
      | some c =>
        let s := (s.place e c).modLoad (fun l => { l with next := l.next + 1 })
        let r := s.sectionReason e c
        if r ≠ 0 then s.failSlot r
        else
          let s := if eType e = 8 then
              let body := c.take (64 + leAt c 4 4)
              s.modLoad (fun l => { l with swid := sha3 256 body, legalDig := sha3 512 body })
            else s
          if s.load.next = sectCount s.load.hdr then s.finishLoad else s)

/-- PLL_LOCK (R36, R72, R721): the PLL has locked. At a start, Pylon reads both slots, whose content is given; `mram` names the
structures of the MRAM that are found uncorrectable (R437), `elapsed` / 65,536 s have passed on the RTC. -/
def execPllLock (slotA slotB : List Host.Cell) (mram : BitVec 16) (elapsed : Nat) (s : State) : Out :=
  .next (
    let s := { s with prp := { s.prp with pllLocked := true } }
    if s.load.stage ≠ .boot ∨ !s.vinOk ∨ s.pwr.st ≠ .run then s
    else
      let s := s.rtcPass elapsed
      let warm := decide (2 ≤ s.get Fld.ABT_RSTCAUSE_CAUSE)
      let (x, s) := s.fresh 64
      let s := { s with siteNs := if warm then x else if s.bit Fld.ABT_RTCSTAT_LOST then 0 else s.billSec * 1000000000 % 2 ^ 64 }
      (s.measure0.modLoad (fun l => { l with slots := [slotA, slotB], mram := mram.toNat })).chooseSlot)

/-! ### Release (R77, R258, R801) -/

/-- SRAM reads zero. -/
def State.clearSram (s : State) : State :=
  { s with mem := s.mem.filter (fun c => !(decide (0x10000000 ≤ c.1 ∧ c.1 < 0x10800000))) }

/-- Engines that fail their self-test; engine 5 is the spare. -/
def State.selfTests (s : State) (fails : List (Fin 6)) : State :=
  fails.foldl (fun (s : State) (e : Fin 6) => if e.val = 5 then s.spareFails else s.engineFails e.val) s

/-- RAM_INIT_DONE: RAM is zero and the Parapet pairs, the Keystone engines, the Toll core and Deck core 0 are released. -/
def execRamInitDone (selfTestFail : List (Fin 6)) (elapsed : Nat) (s : State) : Out :=
  .next (if s.load.stage ≠ .seal then s
    else
      let s := (s.rtcPass elapsed).clearSram.parapetRelease
      let s := s.modTol (fun t => { t with run := true })
      (s.selfTests selfTestFail).modLoad (fun l => { l with stage := .run }))

/-! ### Wake (R716, R717, R708, R801) -/

/-- Section types that a wake does not stream. -/
def keptType (ty : Nat) : Bool := ty == 8 || ty == 6 || ty == 7

/-- The saved registers are restored; ARC_OUTm_POL goes through its view. -/
def State.restoreSaved (s : State) : State :=
  s.pwr.saved.foldl (fun s x => match isPol x.1 with | some m => s.wrPol m x.2.toNat | none => s.setReg x.1 x.2.toNat) s

/-- R601: the frame that woke the device shows once PD7 is up. -/
def State.showWakeFrame (s : State) (woke : List (Option (Bool × Nat))) : State :=
  forEach (List.range 2) s (fun s n =>
    match nth none woke n with
    | some (xtd, id) => ((s.put (Fld.CBU_B_WAKEID_ID n) id).putB (Fld.CBU_B_WAKEID_XTD n) xtd).putB (Fld.CBU_B_EVT_WAKE n) true
    | none => s)

/-- The wake's sections are in place: configuration, saved registers, seal of the re-streamed blocks, release. -/
def State.finishWake (s : State) : State :=
  let park := s.get Fld.ABT_PSSTAT_LAST == 2
  let woke := s.can.map Can.woke
  let committed := match s.pwr.resume with | some r => r.2.2 | none => false
  let s := { s with truss := {} }.cfgEngines
  let s := ((s.putB Fld.PYL_IMGSTAT_LOADED false).applyPresets (fun a => !sleepKeeps a)).putB Fld.PYL_IMGSTAT_LOADED true
  let s := s.sealArc.restoreSaved
  let s := s.measure0.sealPylon
  let s := (s.putB Fld.PYL_IMGSTAT_COMMITTED committed).sealCal.clearSram.startLinks
  let s := (s.showWakeFrame woke).modLoad (fun l => { l with wake := false, bootEntry := none, deckHalted := false })
  let s := { s with pwr := { s.pwr with st := .run, wdHalf := false }, pyl := { s.pyl with serving := none } }
  let s := s.modTol (fun t => { t with run := true })
  if park then (s.putB Fld.PRP_STAT_START_OK false).parapetRelease else s

/-- WAKE_RESTREAM_DONE: Pylon has streamed the sections from the slot that the resume record names, whose content is given; at their
release the engines test themselves (R258). -/
def execWakeRestreamDone (got : Restream) (s : State) : Out :=
  .next (if !s.load.wake then s
    else match s.pwr.resume with
    | none => s.warmReset 6
    | some (k, dig, _) =>
      let s1 := s.modLoad (fun l => { l with slots := updAt l.slots k (fun _ => got.slot) })
      let h := s1.slotHdr k
      let es := (entries h).filter (fun e => !keptType (eType e))
      if sha3 512 h ≠ dig ∨ es.any (fun e => (s1.content k e).isNone) then s.warmReset 6
      else (es.foldl (fun t e => t.place e ((s1.content k e).getD [])) s1).finishWake.selfTests got.selfTestFail)

end Sys2Proof.Machine
end

