-- ==== Sys2Proof/Machine/Period.lean ====
section
/-! DEFINITION. The start of a control period (spec/01, spec/03 to spec/07). -/

namespace Sys2Proof.Machine

/-- One link at the period start: what came in the last period is over (R134). -/
def Link.newPeriod (k : Link) : Link :=
  { k with missRun := if k.gotUp then 0 else k.missRun, gotUp := false, upBad := false, sentDown := false }

/-- A twin link is valid while a frame has come in the last period or this one (R161; log entry 78). -/
def Twin.newPeriod (r : Twin) : Twin := { r with got := false, valid := r.got }

/-- Site time is the start of the next control period, a multiple of T from site-time zero (R114): the one after the multiple nearest
to the instant kept for the last one. -/
def State.nextSite (s : State) : State :=
  let t := s.periodUs * 1000
  if t = 0 then s else { s with siteNs := ((s.siteNs + t / 2) / t + 1) * t, siteFrac := 0 }

/-- Time passes by one control period: site time with its steering, billing time, the time on the RC (R39, R40, R395, R719). -/
def State.tick (s : State) : State :=
  let us := s.periodUs
  let s := s.steer.nextSite
  let s := if s.pwr.xtalOff then s.modPwr (fun p => { p with rcTime := p.rcTime + (us : Rat) / 1000000 }) else s
  s.passTime us

/-- R27, R28, R39, R114, R122, R265, R284, R319, R346, R485, R526: a control period starts. `mismatch` names the slots in which
the spare's result differed in the last period (R255), `spareErr` what the spare's own checks saw (R256), `mods` the bits of
the modulators' streams since the last period start. In STANDBY only time passes. The
pier nodes' periods go on whatever the device does (R137, R149). -/
def execPeriodStart (mismatch : List (Fin 5 × Fin 1024)) (spareErr : EngErr) (mods : List (List Bool)) (s : State) : Out :=
  .next (let s := s.nodePeriods
    if s.load.stage ≠ .run ∨ s.pwr.st = .off ∨ s.pwr.st = .park then s
    else if !s.pwr.domains.testBit 3 || s.load.wake then s.tick
    else
      let s := s.tick
      let s := mismatch.foldl (fun s x => s.mismatch x.1 x.2) s
      let s := s.spareErr spareErr
      let s := s.passFeedback.styGather
      let s := s.arcPeriod.vehicleArch
      let s := { s with spn := { s.spn with
        links := s.spn.links.map Link.newPeriod, twins := s.spn.twins.map Link.newPeriod
        twinRx := s.spn.twinRx.map Twin.newPeriod } }
      let s := (mods.zipIdx).foldl (fun s x => if x.2 < 8 then s.latchMod x.2 x.1 else s) s
      let s := s.clearSrc2.grdPeriod
      let s := forEach s.piersInUse s State.applyPier
      (forEach (List.range 8) s State.syncWdog).kstPeriod)

end Sys2Proof.Machine
end

