-- ==== Sys2Proof/Machine/Dispatch.lean ====
section
/-! DEFINITION. One arm per command: a direct call of its meaning. -/

namespace Sys2Proof.Machine

def exec (i : Instr) (s : State) : Host.Outcome State Fault Refusal :=
  match i with
  | .vinGood elapsed => Sys2Proof.Machine.execVinGood elapsed s
  | .vinFailure => Sys2Proof.Machine.execVinFailure s
  | .vinWarn => Sys2Proof.Machine.execVinWarn s
  | .gndLoss => Sys2Proof.Machine.execGndLoss s
  | .vbatLoss => Sys2Proof.Machine.execVbatLoss s
  | .deviceReset cause => Sys2Proof.Machine.execDeviceReset cause s
  | .pllLock slotA slotB mram elapsed => Sys2Proof.Machine.execPllLock slotA slotB mram elapsed s
  | .sectionStreamed => Sys2Proof.Machine.execSectionStreamed s
  | .ramInitDone selfTestFail elapsed => Sys2Proof.Machine.execRamInitDone selfTestFail elapsed s
  | .startupTestsDone levels fails => Sys2Proof.Machine.execStartupTestsDone levels fails s
  | .bootElementVerify => Sys2Proof.Machine.execBootElementVerify s
  | .imageCommit m v => Sys2Proof.Machine.execImageCommit m v s
  | .registerWrite m addr size v => Sys2Proof.Machine.execRegisterWrite m addr size v s
  | .rcRead m addr => Sys2Proof.Machine.execRcRead m addr s
  | .legalRegisterLowRead m addr => Sys2Proof.Machine.execLegalRegisterLowRead m addr s
  | .siteTimeRead m => Sys2Proof.Machine.execSiteTimeRead m s
  | .billingTimeRead m => Sys2Proof.Machine.execBillingTimeRead m s
  | .cwyTransactionGrant freed requests => Sys2Proof.Machine.execCwyTransactionGrant freed requests s
  | .irqClaim core done set other => Sys2Proof.Machine.execIrqClaim core done set other s
  | .clockMonitorWindow count => Sys2Proof.Machine.execClockMonitorWindow count s
  | .periodStart mismatch spareErr mods => Sys2Proof.Machine.execPeriodStart mismatch spareErr mods s
  | .sampleCutoff => Sys2Proof.Machine.execSampleCutoff s
  | .upFrameRx l bytes interval => Sys2Proof.Machine.execUpFrameRx l bytes interval s
  | .slotEvaluation e p err => Sys2Proof.Machine.execSlotEvaluation e p err s
  | .downFrameSend l => Sys2Proof.Machine.execDownFrameSend l s
  | .sendLimit l => Sys2Proof.Machine.execSendLimit l s
  | .phaseControlEvaluation n => Sys2Proof.Machine.execPhaseControlEvaluation n s
  | .openPhaseDetect n p => Sys2Proof.Machine.execOpenPhaseDetect n p s
  | .stuckSenseDetect n p => Sys2Proof.Machine.execStuckSenseDetect n p s
  | .holdoffEnd n => Sys2Proof.Machine.execHoldoffEnd n s
  | .dwellEnd n => Sys2Proof.Machine.execDwellEnd n s
  | .rotationIntervalExpiry n => Sys2Proof.Machine.execRotationIntervalExpiry n s
  | .tempReportTimeout n p => Sys2Proof.Machine.execTempReportTimeout n p s
  | .telemetryWindowEnd n => Sys2Proof.Machine.execTelemetryWindowEnd n s
  | .shedDisable m n v => Sys2Proof.Machine.execShedDisable m n v s
  | .phsShedWrite m n v => Sys2Proof.Machine.execPhsShedWrite m n v s
  | .phaseFaultClear m n v => Sys2Proof.Machine.execPhaseFaultClear m n v s
  | .avgExpWrite m v => Sys2Proof.Machine.execAvgExpWrite m v s
  | .spanResumeWrite m n v => Sys2Proof.Machine.execSpanResumeWrite m n v s
  | .spanLoopPrbsWrite m n v => Sys2Proof.Machine.execSpanLoopPrbsWrite m n v s
  | .mgmtRequestGo m n v => Sys2Proof.Machine.execMgmtRequestGo m n v s
  | .bringupRetry n => Sys2Proof.Machine.execBringupRetry n s
  | .dualLinkLoss l => Sys2Proof.Machine.execDualLinkLoss l s
  | .pierDownFrameAccept n standby bytes clock => Sys2Proof.Machine.execPierDownFrameAccept n standby bytes clock s
  | .pierMissingFrame n => Sys2Proof.Machine.execPierMissingFrame n s
  | .pierBroadcastRx n => Sys2Proof.Machine.execPierBroadcastRx n s
  | .pierLowerDone n => Sys2Proof.Machine.execPierLowerDone n s
  | .pierLocalTrip n p => Sys2Proof.Machine.execPierLocalTrip n p s
  | .twinFrameRx t bytes timer => Sys2Proof.Machine.execTwinFrameRx t bytes timer s
  | .archPeriodStart => Sys2Proof.Machine.execArchPeriodStart s
  | .ceilingRefreshTimeout m stay => Sys2Proof.Machine.execCeilingRefreshTimeout m stay s
  | .arcCommitGo m v => Sys2Proof.Machine.execArcCommitGo m v s
  | .arcMoveGo m v => Sys2Proof.Machine.execArcMoveGo m v s
  | .contestBitWrite m kind v => Sys2Proof.Machine.execContestBitWrite m kind v s
  | .zeroCurrentOpen c => Sys2Proof.Machine.execZeroCurrentOpen c s
  | .auxContactFiltered k closed => Sys2Proof.Machine.execAuxContactFiltered k closed s
  | .auxContactTimeout k => Sys2Proof.Machine.execAuxContactTimeout k s
  | .weldCheckEnd c rise => Sys2Proof.Machine.execWeldCheckEnd c rise s
  | .matched c => Sys2Proof.Machine.execMatched c s
  | .matchTimeout c => Sys2Proof.Machine.execMatchTimeout c s
  | .contestDetect kind k => Sys2Proof.Machine.execContestDetect kind k s
  | .contestRelease kind k => Sys2Proof.Machine.execContestRelease kind k s
  | .contestTimeout kind k => Sys2Proof.Machine.execContestTimeout kind k s
  | .grdContinuousRound u => Sys2Proof.Machine.execGrdContinuousRound u s
  | .grdTrigger u x => Sys2Proof.Machine.execGrdTrigger u x s
  | .grdGroupStart u => Sys2Proof.Machine.execGrdGroupStart u s
  | .grdConversionResult u inj raw => Sys2Proof.Machine.execGrdConversionResult u inj raw s
  | .captureDone u => Sys2Proof.Machine.execCaptureDone u s
  | .grdCaptureArm m u v => Sys2Proof.Machine.execGrdCaptureArm m u v s
  | .grdCalGo m u v => Sys2Proof.Machine.execGrdCalGo m u v s
  | .grdCalStart u => Sys2Proof.Machine.execGrdCalStart u s
  | .grdCalDone u cor => Sys2Proof.Machine.execGrdCalDone u cor s
  | .grdPairWrite m u v => Sys2Proof.Machine.execGrdPairWrite m u v s
  | .grdBgcUpdate u cor => Sys2Proof.Machine.execGrdBgcUpdate u cor s
  | .modulatorStreamStuck j => Sys2Proof.Machine.execModulatorStreamStuck j s
  | .caissonResult c rise fall mismatch again => Sys2Proof.Machine.execCaissonResult c rise fall mismatch again s
  | .caissonValidStart c => Sys2Proof.Machine.execCaissonValidStart c s
  | .acWindowEnd g resid => Sys2Proof.Machine.execAcWindowEnd g resid s
  | .measIntervalEnd => Sys2Proof.Machine.execMeasIntervalEnd s
  | .crossCheckWindow => Sys2Proof.Machine.execCrossCheckWindow s
  | .tempEstimateTimeout p => Sys2Proof.Machine.execTempEstimateTimeout p s
  | .meterSnapshotGo m v => Sys2Proof.Machine.execMeterSnapshotGo m v s
  | .snapshotCopy => Sys2Proof.Machine.execSnapshotCopy s
  | .mcalGo m v => Sys2Proof.Machine.execMcalGo m v s
  | .mcalWindowStart => Sys2Proof.Machine.execMcalWindowStart s
  | .mcalWindowEnd => Sys2Proof.Machine.execMcalWindowEnd s
  | .timeCorrectionGo m v => Sys2Proof.Machine.execTimeCorrectionGo m v s
  | .slewComplete => Sys2Proof.Machine.execSlewComplete s
  | .billingStateChange => Sys2Proof.Machine.execBillingStateChange s
  | .boundary => Sys2Proof.Machine.execBoundary s
  | .hwmPassed => Sys2Proof.Machine.execHwmPassed s
  | .calendarLoad m v => Sys2Proof.Machine.execCalendarLoad m v s
  | .calendarCheckDone => Sys2Proof.Machine.execCalendarCheckDone s
  | .calendarCancel m v => Sys2Proof.Machine.execCalendarCancel m v s
  | .sessionStart m p v => Sys2Proof.Machine.execSessionStart m p v s
  | .sessionStop m p v => Sys2Proof.Machine.execSessionStop m p v s
  | .sessionClose p => Sys2Proof.Machine.execSessionClose p s
  | .sessionRecordRequest m p v => Sys2Proof.Machine.execSessionRecordRequest m p v s
  | .intermediateRecordTimer p => Sys2Proof.Machine.execIntermediateRecordTimer p s
  | .recordSigned => Sys2Proof.Machine.execRecordSigned s
  | .recordBufferEntry => Sys2Proof.Machine.execRecordBufferEntry s
  | .recordAck m v => Sys2Proof.Machine.execRecordAck m v s
  | .periodicSave => Sys2Proof.Machine.execPeriodicSave s
  | .saveRequest m v => Sys2Proof.Machine.execSaveRequest m v s
  | .saveComplete => Sys2Proof.Machine.execSaveComplete s
  | .lastGaspEnd energies marker => Sys2Proof.Machine.execLastGaspEnd energies marker s
  | .archiveGo m v => Sys2Proof.Machine.execArchiveGo m v s
  | .archiveCheckDone => Sys2Proof.Machine.execArchiveCheckDone s
  | .displayShow n => Sys2Proof.Machine.execDisplayShow n s
  | .displayPoll n => Sys2Proof.Machine.execDisplayPoll n s
  | .headStatusRx bytes => Sys2Proof.Machine.execHeadStatusRx bytes s
  | .headStatusTimeout n => Sys2Proof.Machine.execHeadStatusTimeout n s
  | .displayDwellExpiry n => Sys2Proof.Machine.execDisplayDwellExpiry n s
  | .stayPeriod => Sys2Proof.Machine.execStayPeriod s
  | .stayBlockEnWrite m b v => Sys2Proof.Machine.execStayBlockEnWrite m b v s
  | .stayFwInputWrite m b j v => Sys2Proof.Machine.execStayFwInputWrite m b j v s
  | .fwInputStale b j => Sys2Proof.Machine.execFwInputStale b j s
  | .stayLimWrite m b v => Sys2Proof.Machine.execStayLimWrite m b v s
  | .pumpImplausible b => Sys2Proof.Machine.execPumpImplausible b s
  | .flowRestored b => Sys2Proof.Machine.execFlowRestored b s
  | .runOnExpiry b => Sys2Proof.Machine.execRunOnExpiry b s
  | .pilotStateChange n => Sys2Proof.Machine.execPilotStateChange n s
  | .connectedChange n => Sys2Proof.Machine.execConnectedChange n s
  | .premoteWrite m n v => Sys2Proof.Machine.execPremoteWrite m n v s
  | .premoteStale n => Sys2Proof.Machine.execPremoteStale n s
  | .outletEnWrite m o v => Sys2Proof.Machine.execOutletEnWrite m o v s
  | .chargeLoopKick m n v => Sys2Proof.Machine.execChargeLoopKick m n v s
  | .chargeLoopWatchdogExpiry n => Sys2Proof.Machine.execChargeLoopWatchdogExpiry n s
  | .inletOvercurrent n => Sys2Proof.Machine.execInletOvercurrent n s
  | .v2gtpRx n ptype payload => Sys2Proof.Machine.execV2gtpRx n ptype payload s
  | .v2gtpTx n => Sys2Proof.Machine.execV2gtpTx n s
  | .tlsHandshakeDone n ok cert => Sys2Proof.Machine.execTlsHandshakeDone n ok cert s
  | .fmxHello n => Sys2Proof.Machine.execFmxHello n s
  | .fmxHelloAck n body => Sys2Proof.Machine.execFmxHelloAck n body s
  | .fmxHelloTimeout n => Sys2Proof.Machine.execFmxHelloTimeout n s
  | .countReq n body => Sys2Proof.Machine.execCountReq n body s
  | .countRes n body => Sys2Proof.Machine.execCountRes n body s
  | .countResTimeout n => Sys2Proof.Machine.execCountResTimeout n s
  | .beaconPeriodStart n us phase => Sys2Proof.Machine.execBeaconPeriodStart n us phase s
  | .beaconRx n us => Sys2Proof.Machine.execBeaconRx n us s
  | .beaconsMissed n => Sys2Proof.Machine.execBeaconsMissed n s
  | .slacStart n => Sys2Proof.Machine.execSlacStart n s
  | .slacMatch n attens => Sys2Proof.Machine.execSlacMatch n attens s
  | .slacRetry n => Sys2Proof.Machine.execSlacRetry n s
  | .hpgpFrameAttempt n late => Sys2Proof.Machine.execHpgpFrameAttempt n late s
  | .hpgpAck n => Sys2Proof.Machine.execHpgpAck n s
  | .hpgpFrameRx n code symbols decoded msg => Sys2Proof.Machine.execHpgpFrameRx n code symbols decoded msg s
  | .xroboReq n => Sys2Proof.Machine.execXroboReq n s
  | .xroboCnf n six => Sys2Proof.Machine.execXroboCnf n six s
  | .xroboTimeout n => Sys2Proof.Machine.execXroboTimeout n s
  | .plcaBeaconTimer n => Sys2Proof.Machine.execPlcaBeaconTimer n s
  | .t1sFrameRx n fcsOk beaconMissed => Sys2Proof.Machine.execT1sFrameRx n fcsOk beaconMissed s
  | .canEnable m n v => Sys2Proof.Machine.execCanEnable m n v s
  | .canJoin n => Sys2Proof.Machine.execCanJoin n s
  | .canTxRequest m n v => Sys2Proof.Machine.execCanTxRequest m n v s
  | .canTxCancel m n v => Sys2Proof.Machine.execCanTxCancel m n v s
  | .canFrameTxEnd n res sof guard => Sys2Proof.Machine.execCanFrameTxEnd n res sof guard s
  | .canFrameRx n frame sof lec up => Sys2Proof.Machine.execCanFrameRx n frame sof lec up s
  | .canRxAck m n v => Sys2Proof.Machine.execCanRxAck m n v s
  | .canDmaCopy n => Sys2Proof.Machine.execCanDmaCopy n s
  | .canCycleStart n => Sys2Proof.Machine.execCanCycleStart n s
  | .canReferenceRx n count => Sys2Proof.Machine.execCanReferenceRx n count s
  | .canReferenceMissed n => Sys2Proof.Machine.execCanReferenceMissed n s
  | .canRecover m n v => Sys2Proof.Machine.execCanRecover m n v s
  | .canBusOffRecovered n => Sys2Proof.Machine.execCanBusOffRecovered n s
  | .canWake n sign elapsed => Sys2Proof.Machine.execCanWake n sign elapsed s
  | .hostFrameRx n prio len room evt gm => Sys2Proof.Machine.execHostFrameRx n prio len room evt gm s
  | .hostSyncLost n => Sys2Proof.Machine.execHostSyncLost n s
  | .safeStateAssert => Sys2Proof.Machine.execSafeStateAssert s
  | .outDelayExpiry => Sys2Proof.Machine.execOutDelayExpiry s
  | .lockstepMismatch pair => Sys2Proof.Machine.execLockstepMismatch pair s
  | .heartbeatLoss pair => Sys2Proof.Machine.execHeartbeatLoss pair s
  | .trussTripPort k level => Sys2Proof.Machine.execTrussTripPort k level s
  | .faultReport code cls src units ecc => Sys2Proof.Machine.execFaultReport code cls src units ecc s
  | .faultHandlingEnd => Sys2Proof.Machine.execFaultHandlingEnd s
  | .doubleFault => Sys2Proof.Machine.execDoubleFault s
  | .doubleFaultReset => Sys2Proof.Machine.execDoubleFaultReset s
  | .testPulse k => Sys2Proof.Machine.execTestPulse k s
  | .testPulseEnd k failA failB => Sys2Proof.Machine.execTestPulseEnd k failA failB s
  | .safetyInputChannel n b level => Sys2Proof.Machine.execSafetyInputChannel n b level s
  | .discrepancyTimeout n => Sys2Proof.Machine.execDiscrepancyTimeout n s
  | .softwareStop m v => Sys2Proof.Machine.execSoftwareStop m v s
  | .safetyOutputRequest m v => Sys2Proof.Machine.execSafetyOutputRequest m v s
  | .outputReadbackFault k high => Sys2Proof.Machine.execOutputReadbackFault k high s
  | .offPulse k fell => Sys2Proof.Machine.execOffPulse k fell s
  | .prstPress ms => Sys2Proof.Machine.execPrstPress ms s
  | .prstStuck => Sys2Proof.Machine.execPrstStuck s
  | .faultClearKey m v => Sys2Proof.Machine.execFaultClearKey m v s
  | .faultClear m v => Sys2Proof.Machine.execFaultClear m v s
  | .armPiers m v => Sys2Proof.Machine.execArmPiers m v s
  | .disarmPiers m v => Sys2Proof.Machine.execDisarmPiers m v s
  | .classBLoweringDone o => Sys2Proof.Machine.execClassBLoweringDone o s
  | .bOffExpiry o => Sys2Proof.Machine.execBOffExpiry o s
  | .imcHalfEnd n sense settled foreign => Sys2Proof.Machine.execImcHalfEnd n sense settled foreign s
  | .contactorCheckEnd k diff dead => Sys2Proof.Machine.execContactorCheckEnd k diff dead s
  | .trestleCommand m n v => Sys2Proof.Machine.execTrestleCommand m n v s
  | .pwmPeriodStart n => Sys2Proof.Machine.execPwmPeriodStart n s
  | .currentLimitExpiry n => Sys2Proof.Machine.execCurrentLimitExpiry n s
  | .burstRestart n => Sys2Proof.Machine.execBurstRestart n s
  | .burstEnd n => Sys2Proof.Machine.execBurstEnd n s
  | .thermalShutdown n => Sys2Proof.Machine.execThermalShutdown n s
  | .thermalRestart n => Sys2Proof.Machine.execThermalRestart n s
  | .trestleFaultClear m n v => Sys2Proof.Machine.execTrestleFaultClear m n v s
  | .diagnosisSample n ua limiting ms => Sys2Proof.Machine.execDiagnosisSample n ua limiting ms s
  | .openLoad n => Sys2Proof.Machine.execOpenLoad n s
  | .offStateTest n => Sys2Proof.Machine.execOffStateTest n s
  | .keepAliveExpiry n => Sys2Proof.Machine.execKeepAliveExpiry n s
  | .snsSelect sel => Sys2Proof.Machine.execSnsSelect sel s
  | .loadDump above => Sys2Proof.Machine.execLoadDump above s
  | .stateRequest m v => Sys2Proof.Machine.execStateRequest m v s
  | .entryCheckpoint pins => Sys2Proof.Machine.execEntryCheckpoint pins s
  | .wakeEvent src elapsed => Sys2Proof.Machine.execWakeEvent src elapsed s
  | .wakeRestreamDone got => Sys2Proof.Machine.execWakeRestreamDone got s
  | .dozeEntry => Sys2Proof.Machine.execDozeEntry s
  | .dozeExit => Sys2Proof.Machine.execDozeExit s
  | .padRelease m v => Sys2Proof.Machine.execPadRelease m v s
  | .rtcCrystalStop elapsed => Sys2Proof.Machine.execRtcCrystalStop elapsed s
  | .rtcCrystalReturn elapsed => Sys2Proof.Machine.execRtcCrystalReturn elapsed s
  | .rcCalibration dev => Sys2Proof.Machine.execRcCalibration dev s
  | .rtcAlarm elapsed => Sys2Proof.Machine.execRtcAlarm elapsed s
  | .timeRecordCopy => Sys2Proof.Machine.execTimeRecordCopy s
  | .watchdogEnable m v => Sys2Proof.Machine.execWatchdogEnable m v s
  | .watchdogKick m v => Sys2Proof.Machine.execWatchdogKick m v s
  | .watchdogHalf => Sys2Proof.Machine.execWatchdogHalf s
  | .watchdogExpiry => Sys2Proof.Machine.execWatchdogExpiry s
  | .firmwareReset m v => Sys2Proof.Machine.execFirmwareReset m v s
  | .housekeepingRound counts temps rails => Sys2Proof.Machine.execHousekeepingRound counts temps rails s
  | .graceExpiry => Sys2Proof.Machine.execGraceExpiry s
  | .throttleNow m v => Sys2Proof.Machine.execThrottleNow m v s
  | .trussReadbackCheck equal => Sys2Proof.Machine.execTrussReadbackCheck equal s
  | .randomBytes => Sys2Proof.Machine.execRandomBytes s
  | .hash => Sys2Proof.Machine.execHash s
  | .aesGcm => Sys2Proof.Machine.execAesGcm s
  | .keyGenerate => Sys2Proof.Machine.execKeyGenerate s
  | .blobLoad => Sys2Proof.Machine.execBlobLoad s
  | .slotClear => Sys2Proof.Machine.execSlotClear s
  | .keyPresent => Sys2Proof.Machine.execKeyPresent s
  | .devidKeys => Sys2Proof.Machine.execDevidKeys s
  | .sign => Sys2Proof.Machine.execSign s
  | .verify => Sys2Proof.Machine.execVerify s
  | .keyAgreement => Sys2Proof.Machine.execKeyAgreement s
  | .kemDecapsulate => Sys2Proof.Machine.execKemDecapsulate s
  | .kemEncapsulate => Sys2Proof.Machine.execKemEncapsulate s
  | .elementVerify => Sys2Proof.Machine.execElementVerify s
  | .regionWithdraw => Sys2Proof.Machine.execRegionWithdraw s
  | .attestationReport => Sys2Proof.Machine.execAttestationReport s
  | .keyAuthorisation => Sys2Proof.Machine.execKeyAuthorisation s
  | .pylonCommandDone => Sys2Proof.Machine.execPylonCommandDone s
  | .pylonServeNext tls => Sys2Proof.Machine.execPylonServeNext tls s
  | .lifecycleDeploy m v => Sys2Proof.Machine.execLifecycleDeploy m v s
  | .violationPoll => Sys2Proof.Machine.execViolationPoll s
  | .forbiddenRead m addr size fetch => Sys2Proof.Machine.execForbiddenRead m addr size fetch s
  | .pllLockLost => Sys2Proof.Machine.execPllLockLost s
  | .codeGroupSync link signal sync => Sys2Proof.Machine.execCodeGroupSync link signal sync s
  | .hostLinkUp n => Sys2Proof.Machine.execHostLinkUp n s
  | .plcaStatusOk n => Sys2Proof.Machine.execPlcaStatusOk n s
  | .lastGaspArmed armed => Sys2Proof.Machine.execLastGaspArmed armed s
  | .pd0SupplyChangeover => Sys2Proof.Machine.execPd0SupplyChangeover s
  | .vbatLow below => Sys2Proof.Machine.execVbatLow below s
  | .pilotPwmCycle n => Sys2Proof.Machine.execPilotPwmCycle n s
  | .pilotMeasurement n hi lo dutyIn pp cc1 cc2 => Sys2Proof.Machine.execPilotMeasurement n hi lo dutyIn pp cc1 cc2 s
  | .canColumnStart n c free => Sys2Proof.Machine.execCanColumnStart n c free s
  | .spanStatRead m n => Sys2Proof.Machine.execSpanStatRead m n s
  | .hwmLowRead m => Sys2Proof.Machine.execHwmLowRead m s

end Sys2Proof.Machine
end

