-- ==== Sys2Proof/Machine/Step.lean ====
section
/-! DEFINITION. One step: the command at the front of the queue, or a CLK_TRUSS edge while the queue is empty. -/

namespace Sys2Proof.Machine

/-- The Truss is clocked: an image runs and PD3 is on (R77, R83, R704). -/
def State.trussRuns (s : State) : Bool := s.load.stage == .run && !s.load.wake && s.pwr.domains.testBit 3 && s.lenOf 1 != 0

/-- What happens with no command waiting: a CLK_TRUSS edge where the Truss is clocked (log entry 1). -/
def State.idle (s : State) : State := if s.trussRuns then s.clockEdge else s

/-- The command at the front runs on the state with the queue's rest. -/
def step (s : State) : Host.Outcome State Fault Refusal :=
  match s.pending with
  | c :: rest => exec c { s with pending := rest }
  | [] => .next s.idle

/-- The command that a word spells, at the front of the queue; no word spells one. -/
def State.withFetchWord (s : State) (nbits w : Nat) : State :=
  match decodeTableWord nbits w with | some c => { s with pending := c :: s.pending } | none => s

end Sys2Proof.Machine
end

