-- ==== Sys2Proof/WellFormed.lean ====
section
/-! DEFINITION. What the senders of the commands can supply: lengths of the operand lists and widths of an access that the hardware's
own shape fixes. A meaning is total on every term; nothing of the machine rests on this check. -/

namespace Sys2Proof

/-- Offsets of a slot's content rise strictly and stay below 16 MiB (R59). -/
def slotWf : List Host.Cell → Bool
  | [] => true
  | [x] => decide (x.1 < 16777216)
  | x :: y :: t => decide (x.1 < y.1) && slotWf (y :: t)

/-- Width of a bus access in bytes (R802). -/
def sizeWf (n : Nat) : Bool := n == 1 || n == 2 || n == 4 || n == 8

/-- A received CAN frame holds as many bytes as its DLC says, at most 8 in a classical frame. -/
def CanFrame.wf (f : CanFrame) : Bool :=
  let n := f.dlc.val
  f.data.length ≤ 64 &&
  (if f.rtr then f.data == [] else f.data.length == if !f.fdf then min n 8 else if n ≤ 8 then n else if n ≤ 12 then 4 * n - 24 else 16 * n - 176)

/-- The operands of a command have the shape that its sender gives them. -/
def Instr.wf : Instr → Bool
  | .housekeepingRound counts temps rails => counts.length == 12 && temps.length == 12 && rails.length == 8
  | .periodStart _ _ mods => mods.length == 8
  | .irqClaim _ _ set _ => decide (set.prio.map Prod.fst).Nodup
  | .caissonResult _ rise fall _ _ => rise.length == fall.length
  | .grdCalDone _ cor => cor.length == 4
  | .grdBgcUpdate _ cor => cor.length == 3
  | .grdConversionResult _ _ raw => !raw.isEmpty
  | .pllLock a b _ _ => slotWf a && slotWf b
  | .wakeRestreamDone got => slotWf got.slot
  | .registerWrite _ _ size _ => sizeWf size
  | .forbiddenRead _ _ size _ => sizeWf size
  | .canFrameRx _ (some f) _ _ _ => f.wf
  | .slacMatch _ attens => attens.all (fun l => l.length == 58)
  | _ => true

end Sys2Proof
end

