-- ==== Sys2Proof/Safety.lean ====
section
/-! DEFINITION. The terms in which statements are made: what it is for a command to complete, what a state leaves alone, when a
write takes effect, and which states are canonical. -/

namespace Sys2Proof.Machine

/-- The command completes from `s`, in a state that meets `P`. -/
def Completes (i : Instr) (s : State) (P : State → Prop) : Prop := ∃ t, exec i s = .next t ∧ P t

/-- Every byte of memory reads as before. -/
def SameMem (s t : State) : Prop := ∀ a, t.memB a = s.memB a

/-- Every register outside `l` reads as before. -/
def SameRegs (s t : State) (l : List Nat) : Prop := ∀ a, a ∉ l → t.reg a = s.reg a

/-- Every register outside the blocks of `l`, numbers of 64 KiB, reads as before. -/
def SameBlocks (s t : State) (l : List Nat) : Prop := ∀ a, a / 0x10000 ∉ l → t.reg a = s.reg a

/-- Apart from the register file the state is as before. -/
def OnlyRegs (s t : State) : Prop := t = { s with regs := t.regs }

/-- A 32-bit write of the register at `a` by master m takes effect whole: the master runs, the access is allowed, the block is
powered and the basic level keeps no field (R44, R75, R94, R704). -/
def State.takes (s : State) (m : Master) (a : Nat) : Bool :=
  s.masterLive m && s.accessOk m a 4 true && s.blockOn a && s.gateMask a == 0

/-- A 32-bit read of the register at `a` by master m is permitted (R14, R44). -/
def State.gives (s : State) (m : Master) (a : Nat) : Bool :=
  s.masterLive m && s.accessOk m a 4 false && s.blockOn a

/-- Memory, the loaded image, the register file and the Truss ports are in canonical form: equal contents are equal data. -/
def State.canonical (s : State) : Bool :=
  Memory.wf s.mem && swf regReset s.regs && swf (fun _ => 0) s.ports

/-- The fault manager runs, handles nothing, and the class table leaves the code its default class: a new fault is handled at once with
that class. -/
def State.parapetFree (s : State) (code cls : Nat) : Bool :=
  s.prp.running && !s.prp.doubleHeld && s.prp.handling == [] && s.prp.latched == [] && s.prp.queue == [] && decide (cls ≤ s.classFloor code)

/-- The fault is in the newest record and being handled. -/
def Recorded (t : State) (code cls src outlets piers : Nat) : Prop :=
  ∃ r rest, t.prp.ring = r :: rest ∧ t.prp.handling.head? = some r ∧
    r.code = code ∧ r.cls = cls ∧ r.src = src ∧ r.outlets = outlets ∧ r.piers = piers

/-- Pylon serves firmware command c of operation `op`, and the access map allows it the inputs (R758, R761). -/
def State.serves (s : State) (c : PylCmd) (op : Nat) : Prop :=
  s.pyl.cmd = some c ∧ s.pyl.serving = some 3 ∧ c.op = op ∧ c.served = false ∧
  s.pylMay c.inA c.inL false = true ∧ s.pylMay c.in2A c.in2L false = true

/-- The operation of command c ends without output, with STATUS `st` to report; memory is as before. -/
def EndsWith (s t : State) (c : PylCmd) (st : Nat) : Prop :=
  t.pyl.cmd = some { c with outLen := 0, status := st, served := true } ∧ SameMem s t

/-- The operation of command c succeeds with output `out`, written at OUT_ADDR: or its room or the access map refuses the output (R758). -/
def Settles (s t : State) (c : PylCmd) (out : List Byte) : Prop :=
  (c.cap < out.length → EndsWith s t c 0x22) ∧
  (out.length ≤ c.cap → s.pylMay c.outA out.length true = false → EndsWith s t c 0x10) ∧
  (out.length ≤ c.cap → s.pylMay c.outA out.length true = true →
    t.pyl.cmd = some { c with outLen := out.length, status := 0, served := true } ∧
    ∀ a, t.memB a = if c.outA ≤ a ∧ a < c.outA + out.length then nth 0 out (a - c.outA) else s.memB a)

/-- Every unit that the device has stands in the state, once: sixteen channels, twelve links, and so on. -/
def State.shaped (s : State) : Bool :=
  s.cwy.hosts.length == 2 &&
  s.spn.links.length == 12 && s.spn.twins.length == 2 && s.spn.twinRx.length == 2 && s.spn.nodes.length == 12 &&
  s.phs.cur.length == 12 && s.phs.nxt.length == 12 && s.kst.outs.length == 8 &&
  s.arc.outs.length == 16 && s.arc.piers.length == 24 && s.arc.xps.length == 64 && s.grd.length == 2 &&
  s.prp.ins.length == 16 && s.prp.imc.length == 4 &&
  s.tol.dc.length == 8 && s.tol.ac.length == 4 && s.tol.heads.length == 8 && s.tol.val.length == 40 &&
  s.tol.csn.length == 40 && s.mods.length == 8 &&
  s.hkp.same.length == 12 && s.sty.length == 8 && s.vlk.length == 8 && s.can.length == 4 && s.trs.chans.length == 16

/-- The commands of a queue that name only what their senders can supply. -/
def queueWf (l : List Instr) : Bool := l.all Instr.wf

/-- A run of `n` steps that neither faults nor refuses. -/
def RunsTo (n : Nat) (s t : State) : Prop := Sys2Proof.core.run n s = .next t

end Sys2Proof.Machine
end

