-- ==== Sys2Proof/Certificates/Slice0/Obligations.lean ====
section
/-! DEFINITION. The statements for the provers. -/

open Sys2Proof Sys2Proof.Machine

/-- For every command c, queue rest and state s: the step of s with c at the front of its queue is the effect of c on s
with the rest of the queue. With an empty queue and an unclocked Truss the step leaves the state (log entry 1). (spec/95_what_each_step_holds.md) -/
def Obligations.StepRunsTheFrontCommand : Prop :=
  (∀ (c : Instr) (rest : List Instr) (s : State), step { s with pending := c :: rest } = exec c { s with pending := rest }) ∧
  (∀ s : State, s.pending = [] → s.trussRuns = false → step s = .next s)

/-- State.reset: every register address reads the value of its table row, 0 where no row covers it, the default quotas of
R46 in CWY_QUOTAn, and ABT_ID the step 2; no image is loaded; the load waits in the boot ROM; PD0 alone is on; no
command waits. That every unlisted byte of memory reads 0 is the model's choice (log entry 40). (R10, R35, R48) -/
def Obligations.ResetLeavesEveryRegisterAtItsResetValue : Prop :=
  (∀ a, State.reset.reg a = (regReset a).toNat) ∧ (∀ n : Fin 15, regReset (Reg.CWY_QUOTA n) = BitVec.ofNat 32 (quotaDefault n)) ∧
  State.reset.get Fld.ABT_ID_STEP = 2 ∧ (∀ a, State.reset.memB a = 0) ∧ State.reset.img = [] ∧ State.reset.load.stage = .boot ∧
  State.reset.pwr.domains = 1 ∧ State.reset.pending = [] ∧ State.reset.isSealed = false

/-- State.reset holds sixteen channels, twelve links and the other units in their numbers, and its memory, register file
and ports are in canonical form. (spec/00_scope.md) -/
def Obligations.ResetIsShapedAndCanonical : Prop :=
  State.reset.shaped = true ∧ State.reset.canonical = true

/-- From every state whose memory lists addresses strictly rising with no byte of 0, a step that answers a next state
answers one whose memory has that form: whatever the command, its masters, addresses, lengths and data. (spec/01_site_and_period.md, spec/17_power_states_and_supply.md) -/
def Obligations.StepKeepsMemoryCanonical : Prop :=
  ∀ s t : State, Memory.wf s.mem = true → step s = .next t → Memory.wf t.mem = true

/-- For every command and state the effect leaves the queue as it was, so that a step on a queue with a command at its
front leaves the rest of that queue. (spec/95_what_each_step_holds.md) -/
def Obligations.CommandsNeverTouchTheQueue : Prop :=
  (∀ (c : Instr) (s t : State), exec c s = .next t → t.pending = s.pending) ∧
  (∀ (c : Instr) (rest : List Instr) (s t : State), s.pending = c :: rest → step s = .next t → t.pending = rest)

/-- Every command answers a next state in every state, except a register write, a read or a forbidden read in the block
0x4012_0000, whose registers the spec does not describe; and a permitted access there refuses as qspRegister. (R12, R14, R44, R48) -/
def Obligations.CommandsCompleteOutsideQsp : Prop :=
  (∀ (c : Instr) (s : State),
    (∀ m a n v, c = .registerWrite m a n v → a.toNat / 0x10000 ≠ 0x4012) → (∀ m a, c = .rcRead m a → a.toNat / 0x10000 ≠ 0x4012) →
    (∀ m a n f, c = .forbiddenRead m a n f → a.toNat / 0x10000 ≠ 0x4012) → ∃ t, exec c s = .next t) ∧
  (∀ (s : State) (m : Master) (a : Word), a.toNat / 0x10000 = 0x4012 → s.masterLive m = true → s.accessOk m a.toNat 4 false = true →
    exec (.rcRead m a) s = .refused .qspRegister)

/-- Every command leaves every byte of memory, except those that store: register writes, held accesses of an aborted entry
to sleep, the image load and its release, resets and power or supply events, the vehicle-link descriptors, the CAN
ring, Pylon's boot element, the outputs and results of its commands, and a report of memory that ECC could not
correct. (R44, R78, R509, R574, R702, R705, R758, R801) -/
def Obligations.MemoryChangesOnlyByItsWriters : Prop :=
  ∀ (c : Instr) (s t : State), exec c s = .next t →
    (match c with
     | .registerWrite .. | .vinFailure | .gndLoss | .vbatLoss | .deviceReset _ | .sectionStreamed | .ramInitDone .. | .bootElementVerify
     | .lastGaspEnd .. | .v2gtpRx .. | .v2gtpTx _ | .canDmaCopy _ | .outDelayExpiry | .doubleFaultReset | .entryCheckpoint _
     | .wakeRestreamDone .. | .watchdogExpiry | .firmwareReset .. | .housekeepingRound .. | .randomBytes | .hash | .aesGcm | .keyGenerate
     | .devidKeys | .sign | .keyAgreement | .kemDecapsulate | .kemEncapsulate | .attestationReport | .pylonCommandDone | .faultReport .. => True
     | _ => SameMem s t)

/-- By a running master, an access that is not allowed (accessOk): a read or a fetch answers 0, a write has no effect;
CWY_VIOL of the master rises by one, stopping at 0xFFFF, CWY_VADDR takes the address, and no other register and no
memory changes. (R44) -/
def Obligations.ForbiddenAccessesAreCounted : Prop :=
  ∀ (s : State) (m : Master) (a : Word), s.masterLive m = true →
  (∀ (n : Nat) (v : BitVec 64), s.accessOk m a.toNat n true = false →
    Completes (.registerWrite m a n v) s (fun t => t.get (Fld.CWY_VIOL_COUNT m) = min 65535 (s.get (Fld.CWY_VIOL_COUNT m) + 1) ∧
      t.get (Fld.CWY_VADDR_ADDR m) = a.toNat ∧ SameRegs s t [Reg.CWY_VIOL m, Reg.CWY_VADDR m] ∧ SameMem s t)) ∧
  (∀ (n : Nat) (fetch : Bool), s.accessOk m a.toNat n false = false →
    Completes (.forbiddenRead m a n fetch) s (fun t => t.rdata = 0 ∧
      t.get (Fld.CWY_VIOL_COUNT m) = min 65535 (s.get (Fld.CWY_VIOL_COUNT m) + 1) ∧
      t.get (Fld.CWY_VADDR_ADDR m) = a.toNat ∧ SameRegs s t [Reg.CWY_VIOL m, Reg.CWY_VADDR m] ∧ SameMem s t)) ∧
  (s.accessOk m a.toNat 4 false = false →
    Completes (.rcRead m a) s (fun t => t.rdata = 0 ∧
      t.get (Fld.CWY_VIOL_COUNT m) = min 65535 (s.get (Fld.CWY_VIOL_COUNT m) + 1) ∧
      t.get (Fld.CWY_VADDR_ADDR m) = a.toNat ∧ SameRegs s t [Reg.CWY_VIOL m, Reg.CWY_VADDR m] ∧ SameMem s t))

/-- A write of n bytes that the map allows, to SRAM, DRAM or the Abutment store in a powered block: byte i of the value
stands at address a + i, every other byte of memory, every register and all else of the state are as before. (R8, R44, R49, R802) -/
def Obligations.AllowedWritesStoreTheirBytes : Prop :=
  ∀ (s : State) (m : Master) (a : Word) (n : Nat) (v : BitVec 64), s.masterLive m = true → s.accessOk m a.toNat n true = true →
    s.blockOn a.toNat = true → blockOf a.toNat ≠ some .reg →
    Completes (.registerWrite m a n v) s (fun t =>
      (∀ i, i < n → t.memB (a.toNat + i) = BitVec.ofNat 8 (v.toNat / 256 ^ i)) ∧
      (∀ b, b < a.toNat ∨ a.toNat + n ≤ b → t.memB b = s.memB b) ∧ t = { s with mem := t.mem })

/-- A permitted 32-bit write of a register whose block has no command of its own, here the Causeway block, acts on each
field of the row by its code: RW takes the bits, RWL takes them before the seal and keeps its value after it, W1C
clears and W1S sets the bits written 1, and RO and RC fields keep their value; no other register, no memory and
nothing else changes. (R12, R15) -/
def Obligations.WritesActFieldByFieldOnTheirCode : Prop :=
  ∀ (s : State) (m : Master) (a : Word) (v : BitVec 64) (r : RegDesc), a.toNat / 0x10000 = 0x4000 → s.takes m a.toNat = true →
    findReg a.toNat = some r →
    Completes (.registerWrite m a 4 v) s (fun t =>
      (∀ f ∈ r.fields, t.get ⟨a.toNat, f.lo, f.w⟩ =
        (match f.acc with
         | .rw => fieldOf v.toNat f.lo f.w
         | .rwl => if s.isSealed then s.get ⟨a.toNat, f.lo, f.w⟩ else fieldOf v.toNat f.lo f.w
         | .w1c => mclr (s.get ⟨a.toNat, f.lo, f.w⟩) (fieldOf v.toNat f.lo f.w)
         | .w1s => s.get ⟨a.toNat, f.lo, f.w⟩ ||| fieldOf v.toNat f.lo f.w
         | _ => s.get ⟨a.toNat, f.lo, f.w⟩)) ∧ SameRegs s t [a.toNat] ∧ OnlyRegs s t)

/-- By a running master whose read is permitted: a read of CWY_VIOL answers its count and leaves it 0; a read of
SPN_TIMELO answers the low word of a site time within the running period and latches the high word in SPN_TIMEHI; a
read of TOL_TIMELO answers the low word of billing time and latches its high word; TOL_HWMLO the same of the
high-water mark; a read of SPN_LINKn_STAT answers the register and clears the mark that PFLAGS changed; a read of the
low word of an energy register answers it and latches the high word. (R14, R39, R164, R381, R395) -/
def Obligations.ReadsClearAndLatch : Prop :=
  ∀ (s : State) (m : Master),
  (∀ (k : Fin 19) (a : Word), a.toNat = Reg.CWY_VIOL k → s.gives m (Reg.CWY_VIOL k) = true →
    Completes (.rcRead m a) s (fun t => t.rdata = s.reg (Reg.CWY_VIOL k) ∧ t.get (Fld.CWY_VIOL_COUNT k) = 0 ∧
      SameRegs s t [Reg.CWY_VIOL k] ∧ SameMem s t)) ∧
  (s.gives m Reg.SPN_TIMELO = true →
    Completes (.siteTimeRead m) s (fun t => ∃ dt, dt < max 1 (s.periodUs * 1000) ∧ t.rdata = (s.siteNs + dt) % 2 ^ 32 ∧
      t.reg Reg.SPN_TIMEHI = (s.siteNs + dt) / 2 ^ 32 % 2 ^ 32 ∧ SameRegs s t [Reg.SPN_TIMEHI] ∧ SameMem s t)) ∧
  (s.gives m Reg.TOL_TIMELO = true →
    Completes (.billingTimeRead m) s (fun t => t.rdata = s.tol.bill.floor.toNat % 2 ^ 32 ∧
      t.tol.latchTime.1 = s.tol.bill.floor.toNat / 2 ^ 32 ∧ SameRegs s t [] ∧ SameMem s t)) ∧
  (s.gives m Reg.TOL_HWMLO = true →
    Completes (.hwmLowRead m) s (fun t => t.rdata = s.tol.hwm.floor.toNat % 2 ^ 32 ∧ t.tol.latchHwm = s.tol.hwm.floor.toNat / 2 ^ 32 ∧
      SameRegs s t [] ∧ SameMem s t)) ∧
  (∀ n : Fin 12, s.shaped = true → s.gives m (Reg.SPN_LINK_STAT n) = true →
    Completes (.spanStatRead m n) s (fun t => t.rdata = s.reg (Reg.SPN_LINK_STAT n) ∧ (t.link n).pflagsChanged = false ∧ SameMem s t)) ∧
  (∀ (a : Word) (e : Nat), s.legalAt a.toNat = some (e, a.toNat) → a.toNat < 0x400A0000 → s.gives m a.toNat = true →
    Completes (.legalRegisterLowRead m a) s (fun t => t.rdata = e % 2 ^ 32 ∧ sget 0 t.tol.latch a.toNat = e / 2 ^ 32 ∧
      SameRegs s t [] ∧ SameMem s t))

/-- After a grant at most 96 transactions are in flight, or no more than before, and CWY_INFLIGHT shows their number. A
command of a core to the controller writes the priorities, the enables and the threshold that it brings, completes the
sources it names that are enabled for it, then answers 0 when no source may be claimed, and else claims one that may
be: none other has a higher priority, and among equals none has a lower number. (R41, R42, R46, R51) -/
def Obligations.CausewayGrantsAndInterruptClaims : Prop :=
  ∀ s : State,
  (∀ freed requests : List Master, Completes (.cwyTransactionGrant freed requests) s (fun t =>
    t.cwy.inFlight.sum ≤ max 96 s.cwy.inFlight.sum ∧ t.get Fld.CWY_INFLIGHT_COUNT = t.cwy.inFlight.sum % 128 ∧
    SameRegs s t [Reg.CWY_INFLIGHT] ∧ SameMem s t)) ∧
  (∀ (core : Fin 4) (done : List (Fin 256)) (set : PlicSet) (other : BitVec 40), Completes (.irqClaim core done set other) s (fun t =>
      let u := s.setPlic core set
      let on := nth 0 u.cwy.enable core
      let claimed := s.cwy.claimed.filter (fun x => !(on.testBit x.2 && done.any (fun d => d.val == x.2)))
      let may (n : Nat) : Prop := n < 256 ∧ s.routed core n = true ∧ on.testBit n = true ∧ s.irq other.toNat n = true ∧ u.prioOf n ≠ 0 ∧
        ∀ x ∈ claimed, x.2 ≠ n
      ((∀ n, ¬ may n) → t.rdata = 0 ∧ t.cwy.claimed = claimed) ∧
      ((∃ n, may n) → may t.rdata ∧ t.cwy.claimed = (core.val, t.rdata) :: claimed ∧
        ∀ n, may n → u.prioOf n < u.prioOf t.rdata ∨ (u.prioOf n = u.prioOf t.rdata ∧ t.rdata ≤ n)) ∧
      t.cwy.prio = u.cwy.prio ∧ t.cwy.enable = u.cwy.enable ∧ t.cwy.threshold = u.cwy.threshold ∧ SameRegs s t [] ∧ SameMem s t))

/-- A monitor window with fewer than 98 or more than 102 counts deviates; the second in a row puts the clock out of
tolerance, which a window that does not deviate ends, and entering it asserts the safe state. Loss of lock asserts it
too. A period start of a running image with no steering outstanding takes site time to the next multiple of T, whose
number is the period's, and opens the links for the period's frames; in STANDBY only time passes. The sample cut-off
is marked for the period. (R28, R29, R36, R37, R39, R114) -/
def Obligations.ClockAndPeriodEvents : Prop :=
  ∀ s : State,
  (s.prp.running = true → ∀ count : Nat, Completes (.clockMonitorWindow count) s (fun t =>
    t.prp.clkLast = decide (count < 98 ∨ 102 < count) ∧
    t.prp.clkBad = (decide (count < 98 ∨ 102 < count) && (s.prp.clkLast || s.prp.clkBad)) ∧
    ((count < 98 ∨ 102 < count) → s.prp.clkLast = true → s.prp.clkBad = false → t.bit Fld.PRP_STAT_SAFE = true) ∧ SameMem s t)) ∧
  Completes .pllLockLost s (fun t => t.prp.pllLocked = false ∧ t.bit Fld.PRP_STAT_SAFE = true ∧ SameMem s t) ∧
  (s.load.stage = .run → s.load.wake = false → s.pwr.st = .run → s.pwr.domains.testBit 3 = true → s.cwy.steer = 0 → s.siteNs < 2 ^ 64 → s.siteFrac < 65536 →
    s.periodUs ≠ 0 →
    Completes (.periodStart [] .none []) s (fun t =>
      let T := s.periodUs * 1000
      t.siteNs = ((s.siteNs + T / 2) / T + 1) * T ∧ t.siteFrac = 0 ∧ t.kst.period = (s.siteNs + T / 2) / T + 1 ∧
      t.kst.cutoff = false ∧ (∀ k ∈ t.spn.links, k.gotUp = false ∧ k.sentDown = false) ∧ SameMem s t)) ∧
  (s.load.stage = .run → s.pwr.st = .standby → s.pwr.domains.testBit 3 = false → s.cwy.steer = 0 → s.siteNs < 2 ^ 64 → s.siteFrac < 65536 →
    s.periodUs ≠ 0 → Completes (.periodStart [] .none []) s (fun t =>
      let T := s.periodUs * 1000
      t.siteNs = ((s.siteNs + T / 2) / T + 1) * T ∧ t.siteFrac = 0 ∧ SameRegs s t [] ∧ SameMem s t)) ∧
  (s.kst.cutoff = false → Completes .sampleCutoff s (fun t => t.kst.cutoff = true ∧
    (∀ l : Fin 12, s.bit (Fld.SPN_LINK_CTRL_EN l) = true → s.spanUse l ≠ 0 → (s.link l).gotUp = false →
      t.bit (Fld.SPN_LINK_STAT_UP_BAD l) = true ∧ t.bit (Fld.SPN_LINK_STAT_ACTIVE l) = false) ∧ SameMem s t))

/-- On an enabled host link with its domain on: the link comes up with LINK, and AN_DONE where auto-negotiation is
enabled; a sync loss sets SYNC_LOST and clears LINK and AN_DONE; a frame of at most 2,048 bytes joins the queue of its
priority pair, with the site time of its arrival when it is an 802.1AS event frame on a link that stamps, and event
frames sent meanwhile have theirs; or it sets RX_OVF where no buffer is free. Which priorities share a queue is the
model's choice (log entry 83). (R53, R54, R57) -/
def Obligations.HostLinkEventsAct : Prop :=
  ∀ (s : State) (n : Fin 2), s.shaped = true → s.bit (Fld.HLK_CTRL_EN n) = true → s.pwr.domains.testBit 7 = true →
  Completes (.hostLinkUp n) s (fun t => t.bit (Fld.HLK_STAT_LINK n) = true ∧
    t.bit (Fld.HLK_STAT_AN_DONE n) = (s.bit (Fld.HLK_CTRL_AN_EN n) || s.bit (Fld.HLK_STAT_AN_DONE n)) ∧
    SameRegs s t [Reg.HLK_STAT n] ∧ OnlyRegs s t) ∧
  Completes (.hostSyncLost n) s (fun t => t.bit (Fld.HLK_STAT_SYNC_LOST n) = true ∧ t.bit (Fld.HLK_STAT_LINK n) = false ∧
    t.bit (Fld.HLK_STAT_AN_DONE n) = false ∧ SameRegs s t [Reg.HLK_STAT n] ∧ OnlyRegs s t) ∧
  (∀ (prio : Fin 8) (len : Nat) (evt : EventTimes), len ≤ 2048 → (∀ h ∈ s.cwy.hosts, h.queues.length = 4) →
    Completes (.hostFrameRx n prio len true evt none) s (fun t =>
      nth [] (nth {} t.cwy.hosts n).queues (prio.val / 2) = nth [] (nth {} s.cwy.hosts n).queues (prio.val / 2) ++
        [(len, if s.bit (Fld.HLK_CTRL_TS_EN n) then evt.rx.map (fun x => (s.siteNs + x) % 2 ^ 64) else none)] ∧
      (nth {} t.cwy.hosts n).txStamps = (if s.bit (Fld.HLK_CTRL_TS_EN n) then (evt.tx.map (fun x => (s.siteNs + x) % 2 ^ 64)).reverse else []) ++
        (nth {} s.cwy.hosts n).txStamps ∧ SameRegs s t [] ∧ SameMem s t) ∧
    Completes (.hostFrameRx n prio len false evt none) s (fun t => t.bit (Fld.HLK_STAT_RX_OVF n) = true ∧
      (nth {} t.cwy.hosts n).queues = (nth {} s.cwy.hosts n).queues ∧ SameRegs s t [Reg.HLK_STAT n] ∧ SameMem s t))

/-- With the load waiting, VIN good and RUN, the lock of the PLL notes both slots and leaves the boot stage: streaming a
slot or refusing; at any other time it only notes the lock. A section of the slot being streamed whose content passes
its checks, and that is neither LEGAL nor the last, is placed and the next one follows. After the seal the end of the
RAM initialisation leaves SRAM reading zero and every other byte of memory, and releases the Parapet, the Toll core
and the image. A wake whose slot still matches its resume record and whose sections stand ends with the device in RUN
and SRAM reading zero. What streaming delivers is an operand (log entry 2). (R36, R72, R73, R77, R717, R801) -/
def Obligations.ImageLoadAdvances : Prop :=
  ∀ s : State,
  (∀ (a b : List Host.Cell) (mram : BitVec 16) (e : Nat),
    (s.load.stage = .boot → s.bit Fld.ABT_SUPPLY_VIN_OK = true → s.pwr.st = .run →
      Completes (.pllLock a b mram e) s (fun t => t.prp.pllLocked = true ∧ t.load.slots = [a, b] ∧ t.load.mram = mram.toNat ∧
        (t.load.stage = .stream ∨ t.load.stage = .refused) ∧ SameMem s t)) ∧
    (s.load.stage ≠ .boot → exec (.pllLock a b mram e) s = .next { s with prp := { s.prp with pllLocked := true } })) ∧
  (∀ c : List Byte, s.load.stage = .stream → s.content s.load.cur (dirEntry s.load.hdr s.load.next) = some c →
    let e := dirEntry s.load.hdr s.load.next
    let u := { s.place e c with load := { s.load with next := s.load.next + 1 } }
    u.sectionReason e c = 0 → eType e ≠ 8 → s.load.next + 1 ≠ sectCount s.load.hdr → exec .sectionStreamed s = .next u) ∧
  (∀ e : Nat, s.load.stage = .seal →
    Completes (.ramInitDone [] e) s (fun t => t.load.stage = .run ∧ t.prp.running = true ∧ t.tol.run = true ∧
      ∀ a, t.memB a = if 0x10000000 ≤ a ∧ a < 0x10800000 then 0 else s.memB a)) ∧
  (∀ (slot : List Host.Cell) (k : Nat) (dig : List Byte) (c : Bool), s.load.wake = true → s.pwr.resume = some (k, dig, c) →
    let s1 := { s with load := { s.load with slots := updAt s.load.slots k (fun _ => slot) } }
    sha3 512 (s1.slotHdr k) = dig →
    (∀ e ∈ entries (s1.slotHdr k), keptType (eType e) = false → (s1.content k e).isSome = true) →
    Completes (.wakeRestreamDone ⟨slot, []⟩) s (fun t => t.load.wake = false ∧ t.pwr.st = .run ∧ t.tol.run = true ∧ t.pyl.serving = none ∧
      ∀ a, 0x10000000 ≤ a → a < 0x10800000 → t.memB a = 0))

/-- On a running link whose frame of the period has not left, the frame leaves when every feeding slot has ended, or at
the send limit; at the limit with a slot not ended EVT.OVERRUN is set, and with all ended the overrun run restarts. A
valid up frame, outside loopback and once a period, is the link's frame of the period: PFLAGS and the trip mask take
its fields. One whose CRC fails counts in ERR.UP_CRC and sets UP_BAD. A link of a dual-homed pier without a valid
frame in 16 periods is reported with code 0x27. Signal and sync show in the link's status. A repeated bring-up starts
over while code 0x26 is latched. (R115, R117, R134, R155, R159, R229, R231) -/
def Obligations.SpanFramesLeaveAndArrive : Prop :=
  ∀ (s : State) (l : Fin 12), s.shaped = true →
  (s.linkRuns l = true → (s.link l).sentDown = false →
    ((s.feeds l).all Slot.ended = true → ∀ i ∈ [Instr.downFrameSend l, Instr.sendLimit l],
      Completes i s (fun t => (t.link l).sentDown = true ∧ (t.link l).overruns = 0 ∧ SameMem s t)) ∧
    ((s.feeds l).all Slot.ended = false → Completes (.sendLimit l) s (fun t => (t.link l).sentDown = true ∧ t.bit Fld.KST_EVT_OVERRUN = true ∧
      SameMem s t))) ∧
  (∀ (bytes : List Byte) (interval : Nat), s.linkRuns l = true → s.bit (Fld.SPN_LINK_CTRL_LOOP l) = false → (s.link l).gotUp = false →
    (s.upValid bytes = true → Completes (.upFrameRx l bytes interval) s (fun t => (t.link l).gotUp = true ∧ (t.link l).missRun = 0 ∧
      (t.link l).up = parseUp bytes ∧ t.get (Fld.SPN_LINK_STAT_PFLAGS l) = leAt bytes 3 1 ∧ t.get (Fld.SPN_LINK_PMASK_TRIP l) = leAt bytes 0x0C 4 ∧
      SameMem s t)) ∧
    (s.upValid bytes = false → upCrcOk bytes = false → Completes (.upFrameRx l bytes interval) s (fun t =>
      t.get (Fld.SPN_LINK_ERR_UP_CRC l) = min (2 ^ (Fld.SPN_LINK_ERR_UP_CRC l).w - 1) (s.get (Fld.SPN_LINK_ERR_UP_CRC l) + 1) ∧
      t.bit (Fld.SPN_LINK_STAT_UP_BAD l) = true ∧ SameRegs s t [Reg.SPN_LINK_ERR l, Reg.SPN_LINK_STAT l] ∧ OnlyRegs s t))) ∧
  (s.dualHomed l = true → 16 ≤ (s.link l).missRun → s.parapetFree 0x27 3 = true →
    Completes (.dualLinkLoss l) s (fun t => Recorded t 0x27 3 l 0 0 ∧ t.prp.irqC = true ∧ SameMem s t)) ∧
  (∀ signal sync : Bool, Completes (.codeGroupSync ⟨l.val, by omega⟩ signal sync) s (fun t =>
    t.bit (Fld.SPN_LINK_STAT_SIGNAL l) = signal ∧ t.bit (Fld.SPN_LINK_STAT_SYNC l) = sync ∧ SameRegs s t [Reg.SPN_LINK_STAT l] ∧ SameMem s t)) ∧
  (∀ n : Fin 12, s.pierLink n 1 = some l.val → s.bit (Fld.SPN_LINK_STAT_SYNC l) = true →
    s.prp.latched.any (fun r => r.code == 0x26 && r.piers.testBit n) = true →
    Completes (.bringupRetry n) s (fun t => (t.link l).bring = s.bringList n ∧ (t.link l).own = none ∧
      (t.link l).bringRun = false ∧ SameRegs s t [] ∧ SameMem s t))

/-- A write of SPN_LINKn_CTRL that takes effect: RESUME is kept for the next down frame while LOWER is not sent; LOOP and
PRBS take their bits while the pier does not report ARMED; either of them at 1 leaves the pier disarmed. A management
GO of a read or write with nothing outstanding keeps the request with its data and address and reads GO and MGMT_BUSY
as 1; with OP 0 or 3, or while bring-up requests are outstanding, GO is ignored. (R120, R156, R163, R809) -/
def Obligations.SpanRegisterWritesAct : Prop :=
  ∀ (s : State) (m : Master) (n : Fin 12) (v : Word), s.shaped = true →
  (s.takes m (Reg.SPN_LINK_CTRL n) = true →
    (v.toNat / 16 % 2 = 1 → s.bit (Fld.SPN_LINK_STAT_LOWER_TX n) = false →
      Completes (.spanResumeWrite m n v) s (fun t => (t.link n).resumeReq = true ∧ SameMem s t)) ∧
    (s.pierArmed (s.spanPier n) = false → s.isSealed = true →
      Completes (.spanLoopPrbsWrite m n v) s (fun t => t.get (Fld.SPN_LINK_CTRL_LOOP n) = v.toNat / 4 % 2 ∧
        t.get (Fld.SPN_LINK_CTRL_PRBS n) = v.toNat / 8 % 2 ∧
        (v.toNat / 4 % 4 ≠ 0 → s.spanPier n < 12 → (t.get Fld.PRP_ARMED_PIERS).testBit (s.spanPier n) = false) ∧
        SameRegs s t [Reg.SPN_LINK_CTRL n, Reg.PRP_ARMED, Reg.PRP_EVT] ∧ SameMem s t))) ∧
  (s.takes m (Reg.SPN_LINK_MGMTC n) = true →
    (v.toNat / 2 ^ 31 = 1 → (v.toNat / 2 ^ 29 % 4 = 1 ∨ v.toNat / 2 ^ 29 % 4 = 2) → (s.link n).mgmt = none → s.bringing (s.spanPier n) = false →
      Completes (.mgmtRequestGo m n v) s (fun t => (∃ q, (t.link n).mgmt = some q ∧ q.op = v.toNat / 2 ^ 29 % 4 ∧
          q.addr = v.toNat / 2 ^ 15 % 2 ^ 14 ∧ q.data = s.get (Fld.SPN_LINK_MGMTD_DATA n) ∧ q.sent = false) ∧
        t.bit (Fld.SPN_LINK_MGMTC_GO n) = true ∧ t.bit (Fld.SPN_LINK_STAT_MGMT_BUSY n) = true ∧
        SameRegs s t [Reg.SPN_LINK_MGMTC n, Reg.SPN_LINK_STAT n] ∧ SameMem s t)) ∧
    ((v.toNat / 2 ^ 29 % 4 = 0 ∨ v.toNat / 2 ^ 29 % 4 = 3 ∨ s.bringing (s.spanPier n) = true) →
      Completes (.mgmtRequestGo m n v) s (fun t => (t.link n).mgmt = (s.link n).mgmt ∧
        t.get (Fld.SPN_LINK_MGMTC_GO n) = s.get (Fld.SPN_LINK_MGMTC_GO n) ∧ SameRegs s t [Reg.SPN_LINK_MGMTC n] ∧ OnlyRegs s t)))

/-- A valid down frame on the primary link is accepted: its SEQ and T are kept, the missed count is 0, ARM follows its
flag, and with the SEQ of the node's period its command words wait for the next; an invalid one raises BAD_DN,
stopping at 255. A period without a copy of its SEQ raises the missed count up to 3, where the node lowers and takes
silence. The lower broadcast and a frame with LOWER start lowering unless lowered; the end of lowering sets LOWERED
and every phase OFF. A local trip turns its phase off and keeps it tripped. No command of a pier node changes a
register or memory. (R133, R135, R136, R139, R143, R145, R147, R148, R154) -/
def Obligations.PierNodesFollowFrames : Prop :=
  ∀ (s : State) (n : Fin 12), s.shaped = true →
  (∀ (bytes : List Byte) (clock l : Nat), s.pierLink n 1 = some l →
    (downValid (s.node n) false l n bytes = true → Completes (.pierDownFrameAccept n false bytes clock) s (fun t =>
      (t.node n).seqP = some (leAt bytes 4 4) ∧ (t.node n).gotP = true ∧ (t.node n).missed = 0 ∧
      (t.node n).armed = (leAt bytes 3 1).testBit 1 ∧ (t.node n).tUs = leAt bytes 0x16 2 ∧
      (leAt bytes 4 4 = (t.node n).index % 2 ^ 32 → (t.node n).gotK = true ∧
        (t.node n).nextCmd = (List.range 32).map (fun p => leAt bytes (0x20 + 4 * p) 4)) ∧ SameRegs s t [] ∧ SameMem s t)) ∧
    (downValid (s.node n) false l n bytes = false → Completes (.pierDownFrameAccept n false bytes clock) s (fun t =>
      (t.node n).badDn = (if (s.node n).badDn < 255 then (s.node n).badDn + 1 else 255) ∧
      (t.node n).seqP = (s.node n).seqP ∧ SameRegs s t [] ∧ SameMem s t))) ∧
  ((s.node n).gotK = false → Completes (.pierMissingFrame n) s (fun t =>
    (t.node n).missed = min 3 ((s.node n).missed + 1) ∧
    (2 ≤ (s.node n).missed → (t.node n).silence = true ∧ ((t.node n).lowering = true ∨ (t.node n).lowered = true)) ∧ SameRegs s t [] ∧ SameMem s t)) ∧
  Completes (.pierBroadcastRx n) s (fun t => ((s.node n).lowered = false → (t.node n).lowering = true) ∧
    ((s.node n).lowered = true → t.node n = s.node n) ∧ SameRegs s t [] ∧ SameMem s t) ∧
  ((s.node n).lowering = true → Completes (.pierLowerDone n) s (fun t => (t.node n).lowered = true ∧ (t.node n).lowering = false ∧
    (t.node n).inForce = List.replicate 32 (cmdWord 2 0 0) ∧ SameRegs s t [] ∧ SameMem s t)) ∧
  (∀ p : Fin 32, Completes (.pierLocalTrip n p) s (fun t => (t.node n).trip.testBit p = true ∧ (t.node n).tripOff.testBit p = false ∧
    ((s.node n).inForce.length = 32 → nth 0 (t.node n).inForce p = cmdWord 2 0 0) ∧ SameRegs s t [] ∧ SameMem s t))

/-- On a twin link in use that is enabled and not looped: a frame whose type, length and CRC are right gives the link its
payload and SEQ and shows ACTIVE; any other counts in ERR.UP_CRC and sets UP_BAD, and changes nothing else. Its signal
and sync show in its status. (R132, R160, R161) -/
def Obligations.TwinFramesAreTaken : Prop :=
  ∀ (s : State) (k : Fin 2) (bytes : List Byte) (timer : Nat), s.shaped = true → s.twinUse k ≠ 0 → s.bit (Fld.TWL_LINK_CTRL_EN k) = true →
  s.bit (Fld.TWL_LINK_CTRL_LOOP k) = false →
  (twinValid bytes = true → Completes (.twinFrameRx k bytes timer) s (fun t =>
    nth {} t.spn.twinRx k = { payload := twinPayload bytes, seq := leAt bytes 4 4, atT := timer, got := true, valid := true } ∧
    t.bit (Fld.TWL_LINK_STAT_ACTIVE k) = true ∧ SameMem s t)) ∧
  (twinValid bytes = false → Completes (.twinFrameRx k bytes timer) s (fun t =>
    t.get (Fld.TWL_LINK_ERR_UP_CRC k) = min (2 ^ (Fld.TWL_LINK_ERR_UP_CRC k).w - 1) (s.get (Fld.TWL_LINK_ERR_UP_CRC k) + 1) ∧
    t.bit (Fld.TWL_LINK_STAT_UP_BAD k) = true ∧ SameRegs s t [Reg.TWL_LINK_ERR k, Reg.TWL_LINK_STAT k] ∧ OnlyRegs s t)) ∧
  (∀ signal sync : Bool, Completes (.codeGroupSync ⟨12 + k.val, by omega⟩ signal sync) s (fun t =>
    t.bit (Fld.TWL_LINK_STAT_SIGNAL k) = signal ∧ t.bit (Fld.TWL_LINK_STAT_SYNC k) = sync ∧ SameRegs s t [Reg.TWL_LINK_STAT k] ∧ OnlyRegs s t))

/-- A pier in use whose slots have all ended, not yet evaluated in this period, is evaluated: it is marked done, and SVC,
RAMP, HOT, DEM, N_SVC, N_AVAIL, LEAD, GLIDE and HOLDOFF show what is decided for the next period. While the pier is
not armed no phase of it is in service after the evaluation. Registers outside phase control and all memory stay (here
for a pier that is not armed, which raises no capacity fault). A pier not in use, or whose slots have not all ended,
or that is done, is left. The end of a full window raises TLMSEQ by one, empties the sums of every phase, and an
average without a value reads 0x8000_0000. (R165, R172, R177, R201, R205) -/
def Obligations.PhaseControlEvaluates : Prop :=
  ∀ (s : State) (n : Fin 12), s.shaped = true →
  (s.pierInUse n = true → (s.pier n).done = false → (s.pierSlots n).all Slot.ended = true → s.pierArmed n = false →
    Completes (.phaseControlEvaluation n) s (fun t =>
      (t.pier n).done = true ∧ SameBlocks s t [0x4005] ∧ SameMem s t ∧
      t.get (Fld.PHS_PIER_SVC_SVC n) = 0 ∧ t.get (Fld.PHS_PIER_STAT_N_SVC n) = 0 ∧ t.get (Fld.PHS_PIER_RAMP_RAMP n) = 0 ∧
      (∀ p : Fin 32, ((nth ({} : Pier) t.phs.nxt n).ph p).st.svc = false) ∧
      t.get (Fld.PHS_PIER_STAT_LEAD n) = (nth ({} : Pier) t.phs.nxt n).lead % 32 ∧
      t.get (Fld.PHS_PIER_CAP_CAP n) = 0 ∧ (nth ({} : Pier) t.phs.nxt n).holdoff = 0)) ∧
  (s.pierInUse n = true → (s.pier n).done = false → (s.pierSlots n).all Slot.ended = true →
    Completes (.phaseControlEvaluation n) s (fun t =>
      let q := nth ({} : Pier) t.phs.nxt n
      (t.pier n).done = true ∧ q.held = s.heldNow n ∧ SameMem s t ∧
      (∀ p : Fin 32, (t.get (Fld.PHS_PIER_SVC_SVC n)).testBit p = (q.ph p).st.svc ∧
        (t.get (Fld.PHS_PIER_RAMP_RAMP n)).testBit p = decide ((q.ph p).st = .ramp) ∧
        (t.get (Fld.PHS_PIER_THERM_HOT n)).testBit p = decide ((q.ph p).st = .hot) ∧
        (t.get (Fld.PHS_PIER_DEM_DEM n)).testBit p = (q.ph p).de) ∧
      t.get (Fld.PHS_PIER_STAT_N_SVC n) = ((List.range 32).filter (fun p => (q.ph p).st.svc)).length ∧
      t.get (Fld.PHS_PIER_STAT_N_AVAIL n) = ((List.range 32).filter (fun p => s.usable n p && (q.ph p).st.avail)).length ∧
      t.get (Fld.PHS_PIER_STAT_LEAD n) = q.lead % 32 ∧ t.bit (Fld.PHS_PIER_STAT_GLIDE n) = decide (q.glideLeft ≠ 0) ∧
      t.bit (Fld.PHS_PIER_STAT_HOLDOFF n) = decide (q.holdoff ≠ 0))) ∧
  ((s.pierInUse n = false ∨ (s.pier n).done = true ∨ (s.pierSlots n).all Slot.ended = false) →
    exec (.phaseControlEvaluation n) s = .next s) ∧
  ((s.pier n).tlmCnt < 2 ^ s.get Fld.PHS_TLM_AVG_EXP → exec (.telemetryWindowEnd n) s = .next s) ∧
  (2 ^ s.get Fld.PHS_TLM_AVG_EXP ≤ (s.pier n).tlmCnt → Completes (.telemetryWindowEnd n) s (fun t =>
    t.get (Fld.PHS_PIER_TLMSEQ_SEQ n) = (s.get (Fld.PHS_PIER_TLMSEQ_SEQ n) + 1) % 2 ^ (Fld.PHS_PIER_TLMSEQ_SEQ n).w ∧
    (∀ p : Fin 32, (t.phase n p).tlm = [] ∧ ((s.phase n p).tlm = [] →
      t.get (Fld.PHS_PIER_PH_VAVG_V n p) = 0x80000000 ∧ t.get (Fld.PHS_PIER_PH_IAVG_I n p) = 0x80000000 ∧
      t.get (Fld.PHS_PIER_PH_PAVG_P n p) = 0x80000000 ∧ t.get (Fld.PHS_PIER_PH_TAVG_T n p) = 0x80000000)) ∧
    (t.pier n).tlmCnt = 0 ∧ SameBlocks s t [0x4005] ∧ SameMem s t))

/-- The open-phase and stuck-sense detections of a usable phase in service, in a period with an up frame, hand their cause
to the pier's evaluation; where that is done already, it is made again: in the decisions of the next period the phase
is FAULTED and out of SVC. The end of the hold-off zeroes the counter and STAT.HOLDOFF; the end of the dwell lets
sheds be evaluated; the rotation interval makes rotation due, unless ROT_EN or INTERVAL is 0; a phase without a
temperature for 64 periods counts as at TEMP_MAX. (R184, R190, R194, R196, R197, R200) -/
def Obligations.PhaseDetectionsAndTimersAct : Prop :=
  ∀ (s : State) (n : Fin 12), s.shaped = true →
  (∀ p : Fin 32, s.usable n p = true → (s.pier n).held = false → s.heldNow n = false → (s.pierUp n).isSome = true → ((s.pier n).ph p).st.svc = true →
    ((s.pier n).done = false →
      (((s.pier n).ph p).de = false → Completes (.openPhaseDetect n p) s (fun t => ((t.pier n).ph p).pend =
        (if ((s.pier n).ph p).pend = 3 then 3 else 1) ∧ t.regs = s.regs ∧ SameMem s t)) ∧
      Completes (.stuckSenseDetect n p) s (fun t => ((t.pier n).ph p).pend = 3 ∧ t.regs = s.regs ∧ SameMem s t)) ∧
    ((s.pier n).done = true →
      (((s.pier n).ph p).de = false → Completes (.openPhaseDetect n p) s (fun t => ((nth ({} : Pier) t.phs.nxt n).ph p).st = .faulted ∧
        ((nth ({} : Pier) t.phs.nxt n).ph p).pend ≠ 0 ∧ (t.get (Fld.PHS_PIER_SVC_SVC n)).testBit p = false ∧ SameMem s t)) ∧
      Completes (.stuckSenseDetect n p) s (fun t => ((nth ({} : Pier) t.phs.nxt n).ph p).st = .faulted ∧
        ((nth ({} : Pier) t.phs.nxt n).ph p).pend ≠ 0 ∧ (t.get (Fld.PHS_PIER_SVC_SVC n)).testBit p = false ∧ SameMem s t))) ∧
  Completes (.holdoffEnd n) s (fun t => (t.pier n).holdoff = 0 ∧ (nth ({} : Pier) t.phs.nxt n).holdoff = 0 ∧
    t.bit (Fld.PHS_PIER_STAT_HOLDOFF n) = false ∧ t.get (Fld.PHS_PIER_STAT_N_SVC n) = s.get (Fld.PHS_PIER_STAT_N_SVC n) ∧
    SameRegs s t [Reg.PHS_PIER_STAT n] ∧ SameMem s t) ∧
  Completes (.dwellEnd n) s (fun t => (t.pier n).dwell = 0 ∧ (nth ({} : Pier) t.phs.nxt n).dwell = 0 ∧ t.regs = s.regs ∧ SameMem s t) ∧
  Completes (.rotationIntervalExpiry n) s (fun t => t.regs = s.regs ∧ SameMem s t ∧ (t.pier n).rotDue =
    ((s.pier n).rotDue || (s.bit (Fld.PHS_PIER_CTRL_ROT_EN n) && s.get Fld.PHS_ROT_INTERVAL != 0))) ∧
  (∀ p : Fin 32, Completes (.tempReportTimeout n p) s (fun t => t.regs = s.regs ∧ SameMem s t ∧
    t.thetaOf n p (t.phase n p) = s.tMax n p))

/-- A write of CTRL with SHED_EN 0 makes the next evaluation act as on a load step without hold-off. A write of SHED whose
ADMIT_FRAC would not exceed SHED_FRAC, or with N_MIN 0, is ignored as a whole; any other sets its four fields. A write
of FAULT clears the named bits, and each cleared phase stays OFF for one more period before OUT. A write of PHS_TLM
sets AVG_EXP and discards every window in progress. (R187, R188, R198, R208) -/
def Obligations.PhaseWritesAct : Prop :=
  ∀ (s : State) (m : Master) (v : Word), s.shaped = true →
  (∀ n : Fin 12,
    (s.takes m (Reg.PHS_PIER_CTRL n) = true →
      Completes (.shedDisable m n v) s (fun t => (∀ b : Fin 5, (t.reg (Reg.PHS_PIER_CTRL n)).testBit b = v.toNat.testBit b) ∧
        (v.toNat.testBit 1 = false → (t.pier n).shedOff = true) ∧
        SameRegs s t [Reg.PHS_PIER_CTRL n] ∧ SameMem s t)) ∧
    (s.takes m (Reg.PHS_PIER_SHED n) = true →
      ((v.toNat / 2 ^ 16 % 256 ≤ v.toNat / 2 ^ 24 ∨ v.toNat % 64 = 0) → exec (.phsShedWrite m n v) s = .next s) ∧
      (v.toNat / 2 ^ 24 < v.toNat / 2 ^ 16 % 256 → v.toNat % 64 ≠ 0 →
        Completes (.phsShedWrite m n v) s (fun t => t.get (Fld.PHS_PIER_SHED_SHED_FRAC n) = v.toNat / 2 ^ 24 ∧
          t.get (Fld.PHS_PIER_SHED_ADMIT_FRAC n) = v.toNat / 2 ^ 16 % 256 ∧ t.get (Fld.PHS_PIER_SHED_SHED_RAMP n) = v.toNat / 2 ^ 8 % 256 ∧
          t.get (Fld.PHS_PIER_SHED_N_MIN n) = v.toNat % 64 ∧ SameRegs s t [Reg.PHS_PIER_SHED n] ∧ SameMem s t))) ∧
    (s.takes m (Reg.PHS_PIER_FAULT n) = true →
      Completes (.phaseFaultClear m n v) s (fun t => ((s.pier n).done = false → SameRegs s t [Reg.PHS_PIER_FAULT n]) ∧ SameMem s t ∧
        ∀ p : Fin 32, (t.get (Fld.PHS_PIER_FAULT_FAULT n)).testBit p = ((s.get (Fld.PHS_PIER_FAULT_FAULT n)).testBit p && !v.toNat.testBit p) ∧
          ((s.get (Fld.PHS_PIER_FAULT_FAULT n)).testBit p = true → v.toNat.testBit p = true → (t.phase n p).clearing = 2)))) ∧
  (s.takes m Reg.PHS_TLM = true →
    Completes (.avgExpWrite m v) s (fun t => t.get Fld.PHS_TLM_AVG_EXP = v.toNat % 2 ^ Fld.PHS_TLM_AVG_EXP.w ∧ SameRegs s t [Reg.PHS_TLM] ∧ SameMem s t ∧
      ∀ (n : Fin 12) (p : Fin 32), (t.pier n).tlmCnt = 0 ∧ (t.phase n p).tlm = []))

/-- A slot that has not ended, with every position before it ended, evaluates. Idle, its state is cleared to the idle
slot. Not idle with its inputs present and no cause of lost feedback, unsupervised, its values become those of the law
on the scaled and rounded feedback. On a failed engine that the spare does not run, it holds its output. An error that
an engine in normal state sees in an idle slot, counted where it is a residue failure, marks the engine failed, and an
available spare takes it over in the next period. In each case the slot has ended, other slots keep their values, and
only the reference registers of its outlet (and with a failure those of the engine) change. A slot that has ended, or
whose turn has not come, is left. Before it the override of a pier in step 4 of a hand-off is formed from the up frame
of this period. (R212, R213, R215, R217, R225, R246, R253, R254) -/
def Obligations.SlotEvaluationsRunTheLaw : Prop :=
  ∀ (s : State) (e : Fin 5) (p : Fin 1024),
  let u := s.refreshOvr
  (∀ k : Slot, u.slotAt e p = some k → k.ended = false → u.inTurn e p = true →
    (u.engineDead e = false → u.kst.replaceNext ≠ some e.val → u.isIdle k = true →
      Completes (.slotEvaluation e p .none) s (fun t => t.slotAt e p = some (u.idleSlot k) ∧
        (∀ x : Nat × Nat, (x.1 ≠ e.val ∨ x.2 ≠ p.val) → t.slotAt x.1 x.2 = s.slotAt x.1 x.2) ∧
        SameRegs s t [Reg.KST_OUT_REF (u.slotOutlet k), Reg.KST_OUT_CEIL (u.slotOutlet k)] ∧ SameMem s t)) ∧
    (u.engineDead e = true → (u.isIdle k = true ∨ u.inputsPresent k = true) →
      Completes (.slotEvaluation e p .none) s (fun t => t.slotAt e p = some { k.hold true with usedB := u.bankB k } ∧
        SameRegs s t [Reg.KST_OUT_REF (u.slotOutlet k), Reg.KST_OUT_CEIL (u.slotOutlet k)] ∧ SameMem s t)) ∧
    (u.engineDead e = false → u.kst.replaceNext ≠ some e.val → u.isIdle k = false → u.inputsPresent k = true → u.sup k = 0 →
      k.lost = 0 → ∀ fb : Src, u.source k (u.prog k 0x10 4) = fb → fb.bad = false →
      ∀ y : Int × Bool, y = store (val fb.v * ((u.progS k 0x24 4 : Int) : Rat) / 2 ^ 24) → u.lossCause k fb y.1 = 0 →
      Completes (.slotEvaluation e p .none) s (fun t =>
        t.slotAt e p = some ((u.law { k with lost := 0, lossRaised := false, stopped := false } y).seeFb fb.v) ∧
        (∀ x : Nat × Nat, (x.1 ≠ e.val ∨ x.2 ≠ p.val) → t.slotAt x.1 x.2 = s.slotAt x.1 x.2) ∧
        SameRegs s t [Reg.KST_OUT_REF (u.slotOutlet k), Reg.KST_OUT_CEIL (u.slotOutlet k)] ∧ SameMem s t)) ∧
    (∀ err : EngErr, err ≠ .none → u.isIdle k = true → u.get (Fld.KST_E_STAT_STATE e) = 0 → u.get (Fld.KST_E_STAT_STATE 5) = 1 →
      u.kst.replaceNext = none →
      Completes (.slotEvaluation e p err) s (fun t => t.bit Fld.KST_EVT_RES_FAIL = true ∧ t.get (Fld.KST_E_STAT_STATE e) = 2 ∧
        t.get (Fld.KST_E_ERR_RES e) = (if err = .residue then min (2 ^ (Fld.KST_E_ERR_RES e).w - 1) (s.get (Fld.KST_E_ERR_RES e) + 1)
          else s.get (Fld.KST_E_ERR_RES e)) ∧
        (t.get Fld.KST_SPARE_FAILED).testBit e = true ∧ t.kst.replaceNext = some e.val ∧
        (∃ k', t.slotAt e p = some k' ∧ k'.ended = true) ∧ SameBlocks s t [0x4006] ∧ SameMem s t))) ∧
  (∀ err : EngErr, (∀ k, u.slotAt e p = some k → k.ended = true ∨ u.inTurn e p = false) →
    exec (.slotEvaluation e p err) s = .next u)

/-- A write of KST_OUTm_CTRL sets MODE to its bit. A 0 in EN clears EN. A 1 in EN sets it when the safe state is not
asserted, no latched fault names the outlet and its SECC link, if it has one, is CONNECTED; otherwise EN stays. No
other register and no memory changes. (R520, R608, R641) -/
def Obligations.OutletEnableIsGuarded : Prop :=
  ∀ (s : State) (m : Master) (o : Fin 8) (v : Word), s.takes m (Reg.KST_OUT_CTRL o) = true →
  Completes (.outletEnWrite m o v) s (fun t => SameRegs s t [Reg.KST_OUT_CTRL o] ∧ SameMem s t ∧
    t.bit (Fld.KST_OUT_CTRL_MODE o) = v.toNat.testBit 1 ∧ t.bit (Fld.KST_OUT_CTRL_LOWERING o) = s.bit (Fld.KST_OUT_CTRL_LOWERING o) ∧
    (v.toNat.testBit 0 = false → t.bit (Fld.KST_OUT_CTRL_EN o) = false) ∧
    (v.toNat.testBit 0 = true →
      (s.bit Fld.PRP_STAT_SAFE = true ∨ s.latchedOutlet o = true → t.bit (Fld.KST_OUT_CTRL_EN o) = s.bit (Fld.KST_OUT_CTRL_EN o)) ∧
      (∀ n, (List.range 8).find? (fun n => s.vlUse n == 1 && s.vlOutlet n == o.val) = some n → s.bit (Fld.VLK_L_CONT_CONNECTED n) = false →
        t.bit (Fld.KST_OUT_CTRL_EN o) = s.bit (Fld.KST_OUT_CTRL_EN o)) ∧
      (s.bit Fld.PRP_STAT_SAFE = false → s.latchedOutlet o = false →
        (∀ n, (List.range 8).find? (fun n => s.vlUse n == 1 && s.vlOutlet n == o.val) = some n → s.bit (Fld.VLK_L_CONT_CONNECTED n) = true) →
        t.bit (Fld.KST_OUT_CTRL_EN o) = true)))

/-- With the Arch running, an Arch period start counts ASEQ, shows the cascade position, ends a pending COMMIT, and the
results of the last period, if there are any, come into force as ceilings and shares; a module outside a cascade also
takes a pending MOVE, forms new results, and changes registers only in the Keystone, the Arch and the vehicle links.
With the Arch off it does nothing. A write of COMMIT or MOVE outside the VEHICLE role sets GO where its bit is 1, and
MOVE its units; in that role it is ignored. A ceiling refresh that stays out is reported with code 0x28, Class B and
the outlet. (R33, R262, R263, R265, R281, R298, R299) -/
def Obligations.ArchPeriodAndRequestsAct : Prop :=
  ∀ s : State,
  (s.archOn = false → exec .archPeriodStart s = .next s) ∧
  (s.archOn = true → Completes .archPeriodStart s (fun t =>
    t.get Fld.ARC_STAT_ASEQ = (s.get Fld.ARC_STAT_ASEQ + 1) % 65536 ∧ t.bit Fld.ARC_COMMIT_GO = false ∧ SameMem s t ∧
    t.get Fld.ARC_STAT_CASCADE = (if s.cascMaster then 1 else if s.follower then 2 else 0) ∧
    (∀ r, s.arc.due = some r →
      (∀ (m : Fin 8) (ic id pc pd : Nat), r.ceil[m.val]? = some [ic, id, pc, pd] →
        t.get (Fld.KST_OUT_ARCHI_CHG m) = ic % 65536 ∧ t.get (Fld.KST_OUT_ARCHI_DIS m) = id % 65536 ∧
        t.get (Fld.KST_OUT_ARCHP_CHG m) = pc % 65536 ∧ t.get (Fld.KST_OUT_ARCHP_DIS m) = pd % 65536) ∧
      (∀ n : Fin 12, t.get (Fld.KST_PIER_SHARE_SHARE n) = nth 0 r.share n % 65536)) ∧
    (s.cascMaster = false → s.follower = false →
      t.bit Fld.ARC_MOVE_GO = false ∧ t.arc.due.isSome = true ∧ SameBlocks s t [0x4006, 0x4007, 0x400C]))) ∧
  (∀ (m : Master) (v : Word),
    (s.takes m Reg.ARC_COMMIT = true →
      (s.role = 2 → exec (.arcCommitGo m v) s = .next s) ∧
      (s.role ≠ 2 → Completes (.arcCommitGo m v) s (fun t => t.bit Fld.ARC_COMMIT_GO = (s.bit Fld.ARC_COMMIT_GO || v.toNat.testBit 0) ∧
        SameRegs s t [Reg.ARC_COMMIT] ∧ SameMem s t))) ∧
    (s.takes m Reg.ARC_MOVE = true →
      (s.role = 2 → exec (.arcMoveGo m v) s = .next s) ∧
      (s.role ≠ 2 → Completes (.arcMoveGo m v) s (fun t => t.bit Fld.ARC_MOVE_GO = (s.bit Fld.ARC_MOVE_GO || v.toNat.testBit 31) ∧
        t.get Fld.ARC_MOVE_PIER = v.toNat / 2 ^ 8 % 32 ∧ t.get Fld.ARC_MOVE_OUTLET = v.toNat % 32 ∧ SameRegs s t [Reg.ARC_MOVE] ∧ SameMem s t)))) ∧
  (∀ m : Fin 8,
    (s.role = 2 → exec (.ceilingRefreshTimeout m false) s = .next s) ∧
    (∀ stay : Bool, (s.role ≠ 2 ∨ stay = true) → s.parapetFree 0x28 2 = true →
      Completes (.ceilingRefreshTimeout m stay) s (fun t => Recorded t 0x28 2 0xFF (2 ^ m.val) 0 ∧
        t.bit (Fld.KST_OUT_CTRL_LOWERING m) = true ∧ SameMem s t)))

/-- A pier whose current has stayed below I_ZERO has its crosspoints that are to open commanded open, that of step 2 among
them. A settled auxiliary contact sets AUX and its Truss port: opening in step 2 it starts the check, closing in step
5 the ramp. A contact that disagrees with its command makes crosspoint and pier FAULT, ends the hand-off and is
reported with code 0x0B. A check whose rise reaches half the expected one frees a released pier and lets a joining one
go on; one that does not marks a weld: FAULT and code 0x0A. A pier matched in step 4 closes its crosspoint; one that
did not match in time is free again and reported with code 0x29, Class C. (R274, R275, R276, R282, R284, R285, R286, R652, R654) -/
def Obligations.HandOffStepsAct : Prop :=
  ∀ (s : State), s.shaped = true →
  (∀ (c : Fin 24) (h : HandOff), s.handOf c = some h →
    (h.step = 2 → h.xp ∈ s.pierXps c → h.xp ∈ s.zeroXps c) ∧
    (h.step = 4 → s.matched h = true → h.stop = false → s.lowered? c = false → s.outLowered? h.recv = false → ∀ k, s.xpOf c h.recv = some k →
      Completes (.matched c) s (fun t => t.xpSt k = 1 ∧ (t.arcXp k).cmd = true ∧ t.pierSt c = 6 ∧ (t.handOf c).map HandOff.step = some 5 ∧
        SameRegs s t [Reg.ARC_XP_STAT k, Reg.ARC_PIER_STATE c] ∧ SameMem s t)) ∧
    (h.step = 4 → Completes (.matchTimeout c) s (fun t => t.handOf c = none ∧ t.pierSt c ≤ 1 ∧ SameMem s t ∧
      (h.recv ≠ 0x1F → t.bit Fld.ARC_EVT_HO_FAIL = true) ∧
      (s.parapetFree 0x29 3 = true → Recorded t 0x29 3 0xFF 0 (2 ^ (c.val - s.pBase))))) ∧
    (h.step = 3 → h.xp < 64 → s.xpSt h.xp = 4 → ∀ rise : Int, ∀ want : Rat,
      want = (if (s.par (0x3C0 + 8 * (c.val - s.pBase)) 4 : Rat) / 1000000 = 0 then 0
        else q16 (s.par 0x10 4) * (s.par 0x0C 1 : Rat) / 1000 / ((s.par (0x3C0 + 8 * (c.val - s.pBase)) 4 : Rat) / 1000000)) →
      (want / 2 ≤ q16i rise → Completes (.weldCheckEnd c rise) s (fun t => t.xpSt h.xp = 0 ∧ SameMem s t ∧
        (if h.recv = 0x1F ∨ h.stop = true then t.handOf c = none ∧ t.pierSt c ≤ 1 else t.pierSt c = 4 ∨ t.pierSt c = 5))) ∧
      (q16i rise < want / 2 → Completes (.weldCheckEnd c rise) s (fun t => t.xpSt h.xp = 5 ∧ t.pierSt c = 10 ∧ t.handOf c = none ∧
        t.bit Fld.ARC_EVT_XP_FAULT = true ∧ SameMem s t ∧ (t.arcXp h.xp).welded = true ∧
        (s.parapetFree 0x0A 2 = true → Recorded t 0x0A 2 0xFF (2 ^ (s.xpOut h.xp - s.oBase)) (2 ^ (c.val - s.pBase))))))) ∧
  (∀ c : Fin 24, s.localPier c = true →
    (absR (s.pierI (c.val - s.pBase)) < q16 (s.site 0x20 4) → Completes (.zeroCurrentOpen c) s (fun t =>
      (∀ k ∈ s.zeroXps c, (t.arcXp k).cmd = false ∧
        t.xpSt k = (if s.xpSt k = 1 ∨ s.xpSt k = 2 then (if s.bit (Fld.ARC_XP_STAT_AUX k) = true then 3 else 0) else s.xpSt k)) ∧
      SameRegs s t ((s.zeroXps c).map (fun k => Reg.ARC_XP_STAT k)) ∧ SameMem s t)) ∧
    (q16 (s.site 0x20 4) ≤ absR (s.pierI (c.val - s.pBase)) → exec (.zeroCurrentOpen c) s = .next s)) ∧
  (∀ k : Fin 64, s.xpUsed k = true → s.localPier (s.xpPier k) = true →
    (∀ closed : Bool, Completes (.auxContactFiltered k closed) s (fun t => t.bit (Fld.ARC_XP_STAT_AUX k) = closed ∧
      t.port (s.xpAuxPort k) = (if closed then 1 else 0) ∧ SameBlocks s t [0x4007] ∧ SameMem s t ∧
      ((s.handOf (s.xpPier k)).isSome = true ∨ s.pierSt (s.xpPier k) < 3 ∨ 7 < s.pierSt (s.xpPier k) → SameRegs s t [Reg.ARC_XP_STAT k]) ∧
      (∀ h, s.handOf (s.xpPier k) = some h → s.xpSt k = 3 → closed = false → h.step = 2 →
        t.xpSt k = 4 ∧ (t.handOf (s.xpPier k)).map HandOff.step = some 3) ∧
      (∀ h, s.handOf (s.xpPier k) = some h → s.xpSt k = 1 → closed = true → h.step = 5 →
        t.xpSt k = 2 ∧ (t.handOf (s.xpPier k)).map HandOff.step = some 6) ∧
      (s.handOf (s.xpPier k) = none → s.xpSt k = 1 → closed = true → t.xpSt k = 2) ∧
      (s.handOf (s.xpPier k) = none → s.xpSt k = 3 → closed = false → t.xpSt k = 0))) ∧
    (s.bit (Fld.ARC_XP_STAT_AUX k) ≠ (s.arcXp k).cmd →
      Completes (.auxContactTimeout k) s (fun t => t.xpSt k = 5 ∧ t.pierSt (s.xpPier k) = 10 ∧ t.handOf (s.xpPier k) = none ∧
        t.bit Fld.ARC_EVT_XP_FAULT = true ∧ SameMem s t ∧
        (s.parapetFree 0x0B 2 = true → Recorded t 0x0B 2 0xFF 0 (2 ^ (s.xpPier k - s.pBase))))) ∧
    (s.bit (Fld.ARC_XP_STAT_AUX k) = (s.arcXp k).cmd → exec (.auxContactTimeout k) s = .next s))

/-- For a pier, outlet or crosspoint of this module while the Arch runs: a contest detected whose test holds sets the
contest bit and EVT.CONTEST, a pier or an outlet becomes CONTESTED, and code 0x29 Class C is reported. A release of a
unit that is not SAFE, with the test failing, clears the bit and reports Class D. A contest that lasts CONTEST_MS
makes the unit SAFE, sets EVT.CONTEST_SAFE and is reported as Class B. Firmware's 1 in the bit of a SAFE pier whose
test fails clears the bit and the state; a 1 for a pier that is not SAFE, or whose test holds, does nothing, nor does
any write in the VEHICLE role. (R287, R288, R289, R290) -/
def Obligations.ContestsAct : Prop :=
  ∀ (s : State), s.shaped = true →
  (∀ (kind : Fin 3) (i : Fin 64), s.ownUnit kind i = true →
    (s.archOn = true → s.contestBit kind i = false → s.contestTest kind i = true →
      Completes (.contestDetect kind i) s (fun t => t.contestBit kind i = true ∧ t.bit Fld.ARC_EVT_CONTEST = true ∧ SameMem s t ∧
        (kind = 0 → t.pierSt i = 8) ∧ (kind = 1 → t.outSt i = 2) ∧ (s.parapetFree 0x29 3 = true → t.prp.irqC = true ∧
          ∃ o p, Recorded t 0x29 3 0xFF o p))) ∧
    (s.contestBit kind i = true → s.unitSafe kind i = false → s.contestTest kind i = false →
      Completes (.contestRelease kind i) s (fun t => t.contestBit kind i = false ∧ SameMem s t ∧
        (kind = 0 → t.pierSt i ≤ 2) ∧ (kind = 1 → t.outSt i = (if (s.out (i.val - s.oBase)).en then 1 else 0)) ∧
        (s.parapetFree 0x29 4 = true → t.prp.irqD = true ∧ ∃ o p, Recorded t 0x29 4 0xFF o p))) ∧
    (s.contestBit kind i = true → s.unitSafe kind i = false →
      Completes (.contestTimeout kind i) s (fun t => t.unitSafe kind i = true ∧ t.contestBit kind i = true ∧
        t.bit Fld.ARC_EVT_CONTEST_SAFE = true ∧ SameMem s t ∧
        (s.parapetFree 0x29 2 = true → ∃ o p, Recorded t 0x29 2 0xFF o p)))) ∧
  (∀ (m : Master) (i : Fin 24), s.takes m Reg.ARC_CONTP = true →
    (s.role ≠ 2 → s.localPier i = true → s.pierSt i = 9 → s.contestTest 0 i = false →
      Completes (.contestBitWrite m 0 (BitVec.ofNat 32 (2 ^ i.val))) s (fun t => t.contestBit 0 i = false ∧ t.pierSt i ≤ 1 ∧
        SameBlocks s t [0x4004, 0x4007] ∧ SameMem s t)) ∧
    ((s.role = 2 ∨ s.localPier i = false ∨ s.pierSt i ≠ 9 ∨ s.contestTest 0 i = true) →
      exec (.contestBitWrite m 0 (BitVec.ofNat 32 (2 ^ i.val))) s = .next s)) ∧
  (∀ (m : Master) (kind : Fin 4), s.takes m (if kind = 0 then Reg.ARC_CONTP else if kind = 1 then Reg.ARC_CONTO else Reg.ARC_CONTX (kind.val - 2)) = true →
    exec (.contestBitWrite m kind 0) s = .next s)

/-- With the unit enabled and not calibrating: a continuous round queues the first LEN entries as they stand; a trigger of
an enabled group makes it pending, one that is pending or passes entry 31 only counts an overrun; while the unit
calibrates, the other enabled unit covers the group. A trigger is the selected edge of the selected pin, the first
period event of a period, or a rising edge at the group's Truss port. The lowest pending group starts with its
entries, the unit's own before covered ones. A result of the entry in front is the corrected mean of its codes: VALUE,
SAT and NEW of its register and its port take it (a reserved input gives 0x8000), LOST notes an unread one, the slices
and the queue move on. In paired mode the units sample in turn. (R303, R304, R308, R310, R311, R312, R313, R315, R317, R321, R329, R330) -/
def Obligations.GirderConverts : Prop :=
  ∀ (s : State) (u : Fin 2), s.shaped = true → s.bit (Fld.GRD_U_CTRL_EN u) = true →
  (s.bit (Fld.GRD_U_CTRL_CONT_EN u) = true → s.calBusy u = false → s.paired = false → (s.gu u).cont = [] →
    Completes (.grdContinuousRound u) s (fun t =>
      (t.gu u).cont = (List.range (min 16 (s.get (Fld.GRD_U_SEQ_LEN u)))).map (fun e => { e := e, w := s.reg (Reg.GRD_U_ENT u e) }) ∧
      t.bit (Fld.GRD_U_STAT_CONT_BUSY u) = decide (s.get (Fld.GRD_U_SEQ_LEN u) ≠ 0) ∧ SameRegs s t [Reg.GRD_U_STAT u] ∧ SameMem s t)) ∧
  (∀ (g : Fin 4) (evt : GrdEvt) (r : State),
    ((∃ k rising, evt = .pin k rising ∧ s.listens u g 1 = true ∧ s.get (Fld.GRD_U_TRG_GSEL u g) = k.val ∧
        (s.get (Fld.GRD_U_TRG_EDGE u g)).testBit (if rising then 0 else 1) = true ∧ r = s) ∨
      (evt = .period ∧ s.listens u g 2 = true ∧ (s.gu u).fired.testBit g = false ∧
        r = s.modGu u (fun k => { k with fired := mset k.fired g true })) ∨
      (evt = .port ∧ s.listens u g 3 = true ∧ (s.gu u).seen.testBit g = false ∧
        (s.outPort (2176 + 4 * u.val + g.val)).testBit 0 = true ∧ r = s.modGu u (fun k => { k with seen := mset k.seen g true }))) →
    (s.groupEntries u g = none → exec (.grdTrigger u ⟨g, evt⟩) s = .next (r.tovr u g)) ∧
    ((s.groupEntries u g).isSome = true → s.calBusy u = false → (s.gu u).grp = none →
      ((s.gu u).pend.testBit g = true → exec (.grdTrigger u ⟨g, evt⟩) s = .next (r.tovr u g)) ∧
      ((s.gu u).pend.testBit g = false → Completes (.grdTrigger u ⟨g, evt⟩) s (fun t => (t.gu u).pend.testBit g = true ∧
        t.bit (Fld.GRD_U_STAT_INJ_BUSY u) = true ∧ SameRegs s t [Reg.GRD_U_STAT u] ∧ SameMem s t))) ∧
    ((s.groupEntries u g).isSome = true → s.calBusy u = true → s.bit (Fld.GRD_U_CTRL_EN (1 - u.val)) = true →
      (s.gu (1 - u.val)).grp = none → (s.gu (1 - u.val)).far.testBit g = false →
      Completes (.grdTrigger u ⟨g, evt⟩) s (fun t => (t.gu (1 - u.val)).far.testBit g = true ∧
        t.bit (Fld.GRD_U_STAT_COVERING (1 - u.val)) = true ∧ SameRegs s t [Reg.GRD_U_STAT (1 - u.val)] ∧ SameMem s t))) ∧
  ((s.gu u).grp = none → s.calBusy u = false →
    (∀ g : Nat, (mbits (s.gu u).pend 4).head? = some g →
      Completes (.grdGroupStart u) s (fun t => (t.gu u).grp = some ⟨u, g, (s.groupEntries u g).getD []⟩ ∧
        (t.gu u).pend.testBit g = false ∧ t.bit (Fld.GRD_U_STAT_INJ_BUSY u) = true ∧ SameRegs s t [Reg.GRD_U_STAT u] ∧ SameMem s t)) ∧
    (∀ g : Nat, (mbits (s.gu u).pend 4).head? = none → (mbits (s.gu u).far 4).head? = some g →
      Completes (.grdGroupStart u) s (fun t => (t.gu u).grp = some ⟨1 - u.val, g, (s.groupEntries (1 - u.val) g).getD []⟩ ∧
        (t.gu u).far.testBit g = false ∧ t.bit (Fld.GRD_U_STAT_COVERING u) = true ∧ SameRegs s t [Reg.GRD_U_STAT u] ∧ SameMem s t))) ∧
  (∀ (raw : List (BitVec 12)) (x : GEnt) (rest : List GEnt), s.paired = false → x.e < 32 → s.tooLate u x.e = false →
    (∀ grp, (s.gu u).grp = some grp → grp.owner = u.val → grp.left = x :: rest →
      (x.w % 64 < 32 → Completes (.grdConversionResult u true raw) s (fun t =>
        t.get (Fld.GRD_U_RES_VALUE u x.e) = ofS 16 (s.convert u x.w raw).1 ∧ t.bit (Fld.GRD_U_RES_SAT u x.e) = (s.convert u x.w raw).2 ∧
        t.bit (Fld.GRD_U_RES_NEW u x.e) = true ∧ t.bit (Fld.GRD_U_RES_COVER u x.e) = false ∧
        t.bit (Fld.GRD_U_RES_LOST u x.e) = (s.bit (Fld.GRD_U_RES_LOST u x.e) || s.bit (Fld.GRD_U_RES_NEW u x.e)) ∧
        t.port (2048 + 32 * u.val + x.e) = ofS 16 (s.convert u x.w raw).1 ∧
        (t.gu u).slice = ((s.gu u).slice + convCount x.w) % 4 ∧
        (t.gu u).grp = (if rest = [] then none else some { grp with left := rest }) ∧ SameBlocks s t [0x4008] ∧ SameMem s t)) ∧
      (56 ≤ x.w % 64 → Completes (.grdConversionResult u true raw) s (fun t =>
        t.get (Fld.GRD_U_RES_VALUE u x.e) = 0x8000 ∧ t.port (2048 + 32 * u.val + x.e) = 0x8000 ∧
        (t.gu u).grp = (if rest = [] then none else some { grp with left := rest }) ∧ SameBlocks s t [0x4008] ∧ SameMem s t))) ∧
    ((s.gu u).cont = x :: rest → x.w % 64 < 32 →
      Completes (.grdConversionResult u false raw) s (fun t =>
        t.get (Fld.GRD_U_RES_VALUE u x.e) = ofS 16 (s.convert u x.w raw).1 ∧ t.bit (Fld.GRD_U_RES_NEW u x.e) = true ∧
        t.port (2048 + 32 * u.val + x.e) = ofS 16 (s.convert u x.w raw).1 ∧ (t.gu u).cont = rest ∧ SameBlocks s t [0x4008] ∧ SameMem s t))) ∧
  (∀ (inj : Bool) (raw : List (BitVec 12)), s.paired = true →
    ((s.gu 0).pairNext = u.val → Completes (.grdConversionResult u inj raw) s (fun t => (t.gu 0).pairNext = 1 - u.val ∧
      (t.gu u).slice = ((s.gu u).slice + 1) % 4 ∧ t.regs = s.regs ∧ SameMem s t)) ∧
    ((s.gu 0).pairNext ≠ u.val → exec (.grdConversionResult u inj raw) s = .next s))

/-- Arming takes ENTRY, TRIG and PRE, and with TRIG 0x1F is itself the trigger; a finished capture clears ARM and sets
DONE and TRIGIDX. A calibration request is REFUSED while the other unit calibrates or waits, or in paired mode, and
else waits; it starts when the groups ahead are done, and ends with coefficients that fit stored, or with FAIL and
code 0x2C. The background correction moves the coefficients, their sums kept, only when enabled, not frozen, not
calibrating, converting, and 65,536 conversions after the last update. PAIR follows its written bit in both units when
the conditions of R309 hold. A stuck modulator stream sets FAULT and its port to 0x8000. (R306, R308, R309, R325, R327, R331, R346) -/
def Obligations.GirderCapturesAndCalibrates : Prop :=
  ∀ (s : State) (u : Fin 2), s.shaped = true →
  ((s.gu u).left = some 0 → s.bit (Fld.GRD_U_CAPCTL_ARM u) = true →
    Completes (.captureDone u) s (fun t => t.bit (Fld.GRD_U_CAPCTL_ARM u) = false ∧ t.bit (Fld.GRD_U_CAPCTL_DONE u) = true ∧
      t.get (Fld.GRD_U_CAPPTR_TRIGIDX u) = (s.gu u).trigAt % 8192 ∧ SameRegs s t [Reg.GRD_U_CAPCTL u, Reg.GRD_U_CAPPTR u] ∧ SameMem s t)) ∧
  ((s.gu u).left ≠ some 0 → exec (.captureDone u) s = .next s) ∧
  (∀ (m : Master) (v : Word), s.takes m (Reg.GRD_U_CAPCTL u) = true →
    Completes (.grdCaptureArm m u v) s (fun t => t.get (Fld.GRD_U_CAPCTL_ENTRY u) = v.toNat / 2 ^ 24 % 32 ∧
      t.get (Fld.GRD_U_CAPCTL_TRIG u) = v.toNat / 2 ^ 16 % 32 ∧ t.get (Fld.GRD_U_CAPCTL_PRE u) = v.toNat % 8192 ∧
      t.bit (Fld.GRD_U_CAPCTL_ARM u) = (s.bit (Fld.GRD_U_CAPCTL_ARM u) || v.toNat.testBit 31) ∧
      t.bit (Fld.GRD_U_CAPCTL_DONE u) = (s.bit (Fld.GRD_U_CAPCTL_DONE u) && !v.toNat.testBit 30) ∧
      (v.toNat.testBit 31 = true → (t.gu u).left = if v.toNat / 2 ^ 16 % 32 = 31 then some (t.afterTrig u) else none) ∧
      SameRegs s t [Reg.GRD_U_CAPCTL u] ∧ SameMem s t)) ∧
  (∀ (m : Master) (v : Word), s.takes m (Reg.GRD_U_CAL u) = true → v.toNat.testBit 0 = true → s.bit (Fld.GRD_U_CAL_GO u) = false →
    Completes (.grdCalGo m u v) s (fun t => SameRegs s t [Reg.GRD_U_CAL u] ∧ SameMem s t ∧
      (if s.calBusy (1 - u.val) || (s.gu (1 - u.val)).calWait || s.paired then
        t.bit (Fld.GRD_U_CAL_REFUSED u) = true ∧ (t.gu u).calWait = (s.gu u).calWait
       else t.bit (Fld.GRD_U_CAL_GO u) = true ∧ (t.gu u).calWait = true))) ∧
  ((s.gu u).calWait = true → (s.gu u).pend = 0 → (s.gu u).grp = none →
    Completes (.grdCalStart u) s (fun t => t.calBusy u = true ∧ (t.gu u).cont = [] ∧ (t.gu u).calWait = false ∧
      SameRegs s t [Reg.GRD_U_STAT u] ∧ SameMem s t)) ∧
  (∀ cor : List (Int × Int), s.calBusy u = true → cor.length = 4 →
    Completes (.grdCalDone u cor) s (fun t => t.bit (Fld.GRD_U_CAL_DONE u) = true ∧ t.bit (Fld.GRD_U_CAL_GO u) = false ∧ t.calBusy u = false ∧
      SameMem s t ∧ (cor.all corFits = true → SameBlocks s t [0x4008] ∧ ∀ i : Fin 4,
        t.getS (Fld.GRD_U_COR_OFF u i) = (nth (0, 0) cor i).1 ∧ t.getS (Fld.GRD_U_COR_GAIN u i) = (nth (0, 0) cor i).2) ∧
      (cor.all corFits = false → t.bit (Fld.GRD_U_CAL_FAIL u) = true ∧
        (∀ i : Fin 4, t.reg (Reg.GRD_U_COR u i) = s.reg (Reg.GRD_U_COR u i)) ∧
        (s.parapetFree 0x2C 3 = true → Recorded t 0x2C 3 u 0 0)))) ∧
  (∀ cor : List (Int × Int × Int), cor.length = 3 →
    (s.mayUpdate u = false → exec (.grdBgcUpdate u cor) s = .next s) ∧
    (∀ offs gains skews : List Int, offs = keepSum (s.slices (Fld.GRD_U_COR_OFF u)) (cor.map (·.1)) →
      gains = keepSum (s.slices (Fld.GRD_U_COR_GAIN u)) (cor.map (·.2.1)) →
      skews = keepSum (s.slices (Fld.GRD_U_COR_SKEW u)) (cor.map (·.2.2)) →
      (∀ x ∈ offs ++ skews, -128 ≤ x ∧ x ≤ 127) → (∀ x ∈ gains, -32768 ≤ x ∧ x ≤ 32767) →
      s.bit (Fld.GRD_U_CTRL_BGC_EN u) = true → s.bit (Fld.GRD_U_CTRL_BGC_FREEZE u) = false → s.calBusy u = false →
      s.converts u = true → 65536 ≤ (s.gu u).convs →
      Completes (.grdBgcUpdate u cor) s (fun t => SameMem s t ∧ (t.gu u).convs = 0 ∧
        SameRegs s t (Reg.GRD_U_STAT u :: (List.range 4).map (Reg.GRD_U_COR u)) ∧
        ∀ i : Fin 4, t.getS (Fld.GRD_U_COR_OFF u i) = nth 0 offs i ∧
          t.getS (Fld.GRD_U_COR_GAIN u i) = nth 0 gains i ∧ t.getS (Fld.GRD_U_COR_SKEW u i) = nth 0 skews i))) ∧
  (∀ (m : Master) (v : Word), s.takes m (Reg.GRD_U_CTRL u) = true →
    Completes (.grdPairWrite m u v) s (fun t => t.bit (Fld.GRD_U_CTRL_EN u) = v.toNat.testBit 0 ∧
      t.bit (Fld.GRD_U_CTRL_CONT_EN u) = v.toNat.testBit 1 ∧ t.paired = (v.toNat.testBit 4 && (s.paired || s.mayPair)) ∧
      SameBlocks s t [0x4008] ∧ SameMem s t)) ∧
  (∀ j : Fin 8,
    (s.bit (Fld.GRD_MOD_CFG_EN j) = true → Completes (.modulatorStreamStuck j) s (fun t => t.bit (Fld.GRD_MOD_RES_FAULT j) = true ∧
      t.port (2112 + j.val) = 0x8000 ∧ SameRegs s t [Reg.GRD_MOD_RES j] ∧ SameMem s t)) ∧
    (s.bit (Fld.GRD_MOD_CFG_EN j) = false → exec (.modulatorStreamStuck j) s = .next s))

/-- With the Toll core running, a result of a used channel raises COUNT and takes the bits of its stream into its filter
and shows the code where the channel is ready, neither stuck nor discarded nor over range, else 0x8000_0000; a residue
mismatch that recomputing does not remove stops accumulation. The window of an AC point restarts its sums and
registers no energy while nothing counts. The 100 ms interval shows the means, 0x8000_0000 where no result came. A
cross-check without feedback suspends the check. An estimate not refreshed is replaced by THETA_MAX with TSUB. Stopped
or unused, each does nothing. (R336, R340, R341, R344, R349, R362, R364, R367, R376, R377) -/
def Obligations.MeteringResultsAct : Prop :=
  ∀ s : State, s.shaped = true →
  (∀ (c : Fin 40) (rise fall : List Bool) (mismatch again : Bool) (k : Caisson), k = s.filtered c (rise.zip fall) →
    (s.chUsed c = false ∨ s.tol.run = false → exec (.caissonResult c rise fall mismatch again) s = .next s) ∧
    (s.chUsed c = true → s.tol.run = true → Completes (.caissonResult c rise fall mismatch again) s (fun t => SameMem s t ∧
      nth {} t.tol.csn c = k ∧
      t.get (Fld.CSN_CH_STAT_COUNT c) = (s.get (Fld.CSN_CH_STAT_COUNT c) + 1) % 2 ^ (Fld.CSN_CH_STAT_COUNT c).w ∧
      t.bit (Fld.CSN_CH_STAT_STUCK c) = (k.same == 128) ∧ t.bit (Fld.CSN_CH_STAT_OVR c) = k.over ∧ t.bit (Fld.CSN_CH_STAT_DISC c) = s.prp.clkBad ∧
      t.get (Fld.CSN_CH_RES_VALUE c) = (if k.same != 128 && !k.over && !s.prp.clkBad && s.tol.ready.testBit c
        then ofS 32 (k.code (s.osr c)) else 0x80000000) ∧
      (mismatch = true → again = true → t.tol.stopped = true) ∧
      (s.dcOf c = [] → s.acOf c = [] → mismatch = false → SameRegs s t [Reg.CSN_CH_STAT c, Reg.CSN_CH_RES c]))) ∧
    (s.chUsed c = true → Completes (.caissonValidStart c) s (fun t => t.tol.ready.testBit c = true ∧ t.regs = s.regs ∧ SameMem s t))) ∧
  (∀ g : Fin 4,
    (s.acOn g = false ∨ s.tol.run = false → ∀ r : Fin 3, exec (.acWindowEnd g r) s = .next s) ∧
    (s.acOn g = true → s.tol.run = true → Completes (.acWindowEnd g 0) s (fun t =>
      (t.acPt g).buf = List.replicate 6 [] ∧ (t.acPt g).perN = 0 ∧ (t.acPt g).gapN = 0 ∧ (t.acPt g).ovrIv = false ∧
      t.bit (Fld.CSN_AC_STAT_OVR g) = (s.acPt g).ovrIv ∧ (s.noCount = true → (t.acPt g).e = (s.acPt g).e) ∧
      SameBlocks s t [0x4009] ∧ SameMem s t))) ∧
  (s.tol.run = false → exec .measIntervalEnd s = .next s ∧ exec .crossCheckWindow s = .next s) ∧
  (s.tol.run = true → Completes .measIntervalEnd s (fun t => SameBlocks s t [0x4009] ∧ SameMem s t ∧
    ∀ p : Fin 8, s.dcOn p = true → (t.dcPt p).mN = 0 ∧ t.bit (Fld.CSN_DC_STAT_OVR p) = (s.dcPt p).ovrIv ∧
      (∀ k : Fin 4, t.get (Fld.CSN_DC_MEAS_VALUE p k) = if (s.dcPt p).mN = 0 then 0x80000000 else
        ofS 32 (codeFree (nth 0 (s.dcPt p).mSum k / (((s.dcPt p).mN : Nat) : Rat)) (if k.val < 2 then 16 else 0) (-(2 ^ 31 : Int)) (2 ^ 31 - 1))))) ∧
  (s.tol.run = true → Completes .crossCheckWindow s (fun t => SameMem s t ∧
    ∀ p : Fin 8, s.dcOn p = true → (s.role1 p).isSome = true → s.periodUs ≠ 0 → (s.dcPt p).fb = [] →
      t.bit (Fld.CSN_DC_STAT_XSUSP p) = true ∧ (t.dcPt p).xHi = (s.dcPt p).xHi ∧ (t.dcPt p).xLo = (s.dcPt p).xLo)) ∧
  (∀ p : Fin 8,
    (s.dcOn p = false → exec (.tempEstimateTimeout p) s = .next s) ∧
    (s.dcOn p = true → Completes (.tempEstimateTimeout p) s (fun t => SameBlocks s t [0x4009, 0x400A] ∧ SameMem s t ∧
      t.thetaUsed p = (s.getS (Fld.CSN_DC_THETA_THETA_MAX p) : Rat) / 256 ∧
      t.bit (Fld.CSN_DC_STAT_TSUB p) = s.bit (Fld.CSN_DC_CFG_COMP p) ∧
      (s.bit (Fld.CSN_DC_CFG_COMP p) = true → s.bit (Fld.CSN_DC_STAT_TSUB p) = false → t.bit Fld.TOL_MEVT_TSUB = true))))

/-- A write of TOL_MSNAP sets GO on its bit and clears DONE on its. The copy takes the view and wrap counter of every
energy of every point, raises SEQ, sets DONE and ends GO; without GO it does nothing. A write of TOL_MCAL takes MODE
and LEN and, unless BUSY, starts a window. The window's start opens the sums; its end shows the mean, or in rms mode
the rms after OFFSET, of every legal channel that had results, sets DONE and clears BUSY. (R382, R383, R388, R389) -/
def Obligations.SnapshotsAndCalibrationWindowsAct : Prop :=
  ∀ s : State,
  (∀ (m : Master) (v : Word), s.takes m Reg.TOL_MSNAP = true →
    Completes (.meterSnapshotGo m v) s (fun t => t.bit Fld.TOL_MSNAP_GO = (s.bit Fld.TOL_MSNAP_GO || v.toNat.testBit 0) ∧
      t.bit Fld.TOL_MSNAP_DONE = (s.bit Fld.TOL_MSNAP_DONE && !v.toNat.testBit 1) ∧
      t.get Fld.TOL_MSNAP_SEQ = s.get Fld.TOL_MSNAP_SEQ ∧ SameRegs s t [Reg.TOL_MSNAP] ∧ SameMem s t)) ∧
  (s.bit Fld.TOL_MSNAP_GO = false → exec .snapshotCopy s = .next s) ∧
  (s.bit Fld.TOL_MSNAP_GO = true → Completes .snapshotCopy s (fun t =>
    (∀ p : Fin 8, t.get (Fld.CSN_DC_SVIEW_WH p 0) = viewOf (s.dcPt p).imp ∧ t.get (Fld.CSN_DC_SVIEW_WH p 1) = viewOf (s.dcPt p).exp ∧
      t.get (Fld.CSN_DC_SWRAP_IMP p) = wrapOf (s.dcPt p).imp ∧ t.get (Fld.CSN_DC_SWRAP_EXP p) = wrapOf (s.dcPt p).exp) ∧
    (∀ (g : Fin 4) (x : Fin 16), t.get (Fld.CSN_AC_SVIEW_WH g x) = viewOf (nth 0 (s.acPt g).e x)) ∧
    (∀ (g : Fin 4) (y : Fin 8), t.get (Fld.CSN_AC_SWRAP_EVEN g y) = wrapOf (nth 0 (s.acPt g).e (2 * y)) ∧
      t.get (Fld.CSN_AC_SWRAP_ODD g y) = wrapOf (nth 0 (s.acPt g).e (2 * y + 1))) ∧
    t.get Fld.TOL_MSNAP_SEQ = (s.get Fld.TOL_MSNAP_SEQ + 1) % 2 ^ Fld.TOL_MSNAP_SEQ.w ∧ t.bit Fld.TOL_MSNAP_DONE = true ∧
    t.bit Fld.TOL_MSNAP_GO = false ∧ SameBlocks s t [0x4009, 0x400A] ∧ SameMem s t)) ∧
  (∀ (m : Master) (v : Word), s.takes m Reg.TOL_MCAL = true →
    Completes (.mcalGo m v) s (fun t => t.bit Fld.TOL_MCAL_MODE = v.toNat.testBit 28 ∧
      t.get Fld.TOL_MCAL_LEN = v.toNat % 2 ^ Fld.TOL_MCAL_LEN.w ∧
      t.bit Fld.TOL_MCAL_GO = (s.bit Fld.TOL_MCAL_GO || (v.toNat.testBit 31 && !s.bit Fld.TOL_MCAL_BUSY)) ∧
      t.bit Fld.TOL_MCAL_BUSY = (s.bit Fld.TOL_MCAL_BUSY || v.toNat.testBit 31) ∧
      t.bit Fld.TOL_MCAL_DONE = (s.bit Fld.TOL_MCAL_DONE && !v.toNat.testBit 29) ∧ SameRegs s t [Reg.TOL_MCAL] ∧ SameMem s t)) ∧
  (s.bit Fld.TOL_MCAL_GO = false → exec .mcalWindowStart s = .next s) ∧
  (s.bit Fld.TOL_MCAL_GO = true → Completes .mcalWindowStart s (fun t => t.bit Fld.TOL_MCAL_GO = false ∧ t.tol.cal = some { rms := s.bit Fld.TOL_MCAL_MODE } ∧
    SameRegs s t [Reg.TOL_MCAL] ∧ SameMem s t)) ∧
  (s.tol.cal = none → exec .mcalWindowEnd s = .next s) ∧
  (∀ w, s.tol.cal = some w → Completes .mcalWindowEnd s (fun t => t.bit Fld.TOL_MCAL_BUSY = false ∧ t.bit Fld.TOL_MCAL_DONE = true ∧
    t.tol.cal = none ∧ SameBlocks s t [0x4009, 0x400A] ∧ SameMem s t ∧
    ∀ c : Fin 40, s.bit (Fld.CSN_CH_CFG_LEGAL c) = true → nth 0 w.n c ≠ 0 →
      t.get (Fld.CSN_CH_CAL_VALUE c) = ofS 32 (codeFree (if w.rms then Config.sqrt (nth 0 w.sq c / ((nth 0 w.n c : Nat) : Rat))
        else nth 0 w.sum c / ((nth 0 w.n c : Nat) : Rat)) 31 (-(2 ^ 31 : Int)) (2 ^ 31 - 1))))

/-- A write of TSETC without GO takes MODE and ACC only. GO during a slew is refused with RESULT 3. Outside INVALID,
within 90 s with the adjustments of the day, it adjusts: RESULT 1 and a slew of the difference; beyond that it sets
billing time, RESULT 2, unless MODE asks for an adjustment, RESULT 3. A finished slew ends SLEW with its event. A
crossed threshold moves STATE to the true state. A boundary processes every boundary due and closes the demand
intervals that end; below HWM, or in the VEHICLE role, none. Passing HWM ends BELOW_HWM. All other registers and
memory stay. (R398, R399, R401, R402, R403, R404, R426, R432) -/
def Obligations.BillingTimeActs : Prop :=
  ∀ s : State, s.shaped = true →
  (∀ (m : Master) (v : Word), s.takes m Reg.TOL_TSETC = true →
    (v.toNat.testBit 31 = false → Completes (.timeCorrectionGo m v) s (fun t => t.bit Fld.TOL_TSETC_MODE = v.toNat.testBit 27 ∧
      t.get Fld.TOL_TSETC_ACC = v.toNat % 2 ^ 24 ∧ t.tol = s.tol ∧ SameRegs s t [Reg.TOL_TSETC] ∧ SameMem s t)) ∧
    (v.toNat.testBit 31 = true → (s.bit Fld.TOL_TSTAT_SLEW = true ∨ s.bit Fld.TOL_TSETC_BUSY = true) →
      Completes (.timeCorrectionGo m v) s (fun t => t.get Fld.TOL_TSETC_RESULT = 3 ∧ t.tol = s.tol ∧ SameRegs s t [Reg.TOL_TSETC] ∧ SameMem s t)) ∧
    (v.toNat.testBit 31 = true → s.bit Fld.TOL_TSTAT_SLEW = false → s.bit Fld.TOL_TSETC_BUSY = false →
      ∀ x : Nat, s.get Fld.TOL_TSETLO_SEC + 2 ^ 32 * s.get Fld.TOL_TSETHI_SEC = x →
      (s.tState ≠ 0 → absR ((x : Rat) - s.tol.bill) + s.adjSum ≤ 90 →
        Completes (.timeCorrectionGo m v) s (fun t => t.get Fld.TOL_TSETC_RESULT = 1 ∧ t.bit Fld.TOL_TSTAT_SLEW = true ∧
          t.tol.slew = (x : Rat) - s.tol.bill ∧ t.tol.bill = s.tol.bill ∧ SameBlocks s t [0x400A] ∧ SameMem s t)) ∧
      ((s.tState = 0 ∨ 90 < absR ((x : Rat) - s.tol.bill) + s.adjSum) →
        (v.toNat.testBit 27 = true → Completes (.timeCorrectionGo m v) s (fun t => t.get Fld.TOL_TSETC_RESULT = 3 ∧ t.tol = s.tol ∧
          SameRegs s t [Reg.TOL_TSETC] ∧ SameMem s t)) ∧
        (v.toNat.testBit 27 = false → Completes (.timeCorrectionGo m v) s (fun t => t.get Fld.TOL_TSETC_RESULT = 2 ∧
          t.tol.bill = (x : Rat) ∧ t.bit Fld.TOL_TEVT_SET = true ∧ SameBlocks s t [0x400A] ∧ SameMem s t))))) ∧
  (s.bit Fld.TOL_TSTAT_SLEW = true → s.tol.slew = 0 → Completes .slewComplete s (fun t => t.bit Fld.TOL_TSTAT_SLEW = false ∧
    t.bit Fld.TOL_TEVT_ADJUST = true ∧ SameRegs s t [Reg.TOL_TSTAT, Reg.TOL_TEVT] ∧ SameMem s t)) ∧
  ((s.bit Fld.TOL_TSTAT_SLEW = false ∨ s.tol.slew ≠ 0) → exec .slewComplete s = .next s) ∧
  (s.tol.run = true → Completes .billingStateChange s (fun t => t.tState = s.trueState ∧
    (s.tState ≠ s.trueState → t.bit Fld.TOL_TEVT_STATE = true) ∧ SameBlocks s t [0x400A] ∧ SameMem s t)) ∧
  ((s.vehicle = true ∨ s.tol.run = false ∨ s.tol.belowHwm = true) → exec .boundary s = .next s) ∧
  (s.vehicle = false → s.tol.run = true → s.tol.belowHwm = false → Completes .boundary s (fun t =>
    (∀ x ∈ s.boundaries s.tol.lastBoundary (s.billSec / 60 * 60), x ≤ t.tol.lastBoundary) ∧
    (∀ g : Fin 4, s.demOn g = true → s.tol.lastBoundary < (s.acPt g).dEnd → (s.acPt g).dEnd ≤ s.billSec / 60 * 60 →
      t.bit Fld.TOL_TEVT_DEMAND = true) ∧ t.tol.bill = s.tol.bill ∧ SameBlocks s t [0x400A] ∧ SameMem s t)) ∧
  (s.tol.belowHwm = true → s.tol.hwm < s.tol.bill → Completes .hwmPassed s (fun t => t.tol.belowHwm = false ∧
    t.bit Fld.TOL_TSTAT_BELOW_HWM = false ∧ SameBlocks s t [0x400A] ∧ SameMem s t))

/-- Outside the VEHICLE role: CALCTL with its key starts a load or cancels the pending calendar; with a wrong key it is a
counted violation. The check takes a calendar that breaks nothing and refuses any other with its reason. START on an
enabled idle point with a Toll Book opens a session under the next number with the point's registers, else it is
REFUSED; STOP marks an open session closing, and the next result instant closes it; a record request, a due timer and,
without reconciliation, a close each form one record of their type under the next number for Pylon to sign. (R409, R411, R412, R423, R425, R464, R465) -/
def Obligations.CalendarsAndSessionsAct : Prop :=
  ∀ s : State, s.vehicle = false →
  (∀ (m : Master) (v : Word), s.takes m Reg.TOL_CALCTL = true → v.toNat / 4 % 4 = 0 →
    (v.toNat % 4 ≠ 0 → v.toNat / 65536 ≠ 0x7A2C → exec (.calendarLoad m v) s = .next (s.violate m Reg.TOL_CALCTL) ∧
      exec (.calendarCancel m v) s = .next (s.violate m Reg.TOL_CALCTL)) ∧
    (v.toNat % 4 = 1 → v.toNat / 65536 = 0x7A2C → exec (.calendarLoad m v) s = .next (s.putB Fld.TOL_CALCTL_BUSY true)) ∧
    (v.toNat % 4 = 2 → v.toNat / 65536 = 0x7A2C → Completes (.calendarCancel m v) s (fun t => t.tol.book.calP = [] ∧
      t.tol.book.calA = s.tol.book.calA ∧ (s.tol.book.calP ≠ [] → t.tol.book.rollSeq = s.tol.book.rollSeq + 1) ∧
      SameBlocks s t [0x400A] ∧ SameMem s t))) ∧
  (s.bit Fld.TOL_CALCTL_BUSY = false → exec .calendarCheckDone s = .next s) ∧
  (s.bit Fld.TOL_CALCTL_BUSY = true → ∀ r, calReason s.calBuf true (if s.tState = 0 then ceilNat s.tol.hwm else ceilNat (max s.tol.bill s.tol.hwm)) = r →
    Completes .calendarCheckDone s (fun t => t.bit Fld.TOL_CALCTL_BUSY = false ∧ t.get Fld.TOL_CALCTL_REASON = r ∧
      t.bit Fld.TOL_TEVT_CAL_LOAD = true ∧ SameBlocks s t [0x400A] ∧ SameMem s t ∧
      (r = 0 → t.tol.book.calP = s.calBuf ∧ t.bit Fld.TOL_CALCTL_DONE = true) ∧
      (r ≠ 0 → t.tol.book = s.tol.book ∧ t.bit Fld.TOL_CALCTL_REFUSED = true))) ∧
  (∀ p : Fin 8, p.val < s.tol.book.sess.length →
    (∀ (m : Master) (v : Word), s.takes m (Reg.TOL_SESS_CTRL p) = true →
      (v = 1 → (s.dcOn p = false ∨ s.get (Fld.TOL_SESS_CTRL_STATE p) ≠ 0 ∨ s.tol.book.hdr = none) →
        Completes (.sessionStart m p v) s (fun t => t.bit (Fld.TOL_SESS_CTRL_REFUSED p) = true ∧ t.sess p = s.sess p ∧
          SameRegs s t [Reg.TOL_SESS_CTRL p, Reg.TOL_TEVT] ∧ SameMem s t)) ∧
      (v = 1 → s.dcOn p = true → s.get (Fld.TOL_SESS_CTRL_STATE p) = 0 → ∀ h, s.tol.book.hdr = some h →
        Completes (.sessionStart m p v) s (fun t => t.get (Fld.TOL_SESS_CTRL_STATE p) = 1 ∧ (t.sess p).id = (h.sessSeq + 1) % 2 ^ 32 ∧
          sessOpen (t.sess p) = true ∧ (t.sess p).startImp = mwh (s.dcPt p).imp ∧ (t.sess p).startExp = mwh (s.dcPt p).exp ∧
          (t.sess p).startT = s.billSec ∧ t.bookHdr.sessSeq = (h.sessSeq + 1) % 2 ^ 32 ∧ SameBlocks s t [0x400A] ∧ SameMem s t)) ∧
      (v = 2 → sessOpen (s.sess p) = true → Completes (.sessionStop m p v) s (fun t => t.bit (Fld.TOL_SESS_CTRL_STOP p) = true ∧
        t.get (Fld.TOL_SESS_CTRL_STATE p) = 2 ∧ t.sess p = s.sess p ∧ SameRegs s t [Reg.TOL_SESS_CTRL p] ∧ SameMem s t)) ∧
      (v = 2 → sessOpen (s.sess p) = false → exec (.sessionStop m p v) s = .next s) ∧
      (v = 4 → sessOpen (s.sess p) = true → s.reconLink p = none → Completes (.sessionRecordRequest m p v) s (fun t =>
        t.bit (Fld.TOL_SESS_CTRL_RECORD p) = false ∧ (t.sess p).emitted = (s.sess p).emitted + 1 ∧ SameMem s t ∧
        ∃ r, t.tol.toSign = s.tol.toSign ++ [r] ∧ r.typ = 2 ∧ r.point = p.val ∧ r.seq = (s.bookHdr.recSeq + 1) % 2 ^ 32))) ∧
    (s.bit (Fld.TOL_SESS_CTRL_STOP p) = true → sessOpen (s.sess p) = true → s.reconLink p = none →
      Completes (.sessionClose p) s (fun t => t.get (Fld.TOL_SESS_CTRL_STATE p) = 2 ∧ t.bit (Fld.TOL_SESS_CTRL_STOP p) = false ∧
        sessOpen (t.sess p) = false ∧ (t.sess p).endT = s.billSec ∧ SameMem s t ∧
        ∃ r, t.tol.toSign = s.tol.toSign ++ [r] ∧ r.typ = 1 ∧ r.point = p.val ∧ r.seq = (s.bookHdr.recSeq + 1) % 2 ^ 32)) ∧
    ((s.bit (Fld.TOL_SESS_CTRL_STOP p) = false ∨ sessOpen (s.sess p) = false) → exec (.sessionClose p) s = .next s) ∧
    (s.tol.run = true → s.recS ≠ 0 → sessOpen (s.sess p) = true → s.reconLink p = none →
      Completes (.intermediateRecordTimer p) s (fun t => (t.sess p).lastRec = s.billSec ∧ SameMem s t ∧
        ∃ r, t.tol.toSign = s.tol.toSign ++ [r] ∧ r.typ = 2 ∧ r.point = p.val)) ∧
    ((s.recS = 0 ∨ sessOpen (s.sess p) = false) → exec (.intermediateRecordTimer p) s = .next s))

/-- Pylon's signature moves the oldest record from the waiting to the signed ones; the oldest signed record enters a
buffer of four, an intermediate one is skipped when it is full, and an acknowledgement frees the front; the
acknowledged end record of a closing session makes its point idle. A periodic save is begun when SAVE_S has passed and
a requested one when a quarter has; a complete save heads the ring. ARCCTL with its key asks for an archive, with a
wrong one it is a counted violation; the check empties the unerasable class under the next archive number, or refuses
with its reason. (R421, R444, R447, R461, R462, R465, R466, R467) -/
def Obligations.RecordsSavesAndArchivesAct : Prop :=
  ∀ s : State,
  (∀ r rest, s.tol.toSign = r :: rest → s.pyl.serving = some 1 →
    Completes .recordSigned s (fun t => t.tol.toSign = rest ∧ (∃ sig, t.tol.signed = s.tol.signed ++ [{ r with sig := sig }]) ∧
      t.pyl.serving = none ∧ t.regs = s.regs ∧ SameMem s t)) ∧
  (s.pyl.serving ≠ some 1 → exec .recordSigned s = .next s) ∧
  (s.tol.signed = [] → exec .recordBufferEntry s = .next s) ∧
  (∀ r rest, s.tol.signed = r :: rest →
    (s.tol.buf.length < 4 → Completes .recordBufferEntry s (fun t => t.tol.signed = rest ∧ t.tol.buf = s.tol.buf ++ [r] ∧
      t.get Fld.TOL_RECSTAT_FILL = s.tol.buf.length + 1 ∧ SameRegs s t [Reg.TOL_RECSTAT, Reg.TOL_RECSEQ] ∧ SameMem s t)) ∧
    (4 ≤ s.tol.buf.length → r.typ = 2 → Completes .recordBufferEntry s (fun t => t.tol.signed = rest ∧ t.tol.buf = s.tol.buf ∧
      t.get Fld.TOL_RECSTAT_SKIPPED = min 255 (s.get Fld.TOL_RECSTAT_SKIPPED + 1) ∧ SameRegs s t [Reg.TOL_RECSTAT] ∧ SameMem s t)) ∧
    (4 ≤ s.tol.buf.length → r.typ ≠ 2 → exec .recordBufferEntry s = .next s)) ∧
  (∀ (m : Master) (v : Word), s.takes m Reg.TOL_RECCTL = true → v.toNat.testBit 0 = true →
    (s.tol.buf = [] → exec (.recordAck m v) s = .next s) ∧
    (∀ r rest, s.tol.buf = r :: rest → Completes (.recordAck m v) s (fun t => t.tol.buf = rest ∧ SameMem s t ∧ (r.point < 8 → SameBlocks s t [0x400A]) ∧
      t.get Fld.TOL_RECSTAT_FILL = rest.length % 8 ∧
      (r.point < 8 → r.typ = 1 → (s.sess r.point).endSeq = r.seq → sessClosing (s.sess r.point) = true →
        t.get (Fld.TOL_SESS_CTRL_STATE r.point) = 0)))) ∧
  (s.tol.run = true → ((s.get Fld.TOL_BOOK_SAVE_S : Nat) : Rat) ≤ s.tol.bill - s.tol.lastSave → s.tol.saving = none → s.noSave = false →
    Completes .periodicSave s (fun t => t.tol.saving = some (s.snapSave 1 0) ∧ t.bit Fld.TOL_SAVE_BUSY = true ∧
      SameRegs s t [Reg.TOL_SAVE] ∧ SameMem s t)) ∧
  (s.tol.bill - s.tol.lastSave < ((s.get Fld.TOL_BOOK_SAVE_S : Nat) : Rat) → exec .periodicSave s = .next s) ∧
  (∀ (m : Master) (v : Word), s.takes m Reg.TOL_SAVE = true → v.toNat.testBit 31 = true → s.noSave = false →
    (s.tol.book.ring ≠ [] → s.tol.bill - s.tol.lastSave ≤ ((s.get Fld.TOL_BOOK_SAVE_S : Nat) : Rat) / 4 → exec (.saveRequest m v) s = .next s) ∧
    (((s.get Fld.TOL_BOOK_SAVE_S : Nat) : Rat) / 4 < s.tol.bill - s.tol.lastSave → Completes (.saveRequest m v) s (fun t =>
      t.bit Fld.TOL_SAVE_GO = true ∧ (s.tol.saving = none → t.bit Fld.TOL_SAVE_BUSY = true ∧ t.tol.saving.map SaveRec.kind = some 3) ∧
      (s.tol.saving.isSome = true → t.tol.saveDue = s.tol.saveDue ++ [(3, 0)]) ∧ SameRegs s t [Reg.TOL_SAVE] ∧ SameMem s t))) ∧
  (s.tol.saving = none → exec .saveComplete s = .next s) ∧
  (∀ r, s.tol.saving = some r → s.tol.saveDue = [] → s.get Fld.TOL_BOOK_SLOTS ≠ 0 → Completes .saveComplete s (fun t =>
    t.tol.saving = none ∧ t.bit Fld.TOL_SAVE_BUSY = false ∧ t.tol.lastSave = s.tol.bill ∧ SameBlocks s t [0x400A] ∧ SameMem s t ∧
    t.tol.book.ring.head? = some { r with seq := (s.tol.book.ring.head?.map SaveRec.seq).getD 0 + 1 } ∧
    (r.kind = 3 → t.bit Fld.TOL_SAVE_GO = false))) ∧
  (∀ (m : Master) (v : Word), s.takes m Reg.TOL_ARCCTL = true → v.toNat / 4 % 4 = 0 → v.toNat.testBit 0 = true →
    (v.toNat / 65536 ≠ 0x5E1D → exec (.archiveGo m v) s = .next (s.violate m Reg.TOL_ARCCTL)) ∧
    (v.toNat / 65536 = 0x5E1D → exec (.archiveGo m v) s = .next (s.putB Fld.TOL_ARCCTL_BUSY true))) ∧
  (s.bit Fld.TOL_ARCCTL_BUSY = false → exec .archiveCheckDone s = .next s) ∧
  (s.bit Fld.TOL_ARCCTL_BUSY = true → Completes .archiveCheckDone s (fun t => t.bit Fld.TOL_ARCCTL_BUSY = false ∧
    SameBlocks s t [0x400A] ∧ SameMem s t ∧
    (s.verifierOk (sha3 512 (s.authBytes 0 0x40)) (s.authBytes 0x40 64) (s.authBytes 0x80 3309) = false →
      t.get Fld.TOL_ARCCTL_REASON = 1 ∧ t.bit Fld.TOL_ARCCTL_FAIL = true ∧ t.tol.book = s.tol.book) ∧
    (t.get Fld.TOL_ARCCTL_REASON = 0 → t.tol.book.uner.length = 1 ∧ t.bit Fld.TOL_ARCCTL_DONE = true)))

/-- To a head in use: SHOW puts the frame of its item on the display bus and its item in DPHEAD, POLL the poll frame. A
STATUS frame with address, length and CRC right updates presses and status, makes the head present and, lost before,
notes its return; any other is dropped. The third missing answer in a row makes the head lost, with its log entry and
event. The dwell steps the sequence by one item and ends a press. A head not in use is left. (R469, R470, R471, R474, R475) -/
def Obligations.DisplayHeadsAct : Prop :=
  ∀ (s : State) (n : Fin 8), s.shaped = true →
  (s.headOn n = false → exec (.displayShow n) s = .next s ∧ exec (.displayPoll n) s = .next s ∧
    exec (.headStatusTimeout n) s = .next s ∧ exec (.displayDwellExpiry n) s = .next s) ∧
  (s.headOn n = true →
    Completes (.displayShow n) s (fun t => t.tol.dpTx = dpFrame n 1 (s.showPayload n (s.itemOf n)) ∧
      t.get (Fld.TOL_DPHEAD_ITEM n) = s.itemOf n % 2 ^ (Fld.TOL_DPHEAD_ITEM n).w ∧ SameRegs s t [Reg.TOL_DPHEAD n] ∧ SameMem s t) ∧
    Completes (.displayPoll n) s (fun t => t.tol.dpTx = dpFrame n 2 [] ∧ t.regs = s.regs ∧ SameMem s t) ∧
    Completes (.headStatusTimeout n) s (fun t => SameBlocks s t [0x400A] ∧ SameMem s t ∧
      ((s.head n).lost = false → (s.head n).miss = 0 → (t.head n).miss = 1 ∧ (t.head n).lost = false ∧ t.regs = s.regs) ∧
      ((s.head n).lost = false → (s.head n).miss = 2 → (t.head n).lost = true ∧ (t.get Fld.TOL_DPSTAT_PRESENT).testBit n = false ∧
        t.bit Fld.TOL_BEVT_HEAD_LOST = true ∧ t.tol.book.rollSeq = s.tol.book.rollSeq + 1)) ∧
    Completes (.displayDwellExpiry n) s (fun t => (t.head n).pos = ((s.head n).pos + 1) % max 1 (s.passOf n).length ∧
      (t.head n).pressed = false ∧ t.regs = s.regs ∧ SameMem s t) ∧
    (∀ (presses st : Byte), Completes (.headStatusRx (dpFrame (0x80 + n.val) 0x80 ([presses, st] ++ List.replicate 8 0))) s (fun t =>
      t.get (Fld.TOL_DPHEAD_PRESSES n) = presses.toNat ∧ t.get (Fld.TOL_DPHEAD_STATUS n) = st.toNat ∧
      (t.get Fld.TOL_DPSTAT_PRESENT).testBit n = true ∧ (t.head n).lost = false ∧ (t.head n).miss = 0 ∧
      ((s.head n).lost = true → t.bit Fld.TOL_BEVT_HEAD_BACK = true) ∧ SameBlocks s t [0x400A] ∧ SameMem s t))) ∧
  (∀ bytes : List Byte, bytes.length ≠ 16 → exec (.headStatusRx bytes) s = .next s)

/-- While the Parapet runs and PD3 is on, a Stay period counts SSEQ; a used block with EN 0 has RUNNING, EST_OK and RUN_ON
cleared and ceiling 0, one with EN 1 is RUNNING. EN of an unused block stays 0, and a rising EN starts the block
afresh. A firmware input is stored and fresh until FRESH_MS has passed. Limits are held to those of the image. A pump
whose current lies outside its band at a duty of at least 64 sets FLOW_IMPL with its event and code 0x2A, Class C, and
a restored one clears it unless its channel is held off. The end of the run-on clears RUN_ON and stops pump, fan and
valve unless CTRL asks otherwise. (R478, R488, R493, R494, R496, R499, R500) -/
def Obligations.CableCoolingActs : Prop :=
  ∀ s : State, s.shaped = true →
  (s.stayOn = false → exec .stayPeriod s = .next s) ∧
  (s.prp.running = true → s.pwr.domains.testBit 3 = true → Completes .stayPeriod s (fun t => SameMem s t ∧
    t.get Fld.STY_PERIOD_SSEQ = (s.get Fld.STY_PERIOD_SSEQ + 1) % 2 ^ Fld.STY_PERIOD_SSEQ.w ∧
    ∀ m : Fin 8, s.styUse m = true →
      (s.bit (Fld.STY_CBL_CTRL_EN m) = false → t.bit (Fld.STY_CBL_STAT_RUNNING m) = false ∧ t.bit (Fld.STY_CBL_STAT_EST_OK m) = false ∧
        t.bit (Fld.STY_CBL_STAT_RUN_ON m) = false ∧ t.get (Fld.STY_CBL_CEIL_AMPS m) = 0 ∧ (t.cbl m).started = false) ∧
      (s.bit (Fld.STY_CBL_CTRL_EN m) = true → t.bit (Fld.STY_CBL_STAT_RUNNING m) = true ∧ (t.cbl m).started = true))) ∧
  (∀ b : Fin 8,
    (∀ (m : Master) (v : Word), s.takes m (Reg.STY_CBL_CTRL b) = true →
      Completes (.stayBlockEnWrite m b v) s (fun t => t.bit (Fld.STY_CBL_CTRL_EN b) = (v.toNat.testBit 0 && s.styUse b) ∧
        t.bit (Fld.STY_CBL_CTRL_HOLD_ACT b) = v.toNat.testBit 1 ∧ t.bit (Fld.STY_CBL_CTRL_PUMP_ALWAYS b) = v.toNat.testBit 2 ∧
        (s.bit (Fld.STY_CBL_CTRL_EN b) = false → v.toNat.testBit 0 = true → s.styUse b = true → (t.cbl b).started = false) ∧
        SameRegs s t [Reg.STY_CBL_CTRL b] ∧ SameMem s t)) ∧
    (∀ (m : Master) (v : Word), s.takes m (Reg.STY_CBL_LIM b) = true →
      Completes (.stayLimWrite m b v) s (fun t => t.getS (Fld.STY_CBL_LIM_COND b) = min (toS 16 v.toNat) (s.limImage b 0x2C) ∧
        t.getS (Fld.STY_CBL_LIM_CONT b) = min (toS 16 (v.toNat / 65536)) (s.limImage b 0x30) ∧
        SameRegs s t [Reg.STY_CBL_LIM b] ∧ SameMem s t)) ∧
    (∀ (m : Master) (j : Fin 8) (v : Word), s.takes m (Reg.STY_CBL_FW b j) = true →
      Completes (.stayFwInputWrite m b j v) s (fun t => t.get (Fld.STY_CBL_FW_VALUE b j) = v.toNat ∧ (t.cbl b).fresh.testBit j = true ∧
        SameRegs s t [Reg.STY_CBL_FW b j] ∧ SameMem s t)) ∧
    (∀ j : Fin 8, Completes (.fwInputStale b j) s (fun t => (t.cbl b).fresh.testBit j = false ∧ t.regs = s.regs ∧ SameMem s t)) ∧
    ((s.stayOn = false ∨ s.bit (Fld.STY_CBL_STAT_RUNNING b) = false ∨ s.bit (Fld.STY_CBL_STAT_FLOW_IMPL b) = true ∨ s.pumpOff b = false) → exec (.pumpImplausible b) s = .next s) ∧
    (s.stayOn = true → s.bit (Fld.STY_CBL_STAT_RUNNING b) = true → s.bit (Fld.STY_CBL_STAT_FLOW_IMPL b) = false →
      ∀ i : Rat, (s.styIn b 5).join = some i → 64 ≤ s.get (Fld.STY_CBL_DUTY_PUMP b) →
      (i < (s.get (Fld.STY_CBL_DUTY_PUMP b) : Rat) / 255 * s.styU b 0x6C ∨ (s.get (Fld.STY_CBL_DUTY_PUMP b) : Rat) / 255 * s.styU b 0x70 < i) →
      Completes (.pumpImplausible b) s (fun t => t.bit (Fld.STY_CBL_STAT_FLOW_IMPL b) = true ∧
        t.bit (Fld.STY_CBL_EVT_FLOW b) = true ∧ SameMem s t ∧ (s.parapetFree 0x2A 3 = true → Recorded t 0x2A 3 5 (2 ^ b.val) 0))) ∧
    ((s.stayOn = false ∨ s.bit (Fld.STY_CBL_STAT_ACT_HELD b) = true ∨ s.bit (Fld.STY_CBL_STAT_FLOW_IMPL b) = false ∨ s.pumpOff b = true) → exec (.flowRestored b) s = .next s) ∧
    (s.stayOn = true → s.pumpOff b = false → s.bit (Fld.STY_CBL_STAT_ACT_HELD b) = false → s.bit (Fld.STY_CBL_STAT_FLOW_IMPL b) = true →
      Completes (.flowRestored b) s (fun t => t.bit (Fld.STY_CBL_STAT_FLOW_IMPL b) = false ∧ t.bit (Fld.STY_CBL_EVT_FLOW b) = true ∧
        SameRegs s t [Reg.STY_CBL_STAT b, Reg.STY_CBL_EVT b] ∧ SameMem s t)) ∧
    ((s.stayOn = false ∨ s.bit (Fld.STY_CBL_STAT_RUN_ON b) = false) → exec (.runOnExpiry b) s = .next s) ∧
    (s.stayOn = true → s.bit (Fld.STY_CBL_STAT_RUN_ON b) = true → Completes (.runOnExpiry b) s (fun t => t.bit (Fld.STY_CBL_STAT_RUN_ON b) = false ∧
      SameBlocks s t [0x400B, 0x400F] ∧ SameMem s t ∧
      (s.bit (Fld.STY_CBL_CTRL_HOLD_ACT b) = false → s.bit (Fld.STY_CBL_CTRL_PUMP_ALWAYS b) = false →
        t.get (Fld.STY_CBL_DUTY_PUMP b) = 0 ∧ t.get (Fld.STY_CBL_DUTY_FAN b) = 0 ∧ t.bit (Fld.STY_CBL_DUTY_VALVE b) = false))))

/-- A pilot cycle of an SECC with PWM takes DUTY. A measurement of a used link shows the proximity resistance, the contact
voltages and their bands. A pilot state that has held for 3 ms is shown; the connection condition that has held sets
CONNECTED with its event, and falling ends TLS and the peer. A remote pilot write is shown and is fresh for 100 ms,
after which the link is not connected. A kick starts the watchdog only in PHASE 4 with the outlet enabled; its expiry
then, and an inlet overcurrent in the VEHICLE role, set their event and report code 0x2B, Class B, on the outlet. (R515, R516, R518, R519, R521, R526, R533, R542) -/
def Obligations.PilotAndChargeLoopAct : Prop :=
  ∀ (s : State) (n : Fin 8), s.shaped = true →
  Completes (.pilotPwmCycle n) s (fun t => t.regs = s.regs ∧ SameMem s t ∧
    (t.vl n).duty = if s.secc n && s.bit (Fld.VLK_L_CTRL_PWM n) then s.get (Fld.VLK_L_PILOT_DUTY n) else (s.vl n).duty) ∧
  (∀ (hi lo : Option Int) (din : Fin 1024) (pp cc1 cc2 : BitVec 16),
    (s.vlUsed n = false → exec (.pilotMeasurement n hi lo din pp cc1 cc2) s = .next s) ∧
    (s.vlUsed n = true → Completes (.pilotMeasurement n hi lo din pp cc1 cc2) s (fun t =>
      t.get (Fld.VLK_L_CONT_PP n) = pp.toNat ∧ t.get (Fld.VLK_L_CCV_CC1 n) = cc1.toNat ∧ t.get (Fld.VLK_L_CCV_CC2 n) = cc2.toNat ∧
      t.get (Fld.VLK_L_CONT_CC1 n) = ccLevel cc1.toNat (s.vcfg n 8 2) (s.vcfg n 0xA 2) ∧
      t.get (Fld.VLK_L_CONT_CC2 n) = ccLevel cc2.toNat (s.vcfg n 0xC 2) (s.vcfg n 0xE 2) ∧
      t.bit (Fld.VLK_L_CONT_CONNECTED n) = s.bit (Fld.VLK_L_CONT_CONNECTED n) ∧
      (s.pilotRemote n = false → s.evcc n = true → t.get (Fld.VLK_L_PILOT_DUTY_IN n) = din) ∧
      SameRegs s t [Reg.VLK_L_PMEAS n, Reg.VLK_L_PILOT n, Reg.VLK_L_CONT n, Reg.VLK_L_CCV n] ∧ SameMem s t))) ∧
  ((s.vlUsed n = false ∨ s.pilotRemote n = true ∨ s.pilotState n = s.get (Fld.VLK_L_PILOT_STATE n)) →
    exec (.pilotStateChange n) s = .next s) ∧
  (s.vlUsed n = true → s.pilotRemote n = false → s.pilotState n ≠ s.get (Fld.VLK_L_PILOT_STATE n) →
    Completes (.pilotStateChange n) s (fun t => t.get (Fld.VLK_L_PILOT_STATE n) = s.pilotState n ∧ SameMem s t ∧
      (s.pilotState n ≠ 4 → s.pilotState n ≠ 5 → s.pilotState n ≠ 7 → SameRegs s t [Reg.VLK_L_PILOT n]))) ∧
  ((s.vlUsed n = false ∨ s.connCond n = s.connected n) → exec (.connectedChange n) s = .next s) ∧
  (s.vlUsed n = true → s.connCond n ≠ s.connected n → Completes (.connectedChange n) s (fun t => t.connected n = s.connCond n ∧
    t.bit (Fld.VLK_L_EVT_CONNECT n) = true ∧ SameMem s t ∧
    (s.connCond n = false → t.bit (Fld.VLK_L_SESS_TLS n) = false ∧ t.bit (Fld.VLK_L_SESS_PEER_FM n) = false ∧
      (s.hpgp n = true → t.linkUp n = false)))) ∧
  Completes (.premoteStale n) s (fun t => (t.vl n).fresh = false ∧ SameMem s t ∧
    (s.vlUsed n = true → s.pilotRemote n = true → t.connected n = false)) ∧
  (∀ (m : Master) (v : Word),
    (s.takes m (Reg.VLK_L_PREMOTE n) = true → Completes (.premoteWrite m n v) s (fun t =>
      t.get (Fld.VLK_L_PREMOTE_STATE n) = v.toNat % 8 ∧ t.bit (Fld.VLK_L_PREMOTE_CONN n) = v.toNat.testBit 3 ∧
      (t.vl n).fresh = true ∧ SameMem s t)) ∧
    (s.takes m (Reg.VLK_L_WDOG n) = true → Completes (.chargeLoopKick m n v) s (fun t =>
      t.get (Fld.VLK_L_WDOG_TIMEOUT n) = v.toNat % 65536 ∧
      t.bit (Fld.VLK_L_WDOG_RUN n) = (s.bit (Fld.VLK_L_WDOG_RUN n) || (v.toNat.testBit 31 && s.vlUsed n && s.wdogOn n)) ∧
      SameRegs s t [Reg.VLK_L_WDOG n] ∧ SameMem s t))) ∧
  (s.bit (Fld.VLK_L_WDOG_RUN n) = false → exec (.chargeLoopWatchdogExpiry n) s = .next s) ∧
  (s.bit (Fld.VLK_L_WDOG_RUN n) = true → s.wdogOn n = true → Completes (.chargeLoopWatchdogExpiry n) s (fun t =>
    t.bit (Fld.VLK_L_WDOG_RUN n) = false ∧ t.bit (Fld.VLK_L_EVT_WDOG n) = true ∧
    t.bit (Fld.KST_OUT_CTRL_LOWERING (s.vlOutlet n)) = true ∧ SameMem s t ∧
    (s.parapetFree 0x2B 2 = true → Recorded t 0x2B 2 n (2 ^ s.vlOutlet n) 0))) ∧
  ((s.role ≠ 2 ∨ s.evcc n = false) → exec (.inletOvercurrent n) s = .next s) ∧
  (s.role = 2 → s.evcc n = true → Completes (.inletOvercurrent n) s (fun t => t.bit (Fld.VLK_L_EVT_OVERI n) = true ∧ SameMem s t ∧
    (s.parapetFree 0x2B 2 = true → Recorded t 0x2B 2 n (2 ^ s.vlOutlet n) 0)))

/-- A received payload goes to the buffer of the next owned receive descriptor and moves RXHEAD, or sets RX_OVF where the
ring has none; memory outside the buffer and the descriptor stays. The transmit descriptor at the head is sent, or
dropped when it holds the device's own type or is too long, and moves on. A handshake sets TLS and MUTUAL or TLS_FAIL
and drops the peer. HELLO, its answer and its timeout set PEER_FM; a count request is answered by a peer that agreed;
a count response stores the counts and answers the oldest request, as does its timeout. (R508, R509, R513, R514, R535, R536, R537, R538) -/
def Obligations.SessionMessagesAct : Prop :=
  ∀ (s : State) (n : Fin 8), s.shaped = true →
  (∀ (ty : BitVec 16) (p : List Byte),
    ((s.vlEn n = false ∨ s.vlUsed n = false ∨ (ty = 0xA6F1 ∧ s.bit (Fld.VLK_L_SESS_TLS n) = false)) → exec (.v2gtpRx n ty p) s = .next s) ∧
    (s.vlEn n = true → s.vlUsed n = true → s.bit (Fld.VLK_L_SESS_TLS n) = true → exec (.v2gtpRx n 0xA6F1 p) s = .next (s.fmxRx n p)) ∧
    (s.vlEn n = true → s.vlUsed n = true → ty ≠ 0xA6F1 → ∀ k i d, s.ringSize (Fld.VLK_L_RXRING_SIZE n) = k →
      s.get (Fld.VLK_L_DOOR_RXHEAD n) = i → s.get (Fld.VLK_L_RXRING_BASE n) * 64 + 16 * i = d →
      (k = 0 → exec (.v2gtpRx n ty p) s = .next (s.putB (Fld.VLK_L_EVT_RX_OVF n) true)) ∧
      (k ≠ 0 → ∀ b, s.dmaRead 15 d 16 = (b, s) → leAt b 8 2 % 2 = 1 → p.length ≤ 16384 →
        Completes (.v2gtpRx n ty p) s (fun t => t.get (Fld.VLK_L_DOOR_RXHEAD n) = (i + 1) % k % 256 ∧ i ∈ (t.vl n).rxDone ∧
          ∀ a, (a < leAt b 0 4 ∨ leAt b 0 4 + p.length ≤ a) → (a < d + 4 ∨ d + 10 ≤ a) → t.memB a = s.memB a)))) ∧
  (s.vlEn n = false → exec (.v2gtpTx n) s = .next s) ∧
  (∀ k h d b, s.vlEn n = true → s.ringSize (Fld.VLK_L_TXRING_SIZE n) = k → k ≠ 0 → (s.vl n).txHead = h →
    h ≠ s.get (Fld.VLK_L_DOOR_TXTAIL n) % k → s.get (Fld.VLK_L_TXRING_BASE n) * 64 + 16 * h = d →
    s.dmaRead 15 d 16 = (b, s) → leAt b 8 2 % 2 = 1 →
    Completes (.v2gtpTx n) s (fun t => (t.vl n).txHead = (h + 1) % k ∧ (t.vl n).txDone = true ∧
      (∀ a, (a < d + 8 ∨ d + 10 ≤ a) → t.memB a = s.memB a) ∧
      (16384 < leAt b 4 2 → (t.vl n).sent = (s.vl n).sent) ∧
      (leAt b 4 2 ≤ 16384 → leAt b 6 2 = 0xA6F1 → t.bit (Fld.VLK_L_EVT_FMX_DROP n) = true) ∧
      (leAt b 4 2 ≤ 16384 → leAt b 6 2 ≠ 0xA6F1 → ∀ p, s.dmaRead 15 (leAt b 0 4) (leAt b 4 2) = (p, s) →
        (t.vl n).sent = (leAt b 6 2, v2gtp (leAt b 6 2) p)))) ∧
  (∀ ok cert : Bool,
    ((s.vlEn n = false ∨ s.vlUsed n = false ∨ (s.vlProto n).testBit 0 = false) → exec (.tlsHandshakeDone n ok cert) s = .next s) ∧
    (s.vlEn n = true → s.vlUsed n = true → (s.vlProto n).testBit 0 = true → Completes (.tlsHandshakeDone n ok cert) s (fun t =>
      t.bit (Fld.VLK_L_SESS_TLS n) = ok ∧ t.bit (Fld.VLK_L_SESS_MUTUAL n) = (ok && cert) ∧ t.bit (Fld.VLK_L_SESS_PEER_FM n) = false ∧
      (ok = false → t.bit (Fld.VLK_L_EVT_TLS_FAIL n) = true) ∧ SameRegs s t [Reg.VLK_L_SESS n, Reg.VLK_L_EVT n] ∧ SameMem s t))) ∧
  ((s.secc n = false ∨ s.bit (Fld.VLK_L_SESS_TLS n) = false) → exec (.fmxHello n) s = .next s) ∧
  (s.secc n = true → s.bit (Fld.VLK_L_SESS_TLS n) = true → Completes (.fmxHello n) s (fun t => (t.vl n).hello = true ∧
    (t.vl n).sent.1 = 0xA6F1 ∧ t.regs = s.regs ∧ SameMem s t)) ∧
  (∀ body : List Byte,
    (s.bit (Fld.VLK_L_SESS_TLS n) = false → exec (.fmxHelloAck n body) s = .next s) ∧
    (s.bit (Fld.VLK_L_SESS_TLS n) = true → (s.evcc n = true ∨ (s.secc n = true ∧ (s.vl n).hello = true)) →
      Completes (.fmxHelloAck n body) s (fun t => t.bit (Fld.VLK_L_SESS_PEER_FM n) = true ∧ t.bit (Fld.VLK_L_EVT_PEER n) = true ∧
        (t.vl n).hello = false ∧ (t.vl n).peerCaps = leAt body 4 4 ∧ SameRegs s t [Reg.VLK_L_SESS n, Reg.VLK_L_EVT n] ∧ SameMem s t)) ∧
    ((s.evcc n = false ∨ s.bit (Fld.VLK_L_SESS_PEER_FM n) = false ∨ s.bit (Fld.VLK_L_CTRL_RECON n) = false) →
      exec (.countReq n body) s = .next s) ∧
    (s.evcc n = true → s.bit (Fld.VLK_L_SESS_PEER_FM n) = true → s.bit (Fld.VLK_L_CTRL_RECON n) = true → (s.vl n).peerCaps.testBit 0 = true →
      Completes (.countReq n body) s (fun t => (t.vl n).sent.1 = 0xA6F1 ∧ t.regs = s.regs ∧ SameMem s t)) ∧
    ((s.vl n).asks = [] → exec (.countRes n body) s = .next s ∧ exec (.countResTimeout n) s = .next s) ∧
    (∀ ph rest, (s.vl n).asks = ph :: rest → s.secc n = true → leAt body 0 4 = (s.sess (s.vlOutlet n)).id →
      Completes (.countRes n body) s (fun t => t.vcnt n 2 = leAt body 4 8 ∧ t.vcnt n 3 = leAt body 12 8 ∧ (t.vl n).asks = rest ∧
        (ph = 0 → t.vcnt n 0 = leAt body 4 8 ∧ t.vcnt n 1 = leAt body 12 8) ∧ SameMem s t ∧
        (ph = 1 ∨ ph = 2 → ∃ r, t.tol.toSign = s.tol.toSign ++ [r] ∧ r.typ = 3 - ph ∧ r.point = s.vlOutlet n)))) ∧
  (∀ ph rest, (s.vl n).asks = ph :: rest → Completes (.countResTimeout n) s (fun t => (t.vl n).asks = rest ∧ SameMem s t ∧
    (ph = 1 ∨ ph = 2 → ∃ r, t.tol.toSign = s.tol.toSign ++ [r] ∧ r.typ = 3 - ph ∧ r.point = s.vlOutlet n))) ∧
  ((s.vl n).hello = false → exec (.fmxHelloTimeout n) s = .next s) ∧
  ((s.vl n).hello = true → Completes (.fmxHelloTimeout n) s (fun t => t.bit (Fld.VLK_L_SESS_PEER_FM n) = false ∧
    t.bit (Fld.VLK_L_EVT_PEER n) = true ∧ (t.vl n).hello = false ∧ SameRegs s t [Reg.VLK_L_SESS n, Reg.VLK_L_EVT n] ∧ SameMem s t))

/-- A coordinating link that loses its lock clears MAINS and sets ZC_LOST, and one that takes it follows the measured
period. A far beacon gives the period; ten missed ones drop the link, set BEACON_LOST and start SLAC again where
CONNECTED. SLAC starts when its conditions hold, an EVCC then sending its request at CAP3 in MINI-ROBO; a match on an
SECC, or on an EVCC whose least attenuation is within its limit, raises LINK; an EVCC beyond it has failed, for the
third time with SLAC_FAIL, and tries again. Without the conditions each does nothing. (R549, R550, R551, R552, R553, R555, R556, R558) -/
def Obligations.BeaconsAndSlacAct : Prop :=
  ∀ (s : State) (n : Fin 8), s.shaped = true →
  (∀ (us : Nat) (phase : Int),
    ((s.coordinator n = false ∨ s.vlEn n = false) → exec (.beaconPeriodStart n us phase) s = .next s) ∧
    (s.coordinator n = true → s.vlEn n = true →
      ((s.lflag n 2 && s.acOn 0 && s.bit (Fld.CSN_AC_STAT_FLOCK 0)) = true → Completes (.beaconPeriodStart n us phase) s (fun t =>
        (t.vl n).period = some us ∧
        (t.vl n).ofs = (if s.bit (Fld.VLK_L_HPSTAT_MAINS n) then 0 else towards0 phase (s.vcfg n 0x10B 1)) ∧
        t.bit (Fld.VLK_L_HPSTAT_MAINS n) = ((t.vl n).ofs == 0) ∧ SameRegs s t [Reg.VLK_L_HPSTAT n] ∧ SameMem s t)) ∧
      ((s.lflag n 2 && s.acOn 0 && s.bit (Fld.CSN_AC_STAT_FLOCK 0)) = false → Completes (.beaconPeriodStart n us phase) s (fun t =>
        t.bit (Fld.VLK_L_HPSTAT_MAINS n) = false ∧
        t.bit (Fld.VLK_L_LEVT_ZC_LOST n) = (s.bit (Fld.VLK_L_LEVT_ZC_LOST n) || s.bit (Fld.VLK_L_HPSTAT_MAINS n)) ∧
        SameRegs s t [Reg.VLK_L_HPSTAT n, Reg.VLK_L_LEVT n] ∧ SameMem s t))) ∧
    Completes (.beaconRx n us) s (fun t => t.regs = s.regs ∧ SameMem s t ∧
      (t.vl n).period = if s.evcc n && s.hpgp n && s.vlEn n then some us else (s.vl n).period)) ∧
  ((s.evcc n = false ∨ s.hpgp n = false ∨ s.linkUp n = false) → exec (.beaconsMissed n) s = .next s) ∧
  (s.evcc n = true → s.hpgp n = true → s.linkUp n = true → Completes (.beaconsMissed n) s (fun t => t.linkUp n = false ∧
    t.bit (Fld.VLK_L_LEVT_BEACON_LOST n) = true ∧ t.bit (Fld.VLK_L_HPSTAT_XROBO n) = false ∧
    t.get (Fld.VLK_L_HPSTAT_SLAC n) = (if s.connected n then 1 else 0) ∧
    SameRegs s t [Reg.VLK_L_HPSTAT n, Reg.VLK_L_SESS n, Reg.VLK_L_LEVT n] ∧ SameMem s t)) ∧
  (s.slacMay n = false → exec (.slacStart n) s = .next s ∧ exec (.slacRetry n) s = .next s ∧
    ∀ l : List (List Nat), exec (.slacMatch n l) s = .next s) ∧
  (s.slacMay n = true →
    Completes (.slacStart n) s (fun t => t.get (Fld.VLK_L_HPSTAT_SLAC n) = 1 ∧
      (t.vl n).air = (if s.evcc n then some ⟨3, 2, s.txPsd n⟩ else (s.vl n).air) ∧ SameRegs s t [Reg.VLK_L_HPSTAT n] ∧ SameMem s t) ∧
    (s.evcc n = true → s.get (Fld.VLK_L_HPSTAT_SLAC n) = 6 →
      Completes (.slacRetry n) s (fun t => t.get (Fld.VLK_L_HPSTAT_SLAC n) = 1 ∧ (t.vl n).air = some ⟨3, 2, s.txPsd n⟩ ∧
        SameRegs s t [Reg.VLK_L_HPSTAT n] ∧ SameMem s t)) ∧
    (∀ l : List (List Nat), 1 ≤ s.get (Fld.VLK_L_HPSTAT_SLAC n) → s.get (Fld.VLK_L_HPSTAT_SLAC n) ≤ 4 →
      ((s.secc n = true ∨ ∃ d, leastMean l = some d ∧ d ≤ (s.vcfg n 0x103 1 : Rat)) →
        Completes (.slacMatch n l) s (fun t => t.get (Fld.VLK_L_HPSTAT_SLAC n) = 5 ∧ t.linkUp n = true ∧
          t.bit (Fld.VLK_L_HPSTAT_XROBO n) = false ∧ t.get (Fld.VLK_L_HPSTAT_RUNG n) = 0 ∧ (t.vl n).fails = 0 ∧
          SameRegs s t [Reg.VLK_L_HPSTAT n, Reg.VLK_L_SESS n, Reg.VLK_L_SLACATT n] ∧ SameMem s t)) ∧
      (s.secc n = false → (∀ d, leastMean l = some d → (s.vcfg n 0x103 1 : Rat) < d) →
        Completes (.slacMatch n l) s (fun t => t.get (Fld.VLK_L_HPSTAT_SLAC n) = 6 ∧ t.linkUp n = s.linkUp n ∧
          (t.vl n).fails = (s.vl n).fails + 1 ∧ ((s.vl n).fails = 2 → t.bit (Fld.VLK_L_LEVT_SLAC_FAIL n) = true) ∧
          SameRegs s t [Reg.VLK_L_HPSTAT n, Reg.VLK_L_LEVT n] ∧ SameMem s t))))

/-- A frame on an enabled HPGP link counts the symbols that the cutwater erases; one that decodes moves the SLAC run on. A
first attempt starts at the present rung at the image's priority and level; each further one takes a lower rung and
counts a retry, and a late or fifth one drops the frame. An acknowledgement ends the frame, and enough first-attempt
successes raise the rung. A request for six-copy mode is sent by the SECC and answered by the EVCC, its answer sets
XROBO, its timeout gives it up. The PLCA timer clears PLCA_OK with its event, a good status sets it; T1S errors are
counted. (R549, R550, R559, R561, R562, R563, R565, R569, R570) -/
def Obligations.FramesAndPlcaAct : Prop :=
  ∀ (s : State) (n : Fin 8), s.shaped = true →
  (∀ (code : Fin 4) (sy : List (List Nat)) (dec : Bool) (msg : Option SlacMsg),
    ((s.hpgp n = false ∨ s.vlEn n = false ∨ (code = 3 ∧ s.bit (Fld.VLK_L_HPSTAT_XROBO n) = false)) →
      exec (.hpgpFrameRx n code sy dec msg) s = .next s) ∧
    (s.hpgp n = true → s.vlEn n = true → code ≠ 3 → ∀ r, (if s.lflag n 0 then cutFrame (s.vcfg n 0x104 1) (s.vcfg n 0x105 1) 0 (s.vl n).blocks sy
        else (0, (s.vl n).blocks)) = r →
      Completes (.hpgpFrameRx n code sy dec msg) s (fun t => (t.vl n).blocks = r.2 ∧
        t.get (Fld.VLK_L_HPCNT_ERASED n) = min 65535 (s.get (Fld.VLK_L_HPCNT_ERASED n) + r.1) ∧
        SameRegs s t [Reg.VLK_L_HPCNT n, Reg.VLK_L_HPSTAT n] ∧ SameMem s t ∧
        ((sy.length < 2 * r.1 ∨ dec = false) → t.get (Fld.VLK_L_HPSTAT_SLAC n) = s.get (Fld.VLK_L_HPSTAT_SLAC n)) ∧
        (2 * r.1 ≤ sy.length → dec = true → msg = some .param → s.get (Fld.VLK_L_HPSTAT_SLAC n) = 1 →
          t.get (Fld.VLK_L_HPSTAT_SLAC n) = 2)))) ∧
  (∀ late : Bool,
    ((s.linkUp n = false ∨ (s.hpgp n = false ∧ s.modem n = false)) → exec (.hpgpFrameAttempt n late) s = .next s) ∧
    (s.linkUp n = true → s.hpgp n = true →
      ((s.vl n).frame = none → Completes (.hpgpFrameAttempt n late) s (fun t =>
        (t.vl n).frame = some (s.get (Fld.VLK_L_HPSTAT_RUNG n), 1) ∧
        (t.vl n).air = some ⟨s.vcfg n 0x101 1, s.get (Fld.VLK_L_HPSTAT_RUNG n), s.txPsd n⟩ ∧ t.regs = s.regs ∧ SameMem s t)) ∧
      (∀ r k, (s.vl n).frame = some (r, k) →
        ((late = true ∨ 4 ≤ k) → Completes (.hpgpFrameAttempt n late) s (fun t => (t.vl n).frame = none ∧
          t.get (Fld.VLK_L_HPCNT_DROPPED n) = min 255 (s.get (Fld.VLK_L_HPCNT_DROPPED n) + 1) ∧ SameRegs s t [Reg.VLK_L_HPCNT n] ∧ SameMem s t)) ∧
        (late = false → k < 4 → Completes (.hpgpFrameAttempt n late) s (fun t =>
          (t.vl n).frame = some (min (r + 1) (s.lowRung n), k + 1) ∧ (t.vl n).okRun = 0 ∧
          (t.vl n).air = some ⟨s.vcfg n 0x101 1, min (r + 1) (s.lowRung n), s.txPsd n⟩ ∧
          t.get (Fld.VLK_L_HPCNT_RETRIES n) = min 255 (s.get (Fld.VLK_L_HPCNT_RETRIES n) + 1) ∧ SameRegs s t [Reg.VLK_L_HPCNT n] ∧ SameMem s t))))) ∧
  ((s.vl n).frame = none → exec (.hpgpAck n) s = .next s) ∧
  (∀ r k, (s.vl n).frame = some (r, k) → Completes (.hpgpAck n) s (fun t => (t.vl n).frame = none ∧
    SameRegs s t [Reg.VLK_L_HPSTAT n] ∧ SameMem s t ∧
    (if k = 1 ∧ s.vcfg n 0x10A 1 ≤ (s.vl n).okRun + 1 then t.get (Fld.VLK_L_HPSTAT_RUNG n) = (r - 1) % 4 ∧ (t.vl n).okRun = 0
     else t.get (Fld.VLK_L_HPSTAT_RUNG n) = r % 4 ∧ (t.vl n).okRun = if k = 1 then (s.vl n).okRun + 1 else 0))) ∧
  ((s.linkUp n = false ∨ s.lflag n 1 = false) → exec (.xroboReq n) s = .next s) ∧
  (s.linkUp n = true → s.lflag n 1 = true → s.hpgp n = true →
    (s.secc n = true → Completes (.xroboReq n) s (fun t => (t.vl n).sent = (0xA0C0, s.xroboBody) ∧ (t.vl n).xreq = true ∧
      t.regs = s.regs ∧ SameMem s t)) ∧
    (s.secc n = false → Completes (.xroboReq n) s (fun t => (t.vl n).sent = (0xA0C1, s.xroboBody) ∧
      t.bit (Fld.VLK_L_HPSTAT_XROBO n) = true ∧ SameRegs s t [Reg.VLK_L_HPSTAT n] ∧ SameMem s t))) ∧
  (∀ six : Bool, ((s.vl n).xreq = false → exec (.xroboCnf n six) s = .next s) ∧
    ((s.vl n).xreq = true → Completes (.xroboCnf n six) s (fun t => (t.vl n).xreq = false ∧ t.bit (Fld.VLK_L_HPSTAT_XROBO n) = six ∧
      SameRegs s t [Reg.VLK_L_HPSTAT n] ∧ SameMem s t))) ∧
  Completes (.xroboTimeout n) s (fun t => (t.vl n).xreq = false ∧ t.regs = s.regs ∧ SameMem s t) ∧
  (s.bit (Fld.VLK_L_T1SSTAT_PLCA_OK n) = false → exec (.plcaBeaconTimer n) s = .next s) ∧
  (s.bit (Fld.VLK_L_T1SSTAT_PLCA_OK n) = true → Completes (.plcaBeaconTimer n) s (fun t =>
    t.bit (Fld.VLK_L_T1SSTAT_PLCA_OK n) = false ∧ t.bit (Fld.VLK_L_LEVT_PLCA_DOWN n) = true ∧
    SameRegs s t [Reg.VLK_L_T1SSTAT n, Reg.VLK_L_LEVT n] ∧ SameMem s t)) ∧
  (s.t1s n = false → exec (.plcaStatusOk n) s = .next s ∧ ∀ a b : Bool, exec (.t1sFrameRx n a b) s = .next s) ∧
  (s.t1s n = true → Completes (.plcaStatusOk n) s (fun t => t.bit (Fld.VLK_L_T1SSTAT_PLCA_OK n) = s.lflag n 3 ∧
      t.bit (Fld.VLK_L_T1SSTAT_LINK n) = true ∧ t.linkUp n = true ∧ SameRegs s t [Reg.VLK_L_T1SSTAT n, Reg.VLK_L_SESS n] ∧ SameMem s t) ∧
    (∀ ok missed : Bool, Completes (.t1sFrameRx n ok missed) s (fun t =>
      t.get (Fld.VLK_L_T1SCNT_FCS n) = (if ok then s.get (Fld.VLK_L_T1SCNT_FCS n) else min 65535 (s.get (Fld.VLK_L_T1SCNT_FCS n) + 1)) ∧
      t.get (Fld.VLK_L_T1SCNT_BEACON n) = (if missed then min 65535 (s.get (Fld.VLK_L_T1SCNT_BEACON n) + 1) else s.get (Fld.VLK_L_T1SCNT_BEACON n)) ∧
      SameRegs s t [Reg.VLK_L_T1SCNT n] ∧ SameMem s t)))

/-- A request adds its bits to TXREQ; a cancellation withdraws a waiting buffer and marks one in transmission. A frame
sent clears its request, sets TXDONE and lowers the transmit error counter; one lost once under DAR sets TXFAIL. A
received frame that the filters accept enters the FIFO of 64, or sets RX_LOST when it is full; an error in reception
sets LEC. ACK frees the oldest element where no ring is used, and the DMA copies it to the ring, moves RXHEAD and
writes no other byte. A controller with EN 0, or not joined, receives nothing. (R578, R580, R582, R583, R585, R586, R587, R596) -/
def Obligations.CanTransmitsAndReceives : Prop :=
  ∀ (s : State) (n : Fin 4), s.shaped = true →
  (s.canEn n = false → exec (.canJoin n) s = .next s) ∧
  (s.canEn n = true → Completes (.canJoin n) s (fun t => t.bit (Fld.CBU_B_STAT_JOINED n) = true ∧ SameRegs s t [Reg.CBU_B_STAT n] ∧ SameMem s t ∧
    (∀ b, (s.bus n).cur = some b → (t.bus n).cur = some b))) ∧
  (∀ (m : Master) (v : Word),
    (s.takes m (Reg.CBU_B_TXREQ n) = true → Completes (.canTxRequest m n v) s (fun t => SameRegs s t [Reg.CBU_B_TXREQ n] ∧ SameMem s t ∧
      (∀ b : Fin 32, (t.get (Fld.CBU_B_TXREQ_BUF n)).testBit b =
        ((s.get (Fld.CBU_B_TXREQ_BUF n)).testBit b || (v.toNat.testBit b && !(b == 31 && s.get (Fld.CBU_B_TTCFG_SRC n) == 1)))) ∧
      (∀ b, (s.bus n).cur = some b → (t.bus n).cur = some b))) ∧
    (s.takes m (Reg.CBU_B_TXCAN n) = true → Completes (.canTxCancel m n v) s (fun t =>
      SameRegs s t [Reg.CBU_B_TXREQ n, Reg.CBU_B_TXCAN n] ∧ SameMem s t ∧ t.can = s.can ∧
      ∀ b : Fin 32, (t.get (Fld.CBU_B_TXREQ_BUF n)).testBit b =
          ((s.get (Fld.CBU_B_TXREQ_BUF n)).testBit b && !(v.toNat.testBit b && (s.bus n).cur != some b.val)) ∧
        (t.get (Fld.CBU_B_TXCAN_BUF n)).testBit b = ((s.get (Fld.CBU_B_TXCAN_BUF n)).testBit b ||
          (v.toNat.testBit b && (s.get (Fld.CBU_B_TXREQ_BUF n)).testBit b && (s.bus n).cur == some b.val)))) ∧
    (s.takes m (Reg.CBU_B_RXACK n) = true →
      ((v.toNat.testBit 0 = false ∨ s.get (Fld.CBU_B_RXSTAT_FILL n) = 0 ∨ s.get (Fld.CBU_B_RXRING_SIZE n) ≠ 0) →
        exec (.canRxAck m n v) s = .next s) ∧
      (v.toNat.testBit 0 = true → s.get (Fld.CBU_B_RXSTAT_FILL n) ≠ 0 → s.get (Fld.CBU_B_RXRING_SIZE n) = 0 →
        Completes (.canRxAck m n v) s (fun t => t.get (Fld.CBU_B_RXSTAT_FILL n) = s.get (Fld.CBU_B_RXSTAT_FILL n) - 1 ∧
          t.get (Fld.CBU_B_RXSTAT_GET n) = (s.get (Fld.CBU_B_RXSTAT_GET n) + 1) % 64 ∧ SameRegs s t [Reg.CBU_B_RXSTAT n] ∧ SameMem s t)))) ∧
  (∀ (res : CanEnd) (sof : BitVec 64) (g : Bool),
    ((s.bus n).cur = none → exec (.canFrameTxEnd n res sof g) s = .next s) ∧
    (∀ b : Fin 32, (s.bus n).cur = some b.val → s.isRef n b = false → Completes (.canFrameTxEnd n res sof g) s (fun t =>
      SameBlocks s t [0x400D] ∧ SameMem s t ∧
      (res = .sent → (t.get (Fld.CBU_B_TXREQ_BUF n)).testBit b = false ∧ (t.get (Fld.CBU_B_TXCAN_BUF n)).testBit b = false ∧
        (t.get (Fld.CBU_B_TXDONE_BUF n)).testBit b = true ∧ (t.bus n).txErr = (s.bus n).txErr - 1 ∧
        t.canW n (bufWord b 2) = sof.toNat % 2 ^ 32 ∧ t.canW n (bufWord b 3) = sof.toNat / 2 ^ 32) ∧
      (res = .lost → s.bit (Fld.CBU_B_CTRL_DAR n) = true → (s.bus n).window ≠ 1 →
        (t.get (Fld.CBU_B_TXREQ_BUF n)).testBit b = false ∧ (t.get (Fld.CBU_B_TXFAIL_BUF n)).testBit b = true) ∧
      (res = .lost → s.bit (Fld.CBU_B_CTRL_DAR n) = false → (s.get (Fld.CBU_B_TXCAN_BUF n)).testBit b = false →
        t.get (Fld.CBU_B_TXREQ_BUF n) = s.get (Fld.CBU_B_TXREQ_BUF n) ∧ t.get (Fld.CBU_B_TXFAIL_BUF n) = s.get (Fld.CBU_B_TXFAIL_BUF n))))) ∧
  (∀ (fr : Option CanFrame) (sof : BitVec 64) (lec : Fin 8) (up : Fin 9),
    ((s.canEn n = false ∨ s.bit (Fld.CBU_B_STAT_JOINED n) = false ∨ s.bit (Fld.CBU_B_STAT_BUS_OFF n) = true) →
      exec (.canFrameRx n fr sof lec up) s = .next s) ∧
    (s.canEn n = true → s.bit (Fld.CBU_B_STAT_JOINED n) = true → s.bit (Fld.CBU_B_STAT_BUS_OFF n) = false →
      Completes (.canFrameRx n fr sof lec up) s (fun t => SameMem s t ∧ SameBlocks s t [0x400D] ∧
        (fr = none → t.get (Fld.CBU_B_STAT_LEC n) = lec ∧ t.get (Fld.CBU_B_RXSTAT_FILL n) = s.get (Fld.CBU_B_RXSTAT_FILL n) ∧
          (s.bit (Fld.CBU_B_CTRL_LOM n) = false → (t.bus n).rxErr = (s.bus n).rxErr + up)) ∧
        (∀ f, fr = some f → (∀ k, s.canFilter n f = some k → s.bit (Fld.CBU_B_FLT_ID_ACTION n k) = false) →
          (s.canFilter n f = none → s.bit (Fld.CBU_B_CTRL_NOMATCH_REJ n) = false) →
          (64 ≤ s.get (Fld.CBU_B_RXSTAT_FILL n) → t.bit (Fld.CBU_B_EVT_RX_LOST n) = true ∧
            t.get (Fld.CBU_B_RXSTAT_FILL n) = s.get (Fld.CBU_B_RXSTAT_FILL n)) ∧
          (s.get (Fld.CBU_B_RXSTAT_FILL n) < 64 → t.get (Fld.CBU_B_RXSTAT_FILL n) = s.get (Fld.CBU_B_RXSTAT_FILL n) + 1 ∧
            ∀ w : Fin 20, t.canW n (fifoWord ((s.get (Fld.CBU_B_RXSTAT_GET n) + s.get (Fld.CBU_B_RXSTAT_FILL n)) % 64) w) =
              nth 0 (frameWords f ((s.canFilter n f).getD 0x7F) sof.toNat) w % 2 ^ 32))))) ∧
  (∀ k h, 2 ^ s.get (Fld.CBU_B_RXRING_SIZE n) = k → s.get (Fld.CBU_B_RXPTR_RXHEAD n) = h →
    ((k = 1 ∨ 1024 < k ∨ s.get (Fld.CBU_B_RXSTAT_FILL n) = 0 ∨ (h + 1) % k = s.get (Fld.CBU_B_RXPTR_RXTAIL n) % k) →
      exec (.canDmaCopy n) s = .next s) ∧
    (k ≠ 1 → k ≤ 1024 → s.get (Fld.CBU_B_RXSTAT_FILL n) ≠ 0 → (h + 1) % k ≠ s.get (Fld.CBU_B_RXPTR_RXTAIL n) % k →
      Completes (.canDmaCopy n) s (fun t => t.get (Fld.CBU_B_RXPTR_RXHEAD n) = (h + 1) % k ∧
        t.get (Fld.CBU_B_RXSTAT_FILL n) = s.get (Fld.CBU_B_RXSTAT_FILL n) - 1 ∧ SameBlocks s t [0x4000, 0x400D] ∧
        ∀ a, (a < s.get (Fld.CBU_B_RXRING_BASE n) * 64 + 80 * h ∨ s.get (Fld.CBU_B_RXRING_BASE n) * 64 + 80 * h + 80 ≤ a) →
          t.memB a = s.memB a)))

/-- A write that sets EN restarts the schedule out of sync; one that clears it leaves the bus, at once or at the end of
the frame in progress; the fields of R577 stay while EN is 1. RECOVER starts the recovery count of a bus in bus-off,
whose end clears BUS_OFF and the counters with its event. A cycle start takes the next count and column 0, a time
master's from buffer 31; an exclusive column starts its buffer, or misses it. References synchronise a slave, turn a
master into one, and four missed ones lose the sync. An enabled wake-up sign wakes a sleeping device and records its
source. (R577, R578, R588, R589, R590, R592, R593, R597, R599) -/
def Obligations.CanSchedulesRecoversAndWakes : Prop :=
  ∀ (s : State) (n : Fin 4), s.shaped = true →
  (∀ (m : Master) (v : Word), s.takes m (Reg.CBU_B_CTRL n) = true →
    (s.canEn n = false → v.toNat.testBit 0 = true → v.toNat.testBit 8 = false → Completes (.canEnable m n v) s (fun t =>
      t.canEn n = true ∧ t.bit (Fld.CBU_B_CTRL_LOM n) = v.toNat.testBit 1 ∧ t.bit (Fld.CBU_B_TTSTAT_SYNCED n) = false ∧
      t.bit (Fld.CBU_B_TTSTAT_MASTER n) = false ∧ (t.bus n).restart = true ∧ (t.bus n).refs = 0 ∧ (t.bus n).conf = false ∧
      SameRegs s t [Reg.CBU_B_CTRL n, Reg.CBU_B_TTSTAT n] ∧ SameMem s t)) ∧
    (s.canEn n = true → v.toNat.testBit 0 = false → v.toNat.testBit 8 = false → Completes (.canEnable m n v) s (fun t =>
      t.canEn n = false ∧ t.bit (Fld.CBU_B_CTRL_LOM n) = s.bit (Fld.CBU_B_CTRL_LOM n) ∧
      t.bit (Fld.CBU_B_CTRL_LOOP n) = s.bit (Fld.CBU_B_CTRL_LOOP n) ∧
      ((s.bus n).cur = none → t.bit (Fld.CBU_B_STAT_JOINED n) = false) ∧
      ((s.bus n).cur.isSome = true → (t.bus n).closing = true ∧ t.bit (Fld.CBU_B_STAT_JOINED n) = s.bit (Fld.CBU_B_STAT_JOINED n)) ∧
      SameRegs s t [Reg.CBU_B_CTRL n, Reg.CBU_B_TTSTAT n, Reg.CBU_B_STAT n] ∧ SameMem s t)) ∧
    (v.toNat.testBit 8 = true → v.toNat.testBit 0 = s.canEn n → Completes (.canRecover m n v) s (fun t =>
      (t.bus n).recovering = ((s.bus n).recovering || s.bit (Fld.CBU_B_STAT_BUS_OFF n)) ∧ t.canEn n = s.canEn n ∧
      SameRegs s t [Reg.CBU_B_CTRL n] ∧ SameMem s t))) ∧
  ((s.bit (Fld.CBU_B_STAT_BUS_OFF n) = false ∨ (s.bus n).recovering = false) → exec (.canBusOffRecovered n) s = .next s) ∧
  (s.bit (Fld.CBU_B_STAT_BUS_OFF n) = true → (s.bus n).recovering = true → Completes (.canBusOffRecovered n) s (fun t =>
    t.bit (Fld.CBU_B_STAT_BUS_OFF n) = false ∧ t.bit (Fld.CBU_B_EVT_BOFF_END n) = true ∧ t.get (Fld.CBU_B_STAT_TEC n) = 0 ∧
    t.get (Fld.CBU_B_STAT_REC n) = 0 ∧ (t.bus n).txErr = 0 ∧ SameRegs s t [Reg.CBU_B_STAT n, Reg.CBU_B_EVT n] ∧ SameMem s t)) ∧
  ((s.canEn n = false ∨ s.ttSrc n = 0) → exec (.canCycleStart n) s = .next s ∧ ∀ (c : Fin 64) (f : Bool), exec (.canColumnStart n c f) s = .next s) ∧
  (s.canEn n = true → s.ttSrc n ≠ 0 →
    Completes (.canCycleStart n) s (fun t => t.get (Fld.CBU_B_TTSTAT_CYCLE n) = s.nextCycle n % 16 ∧ t.get (Fld.CBU_B_TTSTAT_COLUMN n) = 0 ∧
      (s.ttSrc n = 1 → t.bit (Fld.CBU_B_TTSTAT_MASTER n) = true ∧ (s.canSends n = true → (s.bus n).cur = none → (t.bus n).cur = some 31)) ∧
      SameRegs s t [Reg.CBU_B_TTSTAT n] ∧ SameMem s t) ∧
    (∀ (c : Fin 64) (free : Bool), s.bit (Fld.CBU_B_COL_EN n c) = true → ∀ x, s.canCell n (s.get (Fld.CBU_B_TTSTAT_CYCLE n)) c = x →
      Completes (.canColumnStart n c free) s (fun t => t.get (Fld.CBU_B_TTSTAT_COLUMN n) = c ∧
        SameRegs s t [Reg.CBU_B_TTSTAT n, Reg.CBU_B_EVT n] ∧ SameMem s t ∧
        (x / 64 = 1 → s.bit (Fld.CBU_B_STAT_BUS_OFF n) = false → (s.bus n).resume = false → s.ttSrc n ≠ 3 →
          (s.get (Fld.CBU_B_TXREQ_BUF n)).testBit (x % 32) = true →
          (free = true → s.canSends n = true → (s.bus n).cur = none → (t.bus n).cur = some (x % 32)) ∧
          (free = false → t.bit (Fld.CBU_B_EVT_TT_MISS n) = true ∧ (t.bus n).cur = (s.bus n).cur))))) ∧
  (∀ k : Fin 16,
    ((s.canEn n = false ∨ s.ttSrc n = 0 ∨ s.ttSrc n = 2) → exec (.canReferenceRx n k) s = .next s) ∧
    (s.canEn n = true → (s.ttSrc n = 1 ∨ s.ttSrc n = 3) → Completes (.canReferenceRx n k) s (fun t =>
      t.get (Fld.CBU_B_TTSTAT_CYCLE n) = k ∧ t.get (Fld.CBU_B_TTSTAT_COLUMN n) = 0 ∧ t.ttSrc n = 3 ∧
      (s.ttSrc n = 1 → t.bit (Fld.CBU_B_EVT_MASTER_CONF n) = true ∧ t.bit (Fld.CBU_B_TTSTAT_MASTER n) = false ∧ (t.bus n).refs = 1) ∧
      (s.ttSrc n = 3 → (t.bus n).refs = (s.bus n).refs + 1 ∧ (1 ≤ (s.bus n).refs → t.bit (Fld.CBU_B_TTSTAT_SYNCED n) = true)) ∧
      SameRegs s t [Reg.CBU_B_TTSTAT n, Reg.CBU_B_EVT n] ∧ SameMem s t))) ∧
  ((s.canEn n = false ∨ s.ttSrc n ≠ 3) → exec (.canReferenceMissed n) s = .next s) ∧
  (s.canEn n = true → s.ttSrc n = 3 → Completes (.canReferenceMissed n) s (fun t => t.bit (Fld.CBU_B_EVT_SYNC_LOST n) = true ∧
    t.bit (Fld.CBU_B_TTSTAT_SYNCED n) = false ∧ (t.bus n).refs = 0 ∧ SameRegs s t [Reg.CBU_B_TTSTAT n, Reg.CBU_B_EVT n] ∧ SameMem s t)) ∧
  (∀ (b : Fin 2) (sign : CanWakeSign) (us : Nat), s.bit (Fld.CBU_B_WAKE_EN b) = true → s.canWakes b sign = true → s.asleep = true →
    s.load.wake = false → s.bit Fld.ABT_PSSTAT_BUSY = false → Completes (.canWake b sign us) s (fun t =>
      t.load.wake = true ∧ t.pwr.domains = 0x3FF ∧ SameMem s t ∧
      (if b = 0 then t.bit Fld.ABT_WAKEEVT_CB0 else t.bit Fld.ABT_WAKEEVT_CB1) = true))

/-- The safe state sets PRP_STAT.SAFE and the Span lower broadcast, holds LOWER, and starts OUT_DELAY when it was not
asserted. A lockstep mismatch and a lost heartbeat assert it too, and a free fault manager records them as Class A
with code 0x0D. The end of OUT_DELAY turns off every safety output, withdraws the requests, disarms every pier and
clears EN of every outlet. A double fault asserts the safe state and holds both pairs. Memory stays throughout. (R144, R146, R604, R605, R606, R610, R616) -/
def Obligations.SafeStateAssertsAndEnds : Prop :=
  ∀ s : State,
  Completes .safeStateAssert s (fun t => t.bit Fld.PRP_STAT_SAFE = true ∧ t.bit Fld.SPN_BCAST_LOWER = true ∧ t.bit Fld.SPN_BCAST_SENT = true ∧
    t.prp.lowerHeld = true ∧ (s.bit Fld.PRP_STAT_SAFE = false → t.prp.outDelay = true) ∧ SameMem s t) ∧
  (∀ pair : Fin 2, ∀ i ∈ [Instr.lockstepMismatch pair, Instr.heartbeatLoss pair],
    Completes i s (fun t => t.bit Fld.PRP_STAT_SAFE = true ∧ t.bit Fld.SPN_BCAST_LOWER = true ∧ SameMem s t ∧
      (s.parapetFree 0x0D 1 = true → Recorded t 0x0D 1 pair 0xFF 0xFFF ∧ t.bit Fld.PRP_STAT_LATCH_A = true))) ∧
  (s.prp.outDelay = true → s.pwr.shutLatch = false →
    Completes .outDelayExpiry s (fun t => t.get Fld.PRP_ARMED_PIERS = 0 ∧ t.get Fld.PRP_PSOSTAT_ON = 0 ∧ t.get Fld.PRP_PSO_REQ = 0 ∧
      (∀ m : Fin 8, t.bit (Fld.KST_OUT_CTRL_EN m) = false) ∧ t.prp.outDelay = false ∧ SameMem s t)) ∧
  (s.prp.handling.head?.map FaultRec.cls = some 1 →
    Completes .doubleFault s (fun t => t.bit Fld.PRP_STAT_SAFE = true ∧ t.prp.doubleHeld = true ∧ t.prp.pd0Double = true ∧ SameMem s t))

/-- A fault that a free fault manager meets with its default class is recorded as reported, Class A with all units. Class
A: the safe state and LATCH_A. Class B: LATCH_B, the outlets and piers in PRP_LATCH, and the ordered lowering of each
named outlet. Class C and D: their interrupt flag. The corrected errors of memory are counted, and only a report of
code 0x0F changes cells, those it names. The end of a handling returns to the suspended fault, or with nothing
suspended or queued and no press waiting to none. A Truss trip port that rises with an enabled entry is reported with
code 0x11 and the entry's class and units; one that falls is only noted. (R25, R609, R611, R613, R614, R618, R665) -/
def Obligations.FaultManagerHandlesByClass : Prop :=
  ∀ s : State,
  (∀ (code : Fin 64) (cls : Fin 4) (src : Fin 256) (o : BitVec 8) (p : BitVec 12) (fixed : Nat) (bad : List Host.Cell),
    s.parapetFree code (cls.val + 1) = true → Completes (.faultReport code cls src ⟨o, p⟩ ⟨fixed, bad⟩) s (fun t =>
      Recorded t code (cls.val + 1) src (if cls = 0 then 0xFF else o.toNat) (if cls = 0 then 0xFFF else p.toNat) ∧
      t.cwy.eccCount = s.cwy.eccCount + fixed ∧ (code ≠ 0x0F → SameMem s t) ∧ (∀ a, (∀ c ∈ bad, c.1 ≠ a) → t.memB a = s.memB a) ∧
      (∀ a b, code = 0x0F → bad = [(a, b)] → ramRange a 1 = true → t.memB a = b) ∧
      (cls = 0 → t.bit Fld.PRP_STAT_SAFE = true ∧ t.bit Fld.PRP_STAT_LATCH_A = true ∧ t.bit Fld.PRP_EVT_FAULT_A = true) ∧
      (cls = 1 → t.bit Fld.PRP_STAT_LATCH_B = true ∧ t.bit Fld.PRP_EVT_FAULT_B = true ∧ t.get Fld.PRP_LATCH_OUTLETS = o.toNat ∧
        t.get Fld.PRP_LATCH_PIERS = p.toNat ∧ ∀ m : Fin 8, o.toNat.testBit m = true → t.bit (Fld.KST_OUT_CTRL_LOWERING m) = true) ∧
      (cls = 2 → t.prp.irqC = true) ∧ (cls = 3 → t.prp.irqD = true))) ∧
  (∀ r : FaultRec, s.prp.handling = [r] → s.prp.queue = [] → s.prp.prstWait = false →
    Completes .faultHandlingEnd s (fun t => t.prp.handling = [] ∧ t.get Fld.PRP_QUEUE_HANDLING = 0 ∧ SameRegs s t [Reg.PRP_QUEUE] ∧ SameMem s t)) ∧
  (∀ (r q : FaultRec) (rest : List FaultRec), s.prp.handling = r :: q :: rest →
    Completes .faultHandlingEnd s (fun t => t.prp.handling = q :: rest ∧ t.get Fld.PRP_QUEUE_HANDLING = q.cls % 8 ∧
      SameRegs s t [Reg.PRP_QUEUE] ∧ SameMem s t)) ∧
  (∀ k : Fin 16, s.prp.trips.testBit k = false → s.cfgB 6 (0x420 + 8 * k.val + 6) = 1 →
    ∀ cls : Nat, s.cfgB 6 (0x420 + 8 * k.val + 2) = cls → 2 ≤ cls → s.parapetFree 0x11 cls = true →
    Completes (.trussTripPort k true) s (fun t => t.prp.trips.testBit k = true ∧
      Recorded t 0x11 cls k (s.cfgB 6 (0x420 + 8 * k.val + 3)) (s.cfg 6 (0x420 + 8 * k.val + 4) 2))) ∧
  (∀ k : Fin 16, exec (.trussTripPort k false) s = .next { s with prp := { s.prp with trips := mset s.prp.trips k false } })

/-- An accepted channel level of an input in use outside its test pulse sets that channel open or closed; an open channel
makes the input demanded, and closing it does not withdraw the demand. A discrepancy that has lasted DISC_MS, and a
test pulse that a channel did not show, make the input demanded and set their bit in PRP_PSIF. At most one test-pulse
output is low. The start-up tests set START_OK exactly when no test failed. (R619, R620, R621, R622, R623, R642) -/
def Obligations.SafetyInputsDemand : Prop :=
  ∀ s : State, s.shaped = true →
  (∀ (n : Fin 16) (b level : Bool), s.psiKind n ≠ 0 → s.prp.ptpLow = none →
    Completes (.safetyInputChannel n b level) s (fun t =>
      (if b then (t.safeIn n).openB = (if s.cfgB 6 (0x42 + 16 * n) = 1 then level else !level) ∧ (t.safeIn n).openA = (s.safeIn n).openA
       else (t.safeIn n).openA = !level ∧ (t.safeIn n).openB = (s.safeIn n).openB) ∧
      ((s.safeIn n).demanded = true → (t.safeIn n).demanded = true) ∧
      (((t.safeIn n).openA || (t.safeIn n).openB) = true → (b = true → (t.safeIn n).openB = true) → (b = false → (t.safeIn n).openA = true) →
        (t.safeIn n).demanded = true) ∧ SameMem s t)) ∧
  (∀ n : Fin 16, s.psiKind n ≠ 0 → (s.safeIn n).openA ≠ (s.safeIn n).openB →
    Completes (.discrepancyTimeout n) s (fun t => (t.safeIn n).demanded = true ∧ (t.safeIn n).disc = true ∧
      (t.get Fld.PRP_PSIF_DISC).testBit n = true ∧ t.bit Fld.PRP_EVT_INPUT = true ∧ SameMem s t)) ∧
  (∀ k : Fin 8, s.cfgB 6 (0x140 + 8 * k) = 1 → s.prp.ptpLow = none →
    exec (.testPulse k) s = .next { s with prp := { s.prp with ptpLow := some k.val } }) ∧
  (∀ (k : Fin 8) (failA failB : BitVec 16), s.prp.ptpLow = some k.val →
    Completes (.testPulseEnd k failA failB) s (fun t => t.prp.ptpLow = none ∧ SameMem s t ∧
      ∀ n : Fin 16, s.psiKind n ≠ 0 → s.cfgB 6 (0x43 + 16 * n) = k.val → failA.toNat.testBit n = true →
        (t.safeIn n).demanded = true ∧ (t.get Fld.PRP_PSIF_PULSE).testBit n = true)) ∧
  (∀ (k : Fin 8), s.prp.ptpLow = some k.val → exec (.testPulseEnd k 0 0) s = .next { s with prp := { s.prp with ptpLow := none } }) ∧
  (∀ (levels : BitVec 32) (fails : List (Fin 64 × Fin 256)), s.prp.running = true →
    Completes (.startupTestsDone levels fails) s (fun t => t.bit Fld.PRP_STAT_START_OK = decide (fails = []) ∧ SameMem s t))

/-- By a Deck core or Parapet master whose write takes effect: a request sets PSO.REQ, but under the safe state only
withdraws, and every output not requested is off; KEYLO then the key byte 0x6C clears the Class B faults of the named
units whose cause has gone; arming with the key 0x3A71 outside the safe state arms exactly the named piers that meet
the conditions besides those armed; disarming disarms a named armed pier at once when it is LOWERED, and marks it
otherwise; a software stop with its key asserts the safe state. An output that reads high while off, and an off-pulse
that does not fall, set FAULT and assert the safe state. A release of the button after 50 ms to 5 s with no Class A
cause leaves the safe state and counts ACCEPTED; a button that sticks sets PRST_STUCK. (R608, R629, R630, R631, R635, R636, R638, R639, R663, R664) -/
def Obligations.OutputsButtonAndArming : Prop :=
  ∀ s : State,
  (∀ (m : Master) (v : Word), m.val < 6 →
    (s.takes m Reg.PRP_PSO = true →
      Completes (.safetyOutputRequest m v) s (fun t =>
        t.get Fld.PRP_PSO_REQ = (if s.bit Fld.PRP_STAT_SAFE then s.get Fld.PRP_PSO_REQ &&& v.toNat % 4096 else v.toNat % 4096) ∧
        (∀ k : Fin 12, (t.get Fld.PRP_PSO_REQ).testBit k = false → (t.get Fld.PRP_PSOSTAT_ON).testBit k = false) ∧ SameMem s t)) ∧
    (s.takes m Reg.PRP_FCLRK = true → v.toNat % 256 = 0x0B →
      exec (.faultClearKey m v) s = .next { s with prp := { s.prp with keyLo := true } }) ∧
    (s.takes m Reg.PRP_FCLR = true → s.prp.keyLo = true → v.toNat / 2 ^ 24 = 0x6C →
      Completes (.faultClear m v) s (fun t => t.prp.keyLo = false ∧ SameMem s t ∧ t.prp.latched = s.prp.latched.filter (fun r =>
        !(r.cls == 2 && ((r.outlets &&& v.toNat / 2 ^ 16 % 256) != 0 || (r.piers &&& v.toNat % 4096) != 0) && !s.causePresent r)))) ∧
    (s.takes m Reg.PRP_ARMREQ = true → v.toNat / 2 ^ 16 = 0x3A71 → v.toNat / 2 ^ 14 % 4 = 1 → s.bit Fld.PRP_STAT_SAFE = false →
      Completes (.armPiers m v) s (fun t => (∀ n : Fin 12, (t.get Fld.PRP_ARMED_PIERS).testBit n =
        ((s.get Fld.PRP_ARMED_PIERS).testBit n || (v.toNat.testBit n && s.mayArm n))) ∧ SameRegs s t [Reg.PRP_ARMED, Reg.PRP_EVT] ∧ SameMem s t)) ∧
    (s.takes m Reg.PRP_ARMREQ = true → v.toNat / 2 ^ 16 = 0x3A71 → v.toNat / 2 ^ 14 % 4 = 2 →
      Completes (.disarmPiers m v) s (fun t => (∀ n : Fin 12, v.toNat.testBit n = true → (s.get Fld.PRP_ARMED_PIERS).testBit n = true →
        if s.pierLowered n then (t.get Fld.PRP_ARMED_PIERS).testBit n = false else t.prp.disarm.testBit n = true) ∧ SameMem s t)) ∧
    (s.takes m Reg.PRP_SWSTOP = true → v.toNat / 2 ^ 16 = 0xD15A → v.toNat % 2 = 1 →
      Completes (.softwareStop m v) s (fun t => t.bit Fld.PRP_STAT_SAFE = true ∧ SameMem s t ∧
        (s.parapetFree 0x10 1 = true → Recorded t 0x10 1 0xFF 0xFF 0xFFF)))) ∧
  (∀ k : Fin 12, (s.get Fld.PRP_PSOSTAT_ON).testBit k = false →
    Completes (.outputReadbackFault k true) s (fun t => (t.get Fld.PRP_PSOSTAT_FAULT).testBit k = true ∧ t.bit Fld.PRP_STAT_SAFE = true ∧ SameMem s t)) ∧
  (∀ k : Fin 12, (s.get Fld.PRP_PSOSTAT_ON).testBit k = true →
    Completes (.outputReadbackFault k false) s (fun t => (t.get Fld.PRP_PSOSTAT_FAULT).testBit k = true ∧
      (t.get Fld.PRP_PSOSTAT_ON).testBit k = false ∧ SameMem s t)) ∧
  (∀ k : Fin 12, s.par (0x182 + 16 * k) 2 ≠ 0 →
    Completes (.offPulse k false) s (fun t => (t.get Fld.PRP_PSOSTAT_FAULT).testBit k = true ∧ t.bit Fld.PRP_STAT_SAFE = true ∧ SameMem s t)) ∧
  (∀ ms : Nat, 50 ≤ ms → ms ≤ 5000 → s.prp.running = true → s.prp.doubleHeld = false → s.prp.handling = [] → s.prp.stuckHeld = false →
    s.classACause = false →
    Completes (.prstPress ms) s (fun t => t.bit Fld.PRP_STAT_SAFE = false ∧ t.get Fld.PRP_PRST_LAST_MS = ms ∧ t.prp.lowerHeld = false ∧
      t.get Fld.PRP_PRST_ACCEPTED = (s.get Fld.PRP_PRST_ACCEPTED + 1) % 2 ^ Fld.PRP_PRST_ACCEPTED.w ∧ t.bit Fld.PRP_EVT_PRST_OK = true ∧ SameMem s t)) ∧
  (s.prp.stuckHeld = false →
    Completes .prstStuck s (fun t => t.bit Fld.PRP_STAT_PRST_STUCK = true ∧ t.prp.stuckHeld = true ∧ SameMem s t))

/-- The end of an ordered lowering clears EN and LOWERING of the outlet, turns its safety outputs off and lowers its
piers; the B_OFF time turns the outputs off as well. A half of an active insulation channel that did not settle or met
a foreign source sets MFAULT; the second of two valid halves gives a fresh result and clears it; a suspended channel
shows SUSP. A contactor check that runs ends with its DIFF and with RESULT 1 when it passed, or 3 on a dead bus while
the class table keeps code 0x12 below Class B. (R609, R641, R646, R648, R649, R653, R654) -/
def Obligations.LoweringInsulationAndContactors : Prop :=
  ∀ s : State, s.shaped = true →
  (∀ o : Fin 8, (s.out o).lowering = true →
    Completes (.classBLoweringDone o) s (fun t => t.bit (Fld.KST_OUT_CTRL_EN o) = false ∧ t.bit (Fld.KST_OUT_CTRL_LOWERING o) = false ∧
      (t.out o).lowering = false ∧ (t.out o).lowerPiers = true ∧
      (∀ k : Fin 12, s.psoOutlet k = some o.val → (t.get Fld.PRP_PSOSTAT_ON).testBit k = false) ∧ SameMem s t)) ∧
  (∀ o : Fin 8, s.prp.bOutlets.testBit o = true →
    Completes (.bOffExpiry o) s (fun t => t.prp.bOutlets.testBit o = false ∧
      (∀ k : Fin 12, s.psoOutlet k = some o.val → (t.get Fld.PRP_PSOSTAT_ON).testBit k = false) ∧ SameMem s t)) ∧
  (∀ (n : Fin 4) (sense : Int), s.par (0x242 + 32 * n) 2 ≠ 0 →
    (s.imcSuspended n = true → ∀ settled foreign : Bool,
      Completes (.imcHalfEnd n sense settled foreign) s (fun t => t.bit (Fld.PRP_IMC_STAT_SUSP n) = true ∧
        SameRegs s t [Reg.PRP_IMC_STAT n] ∧ SameMem s t)) ∧
    (s.imcSuspended n = false → ∀ settled foreign : Bool, (settled = false ∨ foreign = true) →
      Completes (.imcHalfEnd n sense settled foreign) s (fun t => t.bit (Fld.PRP_IMC_STAT_MFAULT n) = true ∧ SameMem s t)) ∧
    (s.imcSuspended n = false → ∀ b : Int, (nth {} s.prp.imc n).halves = [b] →
      Completes (.imcHalfEnd n sense true false) s (fun t => t.bit (Fld.PRP_IMC_STAT_FRESH n) = true ∧
        t.bit (Fld.PRP_IMC_STAT_MFAULT n) = false ∧ (nth {} t.prp.imc n).halves = [sense, b] ∧ SameMem s t))) ∧
  (∀ (k : Fin 16) (diff : Nat) (dead : Bool), s.prp.weldRun.testBit k = true →
    Completes (.contactorCheckEnd k diff dead) s (fun t => t.get (Fld.PRP_WELD_DIFF k) = min diff 0xFFFF ∧ t.bit Fld.PRP_EVT_WELD = true ∧
      (s.cfg 6 (0x2C2 + 16 * k) 2 ≤ diff → t.get (Fld.PRP_WELD_RESULT k) = 1 ∧ t.prp.weldRun.testBit k = false) ∧
      (diff < s.cfg 6 (0x2C2 + 16 * k) 2 → dead = true → 3 ≤ s.classFloor 0x12 → t.get (Fld.PRP_WELD_RESULT k) = 3) ∧ SameMem s t))

/-- For a channel n: an overload with BURST_N 0 latches it with FAULT.OVERLOAD; after BURST_N restarts it latches it with
FAULT.BURST; otherwise it enters the burst wait. A burst restart raises the restart count of STAT and CNT and leaves
the wait. A burst end on a channel that is on clears the count and changes nothing else. A thermal shutdown raises
CNT.THERMAL and sets FAULT.THERM; with THERM_LATCH, or as shutdown number THERM_N + 1 in 10 s, it latches, else the
channel waits; a thermal restart ends the wait. Each leaves every register but those of the settling channels and its
own FAULT and CNT, and all memory. (R674, R675, R676, R677, R678) -/
def Obligations.TrestleProtectionActs : Prop :=
  ∀ (s : State) (n : Fin 16), s.shaped = true →
  (s.get (Fld.TRS_CH_STAT_STATE n) = 1 → (s.chan n).hold = none →
    Completes (.currentLimitExpiry n) s (fun t =>
      SameRegs s t (Reg.TRS_CH_FAULT n :: (List.range 16).flatMap (fun k => [Reg.TRS_CH_STAT k, Reg.TRS_CH_CUR k])) ∧ SameMem s t ∧
      (if s.get (Fld.TRS_CH_CFG_BURST_N n) = 0 then t.bit (Fld.TRS_CH_FAULT_OVERLOAD n) = true ∧ (t.chan n).latched = true
       else if s.get (Fld.TRS_CH_CFG_BURST_N n) ≤ s.get (Fld.TRS_CH_STAT_BURST_CNT n) then
         t.bit (Fld.TRS_CH_FAULT_BURST n) = true ∧ (t.chan n).latched = true
       else (t.chan n).burst = true ∧ t.get (Fld.TRS_CH_STAT_BURST_CNT n) = s.get (Fld.TRS_CH_STAT_BURST_CNT n)))) ∧
  (s.get (Fld.TRS_CH_STAT_STATE n) = 2 →
    Completes (.burstRestart n) s (fun t =>
      SameRegs s t (Reg.TRS_CH_CNT n :: (List.range 16).flatMap (fun k => [Reg.TRS_CH_STAT k, Reg.TRS_CH_CUR k])) ∧ SameMem s t ∧
      t.get (Fld.TRS_CH_STAT_BURST_CNT n) = min 15 (s.get (Fld.TRS_CH_STAT_BURST_CNT n) + 1) ∧
      t.get (Fld.TRS_CH_CNT_RESTARTS n) = min 65535 (s.get (Fld.TRS_CH_CNT_RESTARTS n) + 1) ∧ (t.chan n).burst = false)) ∧
  (s.get (Fld.TRS_CH_STAT_STATE n) = 1 → exec (.burstEnd n) s = .next (s.put (Fld.TRS_CH_STAT_BURST_CNT n) 0)) ∧
  ((s.chan n).hot = false → (s.chan n).hold = none →
    Completes (.thermalShutdown n) s (fun t =>
      SameRegs s t ([Reg.TRS_CH_CNT n, Reg.TRS_CH_FAULT n] ++ (List.range 16).flatMap (fun k => [Reg.TRS_CH_STAT k, Reg.TRS_CH_CUR k])) ∧
      SameMem s t ∧ t.get (Fld.TRS_CH_CNT_THERMAL n) = min 65535 (s.get (Fld.TRS_CH_CNT_THERMAL n) + 1) ∧
      t.bit (Fld.TRS_CH_FAULT_THERM n) = true ∧ (t.chan n).hot = true ∧
      (if s.bit (Fld.TRS_CH_CFG_THERM_LATCH n) = true ∨ s.get (Fld.TRS_CH_PROT_THERM_N n) <
          ((s.chan n).therms.filter (fun x => decide (s.siteNs - x ≤ 10000000000))).length + 1
       then (t.chan n).latched = true else (t.chan n).therm = true))) ∧
  Completes (.thermalRestart n) s (fun t =>
    SameRegs s t ((List.range 16).flatMap (fun k => [Reg.TRS_CH_STAT k, Reg.TRS_CH_CUR k])) ∧ SameMem s t ∧
    (t.chan n).hot = false ∧ (t.chan n).therm = false)

/-- A command reaches the members of its group, and is ignored by a channel that a Stay block owns or that follows a
leader; clearing a fault of a channel that is not hot releases its latch. A PWM period start brings the commanded duty
into force. A sample of a fully on channel outside a load dump joins the last eight, sets STAT.LIMIT to the limit's
state and ION to the mean of the samples kept. Open load under OL_THRESH and the off-state test set their FAULT bit
and change nothing else. The end of a hold sets FAULT.KA_EXP and turns the channel off. SEL3 to SEL0 change the SNS
selection alone. A load dump sets and clears DUMP everywhere, keeps DUMP_SEEN, and changes no other register. (R669, R672, R673, R679, R682, R683, R684, R685, R686, R688, R690) -/
def Obligations.TrestleDiagnosisActs : Prop :=
  ∀ (s : State) (n : Fin 16), s.shaped = true →
  (s.get (Fld.TRS_CH_CFG_PWM_F n) ≠ 0 →
    Completes (.pwmPeriodStart n) s (fun t => (t.chan n).duty = (s.chan n).want ∧
      SameRegs s t ((List.range 16).flatMap (fun k => [Reg.TRS_CH_STAT k, Reg.TRS_CH_CUR k])) ∧ SameMem s t)) ∧
  (∀ (ua : Nat) (limiting : Bool), s.get (Fld.TRS_CH_STAT_STATE n) = 1 → s.bit Fld.TRS_SUPPLY_DUMP = false → s.trsDelivered n = 255 →
    s.bit (Fld.TRS_CH_CFG_LOWRANGE n) = false →
    Completes (.diagnosisSample n ua limiting false) s (fun t =>
      t.bit (Fld.TRS_CH_STAT_LIMIT n) = limiting ∧
      (t.chan n).samples = (min 12000 (10 * (roundFree ((ua : Rat) / 10000)).toNat) :: (s.chan n).samples).take 8 ∧
      t.get (Fld.TRS_CH_CUR_ION n) = (roundFree (((t.chan n).samples.sum : Rat) / (t.chan n).samples.length)).toNat % 65536 ∧
      SameRegs s t [Reg.TRS_CH_STAT n, Reg.TRS_CH_CUR n] ∧ SameMem s t)) ∧
  (s.get (Fld.TRS_CH_STAT_STATE n) = 1 → s.trsSampled n = true → s.trsIon n < s.get (Fld.TRS_CH_OL_OL_THRESH n) →
    exec (.openLoad n) s = .next (s.putB (Fld.TRS_CH_FAULT_OPEN n) true)) ∧
  (s.bit (Fld.TRS_CH_CFG_OFFDIAG n) = true → s.get (Fld.TRS_CH_STAT_STATE n) ≠ 1 →
    exec (.offStateTest n) s = .next (s.putB (Fld.TRS_CH_FAULT_OFF_HIGH n) true)) ∧
  ((s.chan n).hold.isSome = true →
    Completes (.keepAliveExpiry n) s (fun t => t.bit (Fld.TRS_CH_FAULT_KA_EXP n) = true ∧ (t.chan n).hold = none ∧
      (t.chan n).want = 0 ∧ (t.chan n).duty = 0 ∧
      SameRegs s t (Reg.TRS_CH_FAULT n :: (List.range 16).flatMap (fun k => [Reg.TRS_CH_STAT k, Reg.TRS_CH_CUR k])) ∧ SameMem s t)) ∧
  (∀ sel : Fin 16, exec (.snsSelect sel) s = .next { s with trs := { s.trs with sel := sel } }) ∧
  (∀ above : Bool, Completes (.loadDump above) s (fun t =>
    t.bit Fld.TRS_SUPPLY_DUMP = above ∧ t.bit Fld.TRS_SUPPLY_DUMP_SEEN = (above || s.bit Fld.TRS_SUPPLY_DUMP_SEEN) ∧
    (∀ k : Fin 16, t.bit (Fld.TRS_CH_STAT_DUMP k) = above) ∧
    SameRegs s t (Reg.TRS_SUPPLY :: (List.range 16).map Reg.TRS_CH_STAT) ∧ OnlyRegs s t)) ∧
  (∀ (m : Master) (v : Word),
    (s.takes m (Reg.TRS_CH_CTRL n) = true →
      (((s.trsOwner n).isSome = true ∨ s.trsLeader n ≠ n) → exec (.trestleCommand m n v) s = .next s) ∧
      ((s.trsOwner n).isSome = false → s.trsLeader n = n → Completes (.trestleCommand m n v) s (fun t =>
        let w := if v.toNat.testBit 0 then v.toNat / 2 ^ 24 else 0
        t.bit (Fld.TRS_CH_CTRL_ON n) = v.toNat.testBit 0 ∧ t.get (Fld.TRS_CH_CTRL_DUTY n) = v.toNat / 2 ^ 24 ∧
        t.bit (Fld.TRS_CH_STAT_HELD n) = false ∧
        (∀ k ∈ s.trsMembers n, (t.chan k).want = w ∧
          (t.chan k).duty = (if w = 0 ∨ s.get (Fld.TRS_CH_CFG_PWM_F k) = 0 then w else (s.chan k).duty)) ∧
        SameRegs s t (Reg.TRS_CH_CTRL n :: (List.range 16).flatMap (fun k => [Reg.TRS_CH_STAT k, Reg.TRS_CH_CUR k])) ∧ SameMem s t))) ∧
    (s.takes m (Reg.TRS_CH_FAULT n) = true → (s.chan n).hot = false → Completes (.trestleFaultClear m n v) s (fun t =>
      (∀ b : Fin 6, (t.reg (Reg.TRS_CH_FAULT n)).testBit b = ((s.reg (Reg.TRS_CH_FAULT n)).testBit b && !v.toNat.testBit b)) ∧
      (t.chan n).latched = ((s.chan n).latched && (s.reg (Reg.TRS_CH_FAULT n) &&& v.toNat) == 0) ∧
      SameRegs s t (Reg.TRS_CH_FAULT n :: (List.range 16).flatMap (fun k => [Reg.TRS_CH_STAT k, Reg.TRS_CH_CUR k])) ∧ SameMem s t)))

/-- VIN failure and ground loss, on a device with VIN: VIN_OK reads 0, the image load is undone, every register outside
the Abutment, the housekeeping, the Pylon and the Trestle blocks takes its reset value, every channel is off and keeps
what its protection has latched, SRAM and DRAM are lost (read as unwritten) and the Abutment store stays. VIN good
after a failure: VIN_OK reads 1, all domains are on, the state is RUN and RSTCAUSE and PSSTAT.LAST tell a cold start
from a return from OFF. A VIN warning, the changeover to VBAT, VBAT low and the arming of the last gasp each set their
one bit. Loss of VBAT on VBAT sets RTCSTAT.LOST, empties the memory and leaves no start state. The end of the last
gasp ends it; without VIN the device is then OFF with PD0 alone. That lost memory reads as unwritten is the model's
choice (log entry 40). (R452, R698, R700, R701, R702, R703, R737) -/
def Obligations.SupplyLossAndReturnAct : Prop :=
  ∀ s : State,
  (s.bit Fld.ABT_SUPPLY_VIN_OK = true → ∀ i ∈ [Instr.vinFailure, Instr.gndLoss],
    Completes i s (fun t => t.bit Fld.ABT_SUPPLY_VIN_OK = false ∧ t.load = {} ∧ t.img = [] ∧
      (∀ a, a / 0x10000 ∉ [0x4001, 0x4002, 0x4003, 0x400F] → t.reg a = (regReset a).toNat) ∧
      (∀ a, t.memB a = if a < 0x08004000 then s.memB a else 0) ∧ t.trs.chans = s.trs.chans.map Channel.off)) ∧
  (s.bit Fld.ABT_SUPPLY_VIN_OK = false → ∀ elapsed : Nat,
    Completes (.vinGood elapsed) s (fun t => t.bit Fld.ABT_SUPPLY_VIN_OK = true ∧ t.pwr.st = .run ∧ t.pwr.domains = 0x3FF ∧
      t.get Fld.ABT_RSTCAUSE_CAUSE = (if s.pwr.cold then 0 else 1) ∧ t.get Fld.ABT_PSSTAT_LAST = (if s.pwr.cold then 0 else 3) ∧
      t.load = {} ∧ SameMem s t)) ∧
  (s.bit Fld.ABT_SUPPLY_VIN_OK = true → exec .vinWarn s = .next (s.putB Fld.ABT_SUPPLY_VIN_WARN true)) ∧
  (s.bit Fld.ABT_SUPPLY_VIN_OK = false →
    exec .pd0SupplyChangeover s = .next { s.putB Fld.ABT_SUPPLY_ON_VBAT true with pwr := { s.pwr with onVbat := true } }) ∧
  (s.pwr.onVbat = false → ∀ below : Bool, exec (.vbatLow below) s = .next (s.putB Fld.ABT_SUPPLY_VBAT_LOW below)) ∧
  (s.pwr.domains.testBit 1 = true → ∀ armed : Bool,
    exec (.lastGaspArmed armed) s = .next { s.putB Fld.TOL_BOOK_LG_ARMED armed with pwr := { s.pwr with vhold30 := armed } }) ∧
  (s.bit Fld.ABT_SUPPLY_VIN_OK = false → s.pwr.onVbat = true →
    Completes .vbatLoss s (fun t => t.bit Fld.ABT_RTCSTAT_LOST = true ∧ t.bit Fld.ABT_SUPPLY_VBAT_LOW = true ∧ t.pwr.cold = true ∧
      (∀ a, t.memB a = 0) ∧ t.prp = {} ∧ t.tol.book = s.tol.book)) ∧
  (s.tol.lgRun.isSome = true → s.bit Fld.ABT_SUPPLY_VIN_OK = false → ∀ energies marker : Bool,
    Completes (.lastGaspEnd energies marker) s (fun t => t.tol.lgRun = none ∧ t.pwr.st = .off ∧ t.pwr.domains = 1 ∧
      SameRegs s t [] ∧ SameMem s t))

/-- From a device with VIN that is not OFF and holds no junction shutdown, a device reset with cause 2 to 6, a watchdog
expiry, the reset after a double fault and a write of bit 0 with the key 0x9E27 to ABT_RESET each give RSTCAUSE its
cause (3, 4 and 2 for the last three), the state RUN with all domains on, a load that starts again from the boot ROM,
every register outside the Abutment, housekeeping, Pylon and Trestle blocks at its reset value, and the Abutment store
as it was. The watchdog: its half marks it, a kick with the key 0xA5C3 restarts it, an enable sets its TIMEOUT and EN,
and changes no other register. (R10, R78, R616, R723, R724, R725) -/
def Obligations.DeviceResetsRestart : Prop :=
  ∀ s : State,
  (s.bit Fld.ABT_SUPPLY_VIN_OK = true → s.pwr.st ≠ .off → s.pwr.shutLatch = false →
    ∀ (i : Instr) (cause : Nat),
      ((∃ c : Fin 8, i = .deviceReset c ∧ c.val = cause ∧ 2 ≤ cause ∧ cause ≤ 6) ∨
       (i = .watchdogExpiry ∧ s.bit Fld.ABT_WDOG_EN = true ∧ s.pwr.st ≠ .standby ∧ s.pwr.st ≠ .park ∧ cause = 3) ∨
       (i = .doubleFaultReset ∧ s.prp.doubleHeld = true ∧ s.prp.outDelay = false ∧ s.get Fld.PRP_PSOSTAT_ON = 0 ∧ cause = 4) ∨
       (∃ (m : Master) (v : Word), i = .firmwareReset m v ∧ s.takes m Reg.ABT_RESET = true ∧ v.toNat / 65536 = 0x9E27 ∧
         v.toNat.testBit 0 = true ∧ cause = 2)) →
      Completes i s (fun t => t.get Fld.ABT_RSTCAUSE_CAUSE = cause ∧ t.pwr.st = .run ∧ t.pwr.domains = 0x3FF ∧ t.load = {} ∧ t.img = [] ∧
        (∀ a, a / 0x10000 ∉ [0x4001, 0x4002, 0x4003, 0x400F] → t.reg a = (regReset a).toNat) ∧
        (∀ a, a < 0x08004000 → t.memB a = s.memB a))) ∧
  (s.bit Fld.ABT_WDOG_EN = true → s.pwr.st = .run → exec .watchdogHalf s = .next { s with pwr := { s.pwr with wdHalf := true } }) ∧
  (∀ (m : Master) (v : Word), s.takes m Reg.ABT_WDKICK = true → s.bit Fld.ABT_WDOG_EN = true → v.toNat / 65536 = 0xA5C3 → v.toNat.testBit 0 = true →
    exec (.watchdogKick m v) s = .next { s with pwr := { s.pwr with wdHalf := false } }) ∧
  (∀ (m : Master) (v : Word), s.takes m Reg.ABT_WDOG = true → s.bit Fld.ABT_WDOG_EN = false →
    Completes (.watchdogEnable m v) s (fun t => t.bit Fld.ABT_WDOG_EN = v.toNat.testBit 31 ∧ t.get Fld.ABT_WDOG_TIMEOUT = v.toNat % 2 ^ 24 ∧
      t.pwr.wdHalf = false ∧ SameRegs s t [Reg.ABT_WDOG] ∧ SameMem s t))

/-- A permitted request for STANDBY or PARK that R711 does not refuse starts the entry: BUSY 1, STEP and RESULT 0. A
checkpoint reached after a wake source became active ends the entry with RESULT 4; otherwise STEP goes 0, 1, 2, 3, 4,
the save area of R708 is written at the second, and the fourth leaves STANDBY with PD0 to PD2 on, or PARK with PD0
alone. WFI on all cores enters DOZE where it is enabled, an interrupt leaves it. A write to PADHOLD releases the pads
of the bits written 1. An enabled wake source, or the RTC alarm enabled as one, wakes a sleeping device: all domains
are on, Pylon re-streams, PSSTAT.LAST names the state left; an alarm that is due and no wake source sets RTCSTAT.ALARM
alone. (R706, R711, R712, R714, R715, R716) -/
def Obligations.PowerStatesFollowRequestsAndWakes : Prop :=
  ∀ s : State,
  (∀ (m : Master) (v : Word), s.takes m Reg.ABT_PSREQ = true → v.toNat / 65536 = 0x5B3E → (v.toNat % 4 = 1 ∨ v.toNat % 4 = 2) →
    s.refusal (v.toNat % 4) = 0 → s.bit Fld.ABT_PSSTAT_BUSY = false →
    Completes (.stateRequest m v) s (fun t => t.bit Fld.ABT_PSSTAT_BUSY = true ∧ t.get Fld.ABT_PSSTAT_STEP = 0 ∧
      t.get Fld.ABT_PSSTAT_RESULT = 0 ∧ t.pwr.target = v.toNat % 4 ∧ SameRegs s t [Reg.ABT_PSSTAT] ∧ SameMem s t)) ∧
  (s.bit Fld.ABT_PSSTAT_BUSY = true → ∀ pins : BitVec 8,
    (s.pwr.wakeSeen = true → s.pwr.st = .run → s.pwr.heldTx = [] →
      Completes (.entryCheckpoint pins) s (fun t => t.bit Fld.ABT_PSSTAT_BUSY = false ∧ t.get Fld.ABT_PSSTAT_RESULT = 4 ∧
        t.bit Fld.ABT_PSSTAT_PEND = false ∧ SameRegs s t [Reg.ABT_PSSTAT] ∧ SameMem s t)) ∧
    (s.pwr.wakeSeen = false → s.get Fld.ABT_PSSTAT_STEP = 0 →
      Completes (.entryCheckpoint pins) s (fun t => t.get Fld.ABT_PSSTAT_STEP = 1 ∧ t.pwr.wakeSeen = s.pinActive pins.toNat)) ∧
    (s.pwr.wakeSeen = false → s.get Fld.ABT_PSSTAT_STEP = 1 → s.tol.saving = none → s.pwr.st = .run →
      Completes (.entryCheckpoint pins) s (fun t => t.get Fld.ABT_PSSTAT_STEP = 2 ∧ t.pwr.saved = s.saveArea ∧
        SameRegs s t [Reg.ABT_PSSTAT] ∧ SameMem s t)) ∧
    (s.pwr.wakeSeen = false → s.get Fld.ABT_PSSTAT_STEP = 2 →
      exec (.entryCheckpoint pins) s = .next (s.put Fld.ABT_PSSTAT_STEP 3)) ∧
    (s.pwr.wakeSeen = false → s.get Fld.ABT_PSSTAT_STEP = 3 → s.bit Fld.ABT_PSSTAT_PEND = false →
      Completes (.entryCheckpoint pins) s (fun t => t.bit Fld.ABT_PSSTAT_BUSY = false ∧ t.get Fld.ABT_PSSTAT_RESULT = 1 ∧
        t.get Fld.ABT_PADHOLD_HOLD = 0x7F ∧
        (if s.pwr.target = 2 then t.pwr.st = .park ∧ t.pwr.domains = 1 else t.pwr.st = .standby ∧ t.pwr.domains = 7)))) ∧
  (s.pwr.st = .run → s.load.stage = .run → s.bit Fld.ABT_PSCTL_DOZE_EN = true →
    exec .dozeEntry s = .next { s with pwr := { s.pwr with st := .doze } }) ∧
  (s.pwr.st = .doze → exec .dozeExit s = .next { s with pwr := { s.pwr with st := .run } }) ∧
  (∀ (m : Master) (v : Word), s.takes m Reg.ABT_PADHOLD = true → v.toNat.testBit 3 = false →
    Completes (.padRelease m v) s (fun t =>
      t.get Fld.ABT_PADHOLD_HOLD = mclr (s.get Fld.ABT_PADHOLD_HOLD) (v.toNat / 8 % 128) ∧ SameRegs s t [Reg.ABT_PADHOLD] ∧ OnlyRegs s t)) ∧
  (∀ (src : BitVec 24) (elapsed : Nat), (s.pwr.st = .standby ∨ s.pwr.st = .park) → s.bit Fld.ABT_PSSTAT_BUSY = false → s.load.wake = false →
    src.toNat &&& s.wakeMask (s.pwr.st == .park) ≠ 0 →
    Completes (.wakeEvent src elapsed) s (fun t => t.load.wake = true ∧ t.pwr.domains = 0x3FF ∧ t.pyl.serving = some 0 ∧
      t.get Fld.ABT_PSSTAT_LAST = (if s.pwr.st = .park then 2 else 1) ∧ SameMem s t)) ∧
  (∀ elapsed : Nat, s.pwr.st = .run → s.get Fld.ABT_ALARMLO_SEC + 2 ^ 32 * s.get Fld.ABT_ALARMHI_SEC ≠ 0 →
    s.get Fld.ABT_ALARMLO_SEC + 2 ^ 32 * s.get Fld.ABT_ALARMHI_SEC ≤ s.tol.bill.floor.toNat →
    s.bit Fld.ABT_WAKECFG_RTC = false → exec (.rtcAlarm elapsed) s = .next (s.putB Fld.ABT_RTCSTAT_ALARM true)) ∧
  (∀ elapsed : Nat, s.pwr.st = .standby → s.get Fld.ABT_ALARMLO_SEC + 2 ^ 32 * s.get Fld.ABT_ALARMHI_SEC ≠ 0 →
    s.get Fld.ABT_ALARMLO_SEC + 2 ^ 32 * s.get Fld.ABT_ALARMHI_SEC ≤ s.tol.bill.floor.toNat →
    s.bit Fld.ABT_WAKECFG_RTC = true → s.bit Fld.ABT_PSSTAT_BUSY = false → s.load.wake = false →
    Completes (.rtcAlarm elapsed) s (fun t => t.load.wake = true ∧ t.get Fld.ABT_PSSTAT_LAST = 1 ∧ t.bit Fld.ABT_WAKEEVT_RTC = true))

/-- While control periods count the time (RUN): the crystal's stop sets ON_RC and GAP, its return clears ON_RC, a
calibration window sets RTCDEV and, beyond 200 ppm, DEV, and the copy of the time record takes EB, DRIFT and billing
time. Nothing else changes. (R719, R720, R722) -/
def Obligations.RtcEventsAct : Prop :=
  ∀ s : State, s.pwr.st = .run →
  (s.pwr.xtalOff = false → ∀ e : Nat, exec (.rtcCrystalStop e) s =
    .next { (s.putB Fld.ABT_RTCSTAT_ON_RC true).putB Fld.ABT_RTCSTAT_GAP true with pwr := { s.pwr with xtalOff := true } }) ∧
  (s.pwr.xtalOff = true → ∀ e : Nat, exec (.rtcCrystalReturn e) s =
    .next { s.putB Fld.ABT_RTCSTAT_ON_RC false with pwr := { s.pwr with xtalOff := false } }) ∧
  (s.pwr.xtalOff = false → ∀ dev : Int, Completes (.rcCalibration dev) s (fun t =>
    t.get Fld.ABT_RTCDEV_PPM = ofS Fld.ABT_RTCDEV_PPM.w (clampI dev (-(2 ^ (Fld.ABT_RTCDEV_PPM.w - 1))) (2 ^ (Fld.ABT_RTCDEV_PPM.w - 1) - 1)) ∧
    t.bit Fld.ABT_RTCSTAT_DEV = (decide (200 * 65536 < dev.natAbs) || s.bit Fld.ABT_RTCSTAT_DEV) ∧
    SameRegs s t [Reg.ABT_RTCDEV, Reg.ABT_RTCSTAT] ∧ OnlyRegs s t)) ∧
  (s.tol.run = true → exec .timeRecordCopy s =
    .next { s with pwr := { s.pwr with recEb := s.tol.eb, recDrift := s.get Fld.TOL_TLIM_DRIFT, recAt := s.tol.bill } })

/-- An awake device that had no vote at the shutdown level in the last round ends a round with every sensor's count in
HKP_TSn, every rail in HKP_RAILn, and NOW consumed; memory is unchanged. A grace that ends while the request holds
enforces the throttle; one that ends without it is over. A permitted write of HKP_THRCTL sets GRACE within 5 to 200
and keeps it otherwise, and its bit 8 asks for the throttle at the end of the round. A Truss read-back check that
finds equality changes nothing but the cause of code 0x0E; one that does not asserts the safe state and is recorded. (R658, R728, R732, R733, R734, R735) -/
def Obligations.HousekeepingActs : Prop :=
  ∀ s : State,
  (∀ (counts : List (BitVec 16)) (temps : List Int) (rails : List (BitVec 16)), s.shaped = true →
    s.pwr.st ≠ .park → s.pwr.st ≠ .off → s.pwr.shutLatch = false → s.hkp.vote = false →
    Completes (.housekeepingRound counts temps rails) s (fun t =>
      (∀ n : Fin 12, t.get (Fld.HKP_TS_COUNT n) = (nth 0 counts n).toNat) ∧ (∀ k : Fin 8, t.get (Fld.HKP_RAIL_MV k) = (nth 0 rails k).toNat) ∧
      t.hkp.now = false ∧ SameMem s t)) ∧
  (s.bit Fld.HKP_TSTAT_GRACE = true → s.bit Fld.HKP_TSTAT_REQ = true → s.bit Fld.HKP_TSTAT_ENFORCED = false →
    exec .graceExpiry s = .next { ((s.putB Fld.HKP_TSTAT_GRACE false).putB Fld.HKP_TSTAT_ENFORCED true).putB Fld.HKP_EVT_ENFORCE true with
      hkp := { s.hkp with clear := 0 } }) ∧
  (s.bit Fld.HKP_TSTAT_GRACE = true → s.bit Fld.HKP_TSTAT_REQ = false → exec .graceExpiry s = .next (s.putB Fld.HKP_TSTAT_GRACE false)) ∧
  (∀ (m : Master) (v : Word), s.takes m Reg.HKP_THRCTL = true →
    Completes (.throttleNow m v) s (fun t => t.hkp.now = (v.toNat.testBit 8 || s.hkp.now) ∧
      t.get Fld.HKP_THRCTL_GRACE = (if 5 ≤ v.toNat % 256 ∧ v.toNat % 256 ≤ 200 then v.toNat % 256 else s.get Fld.HKP_THRCTL_GRACE) ∧
      SameRegs s t [Reg.HKP_THRCTL] ∧ SameMem s t)) ∧
  (s.prp.running = true → s.pwr.domains.testBit 3 = true →
    exec (.trussReadbackCheck true) s = .next { s with prp := { s.prp with trussBad := false } } ∧
    Completes (.trussReadbackCheck false) s (fun t => t.prp.trussBad = true ∧ t.bit Fld.PRP_STAT_SAFE = true ∧ SameMem s t ∧
      (s.parapetFree 0x0E 1 = true → Recorded t 0x0E 1 0xFF 0xFF 0xFFF)))

/-- Of a command in service whose inputs Pylon may read: an ALG that the operation does not take ends it with 0x20, a slot
without a key of its ALG with 0x21, a usage that does not serve the operation with 0x23. Otherwise random bytes fill
OUT_CAP, a hash, cipher, signature, shared secret or encapsulation is written at OUT_ADDR, a generated key or an
opened blob enters its slot, a clear empties it, and keys that hash to a live slot are presented. Outputs beyond
OUT_CAP end with 0x22, outputs that the access map refuses with 0x10. No other byte of memory and no register but
KPRES changes. What the spec names without its octet strings stays a constant without a value (log entry 30). (R746, R757, R758, R759, R760, R764, R768) -/
def Obligations.PylonServesKeyCommands : Prop :=
  ∀ (s : State) (c : PylCmd),
  let i := s.readBytes c.inA c.inL
  let j := s.readBytes c.in2A c.in2L
  let k := nth {} s.pyl.store c.slot
  (s.serves c 0x01 → Completes .randomBytes s (fun t => SameRegs s t [] ∧ ∃ out, out.length = c.cap ∧ Settles s t c out)) ∧
  (s.serves c 0x02 → Completes .hash s (fun t => SameRegs s t [] ∧ match (Config.algOf c.alg).filter hashAlg with
    | some a => Settles s t c (hashOf a c.cap i)
    | none => EndsWith s t c 0x20)) ∧
  (s.serves c 0x03 → Completes .aesGcm s (fun t => SameRegs s t [] ∧ match (Config.algOf c.alg).filter aesAlg with
    | some a => if k.alg ≠ some c.alg then EndsWith s t c 0x21 else if k.usage ≠ 0 then EndsWith s t c 0x23
        else (match Config.gcmOp a k.key i j with
          | some o => Settles s t c o
          | none => ∃ st, st ≠ 0 ∧ EndsWith s t c st)
    | none => EndsWith s t c 0x20)) ∧
  (s.serves c 0x10 → Completes .keyGenerate s (fun t => SameRegs s t [] ∧ match (Config.algOf c.alg).filter (fun a => !hashAlg a) with
    | some a => if 2 < c.usage then EndsWith s t c 0x20 else if s.hasIds = false then EndsWith s t c 0x23
        else if 16 ≤ c.slot then EndsWith s t c 0x21
        else ∃ x nonce, nonce.length = 12 ∧
          let blob := blobHead c.alg c.usage s.lifecycle ++ nonce ++
            gcmSeal s.wrapKey nonce (blobHead c.alg c.usage s.lifecycle) (Config.keyGen a x).1
          Settles s t c ((Config.keyGen a x).2 ++ blob) ∧
          (t.pyl.cmd.map PylCmd.status = some 0 → c.slot < s.pyl.store.length →
            nth {} t.pyl.store c.slot = { alg := some c.alg, usage := c.usage, key := (Config.keyGen a x).1 })
    | none => EndsWith s t c 0x20)) ∧
  (s.serves c 0x11 → Completes .blobLoad s (fun t => SameRegs s t [] ∧ SameMem s t ∧
    (s.hasIds = false → EndsWith s t c 0x23) ∧
    (s.hasIds = true → (i.take 16 ≠ blobHead (leAt i 4 1) (leAt i 5 1) s.lifecycle ∨ 16 ≤ c.slot) → EndsWith s t c 0x21) ∧
    (s.hasIds = true → i.take 16 = blobHead (leAt i 4 1) (leAt i 5 1) s.lifecycle → c.slot < 16 →
      (match gcmOpen s.wrapKey ((i.drop 16).take 12) (i.take 16) (i.drop 28) with
        | none => EndsWith s t c 0x21
        | some key => EndsWith s t c 0 ∧ (c.slot < s.pyl.store.length →
            nth {} t.pyl.store c.slot = { alg := some (leAt i 4 1), usage := leAt i 5 1, key := key }))))) ∧
  (s.serves c 0x12 → Completes .slotClear s (fun t => SameRegs s t [] ∧ EndsWith s t c (if 16 ≤ c.slot then 0x21 else 0) ∧
    (c.slot < 16 → nth {} t.pyl.store c.slot = {}) ∧ ∀ n, n ≠ c.slot → nth {} t.pyl.store n = nth {} s.pyl.store n)) ∧
  (s.serves c 0x13 → Completes .keyPresent s (fun t =>
    (c.slot < 12 → s.slotLive c.slot = true → i.length = 1984 → sha3 256 i = nth [] s.pyl.hashes c.slot →
      EndsWith s t c 0 ∧ SameRegs s t [Reg.PYL_KPRES] ∧ (∀ g : Fin 12, (t.get Fld.PYL_KPRES_PRESENTED).testBit g =
        ((s.get Fld.PYL_KPRES_PRESENTED).testBit g || g.val == c.slot)) ∧ (c.slot < s.pyl.keys.length → nth [] t.pyl.keys c.slot = i)) ∧
    (¬ (c.slot < 12 ∧ s.slotLive c.slot = true ∧ i.length = 1984 ∧ sha3 256 i = nth [] s.pyl.hashes c.slot) →
      EndsWith s t c 2 ∧ SameRegs s t []))) ∧
  (s.serves c 0x14 → Completes .devidKeys s (fun t => SameRegs s t [] ∧
    if s.hasIds = true ∧ s.bit Fld.PYL_STAT_DEBUG = false then Settles s t c (pairOf s.devSeed) else EndsWith s t c 0x23)) ∧
  (s.serves c 0x20 → Completes .sign s (fun t => SameRegs s t [] ∧ match (Config.algOf c.alg).filter sigAlg with
    | some a => if k.alg ≠ some c.alg then EndsWith s t c 0x21 else if k.usage < 2 then ∃ x, Settles s t c (Config.signOp a k.key i x)
        else EndsWith s t c 0x23
    | none => EndsWith s t c 0x20)) ∧
  (s.serves c 0x21 → Completes .verify s (fun t => SameRegs s t [] ∧ SameMem s t ∧ match (Config.algOf c.alg).filter sigAlg with
    | some a => if Config.verifyOp a i j = true then EndsWith s t c 0 else ∃ st, st ≠ 0 ∧ EndsWith s t c st
    | none => EndsWith s t c 0x20)) ∧
  (s.serves c 0x30 → Completes .keyAgreement s (fun t => SameRegs s t [] ∧ match (Config.algOf c.alg).filter agreeAlg with
    | some a => if k.alg ≠ some c.alg then EndsWith s t c 0x21 else if k.usage = 0 then Settles s t c (Config.agreeOp a k.key i)
        else EndsWith s t c 0x23
    | none => EndsWith s t c 0x20)) ∧
  (s.serves c 0x31 → Completes .kemDecapsulate s (fun t => SameRegs s t [] ∧ match (Config.algOf c.alg).filter kemAlg with
    | some a => if k.alg ≠ some c.alg then EndsWith s t c 0x21 else if k.usage ≠ 1 then Settles s t c (Config.decap a k.key i)
        else EndsWith s t c 0x23
    | none => EndsWith s t c 0x20)) ∧
  (s.serves c 0x32 → Completes .kemEncapsulate s (fun t => SameRegs s t [] ∧ match (Config.algOf c.alg).filter kemAlg with
    | some a => ∃ x, Settles s t c (Config.encap a i x)
    | none => EndsWith s t c 0x20))

/-- An element that passes every check extends M3, joins the elements since reset and enters its body in the first free
region; another ends with its reason and changes nothing. The boot element is copied and checked by the boot ROM after
the load: accepted, its ENTRY is noted; refused, FWSTAT holds the reason, BOOT_FAIL is set and Deck core 0 halts. A
withdrawal clears its region. A report is written, or ends with 0x23 in DEBUG or without identities. An authorisation
refused sets AUTH_REF and ends with 0x24; one accepted fuses, revokes, moves to RETURN from the next reset or unlocks
debug, and sets AUTH_OK. (R747, R751, R752, R753, R757, R764, R765, R766, R767, R768) -/
def Obligations.PylonVerifiesElementsAndAuthorisations : Prop :=
  ∀ (s : State) (c : PylCmd),
  (s.serves c 0x40 → Completes .elementVerify s (fun t =>
    let h := s.readBytes c.inA 256
    EndsWith s t c (s.elemReason c.inA) ∧ (s.elemReason c.inA ≠ 0 → SameRegs s t [] ∧ t.pyl.elems = s.pyl.elems) ∧
    (s.elemReason c.inA = 0 → t.pyl.elems = s.pyl.elems ++ [(leAt h 7 1, leAt h 8 1, (leAt h 9 1).testBit 0)] ∧
      (∀ w : Fin 16, t.reg (Reg.PYL_MEAS 3 w) = leAt (sha3 512 (s.meas 3 ++ sha3 512 h)) (4 * w) 4) ∧
      ∃ r : Fin 16, s.freeRegion = some r.val ∧ t.bit (Fld.PYL_XRGN_VALID r) = true ∧ t.get (Fld.PYL_XRGN_BASE r) = leAt h 0x10 4 / 4096 ∧
        t.get (Fld.PYL_XRGN_PAGES r) = (leAt h 0x0C 4 + 4095) / 4096 ∧
        SameRegs s t (Reg.PYL_XRGN r :: (List.range 16).map (Reg.PYL_MEAS 3))))) ∧
  (s.serves c 0x41 → Completes .regionWithdraw s (fun t =>
    (c.slot < 16 → EndsWith s t c 0 ∧ t.reg (Reg.PYL_XRGN c.slot) = 0 ∧ SameRegs s t [Reg.PYL_XRGN c.slot]) ∧
    (16 ≤ c.slot → SameRegs s t [] ∧ ∃ st, st ≠ 0 ∧ EndsWith s t c st))) ∧
  (s.serves c 0x50 → Completes .attestationReport s (fun t => SameRegs s t [] ∧
    if s.hasIds = true ∧ s.bit Fld.PYL_STAT_DEBUG = false then
      ∃ e : List Byte, t.pyl.endorse = e ∧ (s.pyl.endorse ≠ [] → e = s.pyl.endorse) ∧
        (s.pyl.endorse = [] → ∃ y, e = edSign s.devSeed (sha3 512 (pairOf s.aliasSeed)) ++
          (mlSign s.devSeed (sha3 512 (pairOf s.aliasSeed)) (toLE 32 y)).getD (toLE 3309 y)) ∧
        ∀ h, h = State.reportHead { s with pyl := { s.pyl with endorse := e } } (s.readBytes c.inA c.inL) →
          ∃ x, Settles s t c (h ++ (edSign s.aliasSeed (sha3 512 h) ++ (mlSign s.aliasSeed (sha3 512 h) (toLE 32 x)).getD (toLE 3309 x)))
    else EndsWith s t c 0x23)) ∧
  (s.serves c 0x60 → Completes .keyAuthorisation s (fun t =>
    let a := s.readBytes c.inA c.inL
    let kind := leAt a 4 1
    if kind = 1 ∧ s.lifecycle = 3 ∨ kind = 3 ∧ s.lifecycle ≠ 2 then EndsWith s t c 0x23 ∧ SameRegs s t []
    else if s.authBad a = true then EndsWith s t c 0x24 ∧ t.bit Fld.PYL_EVT_AUTH_REF = true ∧ SameRegs s t [Reg.PYL_EVT]
    else EndsWith s t c 0 ∧ t.bit Fld.PYL_EVT_AUTH_OK = true ∧
      SameRegs s t ([Reg.PYL_EVT, Reg.PYL_KFUSE, Reg.PYL_STAT] ++ (List.range 8).map Reg.PYL_NONCE) ∧
      (kind = 1 → (t.get Fld.PYL_KFUSE_FUSED).testBit (authSlot a) = true ∧ t.get Fld.PYL_KFUSE_REVOKED = s.get Fld.PYL_KFUSE_REVOKED) ∧
      (kind = 2 → (t.get Fld.PYL_KFUSE_REVOKED).testBit (authSlot a) = true ∧ t.get Fld.PYL_KFUSE_FUSED = s.get Fld.PYL_KFUSE_FUSED) ∧
      (kind = 3 → t.pyl.lcNext = 3 ∧ t.lifecycle = s.lifecycle) ∧ (kind = 4 → t.bit Fld.PYL_STAT_DEBUG = true))) ∧
  ((s.load.stage ≠ .run ∨ s.asleep = true) → exec .bootElementVerify s = .next s) ∧
  (s.load.stage = .run → s.asleep = false →
    let h := s.flash s.load.cur (alignUp (leAt s.load.hdr 8 4) 4096) 256
    let a := leAt h 0x10 4 - 256
    let u := s.dmaWrite 0 a (s.flash s.load.cur (alignUp (leAt s.load.hdr 8 4) 4096) (elemLen h))
    ((elemHeaderOk h = false ∨ (leAt h 9 1).testBit 1 = false) → Completes .bootElementVerify s (fun t =>
      t.get Fld.PYL_FWSTAT_REASON = 1 ∧ t.bit Fld.PYL_EVT_BOOT_FAIL = true ∧ t.load.deckHalted = true ∧ t.load.bootEntry = s.load.bootEntry)) ∧
    (elemHeaderOk h = true → (leAt h 9 1).testBit 1 = true → Completes .bootElementVerify s (fun t => SameMem u t ∧
      (u.elemReason a = 0 → t.load.bootEntry = some (leAt h 0x14 4) ∧ t.load.deckHalted = s.load.deckHalted ∧
        t.pyl.elems = s.pyl.elems ++ [(leAt (u.readBytes a 256) 7 1, leAt (u.readBytes a 256) 8 1, (leAt (u.readBytes a 256) 9 1).testBit 0)]) ∧
      (u.elemReason a ≠ 0 → t.get Fld.PYL_FWSTAT_REASON = u.elemReason a ∧ t.bit Fld.PYL_EVT_BOOT_FAIL = true ∧
        t.load.deckHalted = true ∧ t.load.bootEntry = s.load.bootEntry))))

/-- Pylon, once free, takes a Toll record that it may sign, else waiting TLS work, else a firmware command. A completion
writes OUT_LEN and STATUS into the block, sets DONE and clears BUSY; an unknown OP completes with 0x20. A commit with
its key raises each counter that the image, the legal section and the elements since reset name to the versions with
ADVANCE, once per reset; later commits do nothing. LCCTL with its key and TARGET 2 moves PROVISION to DEPLOYED from
the next reset where the slots stand, else sets LC_REF. A poll adds every violation count to its total, saturating,
takes its last address, clears the count and marks NEW, and SAT at 0xFFFF. (R70, R71, R465, R754, R758, R761, R763, R765, R769) -/
def Obligations.PylonServesCommitsAndCounts : Prop :=
  ∀ s : State,
  (∀ tls : Bool, (s.pyl.serving ∈ [some 0, some 1, some 3] → exec (.pylonServeNext tls) s = .next s) ∧
    (s.pyl.serving ∉ [some 0, some 1, some 3] → Completes (.pylonServeNext tls) s (fun t =>
      t = { s with pyl := { s.pyl with serving := t.pyl.serving } } ∧
      (s.tol.toSign ≠ [] → s.maySign = true → t.pyl.serving = some 1) ∧
      ((s.tol.toSign = [] ∨ s.maySign = false) → t.pyl.serving = (if tls then some 2 else s.pyl.cmd.map (fun _ => 3)))))) ∧
  (∀ c : PylCmd, s.pyl.cmd = some c →
    ((s.pyl.serving ≠ some 3 ∨ c.served = false ∧ c.op ∈ knownOps) → exec .pylonCommandDone s = .next s) ∧
    (s.pyl.serving = some 3 → (c.served = true ∨ c.op ∉ knownOps) → s.dmaOk 12 (c.addr + 0x1C) 8 true = true →
      Completes .pylonCommandDone s (fun t =>
        let st := if c.served then c.status else 0x20
        t.get Fld.PYL_CMDCTL_STATUS = st % 65536 ∧ t.bit Fld.PYL_CMDCTL_DONE = true ∧ t.bit Fld.PYL_CMDCTL_BUSY = false ∧
        t.pyl.cmd = none ∧ t.pyl.serving = none ∧ SameRegs s t [Reg.PYL_CMDCTL] ∧
        ∀ a, t.memB a = if c.addr + 0x1C ≤ a ∧ a < c.addr + 0x24 then nth 0 (toLE 4 c.outLen ++ toLE 4 st) (a - (c.addr + 0x1C))
          else s.memB a))) ∧
  (∀ (m : Master) (v : Word), s.takes m Reg.PYL_IMGCOMMIT = true → v.toNat.testBit 0 = true →
    let src := [(leAt s.load.hdr 0x10 1, leAt s.load.hdr 0x11 1, (leAt s.load.hdr 0x13 1).testBit 0)] ++
      (if s.lenOf 8 = 0 then [] else [(s.cfgB 8 0, s.cfgB 8 1, (s.cfgB 8 3).testBit 0)]) ++ s.pyl.elems
    (v.toNat / 65536 ≠ 0xC0A7 → exec (.imageCommit m v) s = .next (s.violate m Reg.PYL_IMGCOMMIT)) ∧
    (v.toNat / 65536 = 0xC0A7 → s.bit Fld.PYL_IMGSTAT_COMMITTED = true → exec (.imageCommit m v) s = .next s) ∧
    (v.toNat / 65536 = 0xC0A7 → s.bit Fld.PYL_IMGSTAT_COMMITTED = false → (∀ e ∈ src, e.1 < 64 ∧ e.2.1 < 256) →
      Completes (.imageCommit m v) s (fun t => t.bit Fld.PYL_IMGSTAT_COMMITTED = true ∧ SameMem s t ∧
        SameRegs s t (Reg.PYL_IMGSTAT :: (List.range 16).map Reg.PYL_CTR) ∧
        ∀ i, i < 64 → t.ctr i = (src.filter (fun e => e.1 == i && e.2.2)).foldl (fun x e => max x e.2.1) (s.ctr i)))) ∧
  (∀ (m : Master) (v : Word), s.takes m Reg.PYL_LCCTL = true →
    let ready := s.lifecycle = 1 ∧ (s.get Fld.PYL_KFUSE_FUSED).testBit 0 = true ∧
      ((s.get Fld.PYL_KFUSE_FUSED).testBit 6 = true ∨ (s.get Fld.PYL_KFUSE_FUSED).testBit 7 = true)
    ((v.toNat / 65536 ≠ 0x1D7E ∨ v.toNat % 4 ≠ 2) → exec (.lifecycleDeploy m v) s = .next s) ∧
    (v.toNat / 65536 = 0x1D7E → v.toNat % 4 = 2 → ready → exec (.lifecycleDeploy m v) s = .next { s with pyl := { s.pyl with lcNext := 2 } }) ∧
    (v.toNat / 65536 = 0x1D7E → v.toNat % 4 = 2 → ¬ ready → exec (.lifecycleDeploy m v) s = .next (s.putB Fld.PYL_EVT_LC_REF true))) ∧
  (s.asleep = false → s.load.stage = .run → Completes .violationPoll s (fun t => SameBlocks s t [0x4000, 0x4003] ∧ SameMem s t ∧
    ∀ n : Fin 19, t.get (Fld.CWY_VIOL_COUNT n) = 0 ∧
      t.get (Fld.PYL_VIOL_VALUE n) = min (2 ^ 32 - 1) (s.get (Fld.PYL_VIOL_VALUE n) + s.get (Fld.CWY_VIOL_COUNT n)) ∧
      (s.get (Fld.CWY_VIOL_COUNT n) ≠ 0 → t.get (Fld.PYL_VADDR_VALUE n) = s.get (Fld.CWY_VADDR_ADDR n)) ∧
      (t.get Fld.PYL_VIOLSUM_NEW).testBit n = ((s.get Fld.PYL_VIOLSUM_NEW).testBit n || s.get (Fld.CWY_VIOL_COUNT n) != 0) ∧
      (t.get Fld.PYL_VIOLSAT_SAT).testBit n = ((s.get Fld.PYL_VIOLSAT_SAT).testBit n || s.get (Fld.CWY_VIOL_COUNT n) == 0xFFFF)))

/-- Source 196 + n is raised while any bit of TRS_CHn_FAULT is 1. Source 25 is raised while PYL_CMDCTL.DONE is 1, source
26 while any bit of PYL_EVT is 1, source 27 while any bit of PYL_VIOLSUM.NEW is 1, and sources 28 to 31 are never
raised. Source 212 + 2n is raised while a queue of host link n holds received frames, source 213 + 2n while RX_OVF or
SYNC_LOST is set. (R57, R696, R771) -/
def Obligations.InterruptSourcesFollowTheirBits : Prop :=
  ∀ (s : State) (other : Nat),
  (∀ n : Fin 2, s.irq other (212 + 2 * n) = (nth {} s.cwy.hosts n).queues.any (fun q => q != []) ∧
    s.irq other (213 + 2 * n) = (s.bit (Fld.HLK_STAT_RX_OVF n) || s.bit (Fld.HLK_STAT_SYNC_LOST n))) ∧
  (∀ n : Fin 16, s.irq other (196 + n) = (s.reg (Reg.TRS_CH_FAULT n) != 0)) ∧
  s.irq other 25 = s.bit Fld.PYL_CMDCTL_DONE ∧ s.irq other 26 = (s.reg Reg.PYL_EVT != 0) ∧ s.irq other 27 = (s.reg Reg.PYL_VIOLSUM != 0) ∧
  s.irq other 28 = false ∧ s.irq other 29 = false ∧ s.irq other 30 = false ∧ s.irq other 31 = false

/-- From every state with sixteen channels, twelve links and the other units in their numbers, a step that answers a next
state answers one with the same units. The statements about one unit take this as their premise. (spec/00_scope.md, spec/95_what_each_step_holds.md) -/
def Obligations.ShapeIsKept : Prop :=
  ∀ s t : State, s.shaped = true → step s = .next t → t.shaped = true

/-- A write of HLK_CTRLn while EN is 1 leaves MODE as it was and writes EN. A write of PYL_IMGCOMMIT with COMMIT and
another key is ignored and counted as a violation. A commit with the key sets COMMITTED, and with COMMITTED 1 a write
with the key, and any write without COMMIT, changes nothing at all. (R56, R71, R107) -/
def Obligations.ModeAndLaterCommitsAreIgnored : Prop :=
  ∀ (s : State) (m : Master) (a v : Word),
  (∀ n : Fin 2, a.toNat = Reg.HLK_CTRL n → s.takes m (Reg.HLK_CTRL n) = true → s.bit (Fld.HLK_CTRL_EN n) = true →
    Completes (.registerWrite m a 4 (v.setWidth 64)) s (fun t => t.get (Fld.HLK_CTRL_MODE n) = s.get (Fld.HLK_CTRL_MODE n) ∧
      t.bit (Fld.HLK_CTRL_EN n) = v.toNat.testBit 0 ∧ SameRegs s t [Reg.HLK_CTRL n, Reg.HLK_STAT n] ∧ SameMem s t)) ∧
  (s.takes m Reg.PYL_IMGCOMMIT = true →
    (v.toNat.testBit 0 = false → exec (.imageCommit m v) s = .next s) ∧
    (v.toNat.testBit 0 = true → v.toNat / 65536 ≠ 0xC0A7 → exec (.imageCommit m v) s = .next (s.violate m Reg.PYL_IMGCOMMIT)) ∧
    (v.toNat.testBit 0 = true → v.toNat / 65536 = 0xC0A7 →
      (s.bit Fld.PYL_IMGSTAT_COMMITTED = true → exec (.imageCommit m v) s = .next s) ∧
      (s.bit Fld.PYL_IMGSTAT_COMMITTED = false → Completes (.imageCommit m v) s (fun t => t.bit Fld.PYL_IMGSTAT_COMMITTED = true ∧ SameMem s t))))
end

