-- ==== Sys2Proof/Laws/Store.lean ====
section
/-! SUPPORT. Laws of the sparse stores and of memory: what a read gives after a write, and that a write keeps the canonical form. -/

namespace Sys2Proof.Machine

variable {α : Type} [DecidableEq α]

omit [DecidableEq α] in
/-- A key that the list has been cleared of reads as the default. -/
theorem sget_filter_same (d : α) (a : Nat) (l : List (Nat × α)) : sget d (l.filter (fun c => c.1 != a)) a = d := by
  induction l with
  | nil => rfl
  | cons c t ih =>
    by_cases h : c.1 = a
    · rw [List.filter_cons_of_neg (by simp [h])]; exact ih
    · rw [List.filter_cons_of_pos (by simp [h])]; simp only [sget, Ne.symm h, if_false]; exact ih

omit [DecidableEq α] in
/-- Clearing one key leaves the others. -/
theorem sget_filter_ne (d : α) {a b : Nat} (h : b ≠ a) (l : List (Nat × α)) :
    sget d (l.filter (fun c => c.1 != a)) b = sget d l b := by
  induction l with
  | nil => rfl
  | cons c t ih =>
    obtain ⟨k, v⟩ := c
    by_cases hk : k = a
    · rw [List.filter_cons_of_neg (by simp [hk])]; simp only [sget, hk, h, if_false]; exact ih
    · rw [List.filter_cons_of_pos (by simp [hk])]; simp only [sget, ih]

/-- A read after a write to the same key gives the value written. -/
@[simp] theorem sget_sset_same (d : α) (l : List (Nat × α)) (a : Nat) (v : α) : sget d (sset d l a v) a = v := by
  induction l with
  | nil => by_cases h : v = d <;> simp [sset, sget, h]
  | cons c t ih =>
    obtain ⟨k, w⟩ := c
    by_cases h1 : a < k
    · by_cases h : v = d
      · simp only [sset, h1, h, if_true]; exact sget_filter_same d a _
      · simp [sset, h1, h, sget]
    · by_cases h2 : a = k
      · by_cases h : v = d
        · subst h2; simp only [sset, h, if_true, Nat.lt_irrefl, if_false]; exact sget_filter_same d a _
        · subst h2; simp [sset, h, sget]
      · simp [sset, h1, h2, sget, ih]

/-- A write leaves every other key alone. -/
theorem sget_sset_ne {d e : α} {a b : Nat} (h : b ≠ a) (l : List (Nat × α)) (v : α) :
    sget e (sset d l a v) b = sget e l b := by
  induction l with
  | nil => by_cases hv : v = d <;> simp [sset, sget, hv, h]
  | cons c t ih =>
    obtain ⟨k, w⟩ := c
    by_cases h1 : a < k
    · by_cases hv : v = d
      · simp only [sset, h1, hv, if_true]; exact sget_filter_ne e h _
      · simp [sset, h1, hv, sget, h]
    · by_cases h2 : a = k
      · subst h2
        by_cases hv : v = d
        · simp only [sset, hv, if_true, Nat.lt_irrefl, if_false, sget, h]; exact sget_filter_ne e h _
        · simp only [sset, hv, Nat.lt_irrefl, if_true, if_false, sget, h]; exact sget_filter_ne e h _
      · simp [sset, h1, h2, sget, ih]

/-- A canonical list: every key lies above `lo` of the next, and no entry is at its default. -/
theorem swf_cons {d : Nat → α} {k : Nat} {v : α} {t : List (Nat × α)} :
    swf d ((k, v) :: t) = true ↔ v ≠ d k ∧ swf d t = true ∧ (∀ c ∈ t, k < c.1) := by
  induction t generalizing k v with
  | nil => simp [swf]
  | cons c t ih =>
    obtain ⟨k', v'⟩ := c
    have := @ih k' v'
    simp only [swf, Bool.and_eq_true, decide_eq_true_eq, List.mem_cons, forall_eq_or_imp] at *
    constructor
    · rintro ⟨⟨h1, h2⟩, h3⟩
      exact ⟨h1, h3, h2, fun c hc => Nat.lt_trans h2 ((this.1 h3).2.2 c hc)⟩
    · rintro ⟨h1, h2, h3, _⟩
      exact ⟨⟨h1, h3⟩, h2⟩

/-- Dropping entries keeps the canonical form. -/
theorem swf_filter {d : Nat → α} (p : Nat × α → Bool) {l : List (Nat × α)} (h : swf d l = true) :
    swf d (l.filter p) = true := by
  induction l with
  | nil => rfl
  | cons c t ih =>
    obtain ⟨k, v⟩ := c
    obtain ⟨h1, h2, h3⟩ := swf_cons.1 h
    by_cases hp : p (k, v)
    · rw [List.filter_cons_of_pos hp]
      exact swf_cons.2 ⟨h1, ih h2, fun c hc => h3 c (List.mem_filter.1 hc).1⟩
    · rw [List.filter_cons_of_neg hp]; exact ih h2

/-- The keys of a written list are the key written and the old ones. -/
theorem sset_keys (d : α) {l : List (Nat × α)} {a : Nat} {v : α} {c : Nat × α} (h : c ∈ sset d l a v) :
    c.1 = a ∨ c ∈ l := by
  induction l with
  | nil => by_cases hv : v = d <;> simp [sset, hv] at h; exact .inl (by rw [h])
  | cons x t ih =>
    obtain ⟨k, w⟩ := x
    simp only [sset] at h
    split at h
    · split at h
      · exact .inr (List.mem_filter.1 h).1
      · rcases List.mem_cons.1 h with rfl | h
        · exact .inl rfl
        · exact .inr h
    · split at h
      · split at h
        · exact .inr (List.mem_cons_of_mem _ (List.mem_filter.1 h).1)
        · rcases List.mem_cons.1 h with rfl | h
          · exact .inl rfl
          · exact .inr (List.mem_cons_of_mem _ (List.mem_filter.1 h).1)
      · rcases List.mem_cons.1 h with rfl | h
        · exact .inr (List.mem_cons_self ..)
        · rcases ih h with h | h
          · exact .inl h
          · exact .inr (List.mem_cons_of_mem _ h)

/-- A write keeps the canonical form. -/
theorem swf_sset {d : Nat → α} {l : List (Nat × α)} (a : Nat) (v : α) (h : swf d l = true) :
    swf d (sset (d a) l a v) = true := by
  induction l with
  | nil => by_cases hv : v = d a <;> simp [sset, swf, hv]
  | cons c t ih =>
    obtain ⟨k, w⟩ := c
    obtain ⟨h1, h2, h3⟩ := swf_cons.1 h
    simp only [sset]
    split
    · split
      · exact swf_filter _ h
      · next hlt hv =>
        exact swf_cons.2 ⟨hv, h, fun c hc => by
          rcases List.mem_cons.1 hc with rfl | hc
          · exact hlt
          · exact Nat.lt_trans hlt (h3 c hc)⟩
    · split
      · split
        · exact swf_filter _ h2
        · next heq hv =>
          subst heq
          exact swf_cons.2 ⟨hv, swf_filter _ h2, fun c hc => h3 c (List.mem_filter.1 hc).1⟩
      · next hlt hne =>
        exact swf_cons.2 ⟨h1, ih h2, fun c hc => by
          rcases sset_keys _ hc with hc | hc
          · rw [hc]; omega
          · exact h3 c hc⟩

/-! ### Memory -/

/-- A byte write keeps the canonical form of memory. -/
theorem setMemB_wf (s : State) (a : Nat) (b : Byte) (h : Memory.wf s.mem = true) : Memory.wf (s.setMemB a b).mem = true :=
  swf_sset (d := fun _ => (0 : Byte)) a b h

/-- So does the write of a byte string. -/
theorem setMem_wf (l : List Byte) (s : State) (a : Nat) (h : Memory.wf s.mem = true) : Memory.wf (s.setMem a l).mem = true := by
  induction l generalizing s a with
  | nil => exact h
  | cons b t ih => exact ih _ _ (setMemB_wf s a b h)

/-- A byte written reads back. -/
@[simp] theorem memB_setMemB_same (s : State) (a : Nat) (b : Byte) : (s.setMemB a b).memB a = b := sget_sset_same _ _ _ _

/-- A byte write leaves every other byte. -/
theorem memB_setMemB_ne (s : State) {a c : Nat} (b : Byte) (h : c ≠ a) : (s.setMemB a b).memB c = s.memB c :=
  sget_sset_ne h _ _

/-- The write of a byte string leaves every byte outside it. -/
theorem memB_setMem_outside (l : List Byte) (s : State) {a c : Nat} (h : c < a ∨ a + l.length ≤ c) :
    (s.setMem a l).memB c = s.memB c := by
  induction l generalizing s a with
  | nil => rfl
  | cons b t ih =>
    simp only [List.length_cons] at h
    show ((s.setMemB a b).setMem (a + 1) t).memB c = _
    rw [ih _ (by omega), memB_setMemB_ne _ _ (by omega)]

/-- Byte `i` of the string stands at address a + i afterwards. -/
theorem memB_setMem_inside (l : List Byte) (s : State) (a i : Nat) (h : i < l.length) :
    (s.setMem a l).memB (a + i) = l[i] := by
  induction l generalizing s a i with
  | nil => exact absurd h (Nat.not_lt_zero _)
  | cons b t ih =>
    show ((s.setMemB a b).setMem (a + 1) t).memB (a + i) = _
    cases i with
    | zero => rw [memB_setMem_outside _ _ (by omega)]; exact memB_setMemB_same _ _ _
    | succ j =>
      have := ih (s.setMemB a b) (a + 1) j (by simpa using h)
      rw [Nat.add_assoc, Nat.add_comm 1 j] at this
      simpa using this

end Sys2Proof.Machine
end

