-- ==== Sys2Proof/Laws/Regs.lean ====
section
/-! SUPPORT. Laws of the register file: registers and fields after a write. -/

namespace Sys2Proof.Machine

/-- A register holds less than 2^32. -/
theorem reg_lt (s : State) (a : Nat) : s.reg a < 4294967296 := (sget (regReset a) s.regs a).isLt

/-- A register written reads as the word written. -/
@[simp] theorem reg_setReg_same (s : State) (a v : Nat) : (s.setReg a v).reg a = v % 4294967296 := by
  simp [State.reg, State.setReg]

/-- Every other register is left alone. -/
theorem reg_setReg_ne (s : State) {a b : Nat} (v : Nat) (h : b ≠ a) : (s.setReg a v).reg b = s.reg b := by
  simp only [State.reg, State.setReg]; rw [sget_sset_ne h]

/-- A field of a word whose field was replaced. -/
@[simp] theorem fieldOf_fieldSet_same (v lo w x : Nat) : fieldOf (fieldSet v lo w x) lo w = x % 2 ^ w := by
  have hv : v % 2 ^ lo < 2 ^ lo := Nat.mod_lt _ (by positivity)
  have e : fieldSet v lo w x = v % 2 ^ lo + 2 ^ lo * (x % 2 ^ w + 2 ^ w * (v / 2 ^ (lo + w))) := by
    simp only [fieldSet, Nat.pow_add]; ring
  rw [fieldOf, e, Nat.add_mul_div_left _ _ (by positivity), Nat.div_eq_of_lt hv, Nat.zero_add, Nat.add_mul_mod_self_left,
    Nat.mod_mod]

/-- A word of 32 bits stays one when a field inside it is replaced. -/
theorem fieldSet_lt {v lo w : Nat} (x : Nat) (hv : v < 4294967296) (hw : lo + w ≤ 32) : fieldSet v lo w x < 4294967296 := by
  have e : (4294967296 : Nat) = 2 ^ (32 - (lo + w)) * 2 ^ (lo + w) := by
    rw [← Nat.pow_add, Nat.sub_add_cancel hw]
  have h1 : v / 2 ^ (lo + w) < 2 ^ (32 - (lo + w)) := by
    rw [Nat.div_lt_iff_lt_mul (by positivity), ← e]; exact hv
  have h2 : (x % 2 ^ w) * 2 ^ lo + v % 2 ^ lo < 2 ^ (lo + w) := by
    have hx : x % 2 ^ w < 2 ^ w := Nat.mod_lt _ (by positivity)
    have hl : v % 2 ^ lo < 2 ^ lo := Nat.mod_lt _ (by positivity)
    have : (x % 2 ^ w + 1) * 2 ^ lo ≤ 2 ^ w * 2 ^ lo := Nat.mul_le_mul_right _ hx
    rw [Nat.pow_add, Nat.mul_comm (2 ^ lo)]
    calc _ < (x % 2 ^ w) * 2 ^ lo + 2 ^ lo := by omega
      _ = (x % 2 ^ w + 1) * 2 ^ lo := by ring
      _ ≤ _ := this
  have h3 : (v / 2 ^ (lo + w) + 1) * 2 ^ (lo + w) ≤ 2 ^ (32 - (lo + w)) * 2 ^ (lo + w) := Nat.mul_le_mul_right _ h1
  rw [e, fieldSet]
  calc _ < v / 2 ^ (lo + w) * 2 ^ (lo + w) + 2 ^ (lo + w) := by omega
    _ = (v / 2 ^ (lo + w) + 1) * 2 ^ (lo + w) := by ring
    _ ≤ _ := h3

/-- Bits of a word whose field was replaced. -/
theorem testBit_fieldSet (v lo w x i : Nat) :
    (fieldSet v lo w x).testBit i = if i < lo then v.testBit i else if i < lo + w then x.testBit (i - lo) else v.testBit i := by
  have hl : v % 2 ^ lo < 2 ^ lo := Nat.mod_lt _ (by positivity)
  have e : fieldSet v lo w x = 2 ^ lo * (2 ^ w * (v / 2 ^ (lo + w)) + x % 2 ^ w) + v % 2 ^ lo := by
    simp only [fieldSet, Nat.pow_add]; ring
  rw [e, Nat.testBit_two_pow_mul_add _ hl]
  by_cases h : i < lo
  · simp [h]
  · simp only [h, if_false]
    rw [Nat.testBit_two_pow_mul_add _ (Nat.mod_lt _ (by positivity))]
    by_cases h' : i < lo + w
    · have : i - lo < w := by omega
      simp [h', this]
    · have : ¬ i - lo < w := by omega
      simp only [h', this, if_false, Nat.testBit_div_two_pow]
      congr 1; omega

/-- A field of a word in which a field that does not overlap it was replaced. -/
theorem fieldOf_fieldSet_disjoint (v x : Nat) {lo w lo' w' : Nat} (h : lo' + w' ≤ lo ∨ lo + w ≤ lo') :
    fieldOf (fieldSet v lo w x) lo' w' = fieldOf v lo' w' := by
  apply Nat.eq_of_testBit_eq
  intro i
  simp only [fieldOf, Nat.testBit_mod_two_pow, Nat.testBit_div_two_pow, testBit_fieldSet]
  by_cases hi : i < w'
  · simp only [hi, decide_true, Bool.true_and]
    rcases h with h | h
    · rw [if_pos (by omega)]
    · rw [if_neg (by omega), if_neg (by omega)]
  · simp [hi]

/-- A field written reads as the value, cut to the field's width. -/
theorem get_put_same (s : State) (f : FieldRef) (v : Nat) (h : f.lo + f.w ≤ 32) : (s.put f v).get f = v % 2 ^ f.w := by
  simp only [State.get, State.put, reg_setReg_same]
  rw [Nat.mod_eq_of_lt (fieldSet_lt v (reg_lt s _) h), fieldOf_fieldSet_same]

/-- A field of another register is left alone. -/
theorem get_put_ne (s : State) {f g : FieldRef} (v : Nat) (h : g.addr ≠ f.addr) : (s.put f v).get g = s.get g := by
  simp only [State.get, State.put]; rw [reg_setReg_ne _ _ h]

/-- So is a field of the same register that does not overlap. -/
theorem get_put_disjoint (s : State) {f g : FieldRef} (v : Nat) (hw : f.lo + f.w ≤ 32) (ha : g.addr = f.addr)
    (h : g.lo + g.w ≤ f.lo ∨ f.lo + f.w ≤ g.lo) : (s.put f v).get g = s.get g := by
  simp only [State.get, State.put, ha, reg_setReg_same]
  rw [Nat.mod_eq_of_lt (fieldSet_lt v (reg_lt s _) hw), fieldOf_fieldSet_disjoint _ _ h]

/-- A flag written reads back. -/
theorem bit_putB_same (s : State) (f : FieldRef) (b : Bool) (h : f.lo + f.w ≤ 32) (hw : 0 < f.w) : (s.putB f b).bit f = b := by
  have h1 : 1 < 2 ^ f.w := Nat.one_lt_two_pow (by omega)
  cases b <;> simp [State.bit, State.putB, get_put_same _ _ _ h, Nat.mod_eq_of_lt h1]

/-- Registers other than the written field's keep their words. -/
theorem reg_put_ne (s : State) {f : FieldRef} {a : Nat} (v : Nat) (h : a ≠ f.addr) : (s.put f v).reg a = s.reg a :=
  reg_setReg_ne _ _ h

/-- A register write keeps the canonical form of the register file. -/
theorem setReg_swf (s : State) (a v : Nat) (h : swf regReset s.regs = true) : swf regReset (s.setReg a v).regs = true :=
  swf_sset a _ h

/-! ### Masks -/

/-- A number taken apart at bit `i`. -/
theorem split_at_bit (m i : Nat) : m = 2 ^ i * (2 * (m / 2 ^ i / 2) + (m.testBit i).toNat) + m % 2 ^ i := by
  have h : (m.testBit i).toNat = m / 2 ^ i % 2 := by
    rw [Nat.testBit_eq_decide_div_mod_eq]
    rcases Nat.mod_two_eq_zero_or_one (m / 2 ^ i) with h | h <;> simp [h]
  rw [h, Nat.div_add_mod, Nat.div_add_mod]

/-- Bits of a number put together at bit `i`. -/
theorem testBit_join (i q l j : Nat) (b : Bool) (hl : l < 2 ^ i) :
    (2 ^ i * (2 * q + b.toNat) + l).testBit j =
      if j < i then l.testBit j else if j = i then b else q.testBit (j - i - 1) := by
  rw [Nat.testBit_two_pow_mul_add _ hl]
  by_cases h : j < i
  · simp [h]
  · simp only [h, if_false]
    by_cases hj : j = i
    · subst hj; cases b <;> simp
    · obtain ⟨k, rfl⟩ : ∃ k, j = i + 1 + k := ⟨j - i - 1, by omega⟩
      have : i + 1 + k - i = k + 1 := by omega
      simp only [hj, if_false, this, Nat.testBit_succ]
      cases b <;> simp <;> congr 1 <;> omega

/-- Bit `j` of a mask with bit `i` written. -/
theorem testBit_mset (m i j : Nat) (b : Bool) : (mset m i b).testBit j = if j = i then b else m.testBit j := by
  have hl : m % 2 ^ i < 2 ^ i := Nat.mod_lt _ (by positivity)
  have e : mset m i b = 2 ^ i * (2 * (m / 2 ^ i / 2) + b.toNat) + m % 2 ^ i := by
    have hm := split_at_bit m i
    unfold mset
    cases hb : m.testBit i <;> cases b <;> simp only [hb, Bool.toNat_true, Bool.toNat_false, Nat.add_zero, Nat.mul_add,
      Nat.mul_one, if_true, if_false, Bool.false_eq_true] at hm ⊢ <;> omega
  have hm := testBit_join i (m / 2 ^ i / 2) (m % 2 ^ i) j (m.testBit i) hl
  rw [← split_at_bit] at hm
  rw [e, testBit_join _ _ _ _ _ hl, hm]
  by_cases h : j < i <;> by_cases h' : j = i <;> simp_all

end Sys2Proof.Machine
end

