-- ==== Sys2Proof/Laws/State.lean ====
section
/-! SUPPORT. One lemma per field of the state and update: what an update leaves as it was. -/

namespace Sys2Proof.Machine

/-! ### setReg -/
@[simp] theorem setReg_img (s : State) (a v : Nat) : (s.setReg a v).img = s.img := rfl
@[simp] theorem setReg_secLen (s : State) (a v : Nat) : (s.setReg a v).secLen = s.secLen := rfl
@[simp] theorem setReg_periodUs (s : State) (a v : Nat) : (s.setReg a v).periodUs = s.periodUs := rfl
@[simp] theorem setReg_siteNs (s : State) (a v : Nat) : (s.setReg a v).siteNs = s.siteNs := rfl
@[simp] theorem setReg_siteFrac (s : State) (a v : Nat) : (s.setReg a v).siteFrac = s.siteFrac := rfl
@[simp] theorem setReg_ports (s : State) (a v : Nat) : (s.setReg a v).ports = s.ports := rfl
@[simp] theorem setReg_cwy (s : State) (a v : Nat) : (s.setReg a v).cwy = s.cwy := rfl
@[simp] theorem setReg_load (s : State) (a v : Nat) : (s.setReg a v).load = s.load := rfl
@[simp] theorem setReg_mem (s : State) (a v : Nat) : (s.setReg a v).mem = s.mem := rfl
@[simp] theorem setReg_truss (s : State) (a v : Nat) : (s.setReg a v).truss = s.truss := rfl
@[simp] theorem setReg_spn (s : State) (a v : Nat) : (s.setReg a v).spn = s.spn := rfl
@[simp] theorem setReg_phs (s : State) (a v : Nat) : (s.setReg a v).phs = s.phs := rfl
@[simp] theorem setReg_kst (s : State) (a v : Nat) : (s.setReg a v).kst = s.kst := rfl
@[simp] theorem setReg_arc (s : State) (a v : Nat) : (s.setReg a v).arc = s.arc := rfl
@[simp] theorem setReg_prp (s : State) (a v : Nat) : (s.setReg a v).prp = s.prp := rfl
@[simp] theorem setReg_tol (s : State) (a v : Nat) : (s.setReg a v).tol = s.tol := rfl
@[simp] theorem setReg_pyl (s : State) (a v : Nat) : (s.setReg a v).pyl = s.pyl := rfl
@[simp] theorem setReg_grd (s : State) (a v : Nat) : (s.setReg a v).grd = s.grd := rfl
@[simp] theorem setReg_mods (s : State) (a v : Nat) : (s.setReg a v).mods = s.mods := rfl
@[simp] theorem setReg_hkp (s : State) (a v : Nat) : (s.setReg a v).hkp = s.hkp := rfl
@[simp] theorem setReg_sty (s : State) (a v : Nat) : (s.setReg a v).sty = s.sty := rfl
@[simp] theorem setReg_vlk (s : State) (a v : Nat) : (s.setReg a v).vlk = s.vlk := rfl
@[simp] theorem setReg_can (s : State) (a v : Nat) : (s.setReg a v).can = s.can := rfl
@[simp] theorem setReg_trs (s : State) (a v : Nat) : (s.setReg a v).trs = s.trs := rfl
@[simp] theorem setReg_pwr (s : State) (a v : Nat) : (s.setReg a v).pwr = s.pwr := rfl
@[simp] theorem setReg_freeCtr (s : State) (a v : Nat) : (s.setReg a v).freeCtr = s.freeCtr := rfl
@[simp] theorem setReg_rdata (s : State) (a v : Nat) : (s.setReg a v).rdata = s.rdata := rfl
@[simp] theorem setReg_pending (s : State) (a v : Nat) : (s.setReg a v).pending = s.pending := rfl

/-! ### put -/
@[simp] theorem put_img (s : State) (f : FieldRef) (v : Nat) : (s.put f v).img = s.img := rfl
@[simp] theorem put_secLen (s : State) (f : FieldRef) (v : Nat) : (s.put f v).secLen = s.secLen := rfl
@[simp] theorem put_periodUs (s : State) (f : FieldRef) (v : Nat) : (s.put f v).periodUs = s.periodUs := rfl
@[simp] theorem put_siteNs (s : State) (f : FieldRef) (v : Nat) : (s.put f v).siteNs = s.siteNs := rfl
@[simp] theorem put_siteFrac (s : State) (f : FieldRef) (v : Nat) : (s.put f v).siteFrac = s.siteFrac := rfl
@[simp] theorem put_ports (s : State) (f : FieldRef) (v : Nat) : (s.put f v).ports = s.ports := rfl
@[simp] theorem put_cwy (s : State) (f : FieldRef) (v : Nat) : (s.put f v).cwy = s.cwy := rfl
@[simp] theorem put_load (s : State) (f : FieldRef) (v : Nat) : (s.put f v).load = s.load := rfl
@[simp] theorem put_mem (s : State) (f : FieldRef) (v : Nat) : (s.put f v).mem = s.mem := rfl
@[simp] theorem put_truss (s : State) (f : FieldRef) (v : Nat) : (s.put f v).truss = s.truss := rfl
@[simp] theorem put_spn (s : State) (f : FieldRef) (v : Nat) : (s.put f v).spn = s.spn := rfl
@[simp] theorem put_phs (s : State) (f : FieldRef) (v : Nat) : (s.put f v).phs = s.phs := rfl
@[simp] theorem put_kst (s : State) (f : FieldRef) (v : Nat) : (s.put f v).kst = s.kst := rfl
@[simp] theorem put_arc (s : State) (f : FieldRef) (v : Nat) : (s.put f v).arc = s.arc := rfl
@[simp] theorem put_prp (s : State) (f : FieldRef) (v : Nat) : (s.put f v).prp = s.prp := rfl
@[simp] theorem put_tol (s : State) (f : FieldRef) (v : Nat) : (s.put f v).tol = s.tol := rfl
@[simp] theorem put_pyl (s : State) (f : FieldRef) (v : Nat) : (s.put f v).pyl = s.pyl := rfl
@[simp] theorem put_grd (s : State) (f : FieldRef) (v : Nat) : (s.put f v).grd = s.grd := rfl
@[simp] theorem put_mods (s : State) (f : FieldRef) (v : Nat) : (s.put f v).mods = s.mods := rfl
@[simp] theorem put_hkp (s : State) (f : FieldRef) (v : Nat) : (s.put f v).hkp = s.hkp := rfl
@[simp] theorem put_sty (s : State) (f : FieldRef) (v : Nat) : (s.put f v).sty = s.sty := rfl
@[simp] theorem put_vlk (s : State) (f : FieldRef) (v : Nat) : (s.put f v).vlk = s.vlk := rfl
@[simp] theorem put_can (s : State) (f : FieldRef) (v : Nat) : (s.put f v).can = s.can := rfl
@[simp] theorem put_trs (s : State) (f : FieldRef) (v : Nat) : (s.put f v).trs = s.trs := rfl
@[simp] theorem put_pwr (s : State) (f : FieldRef) (v : Nat) : (s.put f v).pwr = s.pwr := rfl
@[simp] theorem put_freeCtr (s : State) (f : FieldRef) (v : Nat) : (s.put f v).freeCtr = s.freeCtr := rfl
@[simp] theorem put_rdata (s : State) (f : FieldRef) (v : Nat) : (s.put f v).rdata = s.rdata := rfl
@[simp] theorem put_pending (s : State) (f : FieldRef) (v : Nat) : (s.put f v).pending = s.pending := rfl

/-! ### putB -/
@[simp] theorem putB_img (s : State) (f : FieldRef) (b : Bool) : (s.putB f b).img = s.img := rfl
@[simp] theorem putB_secLen (s : State) (f : FieldRef) (b : Bool) : (s.putB f b).secLen = s.secLen := rfl
@[simp] theorem putB_periodUs (s : State) (f : FieldRef) (b : Bool) : (s.putB f b).periodUs = s.periodUs := rfl
@[simp] theorem putB_siteNs (s : State) (f : FieldRef) (b : Bool) : (s.putB f b).siteNs = s.siteNs := rfl
@[simp] theorem putB_siteFrac (s : State) (f : FieldRef) (b : Bool) : (s.putB f b).siteFrac = s.siteFrac := rfl
@[simp] theorem putB_ports (s : State) (f : FieldRef) (b : Bool) : (s.putB f b).ports = s.ports := rfl
@[simp] theorem putB_cwy (s : State) (f : FieldRef) (b : Bool) : (s.putB f b).cwy = s.cwy := rfl
@[simp] theorem putB_load (s : State) (f : FieldRef) (b : Bool) : (s.putB f b).load = s.load := rfl
@[simp] theorem putB_mem (s : State) (f : FieldRef) (b : Bool) : (s.putB f b).mem = s.mem := rfl
@[simp] theorem putB_truss (s : State) (f : FieldRef) (b : Bool) : (s.putB f b).truss = s.truss := rfl
@[simp] theorem putB_spn (s : State) (f : FieldRef) (b : Bool) : (s.putB f b).spn = s.spn := rfl
@[simp] theorem putB_phs (s : State) (f : FieldRef) (b : Bool) : (s.putB f b).phs = s.phs := rfl
@[simp] theorem putB_kst (s : State) (f : FieldRef) (b : Bool) : (s.putB f b).kst = s.kst := rfl
@[simp] theorem putB_arc (s : State) (f : FieldRef) (b : Bool) : (s.putB f b).arc = s.arc := rfl
@[simp] theorem putB_prp (s : State) (f : FieldRef) (b : Bool) : (s.putB f b).prp = s.prp := rfl
@[simp] theorem putB_tol (s : State) (f : FieldRef) (b : Bool) : (s.putB f b).tol = s.tol := rfl
@[simp] theorem putB_pyl (s : State) (f : FieldRef) (b : Bool) : (s.putB f b).pyl = s.pyl := rfl
@[simp] theorem putB_grd (s : State) (f : FieldRef) (b : Bool) : (s.putB f b).grd = s.grd := rfl
@[simp] theorem putB_mods (s : State) (f : FieldRef) (b : Bool) : (s.putB f b).mods = s.mods := rfl
@[simp] theorem putB_hkp (s : State) (f : FieldRef) (b : Bool) : (s.putB f b).hkp = s.hkp := rfl
@[simp] theorem putB_sty (s : State) (f : FieldRef) (b : Bool) : (s.putB f b).sty = s.sty := rfl
@[simp] theorem putB_vlk (s : State) (f : FieldRef) (b : Bool) : (s.putB f b).vlk = s.vlk := rfl
@[simp] theorem putB_can (s : State) (f : FieldRef) (b : Bool) : (s.putB f b).can = s.can := rfl
@[simp] theorem putB_trs (s : State) (f : FieldRef) (b : Bool) : (s.putB f b).trs = s.trs := rfl
@[simp] theorem putB_pwr (s : State) (f : FieldRef) (b : Bool) : (s.putB f b).pwr = s.pwr := rfl
@[simp] theorem putB_freeCtr (s : State) (f : FieldRef) (b : Bool) : (s.putB f b).freeCtr = s.freeCtr := rfl
@[simp] theorem putB_rdata (s : State) (f : FieldRef) (b : Bool) : (s.putB f b).rdata = s.rdata := rfl
@[simp] theorem putB_pending (s : State) (f : FieldRef) (b : Bool) : (s.putB f b).pending = s.pending := rfl

/-! ### putS -/
@[simp] theorem putS_img (s : State) (f : FieldRef) (i : Int) : (s.putS f i).img = s.img := rfl
@[simp] theorem putS_secLen (s : State) (f : FieldRef) (i : Int) : (s.putS f i).secLen = s.secLen := rfl
@[simp] theorem putS_periodUs (s : State) (f : FieldRef) (i : Int) : (s.putS f i).periodUs = s.periodUs := rfl
@[simp] theorem putS_siteNs (s : State) (f : FieldRef) (i : Int) : (s.putS f i).siteNs = s.siteNs := rfl
@[simp] theorem putS_siteFrac (s : State) (f : FieldRef) (i : Int) : (s.putS f i).siteFrac = s.siteFrac := rfl
@[simp] theorem putS_ports (s : State) (f : FieldRef) (i : Int) : (s.putS f i).ports = s.ports := rfl
@[simp] theorem putS_cwy (s : State) (f : FieldRef) (i : Int) : (s.putS f i).cwy = s.cwy := rfl
@[simp] theorem putS_load (s : State) (f : FieldRef) (i : Int) : (s.putS f i).load = s.load := rfl
@[simp] theorem putS_mem (s : State) (f : FieldRef) (i : Int) : (s.putS f i).mem = s.mem := rfl
@[simp] theorem putS_truss (s : State) (f : FieldRef) (i : Int) : (s.putS f i).truss = s.truss := rfl
@[simp] theorem putS_spn (s : State) (f : FieldRef) (i : Int) : (s.putS f i).spn = s.spn := rfl
@[simp] theorem putS_phs (s : State) (f : FieldRef) (i : Int) : (s.putS f i).phs = s.phs := rfl
@[simp] theorem putS_kst (s : State) (f : FieldRef) (i : Int) : (s.putS f i).kst = s.kst := rfl
@[simp] theorem putS_arc (s : State) (f : FieldRef) (i : Int) : (s.putS f i).arc = s.arc := rfl
@[simp] theorem putS_prp (s : State) (f : FieldRef) (i : Int) : (s.putS f i).prp = s.prp := rfl
@[simp] theorem putS_tol (s : State) (f : FieldRef) (i : Int) : (s.putS f i).tol = s.tol := rfl
@[simp] theorem putS_pyl (s : State) (f : FieldRef) (i : Int) : (s.putS f i).pyl = s.pyl := rfl
@[simp] theorem putS_grd (s : State) (f : FieldRef) (i : Int) : (s.putS f i).grd = s.grd := rfl
@[simp] theorem putS_mods (s : State) (f : FieldRef) (i : Int) : (s.putS f i).mods = s.mods := rfl
@[simp] theorem putS_hkp (s : State) (f : FieldRef) (i : Int) : (s.putS f i).hkp = s.hkp := rfl
@[simp] theorem putS_sty (s : State) (f : FieldRef) (i : Int) : (s.putS f i).sty = s.sty := rfl
@[simp] theorem putS_vlk (s : State) (f : FieldRef) (i : Int) : (s.putS f i).vlk = s.vlk := rfl
@[simp] theorem putS_can (s : State) (f : FieldRef) (i : Int) : (s.putS f i).can = s.can := rfl
@[simp] theorem putS_trs (s : State) (f : FieldRef) (i : Int) : (s.putS f i).trs = s.trs := rfl
@[simp] theorem putS_pwr (s : State) (f : FieldRef) (i : Int) : (s.putS f i).pwr = s.pwr := rfl
@[simp] theorem putS_freeCtr (s : State) (f : FieldRef) (i : Int) : (s.putS f i).freeCtr = s.freeCtr := rfl
@[simp] theorem putS_rdata (s : State) (f : FieldRef) (i : Int) : (s.putS f i).rdata = s.rdata := rfl
@[simp] theorem putS_pending (s : State) (f : FieldRef) (i : Int) : (s.putS f i).pending = s.pending := rfl

/-! ### putU -/
@[simp] theorem putU_img (s : State) (f : FieldRef) (i : Int) : (s.putU f i).img = s.img := rfl
@[simp] theorem putU_secLen (s : State) (f : FieldRef) (i : Int) : (s.putU f i).secLen = s.secLen := rfl
@[simp] theorem putU_periodUs (s : State) (f : FieldRef) (i : Int) : (s.putU f i).periodUs = s.periodUs := rfl
@[simp] theorem putU_siteNs (s : State) (f : FieldRef) (i : Int) : (s.putU f i).siteNs = s.siteNs := rfl
@[simp] theorem putU_siteFrac (s : State) (f : FieldRef) (i : Int) : (s.putU f i).siteFrac = s.siteFrac := rfl
@[simp] theorem putU_ports (s : State) (f : FieldRef) (i : Int) : (s.putU f i).ports = s.ports := rfl
@[simp] theorem putU_cwy (s : State) (f : FieldRef) (i : Int) : (s.putU f i).cwy = s.cwy := rfl
@[simp] theorem putU_load (s : State) (f : FieldRef) (i : Int) : (s.putU f i).load = s.load := rfl
@[simp] theorem putU_mem (s : State) (f : FieldRef) (i : Int) : (s.putU f i).mem = s.mem := rfl
@[simp] theorem putU_truss (s : State) (f : FieldRef) (i : Int) : (s.putU f i).truss = s.truss := rfl
@[simp] theorem putU_spn (s : State) (f : FieldRef) (i : Int) : (s.putU f i).spn = s.spn := rfl
@[simp] theorem putU_phs (s : State) (f : FieldRef) (i : Int) : (s.putU f i).phs = s.phs := rfl
@[simp] theorem putU_kst (s : State) (f : FieldRef) (i : Int) : (s.putU f i).kst = s.kst := rfl
@[simp] theorem putU_arc (s : State) (f : FieldRef) (i : Int) : (s.putU f i).arc = s.arc := rfl
@[simp] theorem putU_prp (s : State) (f : FieldRef) (i : Int) : (s.putU f i).prp = s.prp := rfl
@[simp] theorem putU_tol (s : State) (f : FieldRef) (i : Int) : (s.putU f i).tol = s.tol := rfl
@[simp] theorem putU_pyl (s : State) (f : FieldRef) (i : Int) : (s.putU f i).pyl = s.pyl := rfl
@[simp] theorem putU_grd (s : State) (f : FieldRef) (i : Int) : (s.putU f i).grd = s.grd := rfl
@[simp] theorem putU_mods (s : State) (f : FieldRef) (i : Int) : (s.putU f i).mods = s.mods := rfl
@[simp] theorem putU_hkp (s : State) (f : FieldRef) (i : Int) : (s.putU f i).hkp = s.hkp := rfl
@[simp] theorem putU_sty (s : State) (f : FieldRef) (i : Int) : (s.putU f i).sty = s.sty := rfl
@[simp] theorem putU_vlk (s : State) (f : FieldRef) (i : Int) : (s.putU f i).vlk = s.vlk := rfl
@[simp] theorem putU_can (s : State) (f : FieldRef) (i : Int) : (s.putU f i).can = s.can := rfl
@[simp] theorem putU_trs (s : State) (f : FieldRef) (i : Int) : (s.putU f i).trs = s.trs := rfl
@[simp] theorem putU_pwr (s : State) (f : FieldRef) (i : Int) : (s.putU f i).pwr = s.pwr := rfl
@[simp] theorem putU_freeCtr (s : State) (f : FieldRef) (i : Int) : (s.putU f i).freeCtr = s.freeCtr := rfl
@[simp] theorem putU_rdata (s : State) (f : FieldRef) (i : Int) : (s.putU f i).rdata = s.rdata := rfl
@[simp] theorem putU_pending (s : State) (f : FieldRef) (i : Int) : (s.putU f i).pending = s.pending := rfl

/-! ### inc -/
@[simp] theorem inc_img (s : State) (f : FieldRef) : (s.inc f).img = s.img := rfl
@[simp] theorem inc_secLen (s : State) (f : FieldRef) : (s.inc f).secLen = s.secLen := rfl
@[simp] theorem inc_periodUs (s : State) (f : FieldRef) : (s.inc f).periodUs = s.periodUs := rfl
@[simp] theorem inc_siteNs (s : State) (f : FieldRef) : (s.inc f).siteNs = s.siteNs := rfl
@[simp] theorem inc_siteFrac (s : State) (f : FieldRef) : (s.inc f).siteFrac = s.siteFrac := rfl
@[simp] theorem inc_ports (s : State) (f : FieldRef) : (s.inc f).ports = s.ports := rfl
@[simp] theorem inc_cwy (s : State) (f : FieldRef) : (s.inc f).cwy = s.cwy := rfl
@[simp] theorem inc_load (s : State) (f : FieldRef) : (s.inc f).load = s.load := rfl
@[simp] theorem inc_mem (s : State) (f : FieldRef) : (s.inc f).mem = s.mem := rfl
@[simp] theorem inc_truss (s : State) (f : FieldRef) : (s.inc f).truss = s.truss := rfl
@[simp] theorem inc_spn (s : State) (f : FieldRef) : (s.inc f).spn = s.spn := rfl
@[simp] theorem inc_phs (s : State) (f : FieldRef) : (s.inc f).phs = s.phs := rfl
@[simp] theorem inc_kst (s : State) (f : FieldRef) : (s.inc f).kst = s.kst := rfl
@[simp] theorem inc_arc (s : State) (f : FieldRef) : (s.inc f).arc = s.arc := rfl
@[simp] theorem inc_prp (s : State) (f : FieldRef) : (s.inc f).prp = s.prp := rfl
@[simp] theorem inc_tol (s : State) (f : FieldRef) : (s.inc f).tol = s.tol := rfl
@[simp] theorem inc_pyl (s : State) (f : FieldRef) : (s.inc f).pyl = s.pyl := rfl
@[simp] theorem inc_grd (s : State) (f : FieldRef) : (s.inc f).grd = s.grd := rfl
@[simp] theorem inc_mods (s : State) (f : FieldRef) : (s.inc f).mods = s.mods := rfl
@[simp] theorem inc_hkp (s : State) (f : FieldRef) : (s.inc f).hkp = s.hkp := rfl
@[simp] theorem inc_sty (s : State) (f : FieldRef) : (s.inc f).sty = s.sty := rfl
@[simp] theorem inc_vlk (s : State) (f : FieldRef) : (s.inc f).vlk = s.vlk := rfl
@[simp] theorem inc_can (s : State) (f : FieldRef) : (s.inc f).can = s.can := rfl
@[simp] theorem inc_trs (s : State) (f : FieldRef) : (s.inc f).trs = s.trs := rfl
@[simp] theorem inc_pwr (s : State) (f : FieldRef) : (s.inc f).pwr = s.pwr := rfl
@[simp] theorem inc_freeCtr (s : State) (f : FieldRef) : (s.inc f).freeCtr = s.freeCtr := rfl
@[simp] theorem inc_rdata (s : State) (f : FieldRef) : (s.inc f).rdata = s.rdata := rfl
@[simp] theorem inc_pending (s : State) (f : FieldRef) : (s.inc f).pending = s.pending := rfl

/-! ### putBit -/
@[simp] theorem putBit_img (s : State) (f : FieldRef) (i : Nat) (b : Bool) : (s.putBit f i b).img = s.img := rfl
@[simp] theorem putBit_secLen (s : State) (f : FieldRef) (i : Nat) (b : Bool) : (s.putBit f i b).secLen = s.secLen := rfl
@[simp] theorem putBit_periodUs (s : State) (f : FieldRef) (i : Nat) (b : Bool) : (s.putBit f i b).periodUs = s.periodUs := rfl
@[simp] theorem putBit_siteNs (s : State) (f : FieldRef) (i : Nat) (b : Bool) : (s.putBit f i b).siteNs = s.siteNs := rfl
@[simp] theorem putBit_siteFrac (s : State) (f : FieldRef) (i : Nat) (b : Bool) : (s.putBit f i b).siteFrac = s.siteFrac := rfl
@[simp] theorem putBit_ports (s : State) (f : FieldRef) (i : Nat) (b : Bool) : (s.putBit f i b).ports = s.ports := rfl
@[simp] theorem putBit_cwy (s : State) (f : FieldRef) (i : Nat) (b : Bool) : (s.putBit f i b).cwy = s.cwy := rfl
@[simp] theorem putBit_load (s : State) (f : FieldRef) (i : Nat) (b : Bool) : (s.putBit f i b).load = s.load := rfl
@[simp] theorem putBit_mem (s : State) (f : FieldRef) (i : Nat) (b : Bool) : (s.putBit f i b).mem = s.mem := rfl
@[simp] theorem putBit_truss (s : State) (f : FieldRef) (i : Nat) (b : Bool) : (s.putBit f i b).truss = s.truss := rfl
@[simp] theorem putBit_spn (s : State) (f : FieldRef) (i : Nat) (b : Bool) : (s.putBit f i b).spn = s.spn := rfl
@[simp] theorem putBit_phs (s : State) (f : FieldRef) (i : Nat) (b : Bool) : (s.putBit f i b).phs = s.phs := rfl
@[simp] theorem putBit_kst (s : State) (f : FieldRef) (i : Nat) (b : Bool) : (s.putBit f i b).kst = s.kst := rfl
@[simp] theorem putBit_arc (s : State) (f : FieldRef) (i : Nat) (b : Bool) : (s.putBit f i b).arc = s.arc := rfl
@[simp] theorem putBit_prp (s : State) (f : FieldRef) (i : Nat) (b : Bool) : (s.putBit f i b).prp = s.prp := rfl
@[simp] theorem putBit_tol (s : State) (f : FieldRef) (i : Nat) (b : Bool) : (s.putBit f i b).tol = s.tol := rfl
@[simp] theorem putBit_pyl (s : State) (f : FieldRef) (i : Nat) (b : Bool) : (s.putBit f i b).pyl = s.pyl := rfl
@[simp] theorem putBit_grd (s : State) (f : FieldRef) (i : Nat) (b : Bool) : (s.putBit f i b).grd = s.grd := rfl
@[simp] theorem putBit_mods (s : State) (f : FieldRef) (i : Nat) (b : Bool) : (s.putBit f i b).mods = s.mods := rfl
@[simp] theorem putBit_hkp (s : State) (f : FieldRef) (i : Nat) (b : Bool) : (s.putBit f i b).hkp = s.hkp := rfl
@[simp] theorem putBit_sty (s : State) (f : FieldRef) (i : Nat) (b : Bool) : (s.putBit f i b).sty = s.sty := rfl
@[simp] theorem putBit_vlk (s : State) (f : FieldRef) (i : Nat) (b : Bool) : (s.putBit f i b).vlk = s.vlk := rfl
@[simp] theorem putBit_can (s : State) (f : FieldRef) (i : Nat) (b : Bool) : (s.putBit f i b).can = s.can := rfl
@[simp] theorem putBit_trs (s : State) (f : FieldRef) (i : Nat) (b : Bool) : (s.putBit f i b).trs = s.trs := rfl
@[simp] theorem putBit_pwr (s : State) (f : FieldRef) (i : Nat) (b : Bool) : (s.putBit f i b).pwr = s.pwr := rfl
@[simp] theorem putBit_freeCtr (s : State) (f : FieldRef) (i : Nat) (b : Bool) : (s.putBit f i b).freeCtr = s.freeCtr := rfl
@[simp] theorem putBit_rdata (s : State) (f : FieldRef) (i : Nat) (b : Bool) : (s.putBit f i b).rdata = s.rdata := rfl
@[simp] theorem putBit_pending (s : State) (f : FieldRef) (i : Nat) (b : Bool) : (s.putBit f i b).pending = s.pending := rfl

/-! ### setPort -/
@[simp] theorem setPort_regs (s : State) (q v : Nat) : (s.setPort q v).regs = s.regs := rfl
@[simp] theorem setPort_img (s : State) (q v : Nat) : (s.setPort q v).img = s.img := rfl
@[simp] theorem setPort_secLen (s : State) (q v : Nat) : (s.setPort q v).secLen = s.secLen := rfl
@[simp] theorem setPort_periodUs (s : State) (q v : Nat) : (s.setPort q v).periodUs = s.periodUs := rfl
@[simp] theorem setPort_siteNs (s : State) (q v : Nat) : (s.setPort q v).siteNs = s.siteNs := rfl
@[simp] theorem setPort_siteFrac (s : State) (q v : Nat) : (s.setPort q v).siteFrac = s.siteFrac := rfl
@[simp] theorem setPort_cwy (s : State) (q v : Nat) : (s.setPort q v).cwy = s.cwy := rfl
@[simp] theorem setPort_load (s : State) (q v : Nat) : (s.setPort q v).load = s.load := rfl
@[simp] theorem setPort_mem (s : State) (q v : Nat) : (s.setPort q v).mem = s.mem := rfl
@[simp] theorem setPort_truss (s : State) (q v : Nat) : (s.setPort q v).truss = s.truss := rfl
@[simp] theorem setPort_spn (s : State) (q v : Nat) : (s.setPort q v).spn = s.spn := rfl
@[simp] theorem setPort_phs (s : State) (q v : Nat) : (s.setPort q v).phs = s.phs := rfl
@[simp] theorem setPort_kst (s : State) (q v : Nat) : (s.setPort q v).kst = s.kst := rfl
@[simp] theorem setPort_arc (s : State) (q v : Nat) : (s.setPort q v).arc = s.arc := rfl
@[simp] theorem setPort_prp (s : State) (q v : Nat) : (s.setPort q v).prp = s.prp := rfl
@[simp] theorem setPort_tol (s : State) (q v : Nat) : (s.setPort q v).tol = s.tol := rfl
@[simp] theorem setPort_pyl (s : State) (q v : Nat) : (s.setPort q v).pyl = s.pyl := rfl
@[simp] theorem setPort_grd (s : State) (q v : Nat) : (s.setPort q v).grd = s.grd := rfl
@[simp] theorem setPort_mods (s : State) (q v : Nat) : (s.setPort q v).mods = s.mods := rfl
@[simp] theorem setPort_hkp (s : State) (q v : Nat) : (s.setPort q v).hkp = s.hkp := rfl
@[simp] theorem setPort_sty (s : State) (q v : Nat) : (s.setPort q v).sty = s.sty := rfl
@[simp] theorem setPort_vlk (s : State) (q v : Nat) : (s.setPort q v).vlk = s.vlk := rfl
@[simp] theorem setPort_can (s : State) (q v : Nat) : (s.setPort q v).can = s.can := rfl
@[simp] theorem setPort_trs (s : State) (q v : Nat) : (s.setPort q v).trs = s.trs := rfl
@[simp] theorem setPort_pwr (s : State) (q v : Nat) : (s.setPort q v).pwr = s.pwr := rfl
@[simp] theorem setPort_freeCtr (s : State) (q v : Nat) : (s.setPort q v).freeCtr = s.freeCtr := rfl
@[simp] theorem setPort_rdata (s : State) (q v : Nat) : (s.setPort q v).rdata = s.rdata := rfl
@[simp] theorem setPort_pending (s : State) (q v : Nat) : (s.setPort q v).pending = s.pending := rfl

/-! ### setMemB -/
@[simp] theorem setMemB_regs (s : State) (a : Nat) (b : Byte) : (s.setMemB a b).regs = s.regs := rfl
@[simp] theorem setMemB_img (s : State) (a : Nat) (b : Byte) : (s.setMemB a b).img = s.img := rfl
@[simp] theorem setMemB_secLen (s : State) (a : Nat) (b : Byte) : (s.setMemB a b).secLen = s.secLen := rfl
@[simp] theorem setMemB_periodUs (s : State) (a : Nat) (b : Byte) : (s.setMemB a b).periodUs = s.periodUs := rfl
@[simp] theorem setMemB_siteNs (s : State) (a : Nat) (b : Byte) : (s.setMemB a b).siteNs = s.siteNs := rfl
@[simp] theorem setMemB_siteFrac (s : State) (a : Nat) (b : Byte) : (s.setMemB a b).siteFrac = s.siteFrac := rfl
@[simp] theorem setMemB_ports (s : State) (a : Nat) (b : Byte) : (s.setMemB a b).ports = s.ports := rfl
@[simp] theorem setMemB_cwy (s : State) (a : Nat) (b : Byte) : (s.setMemB a b).cwy = s.cwy := rfl
@[simp] theorem setMemB_load (s : State) (a : Nat) (b : Byte) : (s.setMemB a b).load = s.load := rfl
@[simp] theorem setMemB_truss (s : State) (a : Nat) (b : Byte) : (s.setMemB a b).truss = s.truss := rfl
@[simp] theorem setMemB_spn (s : State) (a : Nat) (b : Byte) : (s.setMemB a b).spn = s.spn := rfl
@[simp] theorem setMemB_phs (s : State) (a : Nat) (b : Byte) : (s.setMemB a b).phs = s.phs := rfl
@[simp] theorem setMemB_kst (s : State) (a : Nat) (b : Byte) : (s.setMemB a b).kst = s.kst := rfl
@[simp] theorem setMemB_arc (s : State) (a : Nat) (b : Byte) : (s.setMemB a b).arc = s.arc := rfl
@[simp] theorem setMemB_prp (s : State) (a : Nat) (b : Byte) : (s.setMemB a b).prp = s.prp := rfl
@[simp] theorem setMemB_tol (s : State) (a : Nat) (b : Byte) : (s.setMemB a b).tol = s.tol := rfl
@[simp] theorem setMemB_pyl (s : State) (a : Nat) (b : Byte) : (s.setMemB a b).pyl = s.pyl := rfl
@[simp] theorem setMemB_grd (s : State) (a : Nat) (b : Byte) : (s.setMemB a b).grd = s.grd := rfl
@[simp] theorem setMemB_mods (s : State) (a : Nat) (b : Byte) : (s.setMemB a b).mods = s.mods := rfl
@[simp] theorem setMemB_hkp (s : State) (a : Nat) (b : Byte) : (s.setMemB a b).hkp = s.hkp := rfl
@[simp] theorem setMemB_sty (s : State) (a : Nat) (b : Byte) : (s.setMemB a b).sty = s.sty := rfl
@[simp] theorem setMemB_vlk (s : State) (a : Nat) (b : Byte) : (s.setMemB a b).vlk = s.vlk := rfl
@[simp] theorem setMemB_can (s : State) (a : Nat) (b : Byte) : (s.setMemB a b).can = s.can := rfl
@[simp] theorem setMemB_trs (s : State) (a : Nat) (b : Byte) : (s.setMemB a b).trs = s.trs := rfl
@[simp] theorem setMemB_pwr (s : State) (a : Nat) (b : Byte) : (s.setMemB a b).pwr = s.pwr := rfl
@[simp] theorem setMemB_freeCtr (s : State) (a : Nat) (b : Byte) : (s.setMemB a b).freeCtr = s.freeCtr := rfl
@[simp] theorem setMemB_rdata (s : State) (a : Nat) (b : Byte) : (s.setMemB a b).rdata = s.rdata := rfl
@[simp] theorem setMemB_pending (s : State) (a : Nat) (b : Byte) : (s.setMemB a b).pending = s.pending := rfl

/-! ### fresh -/
@[simp] theorem fresh_regs (s : State) (w : Nat) : (s.fresh w).2.regs = s.regs := rfl
@[simp] theorem fresh_img (s : State) (w : Nat) : (s.fresh w).2.img = s.img := rfl
@[simp] theorem fresh_secLen (s : State) (w : Nat) : (s.fresh w).2.secLen = s.secLen := rfl
@[simp] theorem fresh_periodUs (s : State) (w : Nat) : (s.fresh w).2.periodUs = s.periodUs := rfl
@[simp] theorem fresh_siteNs (s : State) (w : Nat) : (s.fresh w).2.siteNs = s.siteNs := rfl
@[simp] theorem fresh_siteFrac (s : State) (w : Nat) : (s.fresh w).2.siteFrac = s.siteFrac := rfl
@[simp] theorem fresh_ports (s : State) (w : Nat) : (s.fresh w).2.ports = s.ports := rfl
@[simp] theorem fresh_cwy (s : State) (w : Nat) : (s.fresh w).2.cwy = s.cwy := rfl
@[simp] theorem fresh_load (s : State) (w : Nat) : (s.fresh w).2.load = s.load := rfl
@[simp] theorem fresh_mem (s : State) (w : Nat) : (s.fresh w).2.mem = s.mem := rfl
@[simp] theorem fresh_truss (s : State) (w : Nat) : (s.fresh w).2.truss = s.truss := rfl
@[simp] theorem fresh_spn (s : State) (w : Nat) : (s.fresh w).2.spn = s.spn := rfl
@[simp] theorem fresh_phs (s : State) (w : Nat) : (s.fresh w).2.phs = s.phs := rfl
@[simp] theorem fresh_kst (s : State) (w : Nat) : (s.fresh w).2.kst = s.kst := rfl
@[simp] theorem fresh_arc (s : State) (w : Nat) : (s.fresh w).2.arc = s.arc := rfl
@[simp] theorem fresh_prp (s : State) (w : Nat) : (s.fresh w).2.prp = s.prp := rfl
@[simp] theorem fresh_tol (s : State) (w : Nat) : (s.fresh w).2.tol = s.tol := rfl
@[simp] theorem fresh_pyl (s : State) (w : Nat) : (s.fresh w).2.pyl = s.pyl := rfl
@[simp] theorem fresh_grd (s : State) (w : Nat) : (s.fresh w).2.grd = s.grd := rfl
@[simp] theorem fresh_mods (s : State) (w : Nat) : (s.fresh w).2.mods = s.mods := rfl
@[simp] theorem fresh_hkp (s : State) (w : Nat) : (s.fresh w).2.hkp = s.hkp := rfl
@[simp] theorem fresh_sty (s : State) (w : Nat) : (s.fresh w).2.sty = s.sty := rfl
@[simp] theorem fresh_vlk (s : State) (w : Nat) : (s.fresh w).2.vlk = s.vlk := rfl
@[simp] theorem fresh_can (s : State) (w : Nat) : (s.fresh w).2.can = s.can := rfl
@[simp] theorem fresh_trs (s : State) (w : Nat) : (s.fresh w).2.trs = s.trs := rfl
@[simp] theorem fresh_pwr (s : State) (w : Nat) : (s.fresh w).2.pwr = s.pwr := rfl
@[simp] theorem fresh_rdata (s : State) (w : Nat) : (s.fresh w).2.rdata = s.rdata := rfl
@[simp] theorem fresh_pending (s : State) (w : Nat) : (s.fresh w).2.pending = s.pending := rfl

/-! ### freshBelow -/
@[simp] theorem freshBelow_regs (s : State) (n : Nat) : (s.freshBelow n).2.regs = s.regs := rfl
@[simp] theorem freshBelow_img (s : State) (n : Nat) : (s.freshBelow n).2.img = s.img := rfl
@[simp] theorem freshBelow_secLen (s : State) (n : Nat) : (s.freshBelow n).2.secLen = s.secLen := rfl
@[simp] theorem freshBelow_periodUs (s : State) (n : Nat) : (s.freshBelow n).2.periodUs = s.periodUs := rfl
@[simp] theorem freshBelow_siteNs (s : State) (n : Nat) : (s.freshBelow n).2.siteNs = s.siteNs := rfl
@[simp] theorem freshBelow_siteFrac (s : State) (n : Nat) : (s.freshBelow n).2.siteFrac = s.siteFrac := rfl
@[simp] theorem freshBelow_ports (s : State) (n : Nat) : (s.freshBelow n).2.ports = s.ports := rfl
@[simp] theorem freshBelow_cwy (s : State) (n : Nat) : (s.freshBelow n).2.cwy = s.cwy := rfl
@[simp] theorem freshBelow_load (s : State) (n : Nat) : (s.freshBelow n).2.load = s.load := rfl
@[simp] theorem freshBelow_mem (s : State) (n : Nat) : (s.freshBelow n).2.mem = s.mem := rfl
@[simp] theorem freshBelow_truss (s : State) (n : Nat) : (s.freshBelow n).2.truss = s.truss := rfl
@[simp] theorem freshBelow_spn (s : State) (n : Nat) : (s.freshBelow n).2.spn = s.spn := rfl
@[simp] theorem freshBelow_phs (s : State) (n : Nat) : (s.freshBelow n).2.phs = s.phs := rfl
@[simp] theorem freshBelow_kst (s : State) (n : Nat) : (s.freshBelow n).2.kst = s.kst := rfl
@[simp] theorem freshBelow_arc (s : State) (n : Nat) : (s.freshBelow n).2.arc = s.arc := rfl
@[simp] theorem freshBelow_prp (s : State) (n : Nat) : (s.freshBelow n).2.prp = s.prp := rfl
@[simp] theorem freshBelow_tol (s : State) (n : Nat) : (s.freshBelow n).2.tol = s.tol := rfl
@[simp] theorem freshBelow_pyl (s : State) (n : Nat) : (s.freshBelow n).2.pyl = s.pyl := rfl
@[simp] theorem freshBelow_grd (s : State) (n : Nat) : (s.freshBelow n).2.grd = s.grd := rfl
@[simp] theorem freshBelow_mods (s : State) (n : Nat) : (s.freshBelow n).2.mods = s.mods := rfl
@[simp] theorem freshBelow_hkp (s : State) (n : Nat) : (s.freshBelow n).2.hkp = s.hkp := rfl
@[simp] theorem freshBelow_sty (s : State) (n : Nat) : (s.freshBelow n).2.sty = s.sty := rfl
@[simp] theorem freshBelow_vlk (s : State) (n : Nat) : (s.freshBelow n).2.vlk = s.vlk := rfl
@[simp] theorem freshBelow_can (s : State) (n : Nat) : (s.freshBelow n).2.can = s.can := rfl
@[simp] theorem freshBelow_trs (s : State) (n : Nat) : (s.freshBelow n).2.trs = s.trs := rfl
@[simp] theorem freshBelow_pwr (s : State) (n : Nat) : (s.freshBelow n).2.pwr = s.pwr := rfl
@[simp] theorem freshBelow_rdata (s : State) (n : Nat) : (s.freshBelow n).2.rdata = s.rdata := rfl
@[simp] theorem freshBelow_pending (s : State) (n : Nat) : (s.freshBelow n).2.pending = s.pending := rfl

/-! ### modLink -/
@[simp] theorem modLink_regs (s : State) (l : Nat) (f : Link → Link) : (s.modLink l f).regs = s.regs := rfl
@[simp] theorem modLink_img (s : State) (l : Nat) (f : Link → Link) : (s.modLink l f).img = s.img := rfl
@[simp] theorem modLink_secLen (s : State) (l : Nat) (f : Link → Link) : (s.modLink l f).secLen = s.secLen := rfl
@[simp] theorem modLink_periodUs (s : State) (l : Nat) (f : Link → Link) : (s.modLink l f).periodUs = s.periodUs := rfl
@[simp] theorem modLink_siteNs (s : State) (l : Nat) (f : Link → Link) : (s.modLink l f).siteNs = s.siteNs := rfl
@[simp] theorem modLink_siteFrac (s : State) (l : Nat) (f : Link → Link) : (s.modLink l f).siteFrac = s.siteFrac := rfl
@[simp] theorem modLink_ports (s : State) (l : Nat) (f : Link → Link) : (s.modLink l f).ports = s.ports := rfl
@[simp] theorem modLink_cwy (s : State) (l : Nat) (f : Link → Link) : (s.modLink l f).cwy = s.cwy := rfl
@[simp] theorem modLink_load (s : State) (l : Nat) (f : Link → Link) : (s.modLink l f).load = s.load := rfl
@[simp] theorem modLink_mem (s : State) (l : Nat) (f : Link → Link) : (s.modLink l f).mem = s.mem := rfl
@[simp] theorem modLink_truss (s : State) (l : Nat) (f : Link → Link) : (s.modLink l f).truss = s.truss := rfl
@[simp] theorem modLink_phs (s : State) (l : Nat) (f : Link → Link) : (s.modLink l f).phs = s.phs := rfl
@[simp] theorem modLink_kst (s : State) (l : Nat) (f : Link → Link) : (s.modLink l f).kst = s.kst := rfl
@[simp] theorem modLink_arc (s : State) (l : Nat) (f : Link → Link) : (s.modLink l f).arc = s.arc := rfl
@[simp] theorem modLink_prp (s : State) (l : Nat) (f : Link → Link) : (s.modLink l f).prp = s.prp := rfl
@[simp] theorem modLink_tol (s : State) (l : Nat) (f : Link → Link) : (s.modLink l f).tol = s.tol := rfl
@[simp] theorem modLink_pyl (s : State) (l : Nat) (f : Link → Link) : (s.modLink l f).pyl = s.pyl := rfl
@[simp] theorem modLink_grd (s : State) (l : Nat) (f : Link → Link) : (s.modLink l f).grd = s.grd := rfl
@[simp] theorem modLink_mods (s : State) (l : Nat) (f : Link → Link) : (s.modLink l f).mods = s.mods := rfl
@[simp] theorem modLink_hkp (s : State) (l : Nat) (f : Link → Link) : (s.modLink l f).hkp = s.hkp := rfl
@[simp] theorem modLink_sty (s : State) (l : Nat) (f : Link → Link) : (s.modLink l f).sty = s.sty := rfl
@[simp] theorem modLink_vlk (s : State) (l : Nat) (f : Link → Link) : (s.modLink l f).vlk = s.vlk := rfl
@[simp] theorem modLink_can (s : State) (l : Nat) (f : Link → Link) : (s.modLink l f).can = s.can := rfl
@[simp] theorem modLink_trs (s : State) (l : Nat) (f : Link → Link) : (s.modLink l f).trs = s.trs := rfl
@[simp] theorem modLink_pwr (s : State) (l : Nat) (f : Link → Link) : (s.modLink l f).pwr = s.pwr := rfl
@[simp] theorem modLink_freeCtr (s : State) (l : Nat) (f : Link → Link) : (s.modLink l f).freeCtr = s.freeCtr := rfl
@[simp] theorem modLink_rdata (s : State) (l : Nat) (f : Link → Link) : (s.modLink l f).rdata = s.rdata := rfl
@[simp] theorem modLink_pending (s : State) (l : Nat) (f : Link → Link) : (s.modLink l f).pending = s.pending := rfl

/-! ### modNode -/
@[simp] theorem modNode_regs (s : State) (l : Nat) (f : Node → Node) : (s.modNode l f).regs = s.regs := rfl
@[simp] theorem modNode_img (s : State) (l : Nat) (f : Node → Node) : (s.modNode l f).img = s.img := rfl
@[simp] theorem modNode_secLen (s : State) (l : Nat) (f : Node → Node) : (s.modNode l f).secLen = s.secLen := rfl
@[simp] theorem modNode_periodUs (s : State) (l : Nat) (f : Node → Node) : (s.modNode l f).periodUs = s.periodUs := rfl
@[simp] theorem modNode_siteNs (s : State) (l : Nat) (f : Node → Node) : (s.modNode l f).siteNs = s.siteNs := rfl
@[simp] theorem modNode_siteFrac (s : State) (l : Nat) (f : Node → Node) : (s.modNode l f).siteFrac = s.siteFrac := rfl
@[simp] theorem modNode_ports (s : State) (l : Nat) (f : Node → Node) : (s.modNode l f).ports = s.ports := rfl
@[simp] theorem modNode_cwy (s : State) (l : Nat) (f : Node → Node) : (s.modNode l f).cwy = s.cwy := rfl
@[simp] theorem modNode_load (s : State) (l : Nat) (f : Node → Node) : (s.modNode l f).load = s.load := rfl
@[simp] theorem modNode_mem (s : State) (l : Nat) (f : Node → Node) : (s.modNode l f).mem = s.mem := rfl
@[simp] theorem modNode_truss (s : State) (l : Nat) (f : Node → Node) : (s.modNode l f).truss = s.truss := rfl
@[simp] theorem modNode_phs (s : State) (l : Nat) (f : Node → Node) : (s.modNode l f).phs = s.phs := rfl
@[simp] theorem modNode_kst (s : State) (l : Nat) (f : Node → Node) : (s.modNode l f).kst = s.kst := rfl
@[simp] theorem modNode_arc (s : State) (l : Nat) (f : Node → Node) : (s.modNode l f).arc = s.arc := rfl
@[simp] theorem modNode_prp (s : State) (l : Nat) (f : Node → Node) : (s.modNode l f).prp = s.prp := rfl
@[simp] theorem modNode_tol (s : State) (l : Nat) (f : Node → Node) : (s.modNode l f).tol = s.tol := rfl
@[simp] theorem modNode_pyl (s : State) (l : Nat) (f : Node → Node) : (s.modNode l f).pyl = s.pyl := rfl
@[simp] theorem modNode_grd (s : State) (l : Nat) (f : Node → Node) : (s.modNode l f).grd = s.grd := rfl
@[simp] theorem modNode_mods (s : State) (l : Nat) (f : Node → Node) : (s.modNode l f).mods = s.mods := rfl
@[simp] theorem modNode_hkp (s : State) (l : Nat) (f : Node → Node) : (s.modNode l f).hkp = s.hkp := rfl
@[simp] theorem modNode_sty (s : State) (l : Nat) (f : Node → Node) : (s.modNode l f).sty = s.sty := rfl
@[simp] theorem modNode_vlk (s : State) (l : Nat) (f : Node → Node) : (s.modNode l f).vlk = s.vlk := rfl
@[simp] theorem modNode_can (s : State) (l : Nat) (f : Node → Node) : (s.modNode l f).can = s.can := rfl
@[simp] theorem modNode_trs (s : State) (l : Nat) (f : Node → Node) : (s.modNode l f).trs = s.trs := rfl
@[simp] theorem modNode_pwr (s : State) (l : Nat) (f : Node → Node) : (s.modNode l f).pwr = s.pwr := rfl
@[simp] theorem modNode_freeCtr (s : State) (l : Nat) (f : Node → Node) : (s.modNode l f).freeCtr = s.freeCtr := rfl
@[simp] theorem modNode_rdata (s : State) (l : Nat) (f : Node → Node) : (s.modNode l f).rdata = s.rdata := rfl
@[simp] theorem modNode_pending (s : State) (l : Nat) (f : Node → Node) : (s.modNode l f).pending = s.pending := rfl

/-! ### modOut -/
@[simp] theorem modOut_regs (s : State) (l : Nat) (f : Outlet → Outlet) : (s.modOut l f).regs = s.regs := rfl
@[simp] theorem modOut_img (s : State) (l : Nat) (f : Outlet → Outlet) : (s.modOut l f).img = s.img := rfl
@[simp] theorem modOut_secLen (s : State) (l : Nat) (f : Outlet → Outlet) : (s.modOut l f).secLen = s.secLen := rfl
@[simp] theorem modOut_periodUs (s : State) (l : Nat) (f : Outlet → Outlet) : (s.modOut l f).periodUs = s.periodUs := rfl
@[simp] theorem modOut_siteNs (s : State) (l : Nat) (f : Outlet → Outlet) : (s.modOut l f).siteNs = s.siteNs := rfl
@[simp] theorem modOut_siteFrac (s : State) (l : Nat) (f : Outlet → Outlet) : (s.modOut l f).siteFrac = s.siteFrac := rfl
@[simp] theorem modOut_ports (s : State) (l : Nat) (f : Outlet → Outlet) : (s.modOut l f).ports = s.ports := rfl
@[simp] theorem modOut_cwy (s : State) (l : Nat) (f : Outlet → Outlet) : (s.modOut l f).cwy = s.cwy := rfl
@[simp] theorem modOut_load (s : State) (l : Nat) (f : Outlet → Outlet) : (s.modOut l f).load = s.load := rfl
@[simp] theorem modOut_mem (s : State) (l : Nat) (f : Outlet → Outlet) : (s.modOut l f).mem = s.mem := rfl
@[simp] theorem modOut_truss (s : State) (l : Nat) (f : Outlet → Outlet) : (s.modOut l f).truss = s.truss := rfl
@[simp] theorem modOut_spn (s : State) (l : Nat) (f : Outlet → Outlet) : (s.modOut l f).spn = s.spn := rfl
@[simp] theorem modOut_phs (s : State) (l : Nat) (f : Outlet → Outlet) : (s.modOut l f).phs = s.phs := rfl
@[simp] theorem modOut_arc (s : State) (l : Nat) (f : Outlet → Outlet) : (s.modOut l f).arc = s.arc := rfl
@[simp] theorem modOut_prp (s : State) (l : Nat) (f : Outlet → Outlet) : (s.modOut l f).prp = s.prp := rfl
@[simp] theorem modOut_tol (s : State) (l : Nat) (f : Outlet → Outlet) : (s.modOut l f).tol = s.tol := rfl
@[simp] theorem modOut_pyl (s : State) (l : Nat) (f : Outlet → Outlet) : (s.modOut l f).pyl = s.pyl := rfl
@[simp] theorem modOut_grd (s : State) (l : Nat) (f : Outlet → Outlet) : (s.modOut l f).grd = s.grd := rfl
@[simp] theorem modOut_mods (s : State) (l : Nat) (f : Outlet → Outlet) : (s.modOut l f).mods = s.mods := rfl
@[simp] theorem modOut_hkp (s : State) (l : Nat) (f : Outlet → Outlet) : (s.modOut l f).hkp = s.hkp := rfl
@[simp] theorem modOut_sty (s : State) (l : Nat) (f : Outlet → Outlet) : (s.modOut l f).sty = s.sty := rfl
@[simp] theorem modOut_vlk (s : State) (l : Nat) (f : Outlet → Outlet) : (s.modOut l f).vlk = s.vlk := rfl
@[simp] theorem modOut_can (s : State) (l : Nat) (f : Outlet → Outlet) : (s.modOut l f).can = s.can := rfl
@[simp] theorem modOut_trs (s : State) (l : Nat) (f : Outlet → Outlet) : (s.modOut l f).trs = s.trs := rfl
@[simp] theorem modOut_pwr (s : State) (l : Nat) (f : Outlet → Outlet) : (s.modOut l f).pwr = s.pwr := rfl
@[simp] theorem modOut_freeCtr (s : State) (l : Nat) (f : Outlet → Outlet) : (s.modOut l f).freeCtr = s.freeCtr := rfl
@[simp] theorem modOut_rdata (s : State) (l : Nat) (f : Outlet → Outlet) : (s.modOut l f).rdata = s.rdata := rfl
@[simp] theorem modOut_pending (s : State) (l : Nat) (f : Outlet → Outlet) : (s.modOut l f).pending = s.pending := rfl

/-! ### modIn -/
@[simp] theorem modIn_regs (s : State) (l : Nat) (f : SafeIn → SafeIn) : (s.modIn l f).regs = s.regs := rfl
@[simp] theorem modIn_img (s : State) (l : Nat) (f : SafeIn → SafeIn) : (s.modIn l f).img = s.img := rfl
@[simp] theorem modIn_secLen (s : State) (l : Nat) (f : SafeIn → SafeIn) : (s.modIn l f).secLen = s.secLen := rfl
@[simp] theorem modIn_periodUs (s : State) (l : Nat) (f : SafeIn → SafeIn) : (s.modIn l f).periodUs = s.periodUs := rfl
@[simp] theorem modIn_siteNs (s : State) (l : Nat) (f : SafeIn → SafeIn) : (s.modIn l f).siteNs = s.siteNs := rfl
@[simp] theorem modIn_siteFrac (s : State) (l : Nat) (f : SafeIn → SafeIn) : (s.modIn l f).siteFrac = s.siteFrac := rfl
@[simp] theorem modIn_ports (s : State) (l : Nat) (f : SafeIn → SafeIn) : (s.modIn l f).ports = s.ports := rfl
@[simp] theorem modIn_cwy (s : State) (l : Nat) (f : SafeIn → SafeIn) : (s.modIn l f).cwy = s.cwy := rfl
@[simp] theorem modIn_load (s : State) (l : Nat) (f : SafeIn → SafeIn) : (s.modIn l f).load = s.load := rfl
@[simp] theorem modIn_mem (s : State) (l : Nat) (f : SafeIn → SafeIn) : (s.modIn l f).mem = s.mem := rfl
@[simp] theorem modIn_truss (s : State) (l : Nat) (f : SafeIn → SafeIn) : (s.modIn l f).truss = s.truss := rfl
@[simp] theorem modIn_spn (s : State) (l : Nat) (f : SafeIn → SafeIn) : (s.modIn l f).spn = s.spn := rfl
@[simp] theorem modIn_phs (s : State) (l : Nat) (f : SafeIn → SafeIn) : (s.modIn l f).phs = s.phs := rfl
@[simp] theorem modIn_kst (s : State) (l : Nat) (f : SafeIn → SafeIn) : (s.modIn l f).kst = s.kst := rfl
@[simp] theorem modIn_arc (s : State) (l : Nat) (f : SafeIn → SafeIn) : (s.modIn l f).arc = s.arc := rfl
@[simp] theorem modIn_tol (s : State) (l : Nat) (f : SafeIn → SafeIn) : (s.modIn l f).tol = s.tol := rfl
@[simp] theorem modIn_pyl (s : State) (l : Nat) (f : SafeIn → SafeIn) : (s.modIn l f).pyl = s.pyl := rfl
@[simp] theorem modIn_grd (s : State) (l : Nat) (f : SafeIn → SafeIn) : (s.modIn l f).grd = s.grd := rfl
@[simp] theorem modIn_mods (s : State) (l : Nat) (f : SafeIn → SafeIn) : (s.modIn l f).mods = s.mods := rfl
@[simp] theorem modIn_hkp (s : State) (l : Nat) (f : SafeIn → SafeIn) : (s.modIn l f).hkp = s.hkp := rfl
@[simp] theorem modIn_sty (s : State) (l : Nat) (f : SafeIn → SafeIn) : (s.modIn l f).sty = s.sty := rfl
@[simp] theorem modIn_vlk (s : State) (l : Nat) (f : SafeIn → SafeIn) : (s.modIn l f).vlk = s.vlk := rfl
@[simp] theorem modIn_can (s : State) (l : Nat) (f : SafeIn → SafeIn) : (s.modIn l f).can = s.can := rfl
@[simp] theorem modIn_trs (s : State) (l : Nat) (f : SafeIn → SafeIn) : (s.modIn l f).trs = s.trs := rfl
@[simp] theorem modIn_pwr (s : State) (l : Nat) (f : SafeIn → SafeIn) : (s.modIn l f).pwr = s.pwr := rfl
@[simp] theorem modIn_freeCtr (s : State) (l : Nat) (f : SafeIn → SafeIn) : (s.modIn l f).freeCtr = s.freeCtr := rfl
@[simp] theorem modIn_rdata (s : State) (l : Nat) (f : SafeIn → SafeIn) : (s.modIn l f).rdata = s.rdata := rfl
@[simp] theorem modIn_pending (s : State) (l : Nat) (f : SafeIn → SafeIn) : (s.modIn l f).pending = s.pending := rfl

/-! ### Reads of registers, image, ports and memory see only their own field -/

/-- `reg` as a function of `regs` alone. -/
def regIn (x : List (Nat × Word)) (a : Nat) := State.reg { regs := x } a
@[simp] theorem reg_mk {img secLen periodUs siteNs siteFrac ports cwy load mem truss spn phs kst arc prp tol pyl grd mods hkp sty vlk can trs pwr freeCtr rdata pending} (x : List (Nat × Word)) (a : Nat) :
  State.reg ⟨x, img, secLen, periodUs, siteNs, siteFrac, ports, cwy, load, mem, truss, spn, phs, kst, arc, prp, tol, pyl, grd, mods, hkp, sty, vlk, can, trs, pwr, freeCtr, rdata, pending⟩ a = regIn x a := rfl
@[simp] theorem regIn_regs (s : State) (a : Nat) : regIn s.regs a = s.reg a := rfl

/-- `get` as a function of `regs` alone. -/
def getIn (x : List (Nat × Word)) (f : FieldRef) := State.get { regs := x } f
@[simp] theorem get_mk {img secLen periodUs siteNs siteFrac ports cwy load mem truss spn phs kst arc prp tol pyl grd mods hkp sty vlk can trs pwr freeCtr rdata pending} (x : List (Nat × Word)) (f : FieldRef) :
  State.get ⟨x, img, secLen, periodUs, siteNs, siteFrac, ports, cwy, load, mem, truss, spn, phs, kst, arc, prp, tol, pyl, grd, mods, hkp, sty, vlk, can, trs, pwr, freeCtr, rdata, pending⟩ f = getIn x f := rfl
@[simp] theorem getIn_regs (s : State) (f : FieldRef) : getIn s.regs f = s.get f := rfl

/-- `bit` as a function of `regs` alone. -/
def bitIn (x : List (Nat × Word)) (f : FieldRef) := State.bit { regs := x } f
@[simp] theorem bit_mk {img secLen periodUs siteNs siteFrac ports cwy load mem truss spn phs kst arc prp tol pyl grd mods hkp sty vlk can trs pwr freeCtr rdata pending} (x : List (Nat × Word)) (f : FieldRef) :
  State.bit ⟨x, img, secLen, periodUs, siteNs, siteFrac, ports, cwy, load, mem, truss, spn, phs, kst, arc, prp, tol, pyl, grd, mods, hkp, sty, vlk, can, trs, pwr, freeCtr, rdata, pending⟩ f = bitIn x f := rfl
@[simp] theorem bitIn_regs (s : State) (f : FieldRef) : bitIn s.regs f = s.bit f := rfl

/-- `getS` as a function of `regs` alone. -/
def getSIn (x : List (Nat × Word)) (f : FieldRef) := State.getS { regs := x } f
@[simp] theorem getS_mk {img secLen periodUs siteNs siteFrac ports cwy load mem truss spn phs kst arc prp tol pyl grd mods hkp sty vlk can trs pwr freeCtr rdata pending} (x : List (Nat × Word)) (f : FieldRef) :
  State.getS ⟨x, img, secLen, periodUs, siteNs, siteFrac, ports, cwy, load, mem, truss, spn, phs, kst, arc, prp, tol, pyl, grd, mods, hkp, sty, vlk, can, trs, pwr, freeCtr, rdata, pending⟩ f = getSIn x f := rfl
@[simp] theorem getSIn_regs (s : State) (f : FieldRef) : getSIn s.regs f = s.getS f := rfl

/-- `role` as a function of `regs` alone. -/
def roleIn (x : List (Nat × Word))  := State.role { regs := x }
@[simp] theorem role_mk {img secLen periodUs siteNs siteFrac ports cwy load mem truss spn phs kst arc prp tol pyl grd mods hkp sty vlk can trs pwr freeCtr rdata pending} (x : List (Nat × Word)) :
  State.role ⟨x, img, secLen, periodUs, siteNs, siteFrac, ports, cwy, load, mem, truss, spn, phs, kst, arc, prp, tol, pyl, grd, mods, hkp, sty, vlk, can, trs, pwr, freeCtr, rdata, pending⟩ = roleIn x := rfl
@[simp] theorem roleIn_regs (s : State) : roleIn s.regs = s.role := rfl

/-- `isSealed` as a function of `regs` alone. -/
def isSealedIn (x : List (Nat × Word))  := State.isSealed { regs := x }
@[simp] theorem isSealed_mk {img secLen periodUs siteNs siteFrac ports cwy load mem truss spn phs kst arc prp tol pyl grd mods hkp sty vlk can trs pwr freeCtr rdata pending} (x : List (Nat × Word)) :
  State.isSealed ⟨x, img, secLen, periodUs, siteNs, siteFrac, ports, cwy, load, mem, truss, spn, phs, kst, arc, prp, tol, pyl, grd, mods, hkp, sty, vlk, can, trs, pwr, freeCtr, rdata, pending⟩ = isSealedIn x := rfl
@[simp] theorem isSealedIn_regs (s : State) : isSealedIn s.regs = s.isSealed := rfl

/-- `cfgB` as a function of `img` alone. -/
def cfgBIn (x : List Host.Cell) (ty off : Nat) := State.cfgB { img := x } ty off
@[simp] theorem cfgB_mk {regs secLen periodUs siteNs siteFrac ports cwy load mem truss spn phs kst arc prp tol pyl grd mods hkp sty vlk can trs pwr freeCtr rdata pending} (x : List Host.Cell) (ty off : Nat) :
  State.cfgB ⟨regs, x, secLen, periodUs, siteNs, siteFrac, ports, cwy, load, mem, truss, spn, phs, kst, arc, prp, tol, pyl, grd, mods, hkp, sty, vlk, can, trs, pwr, freeCtr, rdata, pending⟩ ty off = cfgBIn x ty off := rfl
@[simp] theorem cfgBIn_img (s : State) (ty off : Nat) : cfgBIn s.img ty off = s.cfgB ty off := rfl

/-- `cfg` as a function of `img` alone. -/
def cfgIn (x : List Host.Cell) (ty off n : Nat) := State.cfg { img := x } ty off n
theorem cfg_congr {s t : State} (h : t.img = s.img) (ty off n : Nat) : t.cfg ty off n = s.cfg ty off n := by
  induction n generalizing off with
  | zero => rfl
  | succ n ih => simp only [State.cfg, ih, State.cfgB, h]
@[simp] theorem cfg_mk {regs secLen periodUs siteNs siteFrac ports cwy load mem truss spn phs kst arc prp tol pyl grd mods hkp sty vlk can trs pwr freeCtr rdata pending} (x : List Host.Cell) (ty off n : Nat) :
  State.cfg ⟨regs, x, secLen, periodUs, siteNs, siteFrac, ports, cwy, load, mem, truss, spn, phs, kst, arc, prp, tol, pyl, grd, mods, hkp, sty, vlk, can, trs, pwr, freeCtr, rdata, pending⟩ ty off n = cfgIn x ty off n := cfg_congr (by rfl) _ _ _
@[simp] theorem cfgIn_img (s : State) (ty off n : Nat) : cfgIn s.img ty off n = s.cfg ty off n := cfg_congr (by rfl) _ _ _

/-- `cfgS` as a function of `img` alone. -/
def cfgSIn (x : List Host.Cell) (ty off n : Nat) := State.cfgS { img := x } ty off n
@[simp] theorem cfgS_mk {regs secLen periodUs siteNs siteFrac ports cwy load mem truss spn phs kst arc prp tol pyl grd mods hkp sty vlk can trs pwr freeCtr rdata pending} (x : List Host.Cell) (ty off n : Nat) :
  State.cfgS ⟨regs, x, secLen, periodUs, siteNs, siteFrac, ports, cwy, load, mem, truss, spn, phs, kst, arc, prp, tol, pyl, grd, mods, hkp, sty, vlk, can, trs, pwr, freeCtr, rdata, pending⟩ ty off n = cfgSIn x ty off n := congrArg (toS _) (cfg_congr (by rfl) _ _ _)
@[simp] theorem cfgSIn_img (s : State) (ty off n : Nat) : cfgSIn s.img ty off n = s.cfgS ty off n := congrArg (toS _) (cfg_congr (by rfl) _ _ _)

/-- `lenOf` as a function of `secLen` alone. -/
def lenOfIn (x : List (Nat × Nat)) (ty : Nat) := State.lenOf { secLen := x } ty
@[simp] theorem lenOf_mk {regs img periodUs siteNs siteFrac ports cwy load mem truss spn phs kst arc prp tol pyl grd mods hkp sty vlk can trs pwr freeCtr rdata pending} (x : List (Nat × Nat)) (ty : Nat) :
  State.lenOf ⟨regs, img, x, periodUs, siteNs, siteFrac, ports, cwy, load, mem, truss, spn, phs, kst, arc, prp, tol, pyl, grd, mods, hkp, sty, vlk, can, trs, pwr, freeCtr, rdata, pending⟩ ty = lenOfIn x ty := rfl
@[simp] theorem lenOfIn_secLen (s : State) (ty : Nat) : lenOfIn s.secLen ty = s.lenOf ty := rfl

/-- `port` as a function of `ports` alone. -/
def portIn (x : List (Nat × Nat)) (q : Nat) := State.port { ports := x } q
@[simp] theorem port_mk {regs img secLen periodUs siteNs siteFrac cwy load mem truss spn phs kst arc prp tol pyl grd mods hkp sty vlk can trs pwr freeCtr rdata pending} (x : List (Nat × Nat)) (q : Nat) :
  State.port ⟨regs, img, secLen, periodUs, siteNs, siteFrac, x, cwy, load, mem, truss, spn, phs, kst, arc, prp, tol, pyl, grd, mods, hkp, sty, vlk, can, trs, pwr, freeCtr, rdata, pending⟩ q = portIn x q := rfl
@[simp] theorem portIn_ports (s : State) (q : Nat) : portIn s.ports q = s.port q := rfl

/-- `memB` as a function of `mem` alone. -/
def memBIn (x : List Host.Cell) (a : Nat) := State.memB { mem := x } a
@[simp] theorem memB_mk {regs img secLen periodUs siteNs siteFrac ports cwy load truss spn phs kst arc prp tol pyl grd mods hkp sty vlk can trs pwr freeCtr rdata pending} (x : List Host.Cell) (a : Nat) :
  State.memB ⟨regs, img, secLen, periodUs, siteNs, siteFrac, ports, cwy, load, x, truss, spn, phs, kst, arc, prp, tol, pyl, grd, mods, hkp, sty, vlk, can, trs, pwr, freeCtr, rdata, pending⟩ a = memBIn x a := rfl
@[simp] theorem memBIn_mem (s : State) (a : Nat) : memBIn s.mem a = s.memB a := rfl

/-- `memBytes` as a function of `mem` alone. -/
def memBytesIn (x : List Host.Cell) (a n : Nat) := State.memBytes { mem := x } a n
@[simp] theorem memBytes_mk {regs img secLen periodUs siteNs siteFrac ports cwy load truss spn phs kst arc prp tol pyl grd mods hkp sty vlk can trs pwr freeCtr rdata pending} (x : List Host.Cell) (a n : Nat) :
  State.memBytes ⟨regs, img, secLen, periodUs, siteNs, siteFrac, ports, cwy, load, x, truss, spn, phs, kst, arc, prp, tol, pyl, grd, mods, hkp, sty, vlk, can, trs, pwr, freeCtr, rdata, pending⟩ a n = memBytesIn x a n := rfl
@[simp] theorem memBytesIn_mem (s : State) (a n : Nat) : memBytesIn s.mem a n = s.memBytes a n := rfl

/-- `memLE` as a function of `mem` alone. -/
def memLEIn (x : List Host.Cell) (a n : Nat) := State.memLE { mem := x } a n
@[simp] theorem memLE_mk {regs img secLen periodUs siteNs siteFrac ports cwy load truss spn phs kst arc prp tol pyl grd mods hkp sty vlk can trs pwr freeCtr rdata pending} (x : List Host.Cell) (a n : Nat) :
  State.memLE ⟨regs, img, secLen, periodUs, siteNs, siteFrac, ports, cwy, load, x, truss, spn, phs, kst, arc, prp, tol, pyl, grd, mods, hkp, sty, vlk, can, trs, pwr, freeCtr, rdata, pending⟩ a n = memLEIn x a n := rfl
@[simp] theorem memLEIn_mem (s : State) (a n : Nat) : memLEIn s.mem a n = s.memLE a n := rfl

/-! ### The same reads after an update that leaves their field -/

@[simp] theorem cfgB_setReg (s : State) (a v : Nat) (ty off : Nat) : (s.setReg a v).cfgB ty off = s.cfgB ty off := rfl
@[simp] theorem cfg_setReg (s : State) (a v : Nat) (ty off k : Nat) : (s.setReg a v).cfg ty off k = s.cfg ty off k := cfg_congr (by rfl) _ _ _
@[simp] theorem cfgS_setReg (s : State) (a v : Nat) (ty off k : Nat) : (s.setReg a v).cfgS ty off k = s.cfgS ty off k := congrArg (toS _) (cfg_congr (by rfl) _ _ _)
@[simp] theorem lenOf_setReg (s : State) (a v : Nat) (ty : Nat) : (s.setReg a v).lenOf ty = s.lenOf ty := rfl
@[simp] theorem port_setReg (s : State) (a v : Nat) (q₂ : Nat) : (s.setReg a v).port q₂ = s.port q₂ := rfl
@[simp] theorem memB_setReg (s : State) (a v : Nat) (a₂ : Nat) : (s.setReg a v).memB a₂ = s.memB a₂ := rfl
@[simp] theorem memBytes_setReg (s : State) (a v : Nat) (a₂ n₂ : Nat) : (s.setReg a v).memBytes a₂ n₂ = s.memBytes a₂ n₂ := rfl
@[simp] theorem memLE_setReg (s : State) (a v : Nat) (a₂ n₂ : Nat) : (s.setReg a v).memLE a₂ n₂ = s.memLE a₂ n₂ := rfl

@[simp] theorem cfgB_put (s : State) (f : FieldRef) (v : Nat) (ty off : Nat) : (s.put f v).cfgB ty off = s.cfgB ty off := rfl
@[simp] theorem cfg_put (s : State) (f : FieldRef) (v : Nat) (ty off k : Nat) : (s.put f v).cfg ty off k = s.cfg ty off k := cfg_congr (by rfl) _ _ _
@[simp] theorem cfgS_put (s : State) (f : FieldRef) (v : Nat) (ty off k : Nat) : (s.put f v).cfgS ty off k = s.cfgS ty off k := congrArg (toS _) (cfg_congr (by rfl) _ _ _)
@[simp] theorem lenOf_put (s : State) (f : FieldRef) (v : Nat) (ty : Nat) : (s.put f v).lenOf ty = s.lenOf ty := rfl
@[simp] theorem port_put (s : State) (f : FieldRef) (v : Nat) (q₂ : Nat) : (s.put f v).port q₂ = s.port q₂ := rfl
@[simp] theorem memB_put (s : State) (f : FieldRef) (v : Nat) (a₂ : Nat) : (s.put f v).memB a₂ = s.memB a₂ := rfl
@[simp] theorem memBytes_put (s : State) (f : FieldRef) (v : Nat) (a₂ n₂ : Nat) : (s.put f v).memBytes a₂ n₂ = s.memBytes a₂ n₂ := rfl
@[simp] theorem memLE_put (s : State) (f : FieldRef) (v : Nat) (a₂ n₂ : Nat) : (s.put f v).memLE a₂ n₂ = s.memLE a₂ n₂ := rfl

@[simp] theorem cfgB_putB (s : State) (f : FieldRef) (b : Bool) (ty off : Nat) : (s.putB f b).cfgB ty off = s.cfgB ty off := rfl
@[simp] theorem cfg_putB (s : State) (f : FieldRef) (b : Bool) (ty off k : Nat) : (s.putB f b).cfg ty off k = s.cfg ty off k := cfg_congr (by rfl) _ _ _
@[simp] theorem cfgS_putB (s : State) (f : FieldRef) (b : Bool) (ty off k : Nat) : (s.putB f b).cfgS ty off k = s.cfgS ty off k := congrArg (toS _) (cfg_congr (by rfl) _ _ _)
@[simp] theorem lenOf_putB (s : State) (f : FieldRef) (b : Bool) (ty : Nat) : (s.putB f b).lenOf ty = s.lenOf ty := rfl
@[simp] theorem port_putB (s : State) (f : FieldRef) (b : Bool) (q₂ : Nat) : (s.putB f b).port q₂ = s.port q₂ := rfl
@[simp] theorem memB_putB (s : State) (f : FieldRef) (b : Bool) (a₂ : Nat) : (s.putB f b).memB a₂ = s.memB a₂ := rfl
@[simp] theorem memBytes_putB (s : State) (f : FieldRef) (b : Bool) (a₂ n₂ : Nat) : (s.putB f b).memBytes a₂ n₂ = s.memBytes a₂ n₂ := rfl
@[simp] theorem memLE_putB (s : State) (f : FieldRef) (b : Bool) (a₂ n₂ : Nat) : (s.putB f b).memLE a₂ n₂ = s.memLE a₂ n₂ := rfl

@[simp] theorem cfgB_putS (s : State) (f : FieldRef) (i : Int) (ty off : Nat) : (s.putS f i).cfgB ty off = s.cfgB ty off := rfl
@[simp] theorem cfg_putS (s : State) (f : FieldRef) (i : Int) (ty off k : Nat) : (s.putS f i).cfg ty off k = s.cfg ty off k := cfg_congr (by rfl) _ _ _
@[simp] theorem cfgS_putS (s : State) (f : FieldRef) (i : Int) (ty off k : Nat) : (s.putS f i).cfgS ty off k = s.cfgS ty off k := congrArg (toS _) (cfg_congr (by rfl) _ _ _)
@[simp] theorem lenOf_putS (s : State) (f : FieldRef) (i : Int) (ty : Nat) : (s.putS f i).lenOf ty = s.lenOf ty := rfl
@[simp] theorem port_putS (s : State) (f : FieldRef) (i : Int) (q₂ : Nat) : (s.putS f i).port q₂ = s.port q₂ := rfl
@[simp] theorem memB_putS (s : State) (f : FieldRef) (i : Int) (a₂ : Nat) : (s.putS f i).memB a₂ = s.memB a₂ := rfl
@[simp] theorem memBytes_putS (s : State) (f : FieldRef) (i : Int) (a₂ n₂ : Nat) : (s.putS f i).memBytes a₂ n₂ = s.memBytes a₂ n₂ := rfl
@[simp] theorem memLE_putS (s : State) (f : FieldRef) (i : Int) (a₂ n₂ : Nat) : (s.putS f i).memLE a₂ n₂ = s.memLE a₂ n₂ := rfl

@[simp] theorem cfgB_putU (s : State) (f : FieldRef) (i : Int) (ty off : Nat) : (s.putU f i).cfgB ty off = s.cfgB ty off := rfl
@[simp] theorem cfg_putU (s : State) (f : FieldRef) (i : Int) (ty off k : Nat) : (s.putU f i).cfg ty off k = s.cfg ty off k := cfg_congr (by rfl) _ _ _
@[simp] theorem cfgS_putU (s : State) (f : FieldRef) (i : Int) (ty off k : Nat) : (s.putU f i).cfgS ty off k = s.cfgS ty off k := congrArg (toS _) (cfg_congr (by rfl) _ _ _)
@[simp] theorem lenOf_putU (s : State) (f : FieldRef) (i : Int) (ty : Nat) : (s.putU f i).lenOf ty = s.lenOf ty := rfl
@[simp] theorem port_putU (s : State) (f : FieldRef) (i : Int) (q₂ : Nat) : (s.putU f i).port q₂ = s.port q₂ := rfl
@[simp] theorem memB_putU (s : State) (f : FieldRef) (i : Int) (a₂ : Nat) : (s.putU f i).memB a₂ = s.memB a₂ := rfl
@[simp] theorem memBytes_putU (s : State) (f : FieldRef) (i : Int) (a₂ n₂ : Nat) : (s.putU f i).memBytes a₂ n₂ = s.memBytes a₂ n₂ := rfl
@[simp] theorem memLE_putU (s : State) (f : FieldRef) (i : Int) (a₂ n₂ : Nat) : (s.putU f i).memLE a₂ n₂ = s.memLE a₂ n₂ := rfl

@[simp] theorem cfgB_inc (s : State) (f : FieldRef) (ty off : Nat) : (s.inc f).cfgB ty off = s.cfgB ty off := rfl
@[simp] theorem cfg_inc (s : State) (f : FieldRef) (ty off k : Nat) : (s.inc f).cfg ty off k = s.cfg ty off k := cfg_congr (by rfl) _ _ _
@[simp] theorem cfgS_inc (s : State) (f : FieldRef) (ty off k : Nat) : (s.inc f).cfgS ty off k = s.cfgS ty off k := congrArg (toS _) (cfg_congr (by rfl) _ _ _)
@[simp] theorem lenOf_inc (s : State) (f : FieldRef) (ty : Nat) : (s.inc f).lenOf ty = s.lenOf ty := rfl
@[simp] theorem port_inc (s : State) (f : FieldRef) (q₂ : Nat) : (s.inc f).port q₂ = s.port q₂ := rfl
@[simp] theorem memB_inc (s : State) (f : FieldRef) (a₂ : Nat) : (s.inc f).memB a₂ = s.memB a₂ := rfl
@[simp] theorem memBytes_inc (s : State) (f : FieldRef) (a₂ n₂ : Nat) : (s.inc f).memBytes a₂ n₂ = s.memBytes a₂ n₂ := rfl
@[simp] theorem memLE_inc (s : State) (f : FieldRef) (a₂ n₂ : Nat) : (s.inc f).memLE a₂ n₂ = s.memLE a₂ n₂ := rfl

@[simp] theorem cfgB_putBit (s : State) (f : FieldRef) (i : Nat) (b : Bool) (ty off : Nat) : (s.putBit f i b).cfgB ty off = s.cfgB ty off := rfl
@[simp] theorem cfg_putBit (s : State) (f : FieldRef) (i : Nat) (b : Bool) (ty off k : Nat) : (s.putBit f i b).cfg ty off k = s.cfg ty off k := cfg_congr (by rfl) _ _ _
@[simp] theorem cfgS_putBit (s : State) (f : FieldRef) (i : Nat) (b : Bool) (ty off k : Nat) : (s.putBit f i b).cfgS ty off k = s.cfgS ty off k := congrArg (toS _) (cfg_congr (by rfl) _ _ _)
@[simp] theorem lenOf_putBit (s : State) (f : FieldRef) (i : Nat) (b : Bool) (ty : Nat) : (s.putBit f i b).lenOf ty = s.lenOf ty := rfl
@[simp] theorem port_putBit (s : State) (f : FieldRef) (i : Nat) (b : Bool) (q₂ : Nat) : (s.putBit f i b).port q₂ = s.port q₂ := rfl
@[simp] theorem memB_putBit (s : State) (f : FieldRef) (i : Nat) (b : Bool) (a₂ : Nat) : (s.putBit f i b).memB a₂ = s.memB a₂ := rfl
@[simp] theorem memBytes_putBit (s : State) (f : FieldRef) (i : Nat) (b : Bool) (a₂ n₂ : Nat) : (s.putBit f i b).memBytes a₂ n₂ = s.memBytes a₂ n₂ := rfl
@[simp] theorem memLE_putBit (s : State) (f : FieldRef) (i : Nat) (b : Bool) (a₂ n₂ : Nat) : (s.putBit f i b).memLE a₂ n₂ = s.memLE a₂ n₂ := rfl

@[simp] theorem reg_setPort (s : State) (q v : Nat) (a₂ : Nat) : (s.setPort q v).reg a₂ = s.reg a₂ := rfl
@[simp] theorem get_setPort (s : State) (q v : Nat) (g : FieldRef) : (s.setPort q v).get g = s.get g := rfl
@[simp] theorem bit_setPort (s : State) (q v : Nat) (g : FieldRef) : (s.setPort q v).bit g = s.bit g := rfl
@[simp] theorem getS_setPort (s : State) (q v : Nat) (g : FieldRef) : (s.setPort q v).getS g = s.getS g := rfl
@[simp] theorem role_setPort (s : State) (q v : Nat) : (s.setPort q v).role = s.role := rfl
@[simp] theorem isSealed_setPort (s : State) (q v : Nat) : (s.setPort q v).isSealed = s.isSealed := rfl
@[simp] theorem cfgB_setPort (s : State) (q v : Nat) (ty off : Nat) : (s.setPort q v).cfgB ty off = s.cfgB ty off := rfl
@[simp] theorem cfg_setPort (s : State) (q v : Nat) (ty off k : Nat) : (s.setPort q v).cfg ty off k = s.cfg ty off k := cfg_congr (by rfl) _ _ _
@[simp] theorem cfgS_setPort (s : State) (q v : Nat) (ty off k : Nat) : (s.setPort q v).cfgS ty off k = s.cfgS ty off k := congrArg (toS _) (cfg_congr (by rfl) _ _ _)
@[simp] theorem lenOf_setPort (s : State) (q v : Nat) (ty : Nat) : (s.setPort q v).lenOf ty = s.lenOf ty := rfl
@[simp] theorem memB_setPort (s : State) (q v : Nat) (a₂ : Nat) : (s.setPort q v).memB a₂ = s.memB a₂ := rfl
@[simp] theorem memBytes_setPort (s : State) (q v : Nat) (a₂ n₂ : Nat) : (s.setPort q v).memBytes a₂ n₂ = s.memBytes a₂ n₂ := rfl
@[simp] theorem memLE_setPort (s : State) (q v : Nat) (a₂ n₂ : Nat) : (s.setPort q v).memLE a₂ n₂ = s.memLE a₂ n₂ := rfl

@[simp] theorem reg_setMemB (s : State) (a : Nat) (b : Byte) (a₂ : Nat) : (s.setMemB a b).reg a₂ = s.reg a₂ := rfl
@[simp] theorem get_setMemB (s : State) (a : Nat) (b : Byte) (g : FieldRef) : (s.setMemB a b).get g = s.get g := rfl
@[simp] theorem bit_setMemB (s : State) (a : Nat) (b : Byte) (g : FieldRef) : (s.setMemB a b).bit g = s.bit g := rfl
@[simp] theorem getS_setMemB (s : State) (a : Nat) (b : Byte) (g : FieldRef) : (s.setMemB a b).getS g = s.getS g := rfl
@[simp] theorem role_setMemB (s : State) (a : Nat) (b : Byte) : (s.setMemB a b).role = s.role := rfl
@[simp] theorem isSealed_setMemB (s : State) (a : Nat) (b : Byte) : (s.setMemB a b).isSealed = s.isSealed := rfl
@[simp] theorem cfgB_setMemB (s : State) (a : Nat) (b : Byte) (ty off : Nat) : (s.setMemB a b).cfgB ty off = s.cfgB ty off := rfl
@[simp] theorem cfg_setMemB (s : State) (a : Nat) (b : Byte) (ty off k : Nat) : (s.setMemB a b).cfg ty off k = s.cfg ty off k := cfg_congr (by rfl) _ _ _
@[simp] theorem cfgS_setMemB (s : State) (a : Nat) (b : Byte) (ty off k : Nat) : (s.setMemB a b).cfgS ty off k = s.cfgS ty off k := congrArg (toS _) (cfg_congr (by rfl) _ _ _)
@[simp] theorem lenOf_setMemB (s : State) (a : Nat) (b : Byte) (ty : Nat) : (s.setMemB a b).lenOf ty = s.lenOf ty := rfl
@[simp] theorem port_setMemB (s : State) (a : Nat) (b : Byte) (q₂ : Nat) : (s.setMemB a b).port q₂ = s.port q₂ := rfl

@[simp] theorem reg_fresh (s : State) (w : Nat) (a₂ : Nat) : (s.fresh w).2.reg a₂ = s.reg a₂ := rfl
@[simp] theorem get_fresh (s : State) (w : Nat) (g : FieldRef) : (s.fresh w).2.get g = s.get g := rfl
@[simp] theorem bit_fresh (s : State) (w : Nat) (g : FieldRef) : (s.fresh w).2.bit g = s.bit g := rfl
@[simp] theorem getS_fresh (s : State) (w : Nat) (g : FieldRef) : (s.fresh w).2.getS g = s.getS g := rfl
@[simp] theorem role_fresh (s : State) (w : Nat) : (s.fresh w).2.role = s.role := rfl
@[simp] theorem isSealed_fresh (s : State) (w : Nat) : (s.fresh w).2.isSealed = s.isSealed := rfl
@[simp] theorem cfgB_fresh (s : State) (w : Nat) (ty off : Nat) : (s.fresh w).2.cfgB ty off = s.cfgB ty off := rfl
@[simp] theorem cfg_fresh (s : State) (w : Nat) (ty off k : Nat) : (s.fresh w).2.cfg ty off k = s.cfg ty off k := cfg_congr (by rfl) _ _ _
@[simp] theorem cfgS_fresh (s : State) (w : Nat) (ty off k : Nat) : (s.fresh w).2.cfgS ty off k = s.cfgS ty off k := congrArg (toS _) (cfg_congr (by rfl) _ _ _)
@[simp] theorem lenOf_fresh (s : State) (w : Nat) (ty : Nat) : (s.fresh w).2.lenOf ty = s.lenOf ty := rfl
@[simp] theorem port_fresh (s : State) (w : Nat) (q₂ : Nat) : (s.fresh w).2.port q₂ = s.port q₂ := rfl
@[simp] theorem memB_fresh (s : State) (w : Nat) (a₂ : Nat) : (s.fresh w).2.memB a₂ = s.memB a₂ := rfl
@[simp] theorem memBytes_fresh (s : State) (w : Nat) (a₂ n₂ : Nat) : (s.fresh w).2.memBytes a₂ n₂ = s.memBytes a₂ n₂ := rfl
@[simp] theorem memLE_fresh (s : State) (w : Nat) (a₂ n₂ : Nat) : (s.fresh w).2.memLE a₂ n₂ = s.memLE a₂ n₂ := rfl

@[simp] theorem reg_freshBelow (s : State) (n : Nat) (a₂ : Nat) : (s.freshBelow n).2.reg a₂ = s.reg a₂ := rfl
@[simp] theorem get_freshBelow (s : State) (n : Nat) (g : FieldRef) : (s.freshBelow n).2.get g = s.get g := rfl
@[simp] theorem bit_freshBelow (s : State) (n : Nat) (g : FieldRef) : (s.freshBelow n).2.bit g = s.bit g := rfl
@[simp] theorem getS_freshBelow (s : State) (n : Nat) (g : FieldRef) : (s.freshBelow n).2.getS g = s.getS g := rfl
@[simp] theorem role_freshBelow (s : State) (n : Nat) : (s.freshBelow n).2.role = s.role := rfl
@[simp] theorem isSealed_freshBelow (s : State) (n : Nat) : (s.freshBelow n).2.isSealed = s.isSealed := rfl
@[simp] theorem cfgB_freshBelow (s : State) (n : Nat) (ty off : Nat) : (s.freshBelow n).2.cfgB ty off = s.cfgB ty off := rfl
@[simp] theorem cfg_freshBelow (s : State) (n : Nat) (ty off k : Nat) : (s.freshBelow n).2.cfg ty off k = s.cfg ty off k := cfg_congr (by rfl) _ _ _
@[simp] theorem cfgS_freshBelow (s : State) (n : Nat) (ty off k : Nat) : (s.freshBelow n).2.cfgS ty off k = s.cfgS ty off k := congrArg (toS _) (cfg_congr (by rfl) _ _ _)
@[simp] theorem lenOf_freshBelow (s : State) (n : Nat) (ty : Nat) : (s.freshBelow n).2.lenOf ty = s.lenOf ty := rfl
@[simp] theorem port_freshBelow (s : State) (n : Nat) (q₂ : Nat) : (s.freshBelow n).2.port q₂ = s.port q₂ := rfl
@[simp] theorem memB_freshBelow (s : State) (n : Nat) (a₂ : Nat) : (s.freshBelow n).2.memB a₂ = s.memB a₂ := rfl
@[simp] theorem memBytes_freshBelow (s : State) (n : Nat) (a₂ n₂ : Nat) : (s.freshBelow n).2.memBytes a₂ n₂ = s.memBytes a₂ n₂ := rfl
@[simp] theorem memLE_freshBelow (s : State) (n : Nat) (a₂ n₂ : Nat) : (s.freshBelow n).2.memLE a₂ n₂ = s.memLE a₂ n₂ := rfl

@[simp] theorem reg_modLink (s : State) (l : Nat) (f : Link → Link) (a₂ : Nat) : (s.modLink l f).reg a₂ = s.reg a₂ := rfl
@[simp] theorem get_modLink (s : State) (l : Nat) (f : Link → Link) (g : FieldRef) : (s.modLink l f).get g = s.get g := rfl
@[simp] theorem bit_modLink (s : State) (l : Nat) (f : Link → Link) (g : FieldRef) : (s.modLink l f).bit g = s.bit g := rfl
@[simp] theorem getS_modLink (s : State) (l : Nat) (f : Link → Link) (g : FieldRef) : (s.modLink l f).getS g = s.getS g := rfl
@[simp] theorem role_modLink (s : State) (l : Nat) (f : Link → Link) : (s.modLink l f).role = s.role := rfl
@[simp] theorem isSealed_modLink (s : State) (l : Nat) (f : Link → Link) : (s.modLink l f).isSealed = s.isSealed := rfl
@[simp] theorem cfgB_modLink (s : State) (l : Nat) (f : Link → Link) (ty off : Nat) : (s.modLink l f).cfgB ty off = s.cfgB ty off := rfl
@[simp] theorem cfg_modLink (s : State) (l : Nat) (f : Link → Link) (ty off k : Nat) : (s.modLink l f).cfg ty off k = s.cfg ty off k := cfg_congr (by rfl) _ _ _
@[simp] theorem cfgS_modLink (s : State) (l : Nat) (f : Link → Link) (ty off k : Nat) : (s.modLink l f).cfgS ty off k = s.cfgS ty off k := congrArg (toS _) (cfg_congr (by rfl) _ _ _)
@[simp] theorem lenOf_modLink (s : State) (l : Nat) (f : Link → Link) (ty : Nat) : (s.modLink l f).lenOf ty = s.lenOf ty := rfl
@[simp] theorem port_modLink (s : State) (l : Nat) (f : Link → Link) (q₂ : Nat) : (s.modLink l f).port q₂ = s.port q₂ := rfl
@[simp] theorem memB_modLink (s : State) (l : Nat) (f : Link → Link) (a₂ : Nat) : (s.modLink l f).memB a₂ = s.memB a₂ := rfl
@[simp] theorem memBytes_modLink (s : State) (l : Nat) (f : Link → Link) (a₂ n₂ : Nat) : (s.modLink l f).memBytes a₂ n₂ = s.memBytes a₂ n₂ := rfl
@[simp] theorem memLE_modLink (s : State) (l : Nat) (f : Link → Link) (a₂ n₂ : Nat) : (s.modLink l f).memLE a₂ n₂ = s.memLE a₂ n₂ := rfl

@[simp] theorem reg_modNode (s : State) (l : Nat) (f : Node → Node) (a₂ : Nat) : (s.modNode l f).reg a₂ = s.reg a₂ := rfl
@[simp] theorem get_modNode (s : State) (l : Nat) (f : Node → Node) (g : FieldRef) : (s.modNode l f).get g = s.get g := rfl
@[simp] theorem bit_modNode (s : State) (l : Nat) (f : Node → Node) (g : FieldRef) : (s.modNode l f).bit g = s.bit g := rfl
@[simp] theorem getS_modNode (s : State) (l : Nat) (f : Node → Node) (g : FieldRef) : (s.modNode l f).getS g = s.getS g := rfl
@[simp] theorem role_modNode (s : State) (l : Nat) (f : Node → Node) : (s.modNode l f).role = s.role := rfl
@[simp] theorem isSealed_modNode (s : State) (l : Nat) (f : Node → Node) : (s.modNode l f).isSealed = s.isSealed := rfl
@[simp] theorem cfgB_modNode (s : State) (l : Nat) (f : Node → Node) (ty off : Nat) : (s.modNode l f).cfgB ty off = s.cfgB ty off := rfl
@[simp] theorem cfg_modNode (s : State) (l : Nat) (f : Node → Node) (ty off k : Nat) : (s.modNode l f).cfg ty off k = s.cfg ty off k := cfg_congr (by rfl) _ _ _
@[simp] theorem cfgS_modNode (s : State) (l : Nat) (f : Node → Node) (ty off k : Nat) : (s.modNode l f).cfgS ty off k = s.cfgS ty off k := congrArg (toS _) (cfg_congr (by rfl) _ _ _)
@[simp] theorem lenOf_modNode (s : State) (l : Nat) (f : Node → Node) (ty : Nat) : (s.modNode l f).lenOf ty = s.lenOf ty := rfl
@[simp] theorem port_modNode (s : State) (l : Nat) (f : Node → Node) (q₂ : Nat) : (s.modNode l f).port q₂ = s.port q₂ := rfl
@[simp] theorem memB_modNode (s : State) (l : Nat) (f : Node → Node) (a₂ : Nat) : (s.modNode l f).memB a₂ = s.memB a₂ := rfl
@[simp] theorem memBytes_modNode (s : State) (l : Nat) (f : Node → Node) (a₂ n₂ : Nat) : (s.modNode l f).memBytes a₂ n₂ = s.memBytes a₂ n₂ := rfl
@[simp] theorem memLE_modNode (s : State) (l : Nat) (f : Node → Node) (a₂ n₂ : Nat) : (s.modNode l f).memLE a₂ n₂ = s.memLE a₂ n₂ := rfl

@[simp] theorem reg_modOut (s : State) (l : Nat) (f : Outlet → Outlet) (a₂ : Nat) : (s.modOut l f).reg a₂ = s.reg a₂ := rfl
@[simp] theorem get_modOut (s : State) (l : Nat) (f : Outlet → Outlet) (g : FieldRef) : (s.modOut l f).get g = s.get g := rfl
@[simp] theorem bit_modOut (s : State) (l : Nat) (f : Outlet → Outlet) (g : FieldRef) : (s.modOut l f).bit g = s.bit g := rfl
@[simp] theorem getS_modOut (s : State) (l : Nat) (f : Outlet → Outlet) (g : FieldRef) : (s.modOut l f).getS g = s.getS g := rfl
@[simp] theorem role_modOut (s : State) (l : Nat) (f : Outlet → Outlet) : (s.modOut l f).role = s.role := rfl
@[simp] theorem isSealed_modOut (s : State) (l : Nat) (f : Outlet → Outlet) : (s.modOut l f).isSealed = s.isSealed := rfl
@[simp] theorem cfgB_modOut (s : State) (l : Nat) (f : Outlet → Outlet) (ty off : Nat) : (s.modOut l f).cfgB ty off = s.cfgB ty off := rfl
@[simp] theorem cfg_modOut (s : State) (l : Nat) (f : Outlet → Outlet) (ty off k : Nat) : (s.modOut l f).cfg ty off k = s.cfg ty off k := cfg_congr (by rfl) _ _ _
@[simp] theorem cfgS_modOut (s : State) (l : Nat) (f : Outlet → Outlet) (ty off k : Nat) : (s.modOut l f).cfgS ty off k = s.cfgS ty off k := congrArg (toS _) (cfg_congr (by rfl) _ _ _)
@[simp] theorem lenOf_modOut (s : State) (l : Nat) (f : Outlet → Outlet) (ty : Nat) : (s.modOut l f).lenOf ty = s.lenOf ty := rfl
@[simp] theorem port_modOut (s : State) (l : Nat) (f : Outlet → Outlet) (q₂ : Nat) : (s.modOut l f).port q₂ = s.port q₂ := rfl
@[simp] theorem memB_modOut (s : State) (l : Nat) (f : Outlet → Outlet) (a₂ : Nat) : (s.modOut l f).memB a₂ = s.memB a₂ := rfl
@[simp] theorem memBytes_modOut (s : State) (l : Nat) (f : Outlet → Outlet) (a₂ n₂ : Nat) : (s.modOut l f).memBytes a₂ n₂ = s.memBytes a₂ n₂ := rfl
@[simp] theorem memLE_modOut (s : State) (l : Nat) (f : Outlet → Outlet) (a₂ n₂ : Nat) : (s.modOut l f).memLE a₂ n₂ = s.memLE a₂ n₂ := rfl

@[simp] theorem reg_modIn (s : State) (l : Nat) (f : SafeIn → SafeIn) (a₂ : Nat) : (s.modIn l f).reg a₂ = s.reg a₂ := rfl
@[simp] theorem get_modIn (s : State) (l : Nat) (f : SafeIn → SafeIn) (g : FieldRef) : (s.modIn l f).get g = s.get g := rfl
@[simp] theorem bit_modIn (s : State) (l : Nat) (f : SafeIn → SafeIn) (g : FieldRef) : (s.modIn l f).bit g = s.bit g := rfl
@[simp] theorem getS_modIn (s : State) (l : Nat) (f : SafeIn → SafeIn) (g : FieldRef) : (s.modIn l f).getS g = s.getS g := rfl
@[simp] theorem role_modIn (s : State) (l : Nat) (f : SafeIn → SafeIn) : (s.modIn l f).role = s.role := rfl
@[simp] theorem isSealed_modIn (s : State) (l : Nat) (f : SafeIn → SafeIn) : (s.modIn l f).isSealed = s.isSealed := rfl
@[simp] theorem cfgB_modIn (s : State) (l : Nat) (f : SafeIn → SafeIn) (ty off : Nat) : (s.modIn l f).cfgB ty off = s.cfgB ty off := rfl
@[simp] theorem cfg_modIn (s : State) (l : Nat) (f : SafeIn → SafeIn) (ty off k : Nat) : (s.modIn l f).cfg ty off k = s.cfg ty off k := cfg_congr (by rfl) _ _ _
@[simp] theorem cfgS_modIn (s : State) (l : Nat) (f : SafeIn → SafeIn) (ty off k : Nat) : (s.modIn l f).cfgS ty off k = s.cfgS ty off k := congrArg (toS _) (cfg_congr (by rfl) _ _ _)
@[simp] theorem lenOf_modIn (s : State) (l : Nat) (f : SafeIn → SafeIn) (ty : Nat) : (s.modIn l f).lenOf ty = s.lenOf ty := rfl
@[simp] theorem port_modIn (s : State) (l : Nat) (f : SafeIn → SafeIn) (q₂ : Nat) : (s.modIn l f).port q₂ = s.port q₂ := rfl
@[simp] theorem memB_modIn (s : State) (l : Nat) (f : SafeIn → SafeIn) (a₂ : Nat) : (s.modIn l f).memB a₂ = s.memB a₂ := rfl
@[simp] theorem memBytes_modIn (s : State) (l : Nat) (f : SafeIn → SafeIn) (a₂ n₂ : Nat) : (s.modIn l f).memBytes a₂ n₂ = s.memBytes a₂ n₂ := rfl
@[simp] theorem memLE_modIn (s : State) (l : Nat) (f : SafeIn → SafeIn) (a₂ n₂ : Nat) : (s.modIn l f).memLE a₂ n₂ = s.memLE a₂ n₂ := rfl

end Sys2Proof.Machine
end

