-- ==== Sys2Proof/Laws/Fold.lean ====
section
/-! SUPPORT. What an update repeated over a list of numbers leaves alone. -/

namespace Sys2Proof.Machine

/-- What every round leaves alone, the whole repetition leaves alone. -/
theorem forEach_keeps {β : Type} (p : State → β) (l : List Nat) (s : State) (f : State → Nat → State)
    (h : ∀ t, ∀ x ∈ l, p (f t x) = p t) : p (forEach l s f) = p s := by
  unfold forEach
  induction l generalizing s with
  | nil => rfl
  | cons x t ih =>
    exact (ih (f s x) (fun u y hy => h u y (List.mem_cons_of_mem _ hy))).trans (h s x (List.mem_cons_self ..))

/-- The same for a fold over any list. -/
theorem foldl_keeps {α β : Type} (p : State → β) (l : List α) (s : State) (f : State → α → State)
    (h : ∀ t, ∀ x ∈ l, p (f t x) = p t) : p (l.foldl f s) = p s := by
  induction l generalizing s with
  | nil => rfl
  | cons x t ih =>
    exact (ih (f s x) (fun u y hy => h u y (List.mem_cons_of_mem _ hy))).trans (h s x (List.mem_cons_self ..))

/-- What every round leaves alone but the one of `k`, and what that one sets, the repetition sets. -/
theorem forEach_sets {β : Type} (p : State → β) (b : β) (l : List Nat) (k : Nat) (s : State) (f : State → Nat → State) (hk : k ∈ l)
    (h : ∀ t, ∀ x ∈ l, x ≠ k → p (f t x) = p t) (hs : ∀ t, p (f t k) = b) : p (forEach l s f) = b := by
  unfold forEach
  induction l generalizing s with
  | nil => cases hk
  | cons x t ih =>
    simp only [List.foldl_cons]
    by_cases hkt : k ∈ t
    · exact ih (f s x) hkt (fun u y hy hn => h u y (List.mem_cons_of_mem _ hy) hn)
    · have hx : x = k := by
        rcases List.mem_cons.1 hk with h' | h'
        · exact h'.symm
        · exact absurd h' hkt
      subst hx
      rw [foldl_keeps p t (f s x) f (fun u y hy => h u y (List.mem_cons_of_mem _ hy) (fun e => hkt (e ▸ hy)))]
      exact hs s

/-! ### Lists -/

@[simp] theorem length_updAt {α : Type} (l : List α) (i : Nat) (f : α → α) : (updAt l i f).length = l.length := by
  induction l generalizing i with
  | nil => rfl
  | cons x t ih => cases i <;> simp [updAt, ih]

/-- The element updated. -/
theorem nth_updAt_same {α : Type} (d : α) {l : List α} {i : Nat} (f : α → α) (h : i < l.length) :
    nth d (updAt l i f) i = f (nth d l i) := by
  induction l generalizing i with
  | nil => exact absurd h (Nat.not_lt_zero _)
  | cons x t ih =>
    cases i with
    | zero => rfl
    | succ j => exact ih (by simpa using h)

/-- Every other element. -/
theorem nth_updAt_ne {α : Type} (d : α) (l : List α) {i j : Nat} (f : α → α) (h : j ≠ i) :
    nth d (updAt l i f) j = nth d l j := by
  induction l generalizing i j with
  | nil => rfl
  | cons x t ih =>
    cases i with
    | zero =>
      cases j with
      | zero => exact absurd rfl h
      | succ j => rfl
    | succ i =>
      cases j with
      | zero => rfl
      | succ j => exact ih (fun e => h (by rw [e]))

/-- A quantity that the update leaves alone, at any element. -/
theorem nth_updAt_keeps {α β : Type} (d : α) (l : List α) (i j : Nat) (f : α → α) (p : α → β) (h : ∀ x, p (f x) = p x) :
    p (nth d (updAt l i f) j) = p (nth d l j) := by
  by_cases hj : j = i
  · subst hj
    by_cases hl : j < l.length
    · rw [nth_updAt_same d f hl, h]
    · have : ∀ m : List α, m.length ≤ j → nth d m j = d := fun m hm => by
        simp [nth, List.getD, List.getElem?_eq_none hm]
      rw [this l (by omega), this _ (by simpa using hl)]
  · rw [nth_updAt_ne d l f hj]

end Sys2Proof.Machine
end

