-- ==== Sys2Proof/Laws/KeptBase.lean ====
section
/-! SUPPORT. What nearly every operation leaves alone: memory, the loaded image and the queue. -/

namespace Sys2Proof.Machine

/-- Memory, image sections, their lengths, the control period and the queue. -/
def State.kept (s : State) : List Host.Cell × List Host.Cell × List (Nat × Nat) × Nat × List Instr :=
  (s.mem, s.img, s.secLen, s.periodUs, s.pending)

@[simp] theorem kept_mk {regs img secLen periodUs siteNs siteFrac ports cwy load mem truss spn phs kst arc prp tol pyl grd mods hkp sty vlk can trs
    pwr freeCtr rdata pending} :
    State.kept ⟨regs, img, secLen, periodUs, siteNs, siteFrac, ports, cwy, load, mem, truss, spn, phs, kst, arc, prp, tol, pyl, grd, mods, hkp, sty,
      vlk, can, trs, pwr, freeCtr, rdata, pending⟩ = (mem, img, secLen, periodUs, pending) := (rfl)

/-- The projections of one state fold back. -/
@[simp] theorem kept_fold (s : State) : (s.mem, s.img, s.secLen, s.periodUs, s.pending) = s.kept := (rfl)

@[simp] theorem kept_ite (c : Prop) [Decidable c] (s t : State) :
    (if c then s else t).kept = if c then s.kept else t.kept := by split <;> rfl

@[simp] theorem kept_snd_ite {α : Type} (c : Prop) [Decidable c] (s t : α × State) :
    (if c then s else t).2.kept = if c then s.2.kept else t.2.kept := by split <;> rfl

@[simp] theorem kept_foldl {α : Type} (l : List α) (f : State → α → State) (s : State) (h : ∀ s x, (f s x).kept = s.kept) :
    (l.foldl f s).kept = s.kept := by
  induction l generalizing s with
  | nil => rfl
  | cons x t ih => exact (ih (f s x)).trans (h s x)

theorem kept_foldl_fst {α β : Type} (l : List α) (f : State × β → α → State × β) (x : State × β) (h : ∀ y a, (f y a).1.kept = y.1.kept) :
    (l.foldl f x).1.kept = x.1.kept := by
  induction l generalizing x with
  | nil => rfl
  | cons a t ih => exact (ih (f x a)).trans (h x a)

@[simp] theorem kept_forEach (l : List Nat) (s : State) (f : State → Nat → State) (h : ∀ s x, (f s x).kept = s.kept) :
    (forEach l s f).kept = s.kept := kept_foldl l f s h

@[simp] theorem setReg_kept (s : State) (a v : Nat) : (s.setReg a v).kept = s.kept := (rfl)
@[simp] theorem put_kept (s : State) (f : FieldRef) (v : Nat) : (s.put f v).kept = s.kept := (rfl)
@[simp] theorem putB_kept (s : State) (f : FieldRef) (b : Bool) : (s.putB f b).kept = s.kept := (rfl)
@[simp] theorem putS_kept (s : State) (f : FieldRef) (i : Int) : (s.putS f i).kept = s.kept := (rfl)
@[simp] theorem putU_kept (s : State) (f : FieldRef) (i : Int) : (s.putU f i).kept = s.kept := (rfl)
@[simp] theorem inc_kept (s : State) (f : FieldRef) : (s.inc f).kept = s.kept := (rfl)
@[simp] theorem putBit_kept (s : State) (f : FieldRef) (i : Nat) (b : Bool) : (s.putBit f i b).kept = s.kept := (rfl)
@[simp] theorem setPort_kept (s : State) (q v : Nat) : (s.setPort q v).kept = s.kept := (rfl)
@[simp] theorem fresh_kept (s : State) (w : Nat) : (s.fresh w).2.kept = s.kept := (rfl)
@[simp] theorem freshBelow_kept (s : State) (n : Nat) : (s.freshBelow n).2.kept = s.kept := (rfl)
@[simp] theorem modLink_kept (s : State) (l : Nat) (f : Link → Link) : (s.modLink l f).kept = s.kept := (rfl)
@[simp] theorem modNode_kept (s : State) (l : Nat) (f : Node → Node) : (s.modNode l f).kept = s.kept := (rfl)
@[simp] theorem modOut_kept (s : State) (l : Nat) (f : Outlet → Outlet) : (s.modOut l f).kept = s.kept := (rfl)
@[simp] theorem modIn_kept (s : State) (l : Nat) (f : SafeIn → SafeIn) : (s.modIn l f).kept = s.kept := (rfl)

@[simp] theorem loadReg_kept (s : State) (a v : Nat) : (s.loadReg a v).kept = s.kept := by
  unfold State.loadReg
  split
  · exact kept_foldl _ _ _ fun _ _ => rfl
  · rfl

@[simp] theorem violate_kept (s : State) (m : Master) (a : Nat) : (s.violate m a).kept = s.kept := (rfl)

@[simp] theorem writeField_kept (s : State) (a v : Nat) (f : FieldDesc) : (s.writeField a v f).kept = s.kept := by
  unfold State.writeField; cases f.acc <;> simp

@[simp] theorem writeByCode_kept (s : State) (a v : Nat) : (s.writeByCode a v).kept = s.kept := by
  unfold State.writeByCode; split <;> simp

end Sys2Proof.Machine
end

