-- ==== Sys2Proof/Laws/Kept.lean ====
section
/-! SUPPORT. Operation by operation, chapter by chapter: memory, image, section lengths, control period and queue stay as they were. Not
here: the few operations that write memory or replace the image (Laws/Tame.lean). -/

namespace Sys2Proof.Machine

set_option Elab.async false

/-! ### FaultOps -/

@[simp] theorem State.modLink_kept (s : State) (l : Nat) (f : Link → Link) :
    (State.modLink s l f).kept = s.kept := by
  exact (rfl)

@[simp] theorem State.modNode_kept (s : State) (n : Nat) (f : Node → Node) :
    (State.modNode s n f).kept = s.kept := by
  exact (rfl)

@[simp] theorem State.modOut_kept (s : State) (m : Nat) (f : Outlet → Outlet) :
    (State.modOut s m f).kept = s.kept := by
  exact (rfl)

@[simp] theorem State.modIn_kept (s : State) (n : Nat) (f : SafeIn → SafeIn) :
    (State.modIn s n f).kept = s.kept := by
  exact (rfl)

@[simp] theorem State.syncLower_kept (s : State) :
    (State.syncLower s).kept = s.kept := by
  simp [State.syncLower]

@[simp] theorem State.lowerBroadcast_kept (s : State) :
    (State.lowerBroadcast s).kept = s.kept := by
  simp [State.lowerBroadcast]

@[simp] theorem State.abandonChecks_kept (s : State) (outsMask : Nat) :
    (State.abandonChecks s outsMask).kept = s.kept := by
  simp [State.abandonChecks]

@[simp] theorem State.abandonXps_kept (s : State) (piers : Nat) :
    (State.abandonXps s piers).kept = s.kept := by
  simp [State.abandonXps]

@[simp] theorem State.assertSafe_kept (s : State) :
    (State.assertSafe s).kept = s.kept := by
  simp [State.assertSafe]

@[simp] theorem State.outputsOff_kept (s : State) (m : Nat) :
    (State.outputsOff s m).kept = s.kept := by
  simp [State.outputsOff]

@[simp] theorem State.setArmed_kept (s : State) (m : Nat) :
    (State.setArmed s m).kept = s.kept := by
  simp [State.setArmed]

@[simp] theorem State.settleOutputs_kept (s : State) :
    (State.settleOutputs s).kept = s.kept := by
  simp [State.settleOutputs]

@[simp] theorem State.settleDisarm_kept (s : State) :
    (State.settleDisarm s).kept = s.kept := by
  simp [State.settleDisarm]

@[simp] theorem State.syncQueue_kept (s : State) :
    (State.syncQueue s).kept = s.kept := by
  exact (rfl)

@[simp] theorem State.syncLatch_kept (s : State) :
    (State.syncLatch s).kept = s.kept := by
  simp [State.syncLatch]

@[simp] theorem State.writeRec_kept (s : State) (r : FaultRec) :
    (State.writeRec s r).kept = s.kept := by
  exact (rfl)

@[simp] theorem State.classB_kept (s : State) (r : FaultRec) :
    (State.classB s r).kept = s.kept := by
  simp [State.classB]

@[simp] theorem State.startHandling_kept (s : State) (r : FaultRec) :
    (State.startHandling s r).kept = s.kept := by
  simp only [State.startHandling]; repeat' split
  all_goals simp

@[simp] theorem State.meetManager_kept (s : State) (r : FaultRec) :
    (State.meetManager s r).kept = s.kept := by
  unfold State.meetManager; repeat' split
  all_goals simp

@[simp] theorem State.report_kept (s : State) (code cls src outlets piers : Nat) :
    (State.report s code cls src outlets piers).kept = s.kept := by
  simp [State.report]

@[simp] theorem State.reportOutlet_kept (s : State) (code cls src m : Nat) :
    (State.reportOutlet s code cls src m).kept = s.kept := by
  simp [State.reportOutlet]

@[simp] theorem State.reportPier_kept (s : State) (code cls src n : Nat) :
    (State.reportPier s code cls src n).kept = s.kept := by
  simp [State.reportPier]

@[simp] theorem State.reportNone_kept (s : State) (code cls src : Nat) :
    (State.reportNone s code cls src).kept = s.kept := by
  simp [State.reportNone]

@[simp] theorem State.syncInput_kept (s : State) (n : Nat) :
    (State.syncInput s n).kept = s.kept := by
  exact (rfl)

@[simp] theorem State.releaseCause_kept (s : State) (r : FaultRec) :
    (State.releaseCause s r).kept = s.kept := by
  simp [State.releaseCause]

@[simp] theorem State.clearFaults_kept (s : State) (p : FaultRec → Bool) :
    (State.clearFaults s p).kept = s.kept := by
  simp [State.clearFaults]

@[simp] theorem State.pressAct_kept (s : State) :
    (State.pressAct s).kept = s.kept := by
  simp [State.pressAct]

@[simp] theorem State.endHandling_kept (s : State) :
    (State.endHandling s).kept = s.kept := by
  simp only [State.endHandling]; repeat' split
  all_goals simp

@[simp] theorem State.bOff_kept (s : State) (m : Nat) :
    (State.bOff s m).kept = s.kept := by
  simp [State.bOff]

/-! ### Access -/

@[simp] theorem State.dmaRead_kept (s : State) (m : Master) (a n : Nat) :
    (State.dmaRead s m a n).2.kept = s.kept := by
  simp [State.dmaRead]

/-! ### Trestle -/

@[simp] theorem State.modChan_kept (s : State) (n : Nat) (f : Channel → Channel) :
    (State.modChan s n f).kept = s.kept := by
  exact (rfl)

@[simp] theorem State.setChans_kept (s : State) (l : List Channel) :
    (State.setChans s l).kept = s.kept := by
  exact (rfl)

@[simp] theorem State.trsSettle1_kept (s : State) (n : Nat) :
    (State.trsSettle1 s n).kept = s.kept := by
  simp [State.trsSettle1]

@[simp] theorem State.trsSettle_kept (s : State) (n : Nat) :
    (State.trsSettle s n).kept = s.kept := by
  simp [State.trsSettle]

@[simp] theorem State.trsCommand_kept (s : State) (l : Nat) :
    (State.trsCommand s l).kept = s.kept := by
  simp [State.trsCommand]

@[simp] theorem State.wrTrsCtrl_kept (s : State) (n v : Nat) :
    (State.wrTrsCtrl s n v).kept = s.kept := by
  simp [State.wrTrsCtrl]

@[simp] theorem State.trsLatch_kept (s : State) (n : Nat) (f : FieldRef) :
    (State.trsLatch s n f).kept = s.kept := by
  simp [State.trsLatch]

@[simp] theorem State.wrTrsFault_kept (s : State) (n v : Nat) :
    (State.wrTrsFault s n v).kept = s.kept := by
  simp [State.wrTrsFault]

@[simp] theorem State.trsMeasure_kept (s : State) (n : Nat) :
    (State.trsMeasure s n).kept = s.kept := by
  exact (rfl)

@[simp] theorem State.trsShow_kept (s : State) :
    (State.trsShow s).kept = s.kept := by
  simp [State.trsShow]

@[simp] theorem State.trsRefuse_kept (s : State) :
    (State.trsRefuse s).kept = s.kept := by
  simp [State.trsRefuse]

@[simp] theorem State.trsConfig_kept (s : State) :
    (State.trsConfig s).kept = s.kept := by
  simp [State.trsConfig]

@[simp] theorem State.trsSeal_kept (s : State) :
    (State.trsSeal s).kept = s.kept := by
  simp [State.trsSeal]

/-! ### Reset -/

@[simp] theorem State.keepRegs_kept (s : State) (p : Nat → Bool) :
    (State.keepRegs s p).kept = s.kept := by
  exact (rfl)

@[simp] theorem State.clearEngines_kept (s : State) :
    (State.clearEngines s).kept = s.kept := by
  exact (rfl)

@[simp] theorem State.newNonce_kept (s : State) :
    (State.newNonce s).kept = s.kept := by
  exact (rfl)

@[simp] theorem State.restartRegs_kept (s : State) (shut : Bool) :
    (State.restartRegs s shut).kept = s.kept := by
  simp [State.restartRegs]

@[simp] theorem State.dropRequest_kept (s : State) :
    (State.dropRequest s).kept = s.kept := by
  exact (rfl)

@[simp] theorem State.allOff_kept (s : State) :
    (State.allOff s).kept = s.kept := by
  exact (rfl)

/-! ### Parapet -/

@[simp] theorem State.reportInput_kept (s : State) (n code : Nat) :
    (State.reportInput s n code).kept = s.kept := by
  simp [State.reportInput]

@[simp] theorem State.setInput_kept (s : State) (n : Nat) (i : SafeIn) :
    (State.setInput s n i).kept = s.kept := by
  simp [State.setInput]

@[simp] theorem State.inputFault_kept (s : State) (n code : Nat) (f : SafeIn → SafeIn) :
    (State.inputFault s n code f).kept = s.kept := by
  simp [State.inputFault]

@[simp] theorem State.inputChannel_kept (s : State) (n : Nat) (b level : Bool) :
    (State.inputChannel s n b level).kept = s.kept := by
  simp [State.inputChannel]

@[simp] theorem State.outDelayEnd_kept (s : State) :
    (State.outDelayEnd s).kept = s.kept := by
  simp [State.outDelayEnd]

@[simp] theorem State.doubleFault_kept (s : State) :
    (State.doubleFault s).kept = s.kept := by
  simp [State.doubleFault]

@[simp] theorem State.wrFclrk_kept (s : State) (m : Master) (v : Nat) :
    (State.wrFclrk s m v).kept = s.kept := by
  simp [State.wrFclrk]

@[simp] theorem State.wrFclr_kept (s : State) (m : Master) (v : Nat) :
    (State.wrFclr s m v).kept = s.kept := by
  simp [State.wrFclr]

@[simp] theorem State.armPiers_kept (s : State) (mask : Nat) :
    (State.armPiers s mask).kept = s.kept := by
  simp [State.armPiers]

@[simp] theorem State.disarmPiers_kept (s : State) (mask : Nat) :
    (State.disarmPiers s mask).kept = s.kept := by
  simp [State.disarmPiers]

@[simp] theorem State.wrArmreq_kept (s : State) (m : Master) (v : Nat) :
    (State.wrArmreq s m v).kept = s.kept := by
  simp [State.wrArmreq]

@[simp] theorem State.wrSwstop_kept (s : State) (m : Master) (v : Nat) :
    (State.wrSwstop s m v).kept = s.kept := by
  simp [State.wrSwstop]

@[simp] theorem State.psoTurnOn_kept (s : State) (k : Nat) :
    (State.psoTurnOn s k).kept = s.kept := by
  simp [State.psoTurnOn]

@[simp] theorem State.wrPso_kept (s : State) (v : Nat) :
    (State.wrPso s v).kept = s.kept := by
  simp [State.wrPso]

@[simp] theorem State.parapetRelease_kept (s : State) :
    (State.parapetRelease s).kept = s.kept := by
  simp [State.parapetRelease]

@[simp] theorem State.modImc_kept (s : State) (n : Nat) (f : Imc → Imc) :
    (State.modImc s n f).kept = s.kept := by
  exact (rfl)

@[simp] theorem State.imcResult_kept (s : State) (n : Nat) (r : Rat) :
    (State.imcResult s n r).kept = s.kept := by
  unfold State.imcResult; repeat' split
  all_goals simp

/-! ### Span -/

@[simp] theorem State.modPier_kept (s : State) (n : Nat) (f : Pier → Pier) :
    (State.modPier s n f).kept = s.kept := by
  exact (rfl)

@[simp] theorem State.modPhase_kept (s : State) (n p : Nat) (f : Phase → Phase) :
    (State.modPhase s n p f).kept = s.kept := by
  exact (rfl)

@[simp] theorem State.formCore_kept (s : State) (n : Nat) :
    (State.formCore s n).kept = s.kept := by
  simp only [State.formCore]; repeat' split
  all_goals simp

@[simp] theorem State.sendDown_kept (s : State) (l : Nat) :
    (State.sendDown s l).kept = s.kept := by
  simp [State.sendDown]

@[simp] theorem State.routeSamples_kept (s : State) (n : Nat) (u : UpFrame) :
    (State.routeSamples s n u).kept = s.kept := by
  simp [State.routeSamples]

@[simp] theorem State.takeTemps_kept (s : State) (n : Nat) (u : UpFrame) :
    (State.takeTemps s n u).kept = s.kept := by
  simp [State.takeTemps]

@[simp] theorem State.measureDelay_kept (s : State) (l interval turn : Nat) :
    (State.measureDelay s l interval turn).kept = s.kept := by
  simp [State.measureDelay]

@[simp] theorem State.bringReply_kept (s : State) (l : Nat) (m : Mgmt) (data : Nat) :
    (State.bringReply s l m data).kept = s.kept := by
  simp [State.bringReply]

@[simp] theorem State.fwReply_kept (s : State) (l w : Nat) (busy : Bool) :
    (State.fwReply s l w busy).kept = s.kept := by
  exact (rfl)

@[simp] theorem State.mgmtReply_kept (s : State) (l w : Nat) :
    (State.mgmtReply s l w).kept = s.kept := by
  unfold State.mgmtReply; repeat' split
  all_goals simp

@[simp] theorem State.takeUp_kept (s : State) (l : Nat) (u : UpFrame) (interval : Nat) :
    (State.takeUp s l u interval).kept = s.kept := by
  simp [State.takeUp]

@[simp] theorem State.cutLink_kept (s : State) (l : Nat) :
    (State.cutLink s l).kept = s.kept := by
  simp [State.cutLink]

@[simp] theorem State.startBring_kept (s : State) (l : Nat) :
    (State.startBring s l).kept = s.kept := by
  simp [State.startBring]

@[simp] theorem State.wrSpanCtrl_kept (s : State) (l v : Nat) :
    (State.wrSpanCtrl s l v).kept = s.kept := by
  simp [State.wrSpanCtrl]

@[simp] theorem State.wrMgmtc_kept (s : State) (l v : Nat) :
    (State.wrMgmtc s l v).kept = s.kept := by
  simp [State.wrMgmtc]

@[simp] theorem State.freshList_kept (s : State) (n w : Nat) :
    (State.freshList s n w).2.kept = s.kept := by
  exact (rfl)

@[simp] theorem State.senses_kept (s : State) :
    (State.senses s).2.kept = s.kept := by
  exact (rfl)

@[simp] theorem State.nodePeriod_kept (s : State) (n : Nat) :
    (State.nodePeriod s n).kept = s.kept := by
  exact (rfl)

@[simp] theorem State.nodePeriods_kept (s : State) :
    (State.nodePeriods s).kept = s.kept := by
  simp [State.nodePeriods]

@[simp] theorem State.modTwin_kept (s : State) (t : Nat) (f : Link → Link) :
    (State.modTwin s t f).kept = s.kept := by
  exact (rfl)

@[simp] theorem State.measureTwin_kept (s : State) (t interval turn : Nat) :
    (State.measureTwin s t interval turn).kept = s.kept := by
  simp [State.measureTwin]

@[simp] theorem State.followTime_kept (s : State) (target clock : Nat) :
    (State.followTime s target clock).kept = s.kept := by
  exact (rfl)

@[simp] theorem State.sendTwin_kept (s : State) (t : Nat) :
    (State.sendTwin s t).kept = s.kept := by
  simp only [State.sendTwin]; repeat' split
  all_goals simp

@[simp] theorem State.takeTwin_kept (s : State) (t : Nat) (bytes : List Byte) (timer : Nat) :
    (State.takeTwin s t bytes timer).kept = s.kept := by
  simp [State.takeTwin]

/-! ### Phase -/

@[simp] theorem State.showPier_kept (s : State) (n : Nat) (q : Pier) (e : PhsEvt) :
    (State.showPier s n q e).kept = s.kept := by
  simp [State.showPier]

@[simp] theorem State.peak_kept (s : State) (f : FieldRef) (x : Int) (mag : Bool) :
    (State.peak s f x mag).kept = s.kept := by
  simp [State.peak]

@[simp] theorem State.telemetry_kept (s : State) (n : Nat) :
    (State.telemetry s n).kept = s.kept := by
  refine kept_foldl _ _ _ fun s p => ?_
  generalize s.tlmOf n p = t
  dsimp only
  cases nth none t 0 <;> cases nth none t 1 <;> cases nth none t 2 <;> cases nth none t 3 <;> simp

@[simp] theorem State.closeWindow_kept (s : State) (n : Nat) :
    (State.closeWindow s n).kept = s.kept := by
  simp [State.closeWindow]

@[simp] theorem State.telemeter_kept (s : State) (n : Nat) :
    (State.telemeter s n).kept = s.kept := by
  simp [State.telemeter]

@[simp] theorem State.shortTest_kept (s : State) (n : Nat) (q : Pier) :
    (State.shortTest s n q).kept = s.kept := by
  simp [State.shortTest]

@[simp] theorem State.evaluate_kept (s : State) (n : Nat) :
    (State.evaluate s n).kept = s.kept := by
  simp [State.evaluate]

@[simp] theorem State.applyPier_kept (s : State) (n : Nat) :
    (State.applyPier s n).kept = s.kept := by
  simp only [State.applyPier]; repeat' split
  all_goals simp

@[simp] theorem State.reevaluate_kept (s : State) (n : Nat) :
    (State.reevaluate s n).kept = s.kept := by
  simp [State.reevaluate]

@[simp] theorem State.detect_kept (s : State) (n p cause : Nat) :
    (State.detect s n p cause).kept = s.kept := by
  simp [State.detect]

@[simp] theorem State.wrPhsCtrl_kept (s : State) (n v : Nat) :
    (State.wrPhsCtrl s n v).kept = s.kept := by
  simp [State.wrPhsCtrl]

@[simp] theorem State.wrPhsShed_kept (s : State) (n v : Nat) :
    (State.wrPhsShed s n v).kept = s.kept := by
  simp [State.wrPhsShed]

@[simp] theorem State.wrPhsFault_kept (s : State) (n v : Nat) :
    (State.wrPhsFault s n v).kept = s.kept := by
  simp [State.wrPhsFault]

@[simp] theorem State.wrPhsTlm_kept (s : State) (v : Nat) :
    (State.wrPhsTlm s v).kept = s.kept := by
  exact (rfl)

/-! ### Keystone -/

@[simp] theorem State.modSlot_kept (s : State) (e p : Nat) (f : Slot → Slot) :
    (State.modSlot s e p f).kept = s.kept := by
  exact (rfl)

@[simp] theorem State.kstLast_kept (s : State) (cause e p : Nat) :
    (State.kstLast s cause e p).kept = s.kept := by
  exact (rfl)

@[simp] theorem State.slotFault_kept (s : State) (k : Slot) (code cls : Nat) :
    (State.slotFault s k code cls).kept = s.kept := by
  simp [State.slotFault]

@[simp] theorem State.markFailed_kept (s : State) (e : Nat) :
    (State.markFailed s e).kept = s.kept := by
  exact (rfl)

@[simp] theorem State.engineFails_kept (s : State) (e : Nat) :
    (State.engineFails s e).kept = s.kept := by
  simp [State.engineFails]

@[simp] theorem State.spareFails_kept (s : State) :
    (State.spareFails s).kept = s.kept := by
  simp only [State.spareFails]; repeat' split
  all_goals simp

@[simp] theorem State.noteErr_kept (s : State) (err : EngErr) (eng e p : Nat) :
    (State.noteErr s err eng e p).kept = s.kept := by
  unfold State.noteErr; repeat' split
  all_goals simp

@[simp] theorem State.spareErr_kept (s : State) (err : EngErr) :
    (State.spareErr s err).kept = s.kept := by
  unfold State.spareErr; repeat' split
  all_goals simp

@[simp] theorem State.slotErr_kept (s : State) (err : EngErr) (e p : Nat) :
    (State.slotErr s err e p).kept = s.kept := by
  simp [State.slotErr]

@[simp] theorem State.mismatch_kept (s : State) (e p : Nat) :
    (State.mismatch s e p).kept = s.kept := by
  simp [State.mismatch]

@[simp] theorem State.outletRef_kept (s : State) (k : Slot) :
    (State.outletRef s k).kept = s.kept := by
  simp [State.outletRef]

@[simp] theorem State.runSlot_kept (s : State) (k : Slot) :
    (State.runSlot s k).kept = s.kept := by
  simp [State.runSlot]

@[simp] theorem State.takeCycles_kept (s : State) (e : Nat) :
    (State.takeCycles s e).kept = s.kept := by
  unfold State.takeCycles; repeat' split
  all_goals simp

@[simp] theorem State.evalSlot_kept (s : State) (k : Slot) (idle : Bool) :
    (State.evalSlot s k idle).kept = s.kept := by
  simp [State.evalSlot]

@[simp] theorem State.slotEvaluation_kept (s : State) (e p : Nat) (err : EngErr) :
    (State.slotEvaluation s e p err).kept = s.kept := by
  unfold State.slotEvaluation; repeat' split
  all_goals simp

@[simp] theorem State.latchOutlet_kept (s : State) (m : Nat) :
    (State.latchOutlet s m).kept = s.kept := by
  exact (rfl)

@[simp] theorem State.modeChange_kept (s : State) (m : Nat) (was : Bool) (ref : Rat) :
    (State.modeChange s m was ref).kept = s.kept := by
  unfold State.modeChange; repeat' split
  all_goals simp

@[simp] theorem State.takeSwaps_kept (s : State) :
    (State.takeSwaps s).kept = s.kept := by
  simp [State.takeSwaps]

@[simp] theorem State.takeOver_kept (s : State) :
    (State.takeOver s).kept = s.kept := by
  unfold State.takeOver; repeat' split
  all_goals simp

@[simp] theorem State.showBusy_kept (s : State) :
    (State.showBusy s).kept = s.kept := by
  simp [State.showBusy]

@[simp] theorem State.writeCapi_kept (s : State) (m : Nat) :
    (State.writeCapi s m).kept = s.kept := by
  exact (rfl)

@[simp] theorem State.kstPeriod_kept (s : State) :
    (State.kstPeriod s).kept = s.kept := by
  simp [State.kstPeriod]

@[simp] theorem State.wrBank_kept (s : State) (e d v : Nat) :
    (State.wrBank s e d v).kept = s.kept := by
  unfold State.wrBank; repeat' split
  all_goals simp

@[simp] theorem State.wrOutCtrl_kept (s : State) (m v : Nat) :
    (State.wrOutCtrl s m v).kept = s.kept := by
  simp [State.wrOutCtrl]

@[simp] theorem State.wrOutSet_kept (s : State) (m v : Nat) :
    (State.wrOutSet s m v).kept = s.kept := by
  simp [State.wrOutSet]

/-! ### Truss -/

@[simp] theorem State.trussTick_kept (s : State) :
    (State.trussTick s).kept = s.kept := by
  simp [State.trussTick]

/-! ### Arch -/

@[simp] theorem State.modArc_kept (s : State) (f : Arch → Arch) :
    (State.modArc s f).kept = s.kept := by
  exact (rfl)

@[simp] theorem State.modArcPier_kept (s : State) (c : Nat) (f : ArcPier → ArcPier) :
    (State.modArcPier s c f).kept = s.kept := by
  exact (rfl)

@[simp] theorem State.modArcOut_kept (s : State) (c : Nat) (f : ArcOut → ArcOut) :
    (State.modArcOut s c f).kept = s.kept := by
  exact (rfl)

@[simp] theorem State.modXp_kept (s : State) (k : Nat) (f : ArcXp → ArcXp) :
    (State.modXp s k f).kept = s.kept := by
  exact (rfl)

@[simp] theorem State.setPier_kept (s : State) (c st o : Nat) :
    (State.setPier s c st o).kept = s.kept := by
  exact (rfl)

@[simp] theorem State.setTarget_kept (s : State) (c t : Nat) :
    (State.setTarget s c t).kept = s.kept := by
  exact (rfl)

@[simp] theorem State.setXp_kept (s : State) (k st : Nat) :
    (State.setXp s k st).kept = s.kept := by
  exact (rfl)

@[simp] theorem State.arcEvt_kept (s : State) (f : FieldRef) :
    (State.arcEvt s f).kept = s.kept := by
  exact (rfl)

@[simp] theorem State.accumulate_kept (s : State) :
    (State.accumulate s).kept = s.kept := by
  simp [State.accumulate]

@[simp] theorem State.takeMeans_kept (s : State) :
    (State.takeMeans s).kept = s.kept := by
  simp [State.takeMeans]

@[simp] theorem State.dropHand_kept (s : State) (c : Nat) :
    (State.dropHand s c).kept = s.kept := by
  exact (rfl)

@[simp] theorem State.modHand_kept (s : State) (c : Nat) (f : HandOff → HandOff) :
    (State.modHand s c f).kept = s.kept := by
  exact (rfl)

@[simp] theorem State.syncPiers_kept (s : State) :
    (State.syncPiers s).kept = s.kept := by
  simp [State.syncPiers]

@[simp] theorem State.endHand_kept (s : State) (c : Nat) (ok : Bool) :
    (State.endHand s c ok).kept = s.kept := by
  unfold State.endHand; repeat' split
  all_goals simp

@[simp] theorem State.touchOut_kept (s : State) (o : Nat) :
    (State.touchOut s o).kept = s.kept := by
  exact (rfl)

@[simp] theorem State.beginOpen_kept (s : State) (c : Nat) :
    (State.beginOpen s c).kept = s.kept := by
  exact (rfl)

@[simp] theorem State.beginMatch_kept (s : State) (c : Nat) :
    (State.beginMatch s c).kept = s.kept := by
  unfold State.beginMatch; repeat' split
  all_goals simp

@[simp] theorem State.startHand_kept (s : State) (c o : Nat) :
    (State.startHand s c o).kept = s.kept := by
  simp [State.startHand]

@[simp] theorem State.toFree_kept (s : State) (c : Nat) :
    (State.toFree s c).kept = s.kept := by
  exact (rfl)

@[simp] theorem State.syncPier_kept (s : State) (n : Nat) :
    (State.syncPier s n).kept = s.kept := by
  simp [State.syncPier]

@[simp] theorem State.syncArcPiers_kept (s : State) :
    (State.syncArcPiers s).kept = s.kept := by
  simp [State.syncArcPiers]

@[simp] theorem State.advance_kept (s : State) (es : List LOut) (h : HandOff) :
    (State.advance s es h).kept = s.kept := by
  simp only [State.advance]; repeat' split
  all_goals simp

@[simp] theorem State.releaseIdle_kept (s : State) :
    (State.releaseIdle s).kept = s.kept := by
  simp [State.releaseIdle]

@[simp] theorem State.order1_kept (s : State) (c o : Nat) :
    (State.order1 s c o).kept = s.kept := by
  simp [State.order1]

@[simp] theorem State.takeMove_kept (s : State) :
    (State.takeMove s).kept = s.kept := by
  simp only [State.takeMove]; repeat' split
  all_goals simp

@[simp] theorem State.takeAlloc_kept (s : State) :
    (State.takeAlloc s).kept = s.kept := by
  simp [State.takeAlloc]

@[simp] theorem State.takeOrders_kept (s : State) :
    (State.takeOrders s).kept = s.kept := by
  simp [State.takeOrders]

@[simp] theorem State.countRecords_kept (s : State) :
    (State.countRecords s).kept = s.kept := by
  simp [State.countRecords]

@[simp] theorem State.commitShadow_kept (s : State) :
    (State.commitShadow s).kept = s.kept := by
  simp [State.commitShadow]

@[simp] theorem State.ceilRise_kept (s : State) (m chg dis : Nat) :
    (State.ceilRise s m chg dis).kept = s.kept := by
  simp [State.ceilRise]

@[simp] theorem State.applyArch_kept (s : State) :
    (State.applyArch s).kept = s.kept := by
  unfold State.applyArch
  split
  · rfl
  · refine (kept_forEach _ _ _ fun s x => by simp).trans ?_
    split
    all_goals
      (try rw [putS_kept])
      refine (kept_forEach _ _ _ fun s x => ?_).trans rfl
      split <;> simp

@[simp] theorem State.syncOutStates_kept (s : State) :
    (State.syncOutStates s).kept = s.kept := by
  simp [State.syncOutStates]

@[simp] theorem State.writeEmax_kept (s : State) :
    (State.writeEmax s).kept = s.kept := by
  simp [State.writeEmax]

@[simp] theorem State.showLedger_kept (s : State) (l : Ledger) :
    (State.showLedger s l).kept = s.kept := by
  unfold State.showLedger
  rw [putB_kept]
  refine (kept_forEach _ _ _ fun s x => ?_).trans ?_
  · split <;> simp
  · rw [putS_kept]; split <;> simp

@[simp] theorem State.showAlloc_kept (s : State) :
    (State.showAlloc s).kept = s.kept := by
  simp [State.showAlloc]

@[simp] theorem State.takeLedger_kept (s : State) (l : Ledger) :
    (State.takeLedger s l).kept = s.kept := by
  exact (rfl)

@[simp] theorem State.archBegin_kept (s : State) :
    (State.archBegin s).kept = s.kept := by
  simp [State.archBegin]

@[simp] theorem State.archPlan_kept (s : State) (hold : Bool) :
    (State.archPlan s hold).kept = s.kept := by
  simp only [State.archPlan]; repeat' split
  all_goals simp

@[simp] theorem State.takeFar_kept (s : State) (p : List Byte) :
    (State.takeFar s p).kept = s.kept := by
  simp [State.takeFar]

@[simp] theorem State.takeRecord_kept (s : State) (p : List Byte) :
    (State.takeRecord s p).kept = s.kept := by
  simp [State.takeRecord]

@[simp] theorem State.openXp_kept (s : State) (k : Nat) :
    (State.openXp s k).kept = s.kept := by
  simp [State.openXp]

@[simp] theorem State.declared_kept (s : State) (c : Nat) :
    (State.declared s c).kept = s.kept := by
  unfold State.declared; repeat' split
  all_goals simp

@[simp] theorem State.settle_kept (s : State) (c : Nat) :
    (State.settle s c).kept = s.kept := by
  simp [State.settle]

@[simp] theorem State.contactMoved_kept (s : State) (k : Nat) (closed : Bool) :
    (State.contactMoved s k closed).kept = s.kept := by
  simp only [State.contactMoved]; repeat' split
  all_goals simp

@[simp] theorem State.putContest_kept (s : State) (kind i : Nat) (b : Bool) :
    (State.putContest s kind i b).kept = s.kept := by
  unfold State.putContest; repeat' split
  all_goals simp

@[simp] theorem State.reportUnit_kept (s : State) (kind i cls : Nat) :
    (State.reportUnit s kind i cls).kept = s.kept := by
  unfold State.reportUnit; repeat' split
  all_goals simp

@[simp] theorem State.endHandsOf_kept (s : State) (kind i : Nat) :
    (State.endHandsOf s kind i).kept = s.kept := by
  simp [State.endHandsOf]

@[simp] theorem State.contestWrite_kept (s : State) (kind i : Nat) :
    (State.contestWrite s kind i).kept = s.kept := by
  unfold State.contestWrite; repeat' split
  all_goals simp

@[simp] theorem State.wrContP_kept (s : State) (v : Nat) :
    (State.wrContP s v).kept = s.kept := by
  simp [State.wrContP]

@[simp] theorem State.wrContO_kept (s : State) (v : Nat) :
    (State.wrContO s v).kept = s.kept := by
  simp [State.wrContO]

@[simp] theorem State.wrContX_kept (s : State) (k v : Nat) :
    (State.wrContX s k v).kept = s.kept := by
  simp [State.wrContX]

@[simp] theorem State.wrShadow_kept (s : State) (a v : Nat) :
    (State.wrShadow s a v).kept = s.kept := by
  simp [State.wrShadow]

@[simp] theorem State.wrPol_kept (s : State) (m v : Nat) :
    (State.wrPol s m v).kept = s.kept := by
  simp [State.wrPol]

@[simp] theorem State.refreshOvr_kept (s : State) :
    (State.refreshOvr s).kept = s.kept := by
  refine kept_forEach _ _ _ fun s n => ?_
  split
  · split <;> simp
  · rfl

@[simp] theorem State.arcPeriod_kept (s : State) :
    (State.arcPeriod s).kept = s.kept := by
  simp [State.arcPeriod]

@[simp] theorem State.vehicleArch_kept (s : State) :
    (State.vehicleArch s).kept = s.kept := by
  simp [State.vehicleArch]

/-! ### Girder -/

@[simp] theorem State.modGu_kept (s : State) (u : Nat) (f : GUnit → GUnit) :
    (State.modGu s u f).kept = s.kept := by
  exact (rfl)

@[simp] theorem State.syncGu_kept (s : State) (u : Nat) :
    (State.syncGu s u).kept = s.kept := by
  exact (rfl)

@[simp] theorem State.tovr_kept (s : State) (u g : Nat) :
    (State.tovr s u g).kept = s.kept := by
  exact (rfl)

@[simp] theorem State.trigger_kept (s : State) (u g : Nat) :
    (State.trigger s u g).kept = s.kept := by
  simp [State.trigger]

@[simp] theorem State.portEdge_kept (s : State) (u g : Nat) :
    (State.portEdge s u g).kept = s.kept := by
  simp [State.portEdge]

@[simp] theorem State.portEdges_kept (s : State) :
    (State.portEdges s).kept = s.kept := by
  simp [State.portEdges]

@[simp] theorem State.clockEdge_kept (s : State) :
    (State.clockEdge s).kept = s.kept := by
  simp [State.clockEdge]

@[simp] theorem State.periodEvent_kept (s : State) (u g : Nat) :
    (State.periodEvent s u g).kept = s.kept := by
  simp [State.periodEvent]

@[simp] theorem State.grdPeriod_kept (s : State) :
    (State.grdPeriod s).kept = s.kept := by
  simp [State.grdPeriod]

@[simp] theorem State.converted_kept (s : State) (u n : Nat) :
    (State.converted s u n).kept = s.kept := by
  exact (rfl)

@[simp] theorem State.winPorts_kept (s : State) :
    (State.winPorts s).kept = s.kept := by
  exact (rfl)

@[simp] theorem State.window_kept (s : State) (w : Nat) (signed : Bool) (v : Int) :
    (State.window s w signed v).1.kept = s.kept := by
  simp only [State.window]; repeat' split
  all_goals simp

@[simp] theorem State.capture_kept (s : State) (u v : Nat) (trig : Bool) :
    (State.capture s u v trig).kept = s.kept := by
  simp [State.capture]

@[simp] theorem State.watch_kept (s : State) (u e : Nat) (signed : Bool) (v : Nat) :
    (State.watch s u e signed v).kept = s.kept := by
  unfold State.watch
  dsimp only
  split
  · rw [State.capture_kept]; exact kept_foldl_fst _ _ _ fun y w => by simp
  · exact kept_foldl_fst _ _ _ fun y w => by simp

@[simp] theorem State.writeRes_kept (s : State) (u e : Nat) (signed : Bool) (v : Nat) (sat cover : Bool) :
    (State.writeRes s u e signed v sat cover).kept = s.kept := by
  simp [State.writeRes]

@[simp] theorem State.entryResult_kept (s : State) (u owner : Nat) (x : GEnt) (raw : List (BitVec 12)) :
    (State.entryResult s u owner x raw).kept = s.kept := by
  simp [State.entryResult]

@[simp] theorem State.pairedSample_kept (s : State) (u : Nat) (raw : List (BitVec 12)) :
    (State.pairedSample s u raw).kept = s.kept := by
  simp [State.pairedSample]

@[simp] theorem State.armCapture_kept (s : State) (u : Nat) :
    (State.armCapture s u).kept = s.kept := by
  exact (rfl)

@[simp] theorem State.wrCapctl_kept (s : State) (u v : Nat) :
    (State.wrCapctl s u v).kept = s.kept := by
  simp [State.wrCapctl]

@[simp] theorem State.wrCal_kept (s : State) (u v : Nat) :
    (State.wrCal s u v).kept = s.kept := by
  simp [State.wrCal]

@[simp] theorem State.startPorts_kept (s : State) :
    (State.startPorts s).kept = s.kept := by
  simp [State.startPorts]

@[simp] theorem State.sealCal_kept (s : State) :
    (State.sealCal s).kept = s.kept := by
  simp [State.sealCal]

@[simp] theorem State.setPair_kept (s : State) (b : Bool) :
    (State.setPair s b).kept = s.kept := by
  simp [State.setPair]

@[simp] theorem State.grdOff_kept (s : State) (u : Nat) :
    (State.grdOff s u).kept = s.kept := by
  simp [State.grdOff]

@[simp] theorem State.wrGrdCtrl_kept (s : State) (u v : Nat) :
    (State.wrGrdCtrl s u v).kept = s.kept := by
  simp [State.wrGrdCtrl]

@[simp] theorem State.wrTrg_kept (s : State) (u g v : Nat) :
    (State.wrTrg s u g v).kept = s.kept := by
  exact (rfl)

@[simp] theorem State.wrWin_kept (s : State) (w v : Nat) :
    (State.wrWin s w v).kept = s.kept := by
  simp [State.wrWin]

@[simp] theorem State.latchMod_kept (s : State) (j : Nat) (bits : List Bool) :
    (State.latchMod s j bits).kept = s.kept := by
  simp [State.latchMod]

@[simp] theorem State.clearSrc2_kept (s : State) :
    (State.clearSrc2 s).kept = s.kept := by
  refine kept_forEach _ _ _ fun s u => kept_forEach _ _ _ fun s g => ?_
  split
  · exact kept_foldl _ _ _ fun s x => rfl
  · rfl

/-! ### TollOps -/

@[simp] theorem State.modTol_kept (s : State) (f : Toll → Toll) :
    (State.modTol s f).kept = s.kept := by
  exact (rfl)

@[simp] theorem State.modBook_kept (s : State) (f : Book → Book) :
    (State.modBook s f).kept = s.kept := by
  exact (rfl)

@[simp] theorem State.modDc_kept (s : State) (p : Nat) (f : DcPt → DcPt) :
    (State.modDc s p f).kept = s.kept := by
  exact (rfl)

@[simp] theorem State.modAc_kept (s : State) (g : Nat) (f : AcPt → AcPt) :
    (State.modAc s g f).kept = s.kept := by
  exact (rfl)

@[simp] theorem State.modSess_kept (s : State) (p : Nat) (f : Sess → Sess) :
    (State.modSess s p f).kept = s.kept := by
  exact (rfl)

@[simp] theorem State.syncBook_kept (s : State) :
    (State.syncBook s).kept = s.kept := by
  exact (rfl)

@[simp] theorem State.logAt_kept (s : State) (t code point : Nat) (data : List Byte) :
    (State.logAt s t code point data).kept = s.kept := by
  simp [State.logAt]

@[simp] theorem State.log_kept (s : State) (code point : Nat) (data : List Byte) :
    (State.log s code point data).kept = s.kept := by
  simp [State.log]

@[simp] theorem State.logUner_kept (s : State) (code : Nat) (data : List Byte) :
    (State.logUner s code data).kept = s.kept := by
  simp [State.logUner]

@[simp] theorem State.flagOpen_kept (s : State) (bit : Nat) :
    (State.flagOpen s bit).kept = s.kept := by
  simp [State.flagOpen]

@[simp] theorem State.flagSess_kept (s : State) (p bit : Nat) :
    (State.flagSess s p bit).kept = s.kept := by
  simp [State.flagSess]

@[simp] theorem State.setTariff_kept (s : State) (t : Nat) :
    (State.setTariff s t).kept = s.kept := by
  simp only [State.setTariff]; repeat' split
  all_goals simp

@[simp] theorem State.updateState_kept (s : State) :
    (State.updateState s).kept = s.kept := by
  simp [State.updateState]

@[simp] theorem State.raiseHwm_kept (s : State) :
    (State.raiseHwm s).kept = s.kept := by
  simp [State.raiseHwm]

@[simp] theorem State.passTime_kept (s : State) (us : Nat) :
    (State.passTime s us).kept = s.kept := by
  simp [State.passTime]

/-! ### Metrology -/

@[simp] theorem State.correctCh_kept (s : State) (c : Nat) (code : Int) :
    (State.correctCh s c code).kept = s.kept := by
  exact (rfl)

@[simp] theorem State.calTake_kept (s : State) (c : Nat) (code : Int) :
    (State.calTake s c code).kept = s.kept := by
  unfold State.calTake; repeat' split
  all_goals simp

@[simp] theorem State.showResult_kept (s : State) (c : Nat) (code : Int) (stuck ovr : Bool) :
    (State.showResult s c code stuck ovr).kept = s.kept := by
  simp [State.showResult]

@[simp] theorem State.followSess_kept (s : State) (p eI eE : Nat) :
    (State.followSess s p eI eE).kept = s.kept := by
  simp [State.followSess]

@[simp] theorem State.dcInstant_kept (s : State) (p : Nat) :
    (State.dcInstant s p).kept = s.kept := by
  simp [State.dcInstant]

@[simp] theorem State.meterFault_kept (s : State) (src : Nat) :
    (State.meterFault s src).kept = s.kept := by
  simp [State.meterFault]

@[simp] theorem State.gapEvent_kept (s : State) (pt : Nat) (ends : Bool) (ms : Nat) :
    (State.gapEvent s pt ends ms).kept = s.kept := by
  simp [State.gapEvent]

@[simp] theorem State.dcStep_kept (s : State) (p : Nat) :
    (State.dcStep s p).kept = s.kept := by
  simp only [State.dcStep]; repeat' split
  all_goals simp

@[simp] theorem State.ovrEvent_kept (s : State) (c : Nat) :
    (State.ovrEvent s c).kept = s.kept := by
  simp [State.ovrEvent]

@[simp] theorem State.residEvent_kept (s : State) (c k : Nat) :
    (State.residEvent s c k).kept = s.kept := by
  simp [State.residEvent]

@[simp] theorem State.setLock_kept (s : State) (g : Nat) :
    (State.setLock s g).kept = s.kept := by
  simp [State.setLock]

@[simp] theorem State.crossing_kept (s : State) (g : Nat) :
    (State.crossing s g).kept = s.kept := by
  simp [State.crossing]

@[simp] theorem State.acStep_kept (s : State) (g : Nat) :
    (State.acStep s g).kept = s.kept := by
  simp only [State.acStep]; repeat' split
  all_goals simp

@[simp] theorem State.takeResult_kept (s : State) (c : Nat) (x : Int) (stuck ovr : Bool) (resid : Nat) :
    (State.takeResult s c x stuck ovr resid).kept = s.kept := by
  simp [State.takeResult]

@[simp] theorem State.discrep_kept (s : State) (p : Nat) (up : Bool) (d : Rat) :
    (State.discrep s p up d).kept = s.kept := by
  simp [State.discrep]

@[simp] theorem State.crossCheck_kept (s : State) (p : Nat) :
    (State.crossCheck s p).kept = s.kept := by
  simp [State.crossCheck]

@[simp] theorem State.passFeedback_kept (s : State) :
    (State.passFeedback s).kept = s.kept := by
  refine kept_forEach _ _ _ fun s p => ?_
  split <;> simp

@[simp] theorem State.setTheta_kept (s : State) (p : Nat) (t : Rat) (ok : Bool) :
    (State.setTheta s p t ok).kept = s.kept := by
  simp [State.setTheta]

@[simp] theorem State.wrMsnap_kept (s : State) (v : Nat) :
    (State.wrMsnap s v).kept = s.kept := by
  simp [State.wrMsnap]

@[simp] theorem State.wrMcal_kept (s : State) (v : Nat) :
    (State.wrMcal s v).kept = s.kept := by
  simp [State.wrMcal]

@[simp] theorem State.readLegal_kept (s : State) (a : Nat) :
    (State.readLegal s a).2.kept = s.kept := by
  unfold State.readLegal; repeat' split
  all_goals simp

/-! ### Tariff -/

@[simp] theorem State.openDemand_kept (s : State) (g t : Nat) :
    (State.openDemand s g t).kept = s.kept := by
  exact (rfl)

@[simp] theorem State.closeDemand_kept (s : State) (g t flags : Nat) :
    (State.closeDemand s g t flags).kept = s.kept := by
  simp [State.closeDemand]

@[simp] theorem State.demandAt_kept (s : State) (t flags : Nat) :
    (State.demandAt s t flags).kept = s.kept := by
  simp [State.demandAt]

@[simp] theorem State.billClose_kept (s : State) (t : Nat) :
    (State.billClose s t).kept = s.kept := by
  simp [State.billClose]

@[simp] theorem State.beginSave_kept (s : State) (kind btime : Nat) :
    (State.beginSave s kind btime).kept = s.kept := by
  unfold State.beginSave; repeat' split
  all_goals simp

@[simp] theorem State.activate_kept (s : State) (t : Nat) :
    (State.activate s t).kept = s.kept := by
  simp [State.activate]

@[simp] theorem State.boundaryAt_kept (s : State) (t flags : Nat) (bill : Bool) :
    (State.boundaryAt s t flags bill).kept = s.kept := by
  simp only [State.boundaryAt]; repeat' split
  all_goals simp

@[simp] theorem State.catchUp_kept (s : State) (t flags : Nat) :
    (State.catchUp s t flags).kept = s.kept := by
  simp [State.catchUp]

@[simp] theorem State.activateLate_kept (s : State) :
    (State.activateLate s).kept = s.kept := by
  simp [State.activateLate]

@[simp] theorem State.checkHwm_kept (s : State) :
    (State.checkHwm s).kept = s.kept := by
  simp [State.checkHwm]

@[simp] theorem State.setTime_kept (s : State) (t : Nat) (acc : Nat) :
    (State.setTime s t acc).kept = s.kept := by
  simp [State.setTime]

@[simp] theorem State.wrTsetc_kept (s : State) (v : Nat) :
    (State.wrTsetc s v).kept = s.kept := by
  simp [State.wrTsetc]

@[simp] theorem State.wrCalctl_kept (s : State) (m : Master) (v : Nat) :
    (State.wrCalctl s m v).kept = s.kept := by
  simp [State.wrCalctl]

@[simp] theorem State.readTimeLo_kept (s : State) :
    (State.readTimeLo s).2.kept = s.kept := by
  exact (rfl)

@[simp] theorem State.readHwmLo_kept (s : State) :
    (State.readHwmLo s).2.kept = s.kept := by
  exact (rfl)

/-! ### Book -/

@[simp] theorem State.modVl_kept (s : State) (n : Nat) (f : VLink → VLink) :
    (State.modVl s n f).kept = s.kept := by
  exact (rfl)

@[simp] theorem State.sendFmx_kept (s : State) (n k : Nat) (body : List Byte) :
    (State.sendFmx s n k body).kept = s.kept := by
  exact (rfl)

@[simp] theorem State.countReq_kept (s : State) (n p ph : Nat) :
    (State.countReq s n p ph).kept = s.kept := by
  exact (rfl)

@[simp] theorem State.putVcnt_kept (s : State) (n w v : Nat) :
    (State.putVcnt s n w v).kept = s.kept := by
  exact (rfl)

@[simp] theorem State.storeSess_kept (s : State) (p : Nat) :
    (State.storeSess s p).kept = s.kept := by
  simp [State.storeSess]

@[simp] theorem State.modHdr_kept (s : State) (f : BookHdr → BookHdr) :
    (State.modHdr s f).kept = s.kept := by
  exact (rfl)

@[simp] theorem State.freeBytes_kept (s : State) (n : Nat) :
    (State.freeBytes s n).2.kept = s.kept := by
  exact (rfl)

@[simp] theorem State.linkItems_kept (s : State) (p : Nat) (reply : Bool) :
    (State.linkItems s p reply).2.kept = s.kept := by
  unfold State.linkItems; repeat' split
  all_goals simp

@[simp] theorem State.toPylon_kept (s : State) (r : TollRec) :
    (State.toPylon s r).kept = s.kept := by
  exact (rfl)

@[simp] theorem State.formRecord_kept (s : State) (p typ : Nat) (reply : Bool) :
    (State.formRecord s p typ reply).kept = s.kept := by
  simp [State.formRecord]

@[simp] theorem State.dueRecord_kept (s : State) (p typ : Nat) :
    (State.dueRecord s p typ).kept = s.kept := by
  unfold State.dueRecord; repeat' split
  all_goals simp

@[simp] theorem State.startSess_kept (s : State) (p : Nat) :
    (State.startSess s p).kept = s.kept := by
  simp only [State.startSess]; repeat' split
  all_goals simp

@[simp] theorem State.wrSess_kept (s : State) (p v : Nat) :
    (State.wrSess s p v).kept = s.kept := by
  simp [State.wrSess]

@[simp] theorem State.endSess_kept (s : State) (p t flags : Nat) :
    (State.endSess s p t flags).kept = s.kept := by
  simp [State.endSess]

@[simp] theorem State.syncBuf_kept (s : State) :
    (State.syncBuf s).kept = s.kept := by
  exact (rfl)

@[simp] theorem State.wrRecctl_kept (s : State) (v : Nat) :
    (State.wrRecctl s v).kept = s.kept := by
  unfold State.wrRecctl; repeat' split
  all_goals simp

@[simp] theorem State.wrSave_kept (s : State) (v : Nat) :
    (State.wrSave s v).kept = s.kept := by
  simp [State.wrSave]

@[simp] theorem State.wrArcctl_kept (s : State) (m : Master) (v : Nat) :
    (State.wrArcctl s m v).kept = s.kept := by
  simp [State.wrArcctl]

@[simp] theorem State.beginGasp_kept (s : State) (loss : Rat) :
    (State.beginGasp s loss).kept = s.kept := by
  simp [State.beginGasp]

@[simp] theorem State.endGasp_kept (s : State) (energies marker : Bool) :
    (State.endGasp s energies marker).kept = s.kept := by
  unfold State.endGasp; repeat' split
  all_goals simp

/-! ### Restart -/

@[simp] theorem State.loadLegal_kept (s : State) :
    (State.loadLegal s).kept = s.kept := by
  simp [State.loadLegal]

@[simp] theorem State.initBook_kept (s : State) :
    (State.initBook s).kept = s.kept := by
  simp [State.initBook]

@[simp] theorem State.legalChange_kept (s : State) :
    (State.legalChange s).kept = s.kept := by
  simp [State.legalChange]

@[simp] theorem State.sealCalendars_kept (s : State) :
    (State.sealCalendars s).kept = s.kept := by
  simp [State.sealCalendars]

@[simp] theorem State.fromSave_kept (s : State) (r : SaveRec) :
    (State.fromSave s r).kept = s.kept := by
  exact (rfl)

@[simp] theorem State.resumeDemand_kept (s : State) (at_ : Rat) (tariff flags : Nat) :
    (State.resumeDemand s at_ tariff flags).kept = s.kept := by
  simp [State.resumeDemand]

@[simp] theorem State.addDc_kept (s : State) (p tariff i e l : Nat) :
    (State.addDc s p tariff i e l).kept = s.kept := by
  simp [State.addDc]

@[simp] theorem State.addAc_kept (s : State) (g tariff i e : Nat) :
    (State.addAc s g tariff i e).kept = s.kept := by
  exact (rfl)

@[simp] theorem State.addPart_kept (s : State) (g : LastGasp) (k tariff : Nat) :
    (State.addPart s g k tariff).kept = s.kept := by
  simp [State.addPart]

@[simp] theorem State.applyGasp_kept (s : State) (g : LastGasp) (base : SaveRec) :
    (State.applyGasp s g base).kept = s.kept := by
  simp [State.applyGasp]

@[simp] theorem State.refollow_kept (s : State) :
    (State.refollow s).kept = s.kept := by
  simp [State.refollow]

@[simp] theorem State.closeAtLoss_kept (s : State) (loss : Rat) (failed : Bool) (base : SaveRec) :
    (State.closeAtLoss s loss failed base).kept = s.kept := by
  simp [State.closeAtLoss]

@[simp] theorem State.damageBook_kept (s : State) :
    (State.damageBook s).kept = s.kept := by
  simp [State.damageBook]

@[simp] theorem State.recover_kept (s : State) (loss : Option Rat) (assured : Bool) :
    (State.recover s loss assured).kept = s.kept := by
  unfold State.recover
  extract_lets b newest lost
  split
  · simp
  · extract_lets base s1 s2 s3 ok at_ s4 s5 s6
    have h3 : s3.kept = s.kept := by
      simp only [s3]; split <;> simp [s2, s1]
    have h5 : s5.kept = s.kept := by
      rw [← h3]; simp only [s5]
      split
      · split
        · split <;> simp
        · simp
      · split
        · split <;> simp
        · simp [s4]
    have h6 : s6.kept = s.kept := by
      rw [← h5]; simp only [s6]
      clear h3 h5 s6
      clear_value s5 at_ ok
      cases loss <;> cases ok <;> simp
    rw [← h6]
    clear_value s6
    split <;> simp

@[simp] theorem State.budget_kept (s : State) :
    (State.budget s).kept = s.kept := by
  unfold State.budget
  extract_lets off s1 n want eff s2
  have h1 : s1.kept = s.kept := by
    refine kept_foldl_fst _ _ _ fun y w => ?_
    split <;> rfl
  have h2 : s2.kept = s.kept := h1
  rw [← h2]
  clear_value s2
  split <;> simp

@[simp] theorem State.spoil_kept (s : State) :
    (State.spoil s).kept = s.kept := by
  exact (rfl)

@[simp] theorem State.tollSeal_kept (s : State) :
    (State.tollSeal s).kept = s.kept := by
  simp only [State.tollSeal]; repeat' split
  all_goals simp

/-! ### Power -/

@[simp] theorem State.modPwr_kept (s : State) (f : Power → Power) :
    (State.modPwr s f).kept = s.kept := by
  exact (rfl)

@[simp] theorem State.rtcPass_kept (s : State) (e : Nat) :
    (State.rtcPass s e).kept = s.kept := by
  exact (rfl)

@[simp] theorem State.rtcOff_kept (s : State) (e : Nat) :
    (State.rtcOff s e).kept = s.kept := by
  simp [State.rtcOff]

@[simp] theorem State.copyTime_kept (s : State) :
    (State.copyTime s).kept = s.kept := by
  exact (rfl)

@[simp] theorem State.startGap_kept (s : State) :
    (State.startGap s).kept = s.kept := by
  exact (rfl)

@[simp] theorem State.endGap_kept (s : State) :
    (State.endGap s).kept = s.kept := by
  simp [State.endGap]

@[simp] theorem State.loseSupply_kept (s : State) (assured : Bool) :
    (State.loseSupply s assured).kept = s.kept := by
  simp [State.loseSupply]

@[simp] theorem State.wrWatchdog_kept (s : State) (v : Nat) :
    (State.wrWatchdog s v).kept = s.kept := by
  simp [State.wrWatchdog]

@[simp] theorem State.wrKick_kept (s : State) (m : Master) (v : Nat) :
    (State.wrKick s m v).kept = s.kept := by
  simp [State.wrKick]

@[simp] theorem State.trsWake_kept (s : State) :
    (State.trsWake s).kept = s.kept := by
  simp [State.trsWake]

@[simp] theorem State.wake_kept (s : State) :
    (State.wake s).kept = s.kept := by
  simp [State.wake]

@[simp] theorem State.startEntry_kept (s : State) (st : Nat) :
    (State.startEntry s st).kept = s.kept := by
  exact (rfl)

@[simp] theorem State.wrPsreq_kept (s : State) (m : Master) (v : Nat) :
    (State.wrPsreq s m v).kept = s.kept := by
  simp [State.wrPsreq]

@[simp] theorem State.takePending_kept (s : State) :
    (State.takePending s).kept = s.kept := by
  simp [State.takePending]

@[simp] theorem State.wrPadhold_kept (s : State) (v : Nat) :
    (State.wrPadhold s v).kept = s.kept := by
  simp [State.wrPadhold]

/-! ### Pylon -/

@[simp] theorem State.modPyl_kept (s : State) (f : Pylon → Pylon) :
    (State.modPyl s f).kept = s.kept := by
  exact (rfl)

@[simp] theorem State.putWords_kept (s : State) (a n : Nat) (l : List Byte) :
    (State.putWords s a n l).kept = s.kept := by
  simp [State.putWords]

@[simp] theorem State.setCtr_kept (s : State) (i v : Nat) :
    (State.setCtr s i v).kept = s.kept := by
  exact (rfl)

@[simp] theorem State.advanceCtr_kept (s : State) (i v : Nat) (adv : Bool) :
    (State.advanceCtr s i v adv).kept = s.kept := by
  simp [State.advanceCtr]

@[simp] theorem State.extend_kept (s : State) (m : Nat) (v : List Byte) :
    (State.extend s m v).kept = s.kept := by
  simp [State.extend]

@[simp] theorem State.measure0_kept (s : State) :
    (State.measure0 s).kept = s.kept := by
  simp [State.measure0]

@[simp] theorem State.signPair_kept (s : State) (seed dig : List Byte) :
    (State.signPair s seed dig).2.kept = s.kept := by
  exact (rfl)

@[simp] theorem State.formIds_kept (s : State) :
    (State.formIds s).kept = s.kept := by
  simp [State.formIds]

@[simp] theorem State.wrCmdctl_kept (s : State) (v : Nat) :
    (State.wrCmdctl s v).kept = s.kept := by
  simp [State.wrCmdctl]

@[simp] theorem State.wrCmdaddr_kept (s : State) (v : Nat) :
    (State.wrCmdaddr s v).kept = s.kept := by
  exact (rfl)

@[simp] theorem State.pylEnd_kept (s : State) (status n : Nat) :
    (State.pylEnd s status n).kept = s.kept := by
  exact (rfl)

@[simp] theorem State.pylFail_kept (s : State) :
    (State.pylFail s).kept = s.kept := by
  exact (rfl)

@[simp] theorem State.putKey_kept (s : State) (n : Nat) (k : KeySlot) :
    (State.putKey s n k).kept = s.kept := by
  exact (rfl)

@[simp] theorem State.acceptElem_kept (s : State) (a : Nat) :
    (State.acceptElem s a).kept = s.kept := by
  simp only [State.acceptElem]; repeat' split
  all_goals simp

@[simp] theorem State.wrImgcommit_kept (s : State) (m : Master) (v : Nat) :
    (State.wrImgcommit s m v).kept = s.kept := by
  simp [State.wrImgcommit]

@[simp] theorem State.formEndorse_kept (s : State) :
    (State.formEndorse s).kept = s.kept := by
  simp [State.formEndorse]

@[simp] theorem State.wrLcctl_kept (s : State) (v : Nat) :
    (State.wrLcctl s v).kept = s.kept := by
  simp [State.wrLcctl]

/-! ### Can -/

@[simp] theorem State.modCan_kept (s : State) (n : Nat) (f : Can → Can) :
    (State.modCan s n f).kept = s.kept := by
  exact (rfl)

@[simp] theorem State.setCanW_kept (s : State) (n i v : Nat) :
    (State.setCanW s n i v).kept = s.kept := by
  exact (rfl)

@[simp] theorem State.setCanWs_kept (s : State) (n i : Nat) (x0 : List Nat) :
    (State.setCanWs s n i x0).kept = s.kept := by
  induction x0 generalizing s i with
  | nil => rfl
  | cons v t ih => rw [State.setCanWs, ih]; simp

@[simp] theorem State.canSelect_kept (s : State) (n : Nat) :
    (State.canSelect s n).kept = s.kept := by
  simp [State.canSelect]

@[simp] theorem State.setErr_kept (s : State) (n tx rx : Nat) :
    (State.setErr s n tx rx).kept = s.kept := by
  simp [State.setErr]

@[simp] theorem State.wrTxreq_kept (s : State) (n v : Nat) :
    (State.wrTxreq s n v).kept = s.kept := by
  simp [State.wrTxreq]

@[simp] theorem State.wrTxcan_kept (s : State) (n v : Nat) :
    (State.wrTxcan s n v).kept = s.kept := by
  simp [State.wrTxcan]

@[simp] theorem State.endTx_kept (s : State) (n b : Nat) (ok : Bool) :
    (State.endTx s n b ok).kept = s.kept := by
  simp [State.endTx]

@[simp] theorem State.freeRx_kept (s : State) (n : Nat) :
    (State.freeRx s n).kept = s.kept := by
  exact (rfl)

@[simp] theorem State.wrRxack_kept (s : State) (n v : Nat) :
    (State.wrRxack s n v).kept = s.kept := by
  simp [State.wrRxack]

@[simp] theorem State.canCycle_kept (s : State) (n k : Nat) :
    (State.canCycle s n k).kept = s.kept := by
  exact (rfl)

@[simp] theorem State.canTimeStep_kept (s : State) :
    (State.canTimeStep s).kept = s.kept := by
  simp [State.canTimeStep]

@[simp] theorem State.wrCanCtrl_kept (s : State) (n v : Nat) :
    (State.wrCanCtrl s n v).kept = s.kept := by
  simp [State.wrCanCtrl]

@[simp] theorem State.wrCanCfg_kept (s : State) (n a v : Nat) :
    (State.wrCanCfg s n a v).kept = s.kept := by
  simp [State.wrCanCfg]

@[simp] theorem State.wrRxring_kept (s : State) (n v : Nat) :
    (State.wrRxring s n v).kept = s.kept := by
  simp [State.wrRxring]

@[simp] theorem State.wrCanRam_kept (s : State) (n i v : Nat) :
    (State.wrCanRam s n i v).kept = s.kept := by
  simp [State.wrCanRam]

@[simp] theorem State.canConfig_kept (s : State) :
    (State.canConfig s).kept = s.kept := by
  have h (n a off : Nat) (s : State) : (match findReg a with
      | some r => r.fields.foldl (fun (s : State) (f : FieldDesc) => s.put ⟨a, f.lo, f.w⟩ (fieldOf (s.cfg 0x0D off 4) f.lo f.w)) s
      | none => s).kept = s.kept := by
    split
    · exact kept_foldl _ _ _ fun s f => rfl
    · rfl
  refine kept_forEach _ _ _ fun s n => ?_
  refine (kept_forEach _ _ _ fun s c => h n _ _ s).trans ?_
  refine (kept_forEach _ _ _ fun s c => h n _ _ s).trans ?_
  exact kept_foldl _ _ _ fun s c => h n _ _ s

/-! ### Causeway -/

@[simp] theorem State.modCwy_kept (s : State) (f : Causeway → Causeway) :
    (State.modCwy s f).kept = s.kept := by
  exact (rfl)

@[simp] theorem State.showFlight_kept (s : State) :
    (State.showFlight s).kept = s.kept := by
  exact (rfl)

@[simp] theorem State.setPlic_kept (s : State) (core : Nat) (x : PlicSet) :
    (State.setPlic s core x).kept = s.kept := by
  exact (rfl)

@[simp] theorem State.clockBack_kept (s : State) :
    (State.clockBack s).kept = s.kept := by
  simp [State.clockBack]

@[simp] theorem State.moveSite_kept (s : State) (x : Int) :
    (State.moveSite s x).kept = s.kept := by
  exact (rfl)

@[simp] theorem State.discipline_kept (s : State) (off : Int) :
    (State.discipline s off).kept = s.kept := by
  simp [State.discipline]

@[simp] theorem State.steer_kept (s : State) :
    (State.steer s).kept = s.kept := by
  exact (rfl)

@[simp] theorem State.wrHlkCtrl_kept (s : State) (n v : Nat) :
    (State.wrHlkCtrl s n v).kept = s.kept := by
  simp [State.wrHlkCtrl]

/-! ### Stay -/

@[simp] theorem State.modCbl_kept (s : State) (m : Nat) (f : Cable → Cable) :
    (State.modCbl s m f).kept = s.kept := by
  exact (rfl)

@[simp] theorem State.styGather_kept (s : State) :
    (State.styGather s).kept = s.kept := by
  simp [State.styGather]

@[simp] theorem State.styDrive_kept (s : State) (m pump fan : Nat) (valve : Bool) :
    (State.styDrive s m pump fan valve).kept = s.kept := by
  simp [State.styDrive]

@[simp] theorem State.styIdle_kept (s : State) (m : Nat) :
    (State.styIdle s m).kept = s.kept := by
  simp [State.styIdle]

@[simp] theorem State.styRun_kept (s : State) (m : Nat) (u : StyUse) :
    (State.styRun s m u).kept = s.kept := by
  unfold State.styRun
  split
  · exact State.styIdle_kept _ _
  · cases u.tout
    · exact State.styDrive_kept _ _ _ _ _
    · exact State.styDrive_kept _ _ _ _ _

@[simp] theorem State.styCeil_kept (s : State) (m code bind : Nat) :
    (State.styCeil s m code bind).kept = s.kept := by
  simp [State.styCeil]

@[simp] theorem State.writeEmaxI_kept (s : State) (n : Nat) :
    (State.writeEmaxI s n).kept = s.kept := by
  simp [State.writeEmaxI]

@[simp] theorem State.styFlow_kept (s : State) (m : Nat) (zero : Bool) :
    (State.styFlow s m zero).kept = s.kept := by
  simp [State.styFlow]

@[simp] theorem State.styRead_kept (s : State) (m : Nat) :
    (State.styRead s m).2.kept = s.kept := by
  unfold State.styRead
  refine (kept_foldl _ _ _ fun s x => ?_).trans ?_
  · cases x.1 <;> simp
  · simp

@[simp] theorem State.putTemp_kept (s : State) (f : FieldRef) (t : Option Rat) :
    (State.putTemp s f t).kept = s.kept := by
  unfold State.putTemp; repeat' split
  all_goals simp

@[simp] theorem State.styLimit_kept (s : State) (m : Nat) (u : StyUse) :
    (State.styLimit s m u).kept = s.kept := by
  simp [State.styLimit]

@[simp] theorem State.styBlock_kept (s : State) (m : Nat) :
    (State.styBlock s m).kept = s.kept := by
  simp [State.styBlock]

@[simp] theorem State.styStopped_kept (s : State) (m : Nat) :
    (State.styStopped s m).kept = s.kept := by
  simp [State.styStopped]

@[simp] theorem State.wrStyCtrl_kept (s : State) (m v : Nat) :
    (State.wrStyCtrl s m v).kept = s.kept := by
  simp [State.wrStyCtrl]

@[simp] theorem State.wrStyLim_kept (s : State) (m v : Nat) :
    (State.wrStyLim s m v).kept = s.kept := by
  exact (rfl)

@[simp] theorem State.wrStyFw_kept (s : State) (m j v : Nat) :
    (State.wrStyFw s m j v).kept = s.kept := by
  exact (rfl)

@[simp] theorem State.styConfig_kept (s : State) :
    (State.styConfig s).kept = s.kept := by
  simp [State.styConfig]

/-! ### Vlink -/

@[simp] theorem State.onAir_kept (s : State) (n cap mode : Nat) :
    (State.onAir s n cap mode).kept = s.kept := by
  exact (rfl)

@[simp] theorem State.mgmtAir_kept (s : State) (n : Nat) :
    (State.mgmtAir s n).kept = s.kept := by
  exact (rfl)

@[simp] theorem State.slacStop_kept (s : State) (n : Nat) :
    (State.slacStop s n).kept = s.kept := by
  simp [State.slacStop]

@[simp] theorem State.vlDisc_kept (s : State) (n : Nat) :
    (State.vlDisc s n).kept = s.kept := by
  simp [State.vlDisc]

@[simp] theorem State.pilotBad_kept (s : State) (n st : Nat) :
    (State.pilotBad s n st).kept = s.kept := by
  simp [State.pilotBad]

@[simp] theorem State.dropTls_kept (s : State) (n : Nat) :
    (State.dropTls s n).kept = s.kept := by
  exact (rfl)

@[simp] theorem State.setConnected_kept (s : State) (n : Nat) (c : Bool) :
    (State.setConnected s n c).kept = s.kept := by
  simp [State.setConnected]

@[simp] theorem State.wrPremote_kept (s : State) (n v : Nat) :
    (State.wrPremote s n v).kept = s.kept := by
  simp [State.wrPremote]

@[simp] theorem State.syncWdog_kept (s : State) (n : Nat) :
    (State.syncWdog s n).kept = s.kept := by
  simp [State.syncWdog]

@[simp] theorem State.wrWdog_kept (s : State) (n v : Nat) :
    (State.wrWdog s n v).kept = s.kept := by
  simp [State.wrWdog]

@[simp] theorem State.helloRx_kept (s : State) (n : Nat) (b : List Byte) :
    (State.helloRx s n b).kept = s.kept := by
  simp [State.helloRx]

@[simp] theorem State.countReqRx_kept (s : State) (n : Nat) (b : List Byte) :
    (State.countReqRx s n b).kept = s.kept := by
  simp [State.countReqRx]

@[simp] theorem State.endAsk_kept (s : State) (n : Nat) (reply : Bool) :
    (State.endAsk s n reply).kept = s.kept := by
  unfold State.endAsk; repeat' split
  all_goals simp

@[simp] theorem State.countResRx_kept (s : State) (n : Nat) (b : List Byte) :
    (State.countResRx s n b).kept = s.kept := by
  unfold State.countResRx; repeat' split
  all_goals simp

@[simp] theorem State.fmxRx_kept (s : State) (n : Nat) (p : List Byte) :
    (State.fmxRx s n p).kept = s.kept := by
  unfold State.fmxRx; repeat' split
  all_goals simp

@[simp] theorem State.slacBegin_kept (s : State) (n : Nat) :
    (State.slacBegin s n).kept = s.kept := by
  simp [State.slacBegin]

@[simp] theorem State.slacUp_kept (s : State) (n : Nat) (db : Option Rat) :
    (State.slacUp s n db).kept = s.kept := by
  simp only [State.slacUp]; repeat' split
  all_goals simp

@[simp] theorem State.slacMsg_kept (s : State) (n : Nat) (m : SlacMsg) :
    (State.slacMsg s n m).kept = s.kept := by
  unfold State.slacMsg; repeat' split
  all_goals simp

@[simp] theorem State.incBy_kept (s : State) (f : FieldRef) (k : Nat) :
    (State.incBy s f k).kept = s.kept := by
  exact (rfl)

@[simp] theorem State.dataAir_kept (s : State) (n r : Nat) :
    (State.dataAir s n r).kept = s.kept := by
  exact (rfl)

@[simp] theorem State.wrVlkCtrl_kept (s : State) (n v : Nat) :
    (State.wrVlkCtrl s n v).kept = s.kept := by
  simp [State.wrVlkCtrl]

@[simp] theorem State.wrVlkRing_kept (s : State) (n a v : Nat) :
    (State.wrVlkRing s n a v).kept = s.kept := by
  simp [State.wrVlkRing]

@[simp] theorem State.wrVlkDoor_kept (s : State) (n v : Nat) :
    (State.wrVlkDoor s n v).kept = s.kept := by
  simp [State.wrVlkDoor]

@[simp] theorem State.wrVlkSess_kept (s : State) (n v : Nat) :
    (State.wrVlkSess s n v).kept = s.kept := by
  simp [State.wrVlkSess]

@[simp] theorem State.wrVlkBmsi_kept (s : State) (n v : Nat) :
    (State.wrVlkBmsi s n v).kept = s.kept := by
  simp [State.wrVlkBmsi]

@[simp] theorem State.vlkConfig_kept (s : State) :
    (State.vlkConfig s).kept = s.kept := by
  simp [State.vlkConfig]

/-! ### Thermal -/

@[simp] theorem State.modHkp_kept (s : State) (f : Hkp → Hkp) :
    (State.modHkp s f).kept = s.kept := by
  exact (rfl)

@[simp] theorem State.sense_kept (s : State) (n count : Nat) (temp : Int) :
    (State.sense s n count temp).kept = s.kept := by
  simp [State.sense]

@[simp] theorem State.enforce_kept (s : State) :
    (State.enforce s).kept = s.kept := by
  simp [State.enforce]

@[simp] theorem State.levels_kept (s : State) (tj : Int) :
    (State.levels s tj).kept = s.kept := by
  simp [State.levels]

@[simp] theorem State.calmRound_kept (s : State) :
    (State.calmRound s).kept = s.kept := by
  simp [State.calmRound]

@[simp] theorem State.wrThrctl_kept (s : State) (v : Nat) :
    (State.wrThrctl s v).kept = s.kept := by
  simp [State.wrThrctl]

/-! ### Bus -/

@[simp] theorem State.clearRc_kept (s : State) (a : Nat) :
    (State.clearRc s a).kept = s.kept := by
  unfold State.clearRc; repeat' split
  all_goals simp

@[simp] theorem State.readReg_kept (s : State) (a : Nat) :
    (State.readReg s a).2.kept = s.kept := by
  simp [State.readReg]

@[simp] theorem State.writePyl_kept (s : State) (m : Master) (a v : Nat) :
    (State.writePyl s m a v).kept = s.kept := by
  simp [State.writePyl]

@[simp] theorem State.writeSpn_kept (s : State) (a v : Nat) :
    (State.writeSpn s a v).kept = s.kept := by
  simp [State.writeSpn]

@[simp] theorem State.writePhs_kept (s : State) (a v : Nat) :
    (State.writePhs s a v).kept = s.kept := by
  simp [State.writePhs]

@[simp] theorem State.writeKst_kept (s : State) (a v : Nat) :
    (State.writeKst s a v).kept = s.kept := by
  simp [State.writeKst]

@[simp] theorem State.writeArc_kept (s : State) (a v : Nat) :
    (State.writeArc s a v).kept = s.kept := by
  unfold State.writeArc; repeat' split
  all_goals simp

@[simp] theorem State.writeGrd_kept (s : State) (a v : Nat) :
    (State.writeGrd s a v).kept = s.kept := by
  simp [State.writeGrd]

@[simp] theorem State.writeTol_kept (s : State) (m : Master) (a v : Nat) :
    (State.writeTol s m a v).kept = s.kept := by
  simp [State.writeTol]

@[simp] theorem State.writeSty_kept (s : State) (a v : Nat) :
    (State.writeSty s a v).kept = s.kept := by
  simp [State.writeSty]

@[simp] theorem State.writeVlk_kept (s : State) (a v : Nat) :
    (State.writeVlk s a v).kept = s.kept := by
  unfold State.writeVlk; repeat' split
  all_goals simp

@[simp] theorem State.writeCbu_kept (s : State) (a v : Nat) :
    (State.writeCbu s a v).kept = s.kept := by
  simp [State.writeCbu]

@[simp] theorem State.writePrp_kept (s : State) (m : Master) (a v : Nat) :
    (State.writePrp s m a v).kept = s.kept := by
  simp [State.writePrp]

@[simp] theorem State.writeTrs_kept (s : State) (a v : Nat) :
    (State.writeTrs s a v).kept = s.kept := by
  simp [State.writeTrs]

@[simp] theorem State.readMem_kept (s : State) (a n : Nat) :
    (State.readMem s a n).2.kept = s.kept := by
  simp [State.readMem]

@[simp] theorem State.holdTx_kept (s : State) (m : Master) (a n : Nat) (v : Option Nat) :
    (State.holdTx s m a n v).kept = s.kept := by
  simp [State.holdTx]

@[simp] theorem State.busRead_kept (s : State) (m : Master) (a n : Nat) (fetch : Bool) :
    (State.busRead s m a n fetch).kept = s.kept := by
  simp [State.busRead]

/-! ### Display -/

@[simp] theorem State.modHead_kept (s : State) (n : Nat) (f : DpHead → DpHead) :
    (State.modHead s n f).kept = s.kept := by
  exact (rfl)

@[simp] theorem State.advanceHead_kept (s : State) (n k : Nat) :
    (State.advanceHead s n k).kept = s.kept := by
  exact (rfl)

/-! ### Loader -/

@[simp] theorem State.modLoad_kept (s : State) (f : Load → Load) :
    (State.modLoad s f).kept = s.kept := by
  exact (rfl)

@[simp] theorem State.setReason_kept (s : State) (k r : Nat) :
    (State.setReason s k r).kept = s.kept := by
  simp [State.setReason]

@[simp] theorem State.refuseAll_kept (s : State) :
    (State.refuseAll s).kept = s.kept := by
  simp [State.refuseAll]

@[simp] theorem State.cfgLinks_kept (s : State) :
    (State.cfgLinks s).kept = s.kept := by
  simp [State.cfgLinks]

@[simp] theorem State.cfgQuotas_kept (s : State) :
    (State.cfgQuotas s).kept = s.kept := by
  simp [State.cfgQuotas]

@[simp] theorem State.cfgPhs_kept (s : State) :
    (State.cfgPhs s).kept = s.kept := by
  simp [State.cfgPhs]

@[simp] theorem State.cfgKst_kept (s : State) :
    (State.cfgKst s).kept = s.kept := by
  exact (rfl)

@[simp] theorem State.cfgArc_kept (s : State) :
    (State.cfgArc s).kept = s.kept := by
  simp [State.cfgArc]

@[simp] theorem State.cfgEngines_kept (s : State) :
    (State.cfgEngines s).kept = s.kept := by
  simp [State.cfgEngines]

@[simp] theorem State.sealArc_kept (s : State) :
    (State.sealArc s).kept = s.kept := by
  exact (rfl)

@[simp] theorem State.sealPylon_kept (s : State) :
    (State.sealPylon s).kept = s.kept := by
  simp [State.sealPylon]

@[simp] theorem State.startLinks_kept (s : State) :
    (State.startLinks s).kept = s.kept := by
  simp [State.startLinks]

@[simp] theorem State.seal_kept (s : State) :
    (State.seal s).kept = s.kept := by
  simp only [State.seal]; repeat' split
  all_goals simp

@[simp] theorem State.selfTests_kept (s : State) (fails : List (Fin 6)) :
    (State.selfTests s fails).kept = s.kept := by
  simp [State.selfTests]

@[simp] theorem State.restoreSaved_kept (s : State) :
    (State.restoreSaved s).kept = s.kept := by
  refine kept_foldl _ _ _ fun s x => ?_
  split <;> simp

@[simp] theorem State.showWakeFrame_kept (s : State) (woke : List (Option (Bool × Nat))) :
    (State.showWakeFrame s woke).kept = s.kept := by
  refine kept_forEach _ _ _ fun s n => ?_
  split <;> rfl

/-! ### Period -/

@[simp] theorem State.nextSite_kept (s : State) :
    (State.nextSite s).kept = s.kept := by
  simp [State.nextSite]

@[simp] theorem State.tick_kept (s : State) :
    (State.tick s).kept = s.kept := by
  simp [State.tick]

end Sys2Proof.Machine
end

