-- ==== Sys2Proof/Laws/Tame.lean ====
section
/-! SUPPORT. The bus: what a register write leaves alone; and the operations that write memory or replace the image, which leave the queue
and keep the memory's form. -/

namespace Sys2Proof.Machine

theorem writeAbt_kept (s : State) (m : Master) (a v : Nat) (h : a ≠ Reg.ABT_RESET) : (s.writeAbt m a v).kept = s.kept := by
  simp only [State.writeAbt, if_neg h]
  repeat' split
  all_goals simp

/-- A register write other than of ABT_RESET stores nothing and leaves image and queue. -/
theorem writeReg_kept (s : State) (m : Master) (a v : Nat) (h : a ≠ Reg.ABT_RESET) : (s.writeReg m a v).kept = s.kept := by
  unfold State.writeReg
  split
  · exact writeAbt_kept s m a v h
  all_goals (try split) <;> simp

theorem leveledWrite_kept (s : State) (m : Master) (a v : Nat) (h : a ≠ Reg.ABT_RESET) : (s.leveledWrite m a v).kept = s.kept := by
  unfold State.leveledWrite
  dsimp only
  split <;> split <;> simp [writeReg_kept, h]

/-- So does a 32-bit write at a register's address, whoever makes it and whether it is permitted or not. -/
theorem wr_kept (s : State) (m : Master) (a : Nat) (v : Word) (h : a ≠ Reg.ABT_RESET) (hb : blockOf a = some .reg) :
    (s.wr m a v).kept = s.kept := by
  unfold State.wr State.busWrite
  repeat' split
  all_goals first | rfl | exact leveledWrite_kept s m a _ h | simp

/-- Queue as before, and the memory's form kept. -/
def Tame (s t : State) : Prop := t.pending = s.pending ∧ (Memory.wf s.mem = true → Memory.wf t.mem = true)

theorem Tame.refl (s : State) : Tame s s := ⟨rfl, id⟩

theorem Tame.trans {s t u : State} (h : Tame s t) (k : Tame t u) : Tame s u := ⟨k.1.trans h.1, k.2 ∘ h.2⟩

theorem tame_of_kept {s t : State} (h : t.kept = s.kept) : Tame s t := by
  have hm : t.mem = s.mem := congrArg Prod.fst h
  have hp : t.pending = s.pending := congrArg (fun x => x.2.2.2.2) h
  exact ⟨hp, fun w => hm ▸ w⟩

theorem tame_setMem (s : State) (a : Nat) (l : List Byte) : Tame s (s.setMem a l) := by
  refine ⟨?_, setMem_wf l s a⟩
  induction l generalizing s a with
  | nil => rfl
  | cons b t ih => exact ih (s.setMemB a b) (a + 1)

theorem tame_filter (s t : State) (p : Host.Cell → Bool) (hp : t.pending = s.pending) (hm : t.mem = s.mem.filter p) : Tame s t :=
  ⟨hp, fun w => hm ▸ swf_filter p w⟩

/-! ### The operations that are not kept, in the order of their use -/

theorem dmaWrite_tame (s : State) (m : Master) (a : Nat) (l : List Byte) : Tame s (s.dmaWrite m a l) := by
  unfold State.dmaWrite; split
  · exact tame_setMem s a l
  · exact tame_of_kept (violate_kept s m a)

theorem keepRegs_tame (s : State) (p : Nat → Bool) : Tame s (s.keepRegs p) := ⟨rfl, id⟩
theorem unload_tame (s : State) : Tame s s.unload := ⟨rfl, id⟩

theorem restartUnits_tame (s : State) (p : Parapet) (l : List Channel) : Tame s (s.restartUnits p l) := tame_filter s _ _ rfl rfl

theorem restart_tame (s : State) (warm : Bool) : Tame s (s.restart warm) := by
  unfold State.restart
  extract_lets p prp u1 u2
  have h : Tame s u2 := ((keepRegs_tame s _).trans (unload_tame _)).trans (restartUnits_tame _ _ _)
  refine h.trans ?_
  clear_value u2
  exact tame_of_kept (by simp)

theorem allOff_tame (s : State) : Tame s s.allOff := ⟨rfl, id⟩

theorem shutOff_tame (s : State) : Tame s s.shutOff := by
  unfold State.shutOff; split
  · exact (restart_tame s false).trans (allOff_tame _)
  · exact .refl s

theorem warmReset_tame (s : State) (c : Nat) : Tame s (s.warmReset c) := by
  unfold State.warmReset
  split
  · exact .refl s
  · have h : Tame s ((s.beginGasp s.tol.bill).endGasp true true) := tame_of_kept (by simp)
    refine h.trans ?_
    generalize (s.beginGasp s.tol.bill).endGasp true true = u
    dsimp only
    split
    · exact (restart_tame u false).trans (allOff_tame _)
    · exact (restart_tame u true).trans (tame_of_kept (by simp))

theorem failVin_tame (s : State) (b : Bool) : Tame s (s.failVin b) := by
  unfold State.failVin
  split
  · exact .refl s
  · extract_lets s1 lg on s2 s3
    have h2 : Tame s s2 := tame_of_kept (by simp only [s2, putB_kept, s1]; split <;> simp)
    have h3 : Tame s s3 := h2.trans ((restart_tame s2 false).trans (tame_of_kept (by simp [s3])))
    refine h3.trans ?_
    clear_value s3
    split
    · exact tame_of_kept (by simp)
    · exact allOff_tame s3

theorem dropUnits_tame (s : State) (park : Bool) : Tame s (s.dropUnits park) := tame_filter s _ _ rfl rfl

theorem fallAsleep_tame (s : State) (park : Bool) : Tame s (s.fallAsleep park) := by
  unfold State.fallAsleep
  extract_lets ka chans held s1 s2 s3 s4
  have h3 : s3.kept = s.kept := by
    refine (kept_forEach _ _ _ fun s n => by simp).trans ((kept_forEach _ _ _ fun s n => ?_).trans ?_)
    · split <;> simp
    · simp [s1]
  refine (tame_of_kept h3).trans ?_
  clear_value s3
  have h4 : Tame s3 s4 := (tame_of_kept (s := s3) (t := ((s3.keepRegs sleepKeeps).clearEngines).put Fld.ABT_PADHOLD_HOLD 0x7F) (by simp)).trans
    (dropUnits_tame _ _)
  refine h4.trans (tame_of_kept ?_)
  clear_value s4
  simp

theorem wakeSource_tame (s : State) (f : State → State) (h : ∀ s, Tame s (f s)) : Tame s (s.wakeSource f) := by
  unfold State.wakeSource
  have h1 : Tame s (if s.asleep then f s else s) := by split; exacts [h s, .refl s]
  dsimp only
  split
  · exact h1.trans ⟨rfl, id⟩
  · exact h1.trans (tame_of_kept (by simp))

theorem shutdown_tame (s : State) : Tame s s.shutdown := by
  unfold State.shutdown
  extract_lets s1
  have h1 : Tame s s1 := tame_of_kept (by simp [s1])
  refine h1.trans ?_
  clear_value s1
  have h : Tame s1 ((s1.loseSupply s1.pwr.vhold30).modPwr (fun p => { p with shutLatch := true })) := tame_of_kept (by simp)
  exact h.trans (shutOff_tame _)

theorem wrReset_tame (s : State) (m : Master) (v : Nat) : Tame s (s.wrReset m v) := by
  unfold State.wrReset
  split
  · exact tame_of_kept (violate_kept _ _ _)
  · split
    · exact warmReset_tame s 2
    · exact .refl s

theorem writeReg_tame (s : State) (m : Master) (a v : Nat) : Tame s (s.writeReg m a v) := by
  unfold State.writeReg
  split
  · by_cases h : a = Reg.ABT_RESET
    · unfold State.writeAbt
      rw [if_neg (by rw [h]; decide), if_neg (by rw [h]; decide), if_neg (by rw [h]; decide), if_neg (by rw [h]; decide), if_pos h]
      exact wrReset_tame s m v
    · exact tame_of_kept (writeAbt_kept s m a v h)
  all_goals (try split) <;> exact tame_of_kept (by simp)

/-- A write by a master at any address, of any length. -/
theorem busWrite_tame (s : State) (m : Master) (a n v : Nat) : Tame s (s.busWrite m a n v) := by
  unfold State.busWrite
  repeat' split
  · exact .refl s
  · exact tame_of_kept (violate_kept _ _ _)
  · exact tame_of_kept (by simp)
  · unfold State.leveledWrite
    dsimp only
    have h : Tame s (if s.shut a then s else s.writeReg m a (s.gated a (s.viewReg a) v)) := by
      split; exacts [.refl s, writeReg_tame s m a _]
    split
    · exact h.trans (tame_of_kept (violate_kept _ _ _))
    · exact h
  · exact tame_setMem _ _ _

theorem tame_foldl {α : Type} (l : List α) (f : State → α → State) (s : State) (h : ∀ s x, Tame s (f s x)) : Tame s (l.foldl f s) := by
  induction l generalizing s with
  | nil => exact .refl s
  | cons x t ih => exact (h s x).trans (ih (f s x))

theorem applyPresets_tame (s : State) (p : Nat → Bool) : Tame s (s.applyPresets p) := by
  refine tame_foldl _ _ _ fun s i => ?_
  dsimp only
  split; exacts [writeReg_tame s 12 _ _, .refl s]

theorem busRead_tame (s : State) (m : Master) (a n : Nat) (x : Bool) : Tame s (s.busRead m a n x) := tame_of_kept (by simp)

/-- The transactions that an aborted entry to sleep held. -/
theorem releaseTx_tame (s : State) : Tame s s.releaseTx := by
  refine (tame_of_kept (t := s.modPwr (fun p => { p with heldTx := [] })) (by simp)).trans (tame_foldl _ _ _ fun s x => ?_)
  split; exacts [busWrite_tame _ _ _ _ _, busRead_tame _ _ _ _ _]

/-- Cells that ECC cannot correct. -/
theorem eccFound_tame (s : State) (n : Nat) (l : List Host.Cell) : Tame s (s.eccFound n l) := by
  refine (tame_of_kept rfl).trans (tame_foldl l _ _ fun s c => ?_)
  split; exacts [⟨rfl, setMemB_wf s c.1 c.2⟩, .refl s]

theorem startSlot_tame (s : State) (k : Nat) : Tame s (s.startSlot k) := by
  have h : Tame s (s.setReason k 0) := tame_of_kept (by simp)
  refine h.trans ?_
  unfold State.startSlot
  generalize s.setReason k 0 = u
  exact ⟨rfl, id⟩

theorem failSlot_tame (s : State) (r : Nat) : Tame s (s.failSlot r) := by
  unfold State.failSlot
  extract_lets k s1 o
  have h1 : Tame s s1 := ((unload_tame s).trans (keepRegs_tame _ notImage)).trans (tame_of_kept (by simp [s1]))
  refine h1.trans ?_
  split
  · exact startSlot_tame s1 o
  · exact tame_of_kept (by simp)

theorem chooseSlot_tame (s : State) : Tame s s.chooseSlot := by
  unfold State.chooseSlot
  extract_lets a b s1
  have h1 : Tame s s1 := tame_of_kept (by simp [s1])
  refine h1.trans ?_
  clear_value s1
  have hr (k r : Nat) : Tame s1 (s1.setReason k r) := tame_of_kept (by simp)
  split
  · split
    · exact (hr _ _).trans (startSlot_tame _ _)
    · exact (hr _ _).trans (startSlot_tame _ _)
  · repeat' split
    · exact startSlot_tame _ _
    · exact startSlot_tame _ _
    · exact tame_of_kept (by simp)

theorem finishLoad_tame (s : State) : Tame s s.finishLoad := by
  unfold State.finishLoad
  extract_lets s0 role s1 s2 s3
  have h1 : Tame s s1 := by simp only [s1]; split; exacts [.refl s, tame_of_kept (State.loadLegal_kept s)]
  have h2 : Tame s1 s2 := by clear_value s1; exact tame_of_kept (by simp [s2])
  have h3 : Tame s s3 := (h1.trans h2).trans (applyPresets_tame _ _)
  clear_value s3
  repeat' split
  · exact failSlot_tame _ _
  · exact failSlot_tame _ _
  · exact failSlot_tame _ _
  · exact failSlot_tame _ _
  · exact h3.trans (tame_of_kept (by simp))

theorem clearSram_tame (s : State) : Tame s s.clearSram := tame_filter s _ _ rfl rfl

theorem finishWake_tame (s : State) : Tame s s.finishWake := by
  unfold State.finishWake
  extract_lets park woke committed s1 s2 s3 s4 s5 s6 k6 p6 s7 s8
  have h1 : Tame s s1 := tame_of_kept (by simp [s1])
  have h2 : Tame s1 s2 := ((tame_of_kept (t := s1.putB Fld.PYL_IMGSTAT_LOADED false) (by simp)).trans (applyPresets_tame _ _)).trans
    (tame_of_kept (putB_kept _ _ _))
  have h3 : Tame s2 s3 := tame_of_kept (by simp only [s3, State.restoreSaved_kept, State.sealArc_kept])
  have h4 : Tame s3 s4 := tame_of_kept (by simp [s4])
  have h5 : Tame s4 s5 := ((tame_of_kept (t := (s4.putB Fld.PYL_IMGSTAT_COMMITTED committed).sealCal) (by simp)).trans
    (clearSram_tame _)).trans (tame_of_kept (by simp [s5]))
  have h8 : Tame s5 s8 := tame_of_kept (by simp [s8, s7, s6])
  refine ((((h1.trans h2).trans h3).trans h4).trans (h5.trans h8)).trans ?_
  clear_value s8
  split
  · exact tame_of_kept (by simp)
  · exact .refl s8

theorem pylOk_tame (s : State) (c : PylCmd) (out : List Byte) (f : State → State) (h : Tame s (f s)) : Tame s (s.pylOk c out f) := by
  unfold State.pylOk
  repeat' split
  · exact tame_of_kept (by simp)
  · exact tame_of_kept (by simp)
  · have k := h.trans (tame_setMem (f s) c.outA out)
    exact k.trans (tame_of_kept (by simp))

theorem withAlg_tame (s : State) (c : PylCmd) (p : Alg → Bool) (f : Alg → State) (h : ∀ a, Tame s (f a)) : Tame s (s.withAlg c p f) := by
  unfold State.withAlg
  repeat' split
  · exact h _
  all_goals exact tame_of_kept (by simp)

theorem withKey_tame (s : State) (c : PylCmd) (u : Nat → Bool) (f : List Byte → State) (h : ∀ k, Tame s (f k)) :
    Tame s (s.withKey c u f) := by
  unfold State.withKey
  dsimp only
  repeat' split
  · exact tame_of_kept (by simp)
  · exact tame_of_kept (by simp)
  · exact h _

theorem tame_put_modVl {s t : State} (f : FieldRef) (v n : Nat) (g : VLink → VLink) (h : Tame s t) : Tame s ((t.put f v).modVl n g) :=
  h.trans (tame_of_kept (by simp))

theorem rxPayload_tame (s : State) (n ty : Nat) (p : List Byte) : Tame s (s.rxPayload n ty p) := by
  unfold State.rxPayload
  dsimp only
  split
  · exact tame_of_kept (by simp)
  · split
    · exact tame_of_kept (by simp)
    · generalize hr : s.dmaRead 15 _ 16 = r
      have hk : Tame s r.2 := tame_of_kept (by rw [← hr]; simp)
      refine hk.trans ?_
      clear hr hk
      exact tame_put_modVl _ _ _ _ ((dmaWrite_tame _ _ _ _).trans (dmaWrite_tame _ _ _ _))

end Sys2Proof.Machine
end

