-- ==== Sys2Proof/Laws/Trestle.lean ====
section
/-! SUPPORT. What the shared operations of the Trestle can do: channels that settle change their STAT and CUR registers, and of a
channel's record only the samples. -/

namespace Sys2Proof.Machine

/-- Registers in which channels show that they have settled. -/
def trsStatRegs : List Nat := (List.range 16).flatMap (fun n => [Reg.TRS_CH_STAT n, Reg.TRS_CH_CUR n])

/-- A channel without the samples of the converter. -/
def Channel.core (c : Channel) : Channel := { c with samples := [], ua := 0 }

theorem mem_trsMembers {s : State} {l n : Nat} (h : n ∈ s.trsMembers l) : n < 16 := by
  have := (List.mem_filter.1 h).1
  simpa using this

theorem trsSettle1_reg (s : State) {n a : Nat} (h1 : a ≠ Reg.TRS_CH_STAT n) (h2 : a ≠ Reg.TRS_CH_CUR n) :
    (s.trsSettle1 n).reg a = s.reg a := by
  have e1 : (s.put (Fld.TRS_CH_STAT_STATE n) (s.trsState n)).reg a = s.reg a := reg_put_ne _ _ h1
  unfold State.trsSettle1
  simp only
  split
  · exact e1
  · simp only [State.modChan, State.putB, reg_mk, regIn_regs]
    rw [reg_put_ne _ _ h1, reg_put_ne _ _ h2, reg_put_ne _ _ h2, reg_put_ne _ _ h1, e1]

/-- Settling leaves every register but STAT and CUR of the channels. -/
theorem trsSettle_reg (s : State) {n a : Nat} (hn : n < 16) (h : a ∉ trsStatRegs) : (s.trsSettle n).reg a = s.reg a := by
  have h' : ∀ k, k < 16 → a ≠ Reg.TRS_CH_STAT k ∧ a ≠ Reg.TRS_CH_CUR k := by
    intro k hk
    refine ⟨fun e => h ?_, fun e => h ?_⟩ <;> exact List.mem_flatMap.2 ⟨k, List.mem_range.2 hk, by simp [e]⟩
  unfold State.trsSettle
  rw [forEach_keeps (fun t => t.reg a) _ _ _ (fun t x hx =>
    trsSettle1_reg t (h' x (mem_trsMembers hx)).1 (h' x (mem_trsMembers hx)).2)]
  exact trsSettle1_reg s (h' n hn).1 (h' n hn).2

theorem trsSettle1_core (s : State) (n k : Nat) : ((s.trsSettle1 n).chan k).core = (s.chan k).core := by
  unfold State.trsSettle1
  simp only
  split
  · rfl
  · exact nth_updAt_keeps {} s.trs.chans n k (fun c => { c with samples := [], ua := 0 }) Channel.core (fun _ => rfl)

/-- Settling leaves of every channel's record all but the samples. -/
theorem trsSettle_core (s : State) (n k : Nat) : ((s.trsSettle n).chan k).core = (s.chan k).core := by
  unfold State.trsSettle
  rw [forEach_keeps (fun t => (t.chan k).core) _ _ _ (fun t x _ => trsSettle1_core t x k)]
  exact trsSettle1_core s n k

theorem trsSettle1_get_stat (s : State) (n k lo w : Nat) (h : 6 ≤ lo) :
    (s.trsSettle1 n).get ⟨Reg.TRS_CH_STAT k, lo, w⟩ = s.get ⟨Reg.TRS_CH_STAT k, lo, w⟩ := by
  have key (t : State) (f : FieldRef) (v : Nat) (hl : f.lo + f.w ≤ 6) (hf : f.addr = Reg.TRS_CH_STAT n ∨ f.addr = Reg.TRS_CH_CUR n) :
      (t.put f v).get ⟨Reg.TRS_CH_STAT k, lo, w⟩ = t.get ⟨Reg.TRS_CH_STAT k, lo, w⟩ := by
    by_cases e : Reg.TRS_CH_STAT k = f.addr
    · exact get_put_disjoint t v (by omega) e (.inr (by show f.lo + f.w ≤ lo; omega))
    · exact get_put_ne t v e
  have key2 (t : State) (f : FieldRef) (v : Nat) (hf : f.addr = Reg.TRS_CH_CUR n) :
      (t.put f v).get ⟨Reg.TRS_CH_STAT k, lo, w⟩ = t.get ⟨Reg.TRS_CH_STAT k, lo, w⟩ :=
    get_put_ne t v (by rw [hf]; simp only [Reg.TRS_CH_STAT, Reg.TRS_CH_CUR]; omega)
  unfold State.trsSettle1
  simp only
  split
  · exact key _ _ _ (by simp [Fld.TRS_CH_STAT_STATE]) (.inl rfl)
  · simp only [State.modChan, State.putB, get_mk, getIn_regs]
    rw [key _ (Fld.TRS_CH_STAT_RANGE n) _ (by simp [Fld.TRS_CH_STAT_RANGE]) (.inl rfl), key2 _ _ _ rfl, key2 _ _ _ rfl,
      key _ (Fld.TRS_CH_STAT_LIMIT n) _ (by simp [Fld.TRS_CH_STAT_LIMIT]) (.inl rfl), key _ _ _ (by simp [Fld.TRS_CH_STAT_STATE]) (.inl rfl)]

/-- Settling leaves BURST_CNT, DUMP and HELD. -/
theorem trsSettle_get_stat (s : State) (n k lo w : Nat) (h : 6 ≤ lo) :
    (s.trsSettle n).get ⟨Reg.TRS_CH_STAT k, lo, w⟩ = s.get ⟨Reg.TRS_CH_STAT k, lo, w⟩ := by
  unfold State.trsSettle
  rw [forEach_keeps (fun t => t.get ⟨Reg.TRS_CH_STAT k, lo, w⟩) _ _ _ (fun t x _ => trsSettle1_get_stat t x k lo w h)]
  exact trsSettle1_get_stat s n k lo w h

/-- Settling leaves all of the state but the register file and the Trestle. -/
theorem trsSettle_rest (s : State) (n : Nat) :
    { s.trsSettle n with regs := s.regs, trs := s.trs } = s := by
  have one (t : State) (x : Nat) : { t.trsSettle1 x with regs := s.regs, trs := s.trs } = { t with regs := s.regs, trs := s.trs } := by
    unfold State.trsSettle1; simp only; split <;> rfl
  unfold State.trsSettle
  have := forEach_keeps (fun t => { t with regs := s.regs, trs := s.trs }) (s.trsMembers (s.trsLeader n)) (s.trsSettle1 n)
    State.trsSettle1 (fun t x _ => one t x)
  exact this.trans (one s n)

end Sys2Proof.Machine
end

