-- ==== Sys2Proof/Tests/Slice0.lean ====
section
/-! SUPPORT. Tests: ill-formed commands that the check refuses, states that meet the hypotheses of the statements, clause by clause at
boundary values, and single steps whose result the spec gives. -/

namespace Sys2Proof.Tests

set_option Elab.async false

open Sys2Proof Sys2Proof.Machine

/-! ### Ill-formed commands -/

def frame0 : CanFrame := { esi := false, id := 0, xtd := false, fdf := false, brs := false, rtr := false, dlc := 9, data := List.replicate 8 0 }

theorem test_wf_housekeepingRound : (Instr.housekeepingRound [] [] []).wf = false := by decide
theorem test_wf_periodStart : (Instr.periodStart [] .none []).wf = false := by decide
theorem test_wf_irqClaim : (Instr.irqClaim 0 [] { prio := [(0, 1), (0, 2)] } 0).wf = false := by decide
theorem test_wf_caissonResult : (Instr.caissonResult 0 [true] [] false false).wf = false := by decide
theorem test_wf_grdCalDone : (Instr.grdCalDone 0 []).wf = false := by decide
theorem test_wf_grdBgcUpdate : (Instr.grdBgcUpdate 0 []).wf = false := by decide
theorem test_wf_grdConversionResult : (Instr.grdConversionResult 0 0 []).wf = false := by decide
theorem test_wf_pllLock : (Instr.pllLock [(5, 1), (5, 2)] [] 0 0).wf = false := by decide
theorem test_wf_wakeRestreamDone : (Instr.wakeRestreamDone { slot := [(16777216, 1)] }).wf = false := by decide
theorem test_wf_registerWrite : (Instr.registerWrite 0 0 3 0).wf = false := by decide
theorem test_wf_forbiddenRead : (Instr.forbiddenRead 0 0 16 true).wf = false := by decide
theorem test_wf_canFrameRx : (Instr.canFrameRx 0 (some { frame0 with data := [1] }) 0 0 0).wf = false ∧
    (Instr.canFrameRx 0 (some frame0) 0 0 0).wf = true := by decide
theorem test_wf_slacMatch : (Instr.slacMatch 0 [[0]]).wf = false := by decide

/-! ### States to start from -/

/-- Region 0 of every master covers the address space for reads and writes (R90). -/
def openMap : List Host.Cell :=
  (List.range 19).flatMap (fun m => [4, 5, 6, 7].map (fun o => (imgKey 5 (64 + 512 * m) + o, 0xFF)) ++ [(imgKey 5 (64 + 512 * m) + 8, 3)])

/-- Every instance of every function at the expert level (R92). -/
def allExpert : List Host.Cell :=
  (List.range 8).flatMap (fun k => [(imgKey 0xF (16 * k), BitVec.ofNat 8 (k + 1)), (imgKey 0xF (16 * k + 1), 0xFF), (imgKey 0xF (16 * k + 2), 1)])

/-- A device that runs with an open access map and expert levels, and otherwise as reset leaves it. -/
def run : State := { State.reset with
  img := openMap ++ allExpert
  load := { stage := .run }
  pwr := { domains := 0x3FF, st := .run, cold := false }
  prp := { running := true, pllLocked := true }
  tol := { run := true } }

/-- Fields set one after the other. -/
def flds (s : State) (l : List (FieldRef × Nat)) : State := l.foldl (fun s x => s.put x.1 x.2) s
/-- Section bytes set one after the other: type, offset, value. -/
def sect (s : State) (l : List (Nat × Nat × Nat)) : State :=
  l.foldl (fun s x => { s with img := sset 0 s.img (imgKey x.1 x.2.1) (BitVec.ofNat 8 x.2.2) }) s

/-- Piers 0 to 9 on links 0 to 9, pier 10 on links 10 and 11, with 32 phases each; both twin links in use. -/
def net : State := sect run
  ((List.range 10).flatMap (fun l => [(4, 16 * l, 1), (4, 16 * l + 1, l), (4, 16 * l + 2, 32)]) ++
   [(4, 160, 1), (4, 161, 10), (4, 162, 32), (4, 176, 2), (4, 177, 10), (4, 0xC0, 1), (4, 0xD0, 1)])
/-- Every link enabled and in sync. -/
def netUp : State := flds net ((List.range 12).flatMap (fun l => [(Fld.SPN_LINK_CTRL_EN l, 1), (Fld.SPN_LINK_STAT_SYNC l, 1)]))

theorem test_run_shaped : run.shaped = true := by decide +kernel
theorem test_run_takes : run.takes 0 (Reg.PHS_PIER_CTRL 3) = true ∧ run.takes 3 (Reg.TRS_CH_CTRL 15) = true := by decide +kernel

/-! ### States that meet the hypotheses, spec/00 to spec/02 -/

/-- A command at the front of the queue, and one byte of memory listed. -/
def queued : State := { run with pending := [.snsSelect 3], mem := [(0x10000000, 1)] }

theorem wit_StepRunsTheFrontCommand : State.reset.pending = [] ∧ State.reset.trussRuns = false := by decide +kernel
theorem wit_StepKeepsMemoryCanonical : Memory.wf queued.mem = true ∧ ∃ t, step queued = .next t := ⟨by decide, _, rfl⟩
theorem wit_CommandsNeverTouchTheQueue : (∃ t, exec (.snsSelect 3) run = .next t) ∧ queued.pending = .snsSelect 3 :: [] ∧
    ∃ t, step queued = .next t := ⟨⟨_, rfl⟩, rfl, _, rfl⟩
theorem wit_CommandsCompleteOutsideQsp : ((0x40120000 : Word) - 4).toNat / 0x10000 ≠ 0x4012 ∧
    (0x4012FFFC : Word).toNat / 0x10000 = 0x4012 ∧ run.masterLive 0 = true ∧ run.accessOk 0 0x4012FFFC 4 false = true := by decide +kernel
theorem wit_MemoryChangesOnlyByItsWriters : ∃ t, exec (.snsSelect 15) run = .next t := ⟨_, rfl⟩
theorem wit_ShapeIsKept : run.shaped = true ∧ queued.shaped = true ∧ ∃ t, step queued = .next t :=
  ⟨by decide +kernel, by decide +kernel, _, rfl⟩

theorem wit_ForbiddenAccessesAreCounted : run.masterLive 0 = true ∧ run.accessOk 0 0x13000000 4 true = false ∧
    run.accessOk 0 0x40130000 4 false = false ∧ run.accessOk 18 0xFFFFFFFF 1 true = false := by decide +kernel
theorem wit_AllowedWritesStoreTheirBytes : run.masterLive 15 = true ∧ run.accessOk 15 0x107FFFF8 8 true = true ∧ run.blockOn 0x107FFFF8 = true ∧
    blockOf 0x107FFFF8 ≠ some .reg ∧ run.accessOk 0 0x08003FFF 1 true = true ∧ run.blockOn 0x08003FFF = true := by decide +kernel
theorem wit_WritesActFieldByFieldOnTheirCode : 0x40000138 / 0x10000 = 0x4000 ∧ run.takes 0 0x40000138 = true ∧
    (findReg 0x40000138).isSome = true := by decide +kernel

theorem wit_ReadsClearAndLatch :
    (BitVec.ofNat 32 (Reg.CWY_VIOL 18)).toNat = Reg.CWY_VIOL 18 ∧ run.gives 12 (Reg.CWY_VIOL 18) = true ∧ run.gives 0 Reg.SPN_TIMELO = true ∧
    run.gives 0 Reg.TOL_TIMELO = true ∧ run.gives 0 Reg.TOL_HWMLO = true ∧ run.shaped = true ∧ run.gives 0 (Reg.SPN_LINK_STAT 11) = true ∧
    run.legalAt 0x400907D0 = some (0, 0x400907D0) ∧ run.gives 0 0x400907D0 = true := by decide +kernel

/-! ### spec/01 and spec/03 -/

theorem wit_CausewayGrantsAndInterruptClaims : (flds run [(Fld.PYL_CMDCTL_DONE, 1)]).irq 0 25 = true := by decide +kernel
def ticking : State := { run with periodUs := 50 }
theorem wit_ClockAndPeriodEvents : run.prp.running = true ∧ (103 < 98 ∨ 102 < 103) ∧ { run.prp with clkLast := true }.clkLast = true ∧
    run.prp.clkBad = false ∧ ticking.load.stage = .run ∧ ticking.load.wake = false ∧ ticking.pwr.st = .run ∧ ticking.pwr.domains.testBit 3 = true ∧
    ticking.cwy.steer = 0 ∧ ticking.siteNs < 2 ^ 64 ∧ ticking.siteFrac < 65536 ∧ ticking.periodUs ≠ 0 ∧ ticking.kst.cutoff = false ∧
    (let s := { ticking with pwr := { run.pwr with st := .standby, domains := 0x107 } }
     s.load.stage = .run ∧ s.pwr.st = .standby ∧ s.pwr.domains.testBit 3 = false ∧ s.cwy.steer = 0 ∧ s.siteNs < 2 ^ 64 ∧ s.siteFrac < 65536 ∧ s.periodUs ≠ 0) ∧
    netUp.bit (Fld.SPN_LINK_CTRL_EN 11) = true ∧ netUp.spanUse 11 ≠ 0 ∧ (netUp.link 11).gotUp = false := by decide +kernel

/-- Both host links enabled. -/
def hosts : State := flds run [(Fld.HLK_CTRL_EN 0, 1), (Fld.HLK_CTRL_EN 1, 1), (Fld.HLK_CTRL_MODE 1, 1)]
theorem wit_HostLinkEventsAct : hosts.shaped = true ∧ hosts.bit (Fld.HLK_CTRL_EN 1) = true ∧ hosts.pwr.domains.testBit 7 = true ∧
    2048 ≤ 2048 ∧ ∀ h ∈ hosts.cwy.hosts, h.queues.length = 4 := by decide +kernel

/-- A link whose only feeding slot has not ended: ROLE 3 of pier 11. -/
def fed : State := { sect netUp [(4, 176, 1), (4, 177, 11), (2, 8, 0x30), (2, 9, 0xFF), (2, 10, 11), (2, 11, 31)] with kst := { slots := [{}] } }
def upBody : List Byte := 2 :: List.replicate 0x97 0
def upFrame : List Byte := upBody ++ toLE 4 (crc32 upBody)
def brought : FaultRec := { time := 0, code := 0x26, cls := 2, src := 0xFF, outlets := 0, piers := 0x800 }
theorem wit_SpanFramesLeaveAndArrive :
    netUp.shaped = true ∧ netUp.linkRuns 11 = true ∧ (netUp.link 11).sentDown = false ∧ (netUp.feeds 11).all Slot.ended = true ∧
    fed.linkRuns 11 = true ∧ (fed.link 11).sentDown = false ∧ (fed.feeds 11).all Slot.ended = false ∧
    netUp.bit (Fld.SPN_LINK_CTRL_LOOP 11) = false ∧ (netUp.link 11).gotUp = false ∧ netUp.upValid upFrame = true ∧
    netUp.upValid upBody = false ∧ upCrcOk upBody = false ∧
    (let s := { netUp with spn := { netUp.spn with links := List.replicate 12 { missRun := 16 } } }
     s.shaped = true ∧ s.dualHomed 11 = true ∧ 16 ≤ (s.link 11).missRun ∧ s.parapetFree 0x27 3 = true) := by decide +kernel
theorem wit_SpanFramesLeaveAndArrive_retry :
    let s := { fed with prp := { fed.prp with latched := [brought] } }
    s.shaped = true ∧ s.pierLink 11 1 = some 11 ∧ s.bit (Fld.SPN_LINK_STAT_SYNC 11) = true ∧     s.prp.latched.any (fun r => r.code == 0x26 && r.piers.testBit 11) = true := by decide +kernel

/-- The configuration is sealed. -/
def sealed : State := flds netUp [(Fld.PYL_IMGSTAT_LOADED, 1)]
theorem wit_SpanRegisterWritesAct :
    sealed.shaped = true ∧ sealed.takes 3 (Reg.SPN_LINK_CTRL 11) = true ∧ (0x18 : Word).toNat / 16 % 2 = 1 ∧
    sealed.bit (Fld.SPN_LINK_STAT_LOWER_TX 11) = false ∧ sealed.pierArmed (sealed.spanPier 11) = false ∧ sealed.isSealed = true ∧
    (0x18 : Word).toNat / 4 % 4 ≠ 0 ∧ sealed.spanPier 11 < 12 ∧
    sealed.takes 3 (Reg.SPN_LINK_MGMTC 11) = true ∧ (0xC0000000 : Word).toNat / 2 ^ 31 = 1 ∧ (0xC0000000 : Word).toNat / 2 ^ 29 % 4 = 2 ∧
    (sealed.link 11).mgmt = none ∧ sealed.bringing (sealed.spanPier 11) = false ∧ (0xE0000000 : Word).toNat / 2 ^ 29 % 4 = 3 := by decide +kernel

def downBody : List Byte := [1, 11, 11] ++ List.replicate 0xA5 0
def downFrame : List Byte := downBody ++ toLE 4 (crc32 downBody)
theorem wit_PierNodesFollowFrames :
    fed.shaped = true ∧ fed.pierLink 11 1 = some 11 ∧ downValid (fed.node 11) false 11 11 downFrame = true ∧
    downValid (fed.node 11) false 11 11 downBody = false ∧ (fed.node 11).gotK = false ∧ leAt downFrame 4 4 = (fed.node 11).index % 2 ^ 32 ∧
    (let s := { fed with spn := { fed.spn with nodes := List.replicate 12 { missed := 2, lowering := true, lowered := false, inForce := List.replicate 32 0 } } }
     s.shaped = true ∧ (s.node 11).gotK = false ∧ 2 ≤ (s.node 11).missed ∧ (s.node 11).lowered = false ∧ (s.node 11).lowering = true ∧ (s.node 11).inForce.length = 32) ∧
    (fed.node 11).lowered = true := by decide +kernel

def twinBody : List Byte := 3 :: List.replicate 31 0
def twins : State := flds net [(Fld.TWL_LINK_CTRL_EN 1, 1)]
theorem wit_TwinFramesAreTaken : twins.shaped = true ∧ twins.twinUse 1 ≠ 0 ∧ twins.bit (Fld.TWL_LINK_CTRL_EN 1) = true ∧
    twins.bit (Fld.TWL_LINK_CTRL_LOOP 1) = false ∧ twinValid (twinBody ++ toLE 4 (crc32 twinBody)) = true ∧
    twinValid twinBody = false := by decide +kernel

/-! ### spec/04 and spec/05 -/

theorem wit_PhaseControlEvaluates : fed.shaped = true ∧ fed.pierInUse 11 = true ∧ (net.pier 10).done = false ∧ net.pierInUse 10 = true ∧
    (net.pierSlots 10).all Slot.ended = true ∧ net.pierArmed 10 = false ∧ net.pierInUse 11 = false ∧ (fed.pierSlots 11).all Slot.ended = false ∧
    (net.pier 11).tlmCnt < 2 ^ net.get Fld.PHS_TLM_AVG_EXP ∧
    (let s := flds { net with phs := { cur := List.replicate 12 { tlmCnt := 1 } } } [(Fld.PHS_TLM_AVG_EXP, 0)]
     s.shaped = true ∧ 2 ^ s.get Fld.PHS_TLM_AVG_EXP ≤ (s.pier 11).tlmCnt ∧ (s.phase 11 31).tlm = []) := by decide +kernel

/-- Phase 31 of pier 11 is fitted, commanded by a slot and in service; the pier is armed and enabled, its up frame has come. -/
def inSvc : State := flds { sect fed [(0xB, phaseOff 11 31, 1)] with
  spn := { fed.spn with links := List.replicate 12 { gotUp := true } }
  phs := { cur := List.replicate 12 { phases := List.replicate 32 { st := .inn }, held := false }
           nxt := List.replicate 12 { phases := List.replicate 32 { st := .inn }, held := false } } }
  [(Fld.SPN_LINK_STAT_PFLAGS 11, 0x41), (Fld.PHS_PIER_CTRL_EN 11, 1)]
/-- The same with the pier's evaluation done. -/
def inSvcDone : State := { inSvc with phs := { inSvc.phs with cur := List.replicate 12 { phases := List.replicate 32 { st := .inn }, held := false, done := true } } }
theorem wit_PhaseDetectionsAndTimersAct : (∀ s ∈ [inSvc, inSvcDone], s.shaped = true ∧ s.usable 11 31 = true ∧ (s.pier 11).held = false ∧
    s.heldNow 11 = false ∧ (s.pierUp 11).isSome = true ∧ ((s.pier 11).ph 31).st.svc = true ∧ ((s.pier 11).ph 31).de = false) ∧
    (inSvc.pier 11).done = false ∧ (inSvcDone.pier 11).done = true := by decide +kernel

/-- Faults, and shed control on, in every pier. -/
def shedOn : State := flds inSvc ((List.range 12).flatMap (fun n => [(Fld.PHS_PIER_FAULT_FAULT n, 0x80000001), (Fld.PHS_PIER_CTRL_SHED_EN n, 1)]))
theorem wit_PhaseWritesAct : shedOn.shaped = true ∧ shedOn.takes 3 (Reg.PHS_PIER_CTRL 11) = true ∧ shedOn.bit (Fld.PHS_PIER_CTRL_SHED_EN 11) = true ∧
    (0xFFFFFFFD : Word).toNat.testBit 1 = false ∧ shedOn.takes 3 (Reg.PHS_PIER_SHED 11) = true ∧
    (0x80800001 : Word).toNat / 2 ^ 16 % 256 ≤ (0x80800001 : Word).toNat / 2 ^ 24 ∧
    (0xFEFF0001 : Word).toNat / 2 ^ 24 < (0xFEFF0001 : Word).toNat / 2 ^ 16 % 256 ∧ (0xFEFF0001 : Word).toNat % 64 ≠ 0 ∧
    shedOn.takes 3 (Reg.PHS_PIER_FAULT 11) = true ∧ (shedOn.pier 11).done = false ∧ (0x80000000 : Word).toNat.testBit 31 = true ∧ (shedOn.get (Fld.PHS_PIER_FAULT_FAULT 11)).testBit 31 = true ∧
    shedOn.takes 3 Reg.PHS_TLM = true := by decide +kernel

/-- One slot on engine 4 at position 1023, of no outlet and no pier; and the same of pier 0, which is not armed. -/
def oneSlot : State := { sect run [(2, 9, 0xFF), (2, 10, 0xFF)] with kst := { run.kst with slots := [{ engine := 4, pos := 1023 }] } }
def idleSlots : State := flds { run with kst := { run.kst with slots := [{ engine := 4, pos := 1023 }] } } [(Fld.KST_E_STAT_STATE 5, 1)]
theorem wit_SlotEvaluationsRunTheLaw_idle :
    let u := idleSlots.refreshOvr
    (∃ k, u.slotAt 4 1023 = some k ∧ k.ended = false ∧ u.isIdle k = true) ∧ EngErr.ram ≠ .none ∧ u.inTurn 4 1023 = true ∧
    u.engineDead 4 = false ∧ u.kst.replaceNext = none ∧ u.get (Fld.KST_E_STAT_STATE 4) = 0 ∧
    u.get (Fld.KST_E_STAT_STATE 5) = 1 ∧ u.slotAt 0 0 = none := by decide +kernel
theorem wit_SlotEvaluationsRunTheLaw_law :
    let u := oneSlot.refreshOvr
    let k : Slot := { engine := 4, pos := 1023 }
    u.slotAt 4 1023 = some k ∧ k.ended = false ∧ u.inTurn 4 1023 = true ∧ u.engineDead 4 = false ∧
    u.kst.replaceNext ≠ some 4 ∧ u.isIdle k = false ∧ u.inputsPresent k = true ∧ u.sup k = 0 ∧ k.lost = 0 ∧
    (u.source k (u.prog k 0x10 4)).bad = false ∧
    u.lossCause k (u.source k (u.prog k 0x10 4))
      (store (val (u.source k (u.prog k 0x10 4)).v * ((u.progS k 0x24 4 : Int) : Rat) / 2 ^ 24)).1 = 0 ∧
    (let s := (flds oneSlot [(Fld.KST_E_STAT_STATE 4, 2)]).refreshOvr
     s.engineDead 4 = true ∧ s.inTurn 4 1023 = true ∧ s.inputsPresent k = true) := by decide +kernel

theorem wit_OutletEnableIsGuarded : run.takes 3 (Reg.KST_OUT_CTRL 7) = true ∧ run.bit Fld.PRP_STAT_SAFE = false ∧ run.latchedOutlet 7 = false ∧
    (flds run [(Fld.PRP_STAT_SAFE, 1)]).bit Fld.PRP_STAT_SAFE = true ∧
    (let s := sect run [(4, 0x170, 1), (4, 0x172, 7)]
     (List.range 8).find? (fun n => s.vlUse n == 1 && s.vlOutlet n == 7) = some 7 ∧ s.bit (Fld.VLK_L_CONT_CONNECTED 7) = false ∧
     s.takes 3 (Reg.KST_OUT_CTRL 7) = true) := by decide +kernel

/-! ### spec/06 and spec/07 -/

/-- The Arch runs; pier 11 has crosspoint 63 to outlet 7; currents below 1 A count as none, voltages below 1 V as none. -/
def arch : State := flds { sect fed [(4, 0xC0, 0), (4, 0xD0, 0), (9, 0x800 + 16 * 63, 1), (9, 0x801 + 16 * 63, 11), (9, 0x802 + 16 * 63, 7), (9, 0x22, 1), (9, 0x42, 1)] with
  secLen := [(9, 8192)] } [(Fld.ARC_CTRL_EN, 1)]
/-- The same in the VEHICLE role. -/
def vehicle : State := flds arch [(Fld.ABT_ROLE_ROLE, 2)]
def archDue : State := { arch with arc := { arch.arc with due := some { ceil := List.replicate 8 [1, 2, 3, 65535], share := List.replicate 12 32768 } } }
theorem wit_ArchPeriodAndRequestsAct : run.archOn = false ∧ archDue.archOn = true ∧ archDue.cascMaster = false ∧ archDue.follower = false ∧
    (∃ r, archDue.arc.due = some r ∧ r.ceil[7]? = some [1, 2, 3, 65535]) ∧ arch.takes 3 Reg.ARC_COMMIT = true ∧ vehicle.takes 3 Reg.ARC_MOVE = true ∧
    vehicle.role = 2 ∧ arch.role ≠ 2 ∧ arch.takes 3 Reg.ARC_MOVE = true ∧ vehicle.takes 3 Reg.ARC_COMMIT = true ∧
    arch.parapetFree 0x28 2 = true := by
  refine ⟨?_, ?_, ?_, ?_, ⟨_, rfl, rfl⟩, ?_, ?_, ?_, ?_, ?_, ?_, ?_⟩ <;> decide +kernel

/-- Pier 11 hands over to outlet 7 at a step, with crosspoint 63 in a state. -/
def handAt (step st : Nat) : State :=
  flds { arch with
    arc := { arch.arc with hand := [{ pier := 11, recv := 7, step := step, xp := 63 }] }
    spn := { arch.spn with links := List.replicate 12 { gotUp := true, up := { vout := 0 } } }
    kst := { arch.kst with slots := [{}] } } [(Fld.ARC_XP_STAT_STATE 63, st)]
/-- The ROLE 1 slot of outlet 7 gives matching its receiver voltage. -/
def matchAt : State := sect (handAt 4 0) [(2, 8, 0x10), (2, 9, 7), (2, 10, 0xFF)]
theorem wit_HandOffStepsAct_steps :
    (let s := handAt 2 2
     s.shaped = true ∧ (∃ h, s.handOf 11 = some h ∧ h.step = 2 ∧ h.xp = 63) ∧ s.localPier 11 = true ∧
       absR (s.pierI (11 - s.pBase)) < q16 (s.site 0x20 4) ∧ s.pierSt 11 ≠ 9 ∧ s.xpSt 63 = 2 ∧ 63 ∈ s.pierXps 11) ∧
    (∃ h, matchAt.handOf 11 = some h ∧ h.step = 4 ∧ matchAt.matched h = true ∧ h.stop = false ∧ matchAt.outLowered? h.recv = false ∧
      matchAt.xpOf 11 h.recv = some 63) ∧ matchAt.shaped = true ∧ matchAt.lowered? 11 = false := by
  refine ⟨⟨?_, ⟨_, rfl, rfl, rfl⟩, ?_, ?_, ?_, ?_, ?_⟩, ⟨_, rfl, rfl, ?_, rfl, ?_, ?_⟩, ?_, ?_⟩ <;> decide +kernel
theorem wit_HandOffStepsAct_checks :
    (∃ h, matchAt.handOf 11 = some h ∧ h.step = 4 ∧ h.recv ≠ 0x1F) ∧ matchAt.parapetFree 0x29 3 = true ∧
    (∃ h, (handAt 3 4).handOf 11 = some h ∧ h.step = 3 ∧ h.xp < 64 ∧ (handAt 3 4).xpSt h.xp = 4) ∧ (handAt 3 4).parapetFree 0x0A 2 = true ∧
    (0 : Rat) / 2 ≤ q16i 0 ∧ q16i (-1) < (0 : Rat) / 2 ∧ (handAt 3 4).par (0x3C0 + 8 * (11 - (handAt 3 4).pBase)) 4 = 0 := by
  refine ⟨⟨_, rfl, rfl, ?_⟩, ?_, ⟨_, rfl, rfl, ?_, ?_⟩, ?_, ?_, ?_, ?_⟩ <;> decide +kernel
theorem wit_HandOffStepsAct_contacts :
    (handAt 2 3).xpUsed 63 = true ∧ (handAt 2 3).localPier ((handAt 2 3).xpPier 63) = true ∧ ((handAt 2 3).handOf ((handAt 2 3).xpPier 63)).isSome = true ∧
    (handAt 2 3).xpSt 63 = 3 ∧ (handAt 5 1).xpSt 63 = 1 ∧ arch.handOf (arch.xpPier 63) = none ∧ (flds arch [(Fld.ARC_XP_STAT_STATE 63, 1)]).xpSt 63 = 1 ∧ (flds arch [(Fld.ARC_XP_STAT_STATE 63, 3)]).xpSt 63 = 3 ∧
    (flds arch [(Fld.ARC_XP_STAT_AUX 63, 1)]).bit (Fld.ARC_XP_STAT_AUX 63) ≠ (arch.arcXp 63).cmd ∧ arch.parapetFree 0x0B 2 = true ∧
    arch.bit (Fld.ARC_XP_STAT_AUX 63) = (arch.arcXp 63).cmd := by decide +kernel

/-- Phase 31 of pier 11 carries 100 A that nothing commands. -/
def stray : State := { sect arch [(0xB, phaseOff 11 31, 1), (0xB, 1024 * 11 + 0x1E, 0xC8)] with
  spn := { arch.spn with links := List.replicate 12 { gotUp := true, up := { iph := List.replicate 32 0x7FFF } } } }
theorem wit_ContestsAct :
    arch.shaped = true ∧ arch.ownUnit 0 11 = true ∧ arch.ownUnit 1 7 = true ∧ arch.ownUnit 2 63 = true ∧ arch.archOn = true ∧
    arch.contestBit 0 11 = false ∧ arch.parapetFree 0x29 4 = true ∧ arch.parapetFree 0x29 2 = true ∧
    (let s := flds arch [(Fld.ARC_CONTP_PIER, 0x800), (Fld.ARC_PIER_STATE_STATE 11, 8)]
     s.contestBit 0 11 = true ∧ s.unitSafe 0 11 = false ∧ s.contestTest 0 11 = false) ∧
    (let s := flds arch [(Fld.ARC_CONTP_PIER, 0x800), (Fld.ARC_PIER_STATE_STATE 11, 9)]
     s.takes 3 Reg.ARC_CONTP = true ∧ s.role ≠ 2 ∧ s.localPier 11 = true ∧ s.pierSt 11 = 9 ∧ s.contestTest 0 11 = false) ∧
    arch.localPier 12 = false ∧ arch.takes 3 (Reg.ARC_CONTX 1) = true := by decide +kernel
theorem wit_ContestsAct_detect : stray.archOn = true ∧ stray.ownUnit 0 11 = true ∧ stray.contestBit 0 11 = false ∧ stray.contestTest 0 11 = true ∧
    stray.parapetFree 0x29 3 = true ∧ stray.localPier 11 = true ∧ q16 (stray.site 0x20 4) ≤ absR (stray.pierI 11) := by decide +kernel

/-- Girder unit 1 on with group 3 armed for trigger source 3, unit 0 on too. -/
def gir : State := flds run [(Fld.GRD_U_CTRL_EN 0, 1), (Fld.GRD_U_CTRL_EN 1, 1), (Fld.GRD_U_CTRL_CONT_EN 1, 1), (Fld.GRD_U_SEQ_LEN 1, 16),
  (Fld.GRD_U_TRG_EN 1 3, 1), (Fld.GRD_U_TRG_SRC 1 3, 3), (Fld.GRD_U_TRG_FIRST 1 3, 15), (Fld.GRD_U_CAPCTL_ARM 1, 1)]
def girPend : State := { gir with grd := [{}, { pend := 8, left := some 0, trigAt := 8191 }] }
/-- Entry 31 of group 3 in front, and entry 15 of the round. -/
def girConv : State := { gir with grd := [{}, { grp := some { owner := 1, g := 3, left := [{ e := 31, w := 63 - 32 }] }, cont := [{ e := 15, w := 31 }] }] }
/-- The trigger of group 3 from a source; any edge of pin 3. -/
def girSrc (src : Nat) : State := { flds gir [(Fld.GRD_U_TRG_SRC 1 3, src), (Fld.GRD_U_TRG_GSEL 1 3, 3), (Fld.GRD_U_TRG_EDGE 1 3, 3)] with
  ports := [(2183, 1)], img := sset 0 gir.img (imgKey 1 (512 * 68 + 128 + 192 + 7)) 208 }
theorem wit_GirderConverts_triggers :
    (girSrc 1).listens 1 3 1 = true ∧ (girSrc 1).get (Fld.GRD_U_TRG_GSEL 1 3) = 3 ∧ ((girSrc 1).get (Fld.GRD_U_TRG_EDGE 1 3)).testBit 0 = true ∧
    ((girSrc 1).get (Fld.GRD_U_TRG_EDGE 1 3)).testBit 1 = true ∧ (girSrc 2).listens 1 3 2 = true ∧ ((girSrc 2).gu 1).fired.testBit 3 = false ∧
    (girSrc 3).listens 1 3 3 = true ∧ ((girSrc 3).gu 1).seen.testBit 3 = false ∧ ((girSrc 3).outPort (2176 + 4 * 1 + 3)).testBit 0 = true ∧
    (flds gir [(Fld.GRD_U_TRG_COUNT 1 3, 1)]).groupEntries 1 3 = none ∧
    (∀ s ∈ [girSrc 1, girSrc 2, girSrc 3], s.shaped = true ∧ s.bit (Fld.GRD_U_CTRL_EN 1) = true ∧ (s.groupEntries 1 3).isSome = true ∧ s.calBusy 1 = false ∧
      (s.gu 1).grp = none ∧ (s.gu 1).pend.testBit 3 = false ∧
      (let w := { s with grd := [{}, { pend := 8 }] }
       w.shaped = true ∧ (w.gu 1).pend.testBit 3 = true ∧ (w.gu 1).grp = none) ∧
      (let w := flds s [(Fld.GRD_U_STAT_CAL_BUSY 1, 1)]
       w.calBusy 1 = true ∧ (w.groupEntries 1 3).isSome = true ∧ w.bit (Fld.GRD_U_CTRL_EN (1 - 1)) = true ∧ (w.gu (1 - 1)).grp = none ∧
       (w.gu (1 - 1)).far.testBit 3 = false)) := by decide +kernel
theorem wit_GirderConverts :
    gir.shaped = true ∧ gir.bit (Fld.GRD_U_CTRL_EN 1) = true ∧ gir.bit (Fld.GRD_U_CTRL_CONT_EN 1) = true ∧ gir.calBusy 1 = false ∧ gir.paired = false ∧
    (gir.gu 1).cont = [] ∧ (girPend.gu 1).grp = none ∧ (mbits (girPend.gu 1).pend 4).head? = some 3 ∧
    (let s := { gir with grd := [{}, { far := 8 }] }
     (s.gu 1).grp = none ∧ s.calBusy 1 = false ∧ (mbits (s.gu 1).pend 4).head? = none ∧ (mbits (s.gu 1).far 4).head? = some 3) ∧
    girConv.shaped = true ∧ girConv.paired = false ∧ girConv.tooLate 1 31 = false ∧ girConv.tooLate 1 15 = false ∧ (31 < 32 ∧ 31 % 64 < 32 ∧ 56 ≤ 63 % 64) ∧
    (girConv.gu 1).grp = some { owner := 1, g := 3, left := { e := 31, w := 31 } :: [] } ∧ (girConv.gu 1).cont = { e := 15, w := 31 } :: [] ∧
    (let s := flds gir [(Fld.GRD_U_CTRL_PAIR 0, 1), (Fld.GRD_U_CTRL_PAIR 1, 1)]
     s.paired = true ∧ (s.gu 0).pairNext ≠ 1 ∧ (let w := { s with grd := [{ pairNext := 1 }, {}] }; w.paired = true ∧ w.shaped = true ∧ (w.gu 0).pairNext = 1)) := by
  decide +kernel

/-- Unit 1 calibrates; background correction on. -/
def girCal : State := flds { gir with grd := [{}, { calWait := true }] } [(Fld.GRD_U_STAT_CAL_BUSY 1, 1), (Fld.GRD_U_CTRL_BGC_EN 1, 1), (Fld.GRD_MOD_CFG_EN 7, 1)]
theorem wit_GirderCapturesAndCalibrates :
    girPend.shaped = true ∧ (girPend.gu 1).left = some 0 ∧ girPend.bit (Fld.GRD_U_CAPCTL_ARM 1) = true ∧ (gir.gu 1).left ≠ some 0 ∧
    gir.takes 3 (Reg.GRD_U_CAPCTL 1) = true ∧ gir.takes 3 (Reg.GRD_U_CAL 1) = true ∧ (0xFFFFFFFF : Word).toNat.testBit 0 = true ∧ gir.bit (Fld.GRD_U_CAL_GO 1) = false ∧
    (girCal.gu 1).calWait = true ∧ (girCal.gu 1).pend = 0 ∧ (girCal.gu 1).grp = none ∧ girCal.calBusy 1 = true ∧
    [(-128, 32767), (127, -32768), (0, 0), (1, 1)].all corFits = true ∧ [(-129, 0), (0, 0), (0, 0), (0, 0)].all corFits = false ∧
    girCal.parapetFree 0x2C 3 = true ∧ gir.mayUpdate 1 = false ∧
    (let s := { flds girCal [(Fld.GRD_U_STAT_CAL_BUSY 1, 0)] with grd := [{}, { convs := 65536 }] }
     s.shaped = true ∧ s.converts 1 = true ∧ 65536 ≤ (s.gu 1).convs ∧
     (∀ x ∈ keepSum (s.slices (Fld.GRD_U_COR_OFF 1)) [-128, 127, 1] ++ keepSum (s.slices (Fld.GRD_U_COR_SKEW 1)) [1, 2, 3], -128 ≤ x ∧ x ≤ 127) ∧
     (∀ x ∈ keepSum (s.slices (Fld.GRD_U_COR_GAIN 1)) [-32768, 32767, 1], -32768 ≤ x ∧ x ≤ 32767) ∧ s.bit (Fld.GRD_U_CTRL_BGC_EN 1) = true ∧ s.bit (Fld.GRD_U_CTRL_BGC_FREEZE 1) = false ∧ s.calBusy 1 = false ∧ s.bit (Fld.GRD_U_CTRL_EN 1) = true) ∧
    gir.takes 3 (Reg.GRD_U_CTRL 1) = true ∧ girCal.bit (Fld.GRD_MOD_CFG_EN 7) = true ∧ gir.bit (Fld.GRD_MOD_CFG_EN 7) = false := by decide +kernel

/-! ### spec/08 to spec/10 -/

/-- Channel 39, DC points 0 and 7 and AC point 3 in use, a ROLE 1 slot of outlet 7, a Toll Book, head 7 and record timer. -/
def meter : State := flds { sect run [(2, 8, 0x10), (2, 9, 7), (2, 10, 0xFF), (8, 64 + 8, 60)] with
    periodUs := 50, kst := { run.kst with slots := [{}] }
    tol := { run.tol with ready := 2 ^ 39, book := { run.tol.book with hdr := some {} } } }
  [(Fld.CSN_CH_CFG_SRC 39, 1), (Fld.CSN_DC_CFG_EN 0, 1), (Fld.CSN_DC_CFG_EN 7, 1), (Fld.CSN_DC_CFG_COMP 7, 1), (Fld.CSN_AC_CFG_EN 3, 1)]
theorem wit_MeteringResultsAct :
    meter.shaped = true ∧ meter.chUsed 0 = false ∧ meter.chUsed 39 = true ∧ meter.tol.run = true ∧ meter.dcOf 39 = [] ∧ meter.acOf 39 = [] ∧
    meter.acOn 0 = false ∧ meter.acOn 3 = true ∧ (flds meter [(Fld.TOL_BOOK_DAMAGED, 1)]).noCount = true ∧ State.reset.tol.run = false ∧
    State.reset.shaped = true ∧ meter.dcOn 7 = true ∧ (meter.dcPt 7).mN = 0 ∧ (meter.role1 7).isSome = true ∧ meter.periodUs ≠ 0 ∧ (meter.dcPt 7).fb = [] ∧
    meter.dcOn 1 = false ∧ meter.bit (Fld.CSN_DC_CFG_COMP 7) = true ∧ meter.bit (Fld.CSN_DC_STAT_TSUB 7) = false := by decide +kernel

def calOpen : State := flds { meter with tol := { meter.tol with cal := some { sum := List.replicate 40 (1 / 2), n := List.replicate 40 1 } } }
  [(Fld.TOL_MSNAP_GO, 1), (Fld.TOL_MCAL_GO, 1), (Fld.CSN_CH_CFG_LEGAL 39, 1)]
theorem wit_SnapshotsAndCalibrationWindowsAct :
    meter.takes 3 Reg.TOL_MSNAP = true ∧ meter.bit Fld.TOL_MSNAP_GO = false ∧ calOpen.bit Fld.TOL_MSNAP_GO = true ∧ meter.takes 3 Reg.TOL_MCAL = true ∧
    meter.bit Fld.TOL_MCAL_GO = false ∧ calOpen.bit Fld.TOL_MCAL_GO = true ∧ meter.tol.cal = none ∧
    (∃ w, calOpen.tol.cal = some w ∧ nth 0 w.n 39 ≠ 0) ∧ calOpen.bit (Fld.CSN_CH_CFG_LEGAL 39) = true ∧ calOpen.bit Fld.TOL_MCAL_MODE = false := by
  refine ⟨?_, ?_, ?_, ?_, ?_, ?_, ?_, ⟨_, rfl, ?_⟩, ?_, ?_⟩ <;> decide +kernel

/-- Billing time 100 s, certain, with HWM at it; the demand interval of AC point 3 ends at 60 s. -/
def timed : State := flds { sect meter [] with tol := { meter.tol with bill := 100, hwm := 100, eb := some 0, ac := List.replicate 4 { dEnd := 60 } } }
  [(Fld.TOL_TSTAT_STATE, 2), (Fld.TOL_TSETLO_SEC, 190)]
theorem wit_BillingTimeActs :
    timed.shaped = true ∧ timed.takes 3 Reg.TOL_TSETC = true ∧ (0x7FFFFFFF : Word).toNat.testBit 31 = false ∧ (0x80000000 : Word).toNat.testBit 31 = true ∧
    (flds timed [(Fld.TOL_TSTAT_SLEW, 1)]).bit Fld.TOL_TSTAT_SLEW = true ∧ timed.bit Fld.TOL_TSTAT_SLEW = false ∧ timed.bit Fld.TOL_TSETC_BUSY = false ∧
    timed.get Fld.TOL_TSETLO_SEC + 2 ^ 32 * timed.get Fld.TOL_TSETHI_SEC = 190 ∧ timed.tState ≠ 0 ∧ absR ((190 : Rat) - timed.tol.bill) + timed.adjSum ≤ 90 ∧
    90 < absR ((191 : Rat) - timed.tol.bill) + timed.adjSum ∧ timed.tol.slew = 0 ∧ timed.tol.run = true ∧ vehicle.vehicle = true ∧
    (let s := { timed with tol := { timed.tol with belowHwm := true, hwm := 99 } }; s.shaped = true ∧ s.tol.belowHwm = true ∧ s.tol.hwm < s.tol.bill) ∧
    timed.vehicle = false ∧ timed.tol.belowHwm = false ∧
    (flds timed [(Fld.TOL_TSETLO_SEC, 191)]).get Fld.TOL_TSETLO_SEC = 191 ∧ run.tState = 0 := by decide +kernel
theorem wit_BillingTimeActs_demand : (flds timed [(Fld.TOL_DEMCFG_LEN, 5 * 16 ^ 3)]).demOn 3 = true ∧ timed.tol.lastBoundary < (timed.acPt 3).dEnd ∧
    (timed.acPt 3).dEnd ≤ timed.billSec / 60 * 60 := by decide +kernel

/-- DC point 7 has an open session under a request to stop; DC point 0 is idle. -/
def sessions : State := flds { timed with tol := { timed.tol with book := { timed.tol.book with sess := List.replicate 7 {} ++ [{ id := 5, flags := 1 }] } } }
  [(Fld.TOL_SESS_CTRL_STATE 7, 1), (Fld.TOL_SESS_CTRL_STOP 7, 1), (Fld.TOL_CALCTL_BUSY, 1)]
theorem wit_CalendarsAndSessionsAct :
    timed.vehicle = false ∧ timed.takes 3 Reg.TOL_CALCTL = true ∧ (0x7A2C0001 : Word).toNat / 4 % 4 = 0 ∧ (0x7A2C0001 : Word).toNat % 4 = 1 ∧
    (0x7A2C0001 : Word).toNat / 65536 = 0x7A2C ∧ (3 : Word).toNat % 4 ≠ 0 ∧ (3 : Word).toNat / 65536 ≠ 0x7A2C ∧ (0x7A2C0002 : Word).toNat % 4 = 2 ∧
    timed.bit Fld.TOL_CALCTL_BUSY = false ∧ sessions.bit Fld.TOL_CALCTL_BUSY = true ∧ 7 < sessions.tol.book.sess.length ∧
    sessions.takes 3 (Reg.TOL_SESS_CTRL 7) = true ∧ sessions.get (Fld.TOL_SESS_CTRL_STATE 7) ≠ 0 ∧ sessions.dcOn 0 = true ∧
    sessions.get (Fld.TOL_SESS_CTRL_STATE 0) = 0 ∧ sessions.tol.book.hdr = some {} ∧ sessOpen (sessions.sess 7) = true ∧ sessOpen (sessions.sess 0) = false ∧
    sessions.reconLink 7 = none ∧ sessions.bit (Fld.TOL_SESS_CTRL_STOP 7) = true ∧ sessions.bit (Fld.TOL_SESS_CTRL_STOP 0) = false ∧
    sessions.tol.run = true ∧ sessions.recS ≠ 0 ∧ run.recS = 0 := by decide +kernel

/-- A record to sign, one signed, a full and a free buffer, a save being written. -/
def records : State := flds { sessions with
    tol := { sessions.tol with toSign := [{}], signed := [{ typ := 2 }], buf := [{ point := 7, seq := 9 }], saving := some {}, bill := 1000000, lastSave := 0
                               book := { sessions.tol.book with sess := List.replicate 7 {} ++ [{ id := 5, endSeq := 9 }] } }
    pyl := { sessions.pyl with serving := some 1 } } [(Fld.TOL_BOOK_SLOTS, 255), (Fld.TOL_ARCCTL_BUSY, 1)]
def fullBuf : State := { records with tol := { records.tol with buf := List.replicate 4 {}, saving := none } }
theorem wit_RecordsSavesAndArchivesAct :
    records.tol.toSign = {} :: [] ∧ records.pyl.serving = some 1 ∧ timed.pyl.serving ≠ some 1 ∧ timed.tol.signed = [] ∧
    records.tol.signed = { typ := 2 } :: [] ∧ records.tol.buf.length < 4 ∧ 4 ≤ fullBuf.tol.buf.length ∧ fullBuf.tol.signed = { typ := 2 } :: [] ∧
    ({} : TollRec).typ ≠ 2 ∧ records.takes 3 Reg.TOL_RECCTL = true ∧ (1 : Word).toNat.testBit 0 = true ∧ timed.tol.buf = [] ∧
    records.tol.buf = { point := 7, seq := 9 } :: [] ∧ (records.sess 7).endSeq = 9 ∧ sessClosing (records.sess 7) = true ∧
    fullBuf.tol.run = true ∧ ((fullBuf.get Fld.TOL_BOOK_SAVE_S : Nat) : Rat) ≤ fullBuf.tol.bill - fullBuf.tol.lastSave ∧ fullBuf.tol.saving = none ∧
    fullBuf.noSave = false ∧ records.takes 3 Reg.TOL_SAVE = true ∧ records.tol.saving = some {} ∧ records.tol.saveDue = [] ∧
    records.get Fld.TOL_BOOK_SLOTS ≠ 0 := by decide +kernel
/-- A save at this instant, so that neither a periodic nor a requested one is due. -/
def savedNow : State := flds { fullBuf with tol := { fullBuf.tol with lastSave := 1000000, book := { fullBuf.tol.book with ring := [{}] } } } [(Fld.TOL_BOOK_SAVE_S, 600)]
theorem wit_RecordsSavesAndArchivesAct_due :
    savedNow.tol.bill - savedNow.tol.lastSave < ((savedNow.get Fld.TOL_BOOK_SAVE_S : Nat) : Rat) ∧ savedNow.tol.book.ring ≠ [] ∧
    savedNow.tol.bill - savedNow.tol.lastSave ≤ ((savedNow.get Fld.TOL_BOOK_SAVE_S : Nat) : Rat) / 4 ∧
    ((fullBuf.get Fld.TOL_BOOK_SAVE_S : Nat) : Rat) / 4 < fullBuf.tol.bill - fullBuf.tol.lastSave ∧ fullBuf.takes 3 Reg.TOL_SAVE = true ∧
    (0x80000000 : Word).toNat.testBit 31 = true ∧ records.takes 3 Reg.TOL_ARCCTL = true ∧ (0x5E1D0001 : Word).toNat / 4 % 4 = 0 ∧
    (0x5E1D0001 : Word).toNat / 65536 = 0x5E1D ∧ (1 : Word).toNat / 65536 ≠ 0x5E1D ∧ timed.bit Fld.TOL_ARCCTL_BUSY = false ∧
    records.bit Fld.TOL_ARCCTL_BUSY = true := by decide +kernel

/-- Head 7 in use with two items, its second miss behind it; and the same head lost. -/
def headed : State := { sect meter [(8, 64 + 0x1001, 0x80), (8, 64 + 0x1000 + 64 + 840, 2), (8, 64 + 0x1000 + 64 + 844, 0x10)] with
  tol := { meter.tol with heads := List.replicate 8 { miss := 2 } } }
def headLost : State := { headed with tol := { headed.tol with heads := List.replicate 8 { lost := true } } }
theorem wit_DisplayHeadsAct : headed.shaped = true ∧ headed.headOn 7 = true ∧ headed.headOn 0 = false ∧ (headed.head 7).lost = false ∧
    (headed.head 7).miss = 2 ∧ (headLost.head 7).lost = true ∧ headLost.headOn 7 = true ∧
    (let s := { headed with tol := { headed.tol with heads := List.replicate 8 {} } }
     (s.head 7).lost = false ∧ (s.head 7).miss = 0) ∧ (List.replicate 15 (0 : Byte)).length ≠ 16 := by decide +kernel

/-! ### spec/11 and spec/12 -/

/-- Cable blocks 0 and 7 in use with firmware inputs, every value between -32,768 and 32,767; block 7 enabled. -/
def stay : State := flds { sect run ([0, 7].flatMap (fun m => [(10, 512 * m, 1), (10, 512 * m + 1, m), (10, 512 * m + 2, 0xFF), (10, 512 * m + 3, 0xFF),
    (10, 512 * m + 6, 1), (10, 512 * m + 0x12, 10), (10, 512 * m + 0x16, 20), (10, 512 * m + 0x1A, 50), (10, 512 * m + 0x1E, 4),
    (10, 512 * m + 0x2E, 90), (10, 512 * m + 0x32, 80), (10, 512 * m + 0x36, 5), (10, 512 * m + 0x3A, 60), (10, 512 * m + 0x3E, 200),
    (10, 512 * m + 0x40, 255), (10, 512 * m + 0x45, 255), (10, 512 * m + 0x6A, 5)] ++
    (List.range 8).flatMap (fun j => [(10, 512 * m + 0x83 + 16 * j, 0x20), (10, 512 * m + 0x8D + 16 * j, 0x80), (10, 512 * m + 0x8F + 16 * j, 0x7F)]))) with
    periodUs := 20, sty := List.replicate 8 { fresh := 255, started := true } }
  [(Fld.STY_CBL_CTRL_EN 7, 1), (Fld.STY_CBL_STAT_RUNNING 7, 1), (Fld.STY_CBL_STAT_RUN_ON 7, 1), (Fld.STY_CBL_DUTY_PUMP 7, 64),
   (Fld.STY_CBL_FW_VALUE 7 3, 20 * 65536), (Fld.STY_CBL_FW_VALUE 7 0, 15 * 65536), (Fld.STY_CBL_LIM_COND 7, 90 * 256), (Fld.STY_CBL_LIM_CONT 7, 80 * 256)]
/-- The flow of cable 7 is taken as 0. -/
def noFlow : State := flds stay [(Fld.STY_CBL_STAT_FLOW_IMPL 7, 1)]
theorem wit_CableCoolingActs : stay.shaped = true ∧ State.reset.prp.running = false ∧ stay.prp.running = true ∧ stay.styUse 0 = true ∧ stay.styUse 7 = true ∧
    stay.bit (Fld.STY_CBL_CTRL_EN 0) = false ∧ stay.bit (Fld.STY_CBL_CTRL_EN 7) = true ∧ stay.takes 3 (Reg.STY_CBL_CTRL 7) = true ∧
    (1 : Word).toNat.testBit 0 = true ∧ stay.takes 3 (Reg.STY_CBL_LIM 7) = true ∧ stay.takes 3 (Reg.STY_CBL_FW 7 7) = true ∧
    noFlow.bit (Fld.STY_CBL_STAT_FLOW_IMPL 7) = true ∧ stay.bit (Fld.STY_CBL_STAT_RUNNING 7) = true ∧ stay.bit (Fld.STY_CBL_STAT_FLOW_IMPL 7) = false ∧
    stay.stayOn = true ∧ stay.pwr.domains.testBit 3 = true ∧ State.reset.stayOn = false ∧ stay.pumpOff 7 = false ∧ noFlow.pumpOff 7 = false ∧
    (let s := flds stay [(Fld.STY_CBL_FW_VALUE 7 5, 65536)]
     s.stayOn = true ∧ s.bit (Fld.STY_CBL_STAT_RUNNING 7) = true ∧ s.bit (Fld.STY_CBL_STAT_FLOW_IMPL 7) = false ∧ (s.styIn 7 5).join = some 1 ∧
     64 ≤ s.get (Fld.STY_CBL_DUTY_PUMP 7) ∧ (s.get (Fld.STY_CBL_DUTY_PUMP 7) : Rat) / 255 * s.styU 7 0x70 < 1 ∧ s.parapetFree 0x2A 3 = true ∧ s.shaped = true) ∧
    noFlow.bit (Fld.STY_CBL_STAT_ACT_HELD 7) = false ∧ stay.bit (Fld.STY_CBL_STAT_RUN_ON 0) = false ∧ stay.bit (Fld.STY_CBL_STAT_RUN_ON 7) = true ∧
    stay.bit (Fld.STY_CBL_CTRL_HOLD_ACT 7) = false ∧ stay.bit (Fld.STY_CBL_CTRL_PUMP_ALWAYS 7) = false := by decide +kernel

/-- SECC link 0 for outlet 0 and EVCC link 7 for outlet 7, HPGP with TLS, both enabled; link 3 unused, link 5 with a remote pilot. -/
def linked : State := flds { sect run [(4, 0x100, 1), (4, 0x101, 1), (4, 0x102, 0), (4, 0x103, 1), (4, 0x170, 2), (4, 0x171, 1), (4, 0x172, 7), (4, 0x173, 1),
    (4, 0x150, 1), (4, 0x151, 1), (4, 0x152, 5), (12, 0x400 * 5 + 1, 1), (12, 6, 1), (12, 0x1C06, 1)] with
    vlk := List.replicate 8 { duty := 500, fresh := true, his := [9000], los := [-12000], hello := true, asks := [1], peerCaps := 1, txHead := 1 } }
  [(Fld.VLK_L_CTRL_EN 0, 1), (Fld.VLK_L_CTRL_PWM 0, 1), (Fld.VLK_L_CTRL_EN 7, 1), (Fld.VLK_L_CTRL_RECON 7, 1), (Fld.VLK_L_WDOG_RUN 0, 1),
   (Fld.VLK_L_SESS_PHASE 0, 4), (Fld.KST_OUT_CTRL_EN 0, 1), (Fld.VLK_L_SESS_TLS 0, 1), (Fld.VLK_L_SESS_TLS 7, 1), (Fld.VLK_L_SESS_PEER_FM 7, 1),
   (Fld.VLK_L_CONT_CONNECTED 5, 1), (Fld.VLK_L_RXRING_SIZE 0, 8), (Fld.VLK_L_RXRING_BASE 0, 0x400000), (Fld.VLK_L_DOOR_RXHEAD 0, 255),
   (Fld.VLK_L_TXRING_SIZE 0, 1), (Fld.VLK_L_TXRING_BASE 0, 0x400040)]
theorem wit_PilotAndChargeLoopAct : linked.shaped = true ∧ linked.vlUsed 3 = false ∧ linked.vlUsed 7 = true ∧ linked.pilotRemote 7 = false ∧
    linked.evcc 7 = true ∧ linked.pilotRemote 5 = true ∧ linked.pilotState 0 ≠ linked.get (Fld.VLK_L_PILOT_STATE 0) ∧ linked.pilotState 0 = 1 ∧
    linked.connCond 0 = linked.connected 0 ∧ linked.connCond 5 ≠ linked.connected 5 ∧ linked.connCond 5 = false ∧ linked.hpgp 5 = true ∧
    linked.vlUsed 5 = true ∧ linked.takes 3 (Reg.VLK_L_PREMOTE 7) = true ∧ linked.takes 3 (Reg.VLK_L_WDOG 7) = true ∧
    linked.bit (Fld.VLK_L_WDOG_RUN 7) = false ∧ linked.bit (Fld.VLK_L_WDOG_RUN 0) = true ∧ linked.wdogOn 0 = true ∧ linked.parapetFree 0x2B 2 = true ∧
    (let s := flds linked [(Fld.ABT_ROLE_ROLE, 2)]; s.role = 2 ∧ s.evcc 7 = true ∧ s.shaped = true ∧ s.parapetFree 0x2B 2 = true) ∧ linked.role ≠ 2 := by
  decide +kernel

/-- Receive descriptor 255 and transmit descriptor 1 of link 0 lie in SRAM and are the link's. -/
def ringed : State := { linked with mem := [(0x10000FF4, 0x10), (0x10000FF8, 1), (0x10001011 , 0x20), (0x10001013, 0x10), (0x10001014, 16), (0x10001016, 1), (0x10001017, 0x80), (0x10001018, 1)] }
/-- The two ends have agreed; sessions 0 and 7 are those of the answer. -/
theorem wit_SessionMessagesAct : ringed.shaped = true ∧ linked.vlEn 5 = false ∧ ringed.vlEn 0 = true ∧ ringed.vlUsed 0 = true ∧ (0x8001 : BitVec 16) ≠ 0xA6F1 ∧
    ringed.ringSize (Fld.VLK_L_RXRING_SIZE 7) = 0 ∧ ringed.ringSize (Fld.VLK_L_RXRING_SIZE 0) = 256 ∧ ringed.get (Fld.VLK_L_DOOR_RXHEAD 0) = 255 ∧
    ringed.get (Fld.VLK_L_RXRING_BASE 0) * 64 + 16 * 255 = 0x10000FF0 ∧ ringed.dmaRead 15 0x10000FF0 16 = (ringed.memBytes 0x10000FF0 16, ringed) ∧
    leAt (ringed.memBytes 0x10000FF0 16) 8 2 % 2 = 1 ∧ (List.replicate 16384 (0 : Byte)).length ≤ 16384 ∧
    ringed.ringSize (Fld.VLK_L_TXRING_SIZE 0) = 2 ∧ (ringed.vl 0).txHead = 1 ∧ 1 ≠ ringed.get (Fld.VLK_L_DOOR_TXTAIL 0) % 2 ∧
    ringed.get (Fld.VLK_L_TXRING_BASE 0) * 64 + 16 * 1 = 0x10001010 ∧ ringed.dmaRead 15 0x10001010 16 = (ringed.memBytes 0x10001010 16, ringed) ∧
    leAt (ringed.memBytes 0x10001010 16) 8 2 % 2 = 1 ∧ leAt (ringed.memBytes 0x10001010 16) 4 2 ≤ 16384 ∧
    leAt (ringed.memBytes 0x10001010 16) 6 2 ≠ 0xA6F1 ∧ (ringed.vlProto 0).testBit 0 = true ∧ (ringed.vlProto 5).testBit 0 = false ∧
    ringed.secc 0 = true ∧ ringed.evcc 7 = true ∧ ringed.bit (Fld.VLK_L_SESS_TLS 0) = true ∧ ringed.bit (Fld.VLK_L_SESS_TLS 7) = true ∧
    ringed.bit (Fld.VLK_L_SESS_TLS 5) = false ∧ (ringed.vl 0).hello = true ∧ ringed.bit (Fld.VLK_L_SESS_PEER_FM 7) = true ∧
    ringed.bit (Fld.VLK_L_CTRL_RECON 7) = true ∧ (ringed.vl 7).peerCaps.testBit 0 = true ∧ (run.vl 0).asks = [] ∧ (run.vl 0).hello = false ∧
    (ringed.vl 0).asks = 1 :: [] ∧ leAt (List.replicate 32 (0 : Byte)) 0 4 = (ringed.sess (ringed.vlOutlet 0)).id := by decide +kernel
theorem wit_SessionMessagesAct_types :
    (let s := { ringed with mem := [(0x10001016, 0xF1), (0x10001017, 0xA6), (0x10001018, 1)] }
     leAt (s.memBytes 0x10001010 16) 4 2 ≤ 16384 ∧ leAt (s.memBytes 0x10001010 16) 6 2 = 0xA6F1 ∧ leAt (s.memBytes 0x10001010 16) 8 2 % 2 = 1) ∧
    (let s := { ringed with mem := [(0x10001014, 1), (0x10001015, 0x40), (0x10001018, 1)] }
     16384 < leAt (s.memBytes 0x10001010 16) 4 2 ∧ leAt (s.memBytes 0x10001010 16) 8 2 % 2 = 1) ∧
    (0xA6F1 : BitVec 16) = 0xA6F1 := by decide +kernel

/-! ### spec/13 and spec/14 -/

/-- Link 0 coordinates on link 0's mains; the pilot duty lets link 7 match. -/
def hp : State := flds { sect linked [(12, 0x100, 0xF), (12, 0x10A, 2), (12, 0x10B, 3), (12, 0x1D00, 0xF), (12, 0x1D03, 40), (4, 0x140, 1), (4, 0x142, 4), (12, 0x1100, 8)] with
    vlk := List.replicate 8 { frame := some (2, 3), xreq := true, fails := 2, okRun := 4, blocks := [10, 12, 9] } }
  [(Fld.CSN_AC_CFG_EN 0, 1), (Fld.CSN_AC_STAT_FLOCK 0, 1), (Fld.VLK_L_CONT_CONNECTED 7, 1), (Fld.VLK_L_PILOT_DUTY_IN 7, 999), (Fld.VLK_L_SESS_LINK 7, 1),
   (Fld.VLK_L_SESS_LINK 0, 1), (Fld.VLK_L_HPSTAT_SLAC 7, 4), (Fld.VLK_L_CONT_CONNECTED 0, 1), (Fld.VLK_L_HPSTAT_SLAC 0, 1), (Fld.VLK_L_HPCNT_ERASED 0, 65535),
   (Fld.VLK_L_CTRL_EN 4, 1), (Fld.VLK_L_T1SSTAT_PLCA_OK 4, 1), (Fld.VLK_L_T1SCNT_FCS 4, 65535)]
theorem wit_BeaconsAndSlacAct : hp.shaped = true ∧ hp.coordinator 7 = false ∧ hp.coordinator 0 = true ∧ hp.vlEn 0 = true ∧
    (hp.lflag 0 2 && hp.acOn 0 && hp.bit (Fld.CSN_AC_STAT_FLOCK 0)) = true ∧ linked.coordinator 0 = true ∧ linked.vlEn 0 = true ∧
    (linked.lflag 0 2 && linked.acOn 0 && linked.bit (Fld.CSN_AC_STAT_FLOCK 0)) = false ∧ hp.evcc 0 = false ∧ hp.evcc 7 = true ∧ hp.hpgp 7 = true ∧
    hp.linkUp 7 = true ∧ hp.slacMay 3 = false ∧ hp.slacMay 7 = true ∧
    (let s := flds hp [(Fld.VLK_L_HPSTAT_SLAC 7, 6)]; s.slacMay 7 = true ∧ s.evcc 7 = true ∧ s.get (Fld.VLK_L_HPSTAT_SLAC 7) = 6) ∧
    1 ≤ hp.get (Fld.VLK_L_HPSTAT_SLAC 0) ∧ hp.get (Fld.VLK_L_HPSTAT_SLAC 7) ≤ 4 ∧ hp.secc 0 = true ∧ hp.slacMay 0 = true ∧
    leastMean [[40]] = some 40 ∧ (40 : Rat) ≤ (hp.vcfg 7 0x103 1 : Rat) ∧ leastMean [[40, 41]] = some (81 / 2) ∧ (hp.vcfg 7 0x103 1 : Rat) < 81 / 2 ∧
    hp.secc 7 = false ∧ (hp.vl 7).fails = 2 := by decide +kernel
theorem wit_FramesAndPlcaAct : hp.hpgp 3 = false ∧ hp.hpgp 0 = true ∧ hp.vlEn 0 = true ∧ (2 : Fin 4) ≠ 3 ∧ hp.bit (Fld.VLK_L_HPSTAT_XROBO 0) = false ∧
    hp.get (Fld.VLK_L_HPSTAT_SLAC 0) = 1 ∧ hp.linkUp 3 = false ∧ hp.linkUp 0 = true ∧ (linked.vl 0).frame = none ∧
    (flds linked [(Fld.VLK_L_SESS_LINK 0, 1)]).linkUp 0 = true ∧ (hp.vl 0).frame = some (2, 3) ∧ 3 < 4 ∧ hp.lflag 0 1 = true ∧ hp.secc 0 = true ∧
    hp.lflag 7 1 = true ∧ hp.secc 7 = false ∧ (linked.vl 0).xreq = false ∧ (hp.vl 0).xreq = true ∧ hp.bit (Fld.VLK_L_T1SSTAT_PLCA_OK 0) = false ∧
    hp.bit (Fld.VLK_L_T1SSTAT_PLCA_OK 4) = true ∧ hp.t1s 0 = false ∧ hp.t1s 4 = true := by decide +kernel

/-- Buses 0 and 3 enabled and joined; bus 3 transmits buffer 31, has 63 elements and a ring of two; bus 1 is a time-triggered slave, bus 2
a time master. -/
def can : State := flds { run with can := [{}, { refs := 1 }, {}, { cur := some 31, txErr := 5 }] }
  ((List.range 4).flatMap (fun n => [(Fld.CBU_B_CTRL_EN n, 1), (Fld.CBU_B_STAT_JOINED n, 1)]) ++
   [(Fld.CBU_B_TXREQ_BUF 3, 0x80000001), (Fld.CBU_B_RXSTAT_FILL 3, 63), (Fld.CBU_B_RXSTAT_GET 3, 63), (Fld.CBU_B_RXRING_SIZE 3, 1), (Fld.CBU_B_RXRING_BASE 3, 0x400000),
    (Fld.CBU_B_RXSTAT_FILL 0, 64), (Fld.CBU_B_TTCFG_SRC 1, 3), (Fld.CBU_B_TTCFG_SRC 2, 1), (Fld.CBU_B_TTCFG_CEXP 2, 4), (Fld.CBU_B_COL_EN 2 63, 1),
    (Fld.CBU_B_TTSTAT_CYCLE 2, 15), (Fld.CBU_B_CELL_CELL 2 15 15, 0x5F000000), (Fld.CBU_B_TXREQ_BUF 2, 0x80000000)])
theorem wit_CanTransmitsAndReceives : can.shaped = true ∧ run.canEn 0 = false ∧ can.canEn 3 = true ∧ can.takes 3 (Reg.CBU_B_TXREQ 3) = true ∧
    can.takes 3 (Reg.CBU_B_TXCAN 3) = true ∧ can.takes 3 (Reg.CBU_B_RXACK 0) = true ∧ (2 : Word).toNat.testBit 0 = false ∧ (1 : Word).toNat.testBit 0 = true ∧
    can.get (Fld.CBU_B_RXSTAT_FILL 0) ≠ 0 ∧ can.get (Fld.CBU_B_RXRING_SIZE 0) = 0 ∧ (can.bus 0).cur = none ∧ (can.bus 3).cur = some 31 ∧
    can.isRef 3 31 = false ∧ (flds can [(Fld.CBU_B_CTRL_DAR 3, 1)]).bit (Fld.CBU_B_CTRL_DAR 3) = true ∧ (can.bus 3).window ≠ 1 ∧
    can.bit (Fld.CBU_B_CTRL_DAR 3) = false ∧ (can.get (Fld.CBU_B_TXCAN_BUF 3)).testBit 31 = false ∧ can.bit (Fld.CBU_B_STAT_JOINED 3) = true ∧
    can.bit (Fld.CBU_B_STAT_BUS_OFF 3) = false ∧ can.bit (Fld.CBU_B_CTRL_LOM 3) = false ∧ can.canFilter 3 frame0 = none ∧
    can.bit (Fld.CBU_B_CTRL_NOMATCH_REJ 3) = false ∧ 64 ≤ can.get (Fld.CBU_B_RXSTAT_FILL 0) ∧ can.get (Fld.CBU_B_RXSTAT_FILL 3) < 64 ∧
    2 ^ can.get (Fld.CBU_B_RXRING_SIZE 3) = 2 ∧ can.get (Fld.CBU_B_RXPTR_RXHEAD 3) = 0 ∧ (0 + 1) % 2 ≠ can.get (Fld.CBU_B_RXPTR_RXTAIL 3) % 2 := by
  decide +kernel
def canOff : State := flds { can with can := List.replicate 4 { recovering := true } } [(Fld.CBU_B_STAT_BUS_OFF 3, 1)]
/-- PARK, with wake-up by pattern on bus 1. -/
def canAsleep : State := flds { can with pwr := { can.pwr with st := .park, domains := 7 }, load := {} } [(Fld.CBU_B_WAKE_EN 1, 1)]
theorem wit_CanSchedulesRecoversAndWakes : can.takes 3 (Reg.CBU_B_CTRL 3) = true ∧ run.takes 3 (Reg.CBU_B_CTRL 3) = true ∧ run.shaped = true ∧
    run.canEn 3 = false ∧ (1 : Word).toNat.testBit 0 = true ∧ (1 : Word).toNat.testBit 8 = false ∧ (0 : Word).toNat.testBit 0 = false ∧
    (0x101 : Word).toNat.testBit 8 = true ∧ (0x101 : Word).toNat.testBit 0 = can.canEn 3 ∧ (can.bus 0).cur = none ∧ (can.bus 3).cur.isSome = true ∧
    can.bit (Fld.CBU_B_STAT_BUS_OFF 3) = false ∧ canOff.bit (Fld.CBU_B_STAT_BUS_OFF 3) = true ∧ (canOff.bus 3).recovering = true ∧ canOff.shaped = true ∧
    can.ttSrc 0 = 0 ∧ can.ttSrc 1 = 3 ∧ can.ttSrc 2 = 1 ∧ can.canSends 2 = true ∧ (can.bus 2).cur = none ∧ can.bit (Fld.CBU_B_COL_EN 2 63) = true ∧
    can.canCell 2 (can.get (Fld.CBU_B_TTSTAT_CYCLE 2)) 63 = 0x5F ∧ (can.bus 2).resume = false ∧ (can.get (Fld.CBU_B_TXREQ_BUF 2)).testBit (0x5F % 32) = true ∧
    (can.bus 1).refs = 1 ∧ canAsleep.bit (Fld.CBU_B_WAKE_EN 1) = true ∧ canAsleep.canWakes 1 .pattern = true ∧ canAsleep.asleep = true ∧
    canAsleep.load.wake = false ∧ canAsleep.bit Fld.ABT_PSSTAT_BUSY = false ∧ canAsleep.shaped = true := by decide +kernel

/-! ### spec/15 and spec/16 -/

/-- Safety input 15 of kind 2 with an equivalent channel B and test-pulse output 7; output 11 for outlet 7, its contactor record 15; pier 11 in use;
an active insulation channel 3 on bus 7; Truss trip entry 15 in use with Class B. -/
def safety : State := flds { sect fed [(6, 0x130, 2), (6, 0x131, 2), (6, 0x132, 1), (6, 0x133, 7), (6, 0x134, 0xFF), (6, 0x138, 0x80), (6, 0x178, 1), (6, 0x230, 1),
    (6, 0x231, 7), (6, 0x232, 10), (6, 0x234, 0xFF), (6, 0x2A0, 7), (6, 0x2A2, 100), (6, 0x3B0, 11), (6, 0x3B2, 40), (6, 0x3B4, 200), (6, 0x498 + 2, 2), (6, 0x498 + 3, 0x80),
    (6, 0x498 + 6, 1)] with
    prp := { fed.prp with weldRun := 0x8000, bOutlets := 0x80, outDelay := true, keyLo := true },
    kst := { fed.kst with outs := List.replicate 8 { lowering := true } } }
  [(Fld.PRP_PSOSTAT_ON, 0x800), (Fld.PRP_ARMED_PIERS, 0x800), (Fld.PRP_STAT_START_OK, 1)]
theorem wit_SafeStateAssertsAndEnds : safety.bit Fld.PRP_STAT_SAFE = false ∧ safety.parapetFree 0x0D 1 = true ∧ safety.prp.outDelay = true ∧
    safety.pwr.shutLatch = false ∧
    (let s := { safety with prp := { safety.prp with handling := [{ brought with cls := 1 }] } }; s.prp.handling.head?.map FaultRec.cls = some 1) := by decide +kernel
theorem wit_FaultManagerHandlesByClass : safety.parapetFree 63 (0 + 1) = true ∧ safety.parapetFree 0x11 2 = true ∧ safety.parapetFree 0x2B 4 = true ∧ safety.parapetFree 0x0F 2 = true ∧ ramRange 0x10000000 1 = true ∧
    (let s := { safety with prp := { safety.prp with handling := [brought] } }; s.prp.handling = [brought] ∧ s.prp.queue = [] ∧ s.prp.prstWait = false) ∧
    (let s := { safety with prp := { safety.prp with handling := [brought, brought, brought] } }; s.prp.handling = brought :: brought :: [brought]) ∧
    safety.prp.trips.testBit 15 = false ∧ safety.cfgB 6 (0x420 + 8 * 15 + 6) = 1 ∧ safety.cfgB 6 (0x420 + 8 * 15 + 2) = 2 := by decide +kernel
def pulsing : State := { safety with prp := { safety.prp with ptpLow := some 7, ins := List.replicate 16 { openA := true } } }
theorem wit_SafetyInputsDemand : safety.shaped = true ∧ safety.psiKind 15 ≠ 0 ∧ safety.prp.ptpLow = none ∧ pulsing.shaped = true ∧ pulsing.psiKind 15 ≠ 0 ∧
    (pulsing.safeIn 15).openA ≠ (pulsing.safeIn 15).openB ∧ safety.cfgB 6 (0x140 + 8 * 7) = 1 ∧ pulsing.prp.ptpLow = some 7 ∧
    pulsing.cfgB 6 (0x43 + 16 * 15) = 7 ∧ (0x8000 : BitVec 16).toNat.testBit 15 = true ∧ safety.prp.running = true := by decide +kernel
theorem wit_OutputsButtonAndArming : (5 : Master).val < 6 ∧ safety.takes 5 Reg.PRP_PSO = true ∧ safety.takes 5 Reg.PRP_FCLRK = true ∧ (0x0B : Word).toNat % 256 = 0x0B ∧
    safety.takes 5 Reg.PRP_FCLR = true ∧ safety.prp.keyLo = true ∧ (0x6CFF0FFF : Word).toNat / 2 ^ 24 = 0x6C ∧ safety.takes 5 Reg.PRP_ARMREQ = true ∧
    (0x3A714FFF : Word).toNat / 2 ^ 16 = 0x3A71 ∧ (0x3A714FFF : Word).toNat / 2 ^ 14 % 4 = 1 ∧ safety.bit Fld.PRP_STAT_SAFE = false ∧
    (0x3A718FFF : Word).toNat / 2 ^ 14 % 4 = 2 ∧ (safety.get Fld.PRP_ARMED_PIERS).testBit 11 = true ∧ safety.takes 5 Reg.PRP_SWSTOP = true ∧
    (0xD15A0001 : Word).toNat / 2 ^ 16 = 0xD15A ∧ (0xD15A0001 : Word).toNat % 2 = 1 ∧ safety.parapetFree 0x10 1 = true ∧
    (safety.get Fld.PRP_PSOSTAT_ON).testBit 0 = false ∧ (safety.get Fld.PRP_PSOSTAT_ON).testBit 11 = true ∧ safety.par (0x182 + 16 * 11) 2 ≠ 0 ∧
    50 ≤ 5000 ∧ safety.prp.running = true ∧ safety.prp.doubleHeld = false ∧ safety.prp.handling = [] ∧ safety.prp.stuckHeld = false ∧
    safety.classACause = false := by decide +kernel
def insul : State := { safety with prp := { safety.prp with imc := List.replicate 4 { halves := [7] } } }
theorem wit_LoweringInsulationAndContactors : safety.shaped = true ∧ (safety.out 7).lowering = true ∧ safety.prp.bOutlets.testBit 7 = true ∧ safety.psoOutlet 11 = some 7 ∧
    safety.par (0x242 + 32 * 3) 2 ≠ 0 ∧ safety.imcSuspended 3 = false ∧
    (nth {} insul.prp.imc 3).halves = [7] ∧ insul.imcSuspended 3 = false ∧ insul.shaped = true ∧
    (let s := flds (sect safety [(6, 0x230, 3)]) [(Fld.ABT_ROLE_ROLE, 2), (Fld.VLK_L_CONT_CONNECTED 7, 1)]
     (let s := sect s [(4, 0x172, 7)]; s.imcSuspended 3 = true ∧ s.shaped = true)) ∧
    safety.prp.weldRun.testBit 15 = true ∧ safety.cfg 6 (0x2C2 + 16 * 15) 2 ≤ 40 ∧ 39 < safety.cfg 6 (0x2C2 + 16 * 15) 2 ∧ 3 ≤ safety.classFloor 0x12 := by decide +kernel

/-- Channel 15 leads itself and channel 0, on, in burst mode, with open-load and off-state diagnosis; channel 1 waits in a burst, channel 2 is
pulsed, channel 3 held. -/
def trs : State := flds { run with trs := { chans := [{ duty := 255, want := 255 }, { burst := true }, { duty := 3, want := 200 }, { hold := some true }] ++ List.replicate 11 {} ++ [{ duty := 255, want := 255, latched := false }] } }
  [(Fld.TRS_CH_CFG_IN_USE 15, 1), (Fld.TRS_CH_CFG_GROUP 15, 255), (Fld.TRS_CH_CFG_IN_USE 0, 1), (Fld.TRS_CH_CFG_GROUP 0, 15), (Fld.TRS_CH_STAT_STATE 15, 1), (Fld.TRS_CH_STAT_STATE 0, 1),
   (Fld.TRS_CH_CFG_BURST_N 0, 3), (Fld.TRS_CH_STAT_BURST_CNT 0, 3), (Fld.TRS_CH_CFG_BURST_N 15, 15), (Fld.TRS_CH_STAT_STATE 1, 2), (Fld.TRS_CH_STAT_BURST_CNT 1, 15), (Fld.TRS_CH_CFG_PWM_F 2, 3),
   (Fld.TRS_CH_OL_OL_THRESH 15, 1), (Fld.TRS_CH_CFG_OFFDIAG 14, 1), (Fld.TRS_CH_CFG_THERM_LATCH 14, 1), (Fld.TRS_CH_PROT_THERM_N 15, 15),
   (Fld.TRS_CH_CTRL_ON 15, 1), (Fld.TRS_CH_CTRL_DUTY 15, 255)]
theorem wit_TrestleProtectionActs : trs.shaped = true ∧ trs.get (Fld.TRS_CH_STAT_STATE 15) = 1 ∧ (trs.chan 15).hold = none ∧ trs.get (Fld.TRS_CH_STAT_STATE 0) = 1 ∧
    trs.get (Fld.TRS_CH_CFG_BURST_N 0) ≤ trs.get (Fld.TRS_CH_STAT_BURST_CNT 0) ∧ trs.get (Fld.TRS_CH_CFG_BURST_N 0) ≠ 0 ∧
    trs.get (Fld.TRS_CH_STAT_BURST_CNT 15) < trs.get (Fld.TRS_CH_CFG_BURST_N 15) ∧
    (let s := flds trs [(Fld.TRS_CH_CFG_BURST_N 0, 0)]; s.get (Fld.TRS_CH_CFG_BURST_N 0) = 0 ∧ s.get (Fld.TRS_CH_STAT_STATE 0) = 1) ∧
    trs.get (Fld.TRS_CH_STAT_STATE 1) = 2 ∧ (trs.chan 15).hot = false ∧ trs.bit (Fld.TRS_CH_CFG_THERM_LATCH 14) = true ∧
    trs.bit (Fld.TRS_CH_CFG_THERM_LATCH 15) = false ∧ ¬ trs.get (Fld.TRS_CH_PROT_THERM_N 15) < 1 := by decide +kernel
theorem wit_TrestleDiagnosisActs : trs.shaped = true ∧ trs.get (Fld.TRS_CH_CFG_PWM_F 2) ≠ 0 ∧ trs.get (Fld.TRS_CH_STAT_STATE 15) = 1 ∧ trs.bit Fld.TRS_SUPPLY_DUMP = false ∧
    trs.trsDelivered 15 = 255 ∧ trs.bit (Fld.TRS_CH_CFG_LOWRANGE 15) = false ∧ trs.trsSampled 15 = true ∧
    trs.trsIon 15 < trs.get (Fld.TRS_CH_OL_OL_THRESH 15) ∧ trs.bit (Fld.TRS_CH_CFG_OFFDIAG 14) = true ∧ trs.get (Fld.TRS_CH_STAT_STATE 14) ≠ 1 ∧
    (trs.chan 3).hold.isSome = true ∧ trs.takes 3 (Reg.TRS_CH_CTRL 15) = true ∧ trs.trsLeader 0 ≠ 0 ∧ (trs.trsOwner 15).isSome = false ∧ trs.trsLeader 15 = 15 ∧
    trs.takes 3 (Reg.TRS_CH_FAULT 15) = true := by decide +kernel
theorem wit_TrestleDiagnosisActs_owner : (stay.trsOwner 7).isSome = true ∧ stay.takes 3 (Reg.TRS_CH_CTRL 7) = true := by decide +kernel

/-! ### spec/17 and spec/18 -/

/-- Running on VIN, at the first checkpoint of an entry to PARK with wake pin 7 enabled; in OFF on VBAT with a last gasp. -/
def powered : State := flds run [(Fld.ABT_SUPPLY_VIN_OK, 1), (Fld.ABT_WDOG_EN, 1), (Fld.ABT_PSCTL_DOZE_EN, 1), (Fld.ABT_ALARMLO_SEC, 5), (Fld.ABT_WAKECFG_PIN_EN, 0x80),
  (Fld.ABT_PADHOLD_HOLD, 0x7F)]
def unpowered : State := { run with pwr := { domains := 3, st := .run, onVbat := true }, tol := { run.tol with lgRun := some {} } }
theorem wit_SupplyLossAndReturnAct : powered.bit Fld.ABT_SUPPLY_VIN_OK = true ∧ unpowered.bit Fld.ABT_SUPPLY_VIN_OK = false ∧ powered.pwr.onVbat = false ∧
    powered.pwr.domains.testBit 1 = true ∧ unpowered.pwr.onVbat = true ∧ unpowered.tol.lgRun.isSome = true := by decide +kernel
theorem wit_DeviceResetsRestart : powered.bit Fld.ABT_SUPPLY_VIN_OK = true ∧ powered.pwr.st ≠ .off ∧ powered.pwr.shutLatch = false ∧
    powered.bit Fld.ABT_WDOG_EN = true ∧ powered.pwr.st ≠ .standby ∧ powered.pwr.st ≠ .park ∧
    (let s := { powered with prp := { powered.prp with doubleHeld := true } }
     s.bit Fld.ABT_SUPPLY_VIN_OK = true ∧ s.prp.doubleHeld = true ∧ s.prp.outDelay = false ∧ s.get Fld.PRP_PSOSTAT_ON = 0) ∧
    powered.takes 3 Reg.ABT_RESET = true ∧ (0x9E270001 : Word).toNat / 65536 = 0x9E27 ∧ (0x9E270001 : Word).toNat.testBit 0 = true ∧
    powered.pwr.st = .run ∧ powered.takes 3 Reg.ABT_WDKICK = true ∧ (0xA5C30001 : Word).toNat / 65536 = 0xA5C3 ∧ (0xA5C30001 : Word).toNat.testBit 0 = true ∧
    run.takes 3 Reg.ABT_WDOG = true ∧ run.bit Fld.ABT_WDOG_EN = false := by decide +kernel
def entering (k : Nat) : State := { flds powered [(Fld.ABT_PSSTAT_BUSY, 1), (Fld.ABT_PSSTAT_STEP, k)] with pwr := { powered.pwr with target := 2 } }
def asleep (p : PowerState) : State := { powered with pwr := { powered.pwr with st := p }, tol := { powered.tol with bill := 5 } }
theorem wit_PowerStatesFollowRequestsAndWakes : powered.takes 3 Reg.ABT_PSREQ = true ∧ (0x5B3E0001 : Word).toNat / 65536 = 0x5B3E ∧ (0x5B3E0001 : Word).toNat % 4 = 1 ∧
    powered.refusal 1 = 0 ∧ powered.bit Fld.ABT_PSSTAT_BUSY = false ∧ vehicle.takes 3 Reg.ABT_PSREQ = true ∧ (0x5B3E0002 : Word).toNat % 4 = 2 ∧ vehicle.refusal 2 = 0 ∧
    vehicle.bit Fld.ABT_PSSTAT_BUSY = false ∧
    (∀ k ∈ [0, 1, 2, 3], (entering k).bit Fld.ABT_PSSTAT_BUSY = true ∧ (entering k).get Fld.ABT_PSSTAT_STEP = k ∧ (entering k).pwr.wakeSeen = false ∧
      (entering k).pwr.st = .run ∧ (entering k).tol.saving = none ∧ (entering k).bit Fld.ABT_PSSTAT_PEND = false) ∧
    (let s := { entering 2 with pwr := { powered.pwr with wakeSeen := true } }; s.pwr.wakeSeen = true ∧ s.pwr.heldTx = [] ∧ s.pwr.st = .run ∧ s.bit Fld.ABT_PSSTAT_BUSY = true) ∧
    powered.pwr.st = .run ∧ powered.load.stage = .run ∧ powered.bit Fld.ABT_PSCTL_DOZE_EN = true ∧ (asleep .doze).pwr.st = .doze ∧
    powered.takes 3 Reg.ABT_PADHOLD = true ∧ (0x3F0 : Word).toNat.testBit 3 = false ∧
    (∀ p ∈ [PowerState.standby, .park], (asleep p).pwr.st = p ∧ (asleep p).bit Fld.ABT_PSSTAT_BUSY = false ∧ (asleep p).load.wake = false ∧
      (0x800000 : BitVec 24).toNat &&& (asleep p).wakeMask (p == .park) ≠ 0) ∧
    (asleep .run).get Fld.ABT_ALARMLO_SEC + 2 ^ 32 * (asleep .run).get Fld.ABT_ALARMHI_SEC = 5 ∧ (asleep .run).tol.bill.floor.toNat = 5 ∧
    (asleep .run).bit Fld.ABT_WAKECFG_RTC = false ∧
    (let s := flds (asleep .standby) [(Fld.ABT_WAKECFG_RTC, 1)]
     s.pwr.st = .standby ∧ s.bit Fld.ABT_WAKECFG_RTC = true ∧ s.get Fld.ABT_ALARMLO_SEC = 5 ∧ s.tol.bill.floor.toNat = 5 ∧ s.bit Fld.ABT_PSSTAT_BUSY = false ∧ s.load.wake = false) := by
  decide +kernel
theorem wit_RtcEventsAct : powered.pwr.st = .run ∧ powered.pwr.xtalOff = false ∧ powered.tol.run = true ∧
    (let s := { powered with pwr := { powered.pwr with xtalOff := true } }; s.pwr.st = .run ∧ s.pwr.xtalOff = true) := by decide +kernel
theorem wit_HousekeepingActs : powered.shaped = true ∧ powered.pwr.st ≠ .park ∧ powered.pwr.st ≠ .off ∧ powered.pwr.shutLatch = false ∧ powered.hkp.vote = false ∧
    (let s := flds powered [(Fld.HKP_TSTAT_GRACE, 1)]; s.bit Fld.HKP_TSTAT_GRACE = true ∧ s.bit Fld.HKP_TSTAT_REQ = false) ∧
    (let s := flds powered [(Fld.HKP_TSTAT_GRACE, 1), (Fld.HKP_TSTAT_REQ, 1)]
     s.bit Fld.HKP_TSTAT_GRACE = true ∧ s.bit Fld.HKP_TSTAT_REQ = true ∧ s.bit Fld.HKP_TSTAT_ENFORCED = false) ∧
    powered.takes 3 Reg.HKP_THRCTL = true ∧ powered.prp.running = true ∧ powered.pwr.domains.testBit 3 = true ∧
    powered.parapetFree 0x0E 1 = true := by decide +kernel

/-! ### spec/19, and the loads of spec/02 -/

def bytesAt (a : Nat) : List Byte → List Host.Cell
  | [] => []
  | b :: t => (a, b) :: bytesAt (a + 1) t
theorem sget_bytesAt (l : List Byte) (a i : Nat) : sget (0 : Byte) (bytesAt a l) (a + i) = l.getD i 0 := by
  induction l generalizing a i with
  | nil => rfl
  | cons b t ih =>
    cases i with
    | zero => simp [bytesAt, sget]
    | succ i => simpa [bytesAt, sget, Nat.add_assoc, Nat.add_comm 1 i] using ih (a + 1) i
theorem map_bytesAt (l : List Byte) (a n : Nat) (h : l.length = n) : (List.range n).map (fun i => sget (0 : Byte) (bytesAt a l) (a + i)) = l := by
  subst h
  refine List.ext_getElem (by simp) (fun i _ h => ?_)
  have e : sget (0 : Byte) (bytesAt a l) (a + i) = l[i] := by rw [sget_bytesAt, List.getD_eq_getElem?_getD, List.getElem?_eq_getElem h]; rfl
  simpa using e
theorem map_bytesAt_after (l : List Byte) (a k n : Nat) (h : l.length ≤ k) :
    (List.range n).map (fun i => sget (0 : Byte) (bytesAt a l) (a + k + i)) = List.replicate n 0 := by
  have e : ∀ i, sget (0 : Byte) (bytesAt a l) (a + k + i) = 0 := fun i => by
    rw [Nat.add_assoc, sget_bytesAt, List.getD_eq_getElem?_getD, List.getElem?_eq_none (by omega)]; rfl
  simp only [e, List.map_const', List.length_range]
theorem sha3_zeros_length : ∀ n ∈ [16, 64], (sha3 256 (List.replicate n 0)).length = 32 := by decide +kernel
/-- An element of 16 bytes of zeros for 0x10002000, key slot 11, counter 63 at version 9 with ADVANCE, a boot element. -/
def elemHdr : List Byte := [0x46, 0x4D, 0x46, 0x57, 1, 0, 3, 63, 9, 3, 0, 0] ++ toLE 4 16 ++ toLE 4 0x10002000 ++ toLE 4 0x10002004 ++
  sha3 256 (List.replicate 16 0) ++ List.replicate 200 0
theorem elemHdr_length : elemHdr.length = 256 := by
  simp only [elemHdr, List.length_append, sha3_zeros_length 16 (by decide), List.length_replicate, toLE, List.length_cons, List.length_nil]
/-- Key slots 0, 4, 6 and 11 fused and presented in DEPLOYED, the element in SRAM and in flash. -/
def pylon : State := flds { run with
    load := { stage := .run, slots := [bytesAt 0 elemHdr, []] }
    pyl := { run.pyl with hashes := List.replicate 12 (sha3 256 (List.replicate 1984 0)), keys := List.replicate 12 (List.replicate 1984 0) } }
  [(Fld.PYL_KFUSE_FUSED, 0x853), (Fld.PYL_KPRES_PRESENTED, 0x853), (Fld.PYL_STAT_LIFECYCLE, 2)]
/-- Pylon serves operation `op` on 1,984 B of zeros at 0x10002000, with room for 4,096 B at 0x10003000. -/
def opOf (op : Nat) : PylCmd := { addr := 0x10000FC0, op := op, alg := 1, slot := 11, inA := 0x10002000, inL := 1984, outA := 0x10003000, cap := 4096, usage := 2 }
def serving (c : PylCmd) : State := { pylon with pyl := { pylon.pyl with cmd := some c, serving := some 3 } }
theorem wit_PylonServesKeyCommands : (∀ op ∈ [1, 2, 3, 0x10, 0x11, 0x12, 0x13, 0x14, 0x20, 0x21, 0x30, 0x31, 0x32],
      (serving (opOf op)).serves (opOf op) op) ∧ (serving (opOf 0x11)).hasIds = true ∧ run.hasIds = false ∧
    (List.replicate 16 (0 : Byte)).take 16 ≠ blobHead 1 2 2 ∧ (blobHead 1 2 2 ++ List.replicate 30 0).take 16 = blobHead 1 2 2 ∧
    (opOf 0x13).slot < 12 ∧ pylon.slotLive 11 = true ∧ 11 < pylon.pyl.keys.length ∧ 11 < pylon.pyl.store.length ∧ pylon.slotLive 2 = false := by
  refine ⟨?_, ?_, ?_, ?_, ?_, ?_, ?_, ?_, ?_, ?_⟩ <;> (try decide +kernel)
  intro op h
  simp only [List.mem_cons, List.not_mem_nil, or_false] at h
  rcases h with rfl | rfl | rfl | rfl | rfl | rfl | rfl | rfl | rfl | rfl | rfl | rfl | rfl <;>
    exact ⟨rfl, rfl, rfl, rfl, by decide +kernel, by decide +kernel⟩
/-- The keys at IN_ADDR hash to the fuse of slot 11. -/
theorem wit_PylonServesKeyCommands_keys : (serving (opOf 0x13)).memBytes 0x10002000 1984 = List.replicate 1984 0 ∧
    sha3 256 (List.replicate 1984 0) = nth [] (serving (opOf 0x13)).pyl.hashes 11 := by
  refine ⟨by decide +kernel, ?_⟩
  have h : (serving (opOf 0x13)).pyl.hashes = List.replicate 12 (sha3 256 (List.replicate 1984 0)) := by
    unfold serving pylon flds
    generalize sha3 256 (List.replicate 1984 0) = d
    rfl
  rw [h]
  generalize sha3 256 (List.replicate 1984 0) = d
  rfl

/-- The element in SRAM. -/
def element : State := { serving { opOf 0x40 with inA := 0x10001F00, inL := 0 } with mem := bytesAt 0x10001F00 elemHdr }
/-- Where both signatures of the element verify, it passes every check. -/
theorem wit_PylonVerifiesElementsAndAuthorisations_element (h : pairReason (List.replicate 1984 0) (sha3 512 elemHdr) (List.replicate 64 0) (List.replicate 3309 0) = 0) :
    element.elemReason 0x10001F00 = 0 := by
  have e1 : element.readBytes 0x10001F00 256 = elemHdr := (if_pos (by decide)).trans <| map_bytesAt elemHdr 0x10001F00 256 elemHdr_length
  have l1 : leAt elemHdr 0xC 4 = 16 := by decide +kernel
  have l2 : leAt elemHdr 6 1 = 3 := by decide +kernel
  have l3 : leAt elemHdr 7 1 = 63 := by decide +kernel
  have l4 : leAt elemHdr 8 1 = 9 := by decide +kernel
  have l5 : leAt elemHdr 0x10 4 = 0x10002000 := by decide +kernel
  have l6 : elemHeaderOk elemHdr = true := by decide +kernel
  have l7 : elemLen elemHdr = 5696 := by decide +kernel
  have e2 : element.readBytes (0x10001F00 + alignUp (256 + 16) 64) 5376 = List.replicate 5376 0 := (if_pos (by decide)).trans <|
    map_bytesAt_after elemHdr 0x10001F00 (alignUp (256 + 16) 64) 5376 (by rw [elemHdr_length]; decide)
  have e3 : element.readBytes (0x10001F00 + 256) 16 = List.replicate 16 0 := (if_pos (by decide)).trans <|
    map_bytesAt_after elemHdr 0x10001F00 256 16 (by rw [elemHdr_length])
  have e4 : (elemHdr.drop 0x18).take 32 = sha3 256 (List.replicate 16 0) := by decide +kernel
  have e5 : nth [] element.pyl.keys 11 = List.replicate 1984 0 := by decide +kernel
  have d1 : element.dmaOk 12 0x10001F00 256 false = true := by decide +kernel
  have d2 : element.dmaOk 12 0x10001F00 5696 false = true := by decide +kernel
  have d3 : element.presented 11 = true := by decide +kernel
  have d4 : element.ctr 63 = 0 := by decide +kernel
  have d5 : ¬ (63 = element.imageArb ∨ element.legalArb = some 63) := by decide +kernel
  have d6 : element.freeRegion ≠ none := by decide +kernel
  have e6 : ((List.replicate 5376 (0 : Byte)).drop 1984).take 64 = List.replicate 64 0 := by
    rw [List.drop_replicate, List.take_replicate]; rfl
  have e7 : ((List.replicate 5376 (0 : Byte)).drop 2048).take 3309 = List.replicate 3309 0 := by
    rw [List.drop_replicate, List.take_replicate]; rfl
  simp only [State.elemReason, e1, l1, l2, l3, l4, l5, l6, l7, e2, e3, e4, e5, d1, d2, d3, d4, e6, e7, h]
  rw [if_neg (by decide), if_neg (by decide), if_neg (by decide), if_neg (by decide), if_neg (by simp), if_neg (by simp), if_neg (by decide), if_neg d5,
    if_neg d6]

/-- An authorisation of a kind for the slot with index `i` in class code 0, signed for slot 0. -/
def auth (kind i : Nat) : List Byte := [0x50, 0x4B, 0x4D, 0x41, BitVec.ofNat 8 kind, 0, BitVec.ofNat 8 i, 0] ++ List.replicate 3493 0
/-- Where its signatures verify and class code 0 is the image class, an authorisation of every kind stands. -/
theorem wit_PylonVerifiesElementsAndAuthorisations_authorisation (h : ∀ m, pairReason (List.replicate 1984 0) (sha3 512 m) (List.replicate 64 0) (List.replicate 3309 0) = 0)
    (k : Config.keyClass 0 = 0) : ∀ x ∈ [(1, 2), (2, 1), (3, 0), (4, 0)], pylon.authBad (auth x.1 x.2) = false := by
  have e5 : nth [] pylon.pyl.keys 0 = List.replicate 1984 0 := by decide +kernel
  have p0 : pylon.presented 0 = true := by decide +kernel
  have f : pylon.get Fld.PYL_KFUSE_FUSED = 0x853 := by decide +kernel
  have r : pylon.get Fld.PYL_KFUSE_REVOKED = 0 := by decide +kernel
  have all : ∀ x ∈ [(1, 2), (2, 1), (3, 0), (4, 0)], leAt (auth x.1 x.2) 4 1 = x.1 ∧ leAt (auth x.1 x.2) 5 1 = 0 ∧ leAt (auth x.1 x.2) 7 1 = 0 ∧ leAt (auth x.1 x.2) 6 1 = x.2 ∧
      (auth x.1 x.2).length = 3501 ∧ (auth x.1 x.2).take 4 = [0x50, 0x4B, 0x4D, 0x41] ∧ zeroIn (auth x.1 x.2) 0x50 48 = true ∧ zeroIn (auth x.1 x.2) 0x30 32 = true ∧
      ((auth x.1 x.2).drop 8).take 8 = pylon.pyl.serial ∧ ((auth x.1 x.2).drop 0x10).take 32 = pylon.wordsOf (Reg.PYL_NONCE 0) 8 ∧
      ((auth x.1 x.2).drop 0x80).take 64 = List.replicate 64 0 ∧ (auth x.1 x.2).drop 0xC0 = List.replicate 3309 0 := by decide +kernel
  intro x hx
  obtain ⟨a1, a2, a3, a4, a5, a6, a7, a8, a9, a10, a11, a12⟩ := all x hx
  simp only [State.authBad, authSlot, a1, a2, a3, a4, a5, a6, a7, a8, a9, a10, a11, a12, k, e5, p0, f, r, h]
  simp only [List.mem_cons, List.not_mem_nil, or_false] at hx
  rcases hx with rfl | rfl | rfl | rfl <;> decide +kernel

/-- Commands in service: one done, one of an unknown operation; the totals of master 18 saturated. -/
theorem wit_PylonServesCommitsAndCounts : pylon.pyl.serving ∉ [some 0, some 1, some 3] ∧ (serving (opOf 1)).pyl.serving ∈ [some 0, some 1, some 3] ∧
    records.tol.toSign ≠ [] ∧ (flds records [(Fld.PYL_STAT_LIFECYCLE, 2)]).maySign = true ∧ pylon.tol.toSign = [] ∧
    (serving (opOf 1)).pyl.cmd = some (opOf 1) ∧ (opOf 1).op ∈ knownOps ∧ (opOf 0x61).op ∉ knownOps ∧ (opOf 1).served = false ∧
    (serving (opOf 1)).dmaOk 12 ((opOf 1).addr + 0x1C) 8 true = true ∧ pylon.takes 3 Reg.PYL_IMGCOMMIT = true ∧ (0xC0A70001 : Word).toNat / 65536 = 0xC0A7 ∧
    (0xC0A70001 : Word).toNat.testBit 0 = true ∧ pylon.bit Fld.PYL_IMGSTAT_COMMITTED = false ∧ (flds pylon [(Fld.PYL_IMGSTAT_COMMITTED, 1)]).bit Fld.PYL_IMGSTAT_COMMITTED = true ∧
    (∀ e ∈ [(leAt pylon.load.hdr 0x10 1, leAt pylon.load.hdr 0x11 1, (leAt pylon.load.hdr 0x13 1).testBit 0)] ++
      (if pylon.lenOf 8 = 0 then [] else [(pylon.cfgB 8 0, pylon.cfgB 8 1, (pylon.cfgB 8 3).testBit 0)]) ++ pylon.pyl.elems, e.1 < 64 ∧ e.2.1 < 256) ∧
    pylon.takes 3 Reg.PYL_LCCTL = true ∧ (0x1D7E0002 : Word).toNat / 65536 = 0x1D7E ∧ (0x1D7E0002 : Word).toNat % 4 = 2 ∧ pylon.lifecycle ≠ 1 ∧
    (let s := flds pylon [(Fld.PYL_STAT_LIFECYCLE, 1)]; s.lifecycle = 1 ∧ (s.get Fld.PYL_KFUSE_FUSED).testBit 0 = true ∧ (s.get Fld.PYL_KFUSE_FUSED).testBit 6 = true) ∧
    pylon.asleep = false ∧ pylon.load.stage = .run ∧ (flds pylon [(Fld.CWY_VIOL_COUNT 18, 1)]).get (Fld.CWY_VIOL_COUNT 18) ≠ 0 := by decide +kernel
theorem wit_InterruptSourcesFollowTheirBits : (flds pylon [(Fld.PYL_EVT_BOOT_FAIL, 1)]).irq 0 26 = true ∧ pylon.irq 0 31 = false := by decide +kernel
theorem wit_ModeAndLaterCommitsAreIgnored : (BitVec.ofNat 32 (Reg.HLK_CTRL 1)).toNat = Reg.HLK_CTRL 1 ∧ hosts.takes 3 (Reg.HLK_CTRL 1) = true ∧ hosts.bit (Fld.HLK_CTRL_EN 1) = true ∧
    pylon.takes 3 Reg.PYL_IMGCOMMIT = true ∧ (2 : Word).toNat.testBit 0 = false ∧ (1 : Word).toNat / 65536 ≠ 0xC0A7 ∧ (1 : Word).toNat.testBit 0 = true := by decide +kernel

/-- A load that waits for the PLL; one that streams slot 1, whose directory has a KST_COEF section of 64 zeros first; one that awaits its RAM. -/
def waiting : State := { powered with load := {} }
def coefEntry : List Byte := [3, 0, 0xFF, 0xFF] ++ toLE 4 0x1000 ++ toLE 4 64 ++ toLE 4 64 ++ sha3 256 (List.replicate 64 0) ++ List.replicate 16 0
def streaming : State := { powered with load := { stage := .stream, cur := 1, hdr := List.replicate 12 0 ++ [2, 0] ++ List.replicate 242 0 ++ coefEntry } }
/-- Header and directory of a slot with that one section, as a wake finds them. -/
def wakeHdr : List Byte := List.replicate 12 0 ++ [1, 0] ++ List.replicate 242 0 ++ coefEntry
def waking : State := { asleep .standby with load := { stage := .run, wake := true } }
theorem coefEntry_length : coefEntry.length = 64 := by
  simp only [coefEntry, List.length_append, sha3_zeros_length 64 (by decide), List.length_replicate, toLE, List.length_cons, List.length_nil]
/-- Where the flash of slot k holds zeros at 0x1000, that section has content. -/
theorem content_coef (s : State) (k : Nat) (h : s.flash k 0x1000 64 = List.replicate 64 0) : s.content k coefEntry = some (List.replicate 64 0) := by
  have a1 : eOff coefEntry = 0x1000 := by decide +kernel
  have a2 : eStored coefEntry = 64 := by decide +kernel
  have a3 : (leAt coefEntry 1 1).testBit 0 = false := by decide +kernel
  have a4 : eLen coefEntry = 64 := by decide +kernel
  have a5 : (coefEntry.drop 0x10).take 32 = sha3 256 (List.replicate 64 0) := by
    have : coefEntry = ([3, 0, 0xFF, 0xFF] ++ toLE 4 0x1000 ++ toLE 4 64 ++ toLE 4 64) ++ (sha3 256 (List.replicate 64 0) ++ List.replicate 16 0) := by
      simp only [coefEntry, List.append_assoc]
    rw [this, List.drop_left' (by decide), List.take_left' (by rw [sha3_zeros_length 64 (by decide)])]
  simp [State.content, a1, a2, a3, a4, a5, h]
theorem wit_ImageLoadAdvances : waiting.load.stage = .boot ∧ waiting.bit Fld.ABT_SUPPLY_VIN_OK = true ∧ waiting.pwr.st = .run ∧ run.load.stage ≠ .boot ∧
    streaming.load.stage = .stream ∧ (let s := { waiting with load := { stage := .seal } }; s.load.stage = .seal) ∧
    waking.load.wake = true ∧ eType coefEntry ≠ 8 ∧ streaming.load.next + 1 ≠ sectCount streaming.load.hdr := by decide +kernel
theorem wit_ImageLoadAdvances_section : dirEntry streaming.load.hdr streaming.load.next = coefEntry ∧
    streaming.content streaming.load.cur coefEntry = some (List.replicate 64 0) ∧ ∀ u : State, u.sectionReason coefEntry (List.replicate 64 0) = 0 := by
  refine ⟨?_, content_coef _ _ (by decide +kernel), fun u => ?_⟩
  · show ((List.replicate 12 0 ++ [2, 0] ++ List.replicate 242 0 ++ coefEntry).drop 256).take 64 = coefEntry
    rw [List.drop_left' (by simp only [List.length_append, List.length_replicate, List.length_cons, List.length_nil]), List.take_of_length_le (by rw [coefEntry_length])]
  · have : eType coefEntry = 3 := by decide +kernel
    simp [State.sectionReason, this]
theorem wit_ImageLoadAdvances_wake :
    let s := { waking with pwr := { waking.pwr with resume := some (1, sha3 512 wakeHdr, true) } }
    let s1 := { s with load := { s.load with slots := updAt s.load.slots 1 (fun _ => bytesAt 0 wakeHdr) } }
    s1.slotHdr 1 = wakeHdr ∧ ∀ e ∈ entries (s1.slotHdr 1), (s1.content 1 e).isSome = true := by
  intro s s1
  have len : wakeHdr.length = 320 := by
    simp only [wakeHdr, List.length_append, coefEntry_length, List.length_replicate, List.length_cons, List.length_nil]
  have f : ∀ n, wakeHdr.length = n → s1.flash 1 0 n = wakeHdr := fun n h => map_bytesAt wakeHdr 0 n h
  have c : leAt (s1.flash 1 0 256) 0x0C 2 = 1 := by decide +kernel
  have h : s1.slotHdr 1 = wakeHdr := by unfold State.slotHdr; rw [c]; exact f 320 len
  refine ⟨h, ?_⟩
  rw [h]
  have d : entries wakeHdr = [coefEntry] := by
    have : sectCount wakeHdr = 1 := by decide +kernel
    simp only [entries, this, List.range_one, List.map_cons, List.map_nil]
    show [((List.replicate 12 0 ++ [1, 0] ++ List.replicate 242 0 ++ coefEntry).drop 256).take 64] = [coefEntry]
    rw [List.drop_left' (by simp only [List.length_append, List.length_replicate, List.length_cons, List.length_nil]), List.take_of_length_le (by rw [coefEntry_length])]
  rw [d]
  intro e he
  rw [List.mem_singleton.mp he, content_coef s1 1 (map_bytesAt_after wakeHdr 0 0x1000 64 (by rw [len]; decide))]; rfl

/-! ### The worked examples of the spec -/

/-- spec/00: the codes of sQ3.12. -/
theorem test_signed_codes : toS 16 0x1800 = 6144 ∧ toS 16 0xE800 = -6144 ∧ ofS 16 (-6144) = 0xE800 := by decide

/-- spec/10: seven DC points and one AC point leave three slots, eight and four one; the save intervals of that configuration. -/
theorem test_slots_and_budget : ringSlots 7 1 = 3 ∧ ringSlots 8 4 = 1 ∧ budgetOk 3 10 102 = true ∧ budgetOk 3 3 102 = true ∧
    budgetOk 3 2 102 = false := by decide

/-- spec/03: phase 8 and phase 24 of 32 at 40 kHz and duty 0.4; the edge that carries 10 fine steps. -/
theorem test_edges : edgeCode 960000 5 240000 0 = (7500, 0) ∧ cmdWord 0 7500 19500 = 0x0EA64C2C ∧ edgeCode 960000 5 1104000 0 = (4500, 0) ∧
    edgeCode 960000 5 240010 0 = (7500, 10) := by decide

def evening (coach : Bool) : List LOut :=
  [{ c := 0, cls := 1, active := true, d := 2214 * 256, vcap := 2583 * 256 }, { c := 1, cls := 0, active := coach, d := 1950 * 256, vcap := 1248 * 256 },
   { c := 2, cls := 1, active := true, d := 1530 * 256, vcap := 1360 * 256 }, { c := 4, cls := 2, active := true, d := 300 * 256, vcap := 1200 * 256 }]

def eveningG (o : LOut) : Int := if o.c = 4 then 50 * 256 else if o.c = 2 then 300 * 256 else 500 * 256

/-- spec/06: the Brennmoor evening peak, in 1/256 kW. -/
theorem test_evening_peak :
    let l := waterFill (evening true) eveningG (3258 * 256) (1000 * 256) (142 * 256) (1500 * 256) (1500 * 256) 0 true
    l.outs.map (fun o => (o.c, o.a)) = [(0, 2100 * 256), (1, 1248 * 256), (2, 1360 * 256), (4, 50 * 256)] ∧
    l.achg = 4758 * 256 ∧ l.net = 4900 * 256 ∧ l.b = -1500 * 256 := by decide +kernel

/-- spec/06: after the coach has finished. -/
theorem test_evening_later :
    let l := waterFill (evening false) eveningG (3258 * 256) (1000 * 256) (142 * 256) (1500 * 256) (1500 * 256) 0 true
    l.outs.map (fun o => (o.c, o.a)) = [(0, 2214 * 256), (2, 1360 * 256), (4, 300 * 256)] ∧ l.achg = 3874 * 256 ∧ l.b = -616 * 256 := by
  decide +kernel

/-- spec/06: the codes of KST_OUT0_ARCHP, KST_OUT0_ARCHI and KST_OUT4_ARCHI, and the shares of piers 0 and 1. -/
theorem test_ceiling_codes : down8 2100 = 0x41A0 ∧ down8 (min 3000 (125 / 100 * 2100 * 1000 / 820)) = 0x5DC0 ∧
    down8 (min 500 (125 / 100 * 50 * 1000 / 750)) = 666 ∧ proportion 32768 [1600, 1550] = [16644, 16124] := by decide +kernel

end Sys2Proof.Tests
end

/-! SUPPORT. The bus: the rows of the register tables, accesses that the map allows, and what they come to. -/

namespace Sys2Proof.Machine

/-! ### Frames -/

theorem OnlyRegs.trans {s t u : State} (h : OnlyRegs s t) (k : OnlyRegs t u) : OnlyRegs s u := by
  unfold OnlyRegs at *
  rw [k, h]

theorem onlyRegs_foldl {α : Type} (l : List α) (f : State → α → State) (s : State) (h : ∀ t x, OnlyRegs t (f t x)) :
    OnlyRegs s (l.foldl f s) := by
  induction l generalizing s with
  | nil => rfl
  | cons x t ih => exact (h s x).trans (ih (f s x))

theorem OnlyRegs.sameMem {s t : State} (h : OnlyRegs s t) : SameMem s t := fun a => by
  rw [h]
  rfl

theorem SameRegs.put (s : State) (f : FieldRef) (v : Nat) : SameRegs s (s.put f v) [f.addr] :=
  fun _ h => reg_put_ne s v (by simpa using h)

theorem SameRegs.setReg (s : State) (a v : Nat) : SameRegs s (s.setReg a v) [a] := fun _ h => reg_setReg_ne s v (by simpa using h)

theorem links_of_shaped {s : State} (h : s.shaped = true) : s.spn.links.length = 12 := by
  simp only [State.shaped, Bool.and_eq_true, beq_iff_eq] at h
  tauto

/-! ### Bytes of a number -/

@[simp] theorem length_toLE (n v : Nat) : (toLE n v).length = n := by
  induction n generalizing v with
  | zero => rfl
  | succ n ih => simp [toLE, ih]

theorem getElem_toLE {n i : Nat} (v : Nat) (h : i < (toLE n v).length) : (toLE n v)[i] = BitVec.ofNat 8 (v / 256 ^ i) := by
  induction n generalizing v i with
  | zero => exact absurd h (Nat.not_lt_zero _)
  | succ n ih =>
    cases i with
    | zero => simp [toLE]
    | succ i => simp [toLE, ih, Nat.div_div_eq_div_mul, Nat.pow_succ, Nat.mul_comm]

/-- Cutting a number to `n` bytes leaves those bytes. -/
theorem ofNat_byte_mod {n i : Nat} (v : Nat) (h : i < n) :
    BitVec.ofNat 8 (v % 2 ^ (8 * n) / 256 ^ i) = BitVec.ofNat 8 (v / 256 ^ i) := by
  obtain ⟨k, rfl⟩ : ∃ k, n = i + (k + 1) := ⟨n - i - 1, by omega⟩
  have e : 2 ^ (8 * (i + (k + 1))) = 256 ^ i * (256 * 256 ^ k) := by
    rw [Nat.pow_mul, show (2 : Nat) ^ 8 = 256 from rfl, Nat.pow_add, Nat.pow_succ']
  apply BitVec.eq_of_toNat_eq
  rw [BitVec.toNat_ofNat, BitVec.toNat_ofNat, e, Nat.mod_mul_right_div_self]
  exact Nat.mod_mul_right_mod _ _ _

/-- The write of a byte string changes memory alone. -/
theorem setMem_onlyMem (s : State) (a : Nat) (l : List Byte) : s.setMem a l = { s with mem := (s.setMem a l).mem } := by
  induction l generalizing s a with
  | nil => rfl
  | cons b t ih => exact ih (s.setMemB a b) (a + 1)

/-! ### The rows of the register tables -/

/-- Every field of the row has bits, lies within 32 and overlaps no other. -/
def RegDesc.sound (r : RegDesc) : Bool :=
  r.fields.all (fun f => decide (0 < f.w) && decide (f.lo + f.w ≤ 32)) &&
  decide (r.fields.Pairwise (fun f g => f.lo + f.w ≤ g.lo ∨ g.lo + g.w ≤ f.lo))

theorem regBlock_eq_nil {b : Nat} (h : b < 0x4000 ∨ 0x4012 ≤ b) : regBlock b = [] := by
  have ne (k : Nat) (hk : 0x4000 ≤ k ∧ k < 0x4012) : (b == k) = false := by
    rw [beq_eq_false_iff_ne]; omega
  simp [regBlock, ne]

/-- Every row of the tables is sound. -/
theorem regBlock_sound (b : Nat) : ∀ r ∈ regBlock b, r.sound = true := by
  by_cases h : b < 0x4000 ∨ 0x4012 ≤ b
  · simp [regBlock_eq_nil h]
  · have all : ∀ b ∈ List.range' 0x4000 18, ∀ r ∈ regBlock b, r.sound = true := by decide +kernel
    exact all b (by rw [List.mem_range'_1]; omega)

/-- The row found at an address is sound. -/
theorem findReg_sound {a : Nat} {r : RegDesc} (h : findReg a = some r) :
    (∀ f ∈ r.fields, 0 < f.w ∧ f.lo + f.w ≤ 32) ∧ r.fields.Pairwise (fun f g => f.lo + f.w ≤ g.lo ∨ g.lo + g.w ≤ f.lo) := by
  simpa [RegDesc.sound] using regBlock_sound _ r (List.mem_of_find?_eq_some h)

/-! ### The address map (R48) -/

/-- The register blocks are those of numbers 0x4000 to 0x4012. -/
theorem blockOf_eq_reg_iff (a : Nat) : blockOf a = some .reg ↔ 0x4000 ≤ a / 0x10000 ∧ a / 0x10000 ≤ 0x4012 := by
  unfold blockOf
  repeat' split
  all_goals simp only [reduceCtorEq, false_iff, true_iff, Option.some.injEq]
  all_goals omega

theorem isQsp_eq_false {a : Nat} (h : blockOf a ≠ some .reg) : isQsp a = false := by
  rw [Ne, blockOf_eq_reg_iff] at h
  simp only [isQsp, beq_eq_false_iff_ne]
  omega

/-- A write that the map allows, outside the register blocks, stores its bytes. -/
theorem busWrite_mem {s : State} {m : Master} {a n : Nat} (v : Nat) (hm : s.masterLive m = true) (ho : s.accessOk m a n true = true)
    (hon : s.blockOn a = true) (hb : blockOf a ≠ some .reg) : s.busWrite m a n v = s.setMem a (toLE n v) := by
  simp [State.busWrite, hm, ho, hon, hb]

/-! ### A write that takes effect whole (R94) -/

theorem foldl_or_eq_zero {α : Type} (g : α → Nat) (l : List α) (x : Nat) :
    l.foldl (fun m f => m ||| g f) x = 0 ↔ x = 0 ∧ ∀ f ∈ l, g f = 0 := by
  induction l generalizing x with
  | nil => simp
  | cons f t ih => simp [ih, Nat.or_eq_zero_iff, and_assoc]

/-- A register of which the level keeps no bit keeps none of any field. -/
theorem fieldGate_eq_zero {s : State} {a : Nat} {r : RegDesc} (h : s.gateMask a = 0) (hr : findReg a = some r) :
    ∀ f ∈ r.fields, s.fieldGate a f = 0 := by
  simp only [State.gateMask, hr, foldl_or_eq_zero] at h
  exact h.2

theorem gated_of_gateMask {s : State} {a : Nat} (cur v : Nat) (h : s.gateMask a = 0) : s.gated a cur v = v := by
  unfold State.gated
  split
  · next r hr =>
    refine (List.foldl_ext _ (fun v _ => v) v fun x f hf => ?_).trans (List.foldl_fixed _)
    simp [fieldGate_eq_zero h hr f hf, mclr]
  · rfl

theorem gateHit_of_gateMask {s : State} {a : Nat} (cur v : Nat) (h : s.gateMask a = 0) : s.gateHit a cur v = false := by
  unfold State.gateHit
  split
  · next r hr => exact List.any_eq_false.2 fun f hf => by simp [fieldGate_eq_zero h hr f hf]
  · rfl

theorem shut_of_gateMask {s : State} {a : Nat} (h : s.gateMask a = 0) : s.shut a = false := by
  unfold State.shut
  split
  · next r hr =>
    by_contra hs
    simp only [Bool.not_eq_false, Bool.and_eq_true, List.any_eq_true, List.all_eq_true] at hs
    obtain ⟨⟨f, hf, hw⟩, hall⟩ := hs
    have hlt : 1 < 2 ^ f.w := Nat.one_lt_two_pow ((findReg_sound hr).1 f hf).1.ne'
    have hne : (2 ^ f.w - 1) * 2 ^ f.lo ≠ 0 := Nat.mul_ne_zero (by omega) (by positivity)
    simpa [hw, fieldGate_eq_zero h hr f hf, hne.symm] using hall f hf
  · rfl

/-- Where the level keeps no bit, a write reaches the register as it is. -/
theorem leveledWrite_of_gateMask {s : State} {a : Nat} (m : Master) (v : Nat) (h : s.gateMask a = 0) :
    s.leveledWrite m a v = s.writeReg m a v := by
  simp [State.leveledWrite, gateHit_of_gateMask _ _ h, gated_of_gateMask _ _ h, shut_of_gateMask h]

theorem takes_iff {s : State} {m : Master} {a : Nat} : s.takes m a = true ↔
    s.masterLive m = true ∧ s.accessOk m a 4 true = true ∧ s.blockOn a = true ∧ s.gateMask a = 0 := by
  simp [State.takes, and_assoc]

/-- A write that takes effect whole acts on its register; the metering block takes none. -/
theorem busWrite_of_takes {s : State} {m : Master} {a : Nat} (v : Nat) (h : s.takes m a = true) (hb : blockOf a = some .reg)
    (h9 : a / 0x10000 ≠ 0x4009) : s.busWrite m a 4 v = s.writeReg m a v := by
  obtain ⟨hm, ho, hon, hg⟩ := takes_iff.1 h
  simp [State.busWrite, hm, ho, hon, hb, h9, leveledWrite_of_gateMask m v hg]

/-- A register write that takes effect whole, as the command of a row. -/
theorem wr_of_takes {s : State} {m : Master} {a : Nat} (v : Word) (h : s.takes m a = true) (hb : blockOf a = some .reg)
    (h9 : a / 0x10000 ≠ 0x4009) : s.wr m a v = s.writeReg m a v.toNat := busWrite_of_takes _ h hb h9

/-- The register write command, where it takes effect whole. -/
theorem exec_registerWrite_of_takes {s : State} {m : Master} {a : Word} (v : BitVec 64) (h : s.takes m a.toNat = true)
    (hb : blockOf a.toNat = some .reg) (h9 : a.toNat / 0x10000 ≠ 0x4009) (hq : isQsp a.toNat = false) :
    exec (.registerWrite m a 4 v) s = .next (s.writeReg m a.toNat (v.toNat % 2 ^ 32)) := by
  rw [← busWrite_of_takes _ h hb h9]
  exact if_neg (by simp [hq])

/-! ### A read that is permitted (R14) -/

theorem gives_iff {s : State} {m : Master} {a : Nat} : s.gives m a = true ↔
    s.masterLive m = true ∧ s.accessOk m a 4 false = true ∧ s.blockOn a = true := by
  simp [State.gives, and_assoc]

/-- A permitted read of a register answers what `readReg` gives. -/
theorem busRead_of_gives {s : State} {m : Master} {a : Nat} (h : s.gives m a = true) (hb : blockOf a = some .reg) :
    s.busRead m a 4 false = { (s.readReg a).2 with rdata := (s.readReg a).1 } := by
  obtain ⟨hm, ho, hon⟩ := gives_iff.1 h
  simp [State.busRead, hm, ho, hon, hb]

/-- The register read command, where the read is permitted. -/
theorem exec_rcRead_of_gives {s : State} {m : Master} {a : Word} (h : s.gives m a.toNat = true) (hb : blockOf a.toNat = some .reg)
    (hq : isQsp a.toNat = false) :
    exec (.rcRead m a) s = .next { (s.readReg a.toNat).2 with rdata := (s.readReg a.toNat).1 } := by
  rw [← busRead_of_gives h hb]
  exact if_neg (by simp [hq])

end Sys2Proof.Machine

/-! SUPPORT. A register write field by field: what each access code leaves of a field (R12, R15). -/

namespace Sys2Proof.Machine

/-- What a write of `x` leaves of a field that held `old`. -/
def FieldDesc.after (f : FieldDesc) (locked : Bool) (old x : Nat) : Nat :=
  match f.acc with
  | .rw => x
  | .rwl => if locked then old else x
  | .w1c => mclr old x
  | .w1s => old ||| x
  | _ => old

/-- A write by a field's code leaves the state or writes that field. -/
theorem writeField_cases (s : State) (a v : Nat) (f : FieldDesc) :
    s.writeField a v f = s ∨ ∃ y, s.writeField a v f = s.put ⟨a, f.lo, f.w⟩ y := by
  unfold State.writeField
  cases f.acc
  case rwl =>
    dsimp only
    split
    · exact .inl rfl
    · exact .inr ⟨_, rfl⟩
  case ro | wo | rc => exact .inl rfl
  all_goals exact .inr ⟨_, rfl⟩

theorem fieldOf_lt (v lo w : Nat) : fieldOf v lo w < 2 ^ w := Nat.mod_lt _ (by positivity)

theorem get_writeField_same (s : State) (a v : Nat) {f : FieldDesc} (hw : f.lo + f.w ≤ 32) :
    (s.writeField a v f).get ⟨a, f.lo, f.w⟩ = f.after s.isSealed (s.get ⟨a, f.lo, f.w⟩) (fieldOf v f.lo f.w) := by
  have put (y : Nat) (hy : y < 2 ^ f.w) : (s.put ⟨a, f.lo, f.w⟩ y).get ⟨a, f.lo, f.w⟩ = y :=
    (get_put_same s ⟨a, f.lo, f.w⟩ y hw).trans (Nat.mod_eq_of_lt hy)
  have hx := fieldOf_lt v f.lo f.w
  have ho := fieldOf_lt (s.reg a) f.lo f.w
  unfold State.writeField FieldDesc.after
  cases f.acc
  case rw => exact put _ hx
  case rwl =>
    dsimp only
    split
    · rfl
    · exact put _ hx
  case w1c => exact put _ (Nat.lt_of_le_of_lt (Nat.sub_le _ _) ho)
  case w1s => exact put _ (Nat.or_lt_two_pow ho hx)
  case ro | wo | rc => rfl

theorem get_writeField_disjoint (s : State) (a v : Nat) {f g : FieldDesc} (hw : f.lo + f.w ≤ 32)
    (h : f.lo + f.w ≤ g.lo ∨ g.lo + g.w ≤ f.lo) : (s.writeField a v f).get ⟨a, g.lo, g.w⟩ = s.get ⟨a, g.lo, g.w⟩ := by
  rcases writeField_cases s a v f with e | ⟨y, e⟩
  · rw [e]
  · rw [e]; exact get_put_disjoint s y hw rfl h.symm

theorem reg_writeField_ne (s : State) {a b : Nat} (v : Nat) (f : FieldDesc) (h : b ≠ a) : (s.writeField a v f).reg b = s.reg b := by
  rcases writeField_cases s a v f with e | ⟨y, e⟩
  · rw [e]
  · rw [e]; exact reg_put_ne s y h

theorem isSealed_writeField (s : State) {a : Nat} (v : Nat) (f : FieldDesc) (h : a ≠ Reg.PYL_IMGSTAT) :
    (s.writeField a v f).isSealed = s.isSealed := by
  simp only [State.isSealed, State.bit, State.get, reg_writeField_ne s v f (b := Fld.PYL_IMGSTAT_LOADED.addr) h.symm]

theorem onlyRegs_writeField (s : State) (a v : Nat) (f : FieldDesc) : OnlyRegs s (s.writeField a v f) := by
  rcases writeField_cases s a v f with e | ⟨y, e⟩ <;> rw [e] <;> rfl

/-- Fields that do not overlap are each written by their own code. -/
theorem get_writeFields (l : List FieldDesc) (s : State) {a : Nat} (v : Nat) (ha : a ≠ Reg.PYL_IMGSTAT)
    (hw : ∀ f ∈ l, f.lo + f.w ≤ 32) (hd : l.Pairwise (fun f g => f.lo + f.w ≤ g.lo ∨ g.lo + g.w ≤ f.lo)) :
    ∀ f ∈ l, (l.foldl (fun s f => s.writeField a v f) s).get ⟨a, f.lo, f.w⟩ =
      f.after s.isSealed (s.get ⟨a, f.lo, f.w⟩) (fieldOf v f.lo f.w) := by
  induction l generalizing s with
  | nil => simp
  | cons g t ih =>
    obtain ⟨hg, ht⟩ := List.forall_mem_cons.1 hw
    obtain ⟨hdg, hdt⟩ := List.pairwise_cons.1 hd
    refine List.forall_mem_cons.2 ⟨?_, fun f hf => ?_⟩
    · rw [← get_writeField_same s a v hg]
      exact foldl_keeps (fun u => u.get ⟨a, g.lo, g.w⟩) t _ _ fun u f hf => get_writeField_disjoint u a v (ht f hf) (hdg f hf).symm
    · rw [List.foldl_cons, ih _ ht hdt f hf, isSealed_writeField s v g ha, get_writeField_disjoint s a v hg (hdg f hf)]

/-- A register write acts on each field of the row by its code. -/
theorem get_writeByCode (s : State) {a : Nat} (v : Nat) {r : RegDesc} (hr : findReg a = some r) (ha : a ≠ Reg.PYL_IMGSTAT) :
    ∀ f ∈ r.fields, (s.writeByCode a v).get ⟨a, f.lo, f.w⟩ = f.after s.isSealed (s.get ⟨a, f.lo, f.w⟩) (fieldOf v f.lo f.w) := by
  obtain ⟨hw, hd⟩ := findReg_sound hr
  simp only [State.writeByCode, hr]
  exact get_writeFields r.fields s v ha (fun f hf => (hw f hf).2) hd

theorem reg_writeByCode_ne (s : State) {a b : Nat} (v : Nat) (h : b ≠ a) : (s.writeByCode a v).reg b = s.reg b := by
  unfold State.writeByCode
  split
  · exact foldl_keeps (fun t => t.reg b) _ _ _ fun t f _ => reg_writeField_ne t v f h
  · rfl

theorem onlyRegs_writeByCode (s : State) (a v : Nat) : OnlyRegs s (s.writeByCode a v) := by
  unfold State.writeByCode
  split
  · exact onlyRegs_foldl _ _ _ fun t f => onlyRegs_writeField t a v f
  · rfl

/-- A field of a word sees only the word's low 32 bits. -/
theorem fieldOf_mod_word {v lo w : Nat} (h : lo + w ≤ 32) : fieldOf (v % 2 ^ 32) lo w = fieldOf v lo w := by
  apply Nat.eq_of_testBit_eq
  intro i
  simp only [fieldOf, Nat.testBit_mod_two_pow, Nat.testBit_div_two_pow]
  by_cases hi : i < w
  · simp [hi, show i + lo < 32 by omega]
  · simp [hi]

/-- The Causeway's registers have no command of their own. -/
theorem writeReg_cwy (s : State) (m : Master) {a : Nat} (v : Nat) (h : a / 0x10000 = 0x4000) : s.writeReg m a v = s.writeByCode a v := by
  unfold State.writeReg
  rw [h]
  rfl

end Sys2Proof.Machine

/-! SUPPORT. Register reads that clear or latch (R14, R39, R164, R381, R395). -/

namespace Sys2Proof.Machine

/-- Energy registers lie in the metering block and in the tariff registers of the Tollhouse (R381). -/
theorem legalAt_eq_none (s : State) {a : Nat} (h : a < 0x40090440 ∨ 0x40091100 ≤ a ∧ a < 0x400A1000 ∨ 0x400A1C00 ≤ a) :
    s.legalAt a = none := by
  unfold State.legalAt
  dsimp only
  rw [if_neg (by omega), if_neg (by omega), if_neg (by omega)]

/-- A free value below `n` is one. -/
theorem freshBelow_lt (s : State) (n : Nat) : (s.freshBelow n).1 < max 1 n := by
  unfold State.freshBelow
  dsimp only
  split
  · exact lt_max_of_lt_left (Nat.mod_lt _ Nat.one_pos)
  · exact lt_max_of_lt_right (Nat.mod_lt _ (by omega))

theorem readReg_siteTime (s : State) : s.readReg Reg.SPN_TIMELO =
    let t := s.siteNs + (s.freshBelow (s.periodUs * 1000)).1
    (t % 2 ^ 32, (s.freshBelow (s.periodUs * 1000)).2.setReg Reg.SPN_TIMEHI (t / 2 ^ 32 % 2 ^ 32)) := by
  unfold State.readReg
  rw [legalAt_eq_none s (by decide)]
  rfl

theorem readReg_billingTime (s : State) : s.readReg Reg.TOL_TIMELO = s.readTimeLo := by
  unfold State.readReg
  rw [legalAt_eq_none s (by decide)]
  rfl

theorem readReg_hwm (s : State) : s.readReg Reg.TOL_HWMLO = s.readHwmLo := by
  unfold State.readReg
  rw [legalAt_eq_none s (by decide)]
  rfl

theorem readReg_legal {s : State} {a : Nat} (h : (s.legalAt a).isSome = true) : s.readReg a = s.readLegal a := if_pos h

/-- Every other register shows its view and clears its RC fields; STAT of a Span link loses its mark (R164). -/
theorem readReg_plain {s : State} {a : Nat} (hl : s.legalAt a = none) (h : a ∉ [Reg.SPN_TIMELO, Reg.TOL_TIMELO, Reg.TOL_HWMLO, Reg.PRP_QUEUE]) :
    s.readReg a = (s.viewReg a,
      let u := if s.role = 2 ∧ a / 0x10000 = 0x4007 then s else s.clearRc a
      if a / 0x10000 = 0x4004 ∧ a % 0x10000 < 0xC000 ∧ a % 0x1000 = 4 then
        u.modLink (a % 0x10000 / 0x1000) (fun k => { k with pflagsChanged := false }) else u) := by
  simp only [List.mem_cons, List.not_mem_nil, or_false, not_or] at h
  obtain ⟨hsite, hbill, hhwm, hqueue⟩ := h
  unfold State.readReg
  rw [hl, if_neg (by decide), if_neg hsite, if_neg hbill, if_neg hhwm]
  exact if_neg hqueue

/-- Clearing RC fields changes their register alone. -/
theorem onlyRegs_clearRc (s : State) (a : Nat) : OnlyRegs s (s.clearRc a) := by
  unfold State.clearRc
  split
  · refine onlyRegs_foldl _ _ _ fun t f => ?_
    split <;> rfl
  · rfl

/-- A row of one RC field, such as a counter's. -/
theorem clearRc_of_row {s : State} {a : Nat} {r : RegDesc} {f : FieldDesc} (hr : findReg a = some r) (hf : r.fields = [f])
    (hrc : f.acc = .rc) : s.clearRc a = s.put ⟨a, f.lo, f.w⟩ f.reset := by
  simp [State.clearRc, hr, hf, hrc]

theorem findReg_cwyViol (k : Fin 19) :
    findReg (Reg.CWY_VIOL k) = some ⟨"CWY_VIOLn", 0x40000200, [(19, 4)], [⟨0, 16, .rc, 0, false⟩]⟩ := by
  revert k; decide

theorem readReg_cwyViol (s : State) (k : Fin 19) : s.readReg (Reg.CWY_VIOL k) =
    (s.reg (Reg.CWY_VIOL k), s.put (Fld.CWY_VIOL_COUNT k) 0) := by
  have hblk : Reg.CWY_VIOL k / 0x10000 = 0x4000 := by unfold Reg.CWY_VIOL; omega
  have hv : s.viewReg (Reg.CWY_VIOL k) = s.reg (Reg.CWY_VIOL k) := by unfold State.viewReg; rw [hblk]; rfl
  have hother : Reg.CWY_VIOL k ∉ [Reg.SPN_TIMELO, Reg.TOL_TIMELO, Reg.TOL_HWMLO, Reg.PRP_QUEUE] := by
    simp only [Reg.SPN_TIMELO, Reg.TOL_TIMELO, Reg.TOL_HWMLO, Reg.PRP_QUEUE, List.mem_cons, List.not_mem_nil, or_false, not_or]
    omega
  rw [readReg_plain (legalAt_eq_none s (by omega)) hother, hv, clearRc_of_row (findReg_cwyViol k) rfl rfl]
  simp [hblk, Fld.CWY_VIOL_COUNT]

theorem readReg_linkStat (s : State) (n : Fin 12) : s.readReg (Reg.SPN_LINK_STAT n) =
    (s.reg (Reg.SPN_LINK_STAT n), (s.clearRc (Reg.SPN_LINK_STAT n)).modLink n (fun k => { k with pflagsChanged := false })) := by
  have ha : Reg.SPN_LINK_STAT n = 0x40040004 + 0x1000 * n := rfl
  have hblk : Reg.SPN_LINK_STAT n / 0x10000 = 0x4004 := by omega
  have hoff : Reg.SPN_LINK_STAT n % 0x10000 = 4 + 0x1000 * n := by omega
  have hlow : Reg.SPN_LINK_STAT n % 0x1000 = 4 := by omega
  have hidx : (4 + 0x1000 * n.val) / 0x1000 = n := by omega
  have hv : s.viewReg (Reg.SPN_LINK_STAT n) = s.reg (Reg.SPN_LINK_STAT n) := by unfold State.viewReg; rw [hblk]; rfl
  have hother : Reg.SPN_LINK_STAT n ∉ [Reg.SPN_TIMELO, Reg.TOL_TIMELO, Reg.TOL_HWMLO, Reg.PRP_QUEUE] := by
    simp only [Reg.SPN_TIMELO, Reg.TOL_TIMELO, Reg.TOL_HWMLO, Reg.PRP_QUEUE, List.mem_cons, List.not_mem_nil, or_false, not_or]
    omega
  rw [readReg_plain (legalAt_eq_none s (by omega)) hother, hv]
  simp [hblk, hoff, hlow, hidx, show 4 + 0x1000 * n.val < 0xC000 by omega]

/-- An energy that stands below the Tollhouse's registers has its words in a register block. -/
theorem blockOf_of_legalAt {s : State} {a : Nat} {x : Nat × Nat} (h : s.legalAt a = some x) (ha : a < 0x400A0000) :
    blockOf a = some .reg := by
  rw [blockOf_eq_reg_iff]
  by_contra hb
  rw [legalAt_eq_none s (by omega)] at h
  cases h

/-- A read of the low word latches the high one. -/
theorem readLegal_low {s : State} {a e : Nat} (h : s.legalAt a = some (e, a)) (ha : a < 0x400A0000) :
    s.readLegal a = (e % 2 ^ 32, s.modTol (fun t => { t with latch := sset 0 t.latch a (e / 2 ^ 32) })) := by
  simp [State.readLegal, h, Nat.not_le.2 ha]

end Sys2Proof.Machine

/-! SUPPORT. What a device reset leaves (R10, R78, R723), and the watchdog (R724, R725). -/

namespace Sys2Proof.Machine

/-! ### What a restart leaves (R10, R78) -/

/-- Entries kept by a test of their key. -/
theorem sget_filter_key {α : Type} (d : α) (p : Nat → Bool) (l : List (Nat × α)) (a : Nat) :
    sget d (l.filter (fun c => p c.1)) a = if p a then sget d l a else d := by
  induction l with
  | nil => simp [sget]
  | cons c t ih =>
    obtain ⟨k, v⟩ := c
    by_cases ha : a = k
    · subst ha
      by_cases hk : p a <;> simp [sget, hk, ih]
    · by_cases hk : p k <;> simp [sget, ha, hk, ih]

/-- A register that is not kept reads its reset value. -/
theorem reg_keepRegs (s : State) (p : Nat → Bool) (a : Nat) : (s.keepRegs p).reg a = if p a then s.reg a else (regReset a).toNat := by
  simp only [State.reg, State.keepRegs, sget_filter_key]
  split <;> rfl

theorem trsSettle1_load (s : State) (n : Nat) : (s.trsSettle1 n).load = s.load := by
  unfold State.trsSettle1
  dsimp only
  split <;> rfl

theorem trsShow_load (s : State) : s.trsShow.load = s.load := by
  refine forEach_keeps State.load _ _ _ fun t n _ => ?_
  dsimp only
  split <;> exact trsSettle1_load _ n

theorem newNonce_load (s : State) : s.newNonce.load = s.load := forEach_keeps State.load _ _ _ fun _ _ _ => rfl

theorem restartRegs_load (s : State) (shut : Bool) : (s.restartRegs shut).load = s.load := (rfl)

theorem dropRequest_load (s : State) : s.dropRequest.load = s.load := (rfl)

theorem restartUnits_load (s : State) (prp : Parapet) (chans : List Channel) : (s.restartUnits prp chans).load = {} := (rfl)

/-- The load starts again. -/
theorem restart_load (s : State) (warm : Bool) : (s.restart warm).load = {} := by
  simp only [State.restart, dropRequest_load, newNonce_load, trsShow_load, restartRegs_load, restartUnits_load]

/-- Of memory the Abutment store is left, and nothing of the image. -/
theorem restart_kept (s : State) (warm : Bool) :
    (s.restart warm).kept = (s.mem.filter (fun c => decide (c.1 < 0x08004000)), [], [], 0, s.pending) := by
  simp only [State.restart, State.dropRequest_kept, State.newNonce_kept, State.trsShow_kept, State.restartRegs_kept]
  rfl

/-- The blocks in which registers survive a restart or are set by it: Abutment, housekeeping, Pylon, Trestle. -/
def restartBlocks : List Nat := [0x4001, 0x4002, 0x4003, 0x400F]

theorem reg_put_otherBlock (s : State) {f : FieldRef} {a : Nat} (v : Nat) (ha : a / 0x10000 ∉ restartBlocks)
    (hf : f.addr / 0x10000 ∈ restartBlocks) : (s.put f v).reg a = s.reg a :=
  reg_put_ne s v fun e => ha (e ▸ hf)

theorem restartRegs_reg (s : State) (shut : Bool) {a : Nat} (ha : a / 0x10000 ∉ restartBlocks) :
    (s.restartRegs shut).reg a = s.reg a := by
  simp only [State.restartRegs, State.putB]
  repeat rw [reg_put_otherBlock _ _ ha (by decide)]
  exact reg_setReg_ne s _ fun e => ha (e ▸ by decide)

theorem trsShow_reg (s : State) {a : Nat} (ha : a / 0x10000 ∉ restartBlocks) : s.trsShow.reg a = s.reg a := by
  have ne (n o : Nat) (hn : n < 16) (ho : o < 0x40) : a ≠ 0x400F0000 + o + 0x40 * n := by
    rintro rfl
    exact ha (by rw [show (0x400F0000 + o + 0x40 * n) / 0x10000 = 0x400F by omega]; decide)
  refine forEach_keeps (fun t => t.reg a) _ _ _ fun t n hn => ?_
  have hstat : a ≠ Reg.TRS_CH_STAT n := ne n 0x14 (List.mem_range.1 hn) (by decide)
  have hcur : a ≠ Reg.TRS_CH_CUR n := ne n 0x1C (List.mem_range.1 hn) (by decide)
  have h1 : ((t.putB (Fld.TRS_CH_STAT_HELD n) false).trsSettle1 n).reg a = t.reg a :=
    (trsSettle1_reg _ hstat hcur).trans (reg_put_ne t _ hstat)
  dsimp only
  split
  · exact h1
  · exact (reg_put_ne _ _ hstat).trans h1

theorem newNonce_reg (s : State) {a : Nat} (ha : a / 0x10000 ∉ restartBlocks) : s.newNonce.reg a = s.reg a := by
  refine forEach_keeps (fun t => t.reg a) _ _ _ fun t w hw => ?_
  have hw8 : w < 8 := List.mem_range.1 hw
  refine reg_put_otherBlock _ _ ha ?_
  rw [show (Fld.PYL_NONCE_WORD w).addr / 0x10000 = 0x4003 by simp only [Fld.PYL_NONCE_WORD, Reg.PYL_NONCE]; omega]
  decide

/-- PD0 and the fuses keep registers of those blocks only. -/
theorem not_kept_of_otherBlock {a : Nat} (ha : a / 0x10000 ∉ restartBlocks) : (isPd0 a || isFuse a) = false := by
  simp only [restartBlocks, List.mem_cons, List.not_mem_nil, or_false, not_or] at ha
  simp only [isPd0, isFuse, Bool.or_eq_false_iff, Bool.and_eq_false_iff, beq_eq_false_iff_ne, decide_eq_false_iff_not]
  unfold Reg.PYL_KFUSE Reg.PYL_CTR Reg.PYL_STAT
  omega

theorem restartUnits_reg (s : State) (prp : Parapet) (chans : List Channel) (a : Nat) : (s.restartUnits prp chans).reg a = s.reg a := (rfl)

theorem unload_reg (s : State) (a : Nat) : s.unload.reg a = s.reg a := (rfl)

theorem dropRequest_reg (s : State) (a : Nat) : s.dropRequest.reg a = s.reg a := (rfl)

theorem restart_reg (s : State) (warm : Bool) {a : Nat} (ha : a / 0x10000 ∉ restartBlocks) :
    (s.restart warm).reg a = (regReset a).toNat := by
  simp only [State.restart, dropRequest_reg, newNonce_reg _ ha, trsShow_reg _ ha, restartRegs_reg _ _ ha, restartUnits_reg, unload_reg,
    reg_keepRegs, not_kept_of_otherBlock ha, Bool.false_eq_true, if_false]

/-! ### Device resets (R723) -/

theorem beginGasp_pwr (s : State) (loss : Rat) : (s.beginGasp loss).pwr = s.pwr := by
  unfold State.beginGasp
  split <;> rfl

theorem endGasp_pwr (s : State) (energies marker : Bool) : (s.endGasp energies marker).pwr = s.pwr := by
  unfold State.endGasp
  split <;> rfl

/-- A warm reset of a powered device without a shutdown latch: what its last gasp leaves restarts. -/
theorem warmReset_eq {s : State} (cause : Nat) (hv : s.vinOk = true) (hst : s.pwr.st ≠ .off) (hl : s.pwr.shutLatch = false) :
    s.warmReset cause =
      ((((((s.beginGasp s.tol.bill).endGasp true true).restart true).put Fld.ABT_RSTCAUSE_CAUSE cause).putB Fld.ABT_SUPPLY_ON_VBAT false).modPwr
        (fun p => { p with st := .run, domains := 0x3FF })) := by
  have hlatch : ((s.beginGasp s.tol.bill).endGasp true true).pwr.shutLatch = false := by rw [endGasp_pwr, beginGasp_pwr, hl]
  have hgo : (!s.vinOk || s.pwr.st == .off) = false := by simp [hv, hst]
  unfold State.warmReset
  rw [hgo, if_neg Bool.false_ne_true]
  dsimp only
  rw [hlatch, if_neg Bool.false_ne_true]

/-- The device runs again from the boot ROM with a cause in RSTCAUSE. -/
def Restarted (s t : State) (cause : Nat) : Prop :=
  t.get Fld.ABT_RSTCAUSE_CAUSE = cause ∧ t.pwr.st = .run ∧ t.pwr.domains = 0x3FF ∧ t.load = {} ∧ t.img = [] ∧
    (∀ a, a / 0x10000 ∉ restartBlocks → t.reg a = (regReset a).toNat) ∧ (∀ a, a < 0x08004000 → t.memB a = s.memB a)

/-- A restarted state that then takes its cause and its power state. -/
theorem restarted_of_restart {s r : State} {cause : Nat}
    (hk : r.kept = (s.mem.filter (fun c => decide (c.1 < 0x08004000)), [], [], 0, s.pending)) (hload : r.load = {})
    (hreg : ∀ a, a / 0x10000 ∉ restartBlocks → r.reg a = (regReset a).toNat) (hc : cause < 16) :
    Restarted s (((r.put Fld.ABT_RSTCAUSE_CAUSE cause).putB Fld.ABT_SUPPLY_ON_VBAT false).modPwr
      (fun p => { p with st := .run, domains := 0x3FF })) cause := by
  simp only [State.kept, Prod.mk.injEq] at hk
  obtain ⟨hmem, himg, -⟩ := hk
  refine ⟨?_, rfl, rfl, hload, himg, fun a ha => ?_, fun a ha => ?_⟩
  · refine (get_put_ne _ (g := Fld.ABT_RSTCAUSE_CAUSE) _ (by decide)).trans ?_
    rw [get_put_same r _ _ (by decide)]
    exact Nat.mod_eq_of_lt hc
  · exact (reg_put_otherBlock _ _ ha (by decide)).trans ((reg_put_otherBlock r _ ha (by decide)).trans (hreg a ha))
  · show sget 0 r.mem a = sget 0 s.mem a
    rw [hmem, sget_filter_key 0 (fun k => decide (k < 0x08004000)), if_pos (decide_eq_true ha)]

theorem warmReset_restarted {s : State} {cause : Nat} (hv : s.vinOk = true) (hst : s.pwr.st ≠ .off) (hl : s.pwr.shutLatch = false)
    (hc : cause < 16) : Restarted s (s.warmReset cause) cause := by
  rw [warmReset_eq cause hv hst hl]
  have hk : ((s.beginGasp s.tol.bill).endGasp true true).kept = s.kept := by simp
  generalize (s.beginGasp s.tol.bill).endGasp true true = u at hk
  simp only [State.kept, Prod.mk.injEq] at hk
  obtain ⟨hmem, -, -, -, hpend⟩ := hk
  have hr := restart_kept u true
  rw [hmem, hpend] at hr
  exact restarted_of_restart hr (restart_load u true) (fun a ha => restart_reg u true ha) hc

/-! ### The writes of ABT_RESET, ABT_WDOG and ABT_WDKICK (R724, R725) -/

theorem wr_reset {s : State} {m : Master} (v : Word) (h : s.takes m Reg.ABT_RESET = true) :
    s.wr m Reg.ABT_RESET v = s.wrReset m v.toNat := wr_of_takes v h (by decide) (by decide)

theorem wr_watchdog {s : State} {m : Master} (v : Word) (h : s.takes m Reg.ABT_WDOG = true) :
    s.wr m Reg.ABT_WDOG v = s.wrWatchdog v.toNat := wr_of_takes v h (by decide) (by decide)

theorem wr_kick {s : State} {m : Master} (v : Word) (h : s.takes m Reg.ABT_WDKICK = true) :
    s.wr m Reg.ABT_WDKICK v = s.wrKick m v.toNat := wr_of_takes v h (by decide) (by decide)

theorem wrReset_key {s : State} (m : Master) {v : Nat} (hk : v / 65536 = 0x9E27) (h0 : v.testBit 0 = true) :
    s.wrReset m v = s.warmReset 2 := by
  simp [State.wrReset, hk, h0]

theorem wrKick_key {s : State} (m : Master) {v : Nat} (hk : v / 65536 = 0xA5C3) (h0 : v.testBit 0 = true)
    (hen : s.bit Fld.ABT_WDOG_EN = true) : s.wrKick m v = s.modPwr (fun p => { p with wdHalf := false }) := by
  simp [State.wrKick, hk, h0, hen]

theorem wdRuns_iff {s : State} : s.wdRuns = true ↔
    s.bit Fld.ABT_WDOG_EN = true ∧ s.pwr.st ≠ .standby ∧ s.pwr.st ≠ .park ∧ s.pwr.st ≠ .off := by
  simp [State.wdRuns, State.asleep, and_assoc]

theorem wrWatchdog_off {s : State} (v : Nat) (h : s.bit Fld.ABT_WDOG_EN = false) : s.wrWatchdog v =
    ((s.put Fld.ABT_WDOG_TIMEOUT v).putB Fld.ABT_WDOG_EN (v.testBit 31)).modPwr (fun p => { p with wdHalf := false }) := by
  simp [State.wrWatchdog, h]

/-- TIMEOUT and EN as written, and nothing else. -/
theorem wdog_fields_written (s : State) (v : Nat) (b : Bool) :
    let t := (s.put Fld.ABT_WDOG_TIMEOUT v).putB Fld.ABT_WDOG_EN b
    t.bit Fld.ABT_WDOG_EN = b ∧ t.get Fld.ABT_WDOG_TIMEOUT = v % 2 ^ 24 ∧ SameRegs s t [Reg.ABT_WDOG] ∧ SameMem s t := by
  refine ⟨bit_putB_same _ _ _ (by decide) (by decide), ?_, fun a ha => ?_, fun _ => rfl⟩
  · exact (get_put_disjoint _ (f := Fld.ABT_WDOG_EN) (g := Fld.ABT_WDOG_TIMEOUT) _ (by decide) rfl (by decide)).trans
      (get_put_same s _ v (by decide))
  · have hne : a ≠ Reg.ABT_WDOG := by simpa using ha
    exact (reg_put_ne _ _ hne).trans (reg_put_ne s v hne)

end Sys2Proof.Machine

/-! PROOFS. The statements of spec/00 to spec/03 and spec/17 on reset, access and restart. -/

namespace Sys2Proof.Machine

/-- Settles O2: the register file after reset lists nothing, so every register reads its row's reset value by definition. -/
theorem resetLeavesEveryRegisterAtItsResetValue : Obligations.ResetLeavesEveryRegisterAtItsResetValue := by
  unfold Obligations.ResetLeavesEveryRegisterAtItsResetValue
  refine ⟨fun _ => rfl, ?_, ?_, fun _ => rfl, rfl, rfl, rfl, rfl, ?_⟩
  · decide
  · decide
  · decide

/-- Settles O6: an effect is a next state by its own definition, but for the three accesses that ask whether they reach the QSP block. -/
theorem commandsCompleteOutsideQsp : Obligations.CommandsCompleteOutsideQsp := by
  unfold Obligations.CommandsCompleteOutsideQsp
  refine ⟨fun c s hw hr hf => ?_, fun s m a ha hm ho => ?_⟩
  · cases c with
    | registerWrite m a n v => exact ⟨_, if_neg (by simp [isQsp, hw m a n v rfl])⟩
    | rcRead m a => exact ⟨_, if_neg (by simp [isQsp, hr m a rfl])⟩
    | forbiddenRead m a n f => exact ⟨_, if_neg (by simp [isQsp, hf m a n f rfl])⟩
    | _ => exact ⟨_, rfl⟩
  · exact if_pos (by simp [isQsp, ha, hm, ho])

/-- Settles O9, by what a byte string written to memory leaves there and elsewhere. -/
theorem allowedWritesStoreTheirBytes : Obligations.AllowedWritesStoreTheirBytes := by
  unfold Obligations.AllowedWritesStoreTheirBytes
  intro s m a n v hm ho hon hb
  refine ⟨s.setMem a.toNat (toLE n (v.toNat % 2 ^ (8 * n))), ?_, fun i hi => ?_, fun b hbd => ?_, setMem_onlyMem _ _ _⟩
  · rw [← busWrite_mem _ hm ho hon hb]
    exact if_neg (by simp [isQsp_eq_false hb])
  · rw [memB_setMem_inside _ _ _ _ (by simpa using hi), getElem_toLE, ofNat_byte_mod _ hi]
  · exact memB_setMem_outside _ _ (by simpa using hbd)

/-- Settles O10: a write that takes effect whole runs over the fields of the row, which do not overlap. -/
theorem writesActFieldByFieldOnTheirCode : Obligations.WritesActFieldByFieldOnTheirCode := by
  unfold Obligations.WritesActFieldByFieldOnTheirCode
  intro s m a v r ha ht hr
  have hb : blockOf a.toNat = some .reg := (blockOf_eq_reg_iff _).2 (by omega)
  have hne : a.toNat ≠ Reg.PYL_IMGSTAT := by unfold Reg.PYL_IMGSTAT; omega
  have hx := exec_registerWrite_of_takes v ht hb (by omega) (by simp [isQsp, ha])
  rw [writeReg_cwy s m _ ha] at hx
  refine ⟨_, hx, fun f hf => ?_, fun b hb => ?_, onlyRegs_writeByCode _ _ _⟩
  · rw [get_writeByCode s _ hr hne f hf, fieldOf_mod_word ((findReg_sound hr).1 f hf).2]
    unfold FieldDesc.after
    cases f.acc <;> rfl
  · exact reg_writeByCode_ne s _ (by simpa using hb)

/-- Settles O11: a permitted read is `readReg`, register by register. -/
theorem readsClearAndLatch : Obligations.ReadsClearAndLatch := by
  unfold Obligations.ReadsClearAndLatch
  intro s m
  refine ⟨fun k a ha hg => ?_, fun hg => ?_, fun hg => ?_, fun hg => ?_, fun n hs hg => ?_, fun a e he ha hg => ?_⟩
  · have hb : blockOf a.toNat = some .reg := (blockOf_eq_reg_iff _).2 (by rw [ha]; unfold Reg.CWY_VIOL; omega)
    have hx := exec_rcRead_of_gives (ha ▸ hg) hb (by simp only [ha, isQsp, Reg.CWY_VIOL, beq_eq_false_iff_ne]; omega)
    rw [ha, readReg_cwyViol] at hx
    exact ⟨_, hx, rfl, get_put_same s (Fld.CWY_VIOL_COUNT k) 0 (by simp [Fld.CWY_VIOL_COUNT]), SameRegs.put s (Fld.CWY_VIOL_COUNT k) 0,
      fun _ => rfl⟩
  · refine ⟨_, congrArg Host.Outcome.next (busRead_of_gives hg (by decide)), ?_⟩
    rw [readReg_siteTime]
    exact ⟨(s.freshBelow (s.periodUs * 1000)).1, freshBelow_lt s _, rfl, by simp, SameRegs.setReg _ _ _, fun _ => rfl⟩
  · refine ⟨_, congrArg Host.Outcome.next (busRead_of_gives hg (by decide)), ?_⟩
    rw [readReg_billingTime]
    exact ⟨rfl, rfl, fun _ _ => rfl, fun _ => rfl⟩
  · refine ⟨_, congrArg Host.Outcome.next (busRead_of_gives hg (by decide)), ?_⟩
    rw [readReg_hwm]
    exact ⟨rfl, rfl, fun _ _ => rfl, fun _ => rfl⟩
  · have hb : blockOf (Reg.SPN_LINK_STAT n) = some .reg := (blockOf_eq_reg_iff _).2 (by unfold Reg.SPN_LINK_STAT; omega)
    refine ⟨_, congrArg Host.Outcome.next (busRead_of_gives hg hb), ?_⟩
    rw [readReg_linkStat]
    have hc := onlyRegs_clearRc s (Reg.SPN_LINK_STAT n)
    refine ⟨rfl, ?_, hc.sameMem⟩
    have hl : n.val < (s.clearRc (Reg.SPN_LINK_STAT n)).spn.links.length := by
      rw [hc]; exact (links_of_shaped hs).symm ▸ n.isLt
    exact congrArg Link.pflagsChanged (nth_updAt_same {} _ hl)
  · refine ⟨_, (congrArg Host.Outcome.next (if_pos (by simp [he]))).trans
      (congrArg Host.Outcome.next (busRead_of_gives hg (blockOf_of_legalAt he ha))), ?_⟩
    rw [readReg_legal (by simp [he]), readLegal_low he ha]
    exact ⟨rfl, sget_sset_same _ _ _ _, fun _ _ => rfl, fun _ => rfl⟩

/-- Settles O51: each of the four commands is one warm reset, and a warm reset is a restart that takes its cause. -/
theorem deviceResetsRestart : Obligations.DeviceResetsRestart := by
  unfold Obligations.DeviceResetsRestart
  intro s
  refine ⟨fun hv hst hl i cause hi => ?_, fun hen hst => ?_, fun m v ht hen hk h0 => ?_, fun m v ht hen => ?_⟩
  · have reset : exec i s = .next (s.warmReset cause) ∧ cause < 16 := by
      rcases hi with ⟨c, rfl, rfl, h2, h6⟩ | ⟨rfl, hen, hs, hp, rfl⟩ | ⟨rfl, hd, ho, hon, rfl⟩ | ⟨m, v, rfl, ht, hk, h0, rfl⟩
      · exact ⟨congrArg Host.Outcome.next (if_pos ⟨h2, h6⟩), by omega⟩
      · exact ⟨congrArg Host.Outcome.next (if_pos (wdRuns_iff.2 ⟨hen, hs, hp, hst⟩)), by decide⟩
      · exact ⟨congrArg Host.Outcome.next (if_pos (by simp [hd, ho, hon])), by decide⟩
      · exact ⟨congrArg Host.Outcome.next ((wr_reset v ht).trans (wrReset_key m hk h0)), by decide⟩
    exact ⟨_, reset.1, warmReset_restarted hv hst hl reset.2⟩
  · exact congrArg Host.Outcome.next (if_pos (wdRuns_iff.2 (by simp [hen, hst])))
  · exact congrArg Host.Outcome.next ((wr_kick v ht).trans (wrKick_key m hk h0 hen))
  · refine ⟨_, congrArg Host.Outcome.next ((wr_watchdog v ht).trans (wrWatchdog_off v.toNat hen)), ?_⟩
    obtain ⟨hbit, hget, hregs, hmem⟩ := wdog_fields_written s v.toNat (v.toNat.testBit 31)
    exact ⟨hbit, hget, rfl, hregs, hmem⟩

end Sys2Proof.Machine

/-! SUPPORT. Which registers the end of an Arch period's start writes: the ledger it shows and the maxima of the vehicle links. -/

namespace Sys2Proof.Machine

theorem reg_put_otherAddrBlock (s : State) {f : FieldRef} {a : Nat} (v : Nat) (h : f.addr / 0x10000 ≠ a / 0x10000) :
    (s.put f v).reg a = s.reg a := reg_put_ne s v fun e => h (e ▸ rfl)

theorem showLedger_reg (s : State) (l : Ledger) {a : Nat} (ha : a / 0x10000 ≠ 0x4007) : (s.showLedger l).reg a = s.reg a := by
  have put (t : State) (f : FieldRef) (v : Nat) (hf : f.addr / 0x10000 = 0x4007) : (t.put f v).reg a = t.reg a :=
    reg_put_otherAddrBlock t v fun e => ha (e ▸ hf)
  have ledg (t : State) (w v : Nat) (hw : w < 8) : (t.put (Fld.ARC_LEDG_KW w) v).reg a = t.reg a :=
    put _ _ _ (by simp only [Fld.ARC_LEDG_KW, Reg.ARC_LEDG]; omega)
  have outs (t : State) (c : Nat) (hc : c ∈ List.range 16) (d x : Int) :
      ((t.putS (Fld.ARC_OUT_DEM_KW c) d).putS (Fld.ARC_OUT_ALLOC_KW c) x).reg a = t.reg a := by
    have hc : c < 16 := List.mem_range.1 hc
    refine (put _ _ _ ?_).trans (put _ _ _ ?_)
    · simp only [Fld.ARC_OUT_ALLOC_KW, Reg.ARC_OUT_ALLOC]; omega
    · simp only [Fld.ARC_OUT_DEM_KW, Reg.ARC_OUT_DEM]; omega
  unfold State.showLedger
  extract_lets k s1 free s2 s3
  have h1 : s1.reg a = s.reg a := by simp only [s1, k, State.putS, ledg, Nat.reduceLT]
  have hfree : free.2.reg a = s1.reg a := reg_fresh s1 32 a
  clear_value free
  have h2 : s2.reg a = s1.reg a := by
    unfold s2
    cases s1.gridW with
    | some w => simp only [k, State.putS, ledg, Nat.reduceLT]
    | none => simp only [ledg, Nat.reduceLT, hfree]
  have h3 : s3.reg a = s2.reg a := by simp only [s3, k, State.putS, ledg, Nat.reduceLT]
  rw [State.putB, put _ _ _ (by decide), ← h1, ← h2, ← h3]
  exact forEach_keeps (fun t => t.reg a) _ _ _ fun t c hc => outs t c hc _ _

theorem writeEmax_reg (s : State) {a : Nat} (ha : a / 0x10000 ≠ 0x400C) : s.writeEmax.reg a = s.reg a := by
  refine forEach_keeps (fun t => t.reg a) _ _ _ fun t n hn => ?_
  have hn : n < 8 := List.mem_range.1 hn
  have put (t : State) (f : FieldRef) (v : Nat) (hf : f.addr / 0x10000 = 0x400C) : (t.put f v).reg a = t.reg a :=
    reg_put_otherAddrBlock t v fun e => ha (e ▸ hf)
  have hi : Reg.VLK_L_EMAXI n / 0x10000 = 0x400C := by unfold Reg.VLK_L_EMAXI; omega
  have hp : Reg.VLK_L_EMAXP n / 0x10000 = 0x400C := by unfold Reg.VLK_L_EMAXP; omega
  dsimp only
  split
  · rfl
  · rw [put _ (Fld.VLK_L_EMAXP_DIS n) _ hp, put _ (Fld.VLK_L_EMAXI_DIS n) _ hi, put _ (Fld.VLK_L_EMAXP_CHG n) _ hp,
      put _ (Fld.VLK_L_EMAXI_CHG n) _ hi]

theorem takeLedger_reg (s : State) (l : Ledger) (a : Nat) : (s.takeLedger l).reg a = s.reg a := by
  unfold State.takeLedger
  rfl

/-- The planner starts nothing while no pier is FREE or ASSIGNED (R278). -/
theorem plan_eq_none {s : State} (es : List LOut) (h : ∀ p ∈ s.pInfos, p.st ≠ 1 ∧ p.st ≠ 2) : s.plan es = none := by
  have hq (r : LOut) : s.pInfos.filter (s.qualifies es s.pInfos r) = [] := by
    refine List.filter_eq_nil_iff.2 fun p hp => ?_
    obtain ⟨h1, h2⟩ := h p hp
    simp [State.qualifies, State.pairOk, h1, h2]
  unfold State.plan
  simp only [hq, List.filter_nil, bestPier, Option.map_none, List.findSome?_eq_none_iff, implies_true]

/-- With no hand-off in progress and none to start, an Arch period that plans shows the ledger and its results alone. -/
theorem archPlan_reg_of_quiet {s u v : State} (hv : s.modArc (fun a => { a with planDue := false }) = v) (hu : v.releaseIdle.takeMove = u)
    (hown : v.ownLedger = true) (hhand : v.arc.hand = []) (hp : ∀ p ∈ u.pInfos, p.st ≠ 1 ∧ p.st ≠ 2)
    {a : Nat} (h7 : a / 0x10000 ≠ 0x4007) (hC : a / 0x10000 ≠ 0x400C) : (s.archPlan false).reg a = u.syncPiers.reg a := by
  unfold State.archPlan
  rw [hv]
  simp only [hown, if_true, hhand, List.foldl_nil, hu, Bool.false_eq_true, if_false, plan_eq_none _ hp]
  rw [writeEmax_reg _ hC, takeLedger_reg, showLedger_reg _ _ h7]

/-- Where the Arch runs and the ledger is not a common one, its period start is `archBegin` and the plan. -/
theorem exec_archPeriodStart_of_alone {s : State} (hon : s.archOn = true) (hc : s.archBegin.common = false) :
    exec .archPeriodStart s = .next ((s.archBegin.modArc (fun a => { a with newRec := false })).archPlan false) := by
  unfold exec execArchPeriodStart
  simp [hon, hc]

end Sys2Proof.Machine

/-! PROOFS. The statement on the Arch period fails: results that name a buffer outlet beyond the eighth. -/

namespace Sys2Proof.Machine

/-- The Arch runs outside a cascade, and the results of its last period set a buffer outlet 5,120, whose setpoint register would stand at
0x400BD004: in the Stay's block. -/
def strayBuffer : State :=
  { State.reset.putB Fld.ARC_CTRL_EN true with
    secLen := [(9, 8192)], arc := { due := some { buf := some (5120, 1) } } }

/-- What `strayBuffer` is when the plan of its Arch period starts, and when the ledger is to be shown. -/
def strayBegun : State :=
  (strayBuffer.archBegin.modArc (fun a => { a with newRec := false })).modArc (fun a => { a with planDue := false })
def strayPlanned : State := strayBegun.releaseIdle.takeMove

theorem exec_archPeriodStart_strayBuffer :
    exec .archPeriodStart strayBuffer = .next ((strayBuffer.archBegin.modArc (fun a => { a with newRec := false })).archPlan false) :=
  exec_archPeriodStart_of_alone (by decide +kernel) (by decide +kernel)

theorem strayBuffer_writes :
    ((strayBuffer.archBegin.modArc (fun a => { a with newRec := false })).archPlan false).reg (Reg.KST_OUT_SET 5120) = 1 := by
  have hown : strayBegun.ownLedger = true := by decide +kernel
  have hhand : strayBegun.arc.hand = [] := by decide +kernel
  have hquiet : ∀ p ∈ strayPlanned.pInfos, p.st ≠ 1 ∧ p.st ≠ 2 := by decide +kernel
  have hset : strayPlanned.syncPiers.reg (Reg.KST_OUT_SET 5120) = 1 := by decide +kernel
  exact (archPlan_reg_of_quiet rfl rfl hown hhand hquiet (by decide) (by decide)).trans hset

/-- Refutes O25: results in force whose buffer outlet is none of the eight are written all the same, in `strayBuffer` to a register of
the Stay. -/
theorem not_archPeriodAndRequestsAct : ¬ Obligations.ArchPeriodAndRequestsAct := by
  unfold Obligations.ArchPeriodAndRequestsAct
  intro h
  obtain ⟨-, hon, -⟩ := h strayBuffer
  obtain ⟨t, ht, -, -, -, -, -, halone⟩ := hon (by decide +kernel)
  obtain ⟨-, -, hblocks⟩ := halone (by decide +kernel) (by decide +kernel)
  rw [exec_archPeriodStart_strayBuffer] at ht
  obtain rfl := Host.Outcome.next.inj ht
  have hkept := hblocks (Reg.KST_OUT_SET 5120) (by decide)
  rw [strayBuffer_writes] at hkept
  exact absurd hkept (by decide +kernel)

end Sys2Proof.Machine

/-! SUPPORT. Interrupt sources as levels of the state (R50): the sources of the Trestle and of the host links. -/

namespace Sys2Proof.Machine

theorem irq_trestle (s : State) (other : Nat) (n : Fin 16) : s.irq other (196 + n) = s.any (Reg.TRS_CH_FAULT n) := by
  fin_cases n <;> rfl

theorem irq_hostQueues (s : State) (other : Nat) (n : Fin 2) :
    s.irq other (212 + 2 * n) = (nth {} s.cwy.hosts n).queues.any (fun q => q != []) := by
  fin_cases n <;> rfl

theorem irq_hostFlags (s : State) (other : Nat) (n : Fin 2) :
    s.irq other (213 + 2 * n) = (s.bit (Fld.HLK_STAT_RX_OVF n) || s.bit (Fld.HLK_STAT_SYNC_LOST n)) := by
  fin_cases n <;> rfl

/-- Settles O58: the sources of units with an index by their lemmas, the single ones as the table of sources has them. -/
theorem interruptSourcesFollowTheirBits : Obligations.InterruptSourcesFollowTheirBits := by
  unfold Obligations.InterruptSourcesFollowTheirBits
  intro s other
  exact ⟨fun n => ⟨irq_hostQueues s other n, irq_hostFlags s other n⟩, irq_trestle s other, rfl, rfl, rfl, rfl, rfl, rfl, rfl⟩

end Sys2Proof.Machine

/-! SUPPORT. What a forbidden access leaves (R44). -/

namespace Sys2Proof.Machine

theorem satInc_eq_min (m n : Nat) (h : n ≤ m) : satInc m n = min m (n + 1) := by
  unfold satInc
  split <;> omega

theorem get_lt (s : State) (f : FieldRef) : s.get f < 2 ^ f.w := fieldOf_lt _ _ _

/-- A counter field raised by one reads one more, or its largest value. -/
theorem get_inc_same (s : State) (f : FieldRef) (h : f.lo + f.w ≤ 32) :
    (s.inc f).get f = min (2 ^ f.w - 1) (s.get f + 1) := by
  have hlt := get_lt s f
  rw [State.inc, get_put_same s f _ h, satInc_eq_min _ _ (by omega)]
  exact Nat.mod_eq_of_lt (by omega)

/-- A forbidden access is counted at its master, with its address, and that is all that registers and memory show of it. -/
theorem violate_counts (s : State) (m : Master) {a : Nat} (ha : a < 2 ^ 32) :
    (s.violate m a).get (Fld.CWY_VIOL_COUNT m) = min 65535 (s.get (Fld.CWY_VIOL_COUNT m) + 1) ∧
    (s.violate m a).get (Fld.CWY_VADDR_ADDR m) = a ∧
    SameRegs s (s.violate m a) [Reg.CWY_VIOL m, Reg.CWY_VADDR m] ∧ SameMem s (s.violate m a) := by
  have hne : Reg.CWY_VIOL m ≠ Reg.CWY_VADDR m := by
    unfold Reg.CWY_VIOL Reg.CWY_VADDR
    omega
  refine ⟨?_, ?_, fun b hb => ?_, fun _ => rfl⟩
  · exact (get_put_ne (s.inc (Fld.CWY_VIOL_COUNT m)) (f := Fld.CWY_VADDR_ADDR m) (g := Fld.CWY_VIOL_COUNT m) a hne).trans
      (get_inc_same s (Fld.CWY_VIOL_COUNT m) (by simp [Fld.CWY_VIOL_COUNT]))
  · exact (get_put_same (s.inc (Fld.CWY_VIOL_COUNT m)) (Fld.CWY_VADDR_ADDR m) a (by simp [Fld.CWY_VADDR_ADDR])).trans
      (Nat.mod_eq_of_lt ha)
  · simp only [List.mem_cons, List.not_mem_nil, or_false, not_or] at hb
    exact (reg_put_ne (f := Fld.CWY_VADDR_ADDR m) (s.inc (Fld.CWY_VIOL_COUNT m)) a hb.2).trans
      (reg_put_ne (f := Fld.CWY_VIOL_COUNT m) s _ hb.1)

theorem busWrite_of_forbidden {s : State} {m : Master} {a n : Nat} (v : Nat) (hm : s.masterLive m = true)
    (h : s.accessOk m a n true = false) : s.busWrite m a n v = s.violate m a := by
  simp [State.busWrite, hm, h]

theorem busRead_of_forbidden {s : State} {m : Master} {a n : Nat} (fetch : Bool) (hm : s.masterLive m = true)
    (h : s.accessOk m a n false = false) : s.busRead m a n fetch = { s.violate m a with rdata := 0 } := by
  simp [State.busRead, hm, h]

/-- Settles O8: each of the three accesses comes to `violate`, since what it would reach is not asked. -/
theorem forbiddenAccessesAreCounted : Obligations.ForbiddenAccessesAreCounted := by
  unfold Obligations.ForbiddenAccessesAreCounted
  intro s m a hm
  obtain ⟨hcount, haddr, hregs, hmem⟩ := violate_counts s m a.isLt
  refine ⟨fun n v h => ?_, fun n fetch h => ?_, fun h => ?_⟩
  · refine ⟨_, (if_neg (by simp [h])).trans (congrArg Host.Outcome.next (busWrite_of_forbidden _ hm h)), hcount, haddr, hregs, hmem⟩
  · exact ⟨_, (if_neg (by simp [h])).trans (congrArg Host.Outcome.next (busRead_of_forbidden fetch hm h)), rfl, hcount, haddr, hregs, hmem⟩
  · exact ⟨_, (if_neg (by simp [h])).trans (congrArg Host.Outcome.next (busRead_of_forbidden false hm h)), rfl, hcount, haddr, hregs, hmem⟩

end Sys2Proof.Machine

/-! SUPPORT. The writes of HLK_CTRLn (R56) and of PYL_IMGCOMMIT (R71, R107). -/

namespace Sys2Proof.Machine

theorem findReg_hlkCtrl (n : Fin 2) : findReg (Reg.HLK_CTRL n) = some ⟨"HLK_CTRLn", 0x40100000, [(2, 0x8000)],
    [⟨4, 1, .rw, 0, false⟩, ⟨3, 1, .rw, 0, false⟩, ⟨2, 1, .rw, 1, false⟩, ⟨1, 1, .rw, 0, false⟩, ⟨0, 1, .rw, 0, false⟩]⟩ := by
  revert n; decide +kernel

theorem writeReg_hlkCtrl (s : State) (m : Master) (n : Fin 2) (v : Nat) : s.writeReg m (Reg.HLK_CTRL n) v = s.wrHlkCtrl n v := by
  fin_cases n <;> rfl

/-- A flag of one bit is the bit of the word. -/
theorem fieldOf_bit (v lo : Nat) : (fieldOf v lo 1 != 0) = v.testBit lo := by
  rw [Nat.testBit_eq_decide_div_mod_eq, fieldOf, Nat.pow_one]
  rcases Nat.mod_two_eq_zero_or_one (v / 2 ^ lo) with h | h <;> simp [h]

/-- With EN 1 a write of HLK_CTRL takes EN and leaves MODE; LINK and AN_DONE follow an EN of 0. -/
theorem wrHlkCtrl_of_en {s : State} {n : Fin 2} (v : Nat) (hen : s.bit (Fld.HLK_CTRL_EN n) = true) :
    (s.wrHlkCtrl n v).get (Fld.HLK_CTRL_MODE n) = s.get (Fld.HLK_CTRL_MODE n) ∧
    (s.wrHlkCtrl n v).bit (Fld.HLK_CTRL_EN n) = v.testBit 0 ∧
    SameRegs s (s.wrHlkCtrl n v) [Reg.HLK_CTRL n, Reg.HLK_STAT n] ∧ SameMem s (s.wrHlkCtrl n v) := by
  let x := fieldSet v 1 1 (s.get (Fld.HLK_CTRL_MODE n))
  let u := s.writeByCode (Reg.HLK_CTRL n) x
  have hu : s.wrHlkCtrl n v = if u.bit (Fld.HLK_CTRL_EN n) then u else
      (u.putB (Fld.HLK_STAT_LINK n) false).putB (Fld.HLK_STAT_AN_DONE n) false := by
    simp only [State.wrHlkCtrl, hen, if_true, u, x]
  have hctrl : Reg.HLK_CTRL n ≠ Reg.PYL_IMGSTAT := by unfold Reg.HLK_CTRL Reg.PYL_IMGSTAT; omega
  have hother : Reg.HLK_CTRL n ≠ Reg.HLK_STAT n := by unfold Reg.HLK_CTRL Reg.HLK_STAT; omega
  have field := get_writeByCode s x (findReg_hlkCtrl n) hctrl
  have hmode : u.get (Fld.HLK_CTRL_MODE n) = s.get (Fld.HLK_CTRL_MODE n) := by
    refine (field ⟨1, 1, .rw, 0, false⟩ (by simp)).trans ((fieldOf_fieldSet_same _ _ _ _).trans ?_)
    exact Nat.mod_eq_of_lt (fieldOf_lt _ _ _)
  have henu : u.bit (Fld.HLK_CTRL_EN n) = v.testBit 0 := by
    have h0 : u.get (Fld.HLK_CTRL_EN n) = fieldOf v 0 1 :=
      (field ⟨0, 1, .rw, 0, false⟩ (by simp)).trans (fieldOf_fieldSet_disjoint _ _ (.inl (by decide)))
    rw [State.bit, h0, fieldOf_bit]
  have hregs : SameRegs s u [Reg.HLK_CTRL n] := fun b hb => reg_writeByCode_ne s x (by simpa using hb)
  have hstat (a : Nat) (ha : a ≠ Reg.HLK_STAT n) : (s.wrHlkCtrl n v).reg a = u.reg a := by
    rw [hu]
    split
    · rfl
    · exact (reg_put_ne (f := Fld.HLK_STAT_AN_DONE n) _ _ ha).trans (reg_put_ne (f := Fld.HLK_STAT_LINK n) u _ ha)
  refine ⟨?_, ?_, fun b hb => ?_, fun b => ?_⟩
  · rw [← hmode]
    exact congrArg (fieldOf · 1 1) (hstat _ hother)
  · rw [← henu]
    exact congrArg (fieldOf · 0 1 != 0) (hstat _ hother)
  · simp only [List.mem_cons, List.not_mem_nil, or_false, not_or] at hb
    exact (hstat b hb.2).trans (hregs b (by simp [hb.1]))
  · have hm : u.memB b = s.memB b := (onlyRegs_writeByCode s _ x).sameMem b
    rw [hu]
    split
    · exact hm
    · exact hm

theorem wr_imgcommit {s : State} {m : Master} (v : Word) (h : s.takes m Reg.PYL_IMGCOMMIT = true) :
    s.wr m Reg.PYL_IMGCOMMIT v = s.wrImgcommit m v.toNat := wr_of_takes v h (by decide) (by decide)

theorem wrImgcommit_noCommit (s : State) (m : Master) {v : Nat} (h : v.testBit 0 = false) : s.wrImgcommit m v = s := by
  simp [State.wrImgcommit, h]

theorem wrImgcommit_wrongKey (s : State) (m : Master) {v : Nat} (h : v.testBit 0 = true) (hk : v / 65536 % 65536 ≠ 0xC0A7) :
    s.wrImgcommit m v = s.violate m Reg.PYL_IMGCOMMIT := by
  simp [State.wrImgcommit, h, hk]

theorem wrImgcommit_again {s : State} (m : Master) {v : Nat} (h : v.testBit 0 = true) (hk : v / 65536 % 65536 = 0xC0A7)
    (hc : s.bit Fld.PYL_IMGSTAT_COMMITTED = true) : s.wrImgcommit m v = s := by
  simp [State.wrImgcommit, h, hk, hc]

theorem wrImgcommit_first {s : State} (m : Master) {v : Nat} (h : v.testBit 0 = true) (hk : v / 65536 % 65536 = 0xC0A7)
    (hc : s.bit Fld.PYL_IMGSTAT_COMMITTED = false) : (s.wrImgcommit m v).bit Fld.PYL_IMGSTAT_COMMITTED = true := by
  simp only [State.wrImgcommit, h, hk, hc, Bool.not_true, Bool.false_eq_true, if_false, ne_eq, not_true_eq_false]
  exact bit_putB_same _ _ _ (by decide) (by decide)

theorem sameMem_of_kept {s t : State} (h : t.kept = s.kept) : SameMem s t := fun a => by
  have hm : t.mem = s.mem := congrArg Prod.fst h
  simp only [State.memB, hm]

/-- Settles O60: the write of HLK_CTRL field by field, and the four cases of a write of IMGCOMMIT. -/
theorem modeAndLaterCommitsAreIgnored : Obligations.ModeAndLaterCommitsAreIgnored := by
  unfold Obligations.ModeAndLaterCommitsAreIgnored
  intro s m a v
  refine ⟨fun n ha ht hen => ?_, fun ht => ?_⟩
  · have hb : blockOf a.toNat = some .reg := (blockOf_eq_reg_iff _).2 (by rw [ha]; unfold Reg.HLK_CTRL; omega)
    have hblk : a.toNat / 0x10000 = 0x4010 := by rw [ha]; unfold Reg.HLK_CTRL; omega
    have hx := exec_registerWrite_of_takes (v.setWidth 64) (ha ▸ ht) hb (by omega) (by simp [isQsp, hblk])
    have hv : (v.setWidth 64).toNat % 2 ^ 32 = v.toNat := by simp; omega
    rw [ha, hv, writeReg_hlkCtrl] at hx
    exact ⟨_, hx, wrHlkCtrl_of_en v.toNat hen⟩
  · have hx : exec (.imageCommit m v) s = .next (s.wrImgcommit m v.toNat) := congrArg Host.Outcome.next (wr_imgcommit v ht)
    have hv := v.isLt
    refine ⟨fun h0 => ?_, fun h0 hk => ?_, fun h0 hk => ⟨fun hc => ?_, fun hc => ?_⟩⟩
    · rw [hx, wrImgcommit_noCommit s m h0]
    · rw [hx, wrImgcommit_wrongKey s m h0 (by omega)]
    · rw [hx, wrImgcommit_again m h0 (by omega) hc]
    · exact ⟨_, hx, wrImgcommit_first m h0 (by omega) hc, sameMem_of_kept (by simp)⟩

end Sys2Proof.Machine

/-! SUPPORT. The registers and queues of the host links (R53, R54, R57). -/

namespace Sys2Proof.Machine

theorem hosts_of_shaped {s : State} (h : s.shaped = true) : s.cwy.hosts.length = 2 := by
  simp only [State.shaped, Bool.and_eq_true, beq_iff_eq] at h
  tauto

/-- A flag of HLK_STAT written leaves the others. -/
theorem bit_putB_hlkStat_ne (s : State) (n i j : Nat) (b : Bool) (h : i ≠ j) (hi : i < 32) :
    (s.putB ⟨Reg.HLK_STAT n, i, 1⟩ b).bit ⟨Reg.HLK_STAT n, j, 1⟩ = s.bit ⟨Reg.HLK_STAT n, j, 1⟩ := by
  have hg := get_put_disjoint s (f := ⟨Reg.HLK_STAT n, i, 1⟩) (g := ⟨Reg.HLK_STAT n, j, 1⟩) (if b then 1 else 0) (by simpa using hi) rfl
    (by simp only; omega)
  simp only [State.bit, State.putB, hg]

theorem bit_putB_hlkStat_same (s : State) (n i : Nat) (b : Bool) (hi : i < 32) :
    (s.putB ⟨Reg.HLK_STAT n, i, 1⟩ b).bit ⟨Reg.HLK_STAT n, i, 1⟩ = b := bit_putB_same s _ b (by simpa using hi) Nat.one_pos

theorem SameRegs.trans {s t u : State} {l : List Nat} (h : SameRegs s t l) (k : SameRegs t u l) : SameRegs s u l :=
  fun a ha => (k a ha).trans (h a ha)

theorem hostUp_of_en {s : State} {n : Fin 2} (hen : s.bit (Fld.HLK_CTRL_EN n) = true) (hpd : s.pwr.domains.testBit 7 = true) :
    s.hostUp n = true := by
  simp [State.hostUp, hen, hpd]

theorem hostLinkUp_eq {s : State} {n : Fin 2} (h : s.hostUp n = true) : exec (.hostLinkUp n) s =
    .next ((if s.bit (Fld.HLK_CTRL_AN_EN n) then s.putB (Fld.HLK_STAT_AN_DONE n) true else s).putB (Fld.HLK_STAT_LINK n) true) :=
  congrArg Host.Outcome.next (if_neg (by simp [h]))

theorem hostSyncLost_eq {s : State} {n : Fin 2} (h : s.hostUp n = true) : exec (.hostSyncLost n) s =
    .next (((s.putB (Fld.HLK_STAT_SYNC_LOST n) true).putB (Fld.HLK_STAT_LINK n) false).putB (Fld.HLK_STAT_AN_DONE n) false) :=
  congrArg Host.Outcome.next (if_neg (by simp [h]))

/-- The record of host link `n` after it has sent event frames at `out`. -/
def State.hostSent (s : State) (n : Fin 2) (out : List Nat) : State :=
  s.modCwy (fun c => { c with hosts := updAt c.hosts n (fun h => { h with txStamps := out.reverse ++ h.txStamps }) })

/-- The record of host link `n` after a frame has joined its queue `q`. -/
def State.hostQueued (s : State) (n : Fin 2) (q : Nat) (f : Nat × Option Nat) : State :=
  s.modCwy (fun c => { c with hosts := updAt c.hosts n (fun h => { h with queues := updAt h.queues q (fun l => l ++ [f]) }) })

/-- The stamps of the event frames that link `n` has sent meanwhile, and of the frame that it receives (R54). -/
def State.hostTx (s : State) (n : Fin 2) (evt : EventTimes) : List Nat :=
  if s.bit (Fld.HLK_CTRL_TS_EN n) then evt.tx.map (fun x => (s.siteNs + x) % 2 ^ 64) else []

def State.hostRx (s : State) (n : Fin 2) (evt : EventTimes) : Option Nat :=
  if s.bit (Fld.HLK_CTRL_TS_EN n) then evt.rx.map (fun x => (s.siteNs + x) % 2 ^ 64) else none

theorem hostFrameRx_full_eq {s : State} {n : Fin 2} (prio : Fin 8) {len : Nat} (evt : EventTimes) (h : s.hostUp n = true) (hl : len ≤ 2048) :
    exec (.hostFrameRx n prio len false evt none) s = .next ((s.hostSent n (s.hostTx n evt)).putB (Fld.HLK_STAT_RX_OVF n) true) := by
  have hu : (s.hostSent n (s.hostTx n evt)).hostUp n = true := h
  unfold exec execHostFrameRx
  simp only [h, Bool.true_and]
  show Host.Outcome.next (if (!(s.hostSent n (s.hostTx n evt)).hostUp n || decide (2048 < len)) = true then _ else _) = _
  rw [if_neg (by simp [hu, hl])]
  rfl

theorem hostFrameRx_room_eq {s : State} {n : Fin 2} (prio : Fin 8) {len : Nat} (evt : EventTimes) (h : s.hostUp n = true) (hl : len ≤ 2048) :
    exec (.hostFrameRx n prio len true evt none) s =
      .next ((s.hostSent n (s.hostTx n evt)).hostQueued n (prio.val / 2) (len, s.hostRx n evt)) := by
  have hu : (s.hostSent n (s.hostTx n evt)).hostUp n = true := h
  unfold exec execHostFrameRx
  simp only [h, Bool.true_and]
  show Host.Outcome.next (if (!(s.hostSent n (s.hostTx n evt)).hostUp n || decide (2048 < len)) = true then _ else _) = _
  rw [if_neg (by simp [hu, hl])]
  rfl

theorem hostSent_host {s : State} {n : Fin 2} (out : List Nat) (hn : n.val < s.cwy.hosts.length) :
    nth {} (s.hostSent n out).cwy.hosts n =
      { nth {} s.cwy.hosts n with txStamps := out.reverse ++ (nth {} s.cwy.hosts n).txStamps } := nth_updAt_same {} _ hn

theorem hostQueued_host {s : State} {n : Fin 2} (q : Nat) (f : Nat × Option Nat) (hn : n.val < s.cwy.hosts.length) :
    nth {} (s.hostQueued n q f).cwy.hosts n =
      { nth {} s.cwy.hosts n with queues := updAt (nth {} s.cwy.hosts n).queues q (fun l => l ++ [f]) } := nth_updAt_same {} _ hn

theorem nth_mem {α : Type} (d : α) {l : List α} {i : Nat} (h : i < l.length) : nth d l i ∈ l := by
  simp only [nth, List.getD_eq_getElem _ _ h, List.getElem_mem]

/-- Settles O14, event by event. -/
theorem hostLinkEventsAct : Obligations.HostLinkEventsAct := by
  unfold Obligations.HostLinkEventsAct
  intro s n hs hen hpd
  have hup := hostUp_of_en hen hpd
  have hn : n.val < s.cwy.hosts.length := by rw [hosts_of_shaped hs]; exact n.isLt
  refine ⟨⟨_, hostLinkUp_eq hup, ?_, ?_, ?_, ?_⟩, ⟨_, hostSyncLost_eq hup, ?_, ?_, ?_, ?_, ?_⟩, fun prio len evt hlen hq => ⟨?_, ?_⟩⟩
  · exact bit_putB_hlkStat_same _ n 0 true (by decide)
  · refine (bit_putB_hlkStat_ne _ n 0 1 true (by decide) (by decide)).trans ?_
    cases s.bit (Fld.HLK_CTRL_AN_EN n) with
    | true => exact bit_putB_hlkStat_same s n 1 true (by decide)
    | false => rfl
  · refine SameRegs.trans ?_ (SameRegs.put _ (Fld.HLK_STAT_LINK n) 1)
    split
    · exact SameRegs.put s (Fld.HLK_STAT_AN_DONE n) 1
    · exact fun _ _ => rfl
  · split <;> rfl
  · exact (bit_putB_hlkStat_ne _ n 1 2 false (by decide) (by decide)).trans
      ((bit_putB_hlkStat_ne _ n 0 2 false (by decide) (by decide)).trans (bit_putB_hlkStat_same s n 2 true (by decide)))
  · exact (bit_putB_hlkStat_ne _ n 1 0 false (by decide) (by decide)).trans (bit_putB_hlkStat_same _ n 0 false (by decide))
  · exact bit_putB_hlkStat_same _ n 1 false (by decide)
  · exact (SameRegs.put s (Fld.HLK_STAT_SYNC_LOST n) 1).trans ((SameRegs.put _ (Fld.HLK_STAT_LINK n) 0).trans
      (SameRegs.put _ (Fld.HLK_STAT_AN_DONE n) 0))
  · rfl
  · have hsent : n.val < (s.hostSent n (s.hostTx n evt)).cwy.hosts.length := by simpa [State.hostSent, State.modCwy] using hn
    refine ⟨_, hostFrameRx_room_eq prio evt hup hlen, ?_, ?_, fun _ _ => rfl, fun _ => rfl⟩
    · have hlen4 : prio.val / 2 < (nth {} s.cwy.hosts n).queues.length := by
        rw [hq _ (nth_mem {} hn)]
        omega
      rw [hostQueued_host _ _ hsent, hostSent_host _ hn]
      exact nth_updAt_same [] _ hlen4
    · rw [hostQueued_host _ _ hsent, hostSent_host _ hn, State.hostTx]
      split <;> rfl
  · refine ⟨_, hostFrameRx_full_eq prio evt hup hlen, bit_putB_hlkStat_same _ n 3 true (by decide), ?_,
      SameRegs.put (s.hostSent n (s.hostTx n evt)) (Fld.HLK_STAT_RX_OVF n) 1, fun _ => rfl⟩
    show (nth {} (s.hostSent n (s.hostTx n evt)).cwy.hosts n).queues = _
    rw [hostSent_host _ hn]

end Sys2Proof.Machine

/-! SUPPORT. Grants (R41, R42, R46) and claims (R51). -/

namespace Sys2Proof.Machine

theorem sum_updAt_succ_le (l : List Nat) (i : Nat) : (updAt l i (· + 1)).sum ≤ l.sum + 1 := by
  induction l generalizing i with
  | nil => simp [updAt]
  | cons x t ih =>
    cases i with
    | zero => simp [updAt]; omega
    | succ i => simpa [updAt, Nat.add_assoc] using ih i

theorem sum_updAt_pred_le (l : List Nat) (i : Nat) : (updAt l i (· - 1)).sum ≤ l.sum := by
  induction l generalizing i with
  | nil => simp [updAt]
  | cons x t ih =>
    cases i with
    | zero => simp [updAt]
    | succ i => simpa [updAt] using ih i

theorem showFlight_sameRegs (s : State) : SameRegs s s.showFlight [Reg.CWY_INFLIGHT] := fun a ha => by
  have hne : a ≠ Reg.CWY_INFLIGHT := by simpa using ha
  exact (reg_put_ne (f := Fld.CWY_INFLIGHT_PEAK) _ _ hne).trans (reg_put_ne (f := Fld.CWY_INFLIGHT_COUNT) s _ hne)

theorem showFlight_count (s : State) : s.showFlight.get Fld.CWY_INFLIGHT_COUNT = s.cwy.inFlight.sum % 128 :=
  (get_put_disjoint _ (f := Fld.CWY_INFLIGHT_PEAK) (g := Fld.CWY_INFLIGHT_COUNT) _ (by decide) rfl (by decide)).trans
    (get_put_same s _ _ (by decide))

/-- Granting takes the number in flight to 96 at most, or leaves it, and shows in CWY_INFLIGHT alone. -/
theorem grants_keeps (k : Nat) (s : State) : (State.grants k s).cwy.inFlight.sum ≤ max 96 s.cwy.inFlight.sum ∧
    SameRegs s (State.grants k s) [Reg.CWY_INFLIGHT] ∧ SameMem s (State.grants k s) := by
  induction k generalizing s with
  | zero => exact ⟨le_max_right _ _, fun _ _ => rfl, fun _ => rfl⟩
  | succ k ih =>
    have stop : s.cwy.inFlight.sum ≤ max 96 s.cwy.inFlight.sum ∧ SameRegs s s [Reg.CWY_INFLIGHT] ∧ SameMem s s :=
      ⟨le_max_right _ _, fun _ _ => rfl, fun _ => rfl⟩
    unfold State.grants
    split
    · exact stop
    · next hfree =>
      split
      · exact stop
      · next m _ =>
        dsimp only
        generalize hu : s.modCwy _ = u
        have hsum : u.cwy.inFlight.sum ≤ s.cwy.inFlight.sum + 1 := hu ▸ sum_updAt_succ_le _ _
        have hregs : SameRegs s u.showFlight [Reg.CWY_INFLIGHT] := fun a ha => (showFlight_sameRegs u a ha).trans (hu ▸ rfl)
        have hmem : SameMem s u.showFlight := fun a => by rw [← hu]; rfl
        obtain ⟨hle, hr, hm⟩ := ih u.showFlight
        have hlt : s.cwy.inFlight.sum < 96 := Nat.lt_of_not_le hfree
        refine ⟨?_, fun a ha => (hr a ha).trans (hregs a ha), fun a => (hm a).trans (hmem a)⟩
        have hshow : u.showFlight.cwy.inFlight.sum = u.cwy.inFlight.sum := rfl
        omega

theorem freed_keeps (l : List Master) (s : State) :
    let t := l.foldl (fun s m => s.modCwy (fun c => { c with inFlight := updAt c.inFlight (quotaOf m.val) (· - 1) })) s
    t.cwy.inFlight.sum ≤ s.cwy.inFlight.sum ∧ t.regs = s.regs ∧ t.mem = s.mem := by
  induction l generalizing s with
  | nil => exact ⟨le_rfl, rfl, rfl⟩
  | cons m t ih =>
    obtain ⟨hle, hr, hm⟩ := ih (s.modCwy (fun c => { c with inFlight := updAt c.inFlight (quotaOf m.val) (· - 1) }))
    exact ⟨hle.trans (sum_updAt_pred_le _ _), hr, hm⟩

/-- The Causeway once the transactions of `freed` have ended and those of `requests` wait. -/
def State.cwyAsked (s : State) (freed requests : List Master) : State :=
  (freed.foldl (fun s m => s.modCwy (fun c => { c with inFlight := updAt c.inFlight (quotaOf m.val) (· - 1) })) s).modCwy
    (fun c => { c with waiting := c.waiting ++ requests.map (·.val) })

theorem cwyAsked_keeps (s : State) (freed requests : List Master) :
    (s.cwyAsked freed requests).cwy.inFlight.sum ≤ s.cwy.inFlight.sum ∧ (s.cwyAsked freed requests).regs = s.regs ∧
    (s.cwyAsked freed requests).mem = s.mem := freed_keeps freed s

theorem exec_cwyTransactionGrant (s : State) (freed requests : List Master) :
    exec (.cwyTransactionGrant freed requests) s =
      .next (State.grants (s.cwyAsked freed requests).cwy.waiting.length (s.cwyAsked freed requests)).showFlight := (rfl)

/-! ### Claims (R51) -/

/-- The fold of `bestOf` over rising numbers: the highest priority, and the lowest number among equals. -/
theorem foldl_best (p : Nat → Nat) (t : List Nat) (b : Nat) (h : (b :: t).Pairwise (· < ·)) :
    let r := t.foldl (fun b n => if p b < p n then n else b) b
    r ∈ b :: t ∧ ∀ n ∈ b :: t, p n < p r ∨ (p n = p r ∧ r ≤ n) := by
  induction t generalizing b with
  | nil => simp
  | cons n t ih =>
    obtain ⟨hb, hnt⟩ := List.pairwise_cons.1 h
    have hbt : (b :: t).Pairwise (· < ·) :=
      List.pairwise_cons.2 ⟨fun x hx => hb x (List.mem_cons_of_mem _ hx), (List.pairwise_cons.1 hnt).2⟩
    simp only [List.foldl_cons]
    by_cases hp : p b < p n
    · obtain ⟨hmem, hbest⟩ := ih n hnt
      rw [if_pos hp]
      refine ⟨List.mem_cons_of_mem _ hmem, List.forall_mem_cons.2 ⟨.inl ?_, hbest⟩⟩
      have := hbest n (List.mem_cons_self ..)
      omega
    · obtain ⟨hmem, hbest⟩ := ih b hbt
      obtain ⟨hbb, hrest⟩ := List.forall_mem_cons.1 hbest
      rw [if_neg hp]
      refine ⟨?_, List.forall_mem_cons.2 ⟨hbb, List.forall_mem_cons.2 ⟨?_, hrest⟩⟩⟩
      · rcases List.mem_cons.1 hmem with e | hm
        · exact List.mem_cons.2 (.inl e)
        · exact List.mem_cons_of_mem _ (List.mem_cons_of_mem _ hm)
      · have hlt := hb n (List.mem_cons_self ..)
        omega

theorem bestOf_spec (s : State) {l : List Nat} (hl : l ≠ []) (h : l.Pairwise (· < ·)) :
    s.bestOf l ∈ l ∧ ∀ n ∈ l, s.prioOf n < s.prioOf (s.bestOf l) ∨ (s.prioOf n = s.prioOf (s.bestOf l) ∧ s.bestOf l ≤ n) := by
  cases l with
  | nil => exact absurd rfl hl
  | cons b t => exact foldl_best s.prioOf t b h

theorem claimable_rising (s : State) (core other : Nat) : (s.claimable core other).Pairwise (· < ·) :=
  List.pairwise_lt_range.filter _

theorem mem_claimable {s : State} {core other n : Nat} : n ∈ s.claimable core other ↔
    n < 256 ∧ s.routed core n = true ∧ (nth 0 s.cwy.enable core).testBit n = true ∧ s.irq other n = true ∧ s.prioOf n ≠ 0 ∧
    ∀ x ∈ s.cwy.claimed, x.2 ≠ n := by
  simp [State.claimable, and_assoc]

/-- The controller after it has been set up by `core` and told of the sources that are completed. -/
def State.plicServed (s : State) (core : Fin 4) (done : List (Fin 256)) (set : PlicSet) : State :=
  let u := s.setPlic core set
  let on := nth 0 u.cwy.enable core
  u.modCwy (fun c => { c with claimed := c.claimed.filter (fun x => !(on.testBit x.2 && done.any (fun d => d.val == x.2))) })

theorem irq_plicServed (s : State) (core : Fin 4) (done : List (Fin 256)) (set : PlicSet) (other n : Nat) :
    (s.plicServed core done set).irq other n = s.irq other n := (rfl)

/-- A claim takes the best of the sources that can be claimed, or answers 0. -/
theorem exec_irqClaim (s : State) (core : Fin 4) (done : List (Fin 256)) (set : PlicSet) (other : BitVec 40) :
    let v := s.plicServed core done set
    let l := v.claimable core other.toNat
    exec (.irqClaim core done set other) s = .next
      { v.modCwy (fun c => { c with claimed := if l = [] then c.claimed else (core.val, v.bestOf l) :: c.claimed }) with rdata := v.bestOf l } := (rfl)

/-- Settles O12: granting by induction on the slots that are given, and a claim by what the fold over the sources keeps. -/
theorem causewayGrantsAndInterruptClaims : Obligations.CausewayGrantsAndInterruptClaims := by
  unfold Obligations.CausewayGrantsAndInterruptClaims
  intro s
  refine ⟨fun freed requests => ?_, fun core done set other => ?_⟩
  · refine ⟨_, exec_cwyTransactionGrant s freed requests, ?_⟩
    obtain ⟨hle, hr, hm⟩ := cwyAsked_keeps s freed requests
    obtain ⟨hg, hgr, hgm⟩ := grants_keeps (s.cwyAsked freed requests).cwy.waiting.length (s.cwyAsked freed requests)
    refine ⟨hg.trans (max_le_max_left 96 hle), showFlight_count _, fun a ha => ?_, fun a => ?_⟩
    · rw [showFlight_sameRegs _ a ha, hgr a ha, State.reg, hr, State.reg]
    · exact (hgm a).trans (congrArg (sget 0 · a) hm)
  · refine ⟨_, exec_irqClaim s core done set other, ?_⟩
    have hmay (n : Nat) := mem_claimable (s := s.plicServed core done set) (core := core) (other := other.toNat) (n := n)
    simp only [irq_plicServed] at hmay
    have hrise := claimable_rising (s.plicServed core done set) core other.toNat
    generalize (s.plicServed core done set).claimable core other.toNat = l at hmay hrise ⊢
    refine ⟨fun hnone => ?_, fun hsome => ?_, rfl, rfl, rfl, fun _ _ => rfl, fun _ => rfl⟩
    · have hl : l = [] := List.eq_nil_iff_forall_not_mem.2 fun n hn => hnone n ((hmay n).1 hn)
      subst hl
      exact ⟨rfl, rfl⟩
    · obtain ⟨n, hn⟩ := hsome
      have hl : l ≠ [] := List.ne_nil_of_mem ((hmay n).2 hn)
      obtain ⟨hmem, hbest⟩ := bestOf_spec (s.plicServed core done set) hl hrise
      exact ⟨(hmay _).1 hmem, if_neg hl, fun k hk => hbest k ((hmay k).2 hk)⟩

end Sys2Proof.Machine

/-! SUPPORT for O7: what the register writes, the wake sources, the slots and Pylon's commands leave of memory. -/

namespace Sys2Proof.Machine

theorem wr_kept_of_block (s : State) (m : Master) (a : Nat) (v : Word) (hb : 0x4002 ≤ a / 0x10000 ∧ a / 0x10000 ≤ 0x4012) :
    (s.wr m a v).kept = s.kept :=
  wr_kept s m a v (by unfold Reg.ABT_RESET; omega) ((blockOf_eq_reg_iff a).2 (by omega))

theorem wakeSource_kept (s : State) (f : State → State) (h : ∀ t, (f t).kept = t.kept) : (s.wakeSource f).kept = s.kept := by
  have h1 : (if s.asleep then f s else s).kept = s.kept := by
    split
    · exact h s
    · rfl
  unfold State.wakeSource
  dsimp only
  split
  · exact h1
  · exact (State.wake_kept _).trans h1

theorem pylOk_nil_kept (s : State) (c : PylCmd) (f : State → State) (h : (f s).kept = s.kept) : (s.pylOk c [] f).kept = s.kept := by
  unfold State.pylOk
  repeat' split
  · simp
  · simp
  · exact (State.pylEnd_kept _ _ _).trans h

theorem pylRun_kept {s t : State} {op : Nat} {f : State → PylCmd → List Byte → List Byte → State} (h : s.pylRun op f = .next t)
    (hf : ∀ c i j, (f s c i j).kept = s.kept) : t.kept = s.kept := by
  obtain rfl := Host.Outcome.next.inj h
  repeat' split
  · rfl
  · rfl
  · simp
  · exact hf _ _ _

theorem withAlg_kept (s : State) (c : PylCmd) (p : Alg → Bool) (f : Alg → State) (h : ∀ a, (f a).kept = s.kept) :
    (s.withAlg c p f).kept = s.kept := by
  unfold State.withAlg
  repeat' split
  · exact h _
  all_goals simp

theorem sameMem_of_mem {s t : State} (h : t.mem = s.mem) : SameMem s t := fun a => congrArg (sget 0 · a) h

theorem mem_of_kept {s t : State} (h : t.kept = s.kept) : t.mem = s.mem := congrArg Prod.fst h

theorem startSlot_mem (s : State) (k : Nat) : (s.startSlot k).mem = s.mem := by
  have h : (s.setReason k 0).mem = s.mem := mem_of_kept (State.setReason_kept s k 0)
  unfold State.startSlot
  generalize s.setReason k 0 = u at h
  exact h

theorem chooseSlot_mem (s : State) : s.chooseSlot.mem = s.mem := by
  unfold State.chooseSlot
  extract_lets a b u
  have hu : u.mem = s.mem := mem_of_kept (by simp [u])
  have hr (k r : Nat) : (u.setReason k r).mem = u.mem := mem_of_kept (by simp)
  clear_value u
  rw [← hu]
  repeat' split
  · exact (startSlot_mem _ _).trans (hr _ _)
  · exact (startSlot_mem _ _).trans (hr _ _)
  · exact startSlot_mem _ _
  · exact startSlot_mem _ _
  · exact mem_of_kept (by simp)

theorem sameMem_of_next {s t u : State} (h : Host.Outcome.next u = (.next t : Host.Outcome State Fault Refusal)) (hk : u.kept = s.kept) :
    SameMem s t := Host.Outcome.next.inj h ▸ sameMem_of_kept hk

theorem rcRead_kept {s t : State} {m : Master} {a : Word} (h : execRcRead m a s = .next t) : t.kept = s.kept := by
  unfold execRcRead at h
  split at h
  · cases h
  · obtain rfl := Host.Outcome.next.inj h
    exact State.busRead_kept _ _ _ _ _

theorem forbiddenRead_kept {s t : State} {m : Master} {a : Word} {n : Nat} {fetch : Bool} (h : execForbiddenRead m a n fetch s = .next t) :
    t.kept = s.kept := by
  unfold execForbiddenRead at h
  split at h
  · cases h
  · obtain rfl := Host.Outcome.next.inj h
    exact State.busRead_kept _ _ _ _ _

theorem contestBitWrite_kept (s : State) (m : Master) (kind : Fin 4) (v : Word) :
    (s.wr m (if kind.val = 0 then Reg.ARC_CONTP else if kind.val = 1 then Reg.ARC_CONTO else Reg.ARC_CONTX (kind.val - 2)) v).kept = s.kept := by
  refine wr_kept_of_block _ _ _ _ ?_
  simp only [Reg.ARC_CONTP, Reg.ARC_CONTO, Reg.ARC_CONTX]
  split_ifs <;> omega

theorem cwyTransactionGrant_sameMem {s t : State} {freed requests : List Master}
    (h : exec (.cwyTransactionGrant freed requests) s = .next t) : SameMem s t := by
  rw [exec_cwyTransactionGrant] at h
  obtain rfl := Host.Outcome.next.inj h
  intro a
  exact ((grants_keeps _ _).2.2 a).trans (congrArg (sget 0 · a) (cwyAsked_keeps s freed requests).2.2)

/-- A wake source that is taken or not, after the RTC has run on. -/
theorem wakeEvent_kept (src : BitVec 24) (elapsed : Nat) {s t : State} (h : execWakeEvent src elapsed s = .next t) : t.kept = s.kept := by
  obtain rfl := Host.Outcome.next.inj h
  dsimp only
  split
  · simp
  · exact (wakeSource_kept _ _ fun _ => setReg_kept _ _ _).trans (State.rtcOff_kept s elapsed)

theorem rtcAlarm_kept (elapsed : Nat) {s t : State} (h : execRtcAlarm elapsed s = .next t) : t.kept = s.kept := by
  obtain rfl := Host.Outcome.next.inj h
  dsimp only
  split
  · simp
  · split
    · exact (wakeSource_kept _ _ fun _ => putB_kept _ _ _).trans (by simp)
    · simp

theorem canWake_kept (n : Fin 2) (sign : CanWakeSign) (elapsed : Nat) {s t : State} (h : execCanWake n sign elapsed s = .next t) :
    t.kept = s.kept := by
  obtain rfl := Host.Outcome.next.inj h
  dsimp only
  split
  · simp
  · refine (wakeSource_kept _ _ fun u => ?_).trans (State.rtcOff_kept s elapsed)
    by_cases hn : n.val = 0 <;> simp [hn]

theorem pllLock_mem (a b : List Host.Cell) (mram : BitVec 16) (e : Nat) {s t : State} (h : execPllLock a b mram e s = .next t) :
    t.mem = s.mem := by
  obtain rfl := Host.Outcome.next.inj h
  dsimp only
  split
  · rfl
  · exact (chooseSlot_mem _).trans (mem_of_kept (by simp))

theorem blobLoad_kept {s t : State} (h : execBlobLoad s = .next t) : t.kept = s.kept := by
  refine pylRun_kept h fun c i j => ?_
  dsimp only
  repeat' split
  · simp
  · exact pylOk_nil_kept _ _ _ rfl
  all_goals simp

theorem slotClear_kept {s t : State} (h : execSlotClear s = .next t) : t.kept = s.kept := by
  refine pylRun_kept h fun c i j => ?_
  split
  · simp
  · exact pylOk_nil_kept _ _ _ rfl

theorem keyPresent_kept {s t : State} (h : execKeyPresent s = .next t) : t.kept = s.kept := by
  refine pylRun_kept h fun c i j => ?_
  split
  · exact pylOk_nil_kept _ _ _ rfl
  · simp

theorem verify_kept {s t : State} (h : execVerify s = .next t) : t.kept = s.kept := by
  refine pylRun_kept h fun c i j => withAlg_kept _ _ _ _ fun a => ?_
  split
  · exact pylOk_nil_kept _ _ _ rfl
  · simp

/-- The attempt that failed is taken up again or ended by one function of the bus, so its cases are met once. -/
theorem canFrameTxEnd_kept (n : Fin 4) (res : CanEnd) (sof : BitVec 64) (guard : Bool) {s t : State}
    (h : execCanFrameTxEnd n res sof guard s = .next t) : t.kept = s.kept := by
  obtain rfl := Host.Outcome.next.inj h
  split
  · rfl
  next b _ =>
    extract_lets rf excl u failed sent v
    have hu : u.kept = s.kept := by simp [u]
    have hf (w : State) : (failed w).kept = w.kept := by
      simp only [failed]
      repeat' split
      all_goals simp
    have hs : sent.kept = s.kept := (kept_ite _ _ _).trans (by simp [hu])
    have hv : v.kept = s.kept := by
      clear_value u failed sent
      cases res <;> simp [v, hf, hu, hs]
    clear_value v
    split <;> simp [hv]

/-- Writes of a register at one fixed address, which the command names (R12). -/
theorem fixedRegisterWrite_sameMem {c : Instr} {s t : State} (h : exec c s = .next t) :
    match c with
    | .imageCommit .. | .avgExpWrite .. | .arcCommitGo .. | .arcMoveGo .. | .meterSnapshotGo .. | .mcalGo ..
    | .timeCorrectionGo .. | .calendarLoad .. | .calendarCancel .. | .recordAck .. | .saveRequest .. | .archiveGo ..
    | .softwareStop .. | .safetyOutputRequest .. | .faultClearKey .. | .faultClear .. | .armPiers .. | .disarmPiers ..
    | .stateRequest .. | .padRelease .. | .watchdogEnable .. | .watchdogKick .. | .throttleNow .. | .lifecycleDeploy .. => SameMem s t
    | _ => True := by
  cases c with
  | imageCommit | avgExpWrite | arcCommitGo | arcMoveGo | meterSnapshotGo | mcalGo | timeCorrectionGo | calendarLoad
  | calendarCancel | recordAck | saveRequest | archiveGo | softwareStop | safetyOutputRequest | faultClearKey | faultClear
  | armPiers | disarmPiers | throttleNow | lifecycleDeploy =>
    exact sameMem_of_next h (wr_kept_of_block _ _ _ _ (by decide))
  | stateRequest | padRelease | watchdogEnable | watchdogKick =>
    exact sameMem_of_next h (wr_kept _ _ _ _ (by decide) (by decide))
  | _ => trivial

/-- Writes of a link's, a unit's, an outlet's or a channel's register. -/
theorem indexedRegisterWrite_sameMem {c : Instr} {s t : State} (h : exec c s = .next t) :
    match c with
    | .shedDisable .. | .phsShedWrite .. | .phaseFaultClear .. | .spanResumeWrite .. | .spanLoopPrbsWrite .. | .mgmtRequestGo ..
    | .grdCaptureArm .. | .grdCalGo .. | .grdPairWrite .. | .sessionStart .. | .sessionStop .. | .sessionRecordRequest ..
    | .stayBlockEnWrite .. | .stayFwInputWrite .. | .stayLimWrite .. | .premoteWrite .. | .outletEnWrite .. | .chargeLoopKick ..
    | .canEnable .. | .canTxRequest .. | .canTxCancel .. | .canRxAck .. | .canRecover .. | .trestleCommand ..
    | .trestleFaultClear .. => SameMem s t
    | _ => True := by
  cases c with
  | shedDisable | phsShedWrite | phaseFaultClear | spanResumeWrite | spanLoopPrbsWrite | mgmtRequestGo | grdCaptureArm | grdCalGo
  | grdPairWrite | sessionStart | sessionStop | sessionRecordRequest | stayBlockEnWrite | stayFwInputWrite | stayLimWrite
  | premoteWrite | outletEnWrite | chargeLoopKick | canEnable | canTxRequest | canTxCancel | canRxAck | canRecover
  | trestleCommand | trestleFaultClear =>
    refine sameMem_of_next h (wr_kept_of_block _ _ _ _ ?_)
    simp only [Reg.CBU_B_CTRL, Reg.CBU_B_RXACK, Reg.CBU_B_TXCAN, Reg.CBU_B_TXREQ, Reg.GRD_U_CAL, Reg.GRD_U_CAPCTL,
      Reg.GRD_U_CTRL, Reg.KST_OUT_CTRL, Reg.PHS_PIER_CTRL, Reg.PHS_PIER_FAULT, Reg.PHS_PIER_SHED, Reg.SPN_LINK_CTRL,
      Reg.SPN_LINK_MGMTC, Reg.STY_CBL_CTRL, Reg.STY_CBL_FW, Reg.STY_CBL_LIM, Reg.TOL_SESS_CTRL, Reg.TRS_CH_CTRL,
      Reg.TRS_CH_FAULT, Reg.VLK_L_PREMOTE, Reg.VLK_L_WDOG]
    omega
  | _ => trivial

/-- The supply, the load, the Causeway and the control period up to phase control. -/
theorem periodCommands_sameMem {c : Instr} {s t : State} (h : exec c s = .next t) :
    match c with
    | .vinGood .. | .vinWarn | .startupTestsDone .. | .legalRegisterLowRead .. | .siteTimeRead .. | .billingTimeRead ..
    | .irqClaim .. | .clockMonitorWindow .. | .periodStart .. | .sampleCutoff | .upFrameRx .. | .slotEvaluation ..
    | .downFrameSend .. | .sendLimit .. | .phaseControlEvaluation .. | .openPhaseDetect .. | .stuckSenseDetect ..
    | .holdoffEnd .. | .dwellEnd .. | .rotationIntervalExpiry .. | .tempReportTimeout .. | .telemetryWindowEnd .. => SameMem s t
    | _ => True := by
  cases c with
  | vinGood =>
    refine sameMem_of_next h ?_
    dsimp only
    repeat' split
    all_goals simp
  | vinWarn | startupTestsDone | legalRegisterLowRead | siteTimeRead | billingTimeRead | irqClaim | clockMonitorWindow
  | periodStart | sampleCutoff | upFrameRx | slotEvaluation | downFrameSend | sendLimit | phaseControlEvaluation
  | openPhaseDetect | stuckSenseDetect | holdoffEnd | dwellEnd | rotationIntervalExpiry | tempReportTimeout | telemetryWindowEnd =>
    exact sameMem_of_next h (by simp)
  | _ => trivial

/-- The Span, the pier nodes and the Arch. -/
theorem pierCommands_sameMem {c : Instr} {s t : State} (h : exec c s = .next t) :
    match c with
    | .bringupRetry .. | .dualLinkLoss .. | .pierDownFrameAccept .. | .pierMissingFrame .. | .pierBroadcastRx ..
    | .pierLowerDone .. | .pierLocalTrip .. | .twinFrameRx .. | .archPeriodStart | .ceilingRefreshTimeout ..
    | .zeroCurrentOpen .. | .auxContactFiltered .. | .auxContactTimeout .. | .weldCheckEnd .. | .matched .. | .matchTimeout ..
    | .contestDetect .. | .contestRelease .. | .contestTimeout .. => SameMem s t
    | _ => True := by
  cases c with
  | bringupRetry | weldCheckEnd | matched | matchTimeout | contestDetect | contestRelease | contestTimeout =>
    refine sameMem_of_next h ?_
    repeat' split
    all_goals simp
  | pierDownFrameAccept =>
    refine sameMem_of_next h ?_
    dsimp only
    repeat' split
    all_goals simp
  | dualLinkLoss | pierMissingFrame | pierBroadcastRx | pierLowerDone | pierLocalTrip | twinFrameRx | archPeriodStart
  | ceilingRefreshTimeout | zeroCurrentOpen | auxContactFiltered | auxContactTimeout =>
    exact sameMem_of_next h (by simp)
  | _ => trivial

/-- The Girder, the Caissons and the Tollhouse. -/
theorem meteringCommands_sameMem {c : Instr} {s t : State} (h : exec c s = .next t) :
    match c with
    | .grdContinuousRound .. | .grdTrigger .. | .grdGroupStart .. | .grdConversionResult .. | .captureDone .. | .grdCalStart ..
    | .grdCalDone .. | .grdBgcUpdate .. | .modulatorStreamStuck .. | .caissonResult .. | .caissonValidStart .. | .acWindowEnd ..
    | .measIntervalEnd | .crossCheckWindow | .tempEstimateTimeout .. | .snapshotCopy | .mcalWindowStart | .mcalWindowEnd
    | .slewComplete | .billingStateChange | .boundary | .hwmPassed | .calendarCheckDone | .sessionClose ..
    | .intermediateRecordTimer .. | .recordSigned | .recordBufferEntry | .periodicSave | .saveComplete | .archiveCheckDone
    | .displayShow .. | .displayPoll .. | .headStatusRx .. | .headStatusTimeout .. | .displayDwellExpiry .. => SameMem s t
    | _ => True := by
  cases c with
  | grdTrigger | grdGroupStart | grdConversionResult | mcalWindowEnd | recordBufferEntry | periodicSave =>
    refine sameMem_of_next h ?_
    repeat' split
    all_goals simp
  | recordSigned | saveComplete =>
    refine sameMem_of_next h ?_
    dsimp only
    repeat' split
    all_goals simp
  | grdContinuousRound | captureDone | grdCalStart | grdCalDone | grdBgcUpdate | modulatorStreamStuck | caissonResult
  | caissonValidStart | acWindowEnd | measIntervalEnd | crossCheckWindow | tempEstimateTimeout | snapshotCopy | mcalWindowStart
  | slewComplete | billingStateChange | boundary | hwmPassed | calendarCheckDone | sessionClose | intermediateRecordTimer
  | archiveCheckDone | displayShow | displayPoll | headStatusRx | headStatusTimeout | displayDwellExpiry =>
    exact sameMem_of_next h (by simp)
  | _ => trivial

/-- The Stay, the pilot and the messages of the vehicle links. -/
theorem stayCommands_sameMem {c : Instr} {s t : State} (h : exec c s = .next t) :
    match c with
    | .stayPeriod | .fwInputStale .. | .pumpImplausible .. | .flowRestored .. | .runOnExpiry .. | .pilotStateChange ..
    | .connectedChange .. | .premoteStale .. | .chargeLoopWatchdogExpiry .. | .inletOvercurrent .. | .tlsHandshakeDone ..
    | .fmxHello .. | .fmxHelloAck .. | .fmxHelloTimeout .. | .countReq .. | .countRes .. | .countResTimeout .. => SameMem s t
    | _ => True := by
  cases c with
  | stayPeriod | fwInputStale | pumpImplausible | flowRestored | runOnExpiry | pilotStateChange | connectedChange | premoteStale
  | chargeLoopWatchdogExpiry | inletOvercurrent | tlsHandshakeDone | fmxHello | fmxHelloAck | fmxHelloTimeout | countReq
  | countRes | countResTimeout =>
    exact sameMem_of_next h (by simp)
  | _ => trivial

/-- Beacons, SLAC, the HPGP ladder and 10BASE-T1S. -/
theorem matchingCommands_sameMem {c : Instr} {s t : State} (h : exec c s = .next t) :
    match c with
    | .beaconPeriodStart .. | .beaconRx .. | .beaconsMissed .. | .slacStart .. | .slacMatch .. | .slacRetry ..
    | .hpgpFrameAttempt .. | .hpgpAck .. | .hpgpFrameRx .. | .xroboReq .. | .xroboCnf .. | .xroboTimeout .. | .plcaBeaconTimer ..
    | .t1sFrameRx .. => SameMem s t
    | _ => True := by
  cases c with
  | slacMatch | hpgpFrameAttempt | hpgpAck | hpgpFrameRx =>
    refine sameMem_of_next h ?_
    repeat' split
    all_goals simp
  | beaconPeriodStart | beaconRx | beaconsMissed | slacStart | slacRetry | xroboReq | xroboCnf | xroboTimeout | plcaBeaconTimer
  | t1sFrameRx =>
    exact sameMem_of_next h (by simp)
  | _ => trivial

/-- The CAN controllers and the host links. -/
theorem networkCommands_sameMem {c : Instr} {s t : State} (h : exec c s = .next t) :
    match c with
    | .canJoin .. | .canFrameRx .. | .canCycleStart .. | .canReferenceRx .. | .canReferenceMissed .. | .canBusOffRecovered ..
    | .hostFrameRx .. | .hostSyncLost .. => SameMem s t
    | _ => True := by
  cases c with
  | canFrameRx | hostFrameRx =>
    refine sameMem_of_next h ?_
    repeat' split
    all_goals simp
  | canJoin | canCycleStart | canReferenceRx | canReferenceMissed | canBusOffRecovered | hostSyncLost =>
    exact sameMem_of_next h (by simp)
  | _ => trivial

/-- The Parapet and the Trestle. -/
theorem safetyCommands_sameMem {c : Instr} {s t : State} (h : exec c s = .next t) :
    match c with
    | .safeStateAssert | .lockstepMismatch .. | .heartbeatLoss .. | .trussTripPort .. | .faultHandlingEnd | .doubleFault
    | .testPulse .. | .testPulseEnd .. | .safetyInputChannel .. | .discrepancyTimeout .. | .outputReadbackFault .. | .offPulse ..
    | .prstPress .. | .prstStuck | .classBLoweringDone .. | .bOffExpiry .. | .imcHalfEnd .. | .contactorCheckEnd ..
    | .pwmPeriodStart .. | .currentLimitExpiry .. | .burstRestart .. | .burstEnd .. | .thermalShutdown .. | .thermalRestart ..
    | .diagnosisSample .. | .openLoad .. | .offStateTest .. | .keepAliveExpiry .. | .snsSelect .. | .loadDump .. => SameMem s t
    | _ => True := by
  cases c with
  | prstPress =>
    refine sameMem_of_next h ?_
    repeat' split
    all_goals simp
  | imcHalfEnd =>
    refine sameMem_of_next h ?_
    dsimp only
    repeat' split
    all_goals simp
  | safeStateAssert | lockstepMismatch | heartbeatLoss | trussTripPort | faultHandlingEnd | doubleFault | testPulse
  | testPulseEnd | safetyInputChannel | discrepancyTimeout | outputReadbackFault | offPulse | prstStuck | classBLoweringDone
  | bOffExpiry | contactorCheckEnd | pwmPeriodStart | currentLimitExpiry | burstRestart | burstEnd | thermalShutdown
  | thermalRestart | diagnosisSample | openLoad | offStateTest | keepAliveExpiry | snsSelect | loadDump =>
    exact sameMem_of_next h (by simp)
  | _ => trivial

/-- Power, sleep and housekeeping, and Pylon. -/
theorem powerCommands_sameMem {c : Instr} {s t : State} (h : exec c s = .next t) :
    match c with
    | .dozeEntry | .dozeExit | .rtcCrystalStop .. | .rtcCrystalReturn .. | .rcCalibration .. | .timeRecordCopy | .watchdogHalf
    | .graceExpiry | .trussReadbackCheck .. | .elementVerify | .regionWithdraw | .keyAuthorisation | .pylonServeNext ..
    | .violationPoll | .pllLockLost | .codeGroupSync .. | .hostLinkUp .. | .plcaStatusOk .. | .lastGaspArmed ..
    | .pd0SupplyChangeover | .vbatLow .. | .pilotPwmCycle .. | .pilotMeasurement .. | .canColumnStart .. | .spanStatRead ..
    | .hwmLowRead .. => SameMem s t
    | _ => True := by
  cases c with
  | pilotMeasurement | elementVerify | regionWithdraw | keyAuthorisation =>
    refine sameMem_of_next h ?_
    dsimp only
    repeat' split
    all_goals simp
  | dozeEntry | dozeExit | rtcCrystalStop | rtcCrystalReturn | rcCalibration | timeRecordCopy | watchdogHalf | graceExpiry
  | trussReadbackCheck | pylonServeNext | violationPoll | pllLockLost | codeGroupSync | hostLinkUp | plcaStatusOk | lastGaspArmed
  | pd0SupplyChangeover | vbatLow | pilotPwmCycle | canColumnStart | spanStatRead | hwmLowRead =>
    exact sameMem_of_next h (by simp)
  | _ => trivial

/-- Settles O7: by the kinds of command; each kind keeps memory by what the operations it uses keep. -/
theorem memoryChangesOnlyByItsWriters : Obligations.MemoryChangesOnlyByItsWriters := by
  unfold Obligations.MemoryChangesOnlyByItsWriters
  intro c s t h
  cases c with
  | registerWrite | vinFailure | gndLoss | vbatLoss | deviceReset | sectionStreamed | ramInitDone | bootElementVerify
  | lastGaspEnd | v2gtpRx | v2gtpTx | canDmaCopy | outDelayExpiry | doubleFaultReset | entryCheckpoint | wakeRestreamDone
  | watchdogExpiry | firmwareReset | housekeepingRound | randomBytes | hash | aesGcm | keyGenerate | devidKeys | sign
  | keyAgreement | kemDecapsulate | kemEncapsulate | attestationReport | pylonCommandDone | faultReport => trivial
  | imageCommit | avgExpWrite | arcCommitGo | arcMoveGo | meterSnapshotGo | mcalGo | timeCorrectionGo | calendarLoad
  | calendarCancel | recordAck | saveRequest | archiveGo | softwareStop | safetyOutputRequest | faultClearKey | faultClear
  | armPiers | disarmPiers | stateRequest | padRelease | watchdogEnable | watchdogKick | throttleNow | lifecycleDeploy =>
    exact fixedRegisterWrite_sameMem h
  | shedDisable | phsShedWrite | phaseFaultClear | spanResumeWrite | spanLoopPrbsWrite | mgmtRequestGo | grdCaptureArm | grdCalGo
  | grdPairWrite | sessionStart | sessionStop | sessionRecordRequest | stayBlockEnWrite | stayFwInputWrite | stayLimWrite
  | premoteWrite | outletEnWrite | chargeLoopKick | canEnable | canTxRequest | canTxCancel | canRxAck | canRecover
  | trestleCommand | trestleFaultClear => exact indexedRegisterWrite_sameMem h
  | vinGood | vinWarn | startupTestsDone | legalRegisterLowRead | siteTimeRead | billingTimeRead | irqClaim | clockMonitorWindow
  | periodStart | sampleCutoff | upFrameRx | slotEvaluation | downFrameSend | sendLimit | phaseControlEvaluation
  | openPhaseDetect | stuckSenseDetect | holdoffEnd | dwellEnd | rotationIntervalExpiry | tempReportTimeout | telemetryWindowEnd =>
    exact periodCommands_sameMem h
  | bringupRetry | dualLinkLoss | pierDownFrameAccept | pierMissingFrame | pierBroadcastRx | pierLowerDone | pierLocalTrip
  | twinFrameRx | archPeriodStart | ceilingRefreshTimeout | zeroCurrentOpen | auxContactFiltered | auxContactTimeout
  | weldCheckEnd | matched | matchTimeout | contestDetect | contestRelease | contestTimeout => exact pierCommands_sameMem h
  | grdContinuousRound | grdTrigger | grdGroupStart | grdConversionResult | captureDone | grdCalStart | grdCalDone | grdBgcUpdate
  | modulatorStreamStuck | caissonResult | caissonValidStart | acWindowEnd | measIntervalEnd | crossCheckWindow
  | tempEstimateTimeout | snapshotCopy | mcalWindowStart | mcalWindowEnd | slewComplete | billingStateChange | boundary
  | hwmPassed | calendarCheckDone | sessionClose | intermediateRecordTimer | recordSigned | recordBufferEntry | periodicSave
  | saveComplete | archiveCheckDone | displayShow | displayPoll | headStatusRx | headStatusTimeout | displayDwellExpiry =>
    exact meteringCommands_sameMem h
  | stayPeriod | fwInputStale | pumpImplausible | flowRestored | runOnExpiry | pilotStateChange | connectedChange | premoteStale
  | chargeLoopWatchdogExpiry | inletOvercurrent | tlsHandshakeDone | fmxHello | fmxHelloAck | fmxHelloTimeout | countReq
  | countRes | countResTimeout => exact stayCommands_sameMem h
  | beaconPeriodStart | beaconRx | beaconsMissed | slacStart | slacMatch | slacRetry | hpgpFrameAttempt | hpgpAck | hpgpFrameRx
  | xroboReq | xroboCnf | xroboTimeout | plcaBeaconTimer | t1sFrameRx => exact matchingCommands_sameMem h
  | canJoin | canFrameRx | canCycleStart | canReferenceRx | canReferenceMissed | canBusOffRecovered | hostFrameRx | hostSyncLost =>
    exact networkCommands_sameMem h
  | safeStateAssert | lockstepMismatch | heartbeatLoss | trussTripPort | faultHandlingEnd | doubleFault | testPulse
  | testPulseEnd | safetyInputChannel | discrepancyTimeout | outputReadbackFault | offPulse | prstPress | prstStuck
  | classBLoweringDone | bOffExpiry | imcHalfEnd | contactorCheckEnd | pwmPeriodStart | currentLimitExpiry | burstRestart
  | burstEnd | thermalShutdown | thermalRestart | diagnosisSample | openLoad | offStateTest | keepAliveExpiry | snsSelect
  | loadDump => exact safetyCommands_sameMem h
  | dozeEntry | dozeExit | rtcCrystalStop | rtcCrystalReturn | rcCalibration | timeRecordCopy | watchdogHalf | graceExpiry
  | trussReadbackCheck | elementVerify | regionWithdraw | keyAuthorisation | pylonServeNext | violationPoll | pllLockLost
  | codeGroupSync | hostLinkUp | plcaStatusOk | lastGaspArmed | pd0SupplyChangeover | vbatLow | pilotPwmCycle | pilotMeasurement
  | canColumnStart | spanStatRead | hwmLowRead => exact powerCommands_sameMem h
  | canFrameTxEnd => exact sameMem_of_kept (canFrameTxEnd_kept _ _ _ _ h)
  | rcRead => exact sameMem_of_kept (rcRead_kept h)
  | forbiddenRead => exact sameMem_of_kept (forbiddenRead_kept h)
  | contestBitWrite => exact sameMem_of_next h (contestBitWrite_kept s _ _ _)
  | cwyTransactionGrant => exact cwyTransactionGrant_sameMem h
  | wakeEvent => exact sameMem_of_kept (wakeEvent_kept _ _ h)
  | rtcAlarm => exact sameMem_of_kept (rtcAlarm_kept _ h)
  | canWake => exact sameMem_of_kept (canWake_kept _ _ _ h)
  | pllLock => exact sameMem_of_mem (pllLock_mem _ _ _ _ h)
  | blobLoad => exact sameMem_of_kept (blobLoad_kept h)
  | slotClear => exact sameMem_of_kept (slotClear_kept h)
  | keyPresent => exact sameMem_of_kept (keyPresent_kept h)
  | verify => exact sameMem_of_kept (verify_kept h)

end Sys2Proof.Machine

/-! SUPPORT for O44: what the Parapet's operations leave alone, and what a free fault manager does with a new fault. -/

namespace Sys2Proof.Machine
/-! ### What the Parapet's operations leave alone -/

/-- What no fault and no response to one changes. -/
def State.aside (s : State) : Load × Power × Toll × Pylon × Causeway × Bool × Bool × Nat :=
  (s.load, s.pwr, s.tol, s.pyl, s.cwy, s.prp.running, s.prp.doubleHeld, s.prp.trips)

/-- The fault manager's own lists and flags. -/
def State.manager (s : State) : List FaultRec × List FaultRec × List FaultRec × List FaultRec × Bool × Bool :=
  (s.prp.handling, s.prp.latched, s.prp.queue, s.prp.ring, s.prp.irqC, s.prp.irqD)

/-- Where a latched fault shows: PRP_STAT, PRP_LATCH, and FAULT_A and FAULT_B of PRP_EVT. -/
def State.faultFace (s : State) : Nat × Nat × Bool × Bool :=
  (s.reg Reg.PRP_STAT, s.reg Reg.PRP_LATCH, s.bit Fld.PRP_EVT_FAULT_A, s.bit Fld.PRP_EVT_FAULT_B)

/-- All three, and the outlets' control registers. -/
def State.standing (s : State) := (s.aside, s.manager, s.faultFace, fun m : Fin 8 => s.reg (Reg.KST_OUT_CTRL m))

theorem standing_put (s : State) {f : FieldRef} (v : Nat)
    (h : f.addr / 0x10000 ≠ 0x4006 ∧ f.addr ≠ Reg.PRP_STAT ∧ f.addr ≠ Reg.PRP_LATCH ∧ f.addr ≠ Reg.PRP_EVT) :
    (s.put f v).standing = s.standing := by
  obtain ⟨hb, hs, hl, he⟩ := h
  have hk (m : Fin 8) : Reg.KST_OUT_CTRL m ≠ f.addr := by
    unfold Reg.KST_OUT_CTRL
    omega
  simp only [State.standing, State.faultFace, State.bit, reg_put_ne s v hs.symm, reg_put_ne s v hl.symm, reg_put_ne s v (hk _),
    get_put_ne s (f := f) (g := Fld.PRP_EVT_FAULT_A) v he.symm, get_put_ne s (f := f) (g := Fld.PRP_EVT_FAULT_B) v he.symm]
  rfl

theorem standing_putWeld (s : State) {k : Nat} (hk : k ∈ List.range 16) (v : Nat) :
    (s.put (Fld.PRP_WELD_RESULT k) v).standing = s.standing := by
  have hk := List.mem_range.1 hk
  refine standing_put s v ?_
  simp only [Fld.PRP_WELD_RESULT, Reg.PRP_WELD, Reg.PRP_STAT, Reg.PRP_LATCH, Reg.PRP_EVT]
  omega

theorem abandonChecks_standing (s : State) (m : Nat) : (s.abandonChecks m).standing = s.standing := by
  refine forEach_keeps State.standing _ s _ fun t k hk => ?_
  split
  · exact standing_putWeld t hk 4
  · rfl

theorem abandonXps_standing (s : State) (m : Nat) : (s.abandonXps m).standing = s.standing := by
  refine forEach_keeps State.standing _ s _ fun t k hk => ?_
  have hk := List.mem_range.1 hk
  have hp := standing_put t (f := Fld.ARC_XP_STAT_STATE k) 0
    (by simp only [Fld.ARC_XP_STAT_STATE, Reg.ARC_XP_STAT, Reg.PRP_STAT, Reg.PRP_LATCH, Reg.PRP_EVT]; omega)
  split
  · exact hp
  · rfl

theorem syncLower_standing (s : State) : s.syncLower.standing = s.standing := by
  refine forEach_keeps State.standing _ s _ fun t l hl => ?_
  have hl := List.mem_range.1 hl
  split
  · rfl
  · exact standing_put t _ (by
      simp only [Fld.SPN_LINK_STAT_LOWER_TX, Reg.SPN_LINK_STAT, Reg.PRP_STAT, Reg.PRP_LATCH, Reg.PRP_EVT]; omega)

theorem outputsOff_standing (s : State) (m : Nat) : (s.outputsOff m).standing = s.standing := by
  refine (forEach_keeps State.standing _ _ _ fun t k hk => ?_).trans (standing_put s _ (by decide))
  dsimp only
  split
  · exact standing_putWeld t hk 5
  · rfl

theorem settleOutputs_standing (s : State) : s.settleOutputs.standing = s.standing := by
  unfold State.settleOutputs
  split
  · rfl
  · exact outputsOff_standing _ _

/-- ARM_CHG stands in PRP_EVT beside the faults' bits. -/
theorem setArmed_standing (s : State) (m : Nat) : (s.setArmed m).standing = s.standing := by
  unfold State.setArmed
  split
  · rfl
  · refine Eq.trans ?_ (standing_put s (f := Fld.PRP_ARMED_PIERS) m (by decide))
    generalize s.put Fld.PRP_ARMED_PIERS m = t
    have hk (k : Fin 8) : Reg.KST_OUT_CTRL k ≠ Fld.PRP_EVT_ARM_CHG.addr := by
      simp only [Reg.KST_OUT_CTRL, Fld.PRP_EVT_ARM_CHG, Reg.PRP_EVT]
      omega
    simp only [State.standing, State.faultFace, State.bit, State.putB,
      reg_put_ne t (f := Fld.PRP_EVT_ARM_CHG) (a := Reg.PRP_STAT) _ (by decide),
      reg_put_ne t (f := Fld.PRP_EVT_ARM_CHG) (a := Reg.PRP_LATCH) _ (by decide), reg_put_ne t _ (hk _),
      get_put_disjoint t (f := Fld.PRP_EVT_ARM_CHG) (g := Fld.PRP_EVT_FAULT_A) _ (by decide) rfl (by decide),
      get_put_disjoint t (f := Fld.PRP_EVT_ARM_CHG) (g := Fld.PRP_EVT_FAULT_B) _ (by decide) rfl (by decide)]
    rfl

theorem settleDisarm_standing (s : State) : s.settleDisarm.standing = s.standing := by
  unfold State.settleDisarm
  dsimp only
  split
  · rfl
  · exact (settleOutputs_standing _).trans (setArmed_standing _ _)

theorem syncQueue_standing (s : State) : s.syncQueue.standing = s.standing :=
  (standing_put _ _ (by decide)).trans (standing_put s _ (by decide))

/-! ### The safe state and the latches -/

theorem lowerBroadcast_standing (s : State) : s.lowerBroadcast.standing = s.standing := by
  unfold State.lowerBroadcast
  extract_lets u v
  have hu : u.standing = s.standing := by
    refine forEach_keeps State.standing _ s _ fun t l _ => ?_
    split <;> rfl
  have hv : v.standing = u.standing :=
    (standing_put _ (f := Fld.SPN_BCAST_LOWER) 1 (by decide)).trans (standing_put u (f := Fld.SPN_BCAST_SENT) 1 (by decide))
  clear_value u v
  exact (syncLower_standing _).trans (hv.trans hu)

/-- The safe state once the broadcast has left: what `assertSafe` does to the standing it finds. -/
theorem assertSafe_standing (s : State) : ∃ u : State, u.standing = s.standing ∧
    s.assertSafe.standing = (u.putB Fld.PRP_STAT_SAFE true).standing := by
  refine ⟨(s.fresh 16).2.lowerBroadcast, lowerBroadcast_standing _, ?_⟩
  unfold State.assertSafe
  generalize s.fresh 16 = p
  obtain ⟨b, w⟩ := p
  dsimp -zeta only
  extract_lets first v u
  have hv : v.standing = (w.lowerBroadcast.putB Fld.PRP_STAT_SAFE true).standing :=
    standing_put _ (f := Fld.PRP_RTIME_BCAST) b (by decide)
  have hu : u.standing = v.standing := (abandonXps_standing _ _).trans (abandonChecks_standing _ _)
  clear_value u v
  split
  · exact hu.trans hv
  · exact hu.trans hv

theorem get_PRP_STAT_of_face {s t : State} (h : t.faultFace = s.faultFace) {f : FieldRef} (hf : f.addr = Reg.PRP_STAT) :
    t.get f = s.get f := by
  have hr : t.reg Reg.PRP_STAT = s.reg Reg.PRP_STAT := congrArg (·.1) h
  simp only [State.get, hf, hr]

theorem bit_PRP_STAT_of_face {s t : State} (h : t.faultFace = s.faultFace) {f : FieldRef} (hf : f.addr = Reg.PRP_STAT) :
    t.bit f = s.bit f := by
  simp only [State.bit, get_PRP_STAT_of_face h hf]

theorem get_PRP_LATCH_of_face {s t : State} (h : t.faultFace = s.faultFace) {f : FieldRef} (hf : f.addr = Reg.PRP_LATCH) :
    t.get f = s.get f := by
  have hr : t.reg Reg.PRP_LATCH = s.reg Reg.PRP_LATCH := congrArg (·.2.1) h
  simp only [State.get, hf, hr]

theorem face_of_standing {s t : State} (h : t.standing = s.standing) : t.faultFace = s.faultFace := congrArg (·.2.2.1) h

theorem manager_of_standing {s t : State} (h : t.standing = s.standing) : t.manager = s.manager := congrArg (·.2.1) h

theorem aside_of_standing {s t : State} (h : t.standing = s.standing) : t.aside = s.aside := congrArg (·.1) h

theorem bit_KST_LOWERING_of_standing {s t : State} (h : t.standing = s.standing) (m : Fin 8) :
    t.bit (Fld.KST_OUT_CTRL_LOWERING m) = s.bit (Fld.KST_OUT_CTRL_LOWERING m) := by
  have hr : t.reg (Reg.KST_OUT_CTRL m) = s.reg (Reg.KST_OUT_CTRL m) := congrFun (congrArg (·.2.2.2) h) m
  simp only [State.bit, State.get, Fld.KST_OUT_CTRL_LOWERING, hr]

theorem assertSafe_aside (s : State) : s.assertSafe.aside = s.aside := by
  obtain ⟨u, hu, h⟩ := assertSafe_standing s
  exact (aside_of_standing h).trans (show u.aside = s.aside from aside_of_standing hu)

theorem assertSafe_manager (s : State) : s.assertSafe.manager = s.manager := by
  obtain ⟨u, hu, h⟩ := assertSafe_standing s
  exact (manager_of_standing h).trans (show u.manager = s.manager from manager_of_standing hu)

theorem assertSafe_safe (s : State) : s.assertSafe.bit Fld.PRP_STAT_SAFE = true := by
  obtain ⟨u, _, h⟩ := assertSafe_standing s
  exact (bit_PRP_STAT_of_face (face_of_standing h) rfl).trans (bit_putB_same u _ true (by decide) (by decide))

/-- The latch registers as the latched faults say. -/
def State.latchRegs (s : State) : State :=
  (((s.putB Fld.PRP_STAT_LATCH_A (s.prp.latched.any (fun r => r.cls == 1))).putB Fld.PRP_STAT_LATCH_B
    (s.prp.latched.any (fun r => r.cls == 2))).put Fld.PRP_LATCH_OUTLETS (s.prp.latched.foldl (fun m r => m ||| r.outlets) 0)).put
    Fld.PRP_LATCH_PIERS (s.prp.latched.foldl (fun m r => m ||| r.piers) 0)

theorem syncLatch_standing (s : State) : s.syncLatch.standing = s.latchRegs.standing := by
  refine (syncLower_standing _).trans (forEach_keeps State.standing _ s.latchRegs _ fun t m _ => ?_)
  split <;> rfl

/-! ### Class B, and the start of a handling -/

/-- The lowering of the outlets that a Class B fault names. -/
def State.lowerOutlets (s : State) (m : Nat) : State :=
  forEach (outletBits m) s (fun s m => (s.modOut m (fun o => { o with lowering := true })).putB (Fld.KST_OUT_CTRL_LOWERING m) true)

theorem mem_outletBits {m k : Nat} : k ∈ outletBits m ↔ k < 8 ∧ m.testBit k = true := by
  simp [outletBits, mbits]

theorem lowerOutlets_keeps (s : State) (m : Nat) : (s.lowerOutlets m).aside = s.aside ∧ (s.lowerOutlets m).manager = s.manager ∧
    (s.lowerOutlets m).faultFace = s.faultFace := by
  refine ⟨forEach_keeps _ _ _ _ fun _ _ _ => rfl, forEach_keeps _ _ _ _ fun _ _ _ => rfl, forEach_keeps _ _ _ _ fun t k hk => ?_⟩
  have hk := (mem_outletBits.1 hk).1
  have ha (a : Nat) (h : a / 0x10000 ≠ 0x4006) : a ≠ (Fld.KST_OUT_CTRL_LOWERING k).addr := by
    simp only [Fld.KST_OUT_CTRL_LOWERING, Reg.KST_OUT_CTRL]
    omega
  simp only [State.faultFace, State.bit, State.putB, reg_put_ne _ _ (ha Reg.PRP_STAT (by decide)),
    reg_put_ne _ _ (ha Reg.PRP_LATCH (by decide)),
    get_put_ne _ (f := Fld.KST_OUT_CTRL_LOWERING k) (g := Fld.PRP_EVT_FAULT_A) _ (ha _ (by decide)),
    get_put_ne _ (f := Fld.KST_OUT_CTRL_LOWERING k) (g := Fld.PRP_EVT_FAULT_B) _ (ha _ (by decide))]
  rfl

theorem lowerOutlets_lowering (s : State) {m : Nat} (k : Fin 8) (hk : m.testBit k = true) :
    (s.lowerOutlets m).bit (Fld.KST_OUT_CTRL_LOWERING k) = true := by
  refine forEach_sets (fun t => t.bit (Fld.KST_OUT_CTRL_LOWERING k)) true _ k.val s _ (mem_outletBits.2 ⟨k.isLt, hk⟩) ?_
    fun t => bit_putB_same _ _ true (by simp only [Fld.KST_OUT_CTRL_LOWERING]; decide) (Nat.zero_lt_one)
  intro t x _ hx
  have ha : (Fld.KST_OUT_CTRL_LOWERING k).addr ≠ (Fld.KST_OUT_CTRL_LOWERING x).addr := by
    simp only [Fld.KST_OUT_CTRL_LOWERING, Reg.KST_OUT_CTRL]
    omega
  simp only [State.bit, State.putB, get_put_ne _ _ ha]
  rfl

theorem classB_standing (s : State) (r : FaultRec) : (s.classB r).standing = (s.lowerOutlets r.outlets).standing := by
  unfold State.classB
  extract_lets u outs v
  have hv : v.standing = u.standing := (abandonXps_standing _ _).trans (abandonChecks_standing _ _)
  clear_value v
  exact (settleDisarm_standing _).trans hv

/-- The record as it is written: Class A and B latch. -/
def FaultRec.written (r : FaultRec) : FaultRec := { r with latched := r.cls ≤ 2 }

/-- The record is written and being handled, and latched where its class latches. -/
def State.taken (s : State) (r : FaultRec) : State :=
  { s with prp := { s.prp with handling := r.written :: s.prp.handling, ring := (r.written :: s.prp.ring).take 64,
                               pd0Ring := (r.written :: s.prp.pd0Ring).take 8,
                               latched := if r.cls = 1 ∨ r.cls = 2 then r.written :: s.prp.latched else s.prp.latched } }

theorem startHandling_A (s : State) {r : FaultRec} (h : r.cls = 1) :
    s.startHandling r = ((s.taken r).syncLatch.putB Fld.PRP_EVT_FAULT_A true).syncQueue := by
  simp only [State.startHandling, State.taken, State.writeRec, FaultRec.written, h, true_or, if_true]

theorem startHandling_B (s : State) {r : FaultRec} (h : r.cls = 2) :
    s.startHandling r = (((s.taken r).syncLatch.putB Fld.PRP_EVT_FAULT_B true).classB r.written).syncQueue := by
  simp only [State.startHandling, State.taken, State.writeRec, FaultRec.written, h, or_true, if_true]

theorem startHandling_C (s : State) {r : FaultRec} (h : r.cls = 3) :
    s.startHandling r = { s.taken r with prp := { (s.taken r).prp with irqC := true } }.syncQueue := by
  simp [State.startHandling, State.taken, State.writeRec, FaultRec.written, h]

theorem startHandling_D (s : State) {r : FaultRec} (hA : r.cls ≠ 1) (hB : r.cls ≠ 2) (hC : r.cls ≠ 3) :
    s.startHandling r = { s.taken r with prp := { (s.taken r).prp with irqD := true } }.syncQueue := by
  simp [State.startHandling, State.taken, State.writeRec, FaultRec.written, hA, hB]

@[simp] theorem putB_aside (s : State) (f : FieldRef) (b : Bool) : (s.putB f b).aside = s.aside := (rfl)
@[simp] theorem putB_manager (s : State) (f : FieldRef) (b : Bool) : (s.putB f b).manager = s.manager := (rfl)
@[simp] theorem taken_aside (s : State) (r : FaultRec) : (s.taken r).aside = s.aside := (rfl)

@[simp] theorem classB_aside (s : State) (r : FaultRec) : (s.classB r).aside = s.aside :=
  (aside_of_standing (classB_standing s r)).trans (lowerOutlets_keeps s _).1

@[simp] theorem classB_manager (s : State) (r : FaultRec) : (s.classB r).manager = s.manager :=
  (manager_of_standing (classB_standing s r)).trans (lowerOutlets_keeps s _).2.1

theorem classB_face (s : State) (r : FaultRec) : (s.classB r).faultFace = s.faultFace :=
  (face_of_standing (classB_standing s r)).trans (lowerOutlets_keeps s _).2.2

@[simp] theorem syncQueue_aside (s : State) : s.syncQueue.aside = s.aside := aside_of_standing (syncQueue_standing s)

@[simp] theorem syncQueue_manager (s : State) : s.syncQueue.manager = s.manager := manager_of_standing (syncQueue_standing s)

@[simp] theorem syncLatch_aside (s : State) : s.syncLatch.aside = s.aside :=
  (aside_of_standing (syncLatch_standing s)).trans rfl

@[simp] theorem syncLatch_manager (s : State) : s.syncLatch.manager = s.manager :=
  (manager_of_standing (syncLatch_standing s)).trans rfl

theorem startHandling_aside (s : State) (r : FaultRec) : (s.startHandling r).aside = s.aside := by
  by_cases hA : r.cls = 1
  · simp [startHandling_A s hA]
  by_cases hB : r.cls = 2
  · simp [startHandling_B s hB]
  by_cases hC : r.cls = 3
  · rw [startHandling_C s hC, syncQueue_aside]
    rfl
  · rw [startHandling_D s hA hB hC, syncQueue_aside]
    rfl

/-- Whatever the class, the lists are those of `taken`; Class C and D raise their flag. -/
theorem startHandling_manager (s : State) (r : FaultRec) : (s.startHandling r).manager =
    ((s.taken r).prp.handling, (s.taken r).prp.latched, s.prp.queue, (s.taken r).prp.ring, s.prp.irqC || decide (r.cls = 3),
      s.prp.irqD || decide (r.cls ≠ 1 ∧ r.cls ≠ 2 ∧ r.cls ≠ 3)) := by
  by_cases hA : r.cls = 1
  · rw [startHandling_A s hA, syncQueue_manager, putB_manager, syncLatch_manager]
    simp [State.manager, State.taken, hA]
  by_cases hB : r.cls = 2
  · rw [startHandling_B s hB, syncQueue_manager, classB_manager, putB_manager, syncLatch_manager]
    simp [State.manager, State.taken, hB]
  by_cases hC : r.cls = 3
  · rw [startHandling_C s hC, syncQueue_manager]
    simp [State.manager, State.taken, hC]
  · rw [startHandling_D s hA hB hC, syncQueue_manager]
    simp [State.manager, State.taken, hA, hB, hC]

theorem meetManager_aside (s : State) (r : FaultRec) : (s.meetManager r).aside = s.aside := by
  unfold State.meetManager
  split
  · rfl
  split
  · exact startHandling_aside _ _
  split
  · exact startHandling_aside _ _
  split
  · exact syncQueue_aside _
  split
  · rfl
  split
  · exact syncQueue_aside _
  · exact (startHandling_aside _ _).trans (assertSafe_aside _)

theorem report_aside (s : State) (code cls src o p : Nat) : (s.report code cls src o p).aside = s.aside := by
  unfold State.report
  extract_lets c u
  have hu : u.aside = s.aside := by
    unfold u
    split
    · exact assertSafe_aside s
    · rfl
  clear_value u
  split
  · exact (meetManager_aside _ _).trans hu
  · exact hu

/-- The record of a new fault: Class A names all units. -/
def newFault (time code cls src o p : Nat) : FaultRec :=
  { time := time, code := code, cls := cls, src := src
    outlets := if cls = 1 then 0xFF else o
    piers := if cls = 1 then 0xFFF else p }

/-- A free fault manager starts to handle the fault at once, from the state that stands as before or, Class A, in the safe state. -/
theorem report_free {s : State} {code cls : Nat} (h : s.parapetFree code cls = true) (src o p : Nat) :
    ∃ (u : State) (time : Nat), u.manager = s.manager ∧ u.aside = s.aside ∧ (cls = 1 → u.bit Fld.PRP_STAT_SAFE = true) ∧
      s.report code cls src o p = u.startHandling (newFault time code cls src o p) := by
  simp only [State.parapetFree, Bool.and_eq_true, beq_iff_eq, decide_eq_true_eq, Bool.not_eq_true'] at h
  obtain ⟨⟨⟨⟨⟨hrun, hheld⟩, hhand⟩, hlat⟩, hq⟩, hfloor⟩ := h
  have hm (u : State) (hu : u.manager = s.manager) (r : FaultRec) : u.meetManager r = u.startHandling r := by
    have e1 : u.prp.handling = [] := (congrArg (·.1) hu).trans hhand
    have e2 : u.prp.latched = [] := (congrArg (·.2.1) hu).trans hlat
    have e3 : u.prp.queue = [] := (congrArg (·.2.2.1) hu).trans hq
    simp only [State.meetManager, e1, e2, e3, List.any_nil, Bool.or_self, Bool.false_eq_true, if_false]
  unfold State.report
  rw [Nat.min_eq_left hfloor]
  extract_lets c v
  have hv : v.manager = s.manager ∧ v.aside = s.aside ∧ (cls = 1 → v.bit Fld.PRP_STAT_SAFE = true) := by
    unfold v c
    split
    · exact ⟨assertSafe_manager s, assertSafe_aside s, fun _ => assertSafe_safe s⟩
    next hc => exact ⟨rfl, rfl, fun h => absurd h hc⟩
  clear_value v
  obtain ⟨hvm, hva, hvs⟩ := hv
  have hg : (v.prp.running && !v.prp.doubleHeld) = true := by
    have e1 : v.prp.running = true := (congrArg (·.2.2.2.2.2.1) hva).trans hrun
    have e2 : v.prp.doubleHeld = false := (congrArg (·.2.2.2.2.2.2.1) hva).trans hheld
    simp [e1, e2]
  rw [if_pos hg]
  have hf : (v.freshBelow (v.periodUs * 1000)).2.manager = s.manager ∧ (v.freshBelow (v.periodUs * 1000)).2.aside = s.aside ∧
      (cls = 1 → (v.freshBelow (v.periodUs * 1000)).2.bit Fld.PRP_STAT_SAFE = true) := ⟨hvm, hva, hvs⟩
  generalize v.freshBelow (v.periodUs * 1000) = q at hf
  obtain ⟨dt, w⟩ := q
  obtain ⟨hwm, hwa, hws⟩ := hf
  exact ⟨w, _, hwm, hwa, hws, hm w hwm (newFault ((w.siteNs + dt) % 2 ^ 64) code cls src o p)⟩

end Sys2Proof.Machine

namespace Sys2Proof.Machine
/-! ### Where a handled fault shows -/

theorem bit_FAULT_A_of_face {s t : State} (h : t.faultFace = s.faultFace) : t.bit Fld.PRP_EVT_FAULT_A = s.bit Fld.PRP_EVT_FAULT_A :=
  congrArg (·.2.2.1) h

theorem bit_FAULT_B_of_face {s t : State} (h : t.faultFace = s.faultFace) : t.bit Fld.PRP_EVT_FAULT_B = s.bit Fld.PRP_EVT_FAULT_B :=
  congrArg (·.2.2.2) h

theorem latchRegs_latchA (s : State) : s.latchRegs.bit Fld.PRP_STAT_LATCH_A = s.prp.latched.any (fun r => r.cls == 1) := by
  simp only [State.latchRegs, State.bit, get_put_ne _ (f := Fld.PRP_LATCH_PIERS) (g := Fld.PRP_STAT_LATCH_A) _ (by decide),
    get_put_ne _ (f := Fld.PRP_LATCH_OUTLETS) (g := Fld.PRP_STAT_LATCH_A) _ (by decide)]
  rw [State.putB, get_put_disjoint _ (f := Fld.PRP_STAT_LATCH_B) (g := Fld.PRP_STAT_LATCH_A) _ (by decide) rfl (by decide)]
  exact bit_putB_same s _ _ (by decide) (by decide)

theorem latchRegs_safe (s : State) : s.latchRegs.bit Fld.PRP_STAT_SAFE = s.bit Fld.PRP_STAT_SAFE := by
  simp only [State.latchRegs, State.bit, State.putB,
    get_put_ne _ (f := Fld.PRP_LATCH_PIERS) (g := Fld.PRP_STAT_SAFE) _ (by decide),
    get_put_ne _ (f := Fld.PRP_LATCH_OUTLETS) (g := Fld.PRP_STAT_SAFE) _ (by decide),
    get_put_disjoint _ (f := Fld.PRP_STAT_LATCH_B) (g := Fld.PRP_STAT_SAFE) _ (by decide) rfl (by decide),
    get_put_disjoint _ (f := Fld.PRP_STAT_LATCH_A) (g := Fld.PRP_STAT_SAFE) _ (by decide) rfl (by decide)]

theorem latchRegs_latchB (s : State) : s.latchRegs.bit Fld.PRP_STAT_LATCH_B = s.prp.latched.any (fun r => r.cls == 2) := by
  simp only [State.latchRegs, State.bit, get_put_ne _ (f := Fld.PRP_LATCH_PIERS) (g := Fld.PRP_STAT_LATCH_B) _ (by decide),
    get_put_ne _ (f := Fld.PRP_LATCH_OUTLETS) (g := Fld.PRP_STAT_LATCH_B) _ (by decide)]
  exact bit_putB_same _ _ _ (by decide) (by decide)

theorem latchRegs_outlets (s : State) : s.latchRegs.get Fld.PRP_LATCH_OUTLETS = s.prp.latched.foldl (fun m r => m ||| r.outlets) 0 % 2 ^ 8 := by
  rw [State.latchRegs, get_put_disjoint _ (f := Fld.PRP_LATCH_PIERS) (g := Fld.PRP_LATCH_OUTLETS) _ (by decide) rfl (by decide)]
  exact get_put_same _ _ _ (by decide)

theorem latchRegs_piers (s : State) : s.latchRegs.get Fld.PRP_LATCH_PIERS = s.prp.latched.foldl (fun m r => m ||| r.piers) 0 % 2 ^ 12 :=
  get_put_same _ _ _ (by decide)

/-- PRP_STAT and PRP_LATCH after the latches are shown and a bit of PRP_EVT is set. -/
theorem get_syncLatch_evt (s : State) {e f : FieldRef} (he : e.addr = Reg.PRP_EVT) (hf : f.addr = Reg.PRP_STAT ∨ f.addr = Reg.PRP_LATCH) :
    (s.syncLatch.putB e true).get f = s.latchRegs.get f := by
  have hface := face_of_standing (syncLatch_standing s)
  have hne : f.addr ≠ e.addr := by
    rw [he]
    rcases hf with hf | hf <;> rw [hf] <;> decide
  rw [State.putB, get_put_ne _ _ hne]
  rcases hf with hf | hf
  · exact get_PRP_STAT_of_face hface hf
  · exact get_PRP_LATCH_of_face hface hf

/-- Class A: the latch and the event. -/
theorem startHandling_A_shows (s : State) {r : FaultRec} (h : r.cls = 1) :
    (s.startHandling r).bit Fld.PRP_STAT_SAFE = s.bit Fld.PRP_STAT_SAFE ∧ (s.startHandling r).bit Fld.PRP_STAT_LATCH_A = true ∧
    (s.startHandling r).bit Fld.PRP_EVT_FAULT_A = true := by
  have hface : (s.startHandling r).faultFace = ((s.taken r).syncLatch.putB Fld.PRP_EVT_FAULT_A true).faultFace := by
    rw [startHandling_A s h]
    exact face_of_standing (syncQueue_standing _)
  refine ⟨(bit_PRP_STAT_of_face hface rfl).trans ?_, (bit_PRP_STAT_of_face hface rfl).trans ?_,
    (bit_FAULT_A_of_face hface).trans (bit_putB_same _ _ true (by decide) (by decide))⟩
  · simp only [State.bit]
    rw [get_syncLatch_evt _ rfl (.inl rfl)]
    exact latchRegs_safe _
  · simp only [State.bit]
    rw [get_syncLatch_evt _ rfl (.inl rfl)]
    refine (latchRegs_latchA _).trans ?_
    simp [State.taken, h, FaultRec.written]

/-- Class B: the latch, the event, the units of the latched faults, and the lowering of the outlets. -/
theorem startHandling_B_shows (s : State) {r : FaultRec} (h : r.cls = 2) (hl : s.prp.latched = []) :
    (s.startHandling r).bit Fld.PRP_STAT_LATCH_B = true ∧ (s.startHandling r).bit Fld.PRP_EVT_FAULT_B = true ∧
    (s.startHandling r).get Fld.PRP_LATCH_OUTLETS = r.outlets % 2 ^ 8 ∧ (s.startHandling r).get Fld.PRP_LATCH_PIERS = r.piers % 2 ^ 12 ∧
    ∀ m : Fin 8, r.outlets.testBit m = true → (s.startHandling r).bit (Fld.KST_OUT_CTRL_LOWERING m) = true := by
  have hlat : (s.taken r).prp.latched = [r.written] := by simp [State.taken, h, hl]
  have hst : (s.startHandling r).standing =
      (((s.taken r).syncLatch.putB Fld.PRP_EVT_FAULT_B true).lowerOutlets r.outlets).standing := by
    rw [startHandling_B s h]
    exact (syncQueue_standing _).trans (classB_standing _ _)
  have hface := (face_of_standing hst).trans (lowerOutlets_keeps _ _).2.2
  refine ⟨(bit_PRP_STAT_of_face hface rfl).trans ?_, (bit_FAULT_B_of_face hface).trans (bit_putB_same _ _ true (by decide) (by decide)),
    (get_PRP_LATCH_of_face hface rfl).trans ?_, (get_PRP_LATCH_of_face hface rfl).trans ?_,
    fun m hm => (bit_KST_LOWERING_of_standing hst m).trans (lowerOutlets_lowering _ m hm)⟩
  · simp only [State.bit]
    rw [get_syncLatch_evt _ rfl (.inl rfl)]
    refine (latchRegs_latchB _).trans ?_
    simp [hlat, h, FaultRec.written]
  · rw [get_syncLatch_evt _ rfl (.inr rfl), latchRegs_outlets, hlat]
    simp [FaultRec.written]
  · rw [get_syncLatch_evt _ rfl (.inr rfl), latchRegs_piers, hlat]
    simp [FaultRec.written]

/-! ### A new fault met by a free fault manager -/

theorem report_recorded {s : State} {code cls : Nat} (h : s.parapetFree code cls = true) (src o p : Nat) :
    Recorded (s.report code cls src o p) code cls src (if cls = 1 then 0xFF else o) (if cls = 1 then 0xFFF else p) := by
  obtain ⟨u, time, _, _, _, e⟩ := report_free h src o p
  have hm := startHandling_manager u (newFault time code cls src o p)
  rw [← e] at hm
  have hring : (s.report code cls src o p).prp.ring = _ := congrArg (·.2.2.2.1) hm
  have hhand : (s.report code cls src o p).prp.handling = _ := congrArg (·.1) hm
  exact ⟨(newFault time code cls src o p).written, u.prp.ring.take 63, hring, (congrArg List.head? hhand).trans rfl, rfl, rfl, rfl, rfl, rfl⟩

theorem report_classA {s : State} {code : Nat} (h : s.parapetFree code 1 = true) (src o p : Nat) :
    (s.report code 1 src o p).bit Fld.PRP_STAT_SAFE = true ∧ (s.report code 1 src o p).bit Fld.PRP_STAT_LATCH_A = true ∧
    (s.report code 1 src o p).bit Fld.PRP_EVT_FAULT_A = true := by
  obtain ⟨u, time, _, _, hs, e⟩ := report_free h src o p
  obtain ⟨h1, h2, h3⟩ := startHandling_A_shows u (r := newFault time code 1 src o p) rfl
  rw [e]
  exact ⟨h1.trans (hs rfl), h2, h3⟩

theorem report_classB {s : State} {code : Nat} (h : s.parapetFree code 2 = true) (src o p : Nat) :
    (s.report code 2 src o p).bit Fld.PRP_STAT_LATCH_B = true ∧ (s.report code 2 src o p).bit Fld.PRP_EVT_FAULT_B = true ∧
    (s.report code 2 src o p).get Fld.PRP_LATCH_OUTLETS = o % 2 ^ 8 ∧ (s.report code 2 src o p).get Fld.PRP_LATCH_PIERS = p % 2 ^ 12 ∧
    ∀ m : Fin 8, o.testBit m = true → (s.report code 2 src o p).bit (Fld.KST_OUT_CTRL_LOWERING m) = true := by
  obtain ⟨u, time, hm, _, _, e⟩ := report_free h src o p
  have hl : u.prp.latched = [] := by
    simp only [State.parapetFree, Bool.and_eq_true, beq_iff_eq] at h
    exact (congrArg (·.2.1) hm).trans h.1.1.2
  rw [e]
  exact startHandling_B_shows u (r := newFault time code 2 src o p) rfl hl

theorem report_classC {s : State} {code : Nat} (h : s.parapetFree code 3 = true) (src o p : Nat) :
    (s.report code 3 src o p).prp.irqC = true := by
  obtain ⟨u, time, _, _, _, e⟩ := report_free h src o p
  have hm : (u.startHandling (newFault time code 3 src o p)).prp.irqC = (u.prp.irqC || true) :=
    congrArg (·.2.2.2.2.1) (startHandling_manager u (newFault time code 3 src o p))
  rw [e, hm, Bool.or_true]

theorem report_classD {s : State} {code : Nat} (h : s.parapetFree code 4 = true) (src o p : Nat) :
    (s.report code 4 src o p).prp.irqD = true := by
  obtain ⟨u, time, _, _, _, e⟩ := report_free h src o p
  have hm : (u.startHandling (newFault time code 4 src o p)).prp.irqD = (u.prp.irqD || true) :=
    congrArg (·.2.2.2.2.2) (startHandling_manager u (newFault time code 4 src o p))
  rw [e, hm, Bool.or_true]

end Sys2Proof.Machine

namespace Sys2Proof.Machine
/-! ### Errors of memory, and the end of a handling -/

theorem eccFound_prp (s : State) (fixed : Nat) (bad : List Host.Cell) : (s.eccFound fixed bad).prp = s.prp :=
  foldl_keeps State.prp bad _ _ fun _ _ _ => by split <;> rfl

theorem eccFound_img (s : State) (fixed : Nat) (bad : List Host.Cell) : (s.eccFound fixed bad).img = s.img :=
  foldl_keeps State.img bad _ _ fun _ _ _ => by split <;> rfl

theorem eccFound_count (s : State) (fixed : Nat) (bad : List Host.Cell) : (s.eccFound fixed bad).cwy.eccCount = s.cwy.eccCount + fixed :=
  foldl_keeps (fun t => t.cwy.eccCount) bad _ _ fun _ _ _ => by split <;> rfl

theorem eccFound_memB (s : State) (fixed : Nat) (bad : List Host.Cell) (a : Nat) (h : ∀ c ∈ bad, c.1 ≠ a) :
    (s.eccFound fixed bad).memB a = s.memB a := by
  refine foldl_keeps (fun t => t.memB a) bad _ _ fun t c hc => ?_
  split
  · exact memB_setMemB_ne t c.2 (h c hc).symm
  · rfl

theorem eccFound_memB_named (s : State) (fixed a : Nat) (b : Byte) (h : ramRange a 1 = true) :
    (s.eccFound fixed [(a, b)]).memB a = b := by
  simp only [State.eccFound, List.foldl_cons, List.foldl_nil, h, if_true]
  exact memB_setMemB_same _ a b

theorem parapetFree_congr {s t : State} (hp : t.prp = s.prp) (hi : t.img = s.img) (code cls : Nat) :
    t.parapetFree code cls = s.parapetFree code cls := by
  have hc : t.cfgB 6 (0x4A0 + code) = s.cfgB 6 (0x4A0 + code) := by simp only [State.cfgB, hi]
  have hf : t.classFloor code = s.classFloor code := by
    unfold State.classFloor
    rw [hc]
  simp only [State.parapetFree, hp, hf]

theorem memB_report (s : State) (code cls src o p a : Nat) : (s.report code cls src o p).memB a = s.memB a :=
  sameMem_of_kept (State.report_kept s code cls src o p) a

theorem eccCount_report (s : State) (code cls src o p : Nat) : (s.report code cls src o p).cwy.eccCount = s.cwy.eccCount :=
  congrArg (·.2.2.2.2.1.eccCount) (report_aside s code cls src o p)

theorem syncQueue_prp (s : State) : s.syncQueue.prp = s.prp := (rfl)

theorem syncQueue_handling (s : State) : s.syncQueue.get Fld.PRP_QUEUE_HANDLING =
    ((s.prp.handling.head?.map FaultRec.cls).getD 0) % 8 := by
  rw [State.syncQueue, get_put_disjoint _ (f := Fld.PRP_QUEUE_FILL) (g := Fld.PRP_QUEUE_HANDLING) _ (by decide) rfl (by decide)]
  exact get_put_same s _ _ (by decide)

theorem syncQueue_regs (s : State) : SameRegs s s.syncQueue [Reg.PRP_QUEUE] := fun a ha => by
  have hne : a ≠ Reg.PRP_QUEUE := fun e => ha (List.mem_singleton.2 e)
  exact (reg_put_ne _ (f := Fld.PRP_QUEUE_FILL) _ hne).trans (reg_put_ne s (f := Fld.PRP_QUEUE_HANDLING) _ hne)

/-- The handling that ends leaves the one it had suspended, or none. -/
def State.handled (s : State) (rest : List FaultRec) : State := { s with prp := { s.prp with handling := rest } }

theorem endHandling_resumes {s : State} {r q : FaultRec} {rest : List FaultRec} (h : s.prp.handling = r :: q :: rest) :
    s.endHandling = (s.handled (q :: rest)).syncQueue := by
  simp [State.endHandling, State.handled, h]

theorem endHandling_none {s : State} {r : FaultRec} (h : s.prp.handling = [r]) (hq : s.prp.queue = []) (hw : s.prp.prstWait = false) :
    s.endHandling = (s.handled []).syncQueue := by
  simp [State.endHandling, State.handled, syncQueue_prp, h, hq, hw, nextQueued]

theorem handled_shows (s : State) (rest : List FaultRec) : (s.handled rest).syncQueue.prp.handling = rest ∧
    (s.handled rest).syncQueue.get Fld.PRP_QUEUE_HANDLING = ((rest.head?.map FaultRec.cls).getD 0) % 8 ∧
    SameRegs s (s.handled rest).syncQueue [Reg.PRP_QUEUE] ∧ SameMem s (s.handled rest).syncQueue :=
  ⟨rfl, syncQueue_handling _, syncQueue_regs (s.handled rest), sameMem_of_kept (State.syncQueue_kept (s.handled rest))⟩

/-! ### Trip ports -/

theorem trussTripPort_rises {s : State} (k : Fin 16) (ht : s.prp.trips.testBit k = false)
    (he : s.cfgB 6 (0x420 + 8 * k.val + 6) = 1) (hc : s.parapetFree 0x11 (s.cfgB 6 (0x420 + 8 * k.val + 2)) = true)
    (h2 : s.cfgB 6 (0x420 + 8 * k.val + 2) ≠ 1) :
    Completes (.trussTripPort k true) s (fun t => t.prp.trips.testBit k = true ∧
      Recorded t 0x11 (s.cfgB 6 (0x420 + 8 * k.val + 2)) k (s.cfgB 6 (0x420 + 8 * k.val + 3)) (s.cfg 6 (0x420 + 8 * k.val + 4) 2)) := by
  let u : State := { s with prp := { s.prp with trips := mset s.prp.trips k true } }
  have hu : u.parapetFree 0x11 (s.cfgB 6 (0x420 + 8 * k.val + 2)) = true := hc
  have hrec := report_recorded hu k (s.cfgB 6 (0x420 + 8 * k.val + 3)) (u.par (0x420 + 8 * k.val + 4) 2)
  rw [if_neg h2, if_neg h2] at hrec
  have hpar : u.par (0x420 + 8 * k.val + 4) 2 = s.cfg 6 (0x420 + 8 * k.val + 4) 2 := cfg_congr rfl _ _ _
  refine ⟨u.report 0x11 (s.cfgB 6 (0x420 + 8 * k.val + 2)) k (s.cfgB 6 (0x420 + 8 * k.val + 3)) (u.par (0x420 + 8 * k.val + 4) 2), ?_, ?_,
    hpar ▸ hrec⟩
  · change execTrussTripPort k true s = _
    unfold execTrussTripPort
    simp only [ht]
    exact congrArg Host.Outcome.next (if_pos ⟨rfl, he⟩)
  · have e : (u.report 0x11 (s.cfgB 6 (0x420 + 8 * k.val + 2)) k (s.cfgB 6 (0x420 + 8 * k.val + 3))
        (u.par (0x420 + 8 * k.val + 4) 2)).prp.trips = mset s.prp.trips k true := congrArg (·.2.2.2.2.2.2.2) (report_aside u _ _ _ _ _)
    rw [e, testBit_mset, if_pos rfl]

end Sys2Proof.Machine

namespace Sys2Proof.Machine
/-- A report with its note of memory: the errors counted and the cells named, then the fault itself. -/
theorem faultReport_memory (s : State) (code : Fin 64) (c src o p fixed : Nat) (bad : List Host.Cell) :
    let t := (s.eccFound fixed (if code = 0x0F then bad else [])).report code c src o p
    t.cwy.eccCount = s.cwy.eccCount + fixed ∧ (code ≠ 0x0F → SameMem s t) ∧ (∀ a, (∀ x ∈ bad, x.1 ≠ a) → t.memB a = s.memB a) ∧
      (∀ a b, code = 0x0F → bad = [(a, b)] → ramRange a 1 = true → t.memB a = b) := by
  refine ⟨(eccCount_report _ _ _ _ _ _).trans (eccFound_count _ _ _), fun hc a => ?_, fun a ha => ?_, fun a b hc hb hr => ?_⟩
  · refine (memB_report _ _ _ _ _ _ a).trans (eccFound_memB _ _ _ _ ?_)
    rw [if_neg hc]
    exact List.forall_mem_nil _
  · refine (memB_report _ _ _ _ _ _ a).trans (eccFound_memB _ _ _ _ ?_)
    split
    · exact ha
    · exact List.forall_mem_nil _
  · refine (memB_report _ _ _ _ _ _ a).trans ?_
    rw [if_pos hc, hb]
    exact eccFound_memB_named _ _ _ _ hr

/-- Settles O44: the report of a free manager by class, the end of a handling from its two forms, the trip port. -/
theorem faultManagerHandlesByClass : Obligations.FaultManagerHandlesByClass := by
  unfold Obligations.FaultManagerHandlesByClass
  intro s
  refine ⟨fun code cls src o p fixed bad hfree => ⟨_, rfl, ?_⟩, fun r hr hq hw => ?_, fun r q rest hr => ?_,
    fun k ht he cls hcls h2 hfree => ?_, fun k => rfl⟩
  · obtain ⟨hcount, hsame, hother, hnamed⟩ := faultReport_memory s code (cls.val + 1) src o.toNat p.toNat fixed bad
    have hf : (s.eccFound fixed (if code = 0x0F then bad else [])).parapetFree code (cls.val + 1) = true :=
      (parapetFree_congr (eccFound_prp _ _ _) (eccFound_img _ _ _) _ _).trans hfree
    generalize s.eccFound fixed (if code = 0x0F then bad else []) = u at *
    refine ⟨?_, hcount, hsame, hother, hnamed, ?_, ?_, ?_, ?_⟩
    · have h := report_recorded hf src o.toNat p.toNat
      simpa only [Nat.add_eq_right, Fin.val_eq_zero_iff] using h
    · rintro rfl
      exact report_classA hf src o.toNat p.toNat
    · rintro rfl
      obtain ⟨hl, he, ho, hp, hlow⟩ := report_classB hf src o.toNat p.toNat
      exact ⟨hl, he, ho.trans (Nat.mod_eq_of_lt o.isLt), hp.trans (Nat.mod_eq_of_lt p.isLt), hlow⟩
    · rintro rfl
      exact report_classC hf src o.toNat p.toNat
    · rintro rfl
      exact report_classD hf src o.toNat p.toNat
  · exact ⟨_, congrArg Host.Outcome.next (endHandling_none hr hq hw), handled_shows s []⟩
  · exact ⟨_, congrArg Host.Outcome.next (endHandling_resumes hr), handled_shows s (q :: rest)⟩
  · subst hcls
    exact trussTripPort_rises k ht he hfree (by omega)

end Sys2Proof.Machine

/-! SUPPORT for O15: the choice of a slot, the section placed, the release and the wake. -/

namespace Sys2Proof.Machine
/-! ### The choice of a slot -/

theorem putWords_keeps {β : Type} (p : State → β) (s : State) (a n : Nat) (l : List Byte) (h : ∀ t x v, p (State.setReg t x v) = p t) :
    p (s.putWords a n l) = p s := forEach_keeps p _ _ _ fun _ _ _ => h _ _ _

theorem measure0_keeps {β : Type} (p : State → β) (s : State) (h : ∀ t x v, p (State.setReg t x v) = p t) : p s.measure0 = p s := by
  unfold State.measure0
  extract_lets z u
  have hu : p u = p s := forEach_keeps p _ _ _ fun t x _ => putWords_keeps p t _ _ _ h
  clear_value u
  exact (putWords_keeps p _ _ _ _ h).trans ((putWords_keeps p _ _ _ _ h).trans hu)

theorem setReason_keeps {β : Type} (p : State → β) (s : State) (k r : Nat) (h : ∀ t x v, p (State.setReg t x v) = p t) :
    p (s.setReason k r) = p s := by
  unfold State.setReason
  split
  · exact h _ _ _
  · exact h _ _ _

/-- What Pylon has read of the slots at the lock, and the lock itself. -/
def State.readings (s : State) : List (List Host.Cell) × Nat × Parapet := (s.load.slots, s.load.mram, s.prp)

theorem modLoad_good_readings (s : State) (n : Nat) : (s.modLoad fun l => { l with good := n }).readings = s.readings := (rfl)

theorem modLoad_slots_readings (s : State) (l : List (List Host.Cell)) (m : Nat) :
    (s.modLoad fun k => { k with slots := l, mram := m }).readings = (l, m, s.prp) := (rfl)

theorem startSlot_readings (s : State) (k : Nat) : (s.startSlot k).readings = s.readings ∧ (s.startSlot k).load.stage = .stream := by
  have h : (s.setReason k 0).readings = s.readings := setReason_keeps _ s k 0 fun _ _ _ => rfl
  unfold State.startSlot
  generalize s.setReason k 0 = u at h
  unfold State.readings at h ⊢
  exact ⟨h, rfl⟩

theorem refuseAll_readings (s : State) : s.refuseAll.readings = s.readings ∧ s.refuseAll.load.stage = .refused := by
  have h : s.trsRefuse.readings = s.readings := forEach_keeps State.readings _ _ _ fun t n _ => by
    unfold State.trsSettle1
    dsimp only
    split <;> rfl
  unfold State.refuseAll
  generalize s.trsRefuse = u at h
  exact ⟨h, rfl⟩

theorem chooseSlot_readings (s : State) : s.chooseSlot.readings = s.readings ∧
    (s.chooseSlot.load.stage = .stream ∨ s.chooseSlot.load.stage = .refused) := by
  have hr (t : State) (k r : Nat) : (t.setReason k r).readings = t.readings := setReason_keeps _ t k r fun _ _ _ => rfl
  unfold State.chooseSlot
  extract_lets a b u
  have hu : u.readings = s.readings := by
    have h := (hr (s.setReason 0 a) 1 b).trans (hr s 0 a)
    exact (modLoad_good_readings ((s.setReason 0 a).setReason 1 b) ((if a = 0 then 1 else 0) + (if b = 0 then 2 else 0))).trans h
  clear_value u
  rw [← hu]
  have hstart (t : State) (k : Nat) (ht : t.readings = u.readings) : (t.startSlot k).readings = u.readings ∧
      ((t.startSlot k).load.stage = .stream ∨ (t.startSlot k).load.stage = .refused) :=
    ⟨(startSlot_readings t k).1.trans ht, .inl (startSlot_readings t k).2⟩
  split
  · split
    · exact hstart (u.setReason 0 0xE) 1 (hr u 0 0xE)
    · exact hstart (u.setReason 1 0xE) 0 (hr u 1 0xE)
  split
  · exact hstart u 0 rfl
  split
  · exact hstart u 1 rfl
  · exact ⟨(refuseAll_readings u).1, .inr (refuseAll_readings u).2⟩

/-- The lock of a device that waits to load: it notes what it reads and chooses. -/
theorem execPllLock_boot {s : State} (hb : s.load.stage = .boot) (hv : s.bit Fld.ABT_SUPPLY_VIN_OK = true) (hr : s.pwr.st = .run)
    (a b : List Host.Cell) (mram : BitVec 16) (e : Nat) :
    ∃ u : State, u.readings = ([a, b], mram.toNat, { s.prp with pllLocked := true }) ∧ execPllLock a b mram e s = .next u.chooseSlot := by
  unfold execPllLock
  extract_lets p s1 s2 warm
  have hc : ¬(s1.load.stage ≠ .boot ∨ (!s1.vinOk) = true ∨ s1.pwr.st ≠ .run) := by
    have h2 : s1.vinOk = true := hv
    rintro (h | h | h)
    · exact h hb
    · rw [h2] at h
      cases h
    · exact h hr
  rw [if_neg hc]
  have hf : (s2.fresh 64).2.prp = s1.prp := rfl
  generalize s2.fresh 64 = q at hf ⊢
  obtain ⟨x, w⟩ := q
  dsimp -zeta only
  extract_lets s3
  have h3 : s3.measure0.prp = { s.prp with pllLocked := true } := (measure0_keeps State.prp s3 fun _ _ _ => rfl).trans hf
  exact ⟨_, (modLoad_slots_readings s3.measure0 _ _).trans (congrArg (fun p => ([a, b], mram.toNat, p)) h3), rfl⟩

theorem execPllLock_other {s : State} (hb : s.load.stage ≠ .boot) (a b : List Host.Cell) (mram : BitVec 16) (e : Nat) :
    execPllLock a b mram e s = .next { s with prp := { s.prp with pllLocked := true } } :=
  congrArg Host.Outcome.next (if_pos (.inl hb))

/-! ### A section that is streamed -/

theorem place_load (s : State) (e c : List Byte) : (s.place e c).load = s.load := by
  unfold State.place
  dsimp only
  split <;> rfl

/-- The next section follows the one placed. -/
theorem execSectionStreamed_places {s : State} {c : List Byte} (hs : s.load.stage = .stream)
    (hc : s.content s.load.cur (dirEntry s.load.hdr s.load.next) = some c) :
    let e := dirEntry s.load.hdr s.load.next
    let u : State := { s.place e c with load := { s.load with next := s.load.next + 1 } }
    u.sectionReason e c = 0 → eType e ≠ 8 → s.load.next + 1 ≠ sectCount s.load.hdr → execSectionStreamed s = .next u := by
  intro e u hr ht hn
  have he : s.content s.load.cur e = some c := hc
  have hu : (s.place e c).modLoad (fun l => { l with next := l.next + 1 }) = u := by
    simp only [State.modLoad, place_load]
    rfl
  have hlast : ¬u.load.next = sectCount u.load.hdr := hn
  unfold execSectionStreamed
  rw [if_neg (not_not_intro hs)]
  extract_lets
  rw [he]
  dsimp only
  rw [hu, if_neg (not_not_intro hr), if_neg ht, if_neg hlast]

end Sys2Proof.Machine

namespace Sys2Proof.Machine
/-! ### The release -/

theorem clearSram_memB (s : State) (a : Nat) :
    s.clearSram.memB a = if 0x10000000 ≤ a ∧ a < 0x10800000 then 0 else s.memB a := by
  have h := sget_filter_key (0 : Byte) (fun k => !decide (0x10000000 ≤ k ∧ k < 0x10800000)) s.mem a
  by_cases ha : 0x10000000 ≤ a ∧ a < 0x10800000
  · rw [if_pos ha]
    exact h.trans (by simp [ha])
  · rw [if_neg ha]
    exact h.trans (by simp only [ha, decide_false, Bool.not_false, if_true]; rfl)

/-- The release starts the pairs and leaves aside what a report leaves. -/
theorem parapetRelease_aside (s : State) :
    s.parapetRelease.aside = (s.load, s.pwr, s.tol, s.pyl, s.cwy, true, s.prp.doubleHeld, s.prp.trips) := by
  unfold State.parapetRelease
  extract_lets p u v w
  have hv : v.aside = (s.load, s.pwr, s.tol, s.pyl, s.cwy, true, s.prp.doubleHeld, s.prp.trips) := rfl
  have hw : w.aside = v.aside := by
    clear_value v
    unfold w
    split
    · exact (putB_aside _ _ _).trans (report_aside v _ _ _ _ _)
    · rfl
  clear_value v w
  split
  · exact hw.trans hv
  · exact (report_aside w _ _ _ _ _).trans (hw.trans hv)

theorem execRamInitDone_seal {s : State} (h : s.load.stage = .seal) (e : Nat) :
    execRamInitDone [] e s = .next (((s.rtcPass e).clearSram.parapetRelease.modTol fun t => { t with run := true }).modLoad
      fun l => { l with stage := .run }) :=
  congrArg Host.Outcome.next (if_neg (not_not_intro h))

/-- The end of the RAM initialisation: the engines run and SRAM reads zero. -/
theorem ramInitDone_releases {s : State} (h : s.load.stage = .seal) (e : Nat) :
    Completes (.ramInitDone [] e) s (fun t => t.load.stage = .run ∧ t.prp.running = true ∧ t.tol.run = true ∧
      ∀ a, t.memB a = if 0x10000000 ≤ a ∧ a < 0x10800000 then 0 else s.memB a) := by
  have hmem (a : Nat) : (s.rtcPass e).clearSram.parapetRelease.memB a = if 0x10000000 ≤ a ∧ a < 0x10800000 then 0 else s.memB a :=
    (sameMem_of_kept (State.parapetRelease_kept (s.rtcPass e).clearSram) a).trans (clearSram_memB (s.rtcPass e) a)
  have hrun : (s.rtcPass e).clearSram.parapetRelease.prp.running = true :=
    congrArg (·.2.2.2.2.2.1) (parapetRelease_aside (s.rtcPass e).clearSram)
  refine ⟨_, execRamInitDone_seal h e, ?_⟩
  generalize (s.rtcPass e).clearSram.parapetRelease = u at hmem hrun
  exact ⟨rfl, hrun, rfl, hmem⟩

/-! ### The wake -/

/-- The blocks that sleep are up again: the last of a wake, but for the release after PARK. -/
theorem finishWake_shows (s : State) : s.finishWake.load.wake = false ∧ s.finishWake.pwr.st = .run ∧ s.finishWake.tol.run = true ∧
    s.finishWake.pyl.serving = none ∧ ∀ a, 0x10000000 ≤ a → a < 0x10800000 → s.finishWake.memB a = 0 := by
  unfold State.finishWake
  extract_lets park woke committed s1 s2 s3 s4 s5 s6 k6 p6 s7 s8
  have h5 : ∀ a, 0x10000000 ≤ a → a < 0x10800000 → s5.memB a = 0 := fun a hl hh =>
    (sameMem_of_kept (State.startLinks_kept _) a).trans ((clearSram_memB _ a).trans (if_pos ⟨hl, hh⟩))
  have h6 : SameMem s5 s6 := by
    clear_value s5
    exact sameMem_of_kept (by simp [s6])
  clear_value s5
  have h8 : s8.load.wake = false ∧ s8.pwr.st = .run ∧ s8.tol.run = true ∧ s8.pyl.serving = none ∧ s8.mem = s6.mem :=
    ⟨rfl, rfl, rfl, rfl, rfl⟩
  obtain ⟨hwake, hst, hrun, hserv, hmem⟩ := h8
  clear_value s8 s6
  have hm : ∀ a, 0x10000000 ≤ a → a < 0x10800000 → s8.memB a = 0 := fun a hl hh =>
    (sameMem_of_mem hmem a).trans ((h6 a).trans (h5 a hl hh))
  split
  · have ha := parapetRelease_aside (s8.putB Fld.PRP_STAT_START_OK false)
    have hk := sameMem_of_kept (State.parapetRelease_kept (s8.putB Fld.PRP_STAT_START_OK false))
    generalize (s8.putB Fld.PRP_STAT_START_OK false).parapetRelease = u at ha hk
    exact ⟨(congrArg (·.1.wake) ha).trans hwake, (congrArg (·.2.1.st) ha).trans hst, (congrArg (·.2.2.1.run) ha).trans hrun,
      (congrArg (·.2.2.2.1.serving) ha).trans hserv, fun a hl hh => (hk a).trans (hm a hl hh)⟩
  · exact ⟨hwake, hst, hrun, hserv, hm⟩

/-- A wake whose slot still matches its record and whose sections stand is finished. -/
theorem execWakeRestreamDone_finishes {s : State} {k : Nat} {dig : List Byte} {c : Bool} (slot : List Host.Cell) (hw : s.load.wake = true)
    (hr : s.pwr.resume = some (k, dig, c)) :
    let s1 : State := { s with load := { s.load with slots := updAt s.load.slots k (fun _ => slot) } }
    sha3 512 (s1.slotHdr k) = dig →
    (∀ e ∈ entries (s1.slotHdr k), keptType (eType e) = false → (s1.content k e).isSome = true) →
    ∃ u : State, execWakeRestreamDone ⟨slot, []⟩ s = .next u.finishWake := by
  intro s1 hd hc
  unfold execWakeRestreamDone
  rw [if_neg (by simp [hw]), hr]
  dsimp -zeta only
  extract_lets t h es
  have hdig : sha3 512 h = dig := hd
  have hsome : ∀ e ∈ entries h, keptType (eType e) = false → (t.content k e).isSome = true := hc
  have hall : ¬(sha3 512 h ≠ dig ∨ (es.any fun e => (t.content k e).isNone) = true) := by
    rintro (hne | hany)
    · exact hne hdig
    · obtain ⟨e, he, hn⟩ := List.any_eq_true.1 hany
      obtain ⟨hmem, hk⟩ := List.mem_filter.1 he
      have hs := hsome e hmem (by simpa using hk)
      rw [Option.isNone_iff_eq_none.1 hn] at hs
      cases hs
  rw [if_neg hall]
  exact ⟨_, rfl⟩

/-- Settles O15: the lock, a section, the end of the RAM initialisation and the wake, each by its own lemma. -/
theorem imageLoadAdvances : Obligations.ImageLoadAdvances := by
  unfold Obligations.ImageLoadAdvances
  intro s
  refine ⟨fun a b mram e => ⟨fun hb hv hr => ?_, fun hb => execPllLock_other hb a b mram e⟩,
    fun c hs hc => execSectionStreamed_places hs hc, fun e h => ramInitDone_releases h e, fun slot k dig c hw hr hd hc => ?_⟩
  · obtain ⟨u, hu, hex⟩ := execPllLock_boot hb hv hr a b mram e
    obtain ⟨hread, hstage⟩ := chooseSlot_readings u
    have hall := hread.trans hu
    generalize u.chooseSlot = t at hex hall hstage
    have hp : t.prp = { s.prp with pllLocked := true } := congrArg (·.2.2) hall
    exact ⟨t, hex, congrArg Parapet.pllLocked hp, congrArg (·.1) hall, congrArg (·.2.1) hall, hstage,
      sameMem_of_mem (pllLock_mem a b mram e hex)⟩
  · obtain ⟨u, hu⟩ := execWakeRestreamDone_finishes slot hw hr hd hc
    exact ⟨_, hu, finishWake_shows u⟩

end Sys2Proof.Machine

/-! SUPPORT. The order of Pylon's work and the end of a firmware command (R758, R761). -/

namespace Sys2Proof.Machine

/-- Pylon serves work that it completes before it takes other work. -/
theorem exec_pylonServeNext_busy {s : State} (tls : Bool) (h : s.pyl.serving ∈ [some 0, some 1, some 3]) :
    exec (.pylonServeNext tls) s = .next s :=
  congrArg Host.Outcome.next (if_pos (by simpa [or_assoc] using h))

/-- What a free Pylon takes: a record that it may sign, else TLS work, else a firmware command. -/
def State.nextWork (s : State) (tls : Bool) : Option Nat :=
  if s.tol.toSign != [] && s.maySign then some 1 else if tls then some 2 else if s.pyl.cmd.isSome then some 3 else none

theorem exec_pylonServeNext_free {s : State} (tls : Bool) (h : s.pyl.serving ∉ [some 0, some 1, some 3]) :
    exec (.pylonServeNext tls) s = .next { s with pyl := { s.pyl with serving := s.nextWork tls } } :=
  congrArg Host.Outcome.next (if_neg (by simpa [or_assoc] using h))

theorem nextWork_record {s : State} (tls : Bool) (hr : s.tol.toSign ≠ []) (hm : s.maySign = true) : s.nextWork tls = some 1 :=
  if_pos (by simp [hr, hm])

theorem nextWork_other {s : State} (tls : Bool) (h : s.tol.toSign = [] ∨ s.maySign = false) :
    s.nextWork tls = if tls then some 2 else s.pyl.cmd.map (fun _ => 3) := by
  have hc : ¬((s.tol.toSign != [] && s.maySign) = true) := by
    rcases h with h | h <;> simp [h]
  rw [State.nextWork, if_neg hc]
  cases s.pyl.cmd <;> rfl

theorem dmaWrite_of_dmaOk {s : State} {m : Master} {a : Nat} {l : List Byte} (h : s.dmaOk m a l.length true = true) :
    s.dmaWrite m a l = s.setMem a l := if_pos h

/-- Memory after the write of a byte string: the string where it lies, and what was there elsewhere. -/
theorem memB_setMem (l : List Byte) (s : State) (a c : Nat) :
    (s.setMem a l).memB c = if a ≤ c ∧ c < a + l.length then nth 0 l (c - a) else s.memB c := by
  split
  · next h =>
    obtain ⟨i, rfl⟩ := Nat.exists_eq_add_of_le h.1
    have hi : i < l.length := by omega
    rw [memB_setMem_inside l s a i hi, Nat.add_sub_cancel_left, nth, List.getD_eq_getElem l 0 hi]
  · exact memB_setMem_outside l s (by omega)

theorem reg_setMem (s : State) (a : Nat) (l : List Byte) (b : Nat) : (s.setMem a l).reg b = s.reg b := by
  rw [setMem_onlyMem]
  rfl

/-- PYL_CMDCTL as a completion with STATUS `st` leaves it. -/
def State.showDone (s : State) (st : Nat) : State :=
  ((s.put Fld.PYL_CMDCTL_STATUS st).putB Fld.PYL_CMDCTL_DONE true).putB Fld.PYL_CMDCTL_BUSY false

theorem showDone_shows (s : State) (st : Nat) :
    (s.showDone st).get Fld.PYL_CMDCTL_STATUS = st % 65536 ∧ (s.showDone st).bit Fld.PYL_CMDCTL_DONE = true ∧
    (s.showDone st).bit Fld.PYL_CMDCTL_BUSY = false ∧ SameRegs s (s.showDone st) [Reg.PYL_CMDCTL] := by
  let u := s.put Fld.PYL_CMDCTL_STATUS st
  let w := u.putB Fld.PYL_CMDCTL_DONE true
  have busy {g : FieldRef} (ha : g.addr = Reg.PYL_CMDCTL) (h : g.lo + g.w ≤ 2 ∨ 3 ≤ g.lo) : (s.showDone st).get g = w.get g :=
    get_put_disjoint w (f := Fld.PYL_CMDCTL_BUSY) 0 (by decide) ha h
  have status : w.get Fld.PYL_CMDCTL_STATUS = u.get Fld.PYL_CMDCTL_STATUS :=
    get_put_disjoint u (f := Fld.PYL_CMDCTL_DONE) 1 (by decide) rfl (by decide)
  refine ⟨?_, ?_, bit_putB_same w Fld.PYL_CMDCTL_BUSY false (by decide) (by decide), ?_⟩
  · exact (busy rfl (by decide)).trans (status.trans (get_put_same s Fld.PYL_CMDCTL_STATUS st (by decide)))
  · exact (congrArg (· != 0) (busy (g := Fld.PYL_CMDCTL_DONE) rfl (by decide))).trans
      (bit_putB_same u Fld.PYL_CMDCTL_DONE true (by decide) (by decide))
  · exact (SameRegs.put s Fld.PYL_CMDCTL_STATUS st).trans
      ((SameRegs.put u Fld.PYL_CMDCTL_DONE 1).trans (SameRegs.put w Fld.PYL_CMDCTL_BUSY 0))

/-- Command c has ended with `st`: OUT_LEN and STATUS stand in its block, PYL_CMDCTL shows them, and Pylon is free. -/
def State.commandEnded (s : State) (c : PylCmd) (st : Nat) : State :=
  ((s.setMem (c.addr + 0x1C) (toLE 4 c.outLen ++ toLE 4 st)).showDone st).modPyl (fun p => { p with cmd := none, serving := none })

theorem commandEnded_memB (s : State) (c : PylCmd) (st a : Nat) : (s.commandEnded c st).memB a =
    if c.addr + 0x1C ≤ a ∧ a < c.addr + 0x24 then nth 0 (toLE 4 c.outLen ++ toLE 4 st) (a - (c.addr + 0x1C)) else s.memB a := by
  have hlen : (toLE 4 c.outLen ++ toLE 4 st).length = 8 := by simp
  have h := memB_setMem (toLE 4 c.outLen ++ toLE 4 st) s (c.addr + 0x1C) a
  rw [hlen] at h
  exact h

theorem commandEnded_shows (s : State) (c : PylCmd) (st : Nat) :
    let t := s.commandEnded c st
    t.get Fld.PYL_CMDCTL_STATUS = st % 65536 ∧ t.bit Fld.PYL_CMDCTL_DONE = true ∧ t.bit Fld.PYL_CMDCTL_BUSY = false ∧
    t.pyl.cmd = none ∧ t.pyl.serving = none ∧ SameRegs s t [Reg.PYL_CMDCTL] := by
  let u := s.setMem (c.addr + 0x1C) (toLE 4 c.outLen ++ toLE 4 st)
  obtain ⟨hst, hdone, hbusy, hregs⟩ := showDone_shows u st
  exact ⟨hst, hdone, hbusy, rfl, rfl, fun a ha => (hregs a ha).trans (reg_setMem s _ _ a)⟩

theorem exec_pylonCommandDone_waits {s : State} {c : PylCmd} (hc : s.pyl.cmd = some c)
    (h : s.pyl.serving ≠ some 3 ∨ c.served = false ∧ c.op ∈ knownOps) : exec .pylonCommandDone s = .next s := by
  show execPylonCommandDone s = _
  unfold execPylonCommandDone
  rw [hc]
  exact congrArg Host.Outcome.next (if_pos (by simpa using h))

theorem exec_pylonCommandDone_ends {s : State} {c : PylCmd} (hc : s.pyl.cmd = some c) (hs : s.pyl.serving = some 3)
    (h : c.served = true ∨ c.op ∉ knownOps) (hd : s.dmaOk 12 (c.addr + 0x1C) 8 true = true) :
    exec .pylonCommandDone s = .next (s.commandEnded c (if c.served then c.status else 0x20)) := by
  have hw (st : Nat) : s.dmaWrite 12 (c.addr + 0x1C) (toLE 4 c.outLen ++ toLE 4 st) =
      s.setMem (c.addr + 0x1C) (toLE 4 c.outLen ++ toLE 4 st) := dmaWrite_of_dmaOk (by simpa using hd)
  have hn : ¬((s.pyl.serving != some 3 || (!c.served && decide (c.op ∈ knownOps))) = true) := by
    rcases h with h | h <;> simp [hs, h]
  rw [State.commandEnded, ← hw]
  show execPylonCommandDone s = _
  unfold execPylonCommandDone
  rw [hc]
  exact congrArg Host.Outcome.next (if_neg hn)

end Sys2Proof.Machine

/-! SUPPORT. The rollback counters and the commit (R70, R71, R754, R763). -/

namespace Sys2Proof.Machine

/-- Where counter i lies: four to the register (R763). -/
def ctrField (i : Nat) : FieldRef := ⟨Reg.PYL_CTR (i / 4), 8 * (i % 4), 8⟩

theorem ctrField_fits (i : Nat) : (ctrField i).lo + (ctrField i).w ≤ 32 := by
  simp only [ctrField]
  omega

theorem ctr_setCtr_same (s : State) (i v : Nat) : (s.setCtr i v).ctr i = v % 256 :=
  get_put_same s (ctrField i) v (ctrField_fits i)

theorem ctr_setCtr_ne (s : State) {i j : Nat} (v : Nat) (h : j ≠ i) : (s.setCtr i v).ctr j = s.ctr j := by
  by_cases hr : j / 4 = i / 4
  · exact get_put_disjoint s (f := ctrField i) (g := ctrField j) v (ctrField_fits i) (congrArg Reg.PYL_CTR hr)
      (by simp only [ctrField]; omega)
  · exact get_put_ne s (f := ctrField i) (g := ctrField j) v (by simp only [ctrField, Reg.PYL_CTR]; omega)

theorem advanceCtr_cases (s : State) (i v : Nat) (adv : Bool) :
    (adv = true ∧ s.ctr i < v ∧ s.advanceCtr i v adv = s.setCtr i v) ∨
    ((adv = true → v ≤ s.ctr i) ∧ s.advanceCtr i v adv = s) := by
  unfold State.advanceCtr
  split
  · next h =>
    obtain ⟨ha, hv⟩ : adv = true ∧ s.ctr i < v := by simpa using h
    exact .inl ⟨ha, hv, rfl⟩
  · next h => exact .inr ⟨by simpa using h, rfl⟩

theorem onlyRegs_advanceCtr (s : State) (i v : Nat) (adv : Bool) : OnlyRegs s (s.advanceCtr i v adv) := by
  rcases advanceCtr_cases s i v adv with ⟨-, -, e⟩ | ⟨-, e⟩ <;> rw [e] <;> rfl

theorem advanceCtr_regs (s : State) {i : Nat} (v : Nat) (adv : Bool) (hi : i < 64) :
    SameRegs s (s.advanceCtr i v adv) ((List.range 16).map Reg.PYL_CTR) := fun a ha => by
  rcases advanceCtr_cases s i v adv with ⟨-, -, e⟩ | ⟨-, e⟩ <;> rw [e]
  refine reg_put_ne s v fun h => ha ?_
  exact List.mem_map.2 ⟨i / 4, List.mem_range.2 (by omega), h.symm⟩

/-- An advance raises its own counter alone, to a version above it. -/
theorem ctr_advanceCtr (s : State) (i j : Nat) {v : Nat} (adv : Bool) (hv : v < 256) :
    (s.advanceCtr i v adv).ctr j = if (i == j && adv) = true then max (s.ctr j) v else s.ctr j := by
  rcases advanceCtr_cases s i v adv with ⟨ha, hlt, e⟩ | ⟨hle, e⟩ <;> rw [e]
  · by_cases hj : i = j
    · subst hj
      rw [ctr_setCtr_same, Nat.mod_eq_of_lt hv, if_pos (by simp [ha]), max_eq_right hlt.le]
    · rw [ctr_setCtr_ne s v (Ne.symm hj), if_neg (by simp [hj])]
  · split
    · next h =>
      obtain ⟨rfl, ha⟩ : i = j ∧ adv = true := by simpa using h
      exact (max_eq_left (hle ha)).symm
    · rfl

/-- Every source of a commit advances its counter: ARB_INDEX, ARB_VERSION, ADVANCE. -/
def State.advanceAll (s : State) (src : List (Nat × Nat × Bool)) : State := src.foldl (fun s e => s.advanceCtr e.1 e.2.1 e.2.2) s

theorem onlyRegs_advanceAll (s : State) (src : List (Nat × Nat × Bool)) : OnlyRegs s (s.advanceAll src) :=
  onlyRegs_foldl src _ s fun t e => onlyRegs_advanceCtr t e.1 e.2.1 e.2.2

theorem advanceAll_regs (s : State) {src : List (Nat × Nat × Bool)} (h : ∀ e ∈ src, e.1 < 64) :
    SameRegs s (s.advanceAll src) ((List.range 16).map Reg.PYL_CTR) := fun a ha =>
  foldl_keeps (fun t => t.reg a) src s _ fun t e he => advanceCtr_regs t e.2.1 e.2.2 (h e he) a ha

/-- Counter i ends at the highest of its value and the versions that name it with ADVANCE. -/
theorem ctr_advanceAll (s : State) {src : List (Nat × Nat × Bool)} (h : ∀ e ∈ src, e.2.1 < 256) (i : Nat) :
    (s.advanceAll src).ctr i = (src.filter (fun e => e.1 == i && e.2.2)).foldl (fun x e => max x e.2.1) (s.ctr i) := by
  induction src generalizing s with
  | nil => rfl
  | cons e t ih =>
    obtain ⟨he, ht⟩ := List.forall_mem_cons.1 h
    have hstep := ctr_advanceCtr s e.1 i e.2.2 he
    refine (ih (s.advanceCtr e.1 e.2.1 e.2.2) ht).trans ?_
    rw [hstep, List.filter_cons]
    split <;> rfl

/-- What a commit advances: the image, the legal section where there is one, and the elements since reset. -/
def State.commitSources (s : State) : List (Nat × Nat × Bool) :=
  [(leAt s.load.hdr 0x10 1, leAt s.load.hdr 0x11 1, (leAt s.load.hdr 0x13 1).testBit 0)] ++
    (if s.lenOf 8 = 0 then [] else [(s.cfgB 8 0, s.cfgB 8 1, (s.cfgB 8 3).testBit 0)]) ++ s.pyl.elems

theorem wrImgcommit_commits {s : State} (m : Master) {v : Nat} (h : v.testBit 0 = true) (hk : v / 65536 % 65536 = 0xC0A7)
    (hc : s.bit Fld.PYL_IMGSTAT_COMMITTED = false) :
    s.wrImgcommit m v = (s.advanceAll s.commitSources).putB Fld.PYL_IMGSTAT_COMMITTED true := by
  unfold State.wrImgcommit
  rw [if_neg (by simp [h]), if_neg (by simp [hk]), if_neg (by simp [hc])]
  extract_lets hdr u w x
  have hu : OnlyRegs s u := onlyRegs_advanceCtr s _ _ _
  have hlen : u.lenOf 8 = s.lenOf 8 := by rw [hu]; rfl
  have hcfg (o : Nat) : u.cfgB 8 o = s.cfgB 8 o := by rw [hu]; rfl
  have hw : w = if s.lenOf 8 = 0 then u else u.advanceCtr (s.cfgB 8 0) (s.cfgB 8 1) ((s.cfgB 8 3).testBit 0) := by
    simp only [w, hlen, hcfg]
  have helems : w.pyl.elems = s.pyl.elems := by
    have hpyl : u.pyl = s.pyl := by rw [hu]
    rw [hw]
    split
    · rw [hpyl]
    · rw [onlyRegs_advanceCtr u (s.cfgB 8 0) (s.cfgB 8 1) ((s.cfgB 8 3).testBit 0), hpyl]
  have hx : x = w.advanceAll s.pyl.elems := congrArg w.advanceAll helems
  rw [hx, hw]
  simp only [State.commitSources, State.advanceAll, List.foldl_append]
  split <;> rfl

/-- The first commit with its key. -/
theorem imageCommit_commits {s : State} {m : Master} {v : Word} (ht : s.takes m Reg.PYL_IMGCOMMIT = true) (h0 : v.toNat.testBit 0 = true)
    (hk : v.toNat / 65536 % 65536 = 0xC0A7) (hc : s.bit Fld.PYL_IMGSTAT_COMMITTED = false)
    (hsrc : ∀ e ∈ s.commitSources, e.1 < 64 ∧ e.2.1 < 256) :
    Completes (.imageCommit m v) s (fun t => t.bit Fld.PYL_IMGSTAT_COMMITTED = true ∧ SameMem s t ∧
      SameRegs s t (Reg.PYL_IMGSTAT :: (List.range 16).map Reg.PYL_CTR) ∧
      ∀ i, i < 64 → t.ctr i = (s.commitSources.filter (fun e => e.1 == i && e.2.2)).foldl (fun x e => max x e.2.1) (s.ctr i)) := by
  let u := s.advanceAll s.commitSources
  have hregs : SameRegs s u ((List.range 16).map Reg.PYL_CTR) := advanceAll_regs s fun e he => (hsrc e he).1
  refine ⟨u.putB Fld.PYL_IMGSTAT_COMMITTED true, ?_, ?_, ?_, ?_, ?_⟩
  · exact congrArg Host.Outcome.next ((wr_imgcommit v ht).trans (wrImgcommit_commits m h0 hk hc))
  · exact bit_putB_same u Fld.PYL_IMGSTAT_COMMITTED true (by decide) (by decide)
  · exact (onlyRegs_advanceAll s s.commitSources).sameMem
  · intro a ha
    rw [List.mem_cons, not_or] at ha
    obtain ⟨hs, hctr⟩ := ha
    exact (reg_put_ne (f := Fld.PYL_IMGSTAT_COMMITTED) u 1 hs).trans (hregs a hctr)
  · intro i _
    have hne : Reg.PYL_CTR (i / 4) ≠ Reg.PYL_IMGSTAT := by unfold Reg.PYL_CTR Reg.PYL_IMGSTAT; omega
    exact (get_put_ne u (f := Fld.PYL_IMGSTAT_COMMITTED) (g := ctrField i) 1 hne).trans
      (ctr_advanceAll s (fun e he => (hsrc e he).2) i)

end Sys2Proof.Machine

/-! SUPPORT. The move to DEPLOYED (R765). -/

namespace Sys2Proof.Machine

theorem wr_lcctl {s : State} {m : Master} (v : Word) (h : s.takes m Reg.PYL_LCCTL = true) :
    s.wr m Reg.PYL_LCCTL v = s.wrLcctl v.toNat := wr_of_takes v h (by decide) (by decide)

theorem wrLcctl_other (s : State) {v : Nat} (h : v / 65536 % 65536 ≠ 0x1D7E ∨ v % 4 ≠ 2) : s.wrLcctl v = s := if_pos h

/-- PROVISION with the slots that R765 asks for. -/
def State.deployReady (s : State) : Prop :=
  s.lifecycle = 1 ∧ (s.get Fld.PYL_KFUSE_FUSED).testBit 0 = true ∧
    ((s.get Fld.PYL_KFUSE_FUSED).testBit 6 = true ∨ (s.get Fld.PYL_KFUSE_FUSED).testBit 7 = true)

theorem wrLcctl_ready {s : State} {v : Nat} (hk : v / 65536 % 65536 = 0x1D7E) (ht : v % 4 = 2) (h : s.deployReady) :
    s.wrLcctl v = { s with pyl := { s.pyl with lcNext := 2 } } :=
  (if_neg (by simp [hk, ht])).trans (if_pos h)

theorem wrLcctl_refused {s : State} {v : Nat} (hk : v / 65536 % 65536 = 0x1D7E) (ht : v % 4 = 2) (h : ¬ s.deployReady) :
    s.wrLcctl v = s.putB Fld.PYL_EVT_LC_REF true :=
  (if_neg (by simp [hk, ht])).trans (if_neg h)

end Sys2Proof.Machine

/-! SUPPORT. The poll of the violation counters (R769). -/

namespace Sys2Proof.Machine

/-- A repetition acts on a quantity as its round of `k` does, where every other round leaves the quantity alone. -/
theorem forEach_acts {β : Type} (p : State → β) (g : β → β) {l : List Nat} {k : Nat} (s : State) (f : State → Nat → State)
    (hk : k ∈ l) (hl : l.Nodup) (hne : ∀ t, ∀ x ∈ l, x ≠ k → p (f t x) = p t) (hs : ∀ t, p (f t k) = g (p t)) :
    p (forEach l s f) = g (p s) := by
  obtain ⟨l₁, l₂, rfl⟩ := List.append_of_mem hk
  obtain ⟨h₁, h₂⟩ : k ∉ l₁ ∧ k ∉ l₂ := by
    obtain ⟨-, hk₂, hd⟩ := List.nodup_append.1 hl
    exact ⟨fun h => hd k h k (List.mem_cons_self ..) rfl, (List.nodup_cons.1 hk₂).1⟩
  have before : p (forEach l₁ s f) = p s := forEach_keeps p l₁ s f fun t x hx =>
    hne t x (List.mem_append_left _ hx) fun e => h₁ (e ▸ hx)
  have after (t : State) : p (forEach l₂ t f) = p t := forEach_keeps p l₂ t f fun t x hx =>
    hne t x (List.mem_append_right _ (List.mem_cons_of_mem _ hx)) fun e => h₂ (e ▸ hx)
  have split : forEach (l₁ ++ k :: l₂) s f = forEach l₂ (f (forEach l₁ s f) k) f := by
    simp only [forEach, List.foldl_append, List.foldl_cons]
  rw [split, after, hs, before]

/-- Bits of a mask field of which one bit was written. -/
theorem testBit_get_putBit (s : State) (f : FieldRef) {i : Nat} (j : Nat) (b : Bool) (h : f.lo + f.w ≤ 32) (hi : i < f.w) :
    ((s.putBit f i b).get f).testBit j = if j = i then b else (s.get f).testBit j := by
  rw [State.putBit, get_put_same s f _ h, Nat.testBit_mod_two_pow, testBit_mset]
  by_cases hj : j < f.w
  · simp [hj]
  · have hout : (s.get f).testBit j = false :=
      Nat.testBit_lt_two_pow ((get_lt s f).trans_le (Nat.pow_le_pow_right Nat.two_pos (by omega)))
    simp [hj, hout, show j ≠ i by omega]

/-- What stands of master n's violations: count and last address in the Causeway, total, last address and marks with Pylon. -/
structure Tally where
  count : Nat
  address : Nat
  total : Nat
  noted : Nat
  isNew : Bool
  isSat : Bool

def State.tally (s : State) (n : Nat) : Tally where
  count := s.get (Fld.CWY_VIOL_COUNT n)
  address := s.get (Fld.CWY_VADDR_ADDR n)
  total := s.get (Fld.PYL_VIOL_VALUE n)
  noted := s.get (Fld.PYL_VADDR_VALUE n)
  isNew := (s.get Fld.PYL_VIOLSUM_NEW).testBit n
  isSat := (s.get Fld.PYL_VIOLSAT_SAT).testBit n

/-- What a poll leaves of a tally (R769). -/
def Tally.polled (k : Tally) : Tally where
  count := 0
  address := k.address
  total := min (2 ^ 32 - 1) (k.total + k.count)
  noted := if k.count = 0 then k.noted else k.address
  isNew := k.isNew || k.count != 0
  isSat := k.isSat || k.count == 0xFFFF

/-- Without violations a poll leaves the tally. -/
theorem Tally.polled_of_none {k : Tally} (h : k.count = 0) (ht : k.total < 2 ^ 32) : k.polled = k := by
  obtain ⟨count, address, total, noted, isNew, isSat⟩ := k
  obtain rfl : count = 0 := h
  have htotal : min (2 ^ 32 - 1) (total + 0) = total := min_eq_right (Nat.le_pred_of_lt ht)
  simp only [Tally.polled, htotal, if_true, bne_self_eq_false, Bool.or_false, Tally.mk.injEq, true_and]
  exact Bool.or_false isSat

/-- Pylon takes the violations of master n into its total. -/
def State.takeViolations (s : State) (n : Nat) : State :=
  let u := (s.put (Fld.CWY_VIOL_COUNT n) 0).put (Fld.PYL_VIOL_VALUE n)
    (min (2 ^ 32 - 1) (s.get (Fld.PYL_VIOL_VALUE n) + s.get (Fld.CWY_VIOL_COUNT n)))
  (u.put (Fld.PYL_VADDR_VALUE n) (u.get (Fld.CWY_VADDR_ADDR n))).putBit Fld.PYL_VIOLSUM_NEW n true

/-- The poll of master n. -/
def State.pollRound (s : State) (n : Nat) : State :=
  if s.get (Fld.CWY_VIOL_COUNT n) = 0 then s
  else if s.get (Fld.CWY_VIOL_COUNT n) = 0xFFFF then (s.takeViolations n).putBit Fld.PYL_VIOLSAT_SAT n true
  else s.takeViolations n

/-- The poll of all masters. -/
def State.polled (s : State) : State := forEach (List.range 19) s State.pollRound

theorem exec_violationPoll {s : State} (ha : s.asleep = false) (hr : s.load.stage = .run) : exec .violationPoll s = .next s.polled :=
  congrArg Host.Outcome.next (if_neg (by simp [ha, hr]))

theorem pollRound_cases (s : State) (n : Nat) : s.pollRound n = s ∨ s.pollRound n = s.takeViolations n ∨
    s.pollRound n = (s.takeViolations n).putBit Fld.PYL_VIOLSAT_SAT n true := by
  unfold State.pollRound
  split
  · exact .inl rfl
  split
  · exact .inr (.inr rfl)
  · exact .inr (.inl rfl)

theorem takeViolations_regs (s : State) (n : Nat) :
    SameRegs s (s.takeViolations n) [Reg.CWY_VIOL n, Reg.PYL_VIOL n, Reg.PYL_VADDR n, Reg.PYL_VIOLSUM] := fun a ha => by
  simp only [List.mem_cons, List.not_mem_nil, or_false, not_or] at ha
  obtain ⟨hcount, htotal, hnoted, hnew⟩ := ha
  exact (reg_put_ne (f := Fld.PYL_VIOLSUM_NEW) _ _ hnew).trans ((reg_put_ne (f := Fld.PYL_VADDR_VALUE n) _ _ hnoted).trans
    ((reg_put_ne (f := Fld.PYL_VIOL_VALUE n) _ _ htotal).trans (reg_put_ne (f := Fld.CWY_VIOL_COUNT n) s 0 hcount)))

theorem pollRound_regs (s : State) (n : Nat) :
    SameRegs s (s.pollRound n) [Reg.CWY_VIOL n, Reg.PYL_VIOL n, Reg.PYL_VADDR n, Reg.PYL_VIOLSUM, Reg.PYL_VIOLSAT] := fun a ha => by
  simp only [List.mem_cons, List.not_mem_nil, or_false, not_or] at ha
  obtain ⟨hcount, htotal, hnoted, hnew, hsat⟩ := ha
  have htake : (s.takeViolations n).reg a = s.reg a := takeViolations_regs s n a (by simp [*])
  rcases pollRound_cases s n with e | e | e <;> rw [e]
  · exact htake
  · exact (reg_put_ne (f := Fld.PYL_VIOLSAT_SAT) _ _ hsat).trans htake

/-- Where the fields of a tally lie. -/
theorem tally_fields (n : Nat) :
    (Fld.CWY_VIOL_COUNT n).addr = 0x40000200 + 4 * n ∧ (Fld.CWY_VADDR_ADDR n).addr = 0x40000300 + 4 * n ∧
    (Fld.PYL_VIOL_VALUE n).addr = 0x40030C00 + 8 * n ∧ (Fld.PYL_VADDR_VALUE n).addr = 0x40030C04 + 8 * n ∧
    Fld.PYL_VIOLSUM_NEW.addr = 0x40030CA0 ∧ Fld.PYL_VIOLSAT_SAT.addr = 0x40030CA4 ∧
    (Fld.CWY_VIOL_COUNT n).lo + (Fld.CWY_VIOL_COUNT n).w = 16 ∧ (Fld.PYL_VIOL_VALUE n).lo + (Fld.PYL_VIOL_VALUE n).w = 32 ∧
    (Fld.PYL_VADDR_VALUE n).lo + (Fld.PYL_VADDR_VALUE n).w = 32 ∧ Fld.PYL_VIOLSUM_NEW.lo = 0 ∧ Fld.PYL_VIOLSUM_NEW.w = 19 ∧
    Fld.PYL_VIOLSAT_SAT.lo = 0 ∧ Fld.PYL_VIOLSAT_SAT.w = 19 := by
  refine ⟨?_, ?_, ?_, ?_, ?_, ?_, ?_, ?_, ?_, ?_, ?_, ?_, ?_⟩ <;> rfl

theorem get_putBit_ne (s : State) {f g : FieldRef} (i : Nat) (b : Bool) (h : g.addr ≠ f.addr) : (s.putBit f i b).get g = s.get g :=
  get_put_ne s _ h

theorem tally_takeViolations (s : State) {n : Nat} (hn : n < 19) :
    (s.takeViolations n).tally n =
      ⟨0, (s.tally n).address, min (2 ^ 32 - 1) ((s.tally n).total + (s.tally n).count), (s.tally n).address, true, (s.tally n).isSat⟩ := by
  have hf := tally_fields n
  simp only [State.tally, State.takeViolations, Tally.mk.injEq]
  refine ⟨?_, ?_, ?_, ?_, ?_, ?_⟩
  all_goals simp (disch := omega) only [get_put_same, get_put_ne, testBit_get_putBit, get_putBit_ne, if_true]
  · exact Nat.zero_mod _
  · exact Nat.mod_eq_of_lt (Nat.lt_of_le_of_lt (min_le_left _ _) (Nat.pred_lt (by decide : 2 ^ 32 ≠ 0)))
  · exact Nat.mod_eq_of_lt (get_lt s (Fld.CWY_VADDR_ADDR n))

theorem tally_takeViolations_ne (s : State) {n m : Nat} (hn : n < 19) (hm : m < 19) (h : m ≠ n) :
    (s.takeViolations n).tally m = s.tally m := by
  have hf := tally_fields n
  have hg := tally_fields m
  simp (disch := omega) only [State.tally, State.takeViolations, get_put_ne, testBit_get_putBit, get_putBit_ne, if_neg h]

theorem tally_markSat (s : State) {n m : Nat} (hn : n < 19) (hm : m < 19) :
    (s.putBit Fld.PYL_VIOLSAT_SAT n true).tally m = { s.tally m with isSat := m == n || (s.tally m).isSat } := by
  have hg := tally_fields m
  simp (disch := omega) only [State.tally, testBit_get_putBit, get_putBit_ne]
  by_cases h : m = n <;> simp [h]

theorem pollRound_none {s : State} {n : Nat} (h : (s.tally n).count = 0) : s.pollRound n = s := if_pos h

theorem pollRound_some {s : State} {n : Nat} (h : (s.tally n).count ≠ 0) : s.pollRound n =
    if (s.tally n).count = 0xFFFF then (s.takeViolations n).putBit Fld.PYL_VIOLSAT_SAT n true else s.takeViolations n := if_neg h

theorem tally_pollRound (s : State) {n : Nat} (hn : n < 19) : (s.pollRound n).tally n = (s.tally n).polled := by
  by_cases h0 : (s.tally n).count = 0
  · rw [pollRound_none h0, Tally.polled_of_none h0 (get_lt s (Fld.PYL_VIOL_VALUE n))]
  · rw [pollRound_some h0]
    split
    · next hs => simp [Tally.polled, tally_markSat _ hn hn, tally_takeViolations s hn, hs]
    · next hs => simp [Tally.polled, tally_takeViolations s hn, h0, hs]

theorem tally_pollRound_ne (s : State) {n m : Nat} (hn : n < 19) (hm : m < 19) (h : m ≠ n) : (s.pollRound n).tally m = s.tally m := by
  rcases pollRound_cases s n with e | e | e <;> rw [e]
  · exact tally_takeViolations_ne s hn hm h
  · rw [tally_markSat _ hn hm, tally_takeViolations_ne s hn hm h, beq_eq_false_iff_ne.2 h, Bool.false_or]

theorem tally_polled (s : State) {n : Nat} (hn : n < 19) : s.polled.tally n = (s.tally n).polled :=
  forEach_acts (State.tally · n) Tally.polled s State.pollRound (List.mem_range.2 hn) List.nodup_range
    (fun t _ hx h => tally_pollRound_ne t (List.mem_range.1 hx) hn h.symm) fun t => tally_pollRound t hn

theorem polled_blocks (s : State) : SameBlocks s s.polled [0x4000, 0x4003] := fun a ha =>
  forEach_keeps (State.reg · a) (List.range 19) s State.pollRound fun t n hn => by
    have hn : n < 19 := List.mem_range.1 hn
    refine pollRound_regs t n a fun h => ?_
    simp only [List.mem_cons, List.not_mem_nil, or_false, not_or, Reg.CWY_VIOL, Reg.PYL_VIOL, Reg.PYL_VADDR, Reg.PYL_VIOLSUM,
      Reg.PYL_VIOLSAT] at h ha
    omega

theorem polled_mem (s : State) : SameMem s s.polled := fun a =>
  forEach_keeps (State.memB · a) (List.range 19) s State.pollRound fun t n _ => by
    rcases pollRound_cases t n with e | e | e <;> rw [e] <;> rfl

/-- What a poll leaves of a master's registers. -/
theorem polled_shows (s : State) {n : Nat} (hn : n < 19) :
    s.polled.get (Fld.CWY_VIOL_COUNT n) = 0 ∧
    s.polled.get (Fld.PYL_VIOL_VALUE n) = min (2 ^ 32 - 1) (s.get (Fld.PYL_VIOL_VALUE n) + s.get (Fld.CWY_VIOL_COUNT n)) ∧
    (s.get (Fld.CWY_VIOL_COUNT n) ≠ 0 → s.polled.get (Fld.PYL_VADDR_VALUE n) = s.get (Fld.CWY_VADDR_ADDR n)) ∧
    (s.polled.get Fld.PYL_VIOLSUM_NEW).testBit n = ((s.get Fld.PYL_VIOLSUM_NEW).testBit n || s.get (Fld.CWY_VIOL_COUNT n) != 0) ∧
    (s.polled.get Fld.PYL_VIOLSAT_SAT).testBit n = ((s.get Fld.PYL_VIOLSAT_SAT).testBit n || s.get (Fld.CWY_VIOL_COUNT n) == 0xFFFF) := by
  have ht := tally_polled s hn
  exact ⟨congrArg Tally.count ht, congrArg Tally.total ht, fun h => (congrArg Tally.noted ht).trans (if_neg h),
    congrArg Tally.isNew ht, congrArg Tally.isSat ht⟩

/-- Settles O57: what Pylon takes next, the end of a command, the commit, LCCTL and the poll, each by its lemmas. -/
theorem pylonServesCommitsAndCounts : Obligations.PylonServesCommitsAndCounts := by
  unfold Obligations.PylonServesCommitsAndCounts
  intro s
  refine ⟨fun tls => ⟨exec_pylonServeNext_busy tls, fun h => ?_⟩, fun c hc => ⟨exec_pylonCommandDone_waits hc, fun hs h hd => ?_⟩,
    fun m v ht h0 => ?_, fun m v ht => ?_, fun ha hr => ?_⟩
  · exact ⟨_, exec_pylonServeNext_free tls h, rfl, nextWork_record tls, nextWork_other tls⟩
  · obtain ⟨hst, hdone, hbusy, hcmd, hserving, hregs⟩ := commandEnded_shows s c (if c.served then c.status else 0x20)
    exact ⟨_, exec_pylonCommandDone_ends hc hs h hd, hst, hdone, hbusy, hcmd, hserving, hregs, commandEnded_memB s c _⟩
  · have hv := v.isLt
    have hx : exec (.imageCommit m v) s = .next (s.wrImgcommit m v.toNat) := congrArg Host.Outcome.next (wr_imgcommit v ht)
    refine ⟨fun hk => ?_, fun hk hc => ?_, fun hk hc hsrc => imageCommit_commits ht h0 (by omega) hc hsrc⟩
    · rw [hx, wrImgcommit_wrongKey s m h0 (by omega)]
    · rw [hx, wrImgcommit_again m h0 (by omega) hc]
  · have hv := v.isLt
    have hx : exec (.lifecycleDeploy m v) s = .next (s.wrLcctl v.toNat) := congrArg Host.Outcome.next (wr_lcctl v ht)
    refine ⟨fun h => ?_, fun hk h2 h => ?_, fun hk h2 h => ?_⟩
    · rw [hx, wrLcctl_other s (by omega)]
    · rw [hx, wrLcctl_ready (by omega) h2 h]
    · rw [hx, wrLcctl_refused (by omega) h2 h]
  · exact ⟨s.polled, exec_violationPoll ha hr, polled_blocks s, polled_mem s, fun n => polled_shows s n.isLt⟩

end Sys2Proof.Machine

/-! SUPPORT for O16 and O43: what the report of a fault, its handling and the safe state can write. -/

namespace Sys2Proof.Machine

/-- Both fields end within their register's 32 bits and share no bit. -/
def FieldRef.apart (f g : FieldRef) : Bool :=
  decide (f.lo + f.w ≤ 32) && (g.addr != f.addr || decide (g.lo + g.w ≤ f.lo) || decide (f.lo + f.w ≤ g.lo))

theorem get_put_apart (s : State) {f g : FieldRef} (v : Nat) (h : f.apart g = true) : (s.put f v).get g = s.get g := by
  simp only [FieldRef.apart, Bool.and_eq_true, Bool.or_eq_true, bne_iff_ne, decide_eq_true_eq, or_assoc] at h
  obtain ⟨hw, h⟩ := h
  by_cases ha : g.addr = f.addr
  · exact get_put_disjoint s v hw ha (h.resolve_left (not_not.2 ha))
  · exact get_put_ne s v ha

theorem bit_put_apart (s : State) {f g : FieldRef} (v : Nat) (h : f.apart g = true) : (s.put f v).bit g = s.bit g :=
  congrArg (· != 0) (get_put_apart s v h)

theorem bit_putB_apart (s : State) {f g : FieldRef} (b : Bool) (h : f.apart g = true) : (s.putB f b).bit g = s.bit g := bit_put_apart s _ h

/-- What the handling of a fault writes: latches, events, queue and record, arming, outputs, checks, and LOWER (R609 to R618, R655). -/
def handlingFields : List FieldRef :=
  [Fld.PRP_STAT_LATCH_A, Fld.PRP_STAT_LATCH_B, Fld.PRP_LATCH_OUTLETS, Fld.PRP_LATCH_PIERS, Fld.PRP_EVT_FAULT_A, Fld.PRP_EVT_FAULT_B,
    Fld.PRP_EVT_ARM_CHG, Fld.PRP_ARMED_PIERS, Fld.PRP_PSOSTAT_ON, Fld.PRP_QUEUE_HANDLING, Fld.PRP_QUEUE_FILL, Fld.PRP_QUEUE_DROPPED] ++
  (List.range 16).map Fld.PRP_WELD_RESULT ++ (List.range 64).map Fld.ARC_XP_STAT_STATE ++
  (List.range 12).map Fld.SPN_LINK_STAT_LOWER_TX ++ (List.range 8).map Fld.KST_OUT_CTRL_LOWERING

/-- What the safe state writes beside: its mark, its instant, and the broadcast (R144, R606). -/
def safeFields : List FieldRef := [Fld.PRP_STAT_SAFE, Fld.PRP_RTIME_BCAST, Fld.SPN_BCAST_SENT, Fld.SPN_BCAST_LOWER]

/-- A reading of the state that sees none of the fields `F`, and of the rest neither the Parapet's, the Arch's and the Keystone's records nor
the free-value counter. -/
structure Blind {β : Type} (F : List FieldRef) (p : State → β) : Prop where
  put : ∀ (s : State) (v : Nat), ∀ f ∈ F, p (s.put f v) = p s
  prp : ∀ (s : State) (x : Parapet), p { s with prp := x } = p s
  arc : ∀ (s : State) (x : Arch), p { s with arc := x } = p s
  kst : ∀ (s : State) (x : Kst), p { s with kst := x } = p s
  free : ∀ (s : State) (x : Nat), p { s with freeCtr := x } = p s

/-- A field that lies apart from `F` is such a reading. -/
theorem blind_get {F : List FieldRef} {g : FieldRef} (h : ∀ f ∈ F, f.apart g = true) : Blind F (fun s => s.get g) where
  put s v f hf := get_put_apart s v (h f hf)
  prp _ _ := rfl
  arc _ _ := rfl
  kst _ _ := rfl
  free _ _ := rfl

theorem Blind.map {β γ : Type} {F : List FieldRef} {p : State → β} (h : Blind F p) (g : β → γ) : Blind F (fun s => g (p s)) where
  put s v f hf := congrArg g (h.put s v f hf)
  prp s x := congrArg g (h.prp s x)
  arc s x := congrArg g (h.arc s x)
  kst s x := congrArg g (h.kst s x)
  free s x := congrArg g (h.free s x)

theorem Blind.prod {β γ : Type} {F : List FieldRef} {p : State → β} {q : State → γ} (h : Blind F p) (k : Blind F q) :
    Blind F (fun s => (p s, q s)) where
  put s v f hf := Prod.ext (h.put s v f hf) (k.put s v f hf)
  prp s x := Prod.ext (h.prp s x) (k.prp s x)
  arc s x := Prod.ext (h.arc s x) (k.arc s x)
  kst s x := Prod.ext (h.kst s x) (k.kst s x)
  free s x := Prod.ext (h.free s x) (k.free s x)

theorem blind_bit {F : List FieldRef} {g : FieldRef} (h : ∀ f ∈ F, f.apart g = true) : Blind F (fun s => s.bit g) :=
  (blind_get h).map (· != 0)

/-- So is whatever is read of one link's record. -/
theorem blind_link {β : Type} (F : List FieldRef) (l : Nat) (q : Link → β) : Blind F (fun s => q (s.link l)) where
  put _ _ _ _ := rfl
  prp _ _ := rfl
  arc _ _ := rfl
  kst _ _ := rfl
  free _ _ := rfl

/-! ### The handling of a fault -/

section
variable {β : Type} {p : State → β} (h : Blind handlingFields p)
include h

theorem Blind.weld {k : Nat} (hk : k ∈ List.range 16) (s : State) (v : Nat) : p (s.put (Fld.PRP_WELD_RESULT k) v) = p s :=
  h.put s v _ (by simp only [handlingFields, List.mem_append, List.mem_map_of_mem hk, or_true, true_or])

theorem Blind.crosspoint {k : Nat} (hk : k ∈ List.range 64) (s : State) (v : Nat) : p (s.put (Fld.ARC_XP_STAT_STATE k) v) = p s :=
  h.put s v _ (by simp only [handlingFields, List.mem_append, List.mem_map_of_mem hk, or_true, true_or])

theorem Blind.lowerTx {l : Nat} (hl : l ∈ List.range 12) (s : State) (v : Nat) : p (s.put (Fld.SPN_LINK_STAT_LOWER_TX l) v) = p s :=
  h.put s v _ (by simp only [handlingFields, List.mem_append, List.mem_map_of_mem hl, or_true, true_or])

theorem Blind.lowering {m : Nat} (hm : m ∈ List.range 8) (s : State) (v : Nat) : p (s.put (Fld.KST_OUT_CTRL_LOWERING m) v) = p s :=
  h.put s v _ (by simp only [handlingFields, List.mem_append, List.mem_map_of_mem hm, or_true])

theorem Blind.syncLower (s : State) : p s.syncLower = p s := by
  refine forEach_keeps p _ s _ fun t l hl => ?_
  split
  · rfl
  · exact h.lowerTx hl t _

theorem Blind.abandonChecks (s : State) (m : Nat) : p (s.abandonChecks m) = p s := by
  refine forEach_keeps p _ s _ fun t k hk => ?_
  split
  · exact (h.prp _ _).trans (h.weld hk t 4)
  · rfl

theorem Blind.abandonXps (s : State) (m : Nat) : p (s.abandonXps m) = p s := by
  refine forEach_keeps p _ s _ fun t k hk => ?_
  split
  · exact (h.arc _ _).trans (h.crosspoint hk t 0)
  · rfl

theorem Blind.outputsOff (s : State) (m : Nat) : p (s.outputsOff m) = p s := by
  refine (forEach_keeps p _ _ _ fun t k hk => ?_).trans (h.put s _ Fld.PRP_PSOSTAT_ON (by decide))
  dsimp only
  split
  · exact (h.prp _ _).trans (h.weld hk t 5)
  · rfl

theorem Blind.setArmed (s : State) (m : Nat) : p (s.setArmed m) = p s := by
  unfold State.setArmed
  split
  · rfl
  · exact (h.put _ _ Fld.PRP_EVT_ARM_CHG (by decide)).trans (h.put s _ Fld.PRP_ARMED_PIERS (by decide))

theorem Blind.settleOutputs (s : State) : p s.settleOutputs = p s := by
  unfold State.settleOutputs
  split
  · rfl
  · exact h.outputsOff _ _

theorem Blind.settleDisarm (s : State) : p s.settleDisarm = p s := by
  unfold State.settleDisarm
  dsimp only
  split
  · rfl
  · exact (h.settleOutputs _).trans ((h.setArmed _ _).trans (h.prp s _))

theorem Blind.syncQueue (s : State) : p s.syncQueue = p s :=
  (h.put _ _ Fld.PRP_QUEUE_FILL (by decide)).trans (h.put s _ Fld.PRP_QUEUE_HANDLING (by decide))

theorem Blind.latchRegs (s : State) : p s.latchRegs = p s :=
  (h.put _ _ Fld.PRP_LATCH_PIERS (by decide)).trans <| (h.put _ _ Fld.PRP_LATCH_OUTLETS (by decide)).trans <|
    (h.put _ _ Fld.PRP_STAT_LATCH_B (by decide)).trans (h.put s _ Fld.PRP_STAT_LATCH_A (by decide))

theorem Blind.syncLatch (s : State) : p s.syncLatch = p s := by
  refine ((h.syncLower _).trans (forEach_keeps p _ s.latchRegs _ fun t m _ => ?_)).trans (h.latchRegs s)
  split
  · rfl
  · exact h.kst t _

theorem Blind.classB (s : State) (r : FaultRec) : p (s.classB r) = p s := by
  unfold State.classB
  extract_lets u outs v
  have hu : p u = p s := forEach_keeps p _ s _ fun t m hm =>
    (h.lowering (List.mem_range.2 (mem_outletBits.1 hm).1) _ _).trans (h.kst t _)
  have hv : p v = p u := (h.abandonXps _ _).trans (h.abandonChecks _ _)
  clear_value u v
  exact (h.settleDisarm _).trans ((h.prp v _).trans (hv.trans hu))

theorem Blind.startHandling (s : State) (r : FaultRec) : p (s.startHandling r) = p s := by
  have ht : p (s.taken r) = p s := h.prp s _
  by_cases hA : r.cls = 1
  · rw [startHandling_A s hA, h.syncQueue]
    exact (h.put _ _ Fld.PRP_EVT_FAULT_A (by decide)).trans ((h.syncLatch _).trans ht)
  by_cases hB : r.cls = 2
  · rw [startHandling_B s hB, h.syncQueue, h.classB]
    exact (h.put _ _ Fld.PRP_EVT_FAULT_B (by decide)).trans ((h.syncLatch _).trans ht)
  by_cases hC : r.cls = 3
  · rw [startHandling_C s hC, h.syncQueue]
    exact (h.prp _ _).trans ht
  · rw [startHandling_D s hA hB hC, h.syncQueue]
    exact (h.prp _ _).trans ht

/-- What the manager leaves alone where the safe state that a full queue brings leaves it alone. -/
theorem Blind.meetManager (s : State) (r : FaultRec) (hsafe : p s.assertSafe = p s) : p (s.meetManager r) = p s := by
  unfold State.meetManager
  split
  · exact h.prp s _
  split
  · exact h.startHandling s r
  split
  · exact h.startHandling s r
  split
  · exact (h.syncQueue _).trans (h.prp s _)
  split
  · exact h.put s _ Fld.PRP_QUEUE_DROPPED (by decide)
  split
  · exact (h.syncQueue _).trans ((h.put _ _ Fld.PRP_QUEUE_DROPPED (by decide)).trans (h.prp s _))
  · exact (h.startHandling _ _).trans hsafe

end

/-! ### The safe state and the report -/

/-- The lower ordered sets that a broadcast puts on a link. -/
def Link.broadcast (k : Link) : Link := { k with lowerSets := 8, stream := lowerStream ++ idleSet }

/-- The safe state apart from the start of OUT_DELAY: what it marks once the broadcast has left. -/
def State.safeMarked (s : State) (b : Nat) : State :=
  (((s.lowerBroadcast.putB Fld.PRP_STAT_SAFE true).put Fld.PRP_RTIME_BCAST b).abandonChecks 0xFFF).abandonXps 0xFFFFFF

/-- The safe state starts OUT_DELAY where it was not asserted (R606). -/
theorem assertSafe_eq (s : State) : ∃ b x, s.assertSafe = { (s.fresh 16).2.safeMarked b with prp := x } ∧
    x.lowerHeld = ((s.fresh 16).2.safeMarked b).prp.lowerHeld ∧ (s.bit Fld.PRP_STAT_SAFE = false → x.outDelay = true) := by
  unfold State.assertSafe
  generalize s.fresh 16 = q
  obtain ⟨b, w⟩ := q
  dsimp -zeta only
  extract_lets starts v u
  have hu : w.safeMarked b = u := rfl
  have hstarts : starts = !s.bit Fld.PRP_STAT_SAFE := rfl
  clear_value starts v u
  refine ⟨b, if starts = true then { u.prp with outDelay := true } else u.prp, ?_⟩
  rw [hu]
  cases hs : s.bit Fld.PRP_STAT_SAFE with
  | true =>
    rw [hstarts, hs]
    exact ⟨rfl, rfl, fun h => absurd h (by decide)⟩
  | false =>
    rw [hstarts, hs]
    exact ⟨rfl, rfl, fun _ => rfl⟩

section
variable {β : Type} {p : State → β} (h : Blind (handlingFields ++ safeFields) p) (hl : ∀ s l, p (s.modLink l Link.broadcast) = p s)
include h

theorem Blind.handling : Blind handlingFields p :=
  { h with put := fun s v f hf => h.put s v f (List.mem_append_left _ hf) }

theorem Blind.safeField {f : FieldRef} (hf : f ∈ safeFields) (s : State) (v : Nat) : p (s.put f v) = p s :=
  h.put s v f (List.mem_append_right _ hf)

include hl

theorem Blind.lowerBroadcast (s : State) : p s.lowerBroadcast = p s := by
  refine (h.handling.syncLower _).trans ((h.prp _ _).trans ((h.safeField (f := Fld.SPN_BCAST_LOWER) (by decide) _ _).trans
    ((h.safeField (f := Fld.SPN_BCAST_SENT) (by decide) _ _).trans (forEach_keeps p _ s _ fun t l _ => ?_))))
  split
  · exact hl t l
  · rfl

theorem Blind.safeMarked (s : State) (b : Nat) : p (s.safeMarked b) = p s :=
  (h.handling.abandonXps _ _).trans ((h.handling.abandonChecks _ _).trans
    ((h.safeField (f := Fld.PRP_RTIME_BCAST) (by decide) _ _).trans
      ((h.safeField (f := Fld.PRP_STAT_SAFE) (by decide) _ _).trans (h.lowerBroadcast hl s))))

theorem Blind.assertSafe (s : State) : p s.assertSafe = p s := by
  obtain ⟨b, x, e, -, -⟩ := assertSafe_eq s
  rw [e]
  exact (h.prp _ x).trans ((h.safeMarked hl _ b).trans (h.free s _))

/-- A report leaves alone what neither the safe state nor the handling of a fault writes. -/
theorem Blind.report (s : State) (code cls src o m : Nat) : p (s.report code cls src o m) = p s := by
  unfold State.report
  extract_lets c u
  have hu : p u = p s := by
    unfold u
    split
    · exact h.assertSafe hl s
    · rfl
  clear_value u
  split
  · exact (h.handling.meetManager _ _ (h.assertSafe hl _)).trans ((h.free u _).trans hu)
  · exact hu

end

end Sys2Proof.Machine

/-! SUPPORT for O43: the broadcast of the safe state, a Class A report at any time, and the end of OUT_DELAY. -/

namespace Sys2Proof.Machine

/-- The marks of the safe state: PRP_STAT.SAFE, and LOWER and SENT of the Span broadcast (R144, R146, R606). -/
def State.alarm (s : State) : Bool × Bool × Bool :=
  (s.bit Fld.PRP_STAT_SAFE, s.bit Fld.SPN_BCAST_LOWER, s.bit Fld.SPN_BCAST_SENT)

theorem blind_alarm : Blind handlingFields State.alarm :=
  (blind_bit (g := Fld.PRP_STAT_SAFE) (by decide +kernel)).prod
    ((blind_bit (g := Fld.SPN_BCAST_LOWER) (by decide +kernel)).prod (blind_bit (g := Fld.SPN_BCAST_SENT) (by decide +kernel)))

theorem syncLower_prp (s : State) : s.syncLower.prp = s.prp := by
  refine forEach_keeps State.prp _ s _ fun t l _ => ?_
  split
  · rfl
  · exact putB_prp t _ _

theorem abandonChecks_lowerHeld (s : State) (m : Nat) : (s.abandonChecks m).prp.lowerHeld = s.prp.lowerHeld := by
  refine forEach_keeps (fun t => t.prp.lowerHeld) _ s _ fun t k _ => ?_
  dsimp only
  split
  · rfl
  · rfl

theorem abandonXps_prp (s : State) (m : Nat) : (s.abandonXps m).prp = s.prp := by
  refine forEach_keeps State.prp _ s _ fun t k _ => ?_
  split
  · rfl
  · rfl

theorem lowerBroadcast_sets (s : State) : s.lowerBroadcast.bit Fld.SPN_BCAST_LOWER = true ∧
    s.lowerBroadcast.bit Fld.SPN_BCAST_SENT = true ∧ s.lowerBroadcast.prp.lowerHeld = true := by
  unfold State.lowerBroadcast
  extract_lets u v
  have hv : v.bit Fld.SPN_BCAST_LOWER = true ∧ v.bit Fld.SPN_BCAST_SENT = true := by
    refine ⟨bit_putB_same _ _ true (by decide) (by decide), ?_⟩
    exact (bit_putB_apart _ true (by decide)).trans (bit_putB_same u Fld.SPN_BCAST_SENT true (by decide) (by decide))
  clear_value u v
  refine ⟨?_, ?_, congrArg Parapet.lowerHeld (syncLower_prp _)⟩
  · exact ((blind_bit (g := Fld.SPN_BCAST_LOWER) (by decide +kernel)).syncLower _).trans hv.1
  · exact ((blind_bit (g := Fld.SPN_BCAST_SENT) (by decide +kernel)).syncLower _).trans hv.2

theorem safeMarked_sets (s : State) (b : Nat) : (s.safeMarked b).alarm = (true, true, true) ∧ (s.safeMarked b).prp.lowerHeld = true := by
  unfold State.safeMarked
  obtain ⟨hlower, hsent, hheld⟩ := lowerBroadcast_sets s
  generalize s.lowerBroadcast = w at *
  have hu : ((w.putB Fld.PRP_STAT_SAFE true).put Fld.PRP_RTIME_BCAST b).alarm = (true, true, true) := by
    have hsafe := bit_putB_same w Fld.PRP_STAT_SAFE true (by decide) (by decide)
    simp only [State.alarm, bit_put_apart _ (f := Fld.PRP_RTIME_BCAST) (g := Fld.PRP_STAT_SAFE) _ (by decide),
      bit_put_apart _ (f := Fld.PRP_RTIME_BCAST) (g := Fld.SPN_BCAST_LOWER) _ (by decide),
      bit_put_apart _ (f := Fld.PRP_RTIME_BCAST) (g := Fld.SPN_BCAST_SENT) _ (by decide),
      bit_putB_apart _ (f := Fld.PRP_STAT_SAFE) (g := Fld.SPN_BCAST_LOWER) _ (by decide),
      bit_putB_apart _ (f := Fld.PRP_STAT_SAFE) (g := Fld.SPN_BCAST_SENT) _ (by decide), hsafe, hlower, hsent]
  generalize hw : (w.putB Fld.PRP_STAT_SAFE true).put Fld.PRP_RTIME_BCAST b = u at *
  have hprp : u.prp = w.prp := hw ▸ rfl
  refine ⟨(blind_alarm.abandonXps _ _).trans ((blind_alarm.abandonChecks u _).trans hu), ?_⟩
  rw [abandonXps_prp, abandonChecks_lowerHeld, hprp, hheld]

theorem assertSafe_alarm (s : State) : s.assertSafe.alarm = (true, true, true) := by
  obtain ⟨b, x, e, -, -⟩ := assertSafe_eq s
  rw [e]
  exact (blind_alarm.prp _ x).trans (safeMarked_sets _ b).1

theorem assertSafe_lowerHeld (s : State) : s.assertSafe.prp.lowerHeld = true := by
  obtain ⟨b, x, e, hx, -⟩ := assertSafe_eq s
  rw [e]
  exact hx.trans (safeMarked_sets _ b).2

theorem assertSafe_outDelay {s : State} (h : s.bit Fld.PRP_STAT_SAFE = false) : s.assertSafe.prp.outDelay = true := by
  obtain ⟨b, x, e, -, hx⟩ := assertSafe_eq s
  rw [e]
  exact hx h

theorem one_le_classFloor (s : State) (code : Nat) : 1 ≤ s.classFloor code := by
  unfold State.classFloor
  extract_lets c
  split
  · decide
  · omega

/-- Whatever the fault manager does with a Class A fault, what the safe state sets and no handling writes stands (R609). -/
theorem Blind.report_classA {β : Type} {p : State → β} {x : β} (h : Blind handlingFields p) (hsafe : ∀ t : State, p t.assertSafe = x)
    (s : State) (code src o m : Nat) : p (s.report code 1 src o m) = x := by
  unfold State.report
  rw [Nat.min_eq_left (one_le_classFloor s code)]
  extract_lets c u
  have hu : p u = x := hsafe s
  clear_value u
  split
  · exact (h.meetManager _ _ ((hsafe _).trans (((h.free u _).trans hu).symm))).trans ((h.free u _).trans hu)
  · exact hu

theorem report_classA_alarm (s : State) (code src o m : Nat) : (s.report code 1 src o m).alarm = (true, true, true) :=
  blind_alarm.report_classA assertSafe_alarm s code src o m

/-! ### A double fault -/

theorem exec_doubleFault_of_handlesA {s : State} (h : s.handlesA = true) : exec .doubleFault s = .next s.doubleFault :=
  congrArg Host.Outcome.next (if_pos h)

theorem doubleFault_alarm (s : State) : s.doubleFault.alarm = (true, true, true) := assertSafe_alarm s

theorem handlesA_of_free {s : State} {code cls : Nat} (h : s.parapetFree code cls = true) : s.handlesA = false := by
  simp only [State.parapetFree, Bool.and_eq_true, beq_iff_eq] at h
  simp [State.handlesA, h.1.1.1.2]

/-- Code 0x0D of a pair: a double fault, or the report of a Class A fault (R604, R605, R616). -/
theorem exec_pairFault (pair : Fin 2) {i : Instr} (hi : i ∈ [Instr.lockstepMismatch pair, Instr.heartbeatLoss pair]) (s : State) :
    (s.handlesA = true ∧ exec i s = .next s.doubleFault) ∨ exec i s = .next (s.report 0x0D 1 pair 0xFF 0xFFF) := by
  rcases List.mem_pair.1 hi with rfl | rfl
  · by_cases h : s.handlesA = true
    · exact .inl ⟨h, congrArg Host.Outcome.next (if_pos h)⟩
    · exact .inr (congrArg Host.Outcome.next (if_neg h))
  · exact .inr rfl

/-! ### The end of OUT_DELAY (R606) -/

theorem mclr_ones {m n : Nat} (h : m < 2 ^ n) : mclr m (2 ^ n - 1) = 0 := by
  rw [mclr, Nat.and_two_pow_sub_one_eq_mod, Nat.mod_eq_of_lt h, Nat.sub_self]

theorem outputsOff_on (s : State) (m : Nat) : (s.outputsOff m).get Fld.PRP_PSOSTAT_ON = mclr (s.get Fld.PRP_PSOSTAT_ON) m := by
  refine (forEach_keeps (fun t => t.get Fld.PRP_PSOSTAT_ON) _ _ _ fun t k hk => ?_).trans ?_
  · dsimp only
    split
    · have hall : ∀ k ∈ List.range 16, (Fld.PRP_WELD_RESULT k).apart Fld.PRP_PSOSTAT_ON = true := by decide
      exact get_put_apart t 5 (hall k hk)
    · rfl
  · have hlt : mclr (s.get Fld.PRP_PSOSTAT_ON) m < 2 ^ 12 := (Nat.sub_le _ _).trans_lt (get_lt s Fld.PRP_PSOSTAT_ON)
    exact (get_put_same s Fld.PRP_PSOSTAT_ON _ (by decide)).trans (Nat.mod_eq_of_lt hlt)

theorem outputsOff_outDelay (s : State) (m : Nat) : (s.outputsOff m).prp.outDelay = s.prp.outDelay := by
  unfold State.outputsOff
  extract_lets on u
  refine forEach_keeps (fun t => t.prp.outDelay) _ u _ fun t k _ => ?_
  extract_lets o
  split
  · rfl
  · rfl

theorem setArmed_armed (s : State) {m : Nat} (hm : m < 2 ^ 12) : (s.setArmed m).get Fld.PRP_ARMED_PIERS = m := by
  unfold State.setArmed
  split
  · assumption
  · exact (get_put_apart _ (f := Fld.PRP_EVT_ARM_CHG) 1 (by decide)).trans
      ((get_put_same s Fld.PRP_ARMED_PIERS m (by decide)).trans (Nat.mod_eq_of_lt hm))

theorem setArmed_prp (s : State) (m : Nat) : (s.setArmed m).prp = s.prp := by
  unfold State.setArmed
  split <;> rfl

theorem setArmed_get (s : State) (m : Nat) {g : FieldRef} (ha : Fld.PRP_ARMED_PIERS.apart g = true)
    (he : Fld.PRP_EVT_ARM_CHG.apart g = true) : (s.setArmed m).get g = s.get g := by
  unfold State.setArmed
  split
  · rfl
  · exact (get_put_apart _ 1 he).trans (get_put_apart s m ha)

/-- Outputs and requests off, piers disarmed: what the end of OUT_DELAY does before it disables the outlets. -/
def State.allDisarmed (s : State) (t : Nat) : State :=
  ((({ s with prp := { s.prp with outDelay := false, bOutlets := 0, disarm := 0 } }.outputsOff 0xFFF).put Fld.PRP_PSO_REQ 0).setArmed 0).put
    Fld.PRP_RTIME_OUTS t

theorem outDelayEnd_eq (s : State) : s.outDelayEnd = forEach (List.range 8) ((s.fresh 16).2.allDisarmed (s.fresh 16).1)
    (fun s m => s.putB (Fld.KST_OUT_CTRL_EN m) false) := rfl

theorem allDisarmed_shows (s : State) (t : Nat) : (s.allDisarmed t).get Fld.PRP_ARMED_PIERS = 0 ∧
    (s.allDisarmed t).get Fld.PRP_PSOSTAT_ON = 0 ∧ (s.allDisarmed t).get Fld.PRP_PSO_REQ = 0 ∧ (s.allDisarmed t).prp.outDelay = false ∧
    (s.allDisarmed t).pwr = s.pwr := by
  unfold State.allDisarmed
  generalize hu : { s with prp := { s.prp with outDelay := false, bOutlets := 0, disarm := 0 } } = u
  have hd : u.prp.outDelay = false := hu ▸ rfl
  have hp : u.pwr = s.pwr := hu ▸ rfl
  refine ⟨?_, ?_, ?_, ?_, ?_⟩
  · rw [get_put_apart _ _ (by decide)]
    exact setArmed_armed _ (by decide)
  · rw [get_put_apart _ _ (by decide), setArmed_get _ _ (by decide) (by decide), get_put_apart _ _ (by decide), outputsOff_on]
    exact mclr_ones (n := 12) (get_lt u Fld.PRP_PSOSTAT_ON)
  · rw [get_put_apart _ _ (by decide), setArmed_get _ _ (by decide) (by decide)]
    exact get_put_same _ _ _ (by decide)
  · rw [put_prp, setArmed_prp, put_prp, outputsOff_outDelay, hd]
  · have hpwr {a b : State} (h : a.standing = b.standing) : a.pwr = b.pwr := congrArg (·.2.1) (aside_of_standing h)
    rw [put_pwr, hpwr (setArmed_standing _ _), put_pwr, hpwr (outputsOff_standing _ _), hp]

/-- EN of each outlet goes off, and no more. -/
theorem outDelayEnd_shows (s : State) : s.outDelayEnd.get Fld.PRP_ARMED_PIERS = 0 ∧ s.outDelayEnd.get Fld.PRP_PSOSTAT_ON = 0 ∧
    s.outDelayEnd.get Fld.PRP_PSO_REQ = 0 ∧ (∀ m : Fin 8, s.outDelayEnd.bit (Fld.KST_OUT_CTRL_EN m) = false) ∧
    s.outDelayEnd.prp.outDelay = false ∧ s.outDelayEnd.pwr = s.pwr := by
  rw [outDelayEnd_eq]
  obtain ⟨harm, hon, hreq, hdelay, hpwr⟩ := allDisarmed_shows (s.fresh 16).2 (s.fresh 16).1
  generalize (s.fresh 16).2.allDisarmed (s.fresh 16).1 = u at *
  have keeps (g : FieldRef) (hg : g.addr / 0x10000 ≠ 0x4006) :
      (forEach (List.range 8) u (fun s m => s.putB (Fld.KST_OUT_CTRL_EN m) false)).get g = u.get g :=
    forEach_keeps (fun t => t.get g) _ u _ fun t m hm => get_put_ne t _ (by
      have hm := List.mem_range.1 hm
      simp only [Fld.KST_OUT_CTRL_EN, Reg.KST_OUT_CTRL]
      omega)
  refine ⟨(keeps _ (by decide)).trans harm, (keeps _ (by decide)).trans hon, (keeps _ (by decide)).trans hreq, fun m => ?_,
    ?_, ?_⟩
  rotate_left
  · exact (forEach_keeps (fun t => t.prp.outDelay) (List.range 8) u _ fun t m _ => congrArg Parapet.outDelay (putB_prp t _ _)).trans hdelay
  · exact (forEach_keeps State.pwr (List.range 8) u _ fun t m _ => putB_pwr t _ _).trans hpwr
  refine forEach_sets (fun t => t.bit (Fld.KST_OUT_CTRL_EN m)) false _ m.val u _ (List.mem_range.2 m.isLt) (fun t x _ hx => ?_)
    fun t => bit_putB_same t _ false (by simp only [Fld.KST_OUT_CTRL_EN]; decide) Nat.one_pos
  have hne : (Fld.KST_OUT_CTRL_EN m).addr ≠ (Fld.KST_OUT_CTRL_EN x).addr := by
    simp only [Fld.KST_OUT_CTRL_EN, Reg.KST_OUT_CTRL]
    omega
  exact congrArg (· != 0) (get_put_ne t _ hne)

theorem shutOff_of_noLatch {s : State} (h : s.pwr.shutLatch = false) : s.shutOff = s := if_neg (by simp [h])

theorem exec_outDelayExpiry {s : State} (hd : s.prp.outDelay = true) (hl : s.pwr.shutLatch = false) :
    exec .outDelayExpiry s = .next s.outDelayEnd := by
  obtain ⟨-, -, -, -, -, hpwr⟩ := outDelayEnd_shows s
  have hl' : s.outDelayEnd.pwr.shutLatch = false := by rw [hpwr, hl]
  exact congrArg Host.Outcome.next ((if_pos hd).trans (shutOff_of_noLatch hl'))

/-- Settles O43: the marks of the safe state, a pair's fault with or without a double fault, the end of OUT_DELAY, the double fault. -/
theorem safeStateAssertsAndEnds : Obligations.SafeStateAssertsAndEnds := by
  unfold Obligations.SafeStateAssertsAndEnds
  intro s
  refine ⟨⟨s.assertSafe, rfl, ?_⟩, fun pair i hi => ?_, fun hd hl => ⟨_, exec_outDelayExpiry hd hl, ?_⟩,
    fun h => ⟨_, exec_doubleFault_of_handlesA (beq_iff_eq.2 h), ?_⟩⟩
  · have ha := assertSafe_alarm s
    exact ⟨congrArg (·.1) ha, congrArg (·.2.1) ha, congrArg (·.2.2) ha, assertSafe_lowerHeld s, assertSafe_outDelay,
      sameMem_of_kept (State.assertSafe_kept s)⟩
  · rcases exec_pairFault pair hi s with ⟨hA, e⟩ | e
    · have ha := doubleFault_alarm s
      exact ⟨_, e, congrArg (·.1) ha, congrArg (·.2.1) ha, sameMem_of_kept (State.doubleFault_kept s),
        fun hfree => absurd hA (by simp [handlesA_of_free hfree])⟩
    · have ha := report_classA_alarm s 0x0D pair 0xFF 0xFFF
      exact ⟨_, e, congrArg (·.1) ha, congrArg (·.2.1) ha, sameMem_of_kept (State.report_kept s _ _ _ _ _),
        fun hfree => ⟨report_recorded hfree pair 0xFF 0xFFF, (report_classA hfree pair 0xFF 0xFFF).2.1⟩⟩
  · obtain ⟨harm, hon, hreq, hen, hdelay, -⟩ := outDelayEnd_shows s
    exact ⟨harm, hon, hreq, hen, hdelay, sameMem_of_kept (State.outDelayEnd_kept s)⟩
  · exact ⟨congrArg (·.1) (doubleFault_alarm s), rfl, rfl, sameMem_of_kept (State.doubleFault_kept s)⟩

end Sys2Proof.Machine

/-! SUPPORT for O18: what a pier node makes of frames, of their absence, and of its own trips (R133 to R148). -/

namespace Sys2Proof.Machine

theorem nodes_of_shaped {s : State} (h : s.shaped = true) : s.spn.nodes.length = 12 := by
  simp only [State.shaped, Bool.and_eq_true, beq_iff_eq] at h
  tauto

theorem node_modNode (s : State) {n : Nat} (f : Node → Node) (hn : n < s.spn.nodes.length) : (s.modNode n f).node n = f (s.node n) :=
  nth_updAt_same ({} : Node) f hn

/-- A change of one node's record is no change of a register or of memory. -/
theorem modNode_frame (s : State) (n : Nat) (f : Node → Node) : SameRegs s (s.modNode n f) [] ∧ SameMem s (s.modNode n f) :=
  ⟨fun _ _ => rfl, fun _ => rfl⟩

/-! ### A node lowers (R143) -/

theorem lower_of_lowered {k : Node} (h : k.lowered = true) : k.lower = k := by
  simp [Node.lower, h]

theorem lower_starts (k : Node) (h : k.lowered = false) : k.lower.lowering = true := by
  unfold Node.lower
  split
  · next hl => simpa [h] using hl
  · rfl

/-- Lowering begins or goes on, or has ended. -/
theorem lower_lowers (k : Node) : k.lower.lowering = true ∨ k.lower.lowered = true := by
  cases h : k.lowered with
  | true => exact .inr ((congrArg Node.lowered (lower_of_lowered h)).trans h)
  | false => exact .inl (lower_starts k h)

/-! ### What an accepted frame leaves of the node -/

/-- What a frame sets before its flags, its request and its command words act: SEQ and arrival on the primary link, missed count, T. -/
def Node.framed (k : Node) : Option Nat × Bool × Nat × Nat := (k.seqP, k.gotP, k.missed, k.tUs)

theorem lower_framed (k : Node) : k.lower.framed = k.framed ∧ k.lower.armed = k.armed := by
  unfold Node.lower
  split
  · exact ⟨rfl, rfl⟩
  · exact ⟨rfl, rfl⟩

theorem takeFlags_framed (k : Node) (flags : Nat) : (k.takeFlags flags).framed = k.framed ∧ (k.takeFlags flags).armed = flags.testBit 1 := by
  unfold Node.takeFlags
  extract_lets u v
  have hv : v.framed = k.framed ∧ v.armed = flags.testBit 1 := by
    unfold v
    split
    · exact lower_framed u
    · exact ⟨rfl, rfl⟩
  split
  · exact hv
  · exact hv

theorem execMgmt_framed (k : Node) (w : Nat) : (k.execMgmt w).framed = k.framed ∧ (k.execMgmt w).armed = k.armed := by
  unfold Node.execMgmt
  extract_lets op a d m
  repeat' split
  all_goals exact ⟨rfl, rfl⟩

theorem takeWords_framed (k : Node) (ws : List Nat) : (k.takeWords ws).framed = k.framed ∧ (k.takeWords ws).armed = k.armed ∧
    (k.takeWords ws).gotK = true ∧ (k.takeWords ws).nextCmd = ws := ⟨rfl, rfl, rfl, rfl⟩

/-- The node after a valid copy on its primary link, before the command words (R133, R139, R147, R157). -/
def Node.heard (k : Node) (bytes : List Byte) (elapsed free : Nat) : Node :=
  let k := { k with missed := 0, tUs := leAt bytes 0x16 2 }.correct (frameTime bytes) (k.site + elapsed) free ((leAt bytes 3 1).testBit 4)
  ({ k with seqP := some (leAt bytes 4 4), gotP := true, rxP := some (leAt bytes 4 4, k.site + elapsed) }.takeFlags
    (leAt bytes 3 1)).execMgmt (leAt bytes 0xA0 8)

/-- The 32 command words of a down frame (R117). -/
def downWords (bytes : List Byte) : List Nat := (List.range 32).map (fun p => leAt bytes (0x20 + 4 * p) 4)

/-- With the SEQ of the node's period the words wait for the next (R114). -/
def Node.accepted (k : Node) (bytes : List Byte) (elapsed free : Nat) : Node :=
  let k := k.heard bytes elapsed free
  if leAt bytes 4 4 == k.index % 2 ^ 32 then k.takeWords (downWords bytes) else k

theorem heard_framed (k : Node) (bytes : List Byte) (elapsed free : Nat) :
    (k.heard bytes elapsed free).framed = (some (leAt bytes 4 4), true, 0, leAt bytes 0x16 2) ∧
    (k.heard bytes elapsed free).armed = (leAt bytes 3 1).testBit 1 := by
  unfold Node.heard
  extract_lets u
  have hu : u.missed = 0 ∧ u.tUs = leAt bytes 0x16 2 := ⟨rfl, rfl⟩
  generalize u = v at hu ⊢
  refine ⟨(execMgmt_framed _ _).1.trans ((takeFlags_framed _ _).1.trans ?_), (execMgmt_framed _ _).2.trans (takeFlags_framed _ _).2⟩
  simp only [Node.framed, hu]

theorem accepted_shows (k : Node) (bytes : List Byte) (elapsed free : Nat) :
    let t := k.accepted bytes elapsed free
    t.framed = (some (leAt bytes 4 4), true, 0, leAt bytes 0x16 2) ∧ t.armed = (leAt bytes 3 1).testBit 1 ∧
      (leAt bytes 4 4 = t.index % 2 ^ 32 → t.gotK = true ∧ t.nextCmd = downWords bytes) := by
  obtain ⟨hf, ha⟩ := heard_framed k bytes elapsed free
  unfold Node.accepted
  generalize k.heard bytes elapsed free = u at *
  dsimp only
  obtain ⟨hwf, hwa, hwk, hwn⟩ := takeWords_framed u (downWords bytes)
  split
  · exact ⟨hwf.trans hf, hwa.trans ha, fun _ => ⟨hwk, hwn⟩⟩
  · next hs => exact ⟨hf, ha, fun h => absurd (beq_iff_eq.2 h) hs⟩

theorem exec_pierDownFrameAccept_valid {s : State} {n : Fin 12} {bytes : List Byte} {l : Nat} (elapsed : Nat)
    (hl : s.pierLink n 1 = some l) (hv : downValid (s.node n) false l n bytes = true) :
    exec (.pierDownFrameAccept n false bytes elapsed) s =
      .next ((s.fresh 64).2.modNode n (fun _ => (s.node n).accepted bytes elapsed (s.fresh 64).1)) := by
  unfold exec execPierDownFrameAccept
  simp only [Bool.false_eq_true, if_false, hl, hv, Bool.not_true]
  rfl

theorem exec_pierDownFrameAccept_invalid {s : State} {n : Fin 12} {bytes : List Byte} {l : Nat} (elapsed : Nat)
    (hl : s.pierLink n 1 = some l) (hv : downValid (s.node n) false l n bytes = false) :
    exec (.pierDownFrameAccept n false bytes elapsed) s = .next (s.modNode n (fun k => { k with badDn := satInc 255 k.badDn })) := by
  unfold exec execPierDownFrameAccept
  simp only [Bool.false_eq_true, if_false, hl, hv, Bool.not_false, if_true]

/-! ### A period without a valid copy (R135, R136) -/

theorem miss_counts (k : Node) : k.miss.missed = min 3 (k.missed + 1) ∧
    (2 ≤ k.missed → k.miss.silence = true ∧ (k.miss.lowering = true ∨ k.miss.lowered = true)) := by
  unfold Node.miss
  extract_lets u
  have hu : u.missed = min 3 (k.missed + 1) := rfl
  split
  · have hf : u.lower.missed = u.missed := congrArg (·.2.2.1) (lower_framed u).1
    exact ⟨hf.trans hu, fun _ => ⟨rfl, lower_lowers u⟩⟩
  · exact ⟨hu, fun _ => by omega⟩

/-- The change of period leaves what the missing frame set. -/
theorem apply_of_missing {k : Node} (h : k.gotK = false) : k.apply.missed = k.miss.missed ∧ k.apply.silence = k.miss.silence ∧
    k.apply.lowering = k.miss.lowering ∧ k.apply.lowered = k.miss.lowered := by
  unfold Node.apply
  rw [h]
  exact ⟨rfl, rfl, rfl, rfl⟩

theorem senses_spn (s : State) : s.senses.2.spn = s.spn := (rfl)

/-- What of a node its sampling and its up frame leave alone. -/
theorem nodePeriod_node (s : State) {n : Nat} (hn : n < s.spn.nodes.length) : ∃ (x : List Nat) (a b : List Byte),
    (s.nodePeriod n).node n = { ((s.node n).apply).takeSamples x with upP := a, upS := b, reply := none } :=
  ⟨_, _, _, nth_updAt_same ({} : Node) _ hn⟩

theorem nodePeriod_frame (s : State) (n : Nat) : SameRegs s (s.nodePeriod n) [] ∧ SameMem s (s.nodePeriod n) :=
  ⟨fun _ _ => rfl, fun _ => rfl⟩

theorem exec_pierMissingFrame {s : State} {n : Fin 12} (h : (s.node n).gotK = false) :
    exec (.pierMissingFrame n) s = .next ((s.nodePeriod n).modNode n (fun k => { k with ended := true })) :=
  congrArg Host.Outcome.next (if_neg (by simp [h]))

theorem exec_pierLowerDone {s : State} {n : Fin 12} (h : (s.node n).lowering = true) : exec (.pierLowerDone n) s =
    .next (s.modNode n (fun k =>
      { k with lowering := false, lowered := true, ramp := [], inForce := allOffWords, cycle := allOffWords })) :=
  congrArg Host.Outcome.next (if_pos h)

/-- Settles O18, command by command. -/
theorem pierNodesFollowFrames : Obligations.PierNodesFollowFrames := by
  unfold Obligations.PierNodesFollowFrames
  intro s n hs
  have hn : n.val < s.spn.nodes.length := by rw [nodes_of_shaped hs]; exact n.isLt
  refine ⟨fun bytes elapsed l hl => ⟨fun hv => ?_, fun hv => ?_⟩, fun hk => ?_, ?_, fun hlow => ?_, fun p => ?_⟩
  · obtain ⟨hf, ha, hw⟩ := accepted_shows (s.node n) bytes elapsed (s.fresh 64).1
    refine ⟨_, exec_pierDownFrameAccept_valid elapsed hl hv, ?_⟩
    beta_reduce
    rw [node_modNode (s.fresh 64).2 _ hn]
    exact ⟨congrArg (·.1) hf, congrArg (·.2.1) hf, congrArg (·.2.2.1) hf, ha, congrArg (·.2.2.2) hf, hw, modNode_frame _ n _⟩
  · refine ⟨_, exec_pierDownFrameAccept_invalid elapsed hl hv, ?_⟩
    beta_reduce
    rw [node_modNode s _ hn]
    exact ⟨rfl, rfl, modNode_frame s n _⟩
  · obtain ⟨x, a, b, e⟩ := nodePeriod_node s hn
    have hn' : n.val < (s.nodePeriod n).spn.nodes.length := by simpa [State.nodePeriod, State.modNode, senses_spn] using hn
    obtain ⟨hm, hsil, hlowing, hlowed⟩ := apply_of_missing hk
    obtain ⟨hcount, hthird⟩ := miss_counts (s.node n)
    refine ⟨_, exec_pierMissingFrame hk, ?_⟩
    beta_reduce
    rw [node_modNode _ _ hn', e]
    refine ⟨hm.trans hcount, fun h2 => ?_, nodePeriod_frame s n⟩
    obtain ⟨h1, h⟩ := hthird h2
    exact ⟨hsil.trans h1, h.imp hlowing.trans hlowed.trans⟩
  · refine ⟨_, rfl, ?_⟩
    beta_reduce
    rw [node_modNode s _ hn]
    exact ⟨lower_starts _, lower_of_lowered, modNode_frame s n _⟩
  · refine ⟨_, exec_pierLowerDone hlow, ?_⟩
    beta_reduce
    rw [node_modNode s _ hn]
    exact ⟨rfl, rfl, rfl, modNode_frame s n _⟩
  · refine ⟨_, rfl, ?_⟩
    beta_reduce
    rw [node_modNode s _ hn]
    refine ⟨?_, ?_, fun hlen => nth_updAt_same _ _ (by rw [hlen]; exact p.isLt), modNode_frame s n _⟩
    · simp only [testBit_mset, if_true]
    · simp only [testBit_mset, if_true]

end Sys2Proof.Machine

/-! SUPPORT for O17: the writes of SPN_LINKn_CTRL and of SPN_LINKn_MGMTC (R120, R156, R163, R809). -/

namespace Sys2Proof.Machine

theorem link_modLink (s : State) {l : Nat} (f : Link → Link) (hl : l < s.spn.links.length) : (s.modLink l f).link l = f (s.link l) :=
  nth_updAt_same ({} : Link) f hl

theorem link_modLink_keeps {β : Type} (p : Link → β) (s : State) (k l : Nat) {f : Link → Link} (h : ∀ x, p (f x) = p x) :
    p ((s.modLink k f).link l) = p (s.link l) := nth_updAt_keeps ({} : Link) _ k l f p h

/-! ### The registers' writes by their own command -/

/-- A write that takes effect whole in the Span block is that block's. -/
theorem wr_spn {s : State} {m : Master} {a : Nat} (v : Word) (h : s.takes m a = true) (ha : a / 0x10000 = 0x4004) :
    s.wr m a v = s.writeSpn a v.toNat := by
  have hb : blockOf a = some .reg := (blockOf_eq_reg_iff a).2 (by omega)
  rw [wr_of_takes v h hb (by omega)]
  unfold State.writeReg
  rw [ha]
  rfl

theorem wr_spanCtrl {s : State} {m : Master} {n : Fin 12} (v : Word) (h : s.takes m (Reg.SPN_LINK_CTRL n) = true) :
    s.wr m (Reg.SPN_LINK_CTRL n) v = s.wrSpanCtrl n v.toNat := by
  have ha : Reg.SPN_LINK_CTRL n = 0x40040000 + 0x1000 * n := rfl
  rw [wr_spn v h (by omega), State.writeSpn, show Reg.SPN_LINK_CTRL n % 0x10000 / 0x1000 = n by omega]
  exact if_pos ⟨n.isLt, by omega⟩

theorem wr_mgmtc {s : State} {m : Master} {n : Fin 12} (v : Word) (h : s.takes m (Reg.SPN_LINK_MGMTC n) = true) :
    s.wr m (Reg.SPN_LINK_MGMTC n) v = s.wrMgmtc n v.toNat := by
  have ha : Reg.SPN_LINK_MGMTC n = 0x40040020 + 0x1000 * n := rfl
  rw [wr_spn v h (by omega), State.writeSpn, show Reg.SPN_LINK_MGMTC n % 0x10000 / 0x1000 = n by omega]
  exact (if_neg (by omega)).trans (if_pos ⟨n.isLt, by omega⟩)

/-! ### SPN_LINKn_CTRL -/

theorem setArmed_spn (s : State) (m : Nat) : (s.setArmed m).spn = s.spn := by
  unfold State.setArmed
  split
  · rfl
  · rfl

theorem setArmed_regs (s : State) (m : Nat) : SameRegs s (s.setArmed m) [Reg.PRP_ARMED, Reg.PRP_EVT] := fun a ha => by
  simp only [List.mem_cons, List.not_mem_nil, or_false, not_or] at ha
  unfold State.setArmed
  split
  · rfl
  · exact (reg_put_ne _ (f := Fld.PRP_EVT_ARM_CHG) _ ha.2).trans (reg_put_ne s (f := Fld.PRP_ARMED_PIERS) _ ha.1)

theorem mset_false_le (m i : Nat) : mset m i false ≤ m := by
  unfold mset
  split
  · exact Nat.sub_le _ _
  · exact Nat.le_refl _

/-- A pier disarmed is not armed. -/
theorem setArmed_mset (s : State) (n : Nat) :
    ((s.setArmed (mset (s.get Fld.PRP_ARMED_PIERS) n false)).get Fld.PRP_ARMED_PIERS).testBit n = false := by
  rw [setArmed_armed s ((mset_false_le _ _).trans_lt (get_lt s Fld.PRP_ARMED_PIERS)), testBit_mset, if_pos rfl]

/-- What a pier reports is read of the registers, LINKMAP and which links have delivered. -/
theorem pierArmed_congr {s t : State} (hr : t.regs = s.regs) (hi : t.img = s.img) (hg : ∀ l, (t.link l).gotUp = (s.link l).gotUp) (n : Nat) :
    t.pierArmed n = s.pierArmed n := by
  have hbit (f : FieldRef) : t.bit f = s.bit f := by rw [← bitIn_regs t, hr, bitIn_regs]
  have hget (f : FieldRef) : t.get f = s.get f := by rw [← getIn_regs t, hr, getIn_regs]
  have hcfg (ty off : Nat) : t.cfgB ty off = s.cfgB ty off := by rw [← cfgBIn_img t, hi, cfgBIn_img]
  have hlink (k : Nat) : t.pierLink n k = s.pierLink n k := by simp only [State.pierLink, State.spanUse, State.spanPier, hcfg]
  have hgot (l : Nat) : (nth {} t.spn.links l).gotUp = (nth {} s.spn.links l).gotUp := hg l
  simp only [State.pierArmed, State.pflag, State.useLink, hlink, hgot, hbit, hget]

/-- The link keeps a RESUME for its next down frame while LOWER is not sent (R120). -/
def State.resumeKept (s : State) (l v : Nat) : State :=
  if v / 16 % 2 = 1 ∧ !s.bit (Fld.SPN_LINK_STAT_LOWER_TX l) then s.modLink l (fun k => { k with resumeReq := true }) else s

theorem resumeKept_frame (s : State) (l v : Nat) : (s.resumeKept l v).regs = s.regs ∧ (s.resumeKept l v).img = s.img ∧
    ∀ k, ((s.resumeKept l v).link k).gotUp = (s.link k).gotUp := by
  unfold State.resumeKept
  split
  · exact ⟨rfl, rfl, fun k => link_modLink_keeps Link.gotUp s l k fun _ => rfl⟩
  · exact ⟨rfl, rfl, fun _ => rfl⟩

theorem wrSpanCtrl_resumeReq {s : State} {l v : Nat} (hl : l < s.spn.links.length) (hv : v / 16 % 2 = 1)
    (hlower : s.bit (Fld.SPN_LINK_STAT_LOWER_TX l) = false) : ((s.wrSpanCtrl l v).link l).resumeReq = true := by
  unfold State.wrSpanCtrl
  extract_lets s1 s2 s3 drives prbs s4
  have h1 : (s1.link l).resumeReq = true := by
    have e : s1 = s.modLink l (fun k => { k with resumeReq := true }) := if_pos ⟨hv, by simp [hlower]⟩
    rw [e, link_modLink s _ hl]
  have h2 : s2.spn = s1.spn := by
    unfold s2
    split
    · rfl
    · rfl
  have h3 : s3.spn = s2.spn := by
    unfold s3
    split
    · rfl
    · rfl
  have h4 : (s4.link l).resumeReq = (s3.link l).resumeReq := link_modLink_keeps Link.resumeReq s3 l l fun _ => rfl
  have h : (s4.link l).resumeReq = true := by rw [h4, State.link, h3, h2]; exact h1
  clear_value s4
  split
  · rw [State.link, setArmed_spn]; exact h
  · exact h

/-- LOOP and PRBS written, and what the link's pins carry then (R809). -/
def State.looped (s : State) (l v : Nat) : State :=
  let u := (s.put (Fld.SPN_LINK_CTRL_PRBS l) (v / 8 % 2)).put (Fld.SPN_LINK_CTRL_LOOP l) (v / 4 % 2)
  u.modLink l (fun k => { k with stream := if u.linkDrives l then onPins (u.bit (Fld.SPN_LINK_CTRL_PRBS l)) k.stream else [] })

theorem looped_shows (s : State) (l v : Nat) : (s.looped l v).get (Fld.SPN_LINK_CTRL_LOOP l) = v / 4 % 2 ∧
    (s.looped l v).get (Fld.SPN_LINK_CTRL_PRBS l) = v / 8 % 2 ∧ SameRegs s (s.looped l v) [Reg.SPN_LINK_CTRL l] := by
  refine ⟨?_, ?_, fun a ha => ?_⟩
  · exact (get_put_same _ (Fld.SPN_LINK_CTRL_LOOP l) _ (by simp only [Fld.SPN_LINK_CTRL_LOOP]; decide)).trans (Nat.mod_mod _ _)
  · refine (get_put_disjoint _ (f := Fld.SPN_LINK_CTRL_LOOP l) (g := Fld.SPN_LINK_CTRL_PRBS l) _ (by simp only [Fld.SPN_LINK_CTRL_LOOP]; decide) rfl
      (.inr (by simp only [Fld.SPN_LINK_CTRL_LOOP, Fld.SPN_LINK_CTRL_PRBS]; decide))).trans ?_
    exact (get_put_same s (Fld.SPN_LINK_CTRL_PRBS l) _ (by simp only [Fld.SPN_LINK_CTRL_PRBS]; decide)).trans (Nat.mod_mod _ _)
  · have ha : a ≠ Reg.SPN_LINK_CTRL l := fun e => ha (List.mem_singleton.2 e)
    exact (reg_put_ne _ (f := Fld.SPN_LINK_CTRL_LOOP l) _ ha).trans (reg_put_ne s (f := Fld.SPN_LINK_CTRL_PRBS l) _ ha)

/-- A link that is looped or sends PRBS-31 has its pier disarmed (R809). -/
def State.disarmTested (s : State) (l : Nat) : State :=
  if s.bit (Fld.SPN_LINK_CTRL_LOOP l) || s.bit (Fld.SPN_LINK_CTRL_PRBS l) then
    s.setArmed (mset (s.get Fld.PRP_ARMED_PIERS) (s.spanPier l) false) else s

theorem disarmTested_shows (s : State) (l : Nat) :
    (∀ g : FieldRef, g.addr = Reg.SPN_LINK_CTRL l → (s.disarmTested l).get g = s.get g) ∧
    (s.get (Fld.SPN_LINK_CTRL_LOOP l) ≠ 0 ∨ s.get (Fld.SPN_LINK_CTRL_PRBS l) ≠ 0 →
      ((s.disarmTested l).get Fld.PRP_ARMED_PIERS).testBit (s.spanPier l) = false) ∧
    SameRegs s (s.disarmTested l) [Reg.PRP_ARMED, Reg.PRP_EVT] := by
  have hregs : SameRegs s (s.disarmTested l) [Reg.PRP_ARMED, Reg.PRP_EVT] := by
    unfold State.disarmTested
    split
    · exact setArmed_regs s _
    · exact fun _ _ => rfl
  refine ⟨fun g hg => ?_, fun h => ?_, hregs⟩
  · have hne : g.addr ∉ [Reg.PRP_ARMED, Reg.PRP_EVT] := by
      simp only [hg, Reg.SPN_LINK_CTRL, Reg.PRP_ARMED, Reg.PRP_EVT, List.mem_cons, List.not_mem_nil, or_false]
      omega
    simp only [State.get, hregs _ hne]
  · unfold State.disarmTested
    rw [if_pos (by simpa [State.bit] using h)]
    exact setArmed_mset s _

/-- After the seal, and while the pier does not report ARMED, a write takes LOOP and PRBS; either at 1 disarms the pier (R809). -/
theorem wrSpanCtrl_of_disarmed {s : State} {l v : Nat} (ha : s.pierArmed (s.spanPier l) = false) (hs : s.isSealed = true) :
    s.wrSpanCtrl l v = ((s.resumeKept l v).looped l v).disarmTested l := by
  obtain ⟨hr, hi, hg⟩ := resumeKept_frame s l v
  have harm : (s.resumeKept l v).pierArmed ((s.resumeKept l v).spanPier l) = false := by
    have hpier : (s.resumeKept l v).spanPier l = s.spanPier l := by simp only [State.spanPier, State.cfgB, hi]
    rw [hpier, pierArmed_congr hr hi hg, ha]
  have hseal (x y : Nat) : (((s.resumeKept l v).put (Fld.SPN_LINK_CTRL_PRBS l) x).put (Fld.SPN_LINK_CTRL_LOOP l) y).isSealed = true := by
    have hne : Fld.PYL_IMGSTAT_LOADED.addr ≠ Reg.SPN_LINK_CTRL l := by
      simp only [Fld.PYL_IMGSTAT_LOADED, Reg.PYL_IMGSTAT, Reg.SPN_LINK_CTRL]
      omega
    rw [State.isSealed, State.bit, get_put_ne _ _ hne, get_put_ne _ _ hne, ← State.bit, ← bitIn_regs, hr, bitIn_regs]
    exact hs
  unfold State.wrSpanCtrl
  rw [← State.resumeKept]
  simp only [harm, hseal, Bool.false_eq_true, if_false, if_true]
  rfl

/-- What a write that takes LOOP and PRBS shows. -/
theorem wrSpanCtrl_shows {s : State} {l v : Nat} (ha : s.pierArmed (s.spanPier l) = false) (hs : s.isSealed = true) :
    (s.wrSpanCtrl l v).get (Fld.SPN_LINK_CTRL_LOOP l) = v / 4 % 2 ∧ (s.wrSpanCtrl l v).get (Fld.SPN_LINK_CTRL_PRBS l) = v / 8 % 2 ∧
    (v / 4 % 4 ≠ 0 → ((s.wrSpanCtrl l v).get Fld.PRP_ARMED_PIERS).testBit (s.spanPier l) = false) ∧
    SameRegs s (s.wrSpanCtrl l v) [Reg.SPN_LINK_CTRL l, Reg.PRP_ARMED, Reg.PRP_EVT] := by
  obtain ⟨hr, hi, -⟩ := resumeKept_frame s l v
  obtain ⟨hloop, hprbs, hregs⟩ := looped_shows (s.resumeKept l v) l v
  have hpier : ((s.resumeKept l v).looped l v).spanPier l = s.spanPier l := by
    rw [show ((s.resumeKept l v).looped l v).spanPier l = (s.resumeKept l v).spanPier l from rfl]
    simp only [State.spanPier, State.cfgB, hi]
  rw [wrSpanCtrl_of_disarmed ha hs]
  obtain ⟨hctrl, hoff, hkeep⟩ := disarmTested_shows ((s.resumeKept l v).looped l v) l
  rw [hpier, hloop, hprbs] at hoff
  refine ⟨(hctrl _ rfl).trans hloop, (hctrl _ rfl).trans hprbs, fun h => hoff (by omega), fun a h => ?_⟩
  simp only [List.mem_cons, List.not_mem_nil, or_false, not_or] at h
  obtain ⟨h1, h2, h3⟩ := h
  rw [hkeep a (by simp [h2, h3]), hregs a (by simp [h1]), ← regIn_regs, hr, regIn_regs]

/-! ### SPN_LINKn_MGMTC -/

/-- OP and ADDR of a request written (R156). -/
def State.mgmtNamed (s : State) (l v : Nat) : State :=
  (s.put (Fld.SPN_LINK_MGMTC_OP l) (v / 2 ^ 29 % 4)).put (Fld.SPN_LINK_MGMTC_ADDR l) (v / 2 ^ 15 % 2 ^ 14)

/-- The request that a GO leaves, with the data of MGMTD (R156). -/
def State.mgmtQuery (s : State) (l v : Nat) : Mgmt where
  op := v / 2 ^ 29 % 4
  addr := v / 2 ^ 15 % 2 ^ 14
  data := s.get (Fld.SPN_LINK_MGMTD_DATA l)
  tag := (s.link l).nextTag

/-- The request waits on the link for a down frame (R156). -/
def State.mgmtAsked (s : State) (l v : Nat) : State :=
  ((s.modLink l (fun k => { k with mgmt := some (s.mgmtQuery l v) })).putB (Fld.SPN_LINK_MGMTC_GO l) true).putB
    (Fld.SPN_LINK_STAT_MGMT_BUSY l) true

theorem wrMgmtc_asks {s : State} {l v : Nat} (hgo : v / 2 ^ 31 % 2 = 1) (hop : v / 2 ^ 29 % 4 = 1 ∨ v / 2 ^ 29 % 4 = 2)
    (hm : (s.link l).mgmt = none) (hb : s.bringing (s.spanPier l) = false) : s.wrMgmtc l v = (s.mgmtNamed l v).mgmtAsked l v :=
  if_pos ⟨hgo, hop, hm, hb⟩

theorem wrMgmtc_ignores {s : State} {l v : Nat}
    (h : v / 2 ^ 29 % 4 = 0 ∨ v / 2 ^ 29 % 4 = 3 ∨ s.bringing (s.spanPier l) = true) : s.wrMgmtc l v = s.mgmtNamed l v := by
  refine if_neg ?_
  rintro ⟨-, hop, -, hb⟩
  have hb : s.bringing (s.spanPier l) = false := hb
  rw [hb] at h
  simp only [Bool.false_eq_true, or_false] at h
  omega

theorem mgmtNamed_get (s : State) (n : Fin 12) (v : Nat) :
    (s.mgmtNamed n v).get (Fld.SPN_LINK_MGMTD_DATA n) = s.get (Fld.SPN_LINK_MGMTD_DATA n) ∧
    (s.mgmtNamed n v).get (Fld.SPN_LINK_MGMTC_GO n) = s.get (Fld.SPN_LINK_MGMTC_GO n) := by
  have apart : ∀ n : Fin 12, ∀ f ∈ [Fld.SPN_LINK_MGMTC_OP n, Fld.SPN_LINK_MGMTC_ADDR n],
      f.apart (Fld.SPN_LINK_MGMTD_DATA n) = true ∧ f.apart (Fld.SPN_LINK_MGMTC_GO n) = true := by decide
  obtain ⟨ho, ho'⟩ := apart n (Fld.SPN_LINK_MGMTC_OP n) (by simp)
  obtain ⟨ha, ha'⟩ := apart n (Fld.SPN_LINK_MGMTC_ADDR n) (by simp)
  exact ⟨(get_put_apart _ _ ha).trans (get_put_apart s _ ho), (get_put_apart _ _ ha').trans (get_put_apart s _ ho')⟩

theorem mgmtNamed_regs (s : State) (l v : Nat) : SameRegs s (s.mgmtNamed l v) [Reg.SPN_LINK_MGMTC l] := fun a ha => by
  have ha : a ≠ Reg.SPN_LINK_MGMTC l := fun e => ha (List.mem_singleton.2 e)
  exact (reg_put_ne _ (f := Fld.SPN_LINK_MGMTC_ADDR l) _ ha).trans (reg_put_ne s (f := Fld.SPN_LINK_MGMTC_OP l) _ ha)

theorem mgmtAsked_shows (s : State) (l : Fin 12) (v : Nat) (hl : l.val < s.spn.links.length) :
    ((s.mgmtAsked l v).link l).mgmt = some (s.mgmtQuery l v) ∧
    (s.mgmtAsked l v).bit (Fld.SPN_LINK_MGMTC_GO l) = true ∧ (s.mgmtAsked l v).bit (Fld.SPN_LINK_STAT_MGMT_BUSY l) = true ∧
    SameRegs s (s.mgmtAsked l v) [Reg.SPN_LINK_MGMTC l, Reg.SPN_LINK_STAT l] := by
  unfold State.mgmtAsked
  have hlink := link_modLink s (fun k => { k with mgmt := some (s.mgmtQuery l v) }) hl
  have hregs (a : Nat) := reg_modLink s l (fun k => { k with mgmt := some (s.mgmtQuery l v) }) a
  generalize s.modLink l _ = u at hlink hregs ⊢
  have apart : ∀ l : Fin 12, (Fld.SPN_LINK_STAT_MGMT_BUSY l).apart (Fld.SPN_LINK_MGMTC_GO l) = true := by decide
  refine ⟨congrArg Link.mgmt hlink, ?_, ?_, fun a ha => ?_⟩
  · exact (bit_putB_apart _ true (apart l)).trans
      (bit_putB_same u _ true (by simp only [Fld.SPN_LINK_MGMTC_GO]; decide) Nat.one_pos)
  · exact bit_putB_same _ _ true (by simp only [Fld.SPN_LINK_STAT_MGMT_BUSY]; decide) Nat.one_pos
  · simp only [List.mem_cons, List.not_mem_nil, or_false, not_or] at ha
    exact (reg_put_ne _ (f := Fld.SPN_LINK_STAT_MGMT_BUSY l) _ ha.2).trans
      ((reg_put_ne u (f := Fld.SPN_LINK_MGMTC_GO l) _ ha.1).trans (hregs a))

/-- Settles O17: the write of CTRL for RESUME, and for LOOP and PRBS; the write of MGMTC that asks, and the one that does not. -/
theorem spanRegisterWritesAct : Obligations.SpanRegisterWritesAct := by
  unfold Obligations.SpanRegisterWritesAct
  intro s m n v hs
  have hn : n.val < s.spn.links.length := by rw [links_of_shaped hs]; exact n.isLt
  have hv := v.isLt
  refine ⟨fun ht => ⟨fun hres hlower => ?_, fun ha hsl => ?_⟩, fun ht => ⟨fun hgo hop hm hb => ?_, fun h => ?_⟩⟩
  · have hx : exec (.spanResumeWrite m n v) s = .next (s.wrSpanCtrl n v.toNat) := congrArg Host.Outcome.next (wr_spanCtrl v ht)
    exact ⟨_, hx, wrSpanCtrl_resumeReq hn hres hlower, sameMem_of_kept (State.wrSpanCtrl_kept s n _)⟩
  · have hx : exec (.spanLoopPrbsWrite m n v) s = .next (s.wrSpanCtrl n v.toNat) := congrArg Host.Outcome.next (wr_spanCtrl v ht)
    obtain ⟨hloop, hprbs, hoff, hregs⟩ := wrSpanCtrl_shows (v := v.toNat) ha hsl
    exact ⟨_, hx, hloop, hprbs, fun h _ => hoff h, hregs, sameMem_of_kept (State.wrSpanCtrl_kept s n _)⟩
  · have hx : exec (.mgmtRequestGo m n v) s = .next (s.wrMgmtc n v.toNat) := congrArg Host.Outcome.next (wr_mgmtc v ht)
    rw [wrMgmtc_asks (by omega) hop hm hb] at hx
    obtain ⟨hq, hbit, hbusy, hregs⟩ := mgmtAsked_shows (s.mgmtNamed n v.toNat) n v.toNat hn
    refine ⟨_, hx, ⟨_, hq, rfl, rfl, (mgmtNamed_get s n _).1, rfl⟩, hbit, hbusy, fun a h => ?_, fun _ => rfl⟩
    exact (hregs a h).trans (mgmtNamed_regs s n _ a fun e => h (List.mem_cons.2 (.inl (List.mem_singleton.1 e))))
  · have hx : exec (.mgmtRequestGo m n v) s = .next (s.wrMgmtc n v.toNat) := congrArg Host.Outcome.next (wr_mgmtc v ht)
    rw [wrMgmtc_ignores h] at hx
    exact ⟨_, hx, rfl, (mgmtNamed_get s n _).2, mgmtNamed_regs s n _, rfl⟩

end Sys2Proof.Machine

/-! SUPPORT for O16: down frames that leave and up frames that come (R115, R134, R229, R231). -/

namespace Sys2Proof.Machine

/-! ### The frame leaves -/

theorem modLink_length (s : State) (l : Nat) (f : Link → Link) : (s.modLink l f).spn.links.length = s.spn.links.length :=
  length_updAt _ _ _

theorem forEach_modLink_length (ls : List Nat) (s : State) (f : State → Nat → Link → Link) :
    (forEach ls s (fun s l => s.modLink l (f s l))).spn.links.length = s.spn.links.length :=
  forEach_keeps (fun t => t.spn.links.length) ls s _ fun t l _ => modLink_length t l _

theorem formCore_length (s : State) (n : Nat) : (s.formCore n).spn.links.length = s.spn.links.length := by
  unfold State.formCore
  split
  · rfl
  · extract_lets ws cs lower resume arm step mg core u v w
    have hu : u.spn.links.length = s.spn.links.length := forEach_modLink_length _ s _
    have hv : v.spn.links.length = u.spn.links.length := by
      unfold v
      cases mg with
      | none => rfl
      | some x => exact (forEach_modLink_length _ _ _).trans (modLink_length u _ _)
    exact hv.trans hu

/-- The frame is formed, and then the link has sent it. -/
theorem sendDown_eq (s : State) (l : Nat) : ∃ (u : State) (f : Link → Link), s.sendDown l = u.modLink l f ∧
    u.spn.links.length = s.spn.links.length ∧ ∀ k, (f k).sentDown = true :=
  ⟨_, _, rfl, formCore_length s _, fun _ => rfl⟩

theorem sendDown_sent (s : State) {l : Nat} (hl : l < s.spn.links.length) :
    ((s.sendDown l).link l).sentDown = true ∧ l < (s.sendDown l).spn.links.length := by
  obtain ⟨u, f, e, hu, hf⟩ := sendDown_eq s l
  rw [e, link_modLink u f (hu ▸ hl), modLink_length, hu]
  exact ⟨hf _, hl⟩

/-- All slots that feed the link have ended: the frame leaves and the overrun run restarts. -/
theorem exec_frameLeaves {s : State} {l : Fin 12} (hr : s.linkRuns l = true) (hd : (s.link l).sentDown = false)
    (he : (s.feeds l).all Slot.ended = true) {i : Instr} (hi : i ∈ [Instr.downFrameSend l, Instr.sendLimit l]) :
    exec i s = .next ((s.sendDown l).modLink l (fun k => { k with overruns := 0 })) := by
  rcases List.mem_pair.1 hi with rfl | rfl
  · exact congrArg Host.Outcome.next (if_pos (by simp [hr, hd, he]))
  · exact congrArg Host.Outcome.next ((if_pos (by simp [hr, hd])).trans (if_pos he))

/-- The frame leaves at the send limit with a slot not ended: EVT.OVERRUN, and one more of the run (R229, R231). -/
def State.sentLate (s : State) (l : Nat) : State :=
  ((s.sendDown l).modLink l (fun k => { k with overruns := satInc 3 k.overruns })).putB Fld.KST_EVT_OVERRUN true

theorem sentLate_sent (s : State) {l : Nat} (hl : l < s.spn.links.length) : ((s.sentLate l).link l).sentDown = true := by
  obtain ⟨hsent, hlen⟩ := sendDown_sent s hl
  have e : (s.sentLate l).link l = { (s.sendDown l).link l with overruns := satInc 3 ((s.sendDown l).link l).overruns } :=
    link_modLink (s.sendDown l) _ hlen
  rw [e]
  exact hsent

/-- The third overrun in a row is a Class B fault of the pier, any other one of Class C (R231). -/
def State.overrunReported (s : State) (l : Nat) : State :=
  if 3 ≤ (s.link l).overruns then (s.modLink l (fun k => { k with overruns := 0 })).reportPier 0x23 clsB l (s.spanPier l)
  else s.reportNone 0x23 clsC l

theorem exec_sendLimit_late {s : State} {l : Fin 12} (hr : s.linkRuns l = true) (hd : (s.link l).sentDown = false)
    (he : (s.feeds l).all Slot.ended = false) : exec (.sendLimit l) s = .next ((s.sentLate l).overrunReported l) :=
  congrArg Host.Outcome.next ((if_pos (by simp [hr, hd])).trans (if_neg (by simp [he])))

theorem link_broadcast_keeps {β : Type} (q : Link → β) (hq : ∀ k, q k.broadcast = q k) (l : Nat) (s : State) (k : Nat) :
    q ((s.modLink k Link.broadcast).link l) = q (s.link l) := link_modLink_keeps q s k l hq

/-- A fault's report leaves whether the frame has left, and the overrun mark. -/
theorem overrunReported_shows (s : State) (l : Nat) : ((s.overrunReported l).link l).sentDown = (s.link l).sentDown ∧
    (s.overrunReported l).bit Fld.KST_EVT_OVERRUN = s.bit Fld.KST_EVT_OVERRUN := by
  have hsent := (blind_link (handlingFields ++ safeFields) l Link.sentDown).report (link_broadcast_keeps Link.sentDown (fun _ => rfl) l)
  have hover := (blind_bit (F := handlingFields ++ safeFields) (g := Fld.KST_EVT_OVERRUN) (by decide +kernel)).report (fun _ _ => rfl)
  unfold State.overrunReported
  split
  · exact ⟨(hsent _ _ _ _ _ _).trans (link_modLink_keeps Link.sentDown s l l fun _ => rfl), hover _ _ _ _ _ _⟩
  · exact ⟨hsent _ _ _ _ _ _, hover _ _ _ _ _ _⟩

/-! ### The up frame -/

theorem ofLE_lt (b : List Byte) : ofLE b < 256 ^ b.length := by
  induction b with
  | nil => decide
  | cons x t ih =>
    have hx : x.toNat < 256 := x.isLt
    rw [ofLE, List.length_cons, Nat.pow_succ]
    omega

theorem leAt_lt (b : List Byte) (o n : Nat) : leAt b o n < 256 ^ n :=
  (ofLE_lt _).trans_le (Nat.pow_le_pow_right (by decide) (List.length_take_le _ _))

/-- What a valid up frame gives link l: that it has come, no missing run, its fields, PFLAGS and the trip mask (R134). -/
def State.upShown (s : State) (l : Nat) : Bool × Nat × UpFrame × Nat × Nat :=
  ((s.link l).gotUp, (s.link l).missRun, (s.link l).up, s.get (Fld.SPN_LINK_STAT_PFLAGS l), s.get (Fld.SPN_LINK_PMASK_TRIP l))

/-- What the device's further use of an up frame writes of link k: the delay, the management reply, which link is used. -/
def upUseFields (k : Nat) : List FieldRef :=
  [Fld.SPN_LINK_DELAY_DELAY k, Fld.SPN_LINK_STAT_DLY_OK k, Fld.SPN_LINK_STAT_ACTIVE k, Fld.SPN_LINK_STAT_MGMT_BUSY k,
    Fld.SPN_LINK_MGMTC_GO k, Fld.SPN_LINK_MGMTR_DONE k, Fld.SPN_LINK_MGMTR_REFUSED k, Fld.SPN_LINK_MGMTQ_RDATA k]

theorem upUseFields_apart : ∀ k l : Fin 12, ∀ f ∈ upUseFields k,
    f.apart (Fld.SPN_LINK_STAT_PFLAGS l) = true ∧ f.apart (Fld.SPN_LINK_PMASK_TRIP l) = true := by decide +kernel

section
variable (l : Fin 12)

theorem upShown_put {k : Nat} (hk : k < 12) {f : FieldRef} (hf : f ∈ upUseFields k) (s : State) (v : Nat) :
    (s.put f v).upShown l = s.upShown l := by
  obtain ⟨h1, h2⟩ := upUseFields_apart ⟨k, hk⟩ l f hf
  simp only [State.upShown, get_put_apart s v h1, get_put_apart s v h2]
  rfl

theorem upShown_modLink (s : State) (k : Nat) {f : Link → Link}
    (h : ∀ x, ((f x).gotUp, (f x).missRun, (f x).up) = (x.gotUp, x.missRun, x.up)) : (s.modLink k f).upShown l = s.upShown l := by
  have hq := link_modLink_keeps (fun x : Link => (x.gotUp, x.missRun, x.up)) s k l h
  simp only [Prod.mk.injEq] at hq
  simp only [State.upShown, hq, get_modLink]

theorem blind_upShown : Blind (handlingFields ++ safeFields) (fun s => s.upShown l) := by
  have apart : ∀ l : Fin 12, ∀ f ∈ handlingFields ++ safeFields,
      f.apart (Fld.SPN_LINK_STAT_PFLAGS l) = true ∧ f.apart (Fld.SPN_LINK_PMASK_TRIP l) = true := by decide +kernel
  exact (blind_link _ l Link.gotUp).prod ((blind_link _ l Link.missRun).prod ((blind_link _ l Link.up).prod
    ((blind_get fun f hf => (apart l f hf).1).prod (blind_get fun f hf => (apart l f hf).2))))

theorem upShown_report (s : State) (code cls src o m : Nat) : (s.report code cls src o m).upShown l = s.upShown l :=
  (blind_upShown l).report (fun t k => upShown_modLink l t k fun _ => rfl) s code cls src o m

theorem upShown_measureDelay (s : State) (interval turn : Nat) : (s.measureDelay l interval turn).upShown l = s.upShown l := by
  unfold State.measureDelay
  split
  · rfl
  · exact (upShown_put l l.isLt (f := Fld.SPN_LINK_STAT_DLY_OK l) (by simp [upUseFields]) _ _).trans
      ((upShown_put l l.isLt (f := Fld.SPN_LINK_DELAY_DELAY l) (by simp [upUseFields]) _ _).trans (upShown_modLink l s l fun _ => rfl))

theorem upShown_bringReply (s : State) (k : Nat) (m : Mgmt) (data : Nat) : (s.bringReply k m data).upShown l = s.upShown l := by
  unfold State.bringReply
  extract_lets n differs u
  have hu : u.upShown l = s.upShown l := by
    unfold u
    split
    · exact (upShown_report l _ _ _ _ _ _).trans (upShown_modLink l s k fun _ => rfl)
    · rfl
  clear_value u
  split
  · refine Eq.trans ?_ hu
    exact upShown_modLink l u k fun _ => rfl
  · exact hu

theorem upShown_fwReply {k : Nat} (hk : k < 12) (s : State) (w : Nat) (busy : Bool) : (s.fwReply k w busy).upShown l = s.upShown l :=
  have put {f : FieldRef} (hf : f ∈ upUseFields k) (t : State) (v : Nat) : (t.put f v).upShown l = t.upShown l := upShown_put l hk hf t v
  (put (f := Fld.SPN_LINK_MGMTQ_RDATA k) (by simp [upUseFields]) _ _).trans <|
    (put (f := Fld.SPN_LINK_MGMTR_REFUSED k) (by simp [upUseFields]) _ _).trans <|
    (put (f := Fld.SPN_LINK_MGMTR_DONE k) (by simp [upUseFields]) _ _).trans <|
    (put (f := Fld.SPN_LINK_MGMTC_GO k) (by simp [upUseFields]) _ _).trans <|
    (put (f := Fld.SPN_LINK_STAT_MGMT_BUSY k) (by simp [upUseFields]) _ _).trans (upShown_modLink l s k fun _ => rfl)

theorem upShown_mgmtReply {k : Nat} (hk : k < 12) (s : State) (w : Nat) : (s.mgmtReply k w).upShown l = s.upShown l := by
  unfold State.mgmtReply
  split
  · split
    · exact (upShown_bringReply l _ k _ _).trans ((upShown_put l hk (f := Fld.SPN_LINK_STAT_MGMT_BUSY k) (by simp [upUseFields]) _ _).trans
        (upShown_modLink l s k fun _ => rfl))
    · split
      · split
        · exact upShown_fwReply l hk s w true
        · rfl
      · rfl
  · split
    · exact upShown_fwReply l hk s w false
    · rfl
  · rfl

/-- Samples and temperatures go to Truss ports and phases. -/
theorem upShown_routeSamples (s : State) (n : Nat) (u : UpFrame) : (s.routeSamples n u).upShown l = s.upShown l := by
  have port (t : State) (q v : Nat) : (t.setPort q v).upShown l = t.upShown l := rfl
  unfold State.routeSamples
  extract_lets s1 s2 s3
  have h1 : s1.upShown l = s.upShown l := foldl_keeps (fun t => t.upShown l) _ s _ fun t q _ => port t _ _
  have h3 : s3.upShown l = s1.upShown l := (port s2 _ _).trans (port s1 _ _)
  clear_value s3
  exact (foldl_keeps (fun t => t.upShown l) _ s3 _ fun t q _ => port t _ _).trans (h3.trans h1)

theorem upShown_takeTemps (s : State) (n : Nat) (u : UpFrame) : (s.takeTemps n u).upShown l = s.upShown l := by
  refine foldl_keeps (fun t => t.upShown l) u.tlm s _ fun t x _ => ?_
  split
  · rfl
  · rfl

theorem mem_pierLinks_lt {s : State} {n k : Nat} (h : k ∈ s.pierLinks n) : k < 12 := by
  simp only [State.pierLinks, List.mem_append, Option.mem_toList, State.pierLink] at h
  exact List.mem_range.1 (h.elim List.mem_of_find?_eq_some List.mem_of_find?_eq_some)

/-- A valid frame is the link's frame of the period. -/
theorem takeUp_shows {s : State} (hl : l.val < s.spn.links.length) (u : UpFrame) (interval : Nat) :
    (s.takeUp l u interval).upShown l = (true, 0, u, u.pflags % 2 ^ 8, u.trip % 2 ^ 32) := by
  unfold State.takeUp
  extract_lets n chg s1 s2 s3 s4 s5 s6
  have h1 : s1.link l = { s.link l with gotUp := true, missRun := 0, up := u, pflagsChanged := (s.link l).pflagsChanged || chg } :=
    link_modLink s _ hl
  have h2 : s2.upShown l = (true, 0, u, u.pflags % 2 ^ 8, u.trip % 2 ^ 32) := by
    have hlink : s2.link l = s1.link l := rfl
    have apart : ∀ l : Fin 12, (Fld.SPN_LINK_SMASK_SENSE_FAIL l).apart (Fld.SPN_LINK_STAT_PFLAGS l) = true ∧
        (Fld.SPN_LINK_SMASK_SENSE_FAIL l).apart (Fld.SPN_LINK_PMASK_TRIP l) = true ∧
        (Fld.SPN_LINK_PMASK_TRIP l).apart (Fld.SPN_LINK_STAT_PFLAGS l) = true := by decide
    obtain ⟨hsp, hst, htp⟩ := apart l
    have hp : s2.get (Fld.SPN_LINK_STAT_PFLAGS l) = u.pflags % 2 ^ 8 :=
      (get_put_apart _ _ hsp).trans ((get_put_apart _ _ htp).trans
        (get_put_same s1 _ _ (by simp only [Fld.SPN_LINK_STAT_PFLAGS]; decide)))
    have ht : s2.get (Fld.SPN_LINK_PMASK_TRIP l) = u.trip % 2 ^ 32 :=
      (get_put_apart _ _ hst).trans (get_put_same _ _ _ (by simp only [Fld.SPN_LINK_PMASK_TRIP]; decide))
    simp only [State.upShown, hlink, h1, hp, ht]
  have h3 : s3.upShown l = s2.upShown l := upShown_measureDelay l s2 interval u.turn
  have h4 : s4.upShown l = s3.upShown l :=
    forEach_keeps (fun t => t.upShown l) _ s3 _ fun t k hk => upShown_mgmtReply l (mem_pierLinks_lt hk) t u.mgmt
  have h5 : s5.upShown l = s4.upShown l := forEach_keeps (fun t => t.upShown l) _ s4 _ fun t k hk =>
    upShown_put l (mem_pierLinks_lt hk) (f := Fld.SPN_LINK_STAT_ACTIVE k) (by simp [upUseFields]) t _
  have h6 : s6.upShown l = s3.upShown l := by
    unfold s6
    clear_value s5
    split
    · exact (upShown_takeTemps l _ n u).trans ((upShown_routeSamples l s5 n u).trans (h5.trans h4))
    · rfl
  exact ((blind_upShown l).handling.settleDisarm s6).trans (h6.trans (h3.trans h2))

end

/-- A running link outside loopback takes one frame in a period. -/
theorem exec_upFrameRx_valid {s : State} {l : Fin 12} {bytes : List Byte} (interval : Nat) (hr : s.linkRuns l = true)
    (hloop : s.bit (Fld.SPN_LINK_CTRL_LOOP l) = false) (hg : (s.link l).gotUp = false) (hv : s.upValid bytes = true) :
    exec (.upFrameRx l bytes interval) s = .next (s.takeUp l (parseUp bytes) interval) :=
  congrArg Host.Outcome.next ((if_neg (by simp [hr, hloop, hg])).trans (if_pos hv))

theorem exec_upFrameRx_badCrc {s : State} {l : Fin 12} {bytes : List Byte} (interval : Nat) (hr : s.linkRuns l = true)
    (hloop : s.bit (Fld.SPN_LINK_CTRL_LOOP l) = false) (hg : (s.link l).gotUp = false) (hv : s.upValid bytes = false)
    (hc : upCrcOk bytes = false) : exec (.upFrameRx l bytes interval) s =
      .next ((s.inc (Fld.SPN_LINK_ERR_UP_CRC l)).putB (Fld.SPN_LINK_STAT_UP_BAD l) true) := by
  unfold exec execUpFrameRx
  simp only [hr, hloop, hg, hv, hc, Bool.not_true, Bool.or_self, Bool.false_eq_true, if_false]

theorem badCrc_shows (s : State) (l : Fin 12) :
    let t := (s.inc (Fld.SPN_LINK_ERR_UP_CRC l)).putB (Fld.SPN_LINK_STAT_UP_BAD l) true
    t.get (Fld.SPN_LINK_ERR_UP_CRC l) = min (2 ^ (Fld.SPN_LINK_ERR_UP_CRC l).w - 1) (s.get (Fld.SPN_LINK_ERR_UP_CRC l) + 1) ∧
      t.bit (Fld.SPN_LINK_STAT_UP_BAD l) = true ∧ SameRegs s t [Reg.SPN_LINK_ERR l, Reg.SPN_LINK_STAT l] ∧ OnlyRegs s t := by
  have apart : ∀ l : Fin 12, (Fld.SPN_LINK_STAT_UP_BAD l).apart (Fld.SPN_LINK_ERR_UP_CRC l) = true := by decide
  refine ⟨(get_put_apart _ _ (apart l)).trans (get_inc_same s _ (by simp only [Fld.SPN_LINK_ERR_UP_CRC]; decide)),
    bit_putB_same _ _ true (by simp only [Fld.SPN_LINK_STAT_UP_BAD]; decide) Nat.one_pos, fun a ha => ?_, rfl⟩
  simp only [List.mem_cons, List.not_mem_nil, or_false, not_or] at ha
  exact (reg_put_ne _ (f := Fld.SPN_LINK_STAT_UP_BAD l) _ ha.2).trans (reg_put_ne s (f := Fld.SPN_LINK_ERR_UP_CRC l) _ ha.1)

/-! ### Sync and bring-up -/

/-- Signal and sync as the receiver shows them. -/
def State.syncShown (s : State) (l : Nat) (signal sync : Bool) : State :=
  (s.putB (Fld.SPN_LINK_STAT_SIGNAL l) signal).putB (Fld.SPN_LINK_STAT_SYNC l) sync

theorem startBring_regs (s : State) (l : Nat) : (s.startBring l).regs = s.regs := by
  unfold State.startBring
  split
  · rfl
  · rfl

/-- A bring-up that starts with the sync changes no register. -/
theorem exec_codeGroupSync_span (s : State) (l : Fin 12) (signal sync : Bool) :
    ∃ t, exec (.codeGroupSync ⟨l.val, by omega⟩ signal sync) s = .next t ∧ t.regs = (s.syncShown l signal sync).regs := by
  refine ⟨_, congrArg Host.Outcome.next (if_pos l.isLt), ?_⟩
  dsimp only
  split
  · exact startBring_regs _ _
  · rfl

theorem syncShown_shows (s : State) (l : Fin 12) (signal sync : Bool) :
    (s.syncShown l signal sync).bit (Fld.SPN_LINK_STAT_SIGNAL l) = signal ∧ (s.syncShown l signal sync).bit (Fld.SPN_LINK_STAT_SYNC l) = sync ∧
    SameRegs s (s.syncShown l signal sync) [Reg.SPN_LINK_STAT l] := by
  have apart : ∀ l : Fin 12, (Fld.SPN_LINK_STAT_SYNC l).apart (Fld.SPN_LINK_STAT_SIGNAL l) = true := by decide
  refine ⟨(bit_putB_apart _ sync (apart l)).trans (bit_putB_same s _ signal (by simp only [Fld.SPN_LINK_STAT_SIGNAL]; decide) Nat.one_pos),
    bit_putB_same _ _ sync (by simp only [Fld.SPN_LINK_STAT_SYNC]; decide) Nat.one_pos, fun a ha => ?_⟩
  have ha : a ≠ Reg.SPN_LINK_STAT l := fun e => ha (List.mem_singleton.2 e)
  exact (reg_put_ne _ (f := Fld.SPN_LINK_STAT_SYNC l) _ ha).trans (reg_put_ne s (f := Fld.SPN_LINK_STAT_SIGNAL l) _ ha)

theorem exec_bringupRetry {s : State} {n l : Fin 12} (hl : s.pierLink n 1 = some l.val) (hs : s.bit (Fld.SPN_LINK_STAT_SYNC l) = true)
    (hf : s.prp.latched.any (fun r => r.code == 0x26 && r.piers.testBit n) = true) :
    exec (.bringupRetry n) s = .next (s.modLink l (fun k => { k with own := none, bring := s.bringList n, bringRun := false })) := by
  unfold exec execBringupRetry
  simp only [hl, hs, hf, Bool.and_self, if_true]

theorem exec_dualLinkLoss {s : State} {l : Fin 12} (hd : s.dualHomed l = true) (hm : 16 ≤ (s.link l).missRun) :
    exec (.dualLinkLoss l) s = .next (s.report 0x27 3 l 0 0) :=
  congrArg Host.Outcome.next (if_pos (by simp [hd, hm]))

/-- Settles O16: the frame that leaves in time or late, the up frame taken or counted, the lost link, the sync, the retry. -/
theorem spanFramesLeaveAndArrive : Obligations.SpanFramesLeaveAndArrive := by
  unfold Obligations.SpanFramesLeaveAndArrive
  intro s l hs
  have hl : l.val < s.spn.links.length := by rw [links_of_shaped hs]; exact l.isLt
  obtain ⟨hsent, hlen⟩ := sendDown_sent s hl
  have mem {i : Instr} {t : State} (h : exec i s = .next t) := memoryChangesOnlyByItsWriters i s t h
  refine ⟨fun hr hd => ⟨fun he i hi => ?_, fun he => ?_⟩, fun bytes interval hr hloop hg => ⟨fun hv => ?_, fun hv hc => ?_⟩,
    fun hd hm hfree => ?_, fun signal sync => ?_, fun n hn hsync hf => ?_⟩
  · refine ⟨_, exec_frameLeaves hr hd he hi, ?_, ?_, ?_⟩
    · rw [link_modLink _ _ hlen]
      exact hsent
    · rw [link_modLink _ _ hlen]
    · exact sameMem_of_kept ((modLink_kept _ _ _).trans (State.sendDown_kept s l))
  · have hx := exec_sendLimit_late hr hd he
    obtain ⟨h1, h2⟩ := overrunReported_shows (s.sentLate l) l
    exact ⟨_, hx, h1.trans (sentLate_sent s hl), h2.trans (bit_putB_same _ _ true (by decide) (by decide)), mem hx⟩
  · have hx := exec_upFrameRx_valid interval hr hloop hg hv
    have h := takeUp_shows l hl (parseUp bytes) interval
    simp only [State.upShown, Prod.mk.injEq] at h
    obtain ⟨hgot, hmiss, hup, hp, ht⟩ := h
    exact ⟨_, hx, hgot, hmiss, hup, hp.trans (Nat.mod_eq_of_lt (leAt_lt bytes 3 1)), ht.trans (Nat.mod_eq_of_lt (leAt_lt bytes 0x0C 4)), mem hx⟩
  · exact ⟨_, exec_upFrameRx_badCrc interval hr hloop hg hv hc, badCrc_shows s l⟩
  · have hx := exec_dualLinkLoss hd hm
    exact ⟨_, hx, report_recorded hfree l 0 0, report_classC hfree l 0 0, mem hx⟩
  · obtain ⟨t, hx, hregs⟩ := exec_codeGroupSync_span s l signal sync
    obtain ⟨h1, h2, h3⟩ := syncShown_shows s l signal sync
    have hbit (f : FieldRef) : t.bit f = (s.syncShown l signal sync).bit f := by rw [← bitIn_regs t, hregs, bitIn_regs]
    have hreg (a : Nat) : t.reg a = (s.syncShown l signal sync).reg a := by rw [← regIn_regs t, hregs, regIn_regs]
    exact ⟨t, hx, (hbit _).trans h1, (hbit _).trans h2, fun a ha => (hreg a).trans (h3 a ha), mem hx⟩
  · refine ⟨_, exec_bringupRetry hn hsync hf, ?_⟩
    beta_reduce
    rw [link_modLink s _ hl]
    exact ⟨rfl, rfl, rfl, fun _ _ => rfl, fun _ => rfl⟩

end Sys2Proof.Machine

/-! SUPPORT for O20 to O22. Phase control: masks, what it writes beside its records, and what its evaluation does to a pier's record. -/

namespace Sys2Proof.Machine

/-! ### Folds and masks -/

/-- A repetition reaches `B` in its round of `k`, where the other rounds keep what that round needs and what it has reached. -/
theorem foldl_reaches {σ : Type} {A B : σ → Prop} {f : σ → Nat → σ} {l : List Nat} {k : Nat} (hk : k ∈ l) (hd : l.Nodup)
    (hA : ∀ q, ∀ x ≠ k, A q → A (f q x)) (hs : ∀ q, A q → B (f q k)) (hB : ∀ q, ∀ x ≠ k, B q → B (f q x)) {q : σ} (h : A q) :
    B (l.foldl f q) := by
  obtain ⟨l₁, l₂, rfl⟩ := List.append_of_mem hk
  obtain ⟨-, hk₂, hd⟩ := List.nodup_append.1 hd
  have h₁ : k ∉ l₁ := fun h => hd k h k (List.mem_cons_self ..) rfl
  have h₂ : k ∉ l₂ := (List.nodup_cons.1 hk₂).1
  rw [List.foldl_append, List.foldl_cons]
  refine List.foldlRecOn l₂ f (hs _ (List.foldlRecOn l₁ f h fun q hq x hx => hA q x (fun e => h₁ (e ▸ hx)) hq)) ?_
  exact fun q hq x hx => hB q x (fun e => h₂ (e ▸ hx)) hq

theorem testBit_mclr (m c i : Nat) : (mclr m c).testBit i = (m.testBit i && !c.testBit i) := by
  have hle : m &&& c ≤ m := Nat.and_le_left
  have hhalf : (m &&& c) / 2 = m / 2 &&& c / 2 := Nat.and_div_two
  have hone := Nat.and_mod_two_eq_one (a := m) (b := c)
  induction i generalizing m c with
  | zero =>
    simp only [mclr, Nat.testBit_zero]
    rcases Nat.mod_two_eq_zero_or_one c with h | h
    · simp only [h, decide_false, Bool.not_false, Bool.and_true, zero_ne_one]
      congr 1; apply propext; omega
    · simp only [h, decide_true, Bool.not_true, Bool.and_false, decide_eq_false_iff_not]
      omega
  | succ i ih =>
    have hdiv : mclr m c / 2 = mclr (m / 2) (c / 2) := by
      have hle' : (m / 2 &&& c / 2) ≤ m / 2 := Nat.and_le_left
      unfold mclr
      omega
    rw [Nat.testBit_succ, hdiv, ih _ _ Nat.and_le_left Nat.and_div_two Nat.and_mod_two_eq_one, ← Nat.testBit_succ, ← Nat.testBit_succ]

theorem testBit_foldl_maskOf (l : List Nat) (hd : l.Nodup) (m p : Nat) (h : ∀ x ∈ l, m.testBit x = false) :
    (l.foldl (fun m p => m + 2 ^ p) m).testBit p = (m.testBit p || decide (p ∈ l)) := by
  induction l generalizing m with
  | nil => simp
  | cons x t ih =>
    obtain ⟨hx, ht⟩ := List.forall_mem_cons.1 h
    obtain ⟨hn, hd⟩ := List.nodup_cons.1 hd
    have e : m + 2 ^ x = mset m x true := by simp [mset, hx]
    have bits (y : Nat) := testBit_mset m x y true
    rw [List.foldl_cons, e, ih hd _ fun y hy => by rw [bits, if_neg (ne_of_mem_of_not_mem hy hn), ht y hy], bits]
    by_cases hp : p = x <;> simp [hp]

/-- The mask of the phases that meet a test has their bits. -/
theorem testBit_maskOf_filter (c : Nat → Bool) (p : Fin 32) : (maskOf ((List.range 32).filter c) % 2 ^ 32).testBit p = c p := by
  rw [Nat.testBit_mod_two_pow, maskOf, testBit_foldl_maskOf _ (List.nodup_range.filter _) _ _ fun _ _ => Nat.zero_testBit _]
  simp [p.isLt]

/-! ### The records of the piers -/

theorem piers_of_shaped {s : State} (h : s.shaped = true) : s.phs.cur.length = 12 ∧ s.phs.nxt.length = 12 := by
  simp only [State.shaped, Bool.and_eq_true, beq_iff_eq] at h
  tauto

/-- What is decided for pier n's next period (R177). -/
def State.decided (s : State) (n : Nat) : Pier := nth {} s.phs.nxt n

theorem pier_modPier (s : State) {n : Nat} (f : Pier → Pier) (h : n < s.phs.cur.length) : (s.modPier n f).pier n = f (s.pier n) :=
  nth_updAt_same ({} : Pier) f h

theorem decided_modPier (s : State) {n : Nat} (f : Pier → Pier) (h : n < s.phs.nxt.length) : (s.modPier n f).decided n = f (s.decided n) :=
  nth_updAt_same ({} : Pier) f h

theorem nth_of_le {α : Type} (d : α) {l : List α} {i : Nat} (h : l.length ≤ i) : nth d l i = d := by
  rw [nth, List.getD_eq_getElem?_getD, List.getElem?_eq_none h, Option.getD_none]

/-- What holds of every element keeps holding through an update of one that keeps it. -/
theorem nth_updAt_of {α : Type} {C : α → Prop} (d : α) (l : List α) {i : Nat} {f : α → α} (h : C (nth d l i) → C (f (nth d l i))) (j : Nat)
    (hj : C (nth d l j)) : C (nth d (updAt l i f) j) := by
  by_cases e : j = i
  · subst e
    by_cases hl : j < l.length
    · rw [nth_updAt_same d f hl]
      exact h hj
    · rwa [nth_of_le d (by simpa using hl), ← nth_of_le d (Nat.le_of_not_lt hl)]
  · rwa [nth_updAt_ne d l f e]

theorem nth_map_of {α : Type} {C : α → Prop} (d : α) (l : List α) {f : α → α} (h : ∀ x, C x → C (f x)) (j : Nat) (hj : C (nth d l j)) :
    C (nth d (l.map f) j) := by
  by_cases hl : j < l.length
  · have e : nth d (l.map f) j = f (nth d l j) := by simp [nth, hl]
    rw [e]
    exact h _ hj
  · rwa [nth_of_le d (by simpa using hl), ← nth_of_le d (Nat.le_of_not_lt hl)]

theorem ph_mod_same (q : Pier) {p : Nat} (f : Phase → Phase) (h : p < q.phases.length) : (q.mod p f).ph p = f (q.ph p) :=
  nth_updAt_same ({} : Phase) f h

theorem ph_mod_ne (q : Pier) {p x : Nat} (f : Phase → Phase) (h : p ≠ x) : (q.mod x f).ph p = q.ph p := nth_updAt_ne ({} : Phase) _ f h

/-- Only a phase that the record holds is in service. -/
theorem lt_length_of_svc {q : Pier} {p : Nat} (h : (q.ph p).st.svc = true) : p < q.phases.length := by
  by_contra hl
  rw [Pier.ph, nth_of_le _ (Nat.le_of_not_lt hl)] at h
  cases h

end Sys2Proof.Machine

namespace Sys2Proof.Machine

/-! ### What phase control writes -/

/-- The registers that phase control writes by itself: of a pier all but its settings and FAULT. -/
def isShown (a : Nat) : Bool :=
  a / 0x10000 == 0x4005 && decide (a % 0x10000 < 0xC000) && (a % 0x1000 == 4 || (decide (0x20 ≤ a % 0x1000) && a % 0x1000 != 0x2C))

/-- The fields of pier n that an evaluation shows, but CAP, TMARGIN and EVT. -/
def shownFields (n : Nat) : List FieldRef :=
  [Fld.PHS_PIER_STAT_N_SVC n, Fld.PHS_PIER_STAT_N_AVAIL n, Fld.PHS_PIER_STAT_LEAD n, Fld.PHS_PIER_STAT_GLIDE n, Fld.PHS_PIER_STAT_RAMP n,
    Fld.PHS_PIER_STAT_HOLDOFF n, Fld.PHS_PIER_SVC_SVC n, Fld.PHS_PIER_DEM_DEM n, Fld.PHS_PIER_RAMP_RAMP n, Fld.PHS_PIER_THERM_HOT n]

/-- The bits of EVT that an evaluation sets. -/
def evtFields (n : Nat) : List FieldRef :=
  [Fld.PHS_PIER_EVT_CAP_CHG n, Fld.PHS_PIER_EVT_SHED_ANN n, Fld.PHS_PIER_EVT_ADMIT n, Fld.PHS_PIER_EVT_ABORT n, Fld.PHS_PIER_EVT_ROTATE n,
    Fld.PHS_PIER_EVT_GLIDE_DONE n]

/-- The averages of a phase (R205), and its peaks (R206). -/
def avgFields (n p : Nat) : List FieldRef :=
  [Fld.PHS_PIER_PH_VAVG_V n p, Fld.PHS_PIER_PH_IAVG_I n p, Fld.PHS_PIER_PH_PAVG_P n p, Fld.PHS_PIER_PH_TAVG_T n p]
def peakFields (n p : Nat) : List FieldRef :=
  [Fld.PHS_PIER_PH_VPK_V n p, Fld.PHS_PIER_PH_IPK_I n p, Fld.PHS_PIER_PH_PPK_P n p, Fld.PHS_PIER_PH_TPK_T n p]

theorem isShown_pier (n : Fin 12) : ∀ f ∈ shownFields n ++ evtFields n ++
    [Fld.PHS_PIER_CAP_CAP n, Fld.PHS_PIER_TMARGIN_MARGIN n, Fld.PHS_PIER_TLMSEQ_SEQ n], isShown f.addr = true := by
  revert n; decide

theorem isShown_tlm (n : Fin 12) (p : Fin 32) : ∀ f ∈ avgFields n p ++ peakFields n p, isShown f.addr = true := by
  revert n p; decide +kernel

/-- The state apart from the records of the piers and the registers that phase control writes by itself. -/
structure PhaseOnly (s t : State) : Prop where
  same : t = { s with regs := t.regs, phs := t.phs }
  regs : ∀ a, isShown a = false → t.reg a = s.reg a
  cur : t.phs.cur.length = s.phs.cur.length
  nxt : t.phs.nxt.length = s.phs.nxt.length

namespace PhaseOnly

theorem refl (s : State) : PhaseOnly s s := ⟨rfl, fun _ _ => rfl, rfl, rfl⟩

theorem trans {s t u : State} (h : PhaseOnly s t) (k : PhaseOnly t u) : PhaseOnly s u where
  same := by rw [k.same, h.same]
  regs a ha := (k.regs a ha).trans (h.regs a ha)
  cur := k.cur.trans h.cur
  nxt := k.nxt.trans h.nxt

theorem setReg (s : State) {a : Nat} (v : Nat) (h : isShown a = true) : PhaseOnly s (s.setReg a v) :=
  ⟨rfl, fun b hb => reg_setReg_ne s v (fun e => by rw [e, h] at hb; cases hb), rfl, rfl⟩

theorem put (s : State) {f : FieldRef} (v : Nat) (h : isShown f.addr = true) : PhaseOnly s (s.put f v) := setReg s _ h

theorem modPier (s : State) (n : Nat) (f : Pier → Pier) : PhaseOnly s (s.modPier n f) :=
  ⟨rfl, fun _ _ => rfl, length_updAt .., length_updAt ..⟩

theorem foldl {α : Type} (l : List α) (f : State → α → State) (s : State) (h : ∀ t, ∀ x ∈ l, PhaseOnly t (f t x)) :
    PhaseOnly s (l.foldl f s) :=
  List.foldlRecOn l f (refl s) fun t ht x hx => ht.trans (h t x hx)

theorem ite {s t u : State} (c : Prop) [Decidable c] (h : PhaseOnly s t) (k : PhaseOnly s u) : PhaseOnly s (if c then t else u) := by
  split
  · exact h
  · exact k

section
variable {s t : State} (h : PhaseOnly s t)
include h

theorem img : t.img = s.img := by rw [h.same]
theorem kst : t.kst = s.kst := by rw [h.same]
theorem spn : t.spn = s.spn := by rw [h.same]

theorem get {f : FieldRef} (hf : isShown f.addr = false) : t.get f = s.get f := by rw [State.get, State.get, h.regs _ hf]

theorem bit {f : FieldRef} (hf : isShown f.addr = false) : t.bit f = s.bit f := congrArg (· != 0) (h.get hf)

theorem sameBlocks : SameBlocks s t [0x4005] := fun a ha => h.regs a (by simp_all [isShown])

theorem cfgB (ty off : Nat) : t.cfgB ty off = s.cfgB ty off := by rw [State.cfgB, State.cfgB, h.img]

theorem pierLink (n k : Nat) : t.pierLink n k = s.pierLink n k := by simp only [State.pierLink, State.spanUse, State.spanPier, h.cfgB]

/-- A link's status is none of phase control's registers. -/
theorem spanStat {f : FieldRef} {l : Nat} (hf : f.addr = Reg.SPN_LINK_STAT l) (hl : l < 12) : t.get f = s.get f := by
  refine h.get ?_
  rw [hf]
  interval_cases l <;> rfl

theorem useLink (n : Nat) : t.useLink n = s.useLink n := by
  have active {k l : Nat} (hl : s.pierLink n k = some l) : t.bit (Fld.SPN_LINK_STAT_ACTIVE l) = s.bit (Fld.SPN_LINK_STAT_ACTIVE l) :=
    congrArg (· != 0) (h.spanStat rfl (List.mem_range.1 (List.mem_of_find?_eq_some hl)))
  unfold State.useLink
  rw [h.pierLink, h.pierLink, h.spn]
  cases h1 : s.pierLink n 1 with
  | none => rfl
  | some p =>
    cases h2 : s.pierLink n 2 with
    | none => rfl
    | some b => simp only [active h1, active h2]

end

theorem useLink_lt {s : State} {n l : Nat} (h : s.useLink n = some l) : l < 12 := by
  have lt {k j : Nat} (hj : s.pierLink n k = some j) : j < 12 := List.mem_range.1 (List.mem_of_find?_eq_some hj)
  unfold State.useLink at h
  cases h1 : s.pierLink n 1 with
  | none => exact lt (h1 ▸ h)
  | some p =>
    cases h2 : s.pierLink n 2 with
    | none =>
      rw [h1, h2] at h
      exact lt (h1.trans h)
    | some b =>
      rw [h1, h2] at h
      have hl : l = p ∨ l = b := by
        dsimp only at h
        repeat' split at h
        all_goals cases h
        all_goals simp
      exact hl.elim (fun e => e ▸ lt h1) (fun e => e ▸ lt h2)

section
variable {s t : State} (h : PhaseOnly s t)
include h

theorem pflag (n b : Nat) : t.pflag n b = s.pflag n b := by
  unfold State.pflag
  rw [h.useLink]
  cases hl : s.useLink n with
  | none => rfl
  | some l => exact congrArg (·.testBit b) (h.spanStat (f := Fld.SPN_LINK_STAT_PFLAGS l) rfl (useLink_lt hl))

theorem pierUp (n : Nat) : t.pierUp n = s.pierUp n := by
  unfold State.pierUp State.link
  rw [h.useLink, h.spn]

/-- EN of a pier is a setting. -/
theorem heldNow (n : Fin 12) : t.heldNow n = s.heldNow n := by
  have hen : ∀ n : Fin 12, isShown (Fld.PHS_PIER_CTRL_EN n).addr = false := by decide
  simp only [State.heldNow, State.pierArmed, State.pierLowered, h.pflag, h.bit (hen n)]

theorem usable (n p : Nat) : t.usable n p = s.usable n p := by
  simp only [State.usable, State.fitted, State.phaseSlot, State.slotRole, State.slotPier, State.slotPhase, State.prog, h.cfgB, cfg_congr h.img, h.kst]

theorem availOf (n : Nat) (q : Pier) : t.availOf n q = s.availOf n q := by simp only [State.availOf, h.usable]

end

end PhaseOnly

end Sys2Proof.Machine

/-! SUPPORT for O20 and O21. What the evaluation of a pier does to its record: a phase that it removes stays removed. -/

namespace Sys2Proof.Machine

/-! ### Removed phases -/

/-- The phase is FAULTED by a removal of this period (R197, R812). -/
def Phase.Gone (ph : Phase) : Prop := ph.st = .faulted ∧ ph.pend ≠ 0

theorem not_gone_of_st {ph : Phase} (h : ph.st ≠ .faulted) : ¬ ph.Gone := fun k => h k.1

/-- An operation of the evaluation: the pier stays held or not, and a removed phase stays removed. -/
def Pier.Keeps (q r : Pier) : Prop := r.held = q.held ∧ ∀ p, (q.ph p).Gone → (r.ph p).Gone

/-- An operation that puts no phase in service and leaves the hold-off. -/
def Pier.Rests (q r : Pier) : Prop :=
  q.Keeps r ∧ r.holdoff = q.holdoff ∧ ∀ p, (q.ph p).st.svc = false → (r.ph p).st.svc = false

namespace Pier

theorem Keeps.refl (q : Pier) : q.Keeps q := ⟨rfl, fun _ h => h⟩

theorem Keeps.trans {q r x : Pier} (h : q.Keeps r) (k : r.Keeps x) : q.Keeps x := ⟨k.1.trans h.1, fun p hp => k.2 p (h.2 p hp)⟩

theorem Rests.refl (q : Pier) : q.Rests q := ⟨Keeps.refl q, rfl, fun _ h => h⟩

theorem Rests.trans {q r x : Pier} (h : q.Rests r) (k : r.Rests x) : q.Rests x :=
  ⟨h.1.trans k.1, k.2.1.trans h.2.1, fun p hp => k.2.2 p (h.2.2 p hp)⟩

theorem Keeps.foldl {α : Type} (l : List α) (f : Pier → α → Pier) (q : Pier) (h : ∀ (r : Pier) x, r.Keeps (f r x)) : q.Keeps (l.foldl f q) :=
  List.foldlRecOn l f (refl q) fun r hr x _ => hr.trans (h r x)

theorem Rests.foldl {α : Type} (l : List α) (f : Pier → α → Pier) (q : Pier) (h : ∀ (r : Pier) x, r.Rests (f r x)) : q.Rests (l.foldl f q) :=
  List.foldlRecOn l f (refl q) fun r hr x _ => hr.trans (h r x)

theorem Keeps.glideLoads {q r : Pier} (h : q.Keeps r) (b : Bool) : q.Keeps { r with glideLoads := b } := ⟨h.1, h.2⟩

/-- One phase changes. -/
theorem Keeps.mod (q : Pier) (x : Nat) {f : Phase → Phase} (h : (q.ph x).Gone → (f (q.ph x)).Gone) : q.Keeps (q.mod x f) :=
  ⟨rfl, fun p hp => nth_updAt_of (C := Phase.Gone) {} q.phases h p hp⟩

/-- Every phase changes. -/
theorem Keeps.map (q : Pier) {f : Phase → Phase} (h : ∀ ph : Phase, ph.Gone → (f ph).Gone) : q.Keeps { q with phases := q.phases.map f } :=
  ⟨rfl, fun p hp => nth_map_of (C := Phase.Gone) {} q.phases h p hp⟩

/-- A phase that was not removed in this period changes, and is not in service afterwards. -/
theorem Rests.mod (q : Pier) (x : Nat) {f : Phase → Phase} (h : ¬ (q.ph x).Gone) (hs : (f (q.ph x)).st.svc = false) : q.Rests (q.mod x f) :=
  ⟨Keeps.mod q x fun k => absurd k h, rfl, fun p hp => nth_updAt_of (C := fun ph => ph.st.svc = false) {} q.phases (fun _ => hs) p hp⟩

end Pier

/-! ### The operations that remove phases -/

theorem endClearing_rests (s : State) (n : Nat) (q : Pier) : q.Rests (s.endClearing n q) := by
  refine Pier.Rests.foldl _ _ q fun r p => ?_
  dsimp only
  split
  next h =>
    obtain ⟨hst, hpend, -, -⟩ := h
    have hg : ¬ (r.ph p).Gone := fun k => k.2 hpend
    split
    · exact Pier.Rests.mod r p hg rfl
    · exact Pier.Rests.mod r p hg (by simp only [hst, PhState.svc])
  next => exact Pier.Rests.refl r

theorem thermal_rests (s : State) (n : Nat) (q : Pier) : q.Rests (s.thermal n q) := by
  refine Pier.Rests.foldl _ _ q fun r p => ?_
  dsimp only
  split
  · exact Pier.Rests.refl r
  split
  next => exact Pier.Rests.refl r
  next h =>
    split
    · exact Pier.Rests.mod r p (not_gone_of_st (by simp [h])) rfl
    · exact Pier.Rests.refl r
  next h _ =>
    split
    · exact Pier.Rests.mod r p (not_gone_of_st h) rfl
    · exact Pier.Rests.refl r

theorem countTests_st (s : State) (n : Nat) (q : Pier) (u : UpFrame) (p : Nat) (ph : Phase) :
    (s.countTests n q u p ph).st = ph.st ∧ (s.countTests n q u p ph).pend = ph.pend := by
  unfold State.countTests
  dsimp only
  split
  · exact ⟨rfl, rfl⟩
  · exact ⟨rfl, rfl⟩

/-- One round of `removeFaulted`. -/
def State.removeOne (s : State) (n : Nat) (base : Pier) (u : UpFrame) (q : Pier) (p : Nat) : Pier :=
  if !s.usable n p then q
  else
    let ph := s.countTests n base u p (q.ph p)
    let c := s.causeOf n base u p ph
    let cleared := !(s.get (Fld.PHS_PIER_FAULT_FAULT n)).testBit p
    if ph.st = .faulted then
      q.mod p (fun _ => { ph with pend := if cleared then c else 0, clearing := if cleared ∧ c ≠ 0 then 0 else ph.clearing })
    else if c = 0 then q.mod p (fun _ => { ph with pend := 0 })
    else q.mod p (fun _ => { ph.leave .faulted q.outCtr with pend := c })

theorem removeFaulted_eq (s : State) (n : Nat) (q : Pier) (u : UpFrame) :
    s.removeFaulted n q u = (List.range 32).foldl (s.removeOne n q u) q := (rfl)

/-- A round leaves the pier or changes its own phase. -/
theorem removeOne_cases (s : State) (n : Nat) (base : Pier) (u : UpFrame) (q : Pier) (p : Nat) :
    s.removeOne n base u q p = q ∨ ∃ f, s.removeOne n base u q p = q.mod p f := by
  unfold State.removeOne
  dsimp only
  repeat' split
  · exact .inl rfl
  all_goals exact .inr ⟨_, rfl⟩

theorem removeOne_ph_ne (s : State) (n : Nat) (base : Pier) (u : UpFrame) (q : Pier) {p x : Nat} (h : x ≠ p) :
    (s.removeOne n base u q x).ph p = q.ph p := by
  rcases removeOne_cases s n base u q x with e | ⟨f, e⟩
  · rw [e]
  · rw [e, ph_mod_ne q f h.symm]

theorem removeFaulted_held (s : State) (n : Nat) (q : Pier) (u : UpFrame) : (s.removeFaulted n q u).held = q.held := by
  rw [removeFaulted_eq]
  refine List.foldlRecOn (motive := fun r : Pier => r.held = q.held) _ _ rfl fun r hr p _ => ?_
  rcases removeOne_cases s n q u r p with e | ⟨f, e⟩
  · rw [e, hr]
  · rw [e, ← hr, Pier.mod]

/-- A detection given to a phase in service is a cause of removal (R196, R812). -/
theorem causeOf_ne_zero (s : State) (n : Nat) (q : Pier) (u : UpFrame) (p : Nat) {ph : Phase} (hs : ph.st.svc = true)
    (hp : ph.pend = 1 ∨ ph.pend = 3) : s.causeOf n q u p ph ≠ 0 := by
  unfold State.causeOf
  dsimp only
  repeat' split
  · decide
  · decide
  · decide
  · decide
  next h3 h1 => rcases hp with hp | hp <;> simp [hs, hp] at h1 h3

theorem removeFaulted_gone (s : State) (n : Nat) (q : Pier) (u : UpFrame) {p : Nat} (hp : p < 32) (hu : s.usable n p = true)
    (hs : (q.ph p).st.svc = true) (hd : (q.ph p).pend = 1 ∨ (q.ph p).pend = 3) : ((s.removeFaulted n q u).ph p).Gone := by
  rw [removeFaulted_eq]
  refine foldl_reaches (A := fun r : Pier => r.ph p = q.ph p) (B := fun r : Pier => (r.ph p).Gone) (List.mem_range.2 hp) List.nodup_range
    (fun r x hx hr => (removeOne_ph_ne s n q u r hx).trans hr) (fun r hr => ?_)
    (fun r x hx hr => (removeOne_ph_ne s n q u r hx).symm ▸ hr) rfl
  obtain ⟨hst, hpend⟩ := countTests_st s n q u p (r.ph p)
  rw [← hr] at hs hd
  have hc : s.causeOf n q u p (s.countTests n q u p (r.ph p)) ≠ 0 :=
    causeOf_ne_zero s n q u p (by rw [hst]; exact hs) (by rw [hpend]; exact hd)
  have hne : (s.countTests n q u p (r.ph p)).st ≠ .faulted := fun e => by
    rw [hst] at e
    rw [e] at hs
    cases hs
  unfold State.removeOne
  simp only [hu, Bool.not_true, Bool.false_eq_true, if_false, if_neg hne, if_neg hc]
  rw [ph_mod_same r _ (lt_length_of_svc hs)]
  exact ⟨rfl, hc⟩

theorem removals_held (s : State) (n : Nat) (q : Pier) : (s.removals n q).held = q.held := by
  unfold State.removals
  refine ((endClearing_rests s n _).trans (thermal_rests s n _)).1.1.trans ?_
  split
  · exact removeFaulted_held s n q _
  · rfl

theorem removals_gone {s : State} {n : Nat} {q : Pier} (hf : (s.pierUp n).isSome = true) {p : Nat} (hp : p < 32) (hu : s.usable n p = true)
    (hs : (q.ph p).st.svc = true) (hd : (q.ph p).pend = 1 ∨ (q.ph p).pend = 3) : ((s.removals n q).ph p).Gone := by
  obtain ⟨u, e⟩ := Option.isSome_iff_exists.1 hf
  unfold State.removals
  rw [e]
  exact ((endClearing_rests s n _).trans (thermal_rests s n _)).1.2 p (removeFaulted_gone s n q u hp hu hs hd)

/-! ### The other operations of an evaluation -/

theorem moveLead_keeps (s : State) (n : Nat) (q : Pier) : q.Keeps (s.moveLead n q) := ⟨rfl, fun _ h => h⟩

theorem startGlide_keeps (s : State) (n : Nat) (q : Pier) (fresh : List Nat) : q.Keeps (s.startGlide n q fresh) := by
  unfold State.startGlide
  extract_lets sl nsw steps r
  refine Pier.Keeps.trans (r := r) ⟨rfl, fun _ h => h⟩ (Pier.Keeps.foldl _ _ r fun x y => Pier.Keeps.mod x y.1 fun h => ?_)
  split
  · exact h
  · exact h

theorem stepGlide_keeps (s : State) (n : Nat) (q : Pier) : q.Keeps (s.stepGlide n q).1 := by
  unfold State.stepGlide
  split
  · exact Pier.Keeps.refl q
  have off (x : Phase → Nat) : q.Keeps { q with phases := q.phases.map fun ph => if ph.st.svc then { ph with off := x ph } else ph } :=
    Pier.Keeps.map q fun ph h => by
      split
      · exact h
      · exact h
  dsimp only
  split
  · exact off _
  · exact off _

theorem stepWeights_keeps (s : State) (n : Nat) (q : Pier) : q.Keeps (s.stepWeights n q).1 := by
  unfold State.stepWeights
  extract_lets up dn
  refine List.foldlRecOn (motive := fun x : Pier × Bool => q.Keeps x.1) _ _ (Pier.Keeps.refl q) fun x hx p _ => hx.trans ?_
  extract_lets ph rise
  have hrise (h : ¬ ph.Gone) : x.1.Keeps rise.1 := by
    unfold rise
    split
    · exact Pier.Keeps.mod _ _ fun k => absurd k h
    · exact Pier.Keeps.mod _ _ fun k => absurd k h
  split
  next h =>
    have hg : ¬ ph.Gone := not_gone_of_st (by simp [h])
    split
    · exact hrise hg
    split
    · exact Pier.Keeps.mod _ _ fun k => absurd k hg
    · exact Pier.Keeps.mod _ _ fun k => absurd k hg
  next h => exact hrise (not_gone_of_st (by simp [h]))
  next => exact Pier.Keeps.refl _

theorem updateDe_keeps (s : State) (n : Nat) (q : Pier) (step : Bool) : q.Keeps (s.updateDe n q step) := by
  refine Pier.Keeps.map q fun ph h => ?_
  repeat' split
  all_goals exact h

/-! ### The choice of R178 -/

/-- Only phases that are OUT are admitted. -/
theorem admitted_keeps (s : State) (n : Nat) (q : Pier) {l : List Nat} (h : ∀ p ∈ l, (q.ph p).st = .out) : q.Keeps (s.admitted n q l) := by
  unfold State.admitted
  split
  · exact Pier.Keeps.refl q
  refine Pier.Keeps.trans ?_ (moveLead_keeps s n _)
  refine ⟨List.foldlRecOn (motive := fun r : Pier => r.held = q.held) l _ rfl fun r hr _ _ => hr, fun p hp => ?_⟩
  have hl : ∀ x ∈ l, p ≠ x := fun x hx e => not_gone_of_st (by rw [e, h x hx]; decide) hp
  exact List.foldlRecOn (motive := fun r : Pier => (r.ph p).Gone) l _ hp fun r hr x hx => (ph_mod_ne r _ (hl x hx)).symm ▸ hr

theorem out_of_longestOut {s : State} {n : Nat} {q : Pier} : ∀ p ∈ (s.longestOut n q).toList, (q.ph p).st = .out := fun p hp => by
  have h := List.mem_of_find?_eq_some (Option.mem_toList.1 hp)
  exact eq_of_beq (List.mem_filter.1 h).2

theorem admitPhases_keeps (s : State) (n : Nat) (q : Pier) {l : List Nat} (h : ∀ p ∈ l, (q.ph p).st = .out) : q.Keeps (s.admitPhases n q l).q :=
  admitted_keeps s n q h

theorem loadStep_keeps (s : State) (n : Nat) (q : Pier) : q.Keeps (s.loadStep n q).q := by
  unfold State.loadStep
  extract_lets ramping r outs all c
  have hr : q.Keeps r := Pier.Keeps.map q fun ph h => h
  refine hr.trans (r := r) (Pier.Keeps.trans (r := c.q) (admitPhases_keeps s n r fun p hp => ?_) ⟨rfl, fun _ h => h⟩)
  split at hp
  · exact eq_of_beq (List.mem_filter.1 hp).2
  · exact out_of_longestOut p hp

theorem announceShed_keeps {s : State} {n : Nat} {q r : Pier} (h : s.announceShed n q = some r) : q.Keeps r := by
  unfold State.announceShed at h
  split at h
  · cases h
  next p hp =>
    cases h
    have hsvc : (q.ph p).st.svc = true := (List.mem_filter.1 (List.mem_reverse.1 (List.mem_of_find?_eq_some hp))).2
    exact Pier.Keeps.mod q p fun k => by
      rw [k.1] at hsvc
      cases hsvc

theorem choose_keeps (s : State) (n : Nat) (q : Pier) (step gliding : Bool) : q.Keeps (s.choose n q step gliding).q := by
  have one : q.Keeps (s.admitPhases n q (s.longestOut n q).toList).q := admitPhases_keeps s n q out_of_longestOut
  unfold State.choose
  dsimp only
  split
  · exact loadStep_keeps s n q
  split
  · exact loadStep_keeps s n q
  split
  · exact one
  split
  · exact one
  split
  · exact one
  split
  · split
    next h => exact announceShed_keeps h
    next => exact Pier.Keeps.refl q
  · exact Pier.Keeps.refl q

/-! ### One evaluation -/

/-- What `runPier` removes phases from. -/
def State.counted (s : State) (n : Nat) (q : Pier) : Pier := s.countRot n (s.recordI n q)

theorem counted_ph (s : State) (n : Nat) (q : Pier) {p : Nat} (hp : p < 32) :
    ((s.counted n q).ph p).st = (q.ph p).st ∧ ((s.counted n q).ph p).pend = (q.ph p).pend := by
  unfold State.counted State.countRot State.recordI
  simp [Pier.ph, nth, hp]

/-- After its removals a pier that runs keeps the removed phases removed. -/
theorem runPier_keeps (s : State) (n : Nat) (q : Pier) : (s.removals n (s.counted n q)).Keeps (s.runPier n q).1 := by
  unfold State.runPier
  extract_lets counted before ramped step ends cut gone led c cq chosen seq rot turned w shed loads glide glided de g
  have hled : cut.Keeps led := Pier.Keeps.foldl _ _ cut fun r _ => moveLead_keeps s n r
  have hseq : led.Keeps seq := (choose_keeps s n led step _).trans ⟨rfl, fun _ h => h⟩
  have hturned : seq.Keeps turned := by
    unfold turned
    split
    · exact moveLead_keeps s n seq
    · exact Pier.Keeps.refl seq
  have hw : turned.Keeps w.1 := stepWeights_keeps s n turned
  have hshed : w.1.Keeps shed := by
    unfold shed
    split
    · exact moveLead_keeps s n w.1
    · exact Pier.Keeps.refl w.1
  have hglided : shed.Keeps glided := by
    unfold glided
    split
    · exact (startGlide_keeps s n shed c.fresh).glideLoads _
    · exact Pier.Keeps.refl shed
  have hde : glided.Keeps de := updateDe_keeps s n glided ends
  have hg : de.Keeps g.1 := stepGlide_keeps s n de
  exact hled.trans (hseq.trans (hturned.trans (hw.trans (hshed.trans (hglided.trans (hde.trans hg))))))

theorem runPier_held (s : State) (n : Nat) (q : Pier) : (s.runPier n q).1.held = q.held :=
  (runPier_keeps s n q).1.trans (removals_held s n (s.counted n q))

theorem runPier_gone {s : State} {n : Nat} {q : Pier} (hf : (s.pierUp n).isSome = true) {p : Nat} (hp : p < 32) (hu : s.usable n p = true)
    (hs : (q.ph p).st.svc = true) (hd : (q.ph p).pend = 1 ∨ (q.ph p).pend = 3) : ((s.runPier n q).1.ph p).Gone := by
  obtain ⟨hst, hpend⟩ := counted_ph s n q hp
  exact (runPier_keeps s n q).2 p (removals_gone hf hp hu (by rw [hst]; exact hs) (by rw [hpend]; exact hd))

theorem restartPier_held (s : State) (n : Nat) (q : Pier) : (s.restartPier n q).held = false := by
  unfold State.restartPier
  extract_lets q1 q2 q3 q4 sl
  exact List.foldlRecOn (motive := fun r : Pier => r.held = false) _ _ rfl fun r hr _ _ => hr

/-- A pier held under R171 has no phase in service. -/
theorem holdPier_shows (s : State) (n : Nat) (q : Pier) : (s.holdPier n q).held = true ∧ (s.holdPier n q).holdoff = 0 ∧
    ∀ p : Fin 32, ((s.holdPier n q).ph p).st.svc = false := by
  unfold State.holdPier
  extract_lets q1 q2
  have hrest : q2.Rests (s.thermal n (s.endClearing n q2)) := (endClearing_rests s n q2).trans (thermal_rests s n _)
  have h2 : q2.held = true ∧ q2.holdoff = 0 :=
    List.foldlRecOn (motive := fun r : Pier => r.held = true ∧ r.holdoff = 0) _ _ ⟨rfl, rfl⟩ fun r hr p _ => by
      split
      · exact hr
      · exact hr
  obtain ⟨⟨hheld, -⟩, hhold, hsvc⟩ := hrest
  refine ⟨hheld.trans h2.1, hhold.trans h2.2, fun p => hsvc p ?_⟩
  refine foldl_reaches (A := fun _ => True) (B := fun r : Pier => (r.ph p).st.svc = false) (List.mem_range.2 p.isLt) List.nodup_range
    (fun _ _ _ _ => trivial) (fun r _ => ?_) (fun r x hx hr => ?_) trivial
  · split
    next h => exact congrArg (fun ph : Phase => ph.st.svc) (ph_mod_same r _ (lt_length_of_svc h))
    next h => exact Bool.eq_false_of_not_eq_true h
  · split
    · exact (congrArg (fun ph : Phase => ph.st.svc) (ph_mod_ne r _ hx.symm)).trans hr
    · exact hr

end Sys2Proof.Machine

/-! SUPPORT for O20 to O22. What an evaluation shows and leaves. -/

namespace Sys2Proof.Machine

/-! ### What is shown of a pier -/

/-- Fields written one after the other. -/
def State.puts (s : State) (l : List (FieldRef × Nat)) : State := l.foldl (fun s x => s.put x.1 x.2) s

theorem get_puts_apart {l : List (FieldRef × Nat)} {g : FieldRef} (s : State) (h : ∀ x ∈ l, x.1.apart g = true) : (s.puts l).get g = s.get g :=
  foldl_keeps (fun t => t.get g) l s _ fun t x hx => get_put_apart t x.2 (h x hx)

/-- Fields that lie apart each hold what was written to them. -/
theorem get_puts {l : List (FieldRef × Nat)} (s : State) (hw : ∀ x ∈ l, x.1.lo + x.1.w ≤ 32) (hd : l.Pairwise fun x y => y.1.apart x.1 = true) :
    ∀ x ∈ l, (s.puts l).get x.1 = x.2 % 2 ^ x.1.w := by
  induction l generalizing s with
  | nil => simp
  | cons y t ih =>
    obtain ⟨hy, ht⟩ := List.forall_mem_cons.1 hw
    obtain ⟨hdy, hdt⟩ := List.pairwise_cons.1 hd
    refine List.forall_mem_cons.2 ⟨?_, fun x hx => ih (s.put y.1 y.2) ht hdt x hx⟩
    exact (get_puts_apart _ hdy).trans (get_put_same s y.1 y.2 hy)

/-- A flag as the word of its field. -/
def flagOf (b : Bool) : Nat := if b then 1 else 0

/-- What an evaluation shows of a pier with `avail` available phases, but CAP, TMARGIN and EVT. -/
def pierShown (n : Nat) (q : Pier) (avail : Nat) : List (FieldRef × Nat) :=
  [(Fld.PHS_PIER_STAT_N_SVC n, ((List.range 32).filter (fun p => (q.ph p).st.svc)).length), (Fld.PHS_PIER_STAT_N_AVAIL n, avail),
    (Fld.PHS_PIER_STAT_LEAD n, q.lead), (Fld.PHS_PIER_STAT_GLIDE n, flagOf (decide (q.glideLeft ≠ 0))),
    (Fld.PHS_PIER_STAT_RAMP n, flagOf (q.phases.any (fun ph => ph.st == .ramp && !ph.rising))),
    (Fld.PHS_PIER_STAT_HOLDOFF n, flagOf (decide (q.holdoff ≠ 0))),
    (Fld.PHS_PIER_SVC_SVC n, maskOf ((List.range 32).filter (fun p => (q.ph p).st.svc))),
    (Fld.PHS_PIER_DEM_DEM n, maskOf ((List.range 32).filter (fun p => (q.ph p).de))),
    (Fld.PHS_PIER_RAMP_RAMP n, maskOf ((List.range 32).filter (fun p => (q.ph p).st == .ramp))),
    (Fld.PHS_PIER_THERM_HOT n, maskOf ((List.range 32).filter (fun p => (q.ph p).st == .hot)))]

theorem pierShown_fields (n : Nat) (q : Pier) (avail : Nat) : (pierShown n q avail).map Prod.fst = shownFields n := (rfl)

theorem shownFields_apart (n : Fin 12) : (∀ f ∈ shownFields n, f.lo + f.w ≤ 32) ∧ (shownFields n).Pairwise (fun f g => g.apart f = true) ∧
    (∀ f ∈ shownFields n, ∀ g ∈ evtFields n, g.apart f = true) ∧ (∀ f ∈ shownFields n ++ evtFields n, f.apart (Fld.PHS_PIER_CAP_CAP n) = true) ∧
    (Fld.PHS_PIER_TMARGIN_MARGIN n).apart (Fld.PHS_PIER_CAP_CAP n) = true := by
  revert n; decide

/-- The state with CAP, EVT.CAP_CHG and TMARGIN shown. -/
def State.capShown (s : State) (n : Nat) (q : Pier) : State :=
  let cap := codeFree (s.capOf n q) 16 0 (2 ^ 32 - 1)
  let u := if (s.get (Fld.PHS_PIER_CAP_CAP n) : Int) = cap then s
    else (s.put (Fld.PHS_PIER_CAP_CAP n) cap.toNat).putB (Fld.PHS_PIER_EVT_CAP_CHG n) true
  u.putS (Fld.PHS_PIER_TMARGIN_MARGIN n) (u.marginOf n q)

/-- A flag is set where `b`. -/
def State.raise (s : State) (f : FieldRef) (b : Bool) : State := if b then s.putB f true else s

/-- The events of an evaluation show in EVT. -/
def State.evtShown (s : State) (n : Nat) (e : PhsEvt) : State :=
  ((((s.raise (Fld.PHS_PIER_EVT_SHED_ANN n) e.shedAnn).raise (Fld.PHS_PIER_EVT_ADMIT n) e.admitted).raise
    (Fld.PHS_PIER_EVT_ABORT n) e.abort).raise (Fld.PHS_PIER_EVT_ROTATE n) e.rotate).raise (Fld.PHS_PIER_EVT_GLIDE_DONE n) e.glideDone

theorem showPier_eq (s : State) (n : Nat) (q : Pier) (e : PhsEvt) : s.showPier n q e =
    ((s.capShown n q).puts (pierShown n q ((s.capShown n q).availOf n q).length)).evtShown n e := (rfl)

theorem get_raise_apart (s : State) {f g : FieldRef} (b : Bool) (h : f.apart g = true) : (s.raise f b).get g = s.get g := by
  unfold State.raise
  split
  · exact get_put_apart s _ h
  · rfl

theorem get_evtShown_apart (s : State) {n : Nat} (e : PhsEvt) {g : FieldRef} (h : ∀ f ∈ evtFields n, f.apart g = true) :
    (s.evtShown n e).get g = s.get g := by
  simp only [evtFields, List.forall_mem_cons] at h
  obtain ⟨-, hs, ha, hb, hr, hg, -⟩ := h
  exact (get_raise_apart _ _ hg).trans ((get_raise_apart _ _ hr).trans ((get_raise_apart _ _ hb).trans
    ((get_raise_apart _ _ ha).trans (get_raise_apart s _ hs))))

theorem PhaseOnly.raise (s : State) {f : FieldRef} (b : Bool) (h : isShown f.addr = true) : PhaseOnly s (s.raise f b) :=
  ite _ (put s _ h) (refl s)

theorem PhaseOnly.evtShown (s : State) (n : Fin 12) (e : PhsEvt) : PhaseOnly s (s.evtShown n e) := by
  have h : ∀ f ∈ evtFields n, isShown f.addr = true := fun f hf => isShown_pier n f (by simp [hf])
  simp only [evtFields, List.forall_mem_cons] at h
  obtain ⟨-, hs, ha, hb, hr, hg, -⟩ := h
  exact (raise s _ hs).trans ((raise _ _ ha).trans ((raise _ _ hb).trans ((raise _ _ hr).trans (raise _ _ hg))))

theorem PhaseOnly.capShown (s : State) (n : Fin 12) (q : Pier) : PhaseOnly s (s.capShown n q) := by
  have h := isShown_pier n
  unfold State.capShown
  extract_lets cap u
  have hu : PhaseOnly s u := ite _ (refl s) ((put s _ (h _ (by simp))).trans (put _ _ (h _ (by simp [evtFields]))))
  exact hu.trans (put u _ (h _ (by simp)))

theorem PhaseOnly.showPier (s : State) (n : Fin 12) (q : Pier) (e : PhsEvt) : PhaseOnly s (s.showPier n q e) := by
  rw [showPier_eq]
  refine (capShown s n q).trans ((foldl _ _ _ fun t x hx => put t _ (isShown_pier n _ ?_)).trans (evtShown _ n e))
  have hf := List.mem_map_of_mem (f := Prod.fst) hx
  rw [pierShown_fields] at hf
  simp [hf]

theorem showPier_get (s : State) (n : Fin 12) (q : Pier) (e : PhsEvt) :
    ∀ x ∈ pierShown n q (s.availOf n q).length, (s.showPier n q e).get x.1 = x.2 % 2 ^ x.1.w := by
  obtain ⟨hw, hd, hevt, -⟩ := shownFields_apart n
  have ha : (s.capShown n q).availOf n q = s.availOf n q := (PhaseOnly.capShown s n q).availOf n q
  have mem {x : FieldRef × Nat} (hx : x ∈ pierShown n q (s.availOf n q).length) : x.1 ∈ shownFields n := by
    rw [← pierShown_fields n q (s.availOf n q).length]
    exact List.mem_map_of_mem hx
  intro x hx
  rw [showPier_eq, ha, get_evtShown_apart _ e (hevt x.1 (mem hx))]
  exact get_puts _ (fun y hy => hw y.1 (mem hy)) (List.pairwise_map.1 ((pierShown_fields n q _).symm ▸ hd)) x hx

/-- A held pier shows no capacity (R201). -/
theorem showPier_cap (s : State) (n : Fin 12) {q : Pier} (e : PhsEvt) (h : q.held = true) : (s.showPier n q e).get (Fld.PHS_PIER_CAP_CAP n) = 0 := by
  obtain ⟨-, -, -, hcap, hmargin⟩ := shownFields_apart n
  have hzero : codeFree (s.capOf n q) 16 0 (2 ^ 32 - 1) = 0 := by
    simp [State.capOf, h, codeFree, roundFree, clampI]
  have hs : (s.capShown n q).get (Fld.PHS_PIER_CAP_CAP n) = 0 := by
    refine (get_put_apart _ _ hmargin).trans ?_
    rw [hzero]
    split
    next h => exact_mod_cast h
    next =>
      exact (get_put_apart _ _ (hcap _ (by simp [evtFields]))).trans (get_put_same s _ _ (by simp only [Fld.PHS_PIER_CAP_CAP]; decide))
  rw [showPier_eq, get_evtShown_apart _ e fun f hf => hcap f (by simp [hf]), get_puts_apart _ fun x hx => hcap x.1 ?_, hs]
  have hf := List.mem_map_of_mem (f := Prod.fst) hx
  rw [pierShown_fields] at hf
  simp [hf]

end Sys2Proof.Machine

namespace Sys2Proof.Machine

/-! ### The report of a short pier (R202) -/

/-- The records of the piers, and the registers of phase control. -/
def State.phaseFace (s : State) : Phs × ({ a : Nat // a / 0x10000 = 0x4005 } → Nat) := (s.phs, fun a => s.reg a)

theorem reg_of_face {s t : State} (h : t.phaseFace = s.phaseFace) {a : Nat} (ha : a / 0x10000 = 0x4005) : t.reg a = s.reg a :=
  congrFun (congrArg Prod.snd h) ⟨a, ha⟩

theorem get_of_face {s t : State} (h : t.phaseFace = s.phaseFace) {f : FieldRef} (hf : f.addr / 0x10000 = 0x4005) : t.get f = s.get f := by
  rw [State.get, State.get, reg_of_face h hf]

/-- Neither the handling of a fault nor the safe state writes a register of phase control. -/
theorem blind_phaseFace : Blind (handlingFields ++ safeFields) State.phaseFace where
  put s v f hf := by
    have hb : ∀ f ∈ handlingFields ++ safeFields, f.addr / 0x10000 ≠ 0x4005 := by decide +kernel
    refine Prod.ext rfl (funext fun a => reg_put_ne s v fun e => hb f hf ?_)
    rw [← e]
    exact a.2
  prp _ _ := rfl
  arc _ _ := rfl
  kst _ _ := rfl
  free _ _ := rfl

theorem phaseFace_report (s : State) (code cls src o m : Nat) : (s.report code cls src o m).phaseFace = s.phaseFace :=
  blind_phaseFace.report (fun _ _ => rfl) s code cls src o m

/-- The test of R202 marks the pier, whatever it reports. -/
theorem shortTest_face (s : State) (n : Nat) (q : Pier) :
    ∃ b, (s.shortTest n q).phaseFace = (s.modPier n (fun x => { x with short := b })).phaseFace := by
  unfold State.shortTest
  extract_lets bad u
  refine ⟨bad, ?_⟩
  split
  · exact phaseFace_report u _ _ _ _ _
  · rfl

/-- A held pier is reported as none. -/
theorem shortTest_of_held (s : State) (n : Nat) {q : Pier} (h : q.held = true) :
    s.shortTest n q = s.modPier n (fun x => { x with short := false }) := by
  simp [State.shortTest, h]

/-! ### One evaluation -/

/-- An evaluation made again takes back the events of the first one. -/
def State.evtBack (s : State) (n : Nat) : State :=
  if (s.pier n).done then s.setReg (Reg.PHS_PIER_EVT n) (mclr (s.reg (Reg.PHS_PIER_EVT n)) (mset (s.decided n).evtSet 5 false)) else s

/-- The decisions of an evaluation from those in force, with its events (R171, R174, R178). -/
def State.decisions (s : State) (n : Nat) (q : Pier) : Pier × PhsEvt :=
  if s.heldNow n then (s.holdPier n q, {})
  else if q.held then (s.restartPier n q, {})
  else s.runPier n q

/-- What is decided for the next period changes. -/
def State.modDecided (s : State) (n : Nat) (f : Pier → Pier) : State := { s with phs := { s.phs with nxt := updAt s.phs.nxt n f } }

/-- The evaluation up to what it shows. -/
def State.displayed (s : State) (n : Nat) : State :=
  let r := (s.evtBack n).decisions n (s.pier n)
  ((s.evtBack n).modDecided n (fun _ => r.1)).showPier n r.1 r.2

/-- The evaluation before the test of R202. -/
def State.evaluated (s : State) (n : Nat) : State :=
  let u := (s.displayed n).modPier n (fun q => { q with done := true })
  u.modDecided n (fun q => { q with evtSet := mclr (u.reg (Reg.PHS_PIER_EVT n)) ((s.evtBack n).reg (Reg.PHS_PIER_EVT n)) })

/-- What an evaluation decides. -/
def State.decision (s : State) (n : Nat) : Pier := ((s.evtBack n).decisions n (s.pier n)).1

theorem displayed_eq (s : State) (n : Nat) : s.displayed n =
    ((s.evtBack n).modDecided n (fun _ => s.decision n)).showPier n (s.decision n) ((s.evtBack n).decisions n (s.pier n)).2 := (rfl)

theorem evaluate_eq (s : State) (n : Nat) : s.evaluate n = (s.evaluated n).shortTest n (s.decision n) := (rfl)

theorem PhaseOnly.modDecided (s : State) (n : Nat) (f : Pier → Pier) : PhaseOnly s (s.modDecided n f) :=
  ⟨rfl, fun _ _ => rfl, rfl, length_updAt ..⟩

theorem PhaseOnly.evtBack (s : State) (n : Fin 12) : PhaseOnly s (s.evtBack n) :=
  ite _ (setReg s _ (isShown_pier n (Fld.PHS_PIER_EVT_CAP_CHG n) (by simp [evtFields]))) (refl s)

theorem PhaseOnly.displayed (s : State) (n : Fin 12) : PhaseOnly s (s.displayed n) :=
  (evtBack s n).trans ((modDecided _ n _).trans (showPier _ n _ _))

theorem PhaseOnly.evaluated (s : State) (n : Fin 12) : PhaseOnly s (s.evaluated n) :=
  (displayed s n).trans ((modPier _ n _).trans (modDecided _ n _))

@[simp] theorem get_modPier (s : State) (n : Nat) (f : Pier → Pier) (g : FieldRef) : (s.modPier n f).get g = s.get g := (rfl)

@[simp] theorem reg_modPier (s : State) (n : Nat) (f : Pier → Pier) (a : Nat) : (s.modPier n f).reg a = s.reg a := (rfl)

@[simp] theorem get_modDecided (s : State) (n : Nat) (f : Pier → Pier) (g : FieldRef) : (s.modDecided n f).get g = s.get g := (rfl)

theorem evaluate_face (s : State) (n : Nat) :
    ∃ b, (s.evaluate n).phaseFace = ((s.evaluated n).modPier n (fun x => { x with short := b })).phaseFace :=
  shortTest_face _ n _

/-- An evaluation that holds the pier raises no fault. -/
theorem PhaseOnly.evaluate_of_held (s : State) (n : Fin 12) (h : (s.decision n).held = true) : PhaseOnly s (s.evaluate n) := by
  rw [evaluate_eq, shortTest_of_held _ n h]
  exact (evaluated s n).trans (modPier _ n _)

theorem evtBack_phs (s : State) (n : Nat) : (s.evtBack n).phs = s.phs := by
  unfold State.evtBack
  split
  · rfl
  · rfl

theorem capShown_phs (s : State) (n : Nat) (q : Pier) : (s.capShown n q).phs = s.phs := by
  rw [State.capShown, putS_phs]
  split
  · rfl
  · rfl

theorem raise_phs (s : State) (f : FieldRef) (b : Bool) : (s.raise f b).phs = s.phs := by
  unfold State.raise
  split
  · rfl
  · rfl

theorem showPier_phs (s : State) (n : Nat) (q : Pier) (e : PhsEvt) : (s.showPier n q e).phs = s.phs := by
  have puts (t : State) (l : List (FieldRef × Nat)) : (t.puts l).phs = t.phs := foldl_keeps State.phs l t _ fun _ _ _ => rfl
  rw [showPier_eq, State.evtShown, raise_phs, raise_phs, raise_phs, raise_phs, raise_phs, puts, capShown_phs]

theorem decided_modDecided (s : State) {n : Nat} (f : Pier → Pier) (h : n < s.phs.nxt.length) :
    (s.modDecided n f).decided n = f (s.decided n) := nth_updAt_same ({} : Pier) f h

theorem pier_modDecided (s : State) (n m : Nat) (f : Pier → Pier) : (s.modDecided n f).pier m = s.pier m := (rfl)

theorem pier_of_phs {s t : State} (h : t.phs = s.phs) (n : Nat) : t.pier n = s.pier n := by rw [State.pier, State.pier, h]

theorem decided_of_phs {s t : State} (h : t.phs = s.phs) (n : Nat) : t.decided n = s.decided n := by rw [State.decided, State.decided, h]

/-- Decisions as an evaluation leaves them: with the events that it set and the mark of R202. -/
def Pier.marked (q : Pier) (events : Nat) (short : Bool) : Pier := { q with done := true, evtSet := events, short := short }

@[simp] theorem marked_ph (q : Pier) (x : Nat) (b : Bool) (p : Nat) : (q.marked x b).ph p = q.ph p := (rfl)
@[simp] theorem marked_held (q : Pier) (x : Nat) (b : Bool) : (q.marked x b).held = q.held := (rfl)
@[simp] theorem marked_holdoff (q : Pier) (x : Nat) (b : Bool) : (q.marked x b).holdoff = q.holdoff := (rfl)
@[simp] theorem availOf_marked (s : State) (n : Nat) (q : Pier) (x : Nat) (b : Bool) : s.availOf n (q.marked x b) = s.availOf n q := (rfl)

theorem displayed_pier (s : State) (n : Nat) : (s.displayed n).pier n = s.pier n :=
  (pier_of_phs (showPier_phs _ n _ _) n).trans (pier_of_phs (evtBack_phs s n) n)

section
variable {s : State} (hs : s.phs.cur.length = 12 ∧ s.phs.nxt.length = 12)
include hs

theorem displayed_decided (n : Fin 12) : (s.displayed n).decided n = s.decision n := by
  have hn : n.val < (s.evtBack n).phs.nxt.length := by rw [evtBack_phs, hs.2]; exact n.isLt
  exact (decided_of_phs (showPier_phs _ n _ _) n).trans (decided_modDecided _ _ hn)

theorem evaluated_pier (n : Fin 12) : (s.evaluated n).pier n = { s.pier n with done := true } := by
  have hn : n.val < (s.displayed n).phs.cur.length := by rw [(PhaseOnly.displayed s n).cur, hs.1]; exact n.isLt
  rw [State.evaluated, pier_modDecided, pier_modPier _ _ hn, displayed_pier]

theorem evaluated_decided (n : Fin 12) : ∃ x, (s.evaluated n).decided n = { s.decision n with done := true, evtSet := x } := by
  have hn : n.val < (s.displayed n).phs.nxt.length := by rw [(PhaseOnly.displayed s n).nxt, hs.2]; exact n.isLt
  refine ⟨_, (decided_modDecided _ _ ?_).trans (by rw [decided_modPier _ _ hn, displayed_decided hs])⟩
  rw [(PhaseOnly.modPier _ n _).nxt]
  exact hn

/-- The decisions in force keep all but the mark of the evaluation and of R202. -/
theorem evaluate_pier (n : Fin 12) : ∃ b, (s.evaluate n).pier n = { s.pier n with done := true, short := b } := by
  obtain ⟨b, hface⟩ := evaluate_face s n
  refine ⟨b, (pier_of_phs (congrArg Prod.fst hface) n).trans ((pier_modPier _ _ ?_).trans (by rw [evaluated_pier hs]))⟩
  rw [(PhaseOnly.evaluated s n).cur, hs.1]
  exact n.isLt

/-- What was decided is in the records of the next period. -/
theorem evaluate_decided (n : Fin 12) : ∃ x b, (s.evaluate n).decided n = (s.decision n).marked x b := by
  obtain ⟨b, hface⟩ := evaluate_face s n
  obtain ⟨x, hx⟩ := evaluated_decided hs n
  refine ⟨x, b, (decided_of_phs (congrArg Prod.fst hface) n).trans ((decided_modPier _ _ ?_).trans (by rw [hx, Pier.marked]))⟩
  rw [(PhaseOnly.evaluated s n).nxt, hs.2]
  exact n.isLt

end

/-- Registers of phase control after an evaluation are what it shows. -/
theorem evaluate_get (s : State) (n : Nat) {f : FieldRef} (hf : f.addr / 0x10000 = 0x4005) : (s.evaluate n).get f = (s.displayed n).get f := by
  obtain ⟨b, hface⟩ := evaluate_face s n
  rw [get_of_face hface hf, get_modPier, State.evaluated, get_modDecided, get_modPier]

/-- The decision is that of the decisions in force, held as R171 has it now. -/
theorem decision_held (s : State) (n : Fin 12) : (s.decision n).held = s.heldNow n := by
  unfold State.decision State.decisions
  rw [(PhaseOnly.evtBack s n).heldNow]
  split
  next h => exact (holdPier_shows (s.evtBack n) n (s.pier n)).1.trans h.symm
  next h =>
    split
    · exact (restartPier_held (s.evtBack n) n (s.pier n)).trans (Bool.eq_false_of_not_eq_true h).symm
    next hq => exact (runPier_held (s.evtBack n) n (s.pier n)).trans ((Bool.eq_false_of_not_eq_true hq).trans (Bool.eq_false_of_not_eq_true h).symm)

/-- What the registers of pier n show, where its decisions are q and `avail` of its phases are available. -/
def State.Shows (t : State) (n : Nat) (q : Pier) (avail : Nat) : Prop :=
  (∀ p : Fin 32, (t.get (Fld.PHS_PIER_SVC_SVC n)).testBit p = (q.ph p).st.svc ∧
    (t.get (Fld.PHS_PIER_RAMP_RAMP n)).testBit p = decide ((q.ph p).st = .ramp) ∧
    (t.get (Fld.PHS_PIER_THERM_HOT n)).testBit p = decide ((q.ph p).st = .hot) ∧
    (t.get (Fld.PHS_PIER_DEM_DEM n)).testBit p = (q.ph p).de) ∧
  t.get (Fld.PHS_PIER_STAT_N_SVC n) = ((List.range 32).filter (fun p => (q.ph p).st.svc)).length ∧
  t.get (Fld.PHS_PIER_STAT_N_AVAIL n) = avail ∧
  t.get (Fld.PHS_PIER_STAT_LEAD n) = q.lead % 32 ∧ t.bit (Fld.PHS_PIER_STAT_GLIDE n) = decide (q.glideLeft ≠ 0) ∧
  t.bit (Fld.PHS_PIER_STAT_HOLDOFF n) = decide (q.holdoff ≠ 0)

theorem shows_marked (t : State) (n : Nat) (q : Pier) (x : Nat) (b : Bool) (avail : Nat) : t.Shows n (q.marked x b) avail ↔ t.Shows n q avail := Iff.rfl

theorem length_filter_range_lt (c : Nat → Bool) : ((List.range 32).filter c).length < 2 ^ 6 :=
  Nat.lt_of_le_of_lt (List.length_filter_le _ _) (by simp)

theorem shows_of_gets {t : State} {n : Nat} {q : Pier} {avail : Nat} (ha : avail < 2 ^ 6)
    (h : ∀ x ∈ pierShown n q avail, t.get x.1 = x.2 % 2 ^ x.1.w) : t.Shows n q avail := by
  simp only [pierShown, List.forall_mem_cons] at h
  obtain ⟨hnsvc, havail, hlead, hglide, -, hhold, hsvc, hdem, hramp, hhot, -⟩ := h
  have hflag {f : FieldRef} {b : Bool} (hf : t.get f = flagOf b % 2 ^ 1) : t.bit f = b := by
    rw [State.bit, hf]
    cases b <;> rfl
  have hbeq (a b : PhState) : (a == b) = decide (a = b) := rfl
  refine ⟨fun p => ⟨?_, ?_, ?_, ?_⟩, hnsvc.trans (Nat.mod_eq_of_lt (length_filter_range_lt _)), havail.trans (Nat.mod_eq_of_lt ha), hlead,
    hflag hglide, hflag hhold⟩
  · rw [hsvc]
    exact testBit_maskOf_filter _ p
  · rw [hramp]
    exact testBit_maskOf_filter _ p
  · rw [hhot]
    exact testBit_maskOf_filter _ p
  · rw [hdem]
    exact testBit_maskOf_filter _ p

/-- After an evaluation the registers show what is decided. -/
theorem evaluate_shows (s : State) (n : Fin 12) : (s.evaluate n).Shows n (s.decision n) (s.availOf n (s.decision n)).length := by
  refine shows_of_gets (length_filter_range_lt _) fun x hx => ?_
  have hblock : ∀ n : Fin 12, ∀ f ∈ shownFields n, f.addr / 0x10000 = 0x4005 := by decide
  have hx' : x ∈ pierShown n (s.decision n) (((s.evtBack n).modDecided n (fun _ => s.decision n)).availOf n (s.decision n)).length := by
    rw [((PhaseOnly.evtBack s n).trans (PhaseOnly.modDecided _ n _)).availOf]
    exact hx
  have hmem : x.1 ∈ shownFields n := by
    rw [← pierShown_fields n (s.decision n) (s.availOf n (s.decision n)).length]
    exact List.mem_map_of_mem hx
  rw [evaluate_get s n (hblock n _ hmem), displayed_eq]
  exact showPier_get _ n _ _ x hx'

end Sys2Proof.Machine

/-! SUPPORT for O21. The detections of R196 and the timers of a pier. -/

namespace Sys2Proof.Machine

/-! ### Detections -/

/-- A detection that the pier's evaluation is to act on. -/
def State.given (s : State) (n p cause : Nat) : State :=
  { s with phs := { s.phs with cur := updAt s.phs.cur n (fun c => c.mod p (fun ph => { ph with pend := if ph.pend = 3 then 3 else cause })) } }

/-- What a detection asks of a phase that it acts on (R171, R196, R811). -/
structure State.Detects (s : State) (n p cause : Nat) : Prop where
  usable : s.usable n p = true
  running : (s.pier n).held = false ∧ s.heldNow n = false
  up : (s.pierUp n).isSome = true
  svc : ((s.pier n).ph p).st.svc = true
  cause : cause = 3 ∨ cause = 1 ∧ ((s.pier n).ph p).de = false

theorem given_pier {s : State} (hs : s.shaped = true) (n : Fin 12) (p cause : Nat) : (s.given n p cause).pier n =
    (s.pier n).mod p (fun ph => { ph with pend := if ph.pend = 3 then 3 else cause }) :=
  nth_updAt_same ({} : Pier) _ (by rw [(piers_of_shaped hs).1]; exact n.isLt)

section
variable {s : State} {n : Fin 12} {p : Fin 32} {cause : Nat} (hs : s.shaped = true) (h : s.Detects n p cause)
include h

theorem detect_eq : s.detect n p cause = (s.given n p cause).reevaluate n := by
  obtain ⟨hu, ⟨hh, hn⟩, hf, hsvc, hc⟩ := h
  have hup : (s.pierUp n).isNone = false := by
    rw [← Option.not_isSome, hf]
    rfl
  refine if_neg ?_
  rcases hc with rfl | ⟨rfl, hde⟩
  · simp [hu, hh, hn, hup, hsvc]
  · simp [hu, hh, hn, hup, hsvc, hde]

include hs

theorem given_ph : (((s.given n p cause).pier n).ph p) =
    { (s.pier n).ph p with pend := if ((s.pier n).ph p).pend = 3 then 3 else cause } := by
  rw [given_pier hs, ph_mod_same _ _ (lt_length_of_svc h.svc)]

theorem detect_before (hd : (s.pier n).done = false) : s.detect n p cause = s.given n p cause := by
  rw [detect_eq h, State.reevaluate, given_pier hs]
  exact if_neg (by simp [Pier.mod, hd])

theorem detect_after (hd : (s.pier n).done = true) : s.detect n p cause = (s.given n p cause).evaluate n := by
  rw [detect_eq h, State.reevaluate, given_pier hs]
  exact if_pos hd

/-- The evaluation that a detection is given to removes the phase. -/
theorem given_decision : (((s.given n p cause).decision n).ph p).Gone := by
  have hg : PhaseOnly s (s.given n p cause) := ⟨rfl, fun _ _ => rfl, length_updAt .., rfl⟩
  have hb := hg.trans (PhaseOnly.evtBack (s.given n p cause) n)
  have hph := given_ph hs h
  have hheld : ((s.given n p cause).pier n).held = false := by
    rw [given_pier hs]
    exact h.running.1
  unfold State.decision State.decisions
  rw [hb.heldNow, h.running.2, hheld]
  refine runPier_gone (by rw [hb.pierUp]; exact h.up) p.isLt (by rw [hb.usable]; exact h.usable) ?_ ?_
  · rw [hph]
    exact h.svc
  · rw [hph]
    dsimp only
    split
    · exact .inr rfl
    · exact h.cause.symm.imp_left And.left

/-- Where the evaluation was done, it is made again: the phase is FAULTED and out of SVC. -/
theorem detect_removes (hd : (s.pier n).done = true) :
    (((s.detect n p cause).decided n).ph p).Gone ∧ ((s.detect n p cause).get (Fld.PHS_PIER_SVC_SVC n)).testBit p = false := by
  have hgone := given_decision hs h
  have hlen : (s.given n p cause).phs.cur.length = 12 ∧ (s.given n p cause).phs.nxt.length = 12 := by
    obtain ⟨hc, hn⟩ := piers_of_shaped hs
    exact ⟨(length_updAt ..).trans hc, hn⟩
  obtain ⟨x, b, hdec⟩ := evaluate_decided hlen n
  rw [detect_after hs h hd]
  refine ⟨?_, ?_⟩
  · rw [hdec, marked_ph]
    exact hgone
  · obtain ⟨hshown, -⟩ := evaluate_shows (s.given n p cause) n
    rw [(hshown p).1, hgone.1]
    rfl

end

/-- A phase without a report for 64 periods counts as at TEMP_MAX (R200). -/
theorem thetaOf_of_old (s : State) (n p : Nat) {ph : Phase} (h : ph.theta = none ∨ 64 ≤ ph.age) : s.thetaOf n p ph = s.tMax n p := by
  unfold State.thetaOf
  split
  next t ht =>
    rcases h with h | h
    · rw [h] at ht
      cases ht
    · exact if_neg (by omega)
  next => rfl

theorem phase_modPhase (s : State) {n : Nat} (p : Nat) (f : Phase → Phase) (hn : n < s.phs.cur.length) :
    (s.modPhase n p f).phase n p = if p < (s.pier n).phases.length then f (s.phase n p) else {} := by
  rw [State.phase, State.modPhase, pier_modPier s _ hn]
  split
  next h => exact nth_updAt_same ({} : Phase) f h
  next h => exact nth_of_le _ (by simpa using h)

/-- Settles O21: the detections by what an evaluation makes of one, each timer by its own update. -/
theorem phaseDetectionsAndTimersAct : Obligations.PhaseDetectionsAndTimersAct := by
  unfold Obligations.PhaseDetectionsAndTimersAct
  intro s n hs
  obtain ⟨hcur, hnxt⟩ := piers_of_shaped hs
  have hc : n.val < s.phs.cur.length := by rw [hcur]; exact n.isLt
  have hn : n.val < s.phs.nxt.length := by rw [hnxt]; exact n.isLt
  have mem {i : Instr} {t : State} (h : exec i s = .next t) := memoryChangesOnlyByItsWriters i s t h
  refine ⟨fun p hu hheld hnow hup hsvc => ?_, ?_, ?_, ?_, fun p => ?_⟩
  · have h1 (hde : ((s.pier n).ph p).de = false) : s.Detects n p 1 := ⟨hu, ⟨hheld, hnow⟩, hup, hsvc, .inr ⟨rfl, hde⟩⟩
    have h3 : s.Detects n p 3 := ⟨hu, ⟨hheld, hnow⟩, hup, hsvc, .inl rfl⟩
    have x1 : exec (.openPhaseDetect n p) s = .next (s.detect n p 1) := rfl
    have x3 : exec (.stuckSenseDetect n p) s = .next (s.detect n p 3) := rfl
    refine ⟨fun hd => ⟨fun hde => ⟨_, x1, ?_, ?_, mem x1⟩, ⟨_, x3, ?_, ?_, mem x3⟩⟩, fun hd => ⟨fun hde => ?_, ?_⟩⟩
    · rw [detect_before hs (h1 hde) hd, given_ph hs (h1 hde)]
    · rw [detect_before hs (h1 hde) hd]
      rfl
    · rw [detect_before hs h3 hd, given_ph hs h3]
      exact ite_self 3
    · rw [detect_before hs h3 hd]
      rfl
    · obtain ⟨⟨hst, hpend⟩, hbit⟩ := detect_removes hs (h1 hde) hd
      exact ⟨_, x1, hst, hpend, hbit, mem x1⟩
    · obtain ⟨⟨hst, hpend⟩, hbit⟩ := detect_removes hs h3 hd
      exact ⟨_, x3, hst, hpend, hbit, mem x3⟩
  · have hx : exec (.holdoffEnd n) s = .next ((s.modPier n (fun q => { q with holdoff := 0 })).putB (Fld.PHS_PIER_STAT_HOLDOFF n) false) := rfl
    have hapart : ∀ n : Fin 12, (Fld.PHS_PIER_STAT_HOLDOFF n).apart (Fld.PHS_PIER_STAT_N_SVC n) = true := by decide
    refine ⟨_, hx, ?_, ?_, ?_, ?_, ?_, mem hx⟩
    · exact congrArg Pier.holdoff (pier_modPier s _ hc)
    · exact congrArg Pier.holdoff (decided_modPier s _ hn)
    · exact bit_putB_same _ _ false (by simp only [Fld.PHS_PIER_STAT_HOLDOFF]; decide) Nat.one_pos
    · exact get_put_apart _ _ (hapart n)
    · exact SameRegs.put (s.modPier n _) (Fld.PHS_PIER_STAT_HOLDOFF n) _
  · have hx : exec (.dwellEnd n) s = .next (s.modPier n (fun q => { q with dwell := 0 })) := rfl
    exact ⟨_, hx, congrArg Pier.dwell (pier_modPier s _ hc), congrArg Pier.dwell (decided_modPier s _ hn), rfl, mem hx⟩
  · have hx : exec (.rotationIntervalExpiry n) s = .next (if s.bit (Fld.PHS_PIER_CTRL_ROT_EN n) && s.get Fld.PHS_ROT_INTERVAL != 0 then
        s.modPier n (fun q => { q with rotDue := true }) else s) := rfl
    refine ⟨_, hx, ?_, mem hx, ?_⟩
    · split
      · rfl
      · rfl
    · split
      next h => rw [pier_modPier s _ hc, h, Bool.or_true]
      next h => rw [Bool.eq_false_of_not_eq_true h, Bool.or_false]
  · have hx : exec (.tempReportTimeout n p) s = .next (s.modPhase n p (fun ph => { ph with age := 64 })) := rfl
    refine ⟨_, hx, rfl, mem hx, (thetaOf_of_old _ n p ?_).trans (congrArg (toS _) (cfg_congr rfl _ _ _))⟩
    rw [phase_modPhase s p _ hc]
    split
    · exact .inr (Nat.le_refl 64)
    · exact .inl rfl

end Sys2Proof.Machine

/-! SUPPORT for O22. The registers whose writes phase control watches. -/

namespace Sys2Proof.Machine

/-- A write that takes effect whole in phase control's block is that block's. -/
theorem wr_phs {s : State} {m : Master} {a : Nat} (v : Word) (h : s.takes m a = true) (ha : a / 0x10000 = 0x4005) :
    s.wr m a v = s.writePhs a v.toNat := by
  have hb : blockOf a = some .reg := (blockOf_eq_reg_iff a).2 (by omega)
  rw [wr_of_takes v h hb (by omega)]
  unfold State.writeReg
  rw [ha]
  rfl

/-- The block's registers that are not plain. -/
theorem writePhs_watched (s : State) (n : Fin 12) (v : Nat) : s.writePhs (Reg.PHS_PIER_CTRL n) v = s.wrPhsCtrl n v ∧
    s.writePhs (Reg.PHS_PIER_SHED n) v = s.wrPhsShed n v ∧ s.writePhs (Reg.PHS_PIER_FAULT n) v = s.wrPhsFault n v ∧
    s.writePhs Reg.PHS_TLM v = s.wrPhsTlm v := by
  fin_cases n <;> exact ⟨rfl, rfl, rfl, rfl⟩

/-- Their rows in the register tables. -/
theorem findReg_phs (n : Fin 12) :
    findReg (Reg.PHS_PIER_CTRL n) = some ⟨"PHS_PIERn_CTRL", 0x40050000, [(12, 0x1000)],
      [⟨4, 1, .rw, 0, true⟩, ⟨3, 1, .rw, 0, true⟩, ⟨2, 1, .rw, 0, true⟩, ⟨1, 1, .rw, 0, false⟩, ⟨0, 1, .rw, 0, false⟩]⟩ ∧
    findReg (Reg.PHS_PIER_SHED n) = some ⟨"PHS_PIERn_SHED", 0x40050008, [(12, 0x1000)],
      [⟨24, 8, .rw, 0, true⟩, ⟨16, 8, .rw, 0, true⟩, ⟨8, 8, .rw, 0, true⟩, ⟨0, 6, .rw, 0, true⟩]⟩ ∧
    findReg (Reg.PHS_PIER_FAULT n) = some ⟨"PHS_PIERn_FAULT", 0x4005002c, [(12, 0x1000)], [⟨0, 32, .w1c, 0, false⟩]⟩ ∧
    findReg Reg.PHS_TLM = some ⟨"PHS_TLM", 0x4005c004, [], [⟨0, 4, .rw, 0, false⟩]⟩ := by
  revert n; decide +kernel

theorem phs_ne_imgstat {a : Nat} (h : a / 0x10000 = 0x4005) : a ≠ Reg.PYL_IMGSTAT := fun e => by
  rw [e] at h
  exact absurd h (by decide)

theorem sameRegs_writeByCode (s : State) (a v : Nat) : SameRegs s (s.writeByCode a v) [a] :=
  fun b hb => reg_writeByCode_ne s v (by simpa using hb)

theorem writeByCode_phs (s : State) (a v : Nat) : (s.writeByCode a v).phs = s.phs := by rw [onlyRegs_writeByCode s a v]

theorem testBit_reg (s : State) (a i : Nat) : (s.reg a).testBit i = s.bit ⟨a, i, 1⟩ := (fieldOf_bit (s.reg a) i).symm

/-! ### CTRL, SHED and TLM -/

/-- SHED_EN 0 is noted for the next evaluation (R187). -/
theorem wrPhsCtrl_shows {s : State} (hs : s.shaped = true) (n : Fin 12) (v : Nat) :
    (∀ b : Fin 5, ((s.wrPhsCtrl n v).reg (Reg.PHS_PIER_CTRL n)).testBit b = v.testBit b) ∧
    (v.testBit 1 = false → ((s.wrPhsCtrl n v).pier n).shedOff = true) ∧ SameRegs s (s.wrPhsCtrl n v) [Reg.PHS_PIER_CTRL n] := by
  obtain ⟨hrow, -⟩ := findReg_phs n
  have hblock : Reg.PHS_PIER_CTRL n / 0x10000 = 0x4005 := by revert n; decide
  have hreg (a : Nat) : (s.wrPhsCtrl n v).reg a = (s.writeByCode (Reg.PHS_PIER_CTRL n) v).reg a := by
    unfold State.wrPhsCtrl
    dsimp only
    split
    · rfl
    · rfl
  have hfield := get_writeByCode s v hrow (phs_ne_imgstat hblock)
  refine ⟨fun b => ?_, fun h => ?_, fun a ha => (hreg a).trans (sameRegs_writeByCode s _ v a ha)⟩
  · rw [hreg, testBit_reg, ← fieldOf_bit]
    refine congrArg (· != 0) ?_
    exact hfield ⟨b, 1, .rw, 0, decide (1 < b.val)⟩ (by revert b; decide)
  · have h0 : v / 2 % 2 = 0 := by simpa [Nat.testBit_succ] using h
    unfold State.wrPhsCtrl
    rw [if_pos h0, pier_modPier _ _ (by rw [writeByCode_phs, (piers_of_shaped hs).1]; exact n.isLt)]

/-- The four fields of SHED (R188). -/
theorem wrPhsShed_shows {s : State} (n : Fin 12) {v : Nat} (h : v / 2 ^ 24 % 256 < v / 2 ^ 16 % 256) (h0 : v % 64 ≠ 0) :
    (s.wrPhsShed n v).get (Fld.PHS_PIER_SHED_SHED_FRAC n) = v / 2 ^ 24 % 256 ∧
    (s.wrPhsShed n v).get (Fld.PHS_PIER_SHED_ADMIT_FRAC n) = v / 2 ^ 16 % 256 ∧
    (s.wrPhsShed n v).get (Fld.PHS_PIER_SHED_SHED_RAMP n) = v / 2 ^ 8 % 256 ∧
    (s.wrPhsShed n v).get (Fld.PHS_PIER_SHED_N_MIN n) = v % 64 ∧ SameRegs s (s.wrPhsShed n v) [Reg.PHS_PIER_SHED n] := by
  obtain ⟨-, hrow, -⟩ := findReg_phs n
  have hblock : Reg.PHS_PIER_SHED n / 0x10000 = 0x4005 := by revert n; decide
  have hfield := get_writeByCode s v hrow (phs_ne_imgstat hblock)
  simp only [List.forall_mem_cons] at hfield
  obtain ⟨hshed, hadmit, hramp, hmin, -⟩ := hfield
  rw [State.wrPhsShed, if_neg (by omega)]
  exact ⟨hshed, hadmit, hramp, hmin.trans (by simp [FieldDesc.after, fieldOf]), sameRegs_writeByCode s _ v⟩

/-- The windows in progress of a pier are discarded (R208). -/
def Pier.discard (q : Pier) : Pier := { q with tlmCnt := 0, tlmSkip := !q.done, phases := q.phases.map (fun ph => { ph with tlm := [] }) }

theorem wrPhsTlm_eq (s : State) (v : Nat) :
    s.wrPhsTlm v = forEach (List.range 12) (s.writeByCode Reg.PHS_TLM v) (fun s n => s.modPier n Pier.discard) := (rfl)

theorem wrPhsTlm_shows (s : State) (v : Nat) : (s.wrPhsTlm v).get Fld.PHS_TLM_AVG_EXP = v % 2 ^ Fld.PHS_TLM_AVG_EXP.w ∧
    SameRegs s (s.wrPhsTlm v) [Reg.PHS_TLM] := by
  obtain ⟨-, -, -, hrow⟩ := findReg_phs 0
  have hreg (a : Nat) : (s.wrPhsTlm v).reg a = (s.writeByCode Reg.PHS_TLM v).reg a :=
    forEach_keeps (fun t => t.reg a) _ _ _ fun _ _ _ => rfl
  have hfield := get_writeByCode s v hrow (by decide) ⟨0, 4, .rw, 0, false⟩ (by decide)
  refine ⟨?_, fun a ha => (hreg a).trans (sameRegs_writeByCode s _ v a ha)⟩
  refine Eq.trans ?_ (hfield.trans ?_)
  · rw [State.get, hreg]
    rfl
  · simp [FieldDesc.after, fieldOf, Fld.PHS_TLM_AVG_EXP]

theorem discard_ph (q : Pier) (p : Nat) : (q.discard.ph p).tlm = [] := by
  by_cases h : p < q.phases.length
  · simp [Pier.discard, Pier.ph, nth, h]
  · exact congrArg Phase.tlm (nth_of_le _ (by simpa [Pier.discard] using h))

/-- No pier keeps a window. -/
theorem wrPhsTlm_pier {s : State} (hs : s.shaped = true) (v : Nat) (n : Fin 12) :
    ((s.wrPhsTlm v).pier n).tlmCnt = 0 ∧ ∀ p : Nat, (((s.wrPhsTlm v).pier n).ph p).tlm = [] := by
  rw [wrPhsTlm_eq]
  refine foldl_reaches (A := fun t : State => n.val < t.phs.cur.length)
    (B := fun t : State => (t.pier n).tlmCnt = 0 ∧ ∀ p : Nat, ((t.pier n).ph p).tlm = []) (List.mem_range.2 n.isLt) List.nodup_range
    (fun t x _ h => (length_updAt t.phs.cur x _).symm ▸ h) (fun t h => ?_) (fun t x hx h => ?_) ?_
  · rw [pier_modPier t _ h]
    exact ⟨rfl, discard_ph _⟩
  · have hne : (t.modPier x Pier.discard).pier n = t.pier n := nth_updAt_ne ({} : Pier) _ _ hx.symm
    rw [hne]
    exact h
  · rw [writeByCode_phs, (piers_of_shaped hs).1]
    exact n.isLt

/-! ### FAULT -/

/-- The phases of a mask stay OFF for one more period (R198). -/
def Pier.clear (q : Pier) (mask : Nat) : Pier :=
  { q with phases := (List.range 32).map (fun p => if mask.testBit p then { (q.ph p) with clearing := 2 } else q.ph p) }

/-- The write of FAULT before the pier's evaluation is made again. -/
def State.faultsCleared (s : State) (n v : Nat) : State :=
  (s.writeByCode (Reg.PHS_PIER_FAULT n) v).modPier n (fun q => q.clear (s.get (Fld.PHS_PIER_FAULT_FAULT n) &&& v))

theorem wrPhsFault_eq (s : State) (n v : Nat) : s.wrPhsFault n v = (s.faultsCleared n v).reevaluate n := (rfl)

/-- FAULT and the phases that it clears. -/
def State.FaultsClear (s t : State) (n v : Nat) : Prop :=
  ∀ p : Fin 32, (t.get (Fld.PHS_PIER_FAULT_FAULT n)).testBit p = ((s.get (Fld.PHS_PIER_FAULT_FAULT n)).testBit p && !v.testBit p) ∧
    ((s.get (Fld.PHS_PIER_FAULT_FAULT n)).testBit p = true → v.testBit p = true → (t.phase n p).clearing = 2)

theorem faultsCleared_shows {s : State} (hs : s.shaped = true) (n : Fin 12) (v : Nat) : s.FaultsClear (s.faultsCleared n v) n v ∧
    ((s.faultsCleared n v).pier n).done = (s.pier n).done ∧ SameRegs s (s.faultsCleared n v) [Reg.PHS_PIER_FAULT n] := by
  obtain ⟨-, -, hrow, -⟩ := findReg_phs n
  have hblock : Reg.PHS_PIER_FAULT n / 0x10000 = 0x4005 := by revert n; decide
  have hpier : (s.faultsCleared n v).pier n = (s.pier n).clear (s.get (Fld.PHS_PIER_FAULT_FAULT n) &&& v) := by
    rw [State.faultsCleared, pier_modPier _ _ (by rw [writeByCode_phs, (piers_of_shaped hs).1]; exact n.isLt), pier_of_phs (writeByCode_phs s _ v) n]
  have hget : (s.faultsCleared n v).get (Fld.PHS_PIER_FAULT_FAULT n) = mclr (s.get (Fld.PHS_PIER_FAULT_FAULT n)) (fieldOf v 0 32) :=
    get_writeByCode s v hrow (phs_ne_imgstat hblock) ⟨0, 32, .w1c, 0, false⟩ (by decide)
  refine ⟨fun p => ⟨?_, fun h h' => ?_⟩, ?_, sameRegs_writeByCode s _ v⟩
  · rw [hget, testBit_mclr, fieldOf, Nat.pow_zero, Nat.div_one, Nat.testBit_mod_two_pow]
    simp [p.isLt]
  · rw [State.phase, hpier]
    simp [Pier.clear, nth, p.isLt, h, h']
  · rw [hpier, Pier.clear]

/-- Where the pier's evaluation was done, it is made again, and leaves FAULT and the decisions in force. -/
theorem wrPhsFault_shows {s : State} (hs : s.shaped = true) (n : Fin 12) (v : Nat) : s.FaultsClear (s.wrPhsFault n v) n v ∧
    ((s.pier n).done = false → SameRegs s (s.wrPhsFault n v) [Reg.PHS_PIER_FAULT n]) := by
  obtain ⟨hclear, hdone, hregs⟩ := faultsCleared_shows hs n v
  rw [wrPhsFault_eq, State.reevaluate, hdone]
  cases hd : (s.pier n).done with
  | false => exact ⟨hclear, fun _ => hregs⟩
  | true =>
    refine ⟨fun p => ?_, fun h => absurd h (by decide)⟩
    have hfield : ∀ n : Fin 12, isShown (Fld.PHS_PIER_FAULT_FAULT n).addr = false ∧ (Fld.PHS_PIER_FAULT_FAULT n).addr / 0x10000 = 0x4005 := by
      decide
    have hlen : (s.faultsCleared n v).phs.cur.length = 12 ∧ (s.faultsCleared n v).phs.nxt.length = 12 := by
      obtain ⟨hc, hn⟩ := piers_of_shaped hs
      have hphs := writeByCode_phs s (Reg.PHS_PIER_FAULT n) v
      exact ⟨(length_updAt ..).trans (by rw [hphs, hc]), (length_updAt ..).trans (by rw [hphs, hn])⟩
    obtain ⟨b, hpier⟩ := evaluate_pier hlen n
    obtain ⟨hbit, hph⟩ := hclear p
    rw [if_pos rfl, evaluate_get _ n (hfield n).2, (PhaseOnly.displayed _ n).get (hfield n).1]
    refine ⟨hbit, fun h h' => ?_⟩
    rw [State.phase, hpier]
    exact hph h h'

/-- Settles O22, register by register. -/
theorem phaseWritesAct : Obligations.PhaseWritesAct := by
  unfold Obligations.PhaseWritesAct
  intro s m v hs
  have mem {i : Instr} {t : State} (h : exec i s = .next t) := memoryChangesOnlyByItsWriters i s t h
  have hblock : ∀ n : Fin 12, Reg.PHS_PIER_CTRL n / 0x10000 = 0x4005 ∧ Reg.PHS_PIER_SHED n / 0x10000 = 0x4005 ∧
      Reg.PHS_PIER_FAULT n / 0x10000 = 0x4005 := by decide
  have hshed : v.toNat / 2 ^ 24 % 256 = v.toNat / 2 ^ 24 := Nat.mod_eq_of_lt (by have := v.isLt; omega)
  refine ⟨fun n => ?_, fun ht => ?_⟩
  · obtain ⟨wctrl, wshed, wfault, -⟩ := writePhs_watched s n v.toNat
    obtain ⟨bctrl, bshed, bfault⟩ := hblock n
    refine ⟨fun ht => ?_, fun ht => ?_, fun ht => ?_⟩
    · have hx : exec (.shedDisable m n v) s = .next (s.wrPhsCtrl n v.toNat) :=
        congrArg Host.Outcome.next ((wr_phs v ht bctrl).trans wctrl)
      obtain ⟨hbits, hoff, hregs⟩ := wrPhsCtrl_shows hs n v.toNat
      exact ⟨_, hx, hbits, hoff, hregs, mem hx⟩
    · have hx : exec (.phsShedWrite m n v) s = .next (s.wrPhsShed n v.toNat) :=
        congrArg Host.Outcome.next ((wr_phs v ht bshed).trans wshed)
      refine ⟨fun h => ?_, fun h h0 => ?_⟩
      · rw [hx, State.wrPhsShed, hshed, if_pos h]
      · obtain ⟨h1, h2, h3, h4, hregs⟩ := wrPhsShed_shows (s := s) n (hshed.symm ▸ h) h0
        exact ⟨_, hx, h1.trans hshed, h2, h3, h4, hregs, mem hx⟩
    · have hx : exec (.phaseFaultClear m n v) s = .next (s.wrPhsFault n v.toNat) :=
        congrArg Host.Outcome.next ((wr_phs v ht bfault).trans wfault)
      obtain ⟨hclear, hregs⟩ := wrPhsFault_shows hs n v.toNat
      exact ⟨_, hx, hregs, mem hx, hclear⟩
  · have hx : exec (.avgExpWrite m v) s = .next (s.wrPhsTlm v.toNat) :=
      congrArg Host.Outcome.next ((wr_phs v ht (by decide)).trans (writePhs_watched s 0 v.toNat).2.2.2)
    obtain ⟨hexp, hregs⟩ := wrPhsTlm_shows s v.toNat
    refine ⟨_, hx, hexp, hregs, mem hx, fun n p => ?_⟩
    obtain ⟨hcnt, hph⟩ := wrPhsTlm_pier hs v.toNat n
    exact ⟨hcnt, hph p⟩

end Sys2Proof.Machine

/-! SUPPORT for O20. Telemetry, and the whole evaluation command. -/

namespace Sys2Proof.Machine

/-! ### The end of a window (R205) -/

/-- The end of a window for one phase. -/
def State.closePhase (s : State) (n p : Nat) : State :=
  let t := (s.phase n p).tlm
  let s := s.putS (Fld.PHS_PIER_PH_VAVG_V n p) (tlmAvg (nth (0, 0) t 0) 16)
  let s := s.putS (Fld.PHS_PIER_PH_IAVG_I n p) (tlmAvg (nth (0, 0) t 1) 16)
  let s := s.putS (Fld.PHS_PIER_PH_PAVG_P n p) (tlmAvg (nth (0, 0) t 2) 0)
  let s := s.putS (Fld.PHS_PIER_PH_TAVG_T n p) (tlmAvg (nth (0, 0) t 3) 16)
  s.modPhase n p (fun ph => { ph with tlm := [] })

/-- The end of a window for every phase, before TLMSEQ rises. -/
def State.closePhases (s : State) (n : Nat) : State := (List.range 32).foldl (fun s p => s.closePhase n p) s

/-- A window that starts anew. -/
def State.windowClosed (s : State) (n : Nat) : State := (s.closePhases n).modPier n (fun q => { q with tlmCnt := 0 })

theorem closeWindow_eq (s : State) (n : Nat) : s.closeWindow n =
    (s.windowClosed n).put (Fld.PHS_PIER_TLMSEQ_SEQ n) ((s.windowClosed n).get (Fld.PHS_PIER_TLMSEQ_SEQ n) + 1) := (rfl)

/-- An average as its register holds it. -/
def avgCode (x : Rat × Nat) (f : Nat) : Nat := ofS 32 (clampI (tlmAvg x f) (-(2 ^ 31 : Int)) (2 ^ 31 - 1))

/-- The averages of a phase whose sums are t. -/
def avgShown (n p : Nat) (t : List (Rat × Nat)) : List (FieldRef × Nat) :=
  [(Fld.PHS_PIER_PH_VAVG_V n p, avgCode (nth (0, 0) t 0) 16), (Fld.PHS_PIER_PH_IAVG_I n p, avgCode (nth (0, 0) t 1) 16),
    (Fld.PHS_PIER_PH_PAVG_P n p, avgCode (nth (0, 0) t 2) 0), (Fld.PHS_PIER_PH_TAVG_T n p, avgCode (nth (0, 0) t 3) 16)]

theorem closePhase_eq (s : State) (n p : Nat) : s.closePhase n p =
    (s.puts (avgShown n p (s.phase n p).tlm)).modPhase n p (fun ph => { ph with tlm := [] }) := (rfl)

theorem PhaseOnly.closePhase (s : State) (n : Fin 12) (p : Fin 32) : PhaseOnly s (s.closePhase n p) := by
  have h := isShown_tlm n p
  simp only [avgFields, List.cons_append, List.forall_mem_cons] at h
  obtain ⟨hv, hi, hp, ht, -⟩ := h
  exact (put s _ hv).trans ((put _ _ hi).trans ((put _ _ hp).trans ((put _ _ ht).trans (modPier _ n _))))

theorem PhaseOnly.closePhases (s : State) (n : Fin 12) : PhaseOnly s (s.closePhases n) :=
  foldl _ _ s fun t p hp => closePhase t n ⟨p, List.mem_range.1 hp⟩

theorem PhaseOnly.closeWindow (s : State) (n : Fin 12) : PhaseOnly s (s.closeWindow n) := by
  rw [closeWindow_eq]
  exact ((closePhases s n).trans (modPier _ n _)).trans (put _ _ (isShown_pier n _ (by simp)))

theorem avgShown_fields (n p : Nat) (t : List (Rat × Nat)) : (avgShown n p t).map Prod.fst = avgFields n p := (rfl)

theorem mem_avgFields {n p : Nat} {t : List (Rat × Nat)} {x : FieldRef × Nat} (h : x ∈ avgShown n p t) : x.1 ∈ avgFields n p := by
  rw [← avgShown_fields n p t]
  exact List.mem_map_of_mem h

theorem avgFields_apart (n : Fin 12) (p : Fin 32) : (avgFields n p).Pairwise (fun f g => g.apart f = true) ∧
    ∀ f ∈ avgFields n p, f.lo + f.w ≤ 32 ∧ f.addr ≠ (Fld.PHS_PIER_TLMSEQ_SEQ n).addr := by
  revert n p; decide +kernel

/-- The averages' registers of two phases differ. -/
theorem avgFields_addr_ne (n : Nat) {p x : Nat} (h : p ≠ x) : ∀ f ∈ avgFields n p, ∀ g ∈ avgFields n x, f.addr ≠ g.addr := by
  simp only [avgFields, List.forall_mem_cons, List.not_mem_nil, IsEmpty.forall_iff, implies_true, and_true, Fld.PHS_PIER_PH_VAVG_V,
    Fld.PHS_PIER_PH_IAVG_I, Fld.PHS_PIER_PH_PAVG_P, Fld.PHS_PIER_PH_TAVG_T, Reg.PHS_PIER_PH_VAVG, Reg.PHS_PIER_PH_IAVG, Reg.PHS_PIER_PH_PAVG,
    Reg.PHS_PIER_PH_TAVG]
  omega

theorem reg_puts_ne (s : State) {l : List (FieldRef × Nat)} {a : Nat} (h : ∀ x ∈ l, a ≠ x.1.addr) : (s.puts l).reg a = s.reg a :=
  foldl_keeps (fun t => t.reg a) l s _ fun t x hx => reg_put_ne t x.2 (h x hx)

theorem puts_phs (s : State) (l : List (FieldRef × Nat)) : (s.puts l).phs = s.phs := foldl_keeps State.phs l s _ fun _ _ _ => rfl

/-- An average without a value reads 0x8000_0000. -/
theorem avgCode_none (f : Nat) : avgCode (0, 0) f % 2 ^ 32 = 0x80000000 := by
  have h : tlmAvg (0, 0) f = -(2 ^ 31 : Int) := if_pos rfl
  rw [avgCode, h]
  decide

/-- What the end of a window leaves of a phase whose sums were t. -/
def State.Averaged (s : State) (n p : Nat) (t : List (Rat × Nat)) : Prop :=
  (s.phase n p).tlm = [] ∧ ∀ x ∈ avgShown n p t, s.get x.1 = x.2 % 2 ^ x.1.w

theorem phase_modPhase_ne (s : State) {n p x : Nat} (f : Phase → Phase) (hn : n < s.phs.cur.length) (h : p ≠ x) :
    (s.modPhase n x f).phase n p = s.phase n p := by
  rw [State.phase, State.modPhase, pier_modPier s _ hn]
  exact nth_updAt_ne ({} : Phase) _ f h

theorem pier_put (s : State) (f : FieldRef) (v n : Nat) : (s.put f v).pier n = s.pier n := (rfl)

theorem phase_put (s : State) (f : FieldRef) (v n p : Nat) : (s.put f v).phase n p = s.phase n p := (rfl)

theorem phase_modPier (s : State) {n : Nat} (p : Nat) (f : Pier → Pier) (hn : n < s.phs.cur.length) (hf : ∀ q, (f q).phases = q.phases) :
    (s.modPier n f).phase n p = s.phase n p := by rw [State.phase, pier_modPier s f hn, hf, State.phase]

theorem phase_of_phs {s t : State} (h : t.phs = s.phs) (n p : Nat) : t.phase n p = s.phase n p := by
  rw [State.phase, State.phase, pier_of_phs h]

theorem closePhase_reg (s : State) {n p a : Nat} (h : ∀ f ∈ avgFields n p, a ≠ f.addr) : (s.closePhase n p).reg a = s.reg a := by
  rw [closePhase_eq, State.modPhase, reg_modPier]
  exact reg_puts_ne s fun x hx => h x.1 (mem_avgFields hx)

theorem closePhase_averaged {s : State} (n : Fin 12) (p : Fin 32) (hn : n.val < s.phs.cur.length) :
    (s.closePhase n p).Averaged n p (s.phase n p).tlm := by
  obtain ⟨hd, hw⟩ := avgFields_apart n p
  rw [closePhase_eq]
  refine ⟨?_, fun x hx => ?_⟩
  · rw [phase_modPhase _ _ _ (by rw [puts_phs]; exact hn)]
    split
    · rfl
    · rfl
  · rw [State.modPhase, get_modPier]
    exact get_puts s (fun y hy => (hw y.1 (mem_avgFields hy)).1) (List.pairwise_map.1 ((avgShown_fields n p _).symm ▸ hd)) x hx

/-- The end of a window for one phase leaves the others. -/
theorem closePhase_others {s : State} (n p x : Nat) (hn : n < s.phs.cur.length) (h : p ≠ x) : (s.closePhase n x).phase n p = s.phase n p ∧
    ∀ f ∈ avgFields n p, (s.closePhase n x).get f = s.get f := by
  refine ⟨?_, fun f hf => ?_⟩
  · rw [closePhase_eq, phase_modPhase_ne _ _ (by rw [puts_phs]; exact hn) h, phase_of_phs (puts_phs s _)]
  · rw [State.get, State.get, closePhase_reg s fun g hg => avgFields_addr_ne n h f hf g hg]

theorem closePhases_averaged {s : State} (n : Fin 12) (hn : n.val < s.phs.cur.length) (p : Fin 32) :
    (s.closePhases n).Averaged n p (s.phase n p).tlm := by
  have hlen (t : State) (x : Nat) : (t.closePhase n x).phs.cur.length = t.phs.cur.length := by
    rw [closePhase_eq]
    exact (length_updAt ..).trans (by rw [puts_phs])
  have h := foldl_reaches (f := fun t x => t.closePhase n x)
    (A := fun t : State => n.val < t.phs.cur.length ∧ t.phase n p = s.phase n p)
    (B := fun t : State => n.val < t.phs.cur.length ∧ t.Averaged n p (s.phase n p).tlm)
    (List.mem_range.2 p.isLt) List.nodup_range (fun t x hx ⟨hl, hp⟩ => ?_) (fun t ⟨hl, hp⟩ => ?_) (fun t x hx ⟨hl, ht, hg⟩ => ?_) ⟨hn, rfl⟩
  · exact h.2
  · exact ⟨by rwa [hlen], (closePhase_others n p x hl hx.symm).1.trans hp⟩
  · exact ⟨by rwa [hlen], hp ▸ closePhase_averaged n p hl⟩
  · obtain ⟨hph, hget⟩ := closePhase_others n p x hl hx.symm
    exact ⟨by rwa [hlen], by rw [hph, ht], fun y hy => (hget y.1 (mem_avgFields hy)).trans (hg y hy)⟩

/-- The end of a window of pier n (R205). -/
theorem closeWindow_shows {s : State} (n : Fin 12) (hn : n.val < s.phs.cur.length) :
    (s.closeWindow n).get (Fld.PHS_PIER_TLMSEQ_SEQ n) = (s.get (Fld.PHS_PIER_TLMSEQ_SEQ n) + 1) % 2 ^ (Fld.PHS_PIER_TLMSEQ_SEQ n).w ∧
    ((s.closeWindow n).pier n).tlmCnt = 0 ∧ ∀ p : Fin 32, (s.closeWindow n).Averaged n p (s.phase n p).tlm := by
  have hseq : (s.windowClosed n).get (Fld.PHS_PIER_TLMSEQ_SEQ n) = s.get (Fld.PHS_PIER_TLMSEQ_SEQ n) := by
    rw [State.windowClosed, get_modPier]
    refine foldl_keeps (fun t => t.get (Fld.PHS_PIER_TLMSEQ_SEQ n)) _ s _ fun t p hp => ?_
    have hne := (avgFields_apart n ⟨p, List.mem_range.1 hp⟩).2
    rw [State.get, State.get, closePhase_reg t (n := n) (p := p) fun f hf => (hne f hf).2.symm]
  have hlen : n.val < (s.closePhases n).phs.cur.length := by rw [(PhaseOnly.closePhases s n).cur]; exact hn
  have hpier : (s.windowClosed n).pier n = { (s.closePhases n).pier n with tlmCnt := 0 } := pier_modPier _ _ hlen
  rw [closeWindow_eq, hseq]
  refine ⟨get_put_same _ _ _ (by simp only [Fld.PHS_PIER_TLMSEQ_SEQ]; decide), by rw [pier_put, hpier], fun p => ?_⟩
  · obtain ⟨ht, hg⟩ := closePhases_averaged n hn p
    refine ⟨?_, fun x hx => ?_⟩
    · have hphase : (s.windowClosed n).phase n p = (s.closePhases n).phase n p := phase_modPier _ p _ hlen fun _ => rfl
      rw [phase_put, hphase, ht]
    · rw [get_put_ne _ _ ((avgFields_apart n p).2 x.1 (mem_avgFields hx)).2, State.windowClosed, get_modPier]
      exact hg x hx

/-! ### The telemetry of a period (R204 to R206) -/

theorem PhaseOnly.peak (s : State) {f : FieldRef} (x : Int) (mag : Bool) (h : isShown f.addr = true) : PhaseOnly s (s.peak f x mag) :=
  ite _ (put s _ h) (refl s)

/-- A value that joins its peak, where there is one. -/
theorem PhaseOnly.peak? (s : State) {f : FieldRef} (v : Option Rat) (code : Rat → Int) (mag : Bool) (h : isShown f.addr = true) :
    PhaseOnly s (match v with | some v => s.peak f (code v) mag | none => s) := by
  cases v with
  | none => exact refl s
  | some v => exact peak s _ mag h

theorem PhaseOnly.telemetry (s : State) (n : Fin 12) : PhaseOnly s (s.telemetry n) := by
  refine foldl _ _ s fun t p hp => ?_
  have h := isShown_tlm n ⟨p, List.mem_range.1 (List.mem_filter.1 hp).1⟩
  simp only [avgFields, peakFields, List.cons_append, List.nil_append, List.forall_mem_cons] at h
  obtain ⟨-, -, -, -, hv, hi, hw, ht, -⟩ := h
  extract_lets w g t1 t2 t3 t4
  have h1 : PhaseOnly t t1 := ite _ (refl t) (modPier t n _)
  exact h1.trans ((peak? t1 _ _ _ hv).trans ((peak? t2 _ _ _ hi).trans ((peak? t3 _ _ _ hw).trans (peak? t4 _ _ _ ht))))

theorem PhaseOnly.telemeter (s : State) (n : Fin 12) : PhaseOnly s (s.telemeter n) := by
  unfold State.telemeter
  extract_lets u v
  have hu : PhaseOnly s u := ite _ (closeWindow s n) (refl s)
  have hv : PhaseOnly u v := ite _ (refl u) (telemetry u n)
  exact hu.trans (hv.trans (ite _ (refl v) (modPier v n _)))

/-! ### The evaluation of a period (R177) -/

theorem exec_evaluates {s : State} {n : Fin 12} (hu : s.pierInUse n = true) (hd : (s.pier n).done = false)
    (he : (s.pierSlots n).all Slot.ended = true) : exec (.phaseControlEvaluation n) s = .next ((s.telemeter n).evaluate n) :=
  congrArg Host.Outcome.next (if_neg (by simp [hu, hd, he]))

theorem exec_evaluation_left {s : State} {n : Fin 12}
    (h : s.pierInUse n = false ∨ (s.pier n).done = true ∨ (s.pierSlots n).all Slot.ended = false) :
    exec (.phaseControlEvaluation n) s = .next s :=
  congrArg Host.Outcome.next (if_pos (by simpa [or_assoc] using h))

/-- The evaluation of a pier in use marks it, and shows what is decided for its next period. -/
theorem evaluation_shows {s : State} (hs : s.shaped = true) (n : Fin 12) :
    let t := (s.telemeter n).evaluate n
    (t.pier n).done = true ∧ (t.decided n).held = s.heldNow n ∧
    t.Shows n (t.decided n) (s.availOf n (t.decided n)).length := by
  have hk := PhaseOnly.telemeter s n
  have hlen : (s.telemeter n).phs.cur.length = 12 ∧ (s.telemeter n).phs.nxt.length = 12 := by
    rw [hk.cur, hk.nxt]
    exact piers_of_shaped hs
  obtain ⟨b, hpier⟩ := evaluate_pier hlen n
  obtain ⟨x, b', hdec⟩ := evaluate_decided hlen n
  have hshows := evaluate_shows (s.telemeter n) n
  rw [hk.availOf] at hshows
  dsimp only
  rw [hdec, marked_held, availOf_marked, shows_marked]
  exact ⟨by rw [hpier], (decision_held _ n).trans (hk.heldNow n), hshows⟩

/-- A pier that is not armed has no phase in service (R171), and raises no fault. -/
theorem evaluation_of_held {s : State} (hs : s.shaped = true) (n : Fin 12) (h : s.heldNow n = true) :
    let t := (s.telemeter n).evaluate n
    SameBlocks s t [0x4005] ∧ t.get (Fld.PHS_PIER_CAP_CAP n) = 0 ∧ (t.decided n).holdoff = 0 ∧
    ∀ p : Fin 32, ((t.decided n).ph p).st.svc = false := by
  have hk := PhaseOnly.telemeter s n
  have hlen : (s.telemeter n).phs.cur.length = 12 ∧ (s.telemeter n).phs.nxt.length = 12 := by
    rw [hk.cur, hk.nxt]
    exact piers_of_shaped hs
  obtain ⟨x, b, hdec⟩ := evaluate_decided hlen n
  have hnow : ((s.telemeter n).evtBack n).heldNow n = true := by rw [(hk.trans (PhaseOnly.evtBack _ n)).heldNow, h]
  have hdecision : (s.telemeter n).decision n = ((s.telemeter n).evtBack n).holdPier n ((s.telemeter n).pier n) := by
    rw [State.decision, State.decisions, if_pos hnow]
  obtain ⟨hheld, hoff, hsvc⟩ := holdPier_shows ((s.telemeter n).evtBack n) n ((s.telemeter n).pier n)
  rw [← hdecision] at hheld hoff hsvc
  have hcap : ∀ n : Fin 12, (Fld.PHS_PIER_CAP_CAP n).addr / 0x10000 = 0x4005 := by decide
  dsimp only
  rw [hdec, marked_holdoff, evaluate_get _ n (hcap n), displayed_eq]
  refine ⟨(hk.trans (PhaseOnly.evaluate_of_held _ n hheld)).sameBlocks, showPier_cap _ n _ hheld, hoff, fun p => ?_⟩
  rw [marked_ph]
  exact hsvc p

theorem get_eq_zero_of_bits {s : State} {f : FieldRef} (hw : f.w ≤ 32) (h : ∀ p : Fin 32, (s.get f).testBit p = false) : s.get f = 0 := by
  refine Nat.eq_of_testBit_eq fun i => ?_
  rw [Nat.zero_testBit]
  by_cases hi : i < 32
  · exact h ⟨i, hi⟩
  · exact Nat.testBit_lt_two_pow (Nat.lt_of_lt_of_le (get_lt s f) (Nat.pow_le_pow_right (by decide) (by omega)))

/-- Settles O20: the evaluation by what it shows and by what it makes of a held pier; the end of a window phase by phase. -/
theorem phaseControlEvaluates : Obligations.PhaseControlEvaluates := by
  unfold Obligations.PhaseControlEvaluates
  intro s n hs
  have mem {i : Instr} {t : State} (h : exec i s = .next t) := memoryChangesOnlyByItsWriters i s t h
  obtain ⟨hdone, hheld, hshows⟩ := evaluation_shows hs n
  refine ⟨fun hu hd he harm => ?_, fun hu hd he => ?_, exec_evaluation_left, fun h => ?_, fun h => ?_⟩
  · have hx := exec_evaluates hu hd he
    have hnow : s.heldNow n = true := by simp [State.heldNow, harm]
    obtain ⟨hblocks, hcap, hoff, hsvc⟩ := evaluation_of_held hs n hnow
    obtain ⟨hbits, hnsvc, -, hlead, -, -⟩ := hshows
    refine ⟨_, hx, hdone, hblocks, mem hx, ?_, ?_, ?_, hsvc, hlead, hcap, hoff⟩
    · exact get_eq_zero_of_bits (Nat.le_refl 32) fun p => (hbits p).1.trans (hsvc p)
    · rw [hnsvc, List.length_eq_zero_iff, List.filter_eq_nil_iff]
      exact fun p hp => Bool.not_eq_true _ ▸ hsvc ⟨p, List.mem_range.1 hp⟩
    · refine get_eq_zero_of_bits (Nat.le_refl 32) fun p => (hbits p).2.1.trans (decide_eq_false fun e => ?_)
      have := hsvc p
      rw [e] at this
      cases this
  · have hx := exec_evaluates hu hd he
    exact ⟨_, hx, hdone, hheld, mem hx, hshows⟩
  · exact congrArg Host.Outcome.next (if_neg (Nat.not_le.2 h))
  · have hx : exec (.telemetryWindowEnd n) s = .next (s.closeWindow n) := congrArg Host.Outcome.next (if_pos h)
    have hn : n.val < s.phs.cur.length := by rw [(piers_of_shaped hs).1]; exact n.isLt
    obtain ⟨hseq, hcnt, havg⟩ := closeWindow_shows n hn
    refine ⟨_, hx, hseq, fun p => ?_, hcnt, (PhaseOnly.closeWindow s n).sameBlocks, mem hx⟩
    obtain ⟨hnil, hget⟩ := havg p
    refine ⟨hnil, fun ht => ?_⟩
    rw [ht] at hget
    simp only [avgShown, List.forall_mem_cons] at hget
    obtain ⟨hv, hi, hp, htheta, -⟩ := hget
    exact ⟨hv.trans (avgCode_none 16), hi.trans (avgCode_none 16), hp.trans (avgCode_none 0), htheta.trans (avgCode_none 16)⟩

end Sys2Proof.Machine

/-! SUPPORT for O23. An OUTLET beyond the eight outlets takes a slot's reference registers out of the Keystone's block. -/

namespace Sys2Proof.Machine

/-- The command of one slot, after the override of the piers being matched (R284). -/
theorem exec_slotEvaluation (e : Fin 5) (p : Fin 1024) (err : EngErr) (s : State) :
    exec (.slotEvaluation e p err) s = .next (s.refreshOvr.slotEvaluation e p err) := rfl

/-- The spare is available; the one slot, at position 1023 of engine 4, has ROLE 1 and OUTLET 0xC0. R227 has the loader refuse such a
record (`State.recordOk`), but the statement speaks of every state. The ceiling register of outlet 0xC0 would stand at 0x40070020:
in the Arch's block. -/
def strayOutlet : State :=
  { State.reset.put (Fld.KST_E_STAT_STATE 5) 1 with
    img := [(imgKey 2 8, 0x10), (imgKey 2 9, 0xC0)], kst := { slots := [{ engine := 4, pos := 1023 }] } }

/-- The slot meets what the statement asks of one in which an engine in normal state sees an error. -/
theorem strayOutlet_slot :
    strayOutlet.refreshOvr.slotAt 4 1023 = some { engine := 4, pos := 1023 } ∧ strayOutlet.refreshOvr.inTurn 4 1023 = true ∧
    strayOutlet.refreshOvr.isIdle { engine := 4, pos := 1023 } = true ∧ strayOutlet.refreshOvr.get (Fld.KST_E_STAT_STATE 4) = 0 ∧
    strayOutlet.refreshOvr.get (Fld.KST_E_STAT_STATE 5) = 1 ∧ strayOutlet.refreshOvr.kst.replaceNext = none := by decide +kernel

/-- The evaluation writes the ceiling's binding code, 1 since the Arch's current limb is the first of the least, where COMMIT stands. -/
theorem strayOutlet_writes :
    (strayOutlet.refreshOvr.slotEvaluation 4 1023 .residue).reg (Reg.KST_OUT_CEIL 0xC0) = 1 * 2 ^ 16 ∧
    Reg.KST_OUT_CEIL 0xC0 = Reg.ARC_COMMIT ∧ strayOutlet.reg Reg.ARC_COMMIT = 0 := by decide +kernel

/-- Refutes O23: a failure seen in an idle slot keeps the other blocks only where the slot's OUTLET is an outlet or 0xFF; in
`strayOutlet` the evaluation also writes ARC_COMMIT. -/
theorem not_slotEvaluationsRunTheLaw : ¬ Obligations.SlotEvaluationsRunTheLaw := by
  unfold Obligations.SlotEvaluationsRunTheLaw
  intro h
  obtain ⟨hslot, hturn, hidle, hnormal, hspare, hfree⟩ := strayOutlet_slot
  obtain ⟨hwritten, hcommit, hbefore⟩ := strayOutlet_writes
  obtain ⟨hevaluates, -⟩ := h strayOutlet 4 1023
  obtain ⟨-, -, -, hfails⟩ := hevaluates _ hslot rfl hturn
  obtain ⟨t, ht, -, -, -, -, -, -, hblocks, -⟩ := hfails .residue (by decide) hidle hnormal hspare hfree
  rw [exec_slotEvaluation] at ht
  obtain rfl := Host.Outcome.next.inj ht
  have hkept := hblocks (Reg.KST_OUT_CEIL 0xC0) (by decide)
  rw [hcommit, hbefore, ← hcommit] at hkept
  exact absurd (hwritten.symm.trans hkept) (by decide)

end Sys2Proof.Machine

/-! SUPPORT for O26 and O27. The Arch's operations on units, crosspoints and hand-offs: what each shows and what it leaves. -/

namespace Sys2Proof.Machine

/-! ### Indices -/

theorem pBase_le (s : State) : s.pBase ≤ 12 := by
  unfold State.pBase State.cPier
  split <;> decide

theorem pBase_congr {s t : State} (h : t.img = s.img) : t.pBase = s.pBase := by
  have hf : t.follower = s.follower := by simp only [State.follower, State.twinUse, State.cfgB, h]
  unfold State.pBase State.cPier
  rw [hf]

theorem oBase_congr {s t : State} (h : t.img = s.img) : t.oBase = s.oBase := by
  have hf : t.follower = s.follower := by simp only [State.follower, State.twinUse, State.cfgB, h]
  unfold State.oBase State.cOut
  rw [hf]

theorem oBase_le (s : State) : s.oBase ≤ 8 := by
  unfold State.oBase State.cOut
  split <;> decide

theorem lt_of_localPier {s : State} {c : Nat} (h : s.localPier c = true) : c < 24 := by
  have hb := pBase_le s
  simp only [State.localPier, Bool.and_eq_true, decide_eq_true_eq] at h
  omega

theorem lt_of_localOut {s : State} {c : Nat} (h : s.localOut c = true) : c < 16 := by
  have hb := oBase_le s
  simp only [State.localOut, Bool.and_eq_true, decide_eq_true_eq] at h
  omega

theorem lt_of_mem_pierXps {s : State} {c k : Nat} (h : k ∈ s.pierXps c) : k < 64 := List.mem_range.1 (List.mem_filter.1 h).1

theorem lt_of_xpOf {s : State} {c o k : Nat} (h : s.xpOf c o = some k) : k < 64 := List.mem_range.1 (List.mem_of_find?_eq_some h)

/-! ### Readings that an operation cannot change -/

theorem Blind.mono {β : Type} {F G : List FieldRef} {p : State → β} (h : Blind F p) (hs : ∀ f ∈ G, f ∈ F) : Blind G p :=
  { h with put := fun s v f hf => h.put s v f (hs f hf) }

theorem Blind.append {β : Type} {F G : List FieldRef} {p : State → β} (h : Blind F p) (k : Blind G p) : Blind (F ++ G) p :=
  { h with put := fun s v f hf => (List.mem_append.1 hf).elim (h.put s v f) (k.put s v f) }

/-- A register that none of the fields lies in. -/
theorem blind_reg {F : List FieldRef} {a : Nat} (h : ∀ f ∈ F, f.addr ≠ a) : Blind F (fun s => s.reg a) where
  put s v f hf := reg_put_ne s v (h f hf).symm
  prp _ _ := rfl
  arc _ _ := rfl
  kst _ _ := rfl
  free _ _ := rfl

/-- A field of a register that none of the fields lies in. -/
theorem blind_get_ne {F : List FieldRef} {g : FieldRef} (h : ∀ f ∈ F, f.addr ≠ g.addr) : Blind F (fun s => s.get g) :=
  (blind_reg h).map (fieldOf · g.lo g.w)

/-- The fields of a pier's state (R277), and those that the end of its hand-off writes (R282). -/
def pierFields (c : Nat) : List FieldRef := [Fld.ARC_PIER_STATE_STATE c, Fld.ARC_PIER_STATE_OUTLET c]
def handFields (c : Nat) : List FieldRef := [Fld.ARC_PIER_STATE_TARGET c, Fld.ARC_EVT_HO_DONE, Fld.ARC_EVT_HO_FAIL]
/-- The states of the crosspoints, and the pier sets of the outlets. -/
def xpFields : List FieldRef := (List.range 64).map Fld.ARC_XP_STAT_STATE
def setFields : List FieldRef := (List.range 16).map Fld.ARC_OUT_STATE_PIERS

theorem blind_pierFields {g : FieldRef} {c : Nat} (h : g.addr ≠ Reg.ARC_PIER_STATE c) : Blind (pierFields c) (fun s => s.get g) :=
  blind_get_ne (List.forall_mem_cons.2 ⟨h.symm, List.forall_mem_singleton.2 h.symm⟩)

/-- The end of a hand-off leaves the other events of ARC_EVT. -/
theorem blind_handFields {g : FieldRef} {c : Nat} (h : g.addr ≠ Reg.ARC_PIER_STATE c)
    (he : Fld.ARC_EVT_HO_DONE.apart g = true ∧ Fld.ARC_EVT_HO_FAIL.apart g = true) : Blind (handFields c) (fun s => s.get g) := by
  refine blind_get (List.forall_mem_cons.2 ⟨?_, List.forall_mem_cons.2 ⟨he.1, List.forall_mem_singleton.2 he.2⟩⟩)
  simp only [FieldRef.apart, Bool.and_eq_true, Bool.or_eq_true, bne_iff_ne]
  exact ⟨by simp [Fld.ARC_PIER_STATE_TARGET], .inl (.inl h)⟩

section
variable {β : Type} {p : State → β} {c : Nat}

theorem Blind.setPier (h : Blind (pierFields c) p) (s : State) (st o : Nat) : p (s.setPier c st o) = p s :=
  (h.put _ o _ (by simp [pierFields])).trans (h.put s st _ (by simp [pierFields]))

theorem Blind.toFree (h : Blind (pierFields c) p) (s : State) : p (s.toFree c) = p s := h.setPier s _ _

theorem Blind.declared (h : Blind (pierFields c) p) (s : State) : p (s.declared c) = p s := by
  unfold State.declared
  split
  · exact h.setPier s _ _
  · exact h.toFree s

theorem Blind.endHand (h : Blind (handFields c) p) (s : State) (ok : Bool) : p (s.endHand c ok) = p s := by
  unfold State.endHand
  split
  · rfl
  next x _ =>
    have hs : p (((s.dropHand c).setTarget c 0x1F).modArcPier c (fun p => { p with ovr := none, weld := none })) = p s :=
      (h.arc _ _).trans ((h.put _ _ _ (by simp [handFields])).trans (h.arc s _))
    dsimp only
    split
    · exact hs
    · refine (h.put _ _ _ ?_).trans hs
      cases ok <;> simp [handFields]

theorem Blind.syncPiers (h : Blind setFields p) (s : State) : p s.syncPiers = p s := by
  refine forEach_keeps p _ s _ fun t o ho => ?_
  split
  · rfl
  · exact h.put t _ _ (List.mem_map_of_mem ho)

theorem Blind.settle (h : Blind (pierFields c ++ xpFields ++ setFields) p) (s : State) : p (s.settle c) = p s := by
  unfold State.settle
  split
  · rfl
  dsimp only
  have hs : p (forEach (s.pierXps c) s (fun s k => if s.xpSt k = 4 then (s.setXp k 0).modXp k (fun x => { x with unchecked := true }) else s))
      = p s := by
    refine forEach_keeps p _ s _ fun t k hk => ?_
    split
    · refine (h.arc _ _).trans (h.put t 0 _ ?_)
      exact List.mem_append_left _ (List.mem_append_right _ (List.mem_map_of_mem (List.mem_range.2 (lt_of_mem_pierXps hk))))
    · rfl
  split
  · exact hs
  · refine ((h.mono fun f hf => ?_).syncPiers _).trans (((h.mono fun f hf => ?_).declared _).trans hs)
    · exact List.mem_append_right _ hf
    · exact List.mem_append_left _ (List.mem_append_left _ hf)

/-- Ending the hand-offs of a unit writes fields of whatever piers they name. -/
theorem Blind.endHandsOf (h : ∀ c, Blind (handFields c ++ (pierFields c ++ xpFields ++ setFields)) p) (s : State) (kind i : Nat) :
    p (s.endHandsOf kind i) = p s := by
  have hend (t : State) (c : Nat) : p (t.endHand c false) = p t := ((h c).mono fun f hf => List.mem_append_left _ hf).endHand t false
  refine foldl_keeps p _ s _ fun t x _ => ?_
  split
  · exact hend t i
  split
  · exact (((h x.pier).mono fun f hf => List.mem_append_right _ hf).settle _).trans (hend t x.pier)
  · rfl

end

/-! ### The state apart from registers and the Arch's record -/

/-- All that the operations on units leave alone. -/
def State.offArch (s : State) : State := { s with regs := [], arc := {} }

theorem prp_of_offArch {s t : State} (h : t.offArch = s.offArch) : t.prp = s.prp :=
  show t.offArch.prp = s.offArch.prp from congrArg State.prp h
theorem img_of_offArch {s t : State} (h : t.offArch = s.offArch) : t.img = s.img :=
  show t.offArch.img = s.offArch.img from congrArg State.img h
theorem kst_of_offArch {s t : State} (h : t.offArch = s.offArch) : t.kst = s.kst :=
  show t.offArch.kst = s.offArch.kst from congrArg State.kst h

theorem ports_of_offArch {s t : State} (h : t.offArch = s.offArch) : t.ports = s.ports :=
  show t.offArch.ports = s.offArch.ports from congrArg State.ports h

theorem kept_of_offArch {s t : State} (h : t.offArch = s.offArch) : t.kept = s.kept :=
  show t.offArch.kept = s.offArch.kept from congrArg State.kept h

theorem parapetFree_of_offArch {s t : State} (h : t.offArch = s.offArch) (code cls : Nat) : t.parapetFree code cls = s.parapetFree code cls :=
  parapetFree_congr (prp_of_offArch h) (img_of_offArch h) code cls

theorem declared_offArch (s : State) (c : Nat) : (s.declared c).offArch = s.offArch := by
  unfold State.declared
  split <;> rfl

theorem endHand_offArch (s : State) (c : Nat) (ok : Bool) : (s.endHand c ok).offArch = s.offArch := by
  unfold State.endHand
  split
  · rfl
  · dsimp only
    split <;> rfl

theorem syncPiers_offArch (s : State) : s.syncPiers.offArch = s.offArch := by
  refine forEach_keeps State.offArch _ s _ fun t o _ => ?_
  split <;> rfl

theorem syncOutStates_offArch (s : State) : s.syncOutStates.offArch = s.offArch := by
  refine forEach_keeps State.offArch _ s _ fun t m _ => ?_
  dsimp only
  split <;> rfl

theorem settle_offArch (s : State) (c : Nat) : (s.settle c).offArch = s.offArch := by
  unfold State.settle
  split
  · rfl
  dsimp only
  have hs : (forEach (s.pierXps c) s (fun s k => if s.xpSt k = 4 then
      (s.setXp k 0).modXp k (fun x => { x with unchecked := true }) else s)).offArch = s.offArch := by
    refine forEach_keeps State.offArch _ s _ fun t k _ => ?_
    split <;> rfl
  split
  · exact hs
  · exact (syncPiers_offArch _).trans ((declared_offArch _ c).trans hs)

theorem endHandsOf_offArch (s : State) (kind i : Nat) : (s.endHandsOf kind i).offArch = s.offArch := by
  refine foldl_keeps State.offArch _ s _ fun t x _ => ?_
  split
  · exact endHand_offArch t i false
  split
  · exact (settle_offArch _ _).trans (endHand_offArch t _ false)
  · rfl

/-! ### Piers and crosspoints -/

theorem pierSt_setPier (s : State) (c st o : Nat) : (s.setPier c st o).pierSt c = st % 2 ^ 4 := by
  refine (get_put_apart _ o ?_).trans (get_put_same s _ st (by simp only [Fld.ARC_PIER_STATE_STATE]; decide))
  simp [FieldRef.apart, Fld.ARC_PIER_STATE_STATE, Fld.ARC_PIER_STATE_OUTLET]

theorem pierSt_toFree (s : State) (c : Nat) : (s.toFree c).pierSt c ≤ 1 := by
  rw [State.toFree, pierSt_setPier]
  split <;> decide

theorem pierSt_declared (s : State) (c : Nat) : (s.declared c).pierSt c ≤ 2 := by
  unfold State.declared
  split
  · rw [pierSt_setPier]; decide
  · exact (pierSt_toFree s c).trans (by decide)

theorem xpSt_setXp (s : State) (k st : Nat) : (s.setXp k st).xpSt k = st % 2 ^ 3 :=
  get_put_same s _ st (by simp only [Fld.ARC_XP_STAT_STATE]; decide)

theorem xpSt_setXp_ne (s : State) {j k : Nat} (st : Nat) (h : j ≠ k) : (s.setXp k st).xpSt j = s.xpSt j :=
  get_put_ne s st (by simp only [Fld.ARC_XP_STAT_STATE, Reg.ARC_XP_STAT]; omega)

theorem aux_setXp (s : State) (j k st : Nat) : (s.setXp k st).bit (Fld.ARC_XP_STAT_AUX j) = s.bit (Fld.ARC_XP_STAT_AUX j) := by
  refine bit_put_apart s st ?_
  simp [FieldRef.apart, Fld.ARC_XP_STAT_STATE, Fld.ARC_XP_STAT_AUX]

/-- The registers of crosspoints and of piers are others. -/
theorem xpStat_ne_pierState {k c : Nat} (hc : c < 24) : Reg.ARC_XP_STAT k ≠ Reg.ARC_PIER_STATE c := by
  unfold Reg.ARC_XP_STAT Reg.ARC_PIER_STATE
  omega

theorem pierSt_setXp (s : State) {c : Nat} (k st : Nat) (hc : c < 24) : (s.setXp k st).pierSt c = s.pierSt c :=
  get_put_ne s st (xpStat_ne_pierState hc).symm

/-- A field of a crosspoint is none that a pier's operations write. -/
theorem blind_xp_pier {g : FieldRef} {k c : Nat} (hg : g.addr = Reg.ARC_XP_STAT k) (hc : c < 24) : Blind (pierFields c) (fun s => s.get g) :=
  blind_pierFields (hg ▸ xpStat_ne_pierState hc)

theorem blind_xp_hand {g : FieldRef} {k c : Nat} (hg : g.addr = Reg.ARC_XP_STAT k) (hc : c < 24) : Blind (handFields c) (fun s => s.get g) := by
  have hne : g.addr ≠ Reg.ARC_EVT := by
    rw [hg]
    unfold Reg.ARC_XP_STAT Reg.ARC_EVT
    omega
  refine blind_get_ne (List.forall_mem_cons.2 ⟨?_, List.forall_mem_cons.2 ⟨hne.symm, List.forall_mem_singleton.2 hne.symm⟩⟩)
  exact (hg ▸ xpStat_ne_pierState hc).symm

theorem blind_xp_sets {g : FieldRef} {k : Nat} (hg : g.addr = Reg.ARC_XP_STAT k) : Blind setFields (fun s => s.get g) := by
  refine blind_get_ne fun f hf => ?_
  obtain ⟨o, ho, rfl⟩ := List.mem_map.1 hf
  have ho := List.mem_range.1 ho
  simp only [hg, Fld.ARC_OUT_STATE_PIERS, Reg.ARC_OUT_STATE, Reg.ARC_XP_STAT]
  omega

theorem xps_of_shaped {s : State} (h : s.shaped = true) : s.arc.xps.length = 64 := by
  simp only [State.shaped, Bool.and_eq_true, beq_iff_eq] at h
  tauto

theorem arcXp_modXp (s : State) {k : Nat} (f : ArcXp → ArcXp) (h : k < s.arc.xps.length) : (s.modXp k f).arcXp k = f (s.arcXp k) :=
  nth_updAt_same ({} : ArcXp) f h

/-! ### Hand-offs -/

theorem handOf_congr {s t : State} (h : t.arc.hand = s.arc.hand) (c : Nat) : t.handOf c = s.handOf c := by
  rw [State.handOf, State.handOf, h]

theorem handOf_modHand (s : State) (c : Nat) {f : HandOff → HandOff} (hf : ∀ h, (f h).pier = h.pier) :
    (s.modHand c f).handOf c = (s.handOf c).map f := by
  unfold State.handOf State.modHand State.modArc
  dsimp only
  induction s.arc.hand with
  | nil => rfl
  | cons h t ih =>
    by_cases hc : h.pier = c
    · simp [hc, hf]
    · simpa [hc] using ih

theorem handOf_endHand (s : State) (c : Nat) (ok : Bool) : (s.endHand c ok).handOf c = none := by
  unfold State.endHand
  split
  · assumption
  · have hdrop : (s.dropHand c).handOf c = none := by simp [State.handOf, State.dropHand, State.modArc]
    dsimp only
    split
    · exact hdrop
    · exact hdrop

theorem endHand_xps (s : State) (c : Nat) (ok : Bool) : (s.endHand c ok).arc.xps = s.arc.xps := by
  unfold State.endHand
  split
  · rfl
  · dsimp only
    split <;> rfl

/-- The end of a hand-off that failed is an event, that of a release none. -/
theorem endHand_fails {s : State} {c : Nat} {h : HandOff} (hh : s.handOf c = some h) (hr : h.recv ≠ 0x1F) :
    (s.endHand c false).bit Fld.ARC_EVT_HO_FAIL = true := by
  simp only [State.endHand, hh, hr, if_false]
  exact bit_putB_same _ _ true (by decide) (by decide)

end Sys2Proof.Machine

/-! SUPPORT for O26 and O27. What the report of a fault leaves of the Arch's units: hand-offs, marks and faults of crosspoints, EN of the
outlets, and the fields of units that no handling writes. -/

namespace Sys2Proof.Machine

/-- The hand-offs, what stands of every crosspoint whether a check of it runs or is abandoned (R655), and EN of every outlet. -/
def State.archFace (s : State) : List HandOff × (Fin 64 → Bool × Bool × Bool) × (Nat → Bool) :=
  (s.arc.hand, fun k => (s.xpSt k == 5, (s.arcXp k).welded, (s.arcXp k).safe), fun m => (s.out m).en)

theorem handOf_of_archFace {s t : State} (h : t.archFace = s.archFace) (c : Nat) : t.handOf c = s.handOf c :=
  handOf_congr (congrArg (·.1) h) c

theorem marks_of_archFace {s t : State} (h : t.archFace = s.archFace) (k : Fin 64) :
    (t.xpSt k == 5) = (s.xpSt k == 5) ∧ (t.arcXp k).welded = (s.arcXp k).welded ∧ (t.arcXp k).safe = (s.arcXp k).safe := by
  have hk := congrFun (congrArg (·.2.1) h) k
  exact ⟨congrArg (·.1) hk, congrArg (·.2.1) hk, congrArg (·.2.2) hk⟩

theorem en_of_archFace {s t : State} (h : t.archFace = s.archFace) (m : Nat) : (t.out m).en = (s.out m).en :=
  congrFun (congrArg (·.2.2) h) m

theorem archFace_put (s : State) {f : FieldRef} (v : Nat) (h : f.addr / 0x10000 ≠ 0x4007) : (s.put f v).archFace = s.archFace := by
  have hxp (k : Fin 64) : (s.put f v).xpSt k = s.xpSt k := by
    refine get_put_ne s v fun e => h ?_
    rw [← e]
    simp only [Fld.ARC_XP_STAT_STATE, Reg.ARC_XP_STAT]
    omega
  simp only [State.archFace, hxp]
  rfl

theorem archFace_modOut (s : State) (m : Nat) {f : Outlet → Outlet} (h : ∀ x, (f x).en = x.en) : (s.modOut m f).archFace = s.archFace := by
  have hen (j : Nat) : ((s.modOut m f).out j).en = (s.out j).en := nth_updAt_keeps ({} : Outlet) s.kst.outs m j f Outlet.en h
  simp only [State.archFace, hen]
  rfl

theorem syncLower_archFace (s : State) : s.syncLower.archFace = s.archFace := by
  refine forEach_keeps State.archFace _ s _ fun t l hl => ?_
  have hl := List.mem_range.1 hl
  split
  · rfl
  · exact archFace_put t _ (by simp only [Fld.SPN_LINK_STAT_LOWER_TX, Reg.SPN_LINK_STAT]; omega)

theorem archFace_putWeld (s : State) {k : Nat} (hk : k ∈ List.range 16) (v : Nat) :
    (s.put (Fld.PRP_WELD_RESULT k) v).archFace = s.archFace := by
  have hk := List.mem_range.1 hk
  exact archFace_put s v (by simp only [Fld.PRP_WELD_RESULT, Reg.PRP_WELD]; omega)

theorem abandonChecks_archFace (s : State) (m : Nat) : (s.abandonChecks m).archFace = s.archFace := by
  refine forEach_keeps State.archFace _ s _ fun t k hk => ?_
  split
  · exact archFace_putWeld t hk 4
  · rfl

/-- A check that is abandoned takes its crosspoint to OPEN, unchecked: neither from FAULT nor to it. -/
theorem abandonXps_archFace (s : State) (m : Nat) : (s.abandonXps m).archFace = s.archFace := by
  refine forEach_keeps State.archFace _ s _ fun t k _ => ?_
  split
  next h =>
    simp only [Bool.and_eq_true, decide_eq_true_eq] at h
    refine Prod.ext rfl (Prod.ext (funext fun j => Prod.ext ?_ (Prod.ext ?_ ?_)) rfl)
    · change ((t.setXp k 0).xpSt j == 5) = (t.xpSt j == 5)
      by_cases hj : j.val = k
      · have h4 : t.xpSt j = 4 := hj ▸ h.1
        have h0 : (t.setXp k 0).xpSt j = 0 := hj ▸ xpSt_setXp t j 0
        rw [h0, h4]
        rfl
      · rw [xpSt_setXp_ne t 0 hj]
    · exact nth_updAt_keeps ({} : ArcXp) t.arc.xps k j _ ArcXp.welded fun _ => rfl
    · exact nth_updAt_keeps ({} : ArcXp) t.arc.xps k j _ ArcXp.safe fun _ => rfl
  next => rfl

theorem outputsOff_archFace (s : State) (m : Nat) : (s.outputsOff m).archFace = s.archFace := by
  refine (forEach_keeps State.archFace _ _ _ fun t k hk => ?_).trans (archFace_put s _ (by decide))
  dsimp only
  split
  · exact archFace_putWeld t hk 5
  · rfl

theorem settleDisarm_archFace (s : State) : s.settleDisarm.archFace = s.archFace := by
  have hout (t : State) : t.settleOutputs.archFace = t.archFace := by
    unfold State.settleOutputs
    split
    · rfl
    · exact outputsOff_archFace t _
  have harm (t : State) (m : Nat) : (t.setArmed m).archFace = t.archFace := by
    unfold State.setArmed
    split
    · rfl
    · exact (archFace_put _ (f := Fld.PRP_EVT_ARM_CHG) 1 (by decide)).trans (archFace_put t (f := Fld.PRP_ARMED_PIERS) m (by decide))
  unfold State.settleDisarm
  dsimp only
  split
  · rfl
  · exact (hout _).trans (harm _ _)

theorem syncQueue_archFace (s : State) : s.syncQueue.archFace = s.archFace :=
  (archFace_put _ _ (by decide)).trans (archFace_put s _ (by decide))

theorem lowerBroadcast_archFace (s : State) : s.lowerBroadcast.archFace = s.archFace := by
  unfold State.lowerBroadcast
  extract_lets u v
  have hu : u.archFace = s.archFace := by
    refine forEach_keeps State.archFace _ s _ fun t l _ => ?_
    split <;> rfl
  have hv : v.archFace = u.archFace :=
    (archFace_put _ (f := Fld.SPN_BCAST_LOWER) 1 (by decide)).trans (archFace_put u (f := Fld.SPN_BCAST_SENT) 1 (by decide))
  clear_value u v
  exact (syncLower_archFace _).trans (hv.trans hu)

theorem assertSafe_archFace (s : State) : s.assertSafe.archFace = s.archFace := by
  obtain ⟨b, x, e, -, -⟩ := assertSafe_eq s
  rw [e]
  change ((s.fresh 16).2.safeMarked b).archFace = _
  unfold State.safeMarked
  rw [abandonXps_archFace, abandonChecks_archFace, archFace_put _ _ (by decide), State.putB, archFace_put _ _ (by decide),
    lowerBroadcast_archFace]
  rfl

theorem syncLatch_archFace (s : State) : s.syncLatch.archFace = s.archFace := by
  refine (syncLower_archFace _).trans ((forEach_keeps State.archFace _ s.latchRegs _ fun t m _ => ?_).trans ?_)
  · split
    · rfl
    · exact archFace_modOut t m fun _ => rfl
  · exact (archFace_put _ _ (by decide)).trans ((archFace_put _ _ (by decide)).trans
      ((archFace_put _ _ (by decide)).trans (archFace_put s _ (by decide))))

theorem classB_archFace (s : State) (r : FaultRec) : (s.classB r).archFace = s.archFace := by
  unfold State.classB
  extract_lets u outs v
  have hu : u.archFace = s.archFace := by
    refine forEach_keeps State.archFace _ s _ fun t m hm => ?_
    have hm := (mem_outletBits.1 hm).1
    refine (archFace_put _ _ ?_).trans (archFace_modOut t m fun _ => rfl)
    simp only [Fld.KST_OUT_CTRL_LOWERING, Reg.KST_OUT_CTRL]
    omega
  have hv : v.archFace = u.archFace := (abandonXps_archFace _ _).trans (abandonChecks_archFace _ _)
  clear_value u v
  exact (settleDisarm_archFace _).trans (hv.trans hu)

theorem startHandling_archFace (s : State) (r : FaultRec) : (s.startHandling r).archFace = s.archFace := by
  have hl {e : FieldRef} (he : e.addr / 0x10000 ≠ 0x4007) : ((s.taken r).syncLatch.putB e true).archFace = s.archFace :=
    (archFace_put _ _ he).trans (syncLatch_archFace (s.taken r))
  by_cases hA : r.cls = 1
  · rw [startHandling_A s hA, syncQueue_archFace, hl (by decide)]
  by_cases hB : r.cls = 2
  · rw [startHandling_B s hB, syncQueue_archFace, classB_archFace, hl (by decide)]
  by_cases hC : r.cls = 3
  · rw [startHandling_C s hC, syncQueue_archFace]
    rfl
  · rw [startHandling_D s hA hB hC, syncQueue_archFace]
    rfl

theorem meetManager_archFace (s : State) (r : FaultRec) : (s.meetManager r).archFace = s.archFace := by
  unfold State.meetManager
  split
  · rfl
  split
  · exact startHandling_archFace s r
  split
  · exact startHandling_archFace s r
  split
  · exact syncQueue_archFace _
  split
  · exact archFace_put s _ (by decide)
  split
  · exact (syncQueue_archFace _).trans (archFace_put _ (f := Fld.PRP_QUEUE_DROPPED) _ (by decide))
  · exact (startHandling_archFace _ _).trans (assertSafe_archFace s)

theorem report_archFace (s : State) (code cls src o p : Nat) : (s.report code cls src o p).archFace = s.archFace := by
  unfold State.report
  extract_lets c u
  have hu : u.archFace = s.archFace := by
    unfold u
    split
    · exact assertSafe_archFace s
    · rfl
  clear_value u
  split
  · exact (meetManager_archFace _ _).trans hu
  · exact hu

theorem syncPiers_archFace (s : State) : s.syncPiers.archFace = s.archFace := by
  refine forEach_keeps State.archFace _ s _ fun t o ho => ?_
  split
  · rfl
  · have hxp (k : Fin 64) (v : Nat) : (t.put (Fld.ARC_OUT_STATE_PIERS o) v).xpSt k = t.xpSt k :=
      (blind_xp_sets (g := Fld.ARC_XP_STAT_STATE k) rfl).put t v _ (List.mem_map_of_mem ho)
    simp only [State.archFace, hxp]
    rfl

/-! ### Fields of units that no handling of a fault writes -/

/-- The states of piers and outlets, the Arch's events and the contest bits. -/
def unitFields : List FieldRef :=
  [Fld.ARC_EVT_HO_FAIL, Fld.ARC_EVT_XP_FAULT, Fld.ARC_EVT_CONTEST, Fld.ARC_EVT_CONTEST_SAFE, Fld.ARC_CONTP_PIER, Fld.ARC_CONTO_OUTLET,
    Fld.ARC_CONTX_XP 0, Fld.ARC_CONTX_XP 1] ++
  (List.range 24).map Fld.ARC_PIER_STATE_STATE ++ (List.range 16).map Fld.ARC_OUT_STATE_STATE

theorem unitFields_apart : ∀ g ∈ unitFields, ∀ f ∈ handlingFields ++ safeFields ++ setFields, f.apart g = true := by decide +kernel

theorem pierState_mem_unitFields {c : Nat} (h : c < 24) : Fld.ARC_PIER_STATE_STATE c ∈ unitFields := by
  simp only [unitFields, List.mem_append, List.mem_map_of_mem (List.mem_range.2 h), or_true, true_or]

theorem outState_mem_unitFields {o : Nat} (h : o < 16) : Fld.ARC_OUT_STATE_STATE o ∈ unitFields := by
  simp only [unitFields, List.mem_append, List.mem_map_of_mem (List.mem_range.2 h), or_true]

section
variable {g : FieldRef} (hg : g ∈ unitFields)
include hg

theorem blind_unit : Blind (handlingFields ++ safeFields ++ setFields) (fun s => s.get g) := blind_get (unitFields_apart g hg)

theorem get_report (s : State) (code cls src o p : Nat) : (s.report code cls src o p).get g = s.get g :=
  ((blind_unit hg).mono fun _ hf => List.mem_append_left _ hf).report (fun _ _ => rfl) s code cls src o p

theorem get_syncPiers (s : State) : s.syncPiers.get g = s.get g :=
  ((blind_unit hg).mono fun _ hf => List.mem_append_right _ hf).syncPiers s

theorem get_syncLower (s : State) : s.syncLower.get g = s.get g :=
  ((blind_unit hg).mono fun _ hf => List.mem_append_left _ (List.mem_append_left _ hf)).syncLower s

end

/-- A fault manager that is free before operations of the Arch records the fault that they lead to. -/
theorem report_recorded_offArch {s u : State} (h : u.offArch = s.offArch) {code cls : Nat} (hf : s.parapetFree code cls = true) (hc : cls ≠ 1)
    (src o p : Nat) : Recorded (u.report code cls src o p) code cls src o p := by
  have hr := report_recorded ((parapetFree_of_offArch h code cls).trans hf) src o p
  rwa [if_neg hc, if_neg hc] at hr

theorem recorded_of_prp {s t : State} (h : t.prp = s.prp) {code cls src o p : Nat} (hr : Recorded s code cls src o p) :
    Recorded t code cls src o p := by
  obtain ⟨r, rest, hring, hhand, hrest⟩ := hr
  exact ⟨r, rest, h ▸ hring, h ▸ hhand, hrest⟩

end Sys2Proof.Machine

/-! SUPPORT for O26. The steps of a hand-off: crosspoints that open, contacts that move, checks, matching and their failures. -/

namespace Sys2Proof.Machine

/-! ### A crosspoint and its pier in FAULT (R275, R654) -/

/-- The hand-off of pier c has failed on a crosspoint, and the pier is in FAULT. -/
def State.pierFaulted (s : State) (c : Nat) : State := ((s.arcEvt Fld.ARC_EVT_XP_FAULT).endHand c false).setPier c 10 0x1F

theorem pierFaulted_offArch (s : State) (c : Nat) : (s.pierFaulted c).offArch = s.offArch :=
  endHand_offArch (s.arcEvt Fld.ARC_EVT_XP_FAULT) c false

theorem pierFaulted_pierSt (s : State) (c : Nat) : (s.pierFaulted c).pierSt c = 10 := pierSt_setPier _ c 10 0x1F

theorem pierFaulted_handOf (s : State) (c : Nat) : (s.pierFaulted c).handOf c = none := handOf_endHand _ c false

theorem pierFaulted_arcXp (s : State) (c k : Nat) : (s.pierFaulted c).arcXp k = s.arcXp k := by
  have hx : (s.pierFaulted c).arc.xps = s.arc.xps := endHand_xps (s.arcEvt Fld.ARC_EVT_XP_FAULT) c false
  rw [State.arcXp, State.arcXp, hx]

theorem pierFaulted_evt (s : State) {c : Nat} : (s.pierFaulted c).bit Fld.ARC_EVT_XP_FAULT = true := by
  have hne : Fld.ARC_EVT_XP_FAULT.addr ≠ Reg.ARC_PIER_STATE c := by
    simp only [Fld.ARC_EVT_XP_FAULT, Reg.ARC_EVT, Reg.ARC_PIER_STATE]
    omega
  refine Eq.trans ?_ (bit_putB_same s Fld.ARC_EVT_XP_FAULT true (by decide) (by decide))
  exact (((blind_pierFields hne).map (· != 0)).setPier _ 10 0x1F).trans
    (((blind_handFields hne (by decide)).map (· != 0)).endHand (s.arcEvt Fld.ARC_EVT_XP_FAULT) false)

theorem pierFaulted_xpSt (s : State) {c k : Nat} (hc : c < 24) (hk : k < 64) : (s.pierFaulted c).xpSt k = s.xpSt k := by
  refine ((blind_xp_pier (g := Fld.ARC_XP_STAT_STATE k) rfl hc).setPier _ 10 0x1F).trans
    (((blind_xp_hand (g := Fld.ARC_XP_STAT_STATE k) rfl hc).endHand _ false).trans (get_put_ne s _ ?_))
  simp only [Fld.ARC_XP_STAT_STATE, Fld.ARC_EVT_XP_FAULT, Reg.ARC_XP_STAT, Reg.ARC_EVT]
  omega

/-- The fault of a crosspoint is reported, and LOWER follows the pier's state. -/
def State.xpReported (s : State) (c code o p : Nat) : State :=
  (((s.pierFaulted c).report code clsB 0xFF o p).syncPiers).syncLower

theorem xpReported_archFace (s : State) (c code o p : Nat) : (s.xpReported c code o p).archFace = (s.pierFaulted c).archFace :=
  (syncLower_archFace _).trans ((syncPiers_archFace _).trans (report_archFace _ _ _ _ _ _))

theorem xpReported_get (s : State) (c code o p : Nat) {g : FieldRef} (hg : g ∈ unitFields) :
    (s.xpReported c code o p).get g = (s.pierFaulted c).get g :=
  (get_syncLower hg _).trans ((get_syncPiers hg _).trans (get_report hg _ _ _ _ _ _))

/-- What stands after a crosspoint in FAULT and its pier are reported. -/
theorem xpReported_shows (s : State) {c k : Nat} (hc : c < 24) (hk : k < 64) (code o p : Nat) (hx : s.xpSt k = 5) :
    (s.xpReported c code o p).xpSt k = 5 ∧ (s.xpReported c code o p).pierSt c = 10 ∧ (s.xpReported c code o p).handOf c = none ∧
    (s.xpReported c code o p).bit Fld.ARC_EVT_XP_FAULT = true ∧
    ((s.xpReported c code o p).arcXp k).welded = (s.arcXp k).welded := by
  have hface := xpReported_archFace s c code o p
  obtain ⟨hstate, hweld, -⟩ := marks_of_archFace hface ⟨k, hk⟩
  refine ⟨?_, ?_, ?_, ?_, ?_⟩
  · refine beq_iff_eq.1 (hstate.trans (beq_iff_eq.2 ?_))
    exact (pierFaulted_xpSt s hc hk).trans hx
  · exact (xpReported_get s c code o p (pierState_mem_unitFields hc)).trans (pierFaulted_pierSt s c)
  · exact (handOf_of_archFace hface c).trans (pierFaulted_handOf s c)
  · exact (congrArg (· != 0) (xpReported_get s c code o p (g := Fld.ARC_EVT_XP_FAULT) (by simp [unitFields]))).trans (pierFaulted_evt s)
  · exact hweld.trans (congrArg ArcXp.welded (pierFaulted_arcXp s c k))

theorem xpReported_recorded {s u : State} (h : u.offArch = s.offArch) {code : Nat} (hf : s.parapetFree code 2 = true) (c o p : Nat) :
    Recorded (u.xpReported c code o p) code 2 0xFF o p := by
  refine recorded_of_prp ((syncLower_prp _).trans (prp_of_offArch (syncPiers_offArch _))) ?_
  exact report_recorded_offArch ((pierFaulted_offArch u c).trans h) hf (by decide) 0xFF o p

theorem xpReported_sameMem (s : State) (c code o p : Nat) : SameMem s (s.xpReported c code o p) :=
  sameMem_of_kept (by simp [State.xpReported, State.pierFaulted])

/-! ### Crosspoints that open (R276) -/

/-- The state of a crosspoint once it is commanded open. -/
def opening (st : Nat) (aux : Bool) : Nat := if st = 1 ∨ st = 2 then (if aux = true then 3 else 0) else st

theorem openXp_xpSt (s : State) (k : Nat) : (s.openXp k).xpSt k = opening (s.xpSt k) (s.bit (Fld.ARC_XP_STAT_AUX k)) := by
  unfold State.openXp opening
  dsimp only
  split
  next h =>
    refine (xpSt_setXp _ k _).trans (Eq.trans ?_ (if_pos h).symm)
    change (if s.bit (Fld.ARC_XP_STAT_AUX k) = true then 3 else 0) % 2 ^ 3 = _
    split <;> rfl
  next h => exact (if_neg h).symm

theorem openXp_regs (s : State) (k : Nat) : SameRegs s (s.openXp k) [Reg.ARC_XP_STAT k] := fun a ha => by
  unfold State.openXp
  dsimp only
  split
  · exact reg_put_ne _ (f := Fld.ARC_XP_STAT_STATE k) _ fun e => ha (List.mem_singleton.2 e)
  · rfl

theorem openXp_xps (s : State) (k : Nat) : (s.openXp k).arc.xps = updAt s.arc.xps k (fun x => { x with cmd := false }) := by
  unfold State.openXp
  dsimp only
  split <;> rfl

/-- All that the opening of a crosspoint reads or writes of it. -/
def State.xpView (s : State) (k : Nat) : Nat × Bool × ArcXp := (s.xpSt k, s.bit (Fld.ARC_XP_STAT_AUX k), s.arcXp k)

theorem openXp_xpView_ne (s : State) {j k : Nat} (h : k ≠ j) : (s.openXp j).xpView k = s.xpView k := by
  have hreg : (s.openXp j).reg (Reg.ARC_XP_STAT k) = s.reg (Reg.ARC_XP_STAT k) :=
    openXp_regs s j _ (by simp only [Reg.ARC_XP_STAT, List.mem_singleton]; omega)
  refine Prod.ext (congrArg (fieldOf · 0 3) hreg) (Prod.ext (congrArg (fieldOf · 7 1 != 0) hreg) ?_)
  change nth {} (s.openXp j).arc.xps k = nth {} s.arc.xps k
  rw [openXp_xps]
  exact nth_updAt_ne ({} : ArcXp) s.arc.xps _ h

theorem openXps_regs (l : List Nat) (s : State) : SameRegs s (forEach l s State.openXp) (l.map Reg.ARC_XP_STAT) := fun a ha =>
  forEach_keeps (fun t => t.reg a) l s _ fun t k hk =>
    openXp_regs t k a fun e => ha (List.mem_map.2 ⟨k, hk, (List.mem_singleton.1 e).symm⟩)

/-- Every crosspoint of the list opens, each on its own. -/
theorem openXps_opens {s : State} {l : List Nat} (hd : l.Nodup) (hl : ∀ k ∈ l, k < s.arc.xps.length) (k : Nat) (hk : k ∈ l) :
    ((forEach l s State.openXp).arcXp k).cmd = false ∧
    (forEach l s State.openXp).xpSt k = opening (s.xpSt k) (s.bit (Fld.ARC_XP_STAT_AUX k)) := by
  refine foldl_reaches (A := fun t : State => t.xpView k = s.xpView k ∧ k < t.arc.xps.length)
    (B := fun t : State => (t.arcXp k).cmd = false ∧ t.xpSt k = opening (s.xpSt k) (s.bit (Fld.ARC_XP_STAT_AUX k))) hk hd
    (fun t j hj ht => ⟨(openXp_xpView_ne t hj.symm).trans ht.1, ?_⟩) (fun t ht => ?_) (fun t j hj ht => ?_) ⟨rfl, hl k hk⟩
  · rw [openXp_xps, length_updAt]
    exact ht.2
  · obtain ⟨hview, hlen⟩ := ht
    refine ⟨?_, ?_⟩
    · have hx := nth_updAt_same ({} : ArcXp) (fun x => { x with cmd := false }) hlen
      rw [← openXp_xps t k] at hx
      exact congrArg ArcXp.cmd hx
    · rw [openXp_xpSt, show t.xpSt k = s.xpSt k from congrArg (·.1) hview,
        show t.bit (Fld.ARC_XP_STAT_AUX k) = s.bit (Fld.ARC_XP_STAT_AUX k) from congrArg (·.2.1) hview]
  · have hview := openXp_xpView_ne t hj.symm
    exact ⟨(congrArg (·.2.2.cmd) hview).trans ht.1, (congrArg (·.1) hview).trans ht.2⟩

/-- The crosspoint of a hand-off in step 2 is one that opens. -/
theorem mem_zeroXps_of_handOf {s : State} {c : Nat} {h : HandOff} (hh : s.handOf c = some h) (h2 : h.step = 2) (hx : h.xp ∈ s.pierXps c) :
    h.xp ∈ s.zeroXps c := List.mem_filter.2 ⟨hx, by simp [hh, h2]⟩

theorem zeroCurrentOpen_opens {s : State} (hs : s.shaped = true) {c : Fin 24} (hl : s.localPier c = true)
    (hi : absR (s.pierI (c.val - s.pBase)) < q16 (s.site 0x20 4)) :
    Completes (.zeroCurrentOpen c) s (fun t => (∀ k ∈ s.zeroXps c, (t.arcXp k).cmd = false ∧
        t.xpSt k = (if s.xpSt k = 1 ∨ s.xpSt k = 2 then (if s.bit (Fld.ARC_XP_STAT_AUX k) = true then 3 else 0) else s.xpSt k)) ∧
      SameRegs s t ((s.zeroXps c).map (fun k => Reg.ARC_XP_STAT k)) ∧ SameMem s t) := by
  have hlen : ∀ k ∈ s.zeroXps c, k < s.arc.xps.length := fun k hk => by
    rw [xps_of_shaped hs]
    exact lt_of_mem_pierXps (List.mem_filter.1 hk).1
  refine ⟨forEach (s.zeroXps c) s State.openXp, congrArg Host.Outcome.next (if_neg ?_),
    openXps_opens ((List.nodup_range.filter _).filter _) hlen, openXps_regs _ s, sameMem_of_kept (kept_forEach _ _ _ State.openXp_kept)⟩
  simp [hl, hi]

/-! ### Contacts that move (R274, R275, R282) -/

/-- The auxiliary contact of crosspoint k as it has settled, at its Truss port and in its register. -/
def State.auxShown (s : State) (k : Nat) (closed : Bool) : State :=
  (s.setPort (s.xpAuxPort k) (if closed then 1 else 0)).putB (Fld.ARC_XP_STAT_AUX k) closed

/-- A crosspoint in motion arrives. -/
def State.arrived (s : State) (k : Nat) (closed : Bool) : State :=
  if s.xpSt k = 3 ∧ !closed then s.setXp k 0 else if s.xpSt k = 1 ∧ closed then s.setXp k 2 else s

theorem contactMoved_of_none {s : State} {k : Nat} (closed : Bool) (h : s.handOf (s.xpPier k) = none) :
    s.contactMoved k closed = (s.arrived k closed).settle (s.xpPier k) := by
  unfold State.contactMoved
  simp only [h]
  rfl

/-- A contact that moves in a hand-off: the check of step 2, the ramp of step 5, or no more than its arrival. -/
theorem contactMoved_of_some {s : State} {k : Nat} {closed : Bool} {h : HandOff} (hh : s.handOf (s.xpPier k) = some h) :
    (s.xpSt k = 3 ∧ closed = false ∧ h.step = 2 ∧
      s.contactMoved k closed = ((s.setXp k 4).modHand (s.xpPier k) (fun h => { h with step := 3, xp := k })).modArcPier (s.xpPier k)
        (fun p => { p with weld := some 0, ovr := some 0 })) ∨
    (s.xpSt k = 1 ∧ closed = true ∧ h.step = 5 ∧
      s.contactMoved k closed = (s.setXp k 2).modHand (s.xpPier k) (fun h => { h with step := 6, ramp := 0 })) ∨
    (¬ (s.xpSt k = 3 ∧ closed = false ∧ h.step = 2) ∧ ¬ (s.xpSt k = 1 ∧ closed = true ∧ h.step = 5) ∧
      s.contactMoved k closed = s.arrived k closed) := by
  have hne (b : Bool) : ((!b) = true) = (b = false) := by cases b <;> simp
  unfold State.contactMoved
  simp only [hh, hne]
  by_cases h2 : s.xpSt k = 3 ∧ closed = false ∧ h.step = 2
  · exact .inl ⟨h2.1, h2.2.1, h2.2.2, if_pos h2⟩
  by_cases h5 : s.xpSt k = 1 ∧ closed = true ∧ h.step = 5
  · exact .inr (.inl ⟨h5.1, h5.2.1, h5.2.2, (if_neg h2).trans (if_pos h5)⟩)
  · refine .inr (.inr ⟨h2, h5, (if_neg h2).trans ((if_neg h5).trans ?_)⟩)
    simp only [State.arrived, hne]

theorem arrived_regs (s : State) (k : Nat) (closed : Bool) : SameRegs s (s.arrived k closed) [Reg.ARC_XP_STAT k] := fun a ha => by
  have hset (v : Nat) : (s.setXp k v).reg a = s.reg a := reg_put_ne s (f := Fld.ARC_XP_STAT_STATE k) v fun e => ha (List.mem_singleton.2 e)
  unfold State.arrived
  split
  · exact hset 0
  split
  · exact hset 2
  · rfl

theorem arrived_handOf (s : State) (k : Nat) (closed : Bool) (c : Nat) : (s.arrived k closed).handOf c = s.handOf c := by
  unfold State.arrived
  split
  · rfl
  split <;> rfl

theorem arrived_aux (s : State) (k : Nat) (closed : Bool) :
    (s.arrived k closed).bit (Fld.ARC_XP_STAT_AUX k) = s.bit (Fld.ARC_XP_STAT_AUX k) := by
  unfold State.arrived
  split
  · exact aux_setXp s k k 0
  split
  · exact aux_setXp s k k 2
  · rfl

theorem arrived_offArch (s : State) (k : Nat) (closed : Bool) : (s.arrived k closed).offArch = s.offArch := by
  unfold State.arrived
  split
  · rfl
  split <;> rfl

theorem arrived_closed {s : State} {k : Nat} (h : s.xpSt k = 1) : (s.arrived k true).xpSt k = 2 := by
  have e : s.arrived k true = s.setXp k 2 := (if_neg (by simp)).trans (if_pos ⟨h, rfl⟩)
  exact (congrArg (fun t : State => t.xpSt k) e).trans (xpSt_setXp s k 2)

theorem arrived_open {s : State} {k : Nat} (h : s.xpSt k = 3) : (s.arrived k false).xpSt k = 0 := by
  have e : s.arrived k false = s.setXp k 0 := if_pos ⟨h, rfl⟩
  exact (congrArg (fun t : State => t.xpSt k) e).trans (xpSt_setXp s k 0)

/-! ### A pier that settles (R286, R655) -/

theorem settle_of_resting {s : State} {c : Nat} (h : (s.handOf c).isSome = true ∨ s.pierSt c < 3 ∨ 7 < s.pierSt c) : s.settle c = s :=
  if_pos h

/-- Only crosspoints under check change their state. -/
theorem settle_xpSt {s : State} {c k v : Nat} (hc : c < 24) (hv : v ≠ 4) (h : s.xpSt k = v) : (s.settle c).xpSt k = v := by
  unfold State.settle
  split
  · exact h
  dsimp only
  have hx : (forEach (s.pierXps c) s (fun s k => if s.xpSt k = 4 then
      (s.setXp k 0).modXp k (fun x => { x with unchecked := true }) else s)).xpSt k = v := by
    refine List.foldlRecOn (motive := fun t : State => t.xpSt k = v) _ _ h fun t ht j _ => ?_
    split
    next h4 =>
      have hj : k ≠ j := fun e => hv (by rw [← ht, e, h4])
      exact (xpSt_setXp_ne t 0 hj).trans ht
    next => exact ht
  split
  · exact hx
  · exact ((blind_xp_sets (g := Fld.ARC_XP_STAT_STATE k) rfl).syncPiers _).trans
      (((blind_xp_pier (g := Fld.ARC_XP_STAT_STATE k) rfl hc).declared _).trans hx)

theorem blind_settle_aux (k : Nat) {c : Nat} (hc : c < 24) :
    Blind (pierFields c ++ xpFields ++ setFields) (fun s => s.get (Fld.ARC_XP_STAT_AUX k)) := by
  refine ((blind_xp_pier rfl hc).append (blind_get fun f hf => ?_)).append (blind_xp_sets rfl)
  obtain ⟨j, -, rfl⟩ := List.mem_map.1 hf
  simp [FieldRef.apart, Fld.ARC_XP_STAT_STATE, Fld.ARC_XP_STAT_AUX]

/-- The registers of the Arch alone. -/
theorem settleFields_block {c : Nat} (hc : c < 24) : ∀ f ∈ pierFields c ++ xpFields ++ setFields, f.addr / 0x10000 = 0x4007 := by
  intro f hf
  simp only [pierFields, xpFields, setFields, List.mem_append, List.mem_cons, List.not_mem_nil, or_false, List.mem_map, List.mem_range] at hf
  rcases hf with ((rfl | rfl) | ⟨k, hk, rfl⟩) | ⟨o, ho, rfl⟩
  all_goals
    simp only [Fld.ARC_PIER_STATE_STATE, Fld.ARC_PIER_STATE_OUTLET, Fld.ARC_XP_STAT_STATE, Fld.ARC_OUT_STATE_PIERS, Reg.ARC_PIER_STATE,
      Reg.ARC_XP_STAT, Reg.ARC_OUT_STATE]
    omega

theorem settle_sameBlocks (s : State) {c : Nat} (hc : c < 24) : SameBlocks s (s.settle c) [0x4007] := fun a ha =>
  (blind_reg fun f hf e => ha (by rw [← e, settleFields_block hc f hf]; exact List.mem_singleton_self _)).settle s

/-! ### The auxiliary contact (R274, R275) -/

section
variable {s : State} {k c : Nat} (hp : s.xpPier k = c)
include hp

/-- What a contact that moves leaves of AUX, of the other registers and beyond them. -/
theorem contactMoved_frame {closed : Bool} (hk : k < 64) (hc : c < 24) :
    (s.contactMoved k closed).bit (Fld.ARC_XP_STAT_AUX k) = s.bit (Fld.ARC_XP_STAT_AUX k) ∧
    (s.contactMoved k closed).offArch = s.offArch ∧ SameBlocks s (s.contactMoved k closed) [0x4007] ∧
    ((s.handOf c).isSome = true ∨ s.pierSt c < 3 ∨ 7 < s.pierSt c → SameRegs s (s.contactMoved k closed) [Reg.ARC_XP_STAT k]) := by
  have hblock {t : State} (h : SameRegs s t [Reg.ARC_XP_STAT k]) : SameBlocks s t [0x4007] := fun a ha =>
    h a fun e => ha (by rw [List.mem_singleton.1 e, Reg.ARC_XP_STAT, List.mem_singleton]; omega)
  have hset (v : Nat) : SameRegs s (s.setXp k v) [Reg.ARC_XP_STAT k] := fun a ha =>
    reg_put_ne s (f := Fld.ARC_XP_STAT_STATE k) v fun e => ha (List.mem_singleton.2 e)
  have harr := arrived_regs s k closed
  cases hh : s.handOf c with
  | none =>
    rw [contactMoved_of_none closed (hp ▸ hh), hp]
    refine ⟨?_, (settle_offArch _ c).trans (arrived_offArch s k closed), fun a ha => ?_, fun h => ?_⟩
    · exact (congrArg (· != 0) ((blind_settle_aux k hc).settle _)).trans (arrived_aux s k closed)
    · exact (settle_sameBlocks _ hc a ha).trans (hblock harr a ha)
    · rw [settle_of_resting]
      · exact harr
      · have hst : (s.arrived k closed).pierSt c = s.pierSt c := congrArg (fieldOf · 28 4)
          (harr _ fun e => xpStat_ne_pierState hc (List.mem_singleton.1 e).symm)
        rwa [arrived_handOf, hh, hst]
  | some h =>
    rcases contactMoved_of_some (closed := closed) (hp ▸ hh) with ⟨-, -, -, e⟩ | ⟨-, -, -, e⟩ | ⟨-, -, e⟩
    · rw [e]
      exact ⟨aux_setXp s k k 4, rfl, hblock (hset 4), fun _ => hset 4⟩
    · rw [e]
      exact ⟨aux_setXp s k k 2, rfl, hblock (hset 2), fun _ => hset 2⟩
    · rw [e]
      exact ⟨arrived_aux s k closed, arrived_offArch s k closed, hblock harr, fun _ => harr⟩

/-- Opening in step 2 starts the check. -/
theorem contactMoved_checks {h : HandOff} (hh : s.handOf c = some h) (hx : s.xpSt k = 3) (h2 : h.step = 2) :
    (s.contactMoved k false).xpSt k = 4 ∧ ((s.contactMoved k false).handOf c).map HandOff.step = some 3 := by
  rcases contactMoved_of_some (closed := false) (hp ▸ hh) with ⟨-, -, -, e⟩ | ⟨-, hf, -⟩ | ⟨hn, -⟩
  · rw [e, hp]
    refine ⟨xpSt_setXp s k 4, ?_⟩
    have hm := handOf_modHand (s.setXp k 4) c (f := fun h => { h with step := 3, xp := k }) fun _ => rfl
    exact (congrArg (Option.map HandOff.step) (hm.trans (congrArg (Option.map _) hh)))
  · cases hf
  · exact absurd ⟨hx, rfl, h2⟩ hn

/-- Closing in step 5 starts the ramp. -/
theorem contactMoved_ramps {h : HandOff} (hh : s.handOf c = some h) (hx : s.xpSt k = 1) (h5 : h.step = 5) :
    (s.contactMoved k true).xpSt k = 2 ∧ ((s.contactMoved k true).handOf c).map HandOff.step = some 6 := by
  rcases contactMoved_of_some (closed := true) (hp ▸ hh) with ⟨-, hf, -⟩ | ⟨-, -, -, e⟩ | ⟨-, hn, -⟩
  · cases hf
  · rw [e, hp]
    refine ⟨xpSt_setXp s k 2, ?_⟩
    have hm := handOf_modHand (s.setXp k 2) c (f := fun h => { h with step := 6, ramp := 0 }) fun _ => rfl
    exact (congrArg (Option.map HandOff.step) (hm.trans (congrArg (Option.map _) hh)))
  · exact absurd ⟨hx, rfl, h5⟩ hn

/-- Outside a hand-off a crosspoint in motion arrives. -/
theorem contactMoved_arrives (hc : c < 24) (hh : s.handOf c = none) :
    (s.xpSt k = 1 → (s.contactMoved k true).xpSt k = 2) ∧ (s.xpSt k = 3 → (s.contactMoved k false).xpSt k = 0) := by
  refine ⟨fun hx => ?_, fun hx => ?_⟩
  · rw [contactMoved_of_none true (hp ▸ hh), hp]
    exact settle_xpSt hc (by decide) (arrived_closed hx)
  · rw [contactMoved_of_none false (hp ▸ hh), hp]
    exact settle_xpSt hc (by decide) (arrived_open hx)

end

theorem exec_auxContactFiltered {s : State} {k : Fin 64} (closed : Bool) (hu : s.xpUsed k = true) (hl : s.localPier (s.xpPier k) = true) :
    exec (.auxContactFiltered k closed) s = .next ((s.auxShown k closed).contactMoved k closed) :=
  congrArg Host.Outcome.next (if_neg (by simp [hu, hl]))

theorem auxShown_aux (s : State) (k : Nat) (closed : Bool) : (s.auxShown k closed).bit (Fld.ARC_XP_STAT_AUX k) = closed :=
  bit_putB_same _ _ closed (by simp only [Fld.ARC_XP_STAT_AUX]; decide) Nat.one_pos

theorem auxShown_regs (s : State) (k : Nat) (closed : Bool) : SameRegs s (s.auxShown k closed) [Reg.ARC_XP_STAT k] := fun _ ha =>
  reg_put_ne (s.setPort _ _) (f := Fld.ARC_XP_STAT_AUX k) _ fun e => ha (List.mem_singleton.2 e)

theorem auxShown_xpSt (s : State) (k : Nat) (closed : Bool) : (s.auxShown k closed).xpSt k = s.xpSt k := by
  refine get_put_apart (s.setPort _ _) _ ?_
  simp [FieldRef.apart, Fld.ARC_XP_STAT_STATE, Fld.ARC_XP_STAT_AUX]

theorem auxShown_port (s : State) (k : Nat) (closed : Bool) : (s.auxShown k closed).port (s.xpAuxPort k) = (if closed then 1 else 0) := by
  refine (sget_sset_same 0 s.ports (s.xpAuxPort k) _).trans ?_
  cases closed <;> rfl

theorem auxShown_pierSt (s : State) (k : Nat) (closed : Bool) {c : Nat} (hc : c < 24) : (s.auxShown k closed).pierSt c = s.pierSt c :=
  congrArg (fieldOf · 28 4) (auxShown_regs s k closed _ fun e => xpStat_ne_pierState hc (List.mem_singleton.1 e).symm)

/-- A settled contact shows, and moves its crosspoint and the hand-off of its pier. -/
theorem auxContactFiltered_moves {s : State} (k : Fin 64) (closed : Bool) (hu : s.xpUsed k = true) (hl : s.localPier (s.xpPier k) = true) :
    Completes (.auxContactFiltered k closed) s (fun t => t.bit (Fld.ARC_XP_STAT_AUX k) = closed ∧
      t.port (s.xpAuxPort k) = (if closed then 1 else 0) ∧ SameBlocks s t [0x4007] ∧ SameMem s t ∧
      ((s.handOf (s.xpPier k)).isSome = true ∨ s.pierSt (s.xpPier k) < 3 ∨ 7 < s.pierSt (s.xpPier k) → SameRegs s t [Reg.ARC_XP_STAT k]) ∧
      (∀ h, s.handOf (s.xpPier k) = some h → s.xpSt k = 3 → closed = false → h.step = 2 →
        t.xpSt k = 4 ∧ (t.handOf (s.xpPier k)).map HandOff.step = some 3) ∧
      (∀ h, s.handOf (s.xpPier k) = some h → s.xpSt k = 1 → closed = true → h.step = 5 →
        t.xpSt k = 2 ∧ (t.handOf (s.xpPier k)).map HandOff.step = some 6) ∧
      (s.handOf (s.xpPier k) = none → s.xpSt k = 1 → closed = true → t.xpSt k = 2) ∧
      (s.handOf (s.xpPier k) = none → s.xpSt k = 3 → closed = false → t.xpSt k = 0)) := by
  have hc := lt_of_localPier hl
  have hp : (s.auxShown k closed).xpPier k = s.xpPier k := rfl
  have hx := auxShown_xpSt s k closed
  obtain ⟨haux, hoff, hblocks, hregs⟩ := contactMoved_frame (closed := closed) hp k.isLt hc
  have hport : ((s.auxShown k closed).contactMoved k closed).port (s.xpAuxPort k) = (s.auxShown k closed).port (s.xpAuxPort k) :=
    congrArg (fun l => sget 0 l (s.xpAuxPort k)) (ports_of_offArch hoff)
  have hshown := auxShown_regs s k closed
  refine ⟨_, exec_auxContactFiltered closed hu hl, haux.trans (auxShown_aux s k closed), hport.trans (auxShown_port s k closed),
    fun _ ha => (hblocks _ ha).trans (hshown _ fun e => ha ?_), sameMem_of_kept (by simp [State.auxShown]),
    fun h _ hb => (hregs ?_ _ hb).trans (hshown _ hb), ?_, ?_, ?_, ?_⟩
  · rw [List.mem_singleton.1 e, Reg.ARC_XP_STAT, List.mem_singleton]
    omega
  · rwa [auxShown_pierSt s k closed hc]
  · rintro h hh h3 rfl h2
    exact contactMoved_checks hp hh (hx.trans h3) h2
  · rintro h hh h1 rfl h5
    exact contactMoved_ramps hp hh (hx.trans h1) h5
  · rintro hh h1 rfl
    exact (contactMoved_arrives hp hc hh).1 (hx.trans h1)
  · rintro hh h3 rfl
    exact (contactMoved_arrives hp hc hh).2 (hx.trans h3)

/-- A contact that disagrees with its command is a fault of its crosspoint. -/
theorem exec_auxContactTimeout {s : State} {k : Fin 64} (hu : s.xpUsed k = true) (hl : s.localPier (s.xpPier k) = true) :
    exec (.auxContactTimeout k) s = .next (if s.bit (Fld.ARC_XP_STAT_AUX k) = (s.arcXp k).cmd then s
      else (s.setXp k 5).xpReported (s.xpPier k) 0x0B 0 (2 ^ (s.xpPier k - s.pBase))) := by
  have hbase : (((s.setXp k 5).arcEvt Fld.ARC_EVT_XP_FAULT).endHand (s.xpPier k) false).pBase = s.pBase :=
    pBase_congr (img_of_offArch (endHand_offArch ((s.setXp k 5).arcEvt Fld.ARC_EVT_XP_FAULT) (s.xpPier k) false))
  change execAuxContactTimeout k s = _
  unfold execAuxContactTimeout
  by_cases hd : s.bit (Fld.ARC_XP_STAT_AUX k) = (s.arcXp k).cmd
  · rw [if_pos hd]
    exact congrArg Host.Outcome.next (if_pos (by simp [hd]))
  · rw [if_neg hd, ← hbase]
    exact congrArg Host.Outcome.next (if_neg (by simp [hu, hl, hd]))

theorem auxContactTimeout_fails {s : State} (k : Fin 64) (hu : s.xpUsed k = true) (hl : s.localPier (s.xpPier k) = true)
    (hd : s.bit (Fld.ARC_XP_STAT_AUX k) ≠ (s.arcXp k).cmd) :
    Completes (.auxContactTimeout k) s (fun t => t.xpSt k = 5 ∧ t.pierSt (s.xpPier k) = 10 ∧ t.handOf (s.xpPier k) = none ∧
        t.bit Fld.ARC_EVT_XP_FAULT = true ∧ SameMem s t ∧
        (s.parapetFree 0x0B 2 = true → Recorded t 0x0B 2 0xFF 0 (2 ^ (s.xpPier k - s.pBase)))) := by
  have hc := lt_of_localPier hl
  obtain ⟨hx, hst, hh, he, -⟩ := xpReported_shows (s.setXp k 5) hc k.isLt 0x0B 0 (2 ^ (s.xpPier k - s.pBase)) (xpSt_setXp s k 5)
  refine ⟨_, (exec_auxContactTimeout hu hl).trans (congrArg Host.Outcome.next (if_neg hd)), hx, hst, hh, he, ?_, fun hf => ?_⟩
  · exact xpReported_sameMem (s.setXp k 5) _ _ _ _
  · exact xpReported_recorded (u := s.setXp k 5) rfl hf _ _ _

/-! ### The check of a crosspoint (R652, R654) -/

/-- The rise that R652 expects of pier n, in volts. -/
def State.riseWanted (s : State) (n : Nat) : Rat :=
  if (s.par (0x3C0 + 8 * n) 4 : Rat) / 1000000 = 0 then 0
  else q16 (s.par 0x10 4) * (s.par 0x0C 1 : Rat) / 1000 / ((s.par (0x3C0 + 8 * n) 4 : Rat) / 1000000)

/-- The check of crosspoint k of pier c is over. -/
def State.checkOver (s : State) (c k : Nat) : State :=
  (s.modArcPier c (fun p => { p with weld := none, ovr := none })).modXp k (fun x => { x with unchecked := false })

/-- What a check that passes leads to: the pier is free, or goes on to match. -/
def State.checkPassed (s : State) (c : Nat) (h : HandOff) : State :=
  let u := (s.checkOver c h.xp).setXp h.xp 0
  if h.recv = 0x1F ∨ h.stop then (u.endHand c false).toFree c else u.beginMatch c

/-- The crosspoint is welded. -/
def State.checkWelded (s : State) (c k : Nat) : State := ((s.checkOver c k).setXp k 5).modXp k (fun x => { x with welded := true })

theorem exec_weldCheckEnd {s : State} {c : Fin 24} {h : HandOff} (hh : s.handOf c = some h) (h3 : h.step = 3)
    (hx : s.xpSt h.xp = 4) (rise : Int) : exec (.weldCheckEnd c rise) s = .next (if s.riseWanted (c.val - s.pBase) / 2 ≤ q16i rise then s.checkPassed c h
      else (s.checkWelded c h.xp).xpReported c 0x0A (2 ^ (s.xpOut h.xp - s.oBase)) (2 ^ (c.val - s.pBase))) := by
  change execWeldCheckEnd c rise s = _
  unfold execWeldCheckEnd
  rw [hh]
  exact congrArg Host.Outcome.next (if_neg (by simp [h3, hx]))

/-- A pier that starts to match first repeats the check of an unchecked crosspoint, if it has one (R655). -/
theorem beginMatch_pierSt (s : State) {c : Nat} (hc : c < 24) : (s.beginMatch c).pierSt c = 4 ∨ (s.beginMatch c).pierSt c = 5 := by
  unfold State.beginMatch
  split
  next k _ => exact .inl ((pierSt_setXp _ k 4 hc).trans (pierSt_setPier s c 4 0x1F))
  next => exact .inr (pierSt_setPier s c 5 0x1F)

theorem beginMatch_xpSt (s : State) {c k : Nat} (hc : c < 24) (h : (s.arcXp k).unchecked = false) : (s.beginMatch c).xpSt k = s.xpSt k := by
  have hset (st : Nat) : (s.setPier c st 0x1F).xpSt k = s.xpSt k := (blind_xp_pier (g := Fld.ARC_XP_STAT_STATE k) rfl hc).setPier s st 0x1F
  unfold State.beginMatch
  split
  next j hj =>
    have hne : k ≠ j := by
      rintro rfl
      simpa [h] using List.find?_some hj
    exact (xpSt_setXp_ne _ 4 hne).trans (hset 4)
  next => exact hset 5

/-- A check that passes leaves its crosspoint open: the pier is free where it was released or stopped, and joins on otherwise. -/
theorem checkPassed_shows {s : State} {c : Nat} {h : HandOff} (hc : c < 24) (hk : h.xp < s.arc.xps.length) :
    (s.checkPassed c h).xpSt h.xp = 0 ∧ SameMem s (s.checkPassed c h) ∧
    (if h.recv = 0x1F ∨ h.stop = true then (s.checkPassed c h).handOf c = none ∧ (s.checkPassed c h).pierSt c ≤ 1
      else (s.checkPassed c h).pierSt c = 4 ∨ (s.checkPassed c h).pierSt c = 5) := by
  have hun : (((s.checkOver c h.xp).setXp h.xp 0).arcXp h.xp).unchecked = false :=
    congrArg ArcXp.unchecked (arcXp_modXp (s.modArcPier c _) (fun x => { x with unchecked := false }) hk)
  have hx : ((s.checkOver c h.xp).setXp h.xp 0).xpSt h.xp = 0 := xpSt_setXp _ _ 0
  have hm : ((s.checkOver c h.xp).setXp h.xp 0).kept = s.kept := rfl
  unfold State.checkPassed
  dsimp only
  generalize (s.checkOver c h.xp).setXp h.xp 0 = u at *
  by_cases hr : h.recv = 0x1F ∨ h.stop = true
  · simp only [hr, if_true]
    refine ⟨?_, sameMem_of_kept (by simp [hm]), handOf_endHand u c false, pierSt_toFree _ c⟩
    exact ((blind_xp_pier (g := Fld.ARC_XP_STAT_STATE h.xp) rfl hc).toFree _).trans
      (((blind_xp_hand (g := Fld.ARC_XP_STAT_STATE h.xp) rfl hc).endHand u false).trans hx)
  · simp only [hr, if_false]
    exact ⟨(beginMatch_xpSt u hc hun).trans hx, sameMem_of_kept (by simp [hm]), beginMatch_pierSt u hc⟩

theorem checkWelded_marks {s : State} (c : Nat) {k : Nat} (hk : k < s.arc.xps.length) :
    (s.checkWelded c k).xpSt k = 5 ∧ ((s.checkWelded c k).arcXp k).welded = true := by
  refine ⟨xpSt_setXp _ k 5, congrArg ArcXp.welded (arcXp_modXp _ (fun x => { x with welded := true }) ?_)⟩
  exact (length_updAt s.arc.xps k _).symm ▸ hk

/-- The end of a check, passed or not. -/
theorem weldCheckEnd_decides {s : State} (hs : s.shaped = true) {c : Fin 24} {h : HandOff} (hh : s.handOf c = some h) (h3 : h.step = 3)
    (hk : h.xp < 64) (hx : s.xpSt h.xp = 4) (rise : Int) :
    (s.riseWanted (c.val - s.pBase) / 2 ≤ q16i rise → Completes (.weldCheckEnd c rise) s (fun t => t.xpSt h.xp = 0 ∧ SameMem s t ∧
      (if h.recv = 0x1F ∨ h.stop = true then t.handOf c = none ∧ t.pierSt c ≤ 1 else t.pierSt c = 4 ∨ t.pierSt c = 5))) ∧
    (q16i rise < s.riseWanted (c.val - s.pBase) / 2 → Completes (.weldCheckEnd c rise) s (fun t => t.xpSt h.xp = 5 ∧ t.pierSt c = 10 ∧
      t.handOf c = none ∧ t.bit Fld.ARC_EVT_XP_FAULT = true ∧ SameMem s t ∧ (t.arcXp h.xp).welded = true ∧
      (s.parapetFree 0x0A 2 = true → Recorded t 0x0A 2 0xFF (2 ^ (s.xpOut h.xp - s.oBase)) (2 ^ (c.val - s.pBase))))) := by
  have hlen : h.xp < s.arc.xps.length := (xps_of_shaped hs).symm ▸ hk
  have hexec := exec_weldCheckEnd hh h3 hx rise
  refine ⟨fun hr => ⟨_, hexec.trans (congrArg Host.Outcome.next (if_pos hr)), checkPassed_shows c.isLt hlen⟩,
    fun hr => ⟨_, hexec.trans (congrArg Host.Outcome.next (if_neg (not_le.2 hr))), ?_⟩⟩
  obtain ⟨hw5, hwelded⟩ := checkWelded_marks c hlen
  obtain ⟨hx5, hst, hnone, he, hmark⟩ := xpReported_shows (s.checkWelded c h.xp) c.isLt hk 0x0A (2 ^ (s.xpOut h.xp - s.oBase))
    (2 ^ (c.val - s.pBase)) hw5
  exact ⟨hx5, hst, hnone, he, xpReported_sameMem (s.checkWelded c h.xp) _ _ _ _, hmark.trans hwelded,
    fun hf => xpReported_recorded (u := s.checkWelded c h.xp) rfl hf _ _ _⟩

/-! ### Matching (R284, R285) -/

/-- The matched pier's crosspoint is commanded closed. -/
def State.closing (s : State) (c k : Nat) : State :=
  ((((s.modXp k (fun x => { x with cmd := true })).setXp k 1).setPier c 6 0x1F).modHand c (fun h => { h with step := 5, xp := k })).modArcPier c
    (fun p => { p with ovr := none })

theorem closing_shows {s : State} {c k : Nat} {h : HandOff} (hc : c < 24) (hk : k < s.arc.xps.length) (hh : s.handOf c = some h) :
    (s.closing c k).xpSt k = 1 ∧ ((s.closing c k).arcXp k).cmd = true ∧ (s.closing c k).pierSt c = 6 ∧
    ((s.closing c k).handOf c).map HandOff.step = some 5 ∧ SameRegs s (s.closing c k) [Reg.ARC_XP_STAT k, Reg.ARC_PIER_STATE c] := by
  refine ⟨?_, congrArg ArcXp.cmd (arcXp_modXp s (fun x => { x with cmd := true }) hk), pierSt_setPier _ c 6 0x1F, ?_, fun a ha => ?_⟩
  · exact ((blind_xp_pier (g := Fld.ARC_XP_STAT_STATE k) rfl hc).setPier _ 6 0x1F).trans (xpSt_setXp _ k 1)
  · have hm := handOf_modHand s c (f := fun h => { h with step := 5, xp := k }) fun _ => rfl
    exact congrArg (Option.map HandOff.step) (hm.trans (congrArg (Option.map _) hh))
  · simp only [List.mem_cons, List.not_mem_nil, or_false, not_or] at ha
    obtain ⟨hax, hap⟩ := ha
    have hpier : Blind (pierFields c) (fun t => t.reg a) :=
      blind_reg (List.forall_mem_cons.2 ⟨Ne.symm hap, List.forall_mem_singleton.2 (Ne.symm hap)⟩)
    exact (hpier.setPier _ 6 0x1F).trans (reg_put_ne _ (f := Fld.ARC_XP_STAT_STATE k) 1 hax)

theorem matched_closes {s : State} (hs : s.shaped = true) {c : Fin 24} {h : HandOff} (hh : s.handOf c = some h) (h4 : h.step = 4)
    (hm : s.matched h = true) (hstop : h.stop = false) (hl : s.lowered? c = false) (ho : s.outLowered? h.recv = false) {k : Nat}
    (hk : s.xpOf c h.recv = some k) :
    Completes (.matched c) s (fun t => t.xpSt k = 1 ∧ (t.arcXp k).cmd = true ∧ t.pierSt c = 6 ∧ (t.handOf c).map HandOff.step = some 5 ∧
      SameRegs s t [Reg.ARC_XP_STAT k, Reg.ARC_PIER_STATE c] ∧ SameMem s t) := by
  have hexec : exec (.matched c) s = .next (s.closing c k) := by
    change execMatched c s = _
    unfold execMatched
    rw [hh]
    simp only [h4, hm, hstop, hl, ho, hk]
    rfl
  obtain ⟨hx, hcmd, hst, hstep, hregs⟩ := closing_shows c.isLt (xps_of_shaped hs ▸ lt_of_xpOf hk) hh
  exact ⟨_, hexec, hx, hcmd, hst, hstep, hregs, fun _ => rfl⟩

theorem matchTimeout_frees {s : State} {c : Fin 24} {h : HandOff} (hh : s.handOf c = some h) (h4 : h.step = 4) :
    Completes (.matchTimeout c) s (fun t => t.handOf c = none ∧ t.pierSt c ≤ 1 ∧ SameMem s t ∧
      (h.recv ≠ 0x1F → t.bit Fld.ARC_EVT_HO_FAIL = true) ∧
      (s.parapetFree 0x29 3 = true → Recorded t 0x29 3 0xFF 0 (2 ^ (c.val - s.pBase)))) := by
  have hexec : exec (.matchTimeout c) s = .next (((s.endHand c false).toFree c).reportPier 0x29 clsC 0xFF (c.val - s.pBase)) := by
    change execMatchTimeout c s = _
    unfold execMatchTimeout
    rw [hh]
    exact congrArg Host.Outcome.next (if_neg (not_not.2 h4))
  refine ⟨_, hexec, ?_, ?_, sameMem_of_kept (by simp), fun hr => ?_, fun hf => ?_⟩
  · exact (handOf_of_archFace (report_archFace _ _ _ _ _ _) c).trans (handOf_endHand s c false)
  · exact (get_report (pierState_mem_unitFields c.isLt) _ _ _ _ _ _).trans_le (pierSt_toFree _ c)
  · have hne : Fld.ARC_EVT_HO_FAIL.addr ≠ Reg.ARC_PIER_STATE c := by
      simp only [Fld.ARC_EVT_HO_FAIL, Reg.ARC_EVT, Reg.ARC_PIER_STATE]
      omega
    refine (congrArg (· != 0) ((get_report (g := Fld.ARC_EVT_HO_FAIL) (by simp [unitFields]) _ _ _ _ _ _).trans ?_)).trans (endHand_fails hh hr)
    exact (blind_pierFields hne).toFree _
  · exact report_recorded_offArch (u := (s.endHand c false).toFree c) (endHand_offArch s c false) hf (by decide) 0xFF 0 _

/-- Settles O26: the crosspoints that open, contacts that move or disagree, checks, matching and its timeout, each by its command. -/
theorem handOffStepsAct : Obligations.HandOffStepsAct := by
  unfold Obligations.HandOffStepsAct
  intro s hs
  refine ⟨fun c h hh => ⟨mem_zeroXps_of_handOf hh, ?_, matchTimeout_frees hh, ?_⟩, fun c hl => ⟨zeroCurrentOpen_opens hs hl, ?_⟩,
    fun k hu hl => ⟨fun closed => auxContactFiltered_moves k closed hu hl, auxContactTimeout_fails k hu hl, ?_⟩⟩
  · exact fun h4 hm hstop hlow ho k hk => matched_closes hs hh h4 hm hstop hlow ho hk
  · rintro h3 hk hx rise want rfl
    exact weldCheckEnd_decides hs hh h3 hk hx rise
  · exact fun hi => congrArg Host.Outcome.next (if_pos (by simp [hi]))
  · exact fun he => (exec_auxContactTimeout hu hl).trans (congrArg Host.Outcome.next (if_pos he))

end Sys2Proof.Machine

/-! SUPPORT for O27. Contests: the bit, the state that goes with it, its report, and the write that returns a unit (R287 to R290). -/

namespace Sys2Proof.Machine

/-! ### The contest bit -/

/-- Field and bit that hold a unit's contest. -/
def contestField (kind i : Nat) : FieldRef :=
  match kind with | 0 => Fld.ARC_CONTP_PIER | 1 => Fld.ARC_CONTO_OUTLET | _ => Fld.ARC_CONTX_XP (i / 32)
def contestPos (kind i : Nat) : Nat := match kind with | 0 => i | 1 => i | _ => i % 32

theorem contestBit_eq (s : State) : ∀ kind i, s.contestBit kind i = (s.get (contestField kind i)).testBit (contestPos kind i)
  | 0, _ => rfl
  | 1, _ => rfl
  | _ + 2, _ => rfl

theorem putContest_eq (s : State) (b : Bool) : ∀ kind i, s.putContest kind i b = s.putBit (contestField kind i) (contestPos kind i) b
  | 0, _ => rfl
  | 1, _ => rfl
  | _ + 2, _ => rfl

/-- The fields of contest bits, and with them the events of contests. -/
def contestBits : List FieldRef := [Fld.ARC_CONTP_PIER, Fld.ARC_CONTO_OUTLET, Fld.ARC_CONTX_XP 0, Fld.ARC_CONTX_XP 1]
def contestFields : List FieldRef := contestBits ++ [Fld.ARC_EVT_CONTEST, Fld.ARC_EVT_CONTEST_SAFE]

theorem contestBits_sound : ∀ g ∈ contestBits, g ∈ contestFields ∧ Fld.ARC_EVT_CONTEST.apart g = true ∧
    Fld.ARC_EVT_CONTEST_SAFE.apart g = true := by decide

theorem contestFields_sound : ∀ g ∈ contestFields, g ∈ unitFields ∧ g.lo + g.w ≤ 32 ∧ g.addr < 0x40070100 ∧
    Fld.ARC_EVT_HO_DONE.apart g = true ∧ Fld.ARC_EVT_HO_FAIL.apart g = true := by decide +kernel

/-- A unit of this module has its bit. -/
theorem contestField_of_own {s : State} {kind i : Nat} (h : s.ownUnit kind i = true) (hi : i < 64) :
    contestField kind i ∈ contestBits ∧ contestPos kind i < (contestField kind i).w := by
  match kind with
  | 0 => exact ⟨List.mem_cons_self .., lt_of_localPier h⟩
  | 1 => exact ⟨List.mem_cons_of_mem _ (List.mem_cons_self ..), lt_of_localOut h⟩
  | _ + 2 =>
    refine ⟨?_, Nat.mod_lt _ (by decide)⟩
    have hdiv : i / 32 = 0 ∨ i / 32 = 1 := by omega
    rcases hdiv with h | h <;> simp [contestField, contestBits, h]

theorem contestBit_putContest {s : State} {kind i : Nat} (h : s.ownUnit kind i = true) (hi : i < 64) (b : Bool) :
    (s.putContest kind i b).contestBit kind i = b := by
  obtain ⟨hmem, hw⟩ := contestField_of_own h hi
  have hfit := (contestFields_sound _ (contestBits_sound _ hmem).1).2.1
  rw [contestBit_eq, putContest_eq, State.putBit, get_put_same _ _ _ hfit, Nat.testBit_mod_two_pow, testBit_mset]
  simp [hw]

theorem contestBit_of_get {s t : State} {kind i : Nat} (h : t.get (contestField kind i) = s.get (contestField kind i)) :
    t.contestBit kind i = s.contestBit kind i := by rw [contestBit_eq, contestBit_eq, h]

section
variable {g : FieldRef} (hg : g ∈ contestFields)
include hg

theorem contest_addr_ne {a : Nat} (ha : 0x40070100 ≤ a) : g.addr ≠ a :=
  fun e => absurd (contestFields_sound g hg).2.2.1 (by omega)

/-- Contests stand apart from the units' states. -/
theorem get_put_state (s : State) {f : FieldRef} (v : Nat) (hf : 0x40070100 ≤ f.addr) : (s.put f v).get g = s.get g :=
  get_put_ne s v (contest_addr_ne hg hf)

theorem blind_contest_pier (c : Nat) : Blind (pierFields c) (fun s => s.get g) :=
  blind_pierFields (contest_addr_ne hg (by unfold Reg.ARC_PIER_STATE; omega))

theorem blind_contest_endHandsOf (c : Nat) : Blind (handFields c ++ (pierFields c ++ xpFields ++ setFields)) (fun s => s.get g) := by
  have hxp : Blind xpFields (fun s : State => s.get g) := blind_get_ne fun f hf => by
    obtain ⟨k, -, rfl⟩ := List.mem_map.1 hf
    exact (contest_addr_ne hg (by simp only [Fld.ARC_XP_STAT_STATE, Reg.ARC_XP_STAT]; omega)).symm
  have hset : Blind setFields (fun s : State => s.get g) := blind_get_ne fun f hf => by
    obtain ⟨o, -, rfl⟩ := List.mem_map.1 hf
    exact (contest_addr_ne hg (by simp only [Fld.ARC_OUT_STATE_PIERS, Reg.ARC_OUT_STATE]; omega)).symm
  have hhand : Blind (handFields c) (fun s : State => s.get g) :=
    blind_handFields (contest_addr_ne hg (by unfold Reg.ARC_PIER_STATE; omega)) (contestFields_sound g hg).2.2.2
  exact hhand.append (((blind_contest_pier hg c).append hxp).append hset)

end

theorem outSt_put (s : State) (o v : Nat) : (s.put (Fld.ARC_OUT_STATE_STATE o) v).outSt o = v % 2 ^ 2 :=
  get_put_same s _ v (by simp only [Fld.ARC_OUT_STATE_STATE]; decide)

theorem pierSt_put (s : State) (c v : Nat) : (s.put (Fld.ARC_PIER_STATE_STATE c) v).pierSt c = v % 2 ^ 4 :=
  get_put_same s _ v (by simp only [Fld.ARC_PIER_STATE_STATE]; decide)

/-! ### The report of a contest -/

theorem reportUnit_eq (s : State) (cls : Nat) : ∀ kind i, ∃ o p, s.reportUnit kind i cls = s.report 0x29 cls 0xFF o p
  | 0, _ => ⟨_, _, rfl⟩
  | 1, _ => ⟨_, _, rfl⟩
  | _ + 2, _ => ⟨_, _, rfl⟩

theorem get_reportUnit {g : FieldRef} (hg : g ∈ unitFields) (s : State) (kind i cls : Nat) : (s.reportUnit kind i cls).get g = s.get g := by
  obtain ⟨o, p, e⟩ := reportUnit_eq s cls kind i
  rw [e, get_report hg]

theorem reportUnit_archFace (s : State) (kind i cls : Nat) : (s.reportUnit kind i cls).archFace = s.archFace := by
  obtain ⟨o, p, e⟩ := reportUnit_eq s cls kind i
  rw [e, report_archFace]

/-- A free fault manager records the report, and raises the interrupt of Class C or D. -/
theorem reportUnit_recorded {s : State} {cls : Nat} (hc : cls ≠ 1) (hf : s.parapetFree 0x29 cls = true) (kind i : Nat) :
    (∃ o p, Recorded (s.reportUnit kind i cls) 0x29 cls 0xFF o p) ∧ (cls = 3 → (s.reportUnit kind i cls).prp.irqC = true) ∧
    (cls = 4 → (s.reportUnit kind i cls).prp.irqD = true) := by
  obtain ⟨o, p, e⟩ := reportUnit_eq s cls kind i
  rw [e]
  refine ⟨⟨o, p, report_recorded_offArch rfl hf hc 0xFF o p⟩, ?_, ?_⟩
  · rintro rfl
    exact report_classC hf 0xFF o p
  · rintro rfl
    exact report_classD hf 0xFF o p

/-! ### A contest begins (R287, R288) -/

/-- The unit is contested. -/
def State.contestMarked (s : State) (kind i : Nat) : State :=
  let u := ((s.putContest kind i true).arcEvt Fld.ARC_EVT_CONTEST).endHandsOf kind i
  match kind with
  | 0 => u.put (Fld.ARC_PIER_STATE_STATE i) 8
  | 1 => u.put (Fld.ARC_OUT_STATE_STATE i) 2
  | _ => u

theorem exec_contestDetect {s : State} {kind : Fin 3} {i : Fin 64} (hown : s.ownUnit kind i = true) (hon : s.archOn = true)
    (hb : s.contestBit kind i = false) (ht : s.contestTest kind i = true) :
    exec (.contestDetect kind i) s = .next (((s.contestMarked kind i).reportUnit kind i clsC).syncPiers) :=
  congrArg Host.Outcome.next (if_neg (by simp [hown, hon, hb, ht]))

theorem contestMarked_offArch (s : State) : ∀ kind i, (s.contestMarked kind i).offArch = s.offArch
  | 0, i => (endHandsOf_offArch ((s.putContest 0 i true).arcEvt Fld.ARC_EVT_CONTEST) 0 i).trans rfl
  | 1, i => (endHandsOf_offArch ((s.putContest 1 i true).arcEvt Fld.ARC_EVT_CONTEST) 1 i).trans rfl
  | k + 2, i => (endHandsOf_offArch ((s.putContest (k + 2) i true).arcEvt Fld.ARC_EVT_CONTEST) (k + 2) i).trans rfl

theorem contestMarked_get {g : FieldRef} (hg : g ∈ contestFields) (s : State) (kind i : Nat) :
    (s.contestMarked kind i).get g = ((s.putContest kind i true).arcEvt Fld.ARC_EVT_CONTEST).get g := by
  have hend := Blind.endHandsOf (blind_contest_endHandsOf hg) ((s.putContest kind i true).arcEvt Fld.ARC_EVT_CONTEST) kind i
  match kind with
  | 0 => exact (get_put_state hg _ 8 (by simp only [Fld.ARC_PIER_STATE_STATE, Reg.ARC_PIER_STATE]; omega)).trans hend
  | 1 => exact (get_put_state hg _ 2 (by simp only [Fld.ARC_OUT_STATE_STATE, Reg.ARC_OUT_STATE]; omega)).trans hend
  | _ + 2 => exact hend

/-- The bit, the event and the state of a contested unit. -/
theorem contestMarked_shows {s : State} {kind i : Nat} (hown : s.ownUnit kind i = true) (hi : i < 64) :
    (s.contestMarked kind i).contestBit kind i = true ∧ (s.contestMarked kind i).bit Fld.ARC_EVT_CONTEST = true ∧
    (kind = 0 → (s.contestMarked kind i).pierSt i = 8) ∧ (kind = 1 → (s.contestMarked kind i).outSt i = 2) := by
  obtain ⟨hfield, hevt, -⟩ := contestBits_sound _ (contestField_of_own hown hi).1
  refine ⟨?_, ?_, ?_, ?_⟩
  · exact (contestBit_of_get ((contestMarked_get hfield s kind i).trans (get_put_apart _ 1 hevt))).trans (contestBit_putContest hown hi true)
  · exact (congrArg (· != 0) (contestMarked_get (by decide) s kind i)).trans (bit_putB_same _ _ true (by decide) (by decide))
  · rintro rfl
    exact pierSt_put _ i 8
  · rintro rfl
    exact outSt_put _ i 2

theorem contestDetect_marks {s : State} (kind : Fin 3) (i : Fin 64) (hown : s.ownUnit kind i = true) (hon : s.archOn = true)
    (hb : s.contestBit kind i = false) (ht : s.contestTest kind i = true) :
    Completes (.contestDetect kind i) s (fun t => t.contestBit kind i = true ∧ t.bit Fld.ARC_EVT_CONTEST = true ∧ SameMem s t ∧
      (kind = 0 → t.pierSt i = 8) ∧ (kind = 1 → t.outSt i = 2) ∧ (s.parapetFree 0x29 3 = true → t.prp.irqC = true ∧
        ∃ o p, Recorded t 0x29 3 0xFF o p)) := by
  obtain ⟨hfield, -⟩ := contestBits_sound _ (contestField_of_own hown i.isLt).1
  obtain ⟨hbit, hevt, hpier, hout⟩ := contestMarked_shows hown i.isLt
  have hoff := contestMarked_offArch s kind i
  refine ⟨_, exec_contestDetect hown hon hb ht, ?_⟩
  generalize s.contestMarked kind i = u at *
  have hget {g : FieldRef} (hg : g ∈ unitFields) : ((u.reportUnit kind i clsC).syncPiers).get g = u.get g :=
    (get_syncPiers hg _).trans (get_reportUnit hg u kind i clsC)
  have hprp : ((u.reportUnit kind i clsC).syncPiers).prp = (u.reportUnit kind i clsC).prp := prp_of_offArch (syncPiers_offArch _)
  refine ⟨(contestBit_of_get (hget (contestFields_sound _ hfield).1)).trans hbit, (congrArg (· != 0) (hget (by decide))).trans hevt,
    sameMem_of_kept (by simp [kept_of_offArch hoff]), fun hk => ?_, fun hk => ?_, fun hf => ?_⟩
  · subst hk
    exact (hget (pierState_mem_unitFields (lt_of_localPier hown))).trans (hpier rfl)
  · subst hk
    exact (hget (outState_mem_unitFields (lt_of_localOut hown))).trans (hout rfl)
  · have hfree : u.parapetFree 0x29 clsC = true := (parapetFree_of_offArch hoff 0x29 3).trans hf
    obtain ⟨⟨o, p, hr⟩, hirq, -⟩ := reportUnit_recorded (by decide) hfree kind i
    exact ⟨(congrArg Parapet.irqC hprp).trans (hirq rfl), o, p, recorded_of_prp hprp hr⟩

/-! ### A contest ends (R289) -/

/-- The unit is no longer contested, and a pier takes its declared state. -/
def State.contestEnded (s : State) (kind i : Nat) : State :=
  let u := s.putContest kind i false
  match kind with
  | 0 => u.declared i
  | 1 => u.put (Fld.ARC_OUT_STATE_STATE i) 0
  | _ => u

theorem exec_contestRelease {s : State} {kind : Fin 3} {i : Fin 64} (hown : s.ownUnit kind i = true) (hb : s.contestBit kind i = true)
    (hsafe : s.unitSafe kind i = false) (ht : s.contestTest kind i = false) :
    exec (.contestRelease kind i) s = .next (((s.contestEnded kind i).reportUnit kind i clsD).syncOutStates).syncPiers :=
  congrArg Host.Outcome.next (if_neg (by simp [hown, hb, hsafe, ht]))

theorem contestEnded_offArch (s : State) : ∀ kind i, (s.contestEnded kind i).offArch = s.offArch
  | 0, i => (declared_offArch (s.putContest 0 i false) i).trans rfl
  | 1, _ => rfl
  | _ + 2, _ => rfl

/-- A crosspoint has its bit alone. -/
theorem contestEnded_xp (s : State) (kind i : Nat) : s.contestEnded (kind + 2) i = s.putContest (kind + 2) i false := by
  simp only [State.contestEnded]

theorem contestEnded_get {g : FieldRef} (hg : g ∈ contestFields) (s : State) (kind i : Nat) :
    (s.contestEnded kind i).get g = (s.putContest kind i false).get g := by
  match kind with
  | 0 => exact (blind_contest_pier hg i).declared _
  | 1 => exact get_put_state hg _ 0 (by simp only [Fld.ARC_OUT_STATE_STATE, Reg.ARC_OUT_STATE]; omega)
  | k + 2 => rw [contestEnded_xp]

theorem contestEnded_shows {s : State} {kind i : Nat} (hown : s.ownUnit kind i = true) (hi : i < 64) :
    (s.contestEnded kind i).contestBit kind i = false ∧ (kind = 0 → (s.contestEnded kind i).pierSt i ≤ 2) ∧
    (kind = 1 → (s.contestEnded kind i).outSt i = 0) := by
  have hfield := (contestBits_sound _ (contestField_of_own hown hi).1).1
  refine ⟨(contestBit_of_get (contestEnded_get hfield s kind i)).trans (contestBit_putContest hown hi false), ?_, ?_⟩
  · rintro rfl
    exact pierSt_declared _ i
  · rintro rfl
    exact outSt_put _ i 0

theorem cOut_eq (s : State) (m : Nat) : s.cOut m = m + s.oBase := by
  unfold State.oBase State.cOut
  split <;> omega

/-- A round of `syncOutStates`: the outlet's state follows EN, unless contested or SAFE (R267). -/
def State.syncOutState (s : State) (m : Nat) : State :=
  if s.outSt (s.cOut m) = 2 ∨ s.outSt (s.cOut m) = 3 then s
  else s.put (Fld.ARC_OUT_STATE_STATE (s.cOut m)) (if (s.out m).en then 1 else 0)

theorem syncOutStates_eq (s : State) : s.syncOutStates = forEach (List.range 8) s State.syncOutState := (rfl)

theorem syncOutState_get (s : State) {m : Nat} {g : FieldRef} (h : g.addr ≠ Reg.ARC_OUT_STATE (s.cOut m)) :
    (s.syncOutState m).get g = s.get g := by
  unfold State.syncOutState
  split
  · rfl
  · exact get_put_ne s _ h

theorem syncOutState_offArch (s : State) (m : Nat) : (s.syncOutState m).offArch = s.offArch := by
  unfold State.syncOutState
  split <;> rfl

theorem get_syncOutStates (s : State) {g : FieldRef} (h : ∀ o < 16, g.addr ≠ Reg.ARC_OUT_STATE o) : s.syncOutStates.get g = s.get g := by
  rw [syncOutStates_eq]
  refine forEach_keeps (fun t => t.get g) _ s _ fun t m hm => syncOutState_get t (h _ ?_)
  have hb := oBase_le t
  have hm := List.mem_range.1 hm
  rw [cOut_eq]
  omega

/-- The state of an outlet that is neither contested nor SAFE. -/
theorem syncOutStates_outSt {s : State} {i : Nat} (hown : s.localOut i = true) (h0 : s.outSt i = 0) :
    s.syncOutStates.outSt i = (if (s.out (i - s.oBase)).en then 1 else 0) := by
  simp only [State.localOut, Bool.and_eq_true, decide_eq_true_eq] at hown
  have hc {t : State} (ht : t.offArch = s.offArch) (m : Nat) : t.cOut m = m + s.oBase := by
    rw [cOut_eq, oBase_congr (img_of_offArch ht)]
  have hne (m : Nat) (hm : m ≠ i - s.oBase) : (Fld.ARC_OUT_STATE_STATE i).addr ≠ Reg.ARC_OUT_STATE (m + s.oBase) := by
    simp only [Fld.ARC_OUT_STATE_STATE, Reg.ARC_OUT_STATE]
    omega
  rw [syncOutStates_eq]
  refine (foldl_reaches (A := fun t : State => t.offArch = s.offArch ∧ t.outSt i = 0)
    (B := fun t : State => t.offArch = s.offArch ∧ t.outSt i = (if (s.out (i - s.oBase)).en then 1 else 0))
    (k := i - s.oBase) (List.mem_range.2 (by omega)) List.nodup_range (fun t m hm ht => ⟨(syncOutState_offArch t m).trans ht.1, ?_⟩)
    (fun t ht => ⟨(syncOutState_offArch t _).trans ht.1, ?_⟩)
    (fun t m hm ht => ⟨(syncOutState_offArch t m).trans ht.1, ?_⟩) ⟨rfl, h0⟩).2
  · exact (syncOutState_get t (hc ht.1 m ▸ hne m hm)).trans ht.2
  · have hi : t.cOut (i - s.oBase) = i := by
      rw [hc ht.1]
      omega
    have hen : t.out (i - s.oBase) = s.out (i - s.oBase) := by rw [State.out, State.out, kst_of_offArch ht.1]
    simp only [State.syncOutState, hi, ht.2, hen]
    refine (outSt_put t i _).trans ?_
    split <;> rfl
  · exact (syncOutState_get t (hc ht.1 m ▸ hne m hm)).trans ht.2

theorem contestRelease_ends {s : State} (kind : Fin 3) (i : Fin 64) (hown : s.ownUnit kind i = true) (hb : s.contestBit kind i = true)
    (hsafe : s.unitSafe kind i = false) (ht : s.contestTest kind i = false) :
    Completes (.contestRelease kind i) s (fun t => t.contestBit kind i = false ∧ SameMem s t ∧
      (kind = 0 → t.pierSt i ≤ 2) ∧ (kind = 1 → t.outSt i = (if (s.out (i.val - s.oBase)).en then 1 else 0)) ∧
      (s.parapetFree 0x29 4 = true → t.prp.irqD = true ∧ ∃ o p, Recorded t 0x29 4 0xFF o p)) := by
  obtain ⟨hfield, -⟩ := contestBits_sound _ (contestField_of_own hown i.isLt).1
  obtain ⟨hbit, hpier, hout⟩ := contestEnded_shows hown i.isLt
  have hoff := contestEnded_offArch s kind i
  refine ⟨_, exec_contestRelease hown hb hsafe ht, ?_⟩
  generalize s.contestEnded kind i = u at *
  have hget {g : FieldRef} (hg : g ∈ unitFields) (ho : ∀ o < 16, g.addr ≠ Reg.ARC_OUT_STATE o) :
      (((u.reportUnit kind i clsD).syncOutStates).syncPiers).get g = u.get g :=
    (get_syncPiers hg _).trans ((get_syncOutStates _ ho).trans (get_reportUnit hg u kind i clsD))
  have hprp : (((u.reportUnit kind i clsD).syncOutStates).syncPiers).prp = (u.reportUnit kind i clsD).prp :=
    prp_of_offArch ((syncPiers_offArch _).trans (syncOutStates_offArch _))
  refine ⟨(contestBit_of_get (hget (contestFields_sound _ hfield).1 fun o _ => ?_)).trans hbit,
    sameMem_of_kept (by simp [kept_of_offArch hoff]), fun hk => ?_, fun hk => ?_, fun hf => ?_⟩
  · exact contest_addr_ne hfield (by unfold Reg.ARC_OUT_STATE; omega)
  · subst hk
    refine (hget (pierState_mem_unitFields (lt_of_localPier hown)) fun o ho => ?_).trans_le (hpier rfl)
    simp only [Fld.ARC_PIER_STATE_STATE, Reg.ARC_PIER_STATE, Reg.ARC_OUT_STATE]
    omega
  · subst hk
    have hmem := outState_mem_unitFields (lt_of_localOut hown)
    have himg : (u.reportUnit 1 i clsD).img = s.img := congrArg (·.2.1)
      (((State.reportUnit_kept u 1 i clsD).trans (kept_of_offArch hoff)) : (u.reportUnit 1 i clsD).kept = s.kept)
    have hbase := oBase_congr himg
    have hlocal : (u.reportUnit 1 i clsD).localOut i = true := by
      rw [State.localOut, hbase]
      exact hown
    have hen : ((u.reportUnit 1 i clsD).out (i.val - s.oBase)).en = (s.out (i.val - s.oBase)).en := by
      rw [en_of_archFace (reportUnit_archFace u 1 i clsD), State.out, State.out, kst_of_offArch hoff]
    refine (get_syncPiers hmem _).trans ((syncOutStates_outSt hlocal ?_).trans ?_)
    · exact (get_reportUnit hmem u 1 i clsD).trans (hout rfl)
    · rw [hbase, hen]
  · have hfree : u.parapetFree 0x29 clsD = true := (parapetFree_of_offArch hoff 0x29 4).trans hf
    obtain ⟨⟨o, p, hr⟩, -, hirq⟩ := reportUnit_recorded (by decide) hfree kind i
    exact ⟨(congrArg Parapet.irqD hprp).trans (hirq rfl), o, p, recorded_of_prp hprp hr⟩

/-! ### A contest that lasts (R290) -/

/-- The unit is forced to its safe state. -/
def State.contestForced (s : State) (kind i : Nat) : State :=
  let u := s.arcEvt Fld.ARC_EVT_CONTEST_SAFE
  match kind with
  | 0 => u.setPier i 9 (u.pierOutC i)
  | 1 => u.put (Fld.ARC_OUT_STATE_STATE i) 3
  | _ => u.modXp i (fun x => { x with safe := true })

theorem exec_contestTimeout {s : State} {i : Fin 64} : ∀ {kind : Fin 3}, s.ownUnit kind i = true → s.contestBit kind i = true →
    s.unitSafe kind i = false →
    ∃ o p, exec (.contestTimeout kind i) s = .next (((s.contestForced kind i).report 0x29 clsB 0xFF o p).syncLower) := by
  intro kind hown hb hsafe
  have hgo : ¬ (!s.ownUnit kind i || !s.contestBit kind i || s.unitSafe kind i) = true := by simp [hown, hb, hsafe]
  match kind with
  | 0 => exact ⟨_, _, congrArg Host.Outcome.next (if_neg hgo)⟩
  | 1 => exact ⟨_, _, congrArg Host.Outcome.next (if_neg hgo)⟩
  | 2 => exact ⟨_, _, congrArg Host.Outcome.next (if_neg hgo)⟩

theorem contestForced_offArch (s : State) : ∀ kind i, (s.contestForced kind i).offArch = s.offArch
  | 0, _ => rfl
  | 1, _ => rfl
  | _ + 2, _ => rfl

theorem contestForced_get {g : FieldRef} (hg : g ∈ contestFields) (s : State) (kind i : Nat) :
    (s.contestForced kind i).get g = (s.arcEvt Fld.ARC_EVT_CONTEST_SAFE).get g := by
  match kind with
  | 0 => exact (blind_contest_pier hg i).setPier _ 9 _
  | 1 => exact get_put_state hg _ 3 (by simp only [Fld.ARC_OUT_STATE_STATE, Reg.ARC_OUT_STATE]; omega)
  | _ + 2 => rfl

/-- What the report of a forced unit leaves. -/
theorem get_forcedReport {g : FieldRef} (hg : g ∈ unitFields) (s : State) (code cls src o p : Nat) :
    ((s.report code cls src o p).syncLower).get g = s.get g := (get_syncLower hg _).trans (get_report hg _ _ _ _ _ _)

theorem contestForced_safe {s : State} (hs : s.shaped = true) {kind i : Nat} (hown : s.ownUnit kind i = true) (hi : i < 64) (o p : Nat) :
    (((s.contestForced kind i).report 0x29 clsB 0xFF o p).syncLower).unitSafe kind i = true := by
  match kind with
  | 0 =>
    have hst : (((s.contestForced 0 i).report 0x29 clsB 0xFF o p).syncLower).pierSt i = 9 :=
      (get_forcedReport (pierState_mem_unitFields (lt_of_localPier hown)) _ _ _ _ _ _).trans (pierSt_setPier _ i 9 _)
    exact beq_iff_eq.2 hst
  | 1 =>
    have hst : (((s.contestForced 1 i).report 0x29 clsB 0xFF o p).syncLower).outSt i = 3 :=
      (get_forcedReport (outState_mem_unitFields (lt_of_localOut hown)) _ _ _ _ _ _).trans (outSt_put _ i 3)
    exact beq_iff_eq.2 hst
  | k + 2 =>
    have hface := (syncLower_archFace _).trans (report_archFace (s.contestForced (k + 2) i) 0x29 clsB 0xFF o p)
    have hlen : i < (s.arcEvt Fld.ARC_EVT_CONTEST_SAFE).arc.xps.length := (xps_of_shaped hs).symm ▸ hi
    exact (marks_of_archFace hface ⟨i, hi⟩).2.2.trans (congrArg ArcXp.safe (arcXp_modXp _ (fun x => { x with safe := true }) hlen))

/-- Forcing a unit leaves its contest and is an event. -/
theorem contestForced_shows {s : State} {kind i : Nat} (hown : s.ownUnit kind i = true) (hi : i < 64) (hb : s.contestBit kind i = true) :
    (s.contestForced kind i).contestBit kind i = true ∧ (s.contestForced kind i).bit Fld.ARC_EVT_CONTEST_SAFE = true := by
  obtain ⟨hfield, -, hevt⟩ := contestBits_sound _ (contestField_of_own hown hi).1
  refine ⟨(contestBit_of_get ((contestForced_get hfield s kind i).trans (get_put_apart s 1 hevt))).trans hb, ?_⟩
  exact (congrArg (· != 0) (contestForced_get (by decide) s kind i)).trans
    (bit_putB_same s Fld.ARC_EVT_CONTEST_SAFE true (by decide) (by decide))

theorem contestTimeout_forces {s : State} (hs : s.shaped = true) (kind : Fin 3) (i : Fin 64) (hown : s.ownUnit kind i = true)
    (hb : s.contestBit kind i = true) (hsafe : s.unitSafe kind i = false) :
    Completes (.contestTimeout kind i) s (fun t => t.unitSafe kind i = true ∧ t.contestBit kind i = true ∧
      t.bit Fld.ARC_EVT_CONTEST_SAFE = true ∧ SameMem s t ∧ (s.parapetFree 0x29 2 = true → ∃ o p, Recorded t 0x29 2 0xFF o p)) := by
  have hfield := (contestBits_sound _ (contestField_of_own hown i.isLt).1).1
  obtain ⟨o, p, hexec⟩ := exec_contestTimeout hown hb hsafe
  obtain ⟨hbit, hevt⟩ := contestForced_shows hown i.isLt hb
  have hoff := contestForced_offArch s kind i
  have hforced := contestForced_safe hs hown i.isLt o p
  refine ⟨_, hexec, hforced, ?_⟩
  clear hforced hexec
  generalize s.contestForced kind i = u at *
  refine ⟨(contestBit_of_get (get_forcedReport (contestFields_sound _ hfield).1 u _ _ _ o p)).trans hbit, ?_,
    sameMem_of_kept (by simp [kept_of_offArch hoff]), fun hf => ⟨o, p, ?_⟩⟩
  · exact (congrArg (· != 0) (get_forcedReport (by decide) u _ _ _ o p)).trans hevt
  · exact recorded_of_prp (syncLower_prp _) (report_recorded_offArch hoff hf (by decide) 0xFF o p)

/-! ### Firmware's write of a contest bit (R290) -/

/-- A write that takes effect whole in the Arch's block is that block's. -/
theorem wr_arc {s : State} {m : Master} {a : Nat} (v : Word) (h : s.takes m a = true) (ha : a / 0x10000 = 0x4007) :
    s.wr m a v = s.writeArc a v.toNat := by
  have hb : blockOf a = some .reg := (blockOf_eq_reg_iff a).2 (by omega)
  rw [wr_of_takes v h hb (by omega)]
  unfold State.writeReg
  rw [ha]
  rfl

/-- The registers of the contest bits. -/
theorem writeArc_contest {s : State} (hr : s.role ≠ 2) (v : Nat) : s.writeArc Reg.ARC_CONTP v = s.wrContP v ∧
    s.writeArc Reg.ARC_CONTO v = s.wrContO v ∧ s.writeArc (Reg.ARC_CONTX 0) v = s.wrContX 0 v ∧
    s.writeArc (Reg.ARC_CONTX 1) v = s.wrContX 1 v :=
  ⟨if_neg hr, if_neg hr, if_neg hr, if_neg hr⟩

theorem writeArc_vehicle {s : State} (hr : s.role = 2) (a v : Nat) : s.writeArc a v = s := if_pos hr

theorem mbits_two_pow (i : Fin 24) : mbits (2 ^ i.val) 24 = [i.val] := by
  revert i; decide +kernel

/-- The write of one pier's bit. -/
theorem exec_contestBitWrite_pier {s : State} {m : Master} (ht : s.takes m Reg.ARC_CONTP = true) (i : Fin 24) :
    exec (.contestBitWrite m 0 (BitVec.ofNat 32 (2 ^ i.val))) s = .next (if s.role = 2 then s else s.contestWrite 0 i) := by
  have hv : (BitVec.ofNat 32 (2 ^ i.val)).toNat = 2 ^ i.val :=
    Nat.mod_eq_of_lt (Nat.pow_lt_pow_right (by decide) (i.isLt.trans (by decide)))
  refine congrArg Host.Outcome.next ((wr_arc _ ht (by decide)).trans ?_)
  rw [hv]
  split
  next hr => exact writeArc_vehicle hr _ _
  next hr =>
    rw [(writeArc_contest hr _).1, State.wrContP, mbits_two_pow]
    rfl

/-- The pier has returned from SAFE. -/
def State.pierReturned (s : State) (c : Nat) : State := ((s.putContest 0 c false).toFree c).syncLower

theorem contestWrite_pier (s : State) (c : Nat) : s.contestWrite 0 c =
    if s.localPier c = true ∧ s.pierSt c = 9 ∧ s.contestTest 0 c = false then s.pierReturned c else s := by
  unfold State.contestWrite
  by_cases h : s.localPier c = true ∧ s.pierSt c = 9 ∧ s.contestTest 0 c = false
  · obtain ⟨hl, h9, ht⟩ := h
    refine (if_neg ?_).trans (if_pos ⟨hl, h9, ht⟩).symm
    simp [State.ownUnit, State.unitSafe, hl, h9, ht]
  · refine (if_pos ?_).trans (if_neg h).symm
    simp only [State.ownUnit, State.unitSafe, Bool.or_eq_true, Bool.not_eq_true', beq_eq_false_iff_ne]
    by_contra hn
    simp only [not_or, Bool.not_eq_false, not_not, Bool.not_eq_true] at hn
    exact h ⟨hn.1.1, hn.1.2, hn.2⟩

theorem pierReturned_shows {s : State} {c : Nat} (hl : s.localPier c = true) : (s.pierReturned c).contestBit 0 c = false ∧
    (s.pierReturned c).pierSt c ≤ 1 ∧ SameBlocks s (s.pierReturned c) [0x4004, 0x4007] ∧ SameMem s (s.pierReturned c) := by
  have hc := lt_of_localPier hl
  have hown : s.ownUnit 0 c = true := hl
  have hfield := (contestBits_sound _ (contestField_of_own hown (hc.trans (by decide))).1).1
  refine ⟨?_, (get_syncLower (pierState_mem_unitFields hc) _).trans_le (pierSt_toFree _ c), fun a ha => ?_,
    sameMem_of_kept (by simp [State.pierReturned])⟩
  · refine (contestBit_of_get ?_).trans (contestBit_putContest hown (hc.trans (by decide)) false)
    exact (get_syncLower (contestFields_sound _ hfield).1 _).trans ((blind_contest_pier hfield c).toFree _)
  · simp only [List.mem_cons, List.not_mem_nil, or_false, not_or] at ha
    obtain ⟨h4, h7⟩ := ha
    have hlow (t : State) : t.syncLower.reg a = t.reg a := by
      refine forEach_keeps (fun t => t.reg a) _ t _ fun t l hl => ?_
      have hl := List.mem_range.1 hl
      split
      · rfl
      · exact reg_put_ne t _ fun e => h4 (by rw [e]; simp only [Fld.SPN_LINK_STAT_LOWER_TX, Reg.SPN_LINK_STAT]; omega)
    have hp : Blind (pierFields c) (fun t => t.reg a) := blind_reg fun f hf e => h7 (by
      rw [← e, settleFields_block hc f (List.mem_append_left _ (List.mem_append_left _ hf))])
    exact (hlow _).trans ((hp.toFree _).trans (reg_put_ne s (f := Fld.ARC_CONTP_PIER) _ fun e => h7 (e ▸ rfl)))

/-- Nothing is written where no bit is. -/
theorem exec_contestBitWrite_zero {s : State} {m : Master} {kind : Fin 4}
    (ht : s.takes m (if kind = 0 then Reg.ARC_CONTP else if kind = 1 then Reg.ARC_CONTO else Reg.ARC_CONTX (kind.val - 2)) = true) :
    exec (.contestBitWrite m kind 0) s = .next s := by
  have hbits (n : Nat) : mbits 0 n = [] := by simp [mbits]
  have hzero : s.wrContP 0 = s ∧ s.wrContO 0 = s ∧ (∀ k, s.wrContX k 0 = s) := by
    simp only [State.wrContP, State.wrContO, State.wrContX, hbits]
    exact ⟨rfl, rfl, fun _ => rfl⟩
  have hwrite : s.writeArc Reg.ARC_CONTP 0 = s ∧ s.writeArc Reg.ARC_CONTO 0 = s ∧ s.writeArc (Reg.ARC_CONTX 0) 0 = s ∧
      s.writeArc (Reg.ARC_CONTX 1) 0 = s := by
    by_cases hr : s.role = 2
    · exact ⟨writeArc_vehicle hr _ _, writeArc_vehicle hr _ _, writeArc_vehicle hr _ _, writeArc_vehicle hr _ _⟩
    · obtain ⟨hp, ho, hx0, hx1⟩ := writeArc_contest hr 0
      exact ⟨hp.trans hzero.1, ho.trans hzero.2.1, hx0.trans (hzero.2.2 0), hx1.trans (hzero.2.2 1)⟩
  match kind with
  | 0 => exact congrArg Host.Outcome.next ((wr_arc 0 ht (by decide)).trans hwrite.1)
  | 1 => exact congrArg Host.Outcome.next ((wr_arc 0 ht (by decide)).trans hwrite.2.1)
  | 2 => exact congrArg Host.Outcome.next ((wr_arc 0 ht (by decide)).trans hwrite.2.2.1)
  | 3 => exact congrArg Host.Outcome.next ((wr_arc 0 ht (by decide)).trans hwrite.2.2.2)

/-- Settles O27: a contest begins, ends, forces its unit safe, and firmware's write returns a pier or does nothing. -/
theorem contestsAct : Obligations.ContestsAct := by
  unfold Obligations.ContestsAct
  intro s hs
  refine ⟨fun kind i hown => ⟨contestDetect_marks kind i hown, contestRelease_ends kind i hown, contestTimeout_forces hs kind i hown⟩,
    fun m i ht => ⟨fun hr hl h9 hn => ?_, fun h => ?_⟩, fun m kind ht => exec_contestBitWrite_zero ht⟩
  · refine ⟨s.pierReturned i, ?_, pierReturned_shows hl⟩
    rw [exec_contestBitWrite_pier ht, if_neg hr, contestWrite_pier, if_pos ⟨hl, h9, hn⟩]
  · rw [exec_contestBitWrite_pier ht]
    split
    next => rfl
    next hr =>
      rw [contestWrite_pier, if_neg]
      rintro ⟨hl, h9, hn⟩
      rcases h with h | h | h | h
      · exact hr h
      · exact Bool.false_ne_true (h.symm.trans hl)
      · exact h h9
      · exact Bool.false_ne_true (hn.symm.trans h)

end Sys2Proof.Machine

/-! SUPPORT for O28 and O29. The Girder's units: their record, their status register, and what the writes of a result leave. -/

namespace Sys2Proof.Machine

/-! ### A unit's record -/

theorem grd_of_shaped {s : State} (h : s.shaped = true) : s.grd.length = 2 := by
  simp only [State.shaped, Bool.and_eq_true, beq_iff_eq] at h
  tauto

@[simp] theorem gu_put (s : State) (f : FieldRef) (v u : Nat) : (s.put f v).gu u = s.gu u := (rfl)
@[simp] theorem gu_putB (s : State) (f : FieldRef) (b : Bool) (u : Nat) : (s.putB f b).gu u = s.gu u := (rfl)
@[simp] theorem gu_setPort (s : State) (q v u : Nat) : (s.setPort q v).gu u = s.gu u := (rfl)
@[simp] theorem reg_modGu (s : State) (u : Nat) (f : GUnit → GUnit) (a : Nat) : (s.modGu u f).reg a = s.reg a := (rfl)
@[simp] theorem get_modGu (s : State) (u : Nat) (f : GUnit → GUnit) (g : FieldRef) : (s.modGu u f).get g = s.get g := (rfl)
@[simp] theorem bit_modGu (s : State) (u : Nat) (f : GUnit → GUnit) (g : FieldRef) : (s.modGu u f).bit g = s.bit g := (rfl)
@[simp] theorem port_modGu (s : State) (u : Nat) (f : GUnit → GUnit) (q : Nat) : (s.modGu u f).port q = s.port q := (rfl)
@[simp] theorem grd_put (s : State) (f : FieldRef) (v : Nat) : (s.put f v).grd = s.grd := (rfl)

theorem gu_modGu_same {s : State} {u : Nat} (f : GUnit → GUnit) (h : u < s.grd.length) : (s.modGu u f).gu u = f (s.gu u) :=
  nth_updAt_same _ f h

/-- What an update of one unit's record leaves of every unit's. -/
theorem gu_modGu_keeps {β : Type} (p : GUnit → β) (s : State) (u v : Nat) (f : GUnit → GUnit) (h : ∀ k, p (f k) = p k) :
    p ((s.modGu u f).gu v) = p (s.gu v) := nth_updAt_keeps _ _ u v f p h

@[simp] theorem length_grd_modGu (s : State) (u : Nat) (f : GUnit → GUnit) : (s.modGu u f).grd.length = s.grd.length := length_updAt ..

/-! ### Its status register -/

theorem flagOf_mod (b : Bool) : flagOf b % 2 ^ 1 = flagOf b := by cases b <;> rfl

/-- A flag among fields that lie apart. -/
theorem bit_puts {l : List (FieldRef × Nat)} (s : State) (hw : ∀ x ∈ l, x.1.lo + x.1.w ≤ 32)
    (hd : l.Pairwise fun x y => y.1.apart x.1 = true) {f : FieldRef} {b : Bool} (hf : f.w = 1) (h : (f, flagOf b) ∈ l) :
    (s.puts l).bit f = b := by
  have hg := get_puts s hw hd _ h
  rw [hf, flagOf_mod] at hg
  rw [State.bit, hg]
  cases b <;> rfl

/-- What STAT of unit u shows of its record. -/
def unitShown (u : Nat) (k : GUnit) (pair : Bool) : List (FieldRef × Nat) :=
  [(Fld.GRD_U_STAT_CONT_BUSY u, flagOf (k.cont != [])), (Fld.GRD_U_STAT_INJ_BUSY u, flagOf (k.pend != 0 || k.far != 0 || k.grp.isSome)),
    (Fld.GRD_U_STAT_COVERING u, flagOf (k.far != 0 || (match k.grp with | some g => g.owner != u | none => false))),
    (Fld.GRD_U_STAT_PAIRED u, flagOf pair)]

theorem syncGu_eq (s : State) (u : Nat) : ∃ b, s.syncGu u = s.puts (unitShown u (s.gu u) b) := ⟨_, rfl⟩

theorem unitShown_apart (u : Nat) (k : GUnit) (b : Bool) : (∀ x ∈ unitShown u k b, x.1.lo + x.1.w ≤ 32) ∧
    (unitShown u k b).Pairwise (fun x y => y.1.apart x.1 = true) := by
  simp [unitShown, FieldRef.apart, Fld.GRD_U_STAT_CONT_BUSY, Fld.GRD_U_STAT_INJ_BUSY, Fld.GRD_U_STAT_COVERING, Fld.GRD_U_STAT_PAIRED]

theorem syncGu_shows (s : State) (u : Nat) :
    (s.syncGu u).bit (Fld.GRD_U_STAT_CONT_BUSY u) = ((s.gu u).cont != []) ∧
    (s.syncGu u).bit (Fld.GRD_U_STAT_INJ_BUSY u) = ((s.gu u).pend != 0 || (s.gu u).far != 0 || (s.gu u).grp.isSome) ∧
    (s.syncGu u).bit (Fld.GRD_U_STAT_COVERING u) =
      ((s.gu u).far != 0 || (match (s.gu u).grp with | some g => g.owner != u | none => false)) := by
  obtain ⟨b, e⟩ := syncGu_eq s u
  obtain ⟨hw, hd⟩ := unitShown_apart u (s.gu u) b
  rw [e]
  exact ⟨bit_puts s hw hd rfl (by simp [unitShown]), bit_puts s hw hd rfl (by simp [unitShown]), bit_puts s hw hd rfl (by simp [unitShown])⟩

theorem syncGu_sameRegs (s : State) (u : Nat) : SameRegs s (s.syncGu u) [Reg.GRD_U_STAT u] := fun a ha => by
  obtain ⟨b, e⟩ := syncGu_eq s u
  have hne : a ≠ Reg.GRD_U_STAT u := by simpa using ha
  rw [e]
  refine reg_puts_ne s fun x hx => ?_
  simp only [unitShown, List.mem_cons, List.not_mem_nil, or_false] at hx
  rcases hx with rfl | rfl | rfl | rfl <;> exact hne

/-- A field of STAT that the record does not show is left. -/
theorem bit_syncGu_apart (s : State) (u : Nat) {f : FieldRef} (h : ∀ x ∈ unitShown u (s.gu u) false, x.1.apart f = true) :
    (s.syncGu u).bit f = s.bit f := by
  obtain ⟨b, e⟩ := syncGu_eq s u
  have h' : ∀ x ∈ unitShown u (s.gu u) b, x.1.apart f = true := by simpa [unitShown] using h
  simp only [State.bit, e, get_puts_apart s h']

@[simp] theorem gu_syncGu (s : State) (u v : Nat) : (s.syncGu u).gu v = s.gu v := (rfl)
@[simp] theorem port_syncGu (s : State) (u q : Nat) : (s.syncGu u).port q = s.port q := (rfl)
@[simp] theorem grd_syncGu (s : State) (u : Nat) : (s.syncGu u).grd = s.grd := (rfl)

/-! ### The block's registers -/

/-- The Girder's registers of a unit stand in its block. -/
theorem girderBlock {a u x : Nat} (ha : a = 0x40080000 + 0x2000 * u + x) (hu : u < 2) (hx : x < 0x2000) : a / 0x10000 = 0x4008 := by omega

/-- Every register outside the block 0x4008 reads as before. -/
theorem SameBlocks.of_sameRegs {s t : State} {l : List Nat} {b : Nat} (h : SameRegs s t l) (hl : ∀ a ∈ l, a / 0x10000 = b) :
    SameBlocks s t [b] := fun a ha => h a fun hm => ha (by simp [hl a hm])

theorem SameBlocks.trans {s t u : State} {l : List Nat} (h : SameBlocks s t l) (k : SameBlocks t u l) : SameBlocks s u l :=
  fun a ha => (k a ha).trans (h a ha)

theorem SameBlocks.put {s t : State} {l : List Nat} (h : SameBlocks s t l) {f : FieldRef} (v : Nat) (hf : f.addr / 0x10000 ∈ l) :
    SameBlocks s (t.put f v) l :=
  fun a ha => (reg_put_ne t v fun e => ha (by rw [e]; exact hf)).trans (h a ha)

/-! ### Windows and capture on a new result -/

/-- What of a unit's record the results and the capture leave alone. -/
def GUnit.turn (k : GUnit) : Option GGrp × List GEnt × Nat × Nat := (k.grp, k.cont, k.slice, k.pairNext)

theorem port_setPort_ne (s : State) {q r : Nat} (v : Nat) (h : r ≠ q) : (s.setPort q v).port r = s.port r := sget_sset_ne h _ _

theorem port_setPort_same (s : State) (q v : Nat) : (s.setPort q v).port q = v % 65536 := sget_sset_same _ _ _ _

/-- A reading that sees neither the windows' registers nor their ports sees no window. -/
theorem window_keeps {β : Type} (p : State → β) (hevt : ∀ t v, p (State.put t Fld.GRD_WIN_EVT_LEFT v) = p t)
    (hout : ∀ t v, p (State.put t Fld.GRD_WIN_OUT_OUT v) = p t)
    (hport : ∀ t q v, q = 2122 ∨ q = 2123 → p (State.setPort t q v) = p t) (s : State) (w : Nat) (signed : Bool) (v : Int) :
    p (s.window w signed v).1 = p s := by
  have ports (t : State) : p t.winPorts = p t := (hport _ _ _ (.inr rfl)).trans (hport _ _ _ (.inl rfl))
  unfold State.window
  dsimp only
  split
  · exact (ports _).trans ((hout _ _).trans (hevt s _))
  split
  · exact (ports _).trans (hout s _)
  · rfl

theorem watch_keeps {β : Type} (p : State → β) (hwin : ∀ t w signed v, p (State.window t w signed v).1 = p t)
    (hcap : ∀ t u v trig, p (State.capture t u v trig) = p t) (s : State) (u e : Nat) (signed : Bool) (v : Nat) :
    p (s.watch u e signed v) = p s := by
  have fold (g : State × List Nat → Nat → State × List Nat) (hg : ∀ x w, p (g x w).1 = p x.1) (l : List Nat) (x : State × List Nat) :
      p (l.foldl g x).1 = p x.1 := List.foldlRecOn l g (motive := fun y => p y.1 = p x.1) rfl fun y hy w _ => (hg y w).trans hy
  unfold State.watch
  extract_lets ws r
  have hr : p r.1 = p s := fold _ (fun x w => hwin x.1 w signed _) ws _
  clear_value r
  split
  · exact (hcap _ _ _ _).trans hr
  · exact hr

theorem capture_regs (s : State) (u v : Nat) (trig : Bool) : (s.capture u v trig).regs = s.regs := by
  unfold State.capture
  dsimp only
  split <;> rfl

theorem capture_ports (s : State) (u v : Nat) (trig : Bool) : (s.capture u v trig).ports = s.ports := by
  unfold State.capture
  dsimp only
  split <;> rfl

theorem capture_turn (s : State) (u v : Nat) (trig : Bool) (w : Nat) : ((s.capture u v trig).gu w).turn = (s.gu w).turn := by
  unfold State.capture
  dsimp only
  split
  · rfl
  · refine (gu_modGu_keeps GUnit.turn _ u w _ fun k => ?_).trans (gu_modGu_keeps GUnit.turn s _ w _ fun k => rfl)
    cases k.left with
    | some n => rfl
    | none => cases trig <;> rfl

theorem capture_reg (s : State) (u v : Nat) (trig : Bool) (a : Nat) : (s.capture u v trig).reg a = s.reg a := by
  simp only [State.reg, capture_regs]

theorem watch_reg (s : State) (u e : Nat) (signed : Bool) (v : Nat) {a : Nat} (h : a ≠ Reg.GRD_WIN_EVT ∧ a ≠ Reg.GRD_WIN_OUT) :
    (s.watch u e signed v).reg a = s.reg a :=
  watch_keeps (fun t => t.reg a) (fun t w sg x => window_keeps (fun t => t.reg a) (fun t v => reg_put_ne t v h.1)
    (fun t v => reg_put_ne t v h.2) (fun _ _ _ _ => rfl) t w sg x) (fun t u v trig => capture_reg t u v trig a) s u e signed v

theorem watch_port (s : State) (u e : Nat) (signed : Bool) (v : Nat) {q : Nat} (h : q ≠ 2122 ∧ q ≠ 2123) :
    (s.watch u e signed v).port q = s.port q :=
  watch_keeps (fun t => t.port q) (fun t w sg x => window_keeps (fun t => t.port q) (fun _ _ => rfl) (fun _ _ => rfl)
    (fun t r v hr => port_setPort_ne t v (by omega)) t w sg x) (fun t u v trig => by simp only [State.port, capture_ports]) s u e signed v

theorem watch_turn (s : State) (u e : Nat) (signed : Bool) (v w : Nat) : ((s.watch u e signed v).gu w).turn = (s.gu w).turn :=
  watch_keeps (fun t => (t.gu w).turn) (fun t i sg x => window_keeps (fun t => (t.gu w).turn) (fun _ _ => rfl) (fun _ _ => rfl)
    (fun _ _ _ _ => rfl) t i sg x) (fun t u v trig => capture_turn t u v trig w) s u e signed v

/-! ### The settings of a unit -/

/-- A register that holds no result. -/
def notResult (a : Nat) : Prop := ∀ u < 2, ∀ e < 32, a ≠ Reg.GRD_U_RES u e

theorem groupEntries_congr {s t : State} (h : ∀ a, notResult a → t.reg a = s.reg a) {u g : Nat} (hg : g < 4) :
    t.groupEntries u g = s.groupEntries u g := by
  have htrg : t.reg (Reg.GRD_U_TRG u g) = s.reg (Reg.GRD_U_TRG u g) := h _ fun v hv e he => by
    simp only [Reg.GRD_U_TRG, Reg.GRD_U_RES]; omega
  have hfirst : t.get (Fld.GRD_U_TRG_FIRST u g) = s.get (Fld.GRD_U_TRG_FIRST u g) := congrArg (fieldOf · _ _) htrg
  have hcount : t.get (Fld.GRD_U_TRG_COUNT u g) = s.get (Fld.GRD_U_TRG_COUNT u g) := congrArg (fieldOf · _ _) htrg
  unfold State.groupEntries
  dsimp only
  rw [hfirst, hcount]
  refine ite_congr rfl (fun _ => rfl) fun hc => congrArg some (List.map_congr_left fun i hi => ?_)
  have hi := List.mem_range.1 hi
  rw [h _ fun v hv e he => by simp only [Reg.GRD_U_ENT, Reg.GRD_U_RES]; omega]

theorem listens_congr {s t : State} (h : ∀ a, notResult a → t.reg a = s.reg a) {u g : Nat} (hg : g < 4) (src : Nat) :
    t.listens u g src = s.listens u g src := by
  have hctrl : t.reg (Reg.GRD_U_CTRL u) = s.reg (Reg.GRD_U_CTRL u) := h _ fun v hv e he => by
    simp only [Reg.GRD_U_CTRL, Reg.GRD_U_RES]; omega
  have htrg : t.reg (Reg.GRD_U_TRG u g) = s.reg (Reg.GRD_U_TRG u g) := h _ fun v hv e he => by
    simp only [Reg.GRD_U_TRG, Reg.GRD_U_RES]; omega
  simp only [State.listens, State.bit, State.get, Fld.GRD_U_CTRL_EN, Fld.GRD_U_TRG_EN, Fld.GRD_U_TRG_SRC, hctrl, htrg]

/-- Whether a port's result comes too late is read of settings, of the port and of the cut-off. -/
theorem tooLate_congr {s t : State} (h : ∀ a, notResult a → t.reg a = s.reg a) (hk : t.kst = s.kst) (hp : t.ports = s.ports)
    (u e : Nat) : t.tooLate u e = s.tooLate u e := by
  have hport : t.port (grdPort u e) = s.port (grdPort u e) := by simp only [State.port, hp]
  have hgrp : (List.range 4).any (fun g => t.listens u g 2 && ((t.groupEntries u g).getD []).any (fun x => x.e == e)) =
      (List.range 4).any (fun g => s.listens u g 2 && ((s.groupEntries u g).getD []).any (fun x => x.e == e)) := by
    rw [Bool.eq_iff_iff, List.any_eq_true, List.any_eq_true]
    refine exists_congr fun g => and_congr_right fun hg => ?_
    rw [listens_congr h (List.mem_range.1 hg), groupEntries_congr h (List.mem_range.1 hg)]
  simp only [State.tooLate, hk, hport, hgrp]

theorem convert_congr {s t : State} (hr : t.regs = s.regs) {u : Nat} (hs : (t.gu u).slice = (s.gu u).slice) (w : Nat)
    (raw : List (BitVec 12)) : t.convert u w raw = s.convert u w raw := by
  have hS (f : FieldRef) : t.getS f = s.getS f := by simp only [State.getS, State.get, State.reg, hr]
  simp only [State.convert, State.correct, hs, hS]

/-! ### A result is written -/

theorem ofS_lt (w : Nat) (i : Int) : ofS w i < 2 ^ w := by
  have hp : (0 : Int) < 2 ^ w := by positivity
  have h := Int.emod_lt_of_pos i hp
  exact (Int.toNat_lt (Int.emod_nonneg i hp.ne')).2 (by exact_mod_cast h)

/-- LOST notes a result that nobody has read. -/
def State.lostNoted (s : State) (u e : Nat) : State := if s.bit (Fld.GRD_U_RES_NEW u e) then s.putB (Fld.GRD_U_RES_LOST u e) true else s

/-- The fields of a new result but LOST. -/
def resultShown (u e v : Nat) (sat cover : Bool) : List (FieldRef × Nat) :=
  [(Fld.GRD_U_RES_VALUE u e, v), (Fld.GRD_U_RES_SAT u e, flagOf sat), (Fld.GRD_U_RES_COVER u e, flagOf cover), (Fld.GRD_U_RES_NEW u e, flagOf true)]

/-- The result in its register, before port, windows and capture. -/
def State.resultPut (s : State) (u e v : Nat) (sat cover : Bool) : State :=
  ((((s.lostNoted u e).put (Fld.GRD_U_RES_VALUE u e) v).putB (Fld.GRD_U_RES_SAT u e) sat).putB (Fld.GRD_U_RES_COVER u e) cover).putB
    (Fld.GRD_U_RES_NEW u e) true

theorem resultPut_eq (s : State) (u e v : Nat) (sat cover : Bool) :
    s.resultPut u e v sat cover = (s.lostNoted u e).puts (resultShown u e v sat cover) := (rfl)

theorem writeRes_eq (s : State) (u e : Nat) (signed : Bool) (v : Nat) (sat cover : Bool) : s.writeRes u e signed v sat cover =
    (if (s.resultPut u e v sat cover).tooLate u e then s.resultPut u e v sat cover
      else (s.resultPut u e v sat cover).setPort (grdPort u e) v).watch u e signed v := (rfl)

theorem resultShown_apart (u e v : Nat) (sat cover : Bool) : (∀ x ∈ resultShown u e v sat cover, x.1.lo + x.1.w ≤ 32) ∧
    (resultShown u e v sat cover).Pairwise (fun x y => y.1.apart x.1 = true) ∧
    ∀ x ∈ resultShown u e v sat cover, x.1.addr = Reg.GRD_U_RES u e ∧ x.1.apart (Fld.GRD_U_RES_LOST u e) = true := by
  simp [resultShown, FieldRef.apart, Fld.GRD_U_RES_VALUE, Fld.GRD_U_RES_SAT, Fld.GRD_U_RES_COVER, Fld.GRD_U_RES_NEW, Fld.GRD_U_RES_LOST]

theorem lostNoted_reg (s : State) {u e a : Nat} (h : a ≠ Reg.GRD_U_RES u e) : (s.lostNoted u e).reg a = s.reg a := by
  unfold State.lostNoted
  split
  · exact reg_put_ne s _ h
  · rfl

theorem resultPut_reg (s : State) {u e a : Nat} (v : Nat) (sat cover : Bool) (h : a ≠ Reg.GRD_U_RES u e) :
    (s.resultPut u e v sat cover).reg a = s.reg a := by
  obtain ⟨-, -, haddr⟩ := resultShown_apart u e v sat cover
  rw [resultPut_eq]
  exact (reg_puts_ne _ fun x hx => (haddr x hx).1 ▸ h).trans (lostNoted_reg s h)

theorem resultPut_onlyRegs (s : State) (u e v : Nat) (sat cover : Bool) : OnlyRegs s (s.resultPut u e v sat cover) := by
  unfold State.resultPut State.lostNoted
  split <;> rfl

theorem lostNoted_lost (s : State) (u e : Nat) : (s.lostNoted u e).bit (Fld.GRD_U_RES_LOST u e) =
    (s.bit (Fld.GRD_U_RES_LOST u e) || s.bit (Fld.GRD_U_RES_NEW u e)) := by
  unfold State.lostNoted
  split
  next h => rw [h, Bool.or_true]; exact bit_putB_same s _ _ (by simp [Fld.GRD_U_RES_LOST]) (by simp [Fld.GRD_U_RES_LOST])
  next h => simp [h]

/-- What the register of entry e shows of a result `v` whose predecessor stood in state s. -/
def State.ResultShows (t s : State) (u e v : Nat) (sat cover : Bool) : Prop :=
  t.get (Fld.GRD_U_RES_VALUE u e) = v ∧ t.bit (Fld.GRD_U_RES_SAT u e) = sat ∧ t.bit (Fld.GRD_U_RES_NEW u e) = true ∧
  t.bit (Fld.GRD_U_RES_COVER u e) = cover ∧ t.bit (Fld.GRD_U_RES_LOST u e) = (s.bit (Fld.GRD_U_RES_LOST u e) || s.bit (Fld.GRD_U_RES_NEW u e))

theorem resultPut_shows (s : State) (u e : Nat) {v : Nat} (sat cover : Bool) (hv : v < 65536) :
    (s.resultPut u e v sat cover).ResultShows s u e v sat cover := by
  obtain ⟨hw, hd, hlost⟩ := resultShown_apart u e v sat cover
  rw [resultPut_eq]
  refine ⟨(get_puts _ hw hd (Fld.GRD_U_RES_VALUE u e, v) (by simp [resultShown])).trans (Nat.mod_eq_of_lt hv),
    bit_puts _ hw hd rfl (by simp [resultShown]), bit_puts _ hw hd rfl (by simp [resultShown]),
    bit_puts _ hw hd rfl (by simp [resultShown]), (congrArg (· != 0) (get_puts_apart _ fun x hx => (hlost x hx).2)).trans (lostNoted_lost s u e)⟩

theorem State.ResultShows.of_reg {s r t : State} {u e v : Nat} {sat cover : Bool} (h : r.ResultShows s u e v sat cover)
    (hr : t.reg (Reg.GRD_U_RES u e) = r.reg (Reg.GRD_U_RES u e)) : t.ResultShows s u e v sat cover := by
  unfold State.ResultShows State.bit State.get at *
  simp only [Fld.GRD_U_RES_VALUE, Fld.GRD_U_RES_SAT, Fld.GRD_U_RES_NEW, Fld.GRD_U_RES_COVER, Fld.GRD_U_RES_LOST, hr] at *
  exact h

/-- A result that is not too late shows in its register and at its port, and the queue of no unit moves. -/
theorem writeRes_shows {s : State} {u e v : Nat} (signed sat cover : Bool) (hu : u < 2) (he : e < 32) (hv : v < 65536)
    (hl : s.tooLate u e = false) :
    (s.writeRes u e signed v sat cover).ResultShows s u e v sat cover ∧ (s.writeRes u e signed v sat cover).port (2048 + 32 * u + e) = v ∧
    (∀ w, ((s.writeRes u e signed v sat cover).gu w).turn = (s.gu w).turn) ∧ SameBlocks s (s.writeRes u e signed v sat cover) [0x4008] := by
  have honly := resultPut_onlyRegs s u e v sat cover
  obtain ⟨hkst, hports⟩ : (s.resultPut u e v sat cover).kst = s.kst ∧ (s.resultPut u e v sat cover).ports = s.ports := by
    rw [honly]; exact ⟨rfl, rfl⟩
  have hlate : (s.resultPut u e v sat cover).tooLate u e = false := by
    rw [tooLate_congr (fun a ha => resultPut_reg s v sat cover (ha u hu e he)) hkst hports, hl]
  have heq : s.writeRes u e signed v sat cover = ((s.resultPut u e v sat cover).setPort (grdPort u e) v).watch u e signed v := by
    rw [writeRes_eq, hlate, if_neg Bool.false_ne_true]
  have hres : Reg.GRD_U_RES u e ≠ Reg.GRD_WIN_EVT ∧ Reg.GRD_U_RES u e ≠ Reg.GRD_WIN_OUT := by
    simp only [Reg.GRD_U_RES, Reg.GRD_WIN_EVT, Reg.GRD_WIN_OUT]; omega
  rw [heq]
  refine ⟨State.ResultShows.of_reg (resultPut_shows s u e sat cover hv) (watch_reg _ u e signed v hres), ?_, fun w => ?_, fun a ha => ?_⟩
  · rw [show 2048 + 32 * u + e = grdPort u e from rfl, watch_port _ u e signed v (by unfold grdPort; omega), port_setPort_same,
      Nat.mod_eq_of_lt hv]
  · rw [watch_turn, gu_setPort, honly]; rfl
  · have hblk : Reg.GRD_U_RES u e / 0x10000 = 0x4008 := by simp only [Reg.GRD_U_RES]; omega
    have hne {b : Nat} (hb : b / 0x10000 = 0x4008) : a ≠ b := fun h => ha (by rw [h, hb]; decide)
    exact (watch_reg _ u e signed v ⟨hne (by decide), hne (by decide)⟩).trans (resultPut_reg s v sat cover (hne hblk))

end Sys2Proof.Machine

/-! SUPPORT for O28. Rounds, triggers, group starts and results of a unit, each as the change of its record that STAT then shows. -/

namespace Sys2Proof.Machine

/-- Unit v's record takes a change, and STAT shows it. -/
def State.requeued (s : State) (v : Nat) (f : GUnit → GUnit) : State := (s.modGu v f).syncGu v

theorem requeued_shows {s : State} (h : s.grd.length = 2) {v : Nat} (hv : v < 2) (f : GUnit → GUnit) :
    (s.requeued v f).gu v = f (s.gu v) ∧
    (s.requeued v f).bit (Fld.GRD_U_STAT_CONT_BUSY v) = ((f (s.gu v)).cont != []) ∧
    (s.requeued v f).bit (Fld.GRD_U_STAT_INJ_BUSY v) = ((f (s.gu v)).pend != 0 || (f (s.gu v)).far != 0 || (f (s.gu v)).grp.isSome) ∧
    (s.requeued v f).bit (Fld.GRD_U_STAT_COVERING v) =
      ((f (s.gu v)).far != 0 || (match (f (s.gu v)).grp with | some g => g.owner != v | none => false)) ∧
    SameRegs s (s.requeued v f) [Reg.GRD_U_STAT v] := by
  have hgu : (s.modGu v f).gu v = f (s.gu v) := gu_modGu_same f (h ▸ hv)
  obtain ⟨hc, hi, hf⟩ := syncGu_shows (s.modGu v f) v
  rw [hgu] at hc hi hf
  exact ⟨hgu, hc, hi, hf, syncGu_sameRegs (s.modGu v f) v⟩

theorem ne_zero_of_testBit {m i : Nat} (h : m.testBit i = true) : (m != 0) = true := by
  rw [bne_iff_ne]
  rintro rfl
  simp at h

theorem testBit_mset_same (m i : Nat) (b : Bool) : (mset m i b).testBit i = b := by rw [testBit_mset, if_pos rfl]

/-! ### Continuous rounds (R310) -/

/-- The first LEN entries of unit u as they stand. -/
def State.roundOf (s : State) (u : Nat) : List GEnt :=
  (List.range (min 16 (s.get (Fld.GRD_U_SEQ_LEN u)))).map (fun e => { e := e, w := s.reg (Reg.GRD_U_ENT u e) })

theorem exec_grdContinuousRound {s : State} {u : Fin 2} (he : s.bit (Fld.GRD_U_CTRL_EN u) = true)
    (hc : s.bit (Fld.GRD_U_CTRL_CONT_EN u) = true) (hb : s.calBusy u = false) (hp : s.paired = false) (hn : (s.gu u).cont = []) :
    exec (.grdContinuousRound u) s = .next (s.requeued u fun k => { k with cont := s.roundOf u }) := by
  refine congrArg Host.Outcome.next (if_neg ?_)
  simp [he, hc, hb, hp, hn]

theorem roundOf_busy (s : State) (u : Nat) : (s.roundOf u != []) = decide (s.get (Fld.GRD_U_SEQ_LEN u) ≠ 0) := by
  rw [Bool.eq_iff_iff, bne_iff_ne, decide_eq_true_eq]
  simp only [State.roundOf, ne_eq, List.map_eq_nil_iff, List.range_eq_nil]
  omega

/-! ### Triggers (R311, R312, R313, R317, R329) -/

/-- What a trigger reads of a unit's record. -/
def GUnit.waits (k : GUnit) : Nat × Nat × Option GGrp := (k.pend, k.far, k.grp)

/-- Apart from marks that an event has been seen, state r is s. -/
def State.Marked (s r : State) : Prop := r = { s with grd := r.grd } ∧ r.grd.length = s.grd.length ∧ ∀ v, (r.gu v).waits = (s.gu v).waits

theorem State.Marked.refl (s : State) : s.Marked s := ⟨rfl, rfl, fun _ => rfl⟩

theorem State.Marked.modGu (s : State) (u : Nat) {f : GUnit → GUnit} (h : ∀ k, (f k).waits = k.waits) : s.Marked (s.modGu u f) :=
  ⟨rfl, length_grd_modGu s u f, fun v => gu_modGu_keeps GUnit.waits s u v f h⟩

theorem exec_grdTrigger_pin {s : State} {u : Fin 2} {g k : Fin 4} {rising : Bool} (hl : s.listens u g 1 = true)
    (hg : s.get (Fld.GRD_U_TRG_GSEL u g) = k.val) (he : (s.get (Fld.GRD_U_TRG_EDGE u g)).testBit (if rising then 0 else 1) = true) :
    exec (.grdTrigger u ⟨g, .pin k rising⟩) s = .next (s.trigger u g) :=
  congrArg Host.Outcome.next (if_pos (by simp [hl, hg, he]))

theorem exec_grdTrigger_period {s : State} {u : Fin 2} {g : Fin 4} (hl : s.listens u g 2 = true) (hf : (s.gu u).fired.testBit g = false) :
    exec (.grdTrigger u ⟨g, .period⟩) s = .next ((s.modGu u (fun k => { k with fired := mset k.fired g true })).trigger u g) :=
  congrArg Host.Outcome.next ((if_pos hl).trans (if_neg (by simp [hf])))

theorem exec_grdTrigger_port {s : State} {u : Fin 2} {g : Fin 4} (hl : s.listens u g 3 = true) (hn : (s.gu u).seen.testBit g = false)
    (hp : (s.outPort (2176 + 4 * u.val + g.val)).testBit 0 = true) :
    exec (.grdTrigger u ⟨g, .port⟩) s = .next ((s.modGu u (fun k => { k with seen := mset k.seen g true })).trigger u g) := by
  have hp' : (s.outPort (trgPort u g)).testBit 0 = true := hp
  refine congrArg Host.Outcome.next ((if_pos hl).trans ?_)
  simp only [State.portEdge, hn, hp', Bool.not_false, Bool.and_self, if_true]

section
variable {s r : State} (h : s.Marked r) {u : Fin 2} {g : Fin 4}
include h

theorem State.Marked.groupEntries : r.groupEntries u g = s.groupEntries u g := by rw [h.1]; rfl

theorem State.Marked.bit (f : FieldRef) : r.bit f = s.bit f := by rw [h.1]; rfl

theorem State.Marked.reg (a : Nat) : r.reg a = s.reg a := by rw [h.1]; rfl

theorem State.Marked.mem : r.mem = s.mem := by rw [h.1]

theorem State.Marked.waits (v : Nat) : (r.gu v).pend = (s.gu v).pend ∧ (r.gu v).far = (s.gu v).far ∧ (r.gu v).grp = (s.gu v).grp := by
  simpa only [GUnit.waits, Prod.mk.injEq] using h.2.2 v

/-- A group that passes entry 31 counts an overrun. -/
theorem trigger_of_none (hn : s.groupEntries u g = none) : r.trigger u g = r.tovr u g :=
  if_pos (by rw [h.groupEntries, hn]; rfl)

/-- A group that is pending counts an overrun. -/
theorem trigger_of_pending (he : (s.groupEntries u g).isSome = true) (hb : s.calBusy u = false) (hp : (s.gu u).pend.testBit g = true) :
    r.trigger u g = r.tovr u g := by
  have he' : (r.groupEntries u g).isNone = false := by rw [h.groupEntries]; simpa using he
  have hb' : r.calBusy u = false := (h.bit _).trans hb
  have hp' : (r.gu u).pend.testBit g = true := by rw [(h.waits u).1, hp]
  simp [State.trigger, he', hb', hp']

/-- A group of its own becomes pending. -/
theorem trigger_own (hen : s.bit (Fld.GRD_U_CTRL_EN u) = true) (he : (s.groupEntries u g).isSome = true) (hb : s.calBusy u = false)
    (hg : (s.gu u).grp = none) (hp : (s.gu u).pend.testBit g = false) :
    r.trigger u g = r.requeued u (fun k => { k with pend := mset k.pend g true }) := by
  have he' : (r.groupEntries u g).isNone = false := by rw [h.groupEntries]; simpa using he
  have hb' : r.calBusy u = false := (h.bit _).trans hb
  have hen' : r.bit (Fld.GRD_U_CTRL_EN u) = true := (h.bit _).trans hen
  obtain ⟨hpend, -, hgrp⟩ := h.waits u
  simp [State.trigger, State.requeued, he', hb', hen', hpend, hp, hgrp, hg]

/-- While its unit calibrates, the group waits with the other unit. -/
theorem trigger_far (hen : s.bit (Fld.GRD_U_CTRL_EN (1 - u.val)) = true) (he : (s.groupEntries u g).isSome = true) (hb : s.calBusy u = true)
    (hg : (s.gu (1 - u.val)).grp = none) (hp : (s.gu (1 - u.val)).far.testBit g = false) :
    r.trigger u g = r.requeued (1 - u.val) (fun k => { k with far := mset k.far g true }) := by
  have he' : (r.groupEntries u g).isNone = false := by rw [h.groupEntries]; simpa using he
  have hb' : r.calBusy u = true := (h.bit _).trans hb
  have hen' : r.bit (Fld.GRD_U_CTRL_EN (1 - u.val)) = true := (h.bit _).trans hen
  have hu : ¬ 1 - u.val = u.val := by omega
  obtain ⟨-, hfar, hgrp⟩ := h.waits (1 - u.val)
  simp [State.trigger, State.requeued, he', hb', hen', hfar, hp, hgrp, hg, hu]

/-- What a trigger leads to: an overrun, a pending group, or one that the other unit covers. -/
theorem trigger_acts (hs : s.grd.length = 2) (hen : s.bit (Fld.GRD_U_CTRL_EN u) = true) {i : Instr} (hi : exec i s = .next (r.trigger u g)) :
    (s.groupEntries u g = none → exec i s = .next (r.tovr u g)) ∧
    ((s.groupEntries u g).isSome = true → s.calBusy u = false → (s.gu u).grp = none →
      ((s.gu u).pend.testBit g = true → exec i s = .next (r.tovr u g)) ∧
      ((s.gu u).pend.testBit g = false → Completes i s (fun t => (t.gu u).pend.testBit g = true ∧
        t.bit (Fld.GRD_U_STAT_INJ_BUSY u) = true ∧ SameRegs s t [Reg.GRD_U_STAT u] ∧ SameMem s t))) ∧
    ((s.groupEntries u g).isSome = true → s.calBusy u = true → s.bit (Fld.GRD_U_CTRL_EN (1 - u.val)) = true →
      (s.gu (1 - u.val)).grp = none → (s.gu (1 - u.val)).far.testBit g = false →
      Completes i s (fun t => (t.gu (1 - u.val)).far.testBit g = true ∧
        t.bit (Fld.GRD_U_STAT_COVERING (1 - u.val)) = true ∧ SameRegs s t [Reg.GRD_U_STAT (1 - u.val)] ∧ SameMem s t)) := by
  have hlen : r.grd.length = 2 := h.2.1.trans hs
  have hmem {v : Nat} {f : GUnit → GUnit} : SameMem s (r.requeued v f) := fun a => congrArg (sget 0 · a) h.mem
  have hregs {l : List Nat} {t : State} (k : SameRegs r t l) : SameRegs s t l := fun a ha => (k a ha).trans (h.reg a)
  refine ⟨fun hn => by rw [hi, trigger_of_none h hn], fun he hb hg => ⟨fun hp => by rw [hi, trigger_of_pending h he hb hp], fun hp => ?_⟩,
    fun he hb hen1 hg hp => ?_⟩
  · rw [trigger_own h hen he hb hg hp] at hi
    obtain ⟨hgu, -, hinj, -, hr⟩ := requeued_shows hlen u.isLt fun k => { k with pend := mset k.pend g true }
    refine ⟨_, hi, by rw [hgu]; exact testBit_mset_same .., ?_, hregs hr, hmem⟩
    rw [hinj, ne_zero_of_testBit (testBit_mset_same _ g true)]
    rfl
  · rw [trigger_far h hen1 he hb hg hp] at hi
    obtain ⟨hgu, -, -, hcov, hr⟩ := requeued_shows hlen (v := 1 - u.val) (by omega) fun k => { k with far := mset k.far g true }
    refine ⟨_, hi, by rw [hgu]; exact testBit_mset_same .., ?_, hregs hr, hmem⟩
    rw [hcov, ne_zero_of_testBit (testBit_mset_same _ g true)]
    rfl

end

/-! ### Group starts (R315, R330) -/

theorem exec_grdGroupStart_own {s : State} {u : Fin 2} {g : Nat} (he : s.bit (Fld.GRD_U_CTRL_EN u) = true) (hn : (s.gu u).grp = none)
    (hb : s.calBusy u = false) (hg : (mbits (s.gu u).pend 4).head? = some g) :
    exec (.grdGroupStart u) s = .next (s.requeued u fun k =>
      { k with pend := mset k.pend g false, grp := some ⟨u, g, (s.groupEntries u g).getD []⟩ }) := by
  refine congrArg Host.Outcome.next ((if_neg (by simp [he, hn, hb])).trans ?_)
  rw [hg]
  rfl

theorem exec_grdGroupStart_far {s : State} {u : Fin 2} {g : Nat} (he : s.bit (Fld.GRD_U_CTRL_EN u) = true) (hn : (s.gu u).grp = none)
    (hb : s.calBusy u = false) (hp : (mbits (s.gu u).pend 4).head? = none) (hg : (mbits (s.gu u).far 4).head? = some g) :
    exec (.grdGroupStart u) s = .next (s.requeued u fun k =>
      { k with far := mset k.far g false, grp := some ⟨1 - u.val, g, (s.groupEntries (1 - u.val) g).getD []⟩ }) := by
  refine congrArg Host.Outcome.next ((if_neg (by simp [he, hn, hb])).trans ?_)
  rw [hp, hg]
  rfl

/-! ### Results (R303, R304, R319, R321) -/

theorem tooLate_modGu (s : State) (u v e : Nat) (f : GUnit → GUnit) : (s.modGu u f).tooLate v e = s.tooLate v e :=
  tooLate_congr (fun _ _ => rfl) rfl rfl v e

/-- A result of an input of the unit's own entry. -/
theorem entryResult_own {s : State} {u : Nat} {x : GEnt} (raw : List (BitVec 12)) (h : x.w % 64 < 32) : s.entryResult u u x raw =
    (s.converted u (convCount x.w)).writeRes u x.e (x.w.testBit 7) (ofS 16 (s.convert u x.w raw).1) (s.convert u x.w raw).2 false := by
  have hc : ¬ 32 ≤ x.w % 64 := by omega
  have hr : ¬ 56 ≤ x.w % 64 := by omega
  simp [State.entryResult, hc, hr]

/-- A reserved input has no result. -/
theorem entryResult_reserved {s : State} {u : Nat} {x : GEnt} (raw : List (BitVec 12)) (h : 56 ≤ x.w % 64) : s.entryResult u u x raw =
    s.writeRes u x.e (x.w.testBit 7) 0x8000 false false := by
  have hc : ¬ x.w % 64 < 56 := by omega
  simp [State.entryResult, h, hc]

/-- An entry in front of the queue has its result: the queue moves on by `f`. -/
def State.entryDone (s : State) (u : Nat) (f : GUnit → GUnit) (x : GEnt) (raw : List (BitVec 12)) : State :=
  ((s.modGu u f).entryResult u u x raw).syncGu u

theorem exec_grdConversionResult_group {s : State} {u : Fin 2} (raw : List (BitVec 12)) {grp : GGrp} {x : GEnt} {rest : List GEnt}
    (he : s.bit (Fld.GRD_U_CTRL_EN u) = true) (hp : s.paired = false) (hg : (s.gu u).grp = some grp) (ho : grp.owner = u.val)
    (hl : grp.left = x :: rest) : exec (.grdConversionResult u true raw) s =
      .next (s.entryDone u (fun k => { k with grp := if rest = [] then none else some { grp with left := rest } }) x raw) := by
  refine congrArg Host.Outcome.next ((if_neg (by simp [hp])).trans ((if_neg (by simp [he])).trans ((if_pos rfl).trans ?_)))
  rw [hg]
  dsimp only
  rw [hl, ho]
  rfl

theorem exec_grdConversionResult_cont {s : State} {u : Fin 2} (raw : List (BitVec 12)) {x : GEnt} {rest : List GEnt}
    (he : s.bit (Fld.GRD_U_CTRL_EN u) = true) (hp : s.paired = false) (hc : (s.gu u).cont = x :: rest) :
    exec (.grdConversionResult u false raw) s = .next (s.entryDone u (fun k => { k with cont := rest }) x raw) := by
  refine congrArg Host.Outcome.next ((if_neg (by simp [hp])).trans ((if_neg (by simp [he])).trans ((if_neg (by decide)).trans ?_)))
  rw [hc]
  rfl

/-- What a result of value `v` and a move of the queue to `turn` leave. -/
def State.ResultDone (s t : State) (u e v : Nat) (sat : Bool) (turn : Option GGrp × List GEnt × Nat × Nat) : Prop :=
  t.ResultShows s u e v sat false ∧ t.port (2048 + 32 * u + e) = v ∧ (t.gu u).turn = turn ∧ SameBlocks s t [0x4008]

theorem resultDone_syncGu {s r : State} {u e v : Nat} {sat : Bool} {turn : Option GGrp × List GEnt × Nat × Nat} (hu : u < 2)
    (h : s.ResultDone r u e v sat turn) : s.ResultDone (r.syncGu u) u e v sat turn := by
  obtain ⟨hres, hport, hturn, hblk⟩ := h
  have hne : Reg.GRD_U_RES u e ≠ Reg.GRD_U_STAT u := by simp only [Reg.GRD_U_RES, Reg.GRD_U_STAT]; omega
  refine ⟨State.ResultShows.of_reg hres (syncGu_sameRegs r u _ (by simpa using hne)), hport, hturn,
    hblk.trans (SameBlocks.of_sameRegs (syncGu_sameRegs r u) fun a ha => ?_)⟩
  rw [List.mem_singleton.1 ha]
  exact girderBlock (x := 4) (by simp only [Reg.GRD_U_STAT]; omega) hu (by decide)

section
variable {s : State} (hs : s.grd.length = 2) {u : Nat} (hu : u < 2) {x : GEnt} (he : x.e < 32) (hl : s.tooLate u x.e = false)
  {f : GUnit → GUnit} (hf : ∀ k, (f k).slice = k.slice) (raw : List (BitVec 12))
include hs hu he hl

/-- A reserved input gives 0x8000. -/
theorem entryDone_reserved (f : GUnit → GUnit) (hw : 56 ≤ x.w % 64) :
    s.ResultDone (s.entryDone u f x raw) u x.e 0x8000 false (f (s.gu u)).turn := by
  refine resultDone_syncGu hu ?_
  rw [entryResult_reserved raw hw]
  obtain ⟨hres, hport, hturn, hblk⟩ := writeRes_shows (s := s.modGu u f) (v := 0x8000) (x.w.testBit 7) false false hu he (by decide)
    ((tooLate_modGu s u u x.e f).trans hl)
  exact ⟨hres, hport, by rw [hturn, gu_modGu_same f (hs ▸ hu)], hblk⟩

include hf

/-- An input of the unit gives the corrected mean of its codes, and the slices move on. -/
theorem entryDone_own (hw : x.w % 64 < 32) : s.ResultDone (s.entryDone u f x raw) u x.e (ofS 16 (s.convert u x.w raw).1)
    (s.convert u x.w raw).2 ((f (s.gu u)).grp, (f (s.gu u)).cont, ((s.gu u).slice + convCount x.w) % 4, (f (s.gu u)).pairNext) := by
  have hgu : (s.modGu u f).gu u = f (s.gu u) := gu_modGu_same f (hs ▸ hu)
  have hslice : ((s.modGu u f).gu u).slice = (s.gu u).slice := by rw [hgu, hf]
  have hconv := convert_congr (s := s) (t := s.modGu u f) rfl hslice x.w raw
  refine resultDone_syncGu hu ?_
  rw [entryResult_own raw hw, hconv]
  have hv : ofS 16 (s.convert u x.w raw).1 < 65536 := ofS_lt 16 _
  generalize ofS 16 (s.convert u x.w raw).1 = v at hv ⊢
  obtain ⟨hres, hport, hturn, hblk⟩ := writeRes_shows (s := (s.modGu u f).converted u (convCount x.w)) (x.w.testBit 7)
    (s.convert u x.w raw).2 false hu he hv ((tooLate_modGu _ u u x.e _).trans ((tooLate_modGu s u u x.e f).trans hl))
  refine ⟨hres, hport, ?_, hblk⟩
  rw [hturn, State.converted, gu_modGu_same _ (by rw [length_grd_modGu, hs]; exact hu), hgu, GUnit.turn, hf]

end

/-! ### Paired mode (R308) -/

theorem exec_grdConversionResult_otherTurn {s : State} {u : Fin 2} (inj : Bool) (raw : List (BitVec 12)) (hp : s.paired = true)
    (hn : (s.gu 0).pairNext ≠ u.val) : exec (.grdConversionResult u inj raw) s = .next s :=
  congrArg Host.Outcome.next ((if_pos hp).trans (if_pos hn))

theorem pairedSample_shows {s : State} (hs : s.grd.length = 2) {u : Nat} (hu : u < 2) (raw : List (BitVec 12))
    (hn : (s.gu 0).pairNext = u) : ((s.pairedSample u raw).gu 0).pairNext = 1 - u ∧
      ((s.pairedSample u raw).gu u).slice = ((s.gu u).slice + 1) % 4 ∧ (s.pairedSample u raw).regs = s.regs := by
  have hlen : (s.converted u 1).grd.length = 2 := (length_grd_modGu ..).trans hs
  have hconv : (((s.converted u 1).modGu 0 fun k => { k with pairNext := 1 - u }).gu u).slice = ((s.gu u).slice + 1) % 4 := by
    rw [gu_modGu_keeps GUnit.slice _ 0 u (fun k => { k with pairNext := 1 - u }) fun _ => rfl, State.converted, gu_modGu_same _ (hs ▸ hu)]
  unfold State.pairedSample
  rw [if_neg (not_not.2 hn)]
  dsimp only
  have hturn := capture_turn ((s.converted u 1).modGu 0 fun k => { k with pairNext := 1 - u }) 0
  refine ⟨(congrArg (fun q => q.2.2.2) (hturn _ _ 0)).trans ?_, (congrArg (fun q => q.2.2.1) (hturn _ _ u)).trans hconv, capture_regs ..⟩
  exact congrArg GUnit.pairNext (gu_modGu_same (fun k => { k with pairNext := 1 - u }) (hlen ▸ Nat.two_pos))

theorem exec_grdConversionResult_paired {s : State} {u : Fin 2} (inj : Bool) (raw : List (BitVec 12)) (hp : s.paired = true) :
    exec (.grdConversionResult u inj raw) s = .next (s.pairedSample u raw) := congrArg Host.Outcome.next (if_pos hp)

/-- Settles O28: rounds, triggers and starts as changes of the queue that STAT shows, results as writes of a register and its port. -/
theorem girderConverts : Obligations.GirderConverts := by
  unfold Obligations.GirderConverts
  intro s u hs hen
  have hlen := grd_of_shaped hs
  have mem {i : Instr} {t : State} (h : exec i s = .next t) := memoryChangesOnlyByItsWriters i s t h
  refine ⟨fun hc hb hp hn => ?_, fun g evt r hevt => ?_, fun hn hb => ⟨fun g hg => ?_, fun g hp hg => ?_⟩,
    fun raw x rest hp he hl => ⟨fun grp hg ho hleft => ⟨fun hw => ?_, fun hw => ?_⟩, fun hc hw => ?_⟩,
    fun inj raw hp => ⟨fun hn => ?_, exec_grdConversionResult_otherTurn inj raw hp⟩⟩
  · have hi := exec_grdContinuousRound hen hc hb hp hn
    obtain ⟨hgu, hcont, -, -, hr⟩ := requeued_shows hlen u.isLt fun k => { k with cont := s.roundOf u }
    exact ⟨_, hi, by rw [hgu]; rfl, hcont.trans (roundOf_busy s u), hr, mem hi⟩
  · obtain ⟨hr, hi⟩ : s.Marked r ∧ exec (.grdTrigger u ⟨g, evt⟩) s = .next (r.trigger u g) := by
      rcases hevt with ⟨k, rising, rfl, hl, hg, he, rfl⟩ | ⟨rfl, hl, hf, rfl⟩ | ⟨rfl, hl, hn, hp, rfl⟩
      · exact ⟨State.Marked.refl _, exec_grdTrigger_pin hl hg he⟩
      · exact ⟨State.Marked.modGu s u fun _ => rfl, exec_grdTrigger_period hl hf⟩
      · exact ⟨State.Marked.modGu s u fun _ => rfl, exec_grdTrigger_port hl hn hp⟩
    exact trigger_acts hr hlen hen hi
  · have hi := exec_grdGroupStart_own hen hn hb hg
    obtain ⟨hgu, -, hinj, -, hr⟩ := requeued_shows hlen u.isLt fun k =>
      { k with pend := mset k.pend g false, grp := some ⟨u, g, (s.groupEntries u g).getD []⟩ }
    exact ⟨_, hi, by rw [hgu], by rw [hgu]; exact testBit_mset_same .., hinj.trans (Bool.or_true _), hr, mem hi⟩
  · have hi := exec_grdGroupStart_far hen hn hb hp hg
    obtain ⟨hgu, -, -, hcov, hr⟩ := requeued_shows hlen u.isLt fun k =>
      { k with far := mset k.far g false, grp := some ⟨1 - u.val, g, (s.groupEntries (1 - u.val) g).getD []⟩ }
    have hu : (1 - u.val != u.val) = true := by rw [bne_iff_ne]; omega
    refine ⟨_, hi, by rw [hgu], by rw [hgu]; exact testBit_mset_same .., hcov.trans ?_, hr, mem hi⟩
    dsimp only
    rw [hu, Bool.or_true]
  · have hi := exec_grdConversionResult_group raw hen hp hg ho hleft
    obtain ⟨⟨hv, hsat, hnew, hcover, hlost⟩, hport, hturn, hblk⟩ := entryDone_own hlen u.isLt he hl
      (f := fun k => { k with grp := if rest = [] then none else some { grp with left := rest } }) (fun _ => rfl) raw hw
    simp only [GUnit.turn, Prod.mk.injEq] at hturn
    obtain ⟨hgrp, -, hslice, -⟩ := hturn
    exact ⟨_, hi, hv, hsat, hnew, hcover, hlost, hport, hslice, hgrp, hblk, mem hi⟩
  · have hi := exec_grdConversionResult_group raw hen hp hg ho hleft
    obtain ⟨⟨hv, -⟩, hport, hturn, hblk⟩ := entryDone_reserved hlen u.isLt he hl raw
      (fun k => { k with grp := if rest = [] then none else some { grp with left := rest } }) hw
    exact ⟨_, hi, hv, hport, congrArg Prod.fst hturn, hblk, mem hi⟩
  · have hi := exec_grdConversionResult_cont raw hen hp hc
    obtain ⟨⟨hv, -, hnew, -⟩, hport, hturn, hblk⟩ := entryDone_own hlen u.isLt he hl (f := fun k => { k with cont := rest })
      (fun _ => rfl) raw hw
    exact ⟨_, hi, hv, hnew, hport, congrArg (·.2.1) hturn, hblk, mem hi⟩
  · have hi := exec_grdConversionResult_paired (u := u) inj raw hp
    obtain ⟨hnext, hslice, hregs⟩ := pairedSample_shows hlen u.isLt raw hn
    exact ⟨_, hi, hnext, hslice, hregs, mem hi⟩

end Sys2Proof.Machine

/-! SUPPORT for O29. Capture, calibration and pairing of a unit: each command as fields written, and what the rest keeps. -/

namespace Sys2Proof.Machine

/-! ### Fields -/

/-- A flag is cleared where `b`. -/
def State.lower (s : State) (f : FieldRef) (b : Bool) : State := if b then s.putB f false else s

theorem bit_lower_same (s : State) (f : FieldRef) (b : Bool) (h : f.lo + f.w ≤ 32) (hw : 0 < f.w) :
    (s.lower f b).bit f = (s.bit f && !b) := by
  cases b with
  | true => rw [Bool.not_true, Bool.and_false]; exact bit_putB_same s f false h hw
  | false => rw [Bool.not_false, Bool.and_true]; rfl

theorem bit_raise_same (s : State) (f : FieldRef) (b : Bool) (h : f.lo + f.w ≤ 32) (hw : 0 < f.w) :
    (s.raise f b).bit f = (s.bit f || b) := by
  cases b with
  | true => rw [Bool.or_true]; exact bit_putB_same s f true h hw
  | false => rw [Bool.or_false]; rfl

theorem get_lower_apart (s : State) {f g : FieldRef} (b : Bool) (h : f.apart g = true) : (s.lower f b).get g = s.get g := by
  unfold State.lower
  split
  · exact get_put_apart s _ h
  · rfl

theorem reg_raise_ne (s : State) {f : FieldRef} (b : Bool) {a : Nat} (h : a ≠ f.addr) : (s.raise f b).reg a = s.reg a := by
  unfold State.raise
  split
  · exact reg_put_ne s _ h
  · rfl

theorem reg_lower_ne (s : State) {f : FieldRef} (b : Bool) {a : Nat} (h : a ≠ f.addr) : (s.lower f b).reg a = s.reg a := by
  unfold State.lower
  split
  · exact reg_put_ne s _ h
  · rfl

theorem reg_of_regs {s t : State} (h : t.regs = s.regs) (a : Nat) : t.reg a = s.reg a := by rw [State.reg, State.reg, h]

theorem get_of_regs {s t : State} (h : t.regs = s.regs) (f : FieldRef) : t.get f = s.get f := by rw [State.get, State.get, reg_of_regs h]

theorem get_of_reg {s t : State} {f : FieldRef} (h : t.reg f.addr = s.reg f.addr) : t.get f = s.get f := by rw [State.get, State.get, h]

theorem bit_of_reg {s t : State} {f : FieldRef} (h : t.reg f.addr = s.reg f.addr) : t.bit f = s.bit f := congrArg (· != 0) (get_of_reg h)

/-! ### Writes of the block's registers -/

/-- A write that takes effect whole in the Girder's block is that block's. -/
theorem wr_grd {s : State} {m : Master} {a : Nat} (v : Word) (h : s.takes m a = true) (ha : a / 0x10000 = 0x4008) :
    s.wr m a v = s.writeGrd a v.toNat := by
  have hb : blockOf a = some .reg := (blockOf_eq_reg_iff a).2 (by omega)
  rw [wr_of_takes v h hb (by omega)]
  unfold State.writeReg
  rw [ha]
  rfl

theorem writeGrd_unit (s : State) {a u x : Nat} (v : Nat) (ha : a = 0x40080000 + 0x2000 * u + x) (hu : u < 2) (hx : x < 0x2000) :
    s.writeGrd a v = if x = 0 then s.wrGrdCtrl u v else if x = 8 then s.wrCal u v
      else if 0x10 ≤ x ∧ x < 0x20 then s.wrTrg u ((x - 0x10) / 4) v else if x = 0x300 then s.wrCapctl u v else s.writeByCode a v := by
  have hlow : a % 0x10000 < 0x4000 := by omega
  have hunit : a % 0x10000 / 0x2000 = u := by omega
  have hoff : a % 0x10000 % 0x2000 = x := by omega
  unfold State.writeGrd
  dsimp only
  rw [if_pos hlow, hunit, hoff]

/-- The registers of a unit that are not plain. -/
theorem writeGrd_watched (s : State) {u : Nat} (hu : u < 2) (v : Nat) : s.writeGrd (Reg.GRD_U_CTRL u) v = s.wrGrdCtrl u v ∧
    s.writeGrd (Reg.GRD_U_CAL u) v = s.wrCal u v ∧ s.writeGrd (Reg.GRD_U_CAPCTL u) v = s.wrCapctl u v := by
  refine ⟨?_, ?_, ?_⟩
  · rw [writeGrd_unit s (x := 0) v (by simp only [Reg.GRD_U_CTRL]; omega) hu (by decide), if_pos rfl]
  · rw [writeGrd_unit s (x := 8) v (by simp only [Reg.GRD_U_CAL]; omega) hu (by decide), if_neg (by decide), if_pos rfl]
  · rw [writeGrd_unit s (x := 0x300) v (by simp only [Reg.GRD_U_CAPCTL]; omega) hu (by decide), if_neg (by decide), if_neg (by decide),
      if_neg (by decide), if_pos rfl]

/-! ### Capture (R325) -/

/-- What the end of a capture writes. -/
def captureShown (u idx : Nat) : List (FieldRef × Nat) :=
  [(Fld.GRD_U_CAPCTL_ARM u, flagOf false), (Fld.GRD_U_CAPCTL_DONE u, flagOf true), (Fld.GRD_U_CAPPTR_TRIGIDX u, idx)]

theorem captureShown_apart (u idx : Nat) : (∀ x ∈ captureShown u idx, x.1.lo + x.1.w ≤ 32) ∧
    (captureShown u idx).Pairwise (fun x y => y.1.apart x.1 = true) ∧
    ∀ x ∈ captureShown u idx, x.1.addr = Reg.GRD_U_CAPCTL u ∨ x.1.addr = Reg.GRD_U_CAPPTR u := by
  simp [captureShown, FieldRef.apart, Fld.GRD_U_CAPCTL_ARM, Fld.GRD_U_CAPCTL_DONE, Fld.GRD_U_CAPPTR_TRIGIDX, Reg.GRD_U_CAPCTL, Reg.GRD_U_CAPPTR]

theorem exec_captureDone {s : State} {u : Fin 2} (hl : (s.gu u).left = some 0) (ha : s.bit (Fld.GRD_U_CAPCTL_ARM u) = true) :
    exec (.captureDone u) s = .next (s.puts (captureShown u (s.gu u).trigAt)) := congrArg Host.Outcome.next (if_pos ⟨hl, ha⟩)

theorem exec_captureDone_idle {s : State} {u : Fin 2} (hl : (s.gu u).left ≠ some 0) : exec (.captureDone u) s = .next s :=
  congrArg Host.Outcome.next (if_neg fun h => hl h.1)

theorem captureDone_shows (s : State) (u idx : Nat) :
    (s.puts (captureShown u idx)).bit (Fld.GRD_U_CAPCTL_ARM u) = false ∧ (s.puts (captureShown u idx)).bit (Fld.GRD_U_CAPCTL_DONE u) = true ∧
    (s.puts (captureShown u idx)).get (Fld.GRD_U_CAPPTR_TRIGIDX u) = idx % 8192 ∧
    SameRegs s (s.puts (captureShown u idx)) [Reg.GRD_U_CAPCTL u, Reg.GRD_U_CAPPTR u] := by
  obtain ⟨hw, hd, haddr⟩ := captureShown_apart u idx
  refine ⟨bit_puts s hw hd rfl (by simp [captureShown]), bit_puts s hw hd rfl (by simp [captureShown]),
    get_puts s hw hd (Fld.GRD_U_CAPPTR_TRIGIDX u, idx) (by simp [captureShown]), fun a ha => reg_puts_ne s fun x hx => ?_⟩
  simp only [List.mem_cons, List.not_mem_nil, or_false, not_or] at ha
  rcases haddr x hx with e | e
  · exact e ▸ ha.1
  · exact e ▸ ha.2

/-- ENTRY, TRIG and PRE of a write of CAPCTL. -/
def captureSet (u v : Nat) : List (FieldRef × Nat) :=
  [(Fld.GRD_U_CAPCTL_ENTRY u, v / 2 ^ 24), (Fld.GRD_U_CAPCTL_TRIG u, v / 2 ^ 16), (Fld.GRD_U_CAPCTL_PRE u, v)]

theorem captureSet_apart (u v : Nat) : (∀ x ∈ captureSet u v, x.1.lo + x.1.w ≤ 32) ∧
    (captureSet u v).Pairwise (fun x y => y.1.apart x.1 = true) ∧
    (∀ x ∈ captureSet u v, x.1.addr = Reg.GRD_U_CAPCTL u ∧ x.1.apart (Fld.GRD_U_CAPCTL_ARM u) = true ∧
      x.1.apart (Fld.GRD_U_CAPCTL_DONE u) = true ∧ (Fld.GRD_U_CAPCTL_ARM u).apart x.1 = true ∧ (Fld.GRD_U_CAPCTL_DONE u).apart x.1 = true) ∧
    (Fld.GRD_U_CAPCTL_ARM u).apart (Fld.GRD_U_CAPCTL_DONE u) = true ∧ (Fld.GRD_U_CAPCTL_DONE u).apart (Fld.GRD_U_CAPCTL_ARM u) = true := by
  simp [captureSet, FieldRef.apart, Fld.GRD_U_CAPCTL_ENTRY, Fld.GRD_U_CAPCTL_TRIG, Fld.GRD_U_CAPCTL_PRE, Fld.GRD_U_CAPCTL_ARM,
    Fld.GRD_U_CAPCTL_DONE]

/-- CAPCTL before ARM acts. -/
def State.captureReady (s : State) (u v : Nat) : State := (s.puts (captureSet u v)).lower (Fld.GRD_U_CAPCTL_DONE u) (v.testBit 30)

theorem wrCapctl_eq (s : State) (u v : Nat) :
    s.wrCapctl u v = if v.testBit 31 then (s.captureReady u v).armCapture u else s.captureReady u v := (rfl)

theorem wrCapctl_regs (s : State) (u v : Nat) :
    (s.wrCapctl u v).regs = ((s.captureReady u v).raise (Fld.GRD_U_CAPCTL_ARM u) (v.testBit 31)).regs := by
  rw [wrCapctl_eq, State.raise]
  split <;> rfl

theorem captureReady_grd (s : State) (u v : Nat) : (s.captureReady u v).grd = s.grd := by
  unfold State.captureReady State.lower
  split <;> rfl

theorem wrCapctl_reg_ne (s : State) {u v a : Nat} (h : a ≠ Reg.GRD_U_CAPCTL u) : (s.wrCapctl u v).reg a = s.reg a := by
  obtain ⟨-, -, haddr, -⟩ := captureSet_apart u v
  rw [reg_of_regs (wrCapctl_regs s u v), reg_raise_ne _ _ h, State.captureReady, reg_lower_ne _ _ h]
  exact reg_puts_ne s fun x hx => (haddr x hx).1 ▸ h

theorem captureReady_set (s : State) (u v : Nat) : ∀ x ∈ captureSet u v, (s.captureReady u v).get x.1 = x.2 % 2 ^ x.1.w := fun x hx => by
  obtain ⟨hw, hd, hx', -⟩ := captureSet_apart u v
  obtain ⟨-, -, -, -, hdone⟩ := hx' x hx
  exact (get_lower_apart _ _ hdone).trans (get_puts s hw hd x hx)

theorem wrCapctl_set (s : State) (u v : Nat) : ∀ x ∈ captureSet u v, (s.wrCapctl u v).get x.1 = x.2 % 2 ^ x.1.w := fun x hx => by
  obtain ⟨-, -, hx', -⟩ := captureSet_apart u v
  obtain ⟨-, -, -, harm, -⟩ := hx' x hx
  rw [get_of_regs (wrCapctl_regs s u v), get_raise_apart _ _ harm, captureReady_set s u v x hx]

theorem wrCapctl_flags (s : State) (u v : Nat) :
    (s.wrCapctl u v).bit (Fld.GRD_U_CAPCTL_ARM u) = (s.bit (Fld.GRD_U_CAPCTL_ARM u) || v.testBit 31) ∧
    (s.wrCapctl u v).bit (Fld.GRD_U_CAPCTL_DONE u) = (s.bit (Fld.GRD_U_CAPCTL_DONE u) && !v.testBit 30) := by
  obtain ⟨-, -, hx, had, hda⟩ := captureSet_apart u v
  have hb (f : FieldRef) : (s.wrCapctl u v).bit f = ((s.captureReady u v).raise (Fld.GRD_U_CAPCTL_ARM u) (v.testBit 31)).bit f :=
    congrArg (· != 0) (get_of_regs (wrCapctl_regs s u v) f)
  have harm : (s.captureReady u v).bit (Fld.GRD_U_CAPCTL_ARM u) = s.bit (Fld.GRD_U_CAPCTL_ARM u) :=
    congrArg (· != 0) ((get_lower_apart _ _ hda).trans (get_puts_apart s fun x h => (hx x h).2.1))
  have hdone : (s.puts (captureSet u v)).bit (Fld.GRD_U_CAPCTL_DONE u) = s.bit (Fld.GRD_U_CAPCTL_DONE u) :=
    congrArg (· != 0) (get_puts_apart s fun x h => (hx x h).2.2.1)
  refine ⟨?_, ?_⟩
  · rw [hb, bit_raise_same _ _ _ (by simp [Fld.GRD_U_CAPCTL_ARM]) Nat.one_pos, harm]
  · rw [hb, ← hdone, ← bit_lower_same _ _ _ (by simp [Fld.GRD_U_CAPCTL_DONE]) Nat.one_pos]
    exact congrArg (· != 0) (get_raise_apart _ _ had)

/-- With TRIG 0x1F the write that arms is itself the trigger. -/
theorem wrCapctl_arms {s : State} (hs : s.grd.length = 2) {u v : Nat} (hu : u < 2) (h : v.testBit 31 = true) :
    ((s.wrCapctl u v).gu u).left = if v / 2 ^ 16 % 32 = 31 then some ((s.wrCapctl u v).afterTrig u) else none := by
  have htrig : (s.captureReady u v).get (Fld.GRD_U_CAPCTL_TRIG u) = v / 2 ^ 16 % 32 := captureReady_set s u v
    (Fld.GRD_U_CAPCTL_TRIG u, v / 2 ^ 16) (by simp [captureSet])
  have hpre : (s.wrCapctl u v).get (Fld.GRD_U_CAPCTL_PRE u) = (s.captureReady u v).get (Fld.GRD_U_CAPCTL_PRE u) :=
    (wrCapctl_set s u v (Fld.GRD_U_CAPCTL_PRE u, v) (by simp [captureSet])).trans
      (captureReady_set s u v (Fld.GRD_U_CAPCTL_PRE u, v) (by simp [captureSet])).symm
  have hctrl : Reg.GRD_U_CTRL 0 ≠ Reg.GRD_U_CAPCTL u := by simp only [Reg.GRD_U_CTRL, Reg.GRD_U_CAPCTL]; omega
  have hpair : (s.wrCapctl u v).paired = (s.captureReady u v).paired := by
    refine bit_of_reg (f := Fld.GRD_U_CTRL_PAIR 0) ?_
    rw [reg_of_regs (wrCapctl_regs s u v)]
    exact reg_raise_ne _ _ hctrl
  have hafter : (s.wrCapctl u v).afterTrig u = (s.captureReady u v).afterTrig u := by
    simp only [State.afterTrig, State.ringLen, hpair, hpre]
  rw [hafter, wrCapctl_eq, if_pos h, ← htrig]
  have hlen : u < ((s.captureReady u v).putB (Fld.GRD_U_CAPCTL_ARM u) true).grd.length := by
    rw [putB_grd, captureReady_grd, hs]; exact hu
  unfold State.armCapture
  rw [gu_modGu_same _ hlen]
  simp only [beq_iff_eq]

/-! ### Calibration requests and starts (R327, R328) -/

/-- The marks of CAL that a write names are cleared. -/
def State.calCleared (s : State) (u v : Nat) : State := s.setReg (Reg.GRD_U_CAL u) (mclr (s.reg (Reg.GRD_U_CAL u)) (v % 16 / 2 * 2))

theorem calCleared_reg_ne (s : State) {u a : Nat} (v : Nat) (h : a ≠ Reg.GRD_U_CAL u) : (s.calCleared u v).reg a = s.reg a :=
  reg_setReg_ne s _ h

theorem calCleared_go (s : State) (u v : Nat) : (s.calCleared u v).bit (Fld.GRD_U_CAL_GO u) = s.bit (Fld.GRD_U_CAL_GO u) := by
  have heven : (v % 16 / 2 * 2).testBit 0 = false := by simp [Nat.testBit_zero]
  have hlt : mclr (s.reg (Reg.GRD_U_CAL u)) (v % 16 / 2 * 2) < 4294967296 := (Nat.sub_le _ _).trans_lt (reg_lt s _)
  have hbit (t : State) : t.bit (Fld.GRD_U_CAL_GO u) = (t.reg (Reg.GRD_U_CAL u)).testBit 0 := fieldOf_bit _ 0
  rw [hbit, hbit, State.calCleared, reg_setReg_same, Nat.mod_eq_of_lt hlt, testBit_mclr, heven, Bool.not_false, Bool.and_true]

theorem wrCal_request {s : State} {u v : Nat} (hv : v.testBit 0 = true) (hg : s.bit (Fld.GRD_U_CAL_GO u) = false) :
    s.wrCal u v = if s.calBusy (1 - u) || (s.gu (1 - u)).calWait || s.paired then (s.calCleared u v).putB (Fld.GRD_U_CAL_REFUSED u) true
      else ((s.calCleared u v).putB (Fld.GRD_U_CAL_GO u) true).modGu u (fun k => { k with calWait := true }) := by
  have hodd : ¬ v % 2 = 0 := by simpa [Nat.testBit_zero] using hv
  have hbusy : (s.calCleared u v).calBusy (1 - u) = s.calBusy (1 - u) := bit_of_reg (calCleared_reg_ne s v (by
    simp only [Fld.GRD_U_STAT_CAL_BUSY, Reg.GRD_U_STAT, Reg.GRD_U_CAL]; omega))
  have hpair : (s.calCleared u v).paired = s.paired := bit_of_reg (calCleared_reg_ne s v (by
    simp only [Fld.GRD_U_CTRL_PAIR, Reg.GRD_U_CTRL, Reg.GRD_U_CAL]; omega))
  have hdef : s.wrCal u v = if v % 2 = 0 || (s.calCleared u v).bit (Fld.GRD_U_CAL_GO u) then s.calCleared u v
      else if (s.calCleared u v).calBusy (1 - u) || (s.gu (1 - u)).calWait || (s.calCleared u v).paired then
        (s.calCleared u v).putB (Fld.GRD_U_CAL_REFUSED u) true
      else ((s.calCleared u v).putB (Fld.GRD_U_CAL_GO u) true).modGu u (fun k => { k with calWait := true }) := rfl
  rw [hdef, calCleared_go, hg, hbusy, hpair, if_neg (by simp [hodd])]

theorem exec_grdCalStart {s : State} {u : Fin 2} (hw : (s.gu u).calWait = true) (hp : (s.gu u).pend = 0) (hg : (s.gu u).grp = none) :
    exec (.grdCalStart u) s =
      .next (((s.modGu u fun k => { k with calWait := false, cont := [] }).putB (Fld.GRD_U_STAT_CAL_BUSY u) true).syncGu u) :=
  congrArg Host.Outcome.next (if_pos (by simp [hw, hp, hg]))

/-- CAL_BUSY and BGC_LOCK are none of the fields that STAT shows of the record. -/
theorem unitShown_other (u : Nat) (k : GUnit) (b : Bool) : ∀ x ∈ unitShown u k b, x.1.apart (Fld.GRD_U_STAT_CAL_BUSY u) = true ∧
    x.1.apart (Fld.GRD_U_STAT_BGC_LOCK u) = true := by
  simp [unitShown, FieldRef.apart, Fld.GRD_U_STAT_CONT_BUSY, Fld.GRD_U_STAT_INJ_BUSY, Fld.GRD_U_STAT_COVERING, Fld.GRD_U_STAT_PAIRED,
    Fld.GRD_U_STAT_CAL_BUSY, Fld.GRD_U_STAT_BGC_LOCK]

theorem calBusy_syncGu (s : State) (u v : Nat) : (s.syncGu u).calBusy v = s.calBusy v := by
  by_cases h : v = u
  · rw [h]
    exact bit_syncGu_apart s u fun x hx => (unitShown_other u _ _ x hx).1
  · refine bit_of_reg (syncGu_sameRegs s u _ ?_)
    simp only [Fld.GRD_U_STAT_CAL_BUSY, Reg.GRD_U_STAT, List.mem_singleton]
    omega

end Sys2Proof.Machine

/-! SUPPORT for O29. The coefficients of a unit: the end of its calibration, and the background correction. -/

namespace Sys2Proof.Machine

/-! ### Signed fields -/

theorem toS_ofS {w : Nat} (hw : 0 < w) {i : Int} (h : -(2 ^ (w - 1) : Int) ≤ i ∧ i < 2 ^ (w - 1)) : toS w (ofS w i) = i := by
  obtain ⟨n, rfl⟩ : ∃ n, w = n + 1 := ⟨w - 1, by omega⟩
  have hlt := ofS_lt (n + 1) i
  have hp : (0 : Int) < 2 ^ (n + 1) := by positivity
  have hcast : ((ofS (n + 1) i : Nat) : Int) = i % 2 ^ (n + 1) := Int.toNat_of_nonneg (Int.emod_nonneg i hp.ne')
  have hsplit : (2 : Int) ^ (n + 1) = 2 * 2 ^ n := by ring
  rw [Nat.add_sub_cancel] at h
  obtain ⟨hlo, hhi⟩ := h
  unfold toS
  dsimp only
  rw [Nat.mod_eq_of_lt hlt, Nat.add_sub_cancel]
  by_cases h0 : 0 ≤ i
  · have hm : i % 2 ^ (n + 1) = i := Int.emod_eq_of_lt h0 (by omega)
    rw [if_pos (by zify; rw [hcast, hm]; exact hhi), hcast, hm]
  · have hm : i % 2 ^ (n + 1) = i + 2 ^ (n + 1) := by
      rw [← Int.add_emod_right, Int.emod_eq_of_lt (by omega) (by omega)]
    rw [if_neg (by zify; rw [hcast, hm]; omega), hcast, hm]
    omega

/-- A signed field among fields that lie apart. -/
theorem getS_puts {l : List (FieldRef × Nat)} (s : State) (hw : ∀ x ∈ l, x.1.lo + x.1.w ≤ 32)
    (hd : l.Pairwise fun x y => y.1.apart x.1 = true) {f : FieldRef} {i : Int} (hf : 0 < f.w) (hm : (f, ofS f.w i) ∈ l)
    (hi : -(2 ^ (f.w - 1) : Int) ≤ i ∧ i < 2 ^ (f.w - 1)) : (s.puts l).getS f = i := by
  rw [State.getS, get_puts s hw hd _ hm, Nat.mod_eq_of_lt (ofS_lt f.w i), toS_ofS hf hi]

theorem getS_of_reg {s t : State} {f : FieldRef} (h : t.reg f.addr = s.reg f.addr) : t.getS f = s.getS f := congrArg (toS f.w) (get_of_reg h)

/-! ### The coefficients' fields -/

/-- The fields of a coefficient of the four slices. -/
def sliceFields (f : Nat → FieldRef) : List FieldRef := (List.range 4).map f

/-- Every coefficient of unit u. -/
def corFields (u : Nat) : List FieldRef :=
  sliceFields (Fld.GRD_U_COR_OFF u) ++ sliceFields (Fld.GRD_U_COR_GAIN u) ++ sliceFields (Fld.GRD_U_COR_SKEW u)

theorem corFields_apart (u : Fin 2) : (∀ f ∈ corFields u, f.lo + f.w ≤ 32 ∧ f.addr ∈ (List.range 4).map (Reg.GRD_U_COR u)) ∧
    (corFields u).Pairwise (fun f g => g.apart f = true) := by
  revert u; decide

/-- The coefficient of each slice, oldest first, as fields to write. -/
def sliceShown (f : Nat → FieldRef) (l : List Int) : List (FieldRef × Nat) := l.zipIdx.map (fun x => (f x.2, ofS (f x.2).w x.1))

theorem sliceShown_fields {f : Nat → FieldRef} {l : List Int} (h : l.length = 4) : (sliceShown f l).map Prod.fst = sliceFields f := by
  match l, h with
  | [_, _, _, _], _ => rfl

theorem mem_sliceShown {f : Nat → FieldRef} {l : List Int} {i : Nat} (h : i < l.length) :
    (f i, ofS (f i).w (nth 0 l i)) ∈ sliceShown f l := by
  refine List.mem_map.2 ⟨(nth 0 l i, i), ?_, rfl⟩
  rw [List.mk_mem_zipIdx_iff_getElem?]
  simp [nth, h]

/-- Coefficients written to the four slices. -/
def corShown (u : Nat) (offs gains skews : List Int) : List (FieldRef × Nat) :=
  sliceShown (Fld.GRD_U_COR_OFF u) offs ++ sliceShown (Fld.GRD_U_COR_GAIN u) gains ++ sliceShown (Fld.GRD_U_COR_SKEW u) skews

section
variable (u : Fin 2) {offs gains skews : List Int} (ho : offs.length = 4) (hg : gains.length = 4) (hk : skews.length = 4)
include ho hg hk

theorem corShown_fields : (corShown u offs gains skews).map Prod.fst = corFields u := by
  simp only [corShown, List.map_append, sliceShown_fields ho, sliceShown_fields hg, sliceShown_fields hk, corFields]

theorem corShown_apart : (∀ x ∈ corShown u offs gains skews, x.1.lo + x.1.w ≤ 32 ∧ x.1.addr ∈ (List.range 4).map (Reg.GRD_U_COR u)) ∧
    (corShown u offs gains skews).Pairwise (fun x y => y.1.apart x.1 = true) := by
  obtain ⟨hf, hd⟩ := corFields_apart u
  rw [← corShown_fields u ho hg hk] at hf hd
  exact ⟨fun x hx => hf x.1 (List.mem_map_of_mem hx), List.pairwise_map.1 hd⟩

theorem corShown_reg (s : State) {a : Nat} (h : a ∉ (List.range 4).map (Reg.GRD_U_COR u)) :
    (s.puts (corShown u offs gains skews)).reg a = s.reg a :=
  reg_puts_ne s fun x hx e => h (e ▸ ((corShown_apart u ho hg hk).1 x hx).2)

/-- Coefficients that fit read back. -/
theorem corShown_getS (s : State) (h8 : ∀ x ∈ offs ++ skews, -128 ≤ x ∧ x ≤ 127) (h16 : ∀ x ∈ gains, -32768 ≤ x ∧ x ≤ 32767) (i : Fin 4) :
    (s.puts (corShown u offs gains skews)).getS (Fld.GRD_U_COR_OFF u i) = nth 0 offs i ∧
    (s.puts (corShown u offs gains skews)).getS (Fld.GRD_U_COR_GAIN u i) = nth 0 gains i ∧
    (s.puts (corShown u offs gains skews)).getS (Fld.GRD_U_COR_SKEW u i) = nth 0 skews i := by
  obtain ⟨hf, hd⟩ := corShown_apart u ho hg hk
  have hw : ∀ x ∈ corShown u offs gains skews, x.1.lo + x.1.w ≤ 32 := fun x hx => (hf x hx).1
  have mem {l : List Int} (hl : l.length = 4) : nth 0 l i ∈ l := by
    have hi : i.val < l.length := i.isLt.trans_eq hl.symm
    simp [nth, hi]
  have ho8 := h8 _ (List.mem_append_left _ (mem ho))
  have hk8 := h8 _ (List.mem_append_right _ (mem hk))
  have hg16 := h16 _ (mem hg)
  refine ⟨getS_puts s hw hd (Nat.zero_lt_succ 7) ?_ ⟨ho8.1, Int.lt_add_one_of_le ho8.2⟩,
    getS_puts s hw hd (Nat.zero_lt_succ 15) ?_ ⟨hg16.1, Int.lt_add_one_of_le hg16.2⟩,
    getS_puts s hw hd (Nat.zero_lt_succ 7) ?_ ⟨hk8.1, Int.lt_add_one_of_le hk8.2⟩⟩
  · exact List.mem_append_left _ (List.mem_append_left _ (mem_sliceShown (i.isLt.trans_eq ho.symm)))
  · exact List.mem_append_left _ (List.mem_append_right _ (mem_sliceShown (i.isLt.trans_eq hg.symm)))
  · exact List.mem_append_right _ (mem_sliceShown (i.isLt.trans_eq hk.symm))

end

/-! ### The end of a calibration (R327, R331) -/

/-- OFF and GAIN of the slices as measured. -/
def State.corStored (s : State) (u : Nat) (cor : List (Int × Int)) : State :=
  cor.zipIdx.foldl (fun s x => (s.put (Fld.GRD_U_COR_OFF u x.2) (ofS 8 x.1.1)).put (Fld.GRD_U_COR_GAIN u x.2) (ofS 16 x.1.2)) s

/-- The same, as fields to write. -/
def measuredShown (u : Nat) (cor : List (Int × Int)) : List (FieldRef × Nat) :=
  cor.zipIdx.flatMap (fun x => [(Fld.GRD_U_COR_OFF u x.2, ofS 8 x.1.1), (Fld.GRD_U_COR_GAIN u x.2, ofS 16 x.1.2)])

theorem corStored_eq (s : State) (u : Nat) (cor : List (Int × Int)) : s.corStored u cor = s.puts (measuredShown u cor) := by
  unfold State.corStored State.puts measuredShown
  rw [List.foldl_flatMap]
  rfl

/-- The fields of OFF and GAIN, slice by slice. -/
def measuredFields (u : Nat) : List FieldRef := (List.range 4).flatMap fun i => [Fld.GRD_U_COR_OFF u i, Fld.GRD_U_COR_GAIN u i]

theorem measuredFields_apart (u : Fin 2) : (∀ f ∈ measuredFields u, f.lo + f.w ≤ 32 ∧ f.addr / 0x10000 = 0x4008) ∧
    (measuredFields u).Pairwise (fun f g => g.apart f = true) := by
  revert u; decide

theorem measuredShown_fields (u : Nat) {cor : List (Int × Int)} (h : cor.length = 4) :
    (measuredShown u cor).map Prod.fst = measuredFields u := by
  match cor, h with
  | [_, _, _, _], _ => rfl

theorem measuredShown_apart (u : Fin 2) {cor : List (Int × Int)} (h : cor.length = 4) :
    (∀ x ∈ measuredShown u cor, x.1.lo + x.1.w ≤ 32 ∧ x.1.addr / 0x10000 = 0x4008) ∧
    (measuredShown u cor).Pairwise (fun x y => y.1.apart x.1 = true) := by
  obtain ⟨hf, hd⟩ := measuredFields_apart u
  rw [← measuredShown_fields u h] at hf hd
  exact ⟨fun x hx => hf x.1 (List.mem_map_of_mem hx), List.pairwise_map.1 hd⟩

theorem corStored_sameBlocks (s : State) (u : Fin 2) {cor : List (Int × Int)} (h : cor.length = 4) : SameBlocks s (s.corStored u cor) [0x4008] :=
  fun a ha => by
    rw [corStored_eq]
    exact reg_puts_ne s fun x hx e => ha (by rw [e, ((measuredShown_apart u h).1 x hx).2]; decide)

theorem corStored_getS (s : State) (u : Fin 2) {cor : List (Int × Int)} (h : cor.length = 4) (hfit : cor.all corFits = true) (i : Fin 4) :
    (s.corStored u cor).getS (Fld.GRD_U_COR_OFF u i) = (nth (0, 0) cor i).1 ∧
    (s.corStored u cor).getS (Fld.GRD_U_COR_GAIN u i) = (nth (0, 0) cor i).2 := by
  obtain ⟨hf, hd⟩ := measuredShown_apart u h
  have hw : ∀ x ∈ measuredShown u cor, x.1.lo + x.1.w ≤ 32 := fun x hx => (hf x hx).1
  have hi : i.val < cor.length := i.isLt.trans_eq h.symm
  have hnth : nth (0, 0) cor i = cor[i.val] := by simp [nth, hi]
  have hzip : (nth (0, 0) cor i, i.val) ∈ cor.zipIdx := by
    rw [List.mk_mem_zipIdx_iff_getElem?]
    simp [nth, hi]
  have hx := List.all_eq_true.1 hfit _ (List.getElem_mem hi)
  rw [← hnth] at hx
  simp only [corFits, Bool.and_eq_true, decide_eq_true_eq, and_assoc] at hx
  obtain ⟨hlo, hhi, hglo, hghi⟩ := hx
  rw [corStored_eq]
  exact ⟨getS_puts s hw hd (Nat.zero_lt_succ 7) (List.mem_flatMap.2 ⟨_, hzip, List.mem_cons_self ..⟩) ⟨hlo, Int.lt_add_one_of_le hhi⟩,
    getS_puts s hw hd (Nat.zero_lt_succ 15) (List.mem_flatMap.2 ⟨_, hzip, List.mem_cons_of_mem _ (List.mem_cons_self ..)⟩)
      ⟨hglo, Int.lt_add_one_of_le hghi⟩⟩

/-- The coefficients do not fit: FAIL and a report. -/
def State.calFailed (s : State) (u : Nat) : State := (s.putB (Fld.GRD_U_CAL_FAIL u) true).reportNone 0x2C clsC u

/-- The marks of an ended calibration. -/
def endShown (u : Nat) : List (FieldRef × Nat) :=
  [(Fld.GRD_U_CAL_DONE u, flagOf true), (Fld.GRD_U_CAL_GO u, flagOf false), (Fld.GRD_U_STAT_CAL_BUSY u, flagOf false),
    (Fld.GRD_U_STAT_BGC_LOCK u, flagOf false)]

/-- The other unit's calibration, where it has waited for this one (R332). -/
def State.calNext (s : State) (v : Nat) : State :=
  if (s.gu v).calQueue then (s.putB (Fld.GRD_U_CAL_GO v) true).modGu v (fun k => { k with calQueue := false, calWait := true }) else s

/-- What follows on the coefficients at the end of a calibration. -/
def State.calEnded (s : State) (u : Nat) : State :=
  ((((s.puts (endShown u)).modGu u (fun k => { k with lockRun := 0 })).calNext (1 - u)).syncGu u).syncGu (1 - u)

theorem exec_grdCalDone {s : State} {u : Fin 2} {cor : List (Int × Int)} (hb : s.calBusy u = true) (hl : cor.length = 4) :
    exec (.grdCalDone u cor) s = .next ((if cor.all corFits then s.corStored u cor else s.calFailed u).calEnded u) := by
  have ht : cor.take 4 = cor := List.take_of_length_le hl.le
  have hdef : exec (.grdCalDone u cor) s = .next (if !s.calBusy u then s
    else (if (cor.take 4).all corFits then s.corStored u (cor.take 4) else s.calFailed u).calEnded u) := rfl
  rw [hdef, ht, hb, Bool.not_true, if_neg Bool.false_ne_true]

theorem endShown_apart (u : Nat) : (∀ x ∈ endShown u, x.1.lo + x.1.w ≤ 32) ∧
    (endShown u).Pairwise (fun x y => y.1.apart x.1 = true) ∧
    ∀ x ∈ endShown u, (x.1.addr = Reg.GRD_U_CAL u ∨ x.1.addr = Reg.GRD_U_STAT u) ∧ x.1.apart (Fld.GRD_U_CAL_FAIL u) = true := by
  simp [endShown, FieldRef.apart, Fld.GRD_U_CAL_DONE, Fld.GRD_U_CAL_GO, Fld.GRD_U_STAT_CAL_BUSY, Fld.GRD_U_STAT_BGC_LOCK,
    Fld.GRD_U_CAL_FAIL, Reg.GRD_U_CAL, Reg.GRD_U_STAT]

theorem calNext_reg_ne (s : State) {v a : Nat} (h : a ≠ Reg.GRD_U_CAL v) : (s.calNext v).reg a = s.reg a := by
  unfold State.calNext
  split
  · exact reg_put_ne s _ h
  · rfl

theorem calEnded_sameRegs (s : State) (u : Nat) :
    SameRegs s (s.calEnded u) [Reg.GRD_U_CAL u, Reg.GRD_U_STAT u, Reg.GRD_U_CAL (1 - u), Reg.GRD_U_STAT (1 - u)] := fun a ha => by
  obtain ⟨-, -, haddr⟩ := endShown_apart u
  simp only [List.mem_cons, List.not_mem_nil, or_false, not_or] at ha
  obtain ⟨hcal, hstat, hcal', hstat'⟩ := ha
  refine (syncGu_sameRegs _ _ a (by simpa using hstat')).trans ((syncGu_sameRegs _ u a (by simpa using hstat)).trans
    ((calNext_reg_ne _ hcal').trans (reg_puts_ne s fun x hx => ?_)))
  rcases (haddr x hx).1 with e | e
  · exact e ▸ hcal
  · exact e ▸ hstat

theorem calEnded_prp (s : State) (u : Nat) : (s.calEnded u).prp = s.prp := by
  unfold State.calEnded State.calNext
  split <;> rfl

theorem calEnded_shows (s : State) {u : Nat} (hu : u < 2) :
    (s.calEnded u).bit (Fld.GRD_U_CAL_DONE u) = true ∧ (s.calEnded u).bit (Fld.GRD_U_CAL_GO u) = false ∧ (s.calEnded u).calBusy u = false ∧
    (s.calEnded u).bit (Fld.GRD_U_CAL_FAIL u) = s.bit (Fld.GRD_U_CAL_FAIL u) := by
  obtain ⟨hw, hd, hfail⟩ := endShown_apart u
  have hcal : (s.calEnded u).reg (Reg.GRD_U_CAL u) = (s.puts (endShown u)).reg (Reg.GRD_U_CAL u) :=
    (syncGu_sameRegs _ _ _ (by simp only [Reg.GRD_U_CAL, Reg.GRD_U_STAT, List.mem_singleton]; omega)).trans
      ((syncGu_sameRegs _ _ _ (by simp only [Reg.GRD_U_CAL, Reg.GRD_U_STAT, List.mem_singleton]; omega)).trans
        (calNext_reg_ne _ (by simp only [Reg.GRD_U_CAL]; omega)))
  have hbusy : (s.calEnded u).calBusy u = (s.puts (endShown u)).calBusy u :=
    (calBusy_syncGu _ _ u).trans ((calBusy_syncGu _ u u).trans (bit_of_reg (calNext_reg_ne _ (by
      simp only [Fld.GRD_U_STAT_CAL_BUSY, Reg.GRD_U_STAT, Reg.GRD_U_CAL]; omega))))
  have hbit (f : FieldRef) (hf : f.addr = Reg.GRD_U_CAL u) : (s.calEnded u).bit f = (s.puts (endShown u)).bit f :=
    bit_of_reg (by rw [hf, hcal])
  refine ⟨(hbit (Fld.GRD_U_CAL_DONE u) rfl).trans (bit_puts s hw hd rfl (by simp [endShown])),
    (hbit (Fld.GRD_U_CAL_GO u) rfl).trans (bit_puts s hw hd rfl (by simp [endShown])), hbusy.trans (bit_puts s hw hd rfl (by simp [endShown])),
    (hbit (Fld.GRD_U_CAL_FAIL u) rfl).trans (congrArg (· != 0) (get_puts_apart s fun x hx => (hfail x hx).2))⟩

/-- A report leaves the Girder's registers. -/
theorem reg_reportNone_grd (s : State) (code cls src : Nat) {a : Nat} (h : a / 0x10000 = 0x4008) : (s.reportNone code cls src).reg a = s.reg a := by
  have hb : ∀ f ∈ handlingFields ++ safeFields, f.addr / 0x10000 ≠ 0x4008 := by decide
  exact (blind_reg fun f hf e => hb f hf (e ▸ h)).report (fun _ _ => rfl) s code cls src 0 0

theorem calEnded_block (s : State) {u : Nat} (hu : u < 2) : SameBlocks s (s.calEnded u) [0x4008] :=
  SameBlocks.of_sameRegs (calEnded_sameRegs s u) (by
    simp only [List.forall_mem_cons, Reg.GRD_U_CAL, Reg.GRD_U_STAT]
    refine ⟨?_, ?_, ?_, ?_, by simp⟩ <;> omega)

/-- The registers of the coefficients are none that the end of a calibration writes. -/
theorem calEnded_cor (s : State) (u i : Nat) (hi : i < 4) : (s.calEnded u).reg (Reg.GRD_U_COR u i) = s.reg (Reg.GRD_U_COR u i) :=
  calEnded_sameRegs s u _ (by
    simp only [List.mem_cons, List.not_mem_nil, or_false, Reg.GRD_U_COR, Reg.GRD_U_CAL, Reg.GRD_U_STAT]; omega)

theorem calFailed_cor (s : State) (u : Fin 2) (i : Fin 4) : (s.calFailed u).reg (Reg.GRD_U_COR u i) = s.reg (Reg.GRD_U_COR u i) := by
  refine (reg_reportNone_grd _ _ _ _ (by simp only [Reg.GRD_U_COR]; omega)).trans (reg_put_ne s _ ?_)
  simp only [Fld.GRD_U_CAL_FAIL, Reg.GRD_U_COR, Reg.GRD_U_CAL]
  omega

theorem calFailed_fail (s : State) (u : Fin 2) : (s.calFailed u).bit (Fld.GRD_U_CAL_FAIL u) = true :=
  (bit_of_reg (reg_reportNone_grd _ _ _ _ (by simp only [Fld.GRD_U_CAL_FAIL, Reg.GRD_U_CAL]; omega))).trans
    (bit_putB_same s _ _ (by simp [Fld.GRD_U_CAL_FAIL]) Nat.one_pos)

theorem calFailed_recorded {s : State} {u : Nat} (h : s.parapetFree 0x2C 3 = true) : Recorded (s.calFailed u) 0x2C 3 u 0 0 := by
  have hr := report_recorded ((parapetFree_congr (t := s.putB (Fld.GRD_U_CAL_FAIL u) true) rfl rfl 0x2C 3).trans h) u 0 0
  rwa [if_neg (by decide)] at hr

/-! ### Background correction (R306, R307) -/

theorem keepSum_length (old : List Int) {new : List Int} (h : new.length = 3) : (keepSum old new).length = 4 := by
  simp [keepSum, h]

/-- What an update of the background correction leaves of a coefficient that fits is the coefficient. -/
theorem putS_fold_eq (f : Nat → FieldRef) (l : List Int) (s : State)
    (h : ∀ x ∈ l, ∀ i, -(2 ^ ((f i).w - 1) : Int) ≤ x ∧ x ≤ 2 ^ ((f i).w - 1) - 1) :
    l.zipIdx.foldl (fun s x => s.putS (f x.2) x.1) s = s.puts (sliceShown f l) := by
  rw [State.puts, sliceShown, List.foldl_map]
  refine List.foldl_ext _ _ s fun t x hx => ?_
  obtain ⟨hlo, hhi⟩ := h x.1 (List.fst_mem_of_mem_zipIdx hx) x.2
  rw [State.putS, clampI, max_eq_left hlo, min_eq_left hhi]

end Sys2Proof.Machine

/-! O29: the background correction, pairing, and the obligation. -/

namespace Sys2Proof.Machine

theorem puts_grd (l : List (FieldRef × Nat)) (s : State) : (s.puts l).grd = s.grd :=
  foldl_keeps State.grd l s _ fun _ _ _ => rfl

/-- The coefficients have moved: `f` restarts the count of conversions, BGC_LOCK shows the run of small moves. -/
def State.corMoved (s : State) (u : Nat) (f : GUnit → GUnit) : State :=
  (s.modGu u f).putB (Fld.GRD_U_STAT_BGC_LOCK u) (((s.modGu u f).gu u).lockRun == 8)

theorem corMoved_shows {s : State} (hs : s.grd.length = 2) {u : Nat} (hu : u < 2) {f : GUnit → GUnit} (hf : ∀ k, (f k).convs = 0) :
    ((s.corMoved u f).gu u).convs = 0 ∧ SameRegs s (s.corMoved u f) [Reg.GRD_U_STAT u] := by
  refine ⟨?_, fun a ha => reg_put_ne _ _ fun e => ha (List.mem_singleton.2 e)⟩
  rw [State.corMoved, gu_putB, gu_modGu_same f (hs ▸ hu), hf]

section
variable {s : State} {u : Fin 2} {cor : List (Int × Int × Int)}

theorem exec_grdBgcUpdate_off (h : s.mayUpdate u = false) : exec (.grdBgcUpdate u cor) s = .next s :=
  congrArg Host.Outcome.next (if_pos (by simp [h]))

variable {offs gains skews : List Int} (hl : cor.length = 3) (ho : offs = keepSum (s.slices (Fld.GRD_U_COR_OFF u)) (cor.map (·.1)))
  (hg : gains = keepSum (s.slices (Fld.GRD_U_COR_GAIN u)) (cor.map (·.2.1)))
  (hk : skews = keepSum (s.slices (Fld.GRD_U_COR_SKEW u)) (cor.map (·.2.2)))
  (h8 : ∀ x ∈ offs ++ skews, -128 ≤ x ∧ x ≤ 127) (h16 : ∀ x ∈ gains, -32768 ≤ x ∧ x ≤ 32767)
include hl ho hg hk h8 h16

/-- An update whose coefficients fit writes them as they are. -/
theorem exec_grdBgcUpdate (h : s.mayUpdate u = true) : ∃ f : GUnit → GUnit, (∀ k, (f k).convs = 0) ∧
    exec (.grdBgcUpdate u cor) s = .next ((s.puts (corShown u offs gains skews)).corMoved u f) := by
  have hfit : ((offs ++ skews).all (fun x => decide (-128 ≤ x ∧ x ≤ 127)) && gains.all (fun x => decide (-32768 ≤ x ∧ x ≤ 32767))) = true := by
    rw [Bool.and_eq_true, List.all_eq_true, List.all_eq_true]
    exact ⟨fun x hx => decide_eq_true (h8 x hx), fun x hx => decide_eq_true (h16 x hx)⟩
  have hput : skews.zipIdx.foldl (fun s x => s.putS (Fld.GRD_U_COR_SKEW u x.2) x.1)
      (gains.zipIdx.foldl (fun s x => s.putS (Fld.GRD_U_COR_GAIN u x.2) x.1)
        (offs.zipIdx.foldl (fun s x => s.putS (Fld.GRD_U_COR_OFF u x.2) x.1) s)) = s.puts (corShown u offs gains skews) := by
    rw [putS_fold_eq (Fld.GRD_U_COR_OFF u) offs s fun x hx _ => h8 x (List.mem_append_left _ hx),
      putS_fold_eq (Fld.GRD_U_COR_GAIN u) gains _ fun x hx _ => h16 x hx,
      putS_fold_eq (Fld.GRD_U_COR_SKEW u) skews _ fun x hx _ => h8 x (List.mem_append_right _ hx)]
    simp only [State.puts, corShown, List.foldl_append]
  have hgo : ¬ ((!s.mayUpdate u || decide (cor.length < 3) || !((offs ++ skews).all (fun x => decide (-128 ≤ x ∧ x ≤ 127)) &&
      gains.all (fun x => decide (-32768 ≤ x ∧ x ≤ 32767)))) = true) := by
    rw [hfit, h, hl]
    decide
  subst ho hg hk
  refine ⟨_, ?_, congrArg Host.Outcome.next ((if_neg hgo).trans (congrArg (fun t : State => State.corMoved t u _) hput))⟩
  exact fun _ => rfl

end

/-! ### Pairing (R308, R309) -/

/-- PAIR of both units. -/
def pairShown (b : Bool) : List (FieldRef × Nat) := [(Fld.GRD_U_CTRL_PAIR 0, flagOf b), (Fld.GRD_U_CTRL_PAIR 1, flagOf b)]

/-- The rounds in progress end where the units pair. -/
def State.pairQueues (s : State) (b : Bool) : State :=
  if b then (s.modGu 0 (fun k => { k with cont := [], pairNext := 0 })).modGu 1 (fun k => { k with cont := [] }) else s

theorem setPair_eq (s : State) (b : Bool) : s.setPair b = (((s.puts (pairShown b)).pairQueues b).syncGu 0).syncGu 1 := (rfl)

theorem pairQueues_regs (s : State) (b : Bool) : (s.pairQueues b).regs = s.regs := by
  unfold State.pairQueues
  split <;> rfl

theorem setPair_paired (s : State) (b : Bool) : (s.setPair b).paired = b := by
  have hctrl : (s.setPair b).reg (Reg.GRD_U_CTRL 0) = (s.puts (pairShown b)).reg (Reg.GRD_U_CTRL 0) := by
    rw [setPair_eq, syncGu_sameRegs _ 1 _ (by decide), syncGu_sameRegs _ 0 _ (by decide), reg_of_regs (pairQueues_regs _ b)]
  exact (bit_of_reg (f := Fld.GRD_U_CTRL_PAIR 0) hctrl).trans
    (bit_puts (f := Fld.GRD_U_CTRL_PAIR 0) s (by simp [pairShown, Fld.GRD_U_CTRL_PAIR]) (by
      simp [pairShown, FieldRef.apart, Fld.GRD_U_CTRL_PAIR, Reg.GRD_U_CTRL]) rfl (by simp [pairShown]))

theorem setPair_block (s : State) (b : Bool) : SameBlocks s (s.setPair b) [0x4008] := fun a ha => by
  have hne {c : Nat} (hc : c / 0x10000 = 0x4008) : a ≠ c := fun e => ha (by rw [e, hc]; decide)
  rw [setPair_eq, syncGu_sameRegs _ 1 a (by simpa using hne rfl), syncGu_sameRegs _ 0 a (by simpa using hne rfl),
    reg_of_regs (pairQueues_regs _ b)]
  refine reg_puts_ne s fun x hx => hne ?_
  have hx' : ∀ f ∈ [Fld.GRD_U_CTRL_PAIR 0, Fld.GRD_U_CTRL_PAIR 1], f.addr / 0x10000 = 0x4008 := by decide
  exact hx' x.1 (List.mem_map_of_mem hx)

/-- PAIR as a write of CTRL asks for it. -/
def State.pairAsked (s : State) (v : Nat) : State :=
  if v.testBit 4 then (if s.paired || s.mayPair then s.setPair true else s) else s.setPair false

theorem pairAsked_paired (s : State) (v : Nat) : (s.pairAsked v).paired = (v.testBit 4 && (s.paired || s.mayPair)) := by
  unfold State.pairAsked
  split
  next hv =>
    split
    next h => rw [setPair_paired, hv, h]; rfl
    next h =>
      simp only [Bool.or_eq_true, not_or, Bool.not_eq_true] at h
      rw [hv, h.1, h.2]
      rfl
  next hv =>
    rw [setPair_paired, Bool.eq_false_iff.2 hv]
    rfl

theorem pairAsked_block (s : State) (v : Nat) : SameBlocks s (s.pairAsked v) [0x4008] := by
  unfold State.pairAsked
  split
  · split
    · exact setPair_block s true
    · exact fun _ _ => rfl
  · exact setPair_block s false

/-- The fields of CTRL but PAIR, and what a write gives them. -/
def ctrlShown (u v : Nat) : List (FieldRef × Nat) :=
  (if u = 0 then [(Fld.GRD_U_CTRL_PAIR_IN 0, v / 2 ^ 14)] else []) ++
    [(Fld.GRD_U_CTRL_PACE u, v / 2 ^ 16), (Fld.GRD_U_CTRL_BGC_FREEZE u, flagOf (v.testBit 3)), (Fld.GRD_U_CTRL_BGC_EN u, flagOf (v.testBit 2)),
      (Fld.GRD_U_CTRL_CONT_EN u, flagOf (v.testBit 1)), (Fld.GRD_U_CTRL_EN u, flagOf (v.testBit 0))]

theorem ctrlShown_apart (u : Fin 2) (v : Nat) : (∀ x ∈ ctrlShown u v, x.1.lo + x.1.w ≤ 32 ∧ x.1.addr / 0x10000 = 0x4008 ∧
      x.1.apart (Fld.GRD_U_CTRL_PAIR 0) = true) ∧ (ctrlShown u v).Pairwise (fun x y => y.1.apart x.1 = true) := by
  have hf : ∀ u : Fin 2, (∀ f ∈ (ctrlShown u 0).map Prod.fst, f.lo + f.w ≤ 32 ∧ f.addr / 0x10000 = 0x4008 ∧
      f.apart (Fld.GRD_U_CTRL_PAIR 0) = true) ∧ ((ctrlShown u 0).map Prod.fst).Pairwise (fun f g => g.apart f = true) := by decide
  have he : (ctrlShown u 0).map Prod.fst = (ctrlShown u v).map Prod.fst := by
    simp only [ctrlShown, List.map_append]
    split <;> rfl
  obtain ⟨hx, hd⟩ := he ▸ hf u
  exact ⟨fun x h => hx x.1 (List.mem_map_of_mem h), List.pairwise_map.1 hd⟩

/-- The ports of unit u show its results when it is enabled, 0x8000 when it is not (R320). -/
def State.enabledPorts (s : State) (u v : Nat) (was : Bool) : State :=
  if v.testBit 0 then
    (if was then s else forEach (List.range 32) s (fun s e => s.setPort (grdPort u e) (s.get (Fld.GRD_U_RES_VALUE u e))))
  else s.grdOff u

theorem wrGrdCtrl_eq (s : State) (u v : Nat) : ∃ was, s.wrGrdCtrl u v = ((s.pairAsked v).puts (ctrlShown u v)).enabledPorts u v was := by
  unfold ctrlShown
  by_cases h : u = 0
  · subst h
    exact ⟨_, rfl⟩
  · simp only [if_neg h, List.nil_append, State.wrGrdCtrl]
    exact ⟨_, rfl⟩

theorem enabledPorts_sameRegs (s : State) (u v : Nat) (was : Bool) : SameRegs s (s.enabledPorts u v was) [Reg.GRD_U_STAT u] := by
  have hports (t : State) (g : State → Nat → Nat) (a : Nat) :
      (forEach (List.range 32) t fun t e => t.setPort (grdPort u e) (g t e)).reg a = t.reg a :=
    forEach_keeps (fun t => t.reg a) _ t _ fun _ _ _ => rfl
  unfold State.enabledPorts
  split
  · split
    · exact fun _ _ => rfl
    · exact fun a _ => hports s _ a
  · exact fun a ha => (syncGu_sameRegs _ u a ha).trans (hports _ (fun _ _ => 0x8000) a)

theorem wrGrdCtrl_shows (s : State) (u : Fin 2) (v : Nat) : (s.wrGrdCtrl u v).bit (Fld.GRD_U_CTRL_EN u) = v.testBit 0 ∧
    (s.wrGrdCtrl u v).bit (Fld.GRD_U_CTRL_CONT_EN u) = v.testBit 1 ∧
    (s.wrGrdCtrl u v).paired = (v.testBit 4 && (s.paired || s.mayPair)) ∧ SameBlocks s (s.wrGrdCtrl u v) [0x4008] := by
  obtain ⟨was, e⟩ := wrGrdCtrl_eq s u v
  obtain ⟨hx, hd⟩ := ctrlShown_apart u v
  have hw : ∀ x ∈ ctrlShown u v, x.1.lo + x.1.w ≤ 32 := fun x h => (hx x h).1
  have hstat := enabledPorts_sameRegs ((s.pairAsked v).puts (ctrlShown u v)) u v was
  have hctrl (w : Nat) : Reg.GRD_U_CTRL w ∉ [Reg.GRD_U_STAT u] := by
    simp only [Reg.GRD_U_CTRL, Reg.GRD_U_STAT, List.mem_singleton]; omega
  rw [e]
  refine ⟨(bit_of_reg (f := Fld.GRD_U_CTRL_EN u) (hstat _ (hctrl u))).trans (bit_puts _ hw hd rfl (by simp [ctrlShown])),
    (bit_of_reg (f := Fld.GRD_U_CTRL_CONT_EN u) (hstat _ (hctrl u))).trans (bit_puts _ hw hd rfl (by simp [ctrlShown])), ?_, ?_⟩
  · refine (bit_of_reg (f := Fld.GRD_U_CTRL_PAIR 0) (hstat _ (hctrl 0))).trans ?_
    rw [← pairAsked_paired]
    exact congrArg (· != 0) (get_puts_apart _ fun x h => (hx x h).2.2)
  · refine (pairAsked_block s v).trans (SameBlocks.trans (fun a ha => reg_puts_ne _ fun x h e => ha ?_)
      (SameBlocks.of_sameRegs hstat fun a ha => ?_))
    · rw [e, (hx x h).2.1]; decide
    · rw [List.mem_singleton.1 ha]
      exact girderBlock (x := 4) (by simp only [Reg.GRD_U_STAT]; omega) u.isLt (by decide)

/-- Settles O29: capture, calibration, correction and pairing by what each writes, the modulator's flag by its own register and port. -/
theorem girderCapturesAndCalibrates : Obligations.GirderCapturesAndCalibrates := by
  unfold Obligations.GirderCapturesAndCalibrates
  intro s u hs
  have hlen := grd_of_shaped hs
  have mem {i : Instr} {t : State} (h : exec i s = .next t) := memoryChangesOnlyByItsWriters i s t h
  refine ⟨fun hl ha => ?_, exec_captureDone_idle, fun m v ht => ?_, fun m v ht hv hg => ?_, fun hw hp hg => ?_, fun cor hb hl => ?_,
    fun cor hl => ⟨exec_grdBgcUpdate_off, fun offs gains skews ho hg hk h8 h16 hen hfr hb hc hn => ?_⟩, fun m v ht => ?_,
    fun j => ⟨fun he => ?_, fun he => ?_⟩⟩
  · have hi := exec_captureDone hl ha
    obtain ⟨harm, hdone, hidx, hr⟩ := captureDone_shows s u (s.gu u).trigAt
    exact ⟨_, hi, harm, hdone, hidx, hr, mem hi⟩
  · have hi : exec (.grdCaptureArm m u v) s = .next (s.wrCapctl u v.toNat) := congrArg Host.Outcome.next ((wr_grd v ht (by
      simp only [Reg.GRD_U_CAPCTL]; omega)).trans (writeGrd_watched s u.isLt v.toNat).2.2)
    obtain ⟨harm, hdone⟩ := wrCapctl_flags s u v.toNat
    have hset := wrCapctl_set s u v.toNat
    simp only [captureSet, List.forall_mem_cons] at hset
    obtain ⟨hentry, htrig, hpre, -⟩ := hset
    exact ⟨_, hi, hentry, htrig, hpre, harm, hdone, wrCapctl_arms hlen u.isLt, fun a ha => wrCapctl_reg_ne s (by simpa using ha), mem hi⟩
  · have hi : exec (.grdCalGo m u v) s = .next (s.wrCal u v.toNat) := congrArg Host.Outcome.next ((wr_grd v ht (by
      simp only [Reg.GRD_U_CAL]; omega)).trans (writeGrd_watched s u.isLt v.toNat).2.1)
    refine ⟨_, hi, ?_, mem hi, ?_⟩
    all_goals rw [wrCal_request hv hg]
    · intro a ha
      have hne : a ≠ Reg.GRD_U_CAL u := by simpa using ha
      split <;> exact (reg_put_ne _ _ hne).trans (calCleared_reg_ne s _ hne)
    · split
      · exact ⟨bit_putB_same _ _ _ (by simp [Fld.GRD_U_CAL_REFUSED]) Nat.one_pos, rfl⟩
      · refine ⟨bit_putB_same _ _ _ (by simp [Fld.GRD_U_CAL_GO]) Nat.one_pos, ?_⟩
        exact congrArg GUnit.calWait (gu_modGu_same (fun k => { k with calWait := true }) (u.isLt.trans_eq hlen.symm))
  · have hi := exec_grdCalStart hw hp hg
    have hgu := gu_modGu_same (fun k => { k with calWait := false, cont := [] }) (u.isLt.trans_eq hlen.symm)
    refine ⟨_, hi, (calBusy_syncGu _ u u).trans (bit_putB_same _ _ _ (by simp [Fld.GRD_U_STAT_CAL_BUSY]) Nat.one_pos), ?_, ?_,
      SameRegs.trans (fun a ha => reg_put_ne _ _ fun e => ha (List.mem_singleton.2 e)) (syncGu_sameRegs _ u), mem hi⟩
    · rw [gu_syncGu, gu_putB, hgu]
    · rw [gu_syncGu, gu_putB, hgu]
  · have hi := exec_grdCalDone hb hl
    obtain ⟨hdone, hgo, hbusy, hfail⟩ := calEnded_shows (if cor.all corFits then s.corStored u cor else s.calFailed u) u.isLt
    refine ⟨_, hi, hdone, hgo, hbusy, mem hi, fun h => ?_, fun h => ?_⟩
    · rw [if_pos h]
      refine ⟨(corStored_sameBlocks s u hl).trans (calEnded_block _ u.isLt), fun i => ?_⟩
      obtain ⟨hoff, hgain⟩ := corStored_getS s u hl h i
      have hcor := calEnded_cor (s.corStored u cor) u i i.isLt
      exact ⟨(getS_of_reg (f := Fld.GRD_U_COR_OFF u i) hcor).trans hoff, (getS_of_reg (f := Fld.GRD_U_COR_GAIN u i) hcor).trans hgain⟩
    · rw [h, if_neg Bool.false_ne_true] at hfail ⊢
      exact ⟨hfail.trans (calFailed_fail s u), fun i => (calEnded_cor _ u i i.isLt).trans (calFailed_cor s u i),
        fun hf => recorded_of_prp (calEnded_prp _ u) (calFailed_recorded hf)⟩
  · have hmay : s.mayUpdate u = true := by simp [State.mayUpdate, hen, hfr, hb, hc, hn]
    obtain ⟨f, hf, hi⟩ := exec_grdBgcUpdate hl ho hg hk h8 h16 hmay
    have hol : offs.length = 4 := ho ▸ keepSum_length _ (by simpa using hl)
    have hgl : gains.length = 4 := hg ▸ keepSum_length _ (by simpa using hl)
    have hkl : skews.length = 4 := hk ▸ keepSum_length _ (by simpa using hl)
    obtain ⟨hconv, hstat⟩ := corMoved_shows (s := s.puts (corShown u offs gains skews))
      ((congrArg List.length (puts_grd _ s)).trans hlen) u.isLt hf
    have hcor (i : Fin 4) : Reg.GRD_U_COR u i ∉ [Reg.GRD_U_STAT u] := by
      simp only [Reg.GRD_U_COR, Reg.GRD_U_STAT, List.mem_singleton]; omega
    refine ⟨_, hi, mem hi, hconv, fun a ha => ?_, fun i => ?_⟩
    · rw [List.mem_cons, not_or] at ha
      exact (hstat a (by simpa using ha.1)).trans (corShown_reg u hol hgl hkl s ha.2)
    · obtain ⟨hoff, hgain, hskew⟩ := corShown_getS u hol hgl hkl s h8 h16 i
      have hreg := hstat _ (hcor i)
      exact ⟨(getS_of_reg (f := Fld.GRD_U_COR_OFF u i) hreg).trans hoff, (getS_of_reg (f := Fld.GRD_U_COR_GAIN u i) hreg).trans hgain,
        (getS_of_reg (f := Fld.GRD_U_COR_SKEW u i) hreg).trans hskew⟩
  · have hi : exec (.grdPairWrite m u v) s = .next (s.wrGrdCtrl u v.toNat) := congrArg Host.Outcome.next ((wr_grd v ht (by
      simp only [Reg.GRD_U_CTRL]; omega)).trans (writeGrd_watched s u.isLt v.toNat).1)
    obtain ⟨hen, hcont, hpair, hblk⟩ := wrGrdCtrl_shows s u v.toNat
    exact ⟨_, hi, hen, hcont, hpair, hblk, mem hi⟩
  · have hi : exec (.modulatorStreamStuck j) s = .next ((s.putB (Fld.GRD_MOD_RES_FAULT j) true).setPort (2112 + j) 0x8000) :=
      congrArg Host.Outcome.next (if_pos he)
    exact ⟨_, hi, bit_putB_same s _ _ (by simp [Fld.GRD_MOD_RES_FAULT]) Nat.one_pos, port_setPort_same _ _ _,
      fun a ha => reg_put_ne s _ fun e => ha (List.mem_singleton.2 e), mem hi⟩
  · exact congrArg Host.Outcome.next (if_neg (by simp [he]))

end Sys2Proof.Machine

/-! SUPPORT for O30. What an entry of the event log and a report leave of the metering registers and of the control slots. -/

namespace Sys2Proof.Machine

/-! ### The control slots through a report -/

/-- The control slots loaded. -/
def State.slotList (s : State) : List Slot := s.kst.slots

@[simp] theorem slotList_mk {regs img secLen periodUs siteNs siteFrac ports cwy load mem truss spn phs kst arc prp tol pyl grd mods hkp sty vlk can trs
    pwr freeCtr rdata pending} :
    State.slotList ⟨regs, img, secLen, periodUs, siteNs, siteFrac, ports, cwy, load, mem, truss, spn, phs, kst, arc, prp, tol, pyl, grd, mods, hkp, sty,
      vlk, can, trs, pwr, freeCtr, rdata, pending⟩ = kst.slots := (rfl)

/-- The slots of one state fold back. -/
@[simp] theorem slotList_fold (s : State) : s.kst.slots = s.slotList := (rfl)

@[simp] theorem slotList_ite (c : Prop) [Decidable c] (s t : State) :
    (if c then s else t).slotList = if c then s.slotList else t.slotList := by split <;> rfl

@[simp] theorem slotList_forEach (l : List Nat) (s : State) (f : State → Nat → State) (h : ∀ s x, (f s x).slotList = s.slotList) :
    (forEach l s f).slotList = s.slotList := forEach_keeps State.slotList l s f fun t x _ => h t x

@[simp] theorem slotList_put (s : State) (f : FieldRef) (v : Nat) : (s.put f v).slotList = s.slotList := (rfl)
@[simp] theorem slotList_putB (s : State) (f : FieldRef) (b : Bool) : (s.putB f b).slotList = s.slotList := (rfl)
@[simp] theorem slotList_inc (s : State) (f : FieldRef) : (s.inc f).slotList = s.slotList := (rfl)
@[simp] theorem slotList_modOut (s : State) (m : Nat) (f : Outlet → Outlet) : (s.modOut m f).slotList = s.slotList := (rfl)
@[simp] theorem slotList_modLink (s : State) (l : Nat) (f : Link → Link) : (s.modLink l f).slotList = s.slotList := (rfl)

@[simp] theorem slotList_syncLower (s : State) : s.syncLower.slotList = s.slotList := by simp [State.syncLower]
@[simp] theorem slotList_abandonChecks (s : State) (m : Nat) : (s.abandonChecks m).slotList = s.slotList := by simp [State.abandonChecks]
@[simp] theorem slotList_abandonXps (s : State) (m : Nat) : (s.abandonXps m).slotList = s.slotList := by simp [State.abandonXps]
@[simp] theorem slotList_outputsOff (s : State) (m : Nat) : (s.outputsOff m).slotList = s.slotList := by simp [State.outputsOff]
@[simp] theorem slotList_setArmed (s : State) (m : Nat) : (s.setArmed m).slotList = s.slotList := by simp [State.setArmed]
@[simp] theorem slotList_settleOutputs (s : State) : s.settleOutputs.slotList = s.slotList := by simp [State.settleOutputs]
@[simp] theorem slotList_settleDisarm (s : State) : s.settleDisarm.slotList = s.slotList := by simp [State.settleDisarm]
@[simp] theorem slotList_syncQueue (s : State) : s.syncQueue.slotList = s.slotList := (rfl)
@[simp] theorem slotList_syncLatch (s : State) : s.syncLatch.slotList = s.slotList := by simp [State.syncLatch]
@[simp] theorem slotList_lowerBroadcast (s : State) : s.lowerBroadcast.slotList = s.slotList := by simp [State.lowerBroadcast]
@[simp] theorem slotList_classB (s : State) (r : FaultRec) : (s.classB r).slotList = s.slotList := by simp [State.classB]

@[simp] theorem slotList_assertSafe (s : State) : s.assertSafe.slotList = s.slotList := by
  obtain ⟨b, x, e, -, -⟩ := assertSafe_eq s
  have hm : ((s.fresh 16).2.safeMarked b).slotList = (s.fresh 16).2.slotList := by simp [State.safeMarked]
  rw [e]
  exact hm

@[simp] theorem slotList_startHandling (s : State) (r : FaultRec) : (s.startHandling r).slotList = s.slotList := by
  have ht : (s.taken r).slotList = s.slotList := rfl
  by_cases hA : r.cls = 1
  · simp [startHandling_A s hA, ht]
  by_cases hB : r.cls = 2
  · simp [startHandling_B s hB, ht]
  by_cases hC : r.cls = 3
  · rw [startHandling_C s hC]; rfl
  · rw [startHandling_D s hA hB hC]; rfl

@[simp] theorem slotList_meetManager (s : State) (r : FaultRec) : (s.meetManager r).slotList = s.slotList := by
  unfold State.meetManager
  repeat' split
  all_goals simp

theorem slotList_report (s : State) (code cls src o m : Nat) : (s.report code cls src o m).slotList = s.slotList := by
  unfold State.report
  extract_lets c u
  have hu : u.slotList = s.slotList := by simp [u]
  clear_value u
  split
  · exact (slotList_meetManager _ _).trans hu
  · exact hu

theorem role1_congr {s t : State} (hk : t.slotList = s.slotList) (hi : t.img = s.img) (m : Nat) : t.role1 m = s.role1 m := by
  have hslots : t.kst.slots = s.kst.slots := hk
  unfold State.role1 State.slotOutlet State.slotRole State.prog
  simp only [hslots, cfg_congr hi]

/-! ### The event log -/

/-- A reading that neither a field of the Tollhouse's block nor the Toll Book bears on: an entry of the event log leaves it. -/
structure LogBlind {β : Type} (p : State → β) : Prop where
  put : ∀ (s : State) (v : Nat) (f : FieldRef), f.addr / 0x10000 = 0x400A → p (s.put f v) = p s
  book : ∀ (s : State) (g : Book → Book), p (s.modBook g) = p s

theorem logBlind_reg {a : Nat} (h : a / 0x10000 ≠ 0x400A) : LogBlind (fun s => s.reg a) where
  put s v _ hf := reg_put_ne s v fun e => h (e ▸ hf)
  book _ _ := rfl

section
variable {β : Type} {p : State → β} (h : LogBlind p)
include h

theorem LogBlind.syncBook (s : State) : p s.syncBook = p s :=
  (h.put _ _ Fld.TOL_SAVESEQ_SEQ rfl).trans <| (h.put _ _ Fld.TOL_LOGSTAT_ARCH rfl).trans <|
    (h.put _ _ Fld.TOL_LOGSTAT_UNER rfl).trans (h.put s _ Fld.TOL_LOGSTAT_ROLL rfl)

theorem LogBlind.log (s : State) (code point : Nat) (data : List Byte) : p (s.log code point data) = p s := by
  unfold State.log State.logAt
  split
  · rfl
  · refine (h.syncBook _).trans ((h.book _ _).trans ?_)
    split
    · exact h.put s _ Fld.TOL_BEVT_ROLL_WRAP rfl
    · rfl

theorem LogBlind.flagSess (s : State) (n bit : Nat) : p (s.flagSess n bit) = p s := by
  unfold State.flagSess
  split
  · rfl
  · exact h.book s _

end

/-- Whatever is read of the metering registers, a report leaves alone. -/
theorem reg_report_meter (s : State) (code cls src : Nat) {a : Nat} (h : a / 0x10000 = 0x4009) : (s.reportNone code cls src).reg a = s.reg a := by
  have hb : ∀ f ∈ handlingFields ++ safeFields, f.addr / 0x10000 ≠ 0x4009 := by decide
  exact (blind_reg fun f hf e => hb f hf (e ▸ h)).report (fun _ _ => rfl) s code cls src 0 0

theorem tol_reportNone (s : State) (code cls src : Nat) : (s.reportNone code cls src).tol = s.tol :=
  congrArg (fun x => x.2.2.1) (report_aside s code cls src 0 0)

/-! ### A loop over points -/

/-- A loop comes to k once; where the other rounds leave a reading alone, that reading at the end is the one after that round. -/
theorem forEach_once {β : Type} (p : State → β) {l : List Nat} {k : Nat} (s : State) (f : State → Nat → State) (hk : k ∈ l) (hl : l.Nodup)
    (hne : ∀ t, ∀ x ∈ l, x ≠ k → p (f t x) = p t) : ∃ t, p t = p s ∧ p (forEach l s f) = p (f t k) := by
  obtain ⟨l₁, l₂, rfl⟩ := List.append_of_mem hk
  obtain ⟨h₁, h₂⟩ : k ∉ l₁ ∧ k ∉ l₂ := by
    obtain ⟨-, hk₂, hd⟩ := List.nodup_append.1 hl
    exact ⟨fun hm => hd k hm k (List.mem_cons_self ..) rfl, (List.nodup_cons.1 hk₂).1⟩
  refine ⟨forEach l₁ s f, forEach_keeps p l₁ s f fun t x hx => hne t x (List.mem_append_left _ hx) fun e => h₁ (e ▸ hx), ?_⟩
  have hsplit : forEach (l₁ ++ k :: l₂) s f = forEach l₂ (f (forEach l₁ s f) k) f := List.foldl_append
  rw [hsplit]
  exact forEach_keeps p l₂ _ f fun t x hx => hne t x (List.mem_append_right _ (List.mem_cons_of_mem _ hx)) fun e => h₂ (e ▸ hx)

end Sys2Proof.Machine

/-! SUPPORT for O30. A DC point's record and registers: the means of an interval, the cross-check, and the temperature's estimate. -/

namespace Sys2Proof.Machine

theorem points_of_shaped {s : State} (h : s.shaped = true) : s.tol.dc.length = 8 ∧ s.tol.ac.length = 4 ∧ s.tol.csn.length = 40 := by
  simp only [State.shaped, Bool.and_eq_true, beq_iff_eq] at h
  tauto

/-! ### A DC point's record and registers -/

/-- DC point p: its record, and the 32 registers of its own (spec/08). -/
def State.dcFace (s : State) (p : Nat) : DcPt × (Fin 0x80 → Nat) := (s.dcPt p, fun a => s.reg (0x40090400 + 0x80 * p + a))

theorem reg_of_dcFace {s t : State} {p a : Nat} (h : t.dcFace p = s.dcFace p) (ha : a / 0x80 = 0x801208 + p) : t.reg a = s.reg a := by
  have hr := congrFun (congrArg Prod.snd h) ⟨a % 0x80, Nat.mod_lt _ (by decide)⟩
  have e : 0x40090400 + 0x80 * p + a % 0x80 = a := by omega
  simpa only [State.dcFace, e] using hr

theorem dcFace_put (s : State) {f : FieldRef} (v : Nat) {p : Nat} (h : f.addr / 0x80 ≠ 0x801208 + p) : (s.put f v).dcFace p = s.dcFace p :=
  Prod.ext rfl (funext fun a => reg_put_ne s v fun e => h (by rw [← e]; omega))

theorem dcFace_modDc_ne (s : State) {x p : Nat} (f : DcPt → DcPt) (h : p ≠ x) : (s.modDc x f).dcFace p = s.dcFace p :=
  Prod.ext (nth_updAt_ne _ _ f h) rfl

theorem dcPt_modDc_same {s : State} {p : Nat} (f : DcPt → DcPt) (h : p < s.tol.dc.length) : (s.modDc p f).dcPt p = f (s.dcPt p) :=
  nth_updAt_same _ f h

@[simp] theorem reg_modDc (s : State) (p : Nat) (f : DcPt → DcPt) (a : Nat) : (s.modDc p f).reg a = s.reg a := (rfl)
@[simp] theorem get_modDc (s : State) (p : Nat) (f : DcPt → DcPt) (g : FieldRef) : (s.modDc p f).get g = s.get g := (rfl)
@[simp] theorem bit_modDc (s : State) (p : Nat) (f : DcPt → DcPt) (g : FieldRef) : (s.modDc p f).bit g = s.bit g := (rfl)

theorem puts_tol (l : List (FieldRef × Nat)) (s : State) : (s.puts l).tol = s.tol := foldl_keeps State.tol l s _ fun _ _ _ => rfl

/-! ### The means of an interval (R362) -/

/-- The code of the mean of quantity k, 0x8000_0000 where the interval had no result. -/
def DcPt.mean (d : DcPt) (k f : Nat) : Nat :=
  if d.mN = 0 then 0x80000000 else ofS 32 (codeFree (nth 0 d.mSum k / ((d.mN : Nat) : Rat)) f (-(2 ^ 31 : Int)) (2 ^ 31 - 1))

/-- What the registers of point p show of its record d; θ is the temperature's code. -/
def meansShown (p : Nat) (d : DcPt) (θ : Nat) : List (FieldRef × Nat) :=
  [(Fld.CSN_DC_MEAS_VALUE p 0, d.mean 0 16), (Fld.CSN_DC_MEAS_VALUE p 1, d.mean 1 16), (Fld.CSN_DC_MEAS_VALUE p 2, d.mean 2 0),
    (Fld.CSN_DC_MEAS_VALUE p 3, d.mean 3 0), (Fld.CSN_DC_MEAS_VALUE p 4, θ), (Fld.CSN_DC_STAT_OVR p, flagOf d.ovrIv)]

/-- The means shown, and the sums of the next interval opened. -/
def State.meansTaken (s : State) (p θ : Nat) : State :=
  (s.puts (meansShown p (s.dcPt p) θ)).modDc p (fun d => { d with mSum := [0, 0, 0, 0], mN := 0, ovrIv := false })

/-- The end of an interval goes through the points; one in use shows its means. -/
theorem exec_measIntervalEnd : ∃ f : State → Nat → State, (∀ s, exec .measIntervalEnd s =
      .next (if !s.tol.run then s else forEach (List.range 8) s f)) ∧
    ∀ s p, (s.dcOn p = false → f s p = s) ∧ (s.dcOn p = true → ∃ θ, f s p = s.meansTaken p θ) := by
  refine ⟨_, fun s => rfl, fun s p => ⟨fun h => if_pos (by rw [h]; rfl), fun h => ?_⟩⟩
  exact ⟨_, (if_neg (by rw [h]; decide)).trans rfl⟩

theorem meansShown_apart (p : Nat) (d : DcPt) (θ : Nat) : (∀ x ∈ meansShown p d θ, x.1.lo + x.1.w ≤ 32 ∧
      x.1.addr / 0x80 = 0x801208 + p) ∧ (meansShown p d θ).Pairwise (fun x y => y.1.apart x.1 = true) := by
  constructor
  · simp only [meansShown, List.forall_mem_cons, Fld.CSN_DC_MEAS_VALUE, Fld.CSN_DC_STAT_OVR, Reg.CSN_DC_MEAS, Reg.CSN_DC_STAT]
    refine ⟨?_, ?_, ?_, ?_, ?_, ?_, by simp⟩ <;> constructor <;> omega
  · simp [meansShown, FieldRef.apart, Fld.CSN_DC_MEAS_VALUE, Fld.CSN_DC_STAT_OVR, Reg.CSN_DC_MEAS, Reg.CSN_DC_STAT]
    omega

theorem meansTaken_reg_ne (s : State) {p a : Nat} (θ : Nat) (h : a / 0x80 ≠ 0x801208 + p) : (s.meansTaken p θ).reg a = s.reg a := by
  rw [State.meansTaken, reg_modDc]
  exact reg_puts_ne s fun x hx e => h (e ▸ ((meansShown_apart p (s.dcPt p) θ).1 x hx).2)

theorem meansTaken_dcFace_ne (s : State) {x p : Nat} (θ : Nat) (h : p ≠ x) : (s.meansTaken x θ).dcFace p = s.dcFace p :=
  Prod.ext ((nth_updAt_ne _ _ _ h).trans (congrArg (fun t => nth {} t.dc p) (puts_tol _ s)))
    (funext fun a => meansTaken_reg_ne s θ (by omega))

theorem meansTaken_shows {s : State} {p : Nat} (hp : p < s.tol.dc.length) (θ : Nat) : ((s.meansTaken p θ).dcPt p).mN = 0 ∧
    (s.meansTaken p θ).bit (Fld.CSN_DC_STAT_OVR p) = (s.dcPt p).ovrIv ∧
    ∀ k : Fin 4, (s.meansTaken p θ).get (Fld.CSN_DC_MEAS_VALUE p k) = (s.dcPt p).mean k (if k.val < 2 then 16 else 0) := by
  obtain ⟨hx, hd⟩ := meansShown_apart p (s.dcPt p) θ
  have hw : ∀ x ∈ meansShown p (s.dcPt p) θ, x.1.lo + x.1.w ≤ 32 := fun x h => (hx x h).1
  have hp' : p < (s.puts (meansShown p (s.dcPt p) θ)).tol.dc.length := by rwa [puts_tol]
  rw [State.meansTaken, bit_modDc, dcPt_modDc_same _ hp']
  refine ⟨rfl, bit_puts (f := Fld.CSN_DC_STAT_OVR p) s hw hd rfl (by simp [meansShown]), fun k => ?_⟩
  rw [get_modDc]
  have hm : (s.dcPt p).mean k (if k.val < 2 then 16 else 0) < 2 ^ 32 := by
    unfold DcPt.mean
    split
    · decide
    · exact ofS_lt 32 _
  have hk : (Fld.CSN_DC_MEAS_VALUE p k, (s.dcPt p).mean k (if k.val < 2 then 16 else 0)) ∈ meansShown p (s.dcPt p) θ := by
    fin_cases k <;> simp [meansShown]
  exact (get_puts s hw hd _ hk).trans (Nat.mod_eq_of_lt hm)

/-- A round of the interval's end leaves the other points' records and registers, and how many points there are. -/
theorem meansRound_keeps {f : State → Nat → State} {t : State} {x p : Nat} (hf : (t.dcOn x = false → f t x = t) ∧
      (t.dcOn x = true → ∃ θ, f t x = t.meansTaken x θ)) :
    (f t x).tol.dc.length = t.tol.dc.length ∧ (p ≠ x → (f t x).dcFace p = t.dcFace p) ∧
      (x < 8 → SameBlocks t (f t x) [0x4009]) := by
  cases h : t.dcOn x with
  | false => rw [hf.1 h]; exact ⟨rfl, fun _ => rfl, fun _ _ _ => rfl⟩
  | true =>
    obtain ⟨θ, e⟩ := hf.2 h
    rw [e]
    refine ⟨(length_updAt ..).trans (congrArg (fun t : Toll => t.dc.length) (puts_tol _ t)), meansTaken_dcFace_ne t θ, fun hx a ha => ?_⟩
    rw [List.mem_singleton] at ha
    exact meansTaken_reg_ne t θ (by omega)

/-- Every point in use shows the means of the interval that ends and opens the next. -/
theorem measIntervalEnd_shows {s : State} (hr : s.tol.run = true) (hlen : s.tol.dc.length = 8) : ∃ t, exec .measIntervalEnd s = .next t ∧
    SameBlocks s t [0x4009] ∧ ∀ p : Fin 8, s.dcOn p = true → (t.dcPt p).mN = 0 ∧ t.bit (Fld.CSN_DC_STAT_OVR p) = (s.dcPt p).ovrIv ∧
      ∀ k : Fin 4, t.get (Fld.CSN_DC_MEAS_VALUE p k) = (s.dcPt p).mean k (if k.val < 2 then 16 else 0) := by
  obtain ⟨f, hexec, hf⟩ := exec_measIntervalEnd
  have hi : exec .measIntervalEnd s = .next (forEach (List.range 8) s f) := by rw [hexec, hr]; rfl
  refine ⟨_, hi, fun a ha => forEach_keeps (fun t => t.reg a) _ s f fun t x hx =>
    (meansRound_keeps (p := x) (hf t x)).2.2 (List.mem_range.1 hx) a ha, fun p hon => ?_⟩
  obtain ⟨t, ht, hend⟩ := forEach_once (fun t => (t.dcFace p, t.tol.dc.length)) s f (List.mem_range.2 p.isLt) List.nodup_range
    fun t x _ hx => by
      obtain ⟨hl, hface, -⟩ := meansRound_keeps (p := p) (hf t x)
      exact Prod.ext (hface hx.symm) hl
  obtain ⟨hface, hl⟩ := Prod.mk.inj ht
  have hend := (Prod.mk.inj hend).1
  have hd : t.dcPt p = s.dcPt p := congrArg Prod.fst hface
  have hont : t.dcOn p = true :=
    (bit_of_reg (f := Fld.CSN_DC_CFG_EN p) (reg_of_dcFace hface (by simp only [Fld.CSN_DC_CFG_EN, Reg.CSN_DC_CFG]; omega))).trans hon
  obtain ⟨θ, e⟩ := (hf t p).2 hont
  obtain ⟨hn, ho, hm⟩ := meansTaken_shows (s := t) (p := p) (by rw [hl, hlen]; exact p.isLt) θ
  rw [hd] at ho
  rw [e] at hend
  refine ⟨(congrArg (fun x => x.1.mN) hend).trans hn, ?_, fun k => ?_⟩
  · exact (bit_of_reg (f := Fld.CSN_DC_STAT_OVR p) (reg_of_dcFace hend (by
      simp only [Fld.CSN_DC_STAT_OVR, Reg.CSN_DC_STAT]; omega))).trans ho
  · rw [← hd]
    exact (get_of_reg (f := Fld.CSN_DC_MEAS_VALUE p k) (reg_of_dcFace hend (by
      simp only [Fld.CSN_DC_MEAS_VALUE, Reg.CSN_DC_MEAS]; omega))).trans (hm k)

/-! ### The cross-check (R377 to R380) -/

/-- What the cross-check of point p turns on: its record and registers, its ROLE 1 slot, and the control period. -/
def State.checkFace (s : State) (p : Nat) : (DcPt × (Fin 0x80 → Nat)) × Option Slot × Nat := (s.dcFace p, s.role1 p, s.periodUs)

theorem checkFace_of_dcFace {s t : State} {p : Nat} (hd : t.dcFace p = s.dcFace p) (hs : t.slotList = s.slotList) (hi : t.img = s.img)
    (ht : t.periodUs = s.periodUs) : t.checkFace p = s.checkFace p :=
  Prod.ext hd (Prod.ext (role1_congr hs hi p) ht)

theorem checkFace_put (s : State) {f : FieldRef} (v : Nat) {p : Nat} (h : f.addr / 0x80 ≠ 0x801208 + p) :
    (s.put f v).checkFace p = s.checkFace p := checkFace_of_dcFace (dcFace_put s v h) rfl rfl rfl

theorem checkFace_modDc_ne (s : State) {x p : Nat} (f : DcPt → DcPt) (h : p ≠ x) : (s.modDc x f).checkFace p = s.checkFace p :=
  checkFace_of_dcFace (dcFace_modDc_ne s f h) rfl rfl rfl

theorem checkFace_reportNone (s : State) (code cls src : Nat) {p : Nat} (hp : p < 8) : (s.reportNone code cls src).checkFace p = s.checkFace p := by
  have hk := State.report_kept s code cls src 0 0
  refine checkFace_of_dcFace (Prod.ext ?_ (funext fun a => reg_report_meter s code cls src (by omega))) (slotList_report s code cls src 0 0)
    (congrArg (fun x => x.2.1) hk) (congrArg (fun x => x.2.2.2.1) hk)
  exact congrArg (fun t : Toll => nth {} t.dc p) (tol_reportNone s code cls src)

theorem logBlind_checkFace {p : Nat} (hp : p < 8) : LogBlind (fun s => s.checkFace p) where
  put s v _ hf := checkFace_put s v (by omega)
  book _ _ := checkFace_of_dcFace rfl rfl rfl rfl

section
variable {x p : Nat} (hx : p ≠ x) (hp : p < 8)
include hx hp

theorem checkFace_discrep (s : State) (up : Bool) (d : Rat) : (s.discrep x up d).checkFace p = s.checkFace p := by
  have hlog := logBlind_checkFace hp
  unfold State.discrep
  extract_lets s1 s2 s3
  have h3 : s3.checkFace p = s.checkFace p :=
    (checkFace_modDc_ne s2 _ hx).trans <| (hlog.log s1 _ _ _).trans <| (hlog.put _ _ Fld.TOL_MEVT_DISCREP rfl).trans
      (checkFace_put s _ (by simp only [Fld.CSN_DC_STAT_DISCREP, Reg.CSN_DC_STAT]; omega))
  split
  · exact (checkFace_reportNone _ _ _ _ hp).trans ((hlog.flagSess s3 _ _).trans h3)
  · exact h3

theorem checkFace_crossCheck (s : State) : (s.crossCheck x).checkFace p = s.checkFace p := by
  unfold State.crossCheck
  split
  · rfl
  extract_lets c d k fb n is counted s1 sc y hi lo up s2 s3
  have h1 : s1.checkFace p = s.checkFace p := checkFace_put s _ (by simp only [Fld.CSN_DC_STAT_XSUSP, Reg.CSN_DC_STAT]; omega)
  split
  · exact h1
  have h3 : s3.checkFace p = s.checkFace p :=
    (checkFace_modDc_ne s2 _ hx).trans <| (checkFace_put _ _ (by simp only [Fld.CSN_DC_XCHK_COUNT, Reg.CSN_DC_XCHK]; omega)).trans <|
      (checkFace_put s1 _ (by simp only [Fld.CSN_DC_XCHK_DIFF, Reg.CSN_DC_XCHK]; omega)).trans h1
  split
  · exact (checkFace_discrep hx hp s3 _ _).trans h3
  split
  · exact (checkFace_discrep hx hp s3 _ _).trans h3
  · exact h3

end

/-- Without feedback the check is suspended, and nothing else of it changes. -/
theorem crossCheck_suspended {s : State} {p : Nat} (hon : s.dcOn p = true) (hr : (s.role1 p).isSome = true) (ht : s.periodUs ≠ 0)
    (hfb : (s.dcPt p).fb = []) : s.crossCheck p = s.putB (Fld.CSN_DC_STAT_XSUSP p) true := by
  have hgo : ¬ ((!s.dcOn p || (s.role1 p).isNone || s.periodUs == 0) = true) := by
    simp [hon, Option.isSome_iff_ne_none.1 hr, ht]
  unfold State.crossCheck
  rw [if_neg hgo]
  extract_lets c d k fb n is counted s1 sc y hi lo up s2 s3
  have hk : 1 ≤ k := le_max_left ..
  have hlen : (fb.length == k) = false := by
    have e : fb.length = 0 := by simp [fb, d, hfb]
    rw [e, beq_eq_false_iff_ne]
    omega
  have hno : counted = false := by simp [counted, hlen]
  have h1 : s1 = s.putB (Fld.CSN_DC_STAT_XSUSP p) (!counted) := rfl
  rw [if_pos (by rw [hno]; rfl), h1, hno, Bool.not_false]

/-- The window of all points suspends the check of each that has no feedback. -/
theorem crossChecks_suspended {s : State} {p : Fin 8} (hon : s.dcOn p = true) (hr : (s.role1 p).isSome = true) (ht : s.periodUs ≠ 0)
    (hfb : (s.dcPt p).fb = []) : (forEach (List.range 8) s State.crossCheck).bit (Fld.CSN_DC_STAT_XSUSP p) = true ∧
      (forEach (List.range 8) s State.crossCheck).dcPt p = s.dcPt p := by
  obtain ⟨t, hface, hend⟩ := forEach_once (fun t => t.checkFace p) s State.crossCheck (List.mem_range.2 p.isLt) List.nodup_range
    fun t x _ hx => checkFace_crossCheck hx.symm p.isLt t
  obtain ⟨hd, hface⟩ := Prod.mk.inj hface
  obtain ⟨hslot, hper⟩ := Prod.mk.inj hface
  have hpt : t.dcPt p = s.dcPt p := congrArg Prod.fst hd
  have hont : t.dcOn p = true :=
    (bit_of_reg (f := Fld.CSN_DC_CFG_EN p) (reg_of_dcFace hd (by simp only [Fld.CSN_DC_CFG_EN, Reg.CSN_DC_CFG]; omega))).trans hon
  have hself := crossCheck_suspended hont (by rw [hslot]; exact hr) (by rw [hper]; exact ht) (by rw [hpt]; exact hfb)
  have hend := (Prod.mk.inj hend).1
  rw [hself] at hend
  refine ⟨?_, (congrArg Prod.fst hend).trans hpt⟩
  exact (bit_of_reg (f := Fld.CSN_DC_STAT_XSUSP p) (reg_of_dcFace hend (by
    simp only [Fld.CSN_DC_STAT_XSUSP, Reg.CSN_DC_STAT]; omega))).trans (bit_putB_same _ _ _ (by simp [Fld.CSN_DC_STAT_XSUSP]) Nat.one_pos)

/-! ### The temperature's estimate (R363, R364) -/

/-- Point p without an estimate: TSUB follows COMP. -/
def State.thetaLost (s : State) (p : Nat) : State :=
  if s.bit (Fld.CSN_DC_CFG_COMP p) = s.bit (Fld.CSN_DC_STAT_TSUB p) then s.modDc p (fun d => { d with thetaOk := false })
  else (s.modDc p (fun d => { d with thetaOk := false })).putB (Fld.CSN_DC_STAT_TSUB p) (s.bit (Fld.CSN_DC_CFG_COMP p))

/-- Where TSUB rises, its event is marked and the session flagged. -/
theorem setTheta_eq (s : State) (p : Nat) : s.setTheta p 0 false =
    if s.bit (Fld.CSN_DC_CFG_COMP p) = s.bit (Fld.CSN_DC_STAT_TSUB p) then s.thetaLost p
    else if s.bit (Fld.CSN_DC_CFG_COMP p) = true then
      (((s.thetaLost p).log 0x0107 p (toLE 1 0)).putB Fld.TOL_MEVT_TSUB true).flagSess p 5
    else (s.thetaLost p).log 0x0107 p (toLE 1 1) := by
  unfold State.setTheta State.thetaLost
  simp only [Bool.not_false, Bool.true_and]
  split
  · rfl
  · split <;> rfl

theorem LogBlind.setTheta {β : Type} {q : State → β} (h : LogBlind q) (s : State) (p : Nat) : q (s.setTheta p 0 false) = q (s.thetaLost p) := by
  rw [setTheta_eq]
  split
  · rfl
  split
  · exact (h.flagSess _ _ _).trans ((h.put _ _ Fld.TOL_MEVT_TSUB rfl).trans (h.log _ _ _ _))
  · exact h.log _ _ _ _

theorem thetaLost_reg_ne (s : State) {p a : Nat} (h : a ≠ Reg.CSN_DC_STAT p) : (s.thetaLost p).reg a = s.reg a := by
  unfold State.thetaLost
  split
  · rfl
  · exact reg_put_ne _ _ h

theorem thetaLost_dcPt {s : State} {p : Nat} (hp : p < s.tol.dc.length) : (s.thetaLost p).dcPt p = { s.dcPt p with thetaOk := false } := by
  unfold State.thetaLost
  split <;> exact dcPt_modDc_same (fun d => { d with thetaOk := false }) hp

theorem thetaLost_tsub (s : State) (p : Nat) : (s.thetaLost p).bit (Fld.CSN_DC_STAT_TSUB p) = s.bit (Fld.CSN_DC_CFG_COMP p) := by
  unfold State.thetaLost
  split
  next h => exact h.symm
  · exact bit_putB_same _ _ _ (by simp [Fld.CSN_DC_STAT_TSUB]) Nat.one_pos

theorem setTheta_event {s : State} {p : Nat} (hc : s.bit (Fld.CSN_DC_CFG_COMP p) = true) (ht : s.bit (Fld.CSN_DC_STAT_TSUB p) = false) :
    (s.setTheta p 0 false).bit Fld.TOL_MEVT_TSUB = true := by
  have hf (t : State) : (t.flagSess p 5).bit Fld.TOL_MEVT_TSUB = t.bit Fld.TOL_MEVT_TSUB := by
    unfold State.flagSess
    split <;> rfl
  rw [setTheta_eq, if_neg (by rw [hc, ht]; decide), if_pos hc, hf]
  exact bit_putB_same _ _ _ (by decide) Nat.one_pos

theorem logBlind_dcFace {p : Nat} (hp : p < 8) : LogBlind (fun s => s.dcFace p) where
  put s v _ hf := dcFace_put s v (by omega)
  book _ _ := rfl

/-- Without an estimate THETA_MAX is used, and TSUB follows COMP. -/
theorem setTheta_shows {s : State} (hlen : s.tol.dc.length = 8) (p : Fin 8) : SameBlocks s (s.setTheta p 0 false) [0x4009, 0x400A] ∧
    (s.setTheta p 0 false).thetaUsed p = (s.getS (Fld.CSN_DC_THETA_THETA_MAX p) : Rat) / 256 ∧
    (s.setTheta p 0 false).bit (Fld.CSN_DC_STAT_TSUB p) = s.bit (Fld.CSN_DC_CFG_COMP p) := by
  have hface := (logBlind_dcFace p.isLt).setTheta s p
  have hpt : (s.setTheta p 0 false).dcPt p = { s.dcPt p with thetaOk := false } :=
    (congrArg Prod.fst hface).trans (thetaLost_dcPt (p.isLt.trans_eq hlen.symm))
  have hstat : (s.setTheta p 0 false).reg (Reg.CSN_DC_STAT p) = (s.thetaLost p).reg (Reg.CSN_DC_STAT p) :=
    reg_of_dcFace hface (by unfold Reg.CSN_DC_STAT; omega)
  have hmax : (s.setTheta p 0 false).reg (Reg.CSN_DC_THETA p) = s.reg (Reg.CSN_DC_THETA p) :=
    (reg_of_dcFace hface (by unfold Reg.CSN_DC_THETA; omega)).trans
      (thetaLost_reg_ne s (by unfold Reg.CSN_DC_THETA Reg.CSN_DC_STAT; omega))
  refine ⟨fun a ha => ?_, ?_, (bit_of_reg (f := Fld.CSN_DC_STAT_TSUB p) hstat).trans (thetaLost_tsub s p)⟩
  · simp only [List.mem_cons, List.not_mem_nil, or_false, not_or] at ha
    obtain ⟨h9, hA⟩ := ha
    exact ((logBlind_reg hA).setTheta s p).trans (thetaLost_reg_ne s (by unfold Reg.CSN_DC_STAT; omega))
  · rw [← getS_of_reg (f := Fld.CSN_DC_THETA_THETA_MAX p) hmax]
    unfold State.thetaUsed
    rw [hpt]
    rfl

end Sys2Proof.Machine

/-! SUPPORT for O30. The window of an AC point, and what the points' instants leave of a channel. -/

namespace Sys2Proof.Machine

/-! ### The window of an AC point (R367 to R371) -/

@[simp] theorem reg_modAc (s : State) (g : Nat) (f : AcPt → AcPt) (a : Nat) : (s.modAc g f).reg a = s.reg a := (rfl)
@[simp] theorem bit_modAc (s : State) (g : Nat) (f : AcPt → AcPt) (h : FieldRef) : (s.modAc g f).bit h = s.bit h := (rfl)

/-- What the registers of point g show of a window: its quantities, frequency, creep, and whether a result was over range. -/
def State.windowShown (s : State) (g : Nat) (q : Nat → Nat → Nat) (hz : Int) (creep : Bool) : State :=
  (((forEach (List.range 3) s fun s h => forEach (List.range 12) s fun s x => s.put (Fld.CSN_AC_PH_Q_VALUE g h x) (q h x)).putU
    (Fld.CSN_AC_FREQ_HZ g) hz).putB (Fld.CSN_AC_STAT_CREEP g) creep).putB (Fld.CSN_AC_STAT_OVR g) (s.acPt g).ovrIv

theorem windowShown_reg (s : State) (g : Fin 4) (q : Nat → Nat → Nat) (hz : Int) (creep : Bool) {a : Nat} (h : a / 0x10000 ≠ 0x4009) :
    (s.windowShown g q hz creep).reg a = s.reg a := by
  have put (t : State) (f : FieldRef) (v : Nat) (hf : f.addr / 0x10000 = 0x4009) : (t.put f v).reg a = t.reg a :=
    reg_put_ne t v fun e => h (e ▸ hf)
  refine (put _ (Fld.CSN_AC_STAT_OVR g) _ ?_).trans <| (put _ (Fld.CSN_AC_STAT_CREEP g) _ ?_).trans <|
    (put _ (Fld.CSN_AC_FREQ_HZ g) _ ?_).trans (forEach_keeps (fun t => t.reg a) _ s _ fun t h hh =>
      forEach_keeps (fun t => t.reg a) _ t _ fun u x hx => put u _ _ ?_)
  · simp only [Fld.CSN_AC_STAT_OVR, Reg.CSN_AC_STAT]; omega
  · simp only [Fld.CSN_AC_STAT_CREEP, Reg.CSN_AC_STAT]; omega
  · simp only [Fld.CSN_AC_FREQ_HZ, Reg.CSN_AC_FREQ]; omega
  · have hh3 := List.mem_range.1 hh
    have hx12 := List.mem_range.1 hx
    simp only [Fld.CSN_AC_PH_Q_VALUE, Reg.CSN_AC_PH_Q]
    omega

theorem windowShown_tol (s : State) (g : Nat) (q : Nat → Nat → Nat) (hz : Int) (creep : Bool) : (s.windowShown g q hz creep).tol = s.tol := by
  rw [State.windowShown, putB_tol, putB_tol, putU_tol]
  exact forEach_keeps State.tol _ s _ fun t _ _ => forEach_keeps State.tol _ t _ fun _ _ _ => rfl

theorem windowShown_noCount (s : State) (g : Fin 4) (q : Nat → Nat → Nat) (hz : Int) (creep : Bool) :
    (s.windowShown g q hz creep).noCount = s.noCount := by
  have hb : (s.windowShown g q hz creep).bit Fld.TOL_BOOK_DAMAGED = s.bit Fld.TOL_BOOK_DAMAGED :=
    bit_of_reg (f := Fld.TOL_BOOK_DAMAGED) (windowShown_reg s g q hz creep (by decide))
  rw [State.noCount, State.noCount, windowShown_tol, hb]

/-- The window's sums start anew. -/
def AcPt.Restarted (a : AcPt) : Prop := a.buf = List.replicate 6 [] ∧ a.perN = 0 ∧ a.gapN = 0 ∧ a.ovrIv = false

/-- A window without a residue mismatch. -/
theorem exec_acWindowEnd {s : State} {g : Fin 4} (hon : s.acOn g = true) (hrun : s.tol.run = true) :
    ∃ (q : Nat → Nat → Nat) (hz : Int) (creep : Bool) (e : List Nat) (f : AcPt → AcPt),
      exec (.acWindowEnd g 0) s = .next ((s.windowShown g q hz creep).modAc g f) ∧
      (∀ a, (f a).Restarted ∧ (f a).e = if creep || (s.windowShown g q hz creep).noCount then (s.acPt g).e else e) := by
  have hgo : ¬ ((!s.acOn g || !s.tol.run) = true) := by simp [hon, hrun]
  refine ⟨_, _, _, _, _, congrArg Host.Outcome.next ((if_neg hgo).trans rfl), fun a => ⟨⟨rfl, rfl, rfl, rfl⟩, rfl⟩⟩

/-- A window restarts the sums of its point and shows whether a result was over range; while nothing counts the energies stay. -/
theorem acWindowEnd_shows {s : State} {g : Fin 4} (hon : s.acOn g = true) (hrun : s.tol.run = true) (hlen : s.tol.ac.length = 4) :
    ∃ t, exec (.acWindowEnd g 0) s = .next t ∧ (t.acPt g).Restarted ∧ t.bit (Fld.CSN_AC_STAT_OVR g) = (s.acPt g).ovrIv ∧
      (s.noCount = true → (t.acPt g).e = (s.acPt g).e) ∧ SameBlocks s t [0x4009] := by
  obtain ⟨q, hz, creep, e, f, hi, hf⟩ := exec_acWindowEnd hon hrun
  obtain ⟨hnew, he⟩ := hf (s.acPt g)
  have hpt : ((s.windowShown g q hz creep).modAc g f).acPt g = f (s.acPt g) := by
    have hn : (s.windowShown g q hz creep).acPt g = s.acPt g := congrArg (fun t : Toll => nth ({} : AcPt) t.ac g) (windowShown_tol s g q hz creep)
    rw [← hn]
    exact nth_updAt_same _ f (by rw [windowShown_tol, hlen]; exact g.isLt)
  refine ⟨_, hi, ?_, ?_, fun hno => ?_, fun a ha => ?_⟩
  · rw [hpt]
    exact hnew
  · rw [bit_modAc]
    exact bit_putB_same _ _ _ (by simp [Fld.CSN_AC_STAT_OVR]) Nat.one_pos
  · rw [hpt, he, windowShown_noCount, hno, Bool.or_true, if_pos rfl]
  · rw [reg_modAc]
    exact windowShown_reg s g q hz creep (by simpa using ha)

/-! ### A channel's result, and the instants of its points -/

/-- Channel c: its two registers, the filters, and whether accumulation has stopped. -/
def State.channel (s : State) (c : Nat) : (Nat × Nat × List Caisson) × Bool :=
  ((s.reg (Reg.CSN_CH_STAT c), s.reg (Reg.CSN_CH_RES c), s.tol.csn), s.tol.stopped)

section
variable (c : Fin 40)

/-- Points, events and the log stand above the channels' results. -/
theorem channel_put (s : State) (v : Nat) {f : FieldRef} (h : 0x40090400 ≤ f.addr) : (s.put f v).channel c = s.channel c := by
  have hstat : Reg.CSN_CH_STAT c ≠ f.addr := by unfold Reg.CSN_CH_STAT; omega
  have hres : Reg.CSN_CH_RES c ≠ f.addr := by unfold Reg.CSN_CH_RES; omega
  simp only [State.channel, reg_put_ne s v hstat, reg_put_ne s v hres, put_tol]

theorem channel_modTol (s : State) (f : Toll → Toll) (h : ∀ t, (f t).csn = t.csn ∧ (f t).stopped = t.stopped) :
    (s.modTol f).channel c = s.channel c :=
  Prod.ext (congrArg (fun x => (s.reg (Reg.CSN_CH_STAT c), s.reg (Reg.CSN_CH_RES c), x)) (h s.tol).1) (h s.tol).2

theorem channel_modDc (s : State) (p : Nat) (f : DcPt → DcPt) : (s.modDc p f).channel c = s.channel c :=
  channel_modTol c s _ fun _ => ⟨rfl, rfl⟩

theorem channel_modAc (s : State) (g : Nat) (f : AcPt → AcPt) : (s.modAc g f).channel c = s.channel c :=
  channel_modTol c s _ fun _ => ⟨rfl, rfl⟩

theorem logBlind_channel : LogBlind (fun s => s.channel c) where
  put s v _ hf := channel_put c s v (by omega)
  book s _ := channel_modTol c s _ fun _ => ⟨rfl, rfl⟩

theorem channel_meterFault (s : State) (src : Nat) : (s.meterFault src).channel c = s.channel c := by
  have hstat : Reg.CSN_CH_STAT c / 0x10000 = 0x4009 := by unfold Reg.CSN_CH_STAT; omega
  have hres : Reg.CSN_CH_RES c / 0x10000 = 0x4009 := by unfold Reg.CSN_CH_RES; omega
  simp only [State.channel, State.meterFault, reg_report_meter s _ _ _ hstat, reg_report_meter s _ _ _ hres, tol_reportNone]

theorem channel_gapEvent (s : State) (pt : Nat) (ends : Bool) (ms : Nat) : (s.gapEvent pt ends ms).channel c = s.channel c := by
  have hlog := logBlind_channel c
  unfold State.gapEvent
  extract_lets s1 s2
  have h1 : s1.channel c = s.channel c := (hlog.log _ _ _ _).trans (hlog.put s _ Fld.TOL_MEVT_GAP rfl)
  refine (channel_meterFault c s2 pt).trans ?_
  unfold s2
  split
  · exact (hlog.flagSess s1 _ _).trans h1
  · exact h1

theorem channel_followSess (s : State) (p eI eE : Nat) : (s.followSess p eI eE).channel c = s.channel c := by
  unfold State.followSess
  split
  · rfl
  · exact (logBlind_channel c).book s _

theorem channel_dcInstant (s : State) (p : Nat) : (s.dcInstant p).channel c = s.channel c := by
  unfold State.dcInstant
  extract_lets v i dt n10 win mean creep pd pl pw eI eE t on s1 s2 s3
  have h2 : s2.channel c = s.channel c :=
    (channel_modDc c s1 p _).trans (channel_put c s _ (by simp only [Fld.CSN_DC_STAT_CREEP, Reg.CSN_DC_STAT]; omega))
  split
  · exact h2
  · rw [channel_followSess, channel_modDc, h2]

theorem channel_dcStep (s : State) (p : Nat) : (s.dcStep p).channel c = s.channel c := by
  unfold State.dcStep
  extract_lets meas ok s1
  have h1 : s1.channel c = s.channel c := channel_put c s _ (by simp only [Fld.CSN_DC_STAT_MEAS, Reg.CSN_DC_STAT]; omega)
  split
  · rw [channel_dcInstant, h1]
  · rw [channel_gapEvent, channel_modDc, h1]
  · rw [channel_modDc, h1]
  · rw [channel_dcInstant, channel_gapEvent, channel_modDc, h1]

theorem channel_setLock (s : State) (g : Nat) : (s.setLock g).channel c = s.channel c := by
  unfold State.setLock
  extract_lets a f ok was s1
  have h1 : s1.channel c = s.channel c := channel_put c s _ (by simp only [Fld.CSN_AC_STAT_FLOCK, Reg.CSN_AC_STAT]; omega)
  split
  · exact (channel_put c s1 _ (by decide)).trans h1
  · exact h1

theorem channel_crossing (s : State) (g : Nat) : (s.crossing g).channel c = s.channel c := by
  unfold State.crossing
  extract_lets ch v o a f per s1 s2
  refine (channel_setLock c s2 g).trans ?_
  unfold s2
  split
  · split
    · exact (channel_modTol c s1 _ fun _ => ⟨rfl, rfl⟩).trans (channel_modAc c s g _)
    · exact channel_modAc c s g _
  · exact channel_modAc c s g _

theorem channel_acStep (s : State) (g : Nat) : (s.acStep g).channel c = s.channel c := by
  unfold State.acStep
  extract_lets chs ok s1 take lose
  have h1 : s1.channel c = s.channel c := channel_put c s _ (by simp only [Fld.CSN_AC_STAT_MEAS, Reg.CSN_AC_STAT]; omega)
  have htake (t : State) : (take t).channel c = t.channel c := (channel_crossing c _ g).trans (channel_modAc c t g _)
  have hlose (t : State) (n : Nat) : (lose t n).channel c = t.channel c := (channel_setLock c _ g).trans (channel_modAc c t g _)
  split
  · rw [htake, h1]
  · rw [channel_gapEvent, hlose, h1]
  · rw [hlose, h1]
  · rw [htake, channel_gapEvent, channel_modAc, h1]

theorem channel_ovrEvent (s : State) (k : Nat) : (s.ovrEvent k).channel c = s.channel c := by
  have hlog := logBlind_channel c
  unfold State.ovrEvent
  extract_lets s1 s2
  have h2 : s2.channel c = s.channel c :=
    (forEach_keeps (fun t => t.channel c) _ s1 _ fun t g _ => channel_modAc c t g _).trans (hlog.put s _ Fld.TOL_MEVT_OVR rfl)
  refine (forEach_keeps (fun t => t.channel c) _ s2 _ fun t p _ => ?_).trans h2
  extract_lets first t1
  have ht : t1.channel c = t.channel c := channel_modDc c t p _
  split
  · exact (hlog.flagSess _ _ _).trans ((hlog.log t1 _ _ _).trans ht)
  · exact ht

/-- A residue mismatch that recomputing does not remove stops accumulation (R376). -/
theorem channel_residEvent (s : State) (n k : Nat) : (s.residEvent n k).channel c = ((s.channel c).1, s.tol.stopped || decide (2 ≤ k)) := by
  have hlog := logBlind_channel c
  unfold State.residEvent
  split
  next h => simp [h, State.channel]
  split
  next h =>
    refine (hlog.log s _ _ _).trans ?_
    simp [h, State.channel]
  next h0 h1 =>
    extract_lets s1 s2 s3
    have hs1 : s1.channel c = ((s.channel c).1, true) :=
      congrArg (fun x : (Nat × Nat × List Caisson) × Bool => (x.1, true)) (hlog.log s 0x0105 0xFF (toLE 1 1))
    have hs3 : s3.channel c = s1.channel c :=
      (forEach_keeps (fun t => t.channel c) _ s2 _ fun t g _ =>
        channel_put c t _ (by simp only [Fld.CSN_AC_STAT_RESID, Reg.CSN_AC_STAT]; omega)).trans
      (forEach_keeps (fun t => t.channel c) _ s1 _ fun t p _ =>
        channel_put c t _ (by simp only [Fld.CSN_DC_STAT_RESID, Reg.CSN_DC_STAT]; omega))
    have hevt : (s3.putB Fld.TOL_MEVT_RESIDUE true).channel c = s3.channel c := hlog.put s3 _ Fld.TOL_MEVT_RESIDUE rfl
    rw [channel_meterFault, hevt, hs3, hs1, decide_eq_true (by omega : 2 ≤ k), Bool.or_true]

end

end Sys2Proof.Machine

/-! O30: a channel's result, and the obligation. -/

namespace Sys2Proof.Machine

/-! ### The registers of a result (R341, R344, R349) -/

/-- What the registers of channel c show of a result; n is COUNT before it, `ok` where the channel is ready, neither stuck nor discarded. -/
def channelShown (c n : Nat) (code : Int) (stuck ovr disc ok : Bool) : List (FieldRef × Nat) :=
  [(Fld.CSN_CH_STAT_COUNT c, n + 1), (Fld.CSN_CH_STAT_STUCK c, flagOf stuck), (Fld.CSN_CH_STAT_OVR c, flagOf ovr),
    (Fld.CSN_CH_STAT_DISC c, flagOf disc), (Fld.CSN_CH_STAT_VALID c, flagOf (ok && !ovr)),
    (Fld.CSN_CH_RES_VALUE c, if ok && !ovr then ofS 32 code else 0x80000000)]

/-- The registers of a result written. -/
def State.resultNoted (s : State) (c : Nat) (code : Int) (stuck ovr : Bool) : State :=
  s.puts (channelShown c (s.get (Fld.CSN_CH_STAT_COUNT c)) code stuck ovr s.prp.clkBad (!stuck && !s.prp.clkBad && s.tol.ready.testBit c))

section
variable (s : State) (c : Nat) (code : Int) (stuck ovr : Bool)

theorem showResult_regs : (s.showResult c code stuck ovr).regs = (s.resultNoted c code stuck ovr).regs := by
  unfold State.showResult
  extract_lets disc ok s1 s2 s3
  split <;> rfl

theorem showResult_tol : (s.showResult c code stuck ovr).tol = s.tol := by
  unfold State.showResult
  extract_lets disc ok s1 s2 s3
  split <;> rfl

theorem channelShown_apart (n : Nat) (disc ok : Bool) : (∀ x ∈ channelShown c n code stuck ovr disc ok, x.1.lo + x.1.w ≤ 32 ∧
      (x.1.addr = Reg.CSN_CH_STAT c ∨ x.1.addr = Reg.CSN_CH_RES c)) ∧
    (channelShown c n code stuck ovr disc ok).Pairwise (fun x y => y.1.apart x.1 = true) := by
  have hne : Reg.CSN_CH_RES c ≠ Reg.CSN_CH_STAT c := by unfold Reg.CSN_CH_RES Reg.CSN_CH_STAT; omega
  constructor
  · simp [channelShown, Fld.CSN_CH_STAT_COUNT, Fld.CSN_CH_STAT_STUCK, Fld.CSN_CH_STAT_OVR, Fld.CSN_CH_STAT_DISC, Fld.CSN_CH_STAT_VALID,
      Fld.CSN_CH_RES_VALUE]
  · simp [channelShown, FieldRef.apart, Fld.CSN_CH_STAT_COUNT, Fld.CSN_CH_STAT_STUCK, Fld.CSN_CH_STAT_OVR, Fld.CSN_CH_STAT_DISC,
      Fld.CSN_CH_STAT_VALID, Fld.CSN_CH_RES_VALUE, hne.symm]

theorem resultNoted_reg_ne {a : Nat} (h : a ≠ Reg.CSN_CH_STAT c ∧ a ≠ Reg.CSN_CH_RES c) : (s.resultNoted c code stuck ovr).reg a = s.reg a :=
  reg_puts_ne s fun x hx e => ((channelShown_apart c code stuck ovr _ _ _).1 x hx).2.elim (fun hs => h.1 (e.trans hs)) fun hr => h.2 (e.trans hr)

theorem resultNoted_shows : (s.resultNoted c code stuck ovr).get (Fld.CSN_CH_STAT_COUNT c) =
      (s.get (Fld.CSN_CH_STAT_COUNT c) + 1) % 2 ^ (Fld.CSN_CH_STAT_COUNT c).w ∧
    (s.resultNoted c code stuck ovr).bit (Fld.CSN_CH_STAT_STUCK c) = stuck ∧
    (s.resultNoted c code stuck ovr).bit (Fld.CSN_CH_STAT_OVR c) = ovr ∧
    (s.resultNoted c code stuck ovr).bit (Fld.CSN_CH_STAT_DISC c) = s.prp.clkBad ∧
    (s.resultNoted c code stuck ovr).get (Fld.CSN_CH_RES_VALUE c) =
      if (!stuck && !ovr && !s.prp.clkBad && s.tol.ready.testBit c) = true then ofS 32 code else 0x80000000 := by
  obtain ⟨hx, hd⟩ := channelShown_apart c code stuck ovr (s.get (Fld.CSN_CH_STAT_COUNT c)) s.prp.clkBad
    (!stuck && !s.prp.clkBad && s.tol.ready.testBit c)
  have hw := fun x h => (hx x h).1
  have hok : (!stuck && !s.prp.clkBad && s.tol.ready.testBit c && !ovr) = (!stuck && !ovr && !s.prp.clkBad && s.tol.ready.testBit c) := by ac_rfl
  refine ⟨get_puts s hw hd (Fld.CSN_CH_STAT_COUNT c, s.get (Fld.CSN_CH_STAT_COUNT c) + 1) (by simp [channelShown]),
    bit_puts s hw hd rfl (by simp [channelShown]), bit_puts s hw hd rfl (by simp [channelShown]),
    bit_puts s hw hd rfl (by simp [channelShown]), ?_⟩
  have hv := get_puts s hw hd (Fld.CSN_CH_RES_VALUE c, _) (List.mem_of_getElem? (i := 5) rfl)
  rw [hok] at hv
  refine hv.trans (Nat.mod_eq_of_lt ?_)
  dsimp only
  split
  · exact ofS_lt 32 code
  · exact (by decide : 0x80000000 < 2 ^ 32)

end

/-! ### A result of a channel (R341, R355 to R376) -/

theorem correctCh_regs (s : State) (c : Nat) (x : Int) : (s.correctCh c x).regs = s.regs := rfl

theorem calTake_regs (s : State) (c : Nat) (x : Int) : (s.calTake c x).regs = s.regs := by
  unfold State.calTake
  split <;> rfl

theorem channel_correctCh (s : State) (c : Fin 40) (k : Nat) (x : Int) : (s.correctCh k x).channel c = s.channel c :=
  channel_modTol c s _ fun _ => ⟨rfl, rfl⟩

theorem channel_calTake (s : State) (c : Fin 40) (k : Nat) (x : Int) : (s.calTake k x).channel c = s.channel c := by
  unfold State.calTake
  split
  · rfl
  · exact channel_modTol c s _ fun _ => ⟨rfl, rfl⟩

/-- Behind its registers a result only feeds the points; a lasting residue mismatch stops accumulation. -/
theorem channel_takeResult (s : State) (c : Fin 40) (x : Int) (stuck ovr : Bool) (resid : Nat) :
    (s.takeResult c x stuck ovr resid).channel c =
      (((s.showResult c x stuck ovr).channel c).1, (s.showResult c x stuck ovr).tol.stopped || decide (2 ≤ resid)) := by
  unfold State.takeResult
  extract_lets s1 pts s2 s3 s4 n s5
  have h2 : s2.channel c = s1.channel c := by
    unfold s2
    split
    · rfl
    · rw [channel_calTake, channel_correctCh]
  have h3 : s3.channel c = s1.channel c := by
    unfold s3
    split
    · rw [channel_ovrEvent, h2]
    · exact h2
  have h4 : s4.channel c = ((s1.channel c).1, s1.tol.stopped || decide (2 ≤ resid)) := by
    have hstop : s3.tol.stopped = s1.tol.stopped := congrArg Prod.snd h3
    unfold s4
    rw [channel_residEvent, h3, hstop]
  have h5 : s5.channel c = s4.channel c := forEach_keeps (fun t => t.channel c) _ s4 _ fun t p _ => by
    split
    · exact channel_dcStep c t p
    · rfl
  refine ((forEach_keeps (fun t => t.channel c) _ s5 _ fun t g _ => ?_).trans h5).trans h4
  split
  · exact channel_acStep c t g
  · rfl

/-- Which points use a channel stands in the points' own registers. -/
theorem pointsOf_congr {s t : State} (h : ∀ a, 0x40090400 ≤ a → t.reg a = s.reg a) (c : Nat) : t.dcOf c = s.dcOf c ∧ t.acOf c = s.acOf c := by
  have hcfg (p : Nat) : t.reg (Reg.CSN_DC_CFG p) = s.reg (Reg.CSN_DC_CFG p) := h _ (by unfold Reg.CSN_DC_CFG; omega)
  have hac (g : Nat) : t.reg (Reg.CSN_AC_CFG g) = s.reg (Reg.CSN_AC_CFG g) := h _ (by unfold Reg.CSN_AC_CFG; omega)
  have hvch (g : Nat) : t.reg (Reg.CSN_AC_VCH g) = s.reg (Reg.CSN_AC_VCH g) := h _ (by unfold Reg.CSN_AC_VCH; omega)
  have hich (g : Nat) : t.reg (Reg.CSN_AC_ICH g) = s.reg (Reg.CSN_AC_ICH g) := h _ (by unfold Reg.CSN_AC_ICH; omega)
  constructor
  · refine List.filter_congr fun p _ => ?_
    simp only [State.dcOn, State.dcV, State.dcI, bit_of_reg (f := Fld.CSN_DC_CFG_EN p) (hcfg p),
      get_of_reg (f := Fld.CSN_DC_CFG_VCH p) (hcfg p), get_of_reg (f := Fld.CSN_DC_CFG_ICH p) (hcfg p)]
  · refine List.filter_congr fun g _ => ?_
    simp only [State.acOn, State.acCh, bit_of_reg (f := Fld.CSN_AC_CFG_EN g) (hac g), get_of_reg (f := Fld.CSN_AC_VCH_A g) (hvch g),
      get_of_reg (f := Fld.CSN_AC_VCH_B g) (hvch g), get_of_reg (f := Fld.CSN_AC_VCH_C g) (hvch g),
      get_of_reg (f := Fld.CSN_AC_ICH_A g) (hich g), get_of_reg (f := Fld.CSN_AC_ICH_B g) (hich g), get_of_reg (f := Fld.CSN_AC_ICH_C g) (hich g)]

/-- A result of a channel that no point uses, without a mismatch, writes the channel's registers only. -/
theorem takeResult_regs {s : State} {c : Nat} {x : Int} {stuck ovr : Bool} (hd : (s.showResult c x stuck ovr).dcOf c = [])
    (ha : (s.showResult c x stuck ovr).acOf c = []) : (s.takeResult c x stuck ovr 0).regs = (s.showResult c x stuck ovr).regs := by
  unfold State.takeResult
  extract_lets s1 pts s2 s3 s4 n s5
  have hpts : pts = false := by
    show (s1.dcOf c != [] || s1.acOf c != []) = false
    rw [hd, ha]
    rfl
  have h2 : s2.regs = s1.regs := by
    unfold s2
    split
    · rfl
    · rw [calTake_regs, correctCh_regs]
  have h4 : s4 = s2 := by
    unfold s4 s3
    rw [hpts]
    rfl
  obtain ⟨hd4, ha4⟩ := pointsOf_congr (s := s1) (t := s4) (fun a _ => reg_of_regs (h4 ▸ h2) a) c
  have h5 : s5 = s4 := by
    unfold s5
    rw [hd4, hd]
    rfl
  rw [h5, ha4, ha, h4]
  exact h2

section
variable {s : State} {c : Fin 40} {rise fall : List Bool} {mismatch again : Bool}

/-- The filter of a channel takes the bits of one result. -/
def State.filterPut (s : State) (c : Nat) (k : Caisson) : State := s.modTol (fun t => { t with csn := updAt t.csn c (fun _ => k) })

/-- How a mismatch of the residues ended: none, recovered, lasting (R376). -/
def residueOf (mismatch again : Bool) : Nat := if mismatch then if again then 2 else 1 else 0

theorem exec_caissonResult_off (h : s.chUsed c = false ∨ s.tol.run = false) : exec (.caissonResult c rise fall mismatch again) s = .next s :=
  congrArg Host.Outcome.next (if_pos (by rcases h with h | h <;> simp [h]))

/-- A result of a used channel, with the Toll core running. -/
theorem exec_caissonResult (hu : s.chUsed c = true) (hr : s.tol.run = true) {k : Caisson} (hk : k = s.filtered c (rise.zip fall)) :
    exec (.caissonResult c rise fall mismatch again) s =
      .next ((s.filterPut c k).takeResult c (k.code (s.osr c)) (k.same == 128) k.over (residueOf mismatch again)) := by
  subst hk
  exact congrArg Host.Outcome.next (if_neg (by simp [hu, hr]))

end

/-- What a result leaves of its channel: its registers, the filters, and whether accumulation stops. -/
theorem takeResult_shows (s : State) (c : Fin 40) (x : Int) (stuck ovr : Bool) (resid : Nat) :
    (s.takeResult c x stuck ovr resid).reg (Reg.CSN_CH_STAT c) = (s.resultNoted c x stuck ovr).reg (Reg.CSN_CH_STAT c) ∧
    (s.takeResult c x stuck ovr resid).reg (Reg.CSN_CH_RES c) = (s.resultNoted c x stuck ovr).reg (Reg.CSN_CH_RES c) ∧
    (s.takeResult c x stuck ovr resid).tol.csn = s.tol.csn ∧ (2 ≤ resid → (s.takeResult c x stuck ovr resid).tol.stopped = true) := by
  have hch := channel_takeResult s c x stuck ovr resid
  have hregs := reg_of_regs (showResult_regs s c x stuck ovr)
  refine ⟨(congrArg (fun x => x.1.1) hch).trans (hregs _), (congrArg (fun x => x.1.2.1) hch).trans (hregs _),
    (congrArg (fun x => x.1.2.2) hch).trans (congrArg Toll.csn (showResult_tol s c x stuck ovr)), fun h => ?_⟩
  refine (congrArg Prod.snd hch).trans ?_
  rw [decide_eq_true h, Bool.or_true]

theorem filterPut_filter {s : State} {c : Nat} (k : Caisson) (h : c < s.tol.csn.length) : nth {} (s.filterPut c k).tol.csn c = k :=
  nth_updAt_same _ _ h

/-- A result of a channel that no point uses, without a mismatch, leaves every register but the channel's two. -/
theorem takeResult_sameRegs {s : State} {c : Nat} (k : Caisson) (x : Int) (stuck ovr : Bool) (hd : s.dcOf c = []) (ha : s.acOf c = []) (hc : c < 40) :
    SameRegs s ((s.filterPut c k).takeResult c x stuck ovr 0) [Reg.CSN_CH_STAT c, Reg.CSN_CH_RES c] := by
  have hkeep (b : Nat) (hb : b ≠ Reg.CSN_CH_STAT c ∧ b ≠ Reg.CSN_CH_RES c) : ((s.filterPut c k).showResult c x stuck ovr).reg b = s.reg b :=
    (reg_of_regs (showResult_regs (s.filterPut c k) c x stuck ovr) b).trans (resultNoted_reg_ne (s.filterPut c k) c x stuck ovr hb)
  obtain ⟨hdc, hac⟩ := pointsOf_congr (s := s) (fun b hb => hkeep b (by unfold Reg.CSN_CH_STAT Reg.CSN_CH_RES; omega)) c
  intro a hne
  simp only [List.mem_cons, List.not_mem_nil, or_false, not_or] at hne
  exact (reg_of_regs (takeResult_regs (hdc.trans hd) (hac.trans ha)) a).trans (hkeep a hne)

/-! ### The obligation -/

/-- Settles O30: a result by what the instants of the points leave of its channel, the points' windows and intervals by their own writes. -/
theorem meteringResultsAct : Obligations.MeteringResultsAct := by
  unfold Obligations.MeteringResultsAct
  intro s hs
  obtain ⟨hdc, hac, hcsn⟩ := points_of_shaped hs
  have mem {i : Instr} {t : State} (h : exec i s = .next t) := memoryChangesOnlyByItsWriters i s t h
  refine ⟨fun c rise fall mismatch again k hk => ⟨exec_caissonResult_off, fun hu hr => ?_, fun hu => ?_⟩, fun g => ⟨fun h r => ?_, fun hon hr => ?_⟩,
    fun hr => ⟨?_, ?_⟩, fun hr => ?_, fun hr => ?_, fun p => ⟨fun hoff => ?_, fun hon => ?_⟩⟩
  · have hi := exec_caissonResult (mismatch := mismatch) (again := again) hu hr hk
    obtain ⟨hstat, hval, hfilter, hstop⟩ := takeResult_shows (s.filterPut c k) c (k.code (s.osr c)) (k.same == 128) k.over (residueOf mismatch again)
    obtain ⟨hcount, hstuck, hovr, hdisc, hres⟩ := resultNoted_shows (s.filterPut c k) c (k.code (s.osr c)) (k.same == 128) k.over
    refine ⟨_, hi, mem hi, ?_, (get_of_reg (f := Fld.CSN_CH_STAT_COUNT c) hstat).trans hcount,
      (bit_of_reg (f := Fld.CSN_CH_STAT_STUCK c) hstat).trans hstuck, (bit_of_reg (f := Fld.CSN_CH_STAT_OVR c) hstat).trans hovr,
      (bit_of_reg (f := Fld.CSN_CH_STAT_DISC c) hstat).trans hdisc, (get_of_reg (f := Fld.CSN_CH_RES_VALUE c) hval).trans hres,
      fun hm ha => hstop (by simp [residueOf, hm, ha]), fun hd ha hm => ?_⟩
    · rw [hfilter]
      exact filterPut_filter k (c.isLt.trans_eq hcsn.symm)
    · subst hm
      exact takeResult_sameRegs k _ _ _ hd ha c.isLt
  · have hi : exec (.caissonValidStart c) s = .next (s.modTol (fun t => { t with ready := mset t.ready c true })) :=
      congrArg Host.Outcome.next (if_pos hu)
    exact ⟨_, hi, (testBit_mset ..).trans (if_pos rfl), rfl, mem hi⟩
  · exact congrArg Host.Outcome.next (if_pos (by rcases h with h | h <;> simp [h]))
  · obtain ⟨t, hi, ⟨hbuf, hper, hgap, hovr⟩, hshown, he, hblk⟩ := acWindowEnd_shows hon hr hac
    exact ⟨t, hi, hbuf, hper, hgap, hovr, hshown, he, hblk, mem hi⟩
  · obtain ⟨f, hi, -⟩ := exec_measIntervalEnd
    rw [hi, hr]
    rfl
  · exact congrArg Host.Outcome.next (if_neg (by simp [hr]))
  · obtain ⟨t, hi, hblk, hpts⟩ := measIntervalEnd_shows hr hdc
    exact ⟨t, hi, hblk, mem hi, hpts⟩
  · have hi : exec .crossCheckWindow s = .next (forEach (List.range 8) s State.crossCheck) := congrArg Host.Outcome.next (if_pos hr)
    refine ⟨_, hi, mem hi, fun p hon hrole ht hfb => ?_⟩
    obtain ⟨hsusp, hpt⟩ := crossChecks_suspended hon hrole ht hfb
    exact ⟨hsusp, congrArg DcPt.xHi hpt, congrArg DcPt.xLo hpt⟩
  · exact congrArg Host.Outcome.next (if_neg (by simp [hoff]))
  · have hi : exec (.tempEstimateTimeout p) s = .next (s.setTheta p 0 false) := congrArg Host.Outcome.next (if_pos hon)
    obtain ⟨hblk, hused, htsub⟩ := setTheta_shows hdc p
    exact ⟨_, hi, hblk, mem hi, hused, htsub, setTheta_event⟩

end Sys2Proof.Machine

/-! SUPPORT for O31. Snapshots of the views and wrap counters, and the window of the meter's calibration (R383, R388, R389). -/

namespace Sys2Proof.Machine

/-! ### Fields copied from the Tollhouse's record -/

/-- Fields written one after the other, each with its value of the Tollhouse's record. -/
def State.copy (s : State) (l : List (FieldRef × (Toll → Nat))) : State := s.puts (l.map fun x => (x.1, x.2 s.tol))

@[simp] theorem copy_tol (s : State) (l : List (FieldRef × (Toll → Nat))) : (s.copy l).tol = s.tol := puts_tol _ s

theorem copy_append (s : State) (l k : List (FieldRef × (Toll → Nat))) : s.copy (l ++ k) = (s.copy l).copy k := by
  have h : s.copy (l ++ k) = (s.copy l).puts (k.map fun x => (x.1, x.2 s.tol)) := by
    simp only [State.copy, State.puts, List.map_append, List.foldl_append]
  rw [h, ← copy_tol s l]
  rfl

theorem reg_copy_ne (s : State) {l : List (FieldRef × (Toll → Nat))} {a : Nat} (h : ∀ x ∈ l, a ≠ x.1.addr) : (s.copy l).reg a = s.reg a :=
  reg_puts_ne s (List.forall_mem_map.2 h)

theorem get_copy (s : State) {l : List (FieldRef × (Toll → Nat))} (hw : ∀ x ∈ l, x.1.lo + x.1.w ≤ 32)
    (hd : l.Pairwise fun x y => y.1.apart x.1 = true) : ∀ x ∈ l, (s.copy l).get x.1 = x.2 s.tol % 2 ^ x.1.w :=
  List.forall_mem_map.1 (get_puts s (List.forall_mem_map.2 hw) (List.pairwise_map.2 hd))

/-- Rounds that each copy some fields copy them all. -/
theorem forEach_copy {f : State → Nat → State} {g : Nat → List (FieldRef × (Toll → Nat))} (l : List Nat) (s : State)
    (h : ∀ t, t.tol = s.tol → ∀ x, f t x = t.copy (g x)) : forEach l s f = s.copy (l.flatMap g) := by
  induction l generalizing s with
  | nil => rfl
  | cons x t ih =>
    have hx : f s x = s.copy (g x) := h s rfl x
    rw [List.flatMap_cons, copy_append, ← hx]
    exact ih (f s x) fun u hu => h u (hu.trans (by rw [hx, copy_tol]))

/-! ### The snapshot (R383) -/

/-- The copies of DC point p. -/
def dcCopies (p : Nat) : List (FieldRef × (Toll → Nat)) :=
  [(Fld.CSN_DC_SVIEW_WH p 0, fun t => viewOf (nth {} t.dc p).imp), (Fld.CSN_DC_SVIEW_WH p 1, fun t => viewOf (nth {} t.dc p).exp),
    (Fld.CSN_DC_SWRAP_IMP p, fun t => wrapOf (nth {} t.dc p).imp), (Fld.CSN_DC_SWRAP_EXP p, fun t => wrapOf (nth {} t.dc p).exp)]

/-- The copy of view x of AC point g. -/
def acViewCopy (g x : Nat) : List (FieldRef × (Toll → Nat)) :=
  [(Fld.CSN_AC_SVIEW_WH g x, fun t => viewOf (nth 0 (nth {} t.ac g).e x))]

/-- The copies of the wrap counters of the energies 2y and 2y + 1 of AC point g. -/
def acWrapCopies (g y : Nat) : List (FieldRef × (Toll → Nat)) :=
  [(Fld.CSN_AC_SWRAP_EVEN g y, fun t => wrapOf (nth 0 (nth {} t.ac g).e (2 * y))),
    (Fld.CSN_AC_SWRAP_ODD g y, fun t => wrapOf (nth 0 (nth {} t.ac g).e (2 * y + 1)))]

def acCopies (g : Nat) : List (FieldRef × (Toll → Nat)) := (List.range 16).flatMap (acViewCopy g) ++ (List.range 8).flatMap (acWrapCopies g)

/-- The snapshot copies of all points. -/
def pointCopies : List (FieldRef × (Toll → Nat)) := (List.range 8).flatMap dcCopies ++ (List.range 4).flatMap acCopies

theorem pointCopies_apart : (∀ x ∈ pointCopies, x.1.lo + x.1.w ≤ 32 ∧ x.1.addr / 0x10000 = 0x4009) ∧
    pointCopies.Pairwise (fun x y => y.1.apart x.1 = true) := by decide +kernel

theorem mem_pointCopies_dc {x : FieldRef × (Toll → Nat)} (p : Fin 8) (h : x ∈ dcCopies p) : x ∈ pointCopies :=
  List.mem_append_left _ (List.mem_flatMap.2 ⟨p, List.mem_range.2 p.isLt, h⟩)

theorem mem_pointCopies_acView {x : FieldRef × (Toll → Nat)} (g : Fin 4) (k : Fin 16) (h : x ∈ acViewCopy g k) : x ∈ pointCopies :=
  List.mem_append_right _ (List.mem_flatMap.2 ⟨g, List.mem_range.2 g.isLt,
    List.mem_append_left _ (List.mem_flatMap.2 ⟨k, List.mem_range.2 k.isLt, h⟩)⟩)

theorem mem_pointCopies_acWrap {x : FieldRef × (Toll → Nat)} (g : Fin 4) (y : Fin 8) (h : x ∈ acWrapCopies g y) : x ∈ pointCopies :=
  List.mem_append_right _ (List.mem_flatMap.2 ⟨g, List.mem_range.2 g.isLt,
    List.mem_append_right _ (List.mem_flatMap.2 ⟨y, List.mem_range.2 y.isLt, h⟩)⟩)

/-- What ends the request: SEQ raised, DONE set, GO cleared. -/
def snapshotEnded (seq : Nat) : List (FieldRef × Nat) :=
  [(Fld.TOL_MSNAP_SEQ, seq + 1), (Fld.TOL_MSNAP_DONE, flagOf true), (Fld.TOL_MSNAP_GO, flagOf false)]

theorem snapshotEnded_apart (seq : Nat) : (∀ x ∈ snapshotEnded seq, x.1.lo + x.1.w ≤ 32 ∧ x.1.addr = Reg.TOL_MSNAP) ∧
    (snapshotEnded seq).Pairwise (fun x y => y.1.apart x.1 = true) := by
  simp [snapshotEnded, FieldRef.apart, Fld.TOL_MSNAP_SEQ, Fld.TOL_MSNAP_DONE, Fld.TOL_MSNAP_GO]

/-- The state after the snapshot's copy. -/
def State.snapshotTaken (s : State) : State := (s.copy pointCopies).puts (snapshotEnded (s.get Fld.TOL_MSNAP_SEQ))

theorem copies_reg_ne (s : State) {a : Nat} (h : a / 0x10000 ≠ 0x4009) : (s.copy pointCopies).reg a = s.reg a :=
  reg_copy_ne s fun x hx e => h (e ▸ (pointCopies_apart.1 x hx).2)

theorem exec_snapshotCopy {s : State} (h : s.bit Fld.TOL_MSNAP_GO = true) : exec .snapshotCopy s = .next s.snapshotTaken := by
  have hgo : ¬ (!s.bit Fld.TOL_MSNAP_GO) = true := by simp [h]
  have hseq : (s.copy pointCopies).get Fld.TOL_MSNAP_SEQ = s.get Fld.TOL_MSNAP_SEQ := get_of_reg (copies_reg_ne s (by decide))
  refine congrArg Host.Outcome.next ((if_neg hgo).trans ?_)
  dsimp only
  rw [forEach_copy (g := dcCopies) (List.range 8), forEach_copy (g := acCopies) (List.range 4), ← copy_append, ← pointCopies, hseq]
  · rfl
  · intro u _ g
    rw [forEach_copy (g := acViewCopy g) (List.range 16), forEach_copy (g := acWrapCopies g) (List.range 8), acCopies, copy_append]
    · exact fun v hv y => by rw [State.copy, hv, copy_tol]; rfl
    · exact fun v hv x => by rw [State.copy, hv]; rfl
  · exact fun _ _ _ => rfl

theorem snapshotTaken_ended (s : State) : s.snapshotTaken.get Fld.TOL_MSNAP_SEQ = (s.get Fld.TOL_MSNAP_SEQ + 1) % 2 ^ Fld.TOL_MSNAP_SEQ.w ∧
    s.snapshotTaken.bit Fld.TOL_MSNAP_DONE = true ∧ s.snapshotTaken.bit Fld.TOL_MSNAP_GO = false := by
  obtain ⟨hx, hd⟩ := snapshotEnded_apart (s.get Fld.TOL_MSNAP_SEQ)
  have hw : ∀ x ∈ snapshotEnded (s.get Fld.TOL_MSNAP_SEQ), x.1.lo + x.1.w ≤ 32 := fun x h => (hx x h).1
  exact ⟨get_puts _ hw hd (Fld.TOL_MSNAP_SEQ, s.get Fld.TOL_MSNAP_SEQ + 1) (by simp [snapshotEnded]),
    bit_puts _ hw hd rfl (by simp [snapshotEnded]), bit_puts _ hw hd rfl (by simp [snapshotEnded])⟩

/-- What ends the request leaves the registers other than MSNAP. -/
theorem snapshotTaken_reg_ne (s : State) {a : Nat} (h : a ≠ Reg.TOL_MSNAP) : s.snapshotTaken.reg a = (s.copy pointCopies).reg a :=
  reg_puts_ne _ fun x hx e => h (e.trans ((snapshotEnded_apart _).1 x hx).2)

/-- Every copy holds the value of its energy. -/
theorem snapshotTaken_copies (s : State) : ∀ x ∈ pointCopies, s.snapshotTaken.get x.1 = x.2 s.tol % 2 ^ x.1.w := fun x hx => by
  obtain ⟨hc, hd⟩ := pointCopies_apart
  have hne : x.1.addr ≠ Reg.TOL_MSNAP := fun e => absurd (hc x hx).2 (by rw [e]; decide)
  exact (get_of_reg (snapshotTaken_reg_ne s hne)).trans (get_copy s (fun y hy => (hc y hy).1) hd x hx)

theorem snapshotTaken_blocks (s : State) : SameBlocks s s.snapshotTaken [0x4009, 0x400A] := fun a ha => by
  simp only [List.mem_cons, List.not_mem_nil, or_false, not_or] at ha
  obtain ⟨hcsn, htol⟩ := ha
  exact (snapshotTaken_reg_ne s fun e => htol (by rw [e]; rfl)).trans (copies_reg_ne s hcsn)

theorem viewOf_mod (e : Nat) : viewOf e % 2 ^ 32 = viewOf e := Nat.mod_mod ..
theorem wrapOf_mod (e : Nat) : wrapOf e % 2 ^ 16 = wrapOf e := Nat.mod_mod ..

theorem snapshotTaken_dc (s : State) (p : Fin 8) :
    s.snapshotTaken.get (Fld.CSN_DC_SVIEW_WH p 0) = viewOf (s.dcPt p).imp ∧ s.snapshotTaken.get (Fld.CSN_DC_SVIEW_WH p 1) = viewOf (s.dcPt p).exp ∧
    s.snapshotTaken.get (Fld.CSN_DC_SWRAP_IMP p) = wrapOf (s.dcPt p).imp ∧
    s.snapshotTaken.get (Fld.CSN_DC_SWRAP_EXP p) = wrapOf (s.dcPt p).exp := by
  have h : ∀ x ∈ dcCopies p, s.snapshotTaken.get x.1 = x.2 s.tol % 2 ^ x.1.w := fun x hx => snapshotTaken_copies s x (mem_pointCopies_dc p hx)
  simp only [dcCopies, List.forall_mem_cons] at h
  obtain ⟨hvi, hve, hwi, hwe, -⟩ := h
  exact ⟨hvi.trans (viewOf_mod _), hve.trans (viewOf_mod _), hwi.trans (wrapOf_mod _), hwe.trans (wrapOf_mod _)⟩

theorem snapshotTaken_acView (s : State) (g : Fin 4) (k : Fin 16) :
    s.snapshotTaken.get (Fld.CSN_AC_SVIEW_WH g k) = viewOf (nth 0 (s.acPt g).e k) :=
  (snapshotTaken_copies s _ (mem_pointCopies_acView g k (List.mem_cons_self ..))).trans (viewOf_mod _)

theorem snapshotTaken_acWrap (s : State) (g : Fin 4) (y : Fin 8) :
    s.snapshotTaken.get (Fld.CSN_AC_SWRAP_EVEN g y) = wrapOf (nth 0 (s.acPt g).e (2 * y)) ∧
    s.snapshotTaken.get (Fld.CSN_AC_SWRAP_ODD g y) = wrapOf (nth 0 (s.acPt g).e (2 * y + 1)) := by
  have h : ∀ x ∈ acWrapCopies g y, s.snapshotTaken.get x.1 = x.2 s.tol % 2 ^ x.1.w := fun x hx =>
    snapshotTaken_copies s x (mem_pointCopies_acWrap g y hx)
  simp only [acWrapCopies, List.forall_mem_cons] at h
  obtain ⟨heven, hodd, -⟩ := h
  exact ⟨heven.trans (wrapOf_mod _), hodd.trans (wrapOf_mod _)⟩

/-! ### The writes of TOL_MSNAP and TOL_MCAL -/

/-- A write that takes effect whole in the Tollhouse's block is that block's. -/
theorem wr_tol {s : State} {m : Master} {a : Nat} (v : Word) (h : s.takes m a = true) (ha : a / 0x10000 = 0x400A) :
    s.wr m a v = s.writeTol m a v.toNat := by
  have hb : blockOf a = some .reg := (blockOf_eq_reg_iff a).2 (by omega)
  rw [wr_of_takes v h hb (by omega)]
  unfold State.writeReg
  rw [ha]
  rfl

/-- Neither register is a tariff register, which a VEHICLE device lacks. -/
theorem writeTol_metering (s : State) (m : Master) (v : Nat) :
    s.writeTol m Reg.TOL_MSNAP v = s.wrMsnap v ∧ s.writeTol m Reg.TOL_MCAL v = s.wrMcal v := by
  have h : tariffReg Reg.TOL_MSNAP = false ∧ tariffReg Reg.TOL_MCAL = false := by decide
  refine ⟨?_, ?_⟩
  · exact (if_neg (by simp [h.1])).trans (if_pos rfl)
  · exact (if_neg (by simp [h.2])).trans ((if_neg (by decide)).trans (if_pos rfl))

theorem bit_raise_apart (s : State) {f g : FieldRef} (b : Bool) (h : f.apart g = true) : (s.raise f b).bit g = s.bit g :=
  congrArg (· != 0) (get_raise_apart s b h)

theorem bit_lower_apart (s : State) {f g : FieldRef} (b : Bool) (h : f.apart g = true) : (s.lower f b).bit g = s.bit g :=
  congrArg (· != 0) (get_lower_apart s b h)

theorem wrMsnap_eq (s : State) (v : Nat) :
    s.wrMsnap v = (s.lower Fld.TOL_MSNAP_DONE (v.testBit 1)).raise Fld.TOL_MSNAP_GO (v.testBit 0) := (rfl)

theorem wrMsnap_shows (s : State) (v : Nat) : (s.wrMsnap v).bit Fld.TOL_MSNAP_GO = (s.bit Fld.TOL_MSNAP_GO || v.testBit 0) ∧
    (s.wrMsnap v).bit Fld.TOL_MSNAP_DONE = (s.bit Fld.TOL_MSNAP_DONE && !v.testBit 1) ∧
    (s.wrMsnap v).get Fld.TOL_MSNAP_SEQ = s.get Fld.TOL_MSNAP_SEQ ∧ SameRegs s (s.wrMsnap v) [Reg.TOL_MSNAP] := by
  rw [wrMsnap_eq]
  refine ⟨?_, ?_, ?_, fun a ha => ?_⟩
  · rw [bit_raise_same _ _ _ (by decide) (by decide), bit_lower_apart _ _ (by decide)]
  · rw [bit_raise_apart _ _ (by decide), bit_lower_same _ _ _ (by decide) (by decide)]
  · rw [get_raise_apart _ _ (by decide), get_lower_apart _ _ (by decide)]
  · rw [List.mem_singleton] at ha
    exact (reg_raise_ne _ _ ha).trans (reg_lower_ne s _ ha)

/-- MODE and LEN of a write of MCAL. -/
def mcalSet (v : Nat) : List (FieldRef × Nat) := [(Fld.TOL_MCAL_MODE, flagOf (v.testBit 28)), (Fld.TOL_MCAL_LEN, v)]

theorem mcalSet_apart (v : Nat) : (∀ x ∈ mcalSet v, x.1.lo + x.1.w ≤ 32) ∧ (mcalSet v).Pairwise (fun x y => y.1.apart x.1 = true) ∧
    (∀ x ∈ mcalSet v, x.1.addr = Reg.TOL_MCAL) ∧
    ∀ f ∈ [Fld.TOL_MCAL_GO, Fld.TOL_MCAL_BUSY, Fld.TOL_MCAL_DONE], ∀ x ∈ mcalSet v, x.1.apart f = true := by
  simp [mcalSet, FieldRef.apart, Fld.TOL_MCAL_MODE, Fld.TOL_MCAL_LEN, Fld.TOL_MCAL_GO, Fld.TOL_MCAL_BUSY, Fld.TOL_MCAL_DONE]

/-- A write takes MODE and LEN, clears DONE on its bit, and starts a window unless BUSY. -/
theorem wrMcal_eq (s : State) (v : Nat) : s.wrMcal v =
    ((((s.puts (mcalSet v)).lower Fld.TOL_MCAL_DONE (v.testBit 29)).raise Fld.TOL_MCAL_GO (v.testBit 31 && !s.bit Fld.TOL_MCAL_BUSY)).raise
      Fld.TOL_MCAL_BUSY (v.testBit 31 && !s.bit Fld.TOL_MCAL_BUSY)) := by
  cases h : v.testBit 31 && !s.bit Fld.TOL_MCAL_BUSY with
  | true => exact if_pos h
  | false => exact if_neg (ne_true_of_eq_false h)

theorem wrMcal_shows (s : State) (v : Nat) : (s.wrMcal v).bit Fld.TOL_MCAL_MODE = v.testBit 28 ∧
    (s.wrMcal v).get Fld.TOL_MCAL_LEN = v % 2 ^ Fld.TOL_MCAL_LEN.w ∧
    (s.wrMcal v).bit Fld.TOL_MCAL_GO = (s.bit Fld.TOL_MCAL_GO || (v.testBit 31 && !s.bit Fld.TOL_MCAL_BUSY)) ∧
    (s.wrMcal v).bit Fld.TOL_MCAL_BUSY = (s.bit Fld.TOL_MCAL_BUSY || v.testBit 31) ∧
    (s.wrMcal v).bit Fld.TOL_MCAL_DONE = (s.bit Fld.TOL_MCAL_DONE && !v.testBit 29) ∧ SameRegs s (s.wrMcal v) [Reg.TOL_MCAL] := by
  obtain ⟨hw, hd, haddr, hflag⟩ := mcalSet_apart v
  have hkeep (f : FieldRef) (hf : f ∈ [Fld.TOL_MCAL_GO, Fld.TOL_MCAL_BUSY, Fld.TOL_MCAL_DONE]) : (s.puts (mcalSet v)).bit f = s.bit f :=
    congrArg (· != 0) (get_puts_apart s (hflag f hf))
  rw [wrMcal_eq]
  refine ⟨?_, ?_, ?_, ?_, ?_, fun a ha => ?_⟩
  · rw [bit_raise_apart _ _ (by decide), bit_raise_apart _ _ (by decide), bit_lower_apart _ _ (by decide)]
    exact bit_puts s hw hd rfl (by simp [mcalSet])
  · rw [get_raise_apart _ _ (by decide), get_raise_apart _ _ (by decide), get_lower_apart _ _ (by decide)]
    exact get_puts s hw hd (Fld.TOL_MCAL_LEN, v) (by simp [mcalSet])
  · rw [bit_raise_apart _ _ (by decide), bit_raise_same _ _ _ (by decide) (by decide), bit_lower_apart _ _ (by decide), hkeep _ (by simp)]
  · rw [bit_raise_same _ _ _ (by decide) (by decide), bit_raise_apart _ _ (by decide), bit_lower_apart _ _ (by decide), hkeep _ (by simp)]
    cases s.bit Fld.TOL_MCAL_BUSY <;> simp
  · rw [bit_raise_apart _ _ (by decide), bit_raise_apart _ _ (by decide), bit_lower_same _ _ _ (by decide) (by decide), hkeep _ (by simp)]
  · rw [List.mem_singleton] at ha
    exact (reg_raise_ne _ _ ha).trans <| (reg_raise_ne _ _ ha).trans <| (reg_lower_ne _ _ ha).trans
      (reg_puts_ne s fun x hx e => ha (e.trans (haddr x hx)))

/-! ### The calibration window (R388) -/

/-- The result of a window for channel c: the mean, or in rms mode the rms. -/
def CalWin.result (w : CalWin) (c : Nat) : Rat :=
  if w.rms then Config.sqrt (nth 0 w.sq c / ((nth 0 w.n c : Nat) : Rat)) else nth 0 w.sum c / ((nth 0 w.n c : Nat) : Rat)

/-- The code of the result of a window for channel c, as the channel's register shows it. -/
def CalWin.code (w : CalWin) (c : Nat) : Nat := ofS 32 (codeFree (w.result c) 31 (-(2 ^ 31 : Int)) (2 ^ 31 - 1))

/-- A window's end for channel c: a legal channel that had results shows its own. -/
def State.calResult (w : CalWin) (s : State) (c : Nat) : State :=
  if !s.bit (Fld.CSN_CH_CFG_LEGAL c) || ((nth 0 w.n c : Nat) : Rat) == 0 then s else s.put (Fld.CSN_CH_CAL_VALUE c) (w.code c)

/-- A window's end for all channels. -/
def State.calResults (s : State) (w : CalWin) : State := forEach (List.range 40) s (State.calResult w)

/-- The state after a window's end. -/
def State.calClosed (s : State) (w : CalWin) : State :=
  (((s.calResults w).putB Fld.TOL_MCAL_BUSY false).putB Fld.TOL_MCAL_DONE true).modTol (fun t => { t with cal := none })

theorem exec_mcalWindowEnd {s : State} {w : CalWin} (h : s.tol.cal = some w) : exec .mcalWindowEnd s = .next (s.calClosed w) := by
  change execMcalWindowEnd s = _
  unfold execMcalWindowEnd
  rw [h]
  rfl

theorem exec_mcalWindowEnd_closed {s : State} (h : s.tol.cal = none) : exec .mcalWindowEnd s = .next s := by
  change execMcalWindowEnd s = _
  unfold execMcalWindowEnd
  rw [h]

theorem calResult_reg_ne (w : CalWin) (s : State) {c a : Nat} (h : a ≠ Reg.CSN_CH_CAL c) : (s.calResult w c).reg a = s.reg a := by
  unfold State.calResult
  split
  · rfl
  · exact reg_put_ne s _ h

theorem calResults_reg_ne (w : CalWin) (s : State) {a : Nat} (h : a / 0x10000 ≠ 0x4009) : (s.calResults w).reg a = s.reg a :=
  forEach_keeps (fun t => t.reg a) _ s _ fun t c hc => calResult_reg_ne w t (by
    have hc40 := List.mem_range.1 hc
    unfold Reg.CSN_CH_CAL
    omega)

theorem calResult_value {w : CalWin} {s : State} {c : Nat} (hl : s.bit (Fld.CSN_CH_CFG_LEGAL c) = true) (hn : nth 0 w.n c ≠ 0) :
    (s.calResult w c).get (Fld.CSN_CH_CAL_VALUE c) = w.code c := by
  have hn' : ((nth 0 w.n c : Nat) : Rat) ≠ 0 := Nat.cast_ne_zero.2 hn
  rw [State.calResult, if_neg (by simp [hl, hn'])]
  exact (get_put_same s (Fld.CSN_CH_CAL_VALUE c) _ (by simp [Fld.CSN_CH_CAL_VALUE])).trans (Nat.mod_eq_of_lt (ofS_lt 32 _))

/-- The loop comes to channel c with its configuration as it was, and no later channel writes its result. -/
theorem calResults_value {w : CalWin} {s : State} {c : Fin 40} (hl : s.bit (Fld.CSN_CH_CFG_LEGAL c) = true) (hn : nth 0 w.n c ≠ 0) :
    (s.calResults w).get (Fld.CSN_CH_CAL_VALUE c) = w.code c := by
  obtain ⟨t, ht, hend⟩ := forEach_once (fun t => (t.reg (Reg.CSN_CH_CFG c), t.reg (Reg.CSN_CH_CAL c))) s (State.calResult w)
    (List.mem_range.2 c.isLt) List.nodup_range fun t k _ hk => by
      have hcfg : Reg.CSN_CH_CFG c ≠ Reg.CSN_CH_CAL k := by unfold Reg.CSN_CH_CFG Reg.CSN_CH_CAL; omega
      have hcal : Reg.CSN_CH_CAL c ≠ Reg.CSN_CH_CAL k := by unfold Reg.CSN_CH_CAL; omega
      exact Prod.ext (calResult_reg_ne w t hcfg) (calResult_reg_ne w t hcal)
  have hlt : t.bit (Fld.CSN_CH_CFG_LEGAL c) = true := (bit_of_reg (f := Fld.CSN_CH_CFG_LEGAL c) (Prod.mk.inj ht).1).trans hl
  exact (get_of_reg (f := Fld.CSN_CH_CAL_VALUE c) (Prod.mk.inj hend).2).trans (calResult_value hlt hn)

@[simp] theorem reg_modTol (s : State) (f : Toll → Toll) (a : Nat) : (s.modTol f).reg a = s.reg a := (rfl)
@[simp] theorem bit_modTol (s : State) (f : Toll → Toll) (g : FieldRef) : (s.modTol f).bit g = s.bit g := (rfl)

theorem calClosed_reg_ne (s : State) (w : CalWin) {a : Nat} (h : a ≠ Reg.TOL_MCAL) : (s.calClosed w).reg a = (s.calResults w).reg a :=
  (reg_put_ne _ (f := Fld.TOL_MCAL_DONE) _ h).trans (reg_put_ne _ (f := Fld.TOL_MCAL_BUSY) _ h)

theorem calClosed_shows (s : State) (w : CalWin) : (s.calClosed w).bit Fld.TOL_MCAL_BUSY = false ∧ (s.calClosed w).bit Fld.TOL_MCAL_DONE = true ∧
    (s.calClosed w).tol.cal = none ∧ SameBlocks s (s.calClosed w) [0x4009, 0x400A] := by
  refine ⟨?_, ?_, rfl, fun a ha => ?_⟩
  · rw [State.calClosed, bit_modTol, bit_putB_apart _ _ (by decide), bit_putB_same _ _ _ (by decide) (by decide)]
  · rw [State.calClosed, bit_modTol, bit_putB_same _ _ _ (by decide) (by decide)]
  · simp only [List.mem_cons, List.not_mem_nil, or_false, not_or] at ha
    obtain ⟨hcsn, htol⟩ := ha
    exact (calClosed_reg_ne s w fun e => htol (by rw [e]; rfl)).trans (calResults_reg_ne w s hcsn)

theorem calClosed_value {s : State} {w : CalWin} {c : Fin 40} (hl : s.bit (Fld.CSN_CH_CFG_LEGAL c) = true) (hn : nth 0 w.n c ≠ 0) :
    (s.calClosed w).get (Fld.CSN_CH_CAL_VALUE c) = w.code c := by
  have hne : (Fld.CSN_CH_CAL_VALUE c).addr ≠ Reg.TOL_MCAL := by
    simp only [Fld.CSN_CH_CAL_VALUE, Reg.CSN_CH_CAL, Reg.TOL_MCAL]
    omega
  exact (get_of_reg (calClosed_reg_ne s w hne)).trans (calResults_value hl hn)

/-! ### The obligation -/

/-- Settles O31: the snapshot as one table of fields copied, the window's end channel by channel, the requests as fields written. -/
theorem snapshotsAndCalibrationWindowsAct : Obligations.SnapshotsAndCalibrationWindowsAct := by
  unfold Obligations.SnapshotsAndCalibrationWindowsAct
  intro s
  have mem {i : Instr} {t : State} (h : exec i s = .next t) := memoryChangesOnlyByItsWriters i s t h
  refine ⟨fun m v ht => ?_, fun hgo => ?_, fun hgo => ?_, fun m v ht => ?_, fun hgo => ?_, fun hgo => ?_, exec_mcalWindowEnd_closed, fun w hw => ?_⟩
  · have hi : exec (.meterSnapshotGo m v) s = .next (s.wrMsnap v.toNat) :=
      congrArg Host.Outcome.next ((wr_tol v ht (by decide)).trans (writeTol_metering s m v.toNat).1)
    obtain ⟨hg, hd, hseq, hregs⟩ := wrMsnap_shows s v.toNat
    exact ⟨_, hi, hg, hd, hseq, hregs, mem hi⟩
  · exact congrArg Host.Outcome.next (if_pos (by simp [hgo]))
  · have hi := exec_snapshotCopy hgo
    obtain ⟨hseq, hd, hg⟩ := snapshotTaken_ended s
    exact ⟨_, hi, snapshotTaken_dc s, snapshotTaken_acView s, snapshotTaken_acWrap s, hseq, hd, hg, snapshotTaken_blocks s, mem hi⟩
  · have hi : exec (.mcalGo m v) s = .next (s.wrMcal v.toNat) :=
      congrArg Host.Outcome.next ((wr_tol v ht (by decide)).trans (writeTol_metering s m v.toNat).2)
    obtain ⟨hmode, hlen, hg, hb, hd, hregs⟩ := wrMcal_shows s v.toNat
    exact ⟨_, hi, hmode, hlen, hg, hb, hd, hregs, mem hi⟩
  · exact congrArg Host.Outcome.next (if_neg (by simp [hgo]))
  · have hi : exec .mcalWindowStart s =
        .next ((s.putB Fld.TOL_MCAL_GO false).modTol (fun t => { t with cal := some { rms := s.bit Fld.TOL_MCAL_MODE } })) :=
      congrArg Host.Outcome.next (if_pos hgo)
    refine ⟨_, hi, ?_, rfl, SameRegs.put s Fld.TOL_MCAL_GO _, mem hi⟩
    rw [bit_modTol, bit_putB_same _ _ _ (by decide) (by decide)]
  · have hi := exec_mcalWindowEnd hw
    obtain ⟨hb, hd, hcal, hblk⟩ := calClosed_shows s w
    exact ⟨_, hi, hb, hd, hcal, hblk, mem hi, fun c => calClosed_value⟩

end Sys2Proof.Machine

/-! SUPPORT for O32 and O33. What the event log, the tariffs, the demand intervals and the boundaries leave of what is read of the state. -/

namespace Sys2Proof.Machine

/-! ### Readings that a piece of the Tollhouse's work leaves alone -/

/-- A reading of the state that sees none of the fields `F`, and of the Toll core's record only `k`. -/
structure TollBlind {β γ : Type} (F : List FieldRef) (k : Toll → γ) (p : State → β) : Prop where
  put : ∀ (s : State) (v : Nat), ∀ f ∈ F, p (s.put f v) = p s
  tol : ∀ (s : State) (f : Toll → Toll), (∀ t, k (f t) = k t) → p (s.modTol f) = p s

section
variable {β γ : Type} {F : List FieldRef} {k : Toll → γ}

theorem tollBlind_get {g : FieldRef} (h : ∀ f ∈ F, f.apart g = true) : TollBlind F k (fun s => s.get g) where
  put s v f hf := get_put_apart s v (h f hf)
  tol _ _ _ := rfl

theorem tollBlind_reg {a : Nat} (h : ∀ f ∈ F, a ≠ f.addr) : TollBlind F k (fun s => s.reg a) where
  put s v f hf := reg_put_ne s v (h f hf)
  tol _ _ _ := rfl

/-- What `k` gives of the Toll core's record is such a reading. -/
theorem tollBlind_tol (F : List FieldRef) (k : Toll → γ) : TollBlind F k (fun s => k s.tol) where
  put _ _ _ _ := rfl
  tol s _ h := h s.tol

theorem TollBlind.map {δ : Type} {p : State → β} (h : TollBlind F k p) (g : β → δ) : TollBlind F k (fun s => g (p s)) where
  put s v f hf := congrArg g (h.put s v f hf)
  tol s f hf := congrArg g (h.tol s f hf)

theorem TollBlind.prod {δ : Type} {p : State → β} {q : State → δ} (h : TollBlind F k p) (i : TollBlind F k q) :
    TollBlind F k (fun s => (p s, q s)) where
  put s v f hf := Prod.ext (h.put s v f hf) (i.put s v f hf)
  tol s f hf := Prod.ext (h.tol s f hf) (i.tol s f hf)

theorem tollBlind_bit {g : FieldRef} (h : ∀ f ∈ F, f.apart g = true) : TollBlind F k (fun s => s.bit g) := (tollBlind_get h).map (· != 0)

/-- Work that writes fewer fields, and leaves more of the record, leaves the reading alone too. -/
theorem TollBlind.mono {δ : Type} {p : State → β} (h : TollBlind F k p) {G : List FieldRef} {j : Toll → δ} (hF : G ⊆ F)
    (hk : ∀ t u, j u = j t → k u = k t) : TollBlind G j p where
  put s v f hf := h.put s v f (hF hf)
  tol s f hf := h.tol s f fun t => hk _ _ (hf t)

end

/-! ### What each piece writes -/

/-- What the log, the tariff, a billing close, an activation and a save write. -/
def tariffFields : List FieldRef :=
  [Fld.TOL_LOGSTAT_ROLL, Fld.TOL_LOGSTAT_UNER, Fld.TOL_LOGSTAT_ARCH, Fld.TOL_SAVESEQ_SEQ, Fld.TOL_BEVT_ROLL_WRAP, Fld.TOL_TSTAT_TARIFF,
    Fld.TOL_TSTAT_DEFAULT, Fld.TOL_TEVT_BELOW_HWM, Fld.TOL_TEVT_BILLCLOSE, Fld.TOL_TEVT_CAL_ACT, Fld.TOL_SAVE_BUSY]

/-- What the close of a demand interval shows. -/
def demandFields : List FieldRef :=
  Fld.TOL_TEVT_DEMAND :: (List.range 4).flatMap (fun g => (List.range 3).map (Fld.TOL_AC_DEM_VALUE g))

/-- What a change of the state of billing time, and of its relation to HWM, shows beside. -/
def stateFields : List FieldRef := [Fld.TOL_TSTAT_STATE, Fld.TOL_TEVT_STATE, Fld.TOL_TSTAT_BELOW_HWM]

/-- Billing time, its error bound and high-water mark, and the correction to slew: no boundary changes them. -/
def Toll.clock (t : Toll) : Bool × Rat × Option Rat × Rat × Bool × Rat := (t.run, t.bill, t.eb, t.hwm, t.belowHwm, t.slew)

/-- The clock and the last boundary: a demand interval changes neither. -/
def Toll.passed (t : Toll) : (Bool × Rat × Option Rat × Rat × Bool × Rat) × Nat := (t.clock, t.lastBoundary)

/-- The clock, the last boundary and the ends of the demand intervals: tariff, log and saves change none of them. -/
def Toll.standing (t : Toll) : ((Bool × Rat × Option Rat × Rat × Bool × Rat) × Nat) × (Nat → Nat) :=
  (t.passed, fun g => (nth {} t.ac g).dEnd)

theorem clock_of_passed {t u : Toll} (h : u.passed = t.passed) : u.clock = t.clock := congrArg Prod.fst h
theorem passed_of_standing {t u : Toll} (h : u.standing = t.standing) : u.passed = t.passed := congrArg Prod.fst h
theorem clock_of_standing {t u : Toll} (h : u.standing = t.standing) : u.clock = t.clock := clock_of_passed (passed_of_standing h)

/-- An update of an AC point that leaves the end of its interval. -/
theorem standing_updAt (t : Toll) (g : Nat) {f : AcPt → AcPt} (h : ∀ a, (f a).dEnd = a.dEnd) :
    ({ t with ac := updAt t.ac g f } : Toll).standing = t.standing :=
  Prod.ext rfl (funext fun j => nth_updAt_keeps ({} : AcPt) t.ac g j f AcPt.dEnd h)

theorem demandValue_mem {g w : Nat} (hg : g < 4) (hw : w < 3) : Fld.TOL_AC_DEM_VALUE g w ∈ demandFields :=
  List.mem_cons_of_mem _ (List.mem_flatMap.2 ⟨g, List.mem_range.2 hg, List.mem_map_of_mem (List.mem_range.2 hw)⟩)

/-! ### Log, tariff, activation, saves -/

section
variable {β : Type} {p : State → β} (h : TollBlind tariffFields Toll.standing p)
include h

theorem TollBlind.book (s : State) (g : Book → Book) : p (s.modBook g) = p s := h.tol s _ fun _ => by rfl

theorem TollBlind.syncBook (s : State) : p s.syncBook = p s :=
  (h.put _ _ Fld.TOL_SAVESEQ_SEQ (by decide)).trans <| (h.put _ _ Fld.TOL_LOGSTAT_ARCH (by decide)).trans <|
    (h.put _ _ Fld.TOL_LOGSTAT_UNER (by decide)).trans (h.put s _ Fld.TOL_LOGSTAT_ROLL (by decide))

theorem TollBlind.logAt (s : State) (t code point : Nat) (data : List Byte) : p (s.logAt t code point data) = p s := by
  unfold State.logAt
  split
  · rfl
  · refine (h.syncBook _).trans ((h.book _ _).trans ?_)
    split
    · exact h.put s _ Fld.TOL_BEVT_ROLL_WRAP (by decide)
    · rfl

theorem TollBlind.log (s : State) (code point : Nat) (data : List Byte) : p (s.log code point data) = p s := h.logAt s _ code point data

theorem TollBlind.flagOpen (s : State) (bit : Nat) : p (s.flagOpen bit) = p s := by
  unfold State.flagOpen
  split
  · rfl
  · exact h.book s _

theorem TollBlind.setTariff (s : State) (t : Nat) : p (s.setTariff t) = p s := by
  have hput : p ((s.put Fld.TOL_TSTAT_TARIFF (s.tariffAt t)).putB Fld.TOL_TSTAT_DEFAULT (s.tState != 2 || s.tol.calBad)) = p s :=
    (h.put _ _ Fld.TOL_TSTAT_DEFAULT (by decide)).trans (h.put s _ Fld.TOL_TSTAT_TARIFF (by decide))
  unfold State.setTariff
  split
  · rfl
  · dsimp only
    split
    · exact (h.flagOpen _ _).trans hput
    · exact hput

theorem TollBlind.activate (s : State) (t : Nat) : p (s.activate t) = p s := by
  unfold State.activate
  dsimp only
  split
  · rfl
  · exact (h.setTariff _ _).trans <| (h.put _ _ Fld.TOL_TEVT_CAL_ACT (by decide)).trans <| (h.flagOpen _ _).trans <|
      (h.logAt _ _ _ _ _).trans <| (h.tol _ _ fun _ => by rfl).trans (h.book s _)

theorem TollBlind.beginSave (s : State) (kind btime : Nat) : p (s.beginSave kind btime) = p s := by
  unfold State.beginSave
  split
  · rfl
  · split
    · exact (h.tol _ _ fun _ => by rfl).trans (h.put s _ Fld.TOL_SAVE_BUSY (by decide))
    · exact h.tol s _ fun _ => by rfl

/-- An update of an AC point that leaves the end of its interval. -/
theorem TollBlind.modAc (s : State) (g : Nat) {f : AcPt → AcPt} (hf : ∀ a, (f a).dEnd = a.dEnd) : p (s.modAc g f) = p s :=
  h.tol s _ fun t => standing_updAt t g hf

theorem TollBlind.billClose (s : State) (t : Nat) : p (s.billClose t) = p s := by
  unfold State.billClose
  refine (h.put _ _ Fld.TOL_TEVT_BILLCLOSE (by decide)).trans ((h.logAt _ _ _ _ _).trans ?_)
  exact forEach_keeps p _ s _ fun u g _ => h.modAc u g fun _ => by rfl

end

/-! ### Demand intervals (R415 to R418) -/

section
variable {β : Type} {p : State → β} (h : TollBlind demandFields Toll.passed p)
include h

theorem TollBlind.closeDemand (s : State) {g : Nat} (hg : g < 4) (t flags : Nat) : p (s.closeDemand g t flags) = p s := by
  unfold State.closeDemand
  extract_lets a sec kI kE fl s₁ s₂
  have h₁ : p s₁ = p s := (h.put _ _ _ (demandValue_mem hg (by decide))).trans <|
    (h.put _ _ _ (demandValue_mem hg (by decide))).trans (h.put s _ _ (demandValue_mem hg (by decide)))
  have h₂ : p s₂ = p s := (h.put s₁ _ Fld.TOL_TEVT_DEMAND (List.mem_cons_self ..)).trans h₁
  split
  · exact h₂
  · exact (h.tol s₂ _ fun _ => by rfl).trans h₂

theorem TollBlind.openDemand (s : State) (g t : Nat) : p (s.openDemand g t) = p s := by
  unfold State.openDemand
  exact h.tol s _ fun _ => by rfl

theorem TollBlind.demandAt (s : State) (t flags : Nat) : p (s.demandAt t flags) = p s :=
  forEach_keeps p _ s _ fun u g hg => by
    split
    · exact (h.openDemand _ g t).trans (h.closeDemand u (List.mem_range.1 hg) t flags)
    · rfl

end

/-! ### Boundaries (R426) -/

/-- The actions of a boundary at t after the demand closes. -/
def State.boundaryWork (s : State) (t : Nat) (bill : Bool) : State :=
  let s := if bill then s.billClose t else s
  let s := (s.setTariff t).activate t
  let s := forEach (List.range 4) s (fun s g => s.modAc g (fun a =>
    if a.dStart = t then { a with dTariff := s.get Fld.TOL_TSTAT_TARIFF } else a))
  let s := match s.tol.bSnap with
    | none => s.modTol (fun x => { x with bSnap := some (s.snapSave 2 t) })
    | some _ => s
  s.beginSave 2 t

theorem boundaryAt_eq (s : State) (t flags : Nat) (bill : Bool) : s.boundaryAt t flags bill =
    ((s.demandAt t flags).boundaryWork t bill).modTol (fun x => { x with lastBoundary := max x.lastBoundary t }) := (rfl)

theorem TollBlind.boundaryWork {β : Type} {p : State → β} (h : TollBlind tariffFields Toll.standing p) (s : State) (t : Nat) (bill : Bool) :
    p (s.boundaryWork t bill) = p s := by
  unfold State.boundaryWork
  extract_lets s₁ s₂ s₃ s₄
  have h₁ : p s₁ = p s := by
    simp only [s₁]
    split
    · exact h.billClose s t
    · rfl
  have h₂ : p s₂ = p s := (h.activate _ t).trans ((h.setTariff s₁ t).trans h₁)
  have h₃ : p s₃ = p s := (forEach_keeps p _ s₂ _ fun u g _ => h.modAc u g fun a => by split <;> rfl).trans h₂
  have h₄ : p s₄ = p s := by
    simp only [s₄]
    split
    · exact (h.tol s₃ _ fun _ => by rfl).trans h₃
    · exact h₃
  exact (h.beginSave s₄ 2 t).trans h₄

/-- What all of a boundary writes. -/
def boundaryFields : List FieldRef := tariffFields ++ demandFields

section
variable {β : Type} {p : State → β} (h : TollBlind boundaryFields Toll.clock p)
include h

theorem TollBlind.tariffs : TollBlind tariffFields Toll.standing p := h.mono (List.subset_append_left ..) fun _ _ => clock_of_standing

theorem TollBlind.demands : TollBlind demandFields Toll.passed p := h.mono (List.subset_append_right ..) fun _ _ => clock_of_passed

theorem TollBlind.boundaryAt (s : State) (t flags : Nat) (bill : Bool) : p (s.boundaryAt t flags bill) = p s := by
  rw [boundaryAt_eq]
  exact (h.tol _ _ fun _ => by rfl).trans ((h.tariffs.boundaryWork _ t bill).trans (h.demands.demandAt s t flags))

theorem TollBlind.catchUp (s : State) (t flags : Nat) : p (s.catchUp t flags) = p s :=
  forEach_keeps p _ s _ fun u x _ => h.boundaryAt u x flags _

theorem TollBlind.activateLate (s : State) : p s.activateLate = p s := by
  unfold State.activateLate
  dsimp only
  split
  · rfl
  · exact h.boundaryAt s _ _ _

end

/-! ### The state of billing time, and HWM (R398, R399, R432) -/

/-- The true state is in force, and its event is set where it is another one. -/
def State.stateShown (s : State) : State :=
  if s.tState = s.trueState then s else (s.put Fld.TOL_TSTAT_STATE s.trueState).putB Fld.TOL_TEVT_STATE true

/-- The relation of billing time to HWM is shown. -/
def State.hwmShown (s : State) : State :=
  if decide (s.tol.bill < s.tol.hwm) = s.tol.belowHwm then s
  else (s.modTol (fun t => { t with belowHwm := decide (s.tol.bill < s.tol.hwm) })).putB Fld.TOL_TSTAT_BELOW_HWM (decide (s.tol.bill < s.tol.hwm))

section
variable {β : Type} {p : State → β} (h : TollBlind tariffFields Toll.standing p)
include h

/-- What a change of state does beyond showing it is log and tariff. -/
theorem TollBlind.updateState (s : State) : p s.updateState = p s.stateShown := by
  unfold State.updateState State.stateShown
  extract_lets old new s₁ s₂
  split
  · rfl
  · have h₁ : p s₁ = p ((s.put Fld.TOL_TSTAT_STATE s.trueState).putB Fld.TOL_TEVT_STATE true) := h.log _ _ _ _
    have h₂ : p s₂ = p s₁ := by
      simp only [s₂]
      split
      · rfl
      · exact h.flagOpen s₁ 1
    split
    · exact h₂.trans h₁
    · exact (h.setTariff _ _).trans (h₂.trans h₁)

theorem TollBlind.checkHwm (s : State) : p s.checkHwm = p s.hwmShown := by
  unfold State.checkHwm State.hwmShown
  extract_lets below s₁ s₂
  split
  · rfl
  · have h₂ : p s₂ = p s₁ := h.log s₁ _ _ _
    split
    · refine (forEach_keeps p _ _ _ fun u g _ => h.modAc u g fun _ => by rfl).trans ?_
      exact (h.flagOpen _ _).trans ((h.put s₂ _ Fld.TOL_TEVT_BELOW_HWM (by decide)).trans h₂)
    · exact h₂

end

end Sys2Proof.Machine

/-! SUPPORT for O32. Corrections of billing time, its state, HWM and the boundaries, each by what it shows (R401 to R404, R426, R432). -/

namespace Sys2Proof.Machine

/-! ### Readings of the clock and of the other blocks -/

/-- What a boundary, a change of state and the passing of HWM write. -/
def workFields : List FieldRef := boundaryFields ++ stateFields

theorem workFields_block : ∀ f ∈ workFields, f.addr / 0x10000 = 0x400A := by decide

section
variable {γ : Type} {k : Toll → γ}

/-- A register of another block. -/
theorem blind_otherBlock {a : Nat} (ha : a / 0x10000 ∉ [0x400A]) : TollBlind workFields k (fun s => s.reg a) :=
  tollBlind_reg fun f hf e => ha (by rw [e, workFields_block f hf]; exact List.mem_singleton_self _)

end

theorem blind_bill (F : List FieldRef) : TollBlind F Toll.clock (fun s => s.tol.bill) := (tollBlind_tol F Toll.clock).map fun c => c.2.1

theorem blind_belowHwm (F : List FieldRef) : TollBlind F Toll.clock (fun s => s.tol.belowHwm) :=
  (tollBlind_tol F Toll.clock).map fun c => c.2.2.2.2.1

theorem blind_slew (F : List FieldRef) : TollBlind F Toll.clock (fun s => s.tol.slew) := (tollBlind_tol F Toll.clock).map fun c => c.2.2.2.2.2

section
variable {β γ : Type} {k : Toll → γ} {p : State → β}

theorem TollBlind.boundaries (h : TollBlind workFields k p) : TollBlind boundaryFields k p :=
  h.mono (List.subset_append_left ..) fun _ _ e => e

theorem TollBlind.stateShown (h : TollBlind workFields k p) (s : State) : p s.stateShown = p s := by
  unfold State.stateShown
  split
  · rfl
  · exact (h.put _ _ Fld.TOL_TEVT_STATE (by decide)).trans (h.put s _ Fld.TOL_TSTAT_STATE (by decide))

/-- A change of state with the activation that was waiting for it. -/
theorem TollBlind.stateWork (h : TollBlind workFields Toll.clock p) (s : State) : p s.updateState.activateLate = p s :=
  (h.boundaries.activateLate _).trans ((h.boundaries.tariffs.updateState s).trans (h.stateShown s))

end

/-! ### The write of TSETC (R401, R402) -/

/-- MODE and ACC of a write of TSETC. -/
def tsetcSet (v : Nat) : List (FieldRef × Nat) := [(Fld.TOL_TSETC_MODE, flagOf (v.testBit 27)), (Fld.TOL_TSETC_ACC, v)]

theorem tsetcSet_apart (v : Nat) : (∀ x ∈ tsetcSet v, x.1.lo + x.1.w ≤ 32) ∧ (tsetcSet v).Pairwise (fun x y => y.1.apart x.1 = true) ∧
    (∀ x ∈ tsetcSet v, x.1.addr = Reg.TOL_TSETC) ∧ ∀ x ∈ tsetcSet v, x.1.apart Fld.TOL_TSETC_BUSY = true := by
  simp [tsetcSet, FieldRef.apart, Fld.TOL_TSETC_MODE, Fld.TOL_TSETC_ACC, Fld.TOL_TSETC_BUSY]

/-- MODE and ACC are taken. -/
def State.tsetcTaken (s : State) (v : Nat) : State := s.puts (tsetcSet v)

theorem tsetcTaken_reg_ne (s : State) (v : Nat) {a : Nat} (h : a ≠ Reg.TOL_TSETC) : (s.tsetcTaken v).reg a = s.reg a :=
  reg_puts_ne s fun x hx e => h (e.trans ((tsetcSet_apart v).2.2.1 x hx))

theorem tsetcTaken_tol (s : State) (v : Nat) : (s.tsetcTaken v).tol = s.tol := puts_tol _ s

theorem tsetcTaken_mode (s : State) (v : Nat) : (s.tsetcTaken v).bit Fld.TOL_TSETC_MODE = v.testBit 27 :=
  bit_puts s (tsetcSet_apart v).1 (tsetcSet_apart v).2.1 rfl (by simp [tsetcSet])

theorem tsetcTaken_acc (s : State) (v : Nat) : (s.tsetcTaken v).get Fld.TOL_TSETC_ACC = v % 2 ^ 24 :=
  get_puts s (tsetcSet_apart v).1 (tsetcSet_apart v).2.1 (Fld.TOL_TSETC_ACC, v) (by simp [tsetcSet])

theorem tsetcTaken_busy (s : State) (v : Nat) : (s.tsetcTaken v).bit Fld.TOL_TSETC_BUSY = s.bit Fld.TOL_TSETC_BUSY :=
  congrArg (· != 0) (get_puts_apart s (tsetcSet_apart v).2.2.2)

theorem tsetcTaken_slew (s : State) (v : Nat) : (s.tsetcTaken v).bit Fld.TOL_TSTAT_SLEW = s.bit Fld.TOL_TSTAT_SLEW :=
  bit_of_reg (tsetcTaken_reg_ne s v (by decide))

/-- The time in TSETLO and TSETHI. -/
def State.timeAsked (s : State) : Nat := s.get Fld.TOL_TSETLO_SEC + 2 ^ 32 * s.get Fld.TOL_TSETHI_SEC

theorem tsetcTaken_timeAsked (s : State) (v : Nat) : (s.tsetcTaken v).timeAsked = s.timeAsked :=
  congrArg₂ (fun l h => l + 2 ^ 32 * h) (get_of_reg (tsetcTaken_reg_ne s v (by decide))) (get_of_reg (tsetcTaken_reg_ne s v (by decide)))

/-- An adjustment by d begins: RESULT 1, SLEW, and the correction to slew. -/
def State.adjustBegun (s : State) (d : Rat) (acc : Nat) : State :=
  ((s.put Fld.TOL_TSETC_RESULT 1).putB Fld.TOL_TSTAT_SLEW true).modTol (fun x => { x with
    slew := d, eb := some (acc : Rat)
    adjust := (x.bill, absR d) :: x.adjust.filter (fun a => decide (x.bill - 86400 ≤ a.1)) })

theorem tsetcTaken_tState (s : State) (v : Nat) : (s.tsetcTaken v).tState = s.tState := get_of_reg (tsetcTaken_reg_ne s v (by decide))

theorem tsetcTaken_adjSum (s : State) (v : Nat) : (s.tsetcTaken v).adjSum = s.adjSum := by
  rw [State.adjSum, State.adjSum, tsetcTaken_tol]

section
variable {s : State} {v : Nat}

theorem wrTsetc_noGo (h : v.testBit 31 = false) : s.wrTsetc v = s.tsetcTaken v := if_pos (by rw [h]; rfl)

/-- GO while a correction runs is refused. -/
theorem wrTsetc_running (h : v.testBit 31 = true) (hb : s.bit Fld.TOL_TSTAT_SLEW = true ∨ s.bit Fld.TOL_TSETC_BUSY = true) :
    s.wrTsetc v = (s.tsetcTaken v).put Fld.TOL_TSETC_RESULT 3 := by
  refine (if_neg (by simp [h])).trans (if_pos ?_)
  rw [Bool.or_eq_true]
  exact hb.imp (tsetcTaken_slew s v).trans (tsetcTaken_busy s v).trans

/-- GO with no correction running: an adjustment, a refusal, or a setting. -/
theorem wrTsetc_go (h : v.testBit 31 = true) (hs : s.bit Fld.TOL_TSTAT_SLEW = false) (hb : s.bit Fld.TOL_TSETC_BUSY = false) :
    s.wrTsetc v = if s.tState ≠ 0 ∧ absR (s.timeAsked - s.tol.bill) + s.adjSum ≤ 90 then
        ((s.tsetcTaken v).adjustBegun (s.timeAsked - s.tol.bill) (v % 2 ^ 24)).updateState.activateLate
      else if v.testBit 27 then (s.tsetcTaken v).put Fld.TOL_TSETC_RESULT 3
      else ((s.tsetcTaken v).put Fld.TOL_TSETC_RESULT 2).setTime s.timeAsked (v % 2 ^ 24) := by
  have hidle : ¬ ((s.tsetcTaken v).bit Fld.TOL_TSTAT_SLEW || (s.tsetcTaken v).bit Fld.TOL_TSETC_BUSY) = true := by
    rw [tsetcTaken_slew, tsetcTaken_busy, hs, hb]
    exact Bool.false_ne_true
  rw [← tsetcTaken_timeAsked s v, ← tsetcTaken_tol s v, ← tsetcTaken_tState s v, ← tsetcTaken_adjSum s v, ← tsetcTaken_mode s v,
    ← tsetcTaken_acc s v]
  exact (if_neg (by simp [h])).trans (if_neg hidle)

end

/-! ### A setting (R404) -/

/-- Billing time is t, with its log entry, event and count. -/
def State.setBegun (s : State) (t acc : Nat) : State :=
  let u := s.modTol (fun x => { x with bill := (t : Rat), eb := some (acc : Rat) })
  ((((u.log 0x0109 0xFF (toLE 6 s.tol.bill.floor.toNat ++ toLE 6 s.tol.hwm.floor.toNat)).flagOpen 2).putB Fld.TOL_TEVT_SET true).inc
    Fld.TOL_TADJ_SETS)

/-- The demand intervals closed at `old` and opened at t, with the activation, the tariff and the save at t. -/
def State.setWork (s : State) (old t : Nat) : State :=
  let s := forEach (List.range 4) s (fun s g => if s.demOn g then s.closeDemand g old 1 else s)
  let s := (s.activate t).setTariff t
  let s := forEach (List.range 4) s (fun s g => if s.demOn g then s.openDemand g t else s)
  (s.beginSave 2 t).modTol (fun x => { x with
    lastBoundary := max x.lastBoundary (t / 60 * 60), bSnap := match x.bSnap with | none => some (s.snapSave 2 t) | b => b })

theorem setTime_eq (s : State) (t acc : Nat) : s.setTime t acc =
    if (s.setBegun t acc).checkHwm.updateState.vehicle || (s.setBegun t acc).checkHwm.updateState.tol.belowHwm ||
      decide ((t : Rat) ≤ s.tol.bill) then (s.setBegun t acc).checkHwm.updateState
    else (s.setBegun t acc).checkHwm.updateState.setWork s.tol.bill.floor.toNat t := (rfl)

section
variable {β : Type} {p : State → β}

theorem TollBlind.setWork (h : TollBlind boundaryFields Toll.clock p) (s : State) (old t : Nat) : p (s.setWork old t) = p s := by
  unfold State.setWork
  extract_lets s₁ s₂ s₃
  have h₁ : p s₁ = p s := forEach_keeps p _ s _ fun u g hg => by
    split
    · exact h.demands.closeDemand u (List.mem_range.1 hg) old 1
    · rfl
  have h₂ : p s₂ = p s := (h.tariffs.setTariff _ t).trans ((h.tariffs.activate s₁ t).trans h₁)
  have h₃ : p s₃ = p s := (forEach_keeps p _ s₂ _ fun u g _ => by
    split
    · exact h.demands.openDemand u g t
    · rfl).trans h₂
  exact (h.tol _ _ fun _ => by rfl).trans ((h.tariffs.beginSave s₃ 2 t).trans h₃)

theorem TollBlind.hwmShown (h : TollBlind workFields Toll.bill p) (s : State) : p s.hwmShown = p s := by
  unfold State.hwmShown
  split
  · rfl
  · exact (h.put _ _ Fld.TOL_TSTAT_BELOW_HWM (by decide)).trans (h.tol s _ fun _ => by rfl)

theorem TollBlind.ofBill (h : TollBlind workFields Toll.bill p) : TollBlind workFields Toll.clock p :=
  h.mono (List.Subset.refl _) fun _ _ e => congrArg (fun c => c.2.1) e

/-- What follows the step of billing time shows neither in it nor in fields other than those of the tariffs and the state. -/
theorem TollBlind.setTime (h : TollBlind workFields Toll.bill p) (s : State) (t acc : Nat) : p (s.setTime t acc) = p (s.setBegun t acc) := by
  have hb := h.ofBill.boundaries
  have hu : p (s.setBegun t acc).checkHwm.updateState = p (s.setBegun t acc) :=
    (hb.tariffs.updateState _).trans ((h.ofBill.stateShown _).trans ((hb.tariffs.checkHwm _).trans (h.hwmShown _)))
  rw [setTime_eq]
  split
  · exact hu
  · exact (hb.setWork _ _ _).trans hu

end

/-- The step of billing time as it is logged, before its event. -/
theorem setBegun_shows (s : State) (t acc : Nat) : (s.setBegun t acc).tol.bill = t ∧ (s.setBegun t acc).bit Fld.TOL_TEVT_SET = true ∧
    (s.setBegun t acc).get Fld.TOL_TSETC_RESULT = s.get Fld.TOL_TSETC_RESULT ∧ SameBlocks s (s.setBegun t acc) [0x400A] := by
  have hlog {γ : Type} {q : State → γ} (h : TollBlind tariffFields Toll.standing q) (u : State) (d : List Byte) :
      q ((u.log 0x0109 0xFF d).flagOpen 2) = q u := (h.flagOpen _ 2).trans (h.log u _ _ d)
  unfold State.setBegun
  extract_lets u
  refine ⟨?_, ?_, ?_, fun a ha => ?_⟩
  · exact hlog ((blind_bill _).mono (List.Subset.refl _) fun _ _ => clock_of_standing) u _
  · exact (bit_put_apart _ _ (by decide)).trans (bit_putB_same _ _ _ (by decide) (by decide))
  · refine (get_put_apart _ _ (by decide)).trans ((get_put_apart _ _ (by decide)).trans ?_)
    exact hlog (tollBlind_get (by decide)) u _
  · have hne {f : FieldRef} (hf : f.addr / 0x10000 = 0x400A) : a ≠ f.addr := fun e => ha (by rw [e, hf]; exact List.mem_singleton_self _)
    refine (reg_put_ne _ _ (hne (by decide))).trans ((reg_put_ne _ _ (hne (by decide))).trans ?_)
    exact hlog ((blind_otherBlock ha).mono (by decide) fun _ _ e => e) u _

/-! ### What each outcome of a correction shows -/

theorem get_tsetcResult (s : State) {v : Nat} (h : v < 4) : (s.put Fld.TOL_TSETC_RESULT v).get Fld.TOL_TSETC_RESULT = v :=
  (get_put_same s _ v (by decide)).trans (Nat.mod_eq_of_lt h)

theorem tsetcRefused_shows (s : State) (v : Nat) :
    ((s.tsetcTaken v).put Fld.TOL_TSETC_RESULT 3).get Fld.TOL_TSETC_RESULT = 3 ∧ ((s.tsetcTaken v).put Fld.TOL_TSETC_RESULT 3).tol = s.tol ∧
    SameRegs s ((s.tsetcTaken v).put Fld.TOL_TSETC_RESULT 3) [Reg.TOL_TSETC] :=
  ⟨get_tsetcResult _ (by decide), (put_tol _ _ _).trans (tsetcTaken_tol s v), fun a ha => by
    rw [List.mem_singleton] at ha
    exact (reg_put_ne _ _ ha).trans (tsetcTaken_reg_ne s v ha)⟩

@[simp] theorem get_modTol (s : State) (f : Toll → Toll) (g : FieldRef) : (s.modTol f).get g = s.get g := (rfl)

theorem adjustBegun_shows (s : State) (v : Nat) (d : Rat) (acc : Nat) :
    let t := ((s.tsetcTaken v).adjustBegun d acc).updateState.activateLate
    t.get Fld.TOL_TSETC_RESULT = 1 ∧ t.bit Fld.TOL_TSTAT_SLEW = true ∧ t.tol.slew = d ∧ t.tol.bill = s.tol.bill ∧
    SameBlocks s t [0x400A] := by
  intro t
  have hne {a : Nat} (ha : a / 0x10000 ∉ [0x400A]) {r : Nat} (hr : r / 0x10000 = 0x400A) : a ≠ r :=
    fun e => ha (by rw [e, hr]; exact List.mem_singleton_self _)
  refine ⟨?_, ?_, (blind_slew _).stateWork _, ?_, fun a ha => ?_⟩
  · refine ((tollBlind_get (by decide)).stateWork _).trans ((get_modTol _ _ _).trans ?_)
    exact (get_put_apart _ (f := Fld.TOL_TSTAT_SLEW) _ (by decide)).trans (get_tsetcResult _ (by decide))
  · exact ((tollBlind_bit (by decide)).stateWork _).trans ((bit_modTol _ _ _).trans (bit_putB_same _ _ _ (by decide) (by decide)))
  · refine ((blind_bill _).stateWork _).trans ?_
    rw [State.adjustBegun, State.modTol, putB_tol, put_tol, tsetcTaken_tol]
  · refine ((blind_otherBlock ha).stateWork _).trans ((reg_modTol _ _ _).trans ?_)
    exact (reg_put_ne _ (f := Fld.TOL_TSTAT_SLEW) _ (hne ha (by decide))).trans <|
      (reg_put_ne _ (f := Fld.TOL_TSETC_RESULT) _ (hne ha (by decide))).trans (tsetcTaken_reg_ne s v (hne ha (by decide)))

theorem setTime_shows (s : State) (v x acc : Nat) :
    let t := ((s.tsetcTaken v).put Fld.TOL_TSETC_RESULT 2).setTime x acc
    t.get Fld.TOL_TSETC_RESULT = 2 ∧ t.tol.bill = x ∧ t.bit Fld.TOL_TEVT_SET = true ∧ SameBlocks s t [0x400A] := by
  intro t
  obtain ⟨hbill, hset, hres, hblk⟩ := setBegun_shows ((s.tsetcTaken v).put Fld.TOL_TSETC_RESULT 2) x acc
  refine ⟨?_, ?_, ?_, fun a ha => ?_⟩
  · exact ((tollBlind_get (by decide)).setTime _ x acc).trans (hres.trans (get_tsetcResult _ (by decide)))
  · exact ((tollBlind_tol _ Toll.bill).setTime _ x acc).trans hbill
  · exact ((tollBlind_bit (by decide)).setTime _ x acc).trans hset
  · have hne : a ≠ Reg.TOL_TSETC := fun e => ha (by rw [e]; decide)
    exact ((blind_otherBlock ha).setTime _ x acc).trans <| (hblk a ha).trans <| (reg_put_ne _ _ hne).trans (tsetcTaken_reg_ne s v hne)

end Sys2Proof.Machine

/-! SUPPORT for O32. The boundaries that are due, one after the other, and the demand intervals that end at them (R417, R426). -/

namespace Sys2Proof.Machine

/-! ### The boundaries due -/

theorem mem_insUp (x t : Nat) (l : List Nat) : x ∈ insUp t l ↔ x = t ∨ x ∈ l := by
  induction l with
  | nil => simp [insUp]
  | cons y r ih =>
    unfold insUp
    split
    · exact List.mem_cons
    · split
      · next ht => simp [ht]
      · simp only [List.mem_cons, ih]
        tauto

/-- A time within the bounds that is among those gathered stays among them, and one of the list is gathered. -/
theorem mem_gathered {a b x : Nat} (hx : a < x ∧ x ≤ b) (l : List Nat) (acc : List Nat) (h : x ∈ acc ∨ x ∈ l) :
    x ∈ l.foldl (fun l t => if a < t ∧ t ≤ b then insUp t l else l) acc := by
  induction l generalizing acc with
  | nil => exact h.resolve_right (List.not_mem_nil)
  | cons t r ih =>
    refine ih _ ?_
    rcases h with h | h
    · left
      dsimp only
      split
      · exact (mem_insUp x t acc).2 (.inr h)
      · exact h
    · rcases List.mem_cons.1 h with rfl | h
      · left
        dsimp only
        rw [if_pos hx]
        exact (mem_insUp x x acc).2 (.inl rfl)
      · exact .inr h

/-- The end of a demand interval is a boundary. -/
theorem dEnd_mem_boundaries {s : State} {g : Nat} (hg : g < 4) (hd : s.demOn g = true) {a b : Nat}
    (hx : a < (s.acPt g).dEnd ∧ (s.acPt g).dEnd ≤ b) :
    (s.acPt g).dEnd ∈ s.boundaries a b := by
  refine mem_gathered hx _ [] (.inr ?_)
  have hmem : (s.acPt g).dEnd ∈ ((List.range 4).filter s.demOn).map (fun g => (s.acPt g).dEnd) :=
    List.mem_map_of_mem (List.mem_filter.2 ⟨List.mem_range.2 hg, hd⟩)
  exact List.mem_append_left _ (List.mem_append_left _ (List.mem_append_left _ hmem))

/-! ### The last boundary -/

theorem lastBoundary_boundaryAt (s : State) (t flags : Nat) (bill : Bool) :
    (s.boundaryAt t flags bill).tol.lastBoundary = max s.tol.lastBoundary t := by
  have hpassed (F : List FieldRef) : TollBlind F Toll.passed (fun s => s.tol.lastBoundary) := (tollBlind_tol F Toll.passed).map Prod.snd
  have hkeep : ((s.demandAt t flags).boundaryWork t bill).tol.lastBoundary = s.tol.lastBoundary :=
    (((hpassed _).mono (List.Subset.refl _) fun _ _ => passed_of_standing).boundaryWork _ t bill).trans ((hpassed _).demandAt s t flags)
  rw [boundaryAt_eq, ← hkeep]
  rfl

/-- No boundary of the list lies after the last boundary processed. -/
theorem le_lastBoundary (f : State → Nat → State) (h : ∀ s x, (f s x).tol.lastBoundary = max s.tol.lastBoundary x) (l : List Nat) (s : State) :
    s.tol.lastBoundary ≤ (forEach l s f).tol.lastBoundary ∧ ∀ x ∈ l, x ≤ (forEach l s f).tol.lastBoundary := by
  unfold forEach
  induction l generalizing s with
  | nil => exact ⟨Nat.le_refl _, fun _ hx => absurd hx List.not_mem_nil⟩
  | cons y r ih =>
    obtain ⟨hs, hr⟩ := ih (f s y)
    rw [h] at hs
    exact ⟨(Nat.le_max_left ..).trans hs, List.forall_mem_cons.2 ⟨(Nat.le_max_right ..).trans hs, hr⟩⟩

theorem catchUp_passes (s : State) (t flags : Nat) : ∀ x ∈ s.boundaries s.tol.lastBoundary t, x ≤ (s.catchUp t flags).tol.lastBoundary :=
  (le_lastBoundary _ (fun u x => lastBoundary_boundaryAt u x flags _) _ s).2

/-! ### The demand intervals that end -/

/-- Rounds that each leave the state or establish P: the loop establishes P, or every round leaves the state. -/
theorem forEach_stays_or {P : State → Prop} {f : State → Nat → State} (h : ∀ t x, f t x = t ∨ P (f t x)) (l : List Nat) (s : State) :
    (forEach l s f = s ∧ ∀ x ∈ l, f s x = s) ∨ P (forEach l s f) := by
  unfold forEach
  induction l generalizing s with
  | nil => exact .inl ⟨rfl, fun _ hx => absurd hx List.not_mem_nil⟩
  | cons x t ih =>
    rcases h s x with hx | hP
    · rcases ih s with ⟨hl, hr⟩ | hP
      · exact .inl ⟨by rw [List.foldl_cons, hx, hl], List.forall_mem_cons.2 ⟨hx, hr⟩⟩
      · exact .inr (by rw [List.foldl_cons, hx]; exact hP)
    · rcases ih (f s x) with ⟨hl, -⟩ | hP'
      · exact .inr (by rw [List.foldl_cons, hl]; exact hP)
      · exact .inr hP'

/-- The close of an interval sets its event. -/
theorem closeDemand_event (s : State) (g t flags : Nat) : (s.closeDemand g t flags).bit Fld.TOL_TEVT_DEMAND = true := by
  unfold State.closeDemand
  extract_lets a sec kI kE fl s₁ s₂
  have h₂ : s₂.bit Fld.TOL_TEVT_DEMAND = true := bit_putB_same _ _ _ (by decide) (by decide)
  split
  · exact h₂
  · exact (bit_modTol _ _ _).trans h₂

/-- The demand closes at t, of point g. -/
def State.demandOf (t flags : Nat) (s : State) (g : Nat) : State :=
  if s.demOn g && decide ((s.acPt g).dEnd ≤ t) then (s.closeDemand g t flags).openDemand g t else s

theorem demandOf_cases (t flags : Nat) (s : State) (g : Nat) :
    s.demandOf t flags g = s ∨ (s.demandOf t flags g).bit Fld.TOL_TEVT_DEMAND = true := by
  unfold State.demandOf
  split
  · exact .inr ((bit_modTol _ _ _).trans (closeDemand_event s g t flags))
  · exact .inl rfl

theorem demandAt_cases (s : State) (t flags : Nat) : s.demandAt t flags = s ∨ (s.demandAt t flags).bit Fld.TOL_TEVT_DEMAND = true :=
  (forEach_stays_or (P := fun u => u.bit Fld.TOL_TEVT_DEMAND = true) (demandOf_cases t flags) (List.range 4) s).imp_left And.left

/-- An interval that ends by t sets the event. -/
theorem demandAt_event {s : State} {g t : Nat} (flags : Nat) (hg : g < 4) (hd : s.demOn g = true) (ht : (s.acPt g).dEnd ≤ t) :
    (s.demandAt t flags).bit Fld.TOL_TEVT_DEMAND = true := by
  rcases forEach_stays_or (P := fun u => u.bit Fld.TOL_TEVT_DEMAND = true) (demandOf_cases t flags) (List.range 4) s with ⟨hl, hr⟩ | hP
  · have hs : s.demandOf t flags g = s := hr g (List.mem_range.2 hg)
    have hg' : s.demandOf t flags g = (s.closeDemand g t flags).openDemand g t := if_pos (by simp [hd, ht])
    have hbit : s.bit Fld.TOL_TEVT_DEMAND = true := by
      rw [← hs, hg']
      exact (bit_modTol _ _ _).trans (closeDemand_event s g t flags)
    exact (congrArg (fun u => u.bit Fld.TOL_TEVT_DEMAND) hl).trans hbit
  · exact hP

/-- The interval of point g as the loop over the boundaries sees it: whether it runs, its end, and the event of the closes. -/
def State.interval (g : Nat) (s : State) : (Bool × Nat) × Bool := ((s.demOn g, (s.acPt g).dEnd), s.bit Fld.TOL_TEVT_DEMAND)

theorem demOn_congr {s t : State} {g : Nat} (hcfg : t.reg (Reg.CSN_AC_CFG g) = s.reg (Reg.CSN_AC_CFG g))
    (hlen : t.reg Reg.TOL_DEMCFG = s.reg Reg.TOL_DEMCFG) : t.demOn g = s.demOn g := by
  have hon : t.acOn g = s.acOn g := bit_of_reg (f := Fld.CSN_AC_CFG_EN g) hcfg
  have hl : t.get Fld.TOL_DEMCFG_LEN = s.get Fld.TOL_DEMCFG_LEN := get_of_reg hlen
  rw [State.demOn, State.demOn, hon, State.demLen, State.demLen, hl]

theorem blind_interval {g : Nat} (hg : g < 4) : TollBlind tariffFields Toll.standing (State.interval g) := by
  have hblock : ∀ f ∈ tariffFields, f.addr / 0x10000 = 0x400A ∧ f.addr ≠ Reg.TOL_DEMCFG := by decide
  have hon : TollBlind tariffFields Toll.standing (fun s => s.demOn g) :=
    { put := fun s v f hf => by
        obtain ⟨hb, hne⟩ := hblock f hf
        refine demOn_congr (reg_put_ne s v fun e => ?_) (reg_put_ne s v hne.symm)
        rw [← e, Reg.CSN_AC_CFG] at hb
        omega
      tol := fun _ _ _ => rfl }
  exact (hon.prod ((tollBlind_tol _ Toll.standing).map fun c => c.2 g)).prod (tollBlind_bit (by decide))

theorem interval_boundaryAt {g : Nat} (hg : g < 4) (s : State) (t flags : Nat) (bill : Bool) :
    (s.boundaryAt t flags bill).interval g = (s.demandAt t flags).interval g := by
  rw [boundaryAt_eq, ← (blind_interval hg).boundaryWork (s.demandAt t flags) t bill]
  rfl

/-- The event of the closes is set, or the interval of point g runs to D as before. -/
def State.awaits (g D : Nat) (s : State) : Prop := (s.interval g).2 = true ∨ (s.interval g).1 = (true, D)

section
variable {g : Nat} (hg : g < 4)
include hg

/-- A boundary keeps the wait for the end of the interval. -/
theorem awaits_boundaryAt {D : Nat} {s : State} (h : s.awaits g D) (t flags : Nat) (bill : Bool) : (s.boundaryAt t flags bill).awaits g D := by
  unfold State.awaits
  rw [interval_boundaryAt hg]
  rcases demandAt_cases s t flags with e | hbit
  · rw [e]
    exact h
  · exact .inl hbit

/-- The event of a close stays. -/
theorem event_boundaryAt {s : State} (h : s.bit Fld.TOL_TEVT_DEMAND = true) (t flags : Nat) (bill : Bool) :
    (s.boundaryAt t flags bill).bit Fld.TOL_TEVT_DEMAND = true := by
  refine (congrArg Prod.snd (interval_boundaryAt hg s t flags bill)).trans ?_
  rcases demandAt_cases s t flags with e | hbit
  · rw [e]
    exact h
  · exact hbit

/-- A boundary at the end of the interval sets the event. -/
theorem awaits_ends {D : Nat} {s : State} (h : s.awaits g D) (flags : Nat) (bill : Bool) :
    (s.boundaryAt D flags bill).bit Fld.TOL_TEVT_DEMAND = true := by
  rcases h with hbit | hint
  · exact event_boundaryAt hg hbit D flags bill
  · obtain ⟨hd, hD⟩ := Prod.mk.inj hint
    exact (congrArg Prod.snd (interval_boundaryAt hg s D flags bill)).trans (demandAt_event flags hg hd hD.le)

end

theorem forEach_invariant {P : State → Prop} {f : State → Nat → State} (h : ∀ t x, P t → P (f t x)) (l : List Nat) {s : State} (hs : P s) :
    P (forEach l s f) := List.foldlRecOn l f hs fun t ht x _ => h t x ht

/-- One of the boundaries due, with the billing closes among them. -/
def State.dueAt (flags : Nat) (bills : List Nat) (s : State) (x : Nat) : State := s.boundaryAt x flags (bills.contains x)

theorem catchUp_eq (s : State) (t flags : Nat) : s.catchUp t flags =
    forEach (s.boundaries s.tol.lastBoundary t) s (State.dueAt flags (billCloses s.tol.book.calA s.tol.lastBoundary t)) := (rfl)

/-- A demand interval that ends at a boundary processed closes, with its event. -/
theorem catchUp_event {s : State} {g : Nat} (hg : g < 4) (hd : s.demOn g = true) {t : Nat} (flags : Nat)
    (hx : s.tol.lastBoundary < (s.acPt g).dEnd ∧ (s.acPt g).dEnd ≤ t) : (s.catchUp t flags).bit Fld.TOL_TEVT_DEMAND = true := by
  obtain ⟨before, after, hsplit⟩ := List.append_of_mem (dEnd_mem_boundaries hg hd hx)
  rw [catchUp_eq, hsplit, forEach, List.foldl_append, List.foldl_cons]
  refine forEach_invariant (P := fun u => u.bit Fld.TOL_TEVT_DEMAND = true) (fun u x hu => event_boundaryAt hg hu x flags _) after ?_
  refine awaits_ends hg ?_ flags _
  exact forEach_invariant (P := State.awaits g (s.acPt g).dEnd) (fun u x hu => awaits_boundaryAt hg hu x flags _) before (.inr (Prod.ext hd rfl))

/-! ### HWM (R432) -/

/-- Processing resumes above HWM: from the boundary there, with the tariff, and the activation that was waiting. -/
def State.resumed (s : State) : State :=
  if s.vehicle then s
  else ((s.modTol (fun t => { t with lastBoundary := max t.lastBoundary t.hwm.floor.toNat })).setTariff s.billSec).activateLate

theorem exec_hwmPassed {s : State} (hb : s.tol.belowHwm = true) (hlt : s.tol.hwm < s.tol.bill) :
    exec .hwmPassed s = .next s.checkHwm.resumed := congrArg Host.Outcome.next (if_pos (by simp [hb, hlt]))

theorem TollBlind.resumed {β : Type} {p : State → β} (h : TollBlind boundaryFields Toll.clock p) (s : State) : p s.resumed = p s := by
  unfold State.resumed
  split
  · rfl
  · exact (h.activateLate _).trans ((h.tariffs.setTariff _ _).trans (h.tol s _ fun _ => by rfl))

theorem hwmShown_passed {s : State} (hb : s.tol.belowHwm = true) (hlt : s.tol.hwm < s.tol.bill) :
    s.hwmShown = (s.modTol (fun t => { t with belowHwm := false })).putB Fld.TOL_TSTAT_BELOW_HWM false := by
  have hd : decide (s.tol.bill < s.tol.hwm) = false := decide_eq_false hlt.not_gt
  unfold State.hwmShown
  rw [hd, hb]
  exact if_neg Bool.false_ne_true

/-- HWM passed: what is read beside the log and the tariff is what the relation to HWM shows. -/
theorem TollBlind.hwmPassed {β : Type} {p : State → β} (h : TollBlind boundaryFields Toll.clock p) (s : State) :
    p s.checkHwm.resumed = p s.hwmShown := (h.resumed _).trans (h.tariffs.checkHwm s)

/-! ### The obligation -/

theorem trueState_lt (s : State) : s.trueState < 4 := by
  unfold State.trueState
  repeat' split
  all_goals decide

theorem stateShown_state (s : State) : s.stateShown.tState = s.trueState := by
  unfold State.stateShown
  split
  · assumption
  · refine (get_put_apart _ (f := Fld.TOL_TEVT_STATE) _ (by decide)).trans ?_
    exact (get_put_same s Fld.TOL_TSTAT_STATE _ (by decide)).trans (Nat.mod_eq_of_lt (trueState_lt s))

theorem stateShown_event {s : State} (h : s.tState ≠ s.trueState) : s.stateShown.bit Fld.TOL_TEVT_STATE = true := by
  rw [State.stateShown, if_neg h]
  exact bit_putB_same _ _ _ (by decide) (by decide)

/-- A write of TSETC, which is no tariff register. -/
theorem exec_timeCorrectionGo {s : State} {m : Master} (v : Word) (h : s.takes m Reg.TOL_TSETC = true) :
    exec (.timeCorrectionGo m v) s = .next (s.wrTsetc v.toNat) := by
  have ht : tariffReg Reg.TOL_TSETC = false := by decide
  refine congrArg Host.Outcome.next ((wr_tol v h (by decide)).trans ?_)
  exact (if_neg (by simp [ht])).trans ((if_neg (by decide)).trans ((if_neg (by decide)).trans (if_pos rfl)))

/-- Settles O32: a correction by its three outcomes, the state and HWM by what they show, the boundaries as a loop that each interval awaits. -/
theorem billingTimeActs : Obligations.BillingTimeActs := by
  unfold Obligations.BillingTimeActs
  intro s _
  have mem {i : Instr} {t : State} (h : exec i s = .next t) := memoryChangesOnlyByItsWriters i s t h
  refine ⟨fun m v ht => ⟨fun hgo => ?_, fun hgo hrun => ?_,
      fun hgo hs hb x hx => ⟨fun hst hsum => ?_, fun hno => ⟨fun hmode => ?_, fun hmode => ?_⟩⟩⟩,
    fun hs h0 => ?_, fun hno => ?_, fun hrun => ?_, fun hno => ?_, fun hveh hrun hbelow => ?_, fun hbelow hlt => ?_⟩
  · have hi := exec_timeCorrectionGo v ht
    rw [wrTsetc_noGo hgo] at hi
    exact ⟨_, hi, tsetcTaken_mode s _, tsetcTaken_acc s _, tsetcTaken_tol s _,
      fun a ha => tsetcTaken_reg_ne s _ fun e => ha (List.mem_singleton.2 e), mem hi⟩
  · have hi := exec_timeCorrectionGo v ht
    rw [wrTsetc_running hgo hrun] at hi
    obtain ⟨hres, htol, hregs⟩ := tsetcRefused_shows s v.toNat
    exact ⟨_, hi, hres, htol, hregs, mem hi⟩
  · have hi := exec_timeCorrectionGo v ht
    have hx' : s.timeAsked = x := hx
    rw [wrTsetc_go hgo hs hb, hx', if_pos ⟨hst, hsum⟩] at hi
    obtain ⟨hres, hslew, hd, hbill, hblk⟩ := adjustBegun_shows s v.toNat (x - s.tol.bill) (v.toNat % 2 ^ 24)
    exact ⟨_, hi, hres, hslew, hd, hbill, hblk, mem hi⟩
  · have hi := exec_timeCorrectionGo v ht
    have hx' : s.timeAsked = x := hx
    rw [wrTsetc_go hgo hs hb, hx', if_neg (fun h => hno.elim h.1 h.2.not_gt), if_pos hmode] at hi
    obtain ⟨hres, htol, hregs⟩ := tsetcRefused_shows s v.toNat
    exact ⟨_, hi, hres, htol, hregs, mem hi⟩
  · have hi := exec_timeCorrectionGo v ht
    have hx' : s.timeAsked = x := hx
    rw [wrTsetc_go hgo hs hb, hx', if_neg (fun h => hno.elim h.1 h.2.not_gt), if_neg (by simp [hmode])] at hi
    obtain ⟨hres, hbill, hset, hblk⟩ := setTime_shows s v.toNat x (v.toNat % 2 ^ 24)
    exact ⟨_, hi, hres, hbill, hset, hblk, mem hi⟩
  · have hi : exec .slewComplete s = .next ((s.putB Fld.TOL_TSTAT_SLEW false).putB Fld.TOL_TEVT_ADJUST true) :=
      congrArg Host.Outcome.next (if_pos (by simp [hs, h0]))
    refine ⟨_, hi, ?_, bit_putB_same _ _ _ (by decide) (by decide), fun a ha => ?_, mem hi⟩
    · exact (bit_putB_apart _ _ (by decide)).trans (bit_putB_same _ _ _ (by decide) (by decide))
    · simp only [List.mem_cons, List.not_mem_nil, or_false, not_or] at ha
      exact (reg_put_ne _ _ ha.2).trans (reg_put_ne s _ ha.1)
  · refine congrArg Host.Outcome.next (if_neg ?_)
    rcases hno with h | h <;> simp [h]
  · have hi : exec .billingStateChange s = .next s.updateState.activateLate := congrArg Host.Outcome.next (if_pos hrun)
    have hshown {β : Type} {p : State → β} (h : TollBlind boundaryFields Toll.clock p) : p s.updateState.activateLate = p s.stateShown :=
      (h.activateLate _).trans (h.tariffs.updateState s)
    refine ⟨_, hi, ?_, fun hne => ?_, fun a ha => (blind_otherBlock ha).stateWork s, mem hi⟩
    · exact (hshown (p := State.tState) (tollBlind_get (by decide))).trans (stateShown_state s)
    · exact (hshown (tollBlind_bit (by decide))).trans (stateShown_event hne)
  · refine congrArg Host.Outcome.next (if_pos ?_)
    rcases hno with h | h | h <;> simp [h]
  · have hi : exec .boundary s = .next (s.catchUp (s.billSec / 60 * 60) 0) :=
      congrArg Host.Outcome.next (if_neg (by simp [hveh, hrun, hbelow]))
    exact ⟨_, hi, catchUp_passes s _ 0, fun g hd hlo hhi => catchUp_event g.isLt hd 0 ⟨hlo, hhi⟩, (blind_bill _).catchUp s _ 0,
      fun a ha => (blind_otherBlock ha).boundaries.catchUp s _ 0, mem hi⟩
  · have hi := exec_hwmPassed hbelow hlt
    have hshown := hwmShown_passed hbelow hlt
    refine ⟨_, hi, ?_, ?_, fun a ha => ?_, mem hi⟩
    · exact ((blind_belowHwm _).hwmPassed s).trans (by rw [hshown]; rfl)
    · refine ((tollBlind_bit (by decide)).hwmPassed s).trans ?_
      rw [hshown]
      exact bit_putB_same _ _ _ (by decide) (by decide)
    · refine ((blind_otherBlock ha).boundaries.hwmPassed s).trans ?_
      rw [hshown]
      exact reg_put_ne _ _ fun e => ha (by rw [e]; decide)

end Sys2Proof.Machine

/-! SUPPORT for O33. The tariff calendars: the write of CALCTL and the end of a check (R409, R411, R412). -/

namespace Sys2Proof.Machine

/-- A write that takes effect whole in the tariff registers of a device that is no VEHICLE. -/
theorem wr_calctl {s : State} {m : Master} (v : Word) (hv : s.vehicle = false) (h : s.takes m Reg.TOL_CALCTL = true) :
    s.wr m Reg.TOL_CALCTL v = s.wrCalctl m v.toNat := by
  rw [wr_tol v h (by decide)]
  exact (if_neg (by simp [hv])).trans ((if_neg (by decide)).trans ((if_neg (by decide)).trans ((if_neg (by decide)).trans (if_pos rfl))))

/-! ### The write of CALCTL -/

/-- The pending calendar is cancelled, with its entry. -/
def State.calCancelled (s : State) : State :=
  if s.tol.book.calP != [] then
    (s.log 0x010B 0xFF (calMark s.tol.book.calP ++ toLE 1 2)).modBook (fun b => { b with calP := [] })
  else s

/-- Bits 2 and 3 clear, and what bits 0 and 1 are. -/
theorem calctl_bits {v : Nat} (h : v / 4 % 4 = 0) : v.testBit 2 = false ∧ v.testBit 3 = false ∧
    v.testBit 0 = decide (v % 2 = 1) ∧ v.testBit 1 = decide (v / 2 % 2 = 1) := by
  simp only [Nat.testBit_eq_decide_div_mod_eq, decide_eq_false_iff_not]
  refine ⟨?_, ?_, ?_, ?_⟩ <;> norm_num <;> omega

section
variable (s : State) (m : Master) {v : Nat} (h : v / 4 % 4 = 0)
include h

/-- A request without the key is a violation. -/
theorem wrCalctl_badKey (hv : v % 4 ≠ 0) (hk : v / 65536 % 65536 ≠ 0x7A2C) : s.wrCalctl m v = s.violate m Reg.TOL_CALCTL := by
  obtain ⟨h2, h3, h0, h1⟩ := calctl_bits h
  have hask : v % 2 = 1 ∨ v / 2 % 2 = 1 := by omega
  simp only [State.wrCalctl, h2, h3, Bool.false_eq_true, if_false]
  rw [if_neg (by rcases hask with h | h <;> simp [h0, h1, h]), if_pos hk]

theorem wrCalctl_load (hv : v % 4 = 1) (hk : v / 65536 % 65536 = 0x7A2C) : s.wrCalctl m v = s.putB Fld.TOL_CALCTL_BUSY true := by
  obtain ⟨h2, h3, h0, h1⟩ := calctl_bits h
  have ht0 : v.testBit 0 = true := by rw [h0, decide_eq_true_eq]; omega
  have ht1 : v.testBit 1 = false := by rw [h1, decide_eq_false_iff_not]; omega
  simp [State.wrCalctl, h2, h3, ht0, ht1, hk]

theorem wrCalctl_cancel (hv : v % 4 = 2) (hk : v / 65536 % 65536 = 0x7A2C) : s.wrCalctl m v = s.calCancelled := by
  obtain ⟨h2, h3, h0, h1⟩ := calctl_bits h
  have ht0 : v.testBit 0 = false := by rw [h0, decide_eq_false_iff_not]; omega
  have ht1 : v.testBit 1 = true := by rw [h1, decide_eq_true_eq]; omega
  simp [State.wrCalctl, State.calCancelled, h2, h3, ht0, ht1, hk]

end

/-! ### An entry of the event log -/

@[simp] theorem tol_modBook (s : State) (f : Book → Book) : (s.modBook f).tol = { s.tol with book := f s.tol.book } := (rfl)

@[simp] theorem reg_modBook (s : State) (f : Book → Book) (a : Nat) : (s.modBook f).reg a = s.reg a := (rfl)

@[simp] theorem get_modBook (s : State) (f : Book → Book) (g : FieldRef) : (s.modBook f).get g = s.get g := (rfl)

@[simp] theorem bit_modBook (s : State) (f : Book → Book) (g : FieldRef) : (s.modBook f).bit g = s.bit g := (rfl)

@[simp] theorem tol_syncBook (s : State) : s.syncBook.tol = s.tol := by simp only [State.syncBook, put_tol]

/-- Outside the VEHICLE role an entry is one of the rolling class, under the next number. -/
theorem log_book {s : State} (hv : s.vehicle = false) (code point : Nat) (data : List Byte) :
    ∃ roll, (s.log code point data).tol.book = { s.tol.book with rollSeq := s.tol.book.rollSeq + 1, roll := roll } := by
  unfold State.log State.logAt
  rw [if_neg (by simp [hv])]
  extract_lets b full u
  have hu : u.tol = s.tol := by
    simp only [u]
    split
    · exact putB_tol _ _ _
    · rfl
  exact ⟨_, by rw [tol_syncBook, tol_modBook, hu]⟩

/-- An entry changes no register of another block. -/
theorem log_block (s : State) (code point : Nat) (data : List Byte) : SameBlocks s (s.log code point data) [0x400A] :=
  fun _ ha => ((blind_otherBlock ha).boundaries (k := Toll.clock)).tariffs.log s code point data

theorem calCancelled_shows {s : State} (hv : s.vehicle = false) : s.calCancelled.tol.book.calP = [] ∧
    s.calCancelled.tol.book.calA = s.tol.book.calA ∧ (s.tol.book.calP ≠ [] → s.calCancelled.tol.book.rollSeq = s.tol.book.rollSeq + 1) ∧
    SameBlocks s s.calCancelled [0x400A] := by
  by_cases hp : s.tol.book.calP = []
  · have e : s.calCancelled = s := if_neg (by simp [hp])
    rw [e]
    exact ⟨hp, rfl, fun h => absurd hp h, fun _ _ => rfl⟩
  · have e : s.calCancelled = (s.log 0x010B 0xFF (calMark s.tol.book.calP ++ toLE 1 2)).modBook (fun b => { b with calP := [] }) :=
      if_pos (by simp [hp])
    obtain ⟨roll, hb⟩ := log_book hv 0x010B 0xFF (calMark s.tol.book.calP ++ toLE 1 2)
    rw [e, tol_modBook, hb]
    exact ⟨rfl, rfl, fun _ => rfl, log_block s _ _ _⟩

/-! ### The end of a check -/

/-- The time that an activation may not precede: HWM, and billing time where it is known. -/
def State.calFloor (s : State) : Nat := if s.tState = 0 then ceilNat s.tol.hwm else ceilNat (max s.tol.bill s.tol.hwm)

/-- The check has ended with a reason. -/
def State.calChecked (s : State) (r : Nat) : State :=
  ((s.putB Fld.TOL_CALCTL_BUSY false).put Fld.TOL_CALCTL_REASON r).putB Fld.TOL_TEVT_CAL_LOAD true

/-- A calendar that breaks nothing is pending. -/
def State.calTaken (s : State) (c : List Byte) : State :=
  ((s.putB Fld.TOL_CALCTL_DONE true).modBook (fun b => { b with calP := c })).log 0x010B 0xFF
    (calMark c ++ toLE 1 (if s.tol.book.calP != [] then 1 else 0))

theorem exec_calendarCheckDone {s : State} (h : s.bit Fld.TOL_CALCTL_BUSY = true) : exec .calendarCheckDone s =
    .next (if calReason s.calBuf true s.calFloor ≠ 0 then
        (s.calChecked (calReason s.calBuf true s.calFloor)).putB Fld.TOL_CALCTL_REFUSED true
      else (s.calChecked (calReason s.calBuf true s.calFloor)).calTaken s.calBuf) :=
  congrArg Host.Outcome.next (if_neg (by simp [h]))

theorem calReason_lt (c : List Byte) (act : Bool) (t : Nat) : calReason c act t < 16 := by
  unfold calReason
  extract_lets at_
  split_ifs <;> decide

theorem calChecked_shows (s : State) {r : Nat} (h : r < 16) : (s.calChecked r).bit Fld.TOL_CALCTL_BUSY = false ∧
    (s.calChecked r).get Fld.TOL_CALCTL_REASON = r ∧ (s.calChecked r).bit Fld.TOL_TEVT_CAL_LOAD = true ∧ (s.calChecked r).tol = s.tol ∧
    SameBlocks s (s.calChecked r) [0x400A] := by
  unfold State.calChecked
  refine ⟨?_, ?_, bit_putB_same _ _ _ (by decide) (by decide), ?_, ?_⟩
  · rw [bit_putB_apart _ _ (by decide), bit_put_apart _ _ (by decide), bit_putB_same _ _ _ (by decide) (by decide)]
  · exact (get_put_apart _ (f := Fld.TOL_TEVT_CAL_LOAD) _ (by decide)).trans ((get_put_same _ _ _ (by decide)).trans (Nat.mod_eq_of_lt h))
  · rw [putB_tol, put_tol, putB_tol]
  · have hrefl : SameBlocks s s [0x400A] := fun _ _ => rfl
    exact ((hrefl.put _ (f := Fld.TOL_CALCTL_BUSY) (by decide)).put _ (f := Fld.TOL_CALCTL_REASON) (by decide)).put _
      (f := Fld.TOL_TEVT_CAL_LOAD) (by decide)

/-- A refusal, after the end of the check. -/
theorem calRefused_shows (s : State) {r : Nat} (h : r < 16) :
    let t := (s.calChecked r).putB Fld.TOL_CALCTL_REFUSED true
    t.tol.book = s.tol.book ∧ t.bit Fld.TOL_CALCTL_REFUSED = true ∧ t.bit Fld.TOL_CALCTL_BUSY = false ∧ t.get Fld.TOL_CALCTL_REASON = r ∧
    t.bit Fld.TOL_TEVT_CAL_LOAD = true ∧ SameBlocks s t [0x400A] := by
  intro t
  obtain ⟨hbusy, hreason, hload, htol, hblk⟩ := calChecked_shows s h
  refine ⟨by rw [putB_tol, htol], bit_putB_same _ _ _ (by decide) (by decide), ?_, ?_, ?_, hblk.put _ (by decide)⟩
  · exact (bit_putB_apart _ _ (by decide)).trans hbusy
  · exact (get_put_apart _ _ (by decide)).trans hreason
  · exact (bit_putB_apart _ _ (by decide)).trans hload

/-- A calendar taken: what is read beside the log and DONE is as the check's end left it. -/
theorem TollBlind.calTaken {β : Type} {p : State → β} (h : TollBlind (Fld.TOL_CALCTL_DONE :: tariffFields) Toll.standing p) (s : State)
    (c : List Byte) : p (s.calTaken c) = p s := by
  have hlog : TollBlind tariffFields Toll.standing p := h.mono (List.subset_cons_self ..) fun _ _ e => e
  exact (hlog.log _ _ _ _).trans ((hlog.book _ _).trans (h.put s _ _ (List.mem_cons_self ..)))

/-- An acceptance, after the end of the check. -/
theorem calTaken_shows {s : State} (hv : s.vehicle = false) (c : List Byte) {r : Nat} (h : r < 16) :
    let t := (s.calChecked r).calTaken c
    t.tol.book.calP = c ∧ t.bit Fld.TOL_CALCTL_DONE = true ∧ t.bit Fld.TOL_CALCTL_BUSY = false ∧ t.get Fld.TOL_CALCTL_REASON = r ∧
    t.bit Fld.TOL_TEVT_CAL_LOAD = true ∧ SameBlocks s t [0x400A] := by
  intro t
  obtain ⟨hbusy, hreason, hload, -, hblk⟩ := calChecked_shows s h
  have hrole : (((s.calChecked r).putB Fld.TOL_CALCTL_DONE true).modBook (fun b => { b with calP := c })).vehicle = false := by
    rw [← hv]
    exact congrArg (· == 2) ((get_put_ne _ _ (by decide)).trans (get_of_reg (hblk _ (by decide))))
  obtain ⟨roll, hb⟩ := log_book hrole 0x010B 0xFF (calMark c ++ toLE 1 (if (s.calChecked r).tol.book.calP != [] then 1 else 0))
  have hd : TollBlind tariffFields Toll.standing (fun s => s.bit Fld.TOL_CALCTL_DONE) := tollBlind_bit (by decide)
  refine ⟨congrArg Book.calP hb, ?_, ?_, ?_, ?_, fun a ha => ?_⟩
  · exact (hd.log _ _ _ _).trans ((bit_modBook _ _ _).trans (bit_putB_same _ _ _ (by decide) (by decide)))
  · exact ((tollBlind_bit (by decide)).calTaken _ c).trans hbusy
  · exact ((tollBlind_get (by decide)).calTaken _ c).trans hreason
  · exact ((tollBlind_bit (by decide)).calTaken _ c).trans hload
  · have hne : ∀ f ∈ Fld.TOL_CALCTL_DONE :: tariffFields, f.addr / 0x10000 = 0x400A := by decide
    exact ((tollBlind_reg fun f hf e => ha (by rw [e, hne f hf]; exact List.mem_singleton_self _)).calTaken _ c).trans (hblk a ha)

end Sys2Proof.Machine

/-! SUPPORT for O33. Sessions: what START, STOP, a close and the record of a session leave of its register and of the Toll Book
(R422 to R425, R464, R465). -/

namespace Sys2Proof.Machine

/-! ### The registers of a session -/

theorem wr_sess {s : State} {m : Master} {p : Fin 8} (v : Word) (hv : s.vehicle = false) (h : s.takes m (Reg.TOL_SESS_CTRL p) = true) :
    s.wr m (Reg.TOL_SESS_CTRL p) v = s.wrSess p v.toNat := by
  have hblock : Reg.TOL_SESS_CTRL p / 0x10000 = 0x400A := by simp only [Reg.TOL_SESS_CTRL]; omega
  have hplace : 0x100 ≤ Reg.TOL_SESS_CTRL p % 0x10000 ∧ Reg.TOL_SESS_CTRL p % 0x10000 < 0x200 ∧ Reg.TOL_SESS_CTRL p % 0x10000 % 0x20 = 0 := by
    simp only [Reg.TOL_SESS_CTRL]; omega
  have hindex : (Reg.TOL_SESS_CTRL p % 0x10000 - 0x100) / 0x20 = p := by simp only [Reg.TOL_SESS_CTRL]; omega
  have hne {a : Nat} (ha : a % 0x10000 < 0x100 ∨ 0x200 ≤ a % 0x10000) : Reg.TOL_SESS_CTRL p ≠ a := fun e => by
    rw [e] at hplace
    omega
  rw [wr_tol v h hblock]
  refine (if_neg (by simp [hv])).trans ?_
  refine (if_neg (hne (by decide))).trans ((if_neg (hne (by decide))).trans ((if_neg (hne (by decide))).trans ((if_neg (hne (by decide))).trans ?_)))
  exact (if_pos hplace).trans (by rw [hindex])

/-- STATE and STOP share no bit with each other or with RECORD. -/
theorem sessCtrl_apart (p : Nat) : (Fld.TOL_SESS_CTRL_STATE p).apart (Fld.TOL_SESS_CTRL_STOP p) = true ∧
    (Fld.TOL_SESS_CTRL_STOP p).apart (Fld.TOL_SESS_CTRL_STATE p) = true ∧
    (Fld.TOL_SESS_CTRL_RECORD p).apart (Fld.TOL_SESS_CTRL_STATE p) = true ∧
    (Fld.TOL_SESS_CTRL_RECORD p).apart (Fld.TOL_SESS_CTRL_STOP p) = true := by
  simp [FieldRef.apart, Fld.TOL_SESS_CTRL_STATE, Fld.TOL_SESS_CTRL_STOP, Fld.TOL_SESS_CTRL_RECORD]

theorem get_sessState (s : State) (p : Nat) {v : Nat} (h : v < 4) :
    (s.put (Fld.TOL_SESS_CTRL_STATE p) v).get (Fld.TOL_SESS_CTRL_STATE p) = v :=
  (get_put_same s _ v (by simp [Fld.TOL_SESS_CTRL_STATE])).trans (Nat.mod_eq_of_lt h)

/-! ### The session area and the header -/

/-- The session area is all that its storing changes. -/
theorem storeSess_eq (s : State) (p : Nat) : ∃ nv, s.storeSess p = s.modBook (fun b => { b with sessNv := nv }) := by
  unfold State.storeSess
  dsimp only
  split
  · exact ⟨s.tol.book.sessNv, rfl⟩
  · exact ⟨updAt s.tol.book.sessNv p (fun _ => s.sess p), rfl⟩

@[simp] theorem reg_storeSess (s : State) (p a : Nat) : (s.storeSess p).reg a = s.reg a := by
  obtain ⟨nv, e⟩ := storeSess_eq s p
  rw [e, reg_modBook]

@[simp] theorem get_storeSess (s : State) (p : Nat) (g : FieldRef) : (s.storeSess p).get g = s.get g := get_of_reg (reg_storeSess s p _)

@[simp] theorem bit_storeSess (s : State) (p : Nat) (g : FieldRef) : (s.storeSess p).bit g = s.bit g := bit_of_reg (reg_storeSess s p _)

/-- What the records and the sessions change of the Toll core: header, session registers, and records to sign. -/
def Toll.ledger (t : Toll) : Option BookHdr × List Sess × List TollRec := (t.book.hdr, t.book.sess, t.toSign)

theorem storeSess_ledger (s : State) (p : Nat) : (s.storeSess p).tol.ledger = s.tol.ledger := by
  obtain ⟨nv, e⟩ := storeSess_eq s p
  rw [e, tol_modBook]
  rfl

/-- A session of another ledger that is the same one. -/
theorem sess_of_ledger {s t : State} (h : t.tol.ledger = s.tol.ledger) (p : Nat) : t.sess p = s.sess p :=
  congrArg (fun x : Option BookHdr × List Sess × List TollRec => nth ({} : Sess) x.2.1 p) h

theorem toSign_of_ledger {s t : State} (h : t.tol.ledger = s.tol.ledger) : t.tol.toSign = s.tol.toSign := congrArg (fun x => x.2.2) h

theorem bookHdr_of_ledger {s t : State} (h : t.tol.ledger = s.tol.ledger) : t.bookHdr = s.bookHdr := congrArg (fun x => x.1.getD {}) h

theorem modHdr_tol (s : State) (f : BookHdr → BookHdr) :
    (s.modHdr f).tol = { s.tol with book := { s.tol.book with hdr := s.tol.book.hdr.map f } } := by
  rw [State.modHdr, tol_syncBook, tol_modBook]

theorem sess_modSess_same {s : State} {p : Nat} (f : Sess → Sess) (h : p < s.tol.book.sess.length) : (s.modSess p f).sess p = f (s.sess p) :=
  nth_updAt_same _ f h

/-- What a change of the header shows (TOL_LOGSTAT, TOL_SAVESEQ). -/
theorem get_modHdr (s : State) (f : BookHdr → BookHdr) {g : FieldRef} (h : ∀ x ∈ tariffFields, x.apart g = true) :
    (s.modHdr f).get g = s.get g :=
  ((tollBlind_get (k := Toll.standing) h).syncBook _).trans (get_modBook _ _ _)

theorem modHdr_block (s : State) (f : BookHdr → BookHdr) : SameBlocks s (s.modHdr f) [0x400A] := fun _ ha =>
  (((blind_otherBlock ha).boundaries (k := Toll.clock)).tariffs.syncBook _).trans (reg_modBook _ _ _)

theorem tariffFields_sess (p : Fin 8) : ∀ x ∈ tariffFields, x.apart (Fld.TOL_SESS_CTRL_STATE p) = true ∧
    x.apart (Fld.TOL_SESS_CTRL_STOP p) = true := by
  revert p; decide

/-! ### Reconciliation (R537) -/

/-- Whether the vehicle is asked depends on the image, the links, and the links' registers. -/
theorem reconLink_congr {s t : State} (hi : t.img = s.img) (hl : t.vlk = s.vlk) (hr : SameBlocks s t [0x400A]) (p : Nat) :
    t.reconLink p = s.reconLink p := by
  have hcfg (o : Nat) : t.cfgB 4 o = s.cfgB 4 o := by rw [State.cfgB, State.cfgB, hi]
  have hlink : t.outletLink p = s.outletLink p := by simp only [State.outletLink, State.vlUse, State.vlOutlet, hcfg]
  have hbits (n : Nat) : t.bit (Fld.VLK_L_SESS_PEER_FM n) = s.bit (Fld.VLK_L_SESS_PEER_FM n) ∧
      t.bit (Fld.VLK_L_CTRL_RECON n) = s.bit (Fld.VLK_L_CTRL_RECON n) := by
    constructor <;> refine bit_of_reg (hr _ ?_)
    · simp only [Fld.VLK_L_SESS_PEER_FM, Reg.VLK_L_SESS, List.mem_singleton]; omega
    · simp only [Fld.VLK_L_CTRL_RECON, Reg.VLK_L_CTRL, List.mem_singleton]; omega
  unfold State.reconLink
  rw [hlink]
  cases s.outletLink p with
  | none => rfl
  | some n =>
    simp only [State.vlUse, hcfg, hbits, State.vl, hl]
    rfl

/-- Without reconciliation a record that is due is formed. -/
theorem dueRecord_alone {s : State} {p : Nat} (h : s.reconLink p = none) (typ : Nat) : s.dueRecord p typ = s.formRecord p typ false := by
  rw [State.dueRecord, h]

/-! ### A record (R463 to R465) -/

/-- The state with another place in the free values. -/
def State.freeAt (s : State) (n : Nat) : State := { s with freeCtr := n }

theorem freeBytes_freeAt (s : State) (n : Nat) : (s.freeBytes n).2 = s.freeAt (s.freeCtr + 1) := (rfl)

theorem freeAt_freeAt (s : State) (m n : Nat) : (s.freeAt m).freeAt n = s.freeAt n := (rfl)

/-- The items of the links without a reply take free values alone. -/
theorem linkItems_state (s : State) (p : Nat) : ∃ n, (s.linkItems p false).2 = s.freeAt n := by
  unfold State.linkItems
  split
  · exact ⟨s.freeCtr, rfl⟩
  · extract_lets proto x l rec_ dI dE off tol known mis b rstat u
    split
    · exact ⟨s.freeCtr, rfl⟩
    · have hk : known = false := by simp [known]
      have hu : u = s := if_neg (by simp [mis, hk])
      simp only [hk, hu, Bool.and_false, Bool.false_eq_true, if_false, freeBytes_freeAt, freeAt_freeAt]
      split <;> exact ⟨_, rfl⟩

/-- The number of the next record. -/
def State.nextRec (s : State) : Nat := (s.bookHdr.recSeq + 1) % 2 ^ 32

/-- The header counts the record. -/
def State.numbered (s : State) : State := s.modHdr (fun h => { h with recSeq := s.nextRec })

/-- What a session register keeps of a record formed at a second. -/
def Sess.recorded (x : Sess) (now typ seq : Nat) (body : List Byte) : Sess :=
  { x with emitted := x.emitted + 1, lastRec := now
           endSeq := if typ = 1 then seq else x.endSeq, endRec := if typ = 1 then body else x.endRec }

/-- A record is kept in the session register. -/
def State.recordKept (s : State) (p typ seq : Nat) (body : List Byte) : State :=
  s.modSess p (fun x => x.recorded s.billSec typ seq body)

/-- The session area takes the register with an end record; any other record ends its request. -/
def State.recordEnded (s : State) (p typ : Nat) : State := if typ = 1 then s.storeSess p else s.putB (Fld.TOL_SESS_CTRL_RECORD p) false

/-- A record is numbered, kept, ended, and goes to Pylon. -/
theorem formRecord_eq (s : State) (p typ : Nat) : ∃ n body, s.formRecord p typ false =
    (((s.numbered.freeAt n).recordKept p typ s.nextRec body).recordEnded p typ).toPylon
      { typ := typ, seq := s.nextRec, point := p, body := body } := by
  obtain ⟨n, hn⟩ := linkItems_state s.numbered p
  have hform : ∃ body, s.formRecord p typ false = (((s.numbered.linkItems p false).2.recordKept p typ s.nextRec body).recordEnded p typ).toPylon
      { typ := typ, seq := s.nextRec, point := p, body := body } := ⟨_, rfl⟩
  rw [hn] at hform
  exact ⟨n, hform⟩

@[simp] theorem get_freeAt (s : State) (n : Nat) (g : FieldRef) : (s.freeAt n).get g = s.get g := (rfl)

@[simp] theorem get_toPylon (s : State) (r : TollRec) (g : FieldRef) : (s.toPylon r).get g = s.get g := (rfl)

@[simp] theorem get_recordKept (s : State) (p typ seq : Nat) (body : List Byte) (g : FieldRef) :
    (s.recordKept p typ seq body).get g = s.get g := (rfl)

theorem recordEnded_ledger (s : State) (p typ : Nat) : (s.recordEnded p typ).tol.ledger = s.tol.ledger := by
  unfold State.recordEnded
  split
  · exact storeSess_ledger s p
  · rw [putB_tol]

theorem recordEnded_get (s : State) (p typ : Nat) {g : FieldRef} (h : (Fld.TOL_SESS_CTRL_RECORD p).apart g = true) :
    (s.recordEnded p typ).get g = s.get g := by
  unfold State.recordEnded
  split
  · exact get_storeSess s p g
  · exact get_put_apart s _ h

theorem numbered_tol (s : State) : s.numbered.tol =
    { s.tol with book := { s.tol.book with hdr := s.tol.book.hdr.map (fun h => { h with recSeq := s.nextRec }) } } := modHdr_tol s _

/-- The record of point p: its entry in the session register, and in the queue to Pylon under the next number (R464, R465). -/
theorem formRecord_shows {s : State} {p : Nat} (hp : p < s.tol.book.sess.length) (typ : Nat) :
    (∃ seq body, (s.formRecord p typ false).sess p = (s.sess p).recorded s.billSec typ seq body) ∧
    ∃ r, (s.formRecord p typ false).tol.toSign = s.tol.toSign ++ [r] ∧ r.typ = typ ∧ r.point = p ∧
      r.seq = (s.bookHdr.recSeq + 1) % 2 ^ 32 := by
  obtain ⟨n, body, hform⟩ := formRecord_eq s p typ
  have hbook : (s.numbered.freeAt n).tol.book.sess = s.tol.book.sess := by rw [State.freeAt, numbered_tol]
  have hsign : (s.numbered.freeAt n).tol.toSign = s.tol.toSign := by rw [State.freeAt, numbered_tol]
  have hbill : (s.numbered.freeAt n).billSec = s.billSec := by rw [State.billSec, State.billSec, State.freeAt, numbered_tol]
  have hsess : (s.numbered.freeAt n).sess p = s.sess p := congrArg (fun l => nth ({} : Sess) l p) hbook
  have hended := recordEnded_ledger ((s.numbered.freeAt n).recordKept p typ s.nextRec body) p typ
  rw [hform]
  refine ⟨⟨s.nextRec, body, ?_⟩, { typ := typ, seq := s.nextRec, point := p, body := body }, ?_, rfl, rfl, rfl⟩
  · refine (sess_of_ledger hended p).trans ((sess_modSess_same _ (by rw [hbook]; exact hp)).trans ?_)
    rw [hsess, hbill]
  · exact congrArg (· ++ [{ typ := typ, seq := s.nextRec, point := p, body := body }]) ((toSign_of_ledger hended).trans hsign)

theorem formRecord_get (s : State) (p typ : Nat) {g : FieldRef} (h : ∀ x ∈ tariffFields, x.apart g = true)
    (hr : (Fld.TOL_SESS_CTRL_RECORD p).apart g = true) : (s.formRecord p typ false).get g = s.get g := by
  obtain ⟨n, body, hform⟩ := formRecord_eq s p typ
  rw [hform, get_toPylon, recordEnded_get _ p typ hr, get_recordKept, get_freeAt]
  exact get_modHdr s _ h

/-- An intermediate record ends its request. -/
theorem formRecord_request (s : State) (p : Nat) : (s.formRecord p 2 false).bit (Fld.TOL_SESS_CTRL_RECORD p) = false := by
  obtain ⟨n, body, hform⟩ := formRecord_eq s p 2
  rw [hform, State.bit, get_toPylon]
  exact bit_putB_same _ _ _ (by simp [Fld.TOL_SESS_CTRL_RECORD]) (by simp [Fld.TOL_SESS_CTRL_RECORD])

/-! ### START (R423) -/

/-- The register of a session that starts under a number. -/
def State.newSess (s : State) (p id : Nat) : Sess :=
  { id := id, ext := (List.range 4).map (fun w => s.get (Fld.TOL_SESS_EXT_ID p w)), startT := s.billSec
    flags := 1 + (if s.tState ≠ 2 ∨ s.tol.calBad then 2 else 0) + (if s.bit (Fld.CSN_DC_STAT_TSUB p) then 32 else 0) +
      (if s.tol.belowHwm then 2048 else 0)
    startImp := mwh (s.dcPt p).imp, startExp := mwh (s.dcPt p).exp, startLoss := mwh (s.dcPt p).loss, calId := leAt s.tol.book.calA 8 4 }

theorem newSess_open (s : State) (p id : Nat) : sessOpen (s.newSess p id) = true := by
  unfold sessOpen State.newSess
  dsimp only
  split_ifs <;> decide

/-- The header with the number of a session that starts, and the event of the sessions. -/
def State.sessNumbered (s : State) (id : Nat) : State := (s.putB Fld.TOL_TEVT_SESSION true).modHdr (fun h => { h with sessSeq := id })

/-- A session has started, before the vehicle is asked. -/
def State.sessStarted (s : State) (p id : Nat) : State :=
  (((s.sessNumbered id).modSess p (fun _ => (s.sessNumbered id).newSess p id)).put (Fld.TOL_SESS_CTRL_STATE p) 1).storeSess p

/-- The vehicle is asked for its counts at the start, where reconciliation runs (R537). -/
def State.sessAsked (s : State) (p : Nat) : State :=
  match s.reconLink p with
  | some n => (s.modVl n (fun l => { l with startOk := false, nowOk := false, vGap := false })).countReq n p 0
  | none => s

/-- The state with other links. -/
def State.linksAs (s : State) (l : List VLink) : State := { s with vlk := l }

theorem sessAsked_state (s : State) (p : Nat) : ∃ l, s.sessAsked p = s.linksAs l := by
  unfold State.sessAsked
  split
  · exact ⟨_, rfl⟩
  · exact ⟨s.vlk, rfl⟩

theorem startSess_eq (s : State) (p : Nat) : s.startSess p =
    if !(s.putB Fld.TOL_TEVT_SESSION true).dcOn p || (s.putB Fld.TOL_TEVT_SESSION true).get (Fld.TOL_SESS_CTRL_STATE p) != 0 ||
      (s.putB Fld.TOL_TEVT_SESSION true).tol.book.hdr.isNone then
      (s.putB Fld.TOL_TEVT_SESSION true).putB (Fld.TOL_SESS_CTRL_REFUSED p) true
    else (s.sessStarted p (((s.putB Fld.TOL_TEVT_SESSION true).bookHdr.sessSeq + 1) % 2 ^ 32)).sessAsked p := (rfl)

/-- The event of the sessions bears on nothing that START asks. -/
theorem sessionEvent_keeps (s : State) (p : Nat) : (s.putB Fld.TOL_TEVT_SESSION true).dcOn p = s.dcOn p ∧
    (s.putB Fld.TOL_TEVT_SESSION true).get (Fld.TOL_SESS_CTRL_STATE p) = s.get (Fld.TOL_SESS_CTRL_STATE p) ∧
    (s.putB Fld.TOL_TEVT_SESSION true).tol.book.hdr = s.tol.book.hdr := by
  refine ⟨bit_of_reg (reg_put_ne s _ ?_), get_put_ne s _ ?_, by rw [putB_tol]⟩
  · simp only [Fld.CSN_DC_CFG_EN, Reg.CSN_DC_CFG, Fld.TOL_TEVT_SESSION, Reg.TOL_TEVT]; omega
  · simp only [Fld.TOL_SESS_CTRL_STATE, Reg.TOL_SESS_CTRL, Fld.TOL_TEVT_SESSION, Reg.TOL_TEVT]; omega

/-- START on a point that is off, busy, or without a Toll Book. -/
theorem startSess_refused {s : State} {p : Nat}
    (h : s.dcOn p = false ∨ s.get (Fld.TOL_SESS_CTRL_STATE p) ≠ 0 ∨ s.tol.book.hdr = none) :
    s.startSess p = (s.putB Fld.TOL_TEVT_SESSION true).putB (Fld.TOL_SESS_CTRL_REFUSED p) true := by
  obtain ⟨hon, hst, hhdr⟩ := sessionEvent_keeps s p
  rw [startSess_eq]
  refine if_pos ?_
  rw [hon, hst, hhdr]
  rcases h with h | h | h <;> simp [h]

theorem startRefused_shows (s : State) (p : Nat) :
    let t := (s.putB Fld.TOL_TEVT_SESSION true).putB (Fld.TOL_SESS_CTRL_REFUSED p) true
    t.bit (Fld.TOL_SESS_CTRL_REFUSED p) = true ∧ t.sess p = s.sess p ∧ SameRegs s t [Reg.TOL_SESS_CTRL p, Reg.TOL_TEVT] := by
  intro t
  refine ⟨bit_putB_same _ _ _ (by simp [Fld.TOL_SESS_CTRL_REFUSED]) (by simp [Fld.TOL_SESS_CTRL_REFUSED]), ?_, fun a ha => ?_⟩
  · rw [State.sess, State.sess, putB_tol, putB_tol]
  · simp only [List.mem_cons, List.not_mem_nil, or_false, not_or] at ha
    obtain ⟨hctrl, hevt⟩ := ha
    exact (reg_put_ne _ _ hctrl).trans (reg_put_ne s _ hevt)

/-- START on an enabled idle point: beyond the session's start only links change. -/
theorem startSess_starts {s : State} {p : Nat} {h : BookHdr} (hon : s.dcOn p = true) (hst : s.get (Fld.TOL_SESS_CTRL_STATE p) = 0)
    (hh : s.tol.book.hdr = some h) : ∃ l, s.startSess p = (s.sessStarted p ((h.sessSeq + 1) % 2 ^ 32)).linksAs l := by
  obtain ⟨hon', hst', hhdr⟩ := sessionEvent_keeps s p
  have hid : (s.putB Fld.TOL_TEVT_SESSION true).bookHdr.sessSeq = h.sessSeq := by rw [State.bookHdr, hhdr, hh]; rfl
  rw [startSess_eq, if_neg (by rw [hon', hst', hhdr]; simp [hon, hst, hh]), hid]
  exact sessAsked_state _ p

theorem sessNumbered_tol (s : State) (id : Nat) : (s.sessNumbered id).tol =
    { s.tol with book := { s.tol.book with hdr := s.tol.book.hdr.map (fun h => { h with sessSeq := id }) } } := by
  rw [State.sessNumbered, modHdr_tol, putB_tol]

theorem sessStarted_shows {s : State} {p : Nat} (hp : p < s.tol.book.sess.length) {h : BookHdr} (hh : s.tol.book.hdr = some h) (id : Nat) :
    (s.sessStarted p id).get (Fld.TOL_SESS_CTRL_STATE p) = 1 ∧ (s.sessStarted p id).sess p = (s.sessNumbered id).newSess p id ∧
    (s.sessStarted p id).bookHdr.sessSeq = id := by
  have hstored : (s.sessStarted p id).tol.ledger = ((s.sessNumbered id).modSess p (fun _ => (s.sessNumbered id).newSess p id)).tol.ledger :=
    (storeSess_ledger _ p).trans (by rw [put_tol])
  have hlen : p < (s.sessNumbered id).tol.book.sess.length := by rw [sessNumbered_tol]; exact hp
  refine ⟨(get_storeSess _ p _).trans (get_sessState _ p (by decide)), (sess_of_ledger hstored p).trans (sess_modSess_same _ hlen), ?_⟩
  have hhdr : (s.sessNumbered id).tol.book.hdr = some { h with sessSeq := id } := by rw [sessNumbered_tol, hh]; rfl
  rw [bookHdr_of_ledger hstored]
  exact congrArg (fun x : Option BookHdr => (x.getD {}).sessSeq) hhdr

theorem sessStarted_block (s : State) (p : Fin 8) (id : Nat) : SameBlocks s (s.sessStarted p id) [0x400A] := fun a ha => by
  have hctrl : a ≠ Reg.TOL_SESS_CTRL p := fun e => ha (List.mem_singleton.2 (by rw [e, Reg.TOL_SESS_CTRL]; omega))
  have hevt : a ≠ Reg.TOL_TEVT := fun e => ha (by rw [e]; decide)
  refine (reg_storeSess _ p a).trans ((reg_put_ne _ _ hctrl).trans ((reg_modBook _ _ a).trans ?_))
  exact (modHdr_block _ _ a ha).trans (reg_put_ne s _ hevt)

/-- The register of a session that starts, in the state before. -/
theorem newSess_counts (s : State) (p id : Nat) : ((s.sessNumbered id).newSess p id).startImp = mwh (s.dcPt p).imp ∧
    ((s.sessNumbered id).newSess p id).startExp = mwh (s.dcPt p).exp ∧ ((s.sessNumbered id).newSess p id).startT = s.billSec := by
  have hdc : (s.sessNumbered id).dcPt p = s.dcPt p := by rw [State.dcPt, State.dcPt, sessNumbered_tol]
  have hbill : (s.sessNumbered id).billSec = s.billSec := by rw [State.billSec, State.billSec, sessNumbered_tol]
  exact ⟨congrArg (fun d : DcPt => mwh d.imp) hdc, congrArg (fun d : DcPt => mwh d.exp) hdc, hbill⟩

/-- A session started, whatever its links are asked. -/
theorem start_shows {s : State} {p : Fin 8} (hp : p.val < s.tol.book.sess.length) {h : BookHdr} (hh : s.tol.book.hdr = some h) (id : Nat)
    (l : List VLink) :
    let t := (s.sessStarted p id).linksAs l
    t.get (Fld.TOL_SESS_CTRL_STATE p) = 1 ∧ (t.sess p).id = id ∧ sessOpen (t.sess p) = true ∧ (t.sess p).startImp = mwh (s.dcPt p).imp ∧
    (t.sess p).startExp = mwh (s.dcPt p).exp ∧ (t.sess p).startT = s.billSec ∧ t.bookHdr.sessSeq = id ∧ SameBlocks s t [0x400A] := by
  intro t
  obtain ⟨hst, hsess, hseq⟩ := sessStarted_shows hp hh id
  obtain ⟨himp, hexp, hstart⟩ := newSess_counts s p id
  have hsess' : t.sess p = (s.sessNumbered id).newSess p id := hsess
  rw [hsess']
  exact ⟨hst, rfl, newSess_open _ p id, himp, hexp, hstart, hseq, sessStarted_block s p id⟩

/-! ### The write of TOL_SESSp_CTRL (R423) -/

/-- Bits 1 to 3 of the words that ask for a start, a stop and a record. -/
theorem request_bits : (Nat.testBit 1 1 = false ∧ Nat.testBit 1 2 = false ∧ Nat.testBit 1 3 = false) ∧
    (Nat.testBit 2 1 = true ∧ Nat.testBit 2 2 = false ∧ Nat.testBit 2 3 = false) ∧
    Nat.testBit 4 1 = false ∧ Nat.testBit 4 2 = true ∧ Nat.testBit 4 3 = false := by decide

section
variable {s : State} (hv : s.vehicle = false) (p : Nat)
include hv

theorem wrSess_start : s.wrSess p 1 = s.startSess p := by
  simp [State.wrSess, hv, request_bits]

theorem wrSess_stop (ho : sessOpen (s.sess p) = true) :
    s.wrSess p 2 = ((s.putB (Fld.TOL_SESS_CTRL_STOP p) true).put (Fld.TOL_SESS_CTRL_STATE p) 2).storeSess p := by
  simp [State.wrSess, hv, ho, request_bits]

theorem wrSess_stop_closed (ho : sessOpen (s.sess p) = false) : s.wrSess p 2 = s := by
  simp [State.wrSess, hv, ho, request_bits]

theorem wrSess_record (ho : sessOpen (s.sess p) = true) :
    s.wrSess p 4 = (s.putB (Fld.TOL_SESS_CTRL_RECORD p) true).dueRecord p 2 := by
  simp [State.wrSess, hv, ho, request_bits]

end

/-- A request for a record bears on no question of reconciliation. -/
theorem recordAsked_reconLink (s : State) (p : Fin 8) : (s.putB (Fld.TOL_SESS_CTRL_RECORD p) true).reconLink p = s.reconLink p := by
  refine reconLink_congr (s := s) (putB_img _ _ _) (putB_vlk _ _ _) (fun a ha => reg_put_ne s _ fun e => ha ?_) p
  rw [e, List.mem_singleton]
  simp only [Fld.TOL_SESS_CTRL_RECORD, Reg.TOL_SESS_CTRL]
  omega

/-- A record asked for is formed (R423, R464). -/
theorem request_shows {s : State} {p : Fin 8} (hp : p.val < s.tol.book.sess.length) :
    let t := (s.putB (Fld.TOL_SESS_CTRL_RECORD p) true).formRecord p 2 false
    t.bit (Fld.TOL_SESS_CTRL_RECORD p) = false ∧ (t.sess p).emitted = (s.sess p).emitted + 1 ∧
    ∃ r, t.tol.toSign = s.tol.toSign ++ [r] ∧ r.typ = 2 ∧ r.point = p.val ∧ r.seq = (s.bookHdr.recSeq + 1) % 2 ^ 32 := by
  intro t
  have hkept : (s.putB (Fld.TOL_SESS_CTRL_RECORD p) true).tol.ledger = s.tol.ledger := by rw [putB_tol]
  obtain ⟨⟨seq, body, hsess⟩, hqueue⟩ := formRecord_shows (s := s.putB (Fld.TOL_SESS_CTRL_RECORD p) true) (by rw [putB_tol]; exact hp) 2
  rw [sess_of_ledger hkept] at hsess
  rw [toSign_of_ledger hkept, bookHdr_of_ledger hkept] at hqueue
  exact ⟨formRecord_request _ p, congrArg Sess.emitted hsess, hqueue⟩

/-- STOP marks the session closing, and leaves its register. -/
theorem stop_shows (s : State) (p : Nat) :
    let t := ((s.putB (Fld.TOL_SESS_CTRL_STOP p) true).put (Fld.TOL_SESS_CTRL_STATE p) 2).storeSess p
    t.bit (Fld.TOL_SESS_CTRL_STOP p) = true ∧ t.get (Fld.TOL_SESS_CTRL_STATE p) = 2 ∧ t.sess p = s.sess p ∧
    SameRegs s t [Reg.TOL_SESS_CTRL p] := by
  intro t
  have hledger : t.tol.ledger = s.tol.ledger := (storeSess_ledger _ p).trans (by rw [put_tol, putB_tol])
  refine ⟨?_, (get_storeSess _ p _).trans (get_sessState _ p (by decide)), sess_of_ledger hledger p, fun a ha => ?_⟩
  · refine (bit_storeSess _ p _).trans ((bit_put_apart _ _ (sessCtrl_apart p).1).trans ?_)
    exact bit_putB_same _ _ _ (by simp [Fld.TOL_SESS_CTRL_STOP]) (by simp [Fld.TOL_SESS_CTRL_STOP])
  · rw [List.mem_singleton] at ha
    exact (reg_storeSess _ p a).trans ((reg_put_ne _ _ ha).trans (reg_put_ne s _ ha))

/-! ### The close of a session (R423, R425) -/

/-- A session register closed at a time, with further flags. -/
def Sess.closed (x : Sess) (t flags : Nat) : Sess := { x with flags := mset x.flags 0 false ||| flags, endT := t }

theorem endSess_eq (s : State) (p t flags : Nat) : s.endSess p t flags =
    ((((s.modSess p (fun x => x.closed t flags)).put (Fld.TOL_SESS_CTRL_STATE p) 2).putB (Fld.TOL_SESS_CTRL_STOP p) false).putB
      Fld.TOL_TEVT_SESSION true).storeSess p := (rfl)

theorem endSess_ledger (s : State) (p t flags : Nat) : (s.endSess p t flags).tol.ledger = (s.modSess p (fun x => x.closed t flags)).tol.ledger := by
  rw [endSess_eq, storeSess_ledger, putB_tol, putB_tol, put_tol]

theorem storeSess_aside (s : State) (p : Nat) : (s.storeSess p).img = s.img ∧ (s.storeSess p).vlk = s.vlk := by
  obtain ⟨nv, e⟩ := storeSess_eq s p
  rw [e]
  exact ⟨rfl, rfl⟩

theorem endSess_block (s : State) (p : Fin 8) (t flags : Nat) : SameBlocks s (s.endSess p t flags) [0x400A] := fun a ha => by
  have hctrl : a ≠ Reg.TOL_SESS_CTRL p := fun e => ha (List.mem_singleton.2 (by rw [e, Reg.TOL_SESS_CTRL]; omega))
  have hevt : a ≠ Reg.TOL_TEVT := fun e => ha (by rw [e]; decide)
  rw [endSess_eq, reg_storeSess]
  exact (reg_put_ne _ _ hevt).trans ((reg_put_ne _ _ hctrl).trans ((reg_put_ne _ _ hctrl).trans (reg_modBook _ _ a)))

/-- A close bears on no question of reconciliation. -/
theorem endSess_reconLink (s : State) (p : Fin 8) (t flags : Nat) (q : Nat) : (s.endSess p t flags).reconLink q = s.reconLink q := by
  obtain ⟨hi, hl⟩ := storeSess_aside ((((s.modSess p (fun x => x.closed t flags)).put (Fld.TOL_SESS_CTRL_STATE p) 2).putB
    (Fld.TOL_SESS_CTRL_STOP p) false).putB Fld.TOL_TEVT_SESSION true) p
  exact reconLink_congr (s := s) (t := s.endSess p t flags) hi hl (endSess_block s p t flags) q

theorem endSess_state (s : State) (p : Fin 8) (t flags : Nat) : (s.endSess p t flags).get (Fld.TOL_SESS_CTRL_STATE p) = 2 ∧
    (s.endSess p t flags).get (Fld.TOL_SESS_CTRL_STOP p) = 0 := by
  have hevt : (Reg.TOL_SESS_CTRL p) ≠ Reg.TOL_TEVT := by simp only [Reg.TOL_SESS_CTRL, Reg.TOL_TEVT]; omega
  rw [endSess_eq, get_storeSess, get_storeSess]
  refine ⟨(get_put_ne _ _ hevt).trans ((get_put_apart _ _ (sessCtrl_apart p).2.1).trans (get_sessState _ p (by decide))), ?_⟩
  exact (get_put_ne _ _ hevt).trans ((get_put_same _ _ _ (by simp [Fld.TOL_SESS_CTRL_STOP])).trans (Nat.zero_mod _))

theorem endSess_sess {s : State} {p : Nat} (hp : p < s.tol.book.sess.length) (t flags : Nat) :
    (s.endSess p t flags).sess p = (s.sess p).closed t flags := (sess_of_ledger (endSess_ledger s p t flags) p).trans (sess_modSess_same _ hp)

theorem endSess_length (s : State) (p t flags : Nat) : (s.endSess p t flags).tol.book.sess.length = s.tol.book.sess.length :=
  (congrArg (fun x : Option BookHdr × List Sess × List TollRec => x.2.1.length) (endSess_ledger s p t flags)).trans (length_updAt ..)

theorem closed_not_open (x : Sess) (t : Nat) : sessOpen (x.closed t 0) = false := by
  rw [sessOpen, Sess.closed, Nat.or_zero, testBit_mset, if_pos rfl]

/-- The close of a session with its end record (R423, R464). -/
theorem close_shows {s : State} {p : Fin 8} (hp : p.val < s.tol.book.sess.length) (hr : s.reconLink p = none) (now : Nat) :
    let t := (s.endSess p now 0).dueRecord p 1
    t.get (Fld.TOL_SESS_CTRL_STATE p) = 2 ∧ t.bit (Fld.TOL_SESS_CTRL_STOP p) = false ∧ sessOpen (t.sess p) = false ∧ (t.sess p).endT = now ∧
    ∃ r, t.tol.toSign = s.tol.toSign ++ [r] ∧ r.typ = 1 ∧ r.point = p.val ∧ r.seq = (s.bookHdr.recSeq + 1) % 2 ^ 32 := by
  intro t
  have hform : t = (s.endSess p now 0).formRecord p 1 false := dueRecord_alone ((endSess_reconLink s p now 0 p).trans hr) 1
  obtain ⟨⟨seq, body, hsess⟩, r, hsign, hrec⟩ := formRecord_shows (s := s.endSess p now 0) (by rw [endSess_length]; exact hp) 1
  obtain ⟨hst, hstop⟩ := endSess_state s p now 0
  have hapart := tariffFields_sess p
  have hledger := endSess_ledger s p now 0
  rw [endSess_sess hp] at hsess
  rw [toSign_of_ledger hledger] at hsign
  rw [bookHdr_of_ledger hledger] at hrec
  rw [hform]
  refine ⟨?_, ?_, ?_, ?_, r, hsign, hrec⟩
  · exact (formRecord_get _ p 1 (fun x hx => (hapart x hx).1) (sessCtrl_apart p).2.2.1).trans hst
  · exact congrArg (· != 0) ((formRecord_get _ p 1 (fun x hx => (hapart x hx).2) (sessCtrl_apart p).2.2.2).trans hstop)
  · rw [hsess]
    exact closed_not_open _ now
  · rw [hsess]
    rfl

/-! ### The obligation -/

/-- Settles O33: the write of CALCTL and the end of a check by their cases, the sessions by what each step leaves in the ledger and shows. -/
theorem calendarsAndSessionsAct : Obligations.CalendarsAndSessionsAct := by
  unfold Obligations.CalendarsAndSessionsAct
  intro s hv
  have mem {i : Instr} {t : State} (h : exec i s = .next t) := memoryChangesOnlyByItsWriters i s t h
  refine ⟨fun m v ht hw => ⟨fun hask hkey => ?_, fun hask hkey => ?_, fun hask hkey => ?_⟩, fun hb => ?_, fun hb r hr => ?_,
    fun p hp => ⟨fun m v ht => ⟨fun h1 hno => ?_, fun h1 hon hst h hh => ?_, fun h2 ho => ?_, fun h2 ho => ?_, fun h4 ho hrec => ?_⟩,
      fun hstop ho hrec => ?_, fun hno => ?_, fun hrun hrs ho hrec => ?_, fun hno => ?_⟩⟩
  · have hkey' : v.toNat / 65536 % 65536 ≠ 0x7A2C := by have := v.isLt; omega
    have hwr := (wr_calctl v hv ht).trans (wrCalctl_badKey s m hw hask hkey')
    exact ⟨congrArg Host.Outcome.next hwr, congrArg Host.Outcome.next hwr⟩
  · exact congrArg Host.Outcome.next ((wr_calctl v hv ht).trans (wrCalctl_load s m hw hask (by omega)))
  · have hi : exec (.calendarCancel m v) s = .next s.calCancelled :=
      congrArg Host.Outcome.next ((wr_calctl v hv ht).trans (wrCalctl_cancel s m hw hask (by omega)))
    obtain ⟨hP, hA, hseq, hblk⟩ := calCancelled_shows hv
    exact ⟨_, hi, hP, hA, hseq, hblk, mem hi⟩
  · exact congrArg Host.Outcome.next (if_pos (by simp [hb]))
  · have hi := exec_calendarCheckDone hb
    have hr' : calReason s.calBuf true s.calFloor = r := hr
    have hlt : r < 16 := hr' ▸ calReason_lt _ _ _
    rw [hr'] at hi
    by_cases h0 : r = 0
    · rw [if_neg (not_not.2 h0)] at hi
      obtain ⟨hP, hd, hbusy, hreason, hload, hblk⟩ := calTaken_shows hv s.calBuf hlt
      exact ⟨_, hi, hbusy, hreason, hload, hblk, mem hi, fun _ => ⟨hP, hd⟩, fun h => absurd h0 h⟩
    · rw [if_pos h0] at hi
      obtain ⟨hbook, href, hbusy, hreason, hload, hblk⟩ := calRefused_shows s hlt
      exact ⟨_, hi, hbusy, hreason, hload, hblk, mem hi, fun h => absurd h h0, fun _ => ⟨hbook, href⟩⟩
  · subst h1
    have hi : exec (.sessionStart m p 1) s = .next ((s.putB Fld.TOL_TEVT_SESSION true).putB (Fld.TOL_SESS_CTRL_REFUSED p) true) :=
      congrArg Host.Outcome.next ((wr_sess 1 hv ht).trans ((wrSess_start hv p).trans (startSess_refused hno)))
    obtain ⟨href, hsess, hregs⟩ := startRefused_shows s p
    exact ⟨_, hi, href, hsess, hregs, mem hi⟩
  · subst h1
    obtain ⟨l, hl⟩ := startSess_starts hon hst hh
    have hi : exec (.sessionStart m p 1) s = .next ((s.sessStarted p ((h.sessSeq + 1) % 2 ^ 32)).linksAs l) :=
      congrArg Host.Outcome.next ((wr_sess 1 hv ht).trans ((wrSess_start hv p).trans hl))
    obtain ⟨hst1, hid, hopen, himp, hexp, hstart, hseq, hblk⟩ := start_shows hp hh ((h.sessSeq + 1) % 2 ^ 32) l
    exact ⟨_, hi, hst1, hid, hopen, himp, hexp, hstart, hseq, hblk, mem hi⟩
  · subst h2
    have hi : exec (.sessionStop m p 2) s = .next (((s.putB (Fld.TOL_SESS_CTRL_STOP p) true).put (Fld.TOL_SESS_CTRL_STATE p) 2).storeSess p) :=
      congrArg Host.Outcome.next ((wr_sess 2 hv ht).trans (wrSess_stop hv p ho))
    obtain ⟨hstop, hst, hsess, hregs⟩ := stop_shows s p
    exact ⟨_, hi, hstop, hst, hsess, hregs, mem hi⟩
  · subst h2
    exact congrArg Host.Outcome.next ((wr_sess 2 hv ht).trans (wrSess_stop_closed hv p ho))
  · subst h4
    have hasked : (s.putB (Fld.TOL_SESS_CTRL_RECORD p) true).reconLink p = none :=
      (recordAsked_reconLink s p).trans hrec
    have hi : exec (.sessionRecordRequest m p 4) s = .next ((s.putB (Fld.TOL_SESS_CTRL_RECORD p) true).formRecord p 2 false) :=
      congrArg Host.Outcome.next ((wr_sess 4 hv ht).trans ((wrSess_record hv p ho).trans (dueRecord_alone hasked 2)))
    obtain ⟨hended, hemitted, hqueue⟩ := request_shows hp
    exact ⟨_, hi, hended, hemitted, mem hi, hqueue⟩
  · have hi : exec (.sessionClose p) s = .next ((s.endSess p s.billSec 0).dueRecord p 1) := congrArg Host.Outcome.next (if_pos (by simp [hstop, ho]))
    obtain ⟨hst, hstop', hclosed, hend, hqueue⟩ := close_shows hp hrec s.billSec
    exact ⟨_, hi, hst, hstop', hclosed, hend, mem hi, hqueue⟩
  · refine congrArg Host.Outcome.next (if_neg ?_)
    rcases hno with h | h <;> simp [h]
  · have hi : exec (.intermediateRecordTimer p) s = .next (s.formRecord p 2 false) :=
      congrArg Host.Outcome.next ((if_pos (by simp [hrun, hv, hrs, ho])).trans (dueRecord_alone hrec 2))
    obtain ⟨⟨seq, body, hsess⟩, r, hsign, htyp, hpoint, -⟩ := formRecord_shows hp 2
    exact ⟨_, hi, congrArg Sess.lastRec hsess, mem hi, r, hsign, htyp, hpoint⟩
  · refine congrArg Host.Outcome.next (if_neg ?_)
    rcases hno with h | h <;> simp [h]

end Sys2Proof.Machine

/-! SUPPORT for O50. What a loss of the supply leaves: the supply's own register, the channels and the store; and what its
return shows (R452, R698 to R703, R737). -/

namespace Sys2Proof.Machine

/-! ### The channels after a restart (R688, R704) -/

/-- An update that fixes every element leaves the list. -/
theorem updAt_eq_self {α : Type} {f : α → α} {l : List α} (h : ∀ x ∈ l, f x = x) (i : Nat) : updAt l i f = l := by
  induction l generalizing i with
  | nil => rfl
  | cons x t ih =>
    obtain ⟨hx, ht⟩ := List.forall_mem_cons.1 h
    cases i with
    | zero => exact congrArg (· :: t) hx
    | succ i => exact congrArg (x :: ·) (ih ht i)

/-- Settling drops samples, so it leaves channels that hold none. -/
theorem trsSettle1_chans {s : State} (h : ∀ c ∈ s.trs.chans, c.core = c) (n : Nat) : (s.trsSettle1 n).trs.chans = s.trs.chans := by
  unfold State.trsSettle1
  dsimp only
  split
  · rfl
  · exact updAt_eq_self h n

theorem trsShow_chans {s : State} (h : ∀ c ∈ s.trs.chans, c.core = c) : s.trsShow.trs.chans = s.trs.chans := by
  unfold State.trsShow
  refine forEach_invariant (P := fun t => t.trs.chans = s.trs.chans) (fun t n ht => ?_) _ (s := s) rfl
  have hset : ((t.putB (Fld.TRS_CH_STAT_HELD n) false).trsSettle1 n).trs.chans = s.trs.chans :=
    (trsSettle1_chans (s := t.putB (Fld.TRS_CH_STAT_HELD n) false) (fun c hc => h c (ht ▸ hc)) n).trans ht
  dsimp only
  split <;> exact hset

theorem newNonce_trs (s : State) : s.newNonce.trs = s.trs := forEach_keeps State.trs _ _ _ fun _ _ _ => rfl

theorem dropRequest_trs (s : State) : s.dropRequest.trs = s.trs := (rfl)

theorem restartRegs_trs (s : State) (shut : Bool) : (s.restartRegs shut).trs = s.trs := (rfl)

theorem restartUnits_chans (s : State) (prp : Parapet) (chans : List Channel) : (s.restartUnits prp chans).trs.chans = chans := (rfl)

theorem core_of_mem_trsOff {s : State} {c : Channel} (hc : c ∈ s.trsOff) : c.core = c := by
  obtain ⟨d, -, rfl⟩ := List.mem_map.1 hc
  rfl

/-- Without VIN a restart turns every channel off. -/
theorem restart_chans (s : State) : (s.restart false).trs.chans = s.trs.chans.map Channel.off := by
  simp only [State.restart, dropRequest_trs, newNonce_trs]
  rw [trsShow_chans] <;> simp only [restartRegs_trs, restartUnits_chans, Bool.false_eq_true, if_false]
  · rfl
  · exact fun _ => core_of_mem_trsOff

/-! ### The supply register after a restart (R704) -/

theorem restartRegs_supply (s : State) (shut : Bool) : (s.restartRegs shut).reg Reg.ABT_SUPPLY = s.reg Reg.ABT_SUPPLY := by
  simp only [State.restartRegs, State.putB]
  repeat rw [reg_put_ne _ _ (by decide)]
  exact reg_setReg_ne s _ (by decide)

theorem trsShow_supply (s : State) : s.trsShow.reg Reg.ABT_SUPPLY = s.reg Reg.ABT_SUPPLY := by
  refine forEach_keeps (fun t => t.reg Reg.ABT_SUPPLY) _ _ _ fun t n _ => ?_
  have hstat : Reg.ABT_SUPPLY ≠ Reg.TRS_CH_STAT n := by unfold Reg.ABT_SUPPLY Reg.TRS_CH_STAT; omega
  have hcur : Reg.ABT_SUPPLY ≠ Reg.TRS_CH_CUR n := by unfold Reg.ABT_SUPPLY Reg.TRS_CH_CUR; omega
  have hset : ((t.putB (Fld.TRS_CH_STAT_HELD n) false).trsSettle1 n).reg Reg.ABT_SUPPLY = t.reg Reg.ABT_SUPPLY :=
    (trsSettle1_reg _ hstat hcur).trans (reg_put_ne t _ hstat)
  dsimp only
  split
  · exact hset
  · exact (reg_put_ne _ _ hstat).trans hset

theorem newNonce_supply (s : State) : s.newNonce.reg Reg.ABT_SUPPLY = s.reg Reg.ABT_SUPPLY :=
  forEach_keeps (fun t => t.reg Reg.ABT_SUPPLY) _ _ _ fun t w _ =>
    reg_put_ne _ _ (by simp only [Reg.ABT_SUPPLY, Fld.PYL_NONCE_WORD, Reg.PYL_NONCE]; omega)

/-- The supply register lies in PD0 and survives a restart. -/
theorem restart_supply (s : State) (warm : Bool) : (s.restart warm).reg Reg.ABT_SUPPLY = s.reg Reg.ABT_SUPPLY := by
  have hpd0 : (isPd0 Reg.ABT_SUPPLY || isFuse Reg.ABT_SUPPLY) = true := by decide
  simp only [State.restart, dropRequest_reg, newNonce_supply, trsShow_supply, restartRegs_supply, restartUnits_reg, unload_reg,
    reg_keepRegs, hpd0, if_true]

/-! ### VIN fails (R702, R703) -/

/-- The supply of `s` is lost: nothing runs, and of what had power PD0 and the store are left. -/
def SupplyLost (s t : State) : Prop :=
  t.bit Fld.ABT_SUPPLY_VIN_OK = false ∧ t.load = {} ∧ t.img = [] ∧
    (∀ a, a / 0x10000 ∉ restartBlocks → t.reg a = (regReset a).toNat) ∧
    (∀ a, t.memB a = if a < 0x08004000 then s.memB a else 0) ∧ t.trs.chans = s.trs.chans.map Channel.off

theorem supplyLost_restart {s u : State} (hmem : u.mem = s.mem) (htrs : u.trs = s.trs) (hv : u.bit Fld.ABT_SUPPLY_VIN_OK = false) :
    SupplyLost s (u.restart false) := by
  have hk := restart_kept u false
  simp only [State.kept, Prod.mk.injEq] at hk
  obtain ⟨hmem', himg, -⟩ := hk
  refine ⟨?_, restart_load u false, himg, fun a ha => restart_reg u false ha, fun a => ?_, ?_⟩
  · exact (bit_of_reg (f := Fld.ABT_SUPPLY_VIN_OK) (restart_supply u false)).trans hv
  · show sget 0 (u.restart false).mem a = _
    rw [hmem', hmem, sget_filter_key 0 (fun k => decide (k < 0x08004000))]
    simp only [decide_eq_true_eq]
    rfl
  · rw [restart_chans, htrs]

theorem SupplyLost.modTol {s t : State} (h : SupplyLost s t) (f : Toll → Toll) : SupplyLost s (t.modTol f) := by
  obtain ⟨hvin, hload, himg, hreg, hmem, hchans⟩ := h
  exact ⟨hvin, hload, himg, hreg, hmem, hchans⟩

theorem SupplyLost.modPwr {s t : State} (h : SupplyLost s t) (f : Power → Power) : SupplyLost s (t.modPwr f) := by
  obtain ⟨hvin, hload, himg, hreg, hmem, hchans⟩ := h
  exact ⟨hvin, hload, himg, hreg, hmem, hchans⟩

theorem beginGasp_trs (s : State) (loss : Rat) : (s.beginGasp loss).trs = s.trs := by
  unfold State.beginGasp
  split <;> rfl

theorem loseSupply_trs (s : State) (assured : Bool) : (s.loseSupply assured).trs = s.trs := by
  unfold State.loseSupply
  dsimp only
  rw [beginGasp_trs]
  split <;> rfl

theorem loseSupply_mem (s : State) (assured : Bool) : (s.loseSupply assured).mem = s.mem :=
  congrArg Prod.fst (State.loseSupply_kept s assured)

theorem failVin_supplyLost {s : State} (hv : s.vinOk = true) (assured : Bool) : SupplyLost s (s.failVin assured) := by
  unfold State.failVin
  rw [if_neg (by simp [hv])]
  extract_lets u lg on w r
  obtain ⟨humem, hutrs⟩ : u.mem = s.mem ∧ u.trs = s.trs := by
    unfold u
    split
    · exact ⟨rfl, rfl⟩
    · exact ⟨loseSupply_mem s assured, loseSupply_trs s assured⟩
  have hw : w.bit Fld.ABT_SUPPLY_VIN_OK = false :=
    (bit_putB_apart _ _ (by decide)).trans ((bit_putB_apart _ _ (by decide)).trans (bit_putB_same u _ _ (by decide) (by decide)))
  have hr : SupplyLost s r := supplyLost_restart humem hutrs hw
  clear_value r
  split
  · exact (hr.modTol _).modPwr _
  · exact hr.modPwr (fun p => { p with st := .off, domains := 1 })

/-! ### VIN returns (R703) -/

/-- What the start after OFF shows: the supply, its storage charged, the cause, and the state left. -/
def startShown (cold : Bool) : List (FieldRef × Nat) :=
  [(Fld.ABT_SUPPLY_VIN_OK, flagOf true), (Fld.ABT_SUPPLY_VHOLD_CHG, flagOf true), (Fld.ABT_RSTCAUSE_CAUSE, if cold then 0 else 1),
    (Fld.ABT_PSSTAT_LAST, if cold then 0 else 3)]

theorem startShown_apart (cold : Bool) : (∀ x ∈ startShown cold, x.1.lo + x.1.w ≤ 32) ∧
    (startShown cold).Pairwise fun x y => y.1.apart x.1 = true := by
  cases cold <;> decide

/-- The start after OFF: it is shown, with the shutdown before it where there was one, and everything is on. -/
def State.started (s : State) (cold : Bool) : State :=
  let t := if s.pwr.shutLatch then (s.puts (startShown cold)).putB Fld.HKP_TSTAT_SHUT_PREV true else s.puts (startShown cold)
  { t with load := {}, pwr := { t.pwr with st := .run, domains := 0x3FF, cold := false, onVbat := false, shutLatch := false } }

theorem rtcPass_cold (s : State) (e : Nat) : (s.rtcPass e).pwr.cold = s.pwr.cold := (rfl)

/-- A supply that returns ends the last gasp and the gap of OFF, and starts the device. -/
theorem exec_vinGood {s : State} (hv : s.bit Fld.ABT_SUPPLY_VIN_OK = false) (elapsed : Nat) :
    exec (.vinGood elapsed) s =
      .next (((((s.endGasp true true).rtcPass elapsed).putB Fld.ABT_RTCSTAT_LOST s.pwr.cold).endGap).started s.pwr.cold) := by
  have hcold : ((s.endGasp true true).rtcPass elapsed).pwr.cold = s.pwr.cold := by rw [rtcPass_cold, endGasp_pwr]
  refine congrArg Host.Outcome.next ((if_neg (by simp [State.vinOk, hv])).trans ?_)
  dsimp only
  rw [hcold]
  rfl

theorem started_get (s : State) (cold : Bool) {f : FieldRef} (h : Fld.HKP_TSTAT_SHUT_PREV.apart f = true) :
    (s.started cold).get f = (s.puts (startShown cold)).get f := by
  unfold State.started
  extract_lets t
  have ht : t.get f = (s.puts (startShown cold)).get f := by
    unfold t
    split
    · exact get_put_apart _ _ h
    · rfl
  clear_value t
  exact ht

theorem started_shows (s : State) (cold : Bool) :
    (s.started cold).bit Fld.ABT_SUPPLY_VIN_OK = true ∧
      (s.started cold).get Fld.ABT_RSTCAUSE_CAUSE = (if cold then 0 else 1) ∧
      (s.started cold).get Fld.ABT_PSSTAT_LAST = (if cold then 0 else 3) := by
  obtain ⟨hw, hd⟩ := startShown_apart cold
  refine ⟨?_, ?_, ?_⟩
  · exact (congrArg (· != 0) (started_get s cold (by decide))).trans (bit_puts s hw hd rfl (by simp [startShown]))
  · rw [started_get s cold (by decide), get_puts s hw hd (Fld.ABT_RSTCAUSE_CAUSE, if cold then 0 else 1) (by simp [startShown])]
    cases cold <;> rfl
  · rw [started_get s cold (by decide), get_puts s hw hd (Fld.ABT_PSSTAT_LAST, if cold then 0 else 3) (by simp [startShown])]
    cases cold <;> rfl

theorem started_kept (s : State) (cold : Bool) : (s.started cold).kept = s.kept := by
  unfold State.started
  split <;> rfl

/-! ### VBAT is lost, the last gasp ends (R701, R702) -/

/-- PD0 without power starts anew, but for the fuses and the Toll Book; RTCSTAT and SUPPLY show the loss. -/
theorem exec_vbatLoss {s : State} (hv : s.bit Fld.ABT_SUPPLY_VIN_OK = false) (hb : s.pwr.onVbat = true) :
    ∃ u : State, exec .vbatLoss s = .next ((u.putB Fld.ABT_RTCSTAT_LOST true).putB Fld.ABT_SUPPLY_VBAT_LOW true) ∧
      u.pwr.cold = true ∧ u.mem = [] ∧ u.prp = {} ∧ u.tol.book = s.tol.book :=
  ⟨_, congrArg Host.Outcome.next (if_neg (by simp [State.vinOk, hv, hb])), rfl, rfl, rfl, rfl⟩

theorem endGasp_regs (s : State) (energies marker : Bool) : (s.endGasp energies marker).regs = s.regs := by
  unfold State.endGasp
  split <;> rfl

theorem endGasp_lgRun (s : State) (energies marker : Bool) : (s.endGasp energies marker).tol.lgRun = none := by
  unfold State.endGasp
  split
  next h => exact h
  next => rfl

/-- Without VIN the device goes OFF once its last gasp has ended. -/
theorem exec_lastGaspEnd {s : State} (hg : s.tol.lgRun.isSome = true) (hv : s.bit Fld.ABT_SUPPLY_VIN_OK = false) (energies marker : Bool) :
    exec (.lastGaspEnd energies marker) s =
      .next (s.endGasp (energies || s.pwr.assured) (marker || s.pwr.assured)).allOff := by
  have hv' (e m : Bool) : ¬ (s.endGasp e m).vinOk = true := by
    rw [State.vinOk, bit_of_reg (reg_of_regs (endGasp_regs s e m) _), hv]
    exact Bool.false_ne_true
  exact congrArg Host.Outcome.next ((if_neg (by simpa using Option.isSome_iff_ne_none.1 hg)).trans (if_neg (hv' _ _)))

end Sys2Proof.Machine

/-! PROOFS. The statement of spec/17 on the loss and the return of the supply (O50). -/

namespace Sys2Proof.Machine

/-- Settles O50: VIN's failure is a restart of what is left of the device, its return a start of what the gap of OFF left; of the
other events each is the one branch that its hypotheses leave. -/
theorem supplyLossAndReturnAct : Obligations.SupplyLossAndReturnAct := by
  unfold Obligations.SupplyLossAndReturnAct
  intro s
  refine ⟨fun hv i hi => ?_, fun hv elapsed => ?_, fun hv => ?_, fun hv => ?_, fun hb below => ?_, fun hd armed => ?_, fun hv hb => ?_,
    fun hg hv energies marker => ?_⟩
  · simp only [List.mem_cons, List.not_mem_nil, or_false] at hi
    rcases hi with rfl | rfl
    · exact ⟨_, rfl, failVin_supplyLost hv s.pwr.vhold30⟩
    · exact ⟨_, rfl, failVin_supplyLost hv false⟩
  · obtain ⟨hok, hcause, hlast⟩ :=
      started_shows (((s.endGasp true true).rtcPass elapsed).putB Fld.ABT_RTCSTAT_LOST s.pwr.cold).endGap s.pwr.cold
    exact ⟨_, exec_vinGood hv elapsed, hok, rfl, rfl, hcause, hlast, rfl, sameMem_of_kept (by simp [started_kept])⟩
  · exact congrArg Host.Outcome.next (if_pos hv)
  · exact congrArg Host.Outcome.next (if_neg (by simp [State.vinOk, hv]))
  · exact congrArg Host.Outcome.next (if_neg (by simp [hb]))
  · exact congrArg Host.Outcome.next (if_pos hd)
  · obtain ⟨u, hi, hcold, hmem, hprp, hbook⟩ := exec_vbatLoss hv hb
    exact ⟨_, hi, (bit_putB_apart _ _ (by decide)).trans (bit_putB_same u _ _ (by decide) (by decide)),
      bit_putB_same _ _ _ (by decide) (by decide), hcold, fun a => congrArg (sget 0 · a) hmem, hprp, hbook⟩
  · have hmem := State.endGasp_kept s (energies || s.pwr.assured) (marker || s.pwr.assured)
    exact ⟨_, exec_lastGaspEnd hg hv energies marker, endGasp_lgRun .., rfl, rfl, fun a _ => reg_of_regs (endGasp_regs ..) a,
      sameMem_of_kept hmem⟩

end Sys2Proof.Machine

/-! PROOFS. What a step leaves of the queue and of the memory's form, whatever the command (O4, O5); the step itself (O1) and reset (O3). -/

namespace Sys2Proof.Machine

/-! ### A command leaves the queue and the memory's form -/

theorem tame_of_next {s t u : State} (h : Host.Outcome.next u = (.next t : Host.Outcome State Fault Refusal)) (hu : Tame s u) : Tame s t :=
  Host.Outcome.next.inj h ▸ hu

theorem tame_of_next_kept {s t u : State} (h : Host.Outcome.next u = (.next t : Host.Outcome State Fault Refusal)) (hk : u.kept = s.kept) :
    Tame s t := tame_of_next h (tame_of_kept hk)

/-- Every command that is one write of a register. -/
theorem wr_tame {s t : State} {m : Master} {a : Nat} {v : Word} (h : Host.Outcome.next (s.wr m a v) = (.next t : Host.Outcome State Fault Refusal)) :
    Tame s t := tame_of_next h (busWrite_tame s m a 4 _)

/-- A Pylon operation is as tame as what it does once its inputs are read. -/
theorem pylRun_tame {s t : State} {op : Nat} {f : State → PylCmd → List Byte → List Byte → State} (h : s.pylRun op f = .next t)
    (hf : ∀ c i j, Tame s (f s c i j)) : Tame s t := by
  obtain rfl := Host.Outcome.next.inj h
  repeat' split
  · exact .refl s
  · exact .refl s
  · exact tame_of_kept (by simp)
  · exact hf _ _ _

theorem pylEnd_tame (s : State) (a b : Nat) : Tame s (s.pylEnd a b) := tame_of_kept (by simp)

theorem pylFail_tame (s : State) : Tame s s.pylFail := tame_of_kept (by simp)

theorem pylOk_id_tame (s : State) (c : PylCmd) (out : List Byte) : Tame s (s.pylOk c out id) := pylOk_tame s c out id (.refl s)

theorem place_tame (s : State) (e c : List Byte) : Tame s (s.place e c) := by
  unfold State.place
  dsimp only
  split <;> exact ⟨rfl, id⟩

theorem grants_tame (k : Nat) (s : State) : Tame s (State.grants k s) := by
  induction k generalizing s with
  | zero => exact .refl s
  | succ k ih =>
    unfold State.grants
    repeat' split
    · exact .refl s
    · exact .refl s
    · exact (tame_of_kept (by simp)).trans (ih _)

theorem cwyAsked_kept (s : State) (freed requests : List Master) : (s.cwyAsked freed requests).kept = s.kept := by
  simp [State.cwyAsked]

/-- What a streamed section leads to: the next section, the end of the load or the fall to the other slot (R62 to R74). -/
theorem sectionStreamed_tame {s t : State} (h : execSectionStreamed s = .next t) : Tame s t := by
  refine tame_of_next h ?_
  split
  · exact .refl s
  · extract_lets e
    split
    · exact failSlot_tame s 6
    next c _ =>
      extract_lets u r body v
      have hu : Tame s u := (place_tame s e c).trans (tame_of_kept (by simp [u]))
      clear_value u
      split
      · exact hu.trans (failSlot_tame _ _)
      · have hv : Tame s v := by
          refine hu.trans ?_
          simp only [v]
          split
          · exact tame_of_kept (State.modLoad_kept _ _)
          · exact .refl u
        clear_value v
        split
        · exact hv.trans (finishLoad_tame _)
        · exact hv

theorem ramInitDone_tame {fails : List (Fin 6)} {elapsed : Nat} {s t : State} (h : execRamInitDone fails elapsed s = .next t) : Tame s t := by
  refine tame_of_next h ?_
  split
  · exact .refl s
  · exact ((tame_of_kept (by simp)).trans (clearSram_tame (s.rtcPass elapsed))).trans (tame_of_kept (by simp))

theorem bootElementVerify_tame {s t : State} (h : execBootElementVerify s = .next t) : Tame s t := by
  refine tame_of_next h ?_
  split
  · exact .refl s
  · extract_lets o hd a ok u r v _ w
    have hu : Tame s u := by
      simp only [u]
      split
      · exact dmaWrite_tame _ _ _ _
      · exact .refl s
    refine hu.trans ?_
    clear_value u
    split
    · exact tame_of_kept (State.acceptElem_kept u a)
    · exact tame_of_kept (by simp [w])

theorem wakeRestreamDone_tame {got : Restream} {s t : State} (h : execWakeRestreamDone got s = .next t) : Tame s t := by
  refine tame_of_next h ?_
  split
  · exact .refl s
  · split
    · exact warmReset_tame s 6
    · dsimp only
      split
      · exact warmReset_tame s 6
      · refine (Tame.trans ?_ (finishWake_tame _)).trans (tame_of_kept (State.selfTests_kept _ _))
        exact (tame_of_kept (State.modLoad_kept s _)).trans (tame_foldl _ _ _ fun u e => place_tame u _ _)

theorem vbatLoss_tame {s t : State} (h : execVbatLoss s = .next t) : Tame s t := by
  refine tame_of_next h ?_
  split
  · exact .refl s
  · exact ⟨rfl, fun _ => rfl⟩

theorem lastGaspEnd_tame {energies marker : Bool} {s t : State} (h : execLastGaspEnd energies marker s = .next t) : Tame s t := by
  refine tame_of_next h ?_
  split
  · exact .refl s
  · extract_lets u
    have hu : Tame s u := tame_of_kept (State.endGasp_kept _ _ _)
    split
    · exact hu.trans (shutOff_tame u)
    · exact hu.trans (allOff_tame u)

/-- The descriptor at the head, the payload it names, and the status written back (R509). -/
theorem v2gtpTx_tame {n : Fin 8} {s t : State} (h : execV2gtpTx n s = .next t) : Tame s t := by
  refine tame_of_next h ?_
  extract_lets k hd
  split
  · exact .refl s
  · generalize hb : s.dmaRead 15 _ 16 = b
    have hu : Tame s b.2 := tame_of_kept (by rw [← hb]; exact State.dmaRead_kept _ _ _ _)
    clear hb
    obtain ⟨b, u⟩ := b
    dsimp -zeta only at hu ⊢
    extract_lets fl len ty bad v w
    split
    · exact hu
    · have hv : v.kept = u.kept := by
        simp only [v]
        repeat' split
        all_goals simp
      exact ((hu.trans (tame_of_kept hv)).trans (dmaWrite_tame _ _ _ _)).trans (tame_of_kept (State.modVl_kept _ _ _))

theorem canDmaCopy_tame {n : Fin 4} {s t : State} (h : execCanDmaCopy n s = .next t) : Tame s t := by
  refine tame_of_next h ?_
  dsimp only
  split
  · exact .refl s
  · exact (dmaWrite_tame _ _ _ _).trans (tame_of_kept ((State.freeRx_kept _ _).trans (put_kept _ _ _)))

/-- A checkpoint of an entry to sleep: the entry is given up, goes on, or ends asleep (R712, R715). -/
theorem entryCheckpoint_tame {pins : BitVec 8} {s t : State} (h : execEntryCheckpoint pins s = .next t) : Tame s t := by
  refine tame_of_next h ?_
  split
  · exact .refl s
  · extract_lets k park u v w committed area z
    split
    · have hv : Tame s v := tame_of_kept (by simp [v, u])
      clear_value v
      split
      · exact hv.trans (tame_of_kept (by simp))
      · exact hv.trans (releaseTx_tame v)
    · split
      · refine tame_of_kept ?_
        split <;> simp [w]
      · split
        · split
          · exact .refl s
          · exact tame_of_kept (by simp)
        · split
          · exact tame_of_kept (by simp)
          · refine Tame.trans ?_ (tame_of_kept (State.takePending_kept _))
            exact (tame_of_kept (by simp [z])).trans (fallAsleep_tame z park)

theorem housekeepingRound_tame {counts : List (BitVec 16)} {temps : List Int} {rails : List (BitVec 16)} {s t : State}
    (h : execHousekeepingRound counts temps rails s = .next t) : Tame s t := by
  refine tame_of_next h ?_
  split
  · exact .refl s
  · extract_lets was u v w x hot again y
    have hy : y.kept = s.kept := by
      have hu : u.kept = s.kept := kept_forEach _ _ _ fun _ _ => State.sense_kept _ _ _ _
      have hv : v.kept = u.kept := kept_forEach _ _ _ fun _ _ => by dsimp only; split <;> simp
      have hw : w.kept = v.kept := by
        simp only [w]
        split <;> simp
      have hx : x.kept = w.kept := by
        simp only [x]
        split <;> simp
      exact ((State.modHkp_kept x _).trans hx).trans (hw.trans (hv.trans hu))
    clear_value y
    split
    · exact (tame_of_kept hy).trans (shutdown_tame y)
    · exact tame_of_kept hy

theorem pylonCommandDone_tame {s t : State} (h : execPylonCommandDone s = .next t) : Tame s t := by
  refine tame_of_next h ?_
  split
  · exact .refl s
  split
  · exact .refl s
  · extract_lets st u v
    have hu : Tame s u := dmaWrite_tame _ _ _ _
    clear_value u
    exact hu.trans (tame_of_kept (by simp [v]))

theorem faultReport_tame {code : Fin 64} {cls : Fin 4} {src : Fin 256} {units : FaultUnits} {ecc : EccNote} {s t : State}
    (h : execFaultReport code cls src units ecc s = .next t) : Tame s t :=
  tame_of_next h ((eccFound_tame _ _ _).trans (tame_of_kept (State.report_kept _ _ _ _ _ _)))

theorem pllLock_tame {a b : List Host.Cell} {mram : BitVec 16} {e : Nat} {s t : State} (h : execPllLock a b mram e s = .next t) : Tame s t := by
  refine tame_of_next h ?_
  dsimp only
  split
  · exact ⟨rfl, id⟩
  · exact (tame_of_kept (by simp)).trans (chooseSlot_tame _)

/-- Commands that are one write of a register. -/
theorem registerCommands_tame {c : Instr} {s t : State} (h : exec c s = .next t) :
    match c with
    | .imageCommit .. | .avgExpWrite .. | .arcCommitGo .. | .arcMoveGo .. | .meterSnapshotGo .. | .mcalGo .. | .timeCorrectionGo ..
    | .calendarLoad .. | .calendarCancel .. | .recordAck .. | .saveRequest .. | .archiveGo .. | .softwareStop ..
    | .safetyOutputRequest .. | .faultClearKey .. | .faultClear .. | .armPiers .. | .disarmPiers .. | .stateRequest ..
    | .padRelease .. | .watchdogEnable .. | .watchdogKick .. | .throttleNow .. | .lifecycleDeploy .. | .shedDisable ..
    | .phsShedWrite .. | .phaseFaultClear .. | .spanResumeWrite .. | .spanLoopPrbsWrite .. | .mgmtRequestGo .. | .grdCaptureArm ..
    | .grdCalGo .. | .grdPairWrite .. | .sessionStart .. | .sessionStop .. | .sessionRecordRequest .. | .stayBlockEnWrite ..
    | .stayFwInputWrite .. | .stayLimWrite .. | .premoteWrite .. | .outletEnWrite .. | .chargeLoopKick .. | .canEnable ..
    | .canTxRequest .. | .canTxCancel .. | .canRxAck .. | .canRecover .. | .trestleCommand .. | .trestleFaultClear ..
    | .contestBitWrite .. | .firmwareReset .. => Tame s t
    | _ => True := by
  cases c with
  | imageCommit | avgExpWrite | arcCommitGo | arcMoveGo | meterSnapshotGo | mcalGo | timeCorrectionGo | calendarLoad
  | calendarCancel | recordAck | saveRequest | archiveGo | softwareStop | safetyOutputRequest | faultClearKey | faultClear
  | armPiers | disarmPiers | stateRequest | padRelease | watchdogEnable | watchdogKick | throttleNow | lifecycleDeploy
  | shedDisable | phsShedWrite | phaseFaultClear | spanResumeWrite | spanLoopPrbsWrite | mgmtRequestGo | grdCaptureArm | grdCalGo
  | grdPairWrite | sessionStart | sessionStop | sessionRecordRequest | stayBlockEnWrite | stayFwInputWrite | stayLimWrite
  | premoteWrite | outletEnWrite | chargeLoopKick | canEnable | canTxRequest | canTxCancel | canRxAck | canRecover
  | trestleCommand | trestleFaultClear | contestBitWrite | firmwareReset =>
    exact wr_tame h
  | _ => trivial

/-- Operations of Pylon that write their output, or end without one. -/
theorem pylonCommands_tame {c : Instr} {s t : State} (h : exec c s = .next t) :
    match c with
    | .randomBytes | .hash | .aesGcm | .keyGenerate | .blobLoad | .slotClear | .keyPresent | .devidKeys | .sign | .verify
    | .keyAgreement | .kemDecapsulate | .kemEncapsulate | .attestationReport => Tame s t
    | _ => True := by
  cases c with
  | randomBytes =>
    simp only [exec, execRandomBytes] at h
    exact pylRun_tame h fun c i j => (tame_of_kept (State.freeBytes_kept s c.cap)).trans (pylOk_id_tame _ c _)
  | hash =>
    simp only [exec, execHash] at h
    exact pylRun_tame h fun c i j => withAlg_tame s c _ _ fun a => pylOk_id_tame s c _
  | aesGcm =>
    simp only [exec, execAesGcm] at h
    refine pylRun_tame h fun c i j => withAlg_tame s c _ _ fun a => withKey_tame s c _ _ fun k => ?_
    split
    · exact pylOk_id_tame s c _
    · exact pylFail_tame s
  | keyGenerate =>
    simp only [exec, execKeyGenerate] at h
    refine pylRun_tame h fun c i j => withAlg_tame s c _ _ fun a => ?_
    repeat' split
    · exact pylEnd_tame s _ _
    · exact pylEnd_tame s _ _
    · exact pylEnd_tame s _ _
    · have hfree : Tame s ((s.fresh 512).2.freeBytes 12).2 := tame_of_kept (by simp)
      exact hfree.trans (pylOk_tame _ c _ _ (tame_of_kept (State.putKey_kept _ _ _)))
  | blobLoad => exact tame_of_kept (blobLoad_kept h)
  | slotClear => exact tame_of_kept (slotClear_kept h)
  | keyPresent => exact tame_of_kept (keyPresent_kept h)
  | devidKeys =>
    simp only [exec, execDevidKeys] at h
    refine pylRun_tame h fun c i j => ?_
    split
    · exact pylEnd_tame s _ _
    · exact pylOk_id_tame s c _
  | sign =>
    simp only [exec, execSign] at h
    exact pylRun_tame h fun c i j => withAlg_tame s c _ _ fun a => withKey_tame s c _ _ fun k =>
      (tame_of_kept (fresh_kept s 256)).trans (pylOk_id_tame _ c _)
  | verify => exact tame_of_kept (verify_kept h)
  | keyAgreement | kemDecapsulate =>
    simp only [exec, execKeyAgreement, execKemDecapsulate] at h
    exact pylRun_tame h fun c i j => withAlg_tame s c _ _ fun a => withKey_tame s c _ _ fun k => pylOk_id_tame s c _
  | kemEncapsulate =>
    simp only [exec, execKemEncapsulate] at h
    exact pylRun_tame h fun c i j => withAlg_tame s c _ _ fun a => (tame_of_kept (fresh_kept s 256)).trans (pylOk_id_tame _ c _)
  | attestationReport =>
    simp only [exec, execAttestationReport] at h
    refine pylRun_tame h fun c i j => ?_
    split
    · exact pylEnd_tame s _ _
    · have hsig (d : List Byte) : Tame s (s.formEndorse.signPair s.formEndorse.aliasSeed d).2 := tame_of_kept (by simp)
      exact (hsig _).trans (pylOk_id_tame _ c _)
  | _ => trivial

/-- Commands that store into memory, load the image or restart the device, those of Pylon and the register writes apart. -/
theorem storingCommands_tame {c : Instr} {s t : State} (h : exec c s = .next t) :
    match c with
    | .registerWrite .. | .vinFailure | .gndLoss | .vbatLoss | .deviceReset .. | .pllLock .. | .sectionStreamed | .ramInitDone ..
    | .bootElementVerify | .lastGaspEnd .. | .v2gtpRx .. | .v2gtpTx .. | .canDmaCopy .. | .outDelayExpiry | .doubleFaultReset
    | .entryCheckpoint .. | .wakeRestreamDone .. | .watchdogExpiry | .housekeepingRound .. | .pylonCommandDone | .faultReport .. =>
      Tame s t
    | _ => True := by
  cases c with
  | registerWrite m a n v =>
    simp only [exec, execRegisterWrite] at h
    split at h
    · cases h
    · exact tame_of_next h (busWrite_tame s m _ n _)
  | vinFailure | gndLoss => exact tame_of_next h (failVin_tame s _)
  | vbatLoss => exact vbatLoss_tame h
  | deviceReset =>
    refine tame_of_next h ?_
    split
    · exact warmReset_tame s _
    · exact .refl s
  | pllLock => exact pllLock_tame h
  | sectionStreamed => exact sectionStreamed_tame h
  | ramInitDone => exact ramInitDone_tame h
  | bootElementVerify => exact bootElementVerify_tame h
  | lastGaspEnd => exact lastGaspEnd_tame h
  | v2gtpRx n ty p =>
    refine tame_of_next h ?_
    repeat' split
    · exact .refl s
    · exact tame_of_kept (by simp)
    · exact .refl s
    · exact rxPayload_tame s n _ p
  | v2gtpTx => exact v2gtpTx_tame h
  | canDmaCopy => exact canDmaCopy_tame h
  | outDelayExpiry =>
    refine tame_of_next h ?_
    split
    · exact (tame_of_kept (State.outDelayEnd_kept s)).trans (shutOff_tame _)
    · exact .refl s
  | doubleFaultReset | watchdogExpiry =>
    refine tame_of_next h ?_
    split
    · exact warmReset_tame s _
    · exact .refl s
  | entryCheckpoint => exact entryCheckpoint_tame h
  | wakeRestreamDone => exact wakeRestreamDone_tame h
  | housekeepingRound => exact housekeepingRound_tame h
  | pylonCommandDone => exact pylonCommandDone_tame h
  | faultReport => exact faultReport_tame h
  | _ => trivial

/-- Whatever the command, the queue stays and the memory's form is kept. -/
theorem exec_tame {c : Instr} {s t : State} (h : exec c s = .next t) : Tame s t := by
  cases c with
  | imageCommit | avgExpWrite | arcCommitGo | arcMoveGo | meterSnapshotGo | mcalGo | timeCorrectionGo | calendarLoad
  | calendarCancel | recordAck | saveRequest | archiveGo | softwareStop | safetyOutputRequest | faultClearKey | faultClear
  | armPiers | disarmPiers | stateRequest | padRelease | watchdogEnable | watchdogKick | throttleNow | lifecycleDeploy
  | shedDisable | phsShedWrite | phaseFaultClear | spanResumeWrite | spanLoopPrbsWrite | mgmtRequestGo | grdCaptureArm | grdCalGo
  | grdPairWrite | sessionStart | sessionStop | sessionRecordRequest | stayBlockEnWrite | stayFwInputWrite | stayLimWrite
  | premoteWrite | outletEnWrite | chargeLoopKick | canEnable | canTxRequest | canTxCancel | canRxAck | canRecover
  | trestleCommand | trestleFaultClear | contestBitWrite | firmwareReset => exact registerCommands_tame h
  | randomBytes | hash | aesGcm | keyGenerate | blobLoad | slotClear | keyPresent | devidKeys | sign | verify | keyAgreement
  | kemDecapsulate | kemEncapsulate | attestationReport => exact pylonCommands_tame h
  | registerWrite | vinFailure | gndLoss | vbatLoss | deviceReset | pllLock | sectionStreamed | ramInitDone | bootElementVerify
  | lastGaspEnd | v2gtpRx | v2gtpTx | canDmaCopy | outDelayExpiry | doubleFaultReset | entryCheckpoint | wakeRestreamDone
  | watchdogExpiry | housekeepingRound | pylonCommandDone | faultReport => exact storingCommands_tame h
  | rcRead => exact tame_of_kept (rcRead_kept h)
  | forbiddenRead => exact tame_of_kept (forbiddenRead_kept h)
  | canFrameTxEnd => exact tame_of_kept (canFrameTxEnd_kept _ _ _ _ h)
  | wakeEvent => exact tame_of_kept (wakeEvent_kept _ _ h)
  | rtcAlarm => exact tame_of_kept (rtcAlarm_kept _ h)
  | canWake => exact tame_of_kept (canWake_kept _ _ _ h)
  | cwyTransactionGrant freed requests =>
    rw [exec_cwyTransactionGrant] at h
    exact tame_of_next h (((tame_of_kept (cwyAsked_kept s freed requests)).trans (grants_tame _ _)).trans
      (tame_of_kept (State.showFlight_kept _)))
  | bringupRetry | weldCheckEnd | matched | matchTimeout | contestDetect | contestRelease | contestTimeout | grdTrigger
  | grdGroupStart | grdConversionResult | mcalWindowEnd | recordBufferEntry | periodicSave | slacMatch | hpgpFrameAttempt
  | hpgpAck | hpgpFrameRx | canFrameRx | hostFrameRx | prstPress =>
    refine tame_of_next_kept h ?_
    repeat' split
    all_goals simp
  | vinGood | pierDownFrameAccept | recordSigned | saveComplete | imcHalfEnd | pilotMeasurement | elementVerify | regionWithdraw
  | keyAuthorisation =>
    refine tame_of_next_kept h ?_
    dsimp only
    repeat' split
    all_goals simp
  | _ => exact tame_of_next_kept h (by simp)

/-- Settles O4: a command keeps the memory's form, and an edge of the idle Truss leaves memory. -/
theorem stepKeepsMemoryCanonical : Obligations.StepKeepsMemoryCanonical := by
  unfold Obligations.StepKeepsMemoryCanonical
  intro s t hwf h
  unfold step at h
  split at h
  next c rest _ => exact (exec_tame h).2 hwf
  · have hidle : s.idle.kept = s.kept := by
      unfold State.idle
      split
      · exact State.clockEdge_kept s
      · rfl
    exact (tame_of_next_kept h hidle).2 hwf

/-- Settles O5: the front command runs on the queue's rest, which it leaves. -/
theorem commandsNeverTouchTheQueue : Obligations.CommandsNeverTouchTheQueue := by
  refine ⟨fun c s t h => (exec_tame h).1, fun c rest s t hs h => ?_⟩
  simp only [step, hs] at h
  exact (exec_tame h).1

/-- Settles O1: by the two cases of `step`. -/
theorem stepRunsTheFrontCommand : Obligations.StepRunsTheFrontCommand := by
  refine ⟨fun c rest s => rfl, fun s hs ht => ?_⟩
  simp only [step, hs, State.idle, ht]
  rfl

/-- Settles O3: the state after reset lists its units and no store entry. -/
theorem resetIsShapedAndCanonical : Obligations.ResetIsShapedAndCanonical := ⟨by decide, by decide⟩

end Sys2Proof.Machine

/-! SUPPORT. Fields of a unit's registers after a write: for rows of `k` instances it is checked once for all of them that two fields lie
apart, or that a value fits its field, so that `decide` settles it. -/

namespace Sys2Proof.Machine

section
variable {k : Nat} {F G : Nat → FieldRef} {s : State}

theorem get_put_other (h : ∀ n : Fin k, (F n).apart (G n) = true) (n : Fin k) (v : Nat) : (s.put (F n) v).get (G n) = s.get (G n) :=
  get_put_apart s v (h n)

theorem bit_put_other (h : ∀ n : Fin k, (F n).apart (G n) = true) (n : Fin k) (v : Nat) : (s.put (F n) v).bit (G n) = s.bit (G n) :=
  bit_put_apart s v (h n)

theorem get_putB_other (h : ∀ n : Fin k, (F n).apart (G n) = true) (n : Fin k) (b : Bool) : (s.putB (F n) b).get (G n) = s.get (G n) :=
  get_put_apart s _ (h n)

theorem bit_putB_other (h : ∀ n : Fin k, (F n).apart (G n) = true) (n : Fin k) (b : Bool) : (s.putB (F n) b).bit (G n) = s.bit (G n) :=
  bit_put_apart s _ (h n)

theorem get_inc_other (h : ∀ n : Fin k, (F n).apart (G n) = true) (n : Fin k) : (s.inc (F n)).get (G n) = s.get (G n) :=
  get_put_apart s _ (h n)

theorem bit_putB_self (h : ∀ n : Fin k, (F n).lo + (F n).w ≤ 32 ∧ 0 < (F n).w) (n : Fin k) (b : Bool) : (s.putB (F n) b).bit (F n) = b :=
  bit_putB_same s _ b (h n).1 (h n).2

/-- A counter raised by one, whose largest value is `m`. -/
theorem get_inc_self {m : Nat} (h : ∀ n : Fin k, (F n).lo + (F n).w ≤ 32 ∧ 2 ^ (F n).w - 1 = m) (n : Fin k) :
    (s.inc (F n)).get (F n) = min m (s.get (F n) + 1) := by
  rw [get_inc_same s _ (h n).1, (h n).2]

/-- A value that the field can hold. -/
theorem get_put_self {v : Nat} (h : ∀ n : Fin k, (F n).lo + (F n).w ≤ 32 ∧ v < 2 ^ (F n).w) (n : Fin k) : (s.put (F n) v).get (F n) = v :=
  (get_put_same s _ v (h n).1).trans (Nat.mod_eq_of_lt (h n).2)

theorem get_put_self_mod (h : ∀ n : Fin k, (F n).lo + (F n).w ≤ 32) (n : Fin k) (v : Nat) : (s.put (F n) v).get (F n) = v % 2 ^ (F n).w :=
  get_put_same s _ v (h n)

end

section
variable {f g : FieldRef} {s : State}

theorem get_put_fits {v : Nat} (h : f.lo + f.w ≤ 32 ∧ v < 2 ^ f.w) : (s.put f v).get f = v :=
  (get_put_same s _ v h.1).trans (Nat.mod_eq_of_lt h.2)

theorem get_putB_apart (h : f.apart g = true) (b : Bool) : (s.putB f b).get g = s.get g := get_put_apart s _ h

theorem bit_putB_flag (h : f.lo + f.w ≤ 32 ∧ 0 < f.w) (b : Bool) : (s.putB f b).bit f = b := bit_putB_same s f b h.1 h.2

end

/-! ### Frames -/

theorem SameRegs.refl (s : State) (l : List Nat) : SameRegs s s l := fun _ _ => rfl

theorem SameRegs.andPut {s u : State} {l : List Nat} (h : SameRegs s u l) {f : FieldRef} (hf : f.addr ∈ l) (v : Nat) :
    SameRegs s (u.put f v) l := fun a ha => (reg_put_ne u v fun (e : a = f.addr) => ha (e ▸ hf)).trans (h a ha)

theorem SameRegs.mono {s t : State} {l m : List Nat} (h : SameRegs s t l) (hm : ∀ a ∈ l, a ∈ m) : SameRegs s t m :=
  fun a ha => h a fun hl => ha (hm a hl)

end Sys2Proof.Machine

/-! PROOFS. The RTC's own events (O53). -/

namespace Sys2Proof.Machine

theorem rtcOff_of_run {s : State} (h : s.pwr.st = .run) (e : Nat) : s.rtcOff e = s := if_neg (by simp [h])

/-- The deviation that a calibration window shows (R720). -/
def State.rcShown (s : State) (dev : Int) : State :=
  (s.putS Fld.ABT_RTCDEV_PPM dev).raise Fld.ABT_RTCSTAT_DEV (decide (200 * 65536 < dev.natAbs))

theorem exec_rcCalibration {s : State} (h : s.pwr.st = .run) (hx : s.pwr.xtalOff = false) (dev : Int) :
    exec (.rcCalibration dev) s = .next (s.rcShown dev) := by
  refine congrArg Host.Outcome.next ((if_neg (by simp [h, hx])).trans ?_)
  simp [State.rcShown, State.raise]

theorem ofS_mod (w : Nat) (i : Int) : ofS w i % 2 ^ w = ofS w i := by
  have hlt : i % (2 ^ w : Int) < 2 ^ w := Int.emod_lt_of_pos _ (by positivity)
  refine Nat.mod_eq_of_lt ((Int.toNat_lt (Int.emod_nonneg _ (by positivity))).2 ?_)
  exact_mod_cast hlt

theorem rcShown_shows (s : State) (dev : Int) :
    (s.rcShown dev).get Fld.ABT_RTCDEV_PPM = ofS Fld.ABT_RTCDEV_PPM.w
      (clampI dev (-(2 ^ (Fld.ABT_RTCDEV_PPM.w - 1))) (2 ^ (Fld.ABT_RTCDEV_PPM.w - 1) - 1)) ∧
    (s.rcShown dev).bit Fld.ABT_RTCSTAT_DEV = (decide (200 * 65536 < dev.natAbs) || s.bit Fld.ABT_RTCSTAT_DEV) ∧
    SameRegs s (s.rcShown dev) [Reg.ABT_RTCDEV, Reg.ABT_RTCSTAT] ∧ OnlyRegs s (s.rcShown dev) := by
  unfold State.rcShown
  refine ⟨?_, ?_, fun a ha => ?_, ?_⟩
  · rw [get_raise_apart _ _ (by decide), State.putS, get_put_same _ _ _ (by decide), ofS_mod]
  · rw [bit_raise_same _ _ _ (by decide) (by decide), State.putS, bit_put_apart _ _ (by decide), Bool.or_comm]
  · obtain ⟨h1, h2⟩ : a ≠ Reg.ABT_RTCDEV ∧ a ≠ Reg.ABT_RTCSTAT := by simpa using ha
    exact (reg_raise_ne _ _ h2).trans (reg_put_ne s _ h1)
  · unfold State.raise
    split <;> rfl

/-- Settles O53: in RUN the control periods count the time, so that each event is its register write. -/
theorem rtcEventsAct : Obligations.RtcEventsAct := by
  unfold Obligations.RtcEventsAct
  intro s h
  refine ⟨fun hx e => ?_, fun hx e => ?_, fun hx dev => ⟨_, exec_rcCalibration h hx dev, rcShown_shows s dev⟩, fun ht => ?_⟩
  · refine congrArg Host.Outcome.next ((if_neg (by simp [hx])).trans ?_)
    simp only [rtcOff_of_run h]
    rfl
  · refine congrArg Host.Outcome.next ((if_neg (by simp [hx])).trans ?_)
    simp only [rtcOff_of_run h]
    rfl
  · exact congrArg Host.Outcome.next (if_pos ht)

end Sys2Proof.Machine

/-! SUPPORT for O48 and O49. The Trestle's channels: their records, settling and latching. -/

namespace Sys2Proof.Machine

theorem chans_of_shaped {s : State} (h : s.shaped = true) : s.trs.chans.length = 16 := by
  simp only [State.shaped, Bool.and_eq_true, beq_iff_eq] at h
  exact h.2

theorem chan_modChan (s : State) {n : Nat} (f : Channel → Channel) (hn : n < s.trs.chans.length) : (s.modChan n f).chan n = f (s.chan n) :=
  nth_updAt_same ({} : Channel) f hn

theorem modChan_reg (s : State) (n : Nat) (f : Channel → Channel) (a : Nat) : (s.modChan n f).reg a = s.reg a := (rfl)

theorem modChan_get (s : State) (n : Nat) (f : Channel → Channel) (g : FieldRef) : (s.modChan n f).get g = s.get g := (rfl)

theorem trsStat_mem (n : Fin 16) : Reg.TRS_CH_STAT n ∈ trsStatRegs ∧ Reg.TRS_CH_CUR n ∈ trsStatRegs := by
  revert n; decide

/-- FAULT and CNT of a channel are not among the registers in which channels show that they have settled. -/
theorem trsFault_notMem (n : Fin 16) : Reg.TRS_CH_FAULT n ∉ trsStatRegs ∧ Reg.TRS_CH_CNT n ∉ trsStatRegs := by
  revert n; decide

section
variable {s u : State} {n : Fin 16} {l : List Nat}

/-- Settling shows in registers that the frame names anyway. -/
theorem SameRegs.settle (h : SameRegs s u l) (hl : trsStatRegs ⊆ l) : SameRegs s (u.trsSettle n) l :=
  fun a ha => (trsSettle_reg u n.isLt fun hm => ha (hl hm)).trans (h a ha)

theorem SameRegs.latch (h : SameRegs s u l) (hl : trsStatRegs ⊆ l) {f : FieldRef} (hf : f.addr ∈ l) : SameRegs s (u.trsLatch n f) l :=
  SameRegs.settle (u := (u.putB f true).modChan n _) (fun a ha => (modChan_reg _ n _ a).trans ((h.andPut hf _) a ha)) hl

theorem trsSettle_get {f : FieldRef} (h : f.addr ∉ trsStatRegs) : (u.trsSettle n).get f = u.get f :=
  get_of_reg (trsSettle_reg u n.isLt h)

theorem trsSettle_bit {f : FieldRef} (h : f.addr ∉ trsStatRegs) : (u.trsSettle n).bit f = u.bit f :=
  bit_of_reg (trsSettle_reg u n.isLt h)

/-- A channel that settles after an update of its record keeps the update but for the samples. -/
theorem settle_modChan (hn : n.val < u.trs.chans.length) (f : Channel → Channel) :
    (((u.modChan n f).trsSettle n).chan n).core = (f (u.chan n)).core :=
  (trsSettle_core (u.modChan n f) n n).trans (congrArg Channel.core (chan_modChan u f hn))

/-- Of the registers, the update of a record and the settling leave all but STAT and CUR of the channels, and of STAT what protection writes. -/
theorem settle_modChan_get (f : Channel → Channel) {g : FieldRef} (h : g.addr ∉ trsStatRegs) :
    ((u.modChan n f).trsSettle n).get g = u.get g := (trsSettle_get h).trans (modChan_get u n f g)

theorem settle_modChan_bit (f : Channel → Channel) {g : FieldRef} (h : g.addr ∉ trsStatRegs) :
    ((u.modChan n f).trsSettle n).bit g = u.bit g := congrArg (· != 0) (settle_modChan_get f h)

theorem settle_modChan_burstCnt (f : Channel → Channel) :
    ((u.modChan n f).trsSettle n).get (Fld.TRS_CH_STAT_BURST_CNT n) = u.get (Fld.TRS_CH_STAT_BURST_CNT n) :=
  (trsSettle_get_stat (u.modChan n f) n n 8 4 (by decide)).trans (modChan_get u n f _)

theorem settle_modChan_regs (h : SameRegs s u l) (f : Channel → Channel) (hl : trsStatRegs ⊆ l) :
    SameRegs s ((u.modChan n f).trsSettle n) l :=
  SameRegs.settle (fun a ha => (modChan_reg u n f a).trans (h a ha)) hl

/-- What latches a channel shows in its FAULT register, and is all that the channel's record keeps of it. -/
theorem trsLatch_shows (hn : n.val < u.trs.chans.length) {F : Nat → FieldRef}
    (hF : ∀ k : Fin 16, (F k).lo + (F k).w ≤ 32 ∧ 0 < (F k).w ∧ (F k).addr = Reg.TRS_CH_FAULT k) :
    (u.trsLatch n (F n)).bit (F n) = true ∧ ((u.trsLatch n (F n)).chan n).core = ({ u.chan n with latched := true } : Channel).core := by
  obtain ⟨hw, hpos, haddr⟩ := hF n
  refine ⟨(settle_modChan_bit _ (by rw [haddr]; exact (trsFault_notMem n).1)).trans (bit_putB_same u _ true hw hpos), ?_⟩
  exact (trsSettle_core ((u.putB (F n) true).modChan n _) n n).trans (congrArg Channel.core (chan_modChan (u.putB (F n) true) _ hn))

end

theorem trsStatRegs_cons (a : Nat) : trsStatRegs ⊆ a :: trsStatRegs := List.subset_cons_self ..

end Sys2Proof.Machine

/-! PROOFS. The protection of the channels (O48). -/

namespace Sys2Proof.Machine

/-! ### The current limit and the burst (R674 to R676) -/

theorem exec_currentLimitExpiry {s : State} {n : Fin 16} (h1 : s.get (Fld.TRS_CH_STAT_STATE n) = 1) (hh : (s.chan n).hold = none) :
    exec (.currentLimitExpiry n) s = .next (
      if s.get (Fld.TRS_CH_CFG_BURST_N n) = 0 then s.trsLatch n (Fld.TRS_CH_FAULT_OVERLOAD n)
      else if s.get (Fld.TRS_CH_CFG_BURST_N n) ≤ s.get (Fld.TRS_CH_STAT_BURST_CNT n) then
        (s.trsLatch n (Fld.TRS_CH_FAULT_BURST n)).modChan n (fun c => { c with burst := false })
      else (s.modChan n (fun c => { c with burst := true })).trsSettle n) :=
  congrArg Host.Outcome.next (if_neg (by simp [h1, hh]))

theorem currentLimitExpiry_shows {s : State} {n : Fin 16} (hn : n.val < s.trs.chans.length) (h1 : s.get (Fld.TRS_CH_STAT_STATE n) = 1)
    (hh : (s.chan n).hold = none) :
    Completes (.currentLimitExpiry n) s (fun t => SameRegs s t (Reg.TRS_CH_FAULT n :: trsStatRegs) ∧ SameMem s t ∧
      (if s.get (Fld.TRS_CH_CFG_BURST_N n) = 0 then t.bit (Fld.TRS_CH_FAULT_OVERLOAD n) = true ∧ (t.chan n).latched = true
       else if s.get (Fld.TRS_CH_CFG_BURST_N n) ≤ s.get (Fld.TRS_CH_STAT_BURST_CNT n) then
         t.bit (Fld.TRS_CH_FAULT_BURST n) = true ∧ (t.chan n).latched = true
       else (t.chan n).burst = true ∧ t.get (Fld.TRS_CH_STAT_BURST_CNT n) = s.get (Fld.TRS_CH_STAT_BURST_CNT n))) := by
  refine ⟨_, exec_currentLimitExpiry h1 hh, ?_⟩
  have hlatch {F : Nat → FieldRef} (haddr : (F n).addr = Reg.TRS_CH_FAULT n) :
      SameRegs s (s.trsLatch n (F n)) (Reg.TRS_CH_FAULT n :: trsStatRegs) :=
    (SameRegs.refl s _).latch (trsStatRegs_cons _) (by rw [haddr]; exact List.mem_cons_self ..)
  split
  · obtain ⟨hbit, hcore⟩ := trsLatch_shows (F := Fld.TRS_CH_FAULT_OVERLOAD) hn (by decide)
    exact ⟨hlatch rfl, sameMem_of_kept (by simp), hbit, congrArg Channel.latched hcore⟩
  · split
    · obtain ⟨hbit, hcore⟩ := trsLatch_shows (F := Fld.TRS_CH_FAULT_BURST) hn (by decide)
      refine ⟨hlatch rfl, sameMem_of_kept (by simp), hbit, ?_⟩
      refine (nth_updAt_keeps ({} : Channel) _ n n _ Channel.latched fun _ => ?_).trans (congrArg Channel.latched hcore)
      rfl
    · refine ⟨settle_modChan_regs (SameRegs.refl s _) _ (trsStatRegs_cons _), sameMem_of_kept (by simp),
        congrArg Channel.burst (settle_modChan hn _), settle_modChan_burstCnt _⟩

/-- The restart is counted in STAT and in CNT. -/
def State.restarted (s : State) (n : Nat) : State := (s.inc (Fld.TRS_CH_STAT_BURST_CNT n)).inc (Fld.TRS_CH_CNT_RESTARTS n)

theorem restarted_shows (s : State) (n : Fin 16) :
    (s.restarted n).get (Fld.TRS_CH_STAT_BURST_CNT n) = min 15 (s.get (Fld.TRS_CH_STAT_BURST_CNT n) + 1) ∧
    (s.restarted n).get (Fld.TRS_CH_CNT_RESTARTS n) = min 65535 (s.get (Fld.TRS_CH_CNT_RESTARTS n) + 1) ∧
    SameRegs s (s.restarted n) (Reg.TRS_CH_CNT n :: trsStatRegs) := by
  refine ⟨?_, ?_, ((SameRegs.refl s _).andPut (f := Fld.TRS_CH_STAT_BURST_CNT n) (List.mem_cons_of_mem _ (trsStat_mem n).1) _).andPut
    (f := Fld.TRS_CH_CNT_RESTARTS n) (List.mem_cons_self ..) _⟩
  · exact (get_inc_other (F := Fld.TRS_CH_CNT_RESTARTS) (G := Fld.TRS_CH_STAT_BURST_CNT) (by decide) n).trans
      (get_inc_self (F := Fld.TRS_CH_STAT_BURST_CNT) (by decide) n)
  · refine (get_inc_self (F := Fld.TRS_CH_CNT_RESTARTS) (m := 65535) (by decide) n).trans ?_
    rw [get_inc_other (F := Fld.TRS_CH_STAT_BURST_CNT) (G := Fld.TRS_CH_CNT_RESTARTS) (by decide) n]

theorem burstRestart_shows {s : State} {n : Fin 16} (hn : n.val < s.trs.chans.length) (h2 : s.get (Fld.TRS_CH_STAT_STATE n) = 2) :
    Completes (.burstRestart n) s (fun t => SameRegs s t (Reg.TRS_CH_CNT n :: trsStatRegs) ∧ SameMem s t ∧
      t.get (Fld.TRS_CH_STAT_BURST_CNT n) = min 15 (s.get (Fld.TRS_CH_STAT_BURST_CNT n) + 1) ∧
      t.get (Fld.TRS_CH_CNT_RESTARTS n) = min 65535 (s.get (Fld.TRS_CH_CNT_RESTARTS n) + 1) ∧ (t.chan n).burst = false) := by
  refine ⟨((s.restarted n).modChan n (fun c => { c with burst := false })).trsSettle n, congrArg Host.Outcome.next (if_neg (by simp [h2])), ?_⟩
  obtain ⟨hburst, hrestarts, hregs⟩ := restarted_shows s n
  have hlen : (s.restarted n).trs = s.trs := rfl
  have hmem : (s.restarted n).kept = s.kept := rfl
  generalize s.restarted n = u at *
  exact ⟨settle_modChan_regs hregs _ (trsStatRegs_cons _), sameMem_of_kept (by simp [hmem]), (settle_modChan_burstCnt _).trans hburst,
    (settle_modChan_get _ (trsFault_notMem n).2).trans hrestarts, congrArg Channel.burst (settle_modChan (by rw [hlen]; exact hn) _)⟩

/-! ### The junction's temperature (R677) -/

/-- Thermal shutdowns of the last 10 s, this one included. -/
def State.thermsNow (s : State) (n : Nat) : List Nat := s.siteNs :: (s.chan n).therms.filter (fun x => decide (s.siteNs - x ≤ 10000000000))

/-- The shutdown is counted, and the channel is hot. -/
def State.overheated (s : State) (n : Nat) : State :=
  (s.inc (Fld.TRS_CH_CNT_THERMAL n)).modChan n (fun c => { c with hot := true, therms := s.thermsNow n })

theorem exec_thermalShutdown {s : State} {n : Fin 16} (hot : (s.chan n).hot = false) (hh : (s.chan n).hold = none) :
    exec (.thermalShutdown n) s = .next (
      if s.bit (Fld.TRS_CH_CFG_THERM_LATCH n) = true ∨ s.get (Fld.TRS_CH_PROT_THERM_N n) < (s.thermsNow n).length then
        (((s.overheated n).put (Fld.TRS_CH_STAT_BURST_CNT n) 0).modChan n (fun c => { c with burst := false })).trsLatch n
          (Fld.TRS_CH_FAULT_THERM n)
      else (((s.overheated n).putB (Fld.TRS_CH_FAULT_THERM n) true).modChan n (fun c => { c with therm := true })).trsSettle n) := by
  refine congrArg Host.Outcome.next ((if_neg (by simp [hot])).trans ?_)
  simp only [hh, Option.isSome_none, Bool.false_eq_true, if_false, Bool.or_eq_true, decide_eq_true_eq]
  rfl

theorem overheated_thermal (s : State) (n : Fin 16) :
    (s.overheated n).get (Fld.TRS_CH_CNT_THERMAL n) = min 65535 (s.get (Fld.TRS_CH_CNT_THERMAL n) + 1) :=
  (modChan_get _ n _ _).trans (get_inc_self (F := Fld.TRS_CH_CNT_THERMAL) (by decide) n)

theorem overheated_chan {s : State} {n : Fin 16} (hn : n.val < s.trs.chans.length) :
    (s.overheated n).chan n = { s.chan n with hot := true, therms := s.thermsNow n } := chan_modChan (s.inc _) _ hn

theorem overheated_length (s : State) (n : Nat) : (s.overheated n).trs.chans.length = s.trs.chans.length := length_updAt ..

/-- Registers of a thermal shutdown. -/
def thermRegs (n : Nat) : List Nat := [Reg.TRS_CH_CNT n, Reg.TRS_CH_FAULT n] ++ trsStatRegs

theorem thermRegs_mem (n : Fin 16) : Reg.TRS_CH_CNT n ∈ thermRegs n ∧ Reg.TRS_CH_FAULT n ∈ thermRegs n ∧ Reg.TRS_CH_STAT n ∈ thermRegs n ∧
    trsStatRegs ⊆ thermRegs n :=
  ⟨by simp [thermRegs], by simp [thermRegs], List.mem_append_right _ (trsStat_mem n).1, List.subset_append_right ..⟩

theorem overheated_regs (s : State) (n : Fin 16) : SameRegs s (s.overheated n) (thermRegs n) :=
  fun a ha => (modChan_reg _ n _ a).trans ((SameRegs.refl s _).andPut (f := Fld.TRS_CH_CNT_THERMAL n) (thermRegs_mem n).1 _ a ha)

theorem thermalShutdown_shows {s : State} {n : Fin 16} (hn : n.val < s.trs.chans.length) (hot : (s.chan n).hot = false)
    (hh : (s.chan n).hold = none) :
    Completes (.thermalShutdown n) s (fun t => SameRegs s t (thermRegs n) ∧ SameMem s t ∧
      t.get (Fld.TRS_CH_CNT_THERMAL n) = min 65535 (s.get (Fld.TRS_CH_CNT_THERMAL n) + 1) ∧ t.bit (Fld.TRS_CH_FAULT_THERM n) = true ∧
      (t.chan n).hot = true ∧
      (if s.bit (Fld.TRS_CH_CFG_THERM_LATCH n) = true ∨ s.get (Fld.TRS_CH_PROT_THERM_N n) < (s.thermsNow n).length
       then (t.chan n).latched = true else (t.chan n).therm = true)) := by
  refine ⟨_, exec_thermalShutdown hot hh, ?_⟩
  obtain ⟨-, hfault, hstat, hsub⟩ := thermRegs_mem n
  have hlen := overheated_length s n
  have hchan := overheated_chan hn
  have hthermal := overheated_thermal s n
  have hregs := overheated_regs s n
  have hmem : (s.overheated n).kept = s.kept := rfl
  generalize s.overheated n = u at *
  split
  · generalize hv : (u.put (Fld.TRS_CH_STAT_BURST_CNT n) 0).modChan n (fun c => { c with burst := false }) = v
    have hvl : n.val < v.trs.chans.length := by rw [← hv, State.modChan, length_updAt, put_trs]; omega
    have hvc : v.chan n = { u.chan n with burst := false } := hv ▸ chan_modChan (u.put _ 0) _ (by rw [put_trs]; omega)
    have hvr : SameRegs s v (thermRegs n) := fun a ha =>
      (hv ▸ modChan_reg _ n _ a).trans (hregs.andPut (f := Fld.TRS_CH_STAT_BURST_CNT n) hstat 0 a ha)
    have hvg : v.get (Fld.TRS_CH_CNT_THERMAL n) = u.get (Fld.TRS_CH_CNT_THERMAL n) :=
      (hv ▸ modChan_get _ n _ _).trans (get_put_other (F := Fld.TRS_CH_STAT_BURST_CNT) (G := Fld.TRS_CH_CNT_THERMAL) (by decide) n _)
    have hvm : v.kept = s.kept := by rw [← hv, State.modChan_kept, put_kept, hmem]
    clear hv
    obtain ⟨hbit, hcore⟩ := trsLatch_shows (u := v) (F := Fld.TRS_CH_FAULT_THERM) hvl (by decide)
    rw [hvc, hchan] at hcore
    refine ⟨hvr.latch hsub hfault, sameMem_of_kept (by simp [hvm]), ?_, hbit, congrArg Channel.hot hcore, congrArg Channel.latched hcore⟩
    calc (v.trsLatch n (Fld.TRS_CH_FAULT_THERM n)).get (Fld.TRS_CH_CNT_THERMAL n)
      _ = (v.putB (Fld.TRS_CH_FAULT_THERM n) true).get (Fld.TRS_CH_CNT_THERMAL n) := settle_modChan_get _ (trsFault_notMem n).2
      _ = v.get (Fld.TRS_CH_CNT_THERMAL n) := get_putB_other (F := Fld.TRS_CH_FAULT_THERM) (G := Fld.TRS_CH_CNT_THERMAL) (by decide) n _
      _ = u.get (Fld.TRS_CH_CNT_THERMAL n) := hvg
      _ = _ := hthermal
  · have hcore := settle_modChan (u := u.putB (Fld.TRS_CH_FAULT_THERM n) true) (n := n) (by rw [putB_trs]; omega)
      (fun c => { c with therm := true })
    have huc : (u.putB (Fld.TRS_CH_FAULT_THERM n) true).chan n = u.chan n := rfl
    rw [huc, hchan] at hcore
    refine ⟨settle_modChan_regs (hregs.andPut (f := Fld.TRS_CH_FAULT_THERM n) hfault 1) _ hsub, sameMem_of_kept (by simp [hmem]), ?_, ?_,
      congrArg Channel.hot hcore, congrArg Channel.therm hcore⟩
    · exact (settle_modChan_get _ (trsFault_notMem n).2).trans
        ((get_putB_other (F := Fld.TRS_CH_FAULT_THERM) (G := Fld.TRS_CH_CNT_THERMAL) (by decide) n _).trans hthermal)
    · exact (settle_modChan_bit _ (trsFault_notMem n).1).trans
        (bit_putB_self (F := Fld.TRS_CH_FAULT_THERM) (by decide) n true)

/-- Settles O48: each event updates the channel's record and registers, and the channel settles. -/
theorem trestleProtectionActs : Obligations.TrestleProtectionActs := by
  unfold Obligations.TrestleProtectionActs
  intro s n hs
  have hn : n.val < s.trs.chans.length := by rw [chans_of_shaped hs]; exact n.isLt
  refine ⟨currentLimitExpiry_shows hn, burstRestart_shows hn, fun h => congrArg Host.Outcome.next (if_pos h),
    thermalShutdown_shows hn, ?_⟩
  have hcore := settle_modChan hn (fun c => { c with hot := false, therm := false })
  exact ⟨_, rfl, settle_modChan_regs (SameRegs.refl s _) _ (List.Subset.refl _), sameMem_of_kept (by simp),
    congrArg Channel.hot hcore, congrArg Channel.therm hcore⟩

end Sys2Proof.Machine

/-! SUPPORT. Register writes that take effect whole, and what a write by code leaves of one field. -/

namespace Sys2Proof.Machine

/-- A write that takes effect whole in a block of registers other than the metering block acts on its register. -/
theorem wr_reg {s : State} {m : Master} {a : Nat} (v : Word) (h : s.takes m a = true)
    (ha : 0x4000 ≤ a / 0x10000 ∧ a / 0x10000 ≤ 0x4012 ∧ a / 0x10000 ≠ 0x4009) : s.wr m a v = s.writeReg m a v.toNat :=
  wr_of_takes v h ((blockOf_eq_reg_iff a).2 ⟨ha.1, ha.2.1⟩) ha.2.2

/-- The same for a row of `k` registers. -/
theorem wr_row {k : Nat} {A : Nat → Nat} (hA : ∀ n : Fin k, 0x4000 ≤ A n / 0x10000 ∧ A n / 0x10000 ≤ 0x4012 ∧ A n / 0x10000 ≠ 0x4009)
    {s : State} {m : Master} {n : Fin k} (v : Word) (h : s.takes m (A n) = true) : s.wr m (A n) v = s.writeReg m (A n) v.toNat :=
  wr_reg v h (hA n)

/-- The register at `a` has field f, and is not the one that shows the seal. -/
def rowHas (a : Nat) (f : FieldDesc) : Bool :=
  a != Reg.PYL_IMGSTAT && (match findReg a with | some r => decide (f ∈ r.fields) | none => false)

theorem get_writeByCode_row (s : State) {a : Nat} (v : Nat) {f : FieldDesc} (h : rowHas a f = true) :
    (s.writeByCode a v).get ⟨a, f.lo, f.w⟩ = f.after s.isSealed (s.get ⟨a, f.lo, f.w⟩) (fieldOf v f.lo f.w) := by
  unfold rowHas at h
  rw [Bool.and_eq_true, bne_iff_ne] at h
  obtain ⟨ha, h⟩ := h
  split at h
  next r hr => exact get_writeByCode s v hr ha f (of_decide_eq_true h)
  · cases h

section
variable {k : Nat} {A : Nat → Nat} {f : FieldDesc} (h : ∀ n : Fin k, rowHas (A n) f = true)
include h

/-- A plain field takes its bits of the word written. -/
theorem get_writeByCode_rw (hf : f.acc = .rw) (s : State) (n : Fin k) (v : Nat) :
    (s.writeByCode (A n) v).get ⟨A n, f.lo, f.w⟩ = fieldOf v f.lo f.w := by
  rw [get_writeByCode_row s v (h n), FieldDesc.after, hf]

/-- A field that a write of 1 clears keeps the bits that are not written. -/
theorem get_writeByCode_w1c (hf : f.acc = .w1c) (s : State) (n : Fin k) (v : Nat) :
    (s.writeByCode (A n) v).get ⟨A n, f.lo, f.w⟩ = mclr (s.get ⟨A n, f.lo, f.w⟩) (fieldOf v f.lo f.w) := by
  rw [get_writeByCode_row s v (h n), FieldDesc.after, hf]

/-- A field that only the device writes stays. -/
theorem get_writeByCode_ro (hf : f.acc = .ro) (s : State) (n : Fin k) (v : Nat) :
    (s.writeByCode (A n) v).get ⟨A n, f.lo, f.w⟩ = s.get ⟨A n, f.lo, f.w⟩ := by
  rw [get_writeByCode_row s v (h n), FieldDesc.after, hf]

end

end Sys2Proof.Machine

/-! SUPPORT for O49. Commands to the leader of a group, and the writes of the Trestle's registers. -/

namespace Sys2Proof.Machine

theorem writeReg_trsCtrl (s : State) (m : Master) (n : Fin 16) (v : Nat) : s.writeReg m (Reg.TRS_CH_CTRL n) v = s.wrTrsCtrl n v := by
  fin_cases n <;> rfl

theorem writeReg_trsFault (s : State) (m : Master) (n : Fin 16) (v : Nat) : s.writeReg m (Reg.TRS_CH_FAULT n) v = s.wrTrsFault n v := by
  fin_cases n <;> rfl

theorem exec_trestleCommand {s : State} {m : Master} {n : Fin 16} (v : Word) (h : s.takes m (Reg.TRS_CH_CTRL n) = true) :
    exec (.trestleCommand m n v) s = .next (s.wrTrsCtrl n v.toNat) := by
  rw [← writeReg_trsCtrl s m, ← wr_row (A := Reg.TRS_CH_CTRL) (by decide) v h]
  rfl

theorem exec_trestleFaultClear {s : State} {m : Master} {n : Fin 16} (v : Word) (h : s.takes m (Reg.TRS_CH_FAULT n) = true) :
    exec (.trestleFaultClear m n v) s = .next (s.wrTrsFault n v.toNat) := by
  rw [← writeReg_trsFault s m, ← wr_row (A := Reg.TRS_CH_FAULT) (by decide) v h]
  rfl

/-! ### What the group of a channel rests on -/

theorem trsLeader_congr {s u : State} (h : ∀ k < 16, u.reg (Reg.TRS_CH_CFG k) = s.reg (Reg.TRS_CH_CFG k)) {n : Nat} (hn : n < 16) :
    u.trsLeader n = s.trsLeader n := by
  unfold State.trsLeader
  rw [bit_of_reg (f := Fld.TRS_CH_CFG_IN_USE n) (h n hn), get_of_reg (f := Fld.TRS_CH_CFG_GROUP n) (h n hn)]

theorem trsMembers_congr {s u : State} (h : ∀ k < 16, u.reg (Reg.TRS_CH_CFG k) = s.reg (Reg.TRS_CH_CFG k)) (l : Nat) :
    u.trsMembers l = s.trsMembers l := by
  refine List.filter_congr fun k hk => ?_
  have hk : k < 16 := List.mem_range.1 hk
  rw [trsLeader_congr h hk, bit_of_reg (f := Fld.TRS_CH_CFG_IN_USE k) (h k hk)]

/-! ### A command reaches the members (R669, R672, R673) -/

/-- A member's record once it has the command w. -/
def Channel.commanded (c : Channel) (w pwmF : Nat) : Channel :=
  { c with want := w, duty := if w = 0 || pwmF == 0 then w else c.duty, burst := c.burst && w != 0 }

/-- Member k takes the command w. -/
def State.commandOne (w : Nat) (s : State) (k : Nat) : State :=
  let t := s.modChan k (fun c => c.commanded w (s.get (Fld.TRS_CH_CFG_PWM_F k)))
  if w = 0 then t.put (Fld.TRS_CH_STAT_BURST_CNT k) 0 else t

/-- The members of leader l take its command. -/
def State.commandAll (s : State) (l : Nat) : State := forEach (s.trsMembers l) s (State.commandOne (s.trsWant l))

theorem trsCommand_eq (s : State) (l : Nat) : s.trsCommand l = (s.commandAll l).trsSettle l := (rfl)

theorem commandOne_reg (w : Nat) (s : State) {k a : Nat} (h : a ≠ Reg.TRS_CH_STAT k) : (s.commandOne w k).reg a = s.reg a := by
  unfold State.commandOne
  dsimp only
  split
  · exact (reg_put_ne _ _ h).trans (modChan_reg s k _ a)
  · exact modChan_reg s k _ a

theorem commandOne_length (w : Nat) (s : State) (k : Nat) : (s.commandOne w k).trs.chans.length = s.trs.chans.length := by
  unfold State.commandOne
  dsimp only
  split <;> exact length_updAt ..

theorem commandOne_chan (w : Nat) (s : State) {k : Nat} (h : k < s.trs.chans.length) :
    (s.commandOne w k).chan k = (s.chan k).commanded w (s.get (Fld.TRS_CH_CFG_PWM_F k)) := by
  have hm := chan_modChan s (fun c => c.commanded w (s.get (Fld.TRS_CH_CFG_PWM_F k))) h
  unfold State.commandOne
  dsimp only
  split <;> exact hm

theorem commandOne_chan_ne (w : Nat) (s : State) {k x : Nat} (h : k ≠ x) : (s.commandOne w x).chan k = s.chan k := by
  unfold State.commandOne
  dsimp only
  split <;> exact nth_updAt_ne ({} : Channel) _ _ h

theorem commandOne_held (w : Nat) (s : State) (k n : Nat) : (s.commandOne w k).bit (Fld.TRS_CH_STAT_HELD n) = s.bit (Fld.TRS_CH_STAT_HELD n) := by
  have hput (t : State) : (t.put (Fld.TRS_CH_STAT_BURST_CNT k) 0).bit (Fld.TRS_CH_STAT_HELD n) = t.bit (Fld.TRS_CH_STAT_HELD n) := by
    refine bit_put_apart t 0 ?_
    simp [FieldRef.apart, Fld.TRS_CH_STAT_BURST_CNT, Fld.TRS_CH_STAT_HELD]
  unfold State.commandOne
  dsimp only
  split
  · exact hput _
  · rfl

theorem trsMembers_nodup (s : State) (l : Nat) : (s.trsMembers l).Nodup := List.Nodup.filter _ List.nodup_range

theorem commandAll_regs (s : State) (l : Nat) : SameRegs s (s.commandAll l) trsStatRegs := fun a ha =>
  forEach_keeps (fun t => t.reg a) _ s _ fun t k hk => commandOne_reg _ t fun e => ha (e ▸ (trsStat_mem ⟨k, mem_trsMembers hk⟩).1)

theorem commandAll_held (s : State) (l n : Nat) : (s.commandAll l).bit (Fld.TRS_CH_STAT_HELD n) = s.bit (Fld.TRS_CH_STAT_HELD n) :=
  forEach_keeps (fun t => t.bit (Fld.TRS_CH_STAT_HELD n)) _ s _ fun t k _ => commandOne_held _ t k n

/-- Every member has the command, once each has taken it in its turn. -/
theorem commandAll_chan {s : State} (hs : s.trs.chans.length = 16) {l k : Nat} (hk : k ∈ s.trsMembers l) :
    (s.commandAll l).chan k = (s.chan k).commanded (s.trsWant l) (s.get (Fld.TRS_CH_CFG_PWM_F k)) := by
  have hk16 := mem_trsMembers hk
  let A (q : State) : Prop := q.trs.chans.length = 16 ∧ q.chan k = s.chan k ∧ q.get (Fld.TRS_CH_CFG_PWM_F k) = s.get (Fld.TRS_CH_CFG_PWM_F k)
  let B (q : State) : Prop := q.chan k = (s.chan k).commanded (s.trsWant l) (s.get (Fld.TRS_CH_CFG_PWM_F k))
  refine foldl_reaches (A := A) (B := B) hk (trsMembers_nodup s l) (fun q x hx hq => ?_) (fun q hq => ?_) (fun q x hx hq => ?_) ⟨hs, rfl, rfl⟩
  · obtain ⟨hlen, hchan, hpwm⟩ := hq
    have hne : Reg.TRS_CH_CFG k ≠ Reg.TRS_CH_STAT x := by simp only [Reg.TRS_CH_CFG, Reg.TRS_CH_STAT]; omega
    exact ⟨(commandOne_length _ q x).trans hlen, (commandOne_chan_ne _ q hx.symm).trans hchan,
      (get_of_reg (f := Fld.TRS_CH_CFG_PWM_F k) (commandOne_reg _ q hne)).trans hpwm⟩
  · obtain ⟨hlen, hchan, hpwm⟩ := hq
    show (State.commandOne _ q k).chan k = _
    rw [commandOne_chan _ q (by omega), hchan, hpwm]
  · exact (commandOne_chan_ne _ q hx.symm).trans hq

/-- The control register of channel n as written, HELD cleared. -/
def State.ctrlWritten (s : State) (n v : Nat) : State := (s.writeByCode (Reg.TRS_CH_CTRL n) v).putB (Fld.TRS_CH_STAT_HELD n) false

theorem ctrlWritten_shows (s : State) (n : Fin 16) {v : Nat} (hv : v < 2 ^ 32) :
    (s.ctrlWritten n v).bit (Fld.TRS_CH_CTRL_ON n) = v.testBit 0 ∧ (s.ctrlWritten n v).get (Fld.TRS_CH_CTRL_DUTY n) = v / 2 ^ 24 ∧
    (s.ctrlWritten n v).bit (Fld.TRS_CH_STAT_HELD n) = false ∧
    SameRegs s (s.ctrlWritten n v) (Reg.TRS_CH_CTRL n :: trsStatRegs) := by
  have hon := get_writeByCode_rw (A := Reg.TRS_CH_CTRL) (f := ⟨0, 1, .rw, 0, false⟩) (by decide +kernel) rfl s n v
  have hduty := get_writeByCode_rw (A := Reg.TRS_CH_CTRL) (f := ⟨24, 8, .rw, 0, true⟩) (by decide +kernel) rfl s n v
  have hregs : SameRegs s (s.writeByCode (Reg.TRS_CH_CTRL n) v) (Reg.TRS_CH_CTRL n :: trsStatRegs) :=
    (sameRegs_writeByCode s _ v).mono fun a ha => List.mem_cons.2 (.inl (List.mem_singleton.1 ha))
  unfold State.ctrlWritten
  generalize s.writeByCode (Reg.TRS_CH_CTRL n) v = u at *
  refine ⟨?_, ?_, bit_putB_self (F := Fld.TRS_CH_STAT_HELD) (by decide) n false,
    hregs.andPut (f := Fld.TRS_CH_STAT_HELD n) (List.mem_cons_of_mem _ (trsStat_mem n).1) _⟩
  · rw [bit_putB_other (F := Fld.TRS_CH_STAT_HELD) (G := Fld.TRS_CH_CTRL_ON) (by decide)]
    exact (congrArg (· != 0) hon).trans (fieldOf_bit v 0)
  · rw [get_putB_other (F := Fld.TRS_CH_STAT_HELD) (G := Fld.TRS_CH_CTRL_DUTY) (by decide)]
    exact hduty.trans (Nat.mod_eq_of_lt (show v / 2 ^ 24 < 2 ^ 8 by omega))

theorem ctrlWritten_trs (s : State) (n v : Nat) : (s.ctrlWritten n v).trs = s.trs := by
  have h := onlyRegs_writeByCode s (Reg.TRS_CH_CTRL n) v
  unfold State.ctrlWritten
  rw [putB_trs, h]

theorem ctrlWritten_img (s : State) (n v : Nat) : (s.ctrlWritten n v).img = s.img := by
  have h := onlyRegs_writeByCode s (Reg.TRS_CH_CTRL n) v
  unfold State.ctrlWritten
  rw [putB_img, h]

theorem trsOwner_congr {s u : State} (h : u.img = s.img) (n : Nat) : u.trsOwner n = s.trsOwner n := by
  have himg (t : State) : t.trsOwner n = ({ img := t.img } : State).trsOwner n := rfl
  rw [himg, h, ← himg]

theorem trsWant_unowned {s : State} {n : Nat} (h : s.trsOwner n = none) :
    s.trsWant n = if s.bit (Fld.TRS_CH_CTRL_ON n) then s.get (Fld.TRS_CH_CTRL_DUTY n) else 0 := by
  unfold State.trsWant
  rw [h]

theorem wrTrsCtrl_ignored {s : State} {n : Nat} (v : Nat) (h : (s.trsOwner n).isSome = true ∨ s.trsLeader n ≠ n) : s.wrTrsCtrl n v = s :=
  if_pos (by simpa using h)

theorem wrTrsCtrl_taken {s : State} {n : Nat} (v : Nat) (h : (s.trsOwner n).isSome = false) (hl : s.trsLeader n = n) :
    s.wrTrsCtrl n v = ((s.ctrlWritten n v).commandAll n).trsSettle n := if_neg (by simp [h, hl])

end Sys2Proof.Machine

/-! PROOFS. Commands, fault clears, diagnosis and load dump of the channels (O49). -/

namespace Sys2Proof.Machine

/-! ### Commands and fault clears (R669, R680) -/

theorem trestleCommand_shows {s : State} {m : Master} {n : Fin 16} {v : Word} (hc : s.trs.chans.length = 16)
    (ht : s.takes m (Reg.TRS_CH_CTRL n) = true) (ho : (s.trsOwner n).isSome = false) (hl : s.trsLeader n = n) :
    Completes (.trestleCommand m n v) s (fun t =>
      let w := if v.toNat.testBit 0 then v.toNat / 2 ^ 24 else 0
      t.bit (Fld.TRS_CH_CTRL_ON n) = v.toNat.testBit 0 ∧ t.get (Fld.TRS_CH_CTRL_DUTY n) = v.toNat / 2 ^ 24 ∧
      t.bit (Fld.TRS_CH_STAT_HELD n) = false ∧
      (∀ k ∈ s.trsMembers n, (t.chan k).want = w ∧
        (t.chan k).duty = (if w = 0 ∨ s.get (Fld.TRS_CH_CFG_PWM_F k) = 0 then w else (s.chan k).duty)) ∧
      SameRegs s t (Reg.TRS_CH_CTRL n :: trsStatRegs) ∧ SameMem s t) := by
  refine ⟨_, (exec_trestleCommand v ht).trans (congrArg Host.Outcome.next (wrTrsCtrl_taken v.toNat ho hl)), ?_⟩
  obtain ⟨hon, hduty, hheld, hregs⟩ := ctrlWritten_shows s n v.isLt
  have htrs := ctrlWritten_trs s n v.toNat
  have howner : (s.ctrlWritten n v.toNat).trsOwner n = none :=
    (trsOwner_congr (ctrlWritten_img s n v.toNat) n).trans (by simpa using ho)
  have hmem : (s.ctrlWritten n v.toNat).kept = s.kept := by simp [State.ctrlWritten]
  generalize s.ctrlWritten n v.toNat = u at *
  have hcfg : ∀ k < 16, u.reg (Reg.TRS_CH_CFG k) = s.reg (Reg.TRS_CH_CFG k) := fun k hk =>
    hregs _ ((by decide : ∀ n k : Fin 16, Reg.TRS_CH_CFG k ∉ Reg.TRS_CH_CTRL n :: trsStatRegs) n ⟨k, hk⟩)
  have hmembers := trsMembers_congr hcfg n
  have hwant := trsWant_unowned howner
  rw [hon, hduty] at hwant
  have hctrl : Reg.TRS_CH_CTRL n ∉ trsStatRegs := (by decide : ∀ n : Fin 16, Reg.TRS_CH_CTRL n ∉ trsStatRegs) n
  have hall := commandAll_regs u n
  refine ⟨?_, ?_, ?_, fun k hk => ?_, ?_, sameMem_of_kept ?_⟩
  · exact (trsSettle_bit (f := Fld.TRS_CH_CTRL_ON n) hctrl).trans ((bit_of_reg (f := Fld.TRS_CH_CTRL_ON n) (hall _ hctrl)).trans hon)
  · exact (trsSettle_get (f := Fld.TRS_CH_CTRL_DUTY n) hctrl).trans ((get_of_reg (f := Fld.TRS_CH_CTRL_DUTY n) (hall _ hctrl)).trans hduty)
  · exact (congrArg (· != 0) (trsSettle_get_stat (u.commandAll n) n n 6 1 (by decide))).trans ((commandAll_held u n n).trans hheld)
  · have hchan : (u.commandAll n).chan k = (s.chan k).commanded (u.trsWant n) (s.get (Fld.TRS_CH_CFG_PWM_F k)) := by
      rw [commandAll_chan (by rw [htrs, hc]) (hmembers.symm ▸ hk), get_of_reg (f := Fld.TRS_CH_CFG_PWM_F k) (hcfg k (mem_trsMembers hk))]
      exact congrArg (Channel.commanded · _ _) (congrArg (fun t : Trestle => nth ({} : Channel) t.chans k) htrs)
    have hcore := trsSettle_core (u.commandAll n) n k
    rw [hchan, hwant] at hcore
    refine ⟨congrArg Channel.want hcore, (congrArg Channel.duty hcore).trans ?_⟩
    simp only [Channel.commanded, Channel.core, Bool.or_eq_true, decide_eq_true_eq, beq_iff_eq]
  · exact SameRegs.settle (fun a ha => (hall a fun h => ha (List.mem_cons_of_mem _ h)).trans (hregs a ha)) (trsStatRegs_cons _)
  · rw [State.trsSettle_kept, ← hmem]
    exact kept_forEach _ _ _ fun t k => by
      unfold State.commandOne
      dsimp only
      split <;> simp

theorem fieldOf_one (v lo : Nat) : fieldOf v lo 1 = (v.testBit lo).toNat := by
  have h := fieldOf_bit v lo
  have hlt := fieldOf_lt v lo 1
  interval_cases hf : fieldOf v lo 1 <;> simp_all

/-- A write of FAULT clears the bits that it writes 1. -/
theorem faultWritten_testBit (s : State) (n : Fin 16) (v : Nat) (b : Fin 6) :
    ((s.writeByCode (Reg.TRS_CH_FAULT n) v).reg (Reg.TRS_CH_FAULT n)).testBit b =
      ((s.reg (Reg.TRS_CH_FAULT n)).testBit b && !v.testBit b) := by
  have hrow : ∀ b : Fin 6, ∀ n : Fin 16, rowHas (Reg.TRS_CH_FAULT n) ⟨b, 1, .w1c, 0, false⟩ = true := by decide +kernel
  have h := get_writeByCode_w1c (A := Reg.TRS_CH_FAULT) (f := ⟨b, 1, .w1c, 0, false⟩) (hrow b) rfl s n v
  simp only [State.get, fieldOf_one] at h
  revert h
  cases ((s.writeByCode (Reg.TRS_CH_FAULT n) v).reg (Reg.TRS_CH_FAULT n)).testBit b <;>
    cases (s.reg (Reg.TRS_CH_FAULT n)).testBit b <;> cases v.testBit b <;> decide

/-- A channel that is not hot leaves LATCHED when a bit of FAULT is cleared. -/
theorem wrTrsFault_cold {s : State} {n : Nat} (v : Nat) (h : (s.chan n).hot = false) :
    s.wrTrsFault n v = if (s.reg (Reg.TRS_CH_FAULT n) &&& v) ≠ 0 ∧ (s.chan n).latched = true then
      (((s.writeByCode (Reg.TRS_CH_FAULT n) v).put (Fld.TRS_CH_STAT_BURST_CNT n) 0).modChan n
        (fun c => { c with latched := false, burst := false })).trsSettle n
      else s.writeByCode (Reg.TRS_CH_FAULT n) v := by
  have htrs : (s.writeByCode (Reg.TRS_CH_FAULT n) v).trs = s.trs := by
    rw [onlyRegs_writeByCode s (Reg.TRS_CH_FAULT n) v]
  have hchan : (s.writeByCode (Reg.TRS_CH_FAULT n) v).chan n = s.chan n := congrArg (fun t : Trestle => nth ({} : Channel) t.chans n) htrs
  unfold State.wrTrsFault
  simp only [h, Bool.false_and, Bool.false_eq_true, if_false, Bool.or_false, decide_eq_true_eq, hchan]
  by_cases hz : s.reg (Reg.TRS_CH_FAULT n) &&& v = 0
  · rw [if_pos hz, if_neg (by simp [hz])]
  · rw [if_neg hz]
    exact if_congr (by simp [hz]) rfl rfl

theorem trestleFaultClear_shows {s : State} {m : Master} {n : Fin 16} {v : Word} (hn : n.val < s.trs.chans.length)
    (ht : s.takes m (Reg.TRS_CH_FAULT n) = true) (hot : (s.chan n).hot = false) :
    Completes (.trestleFaultClear m n v) s (fun t =>
      (∀ b : Fin 6, (t.reg (Reg.TRS_CH_FAULT n)).testBit b = ((s.reg (Reg.TRS_CH_FAULT n)).testBit b && !v.toNat.testBit b)) ∧
      (t.chan n).latched = ((s.chan n).latched && (s.reg (Reg.TRS_CH_FAULT n) &&& v.toNat) == 0) ∧
      SameRegs s t (Reg.TRS_CH_FAULT n :: trsStatRegs) ∧ SameMem s t) := by
  refine ⟨_, (exec_trestleFaultClear v ht).trans (congrArg Host.Outcome.next (wrTrsFault_cold v.toNat hot)), ?_⟩
  have hbits := faultWritten_testBit s n v.toNat
  have hregs : SameRegs s (s.writeByCode (Reg.TRS_CH_FAULT n) v.toNat) (Reg.TRS_CH_FAULT n :: trsStatRegs) :=
    (sameRegs_writeByCode s _ _).mono fun a ha => List.mem_cons.2 (.inl (List.mem_singleton.1 ha))
  have hmem : (s.writeByCode (Reg.TRS_CH_FAULT n) v.toNat).kept = s.kept := by simp
  have htrs : (s.writeByCode (Reg.TRS_CH_FAULT n) v.toNat).trs = s.trs := by
    rw [onlyRegs_writeByCode s (Reg.TRS_CH_FAULT n) v.toNat]
  generalize s.writeByCode (Reg.TRS_CH_FAULT n) v.toNat = u at *
  have hchan : u.chan n = s.chan n := congrArg (fun t : Trestle => nth ({} : Channel) t.chans n) htrs
  split
  next hclr =>
    have hstat : Reg.TRS_CH_FAULT n ≠ Reg.TRS_CH_STAT n := by simp only [Reg.TRS_CH_FAULT, Reg.TRS_CH_STAT]; omega
    have hlen : n.val < (u.put (Fld.TRS_CH_STAT_BURST_CNT n) 0).trs.chans.length := by rw [put_trs, htrs]; exact hn
    refine ⟨fun b => ?_, ?_, settle_modChan_regs (hregs.andPut (f := Fld.TRS_CH_STAT_BURST_CNT n)
      (List.mem_cons_of_mem _ (trsStat_mem n).1) 0) _ (trsStatRegs_cons _), sameMem_of_kept (by simp [hmem])⟩
    · rw [trsSettle_reg _ n.isLt (trsFault_notMem n).1, modChan_reg, reg_put_ne u 0 hstat]
      exact hbits b
    · refine (congrArg Channel.latched (settle_modChan hlen _)).trans ?_
      simp [Channel.core, hclr.1]
  next hkeep =>
    refine ⟨hbits, ?_, hregs, sameMem_of_kept hmem⟩
    rw [hchan]
    cases hlat : (s.chan n).latched with
    | false => rfl
    | true => simpa [hlat] using hkeep

/-! ### Samples (R682, R683) -/

/-- The limit's state and the load current of a sample are shown. -/
def State.limitShown (s : State) (n ua : Nat) (limiting : Bool) : State :=
  (s.putB (Fld.TRS_CH_STAT_LIMIT n) limiting).modChan n (fun c => { c with ua := ua })

/-- A sample with the code joins the last eight, and ION takes their mean. -/
def State.sampleShown (s : State) (n code : Nat) : State :=
  let l := (code :: (s.chan n).samples).take 8
  ((s.putB (Fld.TRS_CH_STAT_RANGE n) false).modChan n (fun c => { c with samples := l })).put (Fld.TRS_CH_CUR_ION n)
    (roundFree ((l.sum : Rat) / l.length)).toNat

theorem limitShown_shows {s : State} {n : Fin 16} (hn : n.val < s.trs.chans.length) (ua : Nat) (limiting : Bool) :
    (s.limitShown n ua limiting).bit (Fld.TRS_CH_STAT_LIMIT n) = limiting ∧
    (s.limitShown n ua limiting).chan n = { s.chan n with ua := ua } ∧
    SameRegs s (s.limitShown n ua limiting) [Reg.TRS_CH_STAT n, Reg.TRS_CH_CUR n] ∧
    (s.limitShown n ua limiting).get (Fld.TRS_CH_STAT_STATE n) = s.get (Fld.TRS_CH_STAT_STATE n) ∧
    (s.limitShown n ua limiting).trs.chans.length = s.trs.chans.length := by
  refine ⟨?_, chan_modChan (s.putB _ _) _ hn, fun a ha => ?_, ?_, length_updAt ..⟩
  · exact (congrArg (· != 0) (modChan_get _ n _ _)).trans (bit_putB_self (F := Fld.TRS_CH_STAT_LIMIT) (by decide) n limiting)
  · exact (modChan_reg _ n _ a).trans (reg_put_ne s _ fun e : a = Reg.TRS_CH_STAT n => ha (e ▸ List.mem_cons_self ..))
  · exact (modChan_get _ n _ _).trans (get_putB_other (F := Fld.TRS_CH_STAT_LIMIT) (G := Fld.TRS_CH_STAT_STATE) (by decide) n _)

theorem sampleShown_shows {s : State} {n : Fin 16} (hn : n.val < s.trs.chans.length) (code : Nat) :
    (s.sampleShown n code).bit (Fld.TRS_CH_STAT_LIMIT n) = s.bit (Fld.TRS_CH_STAT_LIMIT n) ∧
    ((s.sampleShown n code).chan n).samples = (code :: (s.chan n).samples).take 8 ∧
    (s.sampleShown n code).get (Fld.TRS_CH_CUR_ION n) =
      (roundFree ((((code :: (s.chan n).samples).take 8).sum : Rat) / ((code :: (s.chan n).samples).take 8).length)).toNat % 65536 ∧
    SameRegs s (s.sampleShown n code) [Reg.TRS_CH_STAT n, Reg.TRS_CH_CUR n] := by
  unfold State.sampleShown
  generalize hl : (code :: (s.chan n).samples).take 8 = l
  have hchan : ((s.putB (Fld.TRS_CH_STAT_RANGE n) false).modChan n (fun c => { c with samples := l })).chan n = { s.chan n with samples := l } :=
    chan_modChan (s.putB _ _) _ hn
  have hbit : ((s.putB (Fld.TRS_CH_STAT_RANGE n) false).modChan n (fun c => { c with samples := l })).bit (Fld.TRS_CH_STAT_LIMIT n) =
      s.bit (Fld.TRS_CH_STAT_LIMIT n) :=
    (congrArg (· != 0) (modChan_get _ n _ _)).trans (bit_putB_other (F := Fld.TRS_CH_STAT_RANGE) (G := Fld.TRS_CH_STAT_LIMIT) (by decide) n _)
  have hregs : SameRegs s ((s.putB (Fld.TRS_CH_STAT_RANGE n) false).modChan n (fun c => { c with samples := l }))
      [Reg.TRS_CH_STAT n, Reg.TRS_CH_CUR n] := fun a ha =>
    (modChan_reg _ n _ a).trans (reg_put_ne s _ fun e : a = Reg.TRS_CH_STAT n => ha (e ▸ List.mem_cons_self ..))
  dsimp only
  generalize (s.putB (Fld.TRS_CH_STAT_RANGE n) false).modChan n (fun c => { c with samples := l }) = u at *
  refine ⟨?_, ?_, get_put_self_mod (F := Fld.TRS_CH_CUR_ION) (by decide) n _, hregs.andPut (f := Fld.TRS_CH_CUR_ION n) (by simp [Fld.TRS_CH_CUR_ION]) _⟩
  · exact (bit_put_other (F := Fld.TRS_CH_CUR_ION) (G := Fld.TRS_CH_STAT_LIMIT) (by decide) n _).trans hbit
  · exact congrArg Channel.samples hchan

theorem trsDelivered_congr {s u : State} {n : Nat} (hst : u.get (Fld.TRS_CH_STAT_STATE n) = s.get (Fld.TRS_CH_STAT_STATE n))
    (hc : (u.chan n).hold = (s.chan n).hold ∧ (u.chan n).duty = (s.chan n).duty)
    (hp : u.get (Fld.TRS_CH_CFG_PWM_F n) = s.get (Fld.TRS_CH_CFG_PWM_F n)) : u.trsDelivered n = s.trsDelivered n := by
  unfold State.trsDelivered
  rw [hst, hc.1, hc.2, hp]

/-- The sample is of a channel that is fully on outside a load dump, at the high range. -/
theorem limitShown_samples {s : State} {n : Fin 16} (hn : n.val < s.trs.chans.length) (ua : Nat) (limiting : Bool)
    (hd : s.bit Fld.TRS_SUPPLY_DUMP = false) (h255 : s.trsDelivered n = 255) (hlow : s.bit (Fld.TRS_CH_CFG_LOWRANGE n) = false) :
    (s.limitShown n ua limiting).bit Fld.TRS_SUPPLY_DUMP = false ∧ (s.limitShown n ua limiting).trsSampled n = true ∧
    (s.limitShown n ua limiting).bit (Fld.TRS_CH_CFG_LOWRANGE n) = false := by
  obtain ⟨-, hchan, hregs, hstate, -⟩ := limitShown_shows hn ua limiting
  generalize s.limitShown n ua limiting = u at *
  have hcfg : Reg.TRS_CH_CFG n ∉ [Reg.TRS_CH_STAT n, Reg.TRS_CH_CUR n] ∧ Reg.TRS_SUPPLY ∉ [Reg.TRS_CH_STAT n, Reg.TRS_CH_CUR n] :=
    (by decide : ∀ n : Fin 16, Reg.TRS_CH_CFG n ∉ [Reg.TRS_CH_STAT n, Reg.TRS_CH_CUR n] ∧ Reg.TRS_SUPPLY ∉ [Reg.TRS_CH_STAT n, Reg.TRS_CH_CUR n]) n
  have hpwm := get_of_reg (f := Fld.TRS_CH_CFG_PWM_F n) (hregs _ hcfg.1)
  have hdel : u.trsDelivered n = 255 := (trsDelivered_congr hstate ⟨by rw [hchan], by rw [hchan]⟩ hpwm).trans h255
  exact ⟨(bit_of_reg (f := Fld.TRS_SUPPLY_DUMP) (hregs _ hcfg.2)).trans hd, by simp [State.trsSampled, hdel],
    (bit_of_reg (f := Fld.TRS_CH_CFG_LOWRANGE n) (hregs _ hcfg.1)).trans hlow⟩

theorem exec_diagnosisSample {s : State} {n : Fin 16} (hn : n.val < s.trs.chans.length) (ua : Nat) (limiting : Bool)
    (h1 : s.get (Fld.TRS_CH_STAT_STATE n) = 1) (hd : s.bit Fld.TRS_SUPPLY_DUMP = false) (h255 : s.trsDelivered n = 255)
    (hlow : s.bit (Fld.TRS_CH_CFG_LOWRANGE n) = false) :
    exec (.diagnosisSample n ua limiting false) s =
      .next ((s.limitShown n ua limiting).sampleShown n (min 12000 (10 * (roundFree ((ua : Rat) / 10000)).toNat))) := by
  obtain ⟨hdump, hsampled, hlow'⟩ := limitShown_samples hn ua limiting hd h255 hlow
  refine congrArg Host.Outcome.next ((if_neg (by simp [h1])).trans ?_)
  unfold State.limitShown at hdump hsampled hlow'
  simp only [hdump, hsampled, hlow', Bool.not_true, Bool.or_self, Bool.false_eq_true, if_false, Bool.false_and]
  rfl

theorem diagnosisSample_shows {s : State} {n : Fin 16} (hn : n.val < s.trs.chans.length) (ua : Nat) (limiting : Bool)
    (h1 : s.get (Fld.TRS_CH_STAT_STATE n) = 1) (hd : s.bit Fld.TRS_SUPPLY_DUMP = false) (h255 : s.trsDelivered n = 255)
    (hlow : s.bit (Fld.TRS_CH_CFG_LOWRANGE n) = false) :
    Completes (.diagnosisSample n ua limiting false) s (fun t =>
      t.bit (Fld.TRS_CH_STAT_LIMIT n) = limiting ∧
      (t.chan n).samples = (min 12000 (10 * (roundFree ((ua : Rat) / 10000)).toNat) :: (s.chan n).samples).take 8 ∧
      t.get (Fld.TRS_CH_CUR_ION n) = (roundFree (((t.chan n).samples.sum : Rat) / (t.chan n).samples.length)).toNat % 65536 ∧
      SameRegs s t [Reg.TRS_CH_STAT n, Reg.TRS_CH_CUR n] ∧ SameMem s t) := by
  refine ⟨_, exec_diagnosisSample hn ua limiting h1 hd h255 hlow, ?_⟩
  obtain ⟨hlim, hchan, hregs, -, hlen⟩ := limitShown_shows hn ua limiting
  have hmem : (s.limitShown n ua limiting).kept = s.kept := by simp [State.limitShown]
  generalize s.limitShown n ua limiting = u at *
  obtain ⟨hlim', hsamples, hion, hregs'⟩ := sampleShown_shows (s := u) (n := n) (by omega) (min 12000 (10 * (roundFree ((ua : Rat) / 10000)).toNat))
  rw [hchan] at hsamples hion
  refine ⟨hlim'.trans hlim, hsamples, ?_, hregs.trans hregs', sameMem_of_kept (by simp [State.sampleShown, hmem])⟩
  rw [hsamples]
  exact hion

/-! ### Load dump (R688) -/

theorem loadDump_shows (s : State) (above : Bool) : Completes (.loadDump above) s (fun t =>
    t.bit Fld.TRS_SUPPLY_DUMP = above ∧ t.bit Fld.TRS_SUPPLY_DUMP_SEEN = (above || s.bit Fld.TRS_SUPPLY_DUMP_SEEN) ∧
    (∀ k : Fin 16, t.bit (Fld.TRS_CH_STAT_DUMP k) = above) ∧
    SameRegs s t (Reg.TRS_SUPPLY :: (List.range 16).map Reg.TRS_CH_STAT) ∧ OnlyRegs s t) := by
  let u := (s.putB Fld.TRS_SUPPLY_DUMP above).raise Fld.TRS_SUPPLY_DUMP_SEEN above
  have hdump : u.bit Fld.TRS_SUPPLY_DUMP = above :=
    (bit_raise_apart _ _ (by decide)).trans (bit_putB_flag (by decide) above)
  have hseen : u.bit Fld.TRS_SUPPLY_DUMP_SEEN = (above || s.bit Fld.TRS_SUPPLY_DUMP_SEEN) := by
    rw [bit_raise_same _ _ _ (by decide) (by decide), bit_putB_apart _ _ (by decide), Bool.or_comm]
  have hregs : SameRegs s u [Reg.TRS_SUPPLY] := fun a ha => by
    have hne : a ≠ Reg.TRS_SUPPLY := by simpa using ha
    exact (reg_raise_ne _ _ hne).trans (reg_put_ne s _ hne)
  have honly : OnlyRegs s u := by
    unfold u State.raise
    split <;> rfl
  refine ⟨forEach (List.range 16) u (fun s n => s.putB (Fld.TRS_CH_STAT_DUMP n) above), rfl, ?_⟩
  clear_value u
  have hkeep {a : Nat} (ha : a ∉ (List.range 16).map Reg.TRS_CH_STAT) :
      (forEach (List.range 16) u (fun s n => s.putB (Fld.TRS_CH_STAT_DUMP n) above)).reg a = u.reg a :=
    forEach_keeps (fun t => t.reg a) _ u _ fun t k hk =>
      reg_put_ne t _ fun e : a = Reg.TRS_CH_STAT k => ha (e ▸ List.mem_map_of_mem hk)
  have hsupply : Reg.TRS_SUPPLY ∉ (List.range 16).map Reg.TRS_CH_STAT := by decide
  refine ⟨(bit_of_reg (f := Fld.TRS_SUPPLY_DUMP) (hkeep hsupply)).trans hdump,
    (bit_of_reg (f := Fld.TRS_SUPPLY_DUMP_SEEN) (hkeep hsupply)).trans hseen, fun k => ?_, fun a ha => ?_, ?_⟩
  · refine forEach_sets (fun t => t.bit (Fld.TRS_CH_STAT_DUMP k)) above _ k u _ (List.mem_range.2 k.isLt) (fun t x hx hne => ?_)
      (fun t => bit_putB_self (F := Fld.TRS_CH_STAT_DUMP) (by decide) k above)
    refine bit_of_reg (f := Fld.TRS_CH_STAT_DUMP k) (reg_put_ne t _ ?_)
    simp only [Fld.TRS_CH_STAT_DUMP, Reg.TRS_CH_STAT]
    omega
  · rw [List.mem_cons, not_or] at ha
    exact (hkeep ha.2).trans (hregs a (by simpa using ha.1))
  · exact honly.trans (onlyRegs_foldl _ _ _ fun _ _ => rfl)

/-- Settles O49: the channel's record and registers after each command, by what the settling of the group leaves of them. -/
theorem trestleDiagnosisActs : Obligations.TrestleDiagnosisActs := by
  unfold Obligations.TrestleDiagnosisActs
  intro s n hs
  have hc := chans_of_shaped hs
  have hn : n.val < s.trs.chans.length := by rw [hc]; exact n.isLt
  refine ⟨fun hp => ?_, fun ua limiting => diagnosisSample_shows hn ua limiting, fun h1 hsam hion => ?_, fun hoff h1 => ?_, fun hh => ?_,
    fun sel => rfl, loadDump_shows s, fun m v => ⟨fun ht => ⟨fun h => ?_, trestleCommand_shows hc ht⟩, trestleFaultClear_shows hn⟩⟩
  · exact ⟨_, congrArg Host.Outcome.next (if_neg hp), congrArg Channel.duty (settle_modChan hn fun c => { c with duty := c.want }),
      settle_modChan_regs (SameRegs.refl s _) _ (List.Subset.refl _), sameMem_of_kept (by simp)⟩
  · exact congrArg Host.Outcome.next (if_pos (by simp [h1, hsam, hion]))
  · exact congrArg Host.Outcome.next (if_pos (by simp [hoff, h1]))
  · have hcore := settle_modChan (u := s.putB (Fld.TRS_CH_FAULT_KA_EXP n) true) (n := n) (by rw [putB_trs]; exact hn)
      (fun c => { c with hold := none, want := 0, duty := 0 })
    refine ⟨_, congrArg Host.Outcome.next (if_neg (by simpa using Option.isSome_iff_ne_none.1 hh)), ?_, congrArg Channel.hold hcore, congrArg Channel.want hcore,
      congrArg Channel.duty hcore, settle_modChan_regs ((SameRegs.refl s _).andPut (f := Fld.TRS_CH_FAULT_KA_EXP n) (List.mem_cons_self ..) _) _
        (trsStatRegs_cons _), sameMem_of_kept (by simp)⟩
    exact (settle_modChan_bit _ (trsFault_notMem n).1).trans (bit_putB_self (F := Fld.TRS_CH_FAULT_KA_EXP) (by decide) n true)
  · exact (exec_trestleCommand v ht).trans (congrArg Host.Outcome.next (wrTrsCtrl_ignored v.toNat h))

end Sys2Proof.Machine

/-! PROOFS. The guard of an outlet's enable (O24). -/

namespace Sys2Proof.Machine

theorem writeReg_outCtrl (s : State) (m : Master) (o : Fin 8) (v : Nat) : s.writeReg m (Reg.KST_OUT_CTRL o) v = s.wrOutCtrl o v := by
  fin_cases o <;> rfl

/-- The SECC link of outlet o. -/
def State.seccOf (s : State) (o : Nat) : Option Nat := (List.range 8).find? (fun n => s.vlUse n == 1 && s.vlOutlet n == o)

/-- What a 1 in EN asks of outlet o (R520, R608, R641). -/
def State.outletMayRun (s : State) (o : Nat) : Bool :=
  !s.bit Fld.PRP_STAT_SAFE && !s.latchedOutlet o &&
    (match s.seccOf o with | some n => s.bit (Fld.VLK_L_CONT_CONNECTED n) | none => true)

/-- MODE is written, and EN where its guard lets it. -/
theorem wrOutCtrl_eq (s : State) (o v : Nat) : s.wrOutCtrl o v =
    let t := s.putB (Fld.KST_OUT_CTRL_MODE o) (v.testBit 1)
    if v % 2 = 0 then t.putB (Fld.KST_OUT_CTRL_EN o) false
    else if t.outletMayRun o then t.putB (Fld.KST_OUT_CTRL_EN o) true else t := (rfl)

theorem seccOf_lt {s : State} {o n : Nat} (h : s.seccOf o = some n) : n < 8 := List.mem_range.1 (List.mem_of_find?_eq_some h)

/-- The guard rests on no register of the outlets. -/
theorem outletMayRun_mode (s : State) (o : Fin 8) (b : Bool) :
    (s.putB (Fld.KST_OUT_CTRL_MODE o) b).outletMayRun o = s.outletMayRun o := by
  have hsafe := bit_putB_other (s := s) (F := Fld.KST_OUT_CTRL_MODE) (G := fun _ => Fld.PRP_STAT_SAFE) (by decide) o b
  have hlatch := get_putB_other (s := s) (F := Fld.KST_OUT_CTRL_MODE) (G := fun _ => Fld.PRP_LATCH_OUTLETS) (by decide) o b
  have hsecc : (s.putB (Fld.KST_OUT_CTRL_MODE o) b).seccOf o = s.seccOf o := (rfl)
  unfold State.outletMayRun State.latchedOutlet
  rw [hsafe, hlatch, hsecc]
  cases hn : s.seccOf o with
  | none => rfl
  | some n =>
    have hcon : (Fld.KST_OUT_CTRL_MODE o).apart (Fld.VLK_L_CONT_CONNECTED n) = true :=
      (by decide : ∀ (o n : Fin 8), (Fld.KST_OUT_CTRL_MODE o).apart (Fld.VLK_L_CONT_CONNECTED n) = true) o ⟨n, seccOf_lt hn⟩
    exact congrArg (_ && ·) (bit_put_apart s _ hcon)

/-- The guard in the statement's words. -/
theorem outletMayRun_iff (s : State) (o : Nat) : s.outletMayRun o = true ↔
    s.bit Fld.PRP_STAT_SAFE = false ∧ s.latchedOutlet o = false ∧ ∀ n, s.seccOf o = some n → s.bit (Fld.VLK_L_CONT_CONNECTED n) = true := by
  unfold State.outletMayRun
  cases s.seccOf o <;> simp [and_assoc]

theorem outletEnWrite_shows (s : State) (o : Fin 8) (v : Nat) :
    SameRegs s (s.wrOutCtrl o v) [Reg.KST_OUT_CTRL o] ∧ (s.wrOutCtrl o v).kept = s.kept ∧
    (s.wrOutCtrl o v).bit (Fld.KST_OUT_CTRL_MODE o) = v.testBit 1 ∧
    (s.wrOutCtrl o v).bit (Fld.KST_OUT_CTRL_LOWERING o) = s.bit (Fld.KST_OUT_CTRL_LOWERING o) ∧
    (s.wrOutCtrl o v).bit (Fld.KST_OUT_CTRL_EN o) =
      if v % 2 = 0 then false else if s.outletMayRun o then true else s.bit (Fld.KST_OUT_CTRL_EN o) := by
  rw [wrOutCtrl_eq]
  have hrun := outletMayRun_mode s o (v.testBit 1)
  have hmode := bit_putB_self (s := s) (F := Fld.KST_OUT_CTRL_MODE) (by decide) o (v.testBit 1)
  have hlow := bit_putB_other (s := s) (F := Fld.KST_OUT_CTRL_MODE) (G := Fld.KST_OUT_CTRL_LOWERING) (by decide) o (v.testBit 1)
  have hen := bit_putB_other (s := s) (F := Fld.KST_OUT_CTRL_MODE) (G := Fld.KST_OUT_CTRL_EN) (by decide) o (v.testBit 1)
  have hregs : SameRegs s (s.putB (Fld.KST_OUT_CTRL_MODE o) (v.testBit 1)) [Reg.KST_OUT_CTRL o] :=
    (SameRegs.refl s _).andPut (f := Fld.KST_OUT_CTRL_MODE o) (List.mem_cons_self ..) _
  have hkept : (s.putB (Fld.KST_OUT_CTRL_MODE o) (v.testBit 1)).kept = s.kept := by simp
  generalize s.putB (Fld.KST_OUT_CTRL_MODE o) (v.testBit 1) = u at *
  have hput (b : Bool) : SameRegs s (u.putB (Fld.KST_OUT_CTRL_EN o) b) [Reg.KST_OUT_CTRL o] ∧ (u.putB (Fld.KST_OUT_CTRL_EN o) b).kept = s.kept ∧
      (u.putB (Fld.KST_OUT_CTRL_EN o) b).bit (Fld.KST_OUT_CTRL_MODE o) = v.testBit 1 ∧
      (u.putB (Fld.KST_OUT_CTRL_EN o) b).bit (Fld.KST_OUT_CTRL_LOWERING o) = s.bit (Fld.KST_OUT_CTRL_LOWERING o) ∧
      (u.putB (Fld.KST_OUT_CTRL_EN o) b).bit (Fld.KST_OUT_CTRL_EN o) = b :=
    ⟨hregs.andPut (f := Fld.KST_OUT_CTRL_EN o) (List.mem_cons_self ..) _, by simp [hkept],
      (bit_putB_other (F := Fld.KST_OUT_CTRL_EN) (G := Fld.KST_OUT_CTRL_MODE) (by decide) o b).trans hmode,
      (bit_putB_other (F := Fld.KST_OUT_CTRL_EN) (G := Fld.KST_OUT_CTRL_LOWERING) (by decide) o b).trans hlow,
      bit_putB_self (F := Fld.KST_OUT_CTRL_EN) (by decide) o b⟩
  dsimp only
  rw [hrun]
  split
  · exact hput false
  · split
    · exact hput true
    · exact ⟨hregs, hkept, hmode, hlow, hen⟩

/-- Settles O24: the write is MODE's bit and the guarded EN, and the guard is the statement's three conditions. -/
theorem outletEnableIsGuarded : Obligations.OutletEnableIsGuarded := by
  unfold Obligations.OutletEnableIsGuarded
  intro s m o v ht
  obtain ⟨hregs, hkept, hmode, hlow, hen⟩ := outletEnWrite_shows s o v.toNat
  refine ⟨s.wrOutCtrl o v.toNat, ?_, hregs, sameMem_of_kept hkept, hmode, hlow, fun h0 => ?_, fun h1 => ?_⟩
  · rw [← writeReg_outCtrl s m, ← wr_row (A := Reg.KST_OUT_CTRL) (by decide) v ht]
    rfl
  · rw [hen, if_pos (by simpa using h0)]
  · have hodd : v.toNat % 2 ≠ 0 := by simpa using h1
    have hrun := outletMayRun_iff s o
    rw [hen, if_neg hodd]
    refine ⟨fun h => if_neg fun hr => ?_, fun n hn hc => if_neg fun hr => ?_, fun hs hl hn => if_pos (hrun.2 ⟨hs, hl, hn⟩)⟩
    · obtain ⟨hs, hl, -⟩ := hrun.1 hr
      rcases h with h | h
      · exact absurd (hs.symm.trans h) (by decide)
      · exact absurd (hl.symm.trans h) (by decide)
    · exact absurd (((hrun.1 hr).2.2 n hn).symm.trans hc) (by decide)

end Sys2Proof.Machine

/-! SUPPORT. The record of a vehicle link beside its registers. -/

namespace Sys2Proof.Machine

theorem vlk_of_shaped {s : State} (h : s.shaped = true) : s.vlk.length = 8 := by
  simp only [State.shaped, Bool.and_eq_true, beq_iff_eq] at h
  tauto

@[simp] theorem get_modVl (s : State) (n : Nat) (f : VLink → VLink) (g : FieldRef) : (s.modVl n f).get g = s.get g := (rfl)
@[simp] theorem bit_modVl (s : State) (n : Nat) (f : VLink → VLink) (g : FieldRef) : (s.modVl n f).bit g = s.bit g := (rfl)
@[simp] theorem vl_put (s : State) (g : FieldRef) (v n : Nat) : (s.put g v).vl n = s.vl n := (rfl)
@[simp] theorem vl_putB (s : State) (g : FieldRef) (b : Bool) (n : Nat) : (s.putB g b).vl n = s.vl n := (rfl)
@[simp] theorem length_modVl (s : State) (n : Nat) (f : VLink → VLink) : (s.modVl n f).vlk.length = s.vlk.length := length_updAt ..

theorem vl_modVl {s : State} {n : Nat} (h : n < s.vlk.length) (f : VLink → VLink) : (s.modVl n f).vl n = f (s.vl n) := nth_updAt_same _ f h

theorem SameRegs.andModVl {s u : State} {l : List Nat} (h : SameRegs s u l) (n : Nat) (f : VLink → VLink) : SameRegs s (u.modVl n f) l := h

theorem SameRegs.andPutB {s u : State} {l : List Nat} (h : SameRegs s u l) {f : FieldRef} (hf : f.addr ∈ l) (b : Bool) :
    SameRegs s (u.putB f b) l := h.andPut hf _

theorem SameRegs.andInc {s u : State} {l : List Nat} (h : SameRegs s u l) {f : FieldRef} (hf : f.addr ∈ l) : SameRegs s (u.inc f) l := h.andPut hf _

end Sys2Proof.Machine

/-! PROOFS. Frames on the power line, six-copy mode and 10BASE-T1S (O40). -/

namespace Sys2Proof.Machine

section
variable {s : State} {n : Fin 8} (hn : n.val < s.vlk.length)

/-! ### 10BASE-T1S (R569, R570) -/

theorem plcaBeaconTimer_shows (h : s.bit (Fld.VLK_L_T1SSTAT_PLCA_OK n) = true) :
    Completes (.plcaBeaconTimer n) s (fun t => t.bit (Fld.VLK_L_T1SSTAT_PLCA_OK n) = false ∧ t.bit (Fld.VLK_L_LEVT_PLCA_DOWN n) = true ∧
      SameRegs s t [Reg.VLK_L_T1SSTAT n, Reg.VLK_L_LEVT n] ∧ SameMem s t) := by
  have hi : exec (.plcaBeaconTimer n) s = .next ((s.putB (Fld.VLK_L_T1SSTAT_PLCA_OK n) false).putB (Fld.VLK_L_LEVT_PLCA_DOWN n) true) :=
    congrArg Host.Outcome.next (if_pos h)
  refine ⟨_, hi, ?_, ?_, ?_, memoryChangesOnlyByItsWriters _ _ _ hi⟩
  · simp (disch := (clear * -; revert n; decide)) only [bit_putB_apart, bit_putB_same]
  · simp (disch := (clear * -; revert n; decide)) only [bit_putB_same]
  · exact ((SameRegs.refl s _).andPutB (by simp [Fld.VLK_L_T1SSTAT_PLCA_OK]) _).andPutB (by simp [Fld.VLK_L_LEVT_PLCA_DOWN]) _

theorem plcaStatusOk_shows (h : s.t1s n = true) :
    Completes (.plcaStatusOk n) s (fun t => t.bit (Fld.VLK_L_T1SSTAT_PLCA_OK n) = s.lflag n 3 ∧
      t.bit (Fld.VLK_L_T1SSTAT_LINK n) = true ∧ t.linkUp n = true ∧ SameRegs s t [Reg.VLK_L_T1SSTAT n, Reg.VLK_L_SESS n] ∧ SameMem s t) := by
  have hi : exec (.plcaStatusOk n) s = .next (((s.putB (Fld.VLK_L_T1SSTAT_PLCA_OK n) (s.lflag n 3)).putB (Fld.VLK_L_T1SSTAT_LINK n) true).putB
      (Fld.VLK_L_SESS_LINK n) true) := congrArg Host.Outcome.next (if_pos h)
  refine ⟨_, hi, ?_, ?_, ?_, ?_, memoryChangesOnlyByItsWriters _ _ _ hi⟩
  · simp (disch := (clear * -; revert n; decide)) only [bit_putB_apart, bit_putB_same]
  · simp (disch := (clear * -; revert n; decide)) only [bit_putB_apart, bit_putB_same]
  · simp (disch := (clear * -; revert n; decide)) only [State.linkUp, bit_putB_same]
  · exact (((SameRegs.refl s _).andPutB (by simp [Fld.VLK_L_T1SSTAT_PLCA_OK]) _).andPutB (by simp [Fld.VLK_L_T1SSTAT_LINK]) _).andPutB
      (by simp [Fld.VLK_L_SESS_LINK]) _

theorem t1sFrameRx_shows (h : s.t1s n = true) (ok missed : Bool) :
    Completes (.t1sFrameRx n ok missed) s (fun t =>
      t.get (Fld.VLK_L_T1SCNT_FCS n) = (if ok then s.get (Fld.VLK_L_T1SCNT_FCS n) else min 65535 (s.get (Fld.VLK_L_T1SCNT_FCS n) + 1)) ∧
      t.get (Fld.VLK_L_T1SCNT_BEACON n) = (if missed then min 65535 (s.get (Fld.VLK_L_T1SCNT_BEACON n) + 1) else s.get (Fld.VLK_L_T1SCNT_BEACON n)) ∧
      SameRegs s t [Reg.VLK_L_T1SCNT n] ∧ SameMem s t) := by
  have hi : exec (.t1sFrameRx n ok missed) s = .next (
      let u := if missed then s.inc (Fld.VLK_L_T1SCNT_BEACON n) else s
      if ok then u else u.inc (Fld.VLK_L_T1SCNT_FCS n)) := congrArg Host.Outcome.next (if_neg (by simp [h]))
  have hbeacon (u : State) := get_inc_self (s := u) (F := Fld.VLK_L_T1SCNT_BEACON) (m := 65535) (by decide) n
  have hfcs (u : State) := get_inc_self (s := u) (F := Fld.VLK_L_T1SCNT_FCS) (m := 65535) (by decide) n
  have hb (u : State) := get_inc_other (s := u) (F := Fld.VLK_L_T1SCNT_FCS) (G := Fld.VLK_L_T1SCNT_BEACON) (by decide) n
  have hf (u : State) := get_inc_other (s := u) (F := Fld.VLK_L_T1SCNT_BEACON) (G := Fld.VLK_L_T1SCNT_FCS) (by decide) n
  refine ⟨_, hi, ?_, ?_, ?_, memoryChangesOnlyByItsWriters _ _ _ hi⟩
  · cases ok <;> cases missed <;> simp [hfcs, hf]
  · cases ok <;> cases missed <;> simp [hbeacon, hb]
  · have hr (u : State) (hu : SameRegs s u [Reg.VLK_L_T1SCNT n]) (f : FieldRef) (hf : f.addr = Reg.VLK_L_T1SCNT n) :
        SameRegs s (u.inc f) [Reg.VLK_L_T1SCNT n] := hu.andInc (by simp [hf])
    cases ok <;> cases missed
    · exact hr _ (SameRegs.refl s _) _ rfl
    · exact hr _ (hr _ (SameRegs.refl s _) _ rfl) _ rfl
    · exact SameRegs.refl s _
    · exact hr _ (SameRegs.refl s _) _ rfl

/-! ### Six-copy mode (R564, R565) -/

include hn

theorem xroboTimeout_shows : Completes (.xroboTimeout n) s (fun t => (t.vl n).xreq = false ∧ t.regs = s.regs ∧ SameMem s t) :=
  ⟨_, rfl, by rw [vl_modVl hn], rfl, sameMem_of_kept (by simp)⟩

theorem xroboCnf_shows (six : Bool) (hx : (s.vl n).xreq = true) :
    Completes (.xroboCnf n six) s (fun t => (t.vl n).xreq = false ∧ t.bit (Fld.VLK_L_HPSTAT_XROBO n) = six ∧
      SameRegs s t [Reg.VLK_L_HPSTAT n] ∧ SameMem s t) := by
  have hi : exec (.xroboCnf n six) s = .next ((s.modVl n (fun l => { l with xreq := false })).putB (Fld.VLK_L_HPSTAT_XROBO n) six) :=
    congrArg Host.Outcome.next (if_pos hx)
  refine ⟨_, hi, by rw [vl_putB, vl_modVl hn], bit_putB_self (F := Fld.VLK_L_HPSTAT_XROBO) (by decide) n six, ?_,
    memoryChangesOnlyByItsWriters _ _ _ hi⟩
  exact ((SameRegs.refl s _).andModVl n _).andPutB (List.mem_cons_self ..) six

theorem xroboReq_secc (hl : s.linkUp n = true) (hx : s.lflag n 1 = true) (hh : s.hpgp n = true) (hs : s.secc n = true) :
    Completes (.xroboReq n) s (fun t => (t.vl n).sent = (0xA0C0, s.xroboBody) ∧ (t.vl n).xreq = true ∧ t.regs = s.regs ∧ SameMem s t) := by
  have hi : exec (.xroboReq n) s = .next ((s.modVl n (fun l => { l with sent := (0xA0C0, s.xroboBody), xreq := true })).mgmtAir n) :=
    congrArg Host.Outcome.next ((if_neg (by simp [hl, hx, hh])).trans (if_pos hs))
  refine ⟨_, hi, ?_, ?_, rfl, memoryChangesOnlyByItsWriters _ _ _ hi⟩
  all_goals
    unfold State.mgmtAir State.onAir
    rw [vl_modVl (by simpa using hn), vl_modVl hn]

theorem xroboReq_evcc (hl : s.linkUp n = true) (hx : s.lflag n 1 = true) (hh : s.hpgp n = true) (hs : s.secc n = false) :
    Completes (.xroboReq n) s (fun t => (t.vl n).sent = (0xA0C1, s.xroboBody) ∧
      t.bit (Fld.VLK_L_HPSTAT_XROBO n) = true ∧ SameRegs s t [Reg.VLK_L_HPSTAT n] ∧ SameMem s t) := by
  have hi : exec (.xroboReq n) s = .next (((s.modVl n (fun l => { l with sent := (0xA0C1, s.xroboBody) })).putB (Fld.VLK_L_HPSTAT_XROBO n) true).mgmtAir n) :=
    congrArg Host.Outcome.next ((if_neg (by simp [hl, hx, hh])).trans (if_neg (by simp [hs])))
  refine ⟨_, hi, ?_, ?_, ?_, memoryChangesOnlyByItsWriters _ _ _ hi⟩
  · unfold State.mgmtAir State.onAir
    rw [vl_modVl (by simpa using hn), vl_putB, vl_modVl hn]
  · exact (bit_modVl _ n _ _).trans (bit_putB_self (F := Fld.VLK_L_HPSTAT_XROBO) (by decide) n true)
  · exact (((SameRegs.refl s _).andModVl n _).andPutB (List.mem_cons_self ..) _).andModVl n _

/-! ### The retry ladder (R561 to R563) -/

theorem vl_dataAir {t : State} (ht : t.vlk.length = s.vlk.length) (r : Nat) :
    (t.dataAir n r).vl n = { t.vl n with air := some ⟨t.vcfg n 0x101 1, r, t.txPsd n⟩ } := vl_modVl (by rw [ht]; exact hn) _

theorem hpgpFrameAttempt_first (late : Bool) (hl : s.linkUp n = true) (hh : s.hpgp n = true) (hf : (s.vl n).frame = none) :
    Completes (.hpgpFrameAttempt n late) s (fun t =>
      (t.vl n).frame = some (s.get (Fld.VLK_L_HPSTAT_RUNG n), 1) ∧
      (t.vl n).air = some ⟨s.vcfg n 0x101 1, s.get (Fld.VLK_L_HPSTAT_RUNG n), s.txPsd n⟩ ∧ t.regs = s.regs ∧ SameMem s t) := by
  have hi : exec (.hpgpFrameAttempt n late) s = .next ((s.modVl n (fun l => { l with frame := some (s.get (Fld.VLK_L_HPSTAT_RUNG n), 1) })).dataAir n
      (s.get (Fld.VLK_L_HPSTAT_RUNG n))) :=
    congrArg Host.Outcome.next ((if_neg (by simp [hl, hh])).trans (by rw [hf]))
  refine ⟨_, hi, ?_, ?_, rfl, memoryChangesOnlyByItsWriters _ _ _ hi⟩
  · rw [vl_dataAir hn (length_modVl ..), vl_modVl hn]
  · rw [vl_dataAir hn (length_modVl ..)]
    rfl

theorem hpgpFrameAttempt_drop {late : Bool} {r k : Nat} (hl : s.linkUp n = true) (hh : s.hpgp n = true) (hf : (s.vl n).frame = some (r, k))
    (h : late = true ∨ 4 ≤ k) : Completes (.hpgpFrameAttempt n late) s (fun t => (t.vl n).frame = none ∧
      t.get (Fld.VLK_L_HPCNT_DROPPED n) = min 255 (s.get (Fld.VLK_L_HPCNT_DROPPED n) + 1) ∧ SameRegs s t [Reg.VLK_L_HPCNT n] ∧ SameMem s t) := by
  have hi : exec (.hpgpFrameAttempt n late) s = .next ((s.inc (Fld.VLK_L_HPCNT_DROPPED n)).modVl n (fun l => { l with frame := none, okRun := 0 })) :=
    congrArg Host.Outcome.next ((if_neg (by simp [hl, hh])).trans (by simp only [hf]; exact if_pos (by simpa using h)))
  refine ⟨_, hi, ?_, get_inc_self (F := Fld.VLK_L_HPCNT_DROPPED) (m := 255) (by decide) n, ?_, memoryChangesOnlyByItsWriters _ _ _ hi⟩
  · rw [vl_modVl (by simpa using hn)]
  · exact ((SameRegs.refl s _).andInc (f := Fld.VLK_L_HPCNT_DROPPED n) (List.mem_cons_self ..)).andModVl n _

theorem hpgpFrameAttempt_again {r k : Nat} (hl : s.linkUp n = true) (hh : s.hpgp n = true) (hf : (s.vl n).frame = some (r, k))
    (hk : k < 4) : Completes (.hpgpFrameAttempt n false) s (fun t =>
      (t.vl n).frame = some (min (r + 1) (s.lowRung n), k + 1) ∧ (t.vl n).okRun = 0 ∧
      (t.vl n).air = some ⟨s.vcfg n 0x101 1, min (r + 1) (s.lowRung n), s.txPsd n⟩ ∧
      t.get (Fld.VLK_L_HPCNT_RETRIES n) = min 255 (s.get (Fld.VLK_L_HPCNT_RETRIES n) + 1) ∧ SameRegs s t [Reg.VLK_L_HPCNT n] ∧ SameMem s t) := by
  have hi : exec (.hpgpFrameAttempt n false) s = .next (((s.inc (Fld.VLK_L_HPCNT_RETRIES n)).modVl n (fun l =>
      { l with frame := some (min (r + 1) (s.lowRung n), k + 1), okRun := 0 })).dataAir n (min (r + 1) (s.lowRung n))) :=
    congrArg Host.Outcome.next ((if_neg (by simp [hl, hh])).trans (by simp only [hf]; exact if_neg (by simpa using hk)))
  have hv : (((s.inc (Fld.VLK_L_HPCNT_RETRIES n)).modVl n (fun l =>
      { l with frame := some (min (r + 1) (s.lowRung n), k + 1), okRun := 0 })).dataAir n (min (r + 1) (s.lowRung n))).vl n =
      { s.vl n with frame := some (min (r + 1) (s.lowRung n), k + 1), okRun := 0, air := some ⟨s.vcfg n 0x101 1, min (r + 1) (s.lowRung n), s.txPsd n⟩ } := by
    rw [vl_dataAir hn (by simp), vl_modVl (by simpa using hn)]
    rfl
  refine ⟨_, hi, by rw [hv], by rw [hv], by rw [hv], get_inc_self (F := Fld.VLK_L_HPCNT_RETRIES) (m := 255) (by decide) n, ?_,
    memoryChangesOnlyByItsWriters _ _ _ hi⟩
  exact (((SameRegs.refl s _).andInc (f := Fld.VLK_L_HPCNT_RETRIES n) (List.mem_cons_self ..)).andModVl n _).andModVl n _

theorem hpgpAck_shows {r k : Nat} (hf : (s.vl n).frame = some (r, k)) : Completes (.hpgpAck n) s (fun t => (t.vl n).frame = none ∧
    SameRegs s t [Reg.VLK_L_HPSTAT n] ∧ SameMem s t ∧
    (if k = 1 ∧ s.vcfg n 0x10A 1 ≤ (s.vl n).okRun + 1 then t.get (Fld.VLK_L_HPSTAT_RUNG n) = (r - 1) % 4 ∧ (t.vl n).okRun = 0
     else t.get (Fld.VLK_L_HPSTAT_RUNG n) = r % 4 ∧ (t.vl n).okRun = if k = 1 then (s.vl n).okRun + 1 else 0)) := by
  let run := if k = 1 then (s.vl n).okRun + 1 else 0
  let up := run != 0 && decide (s.vcfg n 0x10A 1 ≤ run)
  have hi : exec (.hpgpAck n) s = .next ((s.put (Fld.VLK_L_HPSTAT_RUNG n) (if up then r - 1 else r)).modVl n (fun l =>
      { l with frame := none, okRun := if up then 0 else run })) := congrArg Host.Outcome.next (by rw [hf])
  have hrun : up = decide (k = 1 ∧ s.vcfg n 0x10A 1 ≤ (s.vl n).okRun + 1) := by
    by_cases hk : k = 1 <;> simp [up, run, hk]
  have hrung := get_put_self_mod (s := s) (F := Fld.VLK_L_HPSTAT_RUNG) (by decide) n
  refine ⟨_, hi, by rw [vl_modVl (by simpa using hn)], ?_, memoryChangesOnlyByItsWriters _ _ _ hi, ?_⟩
  · exact ((SameRegs.refl s _).andPut (f := Fld.VLK_L_HPSTAT_RUNG n) (List.mem_cons_self ..) _).andModVl n _
  · rw [get_modVl, vl_modVl (by simpa using hn), hrung, hrun]
    by_cases h : k = 1 ∧ s.vcfg n 0x10A 1 ≤ (s.vl n).okRun + 1
    · simp [h, Fld.VLK_L_HPSTAT_RUNG]
    · simp [h, run, Fld.VLK_L_HPSTAT_RUNG]

/-! ### The cutwater (R559) -/

/-- A SLAC message leaves the counters and the cutwater's window alone. -/
theorem slacMsg_shows (m : SlacMsg) : SameRegs s (s.slacMsg n m) [Reg.VLK_L_HPSTAT n] ∧ ((s.slacMsg n m).vl n).blocks = (s.vl n).blocks := by
  have hgo (a b : Nat) : SameRegs s (if s.get (Fld.VLK_L_HPSTAT_SLAC n) = a then (s.put (Fld.VLK_L_HPSTAT_SLAC n) b).mgmtAir n else s) [Reg.VLK_L_HPSTAT n] ∧
      ((if s.get (Fld.VLK_L_HPSTAT_SLAC n) = a then (s.put (Fld.VLK_L_HPSTAT_SLAC n) b).mgmtAir n else s).vl n).blocks = (s.vl n).blocks := by
    split
    · refine ⟨((SameRegs.refl s _).andPut (f := Fld.VLK_L_HPSTAT_SLAC n) (List.mem_cons_self ..) b).andModVl n _, ?_⟩
      unfold State.mgmtAir State.onAir
      rw [vl_modVl (by simpa using hn), vl_put]
    · exact ⟨SameRegs.refl s _, rfl⟩
  cases m with
  | param => exact hgo 1 2
  | attenChar => exact hgo 2 3
  | match_ => exact hgo 3 4
  | validate =>
    unfold State.slacMsg
    dsimp only
    split
    · refine ⟨((SameRegs.refl s _).andModVl n _).andModVl n _, ?_⟩
      unfold State.mgmtAir State.onAir
      rw [vl_modVl (by simpa using hn), vl_modVl hn]
    · exact ⟨SameRegs.refl s _, rfl⟩
  | _ => exact ⟨SameRegs.refl s _, rfl⟩

omit hn in
theorem slacMsg_param (h : s.get (Fld.VLK_L_HPSTAT_SLAC n) = 1) : (s.slacMsg n .param).get (Fld.VLK_L_HPSTAT_SLAC n) = 2 := by
  have e : s.slacMsg n .param = (s.put (Fld.VLK_L_HPSTAT_SLAC n) 2).mgmtAir n := if_pos h
  rw [e]
  exact get_put_self (F := Fld.VLK_L_HPSTAT_SLAC) (by decide) n

/-- The frame's blocks enter the window, and the symbols erased are counted. -/
def State.cutFrom (s : State) (n : Nat) (r : Nat × List Nat) : State :=
  (s.modVl n (fun l => { l with blocks := r.2 })).incBy (Fld.VLK_L_HPCNT_ERASED n) r.1

theorem cutFrom_shows (r : Nat × List Nat) : ((s.cutFrom n r).vl n).blocks = r.2 ∧
    (s.cutFrom n r).get (Fld.VLK_L_HPCNT_ERASED n) = min 65535 (s.get (Fld.VLK_L_HPCNT_ERASED n) + r.1) ∧
    (s.cutFrom n r).get (Fld.VLK_L_HPSTAT_SLAC n) = s.get (Fld.VLK_L_HPSTAT_SLAC n) ∧ SameRegs s (s.cutFrom n r) [Reg.VLK_L_HPCNT n, Reg.VLK_L_HPSTAT n] ∧
    (s.cutFrom n r).vlk.length = s.vlk.length := by
  unfold State.cutFrom State.incBy
  refine ⟨by rw [vl_put, vl_modVl hn], ?_, ?_, ?_, by simp⟩
  · refine (get_put_self_mod (F := Fld.VLK_L_HPCNT_ERASED) (by decide) n _).trans (Nat.mod_eq_of_lt ?_)
    exact lt_of_le_of_lt (Nat.min_le_left _ _) (by simp [Fld.VLK_L_HPCNT_ERASED])
  · exact get_put_other (F := Fld.VLK_L_HPCNT_ERASED) (G := Fld.VLK_L_HPSTAT_SLAC) (by decide) n _
  · exact ((SameRegs.refl s _).andModVl n _).andPut (f := Fld.VLK_L_HPCNT_ERASED n) (List.mem_cons_self ..) _

theorem hpgpFrameRx_shows {code : Fin 4} {sy : List (List Nat)} {dec : Bool} {msg : Option SlacMsg} (hh : s.hpgp n = true) (he : s.vlEn n = true)
    (hc : code ≠ 3) {r : Nat × List Nat}
    (hr : (if s.lflag n 0 then cutFrame (s.vcfg n 0x104 1) (s.vcfg n 0x105 1) 0 (s.vl n).blocks sy else (0, (s.vl n).blocks)) = r) :
    Completes (.hpgpFrameRx n code sy dec msg) s (fun t => (t.vl n).blocks = r.2 ∧
      t.get (Fld.VLK_L_HPCNT_ERASED n) = min 65535 (s.get (Fld.VLK_L_HPCNT_ERASED n) + r.1) ∧
      SameRegs s t [Reg.VLK_L_HPCNT n, Reg.VLK_L_HPSTAT n] ∧ SameMem s t ∧
      ((sy.length < 2 * r.1 ∨ dec = false) → t.get (Fld.VLK_L_HPSTAT_SLAC n) = s.get (Fld.VLK_L_HPSTAT_SLAC n)) ∧
      (2 * r.1 ≤ sy.length → dec = true → msg = some .param → s.get (Fld.VLK_L_HPSTAT_SLAC n) = 1 →
        t.get (Fld.VLK_L_HPSTAT_SLAC n) = 2)) := by
  have hcode : code.val ≠ 3 := fun h => hc (Fin.ext h)
  have hcut : (!s.hpgp n || !s.vlEn n || (code.val == 3 && !s.bit (Fld.VLK_L_HPSTAT_XROBO n))) = false := by simp [hh, he, hcode]
  have hi : exec (.hpgpFrameRx n code sy dec msg) s = .next (if sy.length < 2 * r.1 || !dec then s.cutFrom n r
      else match msg with | some m => (s.cutFrom n r).slacMsg n m | none => s.cutFrom n r) := by
    simp only [exec, execHpgpFrameRx, hr, hcut, Bool.false_eq_true, if_false, State.cutFrom] <;> rfl
  obtain ⟨hblocks, herased, hslac, hregs, hlen⟩ := cutFrom_shows hn r
  have hmem := memoryChangesOnlyByItsWriters _ _ _ hi
  refine ⟨_, hi, ?_⟩
  generalize s.cutFrom n r = u at *
  by_cases hbad : (sy.length < 2 * r.1 || !dec) = true
  · rw [if_pos hbad] at hmem ⊢
    have hno : dec = true → sy.length < 2 * r.1 := fun h => by simpa [h] using hbad
    exact ⟨hblocks, herased, hregs, hmem, fun _ => hslac, fun h1 h2 => absurd h1 (Nat.not_le.2 (hno h2))⟩
  · rw [if_neg hbad] at hmem ⊢
    have hno : ¬ (sy.length < 2 * r.1 ∨ dec = false) := by simpa using hbad
    cases msg with
    | none => exact ⟨hblocks, herased, hregs, hmem, fun h => absurd h hno, fun _ _ h => nomatch h⟩
    | some m =>
      obtain ⟨hmregs, hmblocks⟩ := slacMsg_shows (s := u) (n := n) (by rw [hlen]; exact hn) m
      have her : (u.slacMsg n m).get (Fld.VLK_L_HPCNT_ERASED n) = u.get (Fld.VLK_L_HPCNT_ERASED n) :=
        get_of_reg (f := Fld.VLK_L_HPCNT_ERASED n) (hmregs _ ((by decide : ∀ n : Fin 8, (Fld.VLK_L_HPCNT_ERASED n).addr ∉ [Reg.VLK_L_HPSTAT n]) n))
      refine ⟨hmblocks.trans hblocks, her.trans herased, hregs.trans (hmregs.mono fun a ha => List.mem_cons_of_mem _ ha), hmem,
        fun h => absurd h hno, fun _ _ hp h1 => ?_⟩
      obtain rfl := Option.some.inj hp
      exact slacMsg_param (hslac.trans h1)

end

/-- Settles O40: each event of the power line and of 10BASE-T1S by the case it meets. -/
theorem framesAndPlcaAct : Obligations.FramesAndPlcaAct := by
  unfold Obligations.FramesAndPlcaAct
  intro s n hs
  have hn : n.val < s.vlk.length := by rw [vlk_of_shaped hs]; exact n.isLt
  refine ⟨fun code sy dec msg => ⟨fun h => ?_, fun hh he hc r hr => hpgpFrameRx_shows hn hh he hc hr⟩,
    fun late => ⟨fun h => ?_, fun hl hh => ⟨hpgpFrameAttempt_first hn late hl hh, fun r k hf =>
      ⟨hpgpFrameAttempt_drop hn hl hh hf, fun hlate hk => hlate ▸ hpgpFrameAttempt_again hn hl hh hf hk⟩⟩⟩,
    fun hf => ?_, fun r k hf => hpgpAck_shows hn hf, fun h => ?_, fun hl hx hh => ⟨xroboReq_secc hn hl hx hh, xroboReq_evcc hn hl hx hh⟩,
    fun six => ⟨fun hx => ?_, xroboCnf_shows hn six⟩, xroboTimeout_shows hn, fun h => ?_, plcaBeaconTimer_shows,
    fun h => ⟨?_, fun a b => ?_⟩, fun h => ⟨plcaStatusOk_shows h, t1sFrameRx_shows h⟩⟩
  · refine congrArg Host.Outcome.next (if_pos ?_)
    rcases h with h | h | ⟨rfl, h⟩ <;> simp [h]
  · refine congrArg Host.Outcome.next (if_pos ?_)
    rcases h with h | ⟨h, h'⟩
    · simp [h]
    · simp [h, h']
  · exact congrArg Host.Outcome.next (by rw [hf])
  · refine congrArg Host.Outcome.next (if_pos ?_)
    rcases h with h | h <;> simp [h]
  · exact congrArg Host.Outcome.next (if_neg (by simp [hx]))
  · exact congrArg Host.Outcome.next (if_neg (by simp [h]))
  · exact congrArg Host.Outcome.next (if_neg (by simp [h]))
  · exact congrArg Host.Outcome.next (if_pos (by simp [h]))

end Sys2Proof.Machine

/-! PROOFS. Beacons and SLAC (O39). -/

namespace Sys2Proof.Machine

section
variable {s : State} {n : Fin 8} (hn : n.val < s.vlk.length)

/-! ### Beacons (R551 to R553) -/

theorem beaconLost_shows (hc : s.coordinator n = true) (he : s.vlEn n = true) (us : Nat) (phase : Int)
    (hl : (s.lflag n 2 && s.acOn 0 && s.bit (Fld.CSN_AC_STAT_FLOCK 0)) = false) : Completes (.beaconPeriodStart n us phase) s (fun t =>
      t.bit (Fld.VLK_L_HPSTAT_MAINS n) = false ∧
      t.bit (Fld.VLK_L_LEVT_ZC_LOST n) = (s.bit (Fld.VLK_L_LEVT_ZC_LOST n) || s.bit (Fld.VLK_L_HPSTAT_MAINS n)) ∧
      SameRegs s t [Reg.VLK_L_HPSTAT n, Reg.VLK_L_LEVT n] ∧ SameMem s t) := by
  have hi : exec (.beaconPeriodStart n us phase) s = .next ((s.putB (Fld.VLK_L_HPSTAT_MAINS n) false).raise (Fld.VLK_L_LEVT_ZC_LOST n)
      (s.bit (Fld.VLK_L_HPSTAT_MAINS n))) := by
    simp only [exec, execBeaconPeriodStart, hc, he, hl, Bool.not_true, Bool.or_self, Bool.false_eq_true, if_false]
    rfl
  refine ⟨_, hi, ?_, ?_, ?_, memoryChangesOnlyByItsWriters _ _ _ hi⟩
  · simp (disch := (clear * -; revert n; decide)) only [bit_raise_apart, bit_putB_same]
  · simp (disch := (clear * -; revert n; decide)) only [bit_raise_same, bit_putB_apart]
  · intro a ha
    simp only [List.mem_cons, List.not_mem_nil, or_false, not_or] at ha
    exact (reg_raise_ne _ _ ha.2).trans (reg_put_ne s _ ha.1)

include hn

theorem beaconLocked_shows (hc : s.coordinator n = true) (he : s.vlEn n = true) (us : Nat) (phase : Int)
    (hl : (s.lflag n 2 && s.acOn 0 && s.bit (Fld.CSN_AC_STAT_FLOCK 0)) = true) : Completes (.beaconPeriodStart n us phase) s (fun t =>
      (t.vl n).period = some us ∧
      (t.vl n).ofs = (if s.bit (Fld.VLK_L_HPSTAT_MAINS n) then 0 else towards0 phase (s.vcfg n 0x10B 1)) ∧
      t.bit (Fld.VLK_L_HPSTAT_MAINS n) = ((t.vl n).ofs == 0) ∧ SameRegs s t [Reg.VLK_L_HPSTAT n] ∧ SameMem s t) := by
  let o := if s.bit (Fld.VLK_L_HPSTAT_MAINS n) then 0 else towards0 phase (s.vcfg n 0x10B 1)
  have hi : exec (.beaconPeriodStart n us phase) s = .next ((s.modVl n (fun l => { l with period := some us, ofs := o })).putB
      (Fld.VLK_L_HPSTAT_MAINS n) (o == 0)) := by
    simp only [exec, execBeaconPeriodStart, hc, he, hl, Bool.not_true, Bool.or_self, Bool.false_eq_true, if_false, if_true]
    rfl
  have hv := vl_modVl hn (fun l => { l with period := some us, ofs := o })
  refine ⟨_, hi, by rw [vl_putB, hv], by rw [vl_putB, hv], ?_, ?_, memoryChangesOnlyByItsWriters _ _ _ hi⟩
  · rw [vl_putB, hv]
    exact bit_putB_self (F := Fld.VLK_L_HPSTAT_MAINS) (by decide) n _
  · exact ((SameRegs.refl s _).andModVl n _).andPutB (f := Fld.VLK_L_HPSTAT_MAINS n) (List.mem_cons_self ..) _

theorem beaconRx_shows (us : Nat) : Completes (.beaconRx n us) s (fun t => t.regs = s.regs ∧ SameMem s t ∧
    (t.vl n).period = if s.evcc n && s.hpgp n && s.vlEn n then some us else (s.vl n).period) := by
  by_cases h : (s.evcc n && s.hpgp n && s.vlEn n) = true
  · have hi : exec (.beaconRx n us) s = .next (s.modVl n (fun l => { l with period := some us })) := congrArg Host.Outcome.next (if_pos h)
    exact ⟨_, hi, rfl, memoryChangesOnlyByItsWriters _ _ _ hi, by rw [vl_modVl hn, if_pos h]⟩
  · have hi : exec (.beaconRx n us) s = .next s := congrArg Host.Outcome.next (if_neg h)
    exact ⟨_, hi, rfl, fun _ => rfl, by rw [if_neg h]⟩

/-! ### SLAC (R555 to R558) -/

omit hn in
/-- What the end of a run's link leaves in the registers. -/
theorem slacStop_shows (hh : s.hpgp n = true) : (s.slacStop n).get (Fld.VLK_L_HPSTAT_SLAC n) = 0 ∧
    (s.slacStop n).bit (Fld.VLK_L_HPSTAT_XROBO n) = false ∧ (s.slacStop n).linkUp n = false ∧
    SameRegs s (s.slacStop n) [Reg.VLK_L_HPSTAT n, Reg.VLK_L_SESS n] := by
  have e : s.slacStop n = (((s.put (Fld.VLK_L_HPSTAT_SLAC n) 0).putB (Fld.VLK_L_HPSTAT_XROBO n) false).putB (Fld.VLK_L_SESS_LINK n) false).modVl n
      (fun l => { l with fails := 0, frame := none, xreq := false, okRun := 0 }) := if_pos (by simp [hh])
  rw [e]
  refine ⟨?_, ?_, ?_, ?_⟩
  · simp (disch := (clear * -; revert n; decide)) only [get_modVl, get_putB_apart, get_put_fits]
  · simp (disch := (clear * -; revert n; decide)) only [bit_modVl, bit_putB_apart, bit_putB_same]
  · simp (disch := (clear * -; revert n; decide)) only [State.linkUp, bit_modVl, bit_putB_same]
  · exact ((((SameRegs.refl s _).andPut (f := Fld.VLK_L_HPSTAT_SLAC n) (by simp [Fld.VLK_L_HPSTAT_SLAC]) _).andPutB (f := Fld.VLK_L_HPSTAT_XROBO n)
      (by simp [Fld.VLK_L_HPSTAT_XROBO]) _).andPutB (f := Fld.VLK_L_SESS_LINK n) (by simp [Fld.VLK_L_SESS_LINK]) _).andModVl n _

omit hn in
theorem beaconsMissed_shows (he : s.evcc n = true) (hh : s.hpgp n = true) (hl : s.linkUp n = true) :
    Completes (.beaconsMissed n) s (fun t => t.linkUp n = false ∧
      t.bit (Fld.VLK_L_LEVT_BEACON_LOST n) = true ∧ t.bit (Fld.VLK_L_HPSTAT_XROBO n) = false ∧
      t.get (Fld.VLK_L_HPSTAT_SLAC n) = (if s.connected n then 1 else 0) ∧
      SameRegs s t [Reg.VLK_L_HPSTAT n, Reg.VLK_L_SESS n, Reg.VLK_L_LEVT n] ∧ SameMem s t) := by
  have hi : exec (.beaconsMissed n) s = .next (
      let u := (s.slacStop n).putB (Fld.VLK_L_LEVT_BEACON_LOST n) true
      if u.connected n then u.put (Fld.VLK_L_HPSTAT_SLAC n) 1 else u) := congrArg Host.Outcome.next (if_pos (by simp [he, hh, hl]))
  have hmem := memoryChangesOnlyByItsWriters _ _ _ hi
  obtain ⟨hslac, hx, hlink, hregs⟩ := slacStop_shows hh
  refine ⟨_, hi, ?_⟩
  have hcon : ((s.slacStop n).putB (Fld.VLK_L_LEVT_BEACON_LOST n) true).connected n = s.connected n :=
    (bit_putB_other (F := Fld.VLK_L_LEVT_BEACON_LOST) (G := Fld.VLK_L_CONT_CONNECTED) (by decide) n true).trans
      (bit_of_reg (f := Fld.VLK_L_CONT_CONNECTED n) (hregs _ ((by decide : ∀ n : Fin 8, (Fld.VLK_L_CONT_CONNECTED n).addr ∉
        [Reg.VLK_L_HPSTAT n, Reg.VLK_L_SESS n]) n)))
  generalize s.slacStop n = u at *
  have hr : SameRegs s (u.putB (Fld.VLK_L_LEVT_BEACON_LOST n) true) [Reg.VLK_L_HPSTAT n, Reg.VLK_L_SESS n, Reg.VLK_L_LEVT n] :=
    (hregs.mono (fun a ha => by simp at ha ⊢; tauto)).andPutB (by simp [Fld.VLK_L_LEVT_BEACON_LOST]) _
  dsimp only at hmem ⊢
  simp only [State.linkUp] at hlink ⊢
  rw [hcon] at hmem ⊢
  by_cases hc : s.connected n = true
  · rw [if_pos hc] at hmem ⊢
    rw [if_pos hc]
    refine ⟨?_, ?_, ?_, ?_, hr.andPut (by simp [Fld.VLK_L_HPSTAT_SLAC]) _, hmem⟩
    · simpa (disch := (clear * -; revert n; decide)) only [bit_put_apart, bit_putB_apart] using hlink
    · simp (disch := (clear * -; revert n; decide)) only [bit_put_apart, bit_putB_same]
    · simpa (disch := (clear * -; revert n; decide)) only [bit_put_apart, bit_putB_apart] using hx
    · simp (disch := (clear * -; revert n; decide)) only [get_put_fits]
  · rw [if_neg hc] at hmem ⊢
    rw [if_neg hc]
    refine ⟨?_, ?_, ?_, ?_, hr, hmem⟩
    · simpa (disch := (clear * -; revert n; decide)) only [bit_put_apart, bit_putB_apart] using hlink
    · simp (disch := (clear * -; revert n; decide)) only [bit_putB_same]
    · simpa (disch := (clear * -; revert n; decide)) only [bit_putB_apart] using hx
    · simpa (disch := (clear * -; revert n; decide)) only [get_putB_apart] using hslac

/-- A run that starts. -/
theorem slacBegin_shows : (s.slacBegin n).get (Fld.VLK_L_HPSTAT_SLAC n) = 1 ∧
    ((s.slacBegin n).vl n).air = (if s.evcc n then some ⟨3, 2, s.txPsd n⟩ else (s.vl n).air) ∧ SameRegs s (s.slacBegin n) [Reg.VLK_L_HPSTAT n] := by
  have e : s.slacBegin n = if s.evcc n then (s.put (Fld.VLK_L_HPSTAT_SLAC n) 1).mgmtAir n else s.put (Fld.VLK_L_HPSTAT_SLAC n) 1 := (rfl)
  have hr : SameRegs s (s.put (Fld.VLK_L_HPSTAT_SLAC n) 1) [Reg.VLK_L_HPSTAT n] :=
    (SameRegs.refl s _).andPut (f := Fld.VLK_L_HPSTAT_SLAC n) (List.mem_cons_self ..) 1
  have hslac : (s.put (Fld.VLK_L_HPSTAT_SLAC n) 1).get (Fld.VLK_L_HPSTAT_SLAC n) = 1 := get_put_self (F := Fld.VLK_L_HPSTAT_SLAC) (by decide) n
  rw [e]
  by_cases he : s.evcc n = true
  · rw [if_pos he, if_pos he]
    refine ⟨hslac, ?_, hr.andModVl n _⟩
    unfold State.mgmtAir State.onAir
    rw [vl_modVl (by simpa using hn)]
    rfl
  · rw [if_neg he, if_neg he]
    exact ⟨hslac, rfl, hr⟩

/-- The station joins, with key and attenuation. -/
def State.joined (s : State) (n : Nat) (key : List Byte) (db : Option Rat) : State :=
  let s := (s.put (Fld.VLK_L_HPSTAT_SLAC n) 5).putB (Fld.VLK_L_SESS_LINK n) true
  let s := (s.putB (Fld.VLK_L_HPSTAT_XROBO n) false).put (Fld.VLK_L_HPSTAT_RUNG n) 0
  let s := match db with | some d => s.putU (Fld.VLK_L_SLACATT_DB n) (roundFree d) | none => s
  s.modVl n (fun l => { l with nmk := key, fails := 0, okRun := 0, frame := none, xreq := false })

theorem joined_shows (key : List Byte) (db : Option Rat) : (s.joined n key db).get (Fld.VLK_L_HPSTAT_SLAC n) = 5 ∧ (s.joined n key db).linkUp n = true ∧
    (s.joined n key db).bit (Fld.VLK_L_HPSTAT_XROBO n) = false ∧ (s.joined n key db).get (Fld.VLK_L_HPSTAT_RUNG n) = 0 ∧
    ((s.joined n key db).vl n).fails = 0 ∧ SameRegs s (s.joined n key db) [Reg.VLK_L_HPSTAT n, Reg.VLK_L_SESS n, Reg.VLK_L_SLACATT n] := by
  have hr : SameRegs s ((((s.put (Fld.VLK_L_HPSTAT_SLAC n) 5).putB (Fld.VLK_L_SESS_LINK n) true).putB (Fld.VLK_L_HPSTAT_XROBO n) false).put
      (Fld.VLK_L_HPSTAT_RUNG n) 0) [Reg.VLK_L_HPSTAT n, Reg.VLK_L_SESS n, Reg.VLK_L_SLACATT n] :=
    ((((SameRegs.refl s _).andPut (by simp [Fld.VLK_L_HPSTAT_SLAC]) _).andPutB (by simp [Fld.VLK_L_SESS_LINK]) _).andPutB
      (by simp [Fld.VLK_L_HPSTAT_XROBO]) _).andPut (by simp [Fld.VLK_L_HPSTAT_RUNG]) _
  unfold State.joined
  dsimp only
  cases db with
  | none =>
    refine ⟨?_, ?_, ?_, ?_, by rw [vl_modVl (by simpa using hn)], hr.andModVl n _⟩
    · simp (disch := (clear * -; revert n; decide)) only [get_modVl, get_put_apart, get_putB_apart, get_put_fits]
    · simp (disch := (clear * -; revert n; decide)) only [State.linkUp, bit_modVl, bit_put_apart, bit_putB_apart, bit_putB_same]
    · simp (disch := (clear * -; revert n; decide)) only [bit_modVl, bit_put_apart, bit_putB_same]
    · simp (disch := (clear * -; revert n; decide)) only [get_modVl, get_put_fits]
  | some d =>
    refine ⟨?_, ?_, ?_, ?_, by rw [vl_modVl (by simpa using hn)], (hr.andPut (by simp [Fld.VLK_L_SLACATT_DB]) _).andModVl n _⟩
    · simp (disch := (clear * -; revert n; decide)) only [State.putU, get_modVl, get_put_apart, get_putB_apart, get_put_fits]
    · simp (disch := (clear * -; revert n; decide)) only [State.putU, State.linkUp, bit_modVl, bit_put_apart, bit_putB_apart, bit_putB_same]
    · simp (disch := (clear * -; revert n; decide)) only [State.putU, bit_modVl, bit_put_apart, bit_putB_same]
    · simp (disch := (clear * -; revert n; decide)) only [State.putU, get_modVl, get_put_apart, get_put_fits]

theorem slacUp_shows (db : Option Rat) : (s.slacUp n db).get (Fld.VLK_L_HPSTAT_SLAC n) = 5 ∧ (s.slacUp n db).linkUp n = true ∧
    (s.slacUp n db).bit (Fld.VLK_L_HPSTAT_XROBO n) = false ∧ (s.slacUp n db).get (Fld.VLK_L_HPSTAT_RUNG n) = 0 ∧
    ((s.slacUp n db).vl n).fails = 0 ∧ SameRegs s (s.slacUp n db) [Reg.VLK_L_HPSTAT n, Reg.VLK_L_SESS n, Reg.VLK_L_SLACATT n] := by
  have e : s.slacUp n db = let p := if s.secc n then s.freeBytes 16 else ((s.vl n).nmk, s); p.2.joined n p.1 db := (rfl)
  rw [e]
  by_cases hs : s.secc n = true
  · rw [if_pos hs]
    exact joined_shows (s := (s.freeBytes 16).2) hn _ db
  · rw [if_neg hs]
    exact joined_shows hn _ db

theorem slacMatch_fails {l : List (List Nat)} (hm : s.slacMay n = true) (h1 : 1 ≤ s.get (Fld.VLK_L_HPSTAT_SLAC n)) (h4 : s.get (Fld.VLK_L_HPSTAT_SLAC n) ≤ 4)
    (hs : s.secc n = false) (hd : ∀ d, leastMean l = some d → (s.vcfg n 0x103 1 : Rat) < d) :
    Completes (.slacMatch n l) s (fun t => t.get (Fld.VLK_L_HPSTAT_SLAC n) = 6 ∧ t.linkUp n = s.linkUp n ∧
      (t.vl n).fails = (s.vl n).fails + 1 ∧ ((s.vl n).fails = 2 → t.bit (Fld.VLK_L_LEVT_SLAC_FAIL n) = true) ∧
      SameRegs s t [Reg.VLK_L_HPSTAT n, Reg.VLK_L_LEVT n] ∧ SameMem s t) := by
  have hi : exec (.slacMatch n l) s = .next (
      let u := (s.modVl n (fun l => { l with fails := l.fails + 1 })).put (Fld.VLK_L_HPSTAT_SLAC n) 6
      u.raise (Fld.VLK_L_LEVT_SLAC_FAIL n) (decide ((u.vl n).fails = 3))) := by
    refine congrArg Host.Outcome.next ((if_neg (by simp [hm]; omega)).trans ((if_neg (by simp [hs])).trans ?_))
    unfold State.raise
    simp only [decide_eq_true_eq]
    split
    next d hl => exact if_neg (not_le.2 (hd d hl))
    · rfl
  have hv : ((s.modVl n (fun l => { l with fails := l.fails + 1 })).put (Fld.VLK_L_HPSTAT_SLAC n) 6).vl n = { s.vl n with fails := (s.vl n).fails + 1 } :=
    vl_modVl hn _
  have hmem := memoryChangesOnlyByItsWriters _ _ _ hi
  refine ⟨_, hi, ?_, ?_, ?_, fun h2 => ?_, fun a ha => ?_, hmem⟩
  · simp (disch := (clear * -; revert n; decide)) only [get_raise_apart, get_put_fits]
  · simp (disch := (clear * -; revert n; decide)) only [State.linkUp, bit_raise_apart, bit_put_apart, bit_modVl]
  · dsimp only
    unfold State.raise
    split
    · rw [vl_putB, hv]
    · rw [hv]
  · dsimp only
    rw [hv]
    simp (disch := (clear * -; revert n; decide)) only [bit_raise_same, h2, decide_true, Bool.or_true]
  · simp only [List.mem_cons, List.not_mem_nil, or_false, not_or] at ha
    exact (reg_raise_ne _ _ ha.2).trans (reg_put_ne _ _ ha.1)

theorem slacMatch_up {l : List (List Nat)} (hm : s.slacMay n = true) (h1 : 1 ≤ s.get (Fld.VLK_L_HPSTAT_SLAC n)) (h4 : s.get (Fld.VLK_L_HPSTAT_SLAC n) ≤ 4)
    (h : s.secc n = true ∨ ∃ d, leastMean l = some d ∧ d ≤ (s.vcfg n 0x103 1 : Rat)) :
    Completes (.slacMatch n l) s (fun t => t.get (Fld.VLK_L_HPSTAT_SLAC n) = 5 ∧ t.linkUp n = true ∧
      t.bit (Fld.VLK_L_HPSTAT_XROBO n) = false ∧ t.get (Fld.VLK_L_HPSTAT_RUNG n) = 0 ∧ (t.vl n).fails = 0 ∧
      SameRegs s t [Reg.VLK_L_HPSTAT n, Reg.VLK_L_SESS n, Reg.VLK_L_SLACATT n] ∧ SameMem s t) := by
  have hi : exec (.slacMatch n l) s = .next (s.slacUp n (leastMean l)) := by
    refine congrArg Host.Outcome.next ((if_neg (by simp [hm]; omega)).trans ?_)
    by_cases hs : s.secc n = true
    · exact if_pos hs
    · obtain ⟨d, hl, hd⟩ := h.resolve_left hs
      rw [if_neg hs, hl]
      exact if_pos hd
  obtain ⟨hslac, hlink, hx, hrung, hf, hr⟩ := slacUp_shows hn (leastMean l)
  exact ⟨_, hi, hslac, hlink, hx, hrung, hf, hr, memoryChangesOnlyByItsWriters _ _ _ hi⟩

end

/-- Settles O39: each event of the beacons and of a SLAC run by the case it meets. -/
theorem beaconsAndSlacAct : Obligations.BeaconsAndSlacAct := by
  unfold Obligations.BeaconsAndSlacAct
  intro s n hs
  have hn : n.val < s.vlk.length := by rw [vlk_of_shaped hs]; exact n.isLt
  have mem {i : Instr} {t : State} (h : exec i s = .next t) := memoryChangesOnlyByItsWriters i s t h
  refine ⟨fun us phase => ⟨fun h => ?_, fun hc he => ⟨beaconLocked_shows hn hc he us phase, beaconLost_shows hc he us phase⟩, beaconRx_shows hn us⟩,
    fun h => ?_, beaconsMissed_shows, fun h => ⟨?_, ?_, fun l => ?_⟩, fun hm => ⟨?_, fun he h6 => ?_, fun l h1 h4 =>
      ⟨slacMatch_up hn hm h1 h4, slacMatch_fails hn hm h1 h4⟩⟩⟩
  · refine congrArg Host.Outcome.next (if_pos ?_)
    rcases h with h | h <;> simp [h]
  · refine congrArg Host.Outcome.next (if_neg ?_)
    rcases h with h | h | h <;> simp [h]
  · exact congrArg Host.Outcome.next (if_neg (by simp [h]))
  · exact congrArg Host.Outcome.next (if_neg (by simp [h]))
  · exact congrArg Host.Outcome.next (if_pos (by simp [h]))
  · obtain ⟨hslac, hair, hr⟩ := slacBegin_shows hn
    have hi : exec (.slacStart n) s = .next (s.slacBegin n) := congrArg Host.Outcome.next (if_pos hm)
    exact ⟨_, hi, hslac, hair, hr, mem hi⟩
  · obtain ⟨hslac, hair, hr⟩ := slacBegin_shows hn
    have hi : exec (.slacRetry n) s = .next (s.slacBegin n) := congrArg Host.Outcome.next (if_pos (by simp [he, hm, h6]))
    exact ⟨_, hi, hslac, hair.trans (if_pos he), hr, mem hi⟩

end Sys2Proof.Machine

/-! SUPPORT. What the safe state and the handling of a fault can do to the state, once for every later question: each is a sequence of the
steps below. -/

namespace Sys2Proof.Machine

/-- The Parapet's record without what faults change in it. -/
def Parapet.own (p : Parapet) : Parapet :=
  { p with outDelay := false, lowerHeld := false, ring := [], pd0Ring := [], handling := [], queue := [], latched := [], irqC := false,
           irqD := false, bOutlets := 0, disarm := 0, weldRun := 0, weldAgain := 0 }

/-- How many units the Arch's record holds. -/
def Arch.lengths (a : Arch) : Nat × Nat × Nat := (a.outs.length, a.piers.length, a.xps.length)

/-- Fields that a fault or the safe state may write with any value. -/
def faultFields : List FieldRef :=
  [Fld.PRP_STAT_LATCH_A, Fld.PRP_STAT_LATCH_B, Fld.PRP_LATCH_OUTLETS, Fld.PRP_LATCH_PIERS, Fld.PRP_EVT_FAULT_A, Fld.PRP_EVT_FAULT_B,
    Fld.PRP_EVT_ARM_CHG, Fld.PRP_ARMED_PIERS, Fld.PRP_QUEUE_HANDLING, Fld.PRP_QUEUE_FILL, Fld.PRP_QUEUE_DROPPED] ++
  safeFields ++ (List.range 16).map Fld.PRP_WELD_RESULT ++ (List.range 12).map Fld.SPN_LINK_STAT_LOWER_TX

/-- One step: a field written, safety outputs turned off, an outlet's lowering ordered, a running crosspoint check abandoned, or a change of a record that keeps what
`own` and `lengths` keep. -/
inductive FaultStep : State → State → Prop
  | put (s : State) {f : FieldRef} (hf : f ∈ faultFields) (v : Nat) : FaultStep s (s.put f v)
  | off (s : State) (m : Nat) : FaultStep s (s.put Fld.PRP_PSOSTAT_ON (mclr (s.get Fld.PRP_PSOSTAT_ON) m))
  | lowering (s : State) {m : Nat} (hm : m < 8) : FaultStep s (s.putB (Fld.KST_OUT_CTRL_LOWERING m) true)
  | crosspoint (s : State) {k : Nat} (hk : k < 64) (h : s.get (Fld.ARC_XP_STAT_STATE k) = 4) : FaultStep s (s.put (Fld.ARC_XP_STAT_STATE k) 0)
  | prp (s : State) (x : Parapet) (h : x.own = s.prp.own) : FaultStep s { s with prp := x }
  | arc (s : State) (x : Arch) (h : x.lengths = s.arc.lengths) : FaultStep s { s with arc := x }
  | out (s : State) (m : Nat) (g : Outlet → Outlet) : FaultStep s (s.modOut m g)
  | link (s : State) (l : Nat) : FaultStep s (s.modLink l Link.broadcast)
  | free (s : State) (x : Nat) : FaultStep s { s with freeCtr := x }

/-- Any number of such steps. -/
def Handled : State → State → Prop := Relation.ReflTransGen FaultStep

theorem Handled.refl (s : State) : Handled s s := Relation.ReflTransGen.refl

theorem Handled.trans {s t u : State} (h : Handled s t) (k : Handled t u) : Handled s u := Relation.ReflTransGen.trans h k

theorem Handled.put {s t : State} (h : Handled s t) {f : FieldRef} (hf : f ∈ faultFields) (v : Nat) : Handled s (t.put f v) := h.tail (.put t hf v)

theorem Handled.putB {s t : State} (h : Handled s t) {f : FieldRef} (hf : f ∈ faultFields) (b : Bool) : Handled s (t.putB f b) := h.put hf _

theorem Handled.prp {s t : State} (h : Handled s t) (x : Parapet) (hx : x.own = t.prp.own) : Handled s { t with prp := x } := h.tail (.prp t x hx)

theorem Handled.forEach {s : State} (l : List Nat) (f : State → Nat → State) (h : ∀ t, ∀ x ∈ l, Handled t (f t x)) : Handled s (forEach l s f) := by
  unfold Machine.forEach
  induction l generalizing s with
  | nil => exact .refl s
  | cons x l ih => exact (h s x (List.mem_cons_self ..)).trans (ih fun t y hy => h t y (List.mem_cons_of_mem _ hy))

theorem weld_mem_faultFields {k : Nat} (hk : k ∈ List.range 16) : Fld.PRP_WELD_RESULT k ∈ faultFields := by
  simp only [faultFields, List.mem_append, List.mem_map_of_mem hk, or_true, true_or]

theorem lowerTx_mem_faultFields {l : Nat} (hl : l ∈ List.range 12) : Fld.SPN_LINK_STAT_LOWER_TX l ∈ faultFields := by
  simp only [faultFields, List.mem_append, List.mem_map_of_mem hl, or_true]

theorem handled_syncLower (s : State) : Handled s s.syncLower := by
  refine Handled.forEach _ _ fun t l hl => ?_
  split
  · exact .refl t
  · exact (Handled.refl t).putB (lowerTx_mem_faultFields hl) _

theorem handled_abandonChecks (s : State) (m : Nat) : Handled s (s.abandonChecks m) := by
  refine Handled.forEach _ _ fun t k hk => ?_
  split
  · exact ((Handled.refl t).put (weld_mem_faultFields hk) 4).prp _ rfl
  · exact .refl t

theorem handled_abandonXps (s : State) (m : Nat) : Handled s (s.abandonXps m) := by
  refine Handled.forEach _ _ fun t k hk => ?_
  split
  next h =>
    rw [Bool.and_eq_true, decide_eq_true_eq] at h
    exact ((Handled.refl t).tail (.crosspoint t (List.mem_range.1 hk) h.1)).tail (.arc _ _ (by simp [Arch.lengths]))
  · exact .refl t

theorem handled_outputsOff (s : State) (m : Nat) : Handled s (s.outputsOff m) := by
  refine ((Handled.refl s).tail (.off s m)).trans (Handled.forEach _ _ fun t k hk => ?_)
  dsimp only
  split
  · exact ((Handled.refl t).put (weld_mem_faultFields hk) 5).prp _ rfl
  · exact .refl t

theorem handled_setArmed (s : State) (m : Nat) : Handled s (s.setArmed m) := by
  unfold State.setArmed
  split
  · exact .refl s
  · exact ((Handled.refl s).put (f := Fld.PRP_ARMED_PIERS) (by decide) _).putB (f := Fld.PRP_EVT_ARM_CHG) (by decide) _

theorem handled_settleOutputs (s : State) : Handled s s.settleOutputs := by
  unfold State.settleOutputs
  split
  · exact .refl s
  · exact handled_outputsOff s _

theorem handled_settleDisarm (s : State) : Handled s s.settleDisarm := by
  unfold State.settleDisarm
  dsimp only
  split
  · exact .refl s
  · refine Handled.trans ?_ (handled_settleOutputs _)
    refine Handled.trans ?_ (handled_setArmed _ _)
    exact (Handled.refl s).prp _ rfl

theorem handled_syncQueue (s : State) : Handled s s.syncQueue :=
  ((Handled.refl s).put (f := Fld.PRP_QUEUE_HANDLING) (by decide) _).put (f := Fld.PRP_QUEUE_FILL) (by decide) _

theorem handled_syncLatch (s : State) : Handled s s.syncLatch := by
  have hregs : Handled s s.latchRegs :=
    ((((Handled.refl s).putB (f := Fld.PRP_STAT_LATCH_A) (by decide) _).putB (f := Fld.PRP_STAT_LATCH_B) (by decide) _).put
      (f := Fld.PRP_LATCH_OUTLETS) (by decide) _).put (f := Fld.PRP_LATCH_PIERS) (by decide) _
  refine hregs.trans ((Handled.forEach _ _ fun t m _ => ?_).trans (handled_syncLower _))
  split
  · exact .refl t
  · exact (Handled.refl t).tail (.out t m _)

theorem handled_lowerOutlets (s : State) (m : Nat) : Handled s (s.lowerOutlets m) :=
  Handled.forEach _ _ fun t k hk => ((Handled.refl t).tail (.out t k _)).tail (.lowering _ (mem_outletBits.1 hk).1)

theorem handled_classB (s : State) (r : FaultRec) : Handled s (s.classB r) := by
  unfold State.classB
  extract_lets u outs v
  have hu : Handled s u := handled_lowerOutlets s _
  have hv : Handled u v := (handled_abandonChecks _ _).trans (handled_abandonXps _ _)
  clear_value u v
  refine Handled.trans ?_ (handled_settleDisarm _)
  exact (hu.trans hv).prp _ rfl

theorem handled_startHandling (s : State) (r : FaultRec) : Handled s (s.startHandling r) := by
  have ht : Handled s (s.taken r) := (Handled.refl s).prp _ rfl
  by_cases hA : r.cls = 1
  · rw [startHandling_A s hA]
    exact ((ht.trans (handled_syncLatch _)).putB (f := Fld.PRP_EVT_FAULT_A) (by decide) _).trans (handled_syncQueue _)
  by_cases hB : r.cls = 2
  · rw [startHandling_B s hB]
    exact (((ht.trans (handled_syncLatch _)).putB (f := Fld.PRP_EVT_FAULT_B) (by decide) _).trans (handled_classB _ _)).trans (handled_syncQueue _)
  by_cases hC : r.cls = 3
  · rw [startHandling_C s hC]
    refine Handled.trans ?_ (handled_syncQueue _)
    exact ht.prp _ rfl
  · rw [startHandling_D s hA hB hC]
    refine Handled.trans ?_ (handled_syncQueue _)
    exact ht.prp _ rfl

theorem handled_lowerBroadcast (s : State) : Handled s s.lowerBroadcast := by
  unfold State.lowerBroadcast
  extract_lets u v
  have hu : Handled s u := Handled.forEach _ _ fun t l _ => by
    split
    · exact (Handled.refl t).tail (.link t l)
    · exact .refl t
  have hv : Handled u v := ((Handled.refl u).putB (f := Fld.SPN_BCAST_SENT) (by decide) _).putB (f := Fld.SPN_BCAST_LOWER) (by decide) _
  clear_value u v
  refine Handled.trans ?_ (handled_syncLower _)
  exact (hu.trans hv).prp _ rfl

theorem handled_assertSafe (s : State) : Handled s s.assertSafe := by
  unfold State.assertSafe
  have hfree : Handled s (s.fresh 16).2 := (Handled.refl s).tail (.free s _)
  generalize s.fresh 16 = q at *
  obtain ⟨b, w⟩ := q
  dsimp -zeta only at hfree ⊢
  extract_lets first v u
  have hv : Handled w v := ((handled_lowerBroadcast w).putB (f := Fld.PRP_STAT_SAFE) (by decide) true).put (f := Fld.PRP_RTIME_BCAST) (by decide) b
  have hu : Handled v u := (handled_abandonChecks _ _).trans (handled_abandonXps _ _)
  clear_value u v
  have hall := hfree.trans (hv.trans hu)
  split
  · exact hall.prp _ rfl
  · exact hall

theorem handled_meetManager (s : State) (r : FaultRec) : Handled s (s.meetManager r) := by
  have hq (x : Parapet) (hx : x.own = s.prp.own) : Handled s { s with prp := x } := (Handled.refl s).prp x hx
  unfold State.meetManager
  split
  · exact hq _ rfl
  split
  · exact handled_startHandling s r
  split
  · exact handled_startHandling s r
  split
  · refine Handled.trans ?_ (handled_syncQueue _)
    exact hq _ rfl
  split
  · exact (Handled.refl s).put (f := Fld.PRP_QUEUE_DROPPED) (by decide) _
  split
  · refine Handled.trans ?_ (handled_syncQueue _)
    refine Handled.put ?_ (f := Fld.PRP_QUEUE_DROPPED) (by decide) _
    exact hq _ rfl
  · exact (handled_assertSafe s).trans (handled_startHandling _ _)

/-- A report is such a sequence. -/
theorem handled_report (s : State) (code cls src o p : Nat) : Handled s (s.report code cls src o p) := by
  unfold State.report
  extract_lets c u
  have hu : Handled s u := by
    unfold u
    split
    · exact handled_assertSafe s
    · exact .refl s
  clear_value u
  split
  · exact (hu.tail (.free u _)).trans (handled_meetManager _ _)
  · exact hu

/-! ### What such a sequence leaves alone -/

theorem Handled.keeps {β : Type} (p : State → β) (h : ∀ s t, FaultStep s t → p t = p s) {s t : State} (hst : Handled s t) : p t = p s := by
  induction hst with
  | refl => rfl
  | tail _ hstep ih => exact (h _ _ hstep).trans ih

theorem Handled.own_eq {s t : State} (h : Handled s t) : t.prp.own = s.prp.own :=
  h.keeps (fun s => s.prp.own) fun _ _ hstep => by
    cases hstep with
    | prp x hx => exact hx
    | _ => rfl

/-- The blocks whose registers faults write: the Span, the Keystone, the Arch and the Parapet. -/
def faultBlocks : List Nat := [0x4004, 0x4006, 0x4007, 0x400E]

theorem Handled.reg_eq {s t : State} (h : Handled s t) {a : Nat} (ha : a / 0x10000 ∉ faultBlocks) : t.reg a = s.reg a := by
  have hne {f : FieldRef} (hf : f.addr / 0x10000 ∈ faultBlocks) : a ≠ f.addr := fun e => ha (e ▸ hf)
  refine h.keeps (fun s => s.reg a) fun u _ hstep => ?_
  cases hstep with
  | put hf v => exact reg_put_ne u v (hne ((by decide +kernel : ∀ f ∈ faultFields, f.addr / 0x10000 ∈ faultBlocks) _ hf))
  | off m => exact reg_put_ne u _ (hne (f := Fld.PRP_PSOSTAT_ON) (by decide))
  | lowering hm =>
    exact reg_put_ne u _ (hne (f := Fld.KST_OUT_CTRL_LOWERING _) ((by decide : ∀ m < 8, (Fld.KST_OUT_CTRL_LOWERING m).addr / 0x10000 ∈ faultBlocks) _ hm))
  | crosspoint hk _ =>
    exact reg_put_ne u _ (hne (f := Fld.ARC_XP_STAT_STATE _) ((by decide : ∀ k < 64, (Fld.ARC_XP_STAT_STATE k).addr / 0x10000 ∈ faultBlocks) _ hk))
  | _ => rfl

/-- A flag or field of the Parapet's that no fault writes stays. -/
theorem Handled.get_eq {s t : State} (h : Handled s t) {g : FieldRef} (hg : ∀ f ∈ faultFields, f.apart g = true) (hb : g.addr / 0x10000 = 0x400E)
    (ho : Fld.PRP_PSOSTAT_ON.apart g = true) : t.get g = s.get g := by
  refine h.keeps (fun s => s.get g) fun u _ hstep => ?_
  have hne {a : Nat} (ha : a / 0x10000 ≠ 0x400E) : g.addr ≠ a := fun e => ha (e ▸ hb)
  cases hstep with
  | put hf v => exact get_put_apart u v (hg _ hf)
  | off m => exact get_put_apart u _ ho
  | lowering hm =>
    exact get_put_ne u _ (hne (a := (Fld.KST_OUT_CTRL_LOWERING _).addr)
      ((by decide : ∀ m < 8, (Fld.KST_OUT_CTRL_LOWERING m).addr / 0x10000 ≠ 0x400E) _ hm))
  | crosspoint hk _ =>
    exact get_put_ne u _ (hne (a := (Fld.ARC_XP_STAT_STATE _).addr) ((by decide : ∀ k < 64, (Fld.ARC_XP_STAT_STATE k).addr / 0x10000 ≠ 0x400E) _ hk))
  | _ => rfl

theorem Handled.bit_eq {s t : State} (h : Handled s t) {g : FieldRef} (hg : ∀ f ∈ faultFields, f.apart g = true) (hb : g.addr / 0x10000 = 0x400E)
    (ho : Fld.PRP_PSOSTAT_ON.apart g = true) : t.bit g = s.bit g := congrArg (· != 0) (h.get_eq hg hb ho)

theorem mclr_le (a b : Nat) : mclr a b ≤ a := Nat.sub_le ..

/-- A safety output that is off stays off. -/
theorem Handled.stays_off {s t : State} (h : Handled s t) {k : Nat} (hk : (s.get Fld.PRP_PSOSTAT_ON).testBit k = false) :
    (t.get Fld.PRP_PSOSTAT_ON).testBit k = false := by
  induction h with
  | refl => exact hk
  | @tail u w _ hstep ih =>
    have keep {f : FieldRef} (hf : f.apart Fld.PRP_PSOSTAT_ON = true) (v : Nat) : ((u.put f v).get Fld.PRP_PSOSTAT_ON).testBit k = false := by
      rw [get_put_apart u v hf]
      exact ih
    cases hstep with
    | put hf v => exact keep ((by decide +kernel : ∀ f ∈ faultFields, f.apart Fld.PRP_PSOSTAT_ON = true) _ hf) v
    | off m =>
      rw [get_put_same u _ _ (by decide), Nat.mod_eq_of_lt (lt_of_le_of_lt (mclr_le _ _) (get_lt u _)), testBit_mclr, ih, Bool.false_and]
    | lowering hm => exact keep ((by decide : ∀ m < 8, (Fld.KST_OUT_CTRL_LOWERING m).apart Fld.PRP_PSOSTAT_ON = true) _ hm) 1
    | crosspoint hk _ => exact keep ((by decide : ∀ k < 64, (Fld.ARC_XP_STAT_STATE k).apart Fld.PRP_PSOSTAT_ON = true) _ hk) 0
    | _ => exact ih

end Sys2Proof.Machine

/-! PROOFS. Pilot, contacts and the charge loop (O37). -/

namespace Sys2Proof.Machine

/-! ### What faults leave of the vehicle links -/

theorem Handled.vlk_eq {s t : State} (h : Handled s t) : t.vlk = s.vlk := h.keeps State.vlk fun _ _ hstep => by cases hstep <;> rfl

theorem Handled.img_eq {s t : State} (h : Handled s t) : t.img = s.img := h.keeps State.img fun _ _ hstep => by cases hstep <;> rfl

theorem hpgp_of_img {s t : State} (h : t.img = s.img) (n : Nat) : t.hpgp n = s.hpgp n := by
  simp only [State.hpgp, State.vlUsed, State.vlUse, State.vlKind, State.cfgB, h]

theorem vlOutlet_lt (s : State) (n : Nat) : s.vlOutlet n < 256 := BitVec.isLt _

/-- A register of the vehicle links. -/
def vlkReg (a : Nat) : Prop := a / 0x10000 = 0x400C

theorem not_faultBlock {a : Nat} (h : vlkReg a) : a / 0x10000 ∉ faultBlocks := by
  rw [show a / 0x10000 = 0x400C from h]
  decide

/-- The disconnection of R521 shows at the link in EVT.DISC alone. -/
theorem vlDisc_shows (s : State) (n : Nat) : (∃ b, ∀ a, vlkReg a → (s.vlDisc n).reg a = (s.raise (Fld.VLK_L_EVT_DISC n) b).reg a) ∧
    (s.vlDisc n).vlk = s.vlk ∧ (s.vlDisc n).img = s.img := by
  unfold State.vlDisc
  extract_lets m u v
  split
  · have hu : u = s.raise (Fld.VLK_L_EVT_DISC n) true := rfl
    have hv : (∀ a, vlkReg a → v.reg a = u.reg a) ∧ v.vlk = u.vlk ∧ v.img = u.img := by
      unfold v
      split
      · refine ⟨fun a ha => reg_put_ne (u.modOut m _) _ fun e => ?_, rfl, rfl⟩
        have hm : m < 256 := vlOutlet_lt s n
        simp only [vlkReg, e, Fld.KST_OUT_CTRL_LOWERING, Reg.KST_OUT_CTRL] at ha
        omega
      · exact ⟨fun _ _ => rfl, rfl, rfl⟩
    have hr := handled_report v 0x2B clsB n (2 ^ m) 0
    exact ⟨⟨true, fun a ha => (hr.reg_eq (not_faultBlock ha)).trans ((hv.1 a ha).trans (by rw [hu]))⟩, hr.vlk_eq.trans hv.2.1, hr.img_eq.trans hv.2.2⟩
  · exact ⟨⟨false, fun _ _ => rfl⟩, rfl, rfl⟩

theorem slacStop_reg (s : State) (n : Nat) {a : Nat} (h1 : a ≠ Reg.VLK_L_HPSTAT n) (h2 : a ≠ Reg.VLK_L_SESS n) : (s.slacStop n).reg a = s.reg a := by
  unfold State.slacStop
  split
  · exact (reg_put_ne _ _ h2).trans ((reg_put_ne _ _ h1).trans (reg_put_ne s _ h1))
  · rfl

theorem slacStop_fresh (s : State) (n k : Nat) : ((s.slacStop n).vl k).fresh = (s.vl k).fresh := by
  unfold State.slacStop
  split
  · exact nth_updAt_keeps _ _ _ _ _ VLink.fresh fun _ => rfl
  · rfl

/-- A bad pilot state bears on EVT, HPSTAT and SESS of its link alone. -/
theorem pilotBad_reg (s : State) (n st : Nat) {a : Nat} (ha : vlkReg a) (h : a ∉ [Reg.VLK_L_EVT n, Reg.VLK_L_HPSTAT n, Reg.VLK_L_SESS n]) :
    (s.pilotBad n st).reg a = s.reg a := by
  simp only [List.mem_cons, List.not_mem_nil, or_false, not_or] at h
  obtain ⟨he, hh, hs⟩ := h
  unfold State.pilotBad
  split
  · obtain ⟨⟨b, hd⟩, -, -⟩ := vlDisc_shows s n
    exact (slacStop_reg _ n hh hs).trans ((hd a ha).trans (reg_raise_ne s _ he))
  · rfl

theorem pilotBad_fresh (s : State) (n st k : Nat) : ((s.pilotBad n st).vl k).fresh = (s.vl k).fresh := by
  unfold State.pilotBad
  split
  · refine (slacStop_fresh _ n k).trans ?_
    simp only [State.vl, (vlDisc_shows s n).2.1]
  · rfl

/-! ### CONNECTED (R519, R521) -/

/-- CONNECTED takes its value, and its event is set. -/
def State.connShown (s : State) (n : Nat) (c : Bool) : State := (s.putB (Fld.VLK_L_CONT_CONNECTED n) c).putB (Fld.VLK_L_EVT_CONNECT n) true

theorem setConnected_change {s : State} {n : Nat} {c : Bool} (h : s.connected n ≠ c) :
    s.setConnected n c = (if c then s.connShown n c else (((s.connShown n c).vlDisc n).slacStop n).dropTls n).settleOutputs := if_neg h

section
variable {s : State} {n : Fin 8}

theorem connShown_shows (c : Bool) : (s.connShown n c).connected n = c ∧ (s.connShown n c).bit (Fld.VLK_L_EVT_CONNECT n) = true := by
  unfold State.connShown State.connected
  constructor
  · simp (disch := (clear * -; revert n; decide)) only [bit_putB_apart, bit_putB_same]
  · simp (disch := (clear * -; revert n; decide)) only [bit_putB_same]

/-- What a link that falls leaves. -/
theorem connLost_shows : let t := ((s.vlDisc n).slacStop n).dropTls n
    t.reg (Reg.VLK_L_CONT n) = s.reg (Reg.VLK_L_CONT n) ∧
    (s.bit (Fld.VLK_L_EVT_CONNECT n) = true → t.bit (Fld.VLK_L_EVT_CONNECT n) = true) ∧
    t.bit (Fld.VLK_L_SESS_TLS n) = false ∧ t.bit (Fld.VLK_L_SESS_PEER_FM n) = false ∧ (s.hpgp n = true → t.linkUp n = false) ∧
    (t.vl n).fresh = (s.vl n).fresh := by
  obtain ⟨⟨b, hd⟩, hvlk, himg⟩ := vlDisc_shows s n
  have hvl : ((s.vlDisc n).vl n).fresh = (s.vl n).fresh := by simp only [State.vl, hvlk]
  have hhp := hpgp_of_img himg n
  have hcont : (s.vlDisc n).reg (Reg.VLK_L_CONT n) = s.reg (Reg.VLK_L_CONT n) :=
    (hd _ ((by decide : ∀ n : Fin 8, Reg.VLK_L_CONT n / 0x10000 = 0x400C) n)).trans
      (reg_raise_ne s _ ((by decide : ∀ n : Fin 8, Reg.VLK_L_CONT n ≠ Reg.VLK_L_EVT n) n))
  have hevt : (s.vlDisc n).bit (Fld.VLK_L_EVT_CONNECT n) = s.bit (Fld.VLK_L_EVT_CONNECT n) := by
    refine (bit_of_reg (f := Fld.VLK_L_EVT_CONNECT n) (hd _ ((by decide : ∀ n : Fin 8, Reg.VLK_L_EVT n / 0x10000 = 0x400C) n))).trans ?_
    exact bit_raise_apart s _ ((by decide : ∀ n : Fin 8, (Fld.VLK_L_EVT_DISC n).apart (Fld.VLK_L_EVT_CONNECT n) = true) n)
  generalize s.vlDisc n = u at *
  have hne : ∀ n : Fin 8, Reg.VLK_L_CONT n ≠ Reg.VLK_L_HPSTAT n ∧ Reg.VLK_L_CONT n ≠ Reg.VLK_L_SESS n ∧ Reg.VLK_L_EVT n ≠ Reg.VLK_L_HPSTAT n ∧
    Reg.VLK_L_EVT n ≠ Reg.VLK_L_SESS n := by decide
  obtain ⟨n1, n2, n3, n4⟩ := hne n
  have hcont' := (slacStop_reg u n n1 n2).trans hcont
  have hevt' : (u.slacStop n).bit (Fld.VLK_L_EVT_CONNECT n) = s.bit (Fld.VLK_L_EVT_CONNECT n) :=
    (bit_of_reg (f := Fld.VLK_L_EVT_CONNECT n) (slacStop_reg u n n3 n4)).trans hevt
  have hlink : s.hpgp n = true → (u.slacStop n).linkUp n = false := fun h => (slacStop_shows (hhp.trans h)).2.2.1
  have hfresh := (slacStop_fresh u n n).trans hvl
  generalize u.slacStop n = w at *
  unfold State.dropTls State.linkUp
  unfold State.linkUp at hlink
  refine ⟨?_, fun h => ?_, ?_, ?_, fun h => ?_, ?_⟩
  · exact (reg_put_ne _ _ n2).trans ((reg_put_ne _ _ n2).trans ((reg_put_ne w _ n2).trans hcont'))
  · simp (disch := (clear * -; revert n; decide)) only [bit_modVl, bit_putB_apart]
    exact hevt'.trans h
  · simp (disch := (clear * -; revert n; decide)) only [bit_modVl, bit_putB_apart, bit_putB_same]
  · simp (disch := (clear * -; revert n; decide)) only [bit_modVl, bit_putB_same]
  · simp (disch := (clear * -; revert n; decide)) only [bit_modVl, bit_putB_apart]
    exact hlink h
  · refine Eq.trans ?_ hfresh
    exact nth_updAt_keeps _ _ _ _ _ VLink.fresh fun _ => rfl

theorem setConnected_shows {c : Bool} (h : s.connected n ≠ c) : (s.setConnected n c).connected n = c ∧
    (s.setConnected n c).bit (Fld.VLK_L_EVT_CONNECT n) = true ∧ ((s.setConnected n c).vl n).fresh = (s.vl n).fresh ∧
    (c = false → (s.setConnected n c).bit (Fld.VLK_L_SESS_TLS n) = false ∧ (s.setConnected n c).bit (Fld.VLK_L_SESS_PEER_FM n) = false ∧
      (s.hpgp n = true → (s.setConnected n c).linkUp n = false)) := by
  obtain ⟨hcon, hevt⟩ := connShown_shows (s := s) (n := n) c
  have hvl : ((s.connShown n c).vl n).fresh = (s.vl n).fresh := rfl
  have himg : (s.connShown n c).img = s.img := rfl
  rw [setConnected_change h]
  generalize s.connShown n c = u at *
  have hsettle (w : State) : (∀ f : FieldRef, vlkReg f.addr → w.settleOutputs.bit f = w.bit f) ∧ w.settleOutputs.vl n = w.vl n :=
    ⟨fun f hf => bit_of_reg ((handled_settleOutputs w).reg_eq (not_faultBlock hf)), by simp only [State.vl, (handled_settleOutputs w).vlk_eq]⟩
  have hblk : ∀ n : Fin 8, vlkReg (Fld.VLK_L_CONT_CONNECTED n).addr ∧ vlkReg (Fld.VLK_L_EVT_CONNECT n).addr ∧ vlkReg (Fld.VLK_L_SESS_TLS n).addr ∧
      vlkReg (Fld.VLK_L_SESS_PEER_FM n).addr ∧ vlkReg (Fld.VLK_L_SESS_LINK n).addr := by
    unfold vlkReg
    decide
  obtain ⟨b1, b2, b3, b4, b5⟩ := hblk n
  cases c with
  | true =>
    rw [if_pos rfl]
    obtain ⟨hbit, hv⟩ := hsettle u
    exact ⟨(hbit _ b1).trans hcon, (hbit _ b2).trans hevt, by rw [hv, hvl], fun h => nomatch h⟩
  | false =>
    rw [if_neg Bool.false_ne_true]
    obtain ⟨lcont, levt, ltls, lpeer, llink, lfresh⟩ := connLost_shows (s := u) (n := n)
    obtain ⟨hbit, hv⟩ := hsettle (((u.vlDisc n).slacStop n).dropTls n)
    refine ⟨(hbit _ b1).trans ((bit_of_reg (f := Fld.VLK_L_CONT_CONNECTED n) lcont).trans hcon), (hbit _ b2).trans (levt hevt), by rw [hv, lfresh, hvl],
      fun _ => ⟨(hbit _ b3).trans ltls, (hbit _ b4).trans lpeer, fun hh => (hbit _ b5).trans (llink ((hpgp_of_img himg n).trans hh))⟩⟩

/-! ### Remote pilot writes, and their age (R519, R542) -/

theorem premoteStale_shows (hn : n.val < s.vlk.length) : Completes (.premoteStale n) s (fun t => (t.vl n).fresh = false ∧ SameMem s t ∧
    (s.vlUsed n = true → s.pilotRemote n = true → t.connected n = false)) := by
  have hi : exec (.premoteStale n) s = .next (
      let u := s.modVl n (fun l => { l with fresh := false })
      if u.vlUsed n && u.pilotRemote n then u.setConnected n false else u) := rfl
  have hmem := memoryChangesOnlyByItsWriters _ _ _ hi
  have hv : ((s.modVl n (fun l => { l with fresh := false })).vl n).fresh = false := by rw [vl_modVl hn]
  have hused : (s.modVl n (fun l => { l with fresh := false })).vlUsed n = s.vlUsed n ∧
      (s.modVl n (fun l => { l with fresh := false })).pilotRemote n = s.pilotRemote n := ⟨rfl, rfl⟩
  refine ⟨_, hi, ?_⟩
  generalize s.modVl n (fun l => { l with fresh := false }) = u at *
  obtain ⟨h1, h2⟩ := hused
  dsimp only at hmem ⊢
  rw [h1, h2] at hmem ⊢
  by_cases hr : (s.vlUsed n && s.pilotRemote n) = true
  · rw [if_pos hr] at hmem ⊢
    by_cases hc : u.connected n = false
    · have e : u.setConnected n false = u := if_pos hc
      rw [e] at hmem ⊢
      exact ⟨hv, hmem, fun _ _ => hc⟩
    · obtain ⟨hcon, -, hfresh, -⟩ := setConnected_shows (c := false) hc
      exact ⟨hfresh.trans hv, hmem, fun _ _ => hcon⟩
  · rw [if_neg hr] at hmem ⊢
    exact ⟨hv, hmem, fun h h' => absurd (by simp [h, h']) hr⟩

theorem writeReg_premote (s : State) (m : Master) (n : Fin 8) (v : Nat) : s.writeReg m (Reg.VLK_L_PREMOTE n) v = s.wrPremote n v := by
  fin_cases n <;> rfl

theorem writeReg_wdog (s : State) (m : Master) (n : Fin 8) (v : Nat) : s.writeReg m (Reg.VLK_L_WDOG n) v = s.wrWdog n v := by
  fin_cases n <;> rfl

theorem premoteWrite_shows (hn : n.val < s.vlk.length) {m : Master} {v : Word} (ht : s.takes m (Reg.VLK_L_PREMOTE n) = true) :
    Completes (.premoteWrite m n v) s (fun t => t.get (Fld.VLK_L_PREMOTE_STATE n) = v.toNat % 8 ∧
      t.bit (Fld.VLK_L_PREMOTE_CONN n) = v.toNat.testBit 3 ∧ (t.vl n).fresh = true ∧ SameMem s t) := by
  have hi : exec (.premoteWrite m n v) s = .next (s.wrPremote n v.toNat) := by
    rw [← writeReg_premote s m, ← wr_row (A := Reg.VLK_L_PREMOTE) (by decide) v ht]
    rfl
  refine ⟨_, hi, ?_⟩
  have hmem := memoryChangesOnlyByItsWriters _ _ _ hi
  have hst : (s.writeByCode (Reg.VLK_L_PREMOTE n) v.toNat).get (Fld.VLK_L_PREMOTE_STATE n) = v.toNat % 8 :=
    (get_writeByCode_rw (A := Reg.VLK_L_PREMOTE) (f := ⟨0, 3, .rw, 6, false⟩) (by decide +kernel) rfl s n v.toNat).trans (by simp [fieldOf])
  have hcn : (s.writeByCode (Reg.VLK_L_PREMOTE n) v.toNat).bit (Fld.VLK_L_PREMOTE_CONN n) = v.toNat.testBit 3 :=
    (congrArg (· != 0) (get_writeByCode_rw (A := Reg.VLK_L_PREMOTE) (f := ⟨3, 1, .rw, 0, false⟩) (by decide +kernel) rfl s n v.toNat)).trans
      (fieldOf_bit v.toNat 3)
  have hlen : n.val < (s.writeByCode (Reg.VLK_L_PREMOTE n) v.toNat).vlk.length := by
    rw [onlyRegs_writeByCode s (Reg.VLK_L_PREMOTE n) v.toNat]
    exact hn
  unfold State.wrPremote at hmem ⊢
  generalize s.writeByCode (Reg.VLK_L_PREMOTE n) v.toNat = u at *
  have hv : ((u.modVl n (fun l => { l with fresh := true })).vl n).fresh = true := by rw [vl_modVl hlen]
  have hst' : (u.modVl n (fun l => { l with fresh := true })).get (Fld.VLK_L_PREMOTE_STATE n) = v.toNat % 8 := hst
  have hcn' : (u.modVl n (fun l => { l with fresh := true })).bit (Fld.VLK_L_PREMOTE_CONN n) = v.toNat.testBit 3 := hcn
  generalize u.modVl n (fun l => { l with fresh := true }) = w at *
  dsimp only at hmem ⊢
  by_cases hc : (w.vlUsed n && w.pilotRemote n && w.get (Fld.VLK_L_PREMOTE_STATE n) != s.get (Fld.VLK_L_PREMOTE_STATE n)) = true
  · rw [if_pos hc] at hmem ⊢
    have hreg := pilotBad_reg w n (w.get (Fld.VLK_L_PREMOTE_STATE n)) (a := Reg.VLK_L_PREMOTE n)
      ((by decide : ∀ n : Fin 8, Reg.VLK_L_PREMOTE n / 0x10000 = 0x400C) n)
      ((by decide : ∀ n : Fin 8, Reg.VLK_L_PREMOTE n ∉ [Reg.VLK_L_EVT n, Reg.VLK_L_HPSTAT n, Reg.VLK_L_SESS n]) n)
    exact ⟨(get_of_reg (f := Fld.VLK_L_PREMOTE_STATE n) hreg).trans hst', (bit_of_reg (f := Fld.VLK_L_PREMOTE_CONN n) hreg).trans hcn',
      (pilotBad_fresh w n _ n).trans hv, hmem⟩
  · rw [if_neg hc] at hmem ⊢
    exact ⟨hst', hcn', hv, hmem⟩

/-! ### The charge loop (R526, R533) -/

/-- The charge loop's condition rests on PHASE and on the outlet's EN. -/
theorem wdogOn_congr {t : State} (himg : t.img = s.img) (h : ∀ a, a ≠ Reg.VLK_L_WDOG n → t.reg a = s.reg a) : t.wdogOn n = s.wdogOn n := by
  have ho : t.vlOutlet n = s.vlOutlet n := by simp only [State.vlOutlet, State.cfgB, himg]
  have hlt := vlOutlet_lt s n
  have hne : Reg.KST_OUT_CTRL (s.vlOutlet n) ≠ Reg.VLK_L_WDOG n := by
    simp only [Reg.KST_OUT_CTRL, Reg.VLK_L_WDOG]
    omega
  unfold State.wdogOn
  rw [ho, get_of_reg (f := Fld.VLK_L_SESS_PHASE n) (h _ ((by decide : ∀ n : Fin 8, Reg.VLK_L_SESS n ≠ Reg.VLK_L_WDOG n) n)),
    bit_of_reg (f := Fld.KST_OUT_CTRL_EN (s.vlOutlet n)) (h _ hne)]

theorem chargeLoopKick_shows {m : Master} {v : Word} (ht : s.takes m (Reg.VLK_L_WDOG n) = true) :
    Completes (.chargeLoopKick m n v) s (fun t => t.get (Fld.VLK_L_WDOG_TIMEOUT n) = v.toNat % 65536 ∧
      t.bit (Fld.VLK_L_WDOG_RUN n) = (s.bit (Fld.VLK_L_WDOG_RUN n) || (v.toNat.testBit 31 && s.vlUsed n && s.wdogOn n)) ∧
      SameRegs s t [Reg.VLK_L_WDOG n] ∧ SameMem s t) := by
  have hi : exec (.chargeLoopKick m n v) s = .next (s.wrWdog n v.toNat) := by
    rw [← writeReg_wdog s m, ← wr_row (A := Reg.VLK_L_WDOG) (by decide) v ht]
    rfl
  have htime := get_writeByCode_rw (A := Reg.VLK_L_WDOG) (f := ⟨0, 16, .rw, 0, true⟩) (by decide +kernel) rfl s n v.toNat
  have hrun := get_writeByCode_ro (A := Reg.VLK_L_WDOG) (f := ⟨30, 1, .ro, 0, false⟩) (by decide +kernel) rfl s n v.toNat
  have hregs := sameRegs_writeByCode s (Reg.VLK_L_WDOG n) v.toNat
  have himg : (s.writeByCode (Reg.VLK_L_WDOG n) v.toNat).img = s.img := by rw [onlyRegs_writeByCode s (Reg.VLK_L_WDOG n) v.toNat]
  have hu : s.wrWdog n v.toNat = (s.writeByCode (Reg.VLK_L_WDOG n) v.toNat).raise (Fld.VLK_L_WDOG_RUN n)
      (v.toNat.testBit 31 && (s.writeByCode (Reg.VLK_L_WDOG n) v.toNat).vlUsed n && (s.writeByCode (Reg.VLK_L_WDOG n) v.toNat).wdogOn n) := (rfl)
  have hmem := memoryChangesOnlyByItsWriters _ _ _ hi
  refine ⟨_, hi, ?_⟩
  rw [hu] at hmem ⊢
  generalize s.writeByCode (Reg.VLK_L_WDOG n) v.toNat = u at *
  have hused : u.vlUsed n = s.vlUsed n := by simp only [State.vlUsed, State.vlUse, State.cfgB, himg]
  have hon : u.wdogOn n = s.wdogOn n := wdogOn_congr himg fun a ha => hregs a (by simpa using ha)
  rw [hused, hon] at hmem ⊢
  refine ⟨?_, ?_, fun a ha => (reg_raise_ne u _ fun (e : a = Reg.VLK_L_WDOG n) => ha (e ▸ List.mem_cons_self ..)).trans (hregs a ha), hmem⟩
  · rw [get_raise_apart _ _ ((by decide : ∀ n : Fin 8, (Fld.VLK_L_WDOG_RUN n).apart (Fld.VLK_L_WDOG_TIMEOUT n) = true) n)]
    exact htime.trans (by simp [fieldOf])
  · rw [bit_raise_same _ _ _ (by simp [Fld.VLK_L_WDOG_RUN]) (by simp [Fld.VLK_L_WDOG_RUN])]
    exact congrArg (· || _) (congrArg (· != 0) hrun)

/-- An enabled outlet that is being lowered stays so whatever a fault does (the register of an outlet beyond the eighth may be a crosspoint's,
whose check then does not run). -/
theorem Handled.lowered {s t : State} (h : Handled s t) {m : Nat} (hm : m < 256)
    (hl : s.bit (Fld.KST_OUT_CTRL_LOWERING m) = true ∧ s.bit (Fld.KST_OUT_CTRL_EN m) = true) :
    t.bit (Fld.KST_OUT_CTRL_LOWERING m) = true ∧ t.bit (Fld.KST_OUT_CTRL_EN m) = true := by
  induction h with
  | refl => exact hl
  | @tail u w _ hstep ih =>
    have keep {f : FieldRef} (hf : f.addr ≠ Reg.KST_OUT_CTRL m) (v : Nat) :
        (u.put f v).bit (Fld.KST_OUT_CTRL_LOWERING m) = true ∧ (u.put f v).bit (Fld.KST_OUT_CTRL_EN m) = true :=
      ⟨(bit_of_reg (f := Fld.KST_OUT_CTRL_LOWERING m) (reg_put_ne u v hf.symm)).trans ih.1,
        (bit_of_reg (f := Fld.KST_OUT_CTRL_EN m) (reg_put_ne u v hf.symm)).trans ih.2⟩
    cases hstep with
    | @put f hf v =>
      have hb := (by decide +kernel : ∀ f ∈ faultFields, f.addr / 0x10000 = 0x4004 ∨ f.addr / 0x10000 = 0x400E) f hf
      refine keep (fun e => ?_) v
      simp only [e, Reg.KST_OUT_CTRL] at hb
      omega
    | off x => exact keep (f := Fld.PRP_PSOSTAT_ON) (fun e => by simp only [Fld.PRP_PSOSTAT_ON, Reg.PRP_PSOSTAT, Reg.KST_OUT_CTRL] at e; omega) _
    | @lowering k hk =>
      by_cases e : k = m
      · subst e
        exact ⟨bit_putB_flag (by simp [Fld.KST_OUT_CTRL_LOWERING]) true, (bit_putB_apart _ _ (by simp [FieldRef.apart, Fld.KST_OUT_CTRL_LOWERING, Fld.KST_OUT_CTRL_EN])).trans ih.2⟩
      · refine keep (fun h => e ?_) 1
        simp only [Fld.KST_OUT_CTRL_LOWERING, Reg.KST_OUT_CTRL] at h
        omega
    | @crosspoint k hk h4 =>
      refine keep (fun e => ?_) 0
      have hr : u.reg (Reg.KST_OUT_CTRL m) % 8 = 4 := by
        rw [← show Reg.ARC_XP_STAT k = Reg.KST_OUT_CTRL m from e]
        simpa [State.get, fieldOf, Fld.ARC_XP_STAT_STATE] using h4
      have hen : u.reg (Reg.KST_OUT_CTRL m) % 2 ≠ 0 := by simpa [State.bit, State.get, fieldOf, Fld.KST_OUT_CTRL_EN] using ih.2
      omega
    | _ => exact ih

/-- A fault of Class B on an outlet of a link is recorded where the fault manager is free. -/
theorem reportOutlet_recorded {t : State} (hp : t.prp = s.prp) (himg : t.img = s.img) {code : Nat} (h : s.parapetFree code 2 = true) (src m : Nat) :
    Recorded (t.reportOutlet code clsB src m) code 2 src (2 ^ m) 0 :=
  report_recorded ((parapetFree_congr hp himg code 2).trans h) src (2 ^ m) 0

theorem chargeLoopWatchdogExpiry_shows (hrun : s.bit (Fld.VLK_L_WDOG_RUN n) = true) (hon : s.wdogOn n = true) :
    Completes (.chargeLoopWatchdogExpiry n) s (fun t => t.bit (Fld.VLK_L_WDOG_RUN n) = false ∧ t.bit (Fld.VLK_L_EVT_WDOG n) = true ∧
      t.bit (Fld.KST_OUT_CTRL_LOWERING (s.vlOutlet n)) = true ∧ SameMem s t ∧
      (s.parapetFree 0x2B 2 = true → Recorded t 0x2B 2 n (2 ^ s.vlOutlet n) 0)) := by
  have hi : exec (.chargeLoopWatchdogExpiry n) s = .next ((((((s.putB (Fld.VLK_L_WDOG_RUN n) false).putB (Fld.VLK_L_EVT_WDOG n) true).modOut (s.vlOutlet n)
      (fun o => { o with lowering := true })).putB (Fld.KST_OUT_CTRL_LOWERING (s.vlOutlet n)) true).reportOutlet 0x2B clsB n (s.vlOutlet n))) :=
    congrArg Host.Outcome.next (if_pos (by simp [hrun, hon]))
  have hmem := memoryChangesOnlyByItsWriters _ _ _ hi
  refine ⟨_, hi, ?_⟩
  have hm := vlOutlet_lt s n
  generalize hmo : s.vlOutlet n = m at *
  have hen : s.bit (Fld.KST_OUT_CTRL_EN m) = true := by
    rw [← hmo]
    unfold State.wdogOn at hon
    exact (Bool.and_eq_true _ _ ▸ hon).2
  have hne (f : FieldRef) (hf : vlkReg f.addr) : f.addr ≠ Reg.KST_OUT_CTRL m := fun e => by
    simp only [vlkReg, e, Reg.KST_OUT_CTRL] at hf
    omega
  have hblk : ∀ n : Fin 8, vlkReg (Fld.VLK_L_WDOG_RUN n).addr ∧ vlkReg (Fld.VLK_L_EVT_WDOG n).addr := by
    unfold vlkReg
    decide
  obtain ⟨b1, b2⟩ := hblk n
  have hr := handled_report (((((s.putB (Fld.VLK_L_WDOG_RUN n) false).putB (Fld.VLK_L_EVT_WDOG n) true).modOut m
      (fun o => { o with lowering := true })).putB (Fld.KST_OUT_CTRL_LOWERING m) true)) 0x2B clsB n (2 ^ m) 0
  refine ⟨(bit_of_reg (hr.reg_eq (not_faultBlock b1))).trans ?_, (bit_of_reg (hr.reg_eq (not_faultBlock b2))).trans ?_, (hr.lowered hm ⟨?_, ?_⟩).1, hmem,
    fun hf => reportOutlet_recorded (by rfl) (by rfl) hf n m⟩
  · refine (bit_of_reg (f := Fld.VLK_L_WDOG_RUN n) (reg_put_ne _ _ (hne _ b1))).trans ?_
    rw [bit_modOut]
    simp (disch := (clear * -; revert n; decide)) only [bit_putB_apart, bit_putB_same]
  · refine (bit_of_reg (f := Fld.VLK_L_EVT_WDOG n) (reg_put_ne _ _ (hne _ b2))).trans ?_
    rw [bit_modOut]
    simp (disch := (clear * -; revert n; decide)) only [bit_putB_same]
  · exact bit_putB_flag (by simp [Fld.KST_OUT_CTRL_LOWERING]) true
  · refine (bit_putB_apart _ _ (by simp [FieldRef.apart, Fld.KST_OUT_CTRL_LOWERING, Fld.KST_OUT_CTRL_EN])).trans ?_
    rw [bit_modOut]
    exact (bit_of_reg (f := Fld.KST_OUT_CTRL_EN m) ((reg_put_ne _ _ (hne _ b2).symm).trans (reg_put_ne s _ (hne _ b1).symm))).trans hen

theorem inletOvercurrent_shows (hr : s.role = 2) (he : s.evcc n = true) : Completes (.inletOvercurrent n) s (fun t =>
    t.bit (Fld.VLK_L_EVT_OVERI n) = true ∧ SameMem s t ∧ (s.parapetFree 0x2B 2 = true → Recorded t 0x2B 2 n (2 ^ s.vlOutlet n) 0)) := by
  have hi : exec (.inletOvercurrent n) s = .next ((s.putB (Fld.VLK_L_EVT_OVERI n) true).reportOutlet 0x2B clsB n (s.vlOutlet n)) :=
    congrArg Host.Outcome.next (if_pos (by simp [hr, he]))
  refine ⟨_, hi, ?_, memoryChangesOnlyByItsWriters _ _ _ hi, fun hf => reportOutlet_recorded (by rfl) (by rfl) hf n _⟩
  exact (bit_of_reg (f := Fld.VLK_L_EVT_OVERI n) ((handled_report _ _ _ _ _ _).reg_eq (not_faultBlock
    ((by decide : ∀ n : Fin 8, (Fld.VLK_L_EVT_OVERI n).addr / 0x10000 = 0x400C) n)))).trans (bit_putB_self (F := Fld.VLK_L_EVT_OVERI) (by decide) n true)

/-! ### Pilot and contacts (R515 to R518) -/

theorem pilotPwmCycle_shows (hn : n.val < s.vlk.length) : Completes (.pilotPwmCycle n) s (fun t => t.regs = s.regs ∧ SameMem s t ∧
    (t.vl n).duty = if s.secc n && s.bit (Fld.VLK_L_CTRL_PWM n) then s.get (Fld.VLK_L_PILOT_DUTY n) else (s.vl n).duty) := by
  by_cases h : (s.secc n && s.bit (Fld.VLK_L_CTRL_PWM n)) = true
  · have hi : exec (.pilotPwmCycle n) s = .next (s.modVl n (fun l => { l with duty := s.get (Fld.VLK_L_PILOT_DUTY n) })) :=
      congrArg Host.Outcome.next (if_pos h)
    exact ⟨_, hi, rfl, memoryChangesOnlyByItsWriters _ _ _ hi, by rw [vl_modVl hn, if_pos h]⟩
  · have hi : exec (.pilotPwmCycle n) s = .next s := congrArg Host.Outcome.next (if_neg h)
    exact ⟨_, hi, rfl, fun _ => rfl, by rw [if_neg h]⟩

theorem ccLevel_lt (v lo hi : Nat) : ccLevel v lo hi < 4 := by
  unfold ccLevel
  split
  · decide
  · split <;> decide

/-- What a measurement takes of the pilot where the link measures it itself (R516, R542). -/
def State.pilotTaken (s : State) (n : Nat) (hi lo : Option Int) (din : Nat) : State :=
  let scale (x : Int) : Int := roundFree ((x : Rat) * q16 (s.vcfg n 4 4))
  if s.pilotRemote n then s
  else
    let s := s.modVl n (fun l => { l with
      his := (match hi with | some x => (scale x :: l.his).take 8 | none => l.his)
      los := (match lo with | some x => (scale x :: l.los).take 8 | none => l.los) })
    let s := (s.putS (Fld.VLK_L_PMEAS_HI n) (roundFree (meanMv (s.vl n).his))).putS (Fld.VLK_L_PMEAS_LO n) (roundFree (meanMv (s.vl n).los))
    if s.evcc n then s.put (Fld.VLK_L_PILOT_DUTY_IN n) din else s

theorem pilotTaken_shows (hi lo : Option Int) (din : Fin 1024) : SameRegs s (s.pilotTaken n hi lo din) [Reg.VLK_L_PMEAS n, Reg.VLK_L_PILOT n] ∧
    (s.pilotTaken n hi lo din).img = s.img ∧
    (s.pilotRemote n = false → s.evcc n = true → (s.pilotTaken n hi lo din).get (Fld.VLK_L_PILOT_DUTY_IN n) = din) := by
  unfold State.pilotTaken
  extract_lets scale u w
  have hw : SameRegs s w [Reg.VLK_L_PMEAS n, Reg.VLK_L_PILOT n] ∧ w.img = s.img :=
    ⟨(((SameRegs.refl s _).andModVl n _).andPut (f := Fld.VLK_L_PMEAS_HI n) (by simp [Fld.VLK_L_PMEAS_HI]) _).andPut (f := Fld.VLK_L_PMEAS_LO n)
      (by simp [Fld.VLK_L_PMEAS_LO]) _, rfl⟩
  have he : w.evcc n = s.evcc n := rfl
  clear_value w
  obtain ⟨hregs, himg⟩ := hw
  split
  next hr => exact ⟨SameRegs.refl s _, rfl, fun h => absurd (hr.symm.trans h) (by decide)⟩
  · split
    · exact ⟨hregs.andPut (f := Fld.VLK_L_PILOT_DUTY_IN n) (by simp [Fld.VLK_L_PILOT_DUTY_IN]) _, himg, fun _ _ =>
        (get_put_self_mod (F := Fld.VLK_L_PILOT_DUTY_IN) (by decide) n _).trans (Nat.mod_eq_of_lt (by simp [Fld.VLK_L_PILOT_DUTY_IN]))⟩
    next hno => exact ⟨hregs, himg, fun _ h => absurd (he.trans h) hno⟩

/-- What a measurement shows of the contacts (R518). -/
def State.contactsShown (s : State) (n : Nat) (pp cc1 cc2 : BitVec 16) : State :=
  let s := (s.put (Fld.VLK_L_CONT_PP n) pp.toNat).put (Fld.VLK_L_CCV_CC1 n) cc1.toNat
  let s := (s.put (Fld.VLK_L_CCV_CC2 n) cc2.toNat).put (Fld.VLK_L_CONT_CC1 n) (ccLevel cc1.toNat (s.vcfg n 8 2) (s.vcfg n 0xA 2))
  s.put (Fld.VLK_L_CONT_CC2 n) (ccLevel cc2.toNat (s.vcfg n 0xC 2) (s.vcfg n 0xE 2))

theorem vcfg_put (f : FieldRef) (v o k : Nat) : (s.put f v).vcfg n o k = s.vcfg n o k := cfg_put s f v _ _ _

theorem contactsShown_shows (pp cc1 cc2 : BitVec 16) : let t := s.contactsShown n pp cc1 cc2
    t.get (Fld.VLK_L_CONT_PP n) = pp.toNat ∧ t.get (Fld.VLK_L_CCV_CC1 n) = cc1.toNat ∧ t.get (Fld.VLK_L_CCV_CC2 n) = cc2.toNat ∧
    t.get (Fld.VLK_L_CONT_CC1 n) = ccLevel cc1.toNat (s.vcfg n 8 2) (s.vcfg n 0xA 2) ∧
    t.get (Fld.VLK_L_CONT_CC2 n) = ccLevel cc2.toNat (s.vcfg n 0xC 2) (s.vcfg n 0xE 2) ∧
    t.bit (Fld.VLK_L_CONT_CONNECTED n) = s.bit (Fld.VLK_L_CONT_CONNECTED n) ∧ SameRegs s t [Reg.VLK_L_CONT n, Reg.VLK_L_CCV n] := by
  have mod (F : Nat → FieldRef) (h : ∀ n : Fin 8, (F n).lo + (F n).w ≤ 32) {v : Nat} (hv : v < 2 ^ (F n).w) (u : State) : (u.put (F n) v).get (F n) = v :=
    (get_put_self_mod h n v).trans (Nat.mod_eq_of_lt hv)
  have hp := mod Fld.VLK_L_CONT_PP (by decide) (v := pp.toNat) pp.isLt
  have h1 := mod Fld.VLK_L_CCV_CC1 (by decide) (v := cc1.toNat) cc1.isLt
  have h2 := mod Fld.VLK_L_CCV_CC2 (by decide) (v := cc2.toNat) cc2.isLt
  have l1 := mod Fld.VLK_L_CONT_CC1 (by decide) (ccLevel_lt cc1.toNat (s.vcfg n 8 2) (s.vcfg n 0xA 2))
  have l2 := mod Fld.VLK_L_CONT_CC2 (by decide) (ccLevel_lt cc2.toNat (s.vcfg n 0xC 2) (s.vcfg n 0xE 2))
  unfold State.contactsShown
  simp only [vcfg_put]
  refine ⟨?_, ?_, ?_, ?_, l2 _, ?_, ?_⟩
  · simp (disch := (clear * -; revert n; decide)) only [get_put_apart, hp]
  · simp (disch := (clear * -; revert n; decide)) only [get_put_apart, h1]
  · simp (disch := (clear * -; revert n; decide)) only [get_put_apart, h2]
  · simp (disch := (clear * -; revert n; decide)) only [get_put_apart, l1]
  · simp (disch := (clear * -; revert n; decide)) only [bit_put_apart]
  · exact (((((SameRegs.refl s _).andPut (by simp [Fld.VLK_L_CONT_PP]) _).andPut (by simp [Fld.VLK_L_CCV_CC1]) _).andPut (by simp [Fld.VLK_L_CCV_CC2]) _).andPut
      (by simp [Fld.VLK_L_CONT_CC1]) _).andPut (by simp [Fld.VLK_L_CONT_CC2]) _

theorem pilotMeasurement_shows (hu : s.vlUsed n = true) (hi lo : Option Int) (din : Fin 1024) (pp cc1 cc2 : BitVec 16) :
    Completes (.pilotMeasurement n hi lo din pp cc1 cc2) s (fun t =>
      t.get (Fld.VLK_L_CONT_PP n) = pp.toNat ∧ t.get (Fld.VLK_L_CCV_CC1 n) = cc1.toNat ∧ t.get (Fld.VLK_L_CCV_CC2 n) = cc2.toNat ∧
      t.get (Fld.VLK_L_CONT_CC1 n) = ccLevel cc1.toNat (s.vcfg n 8 2) (s.vcfg n 0xA 2) ∧
      t.get (Fld.VLK_L_CONT_CC2 n) = ccLevel cc2.toNat (s.vcfg n 0xC 2) (s.vcfg n 0xE 2) ∧
      t.bit (Fld.VLK_L_CONT_CONNECTED n) = s.bit (Fld.VLK_L_CONT_CONNECTED n) ∧
      (s.pilotRemote n = false → s.evcc n = true → t.get (Fld.VLK_L_PILOT_DUTY_IN n) = din) ∧
      SameRegs s t [Reg.VLK_L_PMEAS n, Reg.VLK_L_PILOT n, Reg.VLK_L_CONT n, Reg.VLK_L_CCV n] ∧ SameMem s t) := by
  have he : exec (.pilotMeasurement n hi lo din pp cc1 cc2) s = .next ((s.pilotTaken n hi lo din).contactsShown n pp cc1 cc2) :=
    congrArg Host.Outcome.next (if_neg (by simp [hu]))
  have hmem := memoryChangesOnlyByItsWriters _ _ _ he
  refine ⟨_, he, ?_⟩
  obtain ⟨hregs, himg, hduty⟩ := pilotTaken_shows (s := s) (n := n) hi lo din
  generalize s.pilotTaken n hi lo din = u at *
  obtain ⟨hp, h1, h2, l1, l2, hc, hregs'⟩ := contactsShown_shows (s := u) (n := n) pp cc1 cc2
  have hcfg (o k : Nat) : u.vcfg n o k = s.vcfg n o k := cfg_congr himg _ _ _
  rw [hcfg, hcfg] at l1 l2
  have hblk : ∀ n : Fin 8, Reg.VLK_L_CONT n ∉ [Reg.VLK_L_PMEAS n, Reg.VLK_L_PILOT n] ∧ Reg.VLK_L_PILOT n ∉ [Reg.VLK_L_CONT n, Reg.VLK_L_CCV n] := by decide
  obtain ⟨b1, b2⟩ := hblk n
  refine ⟨hp, h1, h2, l1, l2, hc.trans (bit_of_reg (f := Fld.VLK_L_CONT_CONNECTED n) (hregs _ b1)), fun hr hev => ?_, ?_, hmem⟩
  · exact (get_of_reg (f := Fld.VLK_L_PILOT_DUTY_IN n) (hregs' _ b2)).trans (hduty hr hev)
  · exact (hregs.mono fun a ha => by simp at ha ⊢; tauto).trans (hregs'.mono fun a ha => by simp at ha ⊢; tauto)

theorem pilotOf_lt (x : Rat) : pilotOf x < 8 := by
  unfold pilotOf
  repeat' split
  all_goals decide

theorem pilotState_lt : s.pilotState n < 8 := by
  unfold State.pilotState
  dsimp only
  split
  · exact get_lt _ _
  · split
    · decide
    · exact pilotOf_lt _

theorem pilotStateChange_shows (hu : s.vlUsed n = true) (hr : s.pilotRemote n = false) (hne : s.pilotState n ≠ s.get (Fld.VLK_L_PILOT_STATE n)) :
    Completes (.pilotStateChange n) s (fun t => t.get (Fld.VLK_L_PILOT_STATE n) = s.pilotState n ∧ SameMem s t ∧
      (s.pilotState n ≠ 4 → s.pilotState n ≠ 5 → s.pilotState n ≠ 7 → SameRegs s t [Reg.VLK_L_PILOT n])) := by
  have hi : exec (.pilotStateChange n) s = .next ((s.put (Fld.VLK_L_PILOT_STATE n) (s.pilotState n)).pilotBad n (s.pilotState n)) :=
    congrArg Host.Outcome.next ((if_neg (by simp [hu, hr])).trans (if_neg hne))
  have hlt : s.pilotState n < 8 := pilotState_lt
  refine ⟨_, hi, ?_, memoryChangesOnlyByItsWriters _ _ _ hi, fun h4 h5 h7 => ?_⟩
  · have hreg := pilotBad_reg (s.put (Fld.VLK_L_PILOT_STATE n) (s.pilotState n)) n (s.pilotState n) (a := Reg.VLK_L_PILOT n)
      ((by decide : ∀ n : Fin 8, Reg.VLK_L_PILOT n / 0x10000 = 0x400C) n)
      ((by decide : ∀ n : Fin 8, Reg.VLK_L_PILOT n ∉ [Reg.VLK_L_EVT n, Reg.VLK_L_HPSTAT n, Reg.VLK_L_SESS n]) n)
    exact (get_of_reg (f := Fld.VLK_L_PILOT_STATE n) hreg).trans
      ((get_put_self_mod (F := Fld.VLK_L_PILOT_STATE) (by decide) n _).trans (Nat.mod_eq_of_lt hlt))
  · have e : ∀ u : State, u.pilotBad n (s.pilotState n) = u := fun u => if_neg (by simp [h4, h5, h7])
    rw [e]
    exact (SameRegs.refl s _).andPut (f := Fld.VLK_L_PILOT_STATE n) (List.mem_cons_self ..) _

end

/-- Settles O37: each event of the pilot, the contacts and the charge loop by what it leaves at its link. -/
theorem pilotAndChargeLoopAct : Obligations.PilotAndChargeLoopAct := by
  unfold Obligations.PilotAndChargeLoopAct
  intro s n hs
  have hn : n.val < s.vlk.length := by rw [vlk_of_shaped hs]; exact n.isLt
  refine ⟨pilotPwmCycle_shows hn, fun hi lo din pp cc1 cc2 => ⟨fun h => ?_, fun h => pilotMeasurement_shows h hi lo din pp cc1 cc2⟩, fun h => ?_,
    pilotStateChange_shows, fun h => ?_, fun hu hc => ?_, premoteStale_shows hn, fun m v => ⟨premoteWrite_shows hn, chargeLoopKick_shows⟩, fun h => ?_,
    chargeLoopWatchdogExpiry_shows, fun h => ?_, inletOvercurrent_shows⟩
  · exact congrArg Host.Outcome.next (if_pos (by simp [h]))
  · by_cases hg : (!s.vlUsed n || s.pilotRemote n) = true
    · exact congrArg Host.Outcome.next (if_pos hg)
    · refine congrArg Host.Outcome.next ((if_neg hg).trans (if_pos ?_))
      rcases h with h | h | h
      · simp [h] at hg
      · simp [h] at hg
      · exact h
  · refine congrArg Host.Outcome.next ?_
    by_cases hu : s.vlUsed n = true
    · have hc : s.connected n = s.connCond n := (h.resolve_left (by simp [hu])).symm
      exact (if_pos hu).trans (if_pos hc)
    · exact if_neg hu
  · obtain ⟨hcon, hevt, -, hlost⟩ := setConnected_shows (c := s.connCond n) (Ne.symm hc)
    have hi : exec (.connectedChange n) s = .next (s.setConnected n (s.connCond n)) := congrArg Host.Outcome.next (if_pos hu)
    exact ⟨_, hi, hcon, hevt, memoryChangesOnlyByItsWriters _ _ _ hi, hlost⟩
  · have e : s.syncWdog n = s := if_neg (by simp [h])
    exact congrArg Host.Outcome.next ((if_neg (by simp [h])).trans e)
  · refine congrArg Host.Outcome.next (if_neg ?_)
    rcases h with h | h <;> simp [h]

end Sys2Proof.Machine

/-! PROOFS. Housekeeping (O54). -/

namespace Sys2Proof.Machine

/-! ### A round of sensors and rails (R728, R734) -/

theorem Handled.hkp_eq {s t : State} (h : Handled s t) : t.hkp = s.hkp := h.keeps State.hkp fun _ _ hstep => by cases hstep <;> rfl

/-- The registers of a round beside the sensors' and the rails'. -/
def roundRegs : List Nat := [Reg.HKP_TMAX, Reg.HKP_TSTAT, Reg.HKP_BROKEN, Reg.HKP_EVT]

/-- What a round shows and what it goes by: each sensor's count, each rail, whether a vote stands, and whether NOW was written. -/
def State.roundFace (s : State) : (Fin 12 → Nat) × (Fin 8 → Nat) × Bool × Bool :=
  (fun n => s.get (Fld.HKP_TS_COUNT n), fun k => s.get (Fld.HKP_RAIL_MV k), s.hkp.vote, s.hkp.now)

theorem roundFace_congr {s t : State} (hr : ∀ a, a / 0x10000 = 0x4002 → a ∉ roundRegs → t.reg a = s.reg a)
    (hh : t.hkp.vote = s.hkp.vote ∧ t.hkp.now = s.hkp.now) : t.roundFace = s.roundFace := by
  have hs (n : Fin 12) : t.get (Fld.HKP_TS_COUNT n) = s.get (Fld.HKP_TS_COUNT n) := get_of_reg (hr _
    ((by decide : ∀ n : Fin 12, Reg.HKP_TS n / 0x10000 = 0x4002) n) ((by decide : ∀ n : Fin 12, Reg.HKP_TS n ∉ roundRegs) n))
  have hk (n : Fin 8) : t.get (Fld.HKP_RAIL_MV n) = s.get (Fld.HKP_RAIL_MV n) := get_of_reg (hr _
    ((by decide : ∀ n : Fin 8, Reg.HKP_RAIL n / 0x10000 = 0x4002) n) ((by decide : ∀ n : Fin 8, Reg.HKP_RAIL n ∉ roundRegs) n))
  simp only [State.roundFace, hs, hk, hh.1, hh.2]

theorem roundFace_put (s : State) {f : FieldRef} (hf : f.addr ∈ roundRegs) (v : Nat) : (s.put f v).roundFace = s.roundFace :=
  roundFace_congr (fun _ _ ha => reg_put_ne s v fun e => ha (e ▸ hf)) ⟨rfl, rfl⟩

theorem roundFace_putB (s : State) {f : FieldRef} (hf : f.addr ∈ roundRegs) (b : Bool) : (s.putB f b).roundFace = s.roundFace := roundFace_put s hf _

theorem roundFace_report (s : State) (code cls src o p : Nat) : (s.report code cls src o p).roundFace = s.roundFace := by
  have h := handled_report s code cls src o p
  refine roundFace_congr (fun a ha _ => h.reg_eq ?_) ⟨by rw [h.hkp_eq], by rw [h.hkp_eq]⟩
  rw [ha]
  decide

theorem roundFace_levels (s : State) (tj : Int) : (s.levels tj).roundFace = s.roundFace := by
  unfold State.levels
  extract_lets w r c s1 s2 s3 s4 s5 s6
  have h1 : s1.roundFace = s.roundFace := roundFace_putB s (by decide) _
  have h2 : s2.roundFace = s1.roundFace := by
    unfold s2
    split
    · exact roundFace_putB _ (by decide) _
    · rfl
  have h3 : s3.roundFace = s2.roundFace := roundFace_putB _ (by decide) _
  have h4 : s4.roundFace = s3.roundFace := by
    unfold s4
    split
    · exact (roundFace_putB _ (by decide) _).trans (roundFace_putB _ (by decide) _)
    · split
      · exact roundFace_putB _ (by decide) _
      · rfl
  have h5 : s5.roundFace = s4.roundFace := roundFace_putB s4 (f := Fld.HKP_TSTAT_CRIT) (by decide) _
  have h6 : s6.roundFace = s5.roundFace := by
    unfold s6
    split
    · exact roundFace_putB _ (by decide) _
    · rfl
  clear_value s1 s2 s3 s4 s5 s6
  have hall := h6.trans (h5.trans (h4.trans (h3.trans (h2.trans h1))))
  split
  · exact (roundFace_report _ _ _ _ _ _).trans ((roundFace_putB _ (by decide) _).trans hall)
  · exact hall

theorem roundFace_enforce (s : State) : s.enforce.roundFace = s.roundFace := by
  unfold State.enforce
  extract_lets u
  have hu : u.roundFace = s.roundFace := roundFace_putB s (by decide) _
  clear_value u
  split
  · exact hu
  · exact ((roundFace_putB (u.putB Fld.HKP_TSTAT_ENFORCED true) (f := Fld.HKP_EVT_ENFORCE) (by decide) _).trans (roundFace_putB u (by decide) _)).trans hu

theorem roundFace_calmRound (s : State) : s.calmRound.roundFace = s.roundFace := by
  unfold State.calmRound
  extract_lets calm u
  have hu : u.roundFace = s.roundFace := rfl
  clear_value u
  split
  · exact ((roundFace_putB _ (f := Fld.HKP_EVT_CLEAR) (by decide) _).trans (roundFace_putB u (by decide) _)).trans hu
  · exact hu

/-- A sensor's turn writes its own register, BROKEN and EVT. -/
theorem sense_reg (s : State) (n count : Nat) (temp : Int) {a : Nat} (h : a ∉ [Reg.HKP_BROKEN, Reg.HKP_EVT, Reg.HKP_TS n]) :
    (s.sense n count temp).reg a = s.reg a ∧ (s.sense n count temp).hkp.vote = s.hkp.vote ∧ (s.sense n count temp).hkp.now = s.hkp.now := by
  simp only [List.mem_cons, List.not_mem_nil, or_false, not_or] at h
  obtain ⟨hb, he, ht⟩ := h
  unfold State.sense
  extract_lets run u bad w
  have hw : w.reg a = s.reg a ∧ w.hkp.vote = s.hkp.vote ∧ w.hkp.now = s.hkp.now := by
    unfold w
    split
    · exact ⟨(reg_put_ne _ _ he).trans (reg_put_ne u _ hb), rfl, rfl⟩
    · exact ⟨rfl, rfl, rfl⟩
  clear_value w
  exact ⟨((reg_put_ne _ _ ht).trans (reg_put_ne w _ ht)).trans hw.1, hw.2⟩

theorem sense_count (s : State) (n : Fin 12) {count : Nat} (hc : count < 65536) (temp : Int) :
    (s.sense n count temp).get (Fld.HKP_TS_COUNT n) = count := by
  unfold State.sense
  extract_lets run u bad w
  refine (get_put_other (F := Fld.HKP_TS_TEMP) (G := Fld.HKP_TS_COUNT) (by decide) n _).trans ?_
  exact (get_put_self_mod (F := Fld.HKP_TS_COUNT) (by decide) n _).trans (Nat.mod_eq_of_lt hc)

/-- One rail's turn. -/
def State.railShown (s : State) (k mv : Nat) : State :=
  let s := s.put (Fld.HKP_RAIL_MV k) mv
  let nom := nth 0 railMv k
  if mv * 100 < nom * 95 ∨ nom * 105 < mv * 100 then s.putB Fld.HKP_EVT_RAIL true else s

theorem railShown_reg (s : State) (k mv : Nat) {a : Nat} (h : a ≠ Reg.HKP_EVT ∧ a ≠ Reg.HKP_RAIL k) : (s.railShown k mv).reg a = s.reg a := by
  unfold State.railShown
  dsimp only
  split
  · exact (reg_put_ne _ _ h.1).trans (reg_put_ne s _ h.2)
  · exact reg_put_ne s _ h.2

theorem railShown_hkp (s : State) (k mv : Nat) : (s.railShown k mv).hkp = s.hkp := by
  unfold State.railShown
  dsimp only
  split <;> rfl

theorem railShown_mv (s : State) (k : Fin 8) {mv : Nat} (hm : mv < 65536) : (s.railShown k mv).get (Fld.HKP_RAIL_MV k) = mv := by
  have h : (s.put (Fld.HKP_RAIL_MV k) mv).get (Fld.HKP_RAIL_MV k) = mv :=
    (get_put_self_mod (F := Fld.HKP_RAIL_MV) (by decide) k _).trans (Nat.mod_eq_of_lt hm)
  unfold State.railShown
  dsimp only
  split
  · exact (get_putB_other (F := fun _ => Fld.HKP_EVT_RAIL) (G := Fld.HKP_RAIL_MV) (by decide) k true).trans h
  · exact h

/-- All sensors and all rails. -/
def State.roundShown (s : State) (counts : List (BitVec 16)) (temps : List Int) (rails : List (BitVec 16)) : State :=
  forEach (List.range 8) (forEach (List.range 12) s (fun s n => s.sense n (nth 0 counts n).toNat (nth 0 temps n)))
    (fun s k => s.railShown k (nth 0 rails k).toNat)

theorem roundShown_face (s : State) (counts : List (BitVec 16)) (temps : List Int) (rails : List (BitVec 16)) :
    (s.roundShown counts temps rails).roundFace = (fun n : Fin 12 => (nth 0 counts n).toNat, fun k : Fin 8 => (nth 0 rails k).toNat, s.hkp.vote, s.hkp.now) := by
  unfold State.roundShown
  generalize hu : forEach (List.range 12) s (fun s n => s.sense n (nth 0 counts n).toNat (nth 0 temps n)) = u
  have huc (n : Fin 12) : u.get (Fld.HKP_TS_COUNT n) = (nth 0 counts n).toNat := by
    rw [← hu]
    refine forEach_sets (fun t => t.get (Fld.HKP_TS_COUNT n)) _ _ n.val s _ (List.mem_range.2 n.isLt) (fun t x hx hne => ?_)
      fun t => sense_count t n (BitVec.isLt _) _
    refine get_of_reg (f := Fld.HKP_TS_COUNT n) (sense_reg t x _ _ ?_).1
    simp only [List.mem_cons, List.not_mem_nil, or_false, Fld.HKP_TS_COUNT, Reg.HKP_TS, Reg.HKP_BROKEN, Reg.HKP_EVT]
    omega
  have huh : (u.hkp.vote, u.hkp.now) = (s.hkp.vote, s.hkp.now) := by
    rw [← hu]
    refine forEach_keeps (fun t => (t.hkp.vote, t.hkp.now)) _ s _ fun t x _ => ?_
    obtain ⟨-, hv, hw⟩ := sense_reg t x (nth 0 counts x).toNat (nth 0 temps x) (a := 0) (by
      simp only [List.mem_cons, List.not_mem_nil, or_false, Reg.HKP_TS, Reg.HKP_BROKEN, Reg.HKP_EVT]; omega)
    rw [hv, hw]
  clear hu
  generalize hw : forEach (List.range 8) u (fun s k => s.railShown k (nth 0 rails k).toNat) = w
  have hwc (n : Fin 12) : w.get (Fld.HKP_TS_COUNT n) = u.get (Fld.HKP_TS_COUNT n) := by
    rw [← hw]
    refine forEach_keeps (fun t => t.get (Fld.HKP_TS_COUNT n)) _ u _ fun t x hx => get_of_reg (railShown_reg t x _ ?_)
    have hx := List.mem_range.1 hx
    simp only [Fld.HKP_TS_COUNT, Reg.HKP_TS, Reg.HKP_EVT, Reg.HKP_RAIL]
    omega
  have hwr (k : Fin 8) : w.get (Fld.HKP_RAIL_MV k) = (nth 0 rails k).toNat := by
    rw [← hw]
    refine forEach_sets (fun t => t.get (Fld.HKP_RAIL_MV k)) _ _ k.val u _ (List.mem_range.2 k.isLt) (fun t x hx hne => ?_)
      fun t => railShown_mv t k (BitVec.isLt _)
    refine get_of_reg (railShown_reg t x _ ?_)
    simp only [Fld.HKP_RAIL_MV, Reg.HKP_RAIL, Reg.HKP_EVT]
    omega
  have hwh : w.hkp = u.hkp := by
    rw [← hw]
    exact forEach_keeps State.hkp _ u _ fun t x _ => railShown_hkp t x _
  obtain ⟨hv, hn⟩ := Prod.mk.inj huh
  simp only [State.roundFace, hwc, huc, hwr, hwh, hv, hn]

/-- The junction temperature is shown, and its levels act (R730, R731). -/
def State.junction (s : State) : State :=
  match s.tj with
  | none => s.put Fld.HKP_TMAX_TJ 0x8000
  | some t => ((s.put Fld.HKP_TMAX_TJ (ofS 16 t)).put Fld.HKP_TMAX_PEAK (ofS 16 (max t (s.getS Fld.HKP_TMAX_PEAK)))).levels t

theorem roundFace_junction (s : State) : s.junction.roundFace = s.roundFace := by
  unfold State.junction
  split
  · exact roundFace_put s (by decide) _
  · exact (roundFace_levels _ _).trans ((roundFace_put _ (f := Fld.HKP_TMAX_PEAK) (by decide) _).trans (roundFace_put s (by decide) _))

/-- The throttle at the end of the round (R733, R735). -/
def State.throttled (s : State) (was : Nat) : State :=
  if s.hkp.now || s.get Fld.HKP_BROKEN_SNS != was then s.enforce.modHkp (fun h => { h with now := false, clear := 0 }) else s.calmRound

theorem throttled_face (s : State) (was : Nat) : (s.throttled was).roundFace = (s.roundFace.1, s.roundFace.2.1, s.roundFace.2.2.1, false) := by
  unfold State.throttled
  split
  · have h := roundFace_enforce s
    generalize s.enforce = u at *
    rw [← h]
    rfl
  next hno =>
    have hnow : s.hkp.now = false := by
      simp only [Bool.or_eq_true, not_or, Bool.not_eq_true] at hno
      exact hno.1
    rw [roundFace_calmRound]
    exact congrArg (fun b => (s.roundFace.1, s.roundFace.2.1, s.roundFace.2.2.1, b)) hnow

/-- Whether some vote stands is kept for the next round (R737). -/
def State.voted (s : State) : State := s.modHkp (fun h => { h with vote := s.hotVote })

theorem exec_housekeepingRound {s : State} {counts : List (BitVec 16)} {temps : List Int} {rails : List (BitVec 16)}
    (h : s.pwr.st ≠ .park ∧ s.pwr.st ≠ .off ∧ s.pwr.shutLatch = false) (hv : s.hkp.vote = false) :
    exec (.housekeepingRound counts temps rails) s =
      .next ((s.roundShown counts temps rails).junction.throttled (s.get Fld.HKP_BROKEN_SNS)).voted := by
  have hface : ((s.roundShown counts temps rails).junction.throttled (s.get Fld.HKP_BROKEN_SNS)).roundFace.2.2.1 = s.hkp.vote := by
    rw [throttled_face, roundFace_junction, roundShown_face]
  refine congrArg Host.Outcome.next ((if_neg (by simp [h])).trans (if_neg ?_))
  rw [Bool.and_eq_true, not_and]
  exact fun _ hagain => absurd ((hv.symm.trans hface.symm).trans hagain) (by decide)

theorem housekeepingRound_shows {s : State} (counts : List (BitVec 16)) (temps : List Int) (rails : List (BitVec 16))
    (h : s.pwr.st ≠ .park ∧ s.pwr.st ≠ .off ∧ s.pwr.shutLatch = false) (hv : s.hkp.vote = false) :
    Completes (.housekeepingRound counts temps rails) s (fun t =>
      (∀ n : Fin 12, t.get (Fld.HKP_TS_COUNT n) = (nth 0 counts n).toNat) ∧ (∀ k : Fin 8, t.get (Fld.HKP_RAIL_MV k) = (nth 0 rails k).toNat) ∧
      t.hkp.now = false ∧ SameMem s t) := by
  refine ⟨_, exec_housekeepingRound h hv, ?_⟩
  have hface := throttled_face (s.roundShown counts temps rails).junction (s.get Fld.HKP_BROKEN_SNS)
  rw [roundFace_junction, roundShown_face] at hface
  have hkept : ((s.roundShown counts temps rails).junction.throttled (s.get Fld.HKP_BROKEN_SNS)).kept = s.kept := by
    have h1 : (s.roundShown counts temps rails).kept = s.kept := by
      unfold State.roundShown
      refine (kept_forEach _ _ _ fun t k => ?_).trans (kept_forEach _ _ _ fun t n => by simp)
      unfold State.railShown
      dsimp only
      split <;> simp
    have h2 : (s.roundShown counts temps rails).junction.kept = s.kept := by
      unfold State.junction
      split <;> simp [h1]
    unfold State.throttled State.modHkp
    split <;> simp [h2]
  generalize (s.roundShown counts temps rails).junction.throttled (s.get Fld.HKP_BROKEN_SNS) = u at *
  obtain ⟨hc, hr⟩ := Prod.mk.inj hface
  obtain ⟨hr, hvn⟩ := Prod.mk.inj hr
  exact ⟨fun n => congrFun hc n, fun k => congrFun hr k, (Prod.mk.inj hvn).2, sameMem_of_kept hkept⟩

/-! ### Grace, NOW and the Truss read-back (R658, R732, R733) -/

theorem graceExpiry_enforces {s : State} (hg : s.bit Fld.HKP_TSTAT_GRACE = true) (hr : s.bit Fld.HKP_TSTAT_REQ = true)
    (he : s.bit Fld.HKP_TSTAT_ENFORCED = false) : exec .graceExpiry s =
      .next { ((s.putB Fld.HKP_TSTAT_GRACE false).putB Fld.HKP_TSTAT_ENFORCED true).putB Fld.HKP_EVT_ENFORCE true with
        hkp := { s.hkp with clear := 0 } } := by
  have hen : ¬ (s.putB Fld.HKP_TSTAT_GRACE false).bit Fld.HKP_TSTAT_ENFORCED = true := by
    rw [bit_putB_apart s false (by decide), he]
    decide
  exact congrArg Host.Outcome.next ((if_pos hg).trans ((if_pos hr).trans (if_neg hen)))

/-- GRACE takes a value of 5 to 200, and bit 8 asks for the throttle. -/
theorem wrThrctl_shows (s : State) (v : Nat) : (s.wrThrctl v).hkp.now = (v.testBit 8 || s.hkp.now) ∧
    (s.wrThrctl v).get Fld.HKP_THRCTL_GRACE = (if 5 ≤ v % 256 ∧ v % 256 ≤ 200 then v % 256 else s.get Fld.HKP_THRCTL_GRACE) ∧
    SameRegs s (s.wrThrctl v) [Reg.HKP_THRCTL] := by
  let u := if 5 ≤ v % 256 ∧ v % 256 ≤ 200 then s.put Fld.HKP_THRCTL_GRACE (v % 256) else s
  have hu : u.hkp = s.hkp ∧ u.get Fld.HKP_THRCTL_GRACE = (if 5 ≤ v % 256 ∧ v % 256 ≤ 200 then v % 256 else s.get Fld.HKP_THRCTL_GRACE) ∧
      SameRegs s u [Reg.HKP_THRCTL] := by
    unfold u
    split
    · exact ⟨rfl, get_put_fits ⟨by decide, Nat.mod_lt v (by decide)⟩, (SameRegs.refl s _).andPut (f := Fld.HKP_THRCTL_GRACE) (by decide) _⟩
    · exact ⟨rfl, rfl, SameRegs.refl s _⟩
  have e : s.wrThrctl v = if v.testBit 8 then u.modHkp (fun h => { h with now := true }) else u := (rfl)
  rw [e]
  clear_value u
  obtain ⟨hh, hg, hr⟩ := hu
  cases hb : v.testBit 8 with
  | true => exact ⟨rfl, hg, hr⟩
  | false => exact ⟨by rw [if_neg Bool.false_ne_true, hh, Bool.false_or], hg, hr⟩

theorem throttleNow_shows {s : State} {m : Master} {v : Word} (ht : s.takes m Reg.HKP_THRCTL = true) :
    Completes (.throttleNow m v) s (fun t => t.hkp.now = (v.toNat.testBit 8 || s.hkp.now) ∧
      t.get Fld.HKP_THRCTL_GRACE = (if 5 ≤ v.toNat % 256 ∧ v.toNat % 256 ≤ 200 then v.toNat % 256 else s.get Fld.HKP_THRCTL_GRACE) ∧
      SameRegs s t [Reg.HKP_THRCTL] ∧ SameMem s t) := by
  have hi : exec (.throttleNow m v) s = .next (s.wrThrctl v.toNat) := by
    rw [← show s.writeReg m Reg.HKP_THRCTL v.toNat = s.wrThrctl v.toNat from rfl, ← wr_reg v ht (by decide)]
    rfl
  obtain ⟨hn, hg, hr⟩ := wrThrctl_shows s v.toNat
  exact ⟨_, hi, hn, hg, hr, memoryChangesOnlyByItsWriters _ _ _ hi⟩

theorem trussReadback_differs {s : State} (hrun : s.prp.running = true) (hd : s.pwr.domains.testBit 3 = true) :
    Completes (.trussReadbackCheck false) s (fun t => t.prp.trussBad = true ∧ t.bit Fld.PRP_STAT_SAFE = true ∧ SameMem s t ∧
      (s.parapetFree 0x0E 1 = true → Recorded t 0x0E 1 0xFF 0xFF 0xFFF)) := by
  have hi : exec (.trussReadbackCheck false) s = .next ({ s with prp := { s.prp with trussBad := true } }.report 0x0E clsA 0xFF 0xFF 0xFFF) :=
    congrArg Host.Outcome.next (if_neg (by simp [hrun, hd]))
  have hfree : { s with prp := { s.prp with trussBad := true } }.parapetFree 0x0E 1 = s.parapetFree 0x0E 1 := by
    simp [State.parapetFree, State.classFloor]
  refine ⟨_, hi, ?_, ?_, memoryChangesOnlyByItsWriters _ _ _ hi, fun hf => report_recorded (hfree.trans hf) 0xFF 0xFF 0xFFF⟩
  · have h := (handled_report { s with prp := { s.prp with trussBad := true } } 0x0E clsA 0xFF 0xFF 0xFFF).own_eq
    exact (congrArg Parapet.trussBad h).trans rfl
  · exact congrArg (·.1) (report_classA_alarm { s with prp := { s.prp with trussBad := true } } 0x0E 0xFF 0xFF 0xFFF)

/-- Settles O54: the round by what each of its stages leaves of the counts, the rails and NOW; the rest by the case each event meets. -/
theorem housekeepingActs : Obligations.HousekeepingActs := by
  unfold Obligations.HousekeepingActs
  intro s
  refine ⟨fun counts temps rails _ h1 h2 h3 hv => housekeepingRound_shows counts temps rails ⟨h1, h2, h3⟩ hv, graceExpiry_enforces, fun hg hr => ?_,
    fun m v => throttleNow_shows, fun hrun hd => ⟨?_, trussReadback_differs hrun hd⟩⟩
  · exact congrArg Host.Outcome.next ((if_pos hg).trans (if_neg (by simp [hr])))
  · exact congrArg Host.Outcome.next (if_neg (by simp [hrun, hd]))

end Sys2Proof.Machine

/-! PROOFS. Completed lowerings, insulation halves and contactor checks (O47). -/

namespace Sys2Proof.Machine

/-! ### Lowerings and B_OFF (R609, R641) -/

theorem outs_of_shaped {s : State} (h : s.shaped = true) : s.kst.outs.length = 8 := by
  simp only [State.shaped, Bool.and_eq_true, beq_iff_eq] at h
  tauto

theorem imc_of_shaped {s : State} (h : s.shaped = true) : s.prp.imc.length = 4 := by
  simp only [State.shaped, Bool.and_eq_true, beq_iff_eq] at h
  tauto

theorem out_modOut {s : State} {m : Nat} (h : m < s.kst.outs.length) (f : Outlet → Outlet) : (s.modOut m f).out m = f (s.out m) := nth_updAt_same _ f h

theorem outputsOff_kst (s : State) (m : Nat) : (s.outputsOff m).kst = s.kst := by
  refine (forEach_keeps State.kst _ _ _ fun t k _ => ?_).trans (put_kst s _ _)
  dsimp only
  split <;> rfl

theorem syncLower_kst (s : State) : s.syncLower.kst = s.kst := by
  refine forEach_keeps State.kst _ s _ fun t k _ => ?_
  split <;> rfl

theorem setArmed_kst (s : State) (m : Nat) : (s.setArmed m).kst = s.kst := by
  unfold State.setArmed
  split <;> rfl

theorem settleDisarm_kst (s : State) : s.settleDisarm.kst = s.kst := by
  have hsettle (t : State) : t.settleOutputs.kst = t.kst := by
    unfold State.settleOutputs
    split
    · rfl
    · exact outputsOff_kst _ _
  unfold State.settleDisarm
  dsimp only
  split
  · rfl
  · exact (hsettle _).trans (setArmed_kst _ _)

/-- Outputs of the mask turn off, and the outlet's B_OFF time ends. -/
def State.offOf (s : State) (m outs : Nat) : State :=
  let t := s.outputsOff outs
  { t with prp := { t.prp with bOutlets := mset s.prp.bOutlets m false } }

theorem bOff_eq (s : State) (m : Nat) : s.bOff m = s.offOf m (maskOf ((List.range 12).filter fun k => s.psoOutlet k == some m)) := by
  unfold State.bOff State.offOf maskOf
  rfl

theorem offOf_shows (s : State) (m outs : Nat) : Handled s (s.offOf m outs) ∧ (s.offOf m outs).kst = s.kst ∧ (s.offOf m outs).standing = s.standing ∧
    (s.offOf m outs).prp.bOutlets = mset s.prp.bOutlets m false ∧ (s.offOf m outs).get Fld.PRP_PSOSTAT_ON = mclr (s.get Fld.PRP_PSOSTAT_ON) outs := by
  unfold State.offOf
  have h1 := handled_outputsOff s outs
  have h2 := outputsOff_kst s outs
  have h3 := outputsOff_standing s outs
  have h4 := outputsOff_on s outs
  generalize s.outputsOff outs = u at *
  exact ⟨h1.prp _ rfl, h2, h3, rfl, h4⟩

/-- The outlet's safety outputs are off, and its B_OFF time no longer runs. -/
theorem bOff_shows (s : State) (m : Nat) : (s.bOff m).prp.bOutlets.testBit m = false ∧
    ∀ k : Fin 12, s.psoOutlet k = some m → ((s.bOff m).get Fld.PRP_PSOSTAT_ON).testBit k = false := by
  obtain ⟨-, -, -, hb, hon⟩ := offOf_shows s m (maskOf ((List.range 12).filter fun k => s.psoOutlet k == some m))
  rw [bOff_eq]
  refine ⟨by rw [hb, testBit_mset, if_pos rfl], fun k hk => ?_⟩
  have hmem : k.val ∈ (List.range 12).filter fun k => s.psoOutlet k == some m := List.mem_filter.2 ⟨List.mem_range.2 k.isLt, by simp [hk]⟩
  rw [hon, testBit_mclr, maskOf, testBit_foldl_maskOf _ (List.nodup_range.filter _) _ _ fun _ _ => Nat.zero_testBit _]
  simp [hmem]

theorem bOff_keeps (s : State) (m : Nat) : (s.bOff m).kst = s.kst ∧ (s.bOff m).standing = s.standing := by
  obtain ⟨-, hk, hst, -, -⟩ := offOf_shows s m (maskOf ((List.range 12).filter fun k => s.psoOutlet k == some m))
  rw [bOff_eq]
  exact ⟨hk, hst⟩

theorem classBLoweringDone_shows {s : State} {o : Fin 8} (hs : s.shaped = true) (hl : (s.out o).lowering = true) :
    Completes (.classBLoweringDone o) s (fun t => t.bit (Fld.KST_OUT_CTRL_EN o) = false ∧ t.bit (Fld.KST_OUT_CTRL_LOWERING o) = false ∧
      (t.out o).lowering = false ∧ (t.out o).lowerPiers = true ∧
      (∀ k : Fin 12, s.psoOutlet k = some o.val → (t.get Fld.PRP_PSOSTAT_ON).testBit k = false) ∧ SameMem s t) := by
  have hi : exec (.classBLoweringDone o) s = .next (((((s.putB (Fld.KST_OUT_CTRL_EN o) false).putB (Fld.KST_OUT_CTRL_LOWERING o) false).modOut o
      (fun x => { x with lowering := false, lowerPiers := true, ref := 0, ref1 := 0 })).bOff o).syncLower.settleDisarm) :=
    congrArg Host.Outcome.next (if_pos hl)
  have hmem := memoryChangesOnlyByItsWriters _ _ _ hi
  refine ⟨_, hi, ?_⟩
  have hpso (k : Nat) : (((s.putB (Fld.KST_OUT_CTRL_EN o) false).putB (Fld.KST_OUT_CTRL_LOWERING o) false).modOut o
      (fun x => { x with lowering := false, lowerPiers := true, ref := 0, ref1 := 0 })).psoOutlet k = s.psoOutlet k := rfl
  have hen : (((s.putB (Fld.KST_OUT_CTRL_EN o) false).putB (Fld.KST_OUT_CTRL_LOWERING o) false).modOut o
      (fun x => { x with lowering := false, lowerPiers := true, ref := 0, ref1 := 0 })).bit (Fld.KST_OUT_CTRL_EN o) = false := by
    rw [bit_modOut, bit_putB_other (F := Fld.KST_OUT_CTRL_LOWERING) (G := Fld.KST_OUT_CTRL_EN) (by decide) o]
    exact bit_putB_self (F := Fld.KST_OUT_CTRL_EN) (by decide) o false
  have hlow : (((s.putB (Fld.KST_OUT_CTRL_EN o) false).putB (Fld.KST_OUT_CTRL_LOWERING o) false).modOut o
      (fun x => { x with lowering := false, lowerPiers := true, ref := 0, ref1 := 0 })).bit (Fld.KST_OUT_CTRL_LOWERING o) = false :=
    (bit_modOut _ o _ _).trans (bit_putB_self (F := Fld.KST_OUT_CTRL_LOWERING) (by decide) o false)
  have hout : (((s.putB (Fld.KST_OUT_CTRL_EN o) false).putB (Fld.KST_OUT_CTRL_LOWERING o) false).modOut o
      (fun x => { x with lowering := false, lowerPiers := true, ref := 0, ref1 := 0 })).out o =
      { s.out o with lowering := false, lowerPiers := true, ref := 0, ref1 := 0 } :=
    out_modOut (by rw [putB_kst, putB_kst, outs_of_shaped hs]; exact o.isLt) _
  generalize ((s.putB (Fld.KST_OUT_CTRL_EN o) false).putB (Fld.KST_OUT_CTRL_LOWERING o) false).modOut o
      (fun x => { x with lowering := false, lowerPiers := true, ref := 0, ref1 := 0 }) = u at *
  have hst : ((u.bOff o).syncLower.settleDisarm).standing = u.standing :=
    (settleDisarm_standing _).trans ((syncLower_standing _).trans (bOff_keeps u o).2)
  have hreg : ((u.bOff o).syncLower.settleDisarm).reg (Reg.KST_OUT_CTRL o) = u.reg (Reg.KST_OUT_CTRL o) := congrFun (congrArg (·.2.2.2) hst) o
  have hkst : ((u.bOff o).syncLower.settleDisarm).kst = u.kst := (settleDisarm_kst _).trans ((syncLower_kst _).trans (bOff_keeps u o).1)
  have hto : ((u.bOff o).syncLower.settleDisarm).out o = u.out o := by simp only [State.out, hkst]
  refine ⟨(bit_of_reg (f := Fld.KST_OUT_CTRL_EN o) hreg).trans hen, (bit_of_reg (f := Fld.KST_OUT_CTRL_LOWERING o) hreg).trans hlow,
    by rw [hto, hout], by rw [hto, hout], fun k hk => ?_, hmem⟩
  exact ((handled_syncLower _).trans (handled_settleDisarm _)).stays_off ((bOff_shows u o).2 k ((hpso k).trans hk))

/-! ### Insulation (R646 to R649) -/

/-- What a result leaves alone: FRESH, MFAULT and the halves. -/
def State.imcFace (s : State) (n : Nat) : Bool × Bool × List Int :=
  (s.bit (Fld.PRP_IMC_STAT_FRESH n), s.bit (Fld.PRP_IMC_STAT_MFAULT n), (nth {} s.prp.imc n).halves)

section
variable {s : State} {n : Fin 4}

theorem imcFace_putB {F : Nat → FieldRef} (h : ∀ n : Fin 4, (F n).apart (Fld.PRP_IMC_STAT_FRESH n) = true ∧ (F n).apart (Fld.PRP_IMC_STAT_MFAULT n) = true)
    (b : Bool) : (s.putB (F n) b).imcFace n = s.imcFace n := by
  simp only [State.imcFace, bit_putB_apart _ _ (h n).1, bit_putB_apart _ _ (h n).2, putB_prp]

theorem imcFace_report (code cls src o p : Nat) : (s.report code cls src o p).imcFace n = s.imcFace n := by
  have h := handled_report s code cls src o p
  have hall : ∀ n : Fin 4, (∀ f ∈ faultFields, f.apart (Fld.PRP_IMC_STAT_FRESH n) = true) ∧ (∀ f ∈ faultFields, f.apart (Fld.PRP_IMC_STAT_MFAULT n) = true) ∧
      (Fld.PRP_IMC_STAT_FRESH n).addr / 0x10000 = 0x400E ∧ Fld.PRP_PSOSTAT_ON.apart (Fld.PRP_IMC_STAT_FRESH n) = true ∧
      Fld.PRP_PSOSTAT_ON.apart (Fld.PRP_IMC_STAT_MFAULT n) = true := by decide +kernel
  obtain ⟨hf, hm, hb, of, om⟩ := hall n
  have himc : (s.report code cls src o p).prp.own.imc = s.prp.own.imc := by rw [h.own_eq]
  change (s.report code cls src o p).prp.imc = s.prp.imc at himc
  simp only [State.imcFace, h.bit_eq hf hb of, h.bit_eq hm hb om, himc]

theorem imcFace_modImc (f : Imc → Imc) (h : ∀ c, (f c).halves = c.halves) : (s.modImc n f).imcFace n = s.imcFace n :=
  congrArg (fun l => (s.bit (Fld.PRP_IMC_STAT_FRESH n), s.bit (Fld.PRP_IMC_STAT_MFAULT n), l)) (nth_updAt_keeps _ _ _ _ _ Imc.halves h)

theorem imcFace_result (r : Rat) : (s.imcResult n r).imcFace n = s.imcFace n := by
  have hb : ∀ n : Fin 4, ((Fld.PRP_IMC_STAT_ALARM n).apart (Fld.PRP_IMC_STAT_FRESH n) = true ∧ (Fld.PRP_IMC_STAT_ALARM n).apart (Fld.PRP_IMC_STAT_MFAULT n) = true) ∧
      ((Fld.PRP_IMC_STAT_WARN n).apart (Fld.PRP_IMC_STAT_FRESH n) = true ∧ (Fld.PRP_IMC_STAT_WARN n).apart (Fld.PRP_IMC_STAT_MFAULT n) = true) ∧
      (Fld.PRP_EVT_IMC.apart (Fld.PRP_IMC_STAT_FRESH n) = true ∧ Fld.PRP_EVT_IMC.apart (Fld.PRP_IMC_STAT_MFAULT n) = true) := by decide
  have halarm (t : State) (a b : Bool) : ((t.putB (Fld.PRP_IMC_STAT_ALARM n) a).putB Fld.PRP_EVT_IMC b).imcFace n = t.imcFace n :=
    (imcFace_putB (F := fun _ => Fld.PRP_EVT_IMC) (fun n => (hb n).2.2) b).trans (imcFace_putB (fun n => (hb n).1) a)
  have hwarn (t : State) (a b : Bool) : ((t.putB (Fld.PRP_IMC_STAT_WARN n) a).putB Fld.PRP_EVT_IMC b).imcFace n = t.imcFace n :=
    (imcFace_putB (F := fun _ => Fld.PRP_EVT_IMC) (fun n => (hb n).2.2) b).trans (imcFace_putB (fun n => (hb n).2.1) a)
  unfold State.imcResult
  split
  · rfl
  extract_lets v ohm nn c la ha lw hw u bus w
  have hu : u.imcFace n = s.imcFace n := imcFace_modImc _ fun _ => rfl
  have hw : w.imcFace n = u.imcFace n := by
    unfold w
    split
    · exact (imcFace_report _ _ _ _ _).trans (halarm u _ _)
    · split
      · exact halarm u _ _
      · rfl
  clear_value u w
  split
  · exact (imcFace_report _ _ _ _ _).trans ((hwarn w _ _).trans (hw.trans hu))
  · split
    · exact (hwarn w _ _).trans (hw.trans hu)
    · exact hw.trans hu

theorem imcHalfEnd_suspended {sense : Int} (hp : s.par (0x242 + 32 * n) 2 ≠ 0) (hsus : s.imcSuspended n = true) (settled foreign : Bool) :
    Completes (.imcHalfEnd n sense settled foreign) s (fun t => t.bit (Fld.PRP_IMC_STAT_SUSP n) = true ∧ SameRegs s t [Reg.PRP_IMC_STAT n] ∧ SameMem s t) := by
  have hi : exec (.imcHalfEnd n sense settled foreign) s = .next ((s.modImc n (fun c => { c with halves := [] })).putB (Fld.PRP_IMC_STAT_SUSP n) true) :=
    congrArg Host.Outcome.next ((if_neg hp).trans (if_pos hsus))
  refine ⟨_, hi, bit_putB_self (F := Fld.PRP_IMC_STAT_SUSP) (by decide) n true, ?_, memoryChangesOnlyByItsWriters _ _ _ hi⟩
  have h : SameRegs s (s.modImc n (fun c => { c with halves := [] })) [Reg.PRP_IMC_STAT n] := SameRegs.refl s _
  exact h.andPut (f := Fld.PRP_IMC_STAT_SUSP n) (List.mem_cons_self ..) _

theorem imcHalfEnd_bad {sense : Int} (hp : s.par (0x242 + 32 * n) 2 ≠ 0) (hsus : s.imcSuspended n = false) {settled foreign : Bool}
    (hbad : settled = false ∨ foreign = true) :
    Completes (.imcHalfEnd n sense settled foreign) s (fun t => t.bit (Fld.PRP_IMC_STAT_MFAULT n) = true ∧ SameMem s t) := by
  let u := ((s.putB (Fld.PRP_IMC_STAT_SUSP n) false).modImc n (fun c => { c with halves := [], plus := !c.plus })).putB (Fld.PRP_IMC_STAT_MFAULT n) true
  have hi : exec (.imcHalfEnd n sense settled foreign) s = .next (u.report 0x09 clsB n (2 ^ u.cfgB 6 (0x240 + 32 * n)) 0) := by
    refine congrArg Host.Outcome.next ((if_neg hp).trans ((if_neg (by simp [hsus])).trans (if_pos ?_)))
    rcases hbad with h | h <;> simp [h]
  have hface : (u.report 0x09 clsB n (2 ^ u.cfgB 6 (0x240 + 32 * n)) 0).bit (Fld.PRP_IMC_STAT_MFAULT n) = u.bit (Fld.PRP_IMC_STAT_MFAULT n) :=
    congrArg (·.2.1) (imcFace_report (s := u) (n := n) _ _ _ _ _)
  exact ⟨_, hi, hface.trans (bit_putB_self (F := Fld.PRP_IMC_STAT_MFAULT) (by decide) n true), memoryChangesOnlyByItsWriters _ _ _ hi⟩

/-- A fresh result is shown, and MFAULT cleared (R646, R648). -/
def State.imcShown (s : State) (n : Nat) (r : Rat) : State :=
  let q := max 1 (min r 10000)
  let s := (s.putU (Fld.PRP_IMC_KOHM n) (roundFree (q * 65536))).putB (Fld.PRP_IMC_STAT_RANGE n) (q ≠ r)
  (s.putB (Fld.PRP_IMC_STAT_FRESH n) true).putB (Fld.PRP_IMC_STAT_MFAULT n) false

theorem imcShown_face (r : Rat) : (s.imcShown n r).imcFace n = (true, false, (nth {} s.prp.imc n).halves) := by
  unfold State.imcFace State.imcShown State.putU
  simp (disch := (clear * -; revert n; decide)) only [bit_putB_apart, bit_putB_same, putB_prp, put_prp]

/-- A valid half joins the one before. -/
def State.halfTaken (s : State) (n : Nat) (sense : Int) : State :=
  (s.putB (Fld.PRP_IMC_STAT_SUSP n) false).modImc n (fun c => { c with halves := (sense :: c.halves).take 2, plus := !c.plus })

theorem halfTaken_halves (hn : n.val < s.prp.imc.length) (sense : Int) :
    (nth {} (s.halfTaken n sense).prp.imc n).halves = (sense :: (nth {} s.prp.imc n).halves).take 2 :=
  congrArg Imc.halves (nth_updAt_same ({} : Imc) (fun c => { c with halves := (sense :: c.halves).take 2, plus := !c.plus }) hn)

theorem imcHalfEnd_second {sense b : Int} (hn : n.val < s.prp.imc.length) (hp : s.par (0x242 + 32 * n) 2 ≠ 0) (hsus : s.imcSuspended n = false)
    (hb : (nth {} s.prp.imc n).halves = [b]) :
    Completes (.imcHalfEnd n sense true false) s (fun t => t.bit (Fld.PRP_IMC_STAT_FRESH n) = true ∧
      t.bit (Fld.PRP_IMC_STAT_MFAULT n) = false ∧ (nth {} t.prp.imc n).halves = [sense, b] ∧ SameMem s t) := by
  have hh : (nth {} (s.halfTaken n sense).prp.imc n).halves = [sense, b] := by rw [halfTaken_halves hn, hb]; rfl
  have hi : exec (.imcHalfEnd n sense true false) s = .next (((s.halfTaken n sense).imcShown n (rIso (sense - b).natAbs)).imcResult n
      (max 1 (min (rIso (sense - b).natAbs) 10000))) := by
    refine congrArg Host.Outcome.next ((if_neg hp).trans ((if_neg (by simp [hsus])).trans ((if_neg (by simp)).trans ?_)))
    unfold State.halfTaken at hh ⊢
    dsimp only
    rw [hh]
    rfl
  have hface := (imcFace_result (s := (s.halfTaken n sense).imcShown n (rIso (sense - b).natAbs)) (n := n)
    (max 1 (min (rIso (sense - b).natAbs) 10000))).trans (imcShown_face _)
  rw [hh] at hface
  obtain ⟨hfresh, hrest⟩ := Prod.mk.inj hface
  obtain ⟨hmf, hhalves⟩ := Prod.mk.inj hrest
  exact ⟨_, hi, hfresh, hmf, hhalves, memoryChangesOnlyByItsWriters _ _ _ hi⟩

end

/-! ### Contactor checks (R653, R654) -/

/-- A contactor record's RESULT, and whether its check runs. -/
def State.weldFace (s : State) (k : Nat) : Nat × Bool := (s.get (Fld.PRP_WELD_RESULT k), s.prp.weldRun.testBit k)

theorem weldFace_put (s : State) {f : FieldRef} {k : Fin 16} (h : f.apart (Fld.PRP_WELD_RESULT k) = true) (v : Nat) :
    (s.put f v).weldFace k = s.weldFace k := by
  simp only [State.weldFace, get_put_apart s v h, put_prp]

section
variable {k : Fin 16}

/-- The fields that a fault of Class A, C or D writes beside the records of running checks. -/
def recordFields : List FieldRef :=
  [Fld.PRP_STAT_LATCH_A, Fld.PRP_STAT_LATCH_B, Fld.PRP_LATCH_OUTLETS, Fld.PRP_LATCH_PIERS, Fld.PRP_EVT_FAULT_A, Fld.PRP_QUEUE_HANDLING,
    Fld.PRP_QUEUE_FILL, Fld.PRP_QUEUE_DROPPED] ++ safeFields ++ (List.range 12).map Fld.SPN_LINK_STAT_LOWER_TX

theorem weldFace_record (s : State) {f : FieldRef} (hf : f ∈ recordFields) (v : Nat) : (s.put f v).weldFace k = s.weldFace k :=
  weldFace_put s ((by decide +kernel : ∀ k : Fin 16, ∀ f ∈ recordFields, f.apart (Fld.PRP_WELD_RESULT k) = true) k f hf) v

theorem weldFace_syncLower (s : State) : s.syncLower.weldFace k = s.weldFace k := by
  refine forEach_keeps (fun t => t.weldFace k) _ s _ fun t l hl => ?_
  split
  · rfl
  · exact weldFace_record t (by simp only [recordFields, List.mem_append, List.mem_map_of_mem hl, or_true]) _

theorem weldFace_syncQueue (s : State) : s.syncQueue.weldFace k = s.weldFace k :=
  (weldFace_record _ (f := Fld.PRP_QUEUE_FILL) (by decide) _).trans (weldFace_record s (f := Fld.PRP_QUEUE_HANDLING) (by decide) _)

theorem weldFace_syncLatch (s : State) : s.syncLatch.weldFace k = s.weldFace k := by
  have hregs : s.latchRegs.weldFace k = s.weldFace k :=
    (weldFace_record _ (f := Fld.PRP_LATCH_PIERS) (by decide) _).trans <| (weldFace_record _ (f := Fld.PRP_LATCH_OUTLETS) (by decide) _).trans <|
      (weldFace_record _ (f := Fld.PRP_STAT_LATCH_B) (by decide) _).trans (weldFace_record s (f := Fld.PRP_STAT_LATCH_A) (by decide) _)
  refine ((weldFace_syncLower _).trans (forEach_keeps (fun t => t.weldFace k) _ s.latchRegs _ fun t m _ => ?_)).trans hregs
  split <;> rfl

theorem weldFace_abandonXps (s : State) (m : Nat) : (s.abandonXps m).weldFace k = s.weldFace k := by
  refine forEach_keeps (fun t => t.weldFace k) _ s _ fun t x hx => ?_
  split
  · exact weldFace_put t ((by decide : ∀ k : Fin 16, ∀ x < 64, (Fld.ARC_XP_STAT_STATE x).apart (Fld.PRP_WELD_RESULT k) = true) k x (List.mem_range.1 hx)) 0
  · rfl

/-- A record whose check does not run is not abandoned. -/
theorem weldFace_abandonChecks {s : State} (h : s.prp.weldRun.testBit k = false) (m : Nat) : (s.abandonChecks m).weldFace k = s.weldFace k := by
  refine forEach_invariant (P := fun t => t.weldFace k = s.weldFace k) (fun t x ht => ?_) _ rfl
  split
  next hc =>
    have hxk : k.val ≠ x := fun e => by
      have hrun : t.prp.weldRun.testBit k = false := (Prod.mk.inj ht).2.trans h
      simp [← e, hrun] at hc
    have hne : (Fld.PRP_WELD_RESULT k).addr ≠ (Fld.PRP_WELD_RESULT x).addr := by
      simp only [Fld.PRP_WELD_RESULT, Reg.PRP_WELD]
      omega
    refine Eq.trans (Prod.ext ?_ ?_) ht
    · exact get_put_ne t 4 hne
    · exact (testBit_mset ..).trans (if_neg hxk)
  · exact ht

theorem weldFace_lowerBroadcast (s : State) : s.lowerBroadcast.weldFace k = s.weldFace k := by
  unfold State.lowerBroadcast
  extract_lets u v
  have hu : u.weldFace k = s.weldFace k := forEach_keeps (fun t => t.weldFace k) _ s _ fun t l _ => by split <;> rfl
  have hv : v.weldFace k = u.weldFace k :=
    (weldFace_record _ (f := Fld.SPN_BCAST_LOWER) (by decide) _).trans (weldFace_record u (f := Fld.SPN_BCAST_SENT) (by decide) _)
  clear_value u v
  exact (weldFace_syncLower _).trans (hv.trans hu)

theorem weldFace_assertSafe {s : State} (h : s.prp.weldRun.testBit k = false) : s.assertSafe.weldFace k = s.weldFace k := by
  unfold State.assertSafe
  have hfree : (s.fresh 16).2.weldFace k = s.weldFace k := rfl
  generalize s.fresh 16 = q at *
  obtain ⟨b, w⟩ := q
  dsimp -zeta only at hfree ⊢
  extract_lets first v u
  have hv : v.weldFace k = w.weldFace k := (weldFace_record _ (f := Fld.PRP_RTIME_BCAST) (by decide) _).trans
    ((weldFace_record _ (f := Fld.PRP_STAT_SAFE) (by decide) _).trans (weldFace_lowerBroadcast w))
  have hrun : v.prp.weldRun.testBit k = false := (Prod.mk.inj (hv.trans hfree)).2.trans h
  have hu : u.weldFace k = v.weldFace k := (weldFace_abandonXps _ _).trans (weldFace_abandonChecks hrun _)
  clear_value u v
  split
  · exact hu.trans (hv.trans hfree)
  · exact hu.trans (hv.trans hfree)

/-- Only the response of Class B turns outputs off. -/
theorem weldFace_startHandling (s : State) {r : FaultRec} (h : r.cls ≠ 2) : (s.startHandling r).weldFace k = s.weldFace k := by
  have ht : (s.taken r).weldFace k = s.weldFace k := rfl
  by_cases hA : r.cls = 1
  · rw [startHandling_A s hA, weldFace_syncQueue]
    exact (weldFace_record _ (f := Fld.PRP_EVT_FAULT_A) (by decide) _).trans ((weldFace_syncLatch _).trans ht)
  by_cases hC : r.cls = 3
  · rw [startHandling_C s hC, weldFace_syncQueue]
    exact ht
  · rw [startHandling_D s hA h hC, weldFace_syncQueue]
    exact ht

theorem weldFace_meetManager {s : State} (hrun : s.prp.weldRun.testBit k = false) {r : FaultRec} (h : r.cls ≠ 2) :
    (s.meetManager r).weldFace k = s.weldFace k := by
  unfold State.meetManager
  split
  · rfl
  split
  · exact weldFace_startHandling s h
  split
  · exact weldFace_startHandling s h
  split
  · exact weldFace_syncQueue _
  split
  · exact weldFace_record s (f := Fld.PRP_QUEUE_DROPPED) (by decide) _
  split
  · exact (weldFace_syncQueue _).trans (weldFace_record _ (f := Fld.PRP_QUEUE_DROPPED) (by decide) _)
  · exact (weldFace_startHandling _ (by simp)).trans (weldFace_assertSafe hrun)

/-- A fault that the class table leaves below Class B touches no record whose check does not run. -/
theorem weldFace_report {s : State} (hrun : s.prp.weldRun.testBit k = false) {code cls : Nat} (hc : 3 ≤ cls) (hf : 3 ≤ s.classFloor code) (src o p : Nat) :
    (s.report code cls src o p).weldFace k = s.weldFace k := by
  unfold State.report
  extract_lets c u
  have hc3 : 3 ≤ c := Nat.le_min.2 ⟨hc, hf⟩
  have hu : u = s := if_neg (by omega)
  clear_value c
  rw [hu]
  clear hu u
  split
  · have hfree : (s.freshBelow (s.periodUs * 1000)).2.prp.weldRun.testBit k = false := hrun
    exact weldFace_meetManager hfree (show c ≠ 2 by omega)
  · rfl

/-- The check of record k ends: it no longer runs, and its difference shows with the event. -/
def State.checkEnded (s : State) (k diff : Nat) : State :=
  (({ s with prp := { s.prp with weldRun := mset s.prp.weldRun k false, weldAgain := mset s.prp.weldAgain k false } }.put (Fld.PRP_WELD_DIFF k)
    (min diff 0xFFFF)).putB Fld.PRP_EVT_WELD true)

theorem checkEnded_shows (s : State) (diff : Nat) : (s.checkEnded k diff).get (Fld.PRP_WELD_DIFF k) = min diff 0xFFFF ∧
    (s.checkEnded k diff).bit Fld.PRP_EVT_WELD = true ∧ (s.checkEnded k diff).prp.weldRun.testBit k = false ∧ (s.checkEnded k diff).img = s.img := by
  refine ⟨?_, bit_putB_flag (by decide) true, (testBit_mset ..).trans (if_pos rfl), rfl⟩
  refine (get_putB_other (F := fun _ => Fld.PRP_EVT_WELD) (G := Fld.PRP_WELD_DIFF) (by decide) k true).trans ?_
  exact (get_put_self_mod (F := Fld.PRP_WELD_DIFF) (by decide) k _).trans
    (Nat.mod_eq_of_lt (lt_of_le_of_lt (Nat.min_le_right _ _) (by simp [Fld.PRP_WELD_DIFF])))

/-- A difference and its event stay through a report. -/
theorem Handled.weldShown {s t : State} (h : Handled s t) : t.get (Fld.PRP_WELD_DIFF k) = s.get (Fld.PRP_WELD_DIFF k) ∧
    t.bit Fld.PRP_EVT_WELD = s.bit Fld.PRP_EVT_WELD := by
  have hall : ∀ k : Fin 16, (∀ f ∈ faultFields, f.apart (Fld.PRP_WELD_DIFF k) = true) ∧ (Fld.PRP_WELD_DIFF k).addr / 0x10000 = 0x400E ∧
      Fld.PRP_PSOSTAT_ON.apart (Fld.PRP_WELD_DIFF k) = true := by decide +kernel
  obtain ⟨hf, hb, ho⟩ := hall k
  exact ⟨h.get_eq hf hb ho, h.bit_eq (by decide +kernel) (by decide) (by decide)⟩

theorem contactorCheckEnd_shows {s : State} {diff : Nat} {dead : Bool} (hrun : s.prp.weldRun.testBit k = true) :
    Completes (.contactorCheckEnd k diff dead) s (fun t => t.get (Fld.PRP_WELD_DIFF k) = min diff 0xFFFF ∧ t.bit Fld.PRP_EVT_WELD = true ∧
      (s.cfg 6 (0x2C2 + 16 * k) 2 ≤ diff → t.get (Fld.PRP_WELD_RESULT k) = 1 ∧ t.prp.weldRun.testBit k = false) ∧
      (diff < s.cfg 6 (0x2C2 + 16 * k) 2 → dead = true → 3 ≤ s.classFloor 0x12 → t.get (Fld.PRP_WELD_RESULT k) = 3) ∧ SameMem s t) := by
  obtain ⟨os, ps, hi⟩ : ∃ os ps, exec (.contactorCheckEnd k diff dead) s = .next (let u := s.checkEnded k diff
      if s.cfg 6 (0x2C2 + 16 * k) 2 ≤ diff then u.put (Fld.PRP_WELD_RESULT k) 1
      else if dead then (u.put (Fld.PRP_WELD_RESULT k) 3).report 0x12 clsD k os ps
      else (u.put (Fld.PRP_WELD_RESULT k) 2).report 0x0A clsB k os ps) := by
    let o := (s.checkEnded k diff).psoOutlet ((s.checkEnded k diff).cfgB 6 (0x2C0 + 16 * k))
    exact ⟨match o with | some m => 2 ^ m | none => 0, match o with | some m => (s.checkEnded k diff).outletPiers m | none => 0,
      congrArg Host.Outcome.next (if_pos hrun)⟩
  have hmem := memoryChangesOnlyByItsWriters _ _ _ hi
  refine ⟨_, hi, ?_⟩
  obtain ⟨hdiff, hevt, hoff, himg⟩ := checkEnded_shows (k := k) s diff
  have hfloor : (s.checkEnded k diff).classFloor 0x12 = s.classFloor 0x12 := by
    unfold State.classFloor State.cfgB
    rw [himg]
  generalize s.checkEnded k diff = u at *
  have hput (v : Nat) : (u.put (Fld.PRP_WELD_RESULT k) v).get (Fld.PRP_WELD_DIFF k) = min diff 0xFFFF ∧
      (u.put (Fld.PRP_WELD_RESULT k) v).bit Fld.PRP_EVT_WELD = true := by
    refine ⟨(get_put_other (F := Fld.PRP_WELD_RESULT) (G := Fld.PRP_WELD_DIFF) (by decide) k v).trans hdiff, ?_⟩
    exact (bit_put_other (F := Fld.PRP_WELD_RESULT) (G := fun _ => Fld.PRP_EVT_WELD) (by decide) k v).trans hevt
  dsimp only at hmem ⊢
  by_cases hpass : s.cfg 6 (0x2C2 + 16 * k) 2 ≤ diff
  · rw [if_pos hpass] at hmem ⊢
    exact ⟨(hput 1).1, (hput 1).2, fun _ => ⟨get_put_self (F := Fld.PRP_WELD_RESULT) (by decide) k, hoff⟩, fun h => absurd hpass (by omega), hmem⟩
  · rw [if_neg hpass] at hmem ⊢
    cases dead with
    | true =>
      rw [if_pos rfl] at hmem ⊢
      obtain ⟨hd, he⟩ := (handled_report (u.put (Fld.PRP_WELD_RESULT k) 3) 0x12 clsD k os ps).weldShown (k := k)
      refine ⟨hd.trans (hput 3).1, he.trans (hput 3).2, fun h => absurd h hpass, fun _ _ hf => ?_, hmem⟩
      have hf' : 3 ≤ (u.put (Fld.PRP_WELD_RESULT k) 3).classFloor 0x12 := hfloor.symm ▸ hf
      have hface := weldFace_report (k := k) (s := u.put (Fld.PRP_WELD_RESULT k) 3) hoff (code := 0x12) (cls := clsD) (by decide) hf' k os ps
      exact (Prod.mk.inj hface).1.trans (get_put_self (F := Fld.PRP_WELD_RESULT) (by decide) k)
    | false =>
      rw [if_neg Bool.false_ne_true] at hmem ⊢
      obtain ⟨hd, he⟩ := (handled_report (u.put (Fld.PRP_WELD_RESULT k) 2) 0x0A clsB k os ps).weldShown (k := k)
      exact ⟨hd.trans (hput 2).1, he.trans (hput 2).2, fun h => absurd h hpass, fun _ h => absurd h Bool.false_ne_true, hmem⟩

end

/-- Settles O47: each event by what its operation leaves and what a fault after it cannot change. -/
theorem loweringInsulationAndContactors : Obligations.LoweringInsulationAndContactors := by
  unfold Obligations.LoweringInsulationAndContactors
  intro s hs
  refine ⟨fun o => classBLoweringDone_shows hs, fun o hb => ?_, fun n sense hp => ⟨imcHalfEnd_suspended hp, fun hsus settled foreign => imcHalfEnd_bad hp hsus,
    fun hsus b => imcHalfEnd_second (by rw [imc_of_shaped hs]; exact n.isLt) hp hsus⟩, fun k diff dead => contactorCheckEnd_shows⟩
  have hi : exec (.bOffExpiry o) s = .next (s.bOff o) := congrArg Host.Outcome.next (if_pos hb)
  obtain ⟨hout, hon⟩ := bOff_shows s o
  exact ⟨_, hi, hout, hon, memoryChangesOnlyByItsWriters _ _ _ hi⟩

end Sys2Proof.Machine

/-! PROOFS. Output requests and faults, clearing of faults, arming, the reset button (O46). -/

namespace Sys2Proof.Machine

/-! ### Writes of the Parapet's registers -/

theorem exec_safetyOutputRequest {s : State} {m : Master} (v : Word) (hm : m.val < 6) (ht : s.takes m Reg.PRP_PSO = true) :
    exec (.safetyOutputRequest m v) s = .next (s.wrPso v.toNat) :=
  congrArg Host.Outcome.next ((wr_reg v ht (by decide)).trans (if_neg (Nat.not_le.2 hm)))

theorem exec_faultClearKey {s : State} {m : Master} (v : Word) (hm : m.val < 6) (ht : s.takes m Reg.PRP_FCLRK = true) :
    exec (.faultClearKey m v) s = .next (s.wrFclrk m v.toNat) :=
  congrArg Host.Outcome.next ((wr_reg v ht (by decide)).trans (if_neg (Nat.not_le.2 hm)))

theorem exec_faultClear {s : State} {m : Master} (v : Word) (hm : m.val < 6) (ht : s.takes m Reg.PRP_FCLR = true) :
    exec (.faultClear m v) s = .next (s.wrFclr m v.toNat) :=
  congrArg Host.Outcome.next ((wr_reg v ht (by decide)).trans (if_neg (Nat.not_le.2 hm)))

theorem exec_armPiers {s : State} {m : Master} (v : Word) (hm : m.val < 6) (ht : s.takes m Reg.PRP_ARMREQ = true) :
    exec (.armPiers m v) s = .next (s.wrArmreq m v.toNat) :=
  congrArg Host.Outcome.next ((wr_reg v ht (by decide)).trans (if_neg (Nat.not_le.2 hm)))

theorem exec_disarmPiers {s : State} {m : Master} (v : Word) (hm : m.val < 6) (ht : s.takes m Reg.PRP_ARMREQ = true) :
    exec (.disarmPiers m v) s = .next (s.wrArmreq m v.toNat) :=
  congrArg Host.Outcome.next ((wr_reg v ht (by decide)).trans (if_neg (Nat.not_le.2 hm)))

theorem exec_softwareStop {s : State} {m : Master} (v : Word) (hm : m.val < 6) (ht : s.takes m Reg.PRP_SWSTOP = true) :
    exec (.softwareStop m v) s = .next (s.wrSwstop m v.toNat) :=
  congrArg Host.Outcome.next ((wr_reg v ht (by decide)).trans (if_neg (Nat.not_le.2 hm)))

/-! ### Output requests (R629) -/

theorem testBit_ones {k n : Nat} (h : k < n) : (2 ^ n - 1).testBit k = true := by simp [Nat.testBit_two_pow_sub_one, h]

theorem psoTurnOn_get (s : State) (k : Nat) {g : FieldRef} (hw : ∀ w < 16, (Fld.PRP_WELD_RESULT w).apart g = true)
    (hon : Fld.PRP_PSOSTAT_ON.apart g = true) (hf : Fld.PRP_PSOSTAT_FAULT.apart g = true) : (s.psoTurnOn k).get g = s.get g := by
  unfold State.psoTurnOn
  dsimp only
  split
  next h => exact get_put_apart s 5 (hw _ h.1)
  · split
    · exact (get_put_apart _ _ hf).trans (get_put_apart s _ hon)
    · rfl

/-- A request turns on its own output only. -/
theorem psoTurnOn_others (s : State) {k j : Nat} (hk : k < 12) (hj : j ≠ k) :
    ((s.psoTurnOn k).get Fld.PRP_PSOSTAT_ON).testBit j = (s.get Fld.PRP_PSOSTAT_ON).testBit j := by
  unfold State.psoTurnOn
  dsimp only
  split
  next h => exact congrArg (Nat.testBit · j) (get_put_apart s 5 ((by decide : ∀ w < 16, (Fld.PRP_WELD_RESULT w).apart Fld.PRP_PSOSTAT_ON = true) _ h.1))
  · split
    · refine (congrArg (Nat.testBit · j) (get_put_apart _ (f := Fld.PRP_PSOSTAT_FAULT) (g := Fld.PRP_PSOSTAT_ON) _ (by decide))).trans ?_
      rw [testBit_get_putBit s Fld.PRP_PSOSTAT_ON j true (by decide) hk, if_neg hj]
    · rfl

/-- REQ is as requested, and every output that is not requested is off. -/
theorem wrPso_shows (s : State) (v : Nat) : (s.wrPso v).get Fld.PRP_PSO_REQ = (if s.bit Fld.PRP_STAT_SAFE then s.get Fld.PRP_PSO_REQ &&& v % 4096 else v % 4096) ∧
    ∀ k : Fin 12, ((s.wrPso v).get Fld.PRP_PSO_REQ).testBit k = false → ((s.wrPso v).get Fld.PRP_PSOSTAT_ON).testBit k = false := by
  unfold State.wrPso
  extract_lets old req u w
  have hreq : req < 2 ^ 12 := by
    have hv : v % 4096 < 2 ^ 12 := Nat.mod_lt _ (by decide)
    unfold req
    split
    · exact Nat.and_le_right.trans_lt hv
    · exact hv
  have hw : w.get Fld.PRP_PSO_REQ = req := by
    refine ((handled_outputsOff u _).get_eq (g := Fld.PRP_PSO_REQ) (by decide +kernel) (by decide) (by decide)).trans ?_
    exact (get_put_same s Fld.PRP_PSO_REQ req (by decide)).trans (Nat.mod_eq_of_lt hreq)
  have hoff (k : Fin 12) (h : req.testBit k = false) : (w.get Fld.PRP_PSOSTAT_ON).testBit k = false := by
    have hk : (0xFFF : Nat).testBit k = true := testBit_ones (n := 12) k.isLt
    rw [outputsOff_on, testBit_mclr, testBit_mclr, hk, h]
    simp
  clear_value w
  have hfin : (forEach ((mbits req 12).filter fun k => !(w.get Fld.PRP_PSOSTAT_ON).testBit k) w State.psoTurnOn).get Fld.PRP_PSO_REQ = req :=
    (forEach_keeps (fun t => t.get Fld.PRP_PSO_REQ) _ w _ fun t k _ => psoTurnOn_get t k (by decide) (by decide) (by decide)).trans hw
  refine ⟨hfin, fun k hk => ?_⟩
  rw [hfin] at hk
  refine (forEach_keeps (fun t => (t.get Fld.PRP_PSOSTAT_ON).testBit k) _ w _ fun t j hj => ?_).trans (hoff k hk)
  obtain ⟨hj12, hjreq⟩ := List.mem_filter.1 (List.mem_of_mem_filter hj)
  exact psoTurnOn_others t (List.mem_range.1 hj12) fun e => by simp [← e, hk] at hjreq

/-! ### Clearing of faults (R638) -/

/-- What the release of a cause leaves alone: the lists and flags of the fault manager, and the fields beside the inputs' and the outputs' marks. -/
theorem releaseCause_prp (s : State) (r : FaultRec) {β : Type} (p : Parapet → β) (h : ∀ (x : Parapet) i, p { x with ins := i } = p x) :
    p (s.releaseCause r).prp = p s.prp := by
  unfold State.releaseCause
  split
  · exact h s.prp _
  · split <;> rfl

theorem releaseCause_get (s : State) (r : FaultRec) {g : FieldRef} (hs : Fld.PRP_PSI_STATE.apart g = true) (hd : Fld.PRP_PSIF_DISC.apart g = true)
    (hp : Fld.PRP_PSIF_PULSE.apart g = true) (hf : Fld.PRP_PSOSTAT_FAULT.apart g = true) : (s.releaseCause r).get g = s.get g := by
  unfold State.releaseCause
  split
  · exact (get_put_apart _ _ hp).trans ((get_put_apart _ _ hd).trans ((get_put_apart _ _ hs).trans rfl))
  · split
    · exact get_put_apart s _ hf
    · rfl

/-- The first half of the clearing key and the button's mark, which no fault touches. -/
theorem own_keyLo (p : Parapet) : p.own.keyLo = p.keyLo := rfl

theorem own_stuckHeld (p : Parapet) : p.own.stuckHeld = p.stuckHeld := rfl

theorem clearFaults_prp (s : State) (q : FaultRec → Bool) :
    (s.clearFaults q).prp.latched = s.prp.latched.filter (fun r => !(q r && !s.causePresent r)) ∧ (s.clearFaults q).prp.keyLo = s.prp.keyLo := by
  unfold State.clearFaults
  extract_lets go keep mark x u
  have hl : (go.foldl State.releaseCause u).prp.latched = keep := foldl_keeps (fun t => t.prp.latched) _ u _ fun t r _ => releaseCause_prp t r Parapet.latched fun _ _ => rfl
  have hk : (go.foldl State.releaseCause u).prp.keyLo = s.prp.keyLo := foldl_keeps (fun t => t.prp.keyLo) _ u _ fun t r _ => releaseCause_prp t r Parapet.keyLo fun _ _ => rfl
  generalize go.foldl State.releaseCause u = w at *
  have hman := congrArg (·.2.1) (syncLatch_manager w)
  simp only [State.manager] at hman
  have hown := congrArg Parapet.keyLo (handled_syncLatch w).own_eq
  rw [own_keyLo, own_keyLo] at hown
  exact ⟨hman.trans hl, hown.trans hk⟩

/-- A field of the Parapet's that neither the latches nor the release of a cause touch. -/
theorem clearFaults_get (s : State) (q : FaultRec → Bool) {g : FieldRef} (hall : ∀ f ∈ faultFields, f.apart g = true) (hb : g.addr / 0x10000 = 0x400E)
    (ho : Fld.PRP_PSOSTAT_ON.apart g = true) (hs : Fld.PRP_PSI_STATE.apart g = true) (hd : Fld.PRP_PSIF_DISC.apart g = true)
    (hp : Fld.PRP_PSIF_PULSE.apart g = true) (hf : Fld.PRP_PSOSTAT_FAULT.apart g = true) : (s.clearFaults q).get g = s.get g := by
  unfold State.clearFaults
  extract_lets go keep mark x u
  exact ((handled_syncLatch _).get_eq hall hb ho).trans (foldl_keeps (fun t => t.get g) _ u _ fun t r _ => releaseCause_get t r hs hd hp hf)

theorem faultClear_shows {s : State} {m : Master} {v : Word} (hm : m.val < 6) (ht : s.takes m Reg.PRP_FCLR = true) (hk : s.prp.keyLo = true)
    (hv : v.toNat / 2 ^ 24 = 0x6C) :
    Completes (.faultClear m v) s (fun t => t.prp.keyLo = false ∧ SameMem s t ∧ t.prp.latched = s.prp.latched.filter (fun r =>
      !(r.cls == 2 && ((r.outlets &&& v.toNat / 2 ^ 16 % 256) != 0 || (r.piers &&& v.toNat % 4096) != 0) && !s.causePresent r))) := by
  let u : State := { s with prp := { s.prp with keyLo := false } }
  have hi : exec (.faultClear m v) s = .next (u.clearFaults fun r => r.cls == 2 && ((r.outlets &&& v.toNat / 2 ^ 16 % 256) != 0 || (r.piers &&& v.toNat % 4096) != 0)) :=
    (exec_faultClear v hm ht).trans (congrArg Host.Outcome.next (if_pos (by rw [hk, Bool.true_and, beq_iff_eq]; exact hv)))
  obtain ⟨hl, hkey⟩ := clearFaults_prp u fun r => r.cls == 2 && ((r.outlets &&& v.toNat / 2 ^ 16 % 256) != 0 || (r.piers &&& v.toNat % 4096) != 0)
  exact ⟨_, hi, hkey, memoryChangesOnlyByItsWriters _ _ _ hi, hl⟩

/-! ### Arming and disarming (R639) -/

theorem testBit_foldl_mset (l : List Nat) (m j : Nat) : (l.foldl (fun m n => mset m n true) m).testBit j = (m.testBit j || decide (j ∈ l)) := by
  induction l generalizing m with
  | nil => simp
  | cons x l ih =>
    rw [List.foldl_cons, ih, testBit_mset]
    by_cases hj : j = x <;> simp [hj]

theorem mem_pierBits {m n : Nat} : n ∈ pierBits m ↔ n < 12 ∧ m.testBit n = true := by simp [pierBits, mbits]

theorem testBit_mod_4096 (v : Nat) (n : Fin 12) : (v % 4096).testBit n = v.testBit n := by
  have h : (v % 2 ^ 12).testBit n = _ := Nat.testBit_mod_two_pow v 12 n
  rw [show (4096 : Nat) = 2 ^ 12 by rfl, h]
  simp

theorem armPiers_shows (s : State) (mask : Nat) : (∀ n : Fin 12, ((s.armPiers mask).get Fld.PRP_ARMED_PIERS).testBit n =
    ((s.get Fld.PRP_ARMED_PIERS).testBit n || (mask.testBit n && s.mayArm n))) ∧ SameRegs s (s.armPiers mask) [Reg.PRP_ARMED, Reg.PRP_EVT] := by
  unfold State.armPiers
  extract_lets go a u
  have ha : a < 2 ^ 12 := by
    refine Nat.lt_pow_two_of_testBit a fun i hi => ?_
    have hout : (s.get Fld.PRP_ARMED_PIERS).testBit i = false := Nat.testBit_lt_two_pow ((get_lt s _).trans_le (Nat.pow_le_pow_right Nat.two_pos hi))
    have hgo : i ∉ go := fun h => Nat.not_lt.2 hi (mem_pierBits.1 (List.mem_of_mem_filter h)).1
    rw [testBit_foldl_mset, hout, Bool.false_or, decide_eq_false hgo]
  have hu : u.get Fld.PRP_ARMED_PIERS = a := setArmed_armed s ha
  have hregs : SameRegs s u [Reg.PRP_ARMED, Reg.PRP_EVT] := setArmed_regs s a
  have hbits (n : Fin 12) : (u.get Fld.PRP_ARMED_PIERS).testBit n = ((s.get Fld.PRP_ARMED_PIERS).testBit n || (mask.testBit n && s.mayArm n)) := by
    rw [hu, testBit_foldl_mset]
    congr 1
    rw [Bool.eq_iff_iff]
    simp [go, mem_pierBits]
  clear_value u
  split
  · exact ⟨hbits, hregs⟩
  · exact ⟨hbits, hregs⟩

theorem settleOutputs_get (s : State) {g : FieldRef} (hw : ∀ k < 16, (Fld.PRP_WELD_RESULT k).apart g = true) (ho : Fld.PRP_PSOSTAT_ON.apart g = true) :
    s.settleOutputs.get g = s.get g := by
  unfold State.settleOutputs State.outputsOff
  split
  · rfl
  · refine (forEach_keeps (fun t => t.get g) _ _ _ fun t k hk => ?_).trans (get_put_apart s _ ho)
    dsimp only
    split
    · exact get_put_apart t 5 (hw k (List.mem_range.1 hk))
    · rfl

theorem outputsOff_disarm (s : State) (m : Nat) : (s.outputsOff m).prp.disarm = s.prp.disarm := by
  unfold State.outputsOff
  extract_lets on u
  refine forEach_keeps (fun t => t.prp.disarm) _ u _ fun t k _ => ?_
  extract_lets o
  split
  · rfl
  · rfl

theorem settleOutputs_disarm (s : State) : s.settleOutputs.prp.disarm = s.prp.disarm := by
  unfold State.settleOutputs
  split
  · rfl
  · exact outputsOff_disarm s _

/-- Piers due that report LOWERED. -/
def State.dueMask (s : State) : Nat := maskOf ((pierBits s.prp.disarm).filter s.pierLowered)

theorem testBit_dueMask (s : State) (n : Fin 12) : s.dueMask.testBit n = (s.prp.disarm.testBit n && s.pierLowered n) := by
  have hnodup : ((pierBits s.prp.disarm).filter s.pierLowered).Nodup := (List.nodup_range.filter _).filter _
  rw [State.dueMask, maskOf, testBit_foldl_maskOf _ hnodup _ _ fun _ _ => Nat.zero_testBit _, Nat.zero_testBit, Bool.false_or, Bool.eq_iff_iff]
  simp [mem_pierBits]

/-- The piers due are disarmed once LOWERED, and stay due otherwise. -/
theorem settleDisarm_shows (s : State) (n : Fin 12) (hd : s.prp.disarm.testBit n = true) :
    if s.pierLowered n then (s.settleDisarm.get Fld.PRP_ARMED_PIERS).testBit n = false else s.settleDisarm.prp.disarm.testBit n = true := by
  have hbit := testBit_dueMask s n
  have heq : s.settleDisarm = if s.dueMask = 0 then s else (({ s with prp := { s.prp with disarm := mclr s.prp.disarm s.dueMask } } : State).setArmed
      (mclr (s.get Fld.PRP_ARMED_PIERS) s.dueMask)).settleOutputs := by
    unfold State.dueMask
    rfl
  rw [heq]
  by_cases h0 : s.dueMask = 0
  · rw [if_pos h0]
    rw [h0, Nat.zero_testBit, hd, Bool.true_and] at hbit
    rw [← hbit]
    exact hd
  · rw [if_neg h0]
    rw [hd, Bool.true_and] at hbit
    rw [settleOutputs_get _ (by decide) (by decide), setArmed_armed _ ((mclr_le _ _).trans_lt (get_lt s _)), settleOutputs_disarm, setArmed_prp]
    change if _ then _ else (mclr s.prp.disarm s.dueMask).testBit n = true
    rw [testBit_mclr, testBit_mclr, hbit, hd]
    cases s.pierLowered n <;> simp

/-- Armed, of the piers named: those armed before, and those that meet the conditions. -/
theorem arming_shows {s : State} {m : Master} {v : Word} (hm : m.val < 6) (ht : s.takes m Reg.PRP_ARMREQ = true) (hv : v.toNat / 2 ^ 16 = 0x3A71)
    (hop : v.toNat / 2 ^ 14 % 4 = 1) (hsafe : s.bit Fld.PRP_STAT_SAFE = false) :
    Completes (.armPiers m v) s (fun t => (∀ n : Fin 12, (t.get Fld.PRP_ARMED_PIERS).testBit n =
      ((s.get Fld.PRP_ARMED_PIERS).testBit n || (v.toNat.testBit n && s.mayArm n))) ∧ SameRegs s t [Reg.PRP_ARMED, Reg.PRP_EVT] ∧ SameMem s t) := by
  have hi : exec (.armPiers m v) s = .next (s.armPiers (v.toNat % 4096)) :=
    (exec_armPiers v hm ht).trans (congrArg Host.Outcome.next ((if_neg (by simp only [hv]; decide)).trans ((if_pos hop).trans (if_neg (by simp [hsafe])))))
  obtain ⟨hbits, hregs⟩ := armPiers_shows s (v.toNat % 4096)
  refine ⟨_, hi, fun n => ?_, hregs, memoryChangesOnlyByItsWriters _ _ _ hi⟩
  rw [hbits n, testBit_mod_4096]

/-- The state whose named armed piers are due for disarming. -/
def State.dueFor (s : State) (mask : Nat) : State := { s with prp := { s.prp with disarm := s.prp.disarm ||| (mask &&& s.get Fld.PRP_ARMED_PIERS) } }

theorem disarming_shows {s : State} {m : Master} {v : Word} (hm : m.val < 6) (ht : s.takes m Reg.PRP_ARMREQ = true) (hv : v.toNat / 2 ^ 16 = 0x3A71)
    (hop : v.toNat / 2 ^ 14 % 4 = 2) :
    Completes (.disarmPiers m v) s (fun t => (∀ n : Fin 12, v.toNat.testBit n = true → (s.get Fld.PRP_ARMED_PIERS).testBit n = true →
      if s.pierLowered n then (t.get Fld.PRP_ARMED_PIERS).testBit n = false else t.prp.disarm.testBit n = true) ∧ SameMem s t) := by
  have hi : exec (.disarmPiers m v) s = .next (s.dueFor (v.toNat % 4096)).settleDisarm :=
    (exec_disarmPiers v hm ht).trans (congrArg Host.Outcome.next ((if_neg (by simp only [hv]; decide)).trans ((if_neg (by simp only [hop]; decide)).trans (if_pos hop))))
  refine ⟨_, hi, fun n hn ha => ?_, memoryChangesOnlyByItsWriters _ _ _ hi⟩
  have hdue : (s.dueFor (v.toNat % 4096)).prp.disarm.testBit n = true := by
    change (s.prp.disarm ||| (v.toNat % 4096 &&& s.get Fld.PRP_ARMED_PIERS)).testBit n = true
    rw [Nat.testBit_or, Nat.testBit_and, testBit_mod_4096, hn, ha]
    simp
  exact settleDisarm_shows _ n hdue

theorem softwareStop_shows {s : State} {m : Master} {v : Word} (hm : m.val < 6) (ht : s.takes m Reg.PRP_SWSTOP = true) (hv : v.toNat / 2 ^ 16 = 0xD15A)
    (hone : v.toNat % 2 = 1) :
    Completes (.softwareStop m v) s (fun t => t.bit Fld.PRP_STAT_SAFE = true ∧ SameMem s t ∧
      (s.parapetFree 0x10 1 = true → Recorded t 0x10 1 0xFF 0xFF 0xFFF)) := by
  have hi : exec (.softwareStop m v) s = .next (s.report 0x10 1 0xFF 0xFF 0xFFF) :=
    (exec_softwareStop v hm ht).trans (congrArg Host.Outcome.next ((if_neg (by simp only [hv]; decide)).trans (if_pos hone)))
  exact ⟨_, hi, congrArg (·.1) (report_classA_alarm s 0x10 0xFF 0xFF 0xFFF), memoryChangesOnlyByItsWriters _ _ _ hi,
    fun h => report_recorded h 0xFF 0xFF 0xFFF⟩

/-! ### Output faults (R630 to R632) -/

/-- FAULT of output k is set, and the event. -/
def State.outFault (s : State) (k : Nat) : State := (s.putBit Fld.PRP_PSOSTAT_FAULT k true).putB Fld.PRP_EVT_OUT_FAULT true

theorem outFault_fault (s : State) (k : Fin 12) : ((s.outFault k).get Fld.PRP_PSOSTAT_FAULT).testBit k = true := by
  refine (congrArg (Nat.testBit · k) (get_put_apart _ (f := Fld.PRP_EVT_OUT_FAULT) (g := Fld.PRP_PSOSTAT_FAULT) 1 (by decide))).trans ?_
  rw [testBit_get_putBit s Fld.PRP_PSOSTAT_FAULT k true (by decide) k.isLt, if_pos rfl]

/-- No fault writes FAULT of the outputs. -/
theorem Handled.outputFault {s t : State} (h : Handled s t) : t.get Fld.PRP_PSOSTAT_FAULT = s.get Fld.PRP_PSOSTAT_FAULT :=
  h.get_eq (by decide +kernel) (by decide) (by decide)

/-- An output that reads high while it should be off, or does not fall at its off-pulse: code 0x05, Class A. -/
theorem outFault_report (s : State) (k : Fin 12) : (((s.outFault k).report 0x05 1 k 0xFF 0xFFF).get Fld.PRP_PSOSTAT_FAULT).testBit k = true ∧
    ((s.outFault k).report 0x05 1 k 0xFF 0xFFF).bit Fld.PRP_STAT_SAFE = true := by
  refine ⟨?_, congrArg (·.1) (report_classA_alarm _ 0x05 k 0xFF 0xFFF)⟩
  rw [(handled_report (s.outFault k) 0x05 1 k 0xFF 0xFFF).outputFault]
  exact outFault_fault s k

theorem outputHigh_shows {s : State} {k : Fin 12} (hon : (s.get Fld.PRP_PSOSTAT_ON).testBit k = false) :
    Completes (.outputReadbackFault k true) s (fun t => (t.get Fld.PRP_PSOSTAT_FAULT).testBit k = true ∧ t.bit Fld.PRP_STAT_SAFE = true ∧ SameMem s t) := by
  have hi : exec (.outputReadbackFault k true) s = .next ((s.outFault k).report 0x05 1 k 0xFF 0xFFF) :=
    congrArg Host.Outcome.next ((if_pos rfl).trans (if_neg (by simp [hon])))
  obtain ⟨hf, hs⟩ := outFault_report s k
  exact ⟨_, hi, hf, hs, memoryChangesOnlyByItsWriters _ _ _ hi⟩

theorem outputLow_shows {s : State} {k : Fin 12} (hon : (s.get Fld.PRP_PSOSTAT_ON).testBit k = true) :
    Completes (.outputReadbackFault k false) s (fun t => (t.get Fld.PRP_PSOSTAT_FAULT).testBit k = true ∧
      (t.get Fld.PRP_PSOSTAT_ON).testBit k = false ∧ SameMem s t) := by
  let u := (s.outFault k).outputsOff (2 ^ k.val)
  obtain ⟨o, hi⟩ : ∃ o, exec (.outputReadbackFault k false) s = .next (u.report 0x06 2 k o 0) :=
    ⟨_, congrArg Host.Outcome.next ((if_neg (by decide)).trans (if_pos hon))⟩
  have hfault : (u.get Fld.PRP_PSOSTAT_FAULT).testBit k = true := by
    rw [(handled_outputsOff (s.outFault k) (2 ^ k.val)).outputFault]
    exact outFault_fault s k
  have hoff : (u.get Fld.PRP_PSOSTAT_ON).testBit k = false := by
    rw [outputsOff_on, testBit_mclr, Nat.testBit_two_pow_self]
    simp
  have hrep := handled_report u 0x06 2 k o 0
  exact ⟨_, hi, by rw [hrep.outputFault]; exact hfault, hrep.stays_off hoff, memoryChangesOnlyByItsWriters _ _ _ hi⟩

theorem offPulse_shows {s : State} {k : Fin 12} (hp : s.par (0x182 + 16 * k) 2 ≠ 0) :
    Completes (.offPulse k false) s (fun t => (t.get Fld.PRP_PSOSTAT_FAULT).testBit k = true ∧ t.bit Fld.PRP_STAT_SAFE = true ∧ SameMem s t) := by
  have hi : exec (.offPulse k false) s = .next ((s.outFault k).report 0x05 1 k 0xFF 0xFFF) :=
    congrArg Host.Outcome.next (if_neg (by simp [hp]))
  obtain ⟨hf, hs⟩ := outFault_report s k
  exact ⟨_, hi, hf, hs, memoryChangesOnlyByItsWriters _ _ _ hi⟩

/-! ### The reset button (R634 to R636) -/

theorem prstStuck_shows {s : State} (h : s.prp.stuckHeld = false) :
    Completes .prstStuck s (fun t => t.bit Fld.PRP_STAT_PRST_STUCK = true ∧ t.prp.stuckHeld = true ∧ SameMem s t) := by
  let u := ({ s with prp := { s.prp with stuckHeld := true } } : State).putB Fld.PRP_STAT_PRST_STUCK true
  have hi : exec .prstStuck s = .next (u.report 0x30 3 0xFF 0 0) := congrArg Host.Outcome.next (if_neg (by simp [h]))
  have hrep := handled_report u 0x30 3 0xFF 0 0
  have hown := congrArg Parapet.stuckHeld hrep.own_eq
  rw [own_stuckHeld, own_stuckHeld] at hown
  refine ⟨_, hi, ?_, hown, memoryChangesOnlyByItsWriters _ _ _ hi⟩
  rw [hrep.bit_eq (g := Fld.PRP_STAT_PRST_STUCK) (by decide +kernel) (by decide) (by decide)]
  exact bit_putB_same _ Fld.PRP_STAT_PRST_STUCK true (by decide) (by decide)

/-- A cause rests on no field of the button's. -/
theorem causePresent_put_prst (s : State) {f : FieldRef} (hf : f.addr = Reg.PRP_PRST) (v : Nat) (r : FaultRec) :
    (s.put f v).causePresent r = s.causePresent r := by
  have himc (g : Nat → FieldRef) (hg : ∀ n, (g n).addr = Reg.PRP_IMC_STAT n) (n : Nat) : (s.put f v).bit (g n) = s.bit (g n) :=
    congrArg (· != 0) (get_put_ne s v (by rw [hg, hf, Reg.PRP_IMC_STAT, Reg.PRP_PRST]; omega))
  have hlow (g : FieldRef) (hg : g.addr < 0x400E0000) : (s.put f v).get g = s.get g :=
    get_put_ne s v (by rw [hf, Reg.PRP_PRST]; omega)
  have hxp (k : Nat) (hk : k < 64) : (s.put f v).get (Fld.ARC_XP_STAT_STATE k) = s.get (Fld.ARC_XP_STAT_STATE k) ∧
      (s.put f v).bit (Fld.ARC_XP_STAT_AUX k) = s.bit (Fld.ARC_XP_STAT_AUX k) := by
    have h : Reg.ARC_XP_STAT k < 0x400E0000 := by rw [Reg.ARC_XP_STAT]; omega
    exact ⟨hlow _ h, congrArg (· != 0) (hlow _ h)⟩
  have hsty (m : Nat) (hm : m < 8) : (s.put f v).bit (Fld.STY_CBL_STAT_OVER m) = s.bit (Fld.STY_CBL_STAT_OVER m) := by
    have h : Reg.STY_CBL_STAT m < 0x400E0000 := by rw [Reg.STY_CBL_STAT]; omega
    exact congrArg (· != 0) (hlow _ h)
  have hany {l : List Nat} {p q : Nat → Bool} (h : ∀ k ∈ l, p k = q k) : l.any p = l.any q := by
    rw [Bool.eq_iff_iff, List.any_eq_true, List.any_eq_true]
    exact exists_congr fun k => and_congr_right fun hk => by rw [h k hk]
  unfold State.causePresent
  split
  case h_5 => exact himc Fld.PRP_IMC_STAT_ALARM (fun _ => rfl) _
  case h_6 => exact himc Fld.PRP_IMC_STAT_WARN (fun _ => rfl) _
  case h_7 => exact himc Fld.PRP_IMC_STAT_MFAULT (fun _ => rfl) _
  case h_8 =>
    refine hany fun k hk => ?_
    obtain ⟨hst, haux⟩ := hxp k (List.mem_range.1 hk)
    rw [hst, haux]
    rfl
  case h_14 =>
    refine hany fun m hm => ?_
    rw [hsty m (mem_outletBits.1 hm).1]
    rfl
  all_goals rfl

theorem classACause_put_prst (s : State) {f : FieldRef} (hf : f.addr = Reg.PRP_PRST) (v : Nat) : (s.put f v).classACause = s.classACause := by
  unfold State.classACause
  rw [show (s.put f v).causePresent = s.causePresent from funext (causePresent_put_prst s hf v)]
  rfl

/-- The release is accepted: the latched faults whose cause has gone are cleared, and the safe state is left. -/
def State.released (s : State) : State :=
  let s := (s.clearFaults (fun r => r.cls == 1)).clearFaults (fun r => r.cls == 2)
  { s with prp := { s.prp with pd0A := false, lowerHeld := false, pressed := true } }

theorem pressAct_accepted {s : State} (h : s.classACause = false) : ∃ t, s.pressAct =
      ((t.put Fld.PRP_PRST_ACCEPTED (t.get Fld.PRP_PRST_ACCEPTED + 1)).putB Fld.PRP_EVT_PRST_OK true) ∧
    t = ((((s.released.putB Fld.PRP_STAT_APEND false).putB Fld.PRP_STAT_SAFE false).putB Fld.SPN_BCAST_LOWER false)).syncLower :=
  ⟨_, if_neg (by simp [h]), rfl⟩

theorem get_withPrp (s : State) (x : Parapet) (g : FieldRef) : ({ s with prp := x } : State).get g = s.get g := rfl

/-- A field of the Parapet's that the clearing leaves alone. -/
theorem released_get (s : State) {g : FieldRef} (hall : ∀ f ∈ faultFields, f.apart g = true) (hb : g.addr / 0x10000 = 0x400E)
    (hx : ∀ f ∈ [Fld.PRP_PSOSTAT_ON, Fld.PRP_PSI_STATE, Fld.PRP_PSIF_DISC, Fld.PRP_PSIF_PULSE, Fld.PRP_PSOSTAT_FAULT], f.apart g = true) :
    s.released.get g = s.get g := by
  simp only [List.forall_mem_cons] at hx
  obtain ⟨ho, hs, hd, hp, hf, -⟩ := hx
  exact (get_withPrp ((s.clearFaults _).clearFaults _) _ g).trans <| (clearFaults_get _ _ hall hb ho hs hd hp hf).trans (clearFaults_get s _ hall hb ho hs hd hp hf)

theorem pressAct_shows {s : State} (h : s.classACause = false) : s.pressAct.bit Fld.PRP_STAT_SAFE = false ∧
    s.pressAct.get Fld.PRP_PRST_LAST_MS = s.get Fld.PRP_PRST_LAST_MS ∧ s.pressAct.prp.lowerHeld = false ∧
    s.pressAct.get Fld.PRP_PRST_ACCEPTED = (s.get Fld.PRP_PRST_ACCEPTED + 1) % 2 ^ Fld.PRP_PRST_ACCEPTED.w ∧
    s.pressAct.bit Fld.PRP_EVT_PRST_OK = true := by
  obtain ⟨t, he, ht⟩ := pressAct_accepted h
  have hlast := released_get s (g := Fld.PRP_PRST_LAST_MS) (by decide +kernel) (by decide) (by decide)
  have hacc := released_get s (g := Fld.PRP_PRST_ACCEPTED) (by decide +kernel) (by decide) (by decide)
  have hheld : s.released.prp.lowerHeld = false := rfl
  generalize s.released = w at *
  have keep (g : FieldRef) (hall : ∀ f ∈ faultFields, f.apart g = true) (hb : g.addr / 0x10000 = 0x400E) (ho : Fld.PRP_PSOSTAT_ON.apart g = true)
      (hap : Fld.PRP_STAT_APEND.apart g = true) : t.get g = w.get g := by
    rw [ht, (handled_syncLower _).get_eq hall hb ho]
    exact (get_put_apart _ _ (hall Fld.SPN_BCAST_LOWER (by decide))).trans
      ((get_put_apart _ _ (hall Fld.PRP_STAT_SAFE (by decide))).trans (get_put_apart _ _ hap))
  have hsafe : t.bit Fld.PRP_STAT_SAFE = false := by
    have hface := congrArg (fun x => x.2.2.1) (syncLower_standing (((w.putB Fld.PRP_STAT_APEND false).putB Fld.PRP_STAT_SAFE false).putB Fld.SPN_BCAST_LOWER false))
    rw [← ht] at hface
    rw [State.bit, get_PRP_STAT_of_face hface rfl]
    change State.bit _ _ = false
    rw [bit_putB_apart _ _ (by decide)]
    exact bit_putB_same _ _ false (by decide) (by decide)
  have hprp : t.prp.lowerHeld = false := by rw [ht, syncLower_prp]; exact hheld
  have hl := (keep Fld.PRP_PRST_LAST_MS (by decide +kernel) (by decide) (by decide) (by decide)).trans hlast
  have ha := (keep Fld.PRP_PRST_ACCEPTED (by decide +kernel) (by decide) (by decide) (by decide)).trans hacc
  rw [he]
  clear ht he
  refine ⟨?_, ?_, hprp, ?_, bit_putB_same _ _ true (by decide) (by decide)⟩
  · rw [bit_putB_apart _ _ (by decide), bit_put_apart _ _ (by decide), hsafe]
  · rw [get_putB_apart (by decide), get_put_apart _ _ (by decide), hl]
  · rw [get_putB_apart (by decide), get_put_same _ _ _ (by decide), ha]

theorem prstPress_shows {s : State} {ms : Nat} (h50 : 50 ≤ ms) (h5000 : ms ≤ 5000) (hrun : s.prp.running = true) (hd : s.prp.doubleHeld = false)
    (hh : s.prp.handling = []) (hst : s.prp.stuckHeld = false) (hA : s.classACause = false) :
    Completes (.prstPress ms) s (fun t => t.bit Fld.PRP_STAT_SAFE = false ∧ t.get Fld.PRP_PRST_LAST_MS = ms ∧ t.prp.lowerHeld = false ∧
      t.get Fld.PRP_PRST_ACCEPTED = (s.get Fld.PRP_PRST_ACCEPTED + 1) % 2 ^ Fld.PRP_PRST_ACCEPTED.w ∧ t.bit Fld.PRP_EVT_PRST_OK = true ∧ SameMem s t) := by
  let u := s.put Fld.PRP_PRST_LAST_MS (min ms 8191)
  have hi : exec (.prstPress ms) s = .next u.pressAct := by
    refine congrArg Host.Outcome.next ((if_neg (by simp [hst])).trans ((if_neg ?_).trans (if_neg (by simp [hh]))))
    simp [hrun, hd]
    omega
  have hlast : u.get Fld.PRP_PRST_LAST_MS = ms := by
    rw [get_put_same s _ _ (by decide), Nat.min_eq_left (by omega), Nat.mod_eq_of_lt (h5000.trans_lt (by decide))]
  have hacc : u.get Fld.PRP_PRST_ACCEPTED = s.get Fld.PRP_PRST_ACCEPTED := get_put_apart s _ (by decide)
  obtain ⟨h1, h2, h3, h4, h5⟩ := pressAct_shows ((classACause_put_prst s (f := Fld.PRP_PRST_LAST_MS) rfl _).trans hA)
  exact ⟨_, hi, h1, h2.trans hlast, h3, by rw [h4, hacc], h5, memoryChangesOnlyByItsWriters _ _ _ hi⟩

/-- Settles O46: the writes of the Parapet's registers, the faults of its outputs, and the reset button. -/
theorem outputsButtonAndArming : Obligations.OutputsButtonAndArming := by
  unfold Obligations.OutputsButtonAndArming
  refine fun s => ⟨fun m v hm => ⟨fun ht => ?_, fun ht hv => ?_, fun ht hk hv => faultClear_shows hm ht hk hv, fun ht hv hop hsafe => arming_shows hm ht hv hop hsafe,
    fun ht hv hop => disarming_shows hm ht hv hop, fun ht hv hone => softwareStop_shows hm ht hv hone⟩, fun k hon => outputHigh_shows hon,
    fun k hon => outputLow_shows hon, fun k hp => offPulse_shows hp, fun ms h50 h5000 hrun hd hh hst hA => prstPress_shows h50 h5000 hrun hd hh hst hA,
    prstStuck_shows⟩
  · have hi := exec_safetyOutputRequest v hm ht
    obtain ⟨hreq, hoff⟩ := wrPso_shows s v.toNat
    exact ⟨_, hi, hreq, hoff, memoryChangesOnlyByItsWriters _ _ _ hi⟩
  · exact (exec_faultClearKey v hm ht).trans (congrArg Host.Outcome.next (if_pos hv))

end Sys2Proof.Machine

/-! PROOFS. Cable cooling (O36). -/

namespace Sys2Proof.Machine

/-! ### What the Stay does outside its own block -/

/-- The Stay's registers and cables are the same. -/
def StayAside (s t : State) : Prop := (∀ a, a / 0x10000 = 0x400B → t.reg a = s.reg a) ∧ t.sty = s.sty

theorem StayAside.refl (s : State) : StayAside s s := ⟨fun _ _ => rfl, rfl⟩

theorem StayAside.trans {s t u : State} (h : StayAside s t) (k : StayAside t u) : StayAside s u :=
  ⟨fun a ha => (k.1 a ha).trans (h.1 a ha), k.2.trans h.2⟩

theorem StayAside.put {s t : State} (h : StayAside s t) {f : FieldRef} (hf : f.addr / 0x10000 ≠ 0x400B) (v : Nat) : StayAside s (t.put f v) :=
  h.trans ⟨fun _ ha => reg_put_ne t v fun e => hf (e ▸ ha), rfl⟩

theorem StayAside.forEach {s : State} (l : List Nat) (f : State → Nat → State) (h : ∀ t, ∀ x ∈ l, StayAside t (f t x)) : StayAside s (forEach l s f) := by
  unfold Machine.forEach
  induction l generalizing s with
  | nil => exact .refl s
  | cons x l ih => exact (h s x (List.mem_cons_self ..)).trans (ih fun t y hy => h t y (List.mem_cons_of_mem _ hy))

theorem Handled.sty_eq {s t : State} (h : Handled s t) : t.sty = s.sty := h.keeps State.sty fun _ _ hstep => by cases hstep <;> rfl

theorem Handled.stayAside {s t : State} (h : Handled s t) : StayAside s t := ⟨fun _ ha => h.reg_eq (by rw [ha]; decide), h.sty_eq⟩

theorem stayAside_report (s : State) (code cls src o p : Nat) : StayAside s (s.report code cls src o p) := (handled_report s code cls src o p).stayAside

theorem trsCommand_regs (s : State) {l : Nat} (hl : l < 16) : SameRegs s (s.trsCommand l) trsStatRegs := fun a ha => by
  rw [trsCommand_eq, trsSettle_reg _ hl ha]
  exact commandAll_regs s l a ha

theorem trsStatRegs_block : ∀ a ∈ trsStatRegs, a / 0x10000 = 0x400F := by decide

theorem trsCommand_sty (s : State) (l : Nat) : (s.trsCommand l).sty = s.sty := by
  have hset : ((s.commandAll l).trsSettle l).sty = (s.commandAll l).sty := by
    have hrest := congrArg State.sty (trsSettle_rest (s.commandAll l) l)
    exact hrest
  rw [trsCommand_eq, hset]
  refine forEach_keeps State.sty _ s _ fun t k _ => ?_
  unfold State.commandOne
  dsimp only
  split <;> rfl

theorem stayAside_setTheta (s : State) (p : Fin 8) (t : Rat) (ok : Bool) : StayAside s (s.setTheta p t ok) := by
  have hlog {β : Type} {q : State → β} (h : LogBlind q) (hd : ∀ (t : State) g, q (t.modDc p g) = q t) (hp : ∀ (t : State) b, q (t.putB (Fld.CSN_DC_STAT_TSUB p) b) = q t) :
      q (s.setTheta p t ok) = q s := by
    unfold State.setTheta
    extract_lets sub was u w
    have hu : q u = q s := hd s _
    have hw : q w = q s := (h.log _ _ _ _).trans ((hp u sub).trans hu)
    clear_value u w
    split
    · exact hu
    · split
      · exact (h.flagSess _ _ _).trans ((h.put _ _ Fld.TOL_MEVT_TSUB rfl).trans hw)
      · exact hw
  refine ⟨fun a ha => hlog (logBlind_reg (by rw [ha]; decide)) (fun _ _ => rfl) fun t b => reg_put_ne t _ fun e => ?_,
    hlog ⟨fun _ _ _ _ => rfl, fun _ _ => rfl⟩ (fun _ _ => rfl) fun _ _ => rfl⟩
  exact (by decide : ∀ p : Fin 8, (Fld.CSN_DC_STAT_TSUB p).addr / 0x10000 ≠ 0x400B) p (e ▸ ha)

/-! ### Steps on the row of one block -/

/-- Fields of block m that a period may write with any value. -/
def stayRow (m : Nat) : List FieldRef :=
  [Fld.STY_CBL_STAT_INVALID m, Fld.STY_CBL_STAT_BIND m, Fld.STY_CBL_STAT_RUN_ON m, Fld.STY_CBL_STAT_ACT_HELD m, Fld.STY_CBL_STAT_FLOW_IMPL m,
    Fld.STY_CBL_STAT_FLOW_SUB m, Fld.STY_CBL_STAT_IN_SUB m, Fld.STY_CBL_STAT_OVER m, Fld.STY_CBL_STAT_EST_OK m, Fld.STY_CBL_CEIL_AMPS m,
    Fld.STY_CBL_CEIL_LIMB m, Fld.STY_CBL_TCOND_DEG m, Fld.STY_CBL_TCOOL_DEG m, Fld.STY_CBL_DUTY_PUMP m, Fld.STY_CBL_DUTY_FAN m,
    Fld.STY_CBL_DUTY_VALVE m, Fld.STY_CBL_EVT_ZERO m, Fld.STY_CBL_EVT_FLOW m, Fld.STY_CBL_EVT_SENSOR m, Fld.STY_CBL_EVT_LIMIT m] ++
  [Fld.STY_CBL_TCONT_DEG m 0, Fld.STY_CBL_TCONT_DEG m 1] ++ (List.range 8).map (Fld.STY_CBL_VAL_VALUE m)

/-- One step of block m: a field of its row, its cable with `started` as it was, or something outside the Stay. -/
inductive StayStep (m : Nat) : State → State → Prop
  | put (s : State) {f : FieldRef} (hf : f ∈ stayRow m) (v : Nat) : StayStep m s (s.put f v)
  | cable (s : State) {g : Cable → Cable} (hg : ∀ c, (g c).started = c.started) : StayStep m s (s.modCbl m g)
  | aside {s t : State} (h : StayAside s t) : StayStep m s t

def StayRun (m : Nat) : State → State → Prop := Relation.ReflTransGen (StayStep m)

section
variable {m : Nat} {s t u : State}

theorem StayRun.refl (s : State) : StayRun m s s := Relation.ReflTransGen.refl

theorem StayRun.trans (h : StayRun m s t) (k : StayRun m t u) : StayRun m s u := Relation.ReflTransGen.trans h k

theorem StayRun.put (h : StayRun m s t) {f : FieldRef} (hf : f ∈ stayRow m) (v : Nat) : StayRun m s (t.put f v) := h.tail (.put t hf v)

theorem StayRun.putB (h : StayRun m s t) {f : FieldRef} (hf : f ∈ stayRow m) (b : Bool) : StayRun m s (t.putB f b) := h.put hf _

theorem StayRun.cable (h : StayRun m s t) {g : Cable → Cable} (hg : ∀ c, (g c).started = c.started) : StayRun m s (t.modCbl m g) := h.tail (.cable t hg)

theorem StayRun.aside (h : StayRun m s t) (k : StayAside t u) : StayRun m s u := h.tail (.aside k)

theorem StayRun.ite {c : Prop} [Decidable c] (h : c → StayRun m s t) (k : ¬c → StayRun m s u) : StayRun m s (if c then t else u) := by
  split
  next hc => exact h hc
  next hc => exact k hc

theorem StayRun.report (h : StayRun m s t) (code cls src o p : Nat) : StayRun m s (t.report code cls src o p) := h.aside (stayAside_report t code cls src o p)

end

section
variable (m : Fin 8) (s : State)

/-- The duties of block m are shown. -/
def State.dutied (s : State) (m pump fan : Nat) (valve : Bool) : State :=
  ((s.put (Fld.STY_CBL_DUTY_PUMP m) pump).put (Fld.STY_CBL_DUTY_FAN m) fan).putB (Fld.STY_CBL_DUTY_VALVE m) valve

omit m in
theorem styCh_lt {m k n : Nat} (h : s.styCh m k = some n) : n < 16 := by
  unfold State.styCh at h
  dsimp only at h
  split at h
  next hn => exact Option.some.inj h ▸ hn
  · cases h

/-- Beyond the duties shown, the commands reach the Trestle only. -/
theorem styDrive_shows (pump fan : Nat) (valve : Bool) : StayAside (s.dutied m pump fan valve) (s.styDrive m pump fan valve) ∧
    SameBlocks (s.dutied m pump fan valve) (s.styDrive m pump fan valve) [0x400F] := by
  have heq : s.styDrive m pump fan valve = forEach ((List.range 3).filterMap ((s.dutied m pump fan valve).styCh m)) (s.dutied m pump fan valve)
      (fun s n => (s.putB (Fld.TRS_CH_STAT_HELD n) false).trsCommand n) := (rfl)
  rw [heq]
  have hlt {n : Nat} (hn : n ∈ (List.range 3).filterMap ((s.dutied m pump fan valve).styCh m)) : n < 16 := by
    obtain ⟨k, -, hk⟩ := List.mem_filterMap.1 hn
    exact styCh_lt _ hk
  generalize s.dutied m pump fan valve = u at *
  have hblk (n : Nat) (hn : n < 16) : (Fld.TRS_CH_STAT_HELD n).addr / 0x10000 = 0x400F :=
    (by decide : ∀ n < 16, (Fld.TRS_CH_STAT_HELD n).addr / 0x10000 = 0x400F) n hn
  have hregs (t : State) (n : Nat) (hn : n < 16) : SameBlocks t ((t.putB (Fld.TRS_CH_STAT_HELD n) false).trsCommand n) [0x400F] := fun a ha =>
    (trsCommand_regs _ hn a fun h => ha (by simp [trsStatRegs_block a h])).trans (reg_put_ne t _ fun e => ha (by rw [e, hblk n hn]; decide))
  refine ⟨.forEach _ _ fun t n hn => ⟨fun a ha => hregs t n (hlt hn) a (by rw [ha]; decide), trsCommand_sty _ n⟩, fun a ha => ?_⟩
  exact forEach_keeps (fun t => t.reg a) _ u _ fun t n hn => hregs t n (hlt hn) a ha

theorem dutied_row (pump fan : Nat) (valve : Bool) : StayRun m s (s.dutied m pump fan valve) :=
  (((StayRun.refl s).put (f := Fld.STY_CBL_DUTY_PUMP m) (by simp [stayRow]) _).put (f := Fld.STY_CBL_DUTY_FAN m)
    (by simp [stayRow]) _).putB (f := Fld.STY_CBL_DUTY_VALVE m) (by simp [stayRow]) _

theorem styDrive_row (pump fan : Nat) (valve : Bool) : StayRun m s (s.styDrive m pump fan valve) :=
  (dutied_row m s pump fan valve).aside (styDrive_shows m s pump fan valve).1

/-- Outside an enabled outlet everything is off, unless CTRL asks otherwise (R499, R501). -/
theorem styIdle_eq : ∃ pump fan valve, s.styIdle m = s.styDrive m pump fan valve ∧
    (s.bit (Fld.STY_CBL_CTRL_HOLD_ACT m) = false → s.bit (Fld.STY_CBL_CTRL_PUMP_ALWAYS m) = false → pump = 0 ∧ fan = 0 ∧ valve = false) := by
  unfold State.styIdle
  split
  next h => exact ⟨_, _, _, rfl, fun h0 => absurd h0 (by simp [h])⟩
  · exact ⟨_, _, _, rfl, fun _ h0 => by simp [h0]⟩

theorem styIdle_row : StayRun m s (s.styIdle m) := by
  obtain ⟨_, _, _, h, -⟩ := styIdle_eq m s
  rw [h]
  exact styDrive_row m s _ _ _

theorem styRun_row (u : StyUse) : StayRun m s (s.styRun m u) := by
  unfold State.styRun
  split
  · exact styIdle_row m s
  extract_lets full p
  clear_value p
  obtain ⟨tin, tout, flow, ts, ok⟩ := u
  cases tout with
  | some t =>
    dsimp only
    exact styDrive_row m s _ _ _
  | none =>
    dsimp only
    have hfree : StayRun m s (s.fresh 8).2 := (StayRun.refl s).aside ⟨fun _ _ => rfl, rfl⟩
    exact hfree.trans (styDrive_row m _ _ _ _)

theorem styCeil_row (code bind : Nat) : StayRun m s (s.styCeil m code bind) := by
  unfold State.styCeil
  extract_lets u v
  have hu : StayRun m s u := .ite (fun _ => (StayRun.refl s).putB (by simp [stayRow]) _) fun _ => .refl s
  have hv : StayRun m s v := (hu.put (f := Fld.STY_CBL_CEIL_AMPS m) (by simp [stayRow]) _).put (f := Fld.STY_CBL_STAT_BIND m) (by simp [stayRow]) _
  clear_value u v
  split
  · exact hv
  · exact hv.aside ((StayAside.refl v).put ((by decide : ∀ m : Fin 8, (Fld.KST_OUT_STYI_AMPS m).addr / 0x10000 ≠ 0x400B) m) _)

theorem styFlow_row (zero : Bool) : StayRun m s (s.styFlow m zero) := by
  unfold State.styFlow
  split
  · exact .refl s
  extract_lets u
  have hu : StayRun m s u := ((StayRun.refl s).putB (f := Fld.STY_CBL_STAT_FLOW_IMPL m) (by simp [stayRow]) _).putB (f := Fld.STY_CBL_EVT_FLOW m)
    (by simp [stayRow]) _
  clear_value u
  split
  · exact hu.report _ _ _ _ _
  · exact hu

theorem styLimit_row (u : StyUse) : StayRun m s (s.styLimit m u) := by
  unfold State.styLimit
  extract_lets c lc lk mg hot
  split
  · split
    · exact .refl s
    · exact (((StayRun.refl s).putB (f := Fld.STY_CBL_STAT_OVER m) (by simp [stayRow]) _).putB (f := Fld.STY_CBL_EVT_LIMIT m) (by simp [stayRow]) _).report _ _ _ _ _
  · split
    · exact (StayRun.refl s).putB (f := Fld.STY_CBL_STAT_OVER m) (by simp [stayRow]) _
    · exact .refl s

theorem putTemp_row {f : FieldRef} (hf : f ∈ stayRow m) (x : Option Rat) : StayRun m s (s.putTemp f x) := by
  unfold State.putTemp
  split
  · exact (StayRun.refl s).put hf _
  · exact (StayRun.refl s).put hf _

end

theorem StayRun.foldl {α : Type} {m : Nat} {s : State} (l : List α) (f : State → α → State) (h : ∀ t, ∀ x ∈ l, StayRun m t (f t x)) : StayRun m s (l.foldl f s) := by
  induction l generalizing s with
  | nil => exact .refl s
  | cons x l ih => exact (h s x (List.mem_cons_self ..)).trans (ih fun t y hy => h t y (List.mem_cons_of_mem _ hy))

section
variable (m : Fin 8) (s : State)

theorem styRead_row : StayRun m s (s.styRead m).2 := by
  unfold State.styRead
  extract_lets ins v bad inv old s1 dead s2 was s3 s4 add ts held s5 s6 sub flow s7 u shown s8
  have h1 : StayRun m s s1 := .ite (fun _ => .refl s) fun _ =>
    ((StayRun.refl s).put (f := Fld.STY_CBL_STAT_INVALID m) (by simp [stayRow]) _).putB (f := Fld.STY_CBL_EVT_SENSOR m) (by simp [stayRow]) _
  have h2 : StayRun m s s2 := h1.aside (.forEach _ _ fun t j _ => by
    split
    · exact .refl t
    · exact stayAside_report _ _ _ _ _ _)
  have h3 : StayRun m s s3 := h2.cable fun _ => rfl
  have h4 : StayRun m s s4 := .ite (fun _ => h3.report _ _ _ _ _) fun _ => h3
  have h5 : StayRun m s s5 := h4.putB (f := Fld.STY_CBL_STAT_ACT_HELD m) (by simp [stayRow]) _
  have h6 : StayRun m s s6 := .ite (fun _ => h5.trans (styFlow_row m _ _)) fun _ => .ite (fun _ => h5.trans (styFlow_row m _ _)) fun _ => h5
  have h7 : StayRun m s s7 := (h6.putB (f := Fld.STY_CBL_STAT_IN_SUB m) (by simp [stayRow]) _).putB (f := Fld.STY_CBL_STAT_FLOW_SUB m) (by simp [stayRow]) _
  clear_value s7
  have hval (t : State) (x : Option Rat × Nat) (hx : x ∈ shown.zipIdx) : Fld.STY_CBL_VAL_VALUE m x.2 ∈ stayRow m := by
    have hlt : x.2 < 8 := by
      have := List.snd_lt_of_mem_zipIdx hx
      simpa [shown] using this
    simp only [stayRow, List.mem_append, List.mem_map_of_mem (List.mem_range.2 hlt), or_true]
  refine h7.trans (.foldl _ _ fun t x hx => ?_)
  split
  · exact (StayRun.refl t).put (hval t x hx) _
  · exact (StayRun.refl t).put (hval t x hx) _

omit m s in
/-- A cable's model moves by a period, or starts. -/
def State.styMoved (v : State) (m : Nat) (u : StyUse) (q : Rat) (c : Cable) : Cable :=
  { (if c.started then v.styModel m u q c else styStart u c) with qSum := 0, qN := 0 }

omit m s in
theorem styMoved_started (v : State) (m : Nat) (u : StyUse) (q : Rat) (c : Cable) : (v.styMoved m u q c).started = true := by
  unfold State.styMoved
  dsimp only
  split
  next h => exact h
  · rfl

/-- Block m as it is once its inputs are read and its model has moved or started: RUNNING is set. -/
theorem styBlock_eq : ∃ v g, StayRun m s v ∧ (∀ c : Cable, (g c).started = true) ∧
    StayRun m ((v.modCbl m g).putB (Fld.STY_CBL_STAT_RUNNING m) true) (s.styBlock m) := by
  unfold State.styBlock
  extract_lets c0 q
  have hr := styRead_row m s
  generalize s.styRead m = r at hr ⊢
  obtain ⟨u, v⟩ := r
  refine ⟨v, v.styMoved m u q, hr, styMoved_started v m u q, ?_⟩
  dsimp -zeta only
  extract_lets s1 s2 c cond max0 b1 up b2 s3 s4 s5 s6 ok s7 s8 on s9 s10
  have h3 : StayRun m s2 s3 := (styCeil_row m s2 _ _).put (f := Fld.STY_CBL_CEIL_LIMB m) (by simp [stayRow]) _
  have h4 : StayRun m s2 s4 := (h3.cable (g := fun c => { c with first := false }) fun _ => rfl).trans (styLimit_row m _ u)
  have h5 : StayRun m s2 s5 := (h4.trans (putTemp_row m _ (by simp [stayRow]) _)).trans (putTemp_row m _ (by simp [stayRow]) _)
  have h6 : StayRun m s2 s6 := (h5.trans (putTemp_row m _ (by simp [stayRow]) _)).trans (putTemp_row m _ (by simp [stayRow]) _)
  have h7 : StayRun m s2 s7 := h6.putB (f := Fld.STY_CBL_STAT_EST_OK m) (by simp [stayRow]) _
  have h8 : StayRun m s2 s8 := .ite (fun _ => h7) fun _ => h7.aside (stayAside_setTheta s7 m _ _)
  have h9 : StayRun m s2 s9 := .ite (fun _ => h8.putB (f := Fld.STY_CBL_STAT_RUN_ON m) (by simp [stayRow]) _) fun _ =>
    .ite (fun _ => h8.putB (f := Fld.STY_CBL_STAT_RUN_ON m) (by simp [stayRow]) _) fun _ => h8
  have h10 : StayRun m s2 s10 := h9.cable (g := fun c => { c with active := on }) fun _ => rfl
  change StayRun m s2 _
  clear_value s10
  split
  · exact h10.trans (styRun_row m _ u)
  · exact h10.trans (styIdle_row m _)

end

/-! ### What the run of a block leaves alone -/

theorem stayRow_own : ∀ m : Fin 8, ∀ f ∈ stayRow m, f.addr / 0x100 = 0x400B00 + m ∧ f.apart (Fld.STY_CBL_STAT_RUNNING m) = true ∧
    f.addr ≠ Reg.STY_CBL_CTRL m := by decide +kernel

/-- Block m's RUNNING and control register, and whether its cable has started. -/
def State.stayOwn (s : State) (m : Nat) : Bool × Nat × Bool := (s.bit (Fld.STY_CBL_STAT_RUNNING m), s.reg (Reg.STY_CBL_CTRL m), (s.cbl m).started)

theorem StayAside.own {s t : State} (h : StayAside s t) (m : Fin 8) : t.stayOwn m = s.stayOwn m := by
  have hb : Reg.STY_CBL_STAT m / 0x10000 = 0x400B ∧ Reg.STY_CBL_CTRL m / 0x10000 = 0x400B :=
    (by decide : ∀ m : Fin 8, Reg.STY_CBL_STAT m / 0x10000 = 0x400B ∧ Reg.STY_CBL_CTRL m / 0x10000 = 0x400B) m
  unfold State.stayOwn State.cbl
  rw [bit_of_reg (f := Fld.STY_CBL_STAT_RUNNING m) (h.1 _ hb.1), h.1 _ hb.2, h.2]

theorem StayRun.own {m : Fin 8} {s t : State} (h : StayRun m s t) : t.stayOwn m = s.stayOwn m := by
  induction h with
  | refl => rfl
  | @tail u w _ hstep ih =>
    refine Eq.trans ?_ ih
    cases hstep with
    | put hf v =>
      obtain ⟨-, ha, hc⟩ := stayRow_own m _ hf
      unfold State.stayOwn
      rw [bit_put_apart u v ha, reg_put_ne u v hc.symm]
      rfl
    | cable hg =>
      exact congrArg (fun b => (u.bit (Fld.STY_CBL_STAT_RUNNING m), u.reg (Reg.STY_CBL_CTRL m), b)) (nth_updAt_keeps _ _ _ _ _ Cable.started hg)
    | aside hst => exact hst.own m

/-- The Stay's registers and cables but those of block m. -/
def StayOthers (m : Nat) (s t : State) : Prop :=
  (∀ a, a / 0x10000 = 0x400B → a / 0x100 ≠ 0x400B00 + m → t.reg a = s.reg a) ∧ (∀ x, x ≠ m → t.cbl x = s.cbl x) ∧ t.sty.length = s.sty.length

theorem StayOthers.trans {m : Nat} {s t u : State} (h : StayOthers m s t) (k : StayOthers m t u) : StayOthers m s u :=
  ⟨fun a ha hm => (k.1 a ha hm).trans (h.1 a ha hm), fun x hx => (k.2.1 x hx).trans (h.2.1 x hx), k.2.2.trans h.2.2⟩

theorem stayOthers_put (m : Nat) (s : State) {f : FieldRef} (hf : f.addr / 0x100 = 0x400B00 + m) (v : Nat) : StayOthers m s (s.put f v) :=
  ⟨fun _ _ hm => reg_put_ne s v fun e => hm (e ▸ hf), fun _ _ => rfl, rfl⟩

theorem stayOthers_modCbl (m : Nat) (s : State) (g : Cable → Cable) : StayOthers m s (s.modCbl m g) :=
  ⟨fun _ _ _ => rfl, fun _ hx => nth_updAt_ne _ _ _ hx, length_updAt ..⟩

theorem StayRun.others {m : Fin 8} {s t : State} (h : StayRun m s t) : StayOthers m s t := by
  induction h with
  | refl => exact ⟨fun _ _ _ => rfl, fun _ _ => rfl, rfl⟩
  | @tail u w _ hstep ih =>
    refine ih.trans ?_
    cases hstep with
    | put hf v => exact stayOthers_put m u (stayRow_own m _ hf).1 v
    | cable hg => exact stayOthers_modCbl m u _
    | aside hst => exact ⟨fun a ha _ => hst.1 a ha, fun x _ => by rw [State.cbl, hst.2, State.cbl], by rw [hst.2]⟩

/-! ### A Stay period (R478, R488) -/

theorem cbl_modCbl {s : State} {m : Nat} (h : m < s.sty.length) (g : Cable → Cable) : (s.modCbl m g).cbl m = g (s.cbl m) := nth_updAt_same _ g h

section
variable (m : Fin 8) (s : State)

/-- A block whose EN is 1 runs. -/
theorem styBlock_shows : StayOthers m s (s.styBlock m) ∧ (m < s.sty.length →
    (s.styBlock m).bit (Fld.STY_CBL_STAT_RUNNING m) = true ∧ ((s.styBlock m).cbl m).started = true) := by
  obtain ⟨v, g, hv, hg, ht⟩ := styBlock_eq m s
  have hrow : (Fld.STY_CBL_STAT_RUNNING m).addr / 0x100 = 0x400B00 + m :=
    (by decide : ∀ m : Fin 8, (Fld.STY_CBL_STAT_RUNNING m).addr / 0x100 = 0x400B00 + m) m
  have hput : StayOthers m v ((v.modCbl m g).putB (Fld.STY_CBL_STAT_RUNNING m) true) :=
    (stayOthers_modCbl m v g).trans (stayOthers_put m _ hrow _)
  refine ⟨(hv.others.trans hput).trans ht.others, fun hlen => ?_⟩
  have hown := ht.own
  have hcbl : (((v.modCbl m g).putB (Fld.STY_CBL_STAT_RUNNING m) true).cbl m).started = true := by
    have h : ((v.modCbl m g).putB (Fld.STY_CBL_STAT_RUNNING m) true).cbl m = g (v.cbl m) := cbl_modCbl (hlen.trans_eq hv.others.2.2.symm) g
    rw [h]
    exact hg _
  have hrun := bit_putB_self (s := v.modCbl m g) (F := Fld.STY_CBL_STAT_RUNNING) (by decide) m true
  exact ⟨(congrArg (·.1) hown).trans hrun, (congrArg (·.2.2) hown).trans hcbl⟩

/-- The ceiling is shown, and the block's marks stay. -/
theorem styCeil_shows (code bind : Nat) : (s.styCeil m code bind).get (Fld.STY_CBL_CEIL_AMPS m) = code % 2 ^ 16 ∧
    (s.styCeil m code bind).bit (Fld.STY_CBL_STAT_RUNNING m) = s.bit (Fld.STY_CBL_STAT_RUNNING m) ∧
    (s.styCeil m code bind).bit (Fld.STY_CBL_STAT_EST_OK m) = s.bit (Fld.STY_CBL_STAT_EST_OK m) ∧
    (s.styCeil m code bind).bit (Fld.STY_CBL_STAT_RUN_ON m) = s.bit (Fld.STY_CBL_STAT_RUN_ON m) ∧ (s.styCeil m code bind).sty = s.sty := by
  have key (u : State) : ((u.put (Fld.STY_CBL_CEIL_AMPS m) code).put (Fld.STY_CBL_STAT_BIND m) bind).get (Fld.STY_CBL_CEIL_AMPS m) = code % 2 ^ 16 ∧
      ((u.put (Fld.STY_CBL_CEIL_AMPS m) code).put (Fld.STY_CBL_STAT_BIND m) bind).bit (Fld.STY_CBL_STAT_RUNNING m) = u.bit (Fld.STY_CBL_STAT_RUNNING m) ∧
      ((u.put (Fld.STY_CBL_CEIL_AMPS m) code).put (Fld.STY_CBL_STAT_BIND m) bind).bit (Fld.STY_CBL_STAT_EST_OK m) = u.bit (Fld.STY_CBL_STAT_EST_OK m) ∧
      ((u.put (Fld.STY_CBL_CEIL_AMPS m) code).put (Fld.STY_CBL_STAT_BIND m) bind).bit (Fld.STY_CBL_STAT_RUN_ON m) = u.bit (Fld.STY_CBL_STAT_RUN_ON m) := by
    refine ⟨?_, ?_, ?_, ?_⟩
    · rw [get_put_other (F := Fld.STY_CBL_STAT_BIND) (G := Fld.STY_CBL_CEIL_AMPS) (by decide)]
      exact get_put_self_mod (F := Fld.STY_CBL_CEIL_AMPS) (by decide) m code
    all_goals simp (disch := (clear * -; revert m; decide)) only [bit_put_apart]
  have hzero : let u := if (decide (code = 0) && s.get (Fld.STY_CBL_CEIL_AMPS m) != 0) = true then s.putB (Fld.STY_CBL_EVT_ZERO m) true else s
      u.bit (Fld.STY_CBL_STAT_RUNNING m) = s.bit (Fld.STY_CBL_STAT_RUNNING m) ∧ u.bit (Fld.STY_CBL_STAT_EST_OK m) = s.bit (Fld.STY_CBL_STAT_EST_OK m) ∧
      u.bit (Fld.STY_CBL_STAT_RUN_ON m) = s.bit (Fld.STY_CBL_STAT_RUN_ON m) ∧ u.sty = s.sty := by
    dsimp only
    split
    · refine ⟨?_, ?_, ?_, rfl⟩
      all_goals simp (disch := (clear * -; revert m; decide)) only [bit_putB_apart]
    · exact ⟨rfl, rfl, rfl, rfl⟩
  unfold State.styCeil
  extract_lets u v
  obtain ⟨z1, z2, z3, z4⟩ := hzero
  obtain ⟨k1, k2, k3, k4⟩ := key u
  have hv : v.get (Fld.STY_CBL_CEIL_AMPS m) = code % 2 ^ 16 ∧ v.bit (Fld.STY_CBL_STAT_RUNNING m) = s.bit (Fld.STY_CBL_STAT_RUNNING m) ∧
      v.bit (Fld.STY_CBL_STAT_EST_OK m) = s.bit (Fld.STY_CBL_STAT_EST_OK m) ∧ v.bit (Fld.STY_CBL_STAT_RUN_ON m) = s.bit (Fld.STY_CBL_STAT_RUN_ON m) ∧ v.sty = s.sty :=
    ⟨k1, k2.trans z1, k3.trans z2, k4.trans z3, z4⟩
  clear_value v
  split
  · exact hv
  · obtain ⟨h1, h2, h3, h4, h5⟩ := hv
    refine ⟨?_, ?_, ?_, ?_, h5⟩
    · rw [get_put_other (F := Fld.KST_OUT_STYI_AMPS) (G := Fld.STY_CBL_CEIL_AMPS) (by decide), h1]
    · rw [bit_put_other (F := Fld.KST_OUT_STYI_AMPS) (G := Fld.STY_CBL_STAT_RUNNING) (by decide), h2]
    · rw [bit_put_other (F := Fld.KST_OUT_STYI_AMPS) (G := Fld.STY_CBL_STAT_EST_OK) (by decide), h3]
    · rw [bit_put_other (F := Fld.KST_OUT_STYI_AMPS) (G := Fld.STY_CBL_STAT_RUN_ON) (by decide), h4]

end

section
variable (m : Fin 8) (s : State)

/-- What a stopped block shows. -/
def State.stayMarks (s : State) (m : Nat) : Bool × Bool × Bool × Nat × Bool :=
  (s.bit (Fld.STY_CBL_STAT_RUNNING m), s.bit (Fld.STY_CBL_STAT_EST_OK m), s.bit (Fld.STY_CBL_STAT_RUN_ON m), s.get (Fld.STY_CBL_CEIL_AMPS m), (s.cbl m).started)

omit s in
theorem stayMarks_congr {s t : State} (hstat : t.reg (Reg.STY_CBL_STAT m) = s.reg (Reg.STY_CBL_STAT m)) (hceil : t.reg (Reg.STY_CBL_CEIL m) = s.reg (Reg.STY_CBL_CEIL m))
    (hc : t.cbl m = s.cbl m) : t.stayMarks m = s.stayMarks m := by
  unfold State.stayMarks
  rw [bit_of_reg (f := Fld.STY_CBL_STAT_RUNNING m) hstat, bit_of_reg (f := Fld.STY_CBL_STAT_EST_OK m) hstat, bit_of_reg (f := Fld.STY_CBL_STAT_RUN_ON m) hstat,
    get_of_reg (f := Fld.STY_CBL_CEIL_AMPS m) hceil, hc]

omit s in
theorem StayAside.marks {s t : State} (h : StayAside s t) : t.stayMarks m = s.stayMarks m := by
  have hb : Reg.STY_CBL_STAT m / 0x10000 = 0x400B ∧ Reg.STY_CBL_CEIL m / 0x10000 = 0x400B :=
    (by decide : ∀ m : Fin 8, Reg.STY_CBL_STAT m / 0x10000 = 0x400B ∧ Reg.STY_CBL_CEIL m / 0x10000 = 0x400B) m
  exact stayMarks_congr m (h.1 _ hb.1) (h.1 _ hb.2) (by rw [State.cbl, h.2, State.cbl])

theorem styIdle_marks : (s.styIdle m).stayMarks m = s.stayMarks m := by
  obtain ⟨p, f, v, h, -⟩ := styIdle_eq m s
  rw [h, (styDrive_shows m s p f v).1.marks]
  have hne : Reg.STY_CBL_STAT m ≠ Reg.STY_CBL_DUTY m ∧ Reg.STY_CBL_CEIL m ≠ Reg.STY_CBL_DUTY m := by
    simp [Reg.STY_CBL_STAT, Reg.STY_CBL_CEIL, Reg.STY_CBL_DUTY]
  have hd : SameRegs s (s.dutied m p f v) [Reg.STY_CBL_DUTY m] :=
    (((SameRegs.refl s _).andPut (f := Fld.STY_CBL_DUTY_PUMP m) (List.mem_cons_self ..) _).andPut (f := Fld.STY_CBL_DUTY_FAN m) (List.mem_cons_self ..) _).andPutB
      (f := Fld.STY_CBL_DUTY_VALVE m) (List.mem_cons_self ..) _
  exact stayMarks_congr m (hd _ (by simp [hne.1])) (hd _ (by simp [hne.2])) rfl

/-- A block whose EN is 0 is stopped. -/
theorem styStopped_shows : StayOthers m s (s.styStopped m) ∧ (m < s.sty.length → (s.styStopped m).stayMarks m = (false, false, false, 0, false)) := by
  unfold State.styStopped
  extract_lets u v w
  have hu : StayOthers m s u := stayOthers_modCbl m s _
  let x := ((u.putB (Fld.STY_CBL_STAT_RUNNING m) false).putB (Fld.STY_CBL_STAT_EST_OK m) false).putB (Fld.STY_CBL_STAT_RUN_ON m) false
  have hrow : ∀ f ∈ [Fld.STY_CBL_STAT_RUNNING m, Fld.STY_CBL_STAT_EST_OK m, Fld.STY_CBL_STAT_RUN_ON m], f.addr / 0x100 = 0x400B00 + m :=
    (by decide : ∀ m : Fin 8, ∀ f ∈ [Fld.STY_CBL_STAT_RUNNING m, Fld.STY_CBL_STAT_EST_OK m, Fld.STY_CBL_STAT_RUN_ON m], f.addr / 0x100 = 0x400B00 + m) m
  simp only [List.forall_mem_cons] at hrow
  obtain ⟨hr1, hr2, hr3, -⟩ := hrow
  have hx : StayOthers m u x := ((stayOthers_put m u hr1 _).trans (stayOthers_put m _ hr2 _)).trans (stayOthers_put m _ hr3 _)
  have hv : StayOthers m s v := (hu.trans hx).trans (styCeil_row m x 0 0).others
  have hw : StayAside v w := by
    unfold w
    split
    · exact .refl v
    · exact stayAside_setTheta v m _ _
  refine ⟨(hv.trans (((StayRun.refl v).aside hw).others)).trans (styIdle_row m w).others, fun hlen => ?_⟩
  rw [styIdle_marks, hw.marks]
  obtain ⟨c1, c2, c3, c4, c5⟩ := styCeil_shows m x 0 0
  have hx1 : x.bit (Fld.STY_CBL_STAT_RUNNING m) = false := by
    simp (disch := (clear * -; revert m; decide)) only [x, bit_putB_apart, bit_putB_same]
  have hx2 : x.bit (Fld.STY_CBL_STAT_EST_OK m) = false := by
    simp (disch := (clear * -; revert m; decide)) only [x, bit_putB_apart, bit_putB_same]
  have hx3 : x.bit (Fld.STY_CBL_STAT_RUN_ON m) = false := bit_putB_self (F := Fld.STY_CBL_STAT_RUN_ON) (by decide) m false
  have hst : (v.cbl m).started = false := by
    have h : v.cbl m = u.cbl m := by rw [State.cbl, show v.sty = u.sty from c5, State.cbl]
    rw [h, show u.cbl m = _ from cbl_modCbl hlen _]
  exact Prod.ext (c2.trans hx1) (Prod.ext (c3.trans hx2) (Prod.ext (c4.trans hx3) (Prod.ext c1 hst)))

end

/-- One round of a Stay period. -/
def State.styRound (s : State) (m : Nat) : State := if s.bit (Fld.STY_CBL_CTRL_EN m) then s.styBlock m else s.styStopped m

theorem styRound_others (s : State) (m : Fin 8) : StayOthers m s (s.styRound m) := by
  unfold State.styRound
  split
  · exact (styBlock_shows m s).1
  · exact (styStopped_shows m s).1

/-- SSEQ counts, each block takes its round, and the links take the ceilings. -/
theorem exec_stayPeriod {s : State} (h : s.stayOn = true) : exec .stayPeriod s = .next (forEach (List.range 8)
    (forEach ((List.range 8).filter s.styUse) (s.put Fld.STY_PERIOD_SSEQ (s.get Fld.STY_PERIOD_SSEQ + 1)) State.styRound) State.writeEmaxI) :=
  congrArg Host.Outcome.next (if_neg (by simp [h]))

theorem writeEmaxI_aside (s : State) (n : Fin 8) : StayAside s (s.writeEmaxI n) := by
  have hb : (Fld.VLK_L_EMAXI_CHG n).addr / 0x10000 ≠ 0x400B ∧ (Fld.VLK_L_EMAXI_DIS n).addr / 0x10000 ≠ 0x400B :=
    (by decide : ∀ n : Fin 8, (Fld.VLK_L_EMAXI_CHG n).addr / 0x10000 ≠ 0x400B ∧ (Fld.VLK_L_EMAXI_DIS n).addr / 0x10000 ≠ 0x400B) n
  unfold State.writeEmaxI
  split
  · exact ((StayAside.refl s).put hb.1 _).put hb.2 _
  · exact .refl s

/-- What a round of block m rests on. -/
def State.stayBase (s : State) (m : Nat) : Bool × (Bool × Bool × Bool × Nat × Bool) × Nat := (s.bit (Fld.STY_CBL_CTRL_EN m), s.stayMarks m, s.sty.length)

theorem StayOthers.base {x m : Fin 8} (hx : x ≠ m) {s t : State} (h : StayOthers x s t) : t.stayBase m = s.stayBase m := by
  have hrow : ∀ a ∈ [Reg.STY_CBL_CTRL m, Reg.STY_CBL_STAT m, Reg.STY_CBL_CEIL m], a / 0x10000 = 0x400B ∧ a / 0x100 = 0x400B00 + m.val :=
    (by decide : ∀ m : Fin 8, ∀ a ∈ [Reg.STY_CBL_CTRL m, Reg.STY_CBL_STAT m, Reg.STY_CBL_CEIL m], a / 0x10000 = 0x400B ∧ a / 0x100 = 0x400B00 + m.val) m
  have hne : m.val ≠ x.val := fun e => hx (Fin.ext e.symm)
  have keep {a : Nat} (ha : a ∈ [Reg.STY_CBL_CTRL m, Reg.STY_CBL_STAT m, Reg.STY_CBL_CEIL m]) : t.reg a = s.reg a := by
    obtain ⟨hb, hr⟩ := hrow a ha
    exact h.1 a hb (by omega)
  unfold State.stayBase
  rw [bit_of_reg (f := Fld.STY_CBL_CTRL_EN m) (keep (List.mem_cons_self ..)), stayMarks_congr m (keep (by simp)) (keep (by simp)) (h.2.1 m hne), h.2.2]

theorem stayPeriod_shows {s : State} (hs : s.sty.length = 8) (hon : s.stayOn = true) : Completes .stayPeriod s (fun t => SameMem s t ∧
    t.get Fld.STY_PERIOD_SSEQ = (s.get Fld.STY_PERIOD_SSEQ + 1) % 2 ^ Fld.STY_PERIOD_SSEQ.w ∧
    ∀ m : Fin 8, s.styUse m = true →
      (s.bit (Fld.STY_CBL_CTRL_EN m) = false → t.bit (Fld.STY_CBL_STAT_RUNNING m) = false ∧ t.bit (Fld.STY_CBL_STAT_EST_OK m) = false ∧
        t.bit (Fld.STY_CBL_STAT_RUN_ON m) = false ∧ t.get (Fld.STY_CBL_CEIL_AMPS m) = 0 ∧ (t.cbl m).started = false) ∧
      (s.bit (Fld.STY_CBL_CTRL_EN m) = true → t.bit (Fld.STY_CBL_STAT_RUNNING m) = true ∧ (t.cbl m).started = true)) := by
  have hi := exec_stayPeriod hon
  refine ⟨_, hi, memoryChangesOnlyByItsWriters _ _ _ hi, ?_⟩
  let u := s.put Fld.STY_PERIOD_SSEQ (s.get Fld.STY_PERIOD_SSEQ + 1)
  let l := (List.range 8).filter s.styUse
  let w := forEach l u State.styRound
  have hl {x : Nat} (hx : x ∈ l) : x < 8 := List.mem_range.1 (List.mem_of_mem_filter hx)
  have hend : StayAside w (forEach (List.range 8) w State.writeEmaxI) := .forEach _ _ fun t n hn => writeEmaxI_aside t ⟨n, List.mem_range.1 hn⟩
  refine ⟨?_, fun m hm => ?_⟩
  · rw [get_of_reg (f := Fld.STY_PERIOD_SSEQ) (hend.1 _ (by decide))]
    have hround : w.get Fld.STY_PERIOD_SSEQ = u.get Fld.STY_PERIOD_SSEQ := forEach_keeps (fun t => t.get Fld.STY_PERIOD_SSEQ) l u _ fun t x hx =>
      get_of_reg ((styRound_others t ⟨x, hl hx⟩).1 _ (by decide) (by
        have := hl hx
        simp only [Fld.STY_PERIOD_SSEQ, Reg.STY_PERIOD]
        omega))
    rw [hround]
    exact get_put_same s Fld.STY_PERIOD_SSEQ _ (by decide)
  · have hml : m.val ∈ l := List.mem_filter.2 ⟨List.mem_range.2 m.isLt, hm⟩
    obtain ⟨t, hbase, hfin⟩ := forEach_once (fun t => t.stayBase m) u State.styRound hml (List.nodup_range.filter _) fun t x hx hne =>
      (styRound_others t ⟨x, hl hx⟩).base fun e => hne (congrArg Fin.val e)
    have hen : t.bit (Fld.STY_CBL_CTRL_EN m) = s.bit (Fld.STY_CBL_CTRL_EN m) :=
      (congrArg (·.1) hbase).trans (bit_put_other (F := fun _ => Fld.STY_PERIOD_SSEQ) (G := Fld.STY_CBL_CTRL_EN) (by decide) m _)
    have hlen : m < t.sty.length := by
      have h : t.sty.length = s.sty.length := congrArg (·.2.2) hbase
      rw [h, hs]
      exact m.isLt
    have hmarks : (forEach (List.range 8) w State.writeEmaxI).stayMarks m = (t.styRound m).stayMarks m := (hend.marks m).trans (congrArg (·.2.1) hfin)
    refine ⟨fun h0 => ?_, fun h1 => ?_⟩
    · rw [State.styRound, hen, h0, if_neg (by decide), (styStopped_shows m t).2 hlen] at hmarks
      simp only [State.stayMarks, Prod.mk.injEq] at hmarks
      exact hmarks
    · rw [State.styRound, hen, h1, if_pos rfl] at hmarks
      obtain ⟨hrun, hst⟩ := (styBlock_shows m t).2 hlen
      exact ⟨(congrArg (·.1) hmarks).trans hrun, (congrArg (·.2.2.2.2) hmarks).trans hst⟩

theorem sty_of_shaped {s : State} (h : s.shaped = true) : s.sty.length = 8 := by
  simp only [State.shaped, Bool.and_eq_true, beq_iff_eq] at h
  tauto

/-! ### Writes (R488, R494, R496) -/

theorem writeReg_styCtrl (s : State) (m : Master) (b : Fin 8) (v : Nat) : s.writeReg m (Reg.STY_CBL_CTRL b) v = s.wrStyCtrl b v := by
  fin_cases b <;> rfl

theorem writeReg_styLim (s : State) (m : Master) (b : Fin 8) (v : Nat) : s.writeReg m (Reg.STY_CBL_LIM b) v = s.wrStyLim b v := by
  fin_cases b <;> rfl

theorem writeReg_styFw (s : State) (m : Master) (b j : Fin 8) (v : Nat) : s.writeReg m (Reg.STY_CBL_FW b j) v = s.wrStyFw b j v := by
  fin_cases b <;> fin_cases j <;> rfl

/-- A signed value within a field's range is read back. -/
theorem getS_putS_fits (s : State) {f : FieldRef} (h : f.lo + f.w ≤ 32 ∧ 0 < f.w) {i : Int} (hlo : -(2 ^ (f.w - 1) : Int) ≤ i) (hhi : i < 2 ^ (f.w - 1)) :
    (s.putS f i).getS f = i := by
  have hc : clampI i (-(2 ^ (f.w - 1) : Int)) (2 ^ (f.w - 1) - 1) = i := by
    unfold clampI
    omega
  unfold State.getS State.putS
  rw [hc, get_put_same s f _ h.1, Nat.mod_eq_of_lt (ofS_lt _ _), toS_ofS h.2 ⟨hlo, hhi⟩]

theorem toS_16_range (n : Nat) : -32768 ≤ toS 16 n ∧ toS 16 n < 32768 := by
  have h : n % 2 ^ 16 < 2 ^ 16 := Nat.mod_lt _ (by decide)
  unfold toS
  dsimp only
  split <;> omega

theorem limImage_range (s : State) (m o : Nat) : -32768 ≤ s.limImage m o := by
  unfold State.limImage codeFree clampI
  omega

theorem min_limImage_range (s : State) (m o n : Nat) : -32768 ≤ min (toS 16 n) (s.limImage m o) ∧ min (toS 16 n) (s.limImage m o) < 32768 :=
  ⟨le_min (toS_16_range n).1 (limImage_range s m o), (min_le_left _ _).trans_lt (toS_16_range n).2⟩

theorem stayBlockEnWrite_shows {s : State} (hs : s.sty.length = 8) {b : Fin 8} {m : Master} {v : Word} (ht : s.takes m (Reg.STY_CBL_CTRL b) = true) :
    Completes (.stayBlockEnWrite m b v) s (fun t => t.bit (Fld.STY_CBL_CTRL_EN b) = (v.toNat.testBit 0 && s.styUse b) ∧
      t.bit (Fld.STY_CBL_CTRL_HOLD_ACT b) = v.toNat.testBit 1 ∧ t.bit (Fld.STY_CBL_CTRL_PUMP_ALWAYS b) = v.toNat.testBit 2 ∧
      (s.bit (Fld.STY_CBL_CTRL_EN b) = false → v.toNat.testBit 0 = true → s.styUse b = true → (t.cbl b).started = false) ∧
      SameRegs s t [Reg.STY_CBL_CTRL b] ∧ SameMem s t) := by
  let x := if s.styUse b then v.toNat else mset v.toNat 0 false
  have hx (i : Nat) : x.testBit i = if i = 0 then v.toNat.testBit 0 && s.styUse b else v.toNat.testBit i := by
    unfold x
    split
    next h => by_cases hi : i = 0 <;> simp [hi, h]
    next h => rw [testBit_mset]; by_cases hi : i = 0 <;> simp [hi, h]
  let u := s.writeByCode (Reg.STY_CBL_CTRL b) x
  have hbit (lo : Nat) {e : Bool} (hlo : ∀ n : Fin 8, rowHas (Reg.STY_CBL_CTRL n) ⟨lo, 1, .rw, 0, e⟩ = true) : u.bit ⟨Reg.STY_CBL_CTRL b, lo, 1⟩ = x.testBit lo :=
    (congrArg (· != 0) (get_writeByCode_rw (A := Reg.STY_CBL_CTRL) hlo rfl s b x)).trans (fieldOf_bit x lo)
  have h0 : u.bit (Fld.STY_CBL_CTRL_EN b) = (v.toNat.testBit 0 && s.styUse b) := (hbit 0 (e := false) (by decide +kernel)).trans (hx 0)
  have h1 : u.bit (Fld.STY_CBL_CTRL_HOLD_ACT b) = v.toNat.testBit 1 := (hbit 1 (e := true) (by decide +kernel)).trans (hx 1)
  have h2 : u.bit (Fld.STY_CBL_CTRL_PUMP_ALWAYS b) = v.toNat.testBit 2 := (hbit 2 (e := false) (by decide +kernel)).trans (hx 2)
  have hregs : SameRegs s u [Reg.STY_CBL_CTRL b] := fun a ha => reg_writeByCode_ne s x (by simpa using ha)
  have hsty : u.sty = s.sty := by unfold u; rw [onlyRegs_writeByCode s]
  have hi : exec (.stayBlockEnWrite m b v) s = .next (if (u.bit (Fld.STY_CBL_CTRL_EN b) && !s.bit (Fld.STY_CBL_CTRL_EN b)) = true
      then u.modCbl b (fun c => { c with started := false }) else u) :=
    congrArg Host.Outcome.next ((wr_row (A := Reg.STY_CBL_CTRL) (by decide) v ht).trans (writeReg_styCtrl s m b v.toNat))
  have hmem := memoryChangesOnlyByItsWriters _ _ _ hi
  refine ⟨_, hi, ?_, ?_, ?_, fun he hv hu => ?_, ?_, hmem⟩
  · rw [← h0]; split <;> rfl
  · rw [← h1]; split <;> rfl
  · rw [← h2]; split <;> rfl
  · rw [if_pos (by simp [h0, he, hv, hu]), cbl_modCbl (by rw [hsty, hs]; exact b.isLt)]
  · split
    · exact hregs
    · exact hregs

theorem stayLimWrite_shows {s : State} {b : Fin 8} {m : Master} {v : Word} (ht : s.takes m (Reg.STY_CBL_LIM b) = true) :
    Completes (.stayLimWrite m b v) s (fun t => t.getS (Fld.STY_CBL_LIM_COND b) = min (toS 16 v.toNat) (s.limImage b 0x2C) ∧
      t.getS (Fld.STY_CBL_LIM_CONT b) = min (toS 16 (v.toNat / 65536)) (s.limImage b 0x30) ∧ SameRegs s t [Reg.STY_CBL_LIM b] ∧ SameMem s t) := by
  have hi : exec (.stayLimWrite m b v) s = .next (s.wrStyLim b v.toNat) :=
    congrArg Host.Outcome.next ((wr_row (A := Reg.STY_CBL_LIM) (by decide) v ht).trans (writeReg_styLim s m b v.toNat))
  obtain ⟨c1, c2⟩ := min_limImage_range s b 0x2C v.toNat
  obtain ⟨d1, d2⟩ := min_limImage_range s b 0x30 (v.toNat / 65536)
  unfold State.wrStyLim at hi
  generalize min (toS 16 v.toNat) (s.limImage b 0x2C) = x at *
  generalize min (toS 16 (v.toNat / 65536)) (s.limImage b 0x30) = y at *
  refine ⟨_, hi, ?_, ?_, ?_, memoryChangesOnlyByItsWriters _ _ _ hi⟩
  · have hother : ((s.putS (Fld.STY_CBL_LIM_COND b) x).putS (Fld.STY_CBL_LIM_CONT b) y).getS (Fld.STY_CBL_LIM_COND b) =
        (s.putS (Fld.STY_CBL_LIM_COND b) x).getS (Fld.STY_CBL_LIM_COND b) :=
      congrArg (toS 16) (get_put_other (F := Fld.STY_CBL_LIM_CONT) (G := Fld.STY_CBL_LIM_COND) (by decide) b _)
    rw [hother]
    exact getS_putS_fits s (f := Fld.STY_CBL_LIM_COND b) ⟨Nat.le_of_ble_eq_true rfl, Nat.le_of_ble_eq_true rfl⟩ c1 c2
  · exact getS_putS_fits _ (f := Fld.STY_CBL_LIM_CONT b) ⟨Nat.le_of_ble_eq_true rfl, Nat.le_of_ble_eq_true rfl⟩ d1 d2
  · exact ((SameRegs.refl s _).andPut (f := Fld.STY_CBL_LIM_COND b) (List.mem_cons_self ..) _).andPut (f := Fld.STY_CBL_LIM_CONT b) (List.mem_cons_self ..) _

theorem stayFwInputWrite_shows {s : State} (hs : s.sty.length = 8) {b j : Fin 8} {m : Master} {v : Word} (ht : s.takes m (Reg.STY_CBL_FW b j) = true) :
    Completes (.stayFwInputWrite m b j v) s (fun t => t.get (Fld.STY_CBL_FW_VALUE b j) = v.toNat ∧ (t.cbl b).fresh.testBit j = true ∧
      SameRegs s t [Reg.STY_CBL_FW b j] ∧ SameMem s t) := by
  have hi : exec (.stayFwInputWrite m b j v) s = .next ((s.put (Fld.STY_CBL_FW_VALUE b j) v.toNat).modCbl b (fun c => { c with fresh := mset c.fresh j true })) :=
    congrArg Host.Outcome.next ((wr_row (A := fun j => Reg.STY_CBL_FW b j) ((by decide : ∀ b : Fin 8, ∀ j : Fin 8, 0x4000 ≤ Reg.STY_CBL_FW b j / 0x10000 ∧
      Reg.STY_CBL_FW b j / 0x10000 ≤ 0x4012 ∧ Reg.STY_CBL_FW b j / 0x10000 ≠ 0x4009) b) v ht).trans (writeReg_styFw s m b j v.toNat))
  refine ⟨_, hi, ?_, ?_, ?_, memoryChangesOnlyByItsWriters _ _ _ hi⟩
  · refine Eq.trans ?_ (Nat.mod_eq_of_lt v.isLt)
    exact get_put_same s (Fld.STY_CBL_FW_VALUE b j) v.toNat (by simp [Fld.STY_CBL_FW_VALUE])
  · rw [cbl_modCbl (by rw [put_sty, hs]; exact b.isLt)]
    exact testBit_mset_same ..
  · have h : SameRegs s (s.put (Fld.STY_CBL_FW_VALUE b j) v.toNat) [Reg.STY_CBL_FW b j] := (SameRegs.refl s _).andPut (f := Fld.STY_CBL_FW_VALUE b j) (List.mem_cons_self ..) _
    exact h

theorem fwInputStale_shows {s : State} (hs : s.sty.length = 8) (b j : Fin 8) :
    Completes (.fwInputStale b j) s (fun t => (t.cbl b).fresh.testBit j = false ∧ t.regs = s.regs ∧ SameMem s t) := by
  refine ⟨_, rfl, ?_, rfl, memoryChangesOnlyByItsWriters (.fwInputStale b j) s _ rfl⟩
  rw [cbl_modCbl (by rw [hs]; exact b.isLt)]
  exact testBit_mset_same ..

/-! ### Pump and run-on (R499, R500) -/

section
variable {s : State} {b : Fin 8}

theorem pumpImplausible_idle (h : s.stayOn = false ∨ s.bit (Fld.STY_CBL_STAT_RUNNING b) = false ∨ s.bit (Fld.STY_CBL_STAT_FLOW_IMPL b) = true ∨ s.pumpOff b = false) :
    exec (.pumpImplausible b) s = .next s := by
  refine congrArg Host.Outcome.next ?_
  split
  next hc =>
    simp only [Bool.and_eq_true] at hc
    obtain ⟨⟨hon, hrun⟩, hoff⟩ := hc
    have hf : s.bit (Fld.STY_CBL_STAT_FLOW_IMPL b) = true := by
      simpa [hon, hrun, hoff] using h
    exact if_pos hf
  · rfl

theorem pumpOff_of_current {i : Rat} (hin : (s.styIn b 5).join = some i) (hd : 64 ≤ s.get (Fld.STY_CBL_DUTY_PUMP b))
    (hband : i < (s.get (Fld.STY_CBL_DUTY_PUMP b) : Rat) / 255 * s.styU b 0x6C ∨ (s.get (Fld.STY_CBL_DUTY_PUMP b) : Rat) / 255 * s.styU b 0x70 < i) :
    s.pumpOff b = true := by
  unfold State.pumpOff
  rw [hin]
  simpa [hd] using hband

/-- The flow is taken as 0. -/
def State.flowZero (s : State) (b : Nat) : State := (s.putB (Fld.STY_CBL_STAT_FLOW_IMPL b) true).putB (Fld.STY_CBL_EVT_FLOW b) true

theorem pumpImplausible_shows (hon : s.stayOn = true) (hrun : s.bit (Fld.STY_CBL_STAT_RUNNING b) = true) (hf : s.bit (Fld.STY_CBL_STAT_FLOW_IMPL b) = false)
    (hoff : s.pumpOff b = true) :
    Completes (.pumpImplausible b) s (fun t => t.bit (Fld.STY_CBL_STAT_FLOW_IMPL b) = true ∧
      t.bit (Fld.STY_CBL_EVT_FLOW b) = true ∧ SameMem s t ∧ (s.parapetFree 0x2A 3 = true → Recorded t 0x2A 3 5 (2 ^ b.val) 0)) := by
  have hi : exec (.pumpImplausible b) s = .next ((s.flowZero b).report 0x2A 3 5 (2 ^ b.val) 0) :=
    congrArg Host.Outcome.next ((if_pos (by simp [hon, hrun, hoff])).trans ((if_neg (by simp [hf])).trans (if_pos rfl)))
  have haside := stayAside_report (s.flowZero b) 0x2A 3 5 (2 ^ b.val) 0
  have hblk : Reg.STY_CBL_STAT b / 0x10000 = 0x400B ∧ Reg.STY_CBL_EVT b / 0x10000 = 0x400B :=
    (by decide : ∀ b : Fin 8, Reg.STY_CBL_STAT b / 0x10000 = 0x400B ∧ Reg.STY_CBL_EVT b / 0x10000 = 0x400B) b
  refine ⟨_, hi, (bit_of_reg (f := Fld.STY_CBL_STAT_FLOW_IMPL b) (haside.1 _ hblk.1)).trans ?_, (bit_of_reg (f := Fld.STY_CBL_EVT_FLOW b) (haside.1 _ hblk.2)).trans ?_,
    memoryChangesOnlyByItsWriters _ _ _ hi, fun h => report_recorded ((parapetFree_congr (by rfl) (by rfl) 0x2A 3).trans h) 5 _ 0⟩
  · simp (disch := (clear * -; revert b; decide)) only [State.flowZero, bit_putB_apart, bit_putB_same]
  · exact bit_putB_self (F := Fld.STY_CBL_EVT_FLOW) (by decide) b true

theorem flowRestored_idle (h : s.stayOn = false ∨ s.bit (Fld.STY_CBL_STAT_ACT_HELD b) = true ∨ s.bit (Fld.STY_CBL_STAT_FLOW_IMPL b) = false ∨ s.pumpOff b = true) :
    exec (.flowRestored b) s = .next s := by
  refine congrArg Host.Outcome.next ?_
  split
  · rfl
  next hc =>
    simp only [Bool.or_eq_true, not_or, Bool.not_eq_true'] at hc
    obtain ⟨⟨hon, hheld⟩, hoff⟩ := hc
    have hf : s.bit (Fld.STY_CBL_STAT_FLOW_IMPL b) = false := by
      simpa [hon, hheld, hoff] using h
    exact if_pos hf

theorem flowRestored_shows (hon : s.stayOn = true) (hoff : s.pumpOff b = false) (hheld : s.bit (Fld.STY_CBL_STAT_ACT_HELD b) = false)
    (hf : s.bit (Fld.STY_CBL_STAT_FLOW_IMPL b) = true) :
    Completes (.flowRestored b) s (fun t => t.bit (Fld.STY_CBL_STAT_FLOW_IMPL b) = false ∧ t.bit (Fld.STY_CBL_EVT_FLOW b) = true ∧
      SameRegs s t [Reg.STY_CBL_STAT b, Reg.STY_CBL_EVT b] ∧ SameMem s t) := by
  have hi : exec (.flowRestored b) s = .next ((s.putB (Fld.STY_CBL_STAT_FLOW_IMPL b) false).putB (Fld.STY_CBL_EVT_FLOW b) true) :=
    congrArg Host.Outcome.next ((if_neg (by simp [hon, hoff, hheld])).trans ((if_neg (by simp [hf])).trans (if_neg (by decide))))
  refine ⟨_, hi, ?_, bit_putB_self (F := Fld.STY_CBL_EVT_FLOW) (by decide) b true, ?_, memoryChangesOnlyByItsWriters _ _ _ hi⟩
  · simp (disch := (clear * -; revert b; decide)) only [bit_putB_apart, bit_putB_same]
  · exact ((SameRegs.refl s _).andPutB (by simp [Fld.STY_CBL_STAT_FLOW_IMPL]) _).andPutB (by simp [Fld.STY_CBL_EVT_FLOW]) _

theorem runOnExpiry_shows (hon : s.stayOn = true) (hr : s.bit (Fld.STY_CBL_STAT_RUN_ON b) = true) :
    Completes (.runOnExpiry b) s (fun t => t.bit (Fld.STY_CBL_STAT_RUN_ON b) = false ∧
      SameBlocks s t [0x400B, 0x400F] ∧ SameMem s t ∧
      (s.bit (Fld.STY_CBL_CTRL_HOLD_ACT b) = false → s.bit (Fld.STY_CBL_CTRL_PUMP_ALWAYS b) = false →
        t.get (Fld.STY_CBL_DUTY_PUMP b) = 0 ∧ t.get (Fld.STY_CBL_DUTY_FAN b) = 0 ∧ t.bit (Fld.STY_CBL_DUTY_VALVE b) = false)) := by
  let u := s.putB (Fld.STY_CBL_STAT_RUN_ON b) false
  have hi : exec (.runOnExpiry b) s = .next (u.styIdle b) := congrArg Host.Outcome.next (if_pos (by simp [hon, hr]))
  have hmem := memoryChangesOnlyByItsWriters _ _ _ hi
  have hrun : u.bit (Fld.STY_CBL_STAT_RUN_ON b) = false := bit_putB_self (F := Fld.STY_CBL_STAT_RUN_ON) (by decide) b false
  obtain ⟨p, f, v, he, hz⟩ := styIdle_eq b u
  obtain ⟨haside, hblocks⟩ := styDrive_shows b u p f v
  refine ⟨_, hi, (congrArg (·.2.2.1) (styIdle_marks b u)).trans hrun, fun a ha => ?_, hmem, fun h1 h2 => ?_⟩
  · have hb : ∀ f ∈ [Fld.STY_CBL_STAT_RUN_ON b, Fld.STY_CBL_DUTY_PUMP b, Fld.STY_CBL_DUTY_FAN b, Fld.STY_CBL_DUTY_VALVE b], f.addr / 0x10000 = 0x400B :=
      (by decide : ∀ b : Fin 8, ∀ f ∈ [Fld.STY_CBL_STAT_RUN_ON b, Fld.STY_CBL_DUTY_PUMP b, Fld.STY_CBL_DUTY_FAN b, Fld.STY_CBL_DUTY_VALVE b], f.addr / 0x10000 = 0x400B) b
    simp only [List.mem_cons, List.not_mem_nil, or_false, not_or] at ha
    have hne {g : FieldRef} (hg : g ∈ [Fld.STY_CBL_STAT_RUN_ON b, Fld.STY_CBL_DUTY_PUMP b, Fld.STY_CBL_DUTY_FAN b, Fld.STY_CBL_DUTY_VALVE b]) : a ≠ g.addr := fun e => ha.1 (e ▸ hb g hg)
    rw [he, hblocks a (by simp [ha.2])]
    exact (reg_put_ne _ _ (hne (by simp))).trans ((reg_put_ne _ _ (hne (by simp))).trans ((reg_put_ne _ _ (hne (by simp))).trans (reg_put_ne s _ (hne (by simp)))))
  · have hc1 := bit_putB_other (s := s) (F := Fld.STY_CBL_STAT_RUN_ON) (G := Fld.STY_CBL_CTRL_HOLD_ACT) (by decide) b false
    have hc2 := bit_putB_other (s := s) (F := Fld.STY_CBL_STAT_RUN_ON) (G := Fld.STY_CBL_CTRL_PUMP_ALWAYS) (by decide) b false
    obtain ⟨rfl, rfl, rfl⟩ := hz (hc1.trans h1) (hc2.trans h2)
    have hreg : (u.styIdle b).reg (Reg.STY_CBL_DUTY b) = (u.dutied b 0 0 false).reg (Reg.STY_CBL_DUTY b) := by
      rw [he]
      exact haside.1 _ ((by decide : ∀ b : Fin 8, Reg.STY_CBL_DUTY b / 0x10000 = 0x400B) b)
    rw [get_of_reg (f := Fld.STY_CBL_DUTY_PUMP b) hreg, get_of_reg (f := Fld.STY_CBL_DUTY_FAN b) hreg, bit_of_reg (f := Fld.STY_CBL_DUTY_VALVE b) hreg]
    refine ⟨?_, ?_, bit_putB_self (F := Fld.STY_CBL_DUTY_VALVE) (by decide) b false⟩
    · simp (disch := (clear * -; revert b; decide)) only [State.dutied, get_putB_apart, get_put_apart, get_put_same, Nat.zero_mod]
    · simp (disch := (clear * -; revert b; decide)) only [State.dutied, get_putB_apart, get_put_same, Nat.zero_mod]

end

/-- Settles O36: a Stay period, the writes of a block's registers, stale inputs, the pump's checks and the end of the run-on. -/
theorem cableCoolingActs : Obligations.CableCoolingActs := by
  unfold Obligations.CableCoolingActs
  intro s hs
  have hlen := sty_of_shaped hs
  refine ⟨fun h => congrArg Host.Outcome.next (if_pos (by simp [h])), fun hrun hd => stayPeriod_shows hlen (by simp [State.stayOn, hrun, hd]), fun b =>
    ⟨fun m v ht => stayBlockEnWrite_shows hlen ht, fun m v ht => stayLimWrite_shows ht, fun m j v ht => stayFwInputWrite_shows hlen ht, fwInputStale_shows hlen b,
      pumpImplausible_idle, fun hon hrun hf i hin hd hband => pumpImplausible_shows hon hrun hf (pumpOff_of_current hin hd hband), flowRestored_idle,
      flowRestored_shows, fun h => congrArg Host.Outcome.next (if_neg ?_), runOnExpiry_shows⟩⟩
  rcases h with h | h <;> simp [h]

end Sys2Proof.Machine

/-! SUPPORT. What a wake shows (R715, R716). -/

namespace Sys2Proof.Machine

/-- The RTC runs on: registers, load and power state stay. -/
theorem rtcOff_shows (s : State) (e : Nat) : (s.rtcOff e).regs = s.regs ∧ (s.rtcOff e).load = s.load ∧ (s.rtcOff e).pwr.st = s.pwr.st := by
  unfold State.rtcOff
  split
  · exact ⟨rfl, rfl, rfl⟩
  · exact ⟨rfl, rfl, rfl⟩

/-- Registers that a wake leaves alone. -/
def wakeWrites : List FieldRef := [Fld.ABT_SLEEP_VALUE, Fld.ABT_GAP_VALUE, Fld.ABT_GAPEB_VALUE, Fld.ABT_RTCSTAT_GAP]

theorem endGap_reg (s : State) {a : Nat} (ha : ∀ f ∈ wakeWrites, f.addr ≠ a) : s.endGap.reg a = s.reg a := by
  simp only [wakeWrites, List.forall_mem_cons] at ha
  obtain ⟨h1, h2, h3, h4, -⟩ := ha
  unfold State.endGap
  extract_lets b u v
  have hu : u.reg a = s.reg a := (reg_put_ne _ _ h2.symm).trans (reg_put_ne s _ h1.symm)
  have hv : v.reg a = s.reg a := (reg_modTol _ _ _).trans ((reg_put_ne u _ h3.symm).trans hu)
  clear_value v
  split
  · exact (reg_put_ne v _ h4.symm).trans hv
  · exact hv

theorem trsWake_reg (s : State) {a : Nat} (ha : a / 0x10000 ≠ 0x400F) : s.trsWake.reg a = s.reg a := by
  refine forEach_keeps (fun t => t.reg a) _ s _ fun t n hn => ?_
  have hblk : ∀ b ∈ [Reg.TRS_CH_STAT n, Reg.TRS_CH_CUR n, Reg.TRS_CH_CTRL n], b / 0x10000 = 0x400F :=
    (by decide : ∀ n < 16, ∀ b ∈ [Reg.TRS_CH_STAT n, Reg.TRS_CH_CUR n, Reg.TRS_CH_CTRL n], b / 0x10000 = 0x400F) n (List.mem_range.1 hn)
  have hne {b : Nat} (hb : b ∈ [Reg.TRS_CH_STAT n, Reg.TRS_CH_CUR n, Reg.TRS_CH_CTRL n]) : a ≠ b := fun e => ha (e ▸ hblk b hb)
  extract_lets on u v
  have hv : v.reg a = t.reg a := by
    unfold v
    split
    · exact (reg_put_ne _ _ (hne (by simp [Fld.TRS_CH_CTRL_ON]))).trans ((reg_put_ne _ _ (hne (by simp [Fld.TRS_CH_CTRL_DUTY]))).trans
        ((reg_put_ne _ _ (hne (by simp [Fld.TRS_CH_STAT_HELD]))).trans rfl))
    · rfl
  exact (trsSettle1_reg v (hne (by simp)) (hne (by simp))).trans hv

theorem nonce_reg (s : State) {a : Nat} (ha : a / 0x10000 ≠ 0x4003) : s.newNonce.reg a = s.reg a :=
  forEach_keeps (fun t => t.reg a) _ s _ fun t w hw => reg_put_ne _ _ fun e => ha (by
    have hblk := (by decide : ∀ w < 8, (Fld.PYL_NONCE_WORD w).addr / 0x10000 = 0x4003) w (List.mem_range.1 hw)
    rw [e, hblk])

theorem updateState_reg (s : State) {a : Nat} (ha : a / 0x10000 ≠ 0x400A) : s.updateState.reg a = s.reg a := by
  refine ((blind_otherBlock (by simpa using ha)).boundaries (k := Toll.clock)).tariffs.updateState s |>.trans ?_
  have hne {f : FieldRef} (hf : f.addr / 0x10000 = 0x400A) : a ≠ f.addr := fun e => ha (e ▸ hf)
  unfold State.stateShown
  split
  · rfl
  · exact (reg_put_ne _ _ (hne (f := Fld.TOL_TEVT_STATE) (by decide))).trans (reg_put_ne s _ (hne (f := Fld.TOL_TSTAT_STATE) (by decide)))

/-- A sleeping device powers up, Pylon starts to re-stream, and the state left is shown. -/
theorem wake_shows {s : State} (hs : s.asleep = true) (hw : s.load.wake = false) : s.wake.load.wake = true ∧ s.wake.pwr.domains = 0x3FF ∧
    s.wake.pyl.serving = some 0 ∧ s.wake.get Fld.ABT_PSSTAT_LAST = (if s.pwr.st = .park then 2 else 1) ∧
    s.wake.reg Reg.ABT_WAKEEVT = s.reg Reg.ABT_WAKEEVT := by
  unfold State.wake
  rw [if_neg (by simp [hs, hw])]
  extract_lets park u tol w x
  have hw {a : Nat} (ha : a / 0x10000 = 0x4001) (hg : ∀ f ∈ wakeWrites, f.addr ≠ a) : x.reg a = (s.put Fld.ABT_PSSTAT_LAST (if park then 2 else 1)).reg a := by
    have hx : x.reg a = w.reg a := (updateState_reg _ (by rw [ha]; decide)).trans ((nonce_reg _ (by rw [ha]; decide)).trans (trsWake_reg w (by rw [ha]; decide)))
    have hwu : w.reg a = u.reg a := by
      unfold w
      split <;> rfl
    exact hx.trans (hwu.trans (endGap_reg _ hg))
  clear_value x
  refine ⟨rfl, rfl, rfl, ?_, ?_⟩
  · refine (get_of_reg (f := Fld.ABT_PSSTAT_LAST) (hw (by decide) (by decide))).trans ?_
    rw [get_put_same s _ _ (by decide)]
    simp only [park, beq_iff_eq]
    split <;> rfl
  · exact (hw (by decide) (by decide)).trans (reg_put_ne s _ (by decide))

/-- A source that becomes active in a sleep, with no entry in progress, wakes the device. -/
theorem wakeSource_eq {s : State} (ha : s.asleep = true) (hb : s.bit Fld.ABT_PSSTAT_BUSY = false) (f : State → State) : s.wakeSource f = (f s).wake := by
  unfold State.wakeSource
  rw [if_pos ha, if_neg (by simp [hb])]

end Sys2Proof.Machine

/-! PROOFS. The CAN buses: enabling, recovery, schedules, references and wake-up (O42). -/

namespace Sys2Proof.Machine

theorem can_of_shaped {s : State} (h : s.shaped = true) : s.can.length = 4 := by
  simp only [State.shaped, Bool.and_eq_true, beq_iff_eq] at h
  tauto

/-! ### The record of a bus beside its registers -/

@[simp] theorem get_modCan (s : State) (n : Nat) (f : Can → Can) (g : FieldRef) : (s.modCan n f).get g = s.get g := (rfl)
@[simp] theorem bit_modCan (s : State) (n : Nat) (f : Can → Can) (g : FieldRef) : (s.modCan n f).bit g = s.bit g := (rfl)
@[simp] theorem bus_put (s : State) (g : FieldRef) (v n : Nat) : (s.put g v).bus n = s.bus n := (rfl)
@[simp] theorem bus_putB (s : State) (g : FieldRef) (b : Bool) (n : Nat) : (s.putB g b).bus n = s.bus n := (rfl)
@[simp] theorem length_modCan (s : State) (n : Nat) (f : Can → Can) : (s.modCan n f).can.length = s.can.length := length_updAt ..

theorem bus_modCan {s : State} {n : Nat} (h : n < s.can.length) (f : Can → Can) : (s.modCan n f).bus n = f (s.bus n) := nth_updAt_same _ f h

theorem sameRegs_modCan {s u : State} {l : List Nat} (h : SameRegs s u l) (n : Nat) (f : Can → Can) : SameRegs s (u.modCan n f) l := h

theorem canSelect_regs (s : State) (n : Nat) : (s.canSelect n).regs = s.regs := by
  unfold State.canSelect
  split
  · rfl
  · split <;> rfl

/-! ### CTRL (R577, R578, R597) -/

theorem writeReg_canCtrl (s : State) (m : Master) (n : Fin 4) (v : Nat) : s.writeReg m (Reg.CBU_B_CTRL n) v = s.wrCanCtrl n v := by
  fin_cases n <;> rfl

section
variable {s : State} {n : Fin 4}

/-- The word that CTRL takes: the fields of R577 stay while EN is 1. -/
def State.canCtrlWord (s : State) (n v : Nat) : Nat :=
  if s.canEn n then fieldSet (fieldSet v 1 3 (fieldOf (s.reg (Reg.CBU_B_CTRL n)) 1 3)) 7 1
    (fieldOf (s.reg (Reg.CBU_B_CTRL n)) 7 1) else v

/-- CTRL as written. -/
def State.canCtrlTaken (s : State) (n v : Nat) : State := s.writeByCode (Reg.CBU_B_CTRL n) (s.canCtrlWord n v)

theorem canCtrlTaken_bit (v : Nat) {lo : Nat} {e : Bool} (h : ∀ n : Fin 4, rowHas (Reg.CBU_B_CTRL n) ⟨lo, 1, .rw, 0, e⟩ = true) :
    (s.canCtrlTaken n v).bit ⟨Reg.CBU_B_CTRL n, lo, 1⟩ = (s.canCtrlWord n v).testBit lo :=
  (congrArg (· != 0) (get_writeByCode_rw (A := Reg.CBU_B_CTRL) h rfl s n _)).trans (fieldOf_bit _ lo)

theorem canCtrlWord_bit (v i : Nat) : (s.canCtrlWord n v).testBit i =
    if s.canEn n = true ∧ (1 ≤ i ∧ i < 4 ∨ i = 7) then (s.reg (Reg.CBU_B_CTRL n)).testBit i else v.testBit i := by
  unfold State.canCtrlWord
  by_cases he : s.canEn n = true
  · rw [if_pos he, testBit_fieldSet, testBit_fieldSet]
    simp only [he, true_and, fieldOf, Nat.testBit_mod_two_pow, Nat.testBit_div_two_pow]
    by_cases h7 : i = 7
    · subst h7
      simp
    by_cases h14 : 1 ≤ i ∧ i < 4
    · have hsub : i - 1 + 1 = i := by omega
      rw [if_pos (by omega), if_neg (by omega), if_pos (by omega), hsub, if_pos (.inl h14), decide_eq_true (by omega), Bool.true_and]
    · rw [if_neg (by omega : ¬(1 ≤ i ∧ i < 4 ∨ i = 7))]
      by_cases hlt : i < 7
      · rw [if_pos hlt]
        split_ifs with h1 h2
        · rfl
        · omega
        · rfl
      · rw [if_neg hlt, if_neg (by omega), if_neg (by omega), if_neg (by omega)]
  · rw [if_neg he, if_neg (by simp [he])]

/-- What CTRL's write leaves beside its consequences: EN as written, the fields of R577 as they were while EN was 1. -/
theorem canCtrlTaken_shows (v : Nat) : SameRegs s (s.canCtrlTaken n v) [Reg.CBU_B_CTRL n] ∧ (s.canCtrlTaken n v).can = s.can ∧
    (s.canCtrlTaken n v).canEn n = v.testBit 0 ∧
    (s.canCtrlTaken n v).bit (Fld.CBU_B_CTRL_LOM n) = (if s.canEn n = true then s.bit (Fld.CBU_B_CTRL_LOM n) else v.testBit 1) ∧
    (s.canCtrlTaken n v).bit (Fld.CBU_B_CTRL_LOOP n) = (if s.canEn n = true then s.bit (Fld.CBU_B_CTRL_LOOP n) else v.testBit 7) := by
  have old (lo : Nat) : (s.reg (Reg.CBU_B_CTRL n)).testBit lo = s.bit ⟨Reg.CBU_B_CTRL n, lo, 1⟩ := testBit_reg s _ lo
  refine ⟨fun a ha => reg_writeByCode_ne s _ (by simpa using ha), by rw [State.canCtrlTaken, onlyRegs_writeByCode s], ?_, ?_, ?_⟩
  · refine (canCtrlTaken_bit v (lo := 0) (e := false) (by decide +kernel)).trans ?_
    rw [canCtrlWord_bit, if_neg (by omega)]
  · refine (canCtrlTaken_bit v (lo := 1) (e := true) (by decide +kernel)).trans ?_
    rw [canCtrlWord_bit, old]
    simp [Fld.CBU_B_CTRL_LOM]
  · refine (canCtrlTaken_bit v (lo := 7) (e := true) (by decide +kernel)).trans ?_
    rw [canCtrlWord_bit, old]
    simp [Fld.CBU_B_CTRL_LOOP]

/-- The schedule is out of sync, and this controller is no time master. -/
def State.canQuiet (s : State) (n : Nat) : State := (s.putB (Fld.CBU_B_TTSTAT_SYNCED n) false).putB (Fld.CBU_B_TTSTAT_MASTER n) false

theorem canQuiet_shows (u : State) : SameRegs u (u.canQuiet n) [Reg.CBU_B_TTSTAT n] ∧ (u.canQuiet n).bus n = u.bus n ∧
    (u.canQuiet n).bit (Fld.CBU_B_TTSTAT_SYNCED n) = false ∧ (u.canQuiet n).bit (Fld.CBU_B_TTSTAT_MASTER n) = false := by
  refine ⟨((SameRegs.refl u _).andPut (f := Fld.CBU_B_TTSTAT_SYNCED n) (List.mem_cons_self ..) _).andPut (f := Fld.CBU_B_TTSTAT_MASTER n) (List.mem_cons_self ..) _, rfl, ?_, ?_⟩
  · simp (disch := (clear * -; revert n; decide)) only [State.canQuiet, bit_putB_apart, bit_putB_same]
  · exact bit_putB_self (F := Fld.CBU_B_TTSTAT_MASTER) (by decide) n false

theorem exec_canEnable {m : Master} (v : Word) (ht : s.takes m (Reg.CBU_B_CTRL n) = true) : exec (.canEnable m n v) s = .next (s.wrCanCtrl n v.toNat) :=
  congrArg Host.Outcome.next ((wr_row (A := Reg.CBU_B_CTRL) (by decide) v ht).trans (writeReg_canCtrl s m n v.toNat))

theorem exec_canRecover {m : Master} (v : Word) (ht : s.takes m (Reg.CBU_B_CTRL n) = true) : exec (.canRecover m n v) s = .next (s.wrCanCtrl n v.toNat) :=
  congrArg Host.Outcome.next ((wr_row (A := Reg.CBU_B_CTRL) (by decide) v ht).trans (writeReg_canCtrl s m n v.toNat))

/-- RECOVER starts the recovery count of a bus in bus-off. -/
def State.canRecovered (s : State) (n v : Nat) : State :=
  if v.testBit 8 && s.bit (Fld.CBU_B_STAT_BUS_OFF n) then s.modCan n (fun c => { c with recovering := true }) else s

/-- The schedule restarts. -/
def Can.restarted (c : Can) : Can := { c with conf := false, refs := 0, restart := true, window := 0, resume := false, closing := false, refDue := false }

theorem wrCanCtrl_eq (v : Nat) : s.wrCanCtrl n v =
    let u := (s.canCtrlTaken n v).canRecovered n v
    if u.canEn n && !s.canEn n then (u.canQuiet n).modCan n Can.restarted
    else if s.canEn n && !u.canEn n then
      if (u.bus n).cur.isSome then (u.canQuiet n).modCan n (fun c => { c with closing := true, window := 0 })
      else ((u.canQuiet n).modCan n (fun c => { c with window := 0 })).putB (Fld.CBU_B_STAT_JOINED n) false
    else u := (rfl)

theorem canRecovered_of_not (u : State) {v : Nat} (h : v.testBit 8 = false) : u.canRecovered n v = u := if_neg (by simp [h])

theorem canRecovered_regs (u : State) (v : Nat) : (u.canRecovered n v).regs = u.regs := by
  unfold State.canRecovered
  split <;> rfl

theorem bus_congr {u t : State} (h : t.can = u.can) (k : Nat) : t.bus k = u.bus k := by rw [State.bus, h, State.bus]

variable (hs : s.can.length = 4)
include hs

theorem canEnable_on {m : Master} {v : Word} (ht : s.takes m (Reg.CBU_B_CTRL n) = true) (he : s.canEn n = false) (h0 : v.toNat.testBit 0 = true)
    (h8 : v.toNat.testBit 8 = false) : Completes (.canEnable m n v) s (fun t =>
      t.canEn n = true ∧ t.bit (Fld.CBU_B_CTRL_LOM n) = v.toNat.testBit 1 ∧ t.bit (Fld.CBU_B_TTSTAT_SYNCED n) = false ∧
      t.bit (Fld.CBU_B_TTSTAT_MASTER n) = false ∧ (t.bus n).restart = true ∧ (t.bus n).refs = 0 ∧ (t.bus n).conf = false ∧
      SameRegs s t [Reg.CBU_B_CTRL n, Reg.CBU_B_TTSTAT n] ∧ SameMem s t) := by
  have hi := exec_canEnable v ht
  obtain ⟨hregs, hcan, hen, hlom, -⟩ := canCtrlTaken_shows (s := s) (n := n) v.toNat
  rw [wrCanCtrl_eq, canRecovered_of_not _ h8] at hi
  generalize s.canCtrlTaken n v.toNat = u at *
  dsimp only at hi
  rw [if_pos (by simp [hen, h0, he])] at hi
  obtain ⟨qr, qb, qs, qm⟩ := canQuiet_shows (n := n) u
  have hq (f : FieldRef) (hf : f.addr = Reg.CBU_B_CTRL n) : (u.canQuiet n).bit f = u.bit f :=
    bit_of_reg (qr _ (by rw [hf]; simp [Reg.CBU_B_CTRL, Reg.CBU_B_TTSTAT]))
  have hbus : ((u.canQuiet n).modCan n Can.restarted).bus n = (u.bus n).restarted := by
    rw [bus_modCan (by rw [show (u.canQuiet n).can = u.can from rfl, hcan, hs]; exact n.isLt), qb]
  refine ⟨_, hi, (hq _ rfl).trans (hen.trans h0), (hq _ rfl).trans (by rw [hlom, if_neg (by simp [he])]), qs, qm, by rw [hbus]; rfl, by rw [hbus]; rfl,
    by rw [hbus]; rfl, fun a ha => ?_, memoryChangesOnlyByItsWriters _ _ _ hi⟩
  simp only [List.mem_cons, List.not_mem_nil, or_false, not_or] at ha
  exact (qr a (by simp [ha.2])).trans (hregs a (by simp [ha.1]))

theorem canEnable_off {m : Master} {v : Word} (ht : s.takes m (Reg.CBU_B_CTRL n) = true) (he : s.canEn n = true) (h0 : v.toNat.testBit 0 = false)
    (h8 : v.toNat.testBit 8 = false) : Completes (.canEnable m n v) s (fun t =>
      t.canEn n = false ∧ t.bit (Fld.CBU_B_CTRL_LOM n) = s.bit (Fld.CBU_B_CTRL_LOM n) ∧
      t.bit (Fld.CBU_B_CTRL_LOOP n) = s.bit (Fld.CBU_B_CTRL_LOOP n) ∧
      ((s.bus n).cur = none → t.bit (Fld.CBU_B_STAT_JOINED n) = false) ∧
      ((s.bus n).cur.isSome = true → (t.bus n).closing = true ∧ t.bit (Fld.CBU_B_STAT_JOINED n) = s.bit (Fld.CBU_B_STAT_JOINED n)) ∧
      SameRegs s t [Reg.CBU_B_CTRL n, Reg.CBU_B_TTSTAT n, Reg.CBU_B_STAT n] ∧ SameMem s t) := by
  have hi := exec_canEnable v ht
  obtain ⟨hregs, hcan, hen, hlom, hloop⟩ := canCtrlTaken_shows (s := s) (n := n) v.toNat
  rw [wrCanCtrl_eq, canRecovered_of_not _ h8] at hi
  generalize s.canCtrlTaken n v.toNat = u at *
  dsimp only at hi
  rw [if_neg (by simp [he]), if_pos (by simp [hen, h0, he]), bus_congr hcan] at hi
  rw [if_pos he] at hlom hloop
  obtain ⟨qr, qb, -, -⟩ := canQuiet_shows (n := n) u
  have hlen : n < (u.canQuiet n).can.length := by rw [show (u.canQuiet n).can = u.can from rfl, hcan, hs]; exact n.isLt
  have hjoin : (u.canQuiet n).bit (Fld.CBU_B_STAT_JOINED n) = s.bit (Fld.CBU_B_STAT_JOINED n) :=
    bit_of_reg ((qr _ (by simp [Reg.CBU_B_TTSTAT, Fld.CBU_B_STAT_JOINED, Reg.CBU_B_STAT])).trans (hregs _ (by simp [Reg.CBU_B_CTRL, Fld.CBU_B_STAT_JOINED, Reg.CBU_B_STAT])))
  have hctrl (f : FieldRef) (hf : f.addr = Reg.CBU_B_CTRL n) : (u.canQuiet n).bit f = u.bit f :=
    bit_of_reg (qr _ (by rw [hf]; simp [Reg.CBU_B_CTRL, Reg.CBU_B_TTSTAT]))
  have hall : SameRegs s (u.canQuiet n) [Reg.CBU_B_CTRL n, Reg.CBU_B_TTSTAT n, Reg.CBU_B_STAT n] := fun a ha => by
    simp only [List.mem_cons, List.not_mem_nil, or_false, not_or] at ha
    exact (qr a (by simp [ha.2.1])).trans (hregs a (by simp [ha.1]))
  have h1 := (hctrl (Fld.CBU_B_CTRL_EN n) rfl).trans (hen.trans h0)
  have h2 := (hctrl (Fld.CBU_B_CTRL_LOM n) rfl).trans hlom
  have h3 := (hctrl (Fld.CBU_B_CTRL_LOOP n) rfl).trans hloop
  generalize u.canQuiet n = q at *
  have hmem := memoryChangesOnlyByItsWriters _ _ _ hi
  refine ⟨_, hi, ?_⟩
  by_cases hc : (s.bus n).cur.isSome = true
  · rw [if_pos hc] at hmem ⊢
    refine ⟨h1, h2, h3, fun hn => by simp [hn] at hc, fun _ => ⟨?_, hjoin⟩, hall, hmem⟩
    rw [bus_modCan hlen]
  · rw [if_neg hc] at hmem ⊢
    have keep (f : FieldRef) (hf : f.addr = Reg.CBU_B_CTRL n) (x : State) : (x.putB (Fld.CBU_B_STAT_JOINED n) false).bit f = x.bit f :=
      bit_of_reg (reg_put_ne x _ (by rw [hf]; simp [Reg.CBU_B_CTRL, Fld.CBU_B_STAT_JOINED, Reg.CBU_B_STAT]))
    refine ⟨(keep (Fld.CBU_B_CTRL_EN n) rfl _).trans h1, (keep _ rfl _).trans h2, (keep _ rfl _).trans h3, fun _ => ?_, fun h => absurd h hc, ?_, hmem⟩
    · exact bit_putB_self (F := Fld.CBU_B_STAT_JOINED) (by decide) n false
    · exact (sameRegs_modCan hall n _).andPut (f := Fld.CBU_B_STAT_JOINED n) (by simp [Fld.CBU_B_STAT_JOINED]) _

theorem canRecover_shows {m : Master} {v : Word} (ht : s.takes m (Reg.CBU_B_CTRL n) = true) (h8 : v.toNat.testBit 8 = true) (h0 : v.toNat.testBit 0 = s.canEn n) :
    Completes (.canRecover m n v) s (fun t =>
      (t.bus n).recovering = ((s.bus n).recovering || s.bit (Fld.CBU_B_STAT_BUS_OFF n)) ∧ t.canEn n = s.canEn n ∧
      SameRegs s t [Reg.CBU_B_CTRL n] ∧ SameMem s t) := by
  obtain ⟨hregs, hcan, hen, -, -⟩ := canCtrlTaken_shows (s := s) (n := n) v.toNat
  have hi := exec_canRecover v ht
  rw [wrCanCtrl_eq] at hi
  have hoff : (s.canCtrlTaken n v.toNat).bit (Fld.CBU_B_STAT_BUS_OFF n) = s.bit (Fld.CBU_B_STAT_BUS_OFF n) :=
    bit_of_reg (hregs _ (by simp [Reg.CBU_B_CTRL, Fld.CBU_B_STAT_BUS_OFF, Reg.CBU_B_STAT]))
  generalize s.canCtrlTaken n v.toNat = u at *
  have hur := canRecovered_regs (n := n) u v.toNat
  have hreg (a : Nat) : (u.canRecovered n v.toNat).reg a = u.reg a := congrArg (fun r => State.reg { u with regs := r } a) hur
  have hen' : (u.canRecovered n v.toNat).canEn n = s.canEn n := (bit_of_reg (hreg _)).trans (hen.trans h0)
  dsimp only at hi
  rw [hen', if_neg (by simp), if_neg (by simp)] at hi
  refine ⟨_, hi, ?_, hen', fun a ha => (hreg a).trans (hregs a ha), memoryChangesOnlyByItsWriters _ _ _ hi⟩
  unfold State.canRecovered
  rw [hoff, h8, Bool.true_and]
  by_cases hb : s.bit (Fld.CBU_B_STAT_BUS_OFF n) = true
  · rw [if_pos hb, bus_modCan (by rw [hcan, hs]; exact n.isLt), hb, Bool.or_true]
  · rw [if_neg hb, bus_congr hcan]
    simp [hb]

end

section
variable {s : State} {n : Fin 4}

/-! ### Recovery (R597, R598) -/

/-- Counters of zero: nothing is reached. -/
theorem setErr_zero (hs : s.can.length = 4) : (s.setErr n 0 0).get (Fld.CBU_B_STAT_TEC n) = 0 ∧ (s.setErr n 0 0).get (Fld.CBU_B_STAT_REC n) = 0 ∧
    (s.setErr n 0 0).bit (Fld.CBU_B_STAT_BUS_OFF n) = s.bit (Fld.CBU_B_STAT_BUS_OFF n) ∧ ((s.setErr n 0 0).bus n).txErr = 0 ∧
    SameRegs s (s.setErr n 0 0) [Reg.CBU_B_STAT n] ∧ (s.setErr n 0 0).can.length = s.can.length := by
  have heq : s.setErr n 0 0 = ((((((s.modCan n (fun c => { c with txErr := 0, rxErr := 0 })).put (Fld.CBU_B_STAT_TEC n) 0).put (Fld.CBU_B_STAT_REC n) 0).putB
      (Fld.CBU_B_STAT_RP n) false).putB (Fld.CBU_B_STAT_WARN n) false).putB (Fld.CBU_B_STAT_PASSIVE n) false) := (rfl)
  rw [heq]
  refine ⟨?_, ?_, ?_, ?_, ?_, length_modCan ..⟩
  · simp (disch := (clear * -; revert n; decide)) only [get_putB_apart, get_put_apart, get_put_same, Nat.zero_mod]
  · simp (disch := (clear * -; revert n; decide)) only [get_putB_apart, get_put_same, Nat.zero_mod]
  · simp (disch := (clear * -; revert n; decide)) only [bit_putB_apart, bit_put_apart, bit_modCan]
  · simp only [bus_putB, bus_put]
    rw [bus_modCan (by rw [hs]; exact n.isLt)]
  · refine (((((sameRegs_modCan (SameRegs.refl s _) n _).andPut (f := Fld.CBU_B_STAT_TEC n) ?_ _).andPut (f := Fld.CBU_B_STAT_REC n) ?_ _).andPut
      (f := Fld.CBU_B_STAT_RP n) ?_ _).andPut (f := Fld.CBU_B_STAT_WARN n) ?_ _).andPut (f := Fld.CBU_B_STAT_PASSIVE n) ?_ _
    all_goals exact List.mem_cons_self ..

theorem canSelect_txErr (s : State) (n : Nat) : ((s.canSelect n).bus n).txErr = (s.bus n).txErr := by
  unfold State.canSelect
  split
  · rfl
  · split
    · exact nth_updAt_keeps _ _ _ _ _ Can.txErr fun _ => rfl
    · exact nth_updAt_keeps _ _ _ _ _ Can.txErr fun _ => rfl

theorem canBusOffRecovered_shows (hs : s.can.length = 4) (hb : s.bit (Fld.CBU_B_STAT_BUS_OFF n) = true) (hr : (s.bus n).recovering = true) :
    Completes (.canBusOffRecovered n) s (fun t =>
    t.bit (Fld.CBU_B_STAT_BUS_OFF n) = false ∧ t.bit (Fld.CBU_B_EVT_BOFF_END n) = true ∧ t.get (Fld.CBU_B_STAT_TEC n) = 0 ∧
    t.get (Fld.CBU_B_STAT_REC n) = 0 ∧ (t.bus n).txErr = 0 ∧ SameRegs s t [Reg.CBU_B_STAT n, Reg.CBU_B_EVT n] ∧ SameMem s t) := by
  let u := ((s.putB (Fld.CBU_B_STAT_BUS_OFF n) false).putB (Fld.CBU_B_EVT_BOFF_END n) true).modCan n (fun c => { c with recovering := false, resume := true })
  have hi : exec (.canBusOffRecovered n) s = .next ((u.setErr n 0 0).canSelect n) := congrArg Host.Outcome.next (if_pos (by simp [hb, hr]))
  have hu1 : u.bit (Fld.CBU_B_STAT_BUS_OFF n) = false := by
    simp (disch := (clear * -; revert n; decide)) only [u, bit_modCan, bit_putB_apart, bit_putB_same]
  have hu2 : u.bit (Fld.CBU_B_EVT_BOFF_END n) = true := bit_putB_self (F := Fld.CBU_B_EVT_BOFF_END) (by decide) n true
  have hur : SameRegs s u [Reg.CBU_B_STAT n, Reg.CBU_B_EVT n] :=
    sameRegs_modCan (((SameRegs.refl s _).andPut (f := Fld.CBU_B_STAT_BUS_OFF n) (by simp [Fld.CBU_B_STAT_BUS_OFF]) _).andPut
      (f := Fld.CBU_B_EVT_BOFF_END n) (by simp [Fld.CBU_B_EVT_BOFF_END]) _) n _
  obtain ⟨h1, h2, h3, h4, h5, -⟩ := setErr_zero (s := u) (n := n) ((length_modCan ..).trans hs)
  have hsel := reg_of_regs (canSelect_regs (u.setErr n 0 0) n)
  have hne : Reg.CBU_B_EVT n ∉ [Reg.CBU_B_STAT n] := by simp [Reg.CBU_B_EVT, Reg.CBU_B_STAT]
  refine ⟨_, hi, (bit_of_reg (hsel _)).trans (h3.trans hu1), (bit_of_reg (hsel _)).trans ((bit_of_reg (f := Fld.CBU_B_EVT_BOFF_END n) (h5 _ hne)).trans hu2),
    (get_of_reg (hsel _)).trans h1, (get_of_reg (hsel _)).trans h2, (canSelect_txErr ..).trans h4, fun a ha => ?_, memoryChangesOnlyByItsWriters _ _ _ hi⟩
  have hst : a ∉ [Reg.CBU_B_STAT n] := fun h => ha (List.mem_cons.2 (.inl (List.mem_singleton.1 h)))
  exact (hsel a).trans ((h5 a hst).trans (hur a ha))

/-! ### Basic cycles (R588, R589) -/

theorem canNothing (h : s.canEn n = false ∨ s.ttSrc n = 0) : exec (.canCycleStart n) s = .next s ∧
    ∀ (c : Fin 64) (f : Bool), exec (.canColumnStart n c f) s = .next s :=
  ⟨congrArg Host.Outcome.next (if_pos (by rcases h with h | h <;> simp [h])), fun _ _ =>
    congrArg Host.Outcome.next (if_pos (by rcases h with h | h <;> simp [h]))⟩

/-- A basic cycle of count k is shown, in column 0. -/
theorem canCycle_shows (k : Nat) : SameRegs s (s.canCycle n k) [Reg.CBU_B_TTSTAT n] ∧ (s.canCycle n k).get (Fld.CBU_B_TTSTAT_CYCLE n) = k % 16 ∧
    (s.canCycle n k).get (Fld.CBU_B_TTSTAT_COLUMN n) = 0 ∧
    (s.canCycle n k).bit (Fld.CBU_B_TTSTAT_SYNCED n) = s.bit (Fld.CBU_B_TTSTAT_SYNCED n) ∧
    (s.canCycle n k).bit (Fld.CBU_B_TTSTAT_MASTER n) = s.bit (Fld.CBU_B_TTSTAT_MASTER n) ∧
    ((s.canCycle n k).bus n).conf = (s.bus n).conf ∧ ((s.canCycle n k).bus n).cur = (s.bus n).cur ∧ ((s.canCycle n k).bus n).refs = (s.bus n).refs ∧
    (s.canCycle n k).can.length = s.can.length := by
  unfold State.canCycle
  refine ⟨?_, ?_, ?_, ?_, ?_, nth_updAt_keeps _ _ _ _ _ Can.conf fun _ => rfl, nth_updAt_keeps _ _ _ _ _ Can.cur fun _ => rfl,
    nth_updAt_keeps _ _ _ _ _ Can.refs fun _ => rfl, length_updAt ..⟩
  · exact sameRegs_modCan (((SameRegs.refl s _).andPut (f := Fld.CBU_B_TTSTAT_CYCLE n) (List.mem_cons_self ..) _).andPut (f := Fld.CBU_B_TTSTAT_COLUMN n)
      (List.mem_cons_self ..) _) n _
  · rw [get_modCan, get_put_other (F := Fld.CBU_B_TTSTAT_COLUMN) (G := Fld.CBU_B_TTSTAT_CYCLE) (by decide)]
    exact get_put_self_mod (F := Fld.CBU_B_TTSTAT_CYCLE) (by decide) n k
  · rw [get_modCan]
    exact get_put_self_mod (F := Fld.CBU_B_TTSTAT_COLUMN) (by decide) n 0
  · simp (disch := (clear * -; revert n; decide)) only [bit_modCan, bit_put_apart]
  · simp (disch := (clear * -; revert n; decide)) only [bit_modCan, bit_put_apart]

/-- What stays of the timing while only TTSTAT and EVT change. -/
theorem ttSrc_congr {u : State} (h : SameRegs s u [Reg.CBU_B_TTSTAT n, Reg.CBU_B_EVT n]) (hc : (u.bus n).conf = (s.bus n).conf) : u.ttSrc n = s.ttSrc n := by
  unfold State.ttSrc
  rw [get_of_reg (f := Fld.CBU_B_TTCFG_SRC n) (h _ (by simp [Fld.CBU_B_TTCFG_SRC, Reg.CBU_B_TTCFG, Reg.CBU_B_TTSTAT, Reg.CBU_B_EVT])), hc]

theorem canSends_congr {u : State} (h : SameRegs s u [Reg.CBU_B_TTSTAT n, Reg.CBU_B_EVT n]) : u.canSends n = s.canSends n := by
  have hctrl : u.reg (Reg.CBU_B_CTRL n) = s.reg (Reg.CBU_B_CTRL n) := h _ (by simp [Reg.CBU_B_CTRL, Reg.CBU_B_TTSTAT, Reg.CBU_B_EVT])
  have hstat : u.reg (Reg.CBU_B_STAT n) = s.reg (Reg.CBU_B_STAT n) := h _ (by simp [Reg.CBU_B_STAT, Reg.CBU_B_TTSTAT, Reg.CBU_B_EVT])
  unfold State.canSends State.canEn
  rw [bit_of_reg (f := Fld.CBU_B_CTRL_EN n) hctrl, bit_of_reg (f := Fld.CBU_B_STAT_JOINED n) hstat, bit_of_reg (f := Fld.CBU_B_CTRL_LOM n) hctrl,
    bit_of_reg (f := Fld.CBU_B_STAT_BUS_OFF n) hstat]

theorem setCanWs_keeps {β : Type} (p : State → β) (hp : ∀ (t : State) i v, p (t.setCanW n i v) = p t) (i : Nat) (l : List Nat) : p (s.setCanWs n i l) = p s := by
  induction l generalizing s i with
  | nil => rfl
  | cons v t ih => exact (ih (s := s.setCanW n i v) (i + 1)).trans (hp s i v)

theorem canCycleStart_shows (hs : s.can.length = 4) (he : s.canEn n = true) (ht : s.ttSrc n ≠ 0) :
    Completes (.canCycleStart n) s (fun t => t.get (Fld.CBU_B_TTSTAT_CYCLE n) = s.nextCycle n % 16 ∧ t.get (Fld.CBU_B_TTSTAT_COLUMN n) = 0 ∧
      (s.ttSrc n = 1 → t.bit (Fld.CBU_B_TTSTAT_MASTER n) = true ∧ (s.canSends n = true → (s.bus n).cur = none → (t.bus n).cur = some 31)) ∧
      SameRegs s t [Reg.CBU_B_TTSTAT n] ∧ SameMem s t) := by
  obtain ⟨cr, cc, ccol, -, -, cconf, ccur, -, clen⟩ := canCycle_shows (s := s) (n := n) (s.nextCycle n)
  have hi : exec (.canCycleStart n) s = .next (let u := s.canCycle n (s.nextCycle n)
      if u.ttSrc n = 1 then
        let u := u.putB (Fld.CBU_B_TTSTAT_MASTER n) true
        let u := u.setCanWs n (bufWord 31 0) ([u.get (Fld.CBU_B_TTCFG_REF_ID n) * 2 ^ 18, 2 ^ 16, 0, 0,
          u.get (Fld.CBU_B_TTSTAT_CYCLE n)] ++ List.replicate 15 0)
        if u.canSends n then (u.modCan n (fun c => { c with refDue := true })).canSelect n else u
      else u) := congrArg Host.Outcome.next (if_neg (by simp [he, ht]))
  have hmem := memoryChangesOnlyByItsWriters _ _ _ hi
  have hsub : ([Reg.CBU_B_TTSTAT n] : List Nat) ⊆ [Reg.CBU_B_TTSTAT n, Reg.CBU_B_EVT n] := by simp
  have hsrc : (s.canCycle n (s.nextCycle n)).ttSrc n = s.ttSrc n := ttSrc_congr ((cr).mono hsub) cconf
  generalize s.canCycle n (s.nextCycle n) = u at *
  refine ⟨_, hi, ?_⟩
  dsimp only at hmem ⊢
  by_cases h1 : s.ttSrc n = 1
  · rw [hsrc, if_pos h1] at hmem ⊢
    have mc : (u.putB (Fld.CBU_B_TTSTAT_MASTER n) true).get (Fld.CBU_B_TTSTAT_CYCLE n) = s.nextCycle n % 16 := by
      rw [get_putB_other (F := Fld.CBU_B_TTSTAT_MASTER) (G := Fld.CBU_B_TTSTAT_CYCLE) (by decide), cc]
    have mcol : (u.putB (Fld.CBU_B_TTSTAT_MASTER n) true).get (Fld.CBU_B_TTSTAT_COLUMN n) = 0 := by
      rw [get_putB_other (F := Fld.CBU_B_TTSTAT_MASTER) (G := Fld.CBU_B_TTSTAT_COLUMN) (by decide), ccol]
    have mm : (u.putB (Fld.CBU_B_TTSTAT_MASTER n) true).bit (Fld.CBU_B_TTSTAT_MASTER n) = true := bit_putB_self (F := Fld.CBU_B_TTSTAT_MASTER) (by decide) n true
    have mr : SameRegs s (u.putB (Fld.CBU_B_TTSTAT_MASTER n) true) [Reg.CBU_B_TTSTAT n] := cr.andPut (f := Fld.CBU_B_TTSTAT_MASTER n) (List.mem_cons_self ..) _
    have mcur : ((u.putB (Fld.CBU_B_TTSTAT_MASTER n) true).bus n).cur = (s.bus n).cur := ccur
    have mlen : (u.putB (Fld.CBU_B_TTSTAT_MASTER n) true).can.length = s.can.length := clen
    generalize u.putB (Fld.CBU_B_TTSTAT_MASTER n) true = v at *
    have wregs (l : List Nat) : (v.setCanWs n (bufWord 31 0) l).regs = v.regs := setCanWs_keeps State.regs (fun _ _ _ => rfl) _ l
    have wcur (l : List Nat) : ((v.setCanWs n (bufWord 31 0) l).bus n).cur = (v.bus n).cur :=
      setCanWs_keeps (fun t => (t.bus n).cur) (fun _ _ _ => nth_updAt_keeps _ _ _ _ _ Can.cur fun _ => rfl) _ l
    have wlen (l : List Nat) : (v.setCanWs n (bufWord 31 0) l).can.length = v.can.length :=
      setCanWs_keeps (fun t => t.can.length) (fun _ _ _ => length_updAt ..) _ l
    generalize ([v.get (Fld.CBU_B_TTCFG_REF_ID n) * 2 ^ 18, 2 ^ 16, 0, 0, v.get (Fld.CBU_B_TTSTAT_CYCLE n)] ++ List.replicate 15 0) = l at *
    have wr := reg_of_regs (wregs l)
    have wcur := (wcur l).trans mcur
    have wlen := (wlen l).trans mlen
    generalize v.setCanWs n (bufWord 31 0) l = w at *
    have hsends : w.canSends n = s.canSends n := canSends_congr (SameRegs.mono (fun a ha => (wr a).trans (mr a ha)) hsub)
    have hw (t : State) (htr : t.regs = w.regs) : t.get (Fld.CBU_B_TTSTAT_CYCLE n) = s.nextCycle n % 16 ∧ t.get (Fld.CBU_B_TTSTAT_COLUMN n) = 0 ∧
        t.bit (Fld.CBU_B_TTSTAT_MASTER n) = true ∧ SameRegs s t [Reg.CBU_B_TTSTAT n] := by
      have hreg (a : Nat) : t.reg a = v.reg a := (reg_of_regs htr a).trans (wr a)
      exact ⟨(get_of_reg (hreg _)).trans mc, (get_of_reg (hreg _)).trans mcol, (bit_of_reg (hreg _)).trans mm, fun a ha => (hreg a).trans (mr a ha)⟩
    rw [hsends] at hmem ⊢
    by_cases hsd : s.canSends n = true
    · rw [if_pos hsd] at hmem ⊢
      obtain ⟨g1, g2, g3, g4⟩ := hw _ (canSelect_regs (w.modCan n (fun c => { c with refDue := true })) n)
      refine ⟨g1, g2, fun _ => ⟨g3, fun _ hnone => ?_⟩, g4, hmem⟩
      have hlen : n < w.can.length := by rw [wlen, hs]; exact n.isLt
      have hbus := bus_modCan hlen (fun c => { c with refDue := true })
      have hsend2 : (w.modCan n (fun c => { c with refDue := true })).canSends n = true := hsends.trans hsd
      unfold State.canSelect
      rw [if_neg (by rw [hbus, wcur, hnone]; decide), if_pos (by rw [hbus, hsend2]; rfl), bus_modCan (by rw [length_modCan]; exact hlen)]
    · rw [if_neg hsd] at hmem ⊢
      obtain ⟨g1, g2, g3, g4⟩ := hw w rfl
      exact ⟨g1, g2, fun _ => ⟨g3, fun h => absurd h hsd⟩, g4, hmem⟩
  · rw [hsrc, if_neg h1] at hmem ⊢
    exact ⟨cc, ccol, fun h => absurd h h1, cr, hmem⟩

end

section
variable {s : State} {n : Fin 4}

/-! ### Columns (R590, R591) -/

/-- The cell of an exclusive or arbitrating column comes into force. -/
def Can.windowed (k : Can) (md x : Nat) : Can := { k with window := if md = 1 || md = 2 then md else 0, cellBuf := x % 32 }

theorem canColumnStart_shows (hs : s.can.length = 4) (he : s.canEn n = true) (ht : s.ttSrc n ≠ 0) (c : Fin 64) (free : Bool)
    (hcol : s.bit (Fld.CBU_B_COL_EN n c) = true) {x : Nat} (hx : s.canCell n (s.get (Fld.CBU_B_TTSTAT_CYCLE n)) c = x) :
    Completes (.canColumnStart n c free) s (fun t => t.get (Fld.CBU_B_TTSTAT_COLUMN n) = c ∧
      SameRegs s t [Reg.CBU_B_TTSTAT n, Reg.CBU_B_EVT n] ∧ SameMem s t ∧
      (x / 64 = 1 → s.bit (Fld.CBU_B_STAT_BUS_OFF n) = false → (s.bus n).resume = false → s.ttSrc n ≠ 3 →
        (s.get (Fld.CBU_B_TXREQ_BUF n)).testBit (x % 32) = true →
        (free = true → s.canSends n = true → (s.bus n).cur = none → (t.bus n).cur = some (x % 32)) ∧
        (free = false → t.bit (Fld.CBU_B_EVT_TT_MISS n) = true ∧ (t.bus n).cur = (s.bus n).cur))) := by
  have hi : exec (.canColumnStart n c free) s = .next (let u := s.put (Fld.CBU_B_TTSTAT_COLUMN n) c
      let x := u.canCell n (u.get (Fld.CBU_B_TTSTAT_CYCLE n)) c
      let served := !u.bit (Fld.CBU_B_STAT_BUS_OFF n) && !(u.bus n).resume && (u.ttSrc n != 3 || u.bit (Fld.CBU_B_TTSTAT_SYNCED n))
      let md := if served then x / 64 else 0
      let u := u.modCan n (fun k => k.windowed md x)
      if md = 1 then
        if !(u.get (Fld.CBU_B_TXREQ_BUF n)).testBit (x % 32) then u.modCan n (fun k => { k with window := 0 })
        else if free && u.canSends n && (u.bus n).cur.isNone then u.modCan n (fun k => { k with cur := some (x % 32) })
        else (u.putB (Fld.CBU_B_EVT_TT_MISS n) true).modCan n (fun k => { k with window := 0 })
      else u.canSelect n) := congrArg Host.Outcome.next (if_neg (by simp [he, ht, hcol]))
  dsimp only at hi
  have ur : SameRegs s (s.put (Fld.CBU_B_TTSTAT_COLUMN n) c) [Reg.CBU_B_TTSTAT n, Reg.CBU_B_EVT n] :=
    (SameRegs.refl s _).andPut (f := Fld.CBU_B_TTSTAT_COLUMN n) (by simp [Fld.CBU_B_TTSTAT_COLUMN]) _
  have ucol : (s.put (Fld.CBU_B_TTSTAT_COLUMN n) c).get (Fld.CBU_B_TTSTAT_COLUMN n) = c :=
    (get_put_self_mod (F := Fld.CBU_B_TTSTAT_COLUMN) (by decide) n c).trans (Nat.mod_eq_of_lt c.isLt)
  have ucyc : (s.put (Fld.CBU_B_TTSTAT_COLUMN n) c).get (Fld.CBU_B_TTSTAT_CYCLE n) = s.get (Fld.CBU_B_TTSTAT_CYCLE n) :=
    get_put_other (F := Fld.CBU_B_TTSTAT_COLUMN) (G := Fld.CBU_B_TTSTAT_CYCLE) (by decide) n c
  have ucan : (s.put (Fld.CBU_B_TTSTAT_COLUMN n) c).can = s.can := rfl
  have ucell (k : Nat) (hk : k < 16) : (s.put (Fld.CBU_B_TTSTAT_COLUMN n) c).canCell n k c = s.canCell n k c := by
    unfold State.canCell
    rw [get_put_ne s _ (by simp only [Fld.CBU_B_CELL_CELL, Reg.CBU_B_CELL, Fld.CBU_B_TTSTAT_COLUMN, Reg.CBU_B_TTSTAT]; omega)]
  have usrc : (s.put (Fld.CBU_B_TTSTAT_COLUMN n) c).ttSrc n = s.ttSrc n := ttSrc_congr ur rfl
  rw [ucyc, ucell _ (get_lt s (Fld.CBU_B_TTSTAT_CYCLE n)), hx, usrc] at hi
  have usend := canSends_congr ur
  generalize s.put (Fld.CBU_B_TTSTAT_COLUMN n) c = u at *
  have ubus := bus_congr ucan n
  have ulen : n < u.can.length := by rw [ucan, hs]; exact n.isLt
  have hreq : u.get (Fld.CBU_B_TXREQ_BUF n) = s.get (Fld.CBU_B_TXREQ_BUF n) :=
    get_of_reg (ur _ (by simp [Fld.CBU_B_TXREQ_BUF, Reg.CBU_B_TXREQ, Reg.CBU_B_TTSTAT, Reg.CBU_B_EVT]))
  have hoff : u.bit (Fld.CBU_B_STAT_BUS_OFF n) = s.bit (Fld.CBU_B_STAT_BUS_OFF n) :=
    bit_of_reg (ur _ (by simp [Fld.CBU_B_STAT_BUS_OFF, Reg.CBU_B_STAT, Reg.CBU_B_TTSTAT, Reg.CBU_B_EVT]))
  generalize hserved : (!u.bit (Fld.CBU_B_STAT_BUS_OFF n) && !(u.bus n).resume && (s.ttSrc n != 3 || u.bit (Fld.CBU_B_TTSTAT_SYNCED n))) = served at *
  generalize hmd : (if served = true then x / 64 else 0) = md at *
  have hall : x / 64 = 1 → s.bit (Fld.CBU_B_STAT_BUS_OFF n) = false → (s.bus n).resume = false → s.ttSrc n ≠ 3 → md = 1 := fun h1 h2 h3 h4 => by
    have hsv : served = true := by
      rw [← hserved, hoff, h2, ubus, h3]
      simp [h4]
    rw [← hmd, if_pos hsv, h1]
  have hwbus := bus_modCan ulen (fun k => k.windowed md x)
  have hwlen : n < (u.modCan n (fun k => k.windowed md x)).can.length := by rw [length_modCan]; exact ulen
  have hwsend : (u.modCan n (fun k => k.windowed md x)).canSends n = s.canSends n := usend
  have hwreg (a : Nat) : (u.modCan n (fun k => k.windowed md x)).reg a = u.reg a := rfl
  have hwcur : ((u.modCan n (fun k => k.windowed md x)).bus n).cur = (s.bus n).cur := by rw [hwbus, ubus]; rfl
  generalize u.modCan n (fun k => k.windowed md x) = w at *
  have hwget : w.get (Fld.CBU_B_TTSTAT_COLUMN n) = c := (get_of_reg (hwreg _)).trans ucol
  have hwreq : w.get (Fld.CBU_B_TXREQ_BUF n) = s.get (Fld.CBU_B_TXREQ_BUF n) := (get_of_reg (hwreg _)).trans hreq
  have hwr : SameRegs s w [Reg.CBU_B_TTSTAT n, Reg.CBU_B_EVT n] := fun a ha => (hwreg a).trans (ur a ha)
  clear hwreg hwbus
  by_cases h1 : md = 1
  · rw [if_pos h1, hwreq, hwsend] at hi
    by_cases hb : (s.get (Fld.CBU_B_TXREQ_BUF n)).testBit (x % 32) = true
    · rw [if_neg (by simp [hb])] at hi
      by_cases hf : (free && s.canSends n && (w.bus n).cur.isNone) = true
      · rw [if_pos hf] at hi
        refine ⟨_, hi, hwget, sameRegs_modCan hwr n _, memoryChangesOnlyByItsWriters _ _ _ hi, fun _ _ _ _ _ => ⟨fun _ _ _ => ?_, fun h => by simp [h] at hf⟩⟩
        rw [bus_modCan hwlen]
      · rw [if_neg hf] at hi
        refine ⟨_, hi, ?_, sameRegs_modCan (hwr.andPut (f := Fld.CBU_B_EVT_TT_MISS n) (by simp [Fld.CBU_B_EVT_TT_MISS]) _) n _, memoryChangesOnlyByItsWriters _ _ _ hi,
          fun _ _ _ _ _ => ⟨fun h2 h3 h4 => absurd (by simp [h2, h3, hwcur, h4]) hf, fun _ => ⟨bit_putB_self (F := Fld.CBU_B_EVT_TT_MISS) (by decide) n true, ?_⟩⟩⟩
        · rw [get_modCan, get_putB_other (F := Fld.CBU_B_EVT_TT_MISS) (G := Fld.CBU_B_TTSTAT_COLUMN) (by decide), hwget]
        · rw [bus_modCan (s := w.putB (Fld.CBU_B_EVT_TT_MISS n) true) hwlen]
          exact hwcur
    · rw [if_pos (by simp [hb])] at hi
      exact ⟨_, hi, hwget, sameRegs_modCan hwr n _, memoryChangesOnlyByItsWriters _ _ _ hi, fun _ _ _ _ h => absurd h hb⟩
  · rw [if_neg h1] at hi
    have hsel := reg_of_regs (canSelect_regs w n)
    exact ⟨_, hi, (get_of_reg (hsel _)).trans hwget, fun a ha => (hsel a).trans (hwr a ha), memoryChangesOnlyByItsWriters _ _ _ hi,
      fun h2 h3 h4 h5 => absurd (hall h2 h3 h4 h5) h1⟩

/-! ### References (R592, R593) -/

theorem canReferenceRx_idle (k : Fin 16) (h : s.canEn n = false ∨ s.ttSrc n = 0 ∨ s.ttSrc n = 2) : exec (.canReferenceRx n k) s = .next s := by
  refine congrArg Host.Outcome.next ?_
  by_cases he : s.canEn n = false
  · exact if_pos (by simp [he])
  · have hne : s.ttSrc n ≠ 1 ∧ s.ttSrc n ≠ 3 := by
      rcases h with h | h | h
      · exact absurd h he
      · omega
      · omega
    refine (if_neg (by simpa using he)).trans ?_
    dsimp only
    rw [if_neg hne.1, if_pos hne.2]

/-- A slave takes a reference: two in a row synchronise it, and its basic cycle starts. -/
def State.canReferred (s : State) (n k : Nat) : State :=
  let s := s.modCan n (fun c => { c with refs := c.refs + 1 })
  let s := if 2 ≤ (s.bus n).refs then s.putB (Fld.CBU_B_TTSTAT_SYNCED n) true else s
  s.canCycle n k

theorem canReferred_shows (hlen : n < s.can.length) (k : Fin 16) : (s.canReferred n k).get (Fld.CBU_B_TTSTAT_CYCLE n) = k ∧
    (s.canReferred n k).get (Fld.CBU_B_TTSTAT_COLUMN n) = 0 ∧ ((s.canReferred n k).bus n).refs = (s.bus n).refs + 1 ∧
    ((s.canReferred n k).bus n).conf = (s.bus n).conf ∧ (1 ≤ (s.bus n).refs → (s.canReferred n k).bit (Fld.CBU_B_TTSTAT_SYNCED n) = true) ∧
    (s.canReferred n k).bit (Fld.CBU_B_TTSTAT_MASTER n) = s.bit (Fld.CBU_B_TTSTAT_MASTER n) ∧
    SameRegs s (s.canReferred n k) [Reg.CBU_B_TTSTAT n] := by
  unfold State.canReferred
  extract_lets u v
  have hbus : u.bus n = { s.bus n with refs := (s.bus n).refs + 1 } := bus_modCan hlen _
  have hv : v.bus n = u.bus n ∧ SameRegs s v [Reg.CBU_B_TTSTAT n] ∧ (2 ≤ (u.bus n).refs → v.bit (Fld.CBU_B_TTSTAT_SYNCED n) = true) ∧
      v.bit (Fld.CBU_B_TTSTAT_MASTER n) = s.bit (Fld.CBU_B_TTSTAT_MASTER n) := by
    unfold v
    split
    next h =>
      exact ⟨rfl, (sameRegs_modCan (SameRegs.refl s _) n _).andPut (f := Fld.CBU_B_TTSTAT_SYNCED n) (List.mem_cons_self ..) _,
        fun _ => bit_putB_self (F := Fld.CBU_B_TTSTAT_SYNCED) (by decide) n true,
        bit_putB_other (s := u) (F := Fld.CBU_B_TTSTAT_SYNCED) (G := Fld.CBU_B_TTSTAT_MASTER) (by decide) n true⟩
    next h => exact ⟨rfl, sameRegs_modCan (SameRegs.refl s _) n _, fun h2 => absurd h2 h, rfl⟩
  obtain ⟨vb, vr, vs, vm⟩ := hv
  clear_value v
  obtain ⟨cr, cc, ccol, csync, cmas, cconf, -, crefs, -⟩ := canCycle_shows (s := v) (n := n) k
  refine ⟨cc.trans (Nat.mod_eq_of_lt k.isLt), ccol, by rw [crefs, vb, hbus], by rw [cconf, vb, hbus], fun h => csync.trans (vs (by rw [hbus]; exact Nat.succ_le_succ h)),
    cmas.trans vm, fun a ha => (cr a ha).trans (vr a ha)⟩

/-- A time master that meets a foreign reference becomes a slave. -/
def State.canConflict (s : State) (n : Nat) : State :=
  ((s.modCan n (fun c => { c with conf := true, refs := 0 })).putB (Fld.CBU_B_EVT_MASTER_CONF n) true).putB (Fld.CBU_B_TTSTAT_MASTER n) false

theorem ttSrc_eq_three {u : State} : u.ttSrc n = 3 ↔ u.get (Fld.CBU_B_TTCFG_SRC n) = 3 ∨ u.get (Fld.CBU_B_TTCFG_SRC n) = 1 ∧ (u.bus n).conf = true := by
  unfold State.ttSrc
  dsimp only
  split
  next h => simp [h]
  next h => exact ⟨.inl, fun h' => h'.resolve_right h⟩

theorem ttSrc_eq_one {u : State} : u.ttSrc n = 1 ↔ u.get (Fld.CBU_B_TTCFG_SRC n) = 1 ∧ (u.bus n).conf = false := by
  unfold State.ttSrc
  dsimp only
  split
  next h => simp [h]
  next h =>
    refine ⟨fun h1 => ⟨h1, ?_⟩, fun h1 => h1.1⟩
    simpa [h1] using h

theorem canReferenceRx_shows (hs : s.can.length = 4) (k : Fin 16) (he : s.canEn n = true) (ht : s.ttSrc n = 1 ∨ s.ttSrc n = 3) :
    Completes (.canReferenceRx n k) s (fun t =>
      t.get (Fld.CBU_B_TTSTAT_CYCLE n) = k ∧ t.get (Fld.CBU_B_TTSTAT_COLUMN n) = 0 ∧ t.ttSrc n = 3 ∧
      (s.ttSrc n = 1 → t.bit (Fld.CBU_B_EVT_MASTER_CONF n) = true ∧ t.bit (Fld.CBU_B_TTSTAT_MASTER n) = false ∧ (t.bus n).refs = 1) ∧
      (s.ttSrc n = 3 → (t.bus n).refs = (s.bus n).refs + 1 ∧ (1 ≤ (s.bus n).refs → t.bit (Fld.CBU_B_TTSTAT_SYNCED n) = true)) ∧
      SameRegs s t [Reg.CBU_B_TTSTAT n, Reg.CBU_B_EVT n] ∧ SameMem s t) := by
  have hlen : n < s.can.length := by rw [hs]; exact n.isLt
  let u := if s.ttSrc n = 1 then s.canConflict n else s
  have hi0 : exec (.canReferenceRx n k) s = .next (if u.ttSrc n ≠ 3 then u else u.canReferred n k) :=
    congrArg Host.Outcome.next (if_neg (by simp [he]))
  have hur : SameRegs s u [Reg.CBU_B_TTSTAT n, Reg.CBU_B_EVT n] := by
    unfold u
    split
    · exact ((sameRegs_modCan (SameRegs.refl s _) n _).andPut (f := Fld.CBU_B_EVT_MASTER_CONF n) (by simp [Fld.CBU_B_EVT_MASTER_CONF]) _).andPut
        (f := Fld.CBU_B_TTSTAT_MASTER n) (by simp [Fld.CBU_B_TTSTAT_MASTER]) _
    · exact SameRegs.refl s _
  have hsrc : u.get (Fld.CBU_B_TTCFG_SRC n) = s.get (Fld.CBU_B_TTCFG_SRC n) :=
    get_of_reg (hur _ (by simp [Fld.CBU_B_TTCFG_SRC, Reg.CBU_B_TTCFG, Reg.CBU_B_TTSTAT, Reg.CBU_B_EVT]))
  have hone : s.ttSrc n = 1 → u.bus n = { s.bus n with conf := true, refs := 0 } ∧ u.bit (Fld.CBU_B_EVT_MASTER_CONF n) = true ∧
      u.bit (Fld.CBU_B_TTSTAT_MASTER n) = false := fun h => by
    unfold u
    rw [if_pos h]
    unfold State.canConflict
    refine ⟨?_, ?_, bit_putB_self (F := Fld.CBU_B_TTSTAT_MASTER) (by decide) n false⟩
    · rw [bus_putB, bus_putB, bus_modCan hlen]
    · simp (disch := (clear * -; revert n; decide)) only [bit_putB_apart, bit_putB_same]
  have hthree : s.ttSrc n = 3 → u = s := fun h => if_neg (by rw [h]; decide)
  have hu3 : u.ttSrc n = 3 := by
    rcases ht with h | h
    · refine ttSrc_eq_three.2 (.inr ⟨hsrc.trans (ttSrc_eq_one.1 h).1, by rw [(hone h).1]⟩)
    · rw [hthree h, h]
  have hulen : n < u.can.length := by
    have h : u.can.length = s.can.length := by
      unfold u
      split
      · exact length_updAt ..
      · rfl
    rw [h]
    exact hlen
  rw [if_neg (by simp [hu3])] at hi0
  clear_value u
  obtain ⟨r1, r2, r3, r4, r5, r6, r7⟩ := canReferred_shows hulen k
  have hsub : ([Reg.CBU_B_TTSTAT n] : List Nat) ⊆ [Reg.CBU_B_TTSTAT n, Reg.CBU_B_EVT n] := by simp
  have r7' := r7.mono hsub
  refine ⟨_, hi0, r1, r2, (ttSrc_congr r7' r4).trans hu3, fun h => ?_, fun h => ?_, fun a ha => (r7' a ha).trans (hur a ha), memoryChangesOnlyByItsWriters _ _ _ hi0⟩
  · obtain ⟨hb, hc, hm⟩ := hone h
    refine ⟨(bit_of_reg (f := Fld.CBU_B_EVT_MASTER_CONF n) (r7 _ ?_)).trans hc, r6.trans hm, by rw [r3, hb]⟩
    simp [Fld.CBU_B_EVT_MASTER_CONF, Reg.CBU_B_EVT, Reg.CBU_B_TTSTAT]
  · obtain rfl := hthree h
    exact ⟨r3, r5⟩

theorem canReferenceMissed_shows (hs : s.can.length = 4) (he : s.canEn n = true) (ht : s.ttSrc n = 3) :
    Completes (.canReferenceMissed n) s (fun t => t.bit (Fld.CBU_B_EVT_SYNC_LOST n) = true ∧
    t.bit (Fld.CBU_B_TTSTAT_SYNCED n) = false ∧ (t.bus n).refs = 0 ∧ SameRegs s t [Reg.CBU_B_TTSTAT n, Reg.CBU_B_EVT n] ∧ SameMem s t) := by
  have hi : exec (.canReferenceMissed n) s = .next (((s.putB (Fld.CBU_B_EVT_SYNC_LOST n) true).putB (Fld.CBU_B_TTSTAT_SYNCED n) false).modCan n (fun c =>
      { c with refs := 0, window := 0 })) := congrArg Host.Outcome.next (if_pos (by simp [he, ht]))
  refine ⟨_, hi, ?_, bit_putB_self (F := Fld.CBU_B_TTSTAT_SYNCED) (by decide) n false, ?_, ?_, memoryChangesOnlyByItsWriters _ _ _ hi⟩
  · simp (disch := (clear * -; revert n; decide)) only [bit_modCan, bit_putB_apart, bit_putB_same]
  · rw [bus_modCan (by rw [putB_can, putB_can, hs]; exact n.isLt)]
  · exact sameRegs_modCan (((SameRegs.refl s _).andPut (f := Fld.CBU_B_EVT_SYNC_LOST n) (by simp [Fld.CBU_B_EVT_SYNC_LOST]) _).andPut
      (f := Fld.CBU_B_TTSTAT_SYNCED n) (by simp [Fld.CBU_B_TTSTAT_SYNCED]) _) n _

end

/-! ### Wake-up (R599) -/

/-- The wake registers of a bus have seen the sign. -/
def State.canWoken (s : State) (n : Nat) (sign : CanWakeSign) : State :=
  let s := if n = 0 then s.putB Fld.ABT_WAKEEVT_CB0 true else s.putB Fld.ABT_WAKEEVT_CB1 true
  { s with can := updAt s.can n (fun c => { c with woke := match sign with | .frame f _ => some (f.xtd, wakeIdOf f) | _ => some (false, 0) }) }

theorem canWakes_congr {s u : State} (h : u.regs = s.regs) (n : Nat) (sign : CanWakeSign) : u.canWakes n sign = s.canWakes n sign := by
  cases sign <;> simp only [State.canWakes, State.bit, get_of_regs h]

theorem canWake_shows {s : State} (b : Fin 2) (sign : CanWakeSign) (us : Nat) (hen : s.bit (Fld.CBU_B_WAKE_EN b) = true) (hw : s.canWakes b sign = true)
    (ha : s.asleep = true) (hl : s.load.wake = false) (hb : s.bit Fld.ABT_PSSTAT_BUSY = false) :
    Completes (.canWake b sign us) s (fun t =>
      t.load.wake = true ∧ t.pwr.domains = 0x3FF ∧ SameMem s t ∧
      (if b = 0 then t.bit Fld.ABT_WAKEEVT_CB0 else t.bit Fld.ABT_WAKEEVT_CB1) = true) := by
  obtain ⟨hr, hload, hst⟩ := rtcOff_shows s us
  have hi : exec (.canWake b sign us) s = .next (let u := s.rtcOff us
      if (!u.bit (Fld.CBU_B_WAKE_EN b) || !u.canWakes b sign) = true then u else u.wakeSource (fun u => u.canWoken b sign)) := (rfl)
  generalize s.rtcOff us = u at *
  dsimp only at hi
  have hbit (f : FieldRef) : u.bit f = s.bit f := congrArg (· != 0) (get_of_regs hr f)
  have hua : u.asleep = true := by
    unfold State.asleep at ha ⊢
    rw [hst]
    exact ha
  rw [if_neg (by rw [hbit, canWakes_congr hr, hen, hw]; decide), wakeSource_eq hua ((hbit _).trans hb)] at hi
  have hva : (u.canWoken b sign).asleep = true := by
    unfold State.canWoken
    split <;> exact hua
  have hvl : (u.canWoken b sign).load.wake = false := by
    have h : (u.canWoken b sign).load = u.load := by
      unfold State.canWoken
      split <;> rfl
    rw [h, hload, hl]
  have hmark : (if b = 0 then (u.canWoken b sign).bit Fld.ABT_WAKEEVT_CB0 else (u.canWoken b sign).bit Fld.ABT_WAKEEVT_CB1) = true := by
    unfold State.canWoken
    fin_cases b
    · exact bit_putB_same u Fld.ABT_WAKEEVT_CB0 true (by decide) (by decide)
    · exact bit_putB_same u Fld.ABT_WAKEEVT_CB1 true (by decide) (by decide)
  generalize u.canWoken b sign = v at *
  obtain ⟨w1, w2, -, -, w5⟩ := wake_shows hva hvl
  refine ⟨_, hi, w1, w2, memoryChangesOnlyByItsWriters _ _ _ hi, ?_⟩
  rw [bit_of_reg (f := Fld.ABT_WAKEEVT_CB0) w5, bit_of_reg (f := Fld.ABT_WAKEEVT_CB1) w5]
  exact hmark

/-- Settles O42: CTRL's write, recovery, basic cycles, columns, references, and the wake-up signs. -/
theorem canSchedulesRecoversAndWakes : Obligations.CanSchedulesRecoversAndWakes := by
  unfold Obligations.CanSchedulesRecoversAndWakes
  intro s n hsh
  have hs := can_of_shaped hsh
  refine ⟨fun m v ht => ⟨fun he h0 h8 => canEnable_on hs ht he h0 h8, fun he h0 h8 => canEnable_off hs ht he h0 h8, fun h8 h0 => canRecover_shows hs ht h8 h0⟩,
    fun h => congrArg Host.Outcome.next (if_neg ?_), fun hb hr => canBusOffRecovered_shows hs hb hr, canNothing,
    fun he ht => ⟨canCycleStart_shows hs he ht, fun c free hcol x hx => canColumnStart_shows hs he ht c free hcol hx⟩,
    fun k => ⟨canReferenceRx_idle k, fun he ht => canReferenceRx_shows hs k he ht⟩, fun h => congrArg Host.Outcome.next (if_neg ?_),
    fun he ht => canReferenceMissed_shows hs he ht, fun b sign us hen hw ha hl hb => canWake_shows b sign us hen hw ha hl hb⟩
  · rcases h with h | h <;> simp [h]
  · rcases h with h | h <;> simp [h]

end Sys2Proof.Machine

/-! PROOFS. Power states: requests, checkpoints, DOZE, pads and wakes (O52). -/

namespace Sys2Proof.Machine

section
variable {s : State}

/-! ### Requests (R711) -/

theorem stateRequest_shows {m : Master} {v : Word} (ht : s.takes m Reg.ABT_PSREQ = true) (hk : v.toNat / 65536 = 0x5B3E)
    (hv : v.toNat % 4 = 1 ∨ v.toNat % 4 = 2) (hr : s.refusal (v.toNat % 4) = 0) (hb : s.bit Fld.ABT_PSSTAT_BUSY = false) :
    Completes (.stateRequest m v) s (fun t => t.bit Fld.ABT_PSSTAT_BUSY = true ∧ t.get Fld.ABT_PSSTAT_STEP = 0 ∧
      t.get Fld.ABT_PSSTAT_RESULT = 0 ∧ t.pwr.target = v.toNat % 4 ∧ SameRegs s t [Reg.ABT_PSSTAT] ∧ SameMem s t) := by
  have hw : s.wr m Reg.ABT_PSREQ v = s.wrPsreq m v.toNat := wr_reg v ht (by decide)
  have hs : s.wrPsreq m v.toNat = s.startEntry (v.toNat % 4) := by
    unfold State.wrPsreq
    dsimp only
    rw [if_neg (by rw [hk]; decide), if_neg (by omega), if_neg (by simp [hr]), if_neg (by simp [hb]), if_neg (by omega)]
  have hi : exec (.stateRequest m v) s = .next (s.startEntry (v.toNat % 4)) := congrArg Host.Outcome.next (hw.trans hs)
  refine ⟨_, hi, ?_, ?_, ?_, rfl, ?_, memoryChangesOnlyByItsWriters _ _ _ hi⟩
  · refine (bit_put_apart _ (f := Fld.ABT_PSSTAT_RESULT) (g := Fld.ABT_PSSTAT_BUSY) 0 (by decide)).trans ?_
    rw [bit_put_apart _ _ (by decide)]
    exact bit_putB_same s _ true (by decide) (by decide)
  · refine (get_put_apart _ (f := Fld.ABT_PSSTAT_RESULT) (g := Fld.ABT_PSSTAT_STEP) 0 (by decide)).trans ?_
    exact get_put_same _ _ 0 (by decide)
  · exact get_put_same _ Fld.ABT_PSSTAT_RESULT 0 (by decide)
  · exact (((SameRegs.refl s _).andPut (f := Fld.ABT_PSSTAT_BUSY) (by decide) _).andPut (f := Fld.ABT_PSSTAT_STEP) (by decide) _).andPut
      (f := Fld.ABT_PSSTAT_RESULT) (by decide) _

/-! ### Checkpoints (R712, R715) -/

/-- The entry ends with RESULT 4. -/
def State.entryAborted (s : State) : State :=
  ((((s.putB Fld.ABT_PSSTAT_BUSY false).putB Fld.ABT_PSSTAT_PEND false).put Fld.ABT_PSSTAT_PENDING 0).put Fld.ABT_PSSTAT_RESULT 4).modPwr
    (fun p => { p with wakeSeen := false, target := 0 })

theorem checkpoint_aborts (hb : s.bit Fld.ABT_PSSTAT_BUSY = true) (pins : BitVec 8) (hw : s.pwr.wakeSeen = true) (hst : s.pwr.st = .run)
    (hh : s.pwr.heldTx = []) : Completes (.entryCheckpoint pins) s (fun t => t.bit Fld.ABT_PSSTAT_BUSY = false ∧ t.get Fld.ABT_PSSTAT_RESULT = 4 ∧
        t.bit Fld.ABT_PSSTAT_PEND = false ∧ SameRegs s t [Reg.ABT_PSSTAT] ∧ SameMem s t) := by
  have hi : exec (.entryCheckpoint pins) s = .next s.entryAborted.releaseTx := by
    refine congrArg Host.Outcome.next ((if_neg (by simp [hb])).trans ((if_pos hw).trans (if_neg ?_)))
    simp [State.asleep, State.modPwr, hst]
  have hrel : s.entryAborted.releaseTx = s.entryAborted.modPwr (fun p => { p with heldTx := [] }) := by
    have h : s.entryAborted.pwr.heldTx = [] := hh
    unfold State.releaseTx
    rw [h]
    rfl
  rw [hrel] at hi
  refine ⟨_, hi, ?_, ?_, ?_, ?_, fun _ => rfl⟩
  · refine (bit_put_apart _ (f := Fld.ABT_PSSTAT_RESULT) (g := Fld.ABT_PSSTAT_BUSY) 4 (by decide)).trans ?_
    rw [bit_put_apart _ _ (by decide), bit_putB_apart _ _ (by decide)]
    exact bit_putB_same s _ false (by decide) (by decide)
  · exact get_put_same _ Fld.ABT_PSSTAT_RESULT 4 (by decide)
  · refine (bit_put_apart _ (f := Fld.ABT_PSSTAT_RESULT) (g := Fld.ABT_PSSTAT_PEND) 4 (by decide)).trans ?_
    rw [bit_put_apart _ _ (by decide)]
    exact bit_putB_same _ _ false (by decide) (by decide)
  · exact (((((SameRegs.refl s _).andPut (f := Fld.ABT_PSSTAT_BUSY) (by decide) _).andPut (f := Fld.ABT_PSSTAT_PEND) (by decide) _).andPut
      (f := Fld.ABT_PSSTAT_PENDING) (by decide) _).andPut (f := Fld.ABT_PSSTAT_RESULT) (by decide) _)

theorem beginSave_shows (s : State) (kind btime : Nat) : (s.beginSave kind btime).get Fld.ABT_PSSTAT_STEP = s.get Fld.ABT_PSSTAT_STEP ∧
    (s.beginSave kind btime).pwr = s.pwr := by
  unfold State.beginSave
  split
  · exact ⟨rfl, rfl⟩
  split
  · exact ⟨get_put_apart s (f := Fld.TOL_SAVE_BUSY) _ (by decide), rfl⟩
  · exact ⟨rfl, rfl⟩

theorem checkpoint_first (hb : s.bit Fld.ABT_PSSTAT_BUSY = true) (pins : BitVec 8) (hw : s.pwr.wakeSeen = false) (hk : s.get Fld.ABT_PSSTAT_STEP = 0) :
    Completes (.entryCheckpoint pins) s (fun t => t.get Fld.ABT_PSSTAT_STEP = 1 ∧ t.pwr.wakeSeen = s.pinActive pins.toNat) := by
  let u := (s.put Fld.ABT_PSSTAT_STEP 1).modPwr (fun p => { p with wakeSeen := s.pinActive pins.toNat })
  have hi : exec (.entryCheckpoint pins) s = .next (if (s.pwr.target == 2) = true then u.beginSave 3 0 else u) :=
    congrArg Host.Outcome.next ((if_neg (by simp [hb])).trans ((if_neg (by simp [hw])).trans (if_pos hk)))
  have hstep : u.get Fld.ABT_PSSTAT_STEP = 1 := get_put_same s Fld.ABT_PSSTAT_STEP 1 (by decide)
  refine ⟨_, hi, ?_⟩
  obtain ⟨h1, h2⟩ := beginSave_shows u 3 0
  split
  · exact ⟨h1.trans hstep, by rw [h2]; rfl⟩
  · exact ⟨hstep, rfl⟩

theorem checkpoint_second (hb : s.bit Fld.ABT_PSSTAT_BUSY = true) (pins : BitVec 8) (hw : s.pwr.wakeSeen = false) (hk : s.get Fld.ABT_PSSTAT_STEP = 1)
    (hs : s.tol.saving = none) (hst : s.pwr.st = .run) :
    Completes (.entryCheckpoint pins) s (fun t => t.get Fld.ABT_PSSTAT_STEP = 2 ∧ t.pwr.saved = s.saveArea ∧ SameRegs s t [Reg.ABT_PSSTAT] ∧ SameMem s t) := by
  have hsleep : s.asleep = false := by simp [State.asleep, hst]
  have hi : exec (.entryCheckpoint pins) s = .next ((s.put Fld.ABT_PSSTAT_STEP 2).modPwr (fun p => { p with
            saved := if s.asleep then s.pwr.saved else s.saveArea
            resume := if s.asleep then p.resume else some (s.load.cur, s.load.digest, s.bit Fld.PYL_IMGSTAT_COMMITTED) })) :=
    congrArg Host.Outcome.next ((if_neg (by simp [hb])).trans ((if_neg (by simp [hw])).trans ((if_neg (by rw [hk]; decide)).trans ((if_pos hk).trans
      (if_neg (by simp [hs]))))))
  refine ⟨_, hi, get_put_same s Fld.ABT_PSSTAT_STEP 2 (by decide), if_neg (by simp [hsleep]), ?_, fun _ => rfl⟩
  exact (SameRegs.refl s _).andPut (f := Fld.ABT_PSSTAT_STEP) (by decide) _

theorem checkpoint_third (hb : s.bit Fld.ABT_PSSTAT_BUSY = true) (pins : BitVec 8) (hw : s.pwr.wakeSeen = false) (hk : s.get Fld.ABT_PSSTAT_STEP = 2) :
    exec (.entryCheckpoint pins) s = .next (s.put Fld.ABT_PSSTAT_STEP 3) :=
  congrArg Host.Outcome.next ((if_neg (by simp [hb])).trans ((if_neg (by simp [hw])).trans ((if_neg (by rw [hk]; decide)).trans
    ((if_neg (by rw [hk]; decide)).trans (if_pos hk)))))

theorem get_dropUnits (s : State) (park : Bool) (f : FieldRef) : (s.dropUnits park).get f = s.get f := rfl

theorem reg_dropUnits (s : State) (park : Bool) (a : Nat) : (s.dropUnits park).reg a = s.reg a := rfl

/-- The domains go off: the Abutment's registers stay, but for the pads' holds. -/
theorem fallAsleep_shows (s : State) (park : Bool) :
    (∀ a, a / 0x10000 = 0x4001 → a ≠ Reg.ABT_PADHOLD → (s.fallAsleep park).reg a = s.reg a) ∧ (s.fallAsleep park).get Fld.ABT_PADHOLD_HOLD = 0x7F ∧
    (s.fallAsleep park).pwr.st = (if park then .park else .standby) ∧ (s.fallAsleep park).pwr.domains = (if park then 1 else 7) := by
  unfold State.fallAsleep
  extract_lets ka chans held u v w x
  have hh : x.get Fld.ABT_PADHOLD_HOLD = 0x7F := by
    clear_value w
    exact (get_dropUnits _ park Fld.ABT_PADHOLD_HOLD).trans (get_put_same (w.keepRegs sleepKeeps).clearEngines Fld.ABT_PADHOLD_HOLD 0x7F (by decide))
  refine ⟨fun a ha hp => ?_, (by clear_value x; exact hh), (by clear_value x; rfl), (by clear_value x; rfl)⟩
  have hblk (n : Nat) (hn : n < 16) : ∀ b ∈ [Reg.TRS_CH_CTRL n, Reg.TRS_CH_STAT n, Reg.TRS_CH_CUR n], b / 0x10000 = 0x400F :=
    (by decide : ∀ n < 16, ∀ b ∈ [Reg.TRS_CH_CTRL n, Reg.TRS_CH_STAT n, Reg.TRS_CH_CUR n], b / 0x10000 = 0x400F) n hn
  have hne {n b : Nat} (hn : n < 16) (hb : b ∈ [Reg.TRS_CH_CTRL n, Reg.TRS_CH_STAT n, Reg.TRS_CH_CUR n]) : a ≠ b := fun e => by
    rw [e, hblk n hn b hb] at ha
    exact absurd ha (by decide)
  have hv : v.reg a = s.reg a := forEach_keeps (fun t => t.reg a) _ u _ fun t n hn => by
    have hn := List.mem_range.1 hn
    by_cases hk : ka n = true
    · simp only [if_pos hk]
    · simp only [if_neg hk]
      exact (reg_put_ne _ _ (hne hn (by simp [Fld.TRS_CH_STAT_HELD]))).trans (reg_put_ne t _ (hne hn (by simp [Fld.TRS_CH_CTRL_ON])))
  clear_value v
  have hw : w.reg a = v.reg a := forEach_keeps (fun t => t.reg a) _ v _ fun t n hn => by
    have hn := List.mem_range.1 hn
    exact trsSettle1_reg t (hne hn (by simp)) (hne hn (by simp))
  clear_value w
  have hx : x.reg a = w.reg a := by
    refine (reg_dropUnits _ park a).trans ((reg_put_ne (w.keepRegs sleepKeeps).clearEngines (f := Fld.ABT_PADHOLD_HOLD) 0x7F hp).trans ?_)
    refine (reg_keepRegs w sleepKeeps a).trans (if_pos ?_)
    simp [sleepKeeps, ha]
  clear_value x
  exact hx.trans (hw.trans hv)

theorem checkpoint_last (hb : s.bit Fld.ABT_PSSTAT_BUSY = true) (pins : BitVec 8) (hw : s.pwr.wakeSeen = false) (hk : s.get Fld.ABT_PSSTAT_STEP = 3)
    (hp : s.bit Fld.ABT_PSSTAT_PEND = false) :
    Completes (.entryCheckpoint pins) s (fun t => t.bit Fld.ABT_PSSTAT_BUSY = false ∧ t.get Fld.ABT_PSSTAT_RESULT = 1 ∧
        t.get Fld.ABT_PADHOLD_HOLD = 0x7F ∧
        (if s.pwr.target = 2 then t.pwr.st = .park ∧ t.pwr.domains = 1 else t.pwr.st = .standby ∧ t.pwr.domains = 7)) := by
  let u := ((s.put Fld.ABT_PSSTAT_STEP 4).putB Fld.ABT_PSSTAT_BUSY false).put Fld.ABT_PSSTAT_RESULT 1
  have hi : exec (.entryCheckpoint pins) s = .next (u.fallAsleep (s.pwr.target == 2)).takePending :=
    congrArg Host.Outcome.next ((if_neg (by simp [hb])).trans ((if_neg (by simp [hw])).trans ((if_neg (by rw [hk]; decide)).trans
      ((if_neg (by rw [hk]; decide)).trans (if_neg (by rw [hk]; decide))))))
  obtain ⟨hr, hhold, hst, hdom⟩ := fallAsleep_shows u (s.pwr.target == 2)
  have hreg := hr Reg.ABT_PSSTAT (by decide) (by decide)
  have hpend : (u.fallAsleep (s.pwr.target == 2)).bit Fld.ABT_PSSTAT_PEND = false := by
    rw [bit_of_reg (f := Fld.ABT_PSSTAT_PEND) hreg, bit_put_apart _ _ (by decide), bit_putB_apart _ _ (by decide), bit_put_apart _ _ (by decide), hp]
  have htake : (u.fallAsleep (s.pwr.target == 2)).takePending = u.fallAsleep (s.pwr.target == 2) := if_pos (by rw [hpend]; rfl)
  rw [htake] at hi
  refine ⟨_, hi, ?_, ?_, hhold, ?_⟩
  · rw [bit_of_reg (f := Fld.ABT_PSSTAT_BUSY) hreg, bit_put_apart _ _ (by decide)]
    exact bit_putB_same _ _ false (by decide) (by decide)
  · rw [get_of_reg (f := Fld.ABT_PSSTAT_RESULT) hreg]
    exact get_put_same _ _ 1 (by decide)
  · rw [hst, hdom]
    by_cases ht : s.pwr.target = 2 <;> simp [ht]

/-! ### Pads (R714) -/

theorem padRelease_shows {m : Master} {v : Word} (ht : s.takes m Reg.ABT_PADHOLD = true) (h3 : v.toNat.testBit 3 = false) :
    Completes (.padRelease m v) s (fun t =>
      t.get Fld.ABT_PADHOLD_HOLD = mclr (s.get Fld.ABT_PADHOLD_HOLD) (v.toNat / 8 % 128) ∧ SameRegs s t [Reg.ABT_PADHOLD] ∧ OnlyRegs s t) := by
  have hw : s.wr m Reg.ABT_PADHOLD v = s.wrPadhold v.toNat := wr_reg v ht (by decide)
  have hi : exec (.padRelease m v) s = .next (s.writeByCode Reg.ABT_PADHOLD v.toNat) :=
    congrArg Host.Outcome.next (hw.trans (if_neg (by simp [h3])))
  exact ⟨_, hi, get_writeByCode_row s v.toNat (f := ⟨3, 7, .w1c, 0, false⟩) (by decide +kernel),
    fun a ha => reg_writeByCode_ne s _ (by simpa using ha), onlyRegs_writeByCode s _ _⟩

/-! ### Wakes (R715, R716) -/

theorem wakeEvent_shows {src : BitVec 24} {elapsed : Nat} (hst : s.pwr.st = .standby ∨ s.pwr.st = .park) (hb : s.bit Fld.ABT_PSSTAT_BUSY = false)
    (hl : s.load.wake = false) (hm : src.toNat &&& s.wakeMask (s.pwr.st == .park) ≠ 0) :
    Completes (.wakeEvent src elapsed) s (fun t => t.load.wake = true ∧ t.pwr.domains = 0x3FF ∧ t.pyl.serving = some 0 ∧
      t.get Fld.ABT_PSSTAT_LAST = (if s.pwr.st = .park then 2 else 1) ∧ SameMem s t) := by
  obtain ⟨hr, hload, hstu⟩ := rtcOff_shows s elapsed
  let m := src.toNat &&& s.wakeMask (s.pwr.st == .park)
  have hpark : (s.pwr.st == .park || (s.pwr.st != .standby && s.pwr.target == 2)) = (s.pwr.st == .park) := by
    rcases hst with h | h <;> simp [h]
  have hi : exec (.wakeEvent src elapsed) s = .next (((s.rtcOff elapsed).setReg Reg.ABT_WAKEEVT ((s.rtcOff elapsed).reg Reg.ABT_WAKEEVT ||| m)).wake) := by
    have h0 : exec (.wakeEvent src elapsed) s = .next (
        let m := src.toNat &&& s.wakeMask (s.pwr.st == .park || (s.pwr.st != .standby && s.pwr.target == 2))
        let u := s.rtcOff elapsed
        if m = 0 then u else u.wakeSource (fun s => s.setReg Reg.ABT_WAKEEVT (s.reg Reg.ABT_WAKEEVT ||| m))) := (rfl)
    have ha : (s.rtcOff elapsed).asleep = true := by
      unfold State.asleep
      rw [hstu]
      rcases hst with h | h <;> simp [h]
    rw [h0, hpark]
    dsimp only
    rw [if_neg hm, wakeSource_eq ha ((congrArg (· != 0) (get_of_regs hr _)).trans hb)]
  have hmem := memoryChangesOnlyByItsWriters _ _ _ hi
  have hva : ((s.rtcOff elapsed).setReg Reg.ABT_WAKEEVT ((s.rtcOff elapsed).reg Reg.ABT_WAKEEVT ||| m)).asleep = true := by
    simp only [State.asleep, setReg_pwr, hstu]
    rcases hst with h | h <;> simp [h]
  obtain ⟨w1, w2, w3, w4, -⟩ := wake_shows hva (hload ▸ hl)
  refine ⟨_, hi, w1, w2, w3, ?_, hmem⟩
  rw [w4, setReg_pwr, hstu]

/-- The alarm is due. -/
def State.alarmDue (s : State) : Prop := s.get Fld.ABT_ALARMLO_SEC + 2 ^ 32 * s.get Fld.ABT_ALARMHI_SEC ≠ 0 ∧
  s.get Fld.ABT_ALARMLO_SEC + 2 ^ 32 * s.get Fld.ABT_ALARMHI_SEC ≤ s.tol.bill.floor.toNat

theorem exec_rtcAlarm {elapsed : Nat} (hoff : s.rtcOff elapsed = s) (hd : s.alarmDue) : exec (.rtcAlarm elapsed) s = .next (
    if (s.putB Fld.ABT_RTCSTAT_ALARM true).bit Fld.ABT_WAKECFG_RTC then
      (s.putB Fld.ABT_RTCSTAT_ALARM true).wakeSource (fun s => s.putB Fld.ABT_WAKEEVT_RTC true) else s.putB Fld.ABT_RTCSTAT_ALARM true) := by
  have h0 : exec (.rtcAlarm elapsed) s = .next (let s := s.rtcOff elapsed
    let at_ := s.get Fld.ABT_ALARMLO_SEC + 2 ^ 32 * s.get Fld.ABT_ALARMHI_SEC
    if at_ = 0 ∨ s.billSec < at_ then s
    else
      let s := s.putB Fld.ABT_RTCSTAT_ALARM true
      if s.bit Fld.ABT_WAKECFG_RTC then s.wakeSource (fun s => s.putB Fld.ABT_WAKEEVT_RTC true) else s) := (rfl)
  obtain ⟨hd0, hd1⟩ := hd
  rw [h0, hoff]
  dsimp only
  rw [if_neg]
  rintro (h | h)
  · exact hd0 h
  · exact absurd h (Nat.not_lt.2 hd1)

theorem rtcAlarm_alone {elapsed : Nat} (hst : s.pwr.st = .run) (hd : s.alarmDue) (hc : s.bit Fld.ABT_WAKECFG_RTC = false) :
    exec (.rtcAlarm elapsed) s = .next (s.putB Fld.ABT_RTCSTAT_ALARM true) := by
  rw [exec_rtcAlarm (rtcOff_of_run hst elapsed) hd, if_neg]
  rw [bit_putB_apart s (f := Fld.ABT_RTCSTAT_ALARM) (g := Fld.ABT_WAKECFG_RTC) true (by decide), hc]
  decide

theorem rtcAlarm_wakes {elapsed : Nat} (hst : s.pwr.st = .standby) (hd : s.alarmDue) (hc : s.bit Fld.ABT_WAKECFG_RTC = true)
    (hb : s.bit Fld.ABT_PSSTAT_BUSY = false) (hl : s.load.wake = false) :
    Completes (.rtcAlarm elapsed) s (fun t => t.load.wake = true ∧ t.get Fld.ABT_PSSTAT_LAST = 1 ∧ t.bit Fld.ABT_WAKEEVT_RTC = true) := by
  have ha : s.asleep = true := by simp [State.asleep, hst]
  have hi := exec_rtcAlarm (s := s) (elapsed := elapsed) (if_neg (by simp [hst])) hd
  rw [bit_putB_apart s (f := Fld.ABT_RTCSTAT_ALARM) (g := Fld.ABT_WAKECFG_RTC) true (by decide), if_pos hc,
    wakeSource_eq (s := s.putB Fld.ABT_RTCSTAT_ALARM true) ha ((bit_putB_apart s (f := Fld.ABT_RTCSTAT_ALARM) (g := Fld.ABT_PSSTAT_BUSY) true (by decide)).trans hb)] at hi
  obtain ⟨w1, -, -, w4, w5⟩ := wake_shows (s := (s.putB Fld.ABT_RTCSTAT_ALARM true).putB Fld.ABT_WAKEEVT_RTC true) ha hl
  refine ⟨_, hi, w1, w4.trans (if_neg (by simp [hst])), (bit_of_reg (f := Fld.ABT_WAKEEVT_RTC) w5).trans ?_⟩
  exact bit_putB_same _ _ true (by decide) (by decide)

end

/-- Settles O52: requests, the four checkpoints and an entry that is aborted, DOZE, the pads, wakes and the alarm. -/
theorem powerStatesFollowRequestsAndWakes : Obligations.PowerStatesFollowRequestsAndWakes := by
  unfold Obligations.PowerStatesFollowRequestsAndWakes
  refine fun s => ⟨fun m v ht hk hv hr hb => stateRequest_shows ht hk hv hr hb, fun hb pins => ⟨checkpoint_aborts hb pins, checkpoint_first hb pins,
    checkpoint_second hb pins, checkpoint_third hb pins, checkpoint_last hb pins⟩, fun hst hl hd => congrArg Host.Outcome.next (if_pos ⟨hst, hl, hd⟩),
    fun hst => congrArg Host.Outcome.next (if_pos hst), fun m v ht h3 => padRelease_shows ht h3, fun src elapsed hst hb hl hm => wakeEvent_shows hst hb hl hm,
    fun elapsed hst h0 h1 hc => rtcAlarm_alone hst ⟨h0, h1⟩ hc, fun elapsed hst h0 h1 hc hb hl => rtcAlarm_wakes hst ⟨h0, h1⟩ hc hb hl⟩

end Sys2Proof.Machine

/-! PROOFS. The key commands of Pylon (O55). -/

namespace Sys2Proof.Machine

variable {s : State} {c : PylCmd} {op : Nat}

/-! ### The command in service: its run, its end, its output (R758) -/

theorem pylRun_serves (h : s.serves c op) (f : State → PylCmd → List Byte → List Byte → State) :
    s.pylRun op f = .next (f s c (s.readBytes c.inA c.inL) (s.readBytes c.in2A c.in2L)) := by
  obtain ⟨hc, hs, ho, hv, hi, hj⟩ := h
  simp only [State.pylRun, hc, hs, ho, hv, hi, hj, bne_self_eq_false, Bool.or_self, Bool.not_true, Bool.false_eq_true, if_false]

/-- A command in service completes with what its operation gives. -/
theorem completes_pylRun {i : Instr} {f : State → PylCmd → List Byte → List Byte → State} {P : State → Prop} (h : s.serves c op)
    (hi : exec i s = s.pylRun op f) (hP : P (f s c (s.readBytes c.inA c.inL) (s.readBytes c.in2A c.in2L))) : Completes i s P :=
  ⟨_, hi.trans (pylRun_serves h f), hP⟩

theorem pylEnd_cmd (hc : s.pyl.cmd = some c) (st n : Nat) :
    (s.pylEnd st n).pyl.cmd = some { c with status := st, outLen := n, served := true } := by
  rw [State.pylEnd, State.modPyl, hc]
  rfl

theorem endsWith_pylEnd (hc : s.pyl.cmd = some c) (st : Nat) : EndsWith s (s.pylEnd st 0) c st := ⟨pylEnd_cmd hc st 0, fun _ => rfl⟩

theorem sameRegs_pylEnd (st n : Nat) (A : List Nat) : SameRegs s (s.pylEnd st n) A := fun _ _ => rfl

/-- A failure without a code of its own. -/
theorem pylFail_ends (hc : s.pyl.cmd = some c) : SameRegs s s.pylFail [] ∧ ∃ st, st ≠ 0 ∧ EndsWith s s.pylFail c st :=
  ⟨fun _ _ => rfl, _, Nat.succ_ne_zero _, endsWith_pylEnd (s := (s.freshBelow 65535).2) hc _⟩

theorem pylOk_nil (s : State) (c : PylCmd) (f : State → State) : s.pylOk c [] f = (f s).pylEnd 0 0 :=
  (if_neg (Nat.not_lt_zero _)).trans (if_neg (by simp [State.pylMay]))

theorem sameRegs_pylOk {f : State → State} {A : List Nat} (out : List Byte) (hf : SameRegs s (f s) A) : SameRegs s (s.pylOk c out f) A := by
  unfold State.pylOk
  split
  · exact sameRegs_pylEnd _ _ _
  split
  · exact sameRegs_pylEnd _ _ _
  · exact fun a ha => (reg_setMem (f s) c.outA out a).trans (hf a ha)

/-- An output goes to OUT_ADDR, or its room or the access map refuses it. -/
theorem settles_pylOk {f : State → State} (hc : s.pyl.cmd = some c) (out : List Byte) (hf : (f s).pyl.cmd = s.pyl.cmd)
    (hm : SameMem s (f s)) : Settles s (s.pylOk c out f) c out := by
  refine ⟨fun h => ?_, fun h hw => ?_, fun h hw => ?_⟩
  · rw [State.pylOk, if_pos h]
    exact endsWith_pylEnd hc _
  · rw [State.pylOk, if_neg h.not_gt, if_pos (by simp [hw])]
    exact endsWith_pylEnd hc _
  · rw [State.pylOk, if_neg h.not_gt, if_neg (by simp [hw])]
    have hcmd : ((f s).setMem c.outA out).pyl.cmd = some c := by
      rw [setMem_onlyMem]
      exact hf.trans hc
    refine ⟨pylEnd_cmd hcmd 0 out.length, fun a => (memB_setMem out (f s) c.outA a).trans ?_⟩
    rw [hm a]

/-- Free values leave what an output needs. -/
theorem settles_pylOk_freeAt (hc : s.pyl.cmd = some c) (n : Nat) (out : List Byte) :
    SameRegs s ((s.freeAt n).pylOk c out id) [] ∧ Settles s ((s.freeAt n).pylOk c out id) c out :=
  ⟨sameRegs_pylOk (s := s.freeAt n) out fun _ _ => rfl, settles_pylOk (s := s.freeAt n) hc out rfl fun _ => rfl⟩

theorem settles_pylOk_id (hc : s.pyl.cmd = some c) (out : List Byte) :
    SameRegs s (s.pylOk c out id) [] ∧ Settles s (s.pylOk c out id) c out := settles_pylOk_freeAt hc s.freeCtr out

/-! ### Algorithm, key slot and usage (R760) -/

theorem withAlg_some {p : Alg → Bool} {a : Alg} (h : (Config.algOf c.alg).filter p = some a) (f : Alg → State) :
    s.withAlg c p f = f a := by
  obtain ⟨ha, hp⟩ := Option.filter_eq_some_iff.1 h
  simp only [State.withAlg, ha, hp, if_true]

theorem withAlg_none {p : Alg → Bool} (h : (Config.algOf c.alg).filter p = none) (f : Alg → State) :
    s.withAlg c p f = s.pylEnd 0x20 0 := by
  unfold State.withAlg
  split
  · next a ha =>
    rw [if_neg]
    rw [ha] at h
    simpa [Option.filter] using h
  · rfl

/-- An operation with a key: ALG, then the usage, decide before it runs. -/
theorem withKey_shows {use : Nat → Bool} {f : List Byte → State} {u : Nat → Prop} [DecidablePred u] {X : State → Prop}
    (hc : s.pyl.cmd = some c) (hu : ∀ n, use n = true ↔ u n)
    (hf : SameRegs s (f (nth {} s.pyl.store c.slot).key) [] ∧ X (f (nth {} s.pyl.store c.slot).key)) :
    SameRegs s (s.withKey c use f) [] ∧
      if (nth {} s.pyl.store c.slot).alg ≠ some c.alg then EndsWith s (s.withKey c use f) c 0x21
      else if u (nth {} s.pyl.store c.slot).usage then X (s.withKey c use f) else EndsWith s (s.withKey c use f) c 0x23 := by
  by_cases ha : (nth {} s.pyl.store c.slot).alg = some c.alg
  · rw [if_neg (not_not.2 ha)]
    by_cases hk : u (nth {} s.pyl.store c.slot).usage
    · rw [if_pos hk, State.withKey, if_neg (by simp [ha]), if_neg (by simp [(hu _).2 hk])]
      exact hf
    · have hn : use (nth {} s.pyl.store c.slot).usage = false := Bool.eq_false_iff.2 fun h => hk ((hu _).1 h)
      rw [if_neg hk, State.withKey, if_neg (by simp [ha]), if_pos (by simp [hn])]
      exact ⟨sameRegs_pylEnd _ _ _, endsWith_pylEnd hc _⟩
  · rw [if_pos ha, State.withKey, if_pos (by simpa using ha)]
    exact ⟨sameRegs_pylEnd _ _ _, endsWith_pylEnd hc _⟩

/-! ### Random bytes, hashes and ciphers -/

theorem randomBytes_serves (h : s.serves c 0x01) :
    Completes .randomBytes s (fun t => SameRegs s t [] ∧ ∃ out, out.length = c.cap ∧ Settles s t c out) := by
  obtain ⟨hr, hset⟩ := settles_pylOk_freeAt h.1 (s.freeCtr + 1) (s.freeBytes c.cap).1
  exact completes_pylRun h (by simp only [exec, execRandomBytes]; rfl) ⟨hr, _, length_toLE _ _, hset⟩

theorem hash_serves (h : s.serves c 0x02) :
    Completes .hash s (fun t => SameRegs s t [] ∧ match (Config.algOf c.alg).filter hashAlg with
      | some a => Settles s t c (hashOf a c.cap (s.readBytes c.inA c.inL))
      | none => EndsWith s t c 0x20) := by
  refine completes_pylRun h (by simp only [exec, execHash]; rfl) ?_
  cases ha : (Config.algOf c.alg).filter hashAlg with
  | none =>
    rw [withAlg_none ha]
    exact ⟨sameRegs_pylEnd _ _ _, endsWith_pylEnd h.1 _⟩
  | some a =>
    rw [withAlg_some ha]
    exact settles_pylOk_id h.1 _

theorem aesGcm_serves (h : s.serves c 0x03) :
    Completes .aesGcm s (fun t => SameRegs s t [] ∧ match (Config.algOf c.alg).filter aesAlg with
      | some a => if (nth {} s.pyl.store c.slot).alg ≠ some c.alg then EndsWith s t c 0x21
          else if (nth {} s.pyl.store c.slot).usage ≠ 0 then EndsWith s t c 0x23
          else (match Config.gcmOp a (nth {} s.pyl.store c.slot).key (s.readBytes c.inA c.inL) (s.readBytes c.in2A c.in2L) with
            | some o => Settles s t c o
            | none => ∃ st, st ≠ 0 ∧ EndsWith s t c st)
      | none => EndsWith s t c 0x20) := by
  refine completes_pylRun h (by simp only [exec, execAesGcm]; rfl) ?_
  cases ha : (Config.algOf c.alg).filter aesAlg with
  | none =>
    rw [withAlg_none ha]
    exact ⟨sameRegs_pylEnd _ _ _, endsWith_pylEnd h.1 _⟩
  | some a =>
    rw [withAlg_some ha]
    simp only [ne_eq, ite_not ((nth {} s.pyl.store c.slot).usage = 0)]
    cases hg : Config.gcmOp a (nth {} s.pyl.store c.slot).key (s.readBytes c.inA c.inL) (s.readBytes c.in2A c.in2L) with
    | none =>
      refine withKey_shows (u := (· = 0)) (X := fun t => ∃ st, st ≠ 0 ∧ EndsWith s t c st) h.1 (fun _ => beq_iff_eq) ?_
      simp only [hg]
      exact pylFail_ends h.1
    | some o =>
      refine withKey_shows (u := (· = 0)) (X := fun t => Settles s t c o) h.1 (fun _ => beq_iff_eq) ?_
      simp only [hg]
      exact settles_pylOk_id h.1 o

/-! ### Signatures and shared secrets -/

theorem sign_serves (h : s.serves c 0x20) :
    Completes .sign s (fun t => SameRegs s t [] ∧ match (Config.algOf c.alg).filter sigAlg with
      | some a => if (nth {} s.pyl.store c.slot).alg ≠ some c.alg then EndsWith s t c 0x21
          else if (nth {} s.pyl.store c.slot).usage < 2 then
            ∃ x, Settles s t c (Config.signOp a (nth {} s.pyl.store c.slot).key (s.readBytes c.inA c.inL) x)
          else EndsWith s t c 0x23
      | none => EndsWith s t c 0x20) := by
  refine completes_pylRun h (by simp only [exec, execSign]; rfl) ?_
  cases ha : (Config.algOf c.alg).filter sigAlg with
  | none =>
    rw [withAlg_none ha]
    exact ⟨sameRegs_pylEnd _ _ _, endsWith_pylEnd h.1 _⟩
  | some a =>
    rw [withAlg_some ha]
    obtain ⟨hr, hset⟩ := settles_pylOk_freeAt h.1 (s.freeCtr + 1)
      (Config.signOp a (nth {} s.pyl.store c.slot).key (s.readBytes c.inA c.inL) (s.fresh 256).1)
    refine withKey_shows (u := (· < 2))
      (X := fun t => ∃ x, Settles s t c (Config.signOp a (nth {} s.pyl.store c.slot).key (s.readBytes c.inA c.inL) x))
      h.1 (fun _ => decide_eq_true_iff) ?_
    exact ⟨hr, _, hset⟩

theorem verify_serves (h : s.serves c 0x21) :
    Completes .verify s (fun t => SameRegs s t [] ∧ SameMem s t ∧ match (Config.algOf c.alg).filter sigAlg with
      | some a => if Config.verifyOp a (s.readBytes c.inA c.inL) (s.readBytes c.in2A c.in2L) = true then EndsWith s t c 0
          else ∃ st, st ≠ 0 ∧ EndsWith s t c st
      | none => EndsWith s t c 0x20) := by
  refine completes_pylRun h (by simp only [exec, execVerify]; rfl) ?_
  cases ha : (Config.algOf c.alg).filter sigAlg with
  | none =>
    rw [withAlg_none ha]
    exact ⟨sameRegs_pylEnd _ _ _, fun _ => rfl, endsWith_pylEnd h.1 _⟩
  | some a =>
    rw [withAlg_some ha]
    by_cases hv : Config.verifyOp a (s.readBytes c.inA c.inL) (s.readBytes c.in2A c.in2L) = true
    · simp only [if_pos hv, pylOk_nil]
      exact ⟨sameRegs_pylEnd _ _ _, fun _ => rfl, endsWith_pylEnd h.1 _⟩
    · simp only [if_neg hv]
      exact ⟨(pylFail_ends h.1).1, fun _ => rfl, (pylFail_ends h.1).2⟩

theorem keyAgreement_serves (h : s.serves c 0x30) :
    Completes .keyAgreement s (fun t => SameRegs s t [] ∧ match (Config.algOf c.alg).filter agreeAlg with
      | some a => if (nth {} s.pyl.store c.slot).alg ≠ some c.alg then EndsWith s t c 0x21
          else if (nth {} s.pyl.store c.slot).usage = 0 then
            Settles s t c (Config.agreeOp a (nth {} s.pyl.store c.slot).key (s.readBytes c.inA c.inL))
          else EndsWith s t c 0x23
      | none => EndsWith s t c 0x20) := by
  refine completes_pylRun h (by simp only [exec, execKeyAgreement]; rfl) ?_
  cases ha : (Config.algOf c.alg).filter agreeAlg with
  | none =>
    rw [withAlg_none ha]
    exact ⟨sameRegs_pylEnd _ _ _, endsWith_pylEnd h.1 _⟩
  | some a =>
    rw [withAlg_some ha]
    refine withKey_shows (u := (· = 0))
      (X := fun t => Settles s t c (Config.agreeOp a (nth {} s.pyl.store c.slot).key (s.readBytes c.inA c.inL)))
      h.1 (fun _ => beq_iff_eq) ?_
    exact settles_pylOk_id h.1 _

theorem kemDecapsulate_serves (h : s.serves c 0x31) :
    Completes .kemDecapsulate s (fun t => SameRegs s t [] ∧ match (Config.algOf c.alg).filter kemAlg with
      | some a => if (nth {} s.pyl.store c.slot).alg ≠ some c.alg then EndsWith s t c 0x21
          else if (nth {} s.pyl.store c.slot).usage ≠ 1 then
            Settles s t c (Config.decap a (nth {} s.pyl.store c.slot).key (s.readBytes c.inA c.inL))
          else EndsWith s t c 0x23
      | none => EndsWith s t c 0x20) := by
  refine completes_pylRun h (by simp only [exec, execKemDecapsulate]; rfl) ?_
  cases ha : (Config.algOf c.alg).filter kemAlg with
  | none =>
    rw [withAlg_none ha]
    exact ⟨sameRegs_pylEnd _ _ _, endsWith_pylEnd h.1 _⟩
  | some a =>
    rw [withAlg_some ha]
    refine withKey_shows (u := (· ≠ 1))
      (X := fun t => Settles s t c (Config.decap a (nth {} s.pyl.store c.slot).key (s.readBytes c.inA c.inL)))
      h.1 (fun _ => bne_iff_ne) ?_
    exact settles_pylOk_id h.1 _

theorem kemEncapsulate_serves (h : s.serves c 0x32) :
    Completes .kemEncapsulate s (fun t => SameRegs s t [] ∧ match (Config.algOf c.alg).filter kemAlg with
      | some a => ∃ x, Settles s t c (Config.encap a (s.readBytes c.inA c.inL) x)
      | none => EndsWith s t c 0x20) := by
  refine completes_pylRun h (by simp only [exec, execKemEncapsulate]; rfl) ?_
  cases ha : (Config.algOf c.alg).filter kemAlg with
  | none =>
    rw [withAlg_none ha]
    exact ⟨sameRegs_pylEnd _ _ _, endsWith_pylEnd h.1 _⟩
  | some a =>
    rw [withAlg_some ha]
    obtain ⟨hr, hset⟩ := settles_pylOk_freeAt h.1 (s.freeCtr + 1) (Config.encap a (s.readBytes c.inA c.inL) (s.fresh 256).1)
    exact ⟨hr, _, hset⟩

/-! ### The key store: generation, blobs, clearing, presentation (R746, R759) -/

theorem store_putKey_same (s : State) {n : Nat} (k : KeySlot) (h : n < s.pyl.store.length) : nth {} (s.putKey n k).pyl.store n = k :=
  nth_updAt_same ({} : KeySlot) _ h

theorem store_putKey_ne (s : State) {n j : Nat} (k : KeySlot) (h : j ≠ n) :
    nth {} (s.putKey n k).pyl.store j = nth {} s.pyl.store j :=
  nth_updAt_ne ({} : KeySlot) _ _ h

/-- An emptied slot reads empty, in the store and beyond it. -/
theorem store_putKey_empty (s : State) (n : Nat) : nth {} (s.putKey n {}).pyl.store n = {} := by
  by_cases h : n < s.pyl.store.length
  · exact store_putKey_same s {} h
  · exact List.getD_eq_default _ _ (by rw [State.putKey, State.modPyl, length_updAt]; omega)

theorem setMem_pyl (s : State) (a : Nat) (l : List Byte) : (s.setMem a l).pyl = s.pyl := by rw [setMem_onlyMem]

/-- An operation that ends with STATUS 0 has had its effect. -/
theorem pylOk_effect {f : State → State} {u : State} (hc : s.pyl.cmd = some c) (out : List Byte)
    (h : (s.pylOk c out f).pyl.cmd.map PylCmd.status = some 0) (hu : f s = u) : (s.pylOk c out f).pyl.store = u.pyl.store := by
  subst hu
  unfold State.pylOk at h ⊢
  split at h
  · rw [pylEnd_cmd hc] at h
    exact absurd h (by simp)
  split at h
  · rw [pylEnd_cmd hc] at h
    exact absurd h (by simp)
  · next h1 h2 =>
    rw [if_neg h1, if_neg h2]
    exact (congrArg Pylon.store (setMem_pyl (f s) c.outA out) :)

/-- The blob of a key made with the free value `x` under the nonce `nonce` (R759). -/
def State.keyBlob (s : State) (c : PylCmd) (nonce key : List Byte) : List Byte :=
  blobHead c.alg c.usage s.lifecycle ++ nonce ++ gcmSeal s.wrapKey nonce (blobHead c.alg c.usage s.lifecycle) key

theorem keyGenerate_serves (h : s.serves c 0x10) :
    Completes .keyGenerate s (fun t => SameRegs s t [] ∧ match (Config.algOf c.alg).filter (fun a => !hashAlg a) with
      | some a => if 2 < c.usage then EndsWith s t c 0x20 else if s.hasIds = false then EndsWith s t c 0x23
          else if 16 ≤ c.slot then EndsWith s t c 0x21
          else ∃ x nonce, nonce.length = 12 ∧ Settles s t c ((Config.keyGen a x).2 ++ s.keyBlob c nonce (Config.keyGen a x).1) ∧
            (t.pyl.cmd.map PylCmd.status = some 0 → c.slot < s.pyl.store.length →
              nth {} t.pyl.store c.slot = { alg := some c.alg, usage := c.usage, key := (Config.keyGen a x).1 })
      | none => EndsWith s t c 0x20) := by
  refine completes_pylRun h (by simp only [exec, execKeyGenerate]; rfl) ?_
  cases ha : (Config.algOf c.alg).filter (fun a => !hashAlg a) with
  | none =>
    rw [withAlg_none ha]
    exact ⟨sameRegs_pylEnd _ _ _, endsWith_pylEnd h.1 _⟩
  | some a =>
    rw [withAlg_some ha]
    by_cases hu : 2 < c.usage
    · simp only [if_pos hu]
      exact ⟨sameRegs_pylEnd _ _ _, endsWith_pylEnd h.1 _⟩
    by_cases hid : s.hasIds = false
    · simp only [if_neg hu, hid, Bool.not_false, if_true]
      exact ⟨sameRegs_pylEnd _ _ _, endsWith_pylEnd h.1 _⟩
    have hyes : s.hasIds = true := by simpa using hid
    simp only [if_neg hu, hyes, Bool.not_true, Bool.true_eq_false, Bool.false_eq_true, if_false]
    by_cases hslot : 16 ≤ c.slot
    · simp only [if_pos hslot]
      exact ⟨sameRegs_pylEnd _ _ _, endsWith_pylEnd h.1 _⟩
    simp only [if_neg hslot]
    let u := s.freeAt (s.freeCtr + 2)
    have hblob (key : List Byte × List Byte) (nonce : List Byte) :
        key.2 ++ blobHead c.alg c.usage u.lifecycle ++ nonce ++ gcmSeal u.wrapKey nonce (blobHead c.alg c.usage u.lifecycle) key.1 =
          key.2 ++ s.keyBlob c nonce key.1 := by
      simp only [State.keyBlob, List.append_assoc]
      rfl
    refine ⟨?_, (s.fresh 512).1, ((s.fresh 512).2.freeBytes 12).1, length_toLE _ _, ?_, fun hok hlen => ?_⟩
    · exact sameRegs_pylOk (s := u) _ fun _ _ => rfl
    · rw [← hblob]
      exact settles_pylOk (s := u) h.1 _ rfl fun _ => rfl
    · exact (congrArg (fun l => nth {} l c.slot) (pylOk_effect (s := u) h.1 _ hok rfl)).trans (store_putKey_same u _ hlen)

theorem blobLoad_serves (h : s.serves c 0x11) :
    let i := s.readBytes c.inA c.inL
    Completes .blobLoad s (fun t => SameRegs s t [] ∧ SameMem s t ∧
      (s.hasIds = false → EndsWith s t c 0x23) ∧
      (s.hasIds = true → (i.take 16 ≠ blobHead (leAt i 4 1) (leAt i 5 1) s.lifecycle ∨ 16 ≤ c.slot) → EndsWith s t c 0x21) ∧
      (s.hasIds = true → i.take 16 = blobHead (leAt i 4 1) (leAt i 5 1) s.lifecycle → c.slot < 16 →
        (match gcmOpen s.wrapKey ((i.drop 16).take 12) (i.take 16) (i.drop 28) with
          | none => EndsWith s t c 0x21
          | some key => EndsWith s t c 0 ∧ (c.slot < s.pyl.store.length →
              nth {} t.pyl.store c.slot = { alg := some (leAt i 4 1), usage := leAt i 5 1, key := key })))) := by
  have hc := h.1
  refine completes_pylRun h (by simp only [exec, execBlobLoad]; rfl) ?_
  generalize s.readBytes c.inA c.inL = i
  by_cases hid : s.hasIds = true
  swap
  · have hno : s.hasIds = false := by simpa using hid
    simp only [hno, Bool.not_false, if_true]
    exact ⟨sameRegs_pylEnd _ _ _, fun _ => rfl, fun _ => endsWith_pylEnd hc _, fun hy => absurd hy (by decide), fun hy => absurd hy (by decide)⟩
  simp only [hid, Bool.not_true, Bool.false_eq_true, if_false]
  cases hg : gcmOpen s.wrapKey ((i.drop 16).take 12) (i.take 16) (i.drop 28) with
  | none =>
    exact ⟨sameRegs_pylEnd _ _ _, fun _ => rfl, fun hn => absurd hn (by decide), fun _ _ => endsWith_pylEnd hc _, fun _ _ _ => endsWith_pylEnd hc _⟩
  | some key =>
    by_cases hk : i.take 16 = blobHead (leAt i 4 1) (leAt i 5 1) s.lifecycle ∧ c.slot < 16
    · have hcond : (i.take 16 == blobHead (leAt i 4 1) (leAt i 5 1) s.lifecycle && decide (c.slot < 16)) = true := by simpa using hk
      simp only [if_pos hcond, pylOk_nil]
      exact ⟨fun _ _ => rfl, fun _ => rfl, fun hn => absurd hn (by decide),
        fun _ hn => absurd hk (by rcases hn with hn | hn <;> simp [hn]),
        fun _ _ _ => ⟨endsWith_pylEnd (s := s.putKey c.slot _) hc _, store_putKey_same s _⟩⟩
    · have hcond : ¬ (i.take 16 == blobHead (leAt i 4 1) (leAt i 5 1) s.lifecycle && decide (c.slot < 16)) = true := by simpa using hk
      simp only [if_neg hcond]
      exact ⟨sameRegs_pylEnd _ _ _, fun _ => rfl, fun hn => absurd hn (by decide), fun _ _ => endsWith_pylEnd hc _,
        fun _ hb hs => absurd ⟨hb, hs⟩ hk⟩

theorem slotClear_serves (h : s.serves c 0x12) :
    Completes .slotClear s (fun t => SameRegs s t [] ∧ EndsWith s t c (if 16 ≤ c.slot then 0x21 else 0) ∧
      (c.slot < 16 → nth {} t.pyl.store c.slot = {}) ∧ ∀ n, n ≠ c.slot → nth {} t.pyl.store n = nth {} s.pyl.store n) := by
  refine completes_pylRun h (by simp only [exec, execSlotClear]; rfl) ?_
  by_cases hs : 16 ≤ c.slot
  · simp only [if_pos hs]
    exact ⟨sameRegs_pylEnd _ _ _, endsWith_pylEnd h.1 _, fun hlt => absurd hs hlt.not_ge, fun _ _ => rfl⟩
  · simp only [if_neg hs, pylOk_nil]
    exact ⟨fun _ _ => rfl, endsWith_pylEnd (s := s.putKey c.slot {}) h.1 _, fun _ => store_putKey_empty s c.slot,
      fun _ hn => store_putKey_ne s {} hn⟩

/-- Keys that R746 takes for slot SLOT. -/
def State.keysFit (s : State) (c : PylCmd) (i : List Byte) : Prop :=
  c.slot < 12 ∧ s.slotLive c.slot = true ∧ i.length = 1984 ∧ sha3 256 i = nth [] s.pyl.hashes c.slot

/-- The keys of slot SLOT are presented. -/
def State.presentKeys (s : State) (slot : Nat) (i : List Byte) : State :=
  (s.putBit Fld.PYL_KPRES_PRESENTED slot true).modPyl (fun p => { p with keys := updAt p.keys slot (fun _ => i) })

theorem presentKeys_shows (s : State) {slot : Nat} (i : List Byte) (h : slot < 12) :
    SameRegs s (s.presentKeys slot i) [Reg.PYL_KPRES] ∧ (∀ g : Fin 12, ((s.presentKeys slot i).get Fld.PYL_KPRES_PRESENTED).testBit g =
      ((s.get Fld.PYL_KPRES_PRESENTED).testBit g || g.val == slot)) ∧
    (slot < s.pyl.keys.length → nth [] (s.presentKeys slot i).pyl.keys slot = i) := by
  refine ⟨SameRegs.put s Fld.PYL_KPRES_PRESENTED _, fun g => ?_, fun hl => nth_updAt_same [] _ hl⟩
  have hget : (s.presentKeys slot i).get Fld.PYL_KPRES_PRESENTED = mset (s.get Fld.PYL_KPRES_PRESENTED) slot true % 2 ^ 12 :=
    get_put_same s Fld.PYL_KPRES_PRESENTED _ (by decide)
  rw [hget, Nat.testBit_mod_two_pow, testBit_mset]
  by_cases hg : g.val = slot <;> simp [hg, g.isLt, h]

theorem keyPresent_serves (h : s.serves c 0x13) :
    let i := s.readBytes c.inA c.inL
    Completes .keyPresent s (fun t =>
      (s.keysFit c i → EndsWith s t c 0 ∧ SameRegs s t [Reg.PYL_KPRES] ∧ (∀ g : Fin 12, (t.get Fld.PYL_KPRES_PRESENTED).testBit g =
        ((s.get Fld.PYL_KPRES_PRESENTED).testBit g || g.val == c.slot)) ∧ (c.slot < s.pyl.keys.length → nth [] t.pyl.keys c.slot = i)) ∧
      (¬ s.keysFit c i → EndsWith s t c 2 ∧ SameRegs s t [])) := by
  intro i
  refine completes_pylRun h (by simp only [exec, execKeyPresent]; rfl) ?_
  have hfit : (decide (c.slot < 12) && s.slotLive c.slot && i.length == 1984 && sha3 256 i == nth [] s.pyl.hashes c.slot) = true ↔
      s.keysFit c i := by simp [State.keysFit, and_assoc]
  by_cases hf : s.keysFit c i
  · simp only [i] at hf hfit
    simp only [if_pos (hfit.2 hf), pylOk_nil]
    obtain ⟨hregs, hbits, hkeys⟩ := presentKeys_shows s i hf.1
    exact ⟨fun _ => ⟨endsWith_pylEnd (s := s.presentKeys c.slot i) h.1 _, hregs, hbits, hkeys⟩, fun hn => absurd hf hn⟩
  · simp only [i] at hf hfit
    simp only [if_neg (mt hfit.1 hf)]
    exact ⟨fun hy => absurd hy hf, fun _ => ⟨endsWith_pylEnd h.1 _, sameRegs_pylEnd _ _ _⟩⟩

theorem devidKeys_serves (h : s.serves c 0x14) :
    Completes .devidKeys s (fun t => SameRegs s t [] ∧
      if s.hasIds = true ∧ s.bit Fld.PYL_STAT_DEBUG = false then Settles s t c (pairOf s.devSeed) else EndsWith s t c 0x23) := by
  refine completes_pylRun h (by simp only [exec, execDevidKeys]; rfl) ?_
  by_cases hk : s.hasIds = true ∧ s.bit Fld.PYL_STAT_DEBUG = false
  · simp only [hk.1, hk.2, Bool.not_true, Bool.or_self, Bool.false_eq_true, if_false]
    exact settles_pylOk_id h.1 _
  · have hn : (!s.hasIds || s.bit Fld.PYL_STAT_DEBUG) = true := by
      cases hi : s.hasIds <;> cases hd : s.bit Fld.PYL_STAT_DEBUG <;> simp_all
    simp only [if_neg hk, hn, if_true]
    exact ⟨sameRegs_pylEnd _ _ _, endsWith_pylEnd h.1 _⟩

/-- Settles O55: each operation by its own lemma, over the run of the command in service (R758). -/
theorem pylonServesKeyCommands : Obligations.PylonServesKeyCommands := by
  intro s c
  refine ⟨randomBytes_serves, hash_serves, aesGcm_serves, keyGenerate_serves, blobLoad_serves, slotClear_serves, fun h => ?_,
    devidKeys_serves, sign_serves, verify_serves, keyAgreement_serves, kemDecapsulate_serves, kemEncapsulate_serves⟩
  obtain ⟨t, ht, hfit, hnot⟩ := keyPresent_serves h
  exact ⟨t, ht, fun h1 h2 h3 h4 => hfit ⟨h1, h2, h3, h4⟩, hnot⟩

end Sys2Proof.Machine

/-! PROOFS. Firmware elements, regions, reports and authorisations (O56). -/

namespace Sys2Proof.Machine

variable {s : State} {c : PylCmd}

/-! ### Byte strings in registers, the measurements (R747) -/

theorem onlyRegs_putWords (s : State) (a n : Nat) (l : List Byte) : OnlyRegs s (s.putWords a n l) := onlyRegs_foldl _ _ _ fun _ _ => rfl

theorem reg_putWords_ne (s : State) {a n b : Nat} (l : List Byte) (h : ∀ w < n, b ≠ a + 4 * w) : (s.putWords a n l).reg b = s.reg b :=
  forEach_keeps (fun t => t.reg b) _ s _ fun t w hw => reg_setReg_ne t _ (h w (List.mem_range.1 hw))

theorem reg_putWords_same (s : State) (a : Nat) {n w : Nat} (l : List Byte) (h : w < n) :
    (s.putWords a n l).reg (a + 4 * w) = leAt l (4 * w) 4 := by
  refine forEach_sets (fun t => t.reg (a + 4 * w)) _ _ w s _ (List.mem_range.2 h) (fun t x _ hx => reg_setReg_ne t _ (by omega)) fun t => ?_
  rw [reg_setReg_same]
  exact Nat.mod_eq_of_lt (leAt_lt l (4 * w) 4)

/-- The registers of M3. -/
def m3Regs : List Nat := (List.range 16).map (Reg.PYL_MEAS 3)

/-- An extension of M3 sets its sixteen registers to the digest, and leaves the rest. -/
theorem extend_m3_shows (s : State) (v : List Byte) : OnlyRegs s (s.extend 3 v) ∧ SameRegs s (s.extend 3 v) m3Regs ∧
    ∀ w : Fin 16, (s.extend 3 v).reg (Reg.PYL_MEAS 3 w) = leAt (sha3 512 (s.meas 3 ++ v)) (4 * w) 4 := by
  refine ⟨onlyRegs_putWords _ _ _ _, fun b hb => reg_putWords_ne s _ fun w hw e => hb ?_, fun w => ?_⟩
  · exact List.mem_map.2 ⟨w, List.mem_range.2 hw, e.symm⟩
  · refine Eq.trans (congrArg (s.extend 3 v).reg ?_) (reg_putWords_same s (Reg.PYL_MEAS 3 0) _ w.isLt)
    rfl

theorem xrgn_not_m3 (r : Fin 16) : Reg.PYL_XRGN r ∉ m3Regs := (by decide : ∀ r : Fin 16, Reg.PYL_XRGN r ∉ m3Regs) r

/-! ### An accepted element (R751) -/

theorem freeRegion_lt {k : Nat} (h : s.freeRegion = some k) : k < 16 := List.mem_range.1 (List.mem_of_find?_eq_some h)

/-- Registers of the regions decide which region is free. -/
theorem freeRegion_congr {t : State} (h : ∀ r : Fin 16, t.reg (Reg.PYL_XRGN r) = s.reg (Reg.PYL_XRGN r)) : t.freeRegion = s.freeRegion :=
  List.find?_congr fun k hk => by
    have hb : t.bit (Fld.PYL_XRGN_VALID k) = s.bit (Fld.PYL_XRGN_VALID k) := bit_of_reg (h ⟨k, List.mem_range.1 hk⟩)
    rw [hb]

theorem freeRegion_modPyl (s : State) (f : Pylon → Pylon) : (s.modPyl f).freeRegion = s.freeRegion := (rfl)

/-- The body of the element under header `h` enters region r. -/
def State.enterRegion (s : State) (h : List Byte) (r : Nat) : State :=
  ((s.put (Fld.PYL_XRGN_BASE r) (leAt h 0x10 4 / 4096)).put (Fld.PYL_XRGN_PAGES r) (alignUp (leAt h 0x0C 4) 4096 / 4096)).putB
    (Fld.PYL_XRGN_VALID r) true

theorem enterRegion_shows (s : State) (r : Fin 16) {h : List Byte} (hlen : leAt h 0x0C 4 ≤ 2047 * 4096) :
    (s.enterRegion h r).bit (Fld.PYL_XRGN_VALID r) = true ∧ (s.enterRegion h r).get (Fld.PYL_XRGN_BASE r) = leAt h 0x10 4 / 4096 ∧
    (s.enterRegion h r).get (Fld.PYL_XRGN_PAGES r) = (leAt h 0x0C 4 + 4095) / 4096 ∧ SameRegs s (s.enterRegion h r) [Reg.PYL_XRGN r] := by
  have hload : leAt h 0x10 4 < 2 ^ 32 := leAt_lt h 0x10 4
  have hpages : alignUp (leAt h 0x0C 4) 4096 / 4096 = (leAt h 0x0C 4 + 4095) / 4096 := by unfold alignUp; omega
  refine ⟨bit_putB_self (F := Fld.PYL_XRGN_VALID) (by decide) r true, ?_, ?_, ?_⟩
  · refine (get_putB_other (F := Fld.PYL_XRGN_VALID) (G := Fld.PYL_XRGN_BASE) (by decide) r true).trans ?_
    refine (get_put_other (F := Fld.PYL_XRGN_PAGES) (G := Fld.PYL_XRGN_BASE) (by decide) r _).trans ?_
    refine (get_put_self_mod (F := Fld.PYL_XRGN_BASE) (by decide) r _).trans (Nat.mod_eq_of_lt ?_)
    show leAt h 0x10 4 / 4096 < 2 ^ 20
    omega
  · refine (get_putB_other (F := Fld.PYL_XRGN_VALID) (G := Fld.PYL_XRGN_PAGES) (by decide) r true).trans ?_
    refine (get_put_self_mod (F := Fld.PYL_XRGN_PAGES) (by decide) r _).trans ?_
    rw [hpages]
    refine Nat.mod_eq_of_lt ?_
    show (leAt h 0x0C 4 + 4095) / 4096 < 2 ^ 11
    omega
  · have h1 : SameRegs s (s.put (Fld.PYL_XRGN_BASE r) (leAt h 0x10 4 / 4096)) [Reg.PYL_XRGN r] := SameRegs.put s _ _
    exact SameRegs.andPut (f := Fld.PYL_XRGN_VALID r) (SameRegs.andPut (f := Fld.PYL_XRGN_PAGES r) h1 (List.mem_singleton.2 rfl) _)
      (List.mem_singleton.2 rfl) 1

/-- What the element under header `h` adds to the elements since reset. -/
def elemEntry (h : List Byte) : Nat × Nat × Bool := (leAt h 7 1, leAt h 8 1, (leAt h 9 1).testBit 0)

/-- The element under header `h` is among those since reset. -/
def State.joinElem (s : State) (h : List Byte) : State := s.modPyl (fun p => { p with elems := p.elems ++ [elemEntry h] })

theorem acceptElem_eq {a : Nat} {r : Fin 16} (hr : s.freeRegion = some r.val) :
    s.acceptElem a = ((s.extend 3 (sha3 512 (s.readBytes a 256))).joinElem (s.readBytes a 256)).enterRegion (s.readBytes a 256) r := by
  have hx : (s.extend 3 (sha3 512 (s.readBytes a 256))).freeRegion = some r.val :=
    (freeRegion_congr fun k => (extend_m3_shows s _).2.1 _ (xrgn_not_m3 k)).trans hr
  unfold State.acceptElem
  extract_lets h u w
  have hw : w.freeRegion = some r.val := (freeRegion_modPyl u _).trans hx
  rw [hw]
  rfl

/-- An accepted element: M3, the elements since reset, its region, and nothing else. -/
theorem acceptElem_shows {a : Nat} {r : Fin 16} (hr : s.freeRegion = some r.val)
    (hlen : leAt (s.readBytes a 256) 0x0C 4 ≤ 2047 * 4096) :
    let h := s.readBytes a 256
    let t := s.acceptElem a
    t = { s with regs := t.regs, pyl := { s.pyl with elems := s.pyl.elems ++ [elemEntry h] } } ∧
    (∀ w : Fin 16, t.reg (Reg.PYL_MEAS 3 w) = leAt (sha3 512 (s.meas 3 ++ sha3 512 h)) (4 * w) 4) ∧
    t.bit (Fld.PYL_XRGN_VALID r) = true ∧ t.get (Fld.PYL_XRGN_BASE r) = leAt h 0x10 4 / 4096 ∧
    t.get (Fld.PYL_XRGN_PAGES r) = (leAt h 0x0C 4 + 4095) / 4096 ∧ SameRegs s t (Reg.PYL_XRGN r :: m3Regs) := by
  intro h t
  obtain ⟨honly, hregs, hmeas⟩ := extend_m3_shows s (sha3 512 h)
  have ht : t = ((s.extend 3 (sha3 512 h)).joinElem h).enterRegion h r := acceptElem_eq hr
  clear_value t
  subst ht
  generalize hu : s.extend 3 (sha3 512 h) = u at honly hregs hmeas ⊢
  obtain ⟨hvalid, hbase, hpages, hkeep⟩ := enterRegion_shows (u.joinElem h) r hlen
  refine ⟨?_, fun w => ?_, hvalid, hbase, hpages, fun b hb => ?_⟩
  · rw [honly]
    rfl
  · have hne : Reg.PYL_MEAS 3 w ≠ Reg.PYL_XRGN r := by simp only [Reg.PYL_MEAS, Reg.PYL_XRGN]; omega
    exact (hkeep _ (by simpa using hne)).trans (hmeas w)
  · rw [List.mem_cons, not_or] at hb
    exact (hkeep b (by simpa using hb.1)).trans (hregs b hb.2)

theorem len_of_elemHeaderOk {h : List Byte} (hok : elemHeaderOk h = true) : leAt h 0x0C 4 ≤ 2047 * 4096 := by
  simp only [elemHeaderOk, Bool.and_eq_true, decide_eq_true_eq] at hok
  exact hok.1.1.2

/-- What an element without a reason against it meets. -/
theorem of_elemReason_zero {a : Nat} (h : s.elemReason a = 0) :
    elemHeaderOk (s.readBytes a 256) = true ∧ ∃ r : Fin 16, s.freeRegion = some r.val := by
  unfold State.elemReason at h
  extract_lets hdr len g arb sig dig keys pr at h
  split at h
  · exact nomatch h
  split at h
  · exact nomatch h
  next hok =>
  split at h
  · exact nomatch h
  split at h
  · exact nomatch h
  split at h
  · next hpr => exact absurd h hpr
  split at h
  · exact nomatch h
  split at h
  · exact nomatch h
  split at h
  · exact nomatch h
  split at h
  · exact nomatch h
  next hfree =>
  obtain ⟨k, hk⟩ := Option.ne_none_iff_exists'.1 hfree
  refine ⟨?_, ⟨k, freeRegion_lt hk⟩, hk⟩
  simp only [Bool.or_eq_true, Bool.not_eq_true', not_or, Bool.not_eq_false] at hok
  exact hok.1

theorem elementVerify_serves (h : s.serves c 0x40) :
    let hdr := s.readBytes c.inA 256
    Completes .elementVerify s (fun t =>
      EndsWith s t c (s.elemReason c.inA) ∧ (s.elemReason c.inA ≠ 0 → SameRegs s t [] ∧ t.pyl.elems = s.pyl.elems) ∧
      (s.elemReason c.inA = 0 → t.pyl.elems = s.pyl.elems ++ [elemEntry hdr] ∧
        (∀ w : Fin 16, t.reg (Reg.PYL_MEAS 3 w) = leAt (sha3 512 (s.meas 3 ++ sha3 512 hdr)) (4 * w) 4) ∧
        ∃ r : Fin 16, s.freeRegion = some r.val ∧ t.bit (Fld.PYL_XRGN_VALID r) = true ∧ t.get (Fld.PYL_XRGN_BASE r) = leAt hdr 0x10 4 / 4096 ∧
          t.get (Fld.PYL_XRGN_PAGES r) = (leAt hdr 0x0C 4 + 4095) / 4096 ∧ SameRegs s t (Reg.PYL_XRGN r :: m3Regs))) := by
  intro hdr
  refine completes_pylRun h (by simp only [exec, execElementVerify]; rfl) ?_
  by_cases hz : s.elemReason c.inA = 0
  · obtain ⟨hok, r, hr⟩ := of_elemReason_zero hz
    obtain ⟨heq, hmeas, hvalid, hbase, hpages, hregs⟩ := acceptElem_shows hr (len_of_elemHeaderOk hok)
    simp only [if_pos hz]
    rw [hz]
    generalize s.acceptElem c.inA = u at heq hmeas hvalid hbase hpages hregs ⊢
    have hcmd : u.pyl.cmd = some c := by rw [heq]; exact h.1
    have helems : u.pyl.elems = s.pyl.elems ++ [elemEntry hdr] := by rw [heq]
    have hmem : SameMem s u := fun a => by rw [heq]; rfl
    exact ⟨⟨pylEnd_cmd hcmd 0 0, hmem⟩, fun hn => absurd rfl hn, fun _ => ⟨helems, hmeas, r, hr, hvalid, hbase, hpages, hregs⟩⟩
  · simp only [if_neg hz]
    exact ⟨endsWith_pylEnd h.1 _, fun _ => ⟨sameRegs_pylEnd _ _ _, rfl⟩, fun h0 => absurd h0 hz⟩

/-! ### Withdrawal (R752) -/

theorem regionWithdraw_serves (h : s.serves c 0x41) :
    Completes .regionWithdraw s (fun t =>
      (c.slot < 16 → EndsWith s t c 0 ∧ t.reg (Reg.PYL_XRGN c.slot) = 0 ∧ SameRegs s t [Reg.PYL_XRGN c.slot]) ∧
      (16 ≤ c.slot → SameRegs s t [] ∧ ∃ st, st ≠ 0 ∧ EndsWith s t c st)) := by
  refine completes_pylRun h (by simp only [exec, execRegionWithdraw]; rfl) ?_
  by_cases hs : 16 ≤ c.slot
  · simp only [if_pos hs]
    exact ⟨fun hlt => absurd hs hlt.not_ge, fun _ => pylFail_ends h.1⟩
  · simp only [if_neg hs]
    refine ⟨fun _ => ⟨endsWith_pylEnd (s := s.setReg (Reg.PYL_XRGN c.slot) 0) h.1 0, reg_setReg_same s _ 0, fun a ha => ?_⟩, fun hge => absurd hge hs⟩
    exact reg_setReg_ne s 0 (by simpa using ha)

/-! ### The attestation report (R757) -/

/-- A signature of both kinds takes one free value. -/
theorem signPair_eq (s : State) (seed dig : List Byte) :
    s.signPair seed dig = (edSign seed dig ++ (mlSign seed dig (toLE 32 (s.fresh 26472).1)).getD (toLE 3309 (s.fresh 26472).1),
      s.freeAt (s.freeCtr + 1)) := (rfl)

/-- The state with the alias endorsement. -/
def State.withEndorse (s : State) (e : List Byte) : State := { s with pyl := { s.pyl with endorse := e } }

/-- The endorsement stands, or is formed with a free value. -/
theorem formEndorse_shows (s : State) : ∃ e n, s.formEndorse = (s.withEndorse e).freeAt n ∧ (s.pyl.endorse ≠ [] → e = s.pyl.endorse) ∧
    (s.pyl.endorse = [] → ∃ y, e = edSign s.devSeed (sha3 512 (pairOf s.aliasSeed)) ++
      (mlSign s.devSeed (sha3 512 (pairOf s.aliasSeed)) (toLE 32 y)).getD (toLE 3309 y)) := by
  by_cases he : s.pyl.endorse = []
  · refine ⟨_, s.freeCtr + 1, ?_, fun hn => absurd he hn, fun _ => ⟨(s.fresh 26472).1, rfl⟩⟩
    rw [State.formEndorse, if_neg (by simp [he]), signPair_eq]
    rfl
  · exact ⟨s.pyl.endorse, s.freeCtr, if_pos (by simpa using he), fun _ => rfl, fun hn => absurd hn he⟩

theorem aliasSeed_formed (s : State) (e : List Byte) (n : Nat) : ((s.withEndorse e).freeAt n).aliasSeed = s.aliasSeed := (rfl)

theorem settles_formed {s t : State} {e out : List Byte} {n : Nat} (h : Settles ((s.withEndorse e).freeAt n) t c out) : Settles s t c out := h

theorem reportHead_freeAt (s : State) (n : Nat) (i : List Byte) : (s.freeAt n).reportHead i = s.reportHead i := (rfl)

theorem pylOk_id_endorse (s : State) (c : PylCmd) (out : List Byte) : (s.pylOk c out id).pyl.endorse = s.pyl.endorse := by
  unfold State.pylOk
  split
  · rfl
  split
  · rfl
  · exact (congrArg Pylon.endorse (setMem_pyl s c.outA out) :)

theorem attestationReport_serves (h : s.serves c 0x50) :
    Completes .attestationReport s (fun t => SameRegs s t [] ∧
      if s.hasIds = true ∧ s.bit Fld.PYL_STAT_DEBUG = false then
        ∃ e : List Byte, t.pyl.endorse = e ∧ (s.pyl.endorse ≠ [] → e = s.pyl.endorse) ∧
          (s.pyl.endorse = [] → ∃ y, e = edSign s.devSeed (sha3 512 (pairOf s.aliasSeed)) ++
            (mlSign s.devSeed (sha3 512 (pairOf s.aliasSeed)) (toLE 32 y)).getD (toLE 3309 y)) ∧
          ∀ hd, hd = (s.withEndorse e).reportHead (s.readBytes c.inA c.inL) →
            ∃ x, Settles s t c (hd ++ (edSign s.aliasSeed (sha3 512 hd) ++ (mlSign s.aliasSeed (sha3 512 hd) (toLE 32 x)).getD (toLE 3309 x)))
      else EndsWith s t c 0x23) := by
  refine completes_pylRun h (by simp only [exec, execAttestationReport]; rfl) ?_
  generalize s.readBytes c.inA c.inL = i
  by_cases hk : s.hasIds = true ∧ s.bit Fld.PYL_STAT_DEBUG = false
  swap
  · have hn : (!s.hasIds || s.bit Fld.PYL_STAT_DEBUG) = true := by
      rcases not_and_or.1 hk with hi | hd
      · simp [Bool.not_eq_true _ ▸ hi]
      · simp [Bool.not_eq_false _ ▸ hd]
    simp only [if_neg hk, hn, if_true]
    exact ⟨sameRegs_pylEnd _ _ _, endsWith_pylEnd h.1 _⟩
  obtain ⟨e, n, hform, hold, hnew⟩ := formEndorse_shows s
  rw [if_pos hk]
  simp only [hk.1, hk.2, Bool.not_true, Bool.or_self, Bool.false_eq_true, if_false, hform, signPair_eq, reportHead_freeAt, aliasSeed_formed]
  let u := (s.withEndorse e).freeAt (n + 1)
  refine ⟨sameRegs_pylOk (s := u) _ fun _ _ => rfl, e, ?_, hold, hnew, fun hd hhd => ?_⟩
  · exact pylOk_id_endorse u c _
  · subst hhd
    exact ⟨_, settles_formed (settles_pylOk (s := u) h.1 _ rfl fun _ => rfl)⟩

/-! ### Authorisations (R765 to R768) -/

/-- The registers of the nonce. -/
def nonceRegs : List Nat := (List.range 8).map Reg.PYL_NONCE

theorem newNonce_shows (s : State) : s.newNonce.pyl = s.pyl ∧ s.newNonce.mem = s.mem ∧ SameRegs s s.newNonce nonceRegs :=
  ⟨forEach_keeps State.pyl _ s _ fun _ _ _ => rfl, forEach_keeps State.mem _ s _ fun _ _ _ => rfl, fun a ha =>
    forEach_keeps (fun t => t.reg a) _ s _ fun t w hw => reg_put_ne (t.fresh 32).2 (f := Fld.PYL_NONCE_WORD w) _
      fun e => ha (List.mem_map.2 ⟨w, hw, e.symm⟩)⟩

theorem inClass_lt {k g : Nat} (h : inClass k g = true) : g < 12 := by
  obtain ⟨h1, h2⟩ : (classSlots k).1 ≤ g ∧ g < (classSlots k).1 + (classSlots k).2 := by simpa [inClass] using h
  have hk : (classSlots k).1 + (classSlots k).2 ≤ 12 := by
    rcases k with _ | _ | _ | _ | k
    case succ.succ.succ.succ => simp [classSlots, nth]
    all_goals decide
  omega

/-- The target of a slot authorisation that is not refused is a slot. -/
theorem authSlot_lt {a : List Byte} (h : s.authBad a = false) (hk : leAt a 4 1 ≤ 2) : authSlot a < 12 := by
  unfold State.authBad at h
  extract_lets kind cls signer g dig live at h
  simp only [Bool.or_eq_false_iff] at h
  have hcls : (if kind ≤ 2 then !inClass cls signer || !inClass cls g else !inClass 0 signer) = false := h.1.1.2
  rw [if_pos hk, Bool.or_eq_false_iff, Bool.not_eq_false', Bool.not_eq_false'] at hcls
  exact inClass_lt hcls.2

/-- What an authorisation of each KIND does (R766 to R768). -/
def State.authEffect (s : State) (a : List Byte) : State :=
  if leAt a 4 1 = 1 then (s.modPyl (fun p => { p with hashes := updAt p.hashes (authSlot a) (fun _ => (a.drop 0x30).take 32) })).putBit
      Fld.PYL_KFUSE_FUSED (authSlot a) true
  else if leAt a 4 1 = 2 then s.putBit Fld.PYL_KFUSE_REVOKED (authSlot a) true
  else if leAt a 4 1 = 3 then s.modPyl (fun p => { p with lcNext := 3 })
  else s.putB Fld.PYL_STAT_DEBUG true

/-- A bit of a fuse mask of twelve slots. -/
theorem testBit_putBit_same (s : State) {f : FieldRef} {g : Nat} (hf : f.lo + f.w ≤ 32) (hg : g < f.w) :
    ((s.putBit f g true).get f).testBit g = true := by
  rw [State.putBit, get_put_same s f _ hf, Nat.testBit_mod_two_pow, testBit_mset_same]
  simp [hg]

theorem authEffect_shows {a : List Byte} (h : s.authBad a = false) :
    let t := s.authEffect a
    t.pyl.cmd = s.pyl.cmd ∧ t.mem = s.mem ∧ SameRegs s t [Reg.PYL_KFUSE, Reg.PYL_STAT] ∧
    (leAt a 4 1 = 1 → (t.get Fld.PYL_KFUSE_FUSED).testBit (authSlot a) = true ∧ t.get Fld.PYL_KFUSE_REVOKED = s.get Fld.PYL_KFUSE_REVOKED) ∧
    (leAt a 4 1 = 2 → (t.get Fld.PYL_KFUSE_REVOKED).testBit (authSlot a) = true ∧ t.get Fld.PYL_KFUSE_FUSED = s.get Fld.PYL_KFUSE_FUSED) ∧
    (leAt a 4 1 = 3 → t.pyl.lcNext = 3 ∧ t.lifecycle = s.lifecycle) ∧ (leAt a 4 1 = 4 → t.bit Fld.PYL_STAT_DEBUG = true) := by
  intro t
  have ht : t = s.authEffect a := rfl
  clear_value t
  unfold State.authEffect at ht
  by_cases h1 : leAt a 4 1 = 1
  · rw [if_pos h1] at ht
    subst ht
    have hg : authSlot a < 12 := authSlot_lt h (by omega)
    exact ⟨rfl, rfl, (SameRegs.put (s.modPyl _) Fld.PYL_KFUSE_FUSED _).mono (by simp [Fld.PYL_KFUSE_FUSED]),
      fun _ => ⟨testBit_putBit_same (s.modPyl _) (f := Fld.PYL_KFUSE_FUSED) (by decide) hg,
        get_put_apart (s.modPyl _) (f := Fld.PYL_KFUSE_FUSED) (g := Fld.PYL_KFUSE_REVOKED) _ (by decide)⟩,
      fun h2 => by omega, fun h3 => by omega, fun h4 => by omega⟩
  rw [if_neg h1] at ht
  by_cases h2 : leAt a 4 1 = 2
  · rw [if_pos h2] at ht
    subst ht
    have hg : authSlot a < 12 := authSlot_lt h (by omega)
    exact ⟨rfl, rfl, (SameRegs.put s Fld.PYL_KFUSE_REVOKED _).mono (by simp [Fld.PYL_KFUSE_REVOKED]), fun h1' => absurd h1' h1,
      fun _ => ⟨testBit_putBit_same s (f := Fld.PYL_KFUSE_REVOKED) (by decide) hg,
        get_put_apart s (f := Fld.PYL_KFUSE_REVOKED) (g := Fld.PYL_KFUSE_FUSED) _ (by decide)⟩,
      fun h3 => by omega, fun h4 => by omega⟩
  rw [if_neg h2] at ht
  by_cases h3 : leAt a 4 1 = 3
  · rw [if_pos h3] at ht
    subst ht
    exact ⟨rfl, rfl, fun _ _ => rfl, fun h1' => absurd h1' h1, fun h2' => absurd h2' h2, fun _ => ⟨rfl, rfl⟩, fun h4 => by omega⟩
  · rw [if_neg h3] at ht
    subst ht
    exact ⟨rfl, rfl, (SameRegs.put s Fld.PYL_STAT_DEBUG _).mono (by simp [Fld.PYL_STAT_DEBUG]), fun h1' => absurd h1' h1,
      fun h2' => absurd h2' h2, fun h3' => absurd h3' h3, fun _ => bit_putB_same s Fld.PYL_STAT_DEBUG true (by decide) (by decide)⟩

/-- AUTH_OK after a new nonce. -/
theorem authOk_shows {u w : State} (hpyl : w.pyl = u.pyl) (hmem : w.mem = u.mem) (hregs : SameRegs u w nonceRegs) :
    (w.putB Fld.PYL_EVT_AUTH_OK true).pyl = u.pyl ∧ (w.putB Fld.PYL_EVT_AUTH_OK true).mem = u.mem ∧
    (w.putB Fld.PYL_EVT_AUTH_OK true).bit Fld.PYL_EVT_AUTH_OK = true ∧
    SameRegs u (w.putB Fld.PYL_EVT_AUTH_OK true) (Reg.PYL_EVT :: nonceRegs) :=
  ⟨hpyl, hmem, bit_putB_same w Fld.PYL_EVT_AUTH_OK true (by decide) (by decide),
    SameRegs.andPut (hregs.mono fun _ ha => List.mem_cons_of_mem _ ha) (f := Fld.PYL_EVT_AUTH_OK) (List.mem_cons_self ..) 1⟩

theorem execKeyAuthorisation_eq (s : State) : execKeyAuthorisation s = s.pylRun 0x60 (fun s _ a _ =>
    if leAt a 4 1 = 1 ∧ s.lifecycle = 3 ∨ leAt a 4 1 = 3 ∧ s.lifecycle ≠ 2 then s.pylEnd 0x23 0
    else if s.authBad a then (s.putB Fld.PYL_EVT_AUTH_REF true).pylEnd 0x24 0
    else ((s.authEffect a).newNonce.putB Fld.PYL_EVT_AUTH_OK true).pylEnd 0 0) := by
  unfold execKeyAuthorisation State.authEffect
  rfl

/-- What a command of operation 0x60 leaves when its authorisation `a` is accepted. -/
structure Authorised (s t : State) (c : PylCmd) (a : List Byte) : Prop where
  ends : EndsWith s t c 0
  ok : t.bit Fld.PYL_EVT_AUTH_OK = true
  regs : SameRegs s t ([Reg.PYL_EVT, Reg.PYL_KFUSE, Reg.PYL_STAT] ++ nonceRegs)
  fuse : leAt a 4 1 = 1 → (t.get Fld.PYL_KFUSE_FUSED).testBit (authSlot a) = true ∧ t.get Fld.PYL_KFUSE_REVOKED = s.get Fld.PYL_KFUSE_REVOKED
  revoke : leAt a 4 1 = 2 → (t.get Fld.PYL_KFUSE_REVOKED).testBit (authSlot a) = true ∧ t.get Fld.PYL_KFUSE_FUSED = s.get Fld.PYL_KFUSE_FUSED
  ret : leAt a 4 1 = 3 → t.pyl.lcNext = 3 ∧ t.lifecycle = s.lifecycle
  debug : leAt a 4 1 = 4 → t.bit Fld.PYL_STAT_DEBUG = true

theorem pylEnd_mem (w : State) (st n : Nat) : (w.pylEnd st n).mem = w.mem := (rfl)

theorem endsWith_pylEnd_of_mem {w : State} (hc : w.pyl.cmd = some c) (hm : w.mem = s.mem) (st : Nat) : EndsWith s (w.pylEnd st 0) c st :=
  ⟨pylEnd_cmd hc st 0, sameMem_of_mem ((pylEnd_mem w st 0).trans hm)⟩

theorem authorised_of_good (hc : s.pyl.cmd = some c) {a : List Byte} (hgood : s.authBad a = false) :
    Authorised s (((s.authEffect a).newNonce.putB Fld.PYL_EVT_AUTH_OK true).pylEnd 0 0) c a := by
  obtain ⟨hcmd, hmem, hregs, h1, h2, h3, h4⟩ := authEffect_shows hgood
  generalize s.authEffect a = u at *
  obtain ⟨npyl, nmem, nregs⟩ := newNonce_shows u
  generalize u.newNonce = x at *
  obtain ⟨kpyl, kmem, kok, kregs⟩ := authOk_shows npyl nmem nregs
  generalize x.putB Fld.PYL_EVT_AUTH_OK true = w at *
  have kcmd : w.pyl.cmd = some c := by rw [kpyl, hcmd, hc]
  have hend : EndsWith s (w.pylEnd 0 0) c 0 := endsWith_pylEnd_of_mem kcmd (kmem.trans hmem) 0
  have hn : (w.pylEnd 0 0).pyl.lcNext = u.pyl.lcNext :=
    (show _ = w.pyl.lcNext from rfl).trans (congrArg Pylon.lcNext kpyl)
  have tregs : (w.pylEnd 0 0).regs = w.regs := rfl
  generalize w.pylEnd 0 0 = t at *
  have far : ∀ b ∈ [Reg.PYL_KFUSE, Reg.PYL_STAT], b ∉ Reg.PYL_EVT :: nonceRegs := by decide
  have kget {f : FieldRef} (hf : f.addr ∈ [Reg.PYL_KFUSE, Reg.PYL_STAT]) : t.get f = u.get f :=
    (get_of_regs tregs f).trans (get_of_reg (kregs _ (far _ hf)))
  have hf : t.get Fld.PYL_KFUSE_FUSED = u.get Fld.PYL_KFUSE_FUSED := kget (by decide)
  have hr : t.get Fld.PYL_KFUSE_REVOKED = u.get Fld.PYL_KFUSE_REVOKED := kget (by decide)
  have hl : t.lifecycle = u.lifecycle := kget (by decide)
  have hd : t.bit Fld.PYL_STAT_DEBUG = u.bit Fld.PYL_STAT_DEBUG := congrArg (· != 0) (kget (by decide))
  have hok : t.bit Fld.PYL_EVT_AUTH_OK = true := (congrArg (· != 0) (get_of_regs tregs Fld.PYL_EVT_AUTH_OK)).trans kok
  rw [← hf, ← hr] at h1 h2
  rw [← hn, ← hl] at h3
  rw [← hd] at h4
  refine ⟨hend, hok, fun b hb => ?_, h1, h2, h3, h4⟩
  simp only [List.cons_append, List.nil_append, List.mem_cons, not_or] at hb
  obtain ⟨hevt, hfuse, hstat, hnonce⟩ := hb
  exact (reg_of_regs tregs b).trans ((kregs b (by simp [hevt, hnonce])).trans (hregs b (by simp [hfuse, hstat])))

theorem authRefused_shows (hc : s.pyl.cmd = some c) :
    let t := (s.putB Fld.PYL_EVT_AUTH_REF true).pylEnd 0x24 0
    EndsWith s t c 0x24 ∧ t.bit Fld.PYL_EVT_AUTH_REF = true ∧ SameRegs s t [Reg.PYL_EVT] :=
  ⟨⟨pylEnd_cmd (s := s.putB Fld.PYL_EVT_AUTH_REF true) hc 0x24 0, fun _ => rfl⟩,
    bit_putB_same s Fld.PYL_EVT_AUTH_REF true (by decide) (by decide), SameRegs.put s Fld.PYL_EVT_AUTH_REF 1⟩

theorem keyAuthorisation_serves (h : s.serves c 0x60) :
    let a := s.readBytes c.inA c.inL
    Completes .keyAuthorisation s (fun t =>
      if leAt a 4 1 = 1 ∧ s.lifecycle = 3 ∨ leAt a 4 1 = 3 ∧ s.lifecycle ≠ 2 then EndsWith s t c 0x23 ∧ SameRegs s t []
      else if s.authBad a = true then EndsWith s t c 0x24 ∧ t.bit Fld.PYL_EVT_AUTH_REF = true ∧ SameRegs s t [Reg.PYL_EVT]
      else Authorised s t c a) := by
  refine completes_pylRun h (by simp only [exec, execKeyAuthorisation_eq]; rfl) ?_
  generalize s.readBytes c.inA c.inL = a
  by_cases hlc : leAt a 4 1 = 1 ∧ s.lifecycle = 3 ∨ leAt a 4 1 = 3 ∧ s.lifecycle ≠ 2
  · simp only [if_pos hlc]
    exact ⟨endsWith_pylEnd h.1 _, sameRegs_pylEnd _ _ _⟩
  simp only [if_neg hlc]
  by_cases hbad : s.authBad a = true
  · simp only [if_pos hbad]
    exact authRefused_shows h.1
  · simp only [if_neg hbad]
    exact authorised_of_good h.1 (Bool.eq_false_iff.2 hbad)

/-! ### The boot element (R753) -/

theorem elemReason_lt (s : State) (a : Nat) : s.elemReason a < 256 := by
  have hpr (keys dig ed ml : List Byte) : pairReason keys dig ed ml < 256 := by
    unfold pairReason
    split
    · decide
    split <;> decide
  unfold State.elemReason
  extract_lets hdr len g arb sig dig keys pr
  split
  · decide
  split
  · decide
  split
  · decide
  split
  · decide
  split
  · exact hpr _ _ _ _
  split
  · decide
  split
  · decide
  split
  · decide
  split <;> decide

theorem dmaWrite_shows (s : State) (m : Master) (a : Nat) (l : List Byte) :
    (s.dmaWrite m a l).load = s.load ∧ (s.dmaWrite m a l).pyl.elems = s.pyl.elems := by
  unfold State.dmaWrite
  split
  · rw [setMem_onlyMem]
    exact ⟨rfl, rfl⟩
  · exact ⟨rfl, rfl⟩

/-- The boot ROM's outcome of the check of the element at `a`, with reason `r`. -/
def State.bootOutcome (s : State) (a r entry : Nat) : State :=
  if r = 0 then { s.acceptElem a with load := { (s.acceptElem a).load with bootEntry := some entry } }
  else { ((s.put Fld.PYL_FWSTAT_REASON r).putB Fld.PYL_EVT_BOOT_FAIL true) with load := { s.load with deckHalted := true } }

theorem bootOutcome_refused (s : State) {a r entry : Nat} (h0 : r ≠ 0) (hr : r < 256) :
    let t := s.bootOutcome a r entry
    t.get Fld.PYL_FWSTAT_REASON = r ∧ t.bit Fld.PYL_EVT_BOOT_FAIL = true ∧ t.load.deckHalted = true ∧ t.load.bootEntry = s.load.bootEntry ∧
    SameMem s t := by
  intro t
  have ht : t = { ((s.put Fld.PYL_FWSTAT_REASON r).putB Fld.PYL_EVT_BOOT_FAIL true) with load := { s.load with deckHalted := true } } := if_neg h0
  clear_value t
  subst ht
  refine ⟨?_, bit_putB_same (s.put Fld.PYL_FWSTAT_REASON r) Fld.PYL_EVT_BOOT_FAIL true (by decide) (by decide), rfl, rfl, fun _ => rfl⟩
  exact (get_put_apart (s.put Fld.PYL_FWSTAT_REASON r) (f := Fld.PYL_EVT_BOOT_FAIL) (g := Fld.PYL_FWSTAT_REASON) 1 (by decide)).trans
    ((get_put_same s Fld.PYL_FWSTAT_REASON r (by decide)).trans (Nat.mod_eq_of_lt hr))

theorem bootOutcome_accepted {a entry : Nat} (h0 : s.elemReason a = 0) :
    let t := s.bootOutcome a 0 entry
    t.load.bootEntry = some entry ∧ t.load.deckHalted = s.load.deckHalted ∧
    t.pyl.elems = s.pyl.elems ++ [elemEntry (s.readBytes a 256)] ∧ SameMem s t := by
  intro t
  obtain ⟨hok, r, hr⟩ := of_elemReason_zero h0
  obtain ⟨heq, -⟩ := acceptElem_shows hr (len_of_elemHeaderOk hok)
  have ht : t = { s.acceptElem a with load := { (s.acceptElem a).load with bootEntry := some entry } } := if_pos rfl
  clear_value t
  subst ht
  generalize s.acceptElem a = u at heq ⊢
  refine ⟨rfl, ?_, ?_, fun b => ?_⟩
  · rw [heq]
  · rw [heq]
  · rw [heq]
    rfl

/-- The header of the boot element, where its section ends in the slot. -/
def State.bootHeader (s : State) : List Byte := s.flash s.load.cur (alignUp (leAt s.load.hdr 8 4) 4096) 256

/-- The boot element is copied to the address in its header. -/
def State.copyBoot (s : State) : State :=
  s.dmaWrite 0 (leAt s.bootHeader 0x10 4 - 256) (s.flash s.load.cur (alignUp (leAt s.load.hdr 8 4) 4096) (elemLen s.bootHeader))

theorem copyBoot_shows (s : State) : s.copyBoot.load = s.load ∧ s.copyBoot.pyl.elems = s.pyl.elems := by
  unfold State.copyBoot
  exact dmaWrite_shows _ _ _ _

theorem bootElementVerify_eq (hs : s.load.stage = .run) (ha : s.asleep = false) :
    let h := s.bootHeader
    let a := leAt h 0x10 4 - 256
    let u := if elemHeaderOk h then s.copyBoot else s
    exec .bootElementVerify s = .next (u.bootOutcome a (if !elemHeaderOk h || !(leAt h 9 1).testBit 1 then 1 else u.elemReason a) (leAt h 0x14 4)) := by
  refine congrArg Host.Outcome.next ((if_neg (by simp [hs, ha])).trans ?_)
  rfl

/-- A boot element without a header, or not marked for the boot ROM. -/
theorem bootElementVerify_unmarked (hs : s.load.stage = .run) (ha : s.asleep = false)
    (h : elemHeaderOk s.bootHeader = false ∨ (leAt s.bootHeader 9 1).testBit 1 = false) :
    Completes .bootElementVerify s (fun t => t.get Fld.PYL_FWSTAT_REASON = 1 ∧ t.bit Fld.PYL_EVT_BOOT_FAIL = true ∧
      t.load.deckHalted = true ∧ t.load.bootEntry = s.load.bootEntry) := by
  refine ⟨_, bootElementVerify_eq hs ha, ?_⟩
  have hcond : (!elemHeaderOk s.bootHeader || !(leAt s.bootHeader 9 1).testBit 1) = true := by simpa using h
  rw [if_pos hcond]
  have hload : (if elemHeaderOk s.bootHeader then s.copyBoot else s).load = s.load := by
    split
    · exact (copyBoot_shows s).1
    · rfl
  generalize (if elemHeaderOk s.bootHeader then s.copyBoot else s) = u at hload
  obtain ⟨hr, hf, hd, he, -⟩ := bootOutcome_refused u (a := leAt s.bootHeader 0x10 4 - 256) (entry := leAt s.bootHeader 0x14 4)
    (r := 1) (by decide) (by decide)
  exact ⟨hr, hf, hd, by rw [he, hload]⟩

/-- A marked boot element is copied and checked. -/
theorem bootElementVerify_checked (hs : s.load.stage = .run) (ha : s.asleep = false) (hok : elemHeaderOk s.bootHeader = true)
    (hbit : (leAt s.bootHeader 9 1).testBit 1 = true) {a : Nat} (haddr : leAt s.bootHeader 0x10 4 - 256 = a) :
    Completes .bootElementVerify s (fun t => SameMem s.copyBoot t ∧
      (s.copyBoot.elemReason a = 0 → t.load.bootEntry = some (leAt s.bootHeader 0x14 4) ∧ t.load.deckHalted = s.load.deckHalted ∧
        t.pyl.elems = s.pyl.elems ++ [elemEntry (s.copyBoot.readBytes a 256)]) ∧
      (s.copyBoot.elemReason a ≠ 0 → t.get Fld.PYL_FWSTAT_REASON = s.copyBoot.elemReason a ∧ t.bit Fld.PYL_EVT_BOOT_FAIL = true ∧
        t.load.deckHalted = true ∧ t.load.bootEntry = s.load.bootEntry)) := by
  refine ⟨_, bootElementVerify_eq hs ha, ?_⟩
  have hcond : ¬(!elemHeaderOk s.bootHeader || !(leAt s.bootHeader 9 1).testBit 1) = true := by simp [hok, hbit]
  rw [if_neg hcond, if_pos hok, haddr]
  obtain ⟨hload, helems⟩ := copyBoot_shows s
  generalize s.copyBoot = u at *
  by_cases h0 : u.elemReason a = 0
  · obtain ⟨he, hd, hj, hm⟩ := bootOutcome_accepted (entry := leAt s.bootHeader 0x14 4) h0
    rw [h0]
    exact ⟨hm, fun _ => ⟨he, by rw [hd, hload], by rw [hj, helems]⟩, fun hn => absurd rfl hn⟩
  · obtain ⟨hr, hf, hd, he, hm⟩ := bootOutcome_refused u (a := a) (entry := leAt s.bootHeader 0x14 4) h0 (elemReason_lt u a)
    exact ⟨hm, fun hz => absurd hz h0, fun _ => ⟨hr, hf, hd, by rw [he, hload]⟩⟩

/-- Settles O56: each operation by its own lemma, over the run of the command in service; the boot element by its outcome. -/
theorem pylonVerifiesElementsAndAuthorisations : Obligations.PylonVerifiesElementsAndAuthorisations := by
  intro s c
  refine ⟨elementVerify_serves, regionWithdraw_serves, attestationReport_serves, fun h => ?_, fun h => ?_, fun hs ha => ?_⟩
  · obtain ⟨t, ht, hauth⟩ := keyAuthorisation_serves h
    refine ⟨t, ht, ?_⟩
    dsimp only
    split
    · next hlc =>
      rwa [if_pos hlc] at hauth
    split
    · next hlc hbad =>
      rwa [if_neg hlc, if_pos hbad] at hauth
    · next hlc hbad =>
      rw [if_neg hlc, if_neg hbad] at hauth
      exact ⟨hauth.ends, hauth.ok, hauth.regs, hauth.fuse, hauth.revoke, hauth.ret, hauth.debug⟩
  · exact congrArg Host.Outcome.next (if_pos h)
  · exact ⟨bootElementVerify_unmarked hs ha, fun hok hbit => bootElementVerify_checked hs ha hok hbit rfl⟩

end Sys2Proof.Machine

/-! SUPPORT for O59. How many units of each kind the device has: what each operation leaves of those numbers. -/

namespace Sys2Proof.Machine

/-- The numbers of units of every kind that `State.shaped` counts. -/
def State.units (s : State) : List Nat :=
  [s.cwy.hosts.length, s.spn.links.length, s.spn.twins.length, s.spn.twinRx.length, s.spn.nodes.length, s.phs.cur.length, s.phs.nxt.length,
  s.kst.outs.length, s.arc.outs.length, s.arc.piers.length, s.arc.xps.length, s.grd.length, s.prp.ins.length, s.prp.imc.length,
  s.tol.dc.length, s.tol.ac.length, s.tol.heads.length, s.tol.val.length, s.tol.csn.length, s.mods.length, s.hkp.same.length, s.sty.length,
  s.vlk.length, s.can.length, s.trs.chans.length]

@[simp] theorem units_mk {
    regs img secLen periodUs siteNs siteFrac ports cwy load mem truss spn phs kst arc prp tol pyl grd mods hkp sty vlk can trs pwr freeCtr
    rdata pending} :
    State.units ⟨regs, img, secLen, periodUs, siteNs, siteFrac, ports, cwy, load, mem, truss, spn, phs, kst, arc, prp, tol, pyl, grd, mods,
    hkp, sty, vlk, can, trs, pwr, freeCtr, rdata, pending⟩ =
      [cwy.hosts.length, spn.links.length, spn.twins.length, spn.twinRx.length, spn.nodes.length, phs.cur.length, phs.nxt.length,
      kst.outs.length, arc.outs.length, arc.piers.length, arc.xps.length, grd.length, prp.ins.length, prp.imc.length, tol.dc.length,
      tol.ac.length, tol.heads.length, tol.val.length, tol.csn.length, mods.length, hkp.same.length, sty.length, vlk.length, can.length,
      trs.chans.length] := (rfl)

/-- The numbers of a device with every unit once. -/
def fullUnits : List Nat := [2, 12, 2, 2, 12, 12, 12, 8, 16, 24, 64, 2, 16, 4, 8, 4, 8, 40, 40, 8, 12, 8, 8, 4, 16]

theorem shaped_iff_units (s : State) : s.shaped = true ↔ s.units = fullUnits := by
  simp [State.shaped, State.units, fullUnits, and_assoc]

/-- The numbers of one state fold back. -/
@[simp] theorem units_fold (s : State) :
    [s.cwy.hosts.length, s.spn.links.length, s.spn.twins.length, s.spn.twinRx.length, s.spn.nodes.length, s.phs.cur.length,
    s.phs.nxt.length, s.kst.outs.length, s.arc.outs.length, s.arc.piers.length, s.arc.xps.length, s.grd.length, s.prp.ins.length,
    s.prp.imc.length, s.tol.dc.length, s.tol.ac.length, s.tol.heads.length, s.tol.val.length, s.tol.csn.length, s.mods.length,
    s.hkp.same.length, s.sty.length, s.vlk.length, s.can.length, s.trs.chans.length] = s.units := (rfl)

@[simp] theorem units_ite (c : Prop) [Decidable c] (s t : State) :
    (if c then s else t).units = if c then s.units else t.units := by split <;> rfl

@[simp] theorem units_snd_ite {α : Type} (c : Prop) [Decidable c] (s t : α × State) :
    (if c then s else t).2.units = if c then s.2.units else t.2.units := by split <;> rfl

@[simp] theorem units_foldl {α : Type} (l : List α) (f : State → α → State) (s : State) (h : ∀ s x, (f s x).units = s.units) :
    (l.foldl f s).units = s.units := by
  induction l generalizing s with
  | nil => rfl
  | cons x t ih => exact (ih (f s x)).trans (h s x)

theorem units_foldl_fst {α β : Type} (l : List α) (f : State × β → α → State × β) (x : State × β) (h : ∀ y a, (f y a).1.units = y.1.units) :
    (l.foldl f x).1.units = x.1.units := by
  induction l generalizing x with
  | nil => rfl
  | cons a t ih => exact (ih (f x a)).trans (h x a)

@[simp] theorem units_forEach (l : List Nat) (s : State) (f : State → Nat → State) (h : ∀ s x, (f s x).units = s.units) :
    (forEach l s f).units = s.units := units_foldl l f s h

@[simp] theorem setReg_units (s : State) (a v : Nat) : (s.setReg a v).units = s.units := (rfl)
@[simp] theorem put_units (s : State) (f : FieldRef) (v : Nat) : (s.put f v).units = s.units := (rfl)
@[simp] theorem putB_units (s : State) (f : FieldRef) (b : Bool) : (s.putB f b).units = s.units := (rfl)
@[simp] theorem putS_units (s : State) (f : FieldRef) (i : Int) : (s.putS f i).units = s.units := (rfl)
@[simp] theorem putU_units (s : State) (f : FieldRef) (i : Int) : (s.putU f i).units = s.units := (rfl)
@[simp] theorem inc_units (s : State) (f : FieldRef) : (s.inc f).units = s.units := (rfl)
@[simp] theorem putBit_units (s : State) (f : FieldRef) (i : Nat) (b : Bool) : (s.putBit f i b).units = s.units := (rfl)
@[simp] theorem setPort_units (s : State) (q v : Nat) : (s.setPort q v).units = s.units := (rfl)
@[simp] theorem fresh_units (s : State) (w : Nat) : (s.fresh w).2.units = s.units := (rfl)
@[simp] theorem freshBelow_units (s : State) (n : Nat) : (s.freshBelow n).2.units = s.units := (rfl)

@[simp] theorem loadReg_units (s : State) (a v : Nat) : (s.loadReg a v).units = s.units := by
  unfold State.loadReg
  split
  · exact units_foldl _ _ _ fun _ _ => rfl
  · rfl

@[simp] theorem violate_units (s : State) (m : Master) (a : Nat) : (s.violate m a).units = s.units := (rfl)

@[simp] theorem writeField_units (s : State) (a v : Nat) (f : FieldDesc) : (s.writeField a v f).units = s.units := by
  unfold State.writeField; cases f.acc <;> simp

@[simp] theorem writeByCode_units (s : State) (a v : Nat) : (s.writeByCode a v).units = s.units := by
  unfold State.writeByCode; split <;> simp

/-! ### FaultOps -/
@[simp] theorem State.modLink_units (s : State) (l : Nat) (f : Link → Link) : (s.modLink l f).units = s.units := by simp [State.modLink]
@[simp] theorem State.modNode_units (s : State) (n : Nat) (f : Node → Node) : (s.modNode n f).units = s.units := by simp [State.modNode]
@[simp] theorem State.modOut_units (s : State) (m : Nat) (f : Outlet → Outlet) : (s.modOut m f).units = s.units := by simp [State.modOut]
@[simp] theorem State.modIn_units (s : State) (n : Nat) (f : SafeIn → SafeIn) : (s.modIn n f).units = s.units := by simp [State.modIn]
@[simp] theorem State.syncLower_units (s : State) : s.syncLower.units = s.units := by simp [State.syncLower]
@[simp] theorem State.lowerBroadcast_units (s : State) : s.lowerBroadcast.units = s.units := by simp [State.lowerBroadcast]
@[simp] theorem State.abandonChecks_units (s : State) (outsMask : Nat) : (s.abandonChecks outsMask).units = s.units := by simp [State.abandonChecks]
@[simp] theorem State.abandonXps_units (s : State) (piers : Nat) : (s.abandonXps piers).units = s.units := by simp [State.abandonXps]
@[simp] theorem State.assertSafe_units (s : State) : s.assertSafe.units = s.units := by simp [State.assertSafe]
@[simp] theorem State.outputsOff_units (s : State) (m : Nat) : (s.outputsOff m).units = s.units := by simp [State.outputsOff]
@[simp] theorem State.setArmed_units (s : State) (m : Nat) : (s.setArmed m).units = s.units := by simp [State.setArmed]
@[simp] theorem State.settleOutputs_units (s : State) : s.settleOutputs.units = s.units := by simp [State.settleOutputs]
@[simp] theorem State.settleDisarm_units (s : State) : s.settleDisarm.units = s.units := by simp [State.settleDisarm]
@[simp] theorem State.syncQueue_units (s : State) : s.syncQueue.units = s.units := (rfl)
@[simp] theorem State.syncLatch_units (s : State) : s.syncLatch.units = s.units := by simp [State.syncLatch]
@[simp] theorem State.writeRec_units (s : State) (r : FaultRec) : (s.writeRec r).units = s.units := (rfl)
@[simp] theorem State.classB_units (s : State) (r : FaultRec) : (s.classB r).units = s.units := by simp [State.classB]

@[simp] theorem State.startHandling_units (s : State) (r : FaultRec) :
    (s.startHandling r).units = s.units := by
  simp only [State.startHandling]; repeat' split
  all_goals simp

@[simp] theorem State.meetManager_units (s : State) (r : FaultRec) :
    (s.meetManager r).units = s.units := by
  unfold State.meetManager; repeat' split
  all_goals simp

@[simp] theorem State.report_units (s : State) (code cls src outlets piers : Nat) : (s.report code cls src outlets piers).units = s.units :=
  by simp [State.report]

@[simp] theorem State.reportOutlet_units (s : State) (code cls src m : Nat) : (s.reportOutlet code cls src m).units = s.units :=
  by simp [State.reportOutlet]

@[simp] theorem State.reportPier_units (s : State) (code cls src n : Nat) : (s.reportPier code cls src n).units = s.units :=
  by simp [State.reportPier]

@[simp] theorem State.reportNone_units (s : State) (code cls src : Nat) : (s.reportNone code cls src).units = s.units := by simp [State.reportNone]
@[simp] theorem State.syncInput_units (s : State) (n : Nat) : (s.syncInput n).units = s.units := (rfl)
@[simp] theorem State.releaseCause_units (s : State) (r : FaultRec) : (s.releaseCause r).units = s.units := by simp [State.releaseCause]
@[simp] theorem State.clearFaults_units (s : State) (p : FaultRec → Bool) : (s.clearFaults p).units = s.units := by simp [State.clearFaults]
@[simp] theorem State.pressAct_units (s : State) : s.pressAct.units = s.units := by simp [State.pressAct]

@[simp] theorem State.endHandling_units (s : State) :
    s.endHandling.units = s.units := by
  simp only [State.endHandling]; repeat' split
  all_goals simp

@[simp] theorem State.bOff_units (s : State) (m : Nat) : (s.bOff m).units = s.units := by simp [State.bOff]
/-! ### Access -/
@[simp] theorem State.dmaRead_units (s : State) (m : Master) (a n : Nat) : (s.dmaRead m a n).2.units = s.units := by simp [State.dmaRead]
/-! ### Trestle -/
@[simp] theorem State.modChan_units (s : State) (n : Nat) (f : Channel → Channel) : (s.modChan n f).units = s.units := by simp [State.modChan]


@[simp] theorem State.trsSettle1_units (s : State) (n : Nat) : (s.trsSettle1 n).units = s.units := by simp [State.trsSettle1]
@[simp] theorem State.trsSettle_units (s : State) (n : Nat) : (s.trsSettle n).units = s.units := by simp [State.trsSettle]
@[simp] theorem State.trsCommand_units (s : State) (l : Nat) : (s.trsCommand l).units = s.units := by simp [State.trsCommand]
@[simp] theorem State.wrTrsCtrl_units (s : State) (n v : Nat) : (s.wrTrsCtrl n v).units = s.units := by simp [State.wrTrsCtrl]
@[simp] theorem State.trsLatch_units (s : State) (n : Nat) (f : FieldRef) : (s.trsLatch n f).units = s.units := by simp [State.trsLatch]
@[simp] theorem State.wrTrsFault_units (s : State) (n v : Nat) : (s.wrTrsFault n v).units = s.units := by simp [State.wrTrsFault]
@[simp] theorem State.trsMeasure_units (s : State) (n : Nat) : (s.trsMeasure n).units = s.units := (rfl)
@[simp] theorem State.trsShow_units (s : State) : s.trsShow.units = s.units := by simp [State.trsShow]
@[simp] theorem State.trsRefuse_units (s : State) : s.trsRefuse.units = s.units := by simp [State.trsRefuse]
@[simp] theorem State.trsConfig_units (s : State) : s.trsConfig.units = s.units := by simp [State.trsConfig]
@[simp] theorem State.trsSeal_units (s : State) : s.trsSeal.units = s.units := by simp [State.trsSeal]
/-! ### Reset -/
@[simp] theorem State.keepRegs_units (s : State) (p : Nat → Bool) : (s.keepRegs p).units = s.units := (rfl)

@[simp] theorem State.clearEngines_units (s : State) (h : s.units = fullUnits) : s.clearEngines.units = s.units := by
  rw [h]
  simp only [State.units, fullUnits, List.cons.injEq] at h
  simp [State.clearEngines, fullUnits, h]

@[simp] theorem State.newNonce_units (s : State) : s.newNonce.units = s.units := (rfl)
@[simp] theorem State.restartRegs_units (s : State) (shut : Bool) : (s.restartRegs shut).units = s.units := by simp [State.restartRegs]
@[simp] theorem State.dropRequest_units (s : State) : s.dropRequest.units = s.units := (rfl)
@[simp] theorem State.allOff_units (s : State) : s.allOff.units = s.units := (rfl)
/-! ### Parapet -/
@[simp] theorem State.reportInput_units (s : State) (n code : Nat) : (s.reportInput n code).units = s.units := by simp [State.reportInput]
@[simp] theorem State.setInput_units (s : State) (n : Nat) (i : SafeIn) : (s.setInput n i).units = s.units := by simp [State.setInput]

@[simp] theorem State.inputFault_units (s : State) (n code : Nat) (f : SafeIn → SafeIn) : (s.inputFault n code f).units = s.units :=
  by simp [State.inputFault]

@[simp] theorem State.inputChannel_units (s : State) (n : Nat) (b level : Bool) : (s.inputChannel n b level).units = s.units :=
  by simp [State.inputChannel]

@[simp] theorem State.outDelayEnd_units (s : State) : s.outDelayEnd.units = s.units := by simp [State.outDelayEnd]
@[simp] theorem State.doubleFault_units (s : State) : s.doubleFault.units = s.units := by simp [State.doubleFault]

@[simp] theorem State.wrFclrk_units (s : State) (m : Master) (v : Nat) : (s.wrFclrk m v).units = s.units := by
  unfold State.wrFclrk
  split <;> rfl

@[simp] theorem State.wrFclr_units (s : State) (m : Master) (v : Nat) : (s.wrFclr m v).units = s.units := by simp [State.wrFclr]
@[simp] theorem State.armPiers_units (s : State) (mask : Nat) : (s.armPiers mask).units = s.units := by simp [State.armPiers]
@[simp] theorem State.disarmPiers_units (s : State) (mask : Nat) : (s.disarmPiers mask).units = s.units := by simp [State.disarmPiers]
@[simp] theorem State.wrArmreq_units (s : State) (m : Master) (v : Nat) : (s.wrArmreq m v).units = s.units := by simp [State.wrArmreq]
@[simp] theorem State.wrSwstop_units (s : State) (m : Master) (v : Nat) : (s.wrSwstop m v).units = s.units := by simp [State.wrSwstop]
@[simp] theorem State.psoTurnOn_units (s : State) (k : Nat) : (s.psoTurnOn k).units = s.units := by simp [State.psoTurnOn]
@[simp] theorem State.wrPso_units (s : State) (v : Nat) : (s.wrPso v).units = s.units := by simp [State.wrPso]
@[simp] theorem State.parapetRelease_units (s : State) : s.parapetRelease.units = s.units := by simp [State.parapetRelease]
@[simp] theorem State.modImc_units (s : State) (n : Nat) (f : Imc → Imc) : (s.modImc n f).units = s.units := by simp [State.modImc]

@[simp] theorem State.imcResult_units (s : State) (n : Nat) (r : Rat) :
    (s.imcResult n r).units = s.units := by
  unfold State.imcResult; repeat' split
  all_goals simp

/-! ### Span -/
@[simp] theorem State.modPier_units (s : State) (n : Nat) (f : Pier → Pier) : (s.modPier n f).units = s.units := by simp [State.modPier]
@[simp] theorem State.modPhase_units (s : State) (n p : Nat) (f : Phase → Phase) : (s.modPhase n p f).units = s.units := by simp [State.modPhase]

@[simp] theorem State.formCore_units (s : State) (n : Nat) :
    (s.formCore n).units = s.units := by
  simp only [State.formCore]; repeat' split
  all_goals simp

@[simp] theorem State.sendDown_units (s : State) (l : Nat) : (s.sendDown l).units = s.units := by simp [State.sendDown]
@[simp] theorem State.routeSamples_units (s : State) (n : Nat) (u : UpFrame) : (s.routeSamples n u).units = s.units := by simp [State.routeSamples]
@[simp] theorem State.takeTemps_units (s : State) (n : Nat) (u : UpFrame) : (s.takeTemps n u).units = s.units := by simp [State.takeTemps]

@[simp] theorem State.measureDelay_units (s : State) (l interval turn : Nat) : (s.measureDelay l interval turn).units = s.units :=
  by simp [State.measureDelay]

@[simp] theorem State.bringReply_units (s : State) (l : Nat) (m : Mgmt) (data : Nat) : (s.bringReply l m data).units = s.units :=
  by simp [State.bringReply]

@[simp] theorem State.fwReply_units (s : State) (l w : Nat) (busy : Bool) : (s.fwReply l w busy).units = s.units := by simp [State.fwReply]

@[simp] theorem State.mgmtReply_units (s : State) (l w : Nat) :
    (s.mgmtReply l w).units = s.units := by
  unfold State.mgmtReply; repeat' split
  all_goals simp

@[simp] theorem State.takeUp_units (s : State) (l : Nat) (u : UpFrame) (interval : Nat) : (s.takeUp l u interval).units = s.units :=
  by simp [State.takeUp]

@[simp] theorem State.cutLink_units (s : State) (l : Nat) : (s.cutLink l).units = s.units := by simp [State.cutLink]
@[simp] theorem State.startBring_units (s : State) (l : Nat) : (s.startBring l).units = s.units := by simp [State.startBring]
@[simp] theorem State.wrSpanCtrl_units (s : State) (l v : Nat) : (s.wrSpanCtrl l v).units = s.units := by simp [State.wrSpanCtrl]
@[simp] theorem State.wrMgmtc_units (s : State) (l v : Nat) : (s.wrMgmtc l v).units = s.units := by simp [State.wrMgmtc]
@[simp] theorem State.senses_units (s : State) : (s.senses).2.units = s.units := (rfl)
@[simp] theorem State.nodePeriod_units (s : State) (n : Nat) : (s.nodePeriod n).units = s.units := by simp [State.nodePeriod]
@[simp] theorem State.nodePeriods_units (s : State) : s.nodePeriods.units = s.units := by simp [State.nodePeriods]
@[simp] theorem State.modTwin_units (s : State) (t : Nat) (f : Link → Link) : (s.modTwin t f).units = s.units := by simp [State.modTwin]

@[simp] theorem State.measureTwin_units (s : State) (t interval turn : Nat) : (s.measureTwin t interval turn).units = s.units :=
  by simp [State.measureTwin]

@[simp] theorem State.followTime_units (s : State) (target clock : Nat) : (s.followTime target clock).units = s.units := (rfl)

@[simp] theorem State.sendTwin_units (s : State) (t : Nat) :
    (s.sendTwin t).units = s.units := by
  simp only [State.sendTwin]; repeat' split
  all_goals simp

@[simp] theorem State.takeTwin_units (s : State) (t : Nat) (bytes : List Byte) (timer : Nat) : (s.takeTwin t bytes timer).units = s.units :=
  by simp [State.takeTwin]

/-! ### Phase -/
@[simp] theorem State.showPier_units (s : State) (n : Nat) (q : Pier) (e : PhsEvt) : (s.showPier n q e).units = s.units := by simp [State.showPier]
@[simp] theorem State.peak_units (s : State) (f : FieldRef) (x : Int) (mag : Bool) : (s.peak f x mag).units = s.units := by simp [State.peak]

@[simp] theorem State.telemetry_units (s : State) (n : Nat) :
    (s.telemetry n).units = s.units := by
  refine units_foldl _ _ _ fun s p => ?_
  generalize s.tlmOf n p = t
  dsimp only
  cases nth none t 0 <;> cases nth none t 1 <;> cases nth none t 2 <;> cases nth none t 3 <;> simp

@[simp] theorem State.closeWindow_units (s : State) (n : Nat) : (s.closeWindow n).units = s.units := by simp [State.closeWindow]
@[simp] theorem State.telemeter_units (s : State) (n : Nat) : (s.telemeter n).units = s.units := by simp [State.telemeter]
@[simp] theorem State.shortTest_units (s : State) (n : Nat) (q : Pier) : (s.shortTest n q).units = s.units := by simp [State.shortTest]
@[simp] theorem State.evaluate_units (s : State) (n : Nat) : (s.evaluate n).units = s.units := by simp [State.evaluate]

@[simp] theorem State.applyPier_units (s : State) (n : Nat) :
    (s.applyPier n).units = s.units := by
  simp only [State.applyPier]; repeat' split
  all_goals simp

@[simp] theorem State.reevaluate_units (s : State) (n : Nat) : (s.reevaluate n).units = s.units := by simp [State.reevaluate]
@[simp] theorem State.detect_units (s : State) (n p cause : Nat) : (s.detect n p cause).units = s.units := by simp [State.detect]
@[simp] theorem State.wrPhsCtrl_units (s : State) (n v : Nat) : (s.wrPhsCtrl n v).units = s.units := by simp [State.wrPhsCtrl]
@[simp] theorem State.wrPhsShed_units (s : State) (n v : Nat) : (s.wrPhsShed n v).units = s.units := by simp [State.wrPhsShed]
@[simp] theorem State.wrPhsFault_units (s : State) (n v : Nat) : (s.wrPhsFault n v).units = s.units := by simp [State.wrPhsFault]
@[simp] theorem State.wrPhsTlm_units (s : State) (v : Nat) : (s.wrPhsTlm v).units = s.units := by simp [State.wrPhsTlm]
/-! ### Keystone -/
@[simp] theorem State.modSlot_units (s : State) (e p : Nat) (f : Slot → Slot) : (s.modSlot e p f).units = s.units := (rfl)
@[simp] theorem State.kstLast_units (s : State) (cause e p : Nat) : (s.kstLast cause e p).units = s.units := (rfl)
@[simp] theorem State.slotFault_units (s : State) (k : Slot) (code cls : Nat) : (s.slotFault k code cls).units = s.units := by simp [State.slotFault]
@[simp] theorem State.markFailed_units (s : State) (e : Nat) : (s.markFailed e).units = s.units := (rfl)
@[simp] theorem State.engineFails_units (s : State) (e : Nat) : (s.engineFails e).units = s.units := by simp [State.engineFails]

@[simp] theorem State.spareFails_units (s : State) :
    s.spareFails.units = s.units := by
  simp only [State.spareFails]; repeat' split
  all_goals simp

@[simp] theorem State.noteErr_units (s : State) (err : EngErr) (eng e p : Nat) :
    (s.noteErr err eng e p).units = s.units := by
  unfold State.noteErr; repeat' split
  all_goals simp

@[simp] theorem State.spareErr_units (s : State) (err : EngErr) :
    (s.spareErr err).units = s.units := by
  unfold State.spareErr; repeat' split
  all_goals simp

@[simp] theorem State.slotErr_units (s : State) (err : EngErr) (e p : Nat) : (s.slotErr err e p).units = s.units := by simp [State.slotErr]
@[simp] theorem State.mismatch_units (s : State) (e p : Nat) : (s.mismatch e p).units = s.units := by simp [State.mismatch]
@[simp] theorem State.outletRef_units (s : State) (k : Slot) : (s.outletRef k).units = s.units := by simp [State.outletRef]
@[simp] theorem State.runSlot_units (s : State) (k : Slot) : (s.runSlot k).units = s.units := by simp [State.runSlot]

@[simp] theorem State.takeCycles_units (s : State) (e : Nat) :
    (s.takeCycles e).units = s.units := by
  unfold State.takeCycles; repeat' split
  all_goals simp

@[simp] theorem State.evalSlot_units (s : State) (k : Slot) (idle : Bool) : (s.evalSlot k idle).units = s.units := by simp [State.evalSlot]

@[simp] theorem State.slotEvaluation_units (s : State) (e p : Nat) (err : EngErr) :
    (s.slotEvaluation e p err).units = s.units := by
  unfold State.slotEvaluation; repeat' split
  all_goals simp

@[simp] theorem State.latchOutlet_units (s : State) (m : Nat) : (s.latchOutlet m).units = s.units := by simp [State.latchOutlet]

@[simp] theorem State.modeChange_units (s : State) (m : Nat) (was : Bool) (ref : Rat) :
    (s.modeChange m was ref).units = s.units := by
  unfold State.modeChange
  split
  · rfl
  · cases s.slotInForce m <;> simp [State.modOut]

@[simp] theorem State.takeSwaps_units (s : State) : s.takeSwaps.units = s.units := by simp [State.takeSwaps]

@[simp] theorem State.takeOver_units (s : State) :
    s.takeOver.units = s.units := by
  unfold State.takeOver; repeat' split
  all_goals simp

@[simp] theorem State.showBusy_units (s : State) : s.showBusy.units = s.units := by simp [State.showBusy]
@[simp] theorem State.writeCapi_units (s : State) (m : Nat) : (s.writeCapi m).units = s.units := (rfl)
@[simp] theorem State.kstPeriod_units (s : State) : s.kstPeriod.units = s.units := by simp [State.kstPeriod]

@[simp] theorem State.wrBank_units (s : State) (e d v : Nat) :
    (s.wrBank e d v).units = s.units := by
  unfold State.wrBank; repeat' split
  all_goals simp

@[simp] theorem State.wrOutCtrl_units (s : State) (m v : Nat) : (s.wrOutCtrl m v).units = s.units := by simp [State.wrOutCtrl]
@[simp] theorem State.wrOutSet_units (s : State) (m v : Nat) : (s.wrOutSet m v).units = s.units := by simp [State.wrOutSet]
/-! ### Truss -/
@[simp] theorem State.trussTick_units (s : State) : s.trussTick.units = s.units := by simp [State.trussTick]
/-! ### Arch -/

@[simp] theorem State.modArc_units (s : State) (f : Arch → Arch)
    (h : ∀ a, (f a).outs.length = a.outs.length ∧ (f a).piers.length = a.piers.length ∧ (f a).xps.length = a.xps.length) :
    (s.modArc f).units = s.units := by
  simp [State.modArc, h]

@[simp] theorem State.modArcPier_units (s : State) (c : Nat) (f : ArcPier → ArcPier) : (s.modArcPier c f).units = s.units := by simp [State.modArcPier]
@[simp] theorem State.modArcOut_units (s : State) (c : Nat) (f : ArcOut → ArcOut) : (s.modArcOut c f).units = s.units := by simp [State.modArcOut]
@[simp] theorem State.modXp_units (s : State) (k : Nat) (f : ArcXp → ArcXp) : (s.modXp k f).units = s.units := by simp [State.modXp]
@[simp] theorem State.setPier_units (s : State) (c st o : Nat) : (s.setPier c st o).units = s.units := (rfl)
@[simp] theorem State.setTarget_units (s : State) (c t : Nat) : (s.setTarget c t).units = s.units := (rfl)
@[simp] theorem State.setXp_units (s : State) (k st : Nat) : (s.setXp k st).units = s.units := (rfl)
@[simp] theorem State.arcEvt_units (s : State) (f : FieldRef) : (s.arcEvt f).units = s.units := (rfl)
@[simp] theorem State.accumulate_units (s : State) : s.accumulate.units = s.units := by simp [State.accumulate]
@[simp] theorem State.takeMeans_units (s : State) : s.takeMeans.units = s.units := by simp [State.takeMeans]
@[simp] theorem State.dropHand_units (s : State) (c : Nat) : (s.dropHand c).units = s.units := (rfl)
@[simp] theorem State.modHand_units (s : State) (c : Nat) (f : HandOff → HandOff) : (s.modHand c f).units = s.units := (rfl)
@[simp] theorem State.syncPiers_units (s : State) : s.syncPiers.units = s.units := by simp [State.syncPiers]

@[simp] theorem State.endHand_units (s : State) (c : Nat) (ok : Bool) :
    (s.endHand c ok).units = s.units := by
  unfold State.endHand; repeat' split
  all_goals simp

@[simp] theorem State.touchOut_units (s : State) (o : Nat) : (s.touchOut o).units = s.units := by simp [State.touchOut]
@[simp] theorem State.beginOpen_units (s : State) (c : Nat) : (s.beginOpen c).units = s.units := by simp [State.beginOpen]

@[simp] theorem State.beginMatch_units (s : State) (c : Nat) :
    (s.beginMatch c).units = s.units := by
  unfold State.beginMatch; repeat' split
  all_goals simp

@[simp] theorem State.startHand_units (s : State) (c o : Nat) : (s.startHand c o).units = s.units := by simp [State.startHand]
@[simp] theorem State.toFree_units (s : State) (c : Nat) : (s.toFree c).units = s.units := (rfl)
@[simp] theorem State.syncPier_units (s : State) (n : Nat) : (s.syncPier n).units = s.units := by simp [State.syncPier]
@[simp] theorem State.syncArcPiers_units (s : State) : s.syncArcPiers.units = s.units := by simp [State.syncArcPiers]

@[simp] theorem State.advance_units (s : State) (es : List LOut) (h : HandOff) :
    (s.advance es h).units = s.units := by
  simp only [State.advance]; repeat' split
  all_goals simp

@[simp] theorem State.releaseIdle_units (s : State) : s.releaseIdle.units = s.units := by simp [State.releaseIdle]
@[simp] theorem State.order1_units (s : State) (c o : Nat) : (s.order1 c o).units = s.units := by simp [State.order1]

@[simp] theorem State.takeMove_units (s : State) :
    s.takeMove.units = s.units := by
  simp only [State.takeMove]; repeat' split
  all_goals simp

@[simp] theorem State.takeAlloc_units (s : State) : s.takeAlloc.units = s.units := by simp [State.takeAlloc]
@[simp] theorem State.takeOrders_units (s : State) : s.takeOrders.units = s.units := by simp [State.takeOrders]
@[simp] theorem State.countRecords_units (s : State) : s.countRecords.units = s.units := by simp [State.countRecords]
@[simp] theorem State.commitShadow_units (s : State) : s.commitShadow.units = s.units := by simp [State.commitShadow]
@[simp] theorem State.ceilRise_units (s : State) (m chg dis : Nat) : (s.ceilRise m chg dis).units = s.units := by simp [State.ceilRise]

@[simp] theorem State.applyArch_units (s : State) :
    s.applyArch.units = s.units := by
  unfold State.applyArch
  split
  · rfl
  · refine (units_forEach _ _ _ fun s x => by simp).trans ?_
    split
    all_goals
      (try rw [putS_units])
      refine (units_forEach _ _ _ fun s x => ?_).trans rfl
      split <;> simp

@[simp] theorem State.syncOutStates_units (s : State) : s.syncOutStates.units = s.units := by simp [State.syncOutStates]
@[simp] theorem State.writeEmax_units (s : State) : s.writeEmax.units = s.units := by simp [State.writeEmax]

@[simp] theorem State.showLedger_units (s : State) (l : Ledger) :
    (s.showLedger l).units = s.units := by
  unfold State.showLedger
  rw [putB_units]
  refine (units_forEach _ _ _ fun s x => ?_).trans ?_
  · split <;> simp
  · rw [putS_units]; split <;> simp

@[simp] theorem State.showAlloc_units (s : State) : s.showAlloc.units = s.units := by simp [State.showAlloc]
@[simp] theorem State.takeLedger_units (s : State) (l : Ledger) : (s.takeLedger l).units = s.units := (rfl)
@[simp] theorem State.archBegin_units (s : State) : s.archBegin.units = s.units := by simp [State.archBegin]

@[simp] theorem State.archPlan_units (s : State) (hold : Bool) :
    (s.archPlan hold).units = s.units := by
  simp only [State.archPlan]; repeat' split
  all_goals simp

@[simp] theorem State.takeFar_units (s : State) (p : List Byte) : (s.takeFar p).units = s.units := by simp [State.takeFar]
@[simp] theorem State.takeRecord_units (s : State) (p : List Byte) : (s.takeRecord p).units = s.units := by simp [State.takeRecord]
@[simp] theorem State.openXp_units (s : State) (k : Nat) : (s.openXp k).units = s.units := by simp [State.openXp]

@[simp] theorem State.declared_units (s : State) (c : Nat) :
    (s.declared c).units = s.units := by
  unfold State.declared; repeat' split
  all_goals simp

@[simp] theorem State.settle_units (s : State) (c : Nat) : (s.settle c).units = s.units := by simp [State.settle]

@[simp] theorem State.contactMoved_units (s : State) (k : Nat) (closed : Bool) :
    (s.contactMoved k closed).units = s.units := by
  simp only [State.contactMoved]; repeat' split
  all_goals simp

@[simp] theorem State.putContest_units (s : State) (kind i : Nat) (b : Bool) :
    (s.putContest kind i b).units = s.units := by
  unfold State.putContest; repeat' split
  all_goals simp

@[simp] theorem State.reportUnit_units (s : State) (kind i cls : Nat) :
    (s.reportUnit kind i cls).units = s.units := by
  unfold State.reportUnit; repeat' split
  all_goals simp

@[simp] theorem State.endHandsOf_units (s : State) (kind i : Nat) : (s.endHandsOf kind i).units = s.units := by simp [State.endHandsOf]

@[simp] theorem State.contestWrite_units (s : State) (kind i : Nat) :
    (s.contestWrite kind i).units = s.units := by
  unfold State.contestWrite; repeat' split
  all_goals simp

@[simp] theorem State.wrContP_units (s : State) (v : Nat) : (s.wrContP v).units = s.units := by simp [State.wrContP]
@[simp] theorem State.wrContO_units (s : State) (v : Nat) : (s.wrContO v).units = s.units := by simp [State.wrContO]
@[simp] theorem State.wrContX_units (s : State) (k v : Nat) : (s.wrContX k v).units = s.units := by simp [State.wrContX]
@[simp] theorem State.wrShadow_units (s : State) (a v : Nat) : (s.wrShadow a v).units = s.units := by simp [State.wrShadow]
@[simp] theorem State.wrPol_units (s : State) (m v : Nat) : (s.wrPol m v).units = s.units := by simp [State.wrPol]

@[simp] theorem State.refreshOvr_units (s : State) :
    s.refreshOvr.units = s.units := by
  refine units_forEach _ _ _ fun s n => ?_
  split
  · split <;> simp
  · rfl

@[simp] theorem State.arcPeriod_units (s : State) : s.arcPeriod.units = s.units := by simp [State.arcPeriod]
@[simp] theorem State.vehicleArch_units (s : State) : s.vehicleArch.units = s.units := by simp [State.vehicleArch]
/-! ### Girder -/
@[simp] theorem State.modGu_units (s : State) (u : Nat) (f : GUnit → GUnit) : (s.modGu u f).units = s.units := by simp [State.modGu]
@[simp] theorem State.syncGu_units (s : State) (u : Nat) : (s.syncGu u).units = s.units := (rfl)
@[simp] theorem State.tovr_units (s : State) (u g : Nat) : (s.tovr u g).units = s.units := (rfl)
@[simp] theorem State.trigger_units (s : State) (u g : Nat) : (s.trigger u g).units = s.units := by simp [State.trigger]
@[simp] theorem State.portEdge_units (s : State) (u g : Nat) : (s.portEdge u g).units = s.units := by simp [State.portEdge]
@[simp] theorem State.portEdges_units (s : State) : s.portEdges.units = s.units := by simp [State.portEdges]
@[simp] theorem State.clockEdge_units (s : State) : s.clockEdge.units = s.units := by simp [State.clockEdge]
@[simp] theorem State.periodEvent_units (s : State) (u g : Nat) : (s.periodEvent u g).units = s.units := by simp [State.periodEvent]
@[simp] theorem State.grdPeriod_units (s : State) : s.grdPeriod.units = s.units := by simp [State.grdPeriod]
@[simp] theorem State.converted_units (s : State) (u n : Nat) : (s.converted u n).units = s.units := by simp [State.converted]
@[simp] theorem State.winPorts_units (s : State) : s.winPorts.units = s.units := (rfl)

@[simp] theorem State.window_units (s : State) (w : Nat) (signed : Bool) (v : Int) :
    (State.window s w signed v).1.units = s.units := by
  simp only [State.window]; repeat' split
  all_goals simp

@[simp] theorem State.capture_units (s : State) (u v : Nat) (trig : Bool) : (s.capture u v trig).units = s.units := by simp [State.capture]

@[simp] theorem State.watch_units (s : State) (u e : Nat) (signed : Bool) (v : Nat) :
    (s.watch u e signed v).units = s.units := by
  unfold State.watch
  dsimp only
  split
  · rw [State.capture_units]; exact units_foldl_fst _ _ _ fun y w => by simp
  · exact units_foldl_fst _ _ _ fun y w => by simp

@[simp] theorem State.writeRes_units (s : State) (u e : Nat) (signed : Bool) (v : Nat) (sat cover : Bool) : (s.writeRes u e signed v sat cover).units = s.units :=
  by simp [State.writeRes]

@[simp] theorem State.entryResult_units (s : State) (u owner : Nat) (x : GEnt) (raw : List (BitVec 12)) : (s.entryResult u owner x raw).units = s.units :=
  by simp [State.entryResult]

@[simp] theorem State.pairedSample_units (s : State) (u : Nat) (raw : List (BitVec 12)) : (s.pairedSample u raw).units = s.units :=
  by simp [State.pairedSample]

@[simp] theorem State.armCapture_units (s : State) (u : Nat) : (s.armCapture u).units = s.units := by simp [State.armCapture]
@[simp] theorem State.wrCapctl_units (s : State) (u v : Nat) : (s.wrCapctl u v).units = s.units := by simp [State.wrCapctl]
@[simp] theorem State.wrCal_units (s : State) (u v : Nat) : (s.wrCal u v).units = s.units := by simp [State.wrCal]
@[simp] theorem State.startPorts_units (s : State) : s.startPorts.units = s.units := by simp [State.startPorts]
@[simp] theorem State.sealCal_units (s : State) : s.sealCal.units = s.units := by simp [State.sealCal]
@[simp] theorem State.setPair_units (s : State) (b : Bool) : (s.setPair b).units = s.units := by simp [State.setPair]
@[simp] theorem State.grdOff_units (s : State) (u : Nat) : (s.grdOff u).units = s.units := by simp [State.grdOff]
@[simp] theorem State.wrGrdCtrl_units (s : State) (u v : Nat) : (s.wrGrdCtrl u v).units = s.units := by simp [State.wrGrdCtrl]
@[simp] theorem State.wrTrg_units (s : State) (u g v : Nat) : (s.wrTrg u g v).units = s.units := (rfl)
@[simp] theorem State.wrWin_units (s : State) (w v : Nat) : (s.wrWin w v).units = s.units := by simp [State.wrWin]
@[simp] theorem State.latchMod_units (s : State) (j : Nat) (bits : List Bool) : (s.latchMod j bits).units = s.units := by simp [State.latchMod]

@[simp] theorem State.clearSrc2_units (s : State) :
    s.clearSrc2.units = s.units := by
  refine units_forEach _ _ _ fun s u => units_forEach _ _ _ fun s g => ?_
  split
  · exact units_foldl _ _ _ fun s x => rfl
  · rfl

/-! ### TollOps -/

@[simp] theorem State.modTol_units (s : State) (f : Toll → Toll)
    (h : ∀ t, (f t).dc.length = t.dc.length ∧ (f t).ac.length = t.ac.length ∧ (f t).heads.length = t.heads.length ∧ (f t).val.length =
    t.val.length ∧ (f t).csn.length = t.csn.length) :
    (s.modTol f).units = s.units := by
  simp [State.modTol, h]

@[simp] theorem State.modBook_units (s : State) (f : Book → Book) : (s.modBook f).units = s.units := (rfl)
@[simp] theorem State.modDc_units (s : State) (p : Nat) (f : DcPt → DcPt) : (s.modDc p f).units = s.units := by simp [State.modDc]
@[simp] theorem State.modAc_units (s : State) (g : Nat) (f : AcPt → AcPt) : (s.modAc g f).units = s.units := by simp [State.modAc]
@[simp] theorem State.modSess_units (s : State) (p : Nat) (f : Sess → Sess) : (s.modSess p f).units = s.units := (rfl)
@[simp] theorem State.syncBook_units (s : State) : s.syncBook.units = s.units := (rfl)

@[simp] theorem State.logAt_units (s : State) (t code point : Nat) (data : List Byte) : (s.logAt t code point data).units = s.units :=
  by simp [State.logAt]

@[simp] theorem State.log_units (s : State) (code point : Nat) (data : List Byte) : (s.log code point data).units = s.units := by simp [State.log]
@[simp] theorem State.logUner_units (s : State) (code : Nat) (data : List Byte) : (s.logUner code data).units = s.units := by simp [State.logUner]
@[simp] theorem State.flagOpen_units (s : State) (bit : Nat) : (s.flagOpen bit).units = s.units := by simp [State.flagOpen]
@[simp] theorem State.flagSess_units (s : State) (p bit : Nat) : (s.flagSess p bit).units = s.units := by simp [State.flagSess]

@[simp] theorem State.setTariff_units (s : State) (t : Nat) :
    (s.setTariff t).units = s.units := by
  simp only [State.setTariff]; repeat' split
  all_goals simp

@[simp] theorem State.updateState_units (s : State) : s.updateState.units = s.units := by simp [State.updateState]
@[simp] theorem State.raiseHwm_units (s : State) : s.raiseHwm.units = s.units := by simp [State.raiseHwm]
@[simp] theorem State.passTime_units (s : State) (us : Nat) : (s.passTime us).units = s.units := by simp [State.passTime]
/-! ### Metrology -/
@[simp] theorem State.correctCh_units (s : State) (c : Nat) (code : Int) : (s.correctCh c code).units = s.units := by simp [State.correctCh]

@[simp] theorem State.calTake_units (s : State) (c : Nat) (code : Int) :
    (s.calTake c code).units = s.units := by
  unfold State.calTake; repeat' split
  all_goals simp

@[simp] theorem State.showResult_units (s : State) (c : Nat) (code : Int) (stuck ovr : Bool) : (s.showResult c code stuck ovr).units = s.units :=
  by simp [State.showResult]

@[simp] theorem State.followSess_units (s : State) (p eI eE : Nat) : (s.followSess p eI eE).units = s.units := by simp [State.followSess]
@[simp] theorem State.dcInstant_units (s : State) (p : Nat) : (s.dcInstant p).units = s.units := by simp [State.dcInstant]
@[simp] theorem State.meterFault_units (s : State) (src : Nat) : (s.meterFault src).units = s.units := by simp [State.meterFault]

@[simp] theorem State.gapEvent_units (s : State) (pt : Nat) (ends : Bool) (ms : Nat) : (s.gapEvent pt ends ms).units = s.units :=
  by simp [State.gapEvent]

@[simp] theorem State.dcStep_units (s : State) (p : Nat) :
    (s.dcStep p).units = s.units := by
  simp only [State.dcStep]; repeat' split
  all_goals simp

@[simp] theorem State.ovrEvent_units (s : State) (c : Nat) : (s.ovrEvent c).units = s.units := by simp [State.ovrEvent]
@[simp] theorem State.residEvent_units (s : State) (c k : Nat) : (s.residEvent c k).units = s.units := by simp [State.residEvent]
@[simp] theorem State.setLock_units (s : State) (g : Nat) : (s.setLock g).units = s.units := by simp [State.setLock]
@[simp] theorem State.crossing_units (s : State) (g : Nat) : (s.crossing g).units = s.units := by simp [State.crossing]

@[simp] theorem State.acStep_units (s : State) (g : Nat) :
    (s.acStep g).units = s.units := by
  simp only [State.acStep]; repeat' split
  all_goals simp

@[simp] theorem State.takeResult_units (s : State) (c : Nat) (x : Int) (stuck ovr : Bool) (resid : Nat) : (s.takeResult c x stuck ovr resid).units = s.units :=
  by simp [State.takeResult]

@[simp] theorem State.discrep_units (s : State) (p : Nat) (up : Bool) (d : Rat) : (s.discrep p up d).units = s.units := by simp [State.discrep]
@[simp] theorem State.crossCheck_units (s : State) (p : Nat) : (s.crossCheck p).units = s.units := by simp [State.crossCheck]

@[simp] theorem State.passFeedback_units (s : State) :
    s.passFeedback.units = s.units := by
  refine units_forEach _ _ _ fun s p => ?_
  split <;> simp

@[simp] theorem State.setTheta_units (s : State) (p : Nat) (t : Rat) (ok : Bool) : (s.setTheta p t ok).units = s.units := by simp [State.setTheta]
@[simp] theorem State.wrMsnap_units (s : State) (v : Nat) : (s.wrMsnap v).units = s.units := by simp [State.wrMsnap]
@[simp] theorem State.wrMcal_units (s : State) (v : Nat) : (s.wrMcal v).units = s.units := by simp [State.wrMcal]

@[simp] theorem State.readLegal_units (s : State) (a : Nat) :
    (s.readLegal a).2.units = s.units := by
  unfold State.readLegal; repeat' split
  all_goals simp

/-! ### Tariff -/
@[simp] theorem State.openDemand_units (s : State) (g t : Nat) : (s.openDemand g t).units = s.units := by simp [State.openDemand]
@[simp] theorem State.closeDemand_units (s : State) (g t flags : Nat) : (s.closeDemand g t flags).units = s.units := by simp [State.closeDemand]
@[simp] theorem State.demandAt_units (s : State) (t flags : Nat) : (s.demandAt t flags).units = s.units := by simp [State.demandAt]
@[simp] theorem State.billClose_units (s : State) (t : Nat) : (s.billClose t).units = s.units := by simp [State.billClose]

@[simp] theorem State.beginSave_units (s : State) (kind btime : Nat) :
    (s.beginSave kind btime).units = s.units := by
  unfold State.beginSave; repeat' split
  all_goals simp

@[simp] theorem State.activate_units (s : State) (t : Nat) : (s.activate t).units = s.units := by simp [State.activate]

@[simp] theorem State.boundaryAt_units (s : State) (t flags : Nat) (bill : Bool) :
    (s.boundaryAt t flags bill).units = s.units := by
  simp only [State.boundaryAt]; repeat' split
  all_goals simp

@[simp] theorem State.catchUp_units (s : State) (t flags : Nat) : (s.catchUp t flags).units = s.units := by simp [State.catchUp]
@[simp] theorem State.activateLate_units (s : State) : s.activateLate.units = s.units := by simp [State.activateLate]
@[simp] theorem State.checkHwm_units (s : State) : s.checkHwm.units = s.units := by simp [State.checkHwm]
@[simp] theorem State.setTime_units (s : State) (t : Nat) (acc : Nat) : (s.setTime t acc).units = s.units := by simp [State.setTime]
@[simp] theorem State.wrTsetc_units (s : State) (v : Nat) : (s.wrTsetc v).units = s.units := by simp [State.wrTsetc]
@[simp] theorem State.wrCalctl_units (s : State) (m : Master) (v : Nat) : (s.wrCalctl m v).units = s.units := by simp [State.wrCalctl]
@[simp] theorem State.readTimeLo_units (s : State) : (s.readTimeLo).2.units = s.units := (rfl)
@[simp] theorem State.readHwmLo_units (s : State) : (s.readHwmLo).2.units = s.units := (rfl)
/-! ### Book -/
@[simp] theorem State.modVl_units (s : State) (n : Nat) (f : VLink → VLink) : (s.modVl n f).units = s.units := by simp [State.modVl]
@[simp] theorem State.sendFmx_units (s : State) (n k : Nat) (body : List Byte) : (s.sendFmx n k body).units = s.units := by simp [State.sendFmx]
@[simp] theorem State.countReq_units (s : State) (n p ph : Nat) : (s.countReq n p ph).units = s.units := by simp [State.countReq]
@[simp] theorem State.putVcnt_units (s : State) (n w v : Nat) : (s.putVcnt n w v).units = s.units := (rfl)
@[simp] theorem State.storeSess_units (s : State) (p : Nat) : (s.storeSess p).units = s.units := by simp [State.storeSess]
@[simp] theorem State.modHdr_units (s : State) (f : BookHdr → BookHdr) : (s.modHdr f).units = s.units := (rfl)
@[simp] theorem State.freeBytes_units (s : State) (n : Nat) : (s.freeBytes n).2.units = s.units := (rfl)

@[simp] theorem State.linkItems_units (s : State) (p : Nat) (reply : Bool) :
    (s.linkItems p reply).2.units = s.units := by
  unfold State.linkItems; repeat' split
  all_goals simp

@[simp] theorem State.toPylon_units (s : State) (r : TollRec) : (s.toPylon r).units = s.units := (rfl)

@[simp] theorem State.formRecord_units (s : State) (p typ : Nat) (reply : Bool) : (s.formRecord p typ reply).units = s.units :=
  by simp [State.formRecord]

@[simp] theorem State.dueRecord_units (s : State) (p typ : Nat) :
    (s.dueRecord p typ).units = s.units := by
  unfold State.dueRecord; repeat' split
  all_goals simp

@[simp] theorem State.startSess_units (s : State) (p : Nat) :
    (s.startSess p).units = s.units := by
  simp only [State.startSess]; repeat' split
  all_goals simp

@[simp] theorem State.wrSess_units (s : State) (p v : Nat) : (s.wrSess p v).units = s.units := by simp [State.wrSess]
@[simp] theorem State.endSess_units (s : State) (p t flags : Nat) : (s.endSess p t flags).units = s.units := by simp [State.endSess]
@[simp] theorem State.syncBuf_units (s : State) : s.syncBuf.units = s.units := (rfl)

@[simp] theorem State.wrRecctl_units (s : State) (v : Nat) :
    (s.wrRecctl v).units = s.units := by
  unfold State.wrRecctl; repeat' split
  all_goals simp

@[simp] theorem State.wrSave_units (s : State) (v : Nat) : (s.wrSave v).units = s.units := by simp [State.wrSave]
@[simp] theorem State.wrArcctl_units (s : State) (m : Master) (v : Nat) : (s.wrArcctl m v).units = s.units := by simp [State.wrArcctl]
@[simp] theorem State.beginGasp_units (s : State) (loss : Rat) : (s.beginGasp loss).units = s.units := by simp [State.beginGasp]

@[simp] theorem State.endGasp_units (s : State) (energies marker : Bool) :
    (s.endGasp energies marker).units = s.units := by
  unfold State.endGasp; repeat' split
  all_goals simp

/-! ### Restart -/
@[simp] theorem State.loadLegal_units (s : State) : s.loadLegal.units = s.units := by simp [State.loadLegal]
@[simp] theorem State.initBook_units (s : State) : s.initBook.units = s.units := by simp [State.initBook]
@[simp] theorem State.legalChange_units (s : State) : s.legalChange.units = s.units := by simp [State.legalChange]
@[simp] theorem State.sealCalendars_units (s : State) : s.sealCalendars.units = s.units := by simp [State.sealCalendars]

@[simp] theorem State.fromSave_units (s : State) (r : SaveRec) (h : s.units = fullUnits) : (s.fromSave r).units = s.units := by
  rw [h]
  simp only [State.units, fullUnits, List.cons.injEq] at h
  simp [State.fromSave, State.modTol, fullUnits, h]

@[simp] theorem State.resumeDemand_units (s : State) (at_ : Rat) (tariff flags : Nat) : (s.resumeDemand at_ tariff flags).units = s.units :=
  by simp [State.resumeDemand]

@[simp] theorem State.addDc_units (s : State) (p tariff i e l : Nat) : (s.addDc p tariff i e l).units = s.units := by simp [State.addDc]
@[simp] theorem State.addAc_units (s : State) (g tariff i e : Nat) : (s.addAc g tariff i e).units = s.units := by simp [State.addAc]
@[simp] theorem State.addPart_units (s : State) (g : LastGasp) (k tariff : Nat) : (s.addPart g k tariff).units = s.units := by simp [State.addPart]
@[simp] theorem State.applyGasp_units (s : State) (g : LastGasp) (base : SaveRec) : (s.applyGasp g base).units = s.units := by simp [State.applyGasp]
@[simp] theorem State.refollow_units (s : State) : s.refollow.units = s.units := by simp [State.refollow]

@[simp] theorem State.closeAtLoss_units (s : State) (loss : Rat) (failed : Bool) (base : SaveRec) : (s.closeAtLoss loss failed base).units = s.units :=
  by simp [State.closeAtLoss]

@[simp] theorem State.damageBook_units (s : State) : s.damageBook.units = s.units := by simp [State.damageBook]

@[simp] theorem State.recover_units (s : State) (loss : Option Rat) (assured : Bool) (h : s.units = fullUnits) :
    (s.recover loss assured).units = s.units := by
  unfold State.recover
  extract_lets b newest lost
  split
  · simp
  · extract_lets base s1 s2 s3 ok at_ s4 s5 s6
    have h3 : s3.units = s.units := by
      simp only [s3]; split <;> simp [s2, s1, h]
    have h5 : s5.units = s.units := by
      rw [← h3]; simp only [s5]
      split
      · split
        · split <;> simp
        · simp
      · split
        · split <;> simp
        · simp [s4]
    have h6 : s6.units = s.units := by
      rw [← h5]; simp only [s6]
      clear h3 h5 s6
      clear_value s5 at_ ok
      cases loss <;> cases ok <;> simp
    rw [← h6]
    clear_value s6
    split <;> simp

@[simp] theorem State.budget_units (s : State) :
    s.budget.units = s.units := by
  unfold State.budget
  extract_lets off s1 n want eff s2
  have h1 : s1.units = s.units := by
    refine units_foldl_fst _ _ _ fun y w => ?_
    split <;> rfl
  have h2 : s2.units = s.units := h1
  rw [← h2]
  clear_value s2
  split <;> simp

@[simp] theorem State.spoil_units (s : State) : s.spoil.units = s.units := (rfl)

@[simp] theorem State.tollSeal_units (s : State) (h : s.units = fullUnits) :
    s.tollSeal.units = s.units := by
  simp only [State.tollSeal]; repeat' split
  all_goals simp [h]

/-! ### Power -/
@[simp] theorem State.modPwr_units (s : State) (f : Power → Power) : (s.modPwr f).units = s.units := (rfl)
@[simp] theorem State.rtcPass_units (s : State) (e : Nat) : (s.rtcPass e).units = s.units := (rfl)
@[simp] theorem State.rtcOff_units (s : State) (e : Nat) : (s.rtcOff e).units = s.units := by simp [State.rtcOff]
@[simp] theorem State.copyTime_units (s : State) : s.copyTime.units = s.units := (rfl)
@[simp] theorem State.startGap_units (s : State) : s.startGap.units = s.units := (rfl)
@[simp] theorem State.endGap_units (s : State) : s.endGap.units = s.units := by simp [State.endGap]
@[simp] theorem State.loseSupply_units (s : State) (assured : Bool) : (s.loseSupply assured).units = s.units := by simp [State.loseSupply]
@[simp] theorem State.wrWatchdog_units (s : State) (v : Nat) : (s.wrWatchdog v).units = s.units := by simp [State.wrWatchdog]
@[simp] theorem State.wrKick_units (s : State) (m : Master) (v : Nat) : (s.wrKick m v).units = s.units := by simp [State.wrKick]
@[simp] theorem State.trsWake_units (s : State) : s.trsWake.units = s.units := by simp [State.trsWake]
@[simp] theorem State.wake_units (s : State) : s.wake.units = s.units := by simp [State.wake]
@[simp] theorem State.startEntry_units (s : State) (st : Nat) : (s.startEntry st).units = s.units := (rfl)
@[simp] theorem State.wrPsreq_units (s : State) (m : Master) (v : Nat) : (s.wrPsreq m v).units = s.units := by simp [State.wrPsreq]
@[simp] theorem State.takePending_units (s : State) : s.takePending.units = s.units := by simp [State.takePending]
@[simp] theorem State.wrPadhold_units (s : State) (v : Nat) : (s.wrPadhold v).units = s.units := by simp [State.wrPadhold]
/-! ### Pylon -/
@[simp] theorem State.modPyl_units (s : State) (f : Pylon → Pylon) : (s.modPyl f).units = s.units := (rfl)
@[simp] theorem State.putWords_units (s : State) (a n : Nat) (l : List Byte) : (s.putWords a n l).units = s.units := by simp [State.putWords]
@[simp] theorem State.setCtr_units (s : State) (i v : Nat) : (s.setCtr i v).units = s.units := (rfl)
@[simp] theorem State.advanceCtr_units (s : State) (i v : Nat) (adv : Bool) : (s.advanceCtr i v adv).units = s.units := by simp [State.advanceCtr]
@[simp] theorem State.extend_units (s : State) (m : Nat) (v : List Byte) : (s.extend m v).units = s.units := by simp [State.extend]
@[simp] theorem State.measure0_units (s : State) : s.measure0.units = s.units := by simp [State.measure0]
@[simp] theorem State.signPair_units (s : State) (seed dig : List Byte) : (s.signPair seed dig).2.units = s.units := (rfl)
@[simp] theorem State.formIds_units (s : State) : s.formIds.units = s.units := by simp [State.formIds]
@[simp] theorem State.wrCmdctl_units (s : State) (v : Nat) : (s.wrCmdctl v).units = s.units := by simp [State.wrCmdctl]
@[simp] theorem State.wrCmdaddr_units (s : State) (v : Nat) : (s.wrCmdaddr v).units = s.units := (rfl)
@[simp] theorem State.pylEnd_units (s : State) (status n : Nat) : (s.pylEnd status n).units = s.units := (rfl)
@[simp] theorem State.pylFail_units (s : State) : s.pylFail.units = s.units := (rfl)
@[simp] theorem State.putKey_units (s : State) (n : Nat) (k : KeySlot) : (s.putKey n k).units = s.units := (rfl)

@[simp] theorem State.acceptElem_units (s : State) (a : Nat) :
    (s.acceptElem a).units = s.units := by
  simp only [State.acceptElem]; repeat' split
  all_goals simp

@[simp] theorem State.wrImgcommit_units (s : State) (m : Master) (v : Nat) : (s.wrImgcommit m v).units = s.units := by simp [State.wrImgcommit]
@[simp] theorem State.formEndorse_units (s : State) : s.formEndorse.units = s.units := by simp [State.formEndorse]
@[simp] theorem State.wrLcctl_units (s : State) (v : Nat) : (s.wrLcctl v).units = s.units := by simp [State.wrLcctl]
/-! ### Can -/
@[simp] theorem State.modCan_units (s : State) (n : Nat) (f : Can → Can) : (s.modCan n f).units = s.units := by simp [State.modCan]
@[simp] theorem State.setCanW_units (s : State) (n i v : Nat) : (s.setCanW n i v).units = s.units := by simp [State.setCanW]

@[simp] theorem State.setCanWs_units (s : State) (n i : Nat) (x0 : List Nat) :
    (s.setCanWs n i x0).units = s.units := by
  induction x0 generalizing s i with
  | nil => rfl
  | cons v t ih => rw [State.setCanWs, ih]; simp

@[simp] theorem State.canSelect_units (s : State) (n : Nat) : (s.canSelect n).units = s.units := by simp [State.canSelect]
@[simp] theorem State.setErr_units (s : State) (n tx rx : Nat) : (s.setErr n tx rx).units = s.units := by simp [State.setErr]
@[simp] theorem State.wrTxreq_units (s : State) (n v : Nat) : (s.wrTxreq n v).units = s.units := by simp [State.wrTxreq]
@[simp] theorem State.wrTxcan_units (s : State) (n v : Nat) : (s.wrTxcan n v).units = s.units := by simp [State.wrTxcan]
@[simp] theorem State.endTx_units (s : State) (n b : Nat) (ok : Bool) : (s.endTx n b ok).units = s.units := by simp [State.endTx]
@[simp] theorem State.freeRx_units (s : State) (n : Nat) : (s.freeRx n).units = s.units := (rfl)
@[simp] theorem State.wrRxack_units (s : State) (n v : Nat) : (s.wrRxack n v).units = s.units := by simp [State.wrRxack]
@[simp] theorem State.canCycle_units (s : State) (n k : Nat) : (s.canCycle n k).units = s.units := by simp [State.canCycle]
@[simp] theorem State.canTimeStep_units (s : State) : s.canTimeStep.units = s.units := by simp [State.canTimeStep]
@[simp] theorem State.wrCanCtrl_units (s : State) (n v : Nat) : (s.wrCanCtrl n v).units = s.units := by simp [State.wrCanCtrl]
@[simp] theorem State.wrCanCfg_units (s : State) (n a v : Nat) : (s.wrCanCfg n a v).units = s.units := by simp [State.wrCanCfg]
@[simp] theorem State.wrRxring_units (s : State) (n v : Nat) : (s.wrRxring n v).units = s.units := by simp [State.wrRxring]
@[simp] theorem State.wrCanRam_units (s : State) (n i v : Nat) : (s.wrCanRam n i v).units = s.units := by simp [State.wrCanRam]

@[simp] theorem State.canConfig_units (s : State) :
    s.canConfig.units = s.units := by
  have h (n a off : Nat) (s : State) : (match findReg a with
      | some r => r.fields.foldl (fun (s : State) (f : FieldDesc) => s.put ⟨a, f.lo, f.w⟩ (fieldOf (s.cfg 0x0D off 4) f.lo f.w)) s
      | none => s).units = s.units := by
    split
    · exact units_foldl _ _ _ fun s f => rfl
    · rfl
  refine units_forEach _ _ _ fun s n => ?_
  refine (units_forEach _ _ _ fun s c => h n _ _ s).trans ?_
  refine (units_forEach _ _ _ fun s c => h n _ _ s).trans ?_
  exact units_foldl _ _ _ fun s c => h n _ _ s

/-! ### Causeway -/

@[simp] theorem State.modCwy_units (s : State) (f : Causeway → Causeway) (h : ∀ c, (f c).hosts.length = c.hosts.length) :
    (s.modCwy f).units = s.units := by
  simp [State.modCwy, h]

@[simp] theorem State.showFlight_units (s : State) : s.showFlight.units = s.units := (rfl)
@[simp] theorem State.setPlic_units (s : State) (core : Nat) (x : PlicSet) : (s.setPlic core x).units = s.units := (rfl)
@[simp] theorem State.clockBack_units (s : State) : s.clockBack.units = s.units := by simp [State.clockBack]
@[simp] theorem State.moveSite_units (s : State) (x : Int) : (s.moveSite x).units = s.units := (rfl)
@[simp] theorem State.discipline_units (s : State) (off : Int) : (s.discipline off).units = s.units := by simp [State.discipline]
@[simp] theorem State.steer_units (s : State) : s.steer.units = s.units := (rfl)
@[simp] theorem State.wrHlkCtrl_units (s : State) (n v : Nat) : (s.wrHlkCtrl n v).units = s.units := by simp [State.wrHlkCtrl]
/-! ### Stay -/
@[simp] theorem State.modCbl_units (s : State) (m : Nat) (f : Cable → Cable) : (s.modCbl m f).units = s.units := by simp [State.modCbl]
@[simp] theorem State.styGather_units (s : State) : s.styGather.units = s.units := by simp [State.styGather]

@[simp] theorem State.styDrive_units (s : State) (m pump fan : Nat) (valve : Bool) : (s.styDrive m pump fan valve).units = s.units :=
  by simp [State.styDrive]

@[simp] theorem State.styIdle_units (s : State) (m : Nat) : (s.styIdle m).units = s.units := by simp [State.styIdle]

@[simp] theorem State.styRun_units (s : State) (m : Nat) (u : StyUse) :
    (s.styRun m u).units = s.units := by
  unfold State.styRun
  split
  · exact State.styIdle_units _ _
  · cases u.tout
    · exact State.styDrive_units _ _ _ _ _
    · exact State.styDrive_units _ _ _ _ _

@[simp] theorem State.styCeil_units (s : State) (m code bind : Nat) : (s.styCeil m code bind).units = s.units := by simp [State.styCeil]
@[simp] theorem State.writeEmaxI_units (s : State) (n : Nat) : (s.writeEmaxI n).units = s.units := by simp [State.writeEmaxI]
@[simp] theorem State.styFlow_units (s : State) (m : Nat) (zero : Bool) : (s.styFlow m zero).units = s.units := by simp [State.styFlow]

@[simp] theorem State.styRead_units (s : State) (m : Nat) :
    (s.styRead m).2.units = s.units := by
  unfold State.styRead
  refine (units_foldl _ _ _ fun s x => ?_).trans ?_
  · cases x.1 <;> simp
  · simp

@[simp] theorem State.putTemp_units (s : State) (f : FieldRef) (t : Option Rat) :
    (s.putTemp f t).units = s.units := by
  unfold State.putTemp; repeat' split
  all_goals simp

@[simp] theorem State.styLimit_units (s : State) (m : Nat) (u : StyUse) : (s.styLimit m u).units = s.units := by simp [State.styLimit]
@[simp] theorem State.styBlock_units (s : State) (m : Nat) : (s.styBlock m).units = s.units := by simp [State.styBlock]
@[simp] theorem State.styStopped_units (s : State) (m : Nat) : (s.styStopped m).units = s.units := by simp [State.styStopped]
@[simp] theorem State.wrStyCtrl_units (s : State) (m v : Nat) : (s.wrStyCtrl m v).units = s.units := by simp [State.wrStyCtrl]
@[simp] theorem State.wrStyLim_units (s : State) (m v : Nat) : (s.wrStyLim m v).units = s.units := (rfl)
@[simp] theorem State.wrStyFw_units (s : State) (m j v : Nat) : (s.wrStyFw m j v).units = s.units := by simp [State.wrStyFw]
@[simp] theorem State.styConfig_units (s : State) : s.styConfig.units = s.units := by simp [State.styConfig]
/-! ### Vlink -/
@[simp] theorem State.onAir_units (s : State) (n cap mode : Nat) : (s.onAir n cap mode).units = s.units := by simp [State.onAir]
@[simp] theorem State.mgmtAir_units (s : State) (n : Nat) : (s.mgmtAir n).units = s.units := by simp [State.mgmtAir]
@[simp] theorem State.slacStop_units (s : State) (n : Nat) : (s.slacStop n).units = s.units := by simp [State.slacStop]
@[simp] theorem State.vlDisc_units (s : State) (n : Nat) : (s.vlDisc n).units = s.units := by simp [State.vlDisc]
@[simp] theorem State.pilotBad_units (s : State) (n st : Nat) : (s.pilotBad n st).units = s.units := by simp [State.pilotBad]
@[simp] theorem State.dropTls_units (s : State) (n : Nat) : (s.dropTls n).units = s.units := by simp [State.dropTls]
@[simp] theorem State.setConnected_units (s : State) (n : Nat) (c : Bool) : (s.setConnected n c).units = s.units := by simp [State.setConnected]
@[simp] theorem State.wrPremote_units (s : State) (n v : Nat) : (s.wrPremote n v).units = s.units := by simp [State.wrPremote]
@[simp] theorem State.syncWdog_units (s : State) (n : Nat) : (s.syncWdog n).units = s.units := by simp [State.syncWdog]
@[simp] theorem State.wrWdog_units (s : State) (n v : Nat) : (s.wrWdog n v).units = s.units := by simp [State.wrWdog]
@[simp] theorem State.helloRx_units (s : State) (n : Nat) (b : List Byte) : (s.helloRx n b).units = s.units := by simp [State.helloRx]
@[simp] theorem State.countReqRx_units (s : State) (n : Nat) (b : List Byte) : (s.countReqRx n b).units = s.units := by simp [State.countReqRx]

@[simp] theorem State.endAsk_units (s : State) (n : Nat) (reply : Bool) :
    (s.endAsk n reply).units = s.units := by
  unfold State.endAsk; repeat' split
  all_goals simp

@[simp] theorem State.countResRx_units (s : State) (n : Nat) (b : List Byte) :
    (s.countResRx n b).units = s.units := by
  unfold State.countResRx; repeat' split
  all_goals simp

@[simp] theorem State.fmxRx_units (s : State) (n : Nat) (p : List Byte) :
    (s.fmxRx n p).units = s.units := by
  unfold State.fmxRx; repeat' split
  all_goals simp

@[simp] theorem State.slacBegin_units (s : State) (n : Nat) : (s.slacBegin n).units = s.units := by simp [State.slacBegin]

@[simp] theorem State.slacUp_units (s : State) (n : Nat) (db : Option Rat) :
    (s.slacUp n db).units = s.units := by
  simp only [State.slacUp]; repeat' split
  all_goals simp

@[simp] theorem State.slacMsg_units (s : State) (n : Nat) (m : SlacMsg) :
    (s.slacMsg n m).units = s.units := by
  unfold State.slacMsg; repeat' split
  all_goals simp

@[simp] theorem State.incBy_units (s : State) (f : FieldRef) (k : Nat) : (s.incBy f k).units = s.units := (rfl)
@[simp] theorem State.dataAir_units (s : State) (n r : Nat) : (s.dataAir n r).units = s.units := by simp [State.dataAir]
@[simp] theorem State.wrVlkCtrl_units (s : State) (n v : Nat) : (s.wrVlkCtrl n v).units = s.units := by simp [State.wrVlkCtrl]
@[simp] theorem State.wrVlkRing_units (s : State) (n a v : Nat) : (s.wrVlkRing n a v).units = s.units := by simp [State.wrVlkRing]
@[simp] theorem State.wrVlkDoor_units (s : State) (n v : Nat) : (s.wrVlkDoor n v).units = s.units := by simp [State.wrVlkDoor]
@[simp] theorem State.wrVlkSess_units (s : State) (n v : Nat) : (s.wrVlkSess n v).units = s.units := by simp [State.wrVlkSess]
@[simp] theorem State.wrVlkBmsi_units (s : State) (n v : Nat) : (s.wrVlkBmsi n v).units = s.units := by simp [State.wrVlkBmsi]
@[simp] theorem State.vlkConfig_units (s : State) : s.vlkConfig.units = s.units := by simp [State.vlkConfig]
/-! ### Thermal -/

@[simp] theorem State.modHkp_units (s : State) (f : Hkp → Hkp) (h : ∀ k, (f k).same.length = k.same.length) :
    (s.modHkp f).units = s.units := by
  simp [State.modHkp, h]

@[simp] theorem State.sense_units (s : State) (n count : Nat) (temp : Int) : (s.sense n count temp).units = s.units := by simp [State.sense]
@[simp] theorem State.enforce_units (s : State) : s.enforce.units = s.units := by simp [State.enforce]
@[simp] theorem State.levels_units (s : State) (tj : Int) : (s.levels tj).units = s.units := by simp [State.levels]
@[simp] theorem State.calmRound_units (s : State) : s.calmRound.units = s.units := by simp [State.calmRound]
@[simp] theorem State.wrThrctl_units (s : State) (v : Nat) : (s.wrThrctl v).units = s.units := by simp [State.wrThrctl]
/-! ### Bus -/

@[simp] theorem State.clearRc_units (s : State) (a : Nat) :
    (s.clearRc a).units = s.units := by
  unfold State.clearRc; repeat' split
  all_goals simp

@[simp] theorem State.readReg_units (s : State) (a : Nat) : (s.readReg a).2.units = s.units := by simp [State.readReg]
@[simp] theorem State.writePyl_units (s : State) (m : Master) (a v : Nat) : (s.writePyl m a v).units = s.units := by simp [State.writePyl]
@[simp] theorem State.writeSpn_units (s : State) (a v : Nat) : (s.writeSpn a v).units = s.units := by simp [State.writeSpn]
@[simp] theorem State.writePhs_units (s : State) (a v : Nat) : (s.writePhs a v).units = s.units := by simp [State.writePhs]
@[simp] theorem State.writeKst_units (s : State) (a v : Nat) : (s.writeKst a v).units = s.units := by simp [State.writeKst]

@[simp] theorem State.writeArc_units (s : State) (a v : Nat) :
    (s.writeArc a v).units = s.units := by
  unfold State.writeArc; repeat' split
  all_goals simp

@[simp] theorem State.writeGrd_units (s : State) (a v : Nat) : (s.writeGrd a v).units = s.units := by simp [State.writeGrd]
@[simp] theorem State.writeTol_units (s : State) (m : Master) (a v : Nat) : (s.writeTol m a v).units = s.units := by simp [State.writeTol]
@[simp] theorem State.writeSty_units (s : State) (a v : Nat) : (s.writeSty a v).units = s.units := by simp [State.writeSty]

@[simp] theorem State.writeVlk_units (s : State) (a v : Nat) :
    (s.writeVlk a v).units = s.units := by
  unfold State.writeVlk; repeat' split
  all_goals simp

@[simp] theorem State.writeCbu_units (s : State) (a v : Nat) : (s.writeCbu a v).units = s.units := by simp [State.writeCbu]
@[simp] theorem State.writePrp_units (s : State) (m : Master) (a v : Nat) : (s.writePrp m a v).units = s.units := by simp [State.writePrp]
@[simp] theorem State.writeTrs_units (s : State) (a v : Nat) : (s.writeTrs a v).units = s.units := by simp [State.writeTrs]
@[simp] theorem State.readMem_units (s : State) (a n : Nat) : (s.readMem a n).2.units = s.units := by simp [State.readMem]

@[simp] theorem State.holdTx_units (s : State) (m : Master) (a n : Nat) (v : Option Nat) : (s.holdTx m a n v).units = s.units :=
  by simp [State.holdTx]

@[simp] theorem State.busRead_units (s : State) (m : Master) (a n : Nat) (fetch : Bool) : (s.busRead m a n fetch).units = s.units :=
  by simp [State.busRead]

/-! ### Display -/
@[simp] theorem State.modHead_units (s : State) (n : Nat) (f : DpHead → DpHead) : (s.modHead n f).units = s.units := by simp [State.modHead]
@[simp] theorem State.advanceHead_units (s : State) (n k : Nat) : (s.advanceHead n k).units = s.units := by simp [State.advanceHead]
/-! ### Loader -/
@[simp] theorem State.modLoad_units (s : State) (f : Load → Load) : (s.modLoad f).units = s.units := (rfl)
@[simp] theorem State.setReason_units (s : State) (k r : Nat) : (s.setReason k r).units = s.units := by simp [State.setReason]
@[simp] theorem State.refuseAll_units (s : State) : s.refuseAll.units = s.units := by simp [State.refuseAll]
@[simp] theorem State.cfgLinks_units (s : State) : s.cfgLinks.units = s.units := by simp [State.cfgLinks]
@[simp] theorem State.cfgQuotas_units (s : State) : s.cfgQuotas.units = s.units := by simp [State.cfgQuotas]
@[simp] theorem State.cfgPhs_units (s : State) : s.cfgPhs.units = s.units := by simp [State.cfgPhs]

@[simp] theorem State.cfgKst_units (s : State) (h : s.units = fullUnits) : s.cfgKst.units = s.units := by
  rw [h]
  simp only [State.units, fullUnits, List.cons.injEq] at h
  simp [State.cfgKst, fullUnits, h]

@[simp] theorem State.cfgArc_units (s : State) : s.cfgArc.units = s.units := by simp [State.cfgArc]

@[simp] theorem State.cfgEngines_units (s : State) (h : s.units = fullUnits) : s.cfgEngines.units = s.units := by
  simp [State.cfgEngines, h]

@[simp] theorem State.sealArc_units (s : State) : s.sealArc.units = s.units := (rfl)
@[simp] theorem State.sealPylon_units (s : State) : s.sealPylon.units = s.units := by simp [State.sealPylon]
@[simp] theorem State.startLinks_units (s : State) : s.startLinks.units = s.units := by simp [State.startLinks]

@[simp] theorem State.seal_units (s : State) (h : s.units = fullUnits) :
    s.seal.units = s.units := by
  simp only [State.seal]; repeat' split
  all_goals simp [h]

@[simp] theorem State.selfTests_units (s : State) (fails : List (Fin 6)) : (s.selfTests fails).units = s.units := by simp [State.selfTests]

@[simp] theorem State.restoreSaved_units (s : State) :
    s.restoreSaved.units = s.units := by
  refine units_foldl _ _ _ fun s x => ?_
  split <;> simp

@[simp] theorem State.showWakeFrame_units (s : State) (woke : List (Option (Bool × Nat))) :
    (s.showWakeFrame woke).units = s.units := by
  refine units_forEach _ _ _ fun s n => ?_
  split <;> rfl

/-! ### Period -/
@[simp] theorem State.nextSite_units (s : State) : s.nextSite.units = s.units := by simp [State.nextSite]
@[simp] theorem State.tick_units (s : State) : s.tick.units = s.units := by simp [State.tick]

end Sys2Proof.Machine

/-! SUPPORT for O59. The operations that store into memory, load the image or restart the device leave every unit of a whole device. -/

namespace Sys2Proof.Machine

/-! ### Stores, the image, and the parts of a restart -/

@[simp] theorem setMem_units (s : State) (a : Nat) (l : List Byte) : (s.setMem a l).units = s.units := by rw [setMem_onlyMem]; rfl

@[simp] theorem dmaWrite_units (s : State) (m : Master) (a : Nat) (l : List Byte) : (s.dmaWrite m a l).units = s.units := by
  simp [State.dmaWrite]

@[simp] theorem place_units (s : State) (e c : List Byte) : (s.place e c).units = s.units := by
  unfold State.place
  dsimp only
  split <;> rfl

@[simp] theorem clearSram_units (s : State) : s.clearSram.units = s.units := (rfl)

@[simp] theorem dropUnits_units (s : State) (park : Bool) : (s.dropUnits park).units = s.units.set 0 2 := (rfl)

@[simp] theorem startSlot_units (s : State) (k : Nat) : (s.startSlot k).units = s.units := by
  have h : (s.setReason k 0).units = s.units := by simp
  unfold State.startSlot
  generalize s.setReason k 0 = u at h
  exact h

@[simp] theorem chooseSlot_units (s : State) : s.chooseSlot.units = s.units := by
  unfold State.chooseSlot
  extract_lets a b u
  have hu : u.units = s.units := by simp [u]
  clear_value u
  repeat' split
  all_goals simp [hu]

section
variable {s : State} (h : s.units = fullUnits)
include h

theorem unload_units : s.unload.units = s.units := (State.clearEngines_units s h :)

theorem failSlot_units (r : Nat) : (s.failSlot r).units = s.units := by
  have hu : ((s.unload.keepRegs notImage).setReason s.load.cur r).units = s.units := by simp [unload_units h]
  unfold State.failSlot
  dsimp only
  split <;> simp [hu]

theorem restart_units (warm : Bool) : (s.restart warm).units = s.units := by
  have hu (u : State) (p : Parapet) (l : List Channel) (hu : u.units = fullUnits) (hp : p.ins.length = 16 ∧ p.imc.length = 4)
      (hl : l.length = 16) : (u.restartUnits p l).units = fullUnits := by
    simp only [State.units, fullUnits, List.cons.injEq] at hu
    simp [State.restartUnits, fullUnits, hu, hp, hl]
  have hk : ((s.keepRegs (fun a => isPd0 a || isFuse a)).unload).units = fullUnits :=
    (unload_units (s := s.keepRegs _) h).trans h
  rw [h]
  unfold State.restart
  simp only [State.dropRequest_units, State.newNonce_units, State.trsShow_units, State.restartRegs_units]
  refine hu _ _ _ hk ⟨rfl, rfl⟩ ?_
  simp only [State.units, fullUnits, List.cons.injEq] at h
  cases warm <;> simp [State.trsWarm, State.trsOff, h]

theorem shutOff_units : s.shutOff.units = s.units := by
  unfold State.shutOff
  split
  · simp [restart_units h]
  · rfl

theorem warmReset_units (c : Nat) : (s.warmReset c).units = s.units := by
  have hg : ((s.beginGasp s.tol.bill).endGasp true true).units = s.units := by simp
  unfold State.warmReset
  generalize (s.beginGasp s.tol.bill).endGasp true true = u at hg
  have hr (w : Bool) : (u.restart w).units = s.units := (restart_units (hg.trans h) w).trans hg
  repeat' split
  all_goals simp [hr]

theorem failVin_units (b : Bool) : (s.failVin b).units = s.units := by
  unfold State.failVin
  split
  · rfl
  · extract_lets u lg on v w
    have hu : u.units = s.units := by simp [u]
    have hv : v.units = s.units := by simp [v, hu]
    have hw : w.units = s.units := (restart_units (hv.trans h) false).trans hv
    clear_value w
    split <;> simp [hw]

theorem fallAsleep_units (park : Bool) : (s.fallAsleep park).units = s.units := by
  unfold State.fallAsleep
  extract_lets ka chans held u v w x
  have hu : u.units = s.units := by
    rw [h]
    simp only [State.units, fullUnits, List.cons.injEq] at h
    simp [u, chans, State.setChans, State.trsWarm, fullUnits, h]
  have hv : v.units = u.units := units_forEach _ _ _ fun t n => by split <;> simp
  have hw : w.units = s.units := by
    clear_value v
    simp [w, hv, hu]
  have hx : x.units = s.units := by
    clear_value w
    have hc : (((w.keepRegs sleepKeeps).clearEngines).put Fld.ABT_PADHOLD_HOLD 0x7F).units = fullUnits := by simp [hw, h]
    simp only [x, dropUnits_units, hc, h]
    rfl
  clear_value x
  simp [hx]

theorem shutdown_units : s.shutdown.units = s.units := by
  unfold State.shutdown
  extract_lets u
  have hu : u.units = s.units := by simp [u]
  clear_value u
  have hv : ((u.loseSupply u.pwr.vhold30).modPwr (fun p => { p with shutLatch := true })).units = s.units := by simp [hu]
  exact (shutOff_units (hv.trans h)).trans hv

theorem wrReset_units (m : Master) (v : Nat) : (s.wrReset m v).units = s.units := by
  unfold State.wrReset
  repeat' split
  · simp
  · exact warmReset_units h 2
  · rfl

/-! ### The bus -/

theorem writeAbt_units (m : Master) (a v : Nat) : (s.writeAbt m a v).units = s.units := by
  have hr := wrReset_units h m v
  simp only [State.writeAbt]
  repeat' split
  all_goals simp [hr]

theorem writeReg_units (m : Master) (a v : Nat) : (s.writeReg m a v).units = s.units := by
  have ha := writeAbt_units h m a v
  unfold State.writeReg
  split
  · exact ha
  all_goals (try split) <;> simp

/-- A write by a master at any address, of any length. -/
theorem busWrite_units (m : Master) (a n v : Nat) : (s.busWrite m a n v).units = s.units := by
  have hw (x : Nat) := writeReg_units h m a x
  unfold State.busWrite State.leveledWrite
  repeat' split
  all_goals simp [hw]

/-- A fold whose rounds leave the units of a whole device. -/
theorem foldl_fullUnits {α : Type} {f : State → α → State} (l : List α) (hf : ∀ t x, t.units = fullUnits → (f t x).units = fullUnits) :
    (l.foldl f s).units = fullUnits := by
  induction l generalizing s with
  | nil => exact h
  | cons x l ih => exact ih (hf s x h)

theorem applyPresets_units (p : Nat → Bool) : (s.applyPresets p).units = s.units :=
  (foldl_fullUnits h _ fun t i ht => by
    dsimp only
    split
    · exact (writeReg_units ht 12 _ _).trans ht
    · exact ht).trans h.symm

theorem releaseTx_units : s.releaseTx.units = s.units :=
  (foldl_fullUnits (s := s.modPwr (fun p => { p with heldTx := [] })) h _ fun t x ht => by
    split
    · exact (busWrite_units ht _ _ _ _).trans ht
    · exact (State.busRead_units _ _ _ _ _).trans ht).trans h.symm

omit h in
theorem eccFound_units (n : Nat) (l : List Host.Cell) : (s.eccFound n l).units = s.units := by
  refine (units_foldl l _ _ fun t c => ?_).trans rfl
  split <;> rfl

/-! ### The end of a load, and a wake -/

theorem finishLoad_units : s.finishLoad.units = s.units := by
  unfold State.finishLoad
  extract_lets s0 role u v w
  have hu : u.units = s.units := by
    simp only [u]
    split <;> simp [s0]
  have hv : v.units = s.units := by simp [v, hu, h]
  have hw : w.units = s.units := (applyPresets_units (hv.trans h) _).trans hv
  have hf (r : Nat) : (s.failSlot r).units = s.units := failSlot_units h r
  have hf0 (r : Nat) : (s0.failSlot r).units = s.units := hf r
  clear_value s0 w
  repeat' split
  all_goals simp [hf, hf0, hw, h]

theorem finishWake_units : s.finishWake.units = s.units := by
  unfold State.finishWake
  extract_lets park woke committed s1 s2 s3 s4 s5 s6 k6 p6 s7 s8
  have h1 : s1.units = s.units := by
    have ht : ({ s with truss := {} } : State).units = fullUnits := h
    exact (State.cfgEngines_units _ ht).trans rfl
  have h2 : s2.units = s.units := by
    have hl : (s1.putB Fld.PYL_IMGSTAT_LOADED false).units = fullUnits := (putB_units s1 _ _).trans (h1.trans h)
    exact (putB_units _ _ _).trans ((applyPresets_units hl _).trans (hl.trans h.symm))
  have h3 : s3.units = s.units := by simp [s3, h2]
  clear_value s3
  have h8 : s8.units = s.units := by simp [s8, s7, s6, s5, s4, h3]
  clear_value s8
  split <;> simp [h8]

end

/-! ### Wake sources, Pylon, grants -/

theorem wakeSource_units (s : State) (f : State → State) (h : ∀ t, (f t).units = t.units) : (s.wakeSource f).units = s.units := by
  simp only [State.wakeSource, units_ite, State.modPwr_units, State.wake_units, h, ite_self]

@[simp] theorem pylOk_units (s : State) (c : PylCmd) (out : List Byte) (f : State → State) (h : (f s).units = s.units) :
    (s.pylOk c out f).units = s.units := by
  unfold State.pylOk
  repeat' split
  all_goals simp [h]

theorem withAlg_units (s : State) (c : PylCmd) (p : Alg → Bool) (f : Alg → State) (h : ∀ a, (f a).units = s.units) :
    (s.withAlg c p f).units = s.units := by
  unfold State.withAlg
  repeat' split
  all_goals simp [h]

theorem withKey_units (s : State) (c : PylCmd) (u : Nat → Bool) (f : List Byte → State) (h : ∀ k, (f k).units = s.units) :
    (s.withKey c u f).units = s.units := by
  unfold State.withKey
  dsimp only
  repeat' split
  all_goals simp [h]

theorem pylRun_units {s t : State} {op : Nat} {f : State → PylCmd → List Byte → List Byte → State} (h : s.pylRun op f = .next t)
    (hf : ∀ c i j, (f s c i j).units = s.units) : t.units = s.units := by
  obtain rfl := Host.Outcome.next.inj h
  repeat' split
  all_goals simp [hf]

theorem grants_units (k : Nat) (s : State) : (State.grants k s).units = s.units := by
  induction k generalizing s with
  | zero => rfl
  | succ k ih =>
    unfold State.grants
    repeat' split
    · rfl
    · rfl
    · exact (ih _).trans (by simp)

theorem cwyAsked_units (s : State) (freed requests : List Master) : (s.cwyAsked freed requests).units = s.units := by
  simp [State.cwyAsked]

theorem rxPayload_units (s : State) (n ty : Nat) (p : List Byte) : (s.rxPayload n ty p).units = s.units := by
  unfold State.rxPayload
  dsimp only
  repeat' split
  all_goals simp

end Sys2Proof.Machine

/-! PROOFS. Every command keeps every unit of a whole device (O59). -/

namespace Sys2Proof.Machine

theorem units_of_next {s t u : State} (h : Host.Outcome.next u = (.next t : Host.Outcome State Fault Refusal)) (hu : u.units = s.units) :
    t.units = s.units := Host.Outcome.next.inj h ▸ hu

/-! ### Commands that leave the numbers whatever they are -/

theorem rcRead_units {s t : State} {m : Master} {a : Word} (h : execRcRead m a s = .next t) : t.units = s.units := by
  unfold execRcRead at h
  split at h
  · cases h
  · exact units_of_next h (State.busRead_units _ _ _ _ _)

theorem forbiddenRead_units {s t : State} {m : Master} {a : Word} {n : Nat} {fetch : Bool} (h : execForbiddenRead m a n fetch s = .next t) :
    t.units = s.units := by
  unfold execForbiddenRead at h
  split at h
  · cases h
  · exact units_of_next h (State.busRead_units _ _ _ _ _)

theorem wakeEvent_units {src : BitVec 24} {elapsed : Nat} {s t : State} (h : execWakeEvent src elapsed s = .next t) : t.units = s.units := by
  refine units_of_next h ?_
  dsimp only
  split
  · simp
  · exact (wakeSource_units _ _ fun _ => setReg_units _ _ _).trans (State.rtcOff_units s elapsed)

theorem rtcAlarm_units {elapsed : Nat} {s t : State} (h : execRtcAlarm elapsed s = .next t) : t.units = s.units := by
  refine units_of_next h ?_
  dsimp only
  repeat' split
  · simp
  · exact (wakeSource_units _ _ fun _ => putB_units _ _ _).trans (by simp)
  · simp

theorem canWake_units {n : Fin 2} {sign : CanWakeSign} {elapsed : Nat} {s t : State} (h : execCanWake n sign elapsed s = .next t) :
    t.units = s.units := by
  refine units_of_next h ?_
  dsimp only
  split
  · simp
  · refine (wakeSource_units _ _ fun u => ?_).trans (State.rtcOff_units s elapsed)
    by_cases hn : n.val = 0 <;> simp [hn]

/-- The attempt that failed is taken up again or ended by one function of the bus, so its cases are met once. -/
theorem canFrameTxEnd_units {n : Fin 4} {res : CanEnd} {sof : BitVec 64} {guard : Bool} {s t : State}
    (h : execCanFrameTxEnd n res sof guard s = .next t) : t.units = s.units := by
  refine units_of_next h ?_
  split
  · rfl
  next b _ =>
    extract_lets rf excl u failed sent v
    have hu : u.units = s.units := by simp [u]
    have hf (w : State) : (failed w).units = w.units := by
      simp only [failed]
      repeat' split
      all_goals simp
    have hs : sent.units = s.units := (units_ite _ _ _).trans (by simp [hu])
    have hv : v.units = s.units := by
      clear_value u failed sent
      cases res <;> simp [v, hf, hu, hs]
    clear_value v
    split <;> simp [hv]

theorem v2gtpTx_units {n : Fin 8} {s t : State} (h : execV2gtpTx n s = .next t) : t.units = s.units := by
  refine units_of_next h ?_
  extract_lets k hd
  split
  · rfl
  · generalize hb : s.dmaRead 15 _ 16 = b
    have hu : b.2.units = s.units := by rw [← hb]; exact State.dmaRead_units _ _ _ _
    clear hb
    obtain ⟨b, u⟩ := b
    dsimp -zeta only at hu ⊢
    extract_lets fl len ty bad v w
    have hv : v.units = u.units := by
      simp only [v]
      repeat' split
      all_goals simp
    split
    · exact hu
    · simp [w, hv, hu]

/-- Operations of Pylon on a command in service. -/
theorem pylonCommands_units {c : Instr} {s t : State} (h : exec c s = .next t) :
    match c with
    | .randomBytes | .hash | .aesGcm | .keyGenerate | .blobLoad | .slotClear | .keyPresent | .devidKeys | .sign | .verify
    | .keyAgreement | .kemDecapsulate | .kemEncapsulate | .attestationReport => t.units = s.units
    | _ => True := by
  cases c with
  | randomBytes | blobLoad | slotClear | keyPresent | devidKeys | attestationReport =>
    simp only [exec, execRandomBytes, execBlobLoad, execSlotClear, execKeyPresent, execDevidKeys, execAttestationReport] at h
    refine pylRun_units h fun c i j => ?_
    repeat' split
    all_goals simp
  | hash | verify | kemEncapsulate =>
    simp only [exec, execHash, execVerify, execKemEncapsulate] at h
    refine pylRun_units h fun c i j => withAlg_units s c _ _ fun a => ?_
    simp
  | keyGenerate =>
    simp only [exec, execKeyGenerate] at h
    refine pylRun_units h fun c i j => withAlg_units s c _ _ fun a => ?_
    repeat' split
    all_goals simp
  | aesGcm | sign | keyAgreement | kemDecapsulate =>
    simp only [exec, execAesGcm, execSign, execKeyAgreement, execKemDecapsulate] at h
    refine pylRun_units h fun c i j => withAlg_units s c _ _ fun a => withKey_units s c _ _ fun k => ?_
    repeat' split
    all_goals simp
  | _ => trivial

/-! ### Commands that load the image or restart the device -/

section
variable {s t : State} (hs : s.units = fullUnits)
include hs

/-- Every command that is one write of a register. -/
theorem wr_units {m : Master} {a : Nat} {v : Word} (h : Host.Outcome.next (s.wr m a v) = (.next t : Host.Outcome State Fault Refusal)) :
    t.units = s.units := units_of_next h (busWrite_units hs m a 4 _)

theorem sectionStreamed_units (h : execSectionStreamed s = .next t) : t.units = s.units := by
  refine units_of_next h ?_
  split
  · rfl
  · extract_lets e
    split
    · exact failSlot_units hs 6
    next c _ =>
      extract_lets u r body v
      have hu : u.units = s.units := by simp [u]
      have hv : v.units = s.units := by
        simp only [v]
        split <;> simp [hu]
      clear_value u v
      repeat' split
      · exact (failSlot_units (hu.trans hs) _).trans hu
      · exact (finishLoad_units (hv.trans hs)).trans hv
      · exact hv

theorem wakeRestreamDone_units {got : Restream} (h : execWakeRestreamDone got s = .next t) : t.units = s.units := by
  refine units_of_next h ?_
  split
  · rfl
  split
  · exact warmReset_units hs 6
  dsimp only
  split
  · exact warmReset_units hs 6
  · refine (State.selfTests_units _ _).trans ?_
    have hfin {u : State} (hu : u.units = s.units) : u.finishWake.units = s.units := (finishWake_units (hu.trans hs)).trans hu
    exact hfin ((units_foldl _ _ _ fun t e => place_units t e _).trans (State.modLoad_units s _))

theorem vbatLoss_units (h : execVbatLoss s = .next t) : t.units = s.units := by
  refine units_of_next h ?_
  split
  · rfl
  · rw [hs]
    simp only [State.units, fullUnits, List.cons.injEq] at hs
    simp [fullUnits, State.keepRegs, hs]

theorem lastGaspEnd_units {energies marker : Bool} (h : execLastGaspEnd energies marker s = .next t) : t.units = s.units := by
  refine units_of_next h ?_
  split
  · rfl
  · extract_lets u
    have hu : u.units = s.units := State.endGasp_units _ _ _
    clear_value u
    split
    · exact (shutOff_units (hu.trans hs)).trans hu
    · simp [hu]

/-- A checkpoint of an entry to sleep: the entry is given up, goes on, or ends asleep (R712, R715). -/
theorem entryCheckpoint_units {pins : BitVec 8} (h : execEntryCheckpoint pins s = .next t) : t.units = s.units := by
  refine units_of_next h ?_
  split
  · rfl
  · extract_lets k park u v w committed area z
    have hv : v.units = s.units := by simp [v, u]
    have hz : z.units = s.units := by simp [z]
    have hw : w.units = s.units := by simp [w]
    clear_value v z w
    have hr := releaseTx_units (hv.trans hs)
    have hf := fallAsleep_units (hz.trans hs) park
    repeat' split
    all_goals simp [hv, hw, hr, hf, hz]

theorem housekeepingRound_units {counts : List (BitVec 16)} {temps : List Int} {rails : List (BitVec 16)}
    (h : execHousekeepingRound counts temps rails s = .next t) : t.units = s.units := by
  refine units_of_next h ?_
  split
  · rfl
  · extract_lets was u v w x hot again y
    have hu : u.units = s.units := units_forEach _ _ _ fun _ _ => State.sense_units _ _ _ _
    have hv : v.units = u.units := units_forEach _ _ _ fun _ _ => by dsimp only; split <;> simp
    have hw : w.units = v.units := by
      simp only [w]
      split <;> simp
    have hx : x.units = w.units := by
      simp only [x]
      split <;> simp
    have hy : y.units = s.units := (State.modHkp_units x _ fun _ => rfl).trans (hx.trans (hw.trans (hv.trans hu)))
    clear_value y
    split
    · exact (shutdown_units (hy.trans hs)).trans hy
    · exact hy

/-- Commands that are one write of a register. -/
theorem registerCommands_units {c : Instr} (h : exec c s = .next t) :
    match c with
    | .imageCommit .. | .avgExpWrite .. | .arcCommitGo .. | .arcMoveGo .. | .meterSnapshotGo .. | .mcalGo .. | .timeCorrectionGo ..
    | .calendarLoad .. | .calendarCancel .. | .recordAck .. | .saveRequest .. | .archiveGo .. | .softwareStop ..
    | .safetyOutputRequest .. | .faultClearKey .. | .faultClear .. | .armPiers .. | .disarmPiers .. | .stateRequest ..
    | .padRelease .. | .watchdogEnable .. | .watchdogKick .. | .throttleNow .. | .lifecycleDeploy .. | .shedDisable ..
    | .phsShedWrite .. | .phaseFaultClear .. | .spanResumeWrite .. | .spanLoopPrbsWrite .. | .mgmtRequestGo .. | .grdCaptureArm ..
    | .grdCalGo .. | .grdPairWrite .. | .sessionStart .. | .sessionStop .. | .sessionRecordRequest .. | .stayBlockEnWrite ..
    | .stayFwInputWrite .. | .stayLimWrite .. | .premoteWrite .. | .outletEnWrite .. | .chargeLoopKick .. | .canEnable ..
    | .canTxRequest .. | .canTxCancel .. | .canRxAck .. | .canRecover .. | .trestleCommand .. | .trestleFaultClear ..
    | .contestBitWrite .. | .firmwareReset .. => t.units = s.units
    | _ => True := by
  cases c with
  | imageCommit | avgExpWrite | arcCommitGo | arcMoveGo | meterSnapshotGo | mcalGo | timeCorrectionGo | calendarLoad
  | calendarCancel | recordAck | saveRequest | archiveGo | softwareStop | safetyOutputRequest | faultClearKey | faultClear
  | armPiers | disarmPiers | stateRequest | padRelease | watchdogEnable | watchdogKick | throttleNow | lifecycleDeploy
  | shedDisable | phsShedWrite | phaseFaultClear | spanResumeWrite | spanLoopPrbsWrite | mgmtRequestGo | grdCaptureArm | grdCalGo
  | grdPairWrite | sessionStart | sessionStop | sessionRecordRequest | stayBlockEnWrite | stayFwInputWrite | stayLimWrite
  | premoteWrite | outletEnWrite | chargeLoopKick | canEnable | canTxRequest | canTxCancel | canRxAck | canRecover
  | trestleCommand | trestleFaultClear | contestBitWrite | firmwareReset => exact wr_units hs h
  | _ => trivial

/-- Commands that store into memory, load the image or restart the device, those of Pylon and the register writes apart. -/
theorem storingCommands_units {c : Instr} (h : exec c s = .next t) :
    match c with
    | .registerWrite .. | .vinFailure | .gndLoss | .vbatLoss | .deviceReset .. | .pllLock .. | .sectionStreamed | .ramInitDone ..
    | .bootElementVerify | .lastGaspEnd .. | .v2gtpRx .. | .v2gtpTx .. | .canDmaCopy .. | .outDelayExpiry | .doubleFaultReset
    | .entryCheckpoint .. | .wakeRestreamDone .. | .watchdogExpiry | .housekeepingRound .. | .pylonCommandDone | .faultReport .. =>
      t.units = s.units
    | _ => True := by
  cases c with
  | registerWrite m a n v =>
    simp only [exec, execRegisterWrite] at h
    split at h
    · cases h
    · exact units_of_next h (busWrite_units hs m _ n _)
  | vinFailure | gndLoss => exact units_of_next h (failVin_units hs _)
  | vbatLoss => exact vbatLoss_units hs h
  | deviceReset | doubleFaultReset | watchdogExpiry =>
    refine units_of_next h ?_
    split
    · exact warmReset_units hs _
    · rfl
  | sectionStreamed => exact sectionStreamed_units hs h
  | lastGaspEnd => exact lastGaspEnd_units hs h
  | v2gtpTx => exact v2gtpTx_units h
  | outDelayExpiry =>
    refine units_of_next h ?_
    have hd : s.outDelayEnd.units = s.units := State.outDelayEnd_units s
    split
    · exact (shutOff_units (hd.trans hs)).trans hd
    · rfl
  | entryCheckpoint => exact entryCheckpoint_units hs h
  | wakeRestreamDone => exact wakeRestreamDone_units hs h
  | housekeepingRound => exact housekeepingRound_units hs h
  | faultReport => exact units_of_next h ((State.report_units _ _ _ _ _ _).trans (eccFound_units _ _))
  | pllLock | ramInitDone | bootElementVerify | v2gtpRx | canDmaCopy | pylonCommandDone =>
    refine units_of_next h ?_
    repeat' split
    all_goals simp [rxPayload_units]
  | _ => trivial

/-- Whatever the command, a whole device keeps its units. -/
theorem exec_units {c : Instr} (h : exec c s = .next t) : t.units = s.units := by
  cases c with
  | imageCommit | avgExpWrite | arcCommitGo | arcMoveGo | meterSnapshotGo | mcalGo | timeCorrectionGo | calendarLoad
  | calendarCancel | recordAck | saveRequest | archiveGo | softwareStop | safetyOutputRequest | faultClearKey | faultClear
  | armPiers | disarmPiers | stateRequest | padRelease | watchdogEnable | watchdogKick | throttleNow | lifecycleDeploy
  | shedDisable | phsShedWrite | phaseFaultClear | spanResumeWrite | spanLoopPrbsWrite | mgmtRequestGo | grdCaptureArm | grdCalGo
  | grdPairWrite | sessionStart | sessionStop | sessionRecordRequest | stayBlockEnWrite | stayFwInputWrite | stayLimWrite
  | premoteWrite | outletEnWrite | chargeLoopKick | canEnable | canTxRequest | canTxCancel | canRxAck | canRecover
  | trestleCommand | trestleFaultClear | contestBitWrite | firmwareReset => exact registerCommands_units hs h
  | randomBytes | hash | aesGcm | keyGenerate | blobLoad | slotClear | keyPresent | devidKeys | sign | verify | keyAgreement
  | kemDecapsulate | kemEncapsulate | attestationReport => exact pylonCommands_units h
  | registerWrite | vinFailure | gndLoss | vbatLoss | deviceReset | pllLock | sectionStreamed | ramInitDone | bootElementVerify
  | lastGaspEnd | v2gtpRx | v2gtpTx | canDmaCopy | outDelayExpiry | doubleFaultReset | entryCheckpoint | wakeRestreamDone
  | watchdogExpiry | housekeepingRound | pylonCommandDone | faultReport => exact storingCommands_units hs h
  | rcRead => exact rcRead_units h
  | forbiddenRead => exact forbiddenRead_units h
  | canFrameTxEnd => exact canFrameTxEnd_units h
  | wakeEvent => exact wakeEvent_units h
  | rtcAlarm => exact rtcAlarm_units h
  | canWake => exact canWake_units h
  | cwyTransactionGrant freed requests =>
    rw [exec_cwyTransactionGrant] at h
    exact units_of_next h ((State.showFlight_units _).trans ((grants_units _ _).trans (cwyAsked_units s freed requests)))
  | bringupRetry | weldCheckEnd | matched | matchTimeout | contestDetect | contestRelease | contestTimeout | grdTrigger
  | grdGroupStart | grdConversionResult | mcalWindowEnd | recordBufferEntry | periodicSave | slacMatch | hpgpFrameAttempt
  | hpgpAck | hpgpFrameRx | canFrameRx | hostFrameRx | prstPress =>
    refine units_of_next h ?_
    repeat' split
    all_goals simp
  | vinGood | pierDownFrameAccept | recordSigned | saveComplete | imcHalfEnd | pilotMeasurement | elementVerify | regionWithdraw
  | keyAuthorisation =>
    refine units_of_next h ?_
    dsimp only
    repeat' split
    all_goals simp
  | _ => exact units_of_next h (by simp)

end

/-- Settles O59: a command keeps the numbers of units, and so does an edge of the idle Truss. -/
theorem shapeIsKept : Obligations.ShapeIsKept := by
  intro s t hs h
  rw [shaped_iff_units] at hs ⊢
  unfold step at h
  split at h
  next c rest _ => exact (exec_units (s := { s with pending := rest }) hs h).trans hs
  · have hidle : s.idle.units = s.units := by
      unfold State.idle
      split
      · exact State.clockEdge_units s
      · rfl
    exact (units_of_next h hidle).trans hs

end Sys2Proof.Machine
